-- ==== Sys2Proof/Word.lean ====
section
/-! DEFINITION. The word types, the shape of sparse tables and of quads. -/

namespace Sys2Proof

/-- A 32-bit register word (R8). -/
abbrev Word := BitVec 32

/-- A byte of Caldera, of host memory or of a port frame. -/
abbrev Byte := BitVec 8

/-- A sparse table by number: entries with strictly rising keys, none equal to
what an unlisted key reads as. The operations are in Machine/SMap.lean. -/
abbrev SMap (α : Type) := List (Nat × α)

/-- Four lanes, lane 0 first (R70). -/
structure Quad (α : Type) where
  l0 : α
  l1 : α
  l2 : α
  l3 : α
  deriving DecidableEq, Repr

end Sys2Proof
end

