-- ==== Sys2Proof/Syntax.lean ====
section
/-! DEFINITION. The commands of the block, one per row of the spec's table of operations and events. -/

namespace Sys2Proof

/-- The reads of one fuse word at start-up (R619): copy A and copy B, each at the low and the high margin, with the parity
bit in bit 32. -/
structure FuseRead where
  word : Fin 128
  al : BitVec 33
  ah : BitVec 33
  bl : BitVec 33
  bh : BitVec 33
  deriving DecidableEq, Repr

/-- The commands: one constructor per row of spec/opcode_table.json, in the table's order. -/
inductive Instr where
  /-- REGISTER_WRITE (R13): A BAR0 write to a register that has no row of its own sets or clears fields by access type, and is discarded at an unaligned or empty offset. -/
  | registerWrite (off : Fin 4194304) (v : BitVec 32)
  /-- READ_CLEAR (R15): A read of a register with RC fields returns their values and then clears them to 0. -/
  | readClear (off : Fin 4194304)
  /-- LOW_HALF_READ (R10): A read of the low half of a 64-bit register pair latches the high half for every BAR0 path. -/
  | lowHalfRead (off : Fin 4194304)
  /-- CROSSING_DELIVERY (R17): A four-phase crossing delivers one offered word to its destination domain, exactly once and in order. -/
  | crossingDelivery (src : Fin 26) (dst : Fin 26)
  /-- FLOOR_CREDIT (R28): Every 256th FAB cycle, each class P1 to P5 without a credit earns one floor credit at each bank. -/
  | floorCredit
  /-- GRANT_DECISION (R30): A bank arbiter decides the next access by strict priority with floor grants. -/
  | grantDecision (b : Fin 64)
  /-- BANK_GRANT (R30): A decided access begins at its Caldera bank and occupies the bank for 8 or 16 FAB cycles. -/
  | bankGrant (b : Fin 64)
  /-- OUTBOUND_PORT_GRANT (R33): The PCIe outbound port grants a request by strict priority, with a P3 or P4 grant after 16 consecutive P1 or P2 grants. -/
  | outboundPortGrant
  /-- D0_TICK (R53): The D0 generator emits tick k and runs the tick-boundary sequence. -/
  | d0Tick
  /-- TICK_RECEIPT (R53): A cluster's engine receives tick k, applies pending swaps if it is idle, and starts its tick program. -/
  | tickReceipt (e : Fin 32)
  /-- SOURCE_EVENT (R44): A D0 source event arrives and is used or ignored for the period estimate and phase correction. -/
  | sourceEvent (src : Fin 12) (refs : BitVec 32)
  /-- SRC_LOST (R46): No used source event within 1.5 nominal periods puts D0 into flywheel operation and sets SRC_LOST. -/
  | srcLost
  /-- DM_SOURCE_EVENT (R48): A D1 or D2 source event is compared with the nearest tick of its domain, and SLIP is set if the offset exceeds half a D0 period. -/
  | dmSourceEvent (m : Fin 2)
  /-- TICK_CTRL_WRITE (R63): A write to CLK.TICK_CTRLn is applied, or ignored with CFG_REJ set. -/
  | tickCtrlWrite (n : Fin 3) (v : BitVec 32)
  /-- SIDX_LO_READ (R67): A read of CLK.SIDX_LO returns the sample index and latches SIDX_HI and SIDX_PHASE. -/
  | sidxLoRead
  /-- NOP (R164): The engine issues a NOP instruction. -/
  | nop (e : Fin 32)
  /-- RPT (R152): The next instruction is executed CNT + 1 times. -/
  | rpt (e : Fin 32)
  /-- END (R155): END ends the tick program or the tail program. -/
  | endProgram (e : Fin 32)
  /-- MAC (R125): A quad multiply-accumulate under the named sharing mode. -/
  | mac (e : Fin 32)
  /-- TAP4 (R127): A multiply-accumulate with its X operand at a delay-line tap or through An with a move. -/
  | tap4 (e : Fin 32)
  /-- MOVA (R129): A quad move out of an accumulator with shift, dither, truncation and saturation. -/
  | mova (e : Fin 32)
  /-- MOVAL (R129): A move of one accumulator lane into a G register. -/
  | moval (e : Fin 32)
  /-- MOVST (R129): A quad accumulator move stored to near memory. -/
  | movst (e : Fin 32)
  /-- MOVF (R131): A quad accumulator move stored to Caldera as a far store. -/
  | movf (e : Fin 32)
  /-- LDA (R129): An accumulator quad is loaded from a quad register, or zeroed. -/
  | lda (e : Fin 32)
  /-- ARAW (R130): A raw move of a part of an accumulator lane to or from a G register. -/
  | araw (e : Fin 32)
  /-- AACC (R129): Accumulator-to-accumulator add, subtract or set. -/
  | aacc (e : Fin 32)
  /-- QOP (R132): A lane-wise integer operation on quad registers. -/
  | qop (e : Fin 32)
  /-- QXF (R133): A quad transfer operation. -/
  | qxf (e : Fin 32)
  /-- SEL (R134): A lane-wise predicate select. -/
  | sel (e : Fin 32)
  /-- PCMP (R135): A lane-wise comparison that sets a predicate register. -/
  | pcmp (e : Fin 32)
  /-- PSET (R136): A predicate register is set by the selected operation. -/
  | pset (e : Fin 32)
  /-- CHW (R145): A quad is written and stamped to a chain port. -/
  | chw (e : Fin 32)
  /-- CHR (R146): A chain port is read, with CHAIN_EARLY set when no write is yet visible. -/
  | chr (e : Fin 32)
  /-- LDQ (R137): A quad load from near memory. -/
  | ldq (e : Fin 32)
  /-- LDG (R137): A scalar load into a G register. -/
  | ldg (e : Fin 32)
  /-- STQ (R137): A quad store posted to the write queue. -/
  | stq (e : Fin 32)
  /-- STG (R137): A scalar store posted as one write-queue entry. -/
  | stg (e : Fin 32)
  /-- GOP (R147): A scalar integer operation on G registers. -/
  | gop (e : Fin 32)
  /-- LDI (R148): An immediate is loaded into a G, A, M, L or B register. -/
  | ldi (e : Fin 32)
  /-- MVS (R149): A special register is copied to or from a G register. -/
  | mvs (e : Fin 32)
  /-- AADR (R150): An address register is post-modified without a memory access. -/
  | aadr (e : Fin 32)
  /-- FLGC (R151): The FLG bits selected by MASK are cleared. -/
  | flgc (e : Fin 32)
  /-- BR (R156): A conditional branch in a tail program. -/
  | br (e : Fin 32)
  /-- DBNZ (R157): Gs is decremented, with a branch if the result is not zero. -/
  | dbnz (e : Fin 32)
  /-- FLD (R139): A far quad load is issued to a far-return register. -/
  | fld (e : Fin 32)
  /-- FLDW (R139): A far scalar load is issued to a far-return register. -/
  | fldw (e : Fin 32)
  /-- FST (R139): A far quad store is posted to the far-store queue. -/
  | fst (e : Fin 32)
  /-- FSTW (R139): A far scalar store is posted to the far-store queue. -/
  | fstw (e : Fin 32)
  /-- WRITE_QUEUE_RETIRE (R96): At the end of an engine cycle, the write queue retires up to two entries into free slots. -/
  | writeQueueRetire (e : Fin 32)
  /-- FAR_RETURN_ARRIVAL (R142): Far load data arrives and is written to its far-return register, with POISON or LINE_LATE set as needed. -/
  | farReturnArrival (e : Fin 32)
  /-- FAR_STORE_TAKEN (R174): Once far-store queue entries leave, an instruction held for room posts its store and continues. -/
  | farStoreTaken (e : Fin 32)
  /-- ILLEGAL_WORD (R161): A fetched illegal word is not executed, is recorded in ENG.ILL_STAT, and faults its segment or ends its tail. -/
  | illegalWord (e : Fin 32)
  /-- SEGMENT_ENTRY (R184): The segment's 4 switch cycles save and load frames and clear the quad, accumulator and far-return registers. -/
  | segmentEntry (e : Fin 32)
  /-- BUDGET_CUT (R188): A segment whose elapsed count reaches BUDGET issues nothing more and is cut. -/
  | budgetCut (e : Fin 32)
  /-- ENGINE_PORT_READ (R204): The route matrix reads frozen engine output ports once every engine has received the tick, or treats a late engine as torn. -/
  | enginePortRead (late : BitVec 32)
  /-- DLD_W0_WRITE (R105): A write to DLDn_W0 completes the staging copy, which then waits for the next tick. -/
  | dldW0Write (e : Fin 32) (n : Fin 64) (v : BitVec 32)
  /-- SWAP_PBANK (R209): Setting SWAP_PBANK requests a program-bank swap. -/
  | swapPbank (e : Fin 32)
  /-- SWAP_STAB (R209): Setting SWAP_STAB requests a segment-table swap. -/
  | swapStab (e : Fin 32)
  /-- CLUSTER_RESET (R211): A cluster reset restores every ENG register of the cluster and discards its queued far stores and loads. -/
  | clusterReset (c : Fin 8)
  /-- RES_ASSIGN (R724): A resource ASSIGN command assigns a range of unassigned items to a context. -/
  | resAssign
  /-- RES_RELEASE (R724): A resource RELEASE command releases a range of unused items of a context. -/
  | resRelease
  /-- CSET_W0_WRITE (R214): A write to FAB.CSETn W0 completes the staging copy, which is checked and applied or refused. -/
  | csetW0Write (n : Fin 1024) (v : BitVec 32)
  /-- CBIND_WRITE (R215): A write to ENG.CBINDn sets APPLIED to 0, and the binding takes effect at the segment's next entry. -/
  | cbindWrite (e : Fin 32) (n : Fin 16) (v : BitVec 32)
  /-- COEF_WRITE (R218): The COEF_WRITE descriptor copies quads from host memory into a set's shadow page. -/
  | coefWrite (c : Fin 512) (q : BitVec 32) (data : List (BitVec 128))
  /-- COEF_DELTA (R219): The COEF_DELTA descriptor applies a delta list to the shadow if the base generation matches. -/
  | coefDelta (c : Fin 512) (q : BitVec 32) (list : List (BitVec 192))
  /-- SHADOW_WRITE_COMPLETE (R218): A shadow write completes: SHADOW_GEN takes new_gen, DIRTY is set, and a flip follows if there is no group. -/
  | shadowWriteComplete (c : Fin 512) (q : BitVec 32) (fail : Fin 3)
  /-- RESYNC_START (R223): Once every bound engine has left the old page, the copy of the new active page into the shadow begins. -/
  | resyncStart (n : Fin 1024)
  /-- RESYNC_COMPLETE (R223): The resync copy ends, RESYNC clears, and waiting coefficient descriptors run. -/
  | resyncComplete (n : Fin 1024)
  /-- COMMIT (R229): The COMMIT descriptor names a group and a due time, NEXT or AT. -/
  | commit (c : Fin 512) (q : BitVec 32)
  /-- COMMIT_ARM (R229): Keeper's K1 task arms an accepted COMMIT and fixes its due index. -/
  | commitArm (c : Fin 512) (q : BitVec 32)
  /-- COMMIT_DISCARD (R234): A COMMIT with DISCARD empties the group without applying it. -/
  | commitDiscard (c : Fin 512) (q : BitVec 32)
  /-- CASCADE_COMMIT (R239): A COMMIT with CASC arms the master group in DECIDING and sends ARM to each named follower. -/
  | cascadeCommit (c : Fin 512) (q : BitVec 32)
  /-- CASCADE_DECISION (R241): At the decision point, the master decides GO, ABORT or postponement. -/
  | cascadeDecision (g : Fin 64)
  /-- GAIN_SET (R249): The GAIN_SET descriptor restarts a ramp towards a target. -/
  | gainSet (c : Fin 512) (q : BitVec 32)
  /-- CANCEL (R380): The CANCEL descriptor cancels its target if the target has not yet won its grant. -/
  | cancel (c : Fin 512) (q : BitVec 32)
  /-- TILE_ASSIGN (R270): A tile ASSIGN command makes a range of FREE tiles ASSIGNED to a context. -/
  | tileAssign
  /-- TILE_RELEASE (R270): A tile RELEASE command frees a context's unused tiles, and RETIRING tiles become RETIRED. -/
  | tileRelease
  /-- TRANSLATION_WALK (R280): On a translation cache miss, a mover reads the three window-table levels from host memory. -/
  | translationWalk (c : Fin 512) (page : BitVec 36) (e1 : BitVec 64) (e2 : BitVec 64) (e3 : BitVec 64) (err : Fin 4)
  /-- WINDOW_SET_ROOT (R279): WINDOW_SET sets the root, enables translation and invalidates the context's cached translations. -/
  | windowSetRoot (c : Fin 512) (q : BitVec 32)
  /-- WINDOW_SET_DISABLE (R279): WINDOW_SET disables translation for the context. -/
  | windowSetDisable (c : Fin 512) (q : BitVec 32)
  /-- WINDOW_SET_INVALIDATE (R279): WINDOW_SET invalidates the cached translations of a range. -/
  | windowSetInvalidate (c : Fin 512) (q : BitVec 32)
  /-- PREFETCH_CHUNK_ISSUE (R286): A read-band chunk becomes ready at its issue tick and is queued for a mover. -/
  | prefetchChunkIssue (n : Fin 4096) (u0 : Int)
  /-- WRITEBACK_CHUNK_ISSUE (R286): A write-band chunk becomes ready for write-back once its last frame leaves the write band. -/
  | writebackChunkIssue (n : Fin 4096)
  /-- CHUNK_COMPLETION (R288): A prefetched chunk becomes valid at the grant of its last staging write. -/
  | chunkCompletion (m : Fin 64) (data : List (BitVec 8)) (fail : Fin 3)
  /-- CHUNK_DEADLINE (R290): A read chunk not valid at its deadline misses it, and a write chunk not issued is dropped. -/
  | chunkDeadline (n : Fin 4096) (u0 : Int) (read : Bool)
  /-- LINE_MAP (R292): The LINE_MAP descriptor sets up a host line and picks its activation tick. -/
  | lineMap (c : Fin 512) (q : BitVec 32)
  /-- LINE_ACTIVATION (R292): At tick A the line's descriptor becomes active, and LINE_MAP completes OK or LINE_LATE. -/
  | lineActivation (n : Fin 4096)
  /-- UNMAP (R293): A LINE_MAP with UNMAP disables the descriptor at the next tick and drains the write band. -/
  | unmap (c : Fin 512) (q : BitVec 32)
  /-- UNMAP_COMPLETE (R293): After every write-back has been issued, the line is unmapped and its staging buffer released. -/
  | unmapComplete (n : Fin 4096)
  /-- SINTER_REGION_START (R299): Sinter starts saving and marching the next Caldera region at its pace interval. -/
  | sinterRegionStart (bad : BitVec 32)
  /-- SINTER_RESTORE (R298): Sinter restores a region from its holding buffer and clears the redirects. -/
  | sinterRestore
  /-- LM_SINTER_REGION_START (R300): Every LM_PACE ticks, Sinter starts testing a local-memory region of an engine. -/
  | lmSinterRegionStart (e : Fin 32) (bad : BitVec 64)
  /-- ROW_REPAIR (R304): Sinter moves a FAILING row to a free spare row, and the row becomes REPAIRED. -/
  | rowRepair (br : Fin 65536)
  /-- PROTECTED_TILE_RELOCATION (R306): Keeper copies a failing PROTECTED tile to a RESERVE tile and records the remap. -/
  | protectedTileRelocation (t : Fin 16384)
  /-- LM_REGION_REPAIR (R308): A failing local region moves to a spare region, or its owners are notified. -/
  | lmRegionRepair (e : Fin 32) (r : Fin 1024)
  /-- ROUTE_SET (R320): The ROUTE_SET descriptor creates or retargets a crosspoint after its checks. -/
  | routeSet (c : Fin 512) (q : BitVec 32)
  /-- ROUTE_CLEAR (R322): The ROUTE_CLEAR descriptor ramps a crosspoint to 0 and marks it CLEARING. -/
  | routeClear (c : Fin 512) (q : BitVec 32)
  /-- BRG_WRITE (R337): A write to ROUTE.BRGb configures or enables a bridge, or is ignored with REJ. -/
  | brgWrite (b : Fin 64) (v : BitVec 32)
  /-- ASRC_CFG0_WRITE (R339): A write to ASRC.CHn_CFG0 enables or configures a channel, or is refused with REJ. -/
  | asrcCfg0Write (n : Fin 256) (v : BitVec 32)
  /-- ASRC_LOCK (R340): A TRACK channel becomes LOCKED once its ratio estimate has been stable for 50 ms. -/
  | asrcLock (n : Fin 256) (ratio : BitVec 32)
  /-- ASRC_UNLOCK (R340): A channel loses lock, fades out and sets UNLOCK. -/
  | asrcUnlock (n : Fin 256)
  /-- CTX_ENABLE (R375): The ENABLE command restores a context from its journal and replays completions. -/
  | ctxEnable (c : Fin 512) (fresh : Bool) (a : BitVec 1024) (b : BitVec 1024) (host : BitVec 160) (tags : List (BitVec 64)) (ok : Bool)
  /-- CTX_DISABLE (R378): The DISABLE command stops fetching, cancels ungranted descriptors and finishes granted ones. -/
  | ctxDisable (c : Fin 512)
  /-- CTX_RESET (R378): The RESET command clears a disabled context's journal, crosspoints, streams, lines and staged members. -/
  | ctxReset (c : Fin 512)
  /-- COMMAND_PRODUCER (R359): The command producer doorbell advances the producer index, or is ignored with DB_BAD. -/
  | commandProducer (f : Fin 64) (page : Fin 512) (v : BitVec 32)
  /-- COMPLETION_CONSUMER (R359): The completion consumer doorbell advances the consumer index, or is ignored with DB_BAD. -/
  | completionConsumer (f : Fin 64) (page : Fin 512) (v : BitVec 32) (evCons : BitVec 32)
  /-- STREAM_RING_PRODUCER (R397): A stream ring producer doorbell advances that ring's producer index. -/
  | streamRingProducer (f : Fin 64) (page : Fin 512) (n : Fin 16) (v : BitVec 32) (es : List (BitVec 128))
  /-- DESCRIPTOR_ACCEPT (R364): The ring unit fetches the descriptor at C and accepts it by writing C + 1 to the journal and the mirror. -/
  | descriptorAccept (c : Fin 512) (d : Option (BitVec 512))
  /-- FETCH_RETRY (R366): A failed descriptor fetch is repeated every 1 ms. -/
  | fetchRetry (c : Fin 512)
  /-- DESCRIPTOR_FINISH (R368): A descriptor's effect is complete, and its executor writes the effect mark to the journal and the mirror. -/
  | descriptorFinish (c : Fin 512) (q : BitVec 32)
  /-- COMPLETION_RECORD (R368): A completion record is issued once every earlier record has been issued. -/
  | completionRecord (c : Fin 512)
  /-- COMPLETION_INTERRUPT (R372): An MSI-X message is sent on CP_VEC once the count or the holdoff condition is met. -/
  | completionInterrupt (c : Fin 512)
  /-- NOP_DESC (R361): The NOP descriptor has no effect. -/
  | nopDesc (c : Fin 512) (q : BitVec 32)
  /-- FENCE (R367): The FENCE descriptor starts after every earlier descriptor has completed. -/
  | fence (c : Fin 512) (q : BitVec 32)
  /-- PROG_LOAD (R160): The PROG_LOAD descriptor checks and loads an image into the inactive program bank and descriptors. -/
  | progLoad (c : Fin 512) (q : BitVec 32) (image : List (BitVec 64)) (dlds : List (BitVec 128)) (fail : Fin 3)
  /-- SEG_MAP (R206): The SEG_MAP descriptor writes standby segment entries, bindings and set records after checks. -/
  | segMap (c : Fin 512) (q : BitVec 32) (images : List (BitVec 256)) (binds : List (BitVec 32)) (sets : List (BitVec 128)) (fail : Fin 3)
  /-- PROG_SWAP (R207): The PROG_SWAP descriptor requests a bank or table swap on the named engines. -/
  | progSwap (c : Fin 512) (q : BitVec 32)
  /-- STREAM_OPEN (R393): The STREAM_OPEN descriptor opens a stream ring and assigns it a stream number. -/
  | streamOpen (c : Fin 512) (q : BitVec 32)
  /-- STREAM_CLOSE (R399): The STREAM_CLOSE descriptor fades or flushes the stream, cancels its entries and frees its number. -/
  | streamClose (c : Fin 512) (q : BitVec 32)
  /-- DMA_COPY (R412): The DMA_COPY descriptor moves bytes between host windows and Caldera, optionally computing a check value. -/
  | dmaCopy (c : Fin 512) (q : BitVec 32)
  /-- CRC_CHECK (R413): The CRC_CHECK descriptor computes a check value over a range and compares it. -/
  | crcCheck (c : Fin 512) (q : BitVec 32)
  /-- QUERY_CONTEXT (R381): QUERY 0x0 writes the context's status and error registers. -/
  | queryContext (c : Fin 512) (q : BitVec 32)
  /-- QUERY_GROUPS (R381): QUERY 0x1 writes the registers of the context's enabled commit groups. -/
  | queryGroups (c : Fin 512) (q : BitVec 32)
  /-- QUERY_SEGMENTS (R381): QUERY 0x2 writes the status of the context's active segment entries. -/
  | querySegments (c : Fin 512) (q : BitVec 32)
  /-- QUERY_LINES (R381): QUERY 0x3 writes the status of the context's mapped host lines. -/
  | queryLines (c : Fin 512) (q : BitVec 32)
  /-- POWER_SET (R673): The POWER_SET descriptor powers islands up or down after its mode and live-allocation checks. -/
  | powerSet (c : Fin 512) (q : BitVec 32)
  /-- TEST_RUN (R687): The TEST_RUN descriptor starts a self-test on the PF path. -/
  | testRun (c : Fin 512) (q : BitVec 32)
  /-- CASC_SEND (R556): The CASC_SEND descriptor sends a DATA message to a proxy context on another device. -/
  | cascSend (c : Fin 512) (q : BitVec 32) (payload : List (BitVec 32)) (fail : Fin 3)
  /-- LANTERN_WRITE (R386): Every 1 ms, and at each mode change, Keeper writes the Lantern page. -/
  | lanternWrite
  /-- MOVER_TAKE (R390): A free mover takes the next work item in deadline order. -/
  | moverTake
  /-- BUCKET_REFILL (R400): Every 1,024 FAB cycles each token bucket is refilled. -/
  | bucketRefill
  /-- STREAM_ENTRY_COMPLETE (R398): A stream ring entry completes, and its status, the stream table and an optional interrupt are written in order. -/
  | streamEntryComplete (r : Fin 4096)
  /-- BURST_COMPLETION (R408): The host data of a stream burst arrives, or the burst ends on a failure. -/
  | burstCompletion (m : Fin 64) (data : List (BitVec 8)) (fail : Fin 3)
  /-- DMA_RESET (R414): DMA.CTRL.RESET empties the movers and cache and resumes every transfer from its checkpoint. -/
  | dmaReset
  /-- FLR (R439): A Function Level Reset of a function stops its contexts, streams and lines and resets its configuration. -/
  | flr (f : Fin 64) (dc : BitVec 16) (dc2 : BitVec 16) (lc : BitVec 16)
  /-- PF_FLR (R440): An FLR of the PF also clears VF Enable and resets every enabled VF. -/
  | pfFlr
  /-- VF_ENABLE_CLEAR (R429): Clearing VF Enable performs an FLR of every enabled VF. -/
  | vfEnableClear (ctl : BitVec 16) (num : BitVec 16)
  /-- HOT_RESET (R441): A hot reset or link disable acts as a PF FLR and resets the PCIe controller and configuration space. -/
  | hotReset
  /-- DL_DOWN (R441): A loss of the data link layer acts as a hot reset. -/
  | dlDown
  /-- LINK_RETRAIN (R441): A link retrain keeps the data link up, and requests wait. -/
  | linkRetrain (speed : Fin 4) (width : Fin 3)
  /-- PERST_N_RELEASE (R442): The release of PERST_N is a full device reset and starts start-up. -/
  | perstNRelease (straps : BitVec 6)
  /-- PERST_N_ASSERT (R715): A PERST_N low longer than the glitch filter holds the device in full reset. -/
  | perstNAssert
  /-- COMPLETION_TIMEOUT (R437): A read whose completion has not arrived within the timeout fails and is logged. -/
  | completionTimeout (f : Fin 64) (tag : Fin 1024)
  /-- LATE_COMPLETION (R437): A completion for a timed-out or unknown tag is discarded and logged as Unexpected Completion. -/
  | lateCompletion (f : Fin 64) (tag : Fin 1024)
  /-- MSIX_UNMASK (R431): Clearing an MSI-X mask with the pending bit set sends one message and clears the bit. -/
  | msixUnmask (f : Fin 64) (n : Option (Fin 1024)) (addr : BitVec 64) (data : BitVec 32) (ctl : BitVec 32)
  /-- L1_ENTRY (R443): After L1_IDLE µs without traffic, the device requests L1. -/
  | l1Entry (sub : Fin 3)
  /-- PCIE_LTR_WRITE (R444): A write to TOP.PCIE_LTR with LTR_AUTO = 0 sends that LTR value once. -/
  | pcieLtrWrite (v : BitVec 32)
  /-- PME (R446): An enabled wake edge in D3hot sets PME_Status and sends PM_PME. -/
  | pme (src : Fin 5)
  /-- RX_FRAME_COMPLETE (R453): A receive frame completes and enters the receiver's buffer. -/
  | rxFrameComplete (src : Fin 23) (ws : List (BitVec 32))
  /-- TX_FRAME_START (R454): A transmit frame starts with the released values, or repeats or drops values and counts a slip. -/
  | txFrameStart (p : Fin 8)
  /-- FRAMING_ERROR (R462): A slave port sees an inconsistent or missing frame sync, sets FRAME_ERR and starves. -/
  | framingError (n : Fin 6)
  /-- MISSING_BIT_CLOCK (R463): A slave port with no bit-clock edge for 1 µs discards its partial frame and enters STARVED. -/
  | missingBitClock (n : Fin 6)
  /-- TDM_CFG0_WRITE (R461): A write to PORT.TDMn_CFG0 configures or enables the port, or is refused with REJ. -/
  | tdmCfg0Write (n : Fin 6) (v : BitVec 32)
  /-- PDM_MIC_WRITE (R469): A write to PORT.PDM_MICm enables a decimator, or is refused with REJ. -/
  | pdmMicWrite (m : Fin 16) (v : BitVec 32)
  /-- SETTLE_END (R470): After SETTLE ms a microphone begins its fade in. -/
  | settleEnd (m : Fin 16)
  /-- SPDIF_FRAME (R474): The S/PDIF receiver decodes a frame. -/
  | spdifFrame (ok : Bool) (rate : Fin 16) (a : BitVec 24) (b : BitVec 24) (va : Bool) (vb : Bool) (ca : Bool) (cb : Bool) (ea : Bool) (eb : Bool) (z : Bool)
  /-- CS_A0_READ (R476): A read of CS_A0 latches the 12 channel-status words. -/
  | csA0Read
  /-- CS5_WRITE (R480): A write to a transmitter's CS5 completes the staged channel status, which waits for the next block. -/
  | cs5Write (t : Fin 2) (v : BitVec 32)
  /-- START (R483): The DAC START command moves a channel from CLAMP into RAMP_UP. -/
  | dacStart (d : Fin 8)
  /-- STOP (R483): The DAC STOP command fades a channel and ramps it down to CLAMP. -/
  | dacStop (d : Fin 8)
  /-- MUTE (R483): The DAC MUTE command fades a running channel to MUTED. -/
  | dacMute (d : Fin 8)
  /-- UNMUTE (R483): The DAC UNMUTE command returns a MUTED channel to RUN. -/
  | dacUnmute (d : Fin 8)
  /-- RAMP_END (R482): A DAC ramp between zero and mid scale ends, and the channel enters RUN or CLAMP. -/
  | rampEnd (d : Fin 8)
  /-- FADE_END (R483): A FADING channel's fade ends, and it enters MUTED or RAMP_DOWN. -/
  | fadeEnd (d : Fin 8)
  /-- STRB_LOST (R484): A group on an LDS pin sees no edge for 2 D0 periods, and its running channels fade to MUTED. -/
  | strbLost (g : Fin 2)
  /-- AUTO_UNMUTE (R483): After a group fault has been clear for 2 strobe periods, MUTED channels return to RUN. -/
  | autoUnmute (g : Fin 2)
  /-- SHORT (R483): A DAC that reaches its output current limit goes to MUTED at once. -/
  | dacShort (d : Fin 8)
  /-- LDS_STROBE (R486): An LDS edge loads the most recently released codes into the group. -/
  | ldsStrobe (g : Fin 2) (rising : Bool)
  /-- REFCLK_LOST (R495): REFCLK stopping for more than 1 µs sets LOST, and the holdover synthesiser stops. -/
  | refclkLost
  /-- PLL_ENABLE (R504): Setting EN in a PLL control register starts acquisition, or is refused with REJ. -/
  | pllEnable (x : Fin 2) (v : BitVec 32)
  /-- PLL_DISABLE (R504): Clearing EN stops the PLL, or is refused with REJ while the PLL is in use. -/
  | pllDisable (x : Fin 2) (v : BitVec 32)
  /-- RELOCK (R501): RELOCK closes a HELD PLL's loop with reduced bandwidth. -/
  | relock (x : Fin 2)
  /-- ACQUIRE_END (R501): After tACQ the PLL enters CLOSED and arms its slip detector. -/
  | acquireEnd (x : Fin 3)
  /-- PLL_SLIP (R500): A slip in CLOSED opens the loop, enters HELD and sets LOSS. -/
  | pllSlip (x : Fin 3)
  /-- FERR_MEASURE (R505): Every 100 µs the PLL-S frequency error is measured, and FAR is set past 3 %. -/
  | ferrMeasure (ferr : BitVec 8)
  /-- CKO_COMMIT (R513): CKO_COMMIT.GO applies the staged clock-output settings now or at the next tick, or is refused. -/
  | ckoCommit (v : BitVec 32)
  /-- CKO_PHASE_ADD (R516): A write of ADD queues phase steps for a clock output. -/
  | ckoPhaseAdd (n : Fin 4) (add : BitVec 12)
  /-- HOLD_MEAS_WINDOW (R518): At the end of each window of 4,096 D0 ticks, the REFCLK count is written to HOLD_MEAS. -/
  | holdMeasWindow (count : BitVec 24)
  /-- K0_RUN (R519): Keeper's K0 supervision reads the clock flags and acts on losses. -/
  | k0Run
  /-- FRAME_ORIGINATE (R531): The master originates a link frame with header, audio, copied slots and CRCs. -/
  | frameOriginate (idle : Fin 17)
  /-- FRAME_RECEIVE (R535): A device receives a link frame, takes its words and forwards or consumes it. -/
  | frameReceive (ws : List (BitVec 32)) (gap : Nat) (lag : BitVec 16)
  /-- FRAME_LOSS (R539): No SOF within 21.5 µs, or a bad header CRC, counts a lost frame. -/
  | frameLoss
  /-- BEACON_EVENT (R536): TALIGN - δ after a good SOF, a follower uses the beacon as its D0 source event. -/
  | beaconEvent
  /-- VOID (R554): A VOID message is removed by its destination. -/
  | ngxVoid (src : Fin 16)
  /-- ACK (R551): An ACK message acknowledges sequenced messages cumulatively. -/
  | ngxAck (src : Fin 16)
  /-- DATA (R559): A DATA message delivers a descriptor or a completion consumer doorbell to a proxy context. -/
  | ngxData (src : Fin 16) (evCons : BitVec 32)
  /-- REG_RD (R558): A follower performs a relayed BAR0 read and replies REG_RSP. -/
  | regRd (src : Fin 16)
  /-- REG_WR (R558): A follower performs a relayed BAR0 write and replies REG_RSP. -/
  | regWr (src : Fin 16)
  /-- REG_RSP (R558): The master places the relay reply in RR_DATA and clears BUSY. -/
  | regRsp (src : Fin 16)
  /-- ARM (R240): A follower's K1 task arms its group IN_DOUBT and replies ARMED or REFUSED. -/
  | arm (src : Fin 16)
  /-- ARMED (R241): The master records a follower's ARMED reply for the decision. -/
  | armed (src : Fin 16)
  /-- REFUSED (R241): A follower's REFUSED reply makes the master decide ABORT. -/
  | ngxRefused (src : Fin 16)
  /-- APPLIED (R244): The master records a follower's APPLIED report and completes the COMMIT once all have reported. -/
  | applied (src : Fin 16)
  /-- NOT_ARMED (R244): A NOT_ARMED reply marks the follower in MISS_DEV, and the COMMIT completes ABANDONED. -/
  | notArmed (src : Fin 16)
  /-- ABORT_ACK (R557): The master records a follower's acknowledgement of an ABORT. -/
  | abortAck (src : Fin 16)
  /-- HRD (R561): The master issues a follower's relayed host read and replies HRD_CPL. -/
  | hrd (src : Fin 16) (cpl : Option (Fin 65536)) (data : List (BitVec 8)) (fail : Fin 3)
  /-- HRD_CPL (R561): A follower receives the data or failure of a relayed host read. -/
  | hrdCpl (tag : Fin 65536)
  /-- HWR (R561): The master issues a follower's relayed host write, joining it with the next HWR if MORE is set. -/
  | hwr (src : Fin 16)
  /-- HIRQ (R561): The master sends an MSI-X message on behalf of a follower. -/
  | hirq (src : Fin 16)
  /-- BOOT_REQ (R562): The master's Keeper answers a follower's boot request with BOOT_DATA from its protected copy. -/
  | bootReq (src : Fin 16)
  /-- BOOT_DATA (R562): A follower's ROM receives a piece of the Keeper image. -/
  | bootData (src : Fin 16)
  /-- MESSAGE_REPEAT (R552): A message not acknowledged within 4 frames is sent again with later ones. -/
  | messageRepeat (p : Fin 16)
  /-- RR_READ (R558): RR_CMD.GO with WR = 0 sends a REG_RD to a follower. -/
  | rrRead
  /-- RR_WRITE (R558): RR_CMD.GO with WR = 1 sends a REG_WR to a follower. -/
  | rrWrite
  /-- RELAY_READ_TIMEOUT (R561): A follower treats a relayed read with no HRD_CPL within 50 ms as timed out. -/
  | relayReadTimeout (tag : Fin 65536)
  /-- HEARTBEAT (R576): Keeper writes TOP.RLF_HB, and Relief restarts its miss timer. -/
  | heartbeat
  /-- HEARTBEAT_MISS (R576): 10.2 ms without a heartbeat counts a miss, and the second consecutive miss starts a recovery. -/
  | heartbeatMiss
  /-- KEEPER_FAULT (R577): A Keeper fatal exception, double fault or lockup starts a recovery. -/
  | keeperFault
  /-- TCM_UE (R577): An uncorrectable TCM error read by Keeper starts a recovery. -/
  | tcmUe
  /-- KEEPER_POISON (R586): Keeper requests a restart through its fatal line after a poisoned control-structure read. -/
  | keeperPoison
  /-- RESTART (R592): The PF writes RLF_CTRL.RESTART to request a recovery. -/
  | restart
  /-- FIRST_HEARTBEAT_TIMEOUT (R577): No first heartbeat within 100 ms of Keeper's release starts a recovery. -/
  | firstHeartbeatTimeout
  /-- COPY_CHECK (R580): The copy and hash of the protected firmware end, and Keeper is released or reloaded from flash. -/
  | copyCheck
  /-- FLASH_RELOAD (R580): The flash reload of Keeper completes, or fails into MINIMAL. -/
  | flashReload (readable : Bool)
  /-- REBUILD_END (R582): Keeper ends its rebuild, fetching resumes, and the mode leaves RECOVERY. -/
  | rebuildEnd
  /-- TMR_VOTE (R587): Each FAB cycle Relief votes its triplicated state and corrects a single differing copy. -/
  | tmrVote (bad : Fin 4)
  /-- BOOT_ROM_START (R597): The boot ROM detects REFCLK, starts PLL-S, reads the fuses and sets VERIFY. -/
  | bootRomStart (freq : Fin 4) (odd : List FuseRead)
  /-- BOOT_SOURCE_TRY (R601): The ROM tries the next boot source and slot. -/
  | bootSourceTry (quad : Bool)
  /-- STAGE1_START (R603): A verified stage-1 image is measured into DAYMARK0 and started. -/
  | stage1Start
  /-- KEEPER_IMAGE_START (R597): A verified Keeper image is written to the protected copy, measured and started. -/
  | keeperImageStart
  /-- KEEPER_INIT_DONE (R597): Keeper applies trims and the repair log, enables the heartbeat watch and sets IDLE. -/
  | keeperInitDone
  /-- BOOT_WATCHDOG (R598): The 900 ms boot watchdog expires and performs an internal boot reset. -/
  | bootWatchdog (straps : BitVec 6)
  /-- AWAIT_IMAGE_TIMEOUT (R601): After 2 s in AWAIT_IMAGE, the ROM tries the next source in the order. -/
  | awaitImageTimeout
  /-- CASCADE_UP_TIMEOUT (R601): The cascade source fails if the NGX receive side is not UP within 200 ms. -/
  | cascadeUpTimeout
  /-- DM_EXTEND (R607): SEC.DM_CMD.GO extends DAYMARK6 or DAYMARK7 with the 48 written bytes. -/
  | dmExtend (sel : Bool)
  /-- UPD (R612): BOOT.UPD checks the inactive slot and makes it active if both images pass. -/
  | upd (slot : Fin 2)
  /-- ARB_RECORD (R615): BOOT.ARB with TARGET RECORD raises the anti-rollback record floors. -/
  | arbRecord
  /-- ARB_FUSE (R615): BOOT.ARB with TARGET FUSE programs the fuse floors. -/
  | arbFuse
  /-- MBX_BOOT (R616): A mailbox GO with BOOT verifies the bundle and continues start-up from it. -/
  | mbxBoot (data : List (BitVec 8)) (ok : Bool)
  /-- MBX_WRITE (R616): A mailbox GO with WRITE verifies the bundle and programs it into the inactive slot. -/
  | mbxWrite (data : List (BitVec 8)) (ok : Bool)
  /-- FAIL_CLR (R617): BOOT.CTRL.FAIL_CLR sets the start count to 0. -/
  | failClr
  /-- OTP_PGM (R624): BOOT.OTP_PGM programs fuse bits, or is refused. -/
  | otpPgm (w : Fin 128)
  /-- NEW_CHAL (R625): SEC.DBG_REQ.NEW_CHAL issues a new debug challenge. -/
  | newChal (level : Fin 4) (key : Fin 4)
  /-- DBG_GO (R626): SEC.DBG_CMD.GO submits a debug response for checking. -/
  | dbgGo (jtag : Bool)
  /-- DBG_CLOSE (R628): SEC.DBG_CMD.CLOSE ends the debug session. -/
  | dbgClose
  /-- CHALLENGE_EXPIRY (R625): A debug challenge expires 60 s after it was issued. -/
  | challengeExpiry
  /-- FIXED_TIME_RESULT (R629): At its fixed time, a privileged operation's result appears and its busy flag clears. -/
  | fixedTimeResult (op : Fin 5)
  /-- MIN_PATH_ENABLE (R618): Setting MIN_CFG.EN in MINIMAL starts the ROM audio path. -/
  | minPathEnable
  /-- READ (R644): The PF flash READ command reads bytes into the command buffer. -/
  | flashRead (len : Fin 256)
  /-- PROGRAM (R644): The PF flash PROGRAM command programs a page from the buffer and verifies it. -/
  | flashProgram (len : Fin 256)
  /-- ERASE4K (R644): The PF flash ERASE4K command erases a 4 KiB block. -/
  | erase4k
  /-- ERASE64K (R644): The PF flash ERASE64K command erases a 64 KiB block. -/
  | erase64k
  /-- STATUS (R644): The PF flash STATUS command reads the flash status byte. -/
  | flashStatus
  /-- FLASH_READY (R640): The flash busy bit clears, the command ends with optional verification, and waiting reads are served. -/
  | flashReady (st : BitVec 8)
  /-- FLASH_TIMEOUT (R642): The busy bit stays set past PP_MS or ERASE_MS, and the command ends TIMEOUT. -/
  | flashTimeout
  /-- COMBINE_FLUSH (R640): 100 µs without a write flushes Keeper's combine buffer as one page program. -/
  | combineFlush
  /-- WINDOW_READ (R639): A Keeper read of the flash window is served from the cache or fills a line. -/
  | windowRead (a : Fin 67108864)
  /-- WINDOW_WRITE (R640): A Keeper write into the flash window gathers in the combine buffer. -/
  | windowWrite (a : Fin 67108864) (v : BitVec 8)
  /-- SPIM_RELEASE (R647): In a recovery, the SPI master controller leaves reset 10 µs after the Keeper core is held. -/
  | spimRelease
  /-- BAD_FRAME (R649): A bad SPI slave request frame is ignored and reported in the next reply. -/
  | badFrame (m3 : Bool)
  /-- REPEAT (R654): A request with the same alive and CRC as the last executed one is not executed, and REPEAT is set. -/
  | repeat (m3 : Bool) (alive : BitVec 4) (crc : BitVec 16)
  /-- PING (R650): The SPI slave PING request has no effect and produces a reply. -/
  | ping (m3 : Bool) (op : BitVec 8) (alive : BitVec 4) (addr : BitVec 32) (data : List (BitVec 8))
  /-- SPIS_REG_RD (R652): The SPI slave REG_RD request reads a BAR0 register if RD_EN allows it. -/
  | spisRegRd (m3 : Bool) (alive : BitVec 4) (addr : BitVec 32)
  /-- SPIS_REG_WR (R652): The SPI slave REG_WR request writes a BAR0 register if WR_EN allows it. -/
  | spisRegWr (m3 : Bool) (alive : BitVec 4) (addr : BitVec 32) (v : BitVec 32)
  /-- MBX_OPEN (R651): MBX_OPEN erases the inactive flash slot. -/
  | mbxOpen (m3 : Bool) (alive : BitVec 4) (addr : BitVec 32)
  /-- MBX_WR (R651): MBX_WR programs data into the inactive slot. -/
  | mbxWr (m3 : Bool) (alive : BitVec 4) (addr : BitVec 32) (data : List (BitVec 8))
  /-- MBX_GO (R651): MBX_GO runs the mailbox check of the inactive slot, or only makes it active with WRITE. -/
  | mbxGo (m3 : Bool) (alive : BitVec 4) (addr : BitVec 32) (len : BitVec 32) (flags : BitVec 8)
  /-- MBX_STAT (R650): MBX_STAT returns BOOT.MBX_STAT in the reply. -/
  | mbxStat (m3 : Bool) (alive : BitVec 4) (addr : BitVec 32)
  /-- SPIS_TEST_RUN (R690): The SPI slave TEST_RUN request with len 4 starts a self-test. -/
  | spisTestRun (m3 : Bool) (alive : BitVec 4) (addr : BitVec 32) (t : BitVec 8)
  /-- SPIS_TEST_STAT (R690): The SPI slave TEST_RUN request with len 0 returns TEST.STAT. -/
  | spisTestStat (m3 : Bool) (alive : BitVec 4) (addr : BitVec 32)
  /-- SPIS_RESULT_READ (R690): The SPI slave TEST_RUN request with len 1 returns 4 bytes of the last result record. -/
  | spisResultRead (m3 : Bool) (alive : BitVec 4) (addr : BitVec 32) (b : BitVec 8)
  /-- REPLY_READ (R653): A reply-read transaction sends the held reply, a status byte, or the foghorn pattern. -/
  | replyRead (m3 : Bool) (ready : Bool) (n : Nat)
  /-- MODE_CMD_RUN (R664): TOP.MODE_CMD with OP RUN starts D0 from IDLE, pending the epoch tick. -/
  | modeCmdRun
  /-- MODE_CMD_IDLE (R665): TOP.MODE_CMD with OP IDLE stops D0 after the tick in progress, or cancels a pending RUN. -/
  | modeCmdIdle
  /-- RAIL_GOOD (R667): The rails of an up-sequence step become good, and the next enable rises. -/
  | railGood (straps : BitVec 6)
  /-- SEQUENCE_TIMEOUT (R667): Rails not good within tGOOD drop every enable and count a retry. -/
  | sequenceTimeout
  /-- SEQUENCE_RETRY (R667): After tRETRY, the up sequence runs again. -/
  | sequenceRetry
  /-- DOWN_STEP (R667): Each tDN in the down sequence, the next enable falls. -/
  | downStep
  /-- BROWN_OUT (R668): A monitored rail dips for more than 10 µs, is treated as a power loss, and sets BROWN. -/
  | brownOut
  /-- VDD_AON_APPLIED (R668): VDD_AON rises, and after 1 ms the up sequence and start-up run. -/
  | vddAonApplied
  /-- DORM_GO (R669): PWR.DORM_CTRL.GO takes the device from IDLE into DORMANT, or is refused. -/
  | dormGo
  /-- WAKE_SOURCE (R670): An enabled wake input leaves DORMANT, records WAKE_SRC and runs the up sequence. -/
  | wakeSource (src : Fin 6)
  /-- WAKE_TIMER (R670): WAKE_TMR seconds after DORMANT entry, the timer wakes the device. -/
  | wakeTimer
  /-- WAKE_N_RELEASE (R671): WAKE_N is released after a PERST_N cycle or after 2 s. -/
  | wakeNRelease
  /-- ISLAND_POWER_DOWN (R675): A GOING island finishes its drain steps and becomes OFF. -/
  | islandPowerDown (isl : Fin 14)
  /-- ISLAND_POWER_UP (R676): An island powers up into its defined state, and parked transfers resume. -/
  | islandPowerUp (isl : Fin 14)
  /-- CAP_SAMPLE (R678): Every 100 µs the cap controller samples temperature and power. -/
  | capSample (temps : List (BitVec 16)) (est : Fin 4096)
  /-- PROG_MEM (R682): The PROG_MEM test runs March C- over both program banks of every engine. -/
  | testProgMem (rows : List (Fin 32))
  /-- LOCAL_MEM (R682): The LOCAL_MEM test runs March C- over every local memory. -/
  | testLocalMem (bad : List (Fin 32768))
  /-- CALDERA (R682): The CALDERA test runs March C- over every FREE tile and spare row. -/
  | testCaldera (bad : List (Fin 65536))
  /-- ENGINE_LOGIC (R682): The ENGINE_LOGIC test runs logic BIST of the clusters into per-cluster MISRs. -/
  | testEngineLogic (misrs : List (BitVec 64))
  /-- FABRIC_LOGIC (R682): The FABRIC_LOGIC test runs logic BIST of the fabric datapaths into one MISR. -/
  | testFabricLogic (misr : BitVec 64)
  /-- ALL (R682): The ALL test runs tests 0x1 to 0x5 in order. -/
  | testAll (rows : List (Fin 32)) (lm : List (Fin 32768)) (cal : List (Fin 65536)) (misrs : List (BitVec 64)) (misr : BitVec 64)
  /-- TEST_COMPLETE (R687): A test ends, touched clusters are reset, the result is written and the mode returns to IDLE. -/
  | testComplete
  /-- TAP_RESET (R692): TRST_N low or five TMS-high cycles reset the TAP and select IDCODE. -/
  | tapReset (straps : BitVec 6)
  /-- EXTEST (R693): The EXTEST instruction drives and captures the balls and holds the islands in reset. -/
  | tapExtest (pins : BitVec 412) (load : BitVec 412) (straps : BitVec 6)
  /-- SAMPLE (R692): The SAMPLE/PRELOAD instruction is selected. -/
  | tapSample (pins : BitVec 412) (load : BitVec 412) (straps : BitVec 6)
  /-- IDCODE (R692): The IDCODE instruction selects the 32-bit identification register. -/
  | tapIdcode (straps : BitVec 6)
  /-- CLAMP (R692): The CLAMP instruction holds the balls from the boundary register with bypass selected. -/
  | tapClamp (straps : BitVec 6)
  /-- HIGHZ (R692): The HIGHZ instruction puts every chain output at high impedance. -/
  | tapHighz (straps : BitVec 6)
  /-- TEST_START (R692): Update-DR of TEST_START starts the shifted-in test byte on the JTAG path. -/
  | tapTestStart (t : BitVec 8) (straps : BitVec 6)
  /-- TEST_STAT (R692): The TEST_STAT instruction captures TEST.STAT. -/
  | tapTestStat (straps : BitVec 6)
  /-- TEST_RESULT (R692): The TEST_RESULT instruction shifts out the last result record. -/
  | tapTestResult (straps : BitVec 6)
  /-- DBG_ACCESS (R692): The DBG_ACCESS instruction gives JTAG access to the SEC debug registers. -/
  | tapDbgAccess (what : Fin 6) (off : Fin 524288) (v : BitVec 32) (straps : BitVec 6)
  /-- INT_SCAN (R694): The INT_SCAN instruction opens the internal scan chains if allowed, otherwise acts as BYPASS. -/
  | tapIntScan (straps : BitVec 6)
  /-- BYPASS (R692): The BYPASS instruction selects the 1-bit bypass register. -/
  | tapBypass (straps : BitVec 6)
  /-- REFCLK_RETURN (R522): REFCLK toggles again after a loss, PRESENT returns and the holdover synthesiser resumes emitting events. -/
  | refclkReturn
  /-- SYMBOL_LOCK (R529): An NGX receive side gains symbol lock on K28.5 on both lanes with deskew and moves from DOWN to ALIGN. -/
  | symbolLock
  /-- MISSING_PREAMBLES (R474): When three consecutive frames are missing, the S/PDIF receiver loses lock and sets UNLOCK. -/
  | missingPreambles
  /-- LINK_UP (R425): The PCIe link first trains after a reset or link down, and the PF personality is chosen from the mode at that moment. -/
  | linkUp (speed : Fin 4) (width : Fin 3) (rev : Bool) (pol : BitVec 4)
  /-- POWER_STATE_CHANGE (R445): A configuration write moves a function between D0 and D3hot, and its requests and walks stop or resume. -/
  | powerStateChange (v : BitVec 16)
  /-- BUS_MASTER_ENABLE (R445): A configuration write changes a function's Bus Master Enable, and its requests wait or resume. -/
  | busMasterEnable (f : Fin 64) (v : BitVec 16)
  /-- COPY_PIECE_COMPLETION (R412): The host data of a DMA_COPY or CRC_CHECK piece arrives or fails, is written or checked, and the checkpoint advances. -/
  | copyPieceCompletion (m : Fin 64) (data : List (BitVec 8)) (fail : Fin 3)
  /-- TAG_REUSE (R437): Twice the completion timeout after a read timed out, its tag becomes free, and a request waiting for a tag may issue. -/
  | tagReuse (f : Fin 64) (tag : Fin 1024)
  deriving DecidableEq, Repr

end Sys2Proof
end

