-- ==== Sys2Proof/Config.lean ====
section
/-! DEFINITION. What the spec leaves open: free values. Each is an opaque constant, applied to the counter `freeCtr` of
the state (or to the operands it depends on), so that nothing can be proved of its value (log entry 4). -/

namespace Sys2Proof

/-- A value that the spec leaves undefined or does not state. The argument is the state's free-value counter. -/
opaque Config.freeValue : Nat → BitVec 64

/-- What an unwritten memory word reads as once its contents are undefined (R676): memory kind, epoch, address. -/
opaque Config.freeMem : Nat → Nat → Nat → BitVec 64

/-- The output of a filter whose coefficients the spec does not give (rate bridges R334, ASRC R341, PDM decimators
R468), as a function of the filter's kind and its input history, newest first. -/
opaque Config.filterOut : Nat → List Word → Word

end Sys2Proof
end

