-- ==== Sys2Proof/Machine/Bits.lean ====
section
/-! DEFINITION. Bit fields, sign extension, byte order and quad lanes. -/

namespace Sys2Proof

/-- Bits [lo+len-1:lo] of a word, as a number. -/
def fld {n : Nat} (w : BitVec n) (lo len : Nat) : Nat := w.toNat / 2 ^ lo % 2 ^ len

/-- Bit `b` of a word. -/
def bit {n : Nat} (w : BitVec n) (b : Nat) : Bool := w.getLsbD b

/-- A mask of `len` ones at bit `lo`. -/
def fmask (lo len : Nat) : Word := BitVec.ofNat 32 ((2 ^ len - 1) * 2 ^ lo)

/-- `w` with bits [lo+len-1:lo] set to `v` modulo 2^len. -/
def putFld (w : Word) (lo len v : Nat) : Word :=
  (w &&& ~~~(fmask lo len)) ||| BitVec.ofNat 32 (v % 2 ^ len * 2 ^ lo)

/-- `w` with bit `b` set to `v`. -/
def putBit (w : Word) (b : Nat) (v : Bool) : Word := putFld w b 1 (if v then 1 else 0)

/-- A two's complement field of `n` bits read as an integer. -/
def sextNat (v n : Nat) : Int := if v % 2 ^ n < 2 ^ (n - 1) then (v % 2 ^ n : Nat) else (v % 2 ^ n : Nat) - (2 ^ n : Nat)

/-- Clamp an integer between two bounds. -/
def clampI (lo hi v : Int) : Int := if v < lo then lo else if hi < v then hi else v

/-- Clamp a number between two bounds. -/
def clampN (lo hi v : Nat) : Nat := if v < lo then lo else if hi < v then hi else v

/-- Little-endian bytes of a number (R7). -/
def leBytes : Nat → Nat → List Byte
  | 0, _ => []
  | k + 1, v => BitVec.ofNat 8 v :: leBytes k (v / 256)

/-- The number that little-endian bytes spell (R7). -/
def ofLeBytes : List Byte → Nat
  | [] => 0
  | b :: bs => b.toNat + 256 * ofLeBytes bs

/-- Lane `i` of a quad. -/
def Quad.get {α : Type} (q : Quad α) (i : Nat) : α :=
  match i % 4 with
  | 0 => q.l0
  | 1 => q.l1
  | 2 => q.l2
  | _ => q.l3

/-- A quad with lane `i` replaced. -/
def Quad.set {α : Type} (q : Quad α) (i : Nat) (v : α) : Quad α :=
  match i % 4 with
  | 0 => { q with l0 := v }
  | 1 => { q with l1 := v }
  | 2 => { q with l2 := v }
  | _ => { q with l3 := v }

/-- A quad built lane by lane. -/
def Quad.ofFn {α : Type} (f : Nat → α) : Quad α := ⟨f 0, f 1, f 2, f 3⟩

/-- A quad with one value in every lane. -/
def Quad.all {α : Type} (v : α) : Quad α := ⟨v, v, v, v⟩

def Quad.map {α β : Type} (f : α → β) (q : Quad α) : Quad β := ⟨f q.l0, f q.l1, f q.l2, f q.l3⟩

/-- The lanes whose bit in the lane mask is set are taken from `n`, the others from `o` (R121). -/
def Quad.merge {α : Type} (m : BitVec 4) (o n : Quad α) : Quad α :=
  Quad.ofFn fun i => if m.getLsbD i then n.get i else o.get i

def Quad.toList {α : Type} (q : Quad α) : List α := [q.l0, q.l1, q.l2, q.l3]

/-- Whether any lane satisfies a test. -/
def Quad.any {α : Type} (p : α → Bool) (q : Quad α) : Bool := p q.l0 || p q.l1 || p q.l2 || p q.l3

/-- The 16 bytes of a quad of words, lane 0 first, each lane little-endian. -/
def Quad.toBytes (q : Quad Word) : List Byte := q.toList.flatMap fun w => leBytes 4 w.toNat

/-- The quad that 16 bytes spell. -/
def Quad.ofBytes (b : List Byte) : Quad Word :=
  Quad.ofFn fun i => BitVec.ofNat 32 (ofLeBytes ((b.drop (4 * i)).take 4))

/-- `f 0, f 1, …, f (n-1)` folded over a state. -/
def forN {σ : Type} (n : Nat) (f : Nat → σ → σ) (s : σ) : σ :=
  (List.range n).foldl (fun s i => f i s) s

/-- A list with entry `i` replaced. -/
def setAt {α : Type} : List α → Nat → α → List α
  | [], _, _ => []
  | _ :: l, 0, v => v :: l
  | a :: l, i + 1, v => a :: setAt l i v

end Sys2Proof
end

