-- ==== Sys2Proof/Machine/RegMap.lean ====
section
/-! DEFINITION. The BAR0 register table: one row per register or array of registers, from the register tables of the
chapters. `rw`, `w1c`, `rc`, `act` are the bits of access type RW, W1C, RC and W1S or WO (R13); the other bits are
read-only to software or reserved (R11). -/

namespace Sys2Proof.Machine

/-- A register, or an array of up to three index dimensions of registers, in BAR0. -/
structure RegDesc where
  base : Nat
  n1 : Nat
  s1 : Nat
  n2 : Nat
  s2 : Nat
  rw : Word
  w1c : Word
  rc : Word
  act : Word
  rst : Word

/-- The register table, part 1. -/
def regTable1 : List RegDesc := [
  /- TOP_CHIP_ID -/ ⟨0x000000, 1, 0x0, 1, 0x0, 0x00000000, 0x00000000, 0x00000000, 0x00000000, 0x5120B000⟩,
  /- TOP_MODE -/ ⟨0x000004, 1, 0x0, 1, 0x0, 0x00000000, 0x00000000, 0x00000000, 0x00000000, 0x00000001⟩,
  /- TOP_MODE_CMD -/ ⟨0x000008, 1, 0x0, 1, 0x0, 0x00000003, 0x80000000, 0x00000000, 0x00000004, 0x00000000⟩,
  /- TOP_DARK -/ ⟨0x0000C0, 1, 0x0, 1, 0x0, 0x00000000, 0x000007FF, 0x00000000, 0x00000000, 0x00000000⟩,
  /- TOP_LANTERN_LO -/ ⟨0x000100, 1, 0x0, 1, 0x0, 0xFFFFF000, 0x00000000, 0x00000000, 0x00000000, 0x00000000⟩,
  /- TOP_LANTERN_HI -/ ⟨0x000104, 1, 0x0, 1, 0x0, 0xFFFFFFFF, 0x00000000, 0x00000000, 0x00000000, 0x00000000⟩,
  /- TOP_LANTERN_CTRL -/ ⟨0x000108, 1, 0x0, 1, 0x0, 0x00000001, 0x00000000, 0x00000000, 0x00000000, 0x00000000⟩,
  /- TOP_PCIE_STAT -/ ⟨0x000200, 1, 0x0, 1, 0x0, 0x00000000, 0x00000000, 0x00000000, 0x00000000, 0x00000000⟩,
  /- TOP_PCIE_EVT -/ ⟨0x000204, 1, 0x0, 1, 0x0, 0x00000000, 0x0000000F, 0x00FF0000, 0x00000000, 0x00000000⟩,
  /- TOP_PCIE_FLR_LO -/ ⟨0x000208, 1, 0x0, 1, 0x0, 0x00000000, 0xFFFFFFFF, 0x00000000, 0x00000000, 0x00000000⟩,
  /- TOP_PCIE_FLR_HI -/ ⟨0x00020C, 1, 0x0, 1, 0x0, 0x00000000, 0xFFFFFFFF, 0x00000000, 0x00000000, 0x00000000⟩,
  /- TOP_PCIE_PM -/ ⟨0x000210, 1, 0x0, 1, 0x0, 0x000001FF, 0x00000000, 0x00000000, 0x00000000, 0x00000110⟩,
  /- TOP_PCIE_LTR -/ ⟨0x000214, 1, 0x0, 1, 0x0, 0x00009FFF, 0x00000000, 0x00000000, 0x00000000, 0x00000000⟩,
  /- TOP_RLF_HB -/ ⟨0x000400, 1, 0x0, 1, 0x0, 0x00000000, 0x00000000, 0x00000000, 0x00000000, 0x00000000⟩,
  /- TOP_RLF_CTRL -/ ⟨0x000404, 1, 0x0, 1, 0x0, 0x00000000, 0x80000000, 0x00000000, 0x00000001, 0x00000000⟩,
  /- TOP_RLF_STAT -/ ⟨0x000408, 1, 0x0, 1, 0x0, 0x00000000, 0x00000000, 0x00FF0000, 0x00000000, 0x00000000⟩,
  /- TOP_RLF_CNT -/ ⟨0x00040C, 1, 0x0, 1, 0x0, 0x00000000, 0x00000000, 0x00000000, 0x00000000, 0x00000000⟩,
  /- TOP_MODE_REASON -/ ⟨0x000410, 1, 0x0, 1, 0x0, 0x00000000, 0x00000000, 0x00000000, 0x00000000, 0x00000000⟩,
  /- TOP_RLF_TIME_LO -/ ⟨0x000418, 1, 0x0, 1, 0x0, 0x00000000, 0x00000000, 0x00000000, 0x00000000, 0x00000000⟩,
  /- TOP_RLF_TIME_HI -/ ⟨0x00041C, 1, 0x0, 1, 0x0, 0x00000000, 0x00000000, 0x00000000, 0x00000000, 0x00000000⟩,
  /- TOP_GPIO -/ ⟨0x000600, 24, 0x4, 1, 0x0, 0x0000002F, 0x00000000, 0x00000000, 0x00000000, 0x00000020⟩,
  /- PWR_ISL_STAT -/ ⟨0x010000, 1, 0x0, 1, 0x0, 0x00000000, 0x00000000, 0x00000000, 0x00000000, 0x00000000⟩,
  /- PWR_PS_RESULT -/ ⟨0x010004, 1, 0x0, 1, 0x0, 0x00000000, 0x00000000, 0x00000000, 0x00000000, 0x00000000⟩,
  /- PWR_CAP_CTRL -/ ⟨0x010010, 1, 0x0, 1, 0x0, 0x00FFFF03, 0x80000000, 0x00000000, 0x00000000, 0x005F6401⟩,
  /- PWR_SHED_PRIO -/ ⟨0x010014, 1, 0x0, 1, 0x0, 0x00FFFFFF, 0x00000000, 0x00000000, 0x00000000, 0x00000000⟩,
  /- PWR_PCAP -/ ⟨0x010018, 1, 0x0, 1, 0x0, 0x00000FFF, 0x00000000, 0x00000000, 0x00000000, 0x000002EE⟩,
  /- PWR_CAP_STAT -/ ⟨0x01001C, 1, 0x0, 1, 0x0, 0x00000000, 0x00000400, 0xFF000000, 0x00000000, 0x00000000⟩,
  /- PWR_TEMP -/ ⟨0x010020, 8, 0x4, 1, 0x0, 0x00000000, 0x00000000, 0x00000000, 0x00000000, 0x00000000⟩,
  /- PWR_DORM_CTRL -/ ⟨0x010040, 1, 0x0, 1, 0x0, 0x000001FE, 0x80000000, 0x00000000, 0x00000001, 0x00000106⟩,
  /- PWR_WAKE_TMR -/ ⟨0x010044, 1, 0x0, 1, 0x0, 0x00FFFFFF, 0x00000000, 0x00000000, 0x00000000, 0x00000001⟩,
  /- PWR_WAKE_SRC -/ ⟨0x010048, 1, 0x0, 1, 0x0, 0x00000000, 0x00000000, 0x00000000, 0x00000000, 0x00000008⟩,
  /- PWR_SEQ -/ ⟨0x01004C, 1, 0x0, 1, 0x0, 0x00000000, 0x00000100, 0x000000FF, 0x00000000, 0x00000000⟩,
  /- CLK_REF_STAT -/ ⟨0x020000, 1, 0x0, 1, 0x0, 0x00000000, 0x00000200, 0x00000000, 0x00000000, 0x00000000⟩,
  /- CLK_PLL_CTRL -/ ⟨0x020100, 2, 0x40, 1, 0x0, 0x0000FF05, 0x80000000, 0x00000000, 0x00000002, 0x00000000⟩,
  /- CLK_PLL_NUM -/ ⟨0x020104, 2, 0x40, 1, 0x0, 0x00FFFFFF, 0x00000000, 0x00000000, 0x00000000, 0x00000000⟩,
  /- CLK_PLL_DEN -/ ⟨0x020108, 2, 0x40, 1, 0x0, 0x00FFFFFF, 0x00000000, 0x00000000, 0x00000000, 0x00000000⟩,
  /- CLK_PLL_STAT -/ ⟨0x02010C, 2, 0x40, 1, 0x0, 0x00000000, 0x00000100, 0x00FF0000, 0x00000000, 0x00000000⟩,
  /- CLK_PLL_TRK -/ ⟨0x020110, 2, 0x40, 1, 0x0, 0x00000000, 0x00010000, 0x00000000, 0x00000000, 0x00000000⟩,
  /- CLK_PLLS_STAT -/ ⟨0x02018C, 1, 0x0, 1, 0x0, 0x00000000, 0x00000300, 0x00FF0000, 0x00000000, 0x00000000⟩,
  /- CLK_BAND -/ ⟨0x020200, 16, 0x4, 1, 0x0, 0xBFFFFFFF, 0x00000000, 0x00000000, 0x00000000, 0x00000000⟩,
  /- CLK_HOLD_CTRL -/ ⟨0x020300, 1, 0x0, 1, 0x0, 0x0000FF03, 0x00000000, 0x00000000, 0x00000000, 0x00000A01⟩,
  /- CLK_HOLD_STAT -/ ⟨0x020304, 1, 0x0, 1, 0x0, 0x00000000, 0x00000100, 0xFFFF0000, 0x00000000, 0x00000000⟩,
  /- CLK_HOLD_MEAS -/ ⟨0x020308, 1, 0x0, 1, 0x0, 0x00000000, 0x00000000, 0x00000000, 0x00000000, 0x00000000⟩,
  /- CLK_HOLD_INC_LO -/ ⟨0x020310, 1, 0x0, 1, 0x0, 0xFFFFFFFF, 0x00000000, 0x00000000, 0x00000000, 0x00000000⟩,
  /- CLK_HOLD_INC_HI -/ ⟨0x020314, 1, 0x0, 1, 0x0, 0x0000FFFF, 0x00000000, 0x00000000, 0x00000000, 0x00000000⟩,
  /- CLK_CKO_CFG -/ ⟨0x020400, 4, 0x10, 1, 0x0, 0x003FFFF7, 0x00000000, 0x00000000, 0x00000000, 0x00100100⟩,
  /- CLK_CKO_ACT -/ ⟨0x020404, 4, 0x10, 1, 0x0, 0x00000000, 0x00000000, 0x00000000, 0x00000000, 0x00100100⟩,
  /- CLK_CKO_PHASE -/ ⟨0x020408, 4, 0x10, 1, 0x0, 0x00000000, 0x00000000, 0x00000000, 0x00000FFF, 0x00000000⟩,
  /- CLK_CKO_PAIR -/ ⟨0x020440, 1, 0x0, 1, 0x0, 0x00000003, 0x00000000, 0x00000000, 0x00000000, 0x00000000⟩,
  /- CLK_CKO_COMMIT -/ ⟨0x020444, 1, 0x0, 1, 0x0, 0x00000002, 0x00000200, 0x00000000, 0x00000001, 0x00000000⟩,
  /- CLK_TICK_CTRL -/ ⟨0x020800, 3, 0x20, 1, 0x0, 0x8000F77F, 0x00000000, 0x00000000, 0x00000000, 0x00000000⟩,
  /- CLK_TICK_STAT -/ ⟨0x020804, 3, 0x20, 1, 0x0, 0x00000000, 0x00000700, 0x00000000, 0x00000000, 0x00000000⟩,
  /- CLK_TICK_PERIOD0 -/ ⟨0x020808, 1, 0x0, 1, 0x0, 0x00000000, 0x00000000, 0x00000000, 0x00000000, 0x00000000⟩,
  /- CLK_SIDX_LO -/ ⟨0x020880, 1, 0x0, 1, 0x0, 0x00000000, 0x00000000, 0x00000000, 0x00000000, 0x00000000⟩,
  /- CLK_SIDX_HI -/ ⟨0x020884, 1, 0x0, 1, 0x0, 0x00000000, 0x00000000, 0x00000000, 0x00000000, 0x00000000⟩,
  /- CLK_SIDX_PHASE -/ ⟨0x020888, 1, 0x0, 1, 0x0, 0x00000000, 0x00000000, 0x00000000, 0x00000000, 0x00000000⟩,
  /- CLK_SIDX_START_LO -/ ⟨0x020890, 1, 0x0, 1, 0x0, 0xFFFFFFFF, 0x00000000, 0x00000000, 0x00000000, 0x00000000⟩,
  /- CLK_SIDX_START_HI -/ ⟨0x020894, 1, 0x0, 1, 0x0, 0xFFFFFFFF, 0x00000000, 0x00000000, 0x00000000, 0x00000000⟩,
  /- BOOT_STRAPS -/ ⟨0x030000, 1, 0x0, 1, 0x0, 0x00000000, 0x00000000, 0x00000000, 0x00000000, 0x00000000⟩,
  /- BOOT_STAT -/ ⟨0x030004, 1, 0x0, 1, 0x0, 0x00000000, 0x00000000, 0x00000000, 0x00000000, 0x00000000⟩]

/-- The register table, part 2. -/
def regTable2 : List RegDesc := [
  /- BOOT_CTRL -/ ⟨0x030008, 1, 0x0, 1, 0x0, 0x00000000, 0x00000000, 0x00000000, 0x00000001, 0x00000000⟩,
  /- BOOT_FUSE_STAT -/ ⟨0x030010, 1, 0x0, 1, 0x0, 0x00000000, 0x00000000, 0x00000000, 0x00000000, 0x00000000⟩,
  /- BOOT_FUSE_SEL -/ ⟨0x030014, 1, 0x0, 1, 0x0, 0x0000007F, 0x00000000, 0x00000000, 0x00000000, 0x00000000⟩,
  /- BOOT_FUSE_DATA -/ ⟨0x030018, 1, 0x0, 1, 0x0, 0x00000000, 0x00000000, 0x00000000, 0x00000000, 0x00000000⟩,
  /- BOOT_OTP_PGM -/ ⟨0x030020, 1, 0x0, 1, 0x0, 0x0000007F, 0x00000000, 0x00000000, 0x80000000, 0x00000000⟩,
  /- BOOT_OTP_DATA -/ ⟨0x030024, 1, 0x0, 1, 0x0, 0xFFFFFFFF, 0x00000000, 0x00000000, 0x00000000, 0x00000000⟩,
  /- BOOT_MBX_ADDR_LO -/ ⟨0x030040, 1, 0x0, 1, 0x0, 0xFFFFF000, 0x00000000, 0x00000000, 0x00000000, 0x00000000⟩,
  /- BOOT_MBX_ADDR_HI -/ ⟨0x030044, 1, 0x0, 1, 0x0, 0xFFFFFFFF, 0x00000000, 0x00000000, 0x00000000, 0x00000000⟩,
  /- BOOT_MBX_LEN -/ ⟨0x030048, 1, 0x0, 1, 0x0, 0x003FFFFF, 0x00000000, 0x00000000, 0x00000000, 0x00000000⟩,
  /- BOOT_MBX_CMD -/ ⟨0x03004C, 1, 0x0, 1, 0x0, 0x00000006, 0x00000000, 0x00000000, 0x00000001, 0x00000000⟩,
  /- BOOT_MBX_STAT -/ ⟨0x030050, 1, 0x0, 1, 0x0, 0x00000000, 0x00000000, 0x00000000, 0x00000000, 0x00000000⟩,
  /- BOOT_UPD -/ ⟨0x030060, 1, 0x0, 1, 0x0, 0x00000002, 0x00000000, 0x00000000, 0x00000001, 0x00000000⟩,
  /- BOOT_ARB -/ ⟨0x030064, 1, 0x0, 1, 0x0, 0x00000002, 0x00000000, 0x00000000, 0x00000001, 0x00000000⟩,
  /- BOOT_MIN_RING_LO -/ ⟨0x030080, 1, 0x0, 1, 0x0, 0xFFFFF000, 0x00000000, 0x00000000, 0x00000000, 0x00000000⟩,
  /- BOOT_MIN_RING_HI -/ ⟨0x030084, 1, 0x0, 1, 0x0, 0xFFFFFFFF, 0x00000000, 0x00000000, 0x00000000, 0x00000000⟩,
  /- BOOT_MIN_CFG -/ ⟨0x030088, 1, 0x0, 1, 0x0, 0x8000001F, 0x00000000, 0x00000000, 0x00000000, 0x00000004⟩,
  /- BOOT_MIN_CONS -/ ⟨0x03008C, 1, 0x0, 1, 0x0, 0x00000000, 0x00000000, 0x00000000, 0x00000000, 0x00000000⟩,
  /- BOOT_MIN_STAT -/ ⟨0x030090, 1, 0x0, 1, 0x0, 0x00000000, 0x00000000, 0xFFFF0000, 0x00000000, 0x00000000⟩,
  /- SEC_DAYMARK -/ ⟨0x040100, 8, 0x40, 12, 0x4, 0x00000000, 0x00000000, 0x00000000, 0x00000000, 0x00000000⟩,
  /- SEC_FW_DIGEST -/ ⟨0x040300, 12, 0x4, 1, 0x0, 0x00000000, 0x00000000, 0x00000000, 0x00000000, 0x00000000⟩,
  /- SEC_DM_EXT -/ ⟨0x040340, 12, 0x4, 1, 0x0, 0x00000000, 0x00000000, 0x00000000, 0xFFFFFFFF, 0x00000000⟩,
  /- SEC_DM_CMD -/ ⟨0x040370, 1, 0x0, 1, 0x0, 0x00000002, 0x00000000, 0x00000000, 0x00000001, 0x00000000⟩,
  /- SEC_MLOG_SEL -/ ⟨0x040380, 1, 0x0, 1, 0x0, 0x0000003F, 0x00000000, 0x00000000, 0x00000000, 0x00000000⟩,
  /- SEC_MLOG_W -/ ⟨0x040384, 13, 0x4, 1, 0x0, 0x00000000, 0x00000000, 0x00000000, 0x00000000, 0x00000000⟩,
  /- SEC_DBG_CHAL -/ ⟨0x040400, 12, 0x4, 1, 0x0, 0x00000000, 0x00000000, 0x00000000, 0x00000000, 0x00000000⟩,
  /- SEC_DBG_REQ -/ ⟨0x040430, 1, 0x0, 1, 0x0, 0x00000033, 0x00000000, 0x00000000, 0x00000100, 0x00000000⟩,
  /- SEC_DBG_RESP -/ ⟨0x040440, 48, 0x4, 1, 0x0, 0x00000000, 0x00000000, 0x00000000, 0xFFFFFFFF, 0x00000000⟩,
  /- SEC_DBG_CMD -/ ⟨0x040500, 1, 0x0, 1, 0x0, 0x00000000, 0x00000000, 0x00000000, 0x00000003, 0x00000000⟩,
  /- SEC_DBG_STAT -/ ⟨0x040504, 1, 0x0, 1, 0x0, 0x00000000, 0x00000000, 0x00000000, 0x00000000, 0x00000000⟩,
  /- SEC_AUDIT_SEL -/ ⟨0x040600, 1, 0x0, 1, 0x0, 0x0000003F, 0x00000000, 0x00000000, 0x00000000, 0x00000000⟩,
  /- SEC_AUDIT_W -/ ⟨0x040604, 3, 0x4, 1, 0x0, 0x00000000, 0x00000000, 0x00000000, 0x00000000, 0x00000000⟩,
  /- SEC_AUDIT_CNT -/ ⟨0x040610, 1, 0x0, 1, 0x0, 0x00000000, 0x00000000, 0x00000000, 0x00000000, 0x00000000⟩,
  /- CTXT_CTRL -/ ⟨0x050000, 512, 0x40, 1, 0x0, 0x000003FF, 0x00000000, 0x00000000, 0x00000000, 0x00000000⟩,
  /- CTXT_CMD -/ ⟨0x050004, 512, 0x40, 1, 0x0, 0x00000007, 0x40000000, 0x00000000, 0x80000000, 0x00000000⟩,
  /- CTXT_CR_LO -/ ⟨0x050008, 512, 0x40, 1, 0x0, 0xFFFFF000, 0x00000000, 0x00000000, 0x00000000, 0x00000000⟩,
  /- CTXT_CR_HI -/ ⟨0x05000C, 512, 0x40, 1, 0x0, 0xFFFFFFFF, 0x00000000, 0x00000000, 0x00000000, 0x00000000⟩,
  /- CTXT_CP_LO -/ ⟨0x050010, 512, 0x40, 1, 0x0, 0xFFFFF000, 0x00000000, 0x00000000, 0x00000000, 0x00000000⟩,
  /- CTXT_CP_HI -/ ⟨0x050014, 512, 0x40, 1, 0x0, 0xFFFFFFFF, 0x00000000, 0x00000000, 0x00000000, 0x00000000⟩,
  /- CTXT_SR_LO -/ ⟨0x050018, 512, 0x40, 1, 0x0, 0xFFFFF000, 0x00000000, 0x00000000, 0x00000000, 0x00000000⟩,
  /- CTXT_SR_HI -/ ⟨0x05001C, 512, 0x40, 1, 0x0, 0xFFFFFFFF, 0x00000000, 0x00000000, 0x00000000, 0x00000000⟩,
  /- CTXT_SIZE -/ ⟨0x050020, 512, 0x40, 1, 0x0, 0x00001F1F, 0x00000000, 0x00000000, 0x00000000, 0x00000504⟩,
  /- CTXT_IRQ -/ ⟨0x050024, 512, 0x40, 1, 0x0, 0x03FF03FF, 0x00000000, 0x00000000, 0x00000000, 0x00000000⟩,
  /- CTXT_MOD -/ ⟨0x050028, 512, 0x40, 1, 0x0, 0x00FFFFFF, 0x00000000, 0x00000000, 0x00000000, 0x00010000⟩,
  /- CTXT_STAT -/ ⟨0x05002C, 512, 0x40, 1, 0x0, 0x00000000, 0x00000000, 0x00000000, 0x00000000, 0x00000000⟩,
  /- CTXT_ERR -/ ⟨0x050030, 512, 0x40, 1, 0x0, 0x00000000, 0x0000003F, 0x00000000, 0x00000000, 0x00000000⟩,
  /- FAB_WAIT_HWM -/ ⟨0x060000, 6, 0x4, 1, 0x0, 0x00000000, 0x00000000, 0x0000FFFF, 0x00000000, 0x00000000⟩,
  /- FAB_COMMIT_STAT -/ ⟨0x060800, 1, 0x0, 1, 0x0, 0x00000000, 0x00000000, 0x000000FF, 0x00000000, 0x00000000⟩,
  /- FAB_RES_RANGE -/ ⟨0x060900, 1, 0x0, 1, 0x0, 0xFFFFFFFF, 0x00000000, 0x00000000, 0x00000000, 0x00000000⟩,
  /- FAB_RES_CMD -/ ⟨0x060904, 1, 0x0, 1, 0x0, 0x001F77FF, 0x40000000, 0x00000000, 0x80000000, 0x00000000⟩,
  /- FAB_RES_SEL -/ ⟨0x060908, 1, 0x0, 1, 0x0, 0x00FFFFFF, 0x00000000, 0x00000000, 0x00000000, 0x00000000⟩,
  /- FAB_RES_INFO -/ ⟨0x06090C, 1, 0x0, 1, 0x0, 0x00000000, 0x00000000, 0x00000000, 0x00000000, 0x00000000⟩,
  /- FAB_CG_CTRL -/ ⟨0x061000, 64, 0x20, 1, 0x0, 0x800003FF, 0x00000000, 0x00000000, 0x00000000, 0x00000000⟩,
  /- FAB_CG_DUE_LO -/ ⟨0x061008, 64, 0x20, 1, 0x0, 0x00000000, 0x00000000, 0x00000000, 0x00000000, 0x00000000⟩,
  /- FAB_CG_DUE_HI -/ ⟨0x06100C, 64, 0x20, 1, 0x0, 0x00000000, 0x00000000, 0x00000000, 0x00000000, 0x00000000⟩,
  /- FAB_CG_APPLIED_LO -/ ⟨0x061010, 64, 0x20, 1, 0x0, 0x00000000, 0x00000000, 0x00000000, 0x00000000, 0x00000000⟩,
  /- FAB_CG_APPLIED_HI -/ ⟨0x061014, 64, 0x20, 1, 0x0, 0x00000000, 0x00000000, 0x00000000, 0x00000000, 0x00000000⟩,
  /- FAB_CG_STAT -/ ⟨0x061018, 64, 0x20, 1, 0x0, 0x00000000, 0x0007FFFF, 0x00000000, 0x00000000, 0x00000000⟩,
  /- FAB_CG_MISS -/ ⟨0x06101C, 64, 0x20, 1, 0x0, 0x00000000, 0x0000FFFF, 0x00000000, 0x00000000, 0x00000000⟩,
  /- FAB_RAMP_W0 -/ ⟨0x062000, 256, 0x10, 1, 0x0, 0x8003FFFF, 0x00000000, 0x00000000, 0x00000000, 0x00000000⟩,
  /- FAB_RAMP_W1 -/ ⟨0x062004, 256, 0x10, 1, 0x0, 0x00000000, 0x00000000, 0x00000000, 0x00000000, 0x00000000⟩]

/-- The register table, part 3. -/
def regTable3 : List RegDesc := [
  /- FAB_RAMP_W2 -/ ⟨0x062008, 256, 0x10, 1, 0x0, 0x00000000, 0x00000000, 0x00000000, 0x00000000, 0x00000000⟩,
  /- FAB_RAMP_W3 -/ ⟨0x06200C, 256, 0x10, 1, 0x0, 0x00000000, 0x00000000, 0x00000000, 0x00000000, 0x00000000⟩,
  /- FAB_CSET_W0 -/ ⟨0x064000, 1024, 0x10, 1, 0x0, 0x9F7FFFFF, 0x00000000, 0x00000000, 0x00000000, 0x00000000⟩,
  /- FAB_CSET_W1 -/ ⟨0x064004, 1024, 0x10, 1, 0x0, 0x003FFFFF, 0x00000000, 0x00000000, 0x00000000, 0x00000000⟩,
  /- FAB_CSET_W2 -/ ⟨0x064008, 1024, 0x10, 1, 0x0, 0x01FFFFFF, 0x10000000, 0x00000000, 0x00000000, 0x00000000⟩,
  /- FAB_CSET_W3 -/ ⟨0x06400C, 1024, 0x10, 1, 0x0, 0x00000000, 0x00000000, 0x00000000, 0x00000000, 0x00000000⟩,
  /- CALD_ECC_STAT -/ ⟨0x070000, 1, 0x0, 1, 0x0, 0x00000000, 0x00030000, 0x0000FFFF, 0x00000000, 0x00000000⟩,
  /- CALD_UE_INFO -/ ⟨0x070004, 1, 0x0, 1, 0x0, 0x00000000, 0x00000000, 0x00000000, 0x00000000, 0x00000000⟩,
  /- CALD_ECC_CTRL -/ ⟨0x070008, 1, 0x0, 1, 0x0, 0x000000FF, 0x00000000, 0x00000000, 0x00000000, 0x00000010⟩,
  /- CALD_CAP -/ ⟨0x070010, 1, 0x0, 1, 0x0, 0x00000000, 0x00000000, 0x00000000, 0x00000000, 0x00003E98⟩,
  /- CALD_TILE_RANGE -/ ⟨0x070020, 1, 0x0, 1, 0x0, 0x3FFF3FFF, 0x00000000, 0x00000000, 0x00000000, 0x00000000⟩,
  /- CALD_TILE_CMD -/ ⟨0x070024, 1, 0x0, 1, 0x0, 0x000007FF, 0x40000000, 0x00000000, 0x80000000, 0x00000000⟩,
  /- CALD_TILE_SEL -/ ⟨0x070028, 1, 0x0, 1, 0x0, 0x00003FFF, 0x00000000, 0x00000000, 0x00000000, 0x00000000⟩,
  /- CALD_TILE_INFO -/ ⟨0x07002C, 1, 0x0, 1, 0x0, 0x00000000, 0x00000000, 0x00000000, 0x00000000, 0x00000400⟩,
  /- CALD_ROW_SEL -/ ⟨0x070030, 1, 0x0, 1, 0x0, 0x0000FFFF, 0x00000000, 0x00000000, 0x00000000, 0x00000000⟩,
  /- CALD_ROW_INFO -/ ⟨0x070034, 1, 0x0, 1, 0x0, 0x00000000, 0x00000000, 0x00000000, 0x00000000, 0x00000000⟩,
  /- CALD_SINTER_CTRL -/ ⟨0x070040, 1, 0x0, 1, 0x0, 0x00FFFF03, 0x00000000, 0x00000000, 0x00000000, 0x00207800⟩,
  /- CALD_SINTER_STAT -/ ⟨0x070044, 1, 0x0, 1, 0x0, 0x00000000, 0x00000000, 0x00000000, 0x00000000, 0x00000000⟩,
  /- CALD_SINTER_FAIL -/ ⟨0x070048, 1, 0x0, 1, 0x0, 0x00000000, 0x00000000, 0x0000FFFF, 0x00000000, 0x00000000⟩,
  /- CALD_PROT_REMAP -/ ⟨0x070060, 8, 0x4, 1, 0x0, 0x00000000, 0x00000000, 0x00000000, 0x00000000, 0x00000000⟩,
  /- CALD_XLT_FAULT -/ ⟨0x070080, 1, 0x0, 1, 0x0, 0x00000000, 0x80000000, 0x00000000, 0x00000000, 0x00000000⟩,
  /- CALD_XLT_FVA_LO -/ ⟨0x070084, 1, 0x0, 1, 0x0, 0x00000000, 0x00000000, 0x00000000, 0x00000000, 0x00000000⟩,
  /- CALD_XLT_FVA_HI -/ ⟨0x070088, 1, 0x0, 1, 0x0, 0x00000000, 0x00000000, 0x00000000, 0x00000000, 0x00000000⟩,
  /- CALD_XLT_STAT -/ ⟨0x07008C, 1, 0x0, 1, 0x0, 0x00000000, 0x00000000, 0xFFFFFFFF, 0x00000000, 0x00000000⟩,
  /- CALD_HL_BUDGET -/ ⟨0x0700A0, 1, 0x0, 1, 0x0, 0x000007FF, 0x00000000, 0x00000000, 0x00000000, 0x00000100⟩,
  /- CALD_HL_LOAD -/ ⟨0x0700A4, 1, 0x0, 1, 0x0, 0x00000000, 0x00000000, 0x00000000, 0x00000000, 0x00000000⟩,
  /- CALD_BANK_STAT -/ ⟨0x070100, 64, 0x4, 1, 0x0, 0x00000000, 0x00000000, 0xFF000000, 0x00000000, 0x00000000⟩,
  /- CALD_LMR -/ ⟨0x070200, 32, 0x4, 1, 0x0, 0x00000000, 0x00000000, 0x0000FF00, 0x00000000, 0x00000000⟩,
  /- CALD_CONF -/ ⟨0x074000, 64, 0x100, 35, 0x4, 0x00000000, 0x00000000, 0x0000FFFF, 0x00000000, 0x00000000⟩,
  /- CALD_HL_W0 -/ ⟨0x078000, 4096, 0x8, 1, 0x0, 0x00000000, 0x80000000, 0x0FFFFFFF, 0x00000000, 0x00000000⟩,
  /- CALD_HL_W1 -/ ⟨0x078004, 4096, 0x8, 1, 0x0, 0x00000000, 0x00000000, 0x0000FFFF, 0x00000000, 0x00000000⟩,
  /- ENG_TICK_OVR -/ ⟨0x0800E0, 32, 0x1000, 1, 0x0, 0x00000000, 0x80000000, 0x40FFFFFF, 0x00000000, 0x00000000⟩,
  /- ENG_ILL_STAT -/ ⟨0x0800E4, 32, 0x1000, 1, 0x0, 0x00000000, 0x80000000, 0x0FF00000, 0x00000000, 0x00000000⟩,
  /- ENG_LM_ECC -/ ⟨0x0800E8, 32, 0x1000, 1, 0x0, 0x00000000, 0x80000000, 0x0000FFFF, 0x00000000, 0x00000000⟩,
  /- ENG_FAR_STAT -/ ⟨0x0800EC, 32, 0x1000, 1, 0x0, 0x00000000, 0x01000000, 0x00FFFFFF, 0x00000000, 0x00000000⟩,
  /- ENG_DP_FLAGS -/ ⟨0x0800F0, 32, 0x1000, 1, 0x0, 0x00000000, 0x00001F1F, 0x00000000, 0x00000000, 0x00000000⟩,
  /- ENG_WQ_STAT -/ ⟨0x0800F4, 32, 0x1000, 1, 0x0, 0x00000000, 0x00000000, 0xFFFFFF1F, 0x00000000, 0x00000000⟩,
  /- ENG_DLD_ERR -/ ⟨0x0800F8, 32, 0x1000, 2, 0x4, 0x00000000, 0xFFFFFFFF, 0x00000000, 0x00000000, 0x00000000⟩,
  /- ENG_TAILS_W0 -/ ⟨0x080100, 32, 0x1000, 1, 0x0, 0x85FF3FFF, 0x00000000, 0x00000000, 0x00000000, 0x00000000⟩,
  /- ENG_TAILS_W1 -/ ⟨0x080104, 32, 0x1000, 1, 0x0, 0x0FFF0000, 0x00000000, 0x00000000, 0x00000000, 0x00000000⟩,
  /- ENG_TAILS_W2 -/ ⟨0x080108, 32, 0x1000, 1, 0x0, 0x3FFF3FFF, 0x00000000, 0x00000000, 0x00000000, 0x00000000⟩,
  /- ENG_TAILS_W3 -/ ⟨0x08010C, 32, 0x1000, 1, 0x0, 0x00000000, 0x00000000, 0x00000000, 0x00000000, 0x00000000⟩,
  /- ENG_TAILS_CW -/ ⟨0x080110, 32, 0x1000, 4, 0x4, 0x1FFFFFFF, 0x00000000, 0x00000000, 0x00000000, 0x00000000⟩,
  /- ENG_TAILA -/ ⟨0x080120, 32, 0x1000, 8, 0x4, 0x00000000, 0x00000000, 0x00000000, 0x00000000, 0x00000000⟩,
  /- ENG_PROG_CTRL -/ ⟨0x080140, 32, 0x1000, 1, 0x0, 0x00000000, 0x00000100, 0xFFFF0000, 0x00000030, 0x00000000⟩,
  /- ENG_SWAP_SIDX_LO -/ ⟨0x080144, 32, 0x1000, 1, 0x0, 0x00000000, 0x00000000, 0x00000000, 0x00000000, 0x00000000⟩,
  /- ENG_SWAP_SIDX_HI -/ ⟨0x080148, 32, 0x1000, 1, 0x0, 0x00000000, 0x00000000, 0x00000000, 0x00000000, 0x00000000⟩,
  /- ENG_FAULT_INFO -/ ⟨0x08014C, 32, 0x1000, 1, 0x0, 0x00000000, 0x80000000, 0x00000000, 0x00000000, 0x00000000⟩,
  /- ENG_STOP_WAIT -/ ⟨0x080150, 32, 0x1000, 1, 0x0, 0x00000000, 0x80000000, 0x0000FFFF, 0x00000000, 0x00000000⟩,
  /- ENG_SEG_STAT -/ ⟨0x080200, 32, 0x1000, 32, 0x8, 0x00000000, 0x00000000, 0xFFFFFFFF, 0x00000000, 0x00000000⟩,
  /- ENG_SEG_HWM -/ ⟨0x080204, 32, 0x1000, 32, 0x8, 0x00000000, 0x001F0000, 0x0000FFFF, 0x00000000, 0x00000000⟩,
  /- ENG_CBIND -/ ⟨0x080300, 32, 0x1000, 16, 0x4, 0x8003FFFF, 0x00000000, 0x00000000, 0x00000000, 0x00000000⟩,
  /- ENG_DLD_W0 -/ ⟨0x080400, 32, 0x1000, 64, 0x10, 0x8FFFFFFF, 0x00000000, 0x00000000, 0x00000000, 0x00000000⟩,
  /- ENG_DLD_W1 -/ ⟨0x080404, 32, 0x1000, 64, 0x10, 0xFFFFFFFF, 0x00000000, 0x00000000, 0x00000000, 0x00000000⟩,
  /- ENG_DLD_W2 -/ ⟨0x080408, 32, 0x1000, 64, 0x10, 0x0FFF003F, 0x00000000, 0x00000000, 0x00000000, 0x00000000⟩,
  /- ENG_DLD_W3 -/ ⟨0x08040C, 32, 0x1000, 64, 0x10, 0x00000000, 0x00000000, 0x00000000, 0x00000000, 0x00000000⟩,
  /- ENG_SEGS_W0 -/ ⟨0x080800, 32, 0x1000, 32, 0x20, 0x87FF3FFF, 0x00000000, 0x00000000, 0x00000000, 0x00000000⟩,
  /- ENG_SEGS_W1 -/ ⟨0x080804, 32, 0x1000, 32, 0x20, 0x0FFFFFFF, 0x00000000, 0x00000000, 0x00000000, 0x00000000⟩,
  /- ENG_SEGS_W2 -/ ⟨0x080808, 32, 0x1000, 32, 0x20, 0x3FFF3FFF, 0x00000000, 0x00000000, 0x00000000, 0x00000000⟩,
  /- ENG_SEGS_W3 -/ ⟨0x08080C, 32, 0x1000, 32, 0x20, 0xFFFFFFFF, 0x00000000, 0x00000000, 0x00000000, 0x00000000⟩]

/-- The register table, part 4. -/
def regTable4 : List RegDesc := [
  /- ENG_SEGS_W4 -/ ⟨0x080810, 32, 0x1000, 32, 0x20, 0x1FFFFFFF, 0x00000000, 0x00000000, 0x00000000, 0x00000000⟩,
  /- ENG_SEGS_W5 -/ ⟨0x080814, 32, 0x1000, 32, 0x20, 0x1FFFFFFF, 0x00000000, 0x00000000, 0x00000000, 0x00000000⟩,
  /- ENG_SEGS_W6 -/ ⟨0x080818, 32, 0x1000, 32, 0x20, 0x1FFFFFFF, 0x00000000, 0x00000000, 0x00000000, 0x00000000⟩,
  /- ENG_SEGS_W7 -/ ⟨0x08081C, 32, 0x1000, 32, 0x20, 0x1FFFFFFF, 0x00000000, 0x00000000, 0x00000000, 0x00000000⟩,
  /- ENG_SEGA -/ ⟨0x080C00, 32, 0x1000, 256, 0x4, 0x00000000, 0x00000000, 0x00000000, 0x00000000, 0x00000000⟩,
  /- ROUTE_STAT -/ ⟨0x0A0000, 1, 0x0, 1, 0x0, 0x00000000, 0x00030000, 0x0000FFFF, 0x00000000, 0x00000000⟩,
  /- ROUTE_SAT_SINK -/ ⟨0x0A0004, 1, 0x0, 1, 0x0, 0x00000000, 0x00000000, 0x00000000, 0x00000000, 0x00000FFF⟩,
  /- ROUTE_XP_USED -/ ⟨0x0A0008, 1, 0x0, 1, 0x0, 0x00000000, 0x00000000, 0x00000000, 0x00000000, 0x00000000⟩,
  /- ROUTE_XP_SEL -/ ⟨0x0A0010, 1, 0x0, 1, 0x0, 0x00001FFF, 0x00000000, 0x00000000, 0x00000000, 0x00000000⟩,
  /- ROUTE_XP_W -/ ⟨0x0A0014, 5, 0x4, 1, 0x0, 0x00000000, 0x00000000, 0x00000000, 0x00000000, 0x00000000⟩,
  /- ROUTE_CPDOM -/ ⟨0x0A0100, 16, 0x4, 1, 0x0, 0xFFFFFFFF, 0x00000000, 0x00000000, 0x00000000, 0x00000000⟩,
  /- ROUTE_BRG -/ ⟨0x0A0200, 64, 0x4, 1, 0x0, 0x8001FF03, 0x40000000, 0x00000000, 0x00000000, 0x00000000⟩,
  /- ROUTE_ACL_W0 -/ ⟨0x0A0400, 64, 0x8, 1, 0x0, 0xFFFFFFFF, 0x00000000, 0x00000000, 0x00000000, 0x00000000⟩,
  /- ROUTE_ACL_W1 -/ ⟨0x0A0404, 64, 0x8, 1, 0x0, 0x800007FF, 0x00000000, 0x00000000, 0x00000000, 0x00000000⟩,
  /- ASRC_CFG0 -/ ⟨0x0B0000, 256, 0x10, 1, 0x0, 0xFFFFFFFF, 0x00000000, 0x00000000, 0x00000000, 0x00200FFF⟩,
  /- ASRC_CFG1 -/ ⟨0x0B0004, 256, 0x10, 1, 0x0, 0x0000007F, 0x00000000, 0x00000000, 0x00000000, 0x00000010⟩,
  /- ASRC_STAT -/ ⟨0x0B0008, 256, 0x10, 1, 0x0, 0x00000000, 0x00000300, 0x00FF0000, 0x00000000, 0x00000000⟩,
  /- ASRC_RATIO -/ ⟨0x0B000C, 256, 0x10, 1, 0x0, 0x00000000, 0x00000000, 0x00000000, 0x00000000, 0x00000000⟩,
  /- DMA_CTRL -/ ⟨0x0C0000, 1, 0x0, 1, 0x0, 0x00000000, 0x00000000, 0x00000000, 0x00000001, 0x00000000⟩,
  /- DMA_STAT -/ ⟨0x0C0004, 1, 0x0, 1, 0x0, 0x00000000, 0x00000000, 0xFFFFFFFF, 0x00000000, 0x00000000⟩,
  /- DMA_BUDGET -/ ⟨0x0C0008, 1, 0x0, 1, 0x0, 0x07FF07FF, 0x00000000, 0x00000000, 0x00000000, 0x03000300⟩,
  /- DMA_LOAD -/ ⟨0x0C000C, 1, 0x0, 1, 0x0, 0x00000000, 0x00000000, 0x00000000, 0x00000000, 0x00000000⟩,
  /- DMA_STR_SEL -/ ⟨0x0C0100, 1, 0x0, 1, 0x0, 0x00000FFF, 0x00000000, 0x00000000, 0x00000000, 0x00000000⟩,
  /- DMA_STR_W -/ ⟨0x0C0104, 4, 0x4, 1, 0x0, 0x00000000, 0x00000000, 0x00000000, 0x00000000, 0x00000000⟩,
  /- DMA_CAP -/ ⟨0x0C1000, 512, 0x8, 1, 0x0, 0x07FF07FF, 0x00000000, 0x00000000, 0x00000000, 0x00100400⟩,
  /- DMA_USE -/ ⟨0x0C1004, 512, 0x8, 1, 0x0, 0x00000000, 0x00000000, 0x00000000, 0x00000000, 0x00000000⟩,
  /- PORT_TDM_CFG0 -/ ⟨0x0D0000, 6, 0x40, 1, 0x0, 0x07FFFF7F, 0x00000000, 0x00000000, 0x00000000, 0x00141800⟩,
  /- PORT_TDM_RXMASK -/ ⟨0x0D0008, 6, 0x40, 1, 0x0, 0xFFFFFFFF, 0x00000000, 0x00000000, 0x00000000, 0x00000000⟩,
  /- PORT_TDM_TXMASK -/ ⟨0x0D000C, 6, 0x40, 1, 0x0, 0xFFFFFFFF, 0x00000000, 0x00000000, 0x00000000, 0x00000000⟩,
  /- PORT_TDM_STAT -/ ⟨0x0D0010, 6, 0x40, 1, 0x0, 0x00000000, 0x00000F00, 0x00000000, 0x00000000, 0x00000000⟩,
  /- PORT_TDM_CNT -/ ⟨0x0D0014, 6, 0x40, 1, 0x0, 0x00000000, 0x00000000, 0xFFFFFFFF, 0x00000000, 0x00000000⟩,
  /- PORT_PDM_MIC -/ ⟨0x0D0200, 16, 0x4, 1, 0x0, 0x0000FF1F, 0x00000000, 0x00000000, 0x00000000, 0x00001400⟩,
  /- PORT_PDM_STAT -/ ⟨0x0D0240, 1, 0x0, 1, 0x0, 0x00000000, 0x00010000, 0x0000FFFF, 0x00000000, 0x00000000⟩,
  /- PORT_SPR_CFG -/ ⟨0x0D0300, 1, 0x0, 1, 0x0, 0x00000007, 0x00000000, 0x00000000, 0x00000000, 0x00000000⟩,
  /- PORT_SPR_STAT -/ ⟨0x0D0304, 1, 0x0, 1, 0x0, 0x00000000, 0x00000500, 0x00FF0000, 0x00000000, 0x000000F0⟩,
  /- PORT_SPR_CS -/ ⟨0x0D0310, 12, 0x4, 1, 0x0, 0x00000000, 0x00000000, 0x00000000, 0x00000000, 0x00000000⟩,
  /- PORT_SPT_CFG -/ ⟨0x0D0380, 2, 0x40, 1, 0x0, 0x00000003, 0x00000000, 0x00000000, 0x00000000, 0x00000000⟩,
  /- PORT_SPT_STAT -/ ⟨0x0D0384, 2, 0x40, 1, 0x0, 0x00000000, 0x00000002, 0x0000FF00, 0x00000000, 0x00000000⟩,
  /- PORT_SPT_CS -/ ⟨0x0D0390, 2, 0x40, 6, 0x4, 0xFFFFFFFF, 0x00000000, 0x00000000, 0x00000000, 0x00000000⟩,
  /- CONV_CLK -/ ⟨0x0E0000, 1, 0x0, 1, 0x0, 0x00000001, 0x80000000, 0x00000000, 0x00000000, 0x00000000⟩,
  /- CONV_PDMCK -/ ⟨0x0E0004, 1, 0x0, 1, 0x0, 0x0000001F, 0x80000000, 0x00000000, 0x00000000, 0x00000000⟩,
  /- CONV_GRP -/ ⟨0x0E0010, 2, 0x4, 1, 0x0, 0x0000000F, 0x80000000, 0x00000000, 0x00000000, 0x00000008⟩,
  /- CONV_DAC_CTRL -/ ⟨0x0E0020, 8, 0x4, 1, 0x0, 0x00000000, 0x00000000, 0x00000000, 0x00000007, 0x00000000⟩,
  /- CONV_DAC_STAT -/ ⟨0x0E0040, 1, 0x0, 1, 0x0, 0x00000000, 0x00000000, 0x00000000, 0x00000000, 0x00000000⟩,
  /- CONV_FAULT -/ ⟨0x0E0044, 1, 0x0, 1, 0x0, 0x00000000, 0x00000FFF, 0x00000000, 0x00000000, 0x00000000⟩,
  /- CONV_SLIP -/ ⟨0x0E0048, 1, 0x0, 1, 0x0, 0x00000000, 0x00000000, 0x0000FFFF, 0x00000000, 0x00000000⟩,
  /- NGX_CTRL -/ ⟨0x0F0000, 1, 0x0, 1, 0x0, 0x0000000F, 0x80000000, 0x00000000, 0x00000000, 0x00000004⟩,
  /- NGX_STAT -/ ⟨0x0F0004, 1, 0x0, 1, 0x0, 0x00000000, 0x00FD0000, 0x00000000, 0x00000000, 0x00000020⟩,
  /- NGX_TIMING -/ ⟨0x0F0008, 1, 0x0, 1, 0x0, 0x0000FFFF, 0x00000000, 0x00000000, 0x00000000, 0x00003000⟩,
  /- NGX_DELAY -/ ⟨0x0F000C, 1, 0x0, 1, 0x0, 0x00000000, 0x00000000, 0x00000000, 0x00000000, 0x00000000⟩,
  /- NGX_ERR -/ ⟨0x0F0010, 1, 0x0, 1, 0x0, 0x00000000, 0x00000000, 0xFFFFFFFF, 0x00000000, 0x00000000⟩,
  /- NGX_MSG -/ ⟨0x0F0014, 1, 0x0, 1, 0x0, 0x00000000, 0x00000000, 0xFFFFFFFF, 0x00000000, 0x00000000⟩,
  /- NGX_MSG_DROP -/ ⟨0x0F0018, 1, 0x0, 1, 0x0, 0x00000000, 0x80000000, 0x0000FFFF, 0x00000000, 0x00000000⟩,
  /- NGX_SESSION -/ ⟨0x0F001C, 1, 0x0, 1, 0x0, 0x00000000, 0x00000000, 0x00000000, 0x00000000, 0x00000000⟩,
  /- NGX_RR_ADDR -/ ⟨0x0F0020, 1, 0x0, 1, 0x0, 0x0F3FFFFF, 0x00000000, 0x00000000, 0x00000000, 0x00000000⟩,
  /- NGX_RR_DATA -/ ⟨0x0F0024, 1, 0x0, 1, 0x0, 0xFFFFFFFF, 0x00000000, 0x00000000, 0x00000000, 0x00000000⟩,
  /- NGX_RR_CMD -/ ⟨0x0F0028, 1, 0x0, 1, 0x0, 0x00000002, 0x40000000, 0x00000000, 0x00000001, 0x00000000⟩,
  /- NGX_BOOT_STAT -/ ⟨0x0F0030, 1, 0x0, 1, 0x0, 0x00000000, 0x00000000, 0x00000000, 0x00000000, 0x00000000⟩,
  /- NGX_CHEN -/ ⟨0x0F0400, 128, 0x4, 1, 0x0, 0xFFFFFFFF, 0x00000000, 0x00000000, 0x00000000, 0x00000000⟩,
  /- NGX_CHWR -/ ⟨0x0F0800, 512, 0x4, 1, 0x0, 0xFFFFFFFF, 0x00000000, 0x00000000, 0x00000000, 0x00000000⟩]

/-- The register table, part 5. -/
def regTable5 : List RegDesc := [
  /- SPIM_CFG -/ ⟨0x100000, 1, 0x0, 1, 0x0, 0x003FFFFF, 0x00000000, 0x00000000, 0x00000000, 0x003730C4⟩,
  /- SPIM_STAT -/ ⟨0x100004, 1, 0x0, 1, 0x0, 0x00000000, 0x00000F00, 0x00000000, 0x00000000, 0x00000000⟩,
  /- SPIM_TMO -/ ⟨0x100008, 1, 0x0, 1, 0x0, 0x000FFFFF, 0x00000000, 0x00000000, 0x00000000, 0x0007D005⟩,
  /- SPIM_CACHE -/ ⟨0x10000C, 1, 0x0, 1, 0x0, 0x00000000, 0x00000000, 0xFFFFFFFF, 0x00000000, 0x00000000⟩,
  /- SPIM_PF_ADDR -/ ⟨0x100010, 1, 0x0, 1, 0x0, 0x03FFFFFF, 0x00000000, 0x00000000, 0x00000000, 0x00000000⟩,
  /- SPIM_PF_CMD -/ ⟨0x100014, 1, 0x0, 1, 0x0, 0x0000FF07, 0x00000000, 0x00000000, 0x80000000, 0x00000000⟩,
  /- SPIM_PF_BUF -/ ⟨0x100100, 64, 0x4, 1, 0x0, 0xFFFFFFFF, 0x00000000, 0x00000000, 0x00000000, 0x00000000⟩,
  /- SPIS_CTRL -/ ⟨0x110000, 1, 0x0, 1, 0x0, 0x00000003, 0x00000000, 0x00000000, 0x00000000, 0x00000003⟩,
  /- SPIS_STAT -/ ⟨0x110004, 1, 0x0, 1, 0x0, 0x00000000, 0x00000300, 0x00000000, 0x00000000, 0x00000000⟩,
  /- SPIS_CNT -/ ⟨0x110008, 1, 0x0, 1, 0x0, 0x00000000, 0x00000000, 0xFFFFFFFF, 0x00000000, 0x00000000⟩,
  /- SPIS_RD_EN -/ ⟨0x110010, 1, 0x0, 1, 0x0, 0x0007FFFF, 0x00000000, 0x00000000, 0x00000000, 0x0000000B⟩,
  /- SPIS_WR_EN -/ ⟨0x110014, 1, 0x0, 1, 0x0, 0x0007FFFF, 0x00000000, 0x00000000, 0x00000000, 0x00000000⟩,
  /- TEST_CTRL -/ ⟨0x120000, 1, 0x0, 1, 0x0, 0x0000021F, 0x80000000, 0x00000000, 0x00000100, 0x00000200⟩,
  /- TEST_STAT -/ ⟨0x120004, 1, 0x0, 1, 0x0, 0x00000000, 0x00000000, 0x00000000, 0x00000000, 0x00000000⟩,
  /- TEST_SEED_LO -/ ⟨0x120008, 1, 0x0, 1, 0x0, 0xFFFFFFFF, 0x00000000, 0x00000000, 0x00000000, 0x5A5AC3C3⟩,
  /- TEST_SEED_HI -/ ⟨0x12000C, 1, 0x0, 1, 0x0, 0xFFFFFFFF, 0x00000000, 0x00000000, 0x00000000, 0x0F0F9669⟩,
  /- TEST_RES -/ ⟨0x120100, 26, 0x4, 1, 0x0, 0x00000000, 0x00000000, 0x00000000, 0x00000000, 0x00000000⟩]

/-- Every register of BAR0 (R25). -/
def regTable : List RegDesc :=
  regTable1 ++ regTable2 ++ regTable3 ++ regTable4 ++ regTable5

/-- Whether an offset is one of the registers of a row. -/
def RegDesc.holds (d : RegDesc) (off : Nat) : Bool :=
  if off < d.base then false
  else
    let k := off - d.base
    let i := if d.s1 = 0 then 0 else k / d.s1
    let k := if d.s1 = 0 then k else k % d.s1
    let j := if d.s2 = 0 then 0 else k / d.s2
    let k := if d.s2 = 0 then k else k % d.s2
    decide (i < d.n1) && decide (j < d.n2) && decide (k = 0)

/-- The row of the register at an offset, if there is one. -/
def regAt (off : Nat) : Option RegDesc := regTable.find? fun d => d.holds off

/-- Registers of an array whose reset value differs from the row's: tick sources (R62, R65), PLL-A and PLL-B settings
(R502, R503), the band table (R498). -/
def regSpecial : List (Nat × Word) := [
  (0x020820, 0x0000000B), (0x020840, 0x0000000B), (0x020824, 0x0000000B), (0x020844, 0x0000000B),
  (0x020100, 0x00006000), (0x020140, 0x00005800), (0x020104, 0), (0x020108, 1), (0x020144, 1), (0x020148, 5),
  (0x020200, 0xA88CA834), (0x020204, 0x989748FC), (0x020208, 0x909D8974)]

/-- The reset value of the register at an offset (R12). -/
def regReset (off : Nat) : Word :=
  match regSpecial.find? (fun p => p.1 = off) with
  | some p => p.2
  | none =>
    match regAt off with
    | some d => d.rst
    | none => 0

/-! ### Register offsets, by name -/

def rTopChipId : Nat := 0x000000
def rTopMode : Nat := 0x000004
def rTopModeCmd : Nat := 0x000008
def rTopDark : Nat := 0x0000C0
def rTopLanternLo : Nat := 0x000100
def rTopLanternHi : Nat := 0x000104
def rTopLanternCtrl : Nat := 0x000108
def rTopPcieStat : Nat := 0x000200
def rTopPcieEvt : Nat := 0x000204
def rTopPcieFlrLo : Nat := 0x000208
def rTopPcieFlrHi : Nat := 0x00020C
def rTopPciePm : Nat := 0x000210
def rTopPcieLtr : Nat := 0x000214
def rTopRlfHb : Nat := 0x000400
def rTopRlfCtrl : Nat := 0x000404
def rTopRlfStat : Nat := 0x000408
def rTopRlfCnt : Nat := 0x00040C
def rTopModeReason : Nat := 0x000410
def rTopRlfTimeLo : Nat := 0x000418
def rTopRlfTimeHi : Nat := 0x00041C
def rTopGpio (i : Nat) : Nat := 0x000600 + 0x4 * i
def rPwrIslStat : Nat := 0x010000
def rPwrPsResult : Nat := 0x010004
def rPwrCapCtrl : Nat := 0x010010
def rPwrShedPrio : Nat := 0x010014
def rPwrPcap : Nat := 0x010018
def rPwrCapStat : Nat := 0x01001C
def rPwrTemp (i : Nat) : Nat := 0x010020 + 0x4 * i
def rPwrDormCtrl : Nat := 0x010040
def rPwrWakeTmr : Nat := 0x010044
def rPwrWakeSrc : Nat := 0x010048
def rPwrSeq : Nat := 0x01004C
def rClkRefStat : Nat := 0x020000
def rClkPllCtrl (i : Nat) : Nat := 0x020100 + 0x40 * i
def rClkPllNum (i : Nat) : Nat := 0x020104 + 0x40 * i
def rClkPllDen (i : Nat) : Nat := 0x020108 + 0x40 * i
def rClkPllStat (i : Nat) : Nat := 0x02010C + 0x40 * i
def rClkPllTrk (i : Nat) : Nat := 0x020110 + 0x40 * i
def rClkPllsStat : Nat := 0x02018C
def rClkBand (i : Nat) : Nat := 0x020200 + 0x4 * i
def rClkHoldCtrl : Nat := 0x020300
def rClkHoldStat : Nat := 0x020304
def rClkHoldMeas : Nat := 0x020308
def rClkHoldIncLo : Nat := 0x020310
def rClkHoldIncHi : Nat := 0x020314
def rClkCkoCfg (i : Nat) : Nat := 0x020400 + 0x10 * i
def rClkCkoAct (i : Nat) : Nat := 0x020404 + 0x10 * i
def rClkCkoPhase (i : Nat) : Nat := 0x020408 + 0x10 * i
def rClkCkoPair : Nat := 0x020440
def rClkCkoCommit : Nat := 0x020444
def rClkTickCtrl (i : Nat) : Nat := 0x020800 + 0x20 * i
def rClkTickStat (i : Nat) : Nat := 0x020804 + 0x20 * i
def rClkTickPeriod0 : Nat := 0x020808
def rClkSidxLo : Nat := 0x020880
def rClkSidxHi : Nat := 0x020884
def rClkSidxPhase : Nat := 0x020888
def rClkSidxStartLo : Nat := 0x020890
def rClkSidxStartHi : Nat := 0x020894
def rBootStraps : Nat := 0x030000
def rBootStat : Nat := 0x030004
def rBootCtrl : Nat := 0x030008
def rBootFuseStat : Nat := 0x030010
def rBootFuseSel : Nat := 0x030014
def rBootFuseData : Nat := 0x030018
def rBootOtpPgm : Nat := 0x030020
def rBootOtpData : Nat := 0x030024
def rBootMbxAddrLo : Nat := 0x030040
def rBootMbxAddrHi : Nat := 0x030044
def rBootMbxLen : Nat := 0x030048
def rBootMbxCmd : Nat := 0x03004C
def rBootMbxStat : Nat := 0x030050
def rBootUpd : Nat := 0x030060
def rBootArb : Nat := 0x030064
def rBootMinRingLo : Nat := 0x030080
def rBootMinRingHi : Nat := 0x030084
def rBootMinCfg : Nat := 0x030088
def rBootMinCons : Nat := 0x03008C
def rBootMinStat : Nat := 0x030090
def rSecDaymark (i : Nat) (j : Nat) : Nat := 0x040100 + 0x40 * i + 0x4 * j
def rSecFwDigest (i : Nat) : Nat := 0x040300 + 0x4 * i
def rSecDmExt (i : Nat) : Nat := 0x040340 + 0x4 * i
def rSecDmCmd : Nat := 0x040370
def rSecMlogSel : Nat := 0x040380
def rSecMlogW (i : Nat) : Nat := 0x040384 + 0x4 * i
def rSecDbgChal (i : Nat) : Nat := 0x040400 + 0x4 * i
def rSecDbgReq : Nat := 0x040430
def rSecDbgResp (i : Nat) : Nat := 0x040440 + 0x4 * i
def rSecDbgCmd : Nat := 0x040500
def rSecDbgStat : Nat := 0x040504
def rSecAuditSel : Nat := 0x040600
def rSecAuditW (i : Nat) : Nat := 0x040604 + 0x4 * i
def rSecAuditCnt : Nat := 0x040610
def rCtxtCtrl (i : Nat) : Nat := 0x050000 + 0x40 * i
def rCtxtCmd (i : Nat) : Nat := 0x050004 + 0x40 * i
def rCtxtCrLo (i : Nat) : Nat := 0x050008 + 0x40 * i
def rCtxtCrHi (i : Nat) : Nat := 0x05000C + 0x40 * i
def rCtxtCpLo (i : Nat) : Nat := 0x050010 + 0x40 * i
def rCtxtCpHi (i : Nat) : Nat := 0x050014 + 0x40 * i
def rCtxtSrLo (i : Nat) : Nat := 0x050018 + 0x40 * i
def rCtxtSrHi (i : Nat) : Nat := 0x05001C + 0x40 * i
def rCtxtSize (i : Nat) : Nat := 0x050020 + 0x40 * i
def rCtxtIrq (i : Nat) : Nat := 0x050024 + 0x40 * i
def rCtxtMod (i : Nat) : Nat := 0x050028 + 0x40 * i
def rCtxtStat (i : Nat) : Nat := 0x05002C + 0x40 * i
def rCtxtErr (i : Nat) : Nat := 0x050030 + 0x40 * i
def rFabWaitHwm (i : Nat) : Nat := 0x060000 + 0x4 * i
def rFabCommitStat : Nat := 0x060800
def rFabResRange : Nat := 0x060900
def rFabResCmd : Nat := 0x060904
def rFabResSel : Nat := 0x060908
def rFabResInfo : Nat := 0x06090C
def rFabCgCtrl (i : Nat) : Nat := 0x061000 + 0x20 * i
def rFabCgDueLo (i : Nat) : Nat := 0x061008 + 0x20 * i
def rFabCgDueHi (i : Nat) : Nat := 0x06100C + 0x20 * i
def rFabCgAppliedLo (i : Nat) : Nat := 0x061010 + 0x20 * i
def rFabCgAppliedHi (i : Nat) : Nat := 0x061014 + 0x20 * i
def rFabCgStat (i : Nat) : Nat := 0x061018 + 0x20 * i
def rFabCgMiss (i : Nat) : Nat := 0x06101C + 0x20 * i
def rFabRampW0 (i : Nat) : Nat := 0x062000 + 0x10 * i
def rFabRampW1 (i : Nat) : Nat := 0x062004 + 0x10 * i
def rFabRampW2 (i : Nat) : Nat := 0x062008 + 0x10 * i
def rFabRampW3 (i : Nat) : Nat := 0x06200C + 0x10 * i
def rFabCsetW0 (i : Nat) : Nat := 0x064000 + 0x10 * i
def rFabCsetW1 (i : Nat) : Nat := 0x064004 + 0x10 * i
def rFabCsetW2 (i : Nat) : Nat := 0x064008 + 0x10 * i
def rFabCsetW3 (i : Nat) : Nat := 0x06400C + 0x10 * i
def rCaldEccStat : Nat := 0x070000
def rCaldUeInfo : Nat := 0x070004
def rCaldEccCtrl : Nat := 0x070008
def rCaldCap : Nat := 0x070010
def rCaldTileRange : Nat := 0x070020
def rCaldTileCmd : Nat := 0x070024
def rCaldTileSel : Nat := 0x070028
def rCaldTileInfo : Nat := 0x07002C
def rCaldRowSel : Nat := 0x070030
def rCaldRowInfo : Nat := 0x070034
def rCaldSinterCtrl : Nat := 0x070040
def rCaldSinterStat : Nat := 0x070044
def rCaldSinterFail : Nat := 0x070048
def rCaldProtRemap (i : Nat) : Nat := 0x070060 + 0x4 * i
def rCaldXltFault : Nat := 0x070080
def rCaldXltFvaLo : Nat := 0x070084
def rCaldXltFvaHi : Nat := 0x070088
def rCaldXltStat : Nat := 0x07008C
def rCaldHlBudget : Nat := 0x0700A0
def rCaldHlLoad : Nat := 0x0700A4
def rCaldBankStat (i : Nat) : Nat := 0x070100 + 0x4 * i
def rCaldLmr (i : Nat) : Nat := 0x070200 + 0x4 * i
def rCaldConf (i : Nat) (j : Nat) : Nat := 0x074000 + 0x100 * i + 0x4 * j
def rCaldHlW0 (i : Nat) : Nat := 0x078000 + 0x8 * i
def rCaldHlW1 (i : Nat) : Nat := 0x078004 + 0x8 * i
def rEngTickOvr (i : Nat) : Nat := 0x0800E0 + 0x1000 * i
def rEngIllStat (i : Nat) : Nat := 0x0800E4 + 0x1000 * i
def rEngLmEcc (i : Nat) : Nat := 0x0800E8 + 0x1000 * i
def rEngFarStat (i : Nat) : Nat := 0x0800EC + 0x1000 * i
def rEngDpFlags (i : Nat) : Nat := 0x0800F0 + 0x1000 * i
def rEngWqStat (i : Nat) : Nat := 0x0800F4 + 0x1000 * i
def rEngDldErr (i : Nat) (j : Nat) : Nat := 0x0800F8 + 0x1000 * i + 0x4 * j
def rEngTailsW0 (i : Nat) : Nat := 0x080100 + 0x1000 * i
def rEngTailsW1 (i : Nat) : Nat := 0x080104 + 0x1000 * i
def rEngTailsW2 (i : Nat) : Nat := 0x080108 + 0x1000 * i
def rEngTailsW3 (i : Nat) : Nat := 0x08010C + 0x1000 * i
def rEngTailsCw (i : Nat) (j : Nat) : Nat := 0x080110 + 0x1000 * i + 0x4 * j
def rEngTaila (i : Nat) (j : Nat) : Nat := 0x080120 + 0x1000 * i + 0x4 * j
def rEngProgCtrl (i : Nat) : Nat := 0x080140 + 0x1000 * i
def rEngSwapSidxLo (i : Nat) : Nat := 0x080144 + 0x1000 * i
def rEngSwapSidxHi (i : Nat) : Nat := 0x080148 + 0x1000 * i
def rEngFaultInfo (i : Nat) : Nat := 0x08014C + 0x1000 * i
def rEngStopWait (i : Nat) : Nat := 0x080150 + 0x1000 * i
def rEngSegStat (i : Nat) (j : Nat) : Nat := 0x080200 + 0x1000 * i + 0x8 * j
def rEngSegHwm (i : Nat) (j : Nat) : Nat := 0x080204 + 0x1000 * i + 0x8 * j
def rEngCbind (i : Nat) (j : Nat) : Nat := 0x080300 + 0x1000 * i + 0x4 * j
def rEngDldW0 (i : Nat) (j : Nat) : Nat := 0x080400 + 0x1000 * i + 0x10 * j
def rEngDldW1 (i : Nat) (j : Nat) : Nat := 0x080404 + 0x1000 * i + 0x10 * j
def rEngDldW2 (i : Nat) (j : Nat) : Nat := 0x080408 + 0x1000 * i + 0x10 * j
def rEngDldW3 (i : Nat) (j : Nat) : Nat := 0x08040C + 0x1000 * i + 0x10 * j
def rEngSegsW0 (i : Nat) (j : Nat) : Nat := 0x080800 + 0x1000 * i + 0x20 * j
def rEngSegsW1 (i : Nat) (j : Nat) : Nat := 0x080804 + 0x1000 * i + 0x20 * j
def rEngSegsW2 (i : Nat) (j : Nat) : Nat := 0x080808 + 0x1000 * i + 0x20 * j
def rEngSegsW3 (i : Nat) (j : Nat) : Nat := 0x08080C + 0x1000 * i + 0x20 * j
def rEngSegsW4 (i : Nat) (j : Nat) : Nat := 0x080810 + 0x1000 * i + 0x20 * j
def rEngSegsW5 (i : Nat) (j : Nat) : Nat := 0x080814 + 0x1000 * i + 0x20 * j
def rEngSegsW6 (i : Nat) (j : Nat) : Nat := 0x080818 + 0x1000 * i + 0x20 * j
def rEngSegsW7 (i : Nat) (j : Nat) : Nat := 0x08081C + 0x1000 * i + 0x20 * j
def rEngSega (i : Nat) (j : Nat) : Nat := 0x080C00 + 0x1000 * i + 0x4 * j
def rRouteStat : Nat := 0x0A0000
def rRouteSatSink : Nat := 0x0A0004
def rRouteXpUsed : Nat := 0x0A0008
def rRouteXpSel : Nat := 0x0A0010
def rRouteXpW (i : Nat) : Nat := 0x0A0014 + 0x4 * i
def rRouteCpdom (i : Nat) : Nat := 0x0A0100 + 0x4 * i
def rRouteBrg (i : Nat) : Nat := 0x0A0200 + 0x4 * i
def rRouteAclW0 (i : Nat) : Nat := 0x0A0400 + 0x8 * i
def rRouteAclW1 (i : Nat) : Nat := 0x0A0404 + 0x8 * i
def rAsrcCfg0 (i : Nat) : Nat := 0x0B0000 + 0x10 * i
def rAsrcCfg1 (i : Nat) : Nat := 0x0B0004 + 0x10 * i
def rAsrcStat (i : Nat) : Nat := 0x0B0008 + 0x10 * i
def rAsrcRatio (i : Nat) : Nat := 0x0B000C + 0x10 * i
def rDmaCtrl : Nat := 0x0C0000
def rDmaStat : Nat := 0x0C0004
def rDmaBudget : Nat := 0x0C0008
def rDmaLoad : Nat := 0x0C000C
def rDmaStrSel : Nat := 0x0C0100
def rDmaStrW (i : Nat) : Nat := 0x0C0104 + 0x4 * i
def rDmaCap (i : Nat) : Nat := 0x0C1000 + 0x8 * i
def rDmaUse (i : Nat) : Nat := 0x0C1004 + 0x8 * i
def rPortTdmCfg0 (i : Nat) : Nat := 0x0D0000 + 0x40 * i
def rPortTdmRxmask (i : Nat) : Nat := 0x0D0008 + 0x40 * i
def rPortTdmTxmask (i : Nat) : Nat := 0x0D000C + 0x40 * i
def rPortTdmStat (i : Nat) : Nat := 0x0D0010 + 0x40 * i
def rPortTdmCnt (i : Nat) : Nat := 0x0D0014 + 0x40 * i
def rPortPdmMic (i : Nat) : Nat := 0x0D0200 + 0x4 * i
def rPortPdmStat : Nat := 0x0D0240
def rPortSprCfg : Nat := 0x0D0300
def rPortSprStat : Nat := 0x0D0304
def rPortSprCs (i : Nat) : Nat := 0x0D0310 + 0x4 * i
def rPortSptCfg (i : Nat) : Nat := 0x0D0380 + 0x40 * i
def rPortSptStat (i : Nat) : Nat := 0x0D0384 + 0x40 * i
def rPortSptCs (i : Nat) (j : Nat) : Nat := 0x0D0390 + 0x40 * i + 0x4 * j
def rConvClk : Nat := 0x0E0000
def rConvPdmck : Nat := 0x0E0004
def rConvGrp (i : Nat) : Nat := 0x0E0010 + 0x4 * i
def rConvDacCtrl (i : Nat) : Nat := 0x0E0020 + 0x4 * i
def rConvDacStat : Nat := 0x0E0040
def rConvFault : Nat := 0x0E0044
def rConvSlip : Nat := 0x0E0048
def rNgxCtrl : Nat := 0x0F0000
def rNgxStat : Nat := 0x0F0004
def rNgxTiming : Nat := 0x0F0008
def rNgxDelay : Nat := 0x0F000C
def rNgxErr : Nat := 0x0F0010
def rNgxMsg : Nat := 0x0F0014
def rNgxMsgDrop : Nat := 0x0F0018
def rNgxSession : Nat := 0x0F001C
def rNgxRrAddr : Nat := 0x0F0020
def rNgxRrData : Nat := 0x0F0024
def rNgxRrCmd : Nat := 0x0F0028
def rNgxBootStat : Nat := 0x0F0030
def rNgxChen (i : Nat) : Nat := 0x0F0400 + 0x4 * i
def rNgxChwr (i : Nat) : Nat := 0x0F0800 + 0x4 * i
def rSpimCfg : Nat := 0x100000
def rSpimStat : Nat := 0x100004
def rSpimTmo : Nat := 0x100008
def rSpimCache : Nat := 0x10000C
def rSpimPfAddr : Nat := 0x100010
def rSpimPfCmd : Nat := 0x100014
def rSpimPfBuf (i : Nat) : Nat := 0x100100 + 0x4 * i
def rSpisCtrl : Nat := 0x110000
def rSpisStat : Nat := 0x110004
def rSpisCnt : Nat := 0x110008
def rSpisRdEn : Nat := 0x110010
def rSpisWrEn : Nat := 0x110014
def rTestCtrl : Nat := 0x120000
def rTestStat : Nat := 0x120004
def rTestSeedLo : Nat := 0x120008
def rTestSeedHi : Nat := 0x12000C
def rTestRes (i : Nat) : Nat := 0x120100 + 0x4 * i

end Sys2Proof.Machine
end

