-- ==== Sys2Proof/Machine/SMap.lean ====
section
/-! DEFINITION. Operations on sparse tables. Each takes `d`, what an unlisted key reads as. -/

namespace Sys2Proof

/-- The entry of key `k`, or what an unlisted key reads as. -/
def SMap.get {α : Type} (d : Nat → α) : SMap α → Nat → α
  | [], k => d k
  | (k', v) :: m, k => if k = k' then v else SMap.get d m k

/-- Keeps the entries whose key satisfies a test; the others read as unlisted. -/
def SMap.keep {α : Type} (p : Nat → Bool) : SMap α → SMap α
  | [] => []
  | (k, v) :: m => if p k then (k, v) :: SMap.keep p m else SMap.keep p m

/-- Puts an entry in its place, in front of the first larger key. -/
def SMap.insert {α : Type} : SMap α → Nat → α → SMap α
  | [], k, v => [(k, v)]
  | (k', v') :: m, k, v =>
    if k < k' then (k, v) :: (k', v') :: m
    else if k = k' then (k, v) :: m
    else (k', v') :: SMap.insert m k v

/-- Writes an entry, keeping the canonical form: writing what an unlisted key reads as removes the entry. -/
def SMap.set {α : Type} [DecidableEq α] (d : Nat → α) (m : SMap α) (k : Nat) (v : α) : SMap α :=
  if v = d k then SMap.keep (fun j => j != k) m else SMap.insert m k v

/-- Changes one entry. -/
def SMap.modify {α : Type} [DecidableEq α] (d : Nat → α) (m : SMap α) (k : Nat) (f : α → α) : SMap α :=
  SMap.set d m k (f (SMap.get d m k))

/-- Applies a function to every listed entry. -/
def SMap.mapAll {α : Type} [DecidableEq α] (d : Nat → α) (f : Nat → α → α) (m : SMap α) : SMap α :=
  m.foldl (fun acc kv => SMap.set d acc kv.1 (f kv.1 kv.2)) m

/-- The keys rise strictly, from above a bound. -/
def SMap.sortedFrom {α : Type} : Option Nat → SMap α → Bool
  | _, [] => true
  | b, (k, _) :: m =>
    (match b with
     | none => true
     | some j => decide (j < k)) && SMap.sortedFrom (some k) m

/-- The canonical form. -/
def SMap.wf {α : Type} [DecidableEq α] (d : Nat → α) (m : SMap α) : Bool :=
  SMap.sortedFrom none m && m.all fun kv => decide (kv.2 ≠ d kv.1)

end Sys2Proof
end

