-- ==== Sys2Proof/Machine/StateEngine.lean ====
section
/-! DEFINITION. The state of a sample engine: register banks, memories, queues, tables (chapters 3 to 5). -/

namespace Sys2Proof.Machine

/-- One register bank (R70). Unlisted registers read 0. `rpt` is the count still to run (R153),
`held` says that the word at `pc` is being repeated and is already fetched (R111). -/
structure RegBank where
  q   : SMap (Quad Word) := []
  aq  : SMap (Quad (BitVec 72)) := []
  g   : SMap Word := []
  a   : SMap (BitVec 24) := []
  m   : SMap (BitVec 24) := []
  l   : SMap (BitVec 24) := []
  b   : SMap (BitVec 24) := []
  ps  : SMap (BitVec 4) := []
  shm : BitVec 5 := 0
  dth : Word := 1
  fr  : SMap (Quad Word) := []
  flg : BitVec 5 := 0
  pc  : Nat := 0
  rpt : Nat := 0
  held : Bool := false
  deriving DecidableEq, Repr

/-- A register result (R166): what a result in flight will write. `aq` carries whether a MAC or TAP4 produced it,
for the accumulate forwarding of R169. -/
inductive RegWrite where
  | q   (r : Nat) (m : BitVec 4) (v : Quad Word)
  | aq  (r : Nat) (m : BitVec 4) (v : Quad (BitVec 72)) (mac : Bool)
  | aqPart (r lane part : Nat) (v : Word)
  | g   (r : Nat) (v : Word)
  | a   (r : Nat) (v : BitVec 24)
  | m   (r : Nat) (v : BitVec 24)
  | l   (r : Nat) (v : BitVec 24)
  | b   (r : Nat) (v : BitVec 24)
  | ps  (r : Nat) (v : BitVec 4)
  | shm (v : BitVec 5)
  | dth (v : Word)
  | flg (bits : BitVec 5)
  deriving DecidableEq, Repr

/-- A result in flight: the bank that issued it, the pipeline cycles left, the write (R165 to R169, R180). -/
structure Pend where
  tail : Bool
  left : Nat
  wr   : RegWrite
  deriving DecidableEq, Repr

/-- A write-queue entry: physical quad, lane mask, data (R94). -/
structure WqEntry where
  quad : Nat
  mask : BitVec 4
  data : Quad Word
  deriving DecidableEq, Repr

/-- A far-store queue entry: one 32-byte Caldera unit with a byte mask (R173). -/
structure FarEntry where
  id   : Nat
  unit : Nat
  mask : BitVec 32
  data : BitVec 256
  deriving DecidableEq, Repr

/-- One Caldera access of a far load (R140): its unit, the lanes it feeds, each with its Caldera word, and, for each
lane that reads a host line's read band, the line and the tick-time read (R289). -/
structure FarPiece where
  unit  : Nat
  words : List (Nat × Nat)
  host  : List (Nat × Nat × Int) := []
  deriving DecidableEq, Repr

/-- A far load under way (R141, R172): tags, destination, guard mask, pieces not yet returned, and the
lanes returned so far, each with its word and its POISON and LINE_LATE. -/
structure FarLoad where
  id    : Nat
  tail  : Bool
  fr    : Nat
  mask  : BitVec 4
  left  : List FarPiece
  got   : SMap Word := []
  poison : Bool := false
  late  : Bool := false
  deriving DecidableEq, Repr

/-- A far read that the fabric has granted, on its way back to the cluster. -/
structure FarReturn where
  load   : Nat
  piece  : FarPiece
  words  : List (Nat × Word)
  poison : Bool
  late   : Bool
  deriving DecidableEq, Repr

/-- A far-load access that waits for a far-store entry of the same unit (R175). -/
structure Blocked where
  load  : Nat
  piece : FarPiece
  after : Nat
  deriving DecidableEq, Repr

/-- What the engine is doing (R178 to R181). `enter s`: the entry of segment s is next; `run s`: segment s runs;
`tail`: the tail program runs. -/
inductive Phase where
  | idle
  | enter (s : Nat)
  | run (s : Nat)
  | tail
  deriving DecidableEq, Repr

/-- A tick offered to an engine: index, domain flags, tick counts (R52, R73). -/
structure TickInfo where
  six : Nat
  dfl : BitVec 2
  tc1 : Nat
  tc2 : Nat
  deriving DecidableEq, Repr

/-- Who asked for a pending swap (R207): a BAR0 write, or a PROG_SWAP by context and sequence. -/
inductive SwapReq where
  | bar
  | desc (ctx seq : Nat)
  deriving DecidableEq, Repr

/-- A segment-frame save area is a register bank without Q, AQ, FR. The stored tables hold 0x21 entries of 8 words
each, entry 32 the tail entry, at key 0x200 × table + 8 × entry + word. -/
structure Engine where
  phase : Phase := .idle
  tick  : RegBank := {}
  tail  : RegBank := {}
  tailSusp : Bool := false
  frameOf : Option Nat := none
  inflight : List Pend := []
  frames : SMap RegBank := []
  needInit : BitVec 32 := BitVec.allOnes 32
  tailInit : Bool := true
  stab : SMap Word := []
  actTab : Bool := false
  lm : SMap Word := []
  lmErr : SMap Nat := []
  lmEpoch : Nat := 0
  prog : SMap (BitVec 64) := []
  progErr : SMap Nat := []
  progEpoch : Nat := 0
  wq : List WqEntry := []
  dldOpen : SMap (Word × Word) := []
  dldWait : SMap (Word × Word × Word) := []
  six : BitVec 64 := 0
  dfl : BitVec 2 := 0
  tc1 : BitVec 64 := 0
  tc2 : BitVec 64 := 0
  tickCyc : Nat := 0
  elapsed : Nat := 0
  stall : Nat := 0
  stopWait : Nat := 0
  fsq : List FarEntry := []
  heldStore : Option (List FarEntry) := none
  farLoads : List FarLoad := []
  farRet : List FarReturn := []
  blocked : List Blocked := []
  nextFar : Nat := 0
  offered : Option TickInfo := none
  pendTick : Option TickInfo := none
  cutPending : Bool := false
  received : Bool := false
  flgRun : BitVec 5 := 0
  torn : List Nat := []
  swapPb : List SwapReq := []
  swapSt : List SwapReq := []
  bindPage : SMap Nat := []
  deriving DecidableEq, Repr

/-- A word written to a chain port during a tick (R198, R200). -/
structure ChainWrite where
  id    : Nat
  port  : Nat
  tick  : Nat
  stamp : Nat
  eng   : Nat
  seg   : Nat
  mask  : BitVec 4
  data  : Quad Word
  arrived : Bool
  deriving DecidableEq, Repr

/-- An engine output port at the freeze of the last tick (R199): its value one tick earlier, the frozen writes in the
order of R200, the enabled segment whose write range holds it with that segment's policy (true for ZERO), and the index of
the tick at which it was frozen. -/
structure FrozenPort where
  base   : Quad Word := ⟨0, 0, 0, 0⟩
  writes : List ChainWrite := []
  holder : Option (Nat × Nat × Bool) := none
  at' : Nat := 0
  deriving DecidableEq, Repr

end Sys2Proof.Machine
end

