-- ==== Sys2Proof/Machine/StateFabric.lean ====
section
/-! DEFINITION. The state of the fabric, the tick generators, the commit unit, Caldera and the route matrix
(chapters 1, 2, 6, 7, 8). -/

namespace Sys2Proof.Machine

/-! ### Fabric (chapter 1) -/

/-- What a Caldera request is for. `farLoad` and `farStore` are the engines' accesses (R139, R173); `other` is an
access of a mover, the ring unit, Relief, Keeper, Sinter or the NGX port. -/
inductive ReqKind where
  | farLoad (eng load : Nat) (piece : FarPiece)
  | farStore (eng : Nat) (entry : FarEntry)
  | other (write : Bool)
  deriving DecidableEq, Repr

/-- A request at a bank arbiter: class (R27), master (R32), arrival cycle, byte address, FAB cycles it will occupy
the bank (R255). -/
structure BankReq where
  cls     : Nat
  master  : Nat
  arrival : Nat
  addr    : Nat
  cycles  : Nat
  kind    : ReqKind
  deriving DecidableEq, Repr

/-- A Caldera bank and its arbiter (R28 to R30). `floor` and `prevP0` describe the previous grant, `grants` lists the
grant cycles and masters still of use for the conflict counters (R265). -/
structure Bank where
  reqs      : List BankReq := []
  decided   : Option (BankReq × Bool) := none
  busyUntil : Nat := 0
  credits   : BitVec 6 := 0
  floor     : Bool := false
  prevP0    : Bool := false
  grants    : List (Nat × Nat) := []
  deriving DecidableEq, Repr

/-- A word in a crossing (R17). -/
inductive XWord where
  | far (req : BankReq)
  | chain (id : Nat)
  | raw (w : BitVec 64)
  deriving DecidableEq, Repr

/-- Who waits for the data of a host read: a mover, the ring unit's descriptor fetch, a follower (device, its tag; R561). -/
inductive ReadFor where
  | mover (m : Nat)
  | fetch (c : Nat)
  | relay (dev tag : Nat)
  deriving DecidableEq, Repr

/-- What a PCIe request of the device carries. Addresses are bus addresses; `attr` has bit 0 Relaxed Ordering, bit 1 No
Snoop (R433), bit 2 the poison bit EP (R257). -/
inductive Tlp where
  | write (func : Nat) (addr : Nat) (data : List Byte) (attr : BitVec 3)
  | read (func : Nat) (addr : Nat) (len : Nat) (ns : Bool) (who : ReadFor)
  | msix (func : Nat) (addr : Nat) (data : Word)
  | message (func code value : Nat)
  deriving DecidableEq, Repr

/-- A request at the PCIe outbound port (R33). -/
structure OutReq where
  cls : Nat
  master : Nat
  arrival : Nat
  tlp : Tlp
  deriving DecidableEq, Repr

structure FabricState where
  banks : SMap Bank := []
  xings : SMap (List XWord) := []
  stopped : List Nat := []
  taken : List (Nat × BitVec 64) := []
  outq : List OutReq := []
  outRun : Nat := 0
  sent : List OutReq := []
  deriving DecidableEq, Repr

/-! ### Ticks (chapter 2) -/

/-- The D0 generator. Times are FAB cycles. `f` is the period estimate in 1/256 cycle, `frac` what the whole-cycle
periods emitted so far have left over, `err` the phase error still to remove (positive: the tick is late). -/
structure TickGen where
  lastTick : Nat := 0
  period   : Nat := 0
  f        : Nat := 0
  frac     : Nat := 0
  err      : Int := 0
  applied  : Nat := 0
  firstEv  : Bool := true
  lastUsed : Nat := 0
  lastRecv : Nat := 0
  run16    : Nat := 0
  deriving DecidableEq, Repr

/-- The D1 or D2 generator: index of its last tick, tick count of R73, slip-free events, pending phase move; `hold`: the
next index is no tick of the domain, whose phase has just moved later (R48). -/
structure DomGen where
  last : Option Nat := none
  tc   : Nat := 0
  run16 : Nat := 0
  move : Int := 0
  hold : Bool := false
  deriving DecidableEq, Repr

structure TickState where
  gen  : TickGen := {}
  d1   : DomGen := {}
  d2   : DomGen := {}
  sidx : Nat := 0
  flags : BitVec 2 := 0
  idleAtEnd : Bool := false
  deriving DecidableEq, Repr

/-! ### Live parameters (chapter 6) -/

/-- A ramp (R249): start value, target, ticks, ticks done, time code, shape. `j = n` when it has ended. -/
structure Ramp where
  s : Int := 0
  t : Int := 0
  n : Nat := 0
  j : Nat := 0
  time : Nat := 0
  shape : Bool := false
  cur : Word := 0
  deriving DecidableEq, Repr

/-- The object of a ramp or gain change: a helper channel, or a crosspoint by source and sink. -/
inductive GainObj where
  | helper (n : Nat)
  | xpoint (src sink : Nat)
  deriving DecidableEq, Repr

/-- A staged member of a commit group, or a change that applies at the next tick boundary (R226). `ctx`, `seq` name
the descriptor. -/
inductive Member where
  | flip (set : Nat) (ctx seq : Nat)
  | gain (obj : GainObj) (tgt : Word) (time : Nat) (shape : Bool) (ctx seq : Nat)
  | routeSet (src sink owner : Nat) (gain : Word) (time : Nat) (shape : Bool) (fresh : Bool) (ctx seq : Nat)
  | routeClear (src sink : Nat) (time : Nat) (shape : Bool) (ctx seq : Nat)
  | swap (engs : BitVec 32) (pb st : Bool) (ctx seq : Nat)
  deriving DecidableEq, Repr

/-- An armed COMMIT of a group (R229, R239 to R244). -/
structure Arm where
  ctx : Nat := 0
  seq : Nat := 0
  late : Bool := false
  origDue : Nat := 0
  next : Bool := false
  mask : BitVec 16 := 0
  armed : BitVec 16 := 0
  refused : Bool := false
  applied : BitVec 16 := 0
  missing : BitVec 16 := 0
  otherIdx : Bool := false
  cancelled : Bool := false
  follow : Bool := false
  deriving DecidableEq, Repr

/-- A commit group: members in staging order, the armed COMMIT. State, due and applied index stand in its registers. -/
structure Group where
  members : List Member := []
  arm : Option Arm := none
  deriving DecidableEq, Repr

/-- A cascade decision the master repeats in the beacon (R242); an ABORT until the followers of `mask` have acknowledged
it. -/
structure Decision where
  group : Nat
  go : Bool
  due : Nat
  mask : BitVec 16 := 0
  deriving DecidableEq, Repr

/-- What still has to happen after a flip (R223): the engines that have not yet left the old page; then the copy. -/
structure Resync where
  wait : BitVec 32 := 0
  copying : Bool := false
  active : Bool := false
  noFlip : Bool := false
  deriving DecidableEq, Repr

structure ParamState where
  csetStage : SMap (Word × Word) := []
  resync : SMap Resync := []
  groups : SMap Group := []
  next : List Member := []
  decisions : List Decision := []
  ramps : SMap Ramp := []
  deriving DecidableEq, Repr

/-! ### Caldera (chapter 7) -/

/-- Where a chunk of a host line stands (R286 to R291); `never`: its deadline passed before it was queued. -/
inductive ChunkSt where
  | queued
  | issued
  | valid
  | never
  | failed
  | dropped
  | done
  deriving DecidableEq, Repr

structure Chunk where
  u0 : Int
  read : Bool
  st : ChunkSt
  missed : Bool := false
  issuedAt : Nat := 0
  deriving DecidableEq, Repr

/-- A host line (R284), as the host-line table and the line's registers hold it. -/
structure Line where
  mapped : Bool := false
  owner : Nat := 0
  hbase : Nat := 0
  f : Nat := 1
  len : Nat := 0
  c : Nat := 0
  lead : Nat := 0
  rd : Option (Nat × Nat) := none
  wmax : Option Nat := none
  sr : Nat := 0
  sw : Nat := 0
  stageQ : Nat := 0
  eng : Nat := 0
  dld : Nat := 0
  dom : Nat := 0
  act : Nat := 0
  drainAt : Nat := 0
  wbNext : Int := 0
  costDn : Nat := 0
  costUp : Nat := 0
  seq : Nat := 0
  chunks : List Chunk := []
  deriving DecidableEq, Repr

/-- A translation-cache entry (R280). Entries of a set stand most recently used first. -/
structure Tlb where
  ctx : Nat
  tag : Nat
  rd : Bool
  wr : Bool
  ns : Bool
  page : Nat
  deriving DecidableEq, Repr

/-- A watch-table entry (R259), oldest first in the table. -/
structure Watch where
  row : Nat
  count : Nat
  deriving DecidableEq, Repr

/-- Sinter in Caldera (R297 to R299): region, holding buffer, its poison by ECC word, redirect. -/
structure Sinter where
  active : Bool := false
  region : Nat := 0
  started : Bool := false
  lastStart : Nat := 0
  buf : List Byte := []
  poison : List Bool := []
  deriving DecidableEq, Repr

/-- Sinter in one engine's local memory (R300). -/
structure LmSinter where
  next : Nat := 0
  active : Bool := false
  lastTick : Nat := 0
  buf : List Word := []
  deriving DecidableEq, Repr

/-- Caldera. `epochs` and `tileEpochs` count how often a quarter or a tile has lost its contents, `cleared` is the epoch of a
quarter that was cleared to 0 (R694); `pmSpare` counts the spare rows in use of an engine's program store (R684); `logSpare`, `logTiles` and `logRemap` are what the repair log in the flash holds (R309). -/
structure CalderaState where
  bytes : List Host.Cell := []
  epochs : SMap Nat := []
  cleared : SMap Nat := []
  tileEpochs : SMap Nat := []
  soft : SMap Nat := []
  hard : SMap Nat := []
  tiles : SMap (Nat × Nat) := []
  watch : List Watch := []
  failing : SMap Bool := []
  spare : SMap Nat := []
  sinter : Sinter := {}
  lmHard : SMap Nat := []
  lmSinter : SMap LmSinter := []
  lmFailing : SMap Bool := []
  lmSpare : SMap Nat := []
  lmTold : SMap Bool := []
  lines : SMap Line := []
  roots : SMap (Option Nat) := []
  tlb : SMap (List Tlb) := []
  repairPending : Bool := false
  pmSpare : SMap Nat := []
  logSpare : SMap Nat := []
  logTiles : SMap (Nat × Nat) := []
  logRemap : List Word := []
  deriving DecidableEq, Repr

end Sys2Proof.Machine
end

