-- ==== Sys2Proof/Machine/StateHost.lean ====
section
/-! DEFINITION. The state of the contexts (chapter 9). -/

namespace Sys2Proof.Machine

/-- How far an accepted descriptor has come (R364 to R368, R380). `result` is set when its effect is complete,
`mark` when the effect mark stands in the journal, `record` when its completion record has been issued. -/
structure OpenDesc where
  seq  : Nat
  typ  : Nat
  irq  : Bool := false
  barrier : Bool := false
  extra : Nat := 0
  tag  : BitVec 64 := 0
  body : BitVec 384 := 0
  started : Bool := false
  granted : Bool := false
  staged  : Bool := false
  wait    : BitVec 32 := 0
  named   : BitVec 32 := 0
  due     : Option Nat := none
  late    : Bool := false
  result  : Option Nat := none
  mark    : Bool := false
  record  : Bool := false
  slot    : Nat := 0
  notBefore : Nat := 0
  deriving DecidableEq, Repr

/-- The newest event log entry (R383). -/
structure Event where
  sidx : Nat
  kind : Nat
  eng  : Nat
  seg  : Nat
  rep  : Nat
  detail : Nat
  deriving DecidableEq, Repr

/-- A context (R355 to R385): ring indexes, journal, open descriptors in ring order, completion and event bookkeeping.
`marks` holds the journal's effect marks by slot. Its registers stand in the register file. -/
structure Ctx where
  p : BitVec 32 := 0
  c : BitVec 32 := 0
  k : BitVec 32 := 0
  w : BitVec 32 := 0
  nextSeq : BitVec 32 := 0
  lastDone : BitVec 32 := 0
  evprod : BitVec 32 := 0
  update : BitVec 32 := 0
  valid : Bool := false
  marks : SMap Word := []
  opens : List OpenDesc := []
  evCons : BitVec 32 := 0
  lastEvent : Option Event := none
  evCount : SMap Word := []
  notice : Option (BitVec 32) := none
  recSince : Nat := 0
  irqDue : Bool := false
  lastIrq : Option Nat := none
  fetchFail : Option Nat := none
  quiet : Bool := false
  deriving DecidableEq, Repr

end Sys2Proof.Machine
end

