-- ==== Sys2Proof/Machine/StatePort.lean ====
section
/-! DEFINITION. The state of the route matrix, bridges, ASRC, streams, movers, audio ports and DACs (chapters 8, 10, 12). -/

namespace Sys2Proof.Machine

/-! ### Fades (R333) -/

/-- Where a fade stands: delivering 0, delivering the live value, the j-th tick of n of a fade out or in. -/
inductive FadeSt where
  | silent
  | full
  | out (j n : Nat)
  | fadeIn (j n : Nat)
  deriving DecidableEq, Repr

/-- The fade of an object with numbered channels: where it stands, the values a fade out started from, the values
delivered at the last tick. -/
structure Fade where
  st   : FadeSt := .silent
  from' : SMap Word := []
  outs : SMap Word := []
  deriving DecidableEq, Repr

/-! ### Route matrix (chapter 8) -/

/-- A crosspoint entry (R318 to R324): state 0 FREE, 1 LIVE, 2 CLEARING, 3 STAGED. -/
structure Xpoint where
  src : Nat := 0
  sink : Nat := 0
  owner : Nat := 0
  st : Nat := 0
  ramp : Ramp := {}
  deriving DecidableEq, Repr

/-- A rate bridge: its input history, newest first, and its last output (R334, R335). -/
structure Bridge where
  hist : List Word := []
  phase : Nat := 0
  out : Word := 0
  deriving DecidableEq, Repr

/-- An ASRC channel: input history since it was enabled, fade, ratio estimate's stable time, values for its endpoint. -/
structure AsrcCh where
  hist : List Word := []
  count : Nat := 0
  fade : Fade := {}
  out : Word := 0
  deriving DecidableEq, Repr

structure RouteState where
  xps : SMap Xpoint := []
  srcs : SMap Word := []
  bufs : SMap Word := []
  rels : SMap Word := []
  computed : Bool := true
  bridges : SMap Bridge := []
  asrc : SMap AsrcCh := []
  deriving DecidableEq, Repr

/-! ### Streams and movers (chapter 10) -/

/-- A ring entry the device has taken (R396): frames given to movers, frames moved between host and FIFO, the FIFO
frame count at its first frame, sample index of that frame, status once the entry must end. -/
structure StrEnt where
  buf : Nat
  len : Nat
  irq : Bool
  issued : Nat := 0
  moved : Nat := 0
  start : Nat := 0
  sidx : Nat := 0
  status : Option Nat := none
  deriving DecidableEq, Repr

/-- An open stream (R392 to R411). `st` is the state byte of R395. `entries` are those between `cons` and `prod`. `rd`
and `wr` count FIFO frames taken out and put in; `live` is the last frame taken out on playback; `stamps` are the sample
indexes of the frames in a capture FIFO; `quiet` forbids writes to the host (R439). -/
structure Stream where
  ctx : Nat
  ring : Nat
  capture : Bool
  media : Bool
  dom : Nat
  rate : Nat
  chans : Nat
  fmt : Nat
  layout : Nat
  burst : Nat
  share : Nat
  mics : BitVec 16
  flog : Nat
  fq : Nat
  base : Nat
  size : Nat
  st : Nat := 2
  prod : BitVec 32 := 0
  cons : BitVec 32 := 0
  entries : List StrEnt := []
  rd : Nat := 0
  wr : Nat := 0
  tokens : Nat := 0
  fade : Fade := {}
  live : List Word := []
  stamps : List Nat := []
  closing : Bool := false
  quiet : Bool := false
  wasParked : Bool := false
  closeBy : Option (Nat × Nat) := none
  under : Nat := 0
  sat : Nat := 0
  lat : Nat := 0
  fail : Nat := 0
  deriving DecidableEq, Repr

/-- A DMA_COPY or CRC_CHECK under way, with its checkpoint (R412 to R414): `pos` bytes done, `issued` bytes given to
movers, check remainder, check unit held. -/
structure Copy where
  ctx : Nat
  seq : Nat
  src : Nat
  dst : Nat
  len : Nat
  srcCal : Bool
  dstCal : Bool
  isCheck : Bool
  check : Nat
  expect : Nat
  pos : Nat := 0
  issued : Nat := 0
  rem : Nat := 0
  unit : Option Nat := none
  start : Nat := 0
  parked : Bool := false
  deriving DecidableEq, Repr

/-- A work item (R389). -/
inductive Work where
  | burst (stream ent off frames : Nat)
  | chunk (line : Nat) (u0 : Int) (read : Bool)
  | copy (ctx seq off len : Nat)
  | resync (set : Nat)
  deriving DecidableEq, Repr

/-- A mover's work: whether its requests have been issued (else a translation walk is under way), and when it was
taken. -/
structure Job where
  work : Work
  issued : Bool := false
  at' : Nat := 0
  deriving DecidableEq, Repr

/-- `chunks` are the host-line chunks that wait for a mover (line, first tick-time, read band); `walks` the walks under
way (context, window address, class). A context's copy bucket that is not listed is full. -/
structure MoverState where
  streams : SMap (Option Stream) := []
  copies : List Copy := []
  movers : SMap (Option Job) := []
  copyTokens : SMap Nat := []
  chunks : List (Nat × Int × Bool) := []
  walks : List (Nat × Nat × Nat) := []
  lastRefill : Nat := 0
  resets : Nat := 0
  deriving DecidableEq, Repr

/-! ### Ports (chapter 12) -/

/-- A TDM port. `rx` holds complete frames not yet frozen, `frozen` the values last frozen; `txSets` the released sets
that wait for a frame, each with the time of its tick; `sent` what the last frame carried, `none` for a slot at high
impedance. `run` counts consecutive consistent frames in WAIT; `needReset` waits for Keeper's K0 run; `rxStart` and `txStart` say
that a fade in begins at the next tick of the port's domain. `txPrev` is empty until the first set is sent. -/
structure Tdm where
  rx : List (List Word) := []
  frozen : List Word := []
  rxFade : Fade := {}
  txFade : Fade := {}
  txSets : List (Nat × List Word) := []
  txPrev : List Word := []
  sent : List (Option Word) := []
  run : Nat := 0
  needReset : Bool := false
  rxStart : Bool := false
  txStart : Bool := false
  deriving DecidableEq, Repr

/-- A PDM microphone: buffer, frozen value, decimator input since it was enabled, fade, muted before SETTLE ends. -/
structure Mic where
  rx : List Word := []
  frozen : Word := 0
  bits : List Word := []
  fade : Fade := {}
  settling : Bool := false
  since : Nat := 0
  clocked : Bool := false
  deriving DecidableEq, Repr

/-- The S/PDIF receiver: good frames in a row, bad ones in a row, previous samples, channel-status bits gathered in
the block (A, B), the words held and those latched by a read of CS_A0 (0 to 5 A, 6 to 11 B). -/
structure SpdifRx where
  good : Nat := 0
  bad : Nat := 0
  rateRun : Nat := 0xF
  prevA : Word := 0
  prevB : Word := 0
  csA : List Bool := []
  csB : List Bool := []
  gathering : Bool := false
  held : SMap Word := []
  latched : SMap Word := []
  deriving DecidableEq, Repr

/-- An S/PDIF transmitter: channel status in use and complete copy that waits, released sets that wait, last values,
position in the block, last frame sent (two 24-bit samples, V, channel-status bit, block start). The staging copy is the
registers CS0 to CS5. -/
structure SpdifTx where
  active : SMap Word := []
  waiting : SMap Word := []
  txSets : List (Nat × List Word) := []
  txPrev : List Word := []
  pos : Nat := 0
  sent : List (BitVec 24) := []
  sentV : Bool := false
  sentC : Bool := false
  sentZ : Bool := false
  deriving DecidableEq, Repr

/-- A DAC channel: where a FADING goes (true: RAMP_DOWN), code, fade, when the FADING began. -/
structure Dac where
  down : Bool := false
  fade : Fade := {}
  code : BitVec 24 := 0
  since : Nat := 0
  deriving DecidableEq, Repr

/-- A DAC group: STRB_LOST present, when its faults ended, time of the last LDS edge, how often the released set has been
loaded. -/
structure DacGrp where
  strbLost : Bool := false
  clearAt : Option Nat := none
  lastEdge : Nat := 0
  loads : Nat := 0
  deriving DecidableEq, Repr

structure PortState where
  tdm : SMap Tdm := []
  mics : SMap Mic := []
  spr : SpdifRx := {}
  spt : SMap SpdifTx := []
  dacs : SMap Dac := []
  grps : SMap DacGrp := []
  deriving DecidableEq, Repr

end Sys2Proof.Machine
end

