-- ==== Sys2Proof/Machine/StatePcie.lean ====
section
/-! DEFINITION. The state of the PCIe endpoint (chapter 11). -/

namespace Sys2Proof.Machine

/-- A function's configuration registers as far as the device acts on them: Command (Memory Space Enable, Bus Master
Enable), power state, MSI-X Message Control, AER status (sticky), Transactions Pending. -/
structure PcieFn where
  mse : Bool := false
  bme : Bool := false
  d3  : Bool := false
  msixEn : Bool := false
  fmask : Bool := false
  cor : BitVec 32 := 0
  uncor : BitVec 32 := 0
  pendTx : Bool := false
  deriving DecidableEq, Repr

/-- An MSI-X table entry with its pending bit (R426, R430). -/
structure Msix where
  addr : Nat := 0
  data : Word := 0
  mask : Bool := true
  pend : Bool := false
  deriving DecidableEq, Repr

/-- A read that the link layer has been given: tag, function, requester, when (R435, R436). -/
structure Outst where
  tag : Nat
  func : Nat
  who : ReadFor
  at' : Nat
  deriving DecidableEq, Repr

/-- The endpoint. `devCtl`, `devCtl2`, `lnkCtl` are the PF's Device Control, Device Control 2 and Link Control;
`msix` is keyed 1024 × function + entry; `dead` lists the tags not to be reused (tag, function, until when);
`tol` is the tolerance of R444 last reported, in ns; `trained` says that the link has trained since the last reset that makes the device choose its personality. -/
structure PcieState where
  fns : SMap PcieFn := []
  msix : SMap Msix := []
  devCtl : BitVec 16 := 0x2810
  devCtl2 : BitVec 16 := 0
  lnkCtl : BitVec 16 := 0
  vfEn : Bool := false
  vfMse : Bool := false
  vfTag10 : Bool := false
  numVfs : Nat := 0
  outst : List Outst := []
  dead : List (Nat × Nat × Nat) := []
  trained : Bool := false
  pmeEn : Bool := false
  pmeStat : Bool := false
  lastBusy : Nat := 0
  tol : Option Nat := none
  deriving DecidableEq, Repr

end Sys2Proof.Machine
end

