-- ==== Sys2Proof/Machine/StateSys.lean ====
section
/-! DEFINITION. The state of the clocks, Keeper and Relief, and power (chapters 13, 15, 18). -/

namespace Sys2Proof.Machine

/-! ### Clocks (chapter 13) -/

/-- A PLL: when it entered its state, when it last slipped, when K0 may relock it again (R519), a loss that K0 has not yet
acted on. -/
structure Pll where
  since : Nat := 0
  slipAt : Nat := 0
  again : Nat := 0
  newLoss : Bool := false
  deriving DecidableEq, Repr

/-- A clock output's phase steps: not yet applied at a time, and all that were accepted (R516). -/
structure Cko where
  pend : Int := 0
  at' : Nat := 0
  phase : Int := 0
  deriving DecidableEq, Repr

/-- The clocks. `nco` is the accumulator of the holdover synthesiser; `okSince` says since when the events of an external
PREV_SRC have stayed within their limits, `prevEv` when the last one came; `lostNew` is a loss of D0's source that K0 has
not yet acted on; `win` counts ticks in the measuring window; `holdWhy` is the reason of the move to holdover. -/
structure ClkState where
  plls : SMap Pll := []
  nco : Nat := 0
  okSince : Option Nat := none
  prevEv : Nat := 0
  lostNew : Bool := false
  win : Nat := 0
  holdWhy : Nat := 0
  ckos : SMap Cko := []
  pairAct : BitVec 2 := 0
  deriving DecidableEq, Repr

/-! ### The cascade link (chapter 14) -/

/-- A message (R545). `seq` is set when it is first sent, `sentAt` is the frame of the last sending, `resend` says that it
must be sent again; `desc` names the CASC_SEND it belongs to. -/
structure Msg where
  kind : Nat
  dst : Nat
  src : Nat := 0
  all : Bool := false
  ctx : Nat := 0
  payload : List Word
  seq : Option Nat := none
  sentAt : Nat := 0
  resend : Bool := false
  desc : Option (Nat × Nat) := none
  deriving DecidableEq, Repr

/-- What a device keeps for a peer (R550, R551, R555): next send sequence, expected receive sequence, session number
last seen, an acknowledgement owed. -/
structure Peer where
  send : Nat := 0
  expect : Nat := 0
  session : Option Nat := none
  owes : Bool := false
  deriving DecidableEq, Repr

/-- The audio part of a received frame (R543, R544). -/
structure RxFrame where
  sidx : Nat
  epoch : Nat
  audOk : Bool
  copyValid : Bool
  audio : List Word
  deriving DecidableEq, Repr

/-- A cascade channel as a source (R332, R544): last good value, consecutive lost frames, consistent frames since, fade. -/
structure CasCh where
  last : Word := 0
  lost : Nat := 3
  good : Nat := 0
  frame : Option Nat := none
  fade : Fade := {}
  deriving DecidableEq, Repr

/-- The beacon of the last good header (R533, R536). -/
structure Beacon where
  sidx : Nat
  epoch : Nat
  rate : Nat
  run : Bool
  deriving DecidableEq, Repr

/-- A relayed write that waits to be joined with the next (R561): function, class, address, bytes. -/
structure Join where
  func : Nat
  cls : Nat
  addr : Nat
  data : List Byte
  deriving DecidableEq, Repr

/-- The NGX port, its message sequencer and relay. `msgs` are messages to send or sent and not acknowledged, in queue
order; `inbox` the received messages that wait to be acted on; `frames` counts the frames that have passed; `base` is the
index of the epoch tick; `ret` the audio words and `retSlots` the message slots of the frame that returned to the master;
`sess` words 48 to 63 of the last good header; `start` the index of a beacon that D0 starts from; `adopted` the EPOCH
adopted; `rejoin` asks Keeper to take D0 back to the beacon (R540); `rel` the cascade values released at the last ticks;
`answered` the decisions acted on; `join` the relayed writes held for joining; `store` the DATA messages of a proxy context;
`sent` the last frame sent, none for idle words only; `relayTag` the next tag of a relayed read and `got` the answers held
until all of a reader's have come (outstanding tag, data, status). In the inbox `resend` marks a host read that has been
issued. -/
structure NgxState where
  msgs : List Msg := []
  inbox : List Msg := []
  peers : SMap Peer := []
  frames : Nat := 0
  frameCnt : Word := 0
  epoch : BitVec 16 := 0
  base : Nat := 0
  ret : Option (List Word) := none
  retSlots : List (List Word) := []
  sess : List Word := []
  beacon : Option Beacon := none
  adopted : Option Nat := none
  start : Option Nat := none
  contOk : Bool := false
  rejoin : Bool := false
  good : Nat := 0
  loss : Nat := 0
  aligned : Nat := 0
  rx : List RxFrame := []
  rel : List (Nat × SMap Word) := []
  cas : SMap CasCh := []
  answered : List (Nat × Nat × Bool) := []
  join : SMap (Option Join) := []
  store : SMap (List (List Word)) := []
  sent : Option (List Word) := none
  relayTag : Nat := 0
  got : List (Nat × List Byte × Nat) := []
  deriving DecidableEq, Repr

/-! ### Keeper and Relief (chapter 15) -/

/-- A history record of the Lantern page (R388, R590): sample index, kind, reason, when it began, duration in ms once it
has ended, count of its kind. -/
structure Hist where
  sidx : Nat
  kind : Nat
  reason : Nat
  start : Nat
  dur : Option Nat
  count : Nat
  deriving DecidableEq, Repr

/-- Keeper and Relief. `hbAt`: last heartbeat or counted miss; `waitFirst`: no heartbeat yet since Keeper's release at
`released`; `starts`: when the recoveries within the last 60 s started; `trigAt`: the last trigger; `halted`: a debug
session holds Keeper; `lanSeq`: the Lantern page's sequence number; `tally`: the page's cumulative counters. -/
structure KeepState where
  hbAt : Nat := 0
  waitFirst : Bool := false
  released : Nat := 0
  starts : List Nat := []
  trigAt : Nat := 0
  halted : Bool := false
  lanSeq : Nat := 0
  lanAt : Nat := 0
  hist : List Hist := []
  histCount : SMap Nat := []
  tally : SMap Nat := []
  deriving DecidableEq, Repr

/-! ### Power (chapter 18) -/

/-- A POWER_SET that Keeper executes: its descriptor, the islands and their wanted state, FORCE, the contexts that owned
a live allocation in an island (island, context). -/
structure PowerOp where
  ctx : Nat
  seq : Nat
  isl : BitVec 14
  on : BitVec 14
  force : Bool := false
  owners : List (Nat × Nat) := []
  deriving DecidableEq, Repr

/-- What follows the down sequence (R667 to R670): DORMANT, another try after tRETRY, the up sequence at once. -/
inductive SeqNext where
  | dormant
  | retry
  | up
  deriving DecidableEq, Repr

/-- Where the supply sequencer stands (R667): all rails on, raising step n (0 to 2), waiting to retry, with n enables
dropped, all off. -/
inductive SeqSt where
  | on
  | up (step : Nat)
  | retry
  | down (step : Nat) (next : SeqNext)
  | off
  deriving DecidableEq, Repr

/-- Power. `en` are the outputs PWR_EN0 to 2; `seqAt` is when the sequencer entered its state; `entered` is when
DORMANT was entered; `held` a wake source that came during the down sequence; `next` the reason of the start-up that follows;
`wakePin`: WAKE_N is driven, since `wakeAt`, with `perstLow` once PERST_N has been low; `shed` lists the shed clusters, last
first; `due` those to be shed at the next tick; `lastShed` is the last shed, `shedAt` the last shed or restore; `belowAt`
since when the readings have stayed below the limits; `capWhy` the reason of the first shed; `tripPin`: FAULT_N is driven by
R679; `dormWait`: DORMANT has been asked for, and the DACs have still to reach CLAMP. -/
structure PowerState where
  en : BitVec 3 := 7
  seq : SeqSt := .on
  seqAt : Nat := 0
  entered : Nat := 0
  held : Option Nat := none
  next : Nat := 0
  wakePin : Bool := false
  wakeAt : Nat := 0
  perstLow : Bool := false
  perstHeld : Bool := true
  op : Option PowerOp := none
  shed : List Nat := []
  due : List Nat := []
  lastShed : Option Nat := none
  shedAt : Nat := 0
  dormWait : Bool := false
  belowAt : Option Nat := none
  capWhy : Nat := 0
  tripPin : Bool := false
  deriving DecidableEq, Repr

end Sys2Proof.Machine
end

