-- ==== Sys2Proof/Machine/StateBoot.lean ====
section
/-! DEFINITION. The state of start-up, security, the SPI ports, self-test, the TAP and the GPIO (chapters 16, 17, 19, 20). -/

namespace Sys2Proof.Machine

/-! ### Start-up and security (chapter 16) -/

/-- An audit entry's three words (R631). -/
structure Audit where
  w0 : Word
  w1 : Word
  w2 : Word
  deriving DecidableEq, Repr

/-- A logged DAYMARK2 measurement (R608). -/
structure Mlog where
  digest : List Byte
  num : Nat
  ctx : Nat
  deriving DecidableEq, Repr

/-- An operation whose result appears at a fixed time (R629): when it was requested, whether it passes, and for the image
mailbox BOOT, WRITE, the SPI slave as its source, whether the bundle has still to be read, its length, the bundle; reason and detail of the audit
entry if it is refused. -/
structure FixOp where
  at' : Nat
  ok : Bool
  boot : Bool := false
  write : Bool := false
  spis : Bool := false
  waits : Bool := false
  len : Nat := 0
  reason : Nat := 0
  detail : Nat := 0
  bundle : List Byte := []
  deriving DecidableEq, Repr

/-- Start-up, fuses and the SEC block. `phase`: 0 before step 1 of R597, 1 WAKE, 2 trying sources, 3 the stage-1 image of
`cur` has passed, 4 stage-1 (or the ROM) handles the Keeper image, 5 Keeper initialises, 6 started. Sources are numbered as
BOOT.STAT.SOURCE; `left` are those still to try, `last` those tried already in this start, `cascAt` and `awaitAt` say when the
cascade source or the wait in AWAIT_IMAGE began, `wd` when the watchdog started. `att`, `lastSlot` (0 A, 1 B, 2 golden),
`fails`, `backUntil` and `starts` stand in the AON retention; `fullAt` is the last full device reset. `fuses` are the
programmed words, `vals` the words as decided at step 3, `marg` the marginal ones. `img` is a mailbox or cascade image;
`bootNext` is the offset of the next piece
to ask for (R562), `bootDone` that the start must end in MINIMAL (R617). `flash` are the flash's bytes, erased ones unlisted;
`tcm` Keeper's TCM. `dmAt` is the last SEC.DM_CMD.GO. -/
structure BootState where
  att : Nat := 0
  lastSlot : Option Nat := none
  fails : Nat := 0
  backUntil : Nat := 0
  starts : Nat := 0
  fullAt : Nat := 0
  phase : Nat := 0
  reason : Nat := 0
  cur : Nat := 0
  left : List Nat := []
  awaitAt : Nat := 0
  cascAt : Nat := 0
  wd : Option Nat := none
  fuses : SMap Word := []
  vals : SMap Word := []
  marg : SMap Bool := []
  img : List Byte := []
  bootNext : Nat := 0
  bootDone : Bool := false
  stage1Ver : Nat := 0
  keeperVer : Nat := 0
  keyIdx : Nat := 0
  flash : List Host.Cell := []
  tcm : List Host.Cell := []
  audit : List Audit := []
  mlog : List Mlog := []
  dmAt : Option Nat := none
  chalAt : Nat := 0
  chalOk : Bool := false
  dbg : Option FixOp := none
  dbgFrom : Nat := 0
  mbx : Option FixOp := none
  upd : Option FixOp := none
  arb : Option FixOp := none
  otp : Option FixOp := none
  minFrames : Nat := 0
  deriving DecidableEq, Repr

/-! ### SPI master (chapter 17) -/

/-- A flash command (R643, R644): who asked (1 Keeper's combine buffer, 2 Keeper's command port, 3 the PF, 4 the SPI slave
mailbox), operation as in R644, address, bytes; `mask` says which bytes were written. -/
structure FlashCmd where
  who : Nat
  op : Nat
  addr : Nat
  len : Nat := 0
  data : List Byte := []
  mask : List Bool := []
  at' : Nat := 0
  deriving DecidableEq, Repr

/-- The SPI master. `cache`: each set's lines, most recently used first, by tag with their 64 bytes; `comb`: the combine
buffer's page and written bytes; `held`: the controller is in reset since then; `poll`: the flash is still busy after a timeout or
a reset; `reads`: Keeper's window reads that wait; `kData`: the byte that the last window read delivered, `kFail`: the failure
reported to Keeper. -/
structure SpimState where
  cmd : Option FlashCmd := none
  queue : List FlashCmd := []
  cache : SMap (List (Nat × List Byte)) := []
  combPage : Nat := 0
  comb : SMap (Option Byte) := []
  combAt : Nat := 0
  held : Option Nat := none
  poll : Bool := false
  reads : List Nat := []
  kData : Byte := 0
  kFail : Bool := false
  deriving DecidableEq, Repr

/-! ### SPI slave (chapter 17) -/

/-- The SPI slave. `reply` is the held reply's op, flags, result and data; `last` is alive and CRC of the last executed
request; `bad` and `drop` are to be reported in the next reply; `busy`: a mailbox request is executing; `out` is what the last
transaction sent on SPIS_MISO. -/
structure SpisState where
  reply : Option (Nat × Nat × Nat × Nat) := none
  last : Option (Nat × Nat) := none
  unread : Bool := false
  bad : Bool := false
  drop : Bool := false
  busy : Option (Nat × Nat) := none
  out : List Byte := []
  deriving DecidableEq, Repr

/-! ### Self-test and TAP (chapter 19) -/

/-- The self-test sequencer. `run` is the test byte of the test that runs, `started` when it started, `done` the codes run
already, `desc` the TEST_RUN, `touched` the clusters to reset; then the counts and masks of the result record; `record` is
the last result record. -/
structure TestState where
  run : Option Nat := none
  started : Nat := 0
  done : List Nat := []
  desc : Option (Nat × Nat) := none
  touched : BitVec 8 := 0
  pmFail : Word := 0
  lmFail : Word := 0
  calFail : BitVec 64 := 0
  rows : Nat := 0
  misrs : SMap (BitVec 64) := []
  misrFab : BitVec 64 := 0
  bad : Bool := false
  noCmp : Bool := false
  record : List Byte := []
  deriving DecidableEq, Repr

/-- The TAP: instruction register, boundary register, what the selected data register captured, whether the chip is held
in reset (R693), whether the internal chains are open (R694). -/
structure TapState where
  ir : Nat := 2
  bsr : BitVec 412 := 0
  dr : BitVec 832 := 0
  held : Bool := false
  scan : Bool := false
  deriving DecidableEq, Repr

/-- The GPIO pulse functions, by FN code: when the last pulse began (R704). -/
structure GpioState where
  pulse : SMap (Option Nat) := []
  deriving DecidableEq, Repr

end Sys2Proof.Machine
end

