-- ==== Sys2Proof/Machine/State.lean ====
section
/-! DEFINITION. The state of the block, its reset, and the reasons a command can stop. -/

namespace Sys2Proof.Machine

/-- A reason to stop with a fault. Nothing in the spec stops the device with a fault, and no command of the model
raises one, so the type has no constructor. -/
inductive Fault where
  deriving DecidableEq, Repr

/-- A reason to refuse a command. -/
inductive Refusal where
  /-- Raised by the dispatch for a command that has no meaning yet; safe. -/
  | notModelled (mnemonic : String)
  deriving DecidableEq, Repr

/-- What TOP.MODE.CODE is derived from (R660, R661). `boot` is the start-up mode, of use until firmware has first
reached IDLE (`started`); `boot = 4` is MINIMAL, which only a full device reset leaves. -/
structure ModeState where
  dormant : Bool := false
  started : Bool := false
  boot    : Nat := 1
  baseRun : Bool := false
  runPend : Bool := false
  recovery : Bool := false
  selfTest : Bool := false
  session : Bool := false
  deriving DecidableEq, Repr

/-- The whole state. `pending` is the queue of waiting commands, first in first out; `now` counts FAB cycles;
`freeCtr` is the model's own counter for free values; `regs` holds every BAR0 register bit that is stored, by offset;
`latches` the high-half latches of R10; `rdata` what the last BAR0 read returned. -/
structure State where
  pending : List Instr := []
  now     : Nat := 0
  freeCtr : Nat := 0
  regs    : SMap Word := []
  latches : SMap Word := []
  rdata   : Word := 0
  eng     : SMap Engine := []
  chainNow : List ChainWrite := []
  chainId : Nat := 0
  chainFrz : SMap FrozenPort := []
  chainTorn : List (Nat × Nat) := []
  chainIn : SMap (Quad Word) := []
  fab     : FabricState := {}
  tick    : TickState := {}
  par     : ParamState := {}
  cal     : CalderaState := {}
  res     : SMap (Option Nat) := []
  ctx     : SMap Ctx := []
  mode    : ModeState := {}
  route   : RouteState := {}
  mov     : MoverState := {}
  port    : PortState := {}
  pcie    : PcieState := {}
  clk     : ClkState := {}
  keep    : KeepState := {}
  pwr     : PowerState := {}
  ngx     : NgxState := {}
  boot    : BootState := {}
  spim    : SpimState := {}
  spis    : SpisState := {}
  test    : TestState := {}
  tap     : TapState := {}
  gpio    : GpioState := {}
  deriving DecidableEq, Repr

/-- The state right after a full device reset. -/
def State.reset : State := {}

end Sys2Proof.Machine
end

