-- ==== Sys2Proof/Machine/Ops.lean ====
section
/-! DEFINITION. The named operations over the state: registers, free values, mode, engines, events. -/

namespace Sys2Proof.Machine

/-! ### Stored registers -/

/-- The stored value of the register at a BAR0 offset. -/
def State.reg (s : State) (off : Nat) : Word := SMap.get regReset s.regs off

/-- Sets the stored value of a register. -/
def State.setReg (s : State) (off : Nat) (v : Word) : State :=
  { s with regs := SMap.set regReset s.regs off v }

/-- A field of a register. -/
def State.rfld (s : State) (off lo len : Nat) : Nat := fld (s.reg off) lo len

/-- A bit of a register. -/
def State.rbit (s : State) (off b : Nat) : Bool := bit (s.reg off) b

/-- Sets a field of a register. -/
def State.setFld (s : State) (off lo len v : Nat) : State := s.setReg off (putFld (s.reg off) lo len v)

/-- Sets a bit of a register, as hardware sets a sticky flag. -/
def State.setBit (s : State) (off b : Nat) (v : Bool) : State := s.setReg off (putBit (s.reg off) b v)

/-- Increments a counter field that saturates (RC fields). -/
def State.bump (s : State) (off lo len : Nat) : State :=
  s.setFld off lo len (min (s.rfld off lo len + 1) (2 ^ len - 1))

/-- Adds to a counter field that saturates. -/
def State.bumpBy (s : State) (off lo len k : Nat) : State :=
  s.setFld off lo len (min (s.rfld off lo len + k) (2 ^ len - 1))

/-- Raises a high-water mark field that saturates. -/
def State.hwm (s : State) (off lo len v : Nat) : State :=
  s.setFld off lo len (max (s.rfld off lo len) (min v (2 ^ len - 1)))

/-- Increments a counter field that wraps. -/
def State.count (s : State) (off lo len : Nat) : State := s.setFld off lo len (s.rfld off lo len + 1)

/-- The number that two consecutive registers hold, low half first. -/
def State.reg64 (s : State) (off : Nat) : Nat := (s.reg off).toNat + 2 ^ 32 * (s.reg (off + 4)).toNat

/-- Sets two consecutive registers to a 64-bit number. -/
def State.setReg64 (s : State) (off v : Nat) : State :=
  (s.setReg off (BitVec.ofNat 32 v)).setReg (off + 4) (BitVec.ofNat 32 (v / 2 ^ 32))

/-! ### Free values -/

/-- A fresh free value, and the state with the counter advanced. -/
def State.draw (s : State) : BitVec 64 × State :=
  (Config.freeValue s.freeCtr, { s with freeCtr := s.freeCtr + 1 })

/-! ### Mode (R659 to R661) -/

/-- The fixed audio path of MINIMAL is enabled (R618). -/
def State.minPath (s : State) : Bool := s.mode.boot == 4 && !s.mode.started && s.rbit rBootMinCfg 31

/-- D0 runs: the base state is RUN, so the device is in a running mode of R50. -/
def State.d0Running (s : State) : Bool := s.mode.baseRun

/-- The hold condition of R661. -/
def State.holdCond (s : State) : Bool :=
  s.rfld (rClkTickStat 0) 0 4 == 0xA || s.rfld rClkPllsStat 0 2 == 3

/-- Whether a cluster is shed (R675). -/
def State.capped (s : State) : Bool := s.rfld rPwrCapStat 0 8 != 0

/-- The mode below a debug session, by the rows of R661. -/
def State.modeUnder (s : State) : Nat :=
  if s.mode.dormant then 0
  else if !s.mode.started then s.mode.boot
  else if s.mode.recovery then 9
  else if s.mode.selfTest then 0xA
  else if !s.mode.baseRun then 5
  else if s.holdCond then 8
  else if s.capped then 7
  else 6

/-- TOP.MODE.CODE (R661). -/
def State.modeCode (s : State) : Nat :=
  if s.mode.session && !s.mode.dormant then 0xB else s.modeUnder

/-- TOP.MODE as read (R659). -/
def State.modeWord (s : State) : Word :=
  BitVec.ofNat 32 (s.modeCode + (if s.holdCond then 0x100 else 0) + (if s.capped then 0x200 else 0)
    + (if s.mode.session then 0x400 else 0))

/-! ### Lantern counters and history (R388, R590) -/

/-- Adds to a cumulative counter of the Lantern page: 0 to 7 overruns of a cluster, 8 to 11 conflict grants of a quarter,
12 late chunks, 13 write-back chunks dropped, 14 commits applied late; 16 to 23 are the largest tick cycles of a cluster
since the last page, 24 to 29 the longest waits of a class since then. -/
def State.tally (s : State) (k : Nat) : State :=
  { s with keep := { s.keep with tally := SMap.modify (fun _ => 0) s.keep.tally k (· + 1) } }

def State.tallyMax (s : State) (k v : Nat) : State :=
  { s with keep := { s.keep with tally := SMap.modify (fun _ => 0) s.keep.tally k (max v) } }

/-- A history record begins; the page keeps eight. `dur` is given for an event without a duration. -/
def State.histBegin (s : State) (kind reason : Nat) (dur : Option Nat) : State :=
  let n := SMap.get (fun _ => 0) s.keep.histCount kind + 1
  { s with keep := { s.keep with
    histCount := SMap.set (fun _ => 0) s.keep.histCount kind n
    hist := (⟨s.tick.sidx, kind, reason, s.now, dur, n⟩ :: s.keep.hist).take 8 } }

/-- The open record of a kind ends. -/
def State.histEnd (s : State) (kind : Nat) : State :=
  { s with keep := { s.keep with hist := s.keep.hist.map fun h =>
      if h.kind = kind && h.dur.isNone then { h with dur := some (min 0xFFFE ((s.now - h.start) / 1228800)) } else h } }

/-! ### Engines -/

/-- Engine `e`, by the sparse table of engines. -/
def State.engine (s : State) (e : Nat) : Engine := SMap.get (fun _ => {}) s.eng e

def State.setEngine (s : State) (e : Nat) (x : Engine) : State :=
  { s with eng := SMap.set (fun _ => {}) s.eng e x }

def State.modEngine (s : State) (e : Nat) (f : Engine → Engine) : State := s.setEngine e (f (s.engine e))

/-- The state of island `i` in PWR.ISL_STAT (R680): 0 ON, 1 GOING, 2 OFF, 3 SHED. Islands 0 to 7 are CL0 to CL7,
8 to 10 CALQ1 to CALQ3, 11 NGX, 12 AUD, 13 CNV (R381, R673). -/
def State.island (s : State) (i : Nat) : Nat := s.rfld rPwrIslStat (2 * i) 2

/-- An island is powered down or shed (R675, R680). -/
def State.islandOff (s : State) (i : Nat) : Bool := s.island i == 2 || s.island i == 3

/-- An island is GOING or OFF: Keeper turns away what would reach it (R675). -/
def State.islandGone (s : State) (i : Nat) : Bool := s.island i == 1 || s.island i == 2

/-- A Caldera byte lies in a quarter that is GOING or OFF. -/
def State.quarterGone (s : State) (a : Nat) : Bool :=
  let q := a / 2 ^ 24 % 4
  q != 0 && s.islandGone (7 + q)

/-- The bit of TOP.DARK_ACCESS for the register block of a BAR0 offset (R23), if its island can be powered down. -/
def darkBit (off : Nat) : Option Nat :=
  if 0x080000 ≤ off && off < 0x0A0000 then some ((off - 0x080000) / 0x4000)
  else if 0x0F0000 ≤ off && off < 0x100000 then some 8
  else if (0x0D0000 ≤ off && off < 0x0E0000) || (0x110000 ≤ off && off < 0x120000) then some 9
  else if 0x0E0000 ≤ off && off < 0x0F0000 then some 10
  else none

/-- The bit of TOP.DARK_ACCESS to set for an access at an offset, if its island is powered down (R22). -/
def State.dark (s : State) (off : Nat) : Option Nat :=
  (darkBit off).filter fun b => s.islandOff (if b < 8 then b else b + 3)

/-- A register write with the effect `f`, discarded if its island is powered down (R22). -/
def State.bar (s : State) (off : Nat) (f : State → State) : State :=
  match s.dark off with
  | some b => s.setBit rTopDark b true
  | none => f s

/-! ### Contexts -/

def State.context (s : State) (c : Nat) : Ctx := SMap.get (fun _ => {}) s.ctx c

def State.setContext (s : State) (c : Nat) (x : Ctx) : State :=
  { s with ctx := SMap.set (fun _ => {}) s.ctx c x }

def State.modContext (s : State) (c : Nat) (f : Ctx → Ctx) : State := s.setContext c (f (s.context c))

/-- The open descriptor of a context with a sequence number. -/
def State.findDesc (s : State) (c q : Nat) : Option OpenDesc := (s.context c).opens.find? fun d => d.seq == q

def State.modDesc (s : State) (c q : Nat) (f : OpenDesc → OpenDesc) : State :=
  s.modContext c fun x => { x with opens := x.opens.map fun d => if d.seq = q then f d else d }

/-- A descriptor's effect is complete, with a status of R370. The first result stands. -/
def State.setResult (s : State) (c q code : Nat) : State :=
  s.modDesc c q fun d => if d.result.isSome then d else { d with result := some code }

/-- CTXn_STAT.STATE: 0 DISABLED, 1 ACTIVE, 2 STOPPING, 3 RESUMING (R356). -/
def State.ctxState (s : State) (c : Nat) : Nat := s.rfld (rCtxtStat c) 0 3

/-! ### Streams -/

def State.stream (s : State) (r : Nat) : Option Stream := SMap.get (fun _ => none) s.mov.streams r

def State.setStream (s : State) (r : Nat) (x : Option Stream) : State :=
  { s with mov := { s.mov with streams := SMap.set (fun _ => none) s.mov.streams r x } }

/-! ### The PCIe outbound port -/

/-- Puts a request before the PCIe outbound port (R33). -/
def State.offer (s : State) (cls master : Nat) (t : Tlp) : State :=
  { s with fab := { s.fab with outq := s.fab.outq ++ [⟨cls, master, s.now, t⟩] } }

/-! ### Messages of the cascade link (R545, R559, R561) -/

/-- The device is a follower whose contexts are proxy contexts (R559). -/
def State.proxyOn (s : State) : Bool := !(s.rbit rNgxStat 0) && s.rbit rNgxCtrl 1

/-- Queues a message. -/
def State.ngxSend (s : State) (m : Msg) : State := { s with ngx := { s.ngx with msgs := s.ngx.msgs ++ [m] } }

/-- The words that bytes make, byte 0 in bits [7:0] of the first; the list is cut to `n` words. -/
def packWords : Nat → List Byte → List Word
  | 0, _ => []
  | _, [] => []
  | n + 1, b => BitVec.ofNat 32 (ofLeBytes (b.take 4)) :: packWords n (b.drop 4)

/-- One HWR message of a relayed write. -/
def hwrMsg (c cls addr : Nat) (more : Bool) (d : List Byte) : Msg :=
  { kind := 0x12, dst := 0, ctx := c
    payload := [BitVec.ofNat 32 addr, BitVec.ofNat 32 (addr / 2 ^ 32),
      BitVec.ofNat 32 (d.length + 256 * cls + (if more then 2048 else 0))] ++ packWords 27 d }

/-- A write of at most 256 bytes as HWR messages of at most 108. -/
def State.relayWrite (s : State) (c cls addr : Nat) (d : List Byte) : State :=
  forN ((d.length + 107) / 108) (fun i s =>
    s.ngxSend (hwrMsg c cls (addr + 108 * i) (decide (108 * (i + 1) < d.length)) ((d.drop (108 * i)).take 108))) s

/-- A host write of a proxy context: in pieces of 256 bytes. -/
def State.proxyWrite (s : State) (c cls addr : Nat) (d : List Byte) : State :=
  forN ((d.length + 255) / 256) (fun i s => s.relayWrite c cls (addr + 256 * i) ((d.drop (256 * i)).take 256)) s

/-- A host read of a proxy context: HRD messages of at most 112 bytes. An outstanding relayed read has the tag
1,024 + its relay tag. -/
def State.proxyRead (s : State) (c cls addr n : Nat) (who : ReadFor) : State :=
  forN ((n + 111) / 112) (fun i s =>
    let t := s.ngx.relayTag
    let a := addr + 112 * i
    let s := s.ngxSend { kind := 0x10, dst := 0, ctx := c
                         payload := [BitVec.ofNat 32 a, BitVec.ofNat 32 (a / 2 ^ 32),
                           BitVec.ofNat 32 (min 112 (n - 112 * i) + 256 * cls + 65536 * t)] }
    { s with
      ngx := { s.ngx with relayTag := (t + 1) % 65536 }
      pcie := { s.pcie with outst := s.pcie.outst ++ [⟨1024 + t, s.rfld (rCtxtCtrl c) 0 6, who, s.now⟩] } }) s

/-- A write of the ring unit into a context's state record or completion ring, at class P3 (R368, R559). -/
def State.ringWrite (s : State) (c addr : Nat) (d : List Byte) : State :=
  if s.proxyOn then s.proxyWrite c 3 addr d else s.offer 3 96 (.write (s.rfld (rCtxtCtrl c) 0 6) addr d 0)

/-- Bytes of an event log entry (R383). -/
def Event.bytes (e : Event) : List Byte :=
  leBytes 8 e.sidx ++ leBytes 1 e.kind ++ leBytes 1 e.eng ++ leBytes 1 e.seg ++ leBytes 1 e.rep ++ leBytes 4 e.detail

/-- The completion ring's entries (R356). -/
def State.cpEntries (s : State) (c : Nat) : Nat := 2 ^ s.rfld (rCtxtSize c) 8 5

/-- Accepted descriptors not yet completed (U of R363). -/
def Ctx.uncompleted (x : Ctx) : Nat := (x.opens.filter fun d => !d.record).length

/-- Writes a completion-ring record at W (R369, R370): a descriptor's record or an event notice. -/
def State.putRecord (s : State) (c seq status flags : Nat) (tag : BitVec 64) : State :=
  let x := s.context c
  let n := s.cpEntries c
  let phase := if x.w.getLsbD (s.rfld (rCtxtSize c) 8 5) then 0 else 1
  let s := s.ringWrite c (s.reg64 (rCtxtCpLo c) + 16 * (x.w.toNat % n))
    (leBytes 4 seq ++ leBytes 1 status ++ leBytes 1 (flags + phase) ++ [0, 0] ++ leBytes 8 tag.toNat)
  s.modContext c fun x => { x with w := x.w + 1 }

def State.fn (s : State) (f : Nat) : PcieFn := SMap.get (fun _ => {}) s.pcie.fns f

def State.modFn (s : State) (f : Nat) (g : PcieFn → PcieFn) : State :=
  { s with pcie := { s.pcie with fns := SMap.modify (fun _ => {}) s.pcie.fns f g } }

def State.msixEntry (s : State) (f n : Nat) : Msix := SMap.get (fun _ => {}) s.pcie.msix (1024 * f + n)

def State.setMsix (s : State) (f n : Nat) (e : Msix) : State :=
  { s with pcie := { s.pcie with msix := SMap.set (fun _ => {}) s.pcie.msix (1024 * f + n) e } }

/-- A record or notice calls for a message on entry `n` of function `f`. -/
def State.msixSend (s : State) (f n : Nat) : State :=
  let fn := s.fn f
  let e := s.msixEntry f n
  if !(fn.msixEn) || !(fn.bme) then s
  else if fn.fmask || e.mask then s.setMsix f n { e with pend := true }
  else s.offer 3 96 (.msix f e.addr e.data)

/-- Issues an MSI-X message of a context's function, class P3 (R372, R385). -/
def State.ctxIrq (s : State) (c vec : Nat) : State :=
  if s.proxyOn then s.ngxSend { kind := 0x13, dst := 0, ctx := c, payload := [BitVec.ofNat 32 vec] }
  else s.msixSend (s.rfld (rCtxtCtrl c) 0 6) vec

/-- EVENT_NOTICE (R385). -/
def State.eventNotice (s : State) (c : Nat) : State :=
  let x := s.context c
  if x.notice.isSome then s
  else if (x.w - x.k).toNat + x.uncompleted + 1 ≤ s.cpEntries c then
    let s := s.modContext c fun x => { x with notice := some x.w }
    let s := s.putRecord c x.evprod.toNat 0 2 0
    s.ctxIrq c (s.rfld (rCtxtIrq c) 16 10)
  else s

/-- EVENT_LOG and EVENT_COALESCE (R383, R384). Nothing is logged for a context that is DISABLED, which has no
state record in use. -/
def State.logEventAt (s : State) (sidx c kind eng seg detail : Nat) : State :=
  if s.ctxState c = 0 then s
  else
    let x := s.context c
    let cls := kind / 16 % 16
    let n := SMap.get (fun _ => 0) x.evCount cls + 1
    let s := s.setContext c { x with evCount := SMap.set (fun _ => 0) x.evCount cls n }
    let sr := s.reg64 (rCtxtSrLo c)
    let s := s.ringWrite c (sr + 0x280 + 4 * cls) (leBytes 4 n.toNat)
    let fresh : Event := ⟨sidx, kind, eng, seg, 0, detail⟩
    let same := match x.lastEvent with
      | some e => e.kind = kind && e.eng = eng && e.seg = seg && e.detail = detail && x.evCons != x.evprod
      | none => false
    if same then
      let e := (x.lastEvent.getD fresh)
      let e := { e with rep := min (e.rep + 1) 255 }
      let s := s.modContext c fun x => { x with lastEvent := some e }
      let s := s.ringWrite c (sr + 0x400 + 16 * ((x.evprod - 1).toNat % 64)) e.bytes
      s.eventNotice c
    else if (x.evprod - x.evCons).toNat < 64 then
      let s := s.ringWrite c (sr + 0x400 + 16 * (x.evprod.toNat % 64)) fresh.bytes
      let s := s.modContext c fun x => { x with lastEvent := some fresh, evprod := x.evprod + 1 }
      s.eventNotice c
    else s.setBit (rCtxtErr c) 3 true

/-- An event at the current sample index. -/
def State.logEvent (s : State) (c kind eng seg detail : Nat) : State :=
  s.logEventAt s.tick.sidx c kind eng seg detail

/-! ### Rates (R60, R62) -/

/-- D0 rate in Hz, by RATE of TICK_CTRL0. -/
def rateHz (code : Nat) : Nat :=
  match code with
  | 0 => 48000
  | 1 => 96000
  | 2 => 192000
  | 4 => 44100
  | 5 => 88200
  | 6 => 176400
  | _ => 48000

def State.d0Rate (s : State) : Nat := rateHz (s.rfld (rClkTickCtrl 0) 4 3)

/-- The usable cycle count: 96 % of the engine cycles in a tick, rounded down (R3, R60). -/
def usableCycles (rate : Nat) : Nat := 1228800000 * 96 / (100 * rate)

end Sys2Proof.Machine
end

