-- ==== Sys2Proof/Machine/Fade.lean ====
section
/-! DEFINITION. Fades (R333). -/

namespace Sys2Proof.Machine

/-- n_out: 1 ms of D0 ticks, halves rounded up. -/
def nOut (rate : Nat) : Nat := (2 * rate + 1000) / 2000

/-- n_in: 5 ms of D0 ticks, halves rounded up. -/
def nIn (rate : Nat) : Nat := (10 * rate + 1000) / 2000

/-- floor(x × a / b) of a sample. -/
def scaleW (x : Word) (a b : Nat) : Word := BitVec.ofInt 32 (x.toInt * a / b)

/-- The value of one channel at the next tick of a fade. -/
def Fade.value (f : Fade) (ch : Nat) (live : Word) : Word :=
  match f.st with
  | .silent => 0
  | .full => live
  | .out j n => scaleW (SMap.get (fun _ => 0) f.from' ch) (n - (j + 1)) n
  | .fadeIn j n => scaleW live (j + 1) n

/-- Where the fade stands after one more tick. -/
def FadeSt.next : FadeSt → FadeSt
  | .out j n => if n ≤ j + 1 then .silent else .out (j + 1) n
  | .fadeIn j n => if n ≤ j + 1 then .full else .fadeIn (j + 1) n
  | f => f

/-- One tick of a fade over channels `chs` with live values. -/
def Fade.tick (f : Fade) (chs : List Nat) (live : Nat → Word) : Fade :=
  { f with st := f.st.next, outs := chs.foldl (fun m c => SMap.set (fun _ => 0) m c (f.value c (live c))) f.outs }

/-- A value delivered at the last tick. -/
def Fade.outAt (f : Fade) (c : Nat) : Word := SMap.get (fun _ => 0) f.outs c

/-- The object stops: a fade out from the values delivered last. -/
def Fade.stop (f : Fade) (rate : Nat) : Fade :=
  match f.st with
  | .silent => f
  | .out .. => f
  | _ => { f with st := .out 0 (nOut rate), from' := f.outs }

/-- The object starts: a fade in. -/
def Fade.start (f : Fade) (rate : Nat) : Fade := { f with st := .fadeIn 0 (nIn rate) }

/-- The object delivers 0 from now on. -/
def Fade.cut (f : Fade) : Fade := { f with st := .silent, outs := [] }

end Sys2Proof.Machine
end

