-- ==== Sys2Proof/Machine/RampTab.lean ====
section
/-! DEFINITION. The tables of the dB ramp (R251), computed from the spec's formulas. -/

namespace Sys2Proof.Machine

def ltTab0 : List Nat := [
  0, 94364, 188362, 281996, 375270, 468185, 560745, 652952,
  744810, 836320, 927485, 1018309, 1108793, 1198939, 1288752, 1378232,
  1467383, 1556207, 1644705, 1732882, 1820738, 1908277, 1995500, 2082410,
  2169009, 2255299, 2341283, 2426963, 2512340, 2597417, 2682196, 2766679]

def ltTab1 : List Nat := [
  2850868, 2934766, 3018374, 3101694, 3184728, 3267478, 3349946, 3432134,
  3514044, 3595678, 3677038, 3758124, 3838941, 3919488, 3999768, 4079782,
  4159533, 4239023, 4318251, 4397222, 4475935, 4554394, 4632599, 4710552,
  4788255, 4865709, 4942916, 5019878, 5096595, 5173071, 5249305, 5325300]

def ltTab2 : List Nat := [
  5401057, 5476578, 5551864, 5626916, 5701737, 5776327, 5850688, 5924821,
  5998727, 6072409, 6145867, 6219103, 6292118, 6364913, 6437490, 6509850,
  6581994, 6653924, 6725641, 6797146, 6868440, 6939525, 7010402, 7081072,
  7151536, 7221795, 7291852, 7361706, 7431359, 7500812, 7570066, 7639123]

def ltTab3 : List Nat := [
  7707984, 7776649, 7845119, 7913397, 7981483, 8049377, 8117082, 8184598,
  8251926, 8319067, 8386022, 8452793, 8519380, 8585785, 8652008, 8718050,
  8783912, 8849596, 8915102, 8980431, 9045584, 9110562, 9175366, 9239998,
  9304457, 9368745, 9432863, 9496811, 9560591, 9624203, 9687648, 9750928]

def ltTab4 : List Nat := [
  9814042, 9876993, 9939780, 10002404, 10064867, 10127170, 10189312, 10251295,
  10313120, 10374787, 10436298, 10497652, 10558852, 10619897, 10680789, 10741528,
  10802114, 10862550, 10922835, 10982970, 11042956, 11102794, 11162484, 11222028,
  11281425, 11340677, 11399784, 11458748, 11517568, 11576245, 11634780, 11693175]

def ltTab5 : List Nat := [
  11751428, 11809542, 11867517, 11925353, 11983051, 12040612, 12098037, 12155325,
  12212479, 12269497, 12326382, 12383133, 12439752, 12496238, 12552593, 12608817,
  12664911, 12720875, 12776710, 12832416, 12887994, 12943445, 12998770, 13053968,
  13109041, 13163988, 13218811, 13273511, 13328087, 13382540, 13436871, 13491080]

def ltTab6 : List Nat := [
  13545168, 13599135, 13652983, 13706711, 13760320, 13813810, 13867183, 13920438,
  13973576, 14026597, 14079503, 14132294, 14184969, 14237530, 14289978, 14342312,
  14394532, 14446641, 14498638, 14550523, 14602297, 14653961, 14705514, 14756958,
  14808293, 14859519, 14910637, 14961648, 15012551, 15063347, 15114037, 15164621]

def ltTab7 : List Nat := [
  15215099, 15265473, 15315742, 15365906, 15415967, 15465925, 15515779, 15565531,
  15615181, 15664730, 15714177, 15763523, 15812769, 15861915, 15910962, 15959909,
  16008758, 16057508, 16106160, 16154714, 16203172, 16251532, 16299796, 16347964,
  16396036, 16444013, 16491896, 16539683, 16587377, 16634976, 16682482, 16729896]

def ltTab8 : List Nat := [
  16777216]

/-- ltTab[i] = round(2^24 × log2(1 + i/256)), for i from 0 to 256. -/
def ltTab (i : Nat) : Nat :=
  match i / 32 with
  | 0 => ltTab0.getD (i % 32) 0
  | 1 => ltTab1.getD (i % 32) 0
  | 2 => ltTab2.getD (i % 32) 0
  | 3 => ltTab3.getD (i % 32) 0
  | 4 => ltTab4.getD (i % 32) 0
  | 5 => ltTab5.getD (i % 32) 0
  | 6 => ltTab6.getD (i % 32) 0
  | 7 => ltTab7.getD (i % 32) 0
  | _ => ltTab8.getD (i % 32) 0

def etTab0 : List Nat := [
  1073741824, 1076653033, 1079572136, 1082499153, 1085434106, 1088377016, 1091327906, 1094286796,
  1097253708, 1100228665, 1103211687, 1106202798, 1109202018, 1112209370, 1115224875, 1118248556,
  1121280436, 1124320536, 1127368878, 1130425485, 1133490379, 1136563583, 1139645120, 1142735011,
  1145833280, 1148939949, 1152055042, 1155178580, 1158310587, 1161451085, 1164600099, 1167757650]

def etTab1 : List Nat := [
  1170923762, 1174098458, 1177281762, 1180473697, 1183674286, 1186883552, 1190101520, 1193328213,
  1196563654, 1199807867, 1203060876, 1206322705, 1209593378, 1212872918, 1216161350, 1219458698,
  1222764986, 1226080238, 1229404479, 1232737732, 1236080024, 1239431376, 1242791816, 1246161366,
  1249540052, 1252927899, 1256324931, 1259731174, 1263146652, 1266571390, 1270005413, 1273448747]

def etTab2 : List Nat := [
  1276901417, 1280363448, 1283834865, 1287315695, 1290805962, 1294305692, 1297814910, 1301333643,
  1304861917, 1308399756, 1311947188, 1315504238, 1319070932, 1322647296, 1326233356, 1329829140,
  1333434672, 1337049980, 1340675091, 1344310030, 1347954824, 1351609500, 1355274085, 1358948606,
  1362633090, 1366327563, 1370032052, 1373746586, 1377471191, 1381205894, 1384950723, 1388705706]

def etTab3 : List Nat := [
  1392470869, 1396246240, 1400031848, 1403827719, 1407633882, 1411450365, 1415277195, 1419114401,
  1422962010, 1426820052, 1430688553, 1434567544, 1438457051, 1442357104, 1446267730, 1450188960,
  1454120821, 1458063343, 1462016553, 1465980482, 1469955159, 1473940611, 1477936870, 1481943963,
  1485961921, 1489990772, 1494030547, 1498081275, 1502142985, 1506215708, 1510299473, 1514394310]

def etTab4 : List Nat := [
  1518500250, 1522617322, 1526745556, 1530884983, 1535035634, 1539197537, 1543370725, 1547555228,
  1551751076, 1555958300, 1560176931, 1564406999, 1568648537, 1572901575, 1577166143, 1581442275,
  1585730000, 1590029350, 1594340357, 1598663052, 1602997467, 1607343634, 1611701585, 1616071351,
  1620452965, 1624846459, 1629251865, 1633669214, 1638098541, 1642539877, 1646993254, 1651458706]

def etTab5 : List Nat := [
  1655936265, 1660425963, 1664927835, 1669441912, 1673968228, 1678506817, 1683057710, 1687620943,
  1692196547, 1696784557, 1701385007, 1705997930, 1710623359, 1715261330, 1719911875, 1724575029,
  1729250827, 1733939301, 1738640488, 1743354420, 1748081133, 1752820662, 1757573041, 1762338305,
  1767116489, 1771907628, 1776711757, 1781528911, 1786359126, 1791202437, 1796058879, 1800928489]

def etTab6 : List Nat := [
  1805811301, 1810707353, 1815616678, 1820539314, 1825475297, 1830424663, 1835387448, 1840363688,
  1845353420, 1850356681, 1855373507, 1860403934, 1865448001, 1870505744, 1875577199, 1880662405,
  1885761398, 1890874216, 1896000896, 1901141476, 1906295993, 1911464486, 1916646992, 1921843549,
  1927054196, 1932278970, 1937517909, 1942771053, 1948038440, 1953320108, 1958616096, 1963926443]

def etTab7 : List Nat := [
  1969251188, 1974590370, 1979944027, 1985312200, 1990694927, 1996092249, 2001504204, 2006930832,
  2012372174, 2017828268, 2023299156, 2028784876, 2034285470, 2039800978, 2045331439, 2050876895,
  2056437387, 2062012954, 2067603638, 2073209480, 2078830522, 2084466803, 2090118366, 2095785251,
  2101467502, 2107165158, 2112878262, 2118606857, 2124350982, 2130110682, 2135885998, 2141676973]

def etTab8 : List Nat := [
  2147483648]

/-- etTab[i] = round(2^30 × 2^(i/256)), for i from 0 to 256. -/
def etTab (i : Nat) : Nat :=
  match i / 32 with
  | 0 => etTab0.getD (i % 32) 0
  | 1 => etTab1.getD (i % 32) 0
  | 2 => etTab2.getD (i % 32) 0
  | 3 => etTab3.getD (i % 32) 0
  | 4 => etTab4.getD (i % 32) 0
  | 5 => etTab5.getD (i % 32) 0
  | 6 => etTab6.getD (i % 32) 0
  | 7 => etTab7.getD (i % 32) 0
  | _ => etTab8.getD (i % 32) 0

end Sys2Proof.Machine
end

