-- ==== Sys2Proof/Machine/Ramp.lean ====
section
/-! DEFINITION. Ramps (R247 to R251) and the linear fades of chapters 8, 10, 12, 14. -/

namespace Sys2Proof.Machine

/-- Ticks of a ramp (R248). -/
def rampTicks (rate e : Nat) : Nat := if e = 15 then 1 else (2 * rate * 2 ^ e + 8000) / 16000

/-- lg of R251. -/
def rampLg (m : Nat) : Int :=
  let e := Nat.log2 m
  let x : Nat := m * 2 ^ (31 - e)
  let jj : Nat := x / 2 ^ 23 % 256
  let r : Nat := x / 2 ^ 7 % 2 ^ 16
  Int.ofNat (e * 2 ^ 24 + ltTab jj + (ltTab (jj + 1) - ltTab jj) * r / 2 ^ 16)

/-- ex of R251. -/
def rampEx (l : Int) : Nat :=
  let e := (l / 2 ^ 24).toNat
  let f := (l % 2 ^ 24).toNat
  let jj := f / 2 ^ 16
  let r := f % 2 ^ 16
  let v := etTab jj + (etTab (jj + 1) - etTab jj) * r / 2 ^ 16
  if e ≤ 30 then v / 2 ^ (30 - e) else v * 2 ^ (e - 30)

/-- The linear shape (R250). -/
def rampLin (s t : Int) (n j : Nat) : Int := s + (t - s) * j / n

/-- The dB shape (R251). -/
def rampDb (s t : Int) (n j : Nat) : Int :=
  if (decide (s < 0) && decide (0 < t)) || (decide (0 < s) && decide (t < 0)) then rampLin s t n j
  else if s = 0 && t = 0 then 0
  else if j = n then t
  else
    let ls := rampLg (max s.natAbs (2 ^ 15))
    let lt := rampLg (max t.natAbs (2 ^ 15))
    let m : Int := rampEx (ls + (lt - ls) * j / n)
    if s < 0 || t < 0 then -m else min m 0x7FFFFFFF

/-- g_j of a ramp (R249 to R251). -/
def Ramp.value (r : Ramp) (j : Nat) : Word :=
  BitVec.ofInt 32 (if r.n ≤ j then r.t else if r.shape then rampDb r.s r.t r.n j else rampLin r.s r.t r.n j)

/-- A ramp restarted from its value at the tick before (R249). It takes its first value in the same tick. -/
def Ramp.start (r : Ramp) (rate time : Nat) (shape : Bool) (target : Word) : Ramp :=
  { s := r.cur.toInt, t := target.toInt, n := rampTicks rate time, j := 0, time := time, shape := shape, cur := r.cur }

/-- One tick of a ramp. -/
def Ramp.tick (r : Ramp) : Ramp :=
  if r.j < r.n then { r with j := r.j + 1, cur := r.value (r.j + 1) } else r

/-- Ticks until the ramp ends (LEFT of R253). -/
def Ramp.left (r : Ramp) : Nat := r.n - r.j

end Sys2Proof.Machine
end

