-- ==== Sys2Proof/Machine/CalderaOps.lean ====
section
/-! DEFINITION. Access to Caldera: address layout, error protection, Sinter's redirection, tiles (chapter 7). -/

namespace Sys2Proof.Machine

/-! ### Address layout (R254) -/

/-- Caldera holds 64 MiB; an address keeps its bits [25:0]. -/
def calSize : Nat := 2 ^ 26

def calTile (a : Nat) : Nat := a / 4096 % 16384
def calQuarter (a : Nat) : Nat := a / 2 ^ 24 % 4
def calBank (a : Nat) : Nat := 16 * calQuarter a + a / 4096 % 16

/-- The bank row, 0 to 1,023. -/
def calRow (a : Nat) : Nat := 4 * (a / 2 ^ 16 % 256) + a / 1024 % 4

/-- Bank and row as one number. -/
def calBankRow (a : Nat) : Nat := 1024 * calBank a + calRow a

/-- What an unlisted byte reads as: 0 before its quarter was ever switched (log entry 3) and in a quarter that was cleared,
undefined else (R676). -/
def calDefault (s : CalderaState) (a : Nat) : Byte :=
  let q := SMap.get (fun _ => 0) s.epochs (calQuarter a)
  let t := SMap.get (fun _ => 0) s.tileEpochs (calTile a)
  if q = SMap.get (fun _ => 0) s.cleared (calQuarter a) && t = 0 then 0 else (Config.freeMem 0 (q + 2 ^ 32 * t) a).setWidth 8

/-- A byte of the cells, or of the spare row that serves them. -/
def CalderaState.cell (s : CalderaState) (a : Nat) : Byte := SMap.get (calDefault s) s.bytes a

def CalderaState.setCell (s : CalderaState) (a : Nat) (v : Byte) : CalderaState :=
  { s with bytes := SMap.set (calDefault s) s.bytes a v }

/-- A PROTECTED tile that has been relocated is served by its new tile (R306, R307). -/
def State.calServe (s : State) (a : Nat) : Nat :=
  let a := a % calSize
  match (List.range 8).find? fun n =>
      s.rbit (rCaldProtRemap n) 31 && s.rfld (rCaldProtRemap n) 0 14 == calTile a with
  | some n => s.rfld (rCaldProtRemap n) 16 14 * 4096 + a % 4096
  | none => a

/-- Whether Sinter's redirect covers an address (R297). -/
def State.redirected (s : State) (a : Nat) : Bool := s.cal.sinter.active && s.cal.sinter.region == a / 256

/-- A byte as a master reads it, without its error state. -/
def State.calByte (s : State) (a : Nat) : Byte :=
  let a := s.calServe a
  if s.redirected a then s.cal.sinter.buf.getD (a % 256) 0 else s.cal.cell a

/-- Stores a byte. -/
def State.calPut (s : State) (a : Nat) (v : Byte) : State :=
  let a := s.calServe a
  if s.redirected a then
    { s with cal := { s.cal with sinter := { s.cal.sinter with buf := setAt s.cal.sinter.buf (a % 256) v } } }
  else { s with cal := s.cal.setCell a v }

/-! ### Error state (R256 to R258) -/

/-- The lasting fault of the cells that hold ECC word `w` (the address divided by 8): 0 none, 1 single-bit,
2 double-bit. A repaired row is served by its spare, whose cells follow the banks' own in the numbering. -/
def CalderaState.hardAt (s : CalderaState) (w : Nat) : Nat :=
  let br := calBankRow (8 * w)
  match SMap.get (fun _ => 0) s.spare br with
  | 0 => SMap.get (fun _ => 0) s.hard w
  | k + 1 => SMap.get (fun _ => 0) s.hard (2 ^ 23 + 128 * (32 * (br / 1024) + k) + w % 128)

/-- The error a read of ECC word `w` meets: 0 none, 1 correctable, 2 uncorrectable. -/
def State.eccState (s : State) (w : Nat) : Nat :=
  if s.redirected (8 * w) then (if s.cal.sinter.poison.getD (w % 32) false then 2 else 0)
  else max (SMap.get (fun _ => 0) s.cal.soft w) (s.cal.hardAt w)

/-- Marks ECC word `w` stored good or poisoned (R258). -/
def State.setEcc (s : State) (w : Nat) (poison : Bool) : State :=
  let s :=
    if s.redirected (8 * w) then
      { s with cal := { s.cal with sinter := { s.cal.sinter with poison := setAt s.cal.sinter.poison (w % 32) poison } } }
    else { s with cal := { s.cal with soft := SMap.set (fun _ => 0) s.cal.soft w (if poison then 2 else 0) } }
  if poison then s.setBit rCaldEccStat 17 true else s

/-- Tile state and owner (R268, R269): 0 FREE, 1 ASSIGNED, 2 PROTECTED, 3 RESERVE, 4 RETIRING, 5 RETIRED. -/
def tileDefault (t : Nat) : Nat × Nat := if t < 352 then (2, 0) else if t < 360 then (3, 0) else (0, 0)

def State.tile (s : State) (t : Nat) : Nat × Nat := SMap.get tileDefault s.cal.tiles t

def State.setTile (s : State) (t : Nat) (v : Nat × Nat) : State :=
  { s with cal := { s.cal with tiles := SMap.set tileDefault s.cal.tiles t v } }

/-- A tile becomes RETIRED: USABLE falls if it was usable, RETIRED rises, in CALD.CAP and in its bank (R274, R305). -/
def State.retireTile (s : State) (t : Nat) : State :=
  let st := (s.tile t).1
  let s := if st = 0 || st = 1 || st = 4 then s.setFld rCaldCap 0 14 (s.rfld rCaldCap 0 14 - 1) else s
  let s := s.setFld rCaldCap 16 14 (s.rfld rCaldCap 16 14 + 1)
  let b := calBank (4096 * t)
  (s.setFld (rCaldBankStat b) 8 9 (s.rfld (rCaldBankStat b) 8 9 + 1)).setTile t (5, 0)

/-- The tile that a row lies in. -/
def rowTile (br : Nat) : Nat :=
  let b := br / 1024
  4096 * (b / 16) + 16 * (br % 1024 / 4) + b % 16

/-- TILE_RETIRING (R305): what a FAILING row means where its bank has no free spare. A PROTECTED tile is relocated by
Keeper (R306). -/
def State.tileOutcome (s : State) (br : Nat) : State :=
  let t := rowTile br
  match s.tile t with
  | (0, _) => s.retireTile t
  | (1, o) => (s.setTile t (4, o)).logEvent o 0x20 0xFF 0xFF t
  | (3, _) => s.retireTile t
  | _ => s

/-- ROW_FAILING (R260). A row already repaired that fails again counts as one in a bank without spares (R304). -/
def State.rowFailing (s : State) (br : Nat) : State :=
  if SMap.get (fun _ => false) s.cal.failing br then s
  else
    let s := { s with cal := { s.cal with failing := SMap.set (fun _ => false) s.cal.failing br true, repairPending := true } }
    if s.rbit (rCaldBankStat (br / 1024)) 6 || SMap.get (fun _ => 0) s.cal.spare br != 0 then s.tileOutcome br else s

/-- WATCH_TABLE_UPDATE (R259): a corrected error in a row. -/
def watchTake (w : List Watch) (br : Nat) : List Watch :=
  if w.any fun x => x.row == br then w.map fun x => if x.row == br then { x with count := x.count + 1 } else x
  else if w.length < 64 then w ++ [⟨br, 1⟩]
  else
    let lo := (w.map Watch.count).foldl min (w.headD ⟨0, 0⟩).count
    match w.find? fun x => x.count == lo with
    | some v => (w.erase v) ++ [⟨br, 1⟩]
    | none => w

/-- ECC_CORRECTION (R256, R259, R260). -/
def State.eccCorrect (s : State) (w : Nat) : State :=
  let br := calBankRow (8 * w)
  let s := (s.bump rCaldEccStat 0 16).bump (rCaldBankStat (calBank (8 * w))) 24 8
  let s := { s with cal := { s.cal with watch := watchTake s.cal.watch br } }
  let n : Nat := ((s.cal.watch.find? fun x => x.row == br).map Watch.count).getD 0
  if max 1 (s.rfld rCaldEccCtrl 0 8) ≤ n then s.rowFailing br else s

/-- UNCORRECTABLE_READ (R257, R260, R262): `m` is the master as in R266. -/
def State.eccUncorrectable (s : State) (w m : Nat) : State :=
  let s := s.setBit rCaldEccStat 16 true
  let s := s.setReg rCaldUeInfo (BitVec.ofNat 32 (w % 2 ^ 23 + m * 2 ^ 26))
  s.rowFailing (calBankRow (8 * w))

/-- A quarter that is powered down answers a read as uncorrectable and discards a write (R24). -/
def State.quarterOff (s : State) (a : Nat) : Bool :=
  let q := calQuarter a
  q != 0 && s.island (7 + q) == 2

/-- Reads ECC word `w`: corrects, counts and records. True if uncorrectable. -/
def State.eccRead (s : State) (w m : Nat) : Bool × State :=
  if s.quarterOff (8 * w) then (true, s)
  else
    let w := s.calServe (8 * w) / 8
    match s.eccState w with
    | 0 => (false, s)
    | 1 => (false, if s.redirected (8 * w) then s else s.eccCorrect w)
    | _ => (true, s.eccUncorrectable w m)

/-- The ECC words that a byte range touches, in ascending order. -/
def eccWords (a n : Nat) : List Nat := if n = 0 then [] else (List.range ((a + n - 1) / 8 - a / 8 + 1)).map (a / 8 + ·)

/-- Reads `n` bytes as a mover or Keeper does (R264): the bytes, whether any word was poisoned. Poisoned words are
delivered as zero. -/
def State.calRead (s : State) (a n m : Nat) : List Byte × Bool × State :=
  let step := fun (acc : List Nat × State) (w : Nat) =>
    let r := acc.2.eccRead w m
    (if r.1 then w :: acc.1 else acc.1, r.2)
  let r := (eccWords a n).foldl step ([], s)
  let bad := r.1
  ((List.range n).map fun j => if bad.contains ((a + j) / 8) then 0 else s.calByte (a + j), !bad.isEmpty, r.2)

/-- Writes bytes where `mask` allows, as one request of master `m`. A word written in part is read first; if that read
is uncorrectable the word is stored poisoned (R255, R257, R258). `poison` marks data that is itself poisoned. -/
def State.calWrite (s : State) (a : Nat) (d : List Byte) (mask : Nat → Bool) (poison : Bool) (m : Nat) : State :=
  if s.quarterOff a then s
  else
    let n := d.length
    let touched := (eccWords a n).filter fun w => (List.range n).any fun j => mask j && (a + j) / 8 == w
    let whole := fun w => (List.range 8).all fun i =>
      decide (a ≤ 8 * w + i) && decide (8 * w + i < a + n) && mask (8 * w + i - a)
    let s := touched.foldl (fun s w =>
      if whole w then s.setEcc (s.calServe (8 * w) / 8) poison
      else
        let r := s.eccRead w m
        r.2.setEcc (s.calServe (8 * w) / 8) (poison || r.1)) s
    (List.range n).foldl (fun s j => if mask j then s.calPut (a + j) (d.getD j 0) else s) s

/-- A whole write of good data. -/
def State.calStore (s : State) (a : Nat) (d : List Byte) (m : Nat) : State := s.calWrite a d (fun _ => true) false m

/-- Whether Caldera bytes [a, a+n) lie in tiles ASSIGNED to a context. -/
def State.assignedRange (s : State) (c a n : Nat) : Bool :=
  decide (a + n ≤ calSize) && (n == 0 ||
    (List.range ((a + n - 1) / 4096 - a / 4096 + 1)).all fun i => s.tile (a / 4096 + i) == (1, c))

/-- Whether Caldera bytes [a, a+n) lie in tiles ASSIGNED or RETIRING to a context. -/
def State.ownsRange (s : State) (c a n : Nat) : Bool :=
  decide (a + n ≤ calSize) && (n == 0 ||
    (List.range ((a + n - 1) / 4096 - a / 4096 + 1)).all fun i =>
      let t := s.tile (a / 4096 + i)
      (t.1 == 1 || t.1 == 4) && t.2 == c)

end Sys2Proof.Machine
end

