-- ==== Sys2Proof/Machine/Fabric.lean ====
section
/-! DEFINITION. Crossings, bank arbitration and the PCIe outbound port (chapter 1), with far accesses at a bank
(chapters 4, 5, 7). -/

namespace Sys2Proof.Machine

/-! ### Banks -/

def State.bank (s : State) (b : Nat) : Bank := SMap.get (fun _ => {}) s.fab.banks b

def State.setBank (s : State) (b : Nat) (x : Bank) : State :=
  { s with fab := { s.fab with banks := SMap.set (fun _ => {}) s.fab.banks b x } }

/-- Arrival of a request at its bank arbiter. -/
def State.bankArrive (s : State) (r : BankReq) : State :=
  let b := calBank r.addr
  let x := s.bank b
  s.setBank b { x with reqs := x.reqs ++ [{ r with arrival := s.now }] }

/-- An access of a master other than an engine, made known to the bank arbiter (R27, R32; log entry 12). -/
def State.busAccess (s : State) (cls master addr : Nat) (write wide : Bool) : State :=
  s.bankArrive ⟨cls, master, s.now, addr % calSize, if wide then 16 else 8, .other write⟩

/-- The accesses of a mover to a range, in 64-byte pieces (R27, R391). -/
def State.busRange (s : State) (cls master addr n : Nat) (write : Bool) : State :=
  forN ((n + 63) / 64) (fun k s => s.busAccess cls master (addr + 64 * k) write true) s

/-- FLOOR_CREDIT at one bank (R28): each class P1 to P5 holds a credit afterwards. -/
def Bank.credit (b : Bank) : Bank := { b with credits := b.credits ||| 0b111110 }

def execFloorCredit (s : State) : Host.Outcome State Fault Refusal :=
  .next (forN 64 (fun b s => s.setBank b (s.bank b).credit) s)

/-- The first request to serve among those of one class: earliest arrival, then the master order of R32. -/
def firstOf (cls : Nat) (rs : List BankReq) : Option BankReq :=
  rs.foldl (fun best r =>
    if r.cls ≠ cls then best
    else match best with
      | none => some r
      | some b => if r.arrival < b.arrival || (r.arrival == b.arrival && decide (r.master < b.master)) then some r else best) none

/-- The requests that take part in a decision at cycle `now`: those that arrived earlier (R29, R30). -/
def Bank.partake (b : Bank) (now : Nat) : List BankReq := b.reqs.filter fun r => decide (r.arrival < now)

/-- The class that a floor grant would serve, if one may be made (R28). -/
def Bank.floorClass (b : Bank) (rs : List BankReq) : Option Nat :=
  if b.floor then none
  else if (firstOf 0 rs).isSome && !b.prevP0 then none
  else [1, 2, 3, 4, 5].find? fun c => b.credits.getLsbD c && (firstOf c rs).isSome

/-- The choice of a grant decision: the request, and whether it is a floor grant (R28, R30, R32). -/
def Bank.choose (b : Bank) (now : Nat) : Option (BankReq × Bool) :=
  let rs := b.partake now
  match b.floorClass rs with
  | some c => (firstOf c rs).map (·, true)
  | none => ([0, 1, 2, 3, 4, 5].findSome? fun c => firstOf c rs).map (·, false)

/-- GRANT_DECISION (R30): a decision is made while the bank is idle or in the last 8 cycles of its access, if none
stands yet and a request takes part. -/
def execGrantDecision (b : Fin 64) (s : State) : Host.Outcome State Fault Refusal :=
  let x := s.bank b.val
  if x.decided.isSome || x.busyUntil > s.now + 8 then .next s
  else .next (s.setBank b.val { x with decided := x.choose s.now })

/-- The 8 32-bit words of a 32-byte unit, uncorrectable ECC words delivered as zero (R257). -/
def State.readUnitWords (s : State) (unit m : Nat) (ws : List Nat) : List (Nat × Word × Bool) × State :=
  let ecc := (ws.map (· / 2)).eraseDups
  let r := ecc.foldl (fun (acc : List Nat × State) w =>
    let q := acc.2.eccRead w m
    (if q.1 then w :: acc.1 else acc.1, q.2)) ([], s)
  (ws.map fun w =>
    if r.1.contains (w / 2) then (w, 0, true)
    else (w, BitVec.ofNat 32 (ofLeBytes ((List.range 4).map fun i => s.calByte (4 * w + i))), false), r.2)

/-- The request of a far-store entry writes its bytes (R173, R255). -/
def State.storeEntry (s : State) (e : Nat) (x : FarEntry) : State :=
  s.calWrite (32 * x.unit) ((List.range 32).map fun i => (x.data.extractLsb' (8 * i) 8)) (fun i => x.mask.getLsbD i) false e

/-- A granted far-store entry leaves its queue, and far loads that waited for it are offered (R173, R175). -/
def State.farStoreLeaves (s : State) (e : Nat) (x : FarEntry) : State :=
  let en := s.engine e
  let (go, wait) := en.blocked.partition fun b => b.after == x.id
  let s := s.setEngine e { en with fsq := en.fsq.filter fun y => y.id != x.id, blocked := wait }
  let key := 32 * (3 + e / 4) + 11
  let old := SMap.get (fun _ => []) s.fab.xings key
  let new := go.map fun b => XWord.far ⟨0, e, 0, 32 * b.piece.unit, 8, .farLoad e b.load b.piece⟩
  { s with fab := { s.fab with xings := SMap.set (fun _ => []) s.fab.xings key (old ++ new) } }

/-- A host line, by number. -/
def State.line (s : State) (n : Nat) : Line := SMap.get (fun _ => {}) s.cal.lines n

def State.setLine (s : State) (n : Nat) (l : Line) : State :=
  { s with cal := { s.cal with lines := SMap.set (fun _ => {}) s.cal.lines n l } }

/-- Whether the read-band slot of tick-time `u` of line `n` is valid for that tick-time (R289). -/
def State.chunkServes (s : State) (n : Nat) (u : Int) : Bool :=
  let l := s.line n
  l.chunks.any fun c => c.read && c.u0 == u / (max 1 l.c : Nat) * (l.c : Nat) && c.st == .valid

/-- What a grant does for its request. A far load returns its words towards the cluster. -/
def State.serveGrant (s : State) (r : BankReq) : State :=
  match r.kind with
  | .farLoad e l p =>
    let q := s.readUnitWords p.unit e (p.words.map Prod.snd)
    let en := q.2.engine e
    let late := p.host.filter fun h => !s.chunkServes h.2.1 h.2.2
    let ws := p.words.map fun lw =>
      (lw.1, if late.any fun h => h.1 == lw.1 then 0 else ((q.1.find? fun t => t.1 == lw.2).map fun t => t.2.1).getD 0)
    let bad := p.words.any fun lw => !(late.any fun h => h.1 == lw.1) && q.1.any fun t => t.1 == lw.2 && t.2.2
    q.2.setEngine e { en with farRet := en.farRet ++ [⟨l, p, ws, bad, !late.isEmpty⟩] }
  | .farStore e x => (s.storeEntry e x).farStoreLeaves e x
  | .other _ => s

/-- The conflict-counter master of a request (R266): movers count together; RING, NGX and RELIEF have no counter. -/
def confMaster (m : Nat) : Option Nat :=
  if m < 32 then some m else if m < 96 then some 32 else if m = 99 then some 33 else if m = 100 then some 34 else none

/-- Whether another master was granted between a request's arrival and now (R265). -/
def conflicted (gs : List (Nat × Nat)) (r : BankReq) : Bool :=
  gs.any fun g => decide (r.arrival < g.1) && confMaster g.2 != confMaster r.master

/-- BANK_GRANT (R30, R34, R265): the decided access begins, once the occupying access has ended. -/
def execBankGrant (b : Fin 64) (s : State) : Host.Outcome State Fault Refusal :=
  let x := s.bank b.val
  match x.decided with
  | none => .next s
  | some (r, floor) =>
    if s.now < x.busyUntil then .next s
    else
      let s := s.setBank b.val { x with
        reqs := x.reqs.erase r
        decided := none
        busyUntil := s.now + r.cycles
        credits := if floor then x.credits &&& ~~~(1#6 <<< r.cls) else x.credits
        floor := floor
        prevP0 := r.cls == 0
        grants := (x.grants.filter fun g => (x.reqs.erase r).any fun q => decide (q.arrival < g.1)) ++ [(s.now, r.master)] }
      let s := (s.hwm (rFabWaitHwm r.cls) 0 16 (s.now - r.arrival)).tallyMax (24 + r.cls) (s.now - r.arrival)
      let s := match confMaster r.master with
        | some m => if conflicted x.grants r then (s.bump (rCaldConf b.val m) 0 16).tally (8 + b.val / 16) else s
        | none => s
      .next (s.serveGrant r)

/-! ### Crossings (R17 to R20) -/

/-- A crossing is named by its two clock domains of R16, 1 to 25. -/
def xKey (src dst : Nat) : Nat := 32 * src + dst

def State.xing (s : State) (k : Nat) : List XWord := SMap.get (fun _ => []) s.fab.xings k

def State.setXing (s : State) (k : Nat) (l : List XWord) : State :=
  { s with fab := { s.fab with xings := SMap.set (fun _ => []) s.fab.xings k l } }

/-- Offers a word to a crossing (R17). -/
def State.xOffer (s : State) (src dst : Nat) (w : XWord) : State :=
  s.setXing (xKey src dst) (s.xing (xKey src dst) ++ [w])

/-- CROSSING_EMPTIED (R20): a reset of either side discards what the destination has not taken. -/
def State.xEmpty (s : State) (p : Nat → Nat → Bool) : State :=
  { s with fab := { s.fab with xings := SMap.keep (fun k => !p (k / 32) (k % 32)) s.fab.xings } }

/-- Whether a domain's clock is stopped (R19). -/
def State.clockStopped (s : State) (d : Nat) : Bool := s.fab.stopped.contains d

def State.stopClock (s : State) (d : Nat) : State :=
  if s.clockStopped d then s else { s with fab := { s.fab with stopped := s.fab.stopped ++ [d] } }

def State.startClock (s : State) (d : Nat) : State :=
  { s with fab := { s.fab with stopped := s.fab.stopped.filter (· != d) } }

/-- CHAIN_WORD_ARRIVAL (R200): the word reaches its port, or is discarded if its tick has been frozen. -/
def State.chainArrive (s : State) (id : Nat) : State :=
  { s with chainNow := (s.chainNow.map fun w => if w.id == id then { w with arrived := true } else w).filter fun w =>
      !(w.id == id) || decide (s.tick.sidx ≤ w.tick) }

/-- CROSSING_DELIVERY (R17, R19): the oldest offered word is taken, while both clocks run. -/
def execCrossingDelivery (src dst : Fin 26) (s : State) : Host.Outcome State Fault Refusal :=
  let k := xKey src.val dst.val
  match s.xing k with
  | [] => .next s
  | w :: rest =>
    if s.clockStopped src.val || s.clockStopped dst.val then .next s
    else
      let s := s.setXing k rest
      match w with
      | .far r => .next (s.bankArrive r)
      | .chain id => .next (s.chainArrive id)
      | .raw v => .next { s with fab := { s.fab with taken := (k, v) :: s.fab.taken } }

/-! ### The PCIe outbound port (R33) -/

def firstOut (cls : Nat) (rs : List OutReq) : Option OutReq :=
  rs.foldl (fun best r =>
    if r.cls ≠ cls then best
    else match best with
      | none => some r
      | some b => if r.arrival < b.arrival || (r.arrival == b.arrival && decide (r.master < b.master)) then some r else best) none

/-- The choice of the outbound port: P1 to P4 by strict priority, but P3 then P4 after 16 grants to P1 or P2. -/
def outChoose (run : Nat) (rs : List OutReq) : Option OutReq :=
  let order := if 16 ≤ run then [3, 4, 1, 2] else [1, 2, 3, 4]
  order.findSome? fun c => firstOut c rs

end Sys2Proof.Machine
end

