-- ==== Sys2Proof/Machine/EngineOps.lean ====
section
/-! DEFINITION. The engine's registers, local memory, write queue, pipeline and address generation (chapters 3, 5). -/

namespace Sys2Proof.Machine

/-! ### Register banks (R70, R71) -/

def RegBank.rq (b : RegBank) (r : Nat) : Quad Word := SMap.get (fun _ => Quad.all 0) b.q r
def RegBank.raq (b : RegBank) (r : Nat) : Quad (BitVec 72) := SMap.get (fun _ => Quad.all 0) b.aq r
def RegBank.rg (b : RegBank) (r : Nat) : Word := SMap.get (fun _ => 0) b.g r
def RegBank.ra (b : RegBank) (r : Nat) : BitVec 24 := SMap.get (fun _ => 0) b.a r
def RegBank.rm (b : RegBank) (r : Nat) : BitVec 24 := SMap.get (fun _ => 0) b.m r
def RegBank.rl (b : RegBank) (r : Nat) : BitVec 24 := SMap.get (fun _ => 0) b.l r
def RegBank.rb (b : RegBank) (r : Nat) : BitVec 24 := SMap.get (fun _ => 0) b.b r
def RegBank.rps (b : RegBank) (r : Nat) : BitVec 4 := SMap.get (fun _ => 0) b.ps r
def RegBank.rfr (b : RegBank) (r : Nat) : Quad Word := SMap.get (fun _ => Quad.all 0) b.fr r

def RegBank.setQ (b : RegBank) (r : Nat) (v : Quad Word) : RegBank := { b with q := SMap.set (fun _ => Quad.all 0) b.q r v }
def RegBank.setAq (b : RegBank) (r : Nat) (v : Quad (BitVec 72)) : RegBank :=
  { b with aq := SMap.set (fun _ => Quad.all 0) b.aq r v }
def RegBank.setG (b : RegBank) (r : Nat) (v : Word) : RegBank := { b with g := SMap.set (fun _ => 0) b.g r v }
def RegBank.setA (b : RegBank) (r : Nat) (v : BitVec 24) : RegBank := { b with a := SMap.set (fun _ => 0) b.a r v }
def RegBank.setM (b : RegBank) (r : Nat) (v : BitVec 24) : RegBank := { b with m := SMap.set (fun _ => 0) b.m r v }
def RegBank.setL (b : RegBank) (r : Nat) (v : BitVec 24) : RegBank := { b with l := SMap.set (fun _ => 0) b.l r v }
def RegBank.setB (b : RegBank) (r : Nat) (v : BitVec 24) : RegBank := { b with b := SMap.set (fun _ => 0) b.b r v }
def RegBank.setPs (b : RegBank) (r : Nat) (v : BitVec 4) : RegBank := { b with ps := SMap.set (fun _ => 0) b.ps r v }
def RegBank.setFr (b : RegBank) (r : Nat) (v : Quad Word) : RegBank := { b with fr := SMap.set (fun _ => Quad.all 0) b.fr r v }

/-- DTH never holds 0 (R85). -/
def dthFix (v : Word) : Word := if v = 0 then 1 else v

/-- Part `p` of an accumulator lane replaced (R130): 0 bits [31:0], 1 bits [63:32], 2 bits [71:64]. -/
def setPart (a : BitVec 72) (p : Nat) (v : Word) : BitVec 72 :=
  match p with
  | 0 => (a.extractLsb' 64 8 ++ a.extractLsb' 32 32 ++ v : BitVec 72)
  | 1 => (a.extractLsb' 64 8 ++ v ++ a.extractLsb' 0 32 : BitVec 72)
  | _ => (v.extractLsb' 0 8 ++ a.extractLsb' 0 64 : BitVec 72)

/-- Part `p` of an accumulator lane, the top part sign-extended (R130). -/
def getPart (a : BitVec 72) (p : Nat) : Word :=
  match p with
  | 0 => a.extractLsb' 0 32
  | 1 => a.extractLsb' 32 32
  | _ => (a.extractLsb' 64 8).signExtend 32

/-- A register write that has become visible (R166, R168). -/
def RegBank.apply (b : RegBank) (w : RegWrite) : RegBank :=
  match w with
  | .q r m v => b.setQ r (Quad.merge m (b.rq r) v)
  | .aq r m v _ => b.setAq r (Quad.merge m (b.raq r) v)
  | .aqPart r l p v => b.setAq r ((b.raq r).set l (setPart ((b.raq r).get l) p v))
  | .g r v => b.setG r v
  | .a r v => b.setA r v
  | .m r v => b.setM r v
  | .l r v => b.setL r v
  | .b r v => b.setB r v
  | .ps r v => b.setPs r v
  | .shm v => { b with shm := v }
  | .dth v => { b with dth := dthFix v }
  | .flg m => { b with flg := b.flg ||| m }

def Engine.bank (x : Engine) (tail : Bool) : RegBank := if tail then x.tail else x.tick

def Engine.modBank (x : Engine) (tail : Bool) (f : RegBank → RegBank) : Engine :=
  if tail then { x with tail := f x.tail } else { x with tick := f x.tick }

/-- A result becomes visible; a FLG event is also recorded in ENG.DP_FLAGS (R86, R88) and in the run of the segment
(R194). -/
def State.land (s : State) (e : Nat) (tail : Bool) (w : RegWrite) : State :=
  let x := s.engine e
  let x := match w with
    | .flg m => if tail then x else { x with flgRun := x.flgRun ||| (m &&& ~~~x.tick.flg) }
    | _ => x
  let s := s.setEngine e (x.modBank tail (·.apply w))
  match w with
  | .flg m => s.setReg (rEngDpFlags e) (s.reg (rEngDpFlags e) ||| (m.setWidth 32 <<< (if tail then 8 else 0)))
  | _ => s

/-- One pipeline cycle passes (R167): results come one cycle nearer, and those due become visible in program order. -/
def State.pipeStep (s : State) (e : Nat) : State :=
  let fl := (s.engine e).inflight.map fun p => { p with left := p.left - 1 }
  let s := s.modEngine e fun x => { x with inflight := fl.filter fun p => decide (0 < p.left) }
  (fl.filter fun p => p.left == 0).foldl (fun s p => s.land e p.tail p.wr) s

/-- The accumulator value that an accumulating MAC or TAP4 adds to: the register, with the results of MAC and TAP4
still in flight forwarded (R169). -/
def Engine.forwarded (x : Engine) (tail : Bool) (r : Nat) : Quad (BitVec 72) :=
  x.inflight.foldl (fun v p => match p.wr with
    | .aq r' m n true => if p.tail == tail && r' == r then Quad.merge m v n else v
    | _ => v) ((x.bank tail).raq r)

/-! ### Local memory (R89 to R93) -/

/-- What an unlisted word of engine `e`'s local memory reads as (log entry 3; R676). -/
def lmDefault (e : Nat) (x : Engine) (a : Nat) : Word :=
  if x.lmEpoch = 0 then 0 else (Config.freeMem 1 (e + 32 * x.lmEpoch) a).setWidth 32

/-- Sinter's local redirect covers a word (R300). A region holds 64 words. -/
def State.lmRedirected (s : State) (e a : Nat) : Bool :=
  let r := SMap.get (fun _ => {}) s.cal.lmSinter e
  r.active && r.next == a / 64

def State.lmCell (s : State) (e a : Nat) : Word :=
  let x := s.engine e
  SMap.get (lmDefault e x) x.lm a

def State.setLmCell (s : State) (e a : Nat) (v : Word) : State :=
  s.modEngine e fun x => { x with lm := SMap.set (lmDefault e x) x.lm a v, lmErr := SMap.set (fun _ => 0) x.lmErr a 0 }

/-- A stored word of local memory as it is read, without its error state. -/
def State.lmGet (s : State) (e a : Nat) : Word :=
  if s.lmRedirected e a then (SMap.get (fun _ => {}) s.cal.lmSinter e).buf.getD (a % 64) 0 else s.lmCell e a

def State.lmPut (s : State) (e a : Nat) (v : Word) : State :=
  if s.lmRedirected e a then
    let r := SMap.get (fun _ => {}) s.cal.lmSinter e
    let r := { r with buf := setAt r.buf (a % 64) v }
    { s with
      cal := { s.cal with lmSinter := SMap.set (fun _ => {}) s.cal.lmSinter e r }
      eng := SMap.modify (fun _ => {}) s.eng e fun x => { x with lmErr := SMap.set (fun _ => 0) x.lmErr a 0 } }
  else s.setLmCell e a v

/-- The error a read of a local word meets (R92): 0 none, 1 corrected, 2 uncorrectable. While the region is in the
holding buffer, only poison carried with the data counts. A repaired region's cells are its spare's. -/
def State.lmEcc (s : State) (e a : Nat) : Nat :=
  let soft := SMap.get (fun _ => 0) (s.engine e).lmErr a
  if s.lmRedirected e a then (if soft = 2 then 2 else 0)
  else
    let sp := SMap.get (fun _ => 0) s.cal.lmSpare (1024 * e + a / 64)
    let key := if sp = 0 then 65536 * e + a else 2 ^ 21 + 512 * e + 64 * (sp - 1) + a % 64
    max soft (SMap.get (fun _ => 0) s.cal.lmHard key)

/-- The youngest write-queue entry that holds word `a` (R95). -/
def Engine.queued (x : Engine) (a : Nat) : Option Word :=
  (x.wq.reverse.find? fun q => q.quad == a / 4 && q.mask.getLsbD (a % 4)).map fun q => q.data.get (a % 4)

/-- A near read of one word: its value, 1 if corrected, 2 if uncorrectable and delivered as 0 (R92, R95). -/
def State.nearWord (s : State) (e a : Nat) : Word × Nat :=
  let a := a % 65536
  match (s.engine e).queued a with
  | some v => (v, 0)
  | none =>
    match s.lmEcc e a with
    | 2 => (0, 2)
    | k => (s.lmGet e a, k)

/-! ### The write queue (R94 to R97) -/

/-- Writes one queue entry to the memory. -/
def State.retireEntry (s : State) (e : Nat) (q : WqEntry) : State :=
  forN 4 (fun i s => if q.mask.getLsbD i then s.lmPut e (4 * q.quad + i) (q.data.get i) else s) s

/-- The queue retires up to `k` of its oldest entries (R96). -/
def State.retire (s : State) (e k : Nat) : State :=
  let old := (s.engine e).wq.take k
  let s := s.modEngine e fun x => { x with wq := x.wq.drop k }
  old.foldl (fun s q => s.retireEntry e q) s

/-- One engine cycle without issue ends: both slots are free for the queue; the cycle counts for the tick and, in a
segment, for its budget (R96, R188, R198). `pipe` tells whether it is a pipeline cycle (R167). -/
def State.emptyCycle (s : State) (e : Nat) (pipe : Bool) : State :=
  let s := s.retire e 2
  let s := s.modEngine e fun x => { x with tickCyc := x.tickCyc + 1, elapsed := x.elapsed + 1 }
  if pipe then s.pipeStep e else s

/-- DRAIN_CYCLE (R97). -/
def State.drainCycle (s : State) (e : Nat) : State := (s.emptyCycle e true).bump (rEngWqStat e) 8 24

/-! ### Address generation (R101, R102, R107) -/

/-- The mathematical modulus of R101 and R102. -/
def modI (v : Int) (n : Nat) : Nat := (v % (n : Int)).toNat

/-- An after an access with offset `off` (R101). -/
def postMod (a b l : BitVec 24) (off : Int) : BitVec 24 :=
  if l = 0 then BitVec.ofInt 24 (a.toNat + off)
  else BitVec.ofNat 24 (b.toNat + modI ((a.toNat : Int) - b.toNat + off) l.toNat)

/-- Word `i` of a quad access through an address register (R102). -/
def quadWord (a b l : BitVec 24) (i : Nat) : Nat :=
  let bq := b.toNat / 4 * 4
  let lq := l.toNat / 4 * 4
  if lq = 0 then (a.toNat + i) % 2 ^ 24 else (bq + modI ((a.toNat : Int) - bq + i) lq) % 2 ^ 24

/-- Word 0 of a scalar access: R102 with Bn and Ln as written. -/
def scalarWord (a b l : BitVec 24) : Nat :=
  if l = 0 then a.toNat else (b.toNat + modI ((a.toNat : Int) - b.toNat) l.toNat) % 2 ^ 24

/-- The offset that an OFS field names (R116). -/
def RegBank.offset (b : RegBank) (ofs : Nat) : Int :=
  if 128 ≤ ofs then sextNat ofs 7 else (b.rm (ofs % 8)).toInt

/-- Segment-table word `w` of entry `i` (32: the tail entry) in the active or the standby table (R182). -/
def Engine.segWord (x : Engine) (active : Bool) (i w : Nat) : Word :=
  SMap.get (fun _ => 0) x.stab ((if active == x.actTab then 0x200 else 0) + 8 * i + w)

def Engine.setSegWord (x : Engine) (active : Bool) (i w : Nat) (v : Word) : Engine :=
  { x with stab := SMap.set (fun _ => 0) x.stab ((if active == x.actTab then 0x200 else 0) + 8 * i + w) v }

/-- Whether an entry of a table is enabled. -/
def Engine.segEn (x : Engine) (active : Bool) (i : Nat) : Bool := bit (x.segWord active i 0) 31

/-- The entry in use: the running segment's, or the tail's. -/
def Engine.entry (x : Engine) : Nat :=
  match x.phase with
  | .run s => s
  | .enter s => s
  | _ => 32

/-- The tick count a domain code selects: 0 SIX, 1 TC1, 2 TC2 (R107). -/
def Engine.tickCount (x : Engine) (dom : Nat) : Nat :=
  match dom with
  | 0 => x.six.toNat
  | 1 => x.tc1.toNat
  | _ => x.tc2.toNat

/-- A delay-line descriptor, decoded (R104). -/
structure Dld where
  base : Nat
  place : Nat
  dom : Nat
  frame : Nat
  len : Nat
  line : Nat
  en : Bool
  deriving DecidableEq, Repr

def dldOf (w0 w1 w2 : Word) : Dld where
  base := 4 * fld w0 0 22
  place := fld w0 22 2
  dom := fld w0 24 2
  frame := 2 ^ fld w0 26 2
  len := w1.toNat + 2 ^ 32 * fld w2 0 6
  line := fld w2 16 12
  en := bit w0 31

/-- The active copy of DLDn of an engine. -/
def State.dld (s : State) (e n : Nat) : Dld :=
  dldOf (s.reg (rEngDldW0 e n)) (s.reg (rEngDldW1 e n)) (s.reg (rEngDldW2 e n))

/-- The tap that lane `i` of an access at tap `t` reads, and the word within its frame (R107). -/
def Dld.laneTap (d : Dld) (quad : Bool) (t w i : Nat) : Nat × Nat :=
  if !quad then (t, w % d.frame)
  else match d.frame with
    | 1 => (t + i, 0)
    | 2 => (t + i / 2, i % 2)
    | 4 => (t, i)
    | _ => (t, 4 * (w / 4 % 2) + i)

/-- The word address of a LOCAL or CALDERA descriptor access (R107). -/
def Dld.word (d : Dld) (T : Nat) (tw : Nat × Nat) : Nat :=
  d.base + modI ((T : Int) - tw.1) d.len * d.frame + tw.2

/-- The words of a quad or scalar access, in lane order. -/
def lanesOf (quad : Bool) : List Nat := if quad then [0, 1, 2, 3] else [0]

/-! ### Window checks (R189) -/

/-- A near word lies in the local window of the entry in use. -/
def Engine.lmOk (x : Engine) (a : Nat) : Bool :=
  let w2 := x.segWord true x.entry 2
  decide (fld w2 0 14 ≤ a % 65536 / 4) && decide (a % 65536 / 4 ≤ fld w2 16 14)

/-- A Caldera word lies in a window; `wr`: in one that allows far stores. -/
def Engine.cwOk (x : Engine) (wr : Bool) (a : Nat) : Bool :=
  let t := a % 2 ^ 24 / 1024
  [4, 5, 6, 7].any fun n =>
    let w := x.segWord true x.entry n
    decide (fld w 0 14 ≤ t) && decide (t ≤ fld w 14 14) && (!wr || bit w 28)

/-- A descriptor number lies in the entry's range. -/
def Engine.dldOk (x : Engine) (n : Nat) : Bool :=
  let w1 := x.segWord true x.entry 1
  decide (fld w1 16 6 ≤ n) && decide (n ≤ fld w1 22 6)

/-- The quads that an access of some words touches: 1 aligned, 2 unaligned (R91). -/
def aligned (ws : List Nat) : Bool := ((ws.map fun w => w % 65536 / 4).eraseDups).length ≤ 1

end Sys2Proof.Machine
end

