-- ==== Sys2Proof/Machine/Flags.lean ====
section
/-! DEFINITION. The engine's arithmetic with the flags it sets: accumulation, moves out, dither, saturation (R76 to R88,
R132). -/

namespace Sys2Proof.Machine

/-- FLG bits (R86). -/
def flgSat : BitVec 5 := 1
def flgAov : BitVec 5 := 2
def flgPoison : BitVec 5 := 4
def flgEarly : BitVec 5 := 8
def flgLate : BitVec 5 := 16

/-- A value reduced into 72 bits, and whether that changed it (R77). -/
def wrap72 (v : Int) : BitVec 72 × Bool :=
  let r := BitVec.ofInt 72 v
  (r, r.toInt != v)

/-- One lane of a multiply-accumulate (R76, R77): 0 add, 1 sub, 2 set. -/
def macLane (op : Nat) (a : BitVec 72) (x y : Word) : BitVec 72 × Bool :=
  let p := 2 * x.toInt * y.toInt
  match op with
  | 0 => wrap72 (a.toInt + p)
  | 1 => wrap72 (a.toInt - p)
  | _ => (BitVec.ofInt 72 p, false)

/-- The lanes that meet in the sharing modes (R76): 0 LANE, 1 BCASTY, 2 BCASTX. -/
def macX (mode : Nat) (x : Quad Word) (i : Nat) : Word := if mode = 2 then x.l0 else x.get i
def macY (mode : Nat) (y : Quad Word) (i : Nat) : Word := if mode = 1 then y.l0 else y.get i

/-- A quad multiply-accumulate, and the AOV of the lanes that are written (R77, R114). -/
def macQuad (op mode : Nat) (m : BitVec 4) (a : Quad (BitVec 72)) (x y : Quad Word) : Quad (BitVec 72) × Bool :=
  let r := Quad.ofFn fun i => macLane op (a.get i) (macX mode x i) (macY mode y i)
  (r.map Prod.fst, (List.range 4).any fun i => m.getLsbD i && (r.get i).2)

/-- Accumulator-to-accumulator add, sub, set (R129). -/
def aaccQuad (op : Nat) (m : BitVec 4) (d s : Quad (BitVec 72)) : Quad (BitVec 72) × Bool :=
  let r := Quad.ofFn fun i => match op with
    | 0 => wrap72 ((d.get i).toInt + (s.get i).toInt)
    | 1 => wrap72 ((d.get i).toInt - (s.get i).toInt)
    | _ => (s.get i, false)
  (r.map Prod.fst, (List.range 4).any fun i => m.getLsbD i && (r.get i).2)

/-- Clamp to a signed 32-bit word, and whether that changed the value. -/
def sat32 (v : Int) : Word × Bool :=
  if 0x7FFFFFFF < v then (0x7FFFFFFF, true)
  else if v < -0x80000000 then (0x80000000, true)
  else (BitVec.ofInt 32 v, false)

/-- A move of one accumulator lane with shift `s` and dither `d` (R79). The shift is arithmetic. -/
def moveLane (a : BitVec 72) (s d : Int) : Word × Bool :=
  sat32 ((a.toInt + d) / (2 ^ (32 - s).toNat : Int))

/-- One step of DTH (R83). -/
def dthStep (d : Word) : Word := if d.getLsbD 0 then (d >>> 1) ^^^ 0x80200003 else d >>> 1

/-- A draw: 16 steps, and the low half (R83). -/
def dthDraw (d : Word) : Nat × Word :=
  let d := (List.range 16).foldl (fun d _ => dthStep d) d
  (fld d 0 16, dthFix d)

/-- The dither value of one lane and DTH after its draws (R84): 0 none, 1 RPDF, 2 TPDF. -/
def dither (dm : Nat) (s : Int) (dth : Word) : Int × Word :=
  match dm with
  | 0 => (0, dth)
  | 1 =>
    let r := dthDraw dth
    ((r.1 : Int) * 2 ^ (16 - s).toNat, r.2)
  | _ =>
    let r1 := dthDraw dth
    let r2 := dthDraw r1.2
    (((r1.1 + r2.1 : Nat) : Int) * 2 ^ (16 - s).toNat - 2 ^ (31 - s).toNat, r2.2)

/-- A quad move: results, whether a written lane saturated, DTH after the draws of all four lanes, lane 0 first
(R81, R85, R114). -/
def moveQuad (a : Quad (BitVec 72)) (m : BitVec 4) (s : Int) (dm : Nat) (dth : Word) : Quad Word × Bool × Word :=
  let d0 := dither dm s dth
  let d1 := dither dm s d0.2
  let d2 := dither dm s d1.2
  let d3 := dither dm s d2.2
  let r : Quad (Word × Bool) := ⟨moveLane a.l0 s d0.1, moveLane a.l1 s d1.1, moveLane a.l2 s d2.1, moveLane a.l3 s d3.1⟩
  (r.map Prod.fst, (List.range 4).any fun i => m.getLsbD i && (r.get i).2, d3.2)

/-- The effective shift that an SO field selects (R80, R119). -/
def effShift (b : RegBank) (so : Nat) : Int := if 32 ≤ so then sextNat so 5 else b.shm.toInt

/-- One lane of QOP (R132): the result and whether it saturated. -/
def qopLane (fn k : Nat) (a b : Word) : Word × Bool :=
  match fn with
  | 0x0 => sat32 (a.toInt + b.toInt)
  | 0x1 => sat32 (a.toInt - b.toInt)
  | 0x2 => (a &&& b, false)
  | 0x3 => (a ||| b, false)
  | 0x4 => (a ^^^ b, false)
  | 0x5 => (if b.toInt < a.toInt then a else b, false)
  | 0x6 => (if a.toInt < b.toInt then a else b, false)
  | 0x7 => sat32 a.toInt.natAbs
  | 0x8 => sat32 (-a.toInt)
  | 0x9 => sat32 (a.toInt * 2 ^ k)
  | 0xA => (BitVec.ofInt 32 (a.toInt / 2 ^ k), false)
  | _ => sat32 (2 * a.toInt * b.toInt / 2 ^ 32)

/-- A comparison by its CND code (R135): 0 EQ, 1 NE, 2 LT, 3 LE, 4 GT, 5 GE. -/
def cndHolds (c : Nat) (a b : Word) : Bool :=
  match c with
  | 0 => a == b
  | 1 => a != b
  | 2 => decide (a.toInt < b.toInt)
  | 3 => decide (a.toInt ≤ b.toInt)
  | 4 => decide (b.toInt < a.toInt)
  | _ => decide (b.toInt ≤ a.toInt)

/-- GOP (R147). -/
def gopFn (fn : Nat) (a b : Word) : Word :=
  match fn with
  | 0x0 => a + b
  | 0x1 => a - b
  | 0x2 => a &&& b
  | 0x3 => a ||| b
  | 0x4 => a ^^^ b
  | 0x5 => a <<< (b.toNat % 32)
  | 0x6 => a >>> (b.toNat % 32)
  | 0x7 => a.sshiftRight (b.toNat % 32)
  | 0x8 => if a.toInt < b.toInt then a else b
  | 0x9 => if b.toInt < a.toInt then a else b
  | _ => a * b

end Sys2Proof.Machine
end

