-- ==== Sys2Proof/Machine/Operands.lean ====
section
/-! DEFINITION. Engine instruction words: fields, legality (R112 to R122, R154, R163), and the operands they name. -/

namespace Sys2Proof.Machine

/-- An instruction word. -/
abbrev IWord := BitVec 64

def opcOf (w : IWord) : Nat := fld w 58 6

/-- The lanes that the predicate guard lets through (R112, R114). -/
def RegBank.guard (b : RegBank) (w : IWord) : BitVec 4 :=
  let pg := fld w 55 3
  if 4 ≤ pg then b.rps (pg - 4) else 0xF

/-- A field is zero. -/
def zf (w : IWord) (lo len : Nat) : Bool := fld w lo len == 0

/-- An OFS field is legal (R116). -/
def ofsLegal (o : Nat) : Bool := decide (128 ≤ o) || o / 8 % 16 == 0

/-- An XOP or YOP field is legal, with its scalar bit (R113, R116). -/
def opndLegal (f : Nat) (sc : Bool) : Bool :=
  let src := f / 256 % 32
  let ofs := f % 256
  if src < 12 then ofs == 0 && !sc
  else if 16 ≤ src && src < 24 then ofsLegal ofs
  else false

/-- The address register of an operand field, if it is a memory operand. -/
def opndMem (f : Nat) : Option Nat := if 16 ≤ f / 256 % 32 then some (f / 256 % 8) else none

def soLegal (so : Nat) : Bool := decide (32 ≤ so) || so == 0

/-- The memory operand of R117 is legal. `move`: MOVST and MOVF; `fr`: bit 54 must be 0. -/
def memLegal (w : IWord) (move fr : Bool) : Bool :=
  (!(move || fr) || zf w 54 1) &&
  (if bit w 51 then (bit w 44 || zf w 28 11)
   else zf w 28 12 && ofsLegal (fld w 40 8) && zf w 25 3) &&
  zf w 22 3 && zf w 0 14 &&
  (if move then soLegal (fld w 16 6) && fld w 14 2 != 3 else zf w 14 8)

/-- The SR codes of R149; `wr`: those that may be written. -/
def srLegal (c : Nat) (wr : Bool) : Bool :=
  decide (c ≤ 0x21) || (decide (0x24 ≤ c) && decide (c ≤ 0x27)) ||
  (!wr && (c == 0x22 || (decide (0x30 ≤ c) && decide (c ≤ 0x36))))

/-- The opcodes of R164. -/
def opcodes : List Nat :=
  [0x00, 0x01, 0x02, 0x10, 0x11, 0x18, 0x19, 0x1A, 0x1B, 0x1C, 0x1D, 0x1E, 0x20, 0x21, 0x22, 0x24, 0x25, 0x28, 0x29,
   0x2C, 0x2D, 0x2E, 0x2F, 0x30, 0x31, 0x32, 0x33, 0x34, 0x38, 0x39, 0x3A, 0x3B, 0x3C, 0x3D]

/-- The opcodes that may carry a guard (R115, R164). -/
def guarded : List Nat :=
  [0x10, 0x11, 0x18, 0x19, 0x1A, 0x1B, 0x1C, 0x1D, 0x1E, 0x20, 0x21, 0x28, 0x29, 0x2C, 0x2D, 0x2E, 0x2F,
   0x3A, 0x3B, 0x3C, 0x3D]

/-- The fields of a word are legal for its opcode (R113, R122). -/
def fieldsLegal (w : IWord) : Bool :=
  match opcOf w with
  | 0x00 => zf w 0 55
  | 0x01 => zf w 12 43
  | 0x02 => zf w 0 55
  | 0x10 =>
    fld w 53 2 != 3 && fld w 51 2 != 3 && zf w 0 21 && opndLegal (fld w 36 13) (bit w 22) &&
    opndLegal (fld w 23 13) (bit w 21) &&
    !((opndMem (fld w 36 13)).isSome && opndMem (fld w 36 13) == opndMem (fld w 23 13))
  | 0x11 =>
    fld w 53 2 != 3 && fld w 51 2 != 3 && zf w 0 20 && opndLegal (fld w 21 13) (bit w 20) &&
    (!bit w 48 || (ofsLegal (fld w 37 8) && fld w 35 2 != 3 && zf w 34 1 && opndMem (fld w 21 13) != some (fld w 45 3)))
  | 0x18 => soLegal (fld w 44 6) && fld w 42 2 != 3 && zf w 0 42
  | 0x19 => soLegal (fld w 44 6) && fld w 42 2 != 3 && zf w 0 40
  | 0x1A => memLegal w true true
  | 0x1B => memLegal w true true
  | 0x1C => zf w 52 3 && (!bit w 46 || zf w 47 3) && zf w 0 46
  | 0x1D => fld w 45 2 != 3 && zf w 0 45
  | 0x1E => fld w 53 2 != 3 && zf w 0 49
  | 0x20 =>
    let fn := fld w 42 4
    decide (fn ≤ 0xB) && (fn == 9 || fn == 0xA || zf w 37 5) && (!(decide (7 ≤ fn) && decide (fn ≤ 0xA)) || zf w 46 3) &&
    zf w 0 37
  | 0x21 =>
    zf w 46 1 && zf w 0 42 &&
    (match fld w 42 4 with
     | 0 => zf w 47 2
     | 1 => true
     | 2 => zf w 49 3
     | 3 => true
     | 4 => true
     | 5 => true
     | _ => false)
  | 0x22 => zf w 0 44
  | 0x24 => zf w 52 1 && (!bit w 45 || zf w 46 3) && decide (fld w 42 3 ≤ 5) && zf w 0 42
  | 0x25 =>
    let sub := fld w 45 4
    decide (sub ≤ 6) && zf w 0 31 &&
    (sub == 0 || zf w 41 4) &&
    ((decide (1 ≤ sub) && decide (sub ≤ 4)) || zf w 51 2) &&
    ((decide (1 ≤ sub) && decide (sub ≤ 3)) || zf w 49 2) &&
    (sub == 5 || zf w 31 1) &&
    (if sub = 6 then decide (fld w 32 3 ≤ 5) else zf w 32 9)
  | 0x28 => zf w 0 44
  | 0x29 => zf w 0 44
  | 0x2C => memLegal w false false
  | 0x2D => memLegal w false false && !(bit w 51 && !bit w 44 && fld w 41 3 == fld w 52 3)
  | 0x2E => memLegal w false false
  | 0x2F => memLegal w false false
  | 0x30 => decide (fld w 42 4 ≤ 0xA) && zf w 16 25 && (if bit w 41 then zf w 46 3 else zf w 0 16)
  | 0x31 => decide (fld w 52 3 ≤ 4) && zf w 32 17
  | 0x32 => srLegal (fld w 43 8) (bit w 54) && zf w 0 43
  | 0x33 => ofsLegal (fld w 44 8) && zf w 0 44
  | 0x34 => zf w 45 10 && zf w 0 40
  | 0x38 =>
    let c := fld w 52 3
    c != 7 && zf w 14 32 && ((decide (1 ≤ c) && decide (c ≤ 4)) || zf w 49 3) &&
    (if c = 5 || c = 6 then decide (fld w 46 3 ≤ 4) else zf w 46 3)
  | 0x39 => zf w 52 3 && zf w 14 35
  | 0x3A => memLegal w false true
  | 0x3B => memLegal w false true
  | 0x3C => memLegal w false false
  | 0x3D => memLegal w false false
  | _ => false

/-- The guard field is legal (R112, R115). -/
def guardLegal (w : IWord) : Bool :=
  let pg := fld w 55 3
  pg == 0 || (decide (4 ≤ pg) && guarded.contains (opcOf w))

/-- The word may run in the program kind: CHW and CHR in tick programs, BR and DBNZ in tail programs (R146, R156). -/
def kindLegal (tail : Bool) (w : IWord) : Bool :=
  let o := opcOf w
  if tail then o != 0x28 && o != 0x29 else o != 0x38 && o != 0x39

/-- RPT is not misused (R154): `next` is the word at the following address, none past the end. -/
def repeatLegal (w : IWord) (next : Option IWord) : Bool :=
  opcOf w != 0x01 ||
  match next with
  | none => false
  | some n => !([0x01, 0x02, 0x38, 0x39].contains (opcOf n))

/-- The cause of illegality of a fetched word, 0 if it is legal, in the order of R163: 5 PROG_UE, 1 OPC, 3 PLACE,
4 REPEAT, 2 FIELD. -/
def illegalCause (tail : Bool) (ue : Bool) (w : IWord) (next : Option IWord) : Nat :=
  if ue then 5
  else if !(opcodes.contains (opcOf w)) then 1
  else if !(kindLegal tail w) then 3
  else if !(repeatLegal w next) then 4
  else if !(fieldsLegal w && guardLegal w) then 2
  else 0

/-- What an unlisted program word reads as (log entry 3; R676). -/
def progDefault (e : Nat) (x : Engine) (a : Nat) : IWord :=
  if x.progEpoch = 0 then 0 else Config.freeMem 2 (e + 32 * x.progEpoch) a

/-- The word of a program bank. -/
def State.progWord (s : State) (e : Nat) (bk : Bool) (a : Nat) : IWord :=
  let x := s.engine e
  SMap.get (progDefault e x) x.prog ((if bk then 16384 else 0) + a)

/-- The active program bank of an engine. -/
def State.actBank (s : State) (e : Nat) : Bool := s.rbit (rEngProgCtrl e) 0

/-- What fetch finds at a program address of the active bank: the word and its cause of illegality (R159, R163). -/
def State.fetch (s : State) (e : Nat) (tail : Bool) : IWord × Nat :=
  let x := s.engine e
  let pc := (x.bank tail).pc
  if 16384 ≤ pc then (0, 6)
  else
    let bk := s.actBank e
    let w := s.progWord e bk pc
    let next := if pc = 16383 then none else some (s.progWord e bk (pc + 1))
    (w, illegalCause tail (SMap.get (fun _ => 0) x.progErr ((if bk then 16384 else 0) + pc) == 2) w next)

/-! ### Memory operands -/

/-- What a memory operand comes to: fault cause (R191; 0 none), the words in lane order, post-modify and tap
increment to write, whether the access is far through a HOST line with the read-band lanes' tick-times (R289). -/
structure MemOp where
  fault : Nat := 0
  words : List Nat := []
  upd   : List RegWrite := []
  host  : List (Nat × Nat × Int) := []
  deriving DecidableEq, Repr

/-- The tap increment of a TINC code (R118). -/
def tincOf (c : Nat) : Word :=
  match c with
  | 0 => 0
  | 1 => 1
  | 2 => 4
  | _ => 0xFFFFFFFF

/-- The tap of a descriptor operand (R117): immediate, or Gk with its increment. -/
def tapOf (b : RegBank) (w : IWord) : Nat × List RegWrite :=
  if bit w 44 then (fld w 28 16, [])
  else
    let k := fld w 41 3
    ((b.rg k).toNat, if zf w 39 2 then [] else [.g k (b.rg k + tincOf (fld w 39 2))])

/-- Words through an address register with an OFS field, and its post-modify (R101, R102). -/
def addrWords (b : RegBank) (n ofs : Nat) (quad : Bool) : List Nat × List RegWrite :=
  let a := b.ra n
  let ws := if quad then [0, 1, 2, 3].map (quadWord a (b.rb n) (b.rl n)) else [scalarWord a (b.rb n) (b.rl n)]
  (ws, [.a n (postMod a (b.rb n) (b.rl n) (b.offset ofs))])

/-- A near access through an address register, checked (R189). -/
def nearAddr (x : Engine) (b : RegBank) (n ofs : Nat) (quad : Bool) : MemOp :=
  let r := addrWords b n ofs quad
  let ws := r.1.map (· % 65536)
  { fault := if ws.all x.lmOk then 0 else 1, words := ws, upd := r.2 }

/-- A near access through a descriptor, checked (R107, R120, R189). -/
def State.nearDld (s : State) (e n t wo : Nat) (quad : Bool) (upd : List RegWrite) : MemOp :=
  let x := s.engine e
  let d := s.dld e n
  if !(x.dldOk n) || !d.en || d.place != 0 then { fault := 4 }
  else
    let ws := (lanesOf quad).map fun i => d.word (x.tickCount d.dom) (d.laneTap quad t wo i) % 65536
    { fault := if ws.all x.lmOk then 0 else 1, words := ws, upd := upd }

/-- The near memory operand of R117. -/
def State.nearOp (s : State) (e : Nat) (tail quad : Bool) (w : IWord) : MemOp :=
  let x := s.engine e
  let b := x.bank tail
  if bit w 51 then
    let t := tapOf b w
    s.nearDld e (fld w 45 6) t.1 (fld w 25 3) quad t.2
  else nearAddr x b (fld w 48 3) (fld w 40 8) quad

/-- The staging word of a host-line access, and the tick-time if the tap lies in the read band; none if the tap lies
in neither band or a store reaches a read-band tap (R285). -/
def Line.stage (l : Line) (T : Nat) (tw : Nat × Nat) (store : Bool) : Option (Nat × Option Int) :=
  let rd := match l.rd with
    | some (lo, hi) => decide (lo ≤ tw.1) && decide (tw.1 ≤ hi)
    | none => false
  let wr := match l.wmax with
    | some m => decide (tw.1 ≤ m)
    | none => false
  let u := (T : Int) - tw.1
  if rd then (if store then none else some (4 * l.stageQ + modI u l.sr * l.f + tw.2, some u))
  else if wr then some (4 * l.stageQ + (l.sr + modI u l.sw) * l.f + tw.2, none)
  else none

/-- The far memory operand of R117, checked (R120, R189, R285). -/
def State.farOp (s : State) (e : Nat) (tail quad store : Bool) (w : IWord) : MemOp :=
  let x := s.engine e
  let b := x.bank tail
  let win := fun (ws : List Nat) =>
    if !(ws.all (x.cwOk false)) then 2 else if store && !(ws.all (x.cwOk true)) then 3 else 0
  if bit w 51 then
    let t := tapOf b w
    let n := fld w 45 6
    let d := s.dld e n
    if !(x.dldOk n) || !d.en || (d.place != 1 && d.place != 2) then { fault := 4 }
    else
      let T := x.tickCount d.dom
      let taps := (lanesOf quad).map (d.laneTap quad t.1 (fld w 25 3))
      if d.place = 1 then
        let ws := taps.map (d.word T)
        { fault := win ws, words := ws, upd := t.2 }
      else
        let l := s.line d.line
        let st := taps.map fun tw => l.stage T tw store
        if !l.mapped || d.len != l.len || d.frame != l.f || st.any Option.isNone then { fault := 7 }
        else
          let st := st.filterMap id
          { words := st.map Prod.fst, upd := t.2
            host := (List.range st.length).filterMap fun i => ((st.getD i (0, none)).2).map fun u => (i, d.line, u) }
  else
    let r := addrWords b (fld w 48 3) (fld w 40 8) quad
    { fault := win r.1, words := r.1, upd := r.2 }

/-- The values of near words, with the corrected and the uncorrectable ones (R92). -/
def State.nearRead (s : State) (e : Nat) (ws : List Nat) : List Word × Nat × List Nat :=
  let r := ws.map (s.nearWord e)
  (r.map Prod.fst, (r.filter fun v => v.2 == 1).length, (ws.filter fun a => (s.nearWord e a).2 == 2).map (· % 65536 / 4))

/-- Four values as a quad; a scalar read gives lane 0 and zeros (R124). -/
def quadOf (v : List Word) : Quad Word := Quad.ofFn fun i => v.getD i 0

/-- A quad source operand XOP or YOP (R116): its value, memory effects, and the FR it reads. -/
structure Opnd where
  fault : Nat := 0
  val   : Quad Word := Quad.all 0
  words : List Nat := []
  quad  : Bool := true
  upd   : List RegWrite := []
  ce    : Nat := 0
  ue    : List Nat := []
  fr    : List Nat := []
  deriving DecidableEq, Repr

def State.opnd (s : State) (e : Nat) (tail : Bool) (f : Nat) (sc : Bool) : Opnd :=
  let x := s.engine e
  let b := x.bank tail
  let src := f / 256 % 32
  if src < 8 then { val := b.rq src }
  else if src < 12 then { val := b.rfr (src % 4), fr := [src % 4] }
  else
    let m := nearAddr x b (src % 8) (f % 256) (!sc)
    let r := s.nearRead e m.words
    { fault := m.fault, val := quadOf r.1, words := m.words, quad := !sc, upd := m.upd, ce := r.2.1, ue := r.2.2 }

end Sys2Proof.Machine
end

