-- ==== Sys2Proof/Machine/Segments.lean ====
section
/-! DEFINITION. Segments: exits, reports, entries, the tail program, ticks, swaps, cluster reset (chapter 5). -/

namespace Sys2Proof.Machine

/-! ### Chain ports (R197 to R200) -/

/-- Write `a` is earlier than write `b` in the order of R200. -/
def ChainWrite.before (a b : ChainWrite) : Bool :=
  decide (a.stamp < b.stamp) || (a.stamp == b.stamp && (decide (a.eng < b.eng) || (a.eng == b.eng && decide (a.id < b.id))))

def insertWrite (w : ChainWrite) : List ChainWrite → List ChainWrite
  | [] => [w]
  | v :: l => if w.before v then w :: v :: l else v :: insertWrite w l

/-- Writes in the order of R200. -/
def sortWrites (l : List ChainWrite) : List ChainWrite := l.foldl (fun acc w => insertWrite w acc) []

/-- Writes over a value, lane by lane. -/
def overlay (base : Quad Word) (ws : List ChainWrite) : Quad Word := ws.foldl (fun v w => Quad.merge w.mask v w.data) base

/-- The value of an output port for the last frozen tick (R199). -/
def State.frozenValue (s : State) (p : Nat) : Quad Word :=
  let f := SMap.get (fun _ => {}) s.chainFrz p
  let good := f.writes.filter fun w => !(w.tick + 1 == s.tick.sidx && s.chainTorn.contains (w.eng, w.seg))
  if !good.isEmpty then overlay f.base good
  else match f.holder with
    | some (_, _, false) => f.base
    | _ => Quad.all 0

/-- A CHR at reader tick cycle `t` by engine `e` (R146, R197, R198): value and CHAIN_EARLY. -/
def State.chainRead (s : State) (e p t : Nat) : Quad Word × Bool :=
  if 192 ≤ p then (SMap.get (fun _ => Quad.all 0) s.chainIn p, false)
  else
    let six := (s.engine e).six.toNat
    let f := SMap.get (fun _ => {}) s.chainFrz p
    let prev := if f.at' ≤ six then s.frozenValue p else f.base
    let ws := sortWrites ((s.chainNow ++ f.writes).filter fun w => w.port == p && w.tick == six)
    let vis := fun (w : ChainWrite) => decide (w.stamp + (if w.eng / 4 = e / 4 then 64 else 256) ≤ t)
    (overlay prev (ws.filter vis), !(ws.any vis) || ws.any fun w => w.arrived && !vis w)

/-! ### Segment exit -/

def Engine.nextEnabled (x : Engine) (i : Nat) : Option Nat :=
  (List.range 32).find? fun j => decide (i ≤ j) && x.segEn true j

def Engine.owner (x : Engine) (i : Nat) : Nat := fld (x.segWord true i 0) 16 9

/-- FLG bits that results still in flight will set in a bank. -/
def Engine.flyingFlags (x : Engine) (tail : Bool) : BitVec 5 :=
  x.inflight.foldl (fun v p => match p.wr with
    | .flg m => if p.tail == tail then v ||| m else v
    | _ => v) 0

/-- An event for the owner of an entry, at the engine's tick (R194). -/
def State.segReport (s : State) (e i kind detail : Nat) : State :=
  let x := s.engine e
  s.logEventAt x.six.toNat (x.owner i) kind e i detail

/-- What every exit of segment `i` does: the largest cycle count, the FLG report, the end of its far loads (R172, R194,
R196). -/
def State.segExit (s : State) (e i : Nat) : State :=
  let x := s.engine e
  let new := x.flgRun ||| (x.flyingFlags false &&& ~~~x.tick.flg)
  let s := s.hwm (rEngSegHwm e i) 0 16 x.elapsed
  let s := if new = 0 then s
    else (s.setReg (rEngSegHwm e i) (s.reg (rEngSegHwm e i) ||| (new.setWidth 32 <<< 16))).segReport e i 0x05 new.toNat
  s.modEngine e fun x => { x with flgRun := 0, stall := 0, farLoads := x.farLoads.filter (·.tail) }

/-- A segment is torn for its tick (R193, R195, R199). -/
def State.tear (s : State) (e i : Nat) : State :=
  let x := s.engine e
  let s := (s.bump (rEngSegStat e i) 24 8).setEngine e { x with torn := i :: x.torn }
  if x.six.toNat = s.tick.sidx then s else { s with chainTorn := (e, i) :: s.chainTorn }

/-- A segment that a tick did not reach (R193 to R195). -/
def State.skipSeg (s : State) (e i : Nat) : State := (s.bump (rEngSegStat e i) 16 8).segReport e i 0x02 0

/-! ### Frames (R183 to R187, R215 to R217) -/

/-- The frame part of a bank: Q, AQ and FR cleared, no RPT count. -/
def RegBank.frame (b : RegBank) : RegBank :=
  { b with q := [], aq := [], fr := [], rpt := 0, held := false, pc := 0 }

/-- A frame from the image of R187. -/
def imageFrame (v : Nat → Word) : RegBank :=
  let r24 := fun (o : Nat) (m : SMap (BitVec 24)) =>
    (List.range 8).foldl (fun m i => SMap.set (fun _ => 0) m i ((v (o + i)).setWidth 24)) m
  { g := (List.range 8).foldl (fun m i => SMap.set (fun _ => 0) m i (v i)) []
    a := r24 8 [], m := r24 16 [], l := r24 24 [], b := r24 32 []
    ps := (List.range 4).foldl (fun m i => SMap.set (fun _ => 0) m i ((v 40).extractLsb' (4 * i) 4)) []
    shm := (v 40).extractLsb' 16 5
    dth := dthFix (v 41) }

/-- Counts of a near read in ENG.LM_ECC (R93). -/
def State.lmEccNote (s : State) (e ce : Nat) (ue : List Nat) : State :=
  let s := if ce = 0 then s else s.bumpBy (rEngLmEcc e) 0 16 ce
  match ue.getLast? with
  | some q => (s.setFld (rEngLmEcc e) 16 14 q).setBit (rEngLmEcc e) 31 true
  | none => s

/-- FRAME_INIT (R187): the frame of entry `i` from its local window, and the six load cycles. -/
def State.frameInit (s : State) (e i : Nat) : RegBank × State :=
  let x := s.engine e
  let w2 := x.segWord true i 2
  let lo := fld w2 0 14
  let fits := decide (lo + 10 ≤ fld w2 16 14)
  let r := s.nearRead e ((List.range 44).map fun k => 4 * lo + k)
  let frame := if fits then imageFrame fun k => r.1.getD k 0 else {}
  let s := if fits then s.lmEccNote e r.2.1 r.2.2 else s
  let s := forN 6 (fun _ s => s.pipeStep e) s
  let s := s.retire e 1
  (frame, s.modEngine e fun x => { x with tickCyc := x.tickCyc + 6, elapsed := x.elapsed + 6 })

/-- The first word of a page of a coefficient set (R216). -/
def State.pageBase (s : State) (set page : Nat) : Nat :=
  4 * (if page = 0 then s.rfld (rFabCsetW0 set) 0 22 else s.rfld (rFabCsetW1 set) 0 22)

/-- BINDING_APPLY (R216): binding `n` of engine `e` for segment `i`. -/
def State.bindApply (s : State) (e i n : Nat) : State :=
  let r := rEngCbind e n
  let set := s.rfld r 0 10
  let a := s.rfld r 15 3
  let shadowed := (List.range n).any fun k =>
    s.rbit (rEngCbind e k) 31 && s.rfld (rEngCbind e k) 10 5 == i && s.rfld (rEngCbind e k) 15 3 == a
  if !(s.rbit r 31) || s.rfld r 10 5 != i || !(s.rbit (rFabCsetW0 set) 31) || shadowed then s
  else
    let act := if s.rbit (rFabCsetW0 set) 23 then 1 else 0
    let app := if s.rbit r 18 then 1 else 0
    if act = app then s
    else
      let p := s.pageBase set act
      let o := s.pageBase set app
      let s := s.modEngine e fun x => { x with
        tick := (x.tick.setB a (BitVec.ofNat 24 p)).setA a (x.tick.ra a + BitVec.ofNat 24 p - BitVec.ofNat 24 o) }
      s.setBit r 18 (act == 1)

/-- The engines' bindings of a segment return to page 0 when its frame is initialised (R217). -/
def State.bindReset (s : State) (e i : Nat) : State :=
  forN 16 (fun n s => if s.rfld (rEngCbind e n) 10 5 = i && s.rbit (rEngCbind e n) 18 then s.setBit (rEngCbind e n) 18 false else s) s

/-- SEGMENT_ENTRY (R184 to R187, R216). -/
def State.segmentEntry (s : State) (e i : Nat) : State :=
  let s := s.modEngine e fun x => { x with elapsed := 0 }
  let s := forN 4 (fun _ s => s.emptyCycle e true) s
  let s := s.modEngine e fun x => { x with frames := match x.frameOf with
    | some o => SMap.set (fun _ => {}) x.frames o x.tick.frame
    | none => x.frames }
  let x := s.engine e
  let init := x.needInit.getLsbD i
  let r := if init then s.frameInit e i else (SMap.get (fun _ => {}) x.frames i, s)
  let s := if init then r.2.bindReset e i else r.2
  let s := s.modEngine e fun x => { x with
    tick := { r.1.frame with pc := fld (x.segWord true i 0) 0 14 }
    frameOf := some i
    needInit := x.needInit &&& ~~~(1#32 <<< i)
    flgRun := 0
    phase := .run i }
  forN 16 (fun n s => s.bindApply e i n) s

def execSegmentEntry (e : Fin 32) (s : State) : Host.Outcome State Fault Refusal :=
  match (s.engine e.val).phase with
  | .enter i => .next (s.segmentEntry e.val i)
  | _ => .next s

/-! ### The tail program (R179, R187) -/

/-- TAIL_START (R179): after the tick program has ended. -/
def State.tailStart (s : State) (e : Nat) : State :=
  let x := s.engine e
  if !(x.segEn true 32) then s.modEngine e fun x => { x with phase := .idle }
  else
    let s := s.emptyCycle e true
    if x.tailSusp then s.modEngine e fun x => { x with phase := .tail, tailSusp := false }
    else
      let r := if x.tailInit then s.frameInit e 32 else (x.tail, s)
      r.2.modEngine e fun x => { x with
        tail := { (if x.tailInit then r.1 else x.tail) with pc := fld (x.segWord true 32 0) 0 14, rpt := 0, held := false }
        tailInit := false
        phase := .tail }

/-- The tail program ends (R155, R190). -/
def State.tailEnd (s : State) (e : Nat) : State := s.modEngine e fun x => { x with phase := .idle, tailSusp := false }

/-- After segment `i` has ended: the next enabled segment's entry, or the end of the tick program (R178). -/
def State.afterSeg (s : State) (e i : Nat) : State :=
  match (s.engine e).nextEnabled (i + 1) with
  | some j => s.modEngine e fun x => { x with phase := .enter j }
  | none => s.tailStart e

/-- FAULT (R190 to R195): cause as in R191. -/
def State.faultAt (s : State) (e cause : Nat) : State :=
  let x := s.engine e
  let s := s.emptyCycle e true
  match x.phase with
  | .run i =>
    let s := s.setReg (rEngFaultInfo e) (BitVec.ofNat 32 (x.tick.pc % 16384 + i * 2 ^ 16 + cause * 2 ^ 24 + 2 ^ 31))
    let s := ((s.bump (rEngSegStat e i) 8 8).tear e i).segExit e i
    (s.segReport e i 0x04 (s.reg (rEngFaultInfo e)).toNat).afterSeg e i
  | .tail =>
    let s := s.setReg (rEngFaultInfo e) (BitVec.ofNat 32 (x.tail.pc % 16384 + 2 ^ 14 + cause * 2 ^ 24 + 2 ^ 31))
    (s.segReport e 32 0x04 (s.reg (rEngFaultInfo e)).toNat).tailEnd e
  | _ => s

/-- A segment is cut at its budget (R188, R193 to R195). -/
def State.cutSeg (s : State) (e i : Nat) : State :=
  let s := ((s.bump (rEngSegStat e i) 0 8).tear e i).segExit e i
  (s.segReport e i 0x03 0).afterSeg e i

/-- BUDGET_CUT (R188): a held instruction finishes first, and the cut follows it. -/
def execBudgetCut (e : Fin 32) (s : State) : Host.Outcome State Fault Refusal :=
  let x := s.engine e.val
  match x.phase with
  | .run i =>
    if x.elapsed < fld (x.segWord true i 1) 0 16 then .next s
    else if x.heldStore.isSome then .next (s.setEngine e.val { x with cutPending := true })
    else .next (s.cutSeg e.val i)
  | _ => .next s

end Sys2Proof.Machine
end

