-- ==== Sys2Proof/Machine/EngineIssue.lean ====
section
/-! DEFINITION. Issue of an engine instruction: checks, cycles, results, stores, control (R121 to R175). -/

namespace Sys2Proof.Machine

/-- Where control goes after an instruction. -/
inductive Ctl where
  | next
  | stop
  | jump (target : Nat)
  | rep (count : Nat)
  deriving DecidableEq, Repr

/-- What one execution of an instruction does, before any of it is written (R121). `wr` lists results with their
latencies, `unal` and `single` its memory slots (R91), `far` whether `stores` go to the far-store queue. -/
structure Eff where
  fault  : Nat := 0
  frs    : List Nat := []
  wr     : List (Nat × RegWrite) := []
  clr    : BitVec 5 := 0
  posts  : List WqEntry := []
  unal   : Nat := 0
  single : Nat := 0
  ce     : Nat := 0
  ue     : List Nat := []
  load   : Option (Nat × BitVec 4 × List FarPiece) := none
  stores : List FarEntry := []
  chw    : Option (Nat × BitVec 4 × Quad Word) := none
  ctl    : Ctl := .next
  deriving DecidableEq, Repr

/-- The slots of a read or of several (R91): unaligned quads, and aligned or scalar accesses. -/
def Eff.slots (f : Eff) (ws : List Nat) (quad : Bool) : Eff :=
  if ws.isEmpty then f
  else if quad && !aligned ws then { f with unal := f.unal + 1 } else { f with single := f.single + 1 }

/-- The engine cycles of the accesses: each unaligned quad one, the others in pairs, at least one (R91, R123). -/
def Eff.cycles (f : Eff) : Nat := max 1 (f.unal + (f.single + 1) / 2)

/-- The slots that the last cycle leaves free for the queue (R96, R124). -/
def Eff.freeLast (f : Eff) : Nat :=
  if f.single = 0 then (if f.unal = 0 then 2 else 0) else f.single % 2

/-- Write-queue entries of a quad store: one per physical quad with a written lane, lower lanes first (R94, R114). -/
def quadPosts (ws : List Nat) (m : BitVec 4) (v : Quad Word) : List WqEntry :=
  let lanes := (List.range ws.length).filter fun i => m.getLsbD i
  let qs := (lanes.map fun i => ws.getD i 0 / 4).eraseDups
  qs.map fun q => lanes.foldl (fun (x : WqEntry) i =>
    let w := ws.getD i 0
    if w / 4 = q then { x with mask := x.mask ||| (1#4 <<< (w % 4)), data := x.data.set (w % 4) (v.get i) } else x)
    ⟨q, 0, Quad.all 0⟩

/-- Far-store entries: one per 32-byte unit with a written lane, the unit of word 0 first (R140, R173). -/
def farEntries (ws : List Nat) (m : BitVec 4) (v : Quad Word) : List FarEntry :=
  let lanes := (List.range ws.length).filter fun i => m.getLsbD i
  let us := ((List.range ws.length).map fun i => ws.getD i 0 / 8).eraseDups
  (us.filter fun u => lanes.any fun i => ws.getD i 0 / 8 == u).map fun u =>
    lanes.foldl (fun (x : FarEntry) i =>
      let w := ws.getD i 0
      if w / 8 = u then
        { x with mask := x.mask ||| (0xF#32 <<< (4 * (w % 8)))
                 data := (x.data &&& ~~~(0xFFFFFFFF#256 <<< (32 * (w % 8)))) ||| ((v.get i).setWidth 256 <<< (32 * (w % 8))) }
      else x) ⟨0, u, 0, 0⟩

/-- The Caldera accesses of a far load (R140). -/
def farPieces (ws : List Nat) (host : List (Nat × Nat × Int)) : List FarPiece :=
  let lanes := List.range ws.length
  ((lanes.map fun i => ws.getD i 0 / 8).eraseDups).map fun u =>
    let ls := lanes.filter fun i => ws.getD i 0 / 8 == u
    { unit := u, words := ls.map fun i => (i, ws.getD i 0), host := host.filter fun h => ls.contains h.1 }

/-- FAB cycles that a far store occupies its bank: 8 if it writes whole ECC words only, else 16 (R255). -/
def FarEntry.cycles (x : FarEntry) : Nat :=
  if (List.range 4).all fun k => let b := x.mask.extractLsb' (8 * k) 8; b == 0 || b == 0xFF then 8 else 16

/-- Puts a far request into the crossing from the engine's cluster to the fabric (R170, R173). -/
def State.offerFar (s : State) (e : Nat) (unit cycles : Nat) (k : ReqKind) : State :=
  s.xOffer (3 + e / 4) 11 (.far ⟨0, e, 0, 32 * unit, cycles, k⟩)

/-- Takes far-store entries into the queue, in order, and offers them (R173). -/
def State.takeStores (s : State) (e : Nat) (l : List FarEntry) : State :=
  l.foldl (fun s x =>
    let en := s.engine e
    let x := { x with id := en.nextFar }
    let s := s.setEngine e { en with fsq := en.fsq ++ [x], nextFar := en.nextFar + 1 }
    s.offerFar e x.unit x.cycles (.farStore e x)) s

/-- Issues a far load (R139 to R141, R175): an access that meets a queued store to its unit waits for the youngest one. -/
def State.issueLoad (s : State) (e : Nat) (tail : Bool) (fr : Nat) (m : BitVec 4) (ps : List FarPiece) : State :=
  let id := (s.engine e).nextFar
  let s := s.modEngine e fun x => { x with
    nextFar := id + 1, farLoads := x.farLoads ++ [{ id := id, tail := tail, fr := fr, mask := m, left := ps }] }
  ps.foldl (fun s p =>
    match ((s.engine e).fsq.filter fun q => q.unit == p.unit).getLast? with
    | some q => s.modEngine e fun x => { x with blocked := x.blocked ++ [⟨id, p, q.id⟩] }
    | none => s.offerFar e p.unit 8 (.farLoad e id p)) s

/-- Posts a chain write (R145, R198, R200). -/
def State.chainWrite (s : State) (e seg stamp p : Nat) (m : BitVec 4) (v : Quad Word) : State :=
  if m = 0 then s
  else
    let w : ChainWrite := ⟨s.chainId, p, (s.engine e).six.toNat, stamp, e, seg, m, v, false⟩
    ({ s with chainNow := s.chainNow ++ [w], chainId := s.chainId + 1 } : State).xOffer (3 + e / 4) 11 (.chain w.id)

/-- The program that is running, if an instruction may issue: `some tail`. Nothing issues while a store waits for
room (R131) or once the segment's count has reached its budget (R188). -/
def Engine.running (x : Engine) : Option Bool :=
  if x.heldStore.isSome then none
  else match x.phase with
    | .run i => if fld (x.segWord true i 1) 0 16 ≤ x.elapsed then none else some false
    | .tail => some true
    | _ => none

/-- A bank's program counter and repeat count after an instruction (R111, R153). -/
def RegBank.step (b : RegBank) (c : Ctl) : RegBank :=
  match c with
  | .jump t => { b with pc := t }
  | .rep n => { b with pc := b.pc + 1, rpt := n, held := false }
  | _ => if b.rpt = 0 then { b with pc := b.pc + 1, held := false } else { b with rpt := b.rpt - 1, held := true }

/-- A running segment ends where the program reaches the entry of the next enabled segment (R178). -/
def State.passEntry (s : State) (e : Nat) (tail : Bool) : State :=
  let b := (s.engine e).bank tail
  match (s.engine e).phase with
  | .run i =>
    match (s.engine e).nextEnabled (i + 1) with
    | some j =>
      if !b.held && b.pc = fld ((s.engine e).segWord true j 0) 0 14 then
        (s.segExit e i).modEngine e fun x => { x with phase := .enter j }
      else s
    | none => s
  | _ => s

/-- END: the tail program ends, or the tick program does and the tail program starts (R155, R179). -/
def State.endProgram (s : State) (e : Nat) (tail : Bool) : State :=
  if tail then s.tailEnd e
  else match (s.engine e).phase with
    | .run i => ((s.segExit e i).tailStart e).tallyMax (16 + e / 4) (s.engine e).tickCyc
    | _ => s

/-- Where the program goes after an instruction has completed. -/
def State.advance (s : State) (e : Nat) (tail : Bool) (c : Ctl) : State :=
  if c = .stop then s.endProgram e tail
  else (s.modEngine e (·.modBank tail (·.step c))).passEntry e tail

/-- FR_STALL (R142, R167): one stall cycle. -/
def State.stallCycle (s : State) (e : Nat) : State :=
  (s.emptyCycle e false).modEngine e fun x => { x with stall := x.stall + 1 }

/-- The far loads that a read of FRf waits for (R142). -/
def Engine.frPending (x : Engine) (tail : Bool) (f : Nat) : Bool := x.farLoads.any fun l => l.tail == tail && l.fr == f

/-- The stall, if there was one, is over (R177). -/
def State.stallOver (s : State) (e : Nat) : State :=
  let n := (s.engine e).stall
  if n = 0 then s else (s.hwm (rEngFarStat e) 0 16 n).modEngine e fun x => { x with stall := 0 }

/-- Completes an instruction that neither faults nor stalls and whose entries fit: access cycles, results, stores, control. -/
def State.commitEff (s : State) (e : Nat) (tail : Bool) (f : Eff) : State :=
  let x := s.engine e
  let seg := match x.phase with
    | .run i => i
    | _ => 32
  let s := s.lmEccNote e f.ce f.ue
  let s := forN (f.cycles - 1) (fun _ s =>
    (s.modEngine e fun x => { x with tickCyc := x.tickCyc + 1, elapsed := x.elapsed + 1 }).pipeStep e) s
  let stamp := (s.engine e).tickCyc + 1
  let occ := (s.engine e).wq.length + f.posts.length
  let s := s.retire e f.freeLast
  let s := s.hwm (rEngWqStat e) 0 5 occ
  let s := s.modEngine e fun x => { x with
    tickCyc := x.tickCyc + 1, elapsed := x.elapsed + 1
    wq := x.wq ++ f.posts
    inflight := x.inflight ++ f.wr.map fun w => ⟨tail, w.1, w.2⟩ }
  let s := s.modEngine e (·.modBank tail fun b => { b with flg := b.flg &&& ~~~f.clr })
  let s := s.pipeStep e
  let s := match f.chw with
    | some (p, m, v) => s.chainWrite e seg stamp p m v
    | none => s
  let s := match f.load with
    | some (r, m, ps) => s.issueLoad e tail r m ps
    | none => s
  let s := match f.ctl with
    | .jump _ => (s.emptyCycle e true).emptyCycle e true
    | _ => s
  if (s.engine e).fsq.length + f.stores.length ≤ 4 then (s.takeStores e f.stores).advance e tail f.ctl
  else (s.setBit (rEngFarStat e) 24 true).modEngine e fun x => { x with heldStore := some f.stores, stopWait := 0 }

/-- A corrected program word is counted at its fetch (R111, R159). -/
def State.countPce (s : State) (e : Nat) (tail : Bool) : State :=
  let x := s.engine e
  let b := x.bank tail
  if !b.held && SMap.get (fun _ => 0) x.progErr ((if s.actBank e then 16384 else 0) + b.pc) = 1 then
    s.bump (rEngIllStat e) 20 8 else s

/-- The engine's next instruction, if it is legal and has opcode `op`: its program kind and word. -/
def State.nextWord (s : State) (e op : Nat) : Option (Bool × IWord) :=
  match (s.engine e).running with
  | none => none
  | some tail =>
    let r := s.fetch e tail
    if r.2 = 0 && opcOf r.1 == op then some (tail, r.1) else none

/-- The drain cycles that come before an instruction which posts more entries than fit (R97); they are pipeline cycles
(R167), so the instruction reads its sources after them (log entry 31). A faulting instruction posts nothing (R190). -/
def State.drainBefore (s : State) (e : Nat) (body : State → Eff) : State :=
  forN 8 (fun _ s =>
    let f := body s
    if f.fault = 0 && decide (16 < (s.engine e).wq.length + f.posts.length) then s.drainCycle e else s) s

/-- Issues the engine's next instruction if its opcode is `op`, with the effect `body` (R121). A command whose
instruction is not the engine's next changes nothing (log entry 10). -/
def State.issue (s : State) (e op : Nat) (body : State → Bool → IWord → Eff) : State :=
  match s.nextWord e op with
  | none => s
  | some (tail, w) =>
    let s := s.drainBefore e fun s => body s tail w
    let f := body s tail w
    if f.fault ≠ 0 then s.faultAt e f.fault
    else if f.frs.any ((s.engine e).frPending tail) then s.stallCycle e
    else ((s.stallOver e).countPce e tail).commitEff e tail f

end Sys2Proof.Machine
end

