-- ==== Sys2Proof/Machine/Swap.lean ====
section
/-! DEFINITION. Ticks at an engine, program-bank and segment-table swaps, stop-waits, cluster reset (chapters 2, 3, 5). -/

namespace Sys2Proof.Machine

/-! ### Requests for a swap (R207, R209) -/

/-- SWAP_PBANK and SWAP_STAB read 1 while a request waits. -/
def State.showSwaps (s : State) (e : Nat) : State :=
  let x := s.engine e
  (s.setBit (rEngProgCtrl e) 4 (!x.swapPb.isEmpty)).setBit (rEngProgCtrl e) 5 (!x.swapSt.isEmpty)

/-- Adds requests. -/
def State.requestSwap (s : State) (e : Nat) (pb st : Bool) (r : SwapReq) : State :=
  (s.modEngine e fun x => { x with
    swapPb := if pb then x.swapPb ++ [r] else x.swapPb
    swapSt := if st then x.swapSt ++ [r] else x.swapSt }).showSwaps e

/-- A PROG_SWAP withdraws its own requests on every engine (R207). -/
def State.withdrawSwap (s : State) (c q : Nat) : State :=
  forN 32 (fun e s => (s.modEngine e fun x => { x with
    swapPb := x.swapPb.filter (· != .desc c q)
    swapSt := x.swapSt.filter (· != .desc c q) }).showSwaps e) s

/-! ### The check of R206 -/

/-- A reserved bit of an entry is set. -/
def Engine.reservedSet (x : Engine) (active : Bool) (i : Nat) : Bool :=
  let w := x.segWord active i
  !(zf ((w 0).setWidth 64) 14 2 && zf ((w 0).setWidth 64) 27 4 && zf ((w 1).setWidth 64) 28 4 &&
    zf ((w 2).setWidth 64) 14 2 && zf ((w 2).setWidth 64) 30 2 &&
    [4, 5, 6, 7].all fun n => zf ((w n).setWidth 64) 29 3) ||
  (i == 32 && !(bit (w 0) 25 == false && zf ((w 1).setWidth 64) 0 16 && w 3 == 0))

def rising : List Nat → Bool
  | a :: b :: l => decide (a < b) && rising (b :: l)
  | _ => true

/-- The table may become active at a D0 rate (R206). -/
def Engine.tableLegal (x : Engine) (active : Bool) (rate : Nat) : Bool :=
  let en := (List.range 32).filter fun i => x.segEn active i
  let bud := en.map fun i => fld (x.segWord active i 1) 0 16
  rising (en.map fun i => fld (x.segWord active i 0) 0 14) && decide (bud.foldl (· + ·) 0 ≤ usableCycles rate) &&
    bud.all (fun b => decide (11 ≤ b)) && (List.range 33).all fun i => !(x.reservedSet active i)

/-! ### A swap takes effect, or is refused (R186, R205 to R207) -/

/-- A request of a descriptor has been served on engine `e`; the PROG_SWAP completes with the last one. -/
def State.serveSwap (s : State) (e six : Nat) (r : SwapReq) : State :=
  match r with
  | .bar => s
  | .desc c q =>
    let s := s.modDesc c q fun d => { d with wait := d.wait &&& ~~~(1#32 <<< e) }
    match s.findDesc c q with
    | none => s
    | some d =>
      if d.wait ≠ 0 then s
      else
        let late := d.late || (match d.due with
          | some k => decide (k < six)
          | none => false)
        s.setResult c q (if late then 0x01 else 0x00)

/-- A PROG_SWAP whose swap an engine refuses ends. If another engine has already applied it, it is torn. -/
def State.refuseSwapReq (s : State) (r : SwapReq) : State :=
  match r with
  | .bar => s
  | .desc c q =>
    match s.findDesc c q with
    | none => s
    | some d => (s.setResult c q (if d.wait = d.named then 0x10 else 0x15)).withdrawSwap c q

/-- The requests pending at an engine, each once. -/
def Engine.swapReqs (x : Engine) : List SwapReq := (x.swapPb ++ x.swapSt).eraseDups

def State.refuseSwaps (s : State) (e : Nat) : State :=
  let rs := (s.engine e).swapReqs
  let s := ((s.modEngine e fun x => { x with swapPb := [], swapSt := [] }).showSwaps e).setBit (rEngProgCtrl e) 8 true
  rs.foldl (fun s r => s.refuseSwapReq r) s

/-- The tail bank is cleared: a suspended tail program is abandoned (R205, R172). -/
def Engine.clearTail (x : Engine) : Engine :=
  { x with
    tail := {}, tailInit := true, tailSusp := false
    farLoads := x.farLoads.filter fun l => !l.tail
    inflight := x.inflight.filter fun p => !p.tail }

/-- The entries whose frame must be initialised after a swap (R186). -/
def initBits (old new : Engine) : BitVec 32 :=
  (List.range 32).foldl (fun m i =>
    if bit (new.segWord true i 0) 26 || old.owner i != new.owner i then m ||| (1#32 <<< i) else m) 0

/-- Applies the swaps pending at an idle engine, for tick `six`. -/
def State.applySwaps (s : State) (e six : Nat) : State :=
  let x := s.engine e
  if x.swapPb.isEmpty && x.swapSt.isEmpty then s
  else
    let st := !x.swapSt.isEmpty
    let pb := !x.swapPb.isEmpty
    if !(x.tableLegal (!st) s.d0Rate) then s.refuseSwaps e
    else
      let y := if st then { x with actTab := !x.actTab } else x
      let y := { y with swapPb := [], swapSt := [], needInit := y.needInit ||| initBits x y }
      let y := if pb || x.owner 32 != y.owner 32 then y.clearTail else y
      let s := (s.setEngine e y).showSwaps e
      let s := if pb then s.setBit (rEngProgCtrl e) 0 (!(s.actBank e)) else s
      let s := s.setReg64 (rEngSwapSidxLo e) six
      x.swapReqs.foldl (fun s r => s.serveSwap e six r) s

/-! ### Delay-line descriptors (R105, R106) -/

/-- A staged descriptor with EN = 1 is valid (R106). -/
def Dld.valid (d : Dld) : Bool :=
  d.place != 3 && d.dom != 3 && d.len != 0 && d.len * d.frame % 4 == 0 &&
  match d.place with
  | 0 => decide (d.base + d.len * d.frame ≤ 65536)
  | 1 => decide (d.base + d.len * d.frame ≤ 2 ^ 24)
  | _ => decide (4 * d.len * d.frame ≤ 2 ^ 40)

/-- The waiting copies become active. -/
def State.activateDlds (s : State) (e : Nat) : State :=
  let ws := (s.engine e).dldWait
  let s := s.modEngine e fun x => { x with dldWait := [] }
  ws.foldl (fun s (p : Nat × Word × Word × Word) =>
    let n := p.1
    let d := dldOf p.2.1 p.2.2.1 p.2.2.2
    let ok := !d.en || d.valid
    let s := s.setReg (rEngDldW0 e n) (if ok then p.2.1 else putBit p.2.1 31 false)
    let s := (s.setReg (rEngDldW1 e n) p.2.2.1).setReg (rEngDldW2 e n) p.2.2.2
    if ok then s else s.setBit (rEngDldErr e (n / 32)) (n % 32) true) s

/-- A write to W0 completes the open copy (R105). -/
def State.dldW0 (s : State) (e n : Nat) (w0 : Word) : State :=
  s.modEngine e fun x =>
    let o := SMap.get (fun _ => ((0 : Word), (0 : Word))) x.dldOpen n
    { x with dldWait := SMap.set (fun _ => ((0 : Word), (0 : Word), (0 : Word))) x.dldWait n (w0 &&& 0x8FFFFFFF, o.1, o.2) }

/-- A write to W1 or W2 goes to the open copy (R105). -/
def State.dldW12 (s : State) (e n : Nat) (second : Bool) (v : Word) : State :=
  s.modEngine e fun x => { x with
    dldOpen := SMap.modify (fun _ => ((0 : Word), (0 : Word))) x.dldOpen n fun o =>
      if second then (o.1, v &&& 0x0FFF003F) else (v, o.2) }

/-! ### The receipt of a tick (R53, R57 to R59, R176, R178, R181, R201, R205) -/

/-- ENG.TICK_OVR counts an overrun (R59). -/
def State.overrun (s : State) (e : Nat) : State :=
  let r := rEngTickOvr e
  let s := (s.setBit r 31 true).tally (e / 4)
  if s.rfld r 0 24 = 0xFFFFFF then s.setBit r 30 true else s.count r 0 24

/-- Segments from entry `i` on are not reached. -/
def State.skipFrom (s : State) (e i : Nat) : State :=
  ((List.range 32).filter fun j => decide (i ≤ j) && (s.engine e).segEn true j).foldl (fun s j => s.skipSeg e j) s

/-- The tick program still runs at a tick: it is stopped (R201). -/
def State.stopTick (s : State) (e : Nat) : State :=
  match (s.engine e).phase with
  | .run i => (((((s.overrun e).tear e i).segExit e i).segReport e i 0x01 0).skipFrom e (i + 1))
  | .enter i => (s.overrun e).skipFrom e i
  | _ => s

/-- The engine begins a tick (step 7 of R53). The tail program, if it runs, is suspended. -/
def State.beginTick (s : State) (e : Nat) (t : TickInfo) : State :=
  let s := s.activateDlds e
  let s := { s with par := { s.par with
    resync := SMap.mapAll (fun _ => {}) (fun _ r => { r with wait := r.wait &&& ~~~(1#32 <<< e) }) s.par.resync } }
  let s := s.modEngine e fun x => { x with
    six := BitVec.ofNat 64 t.six, dfl := t.dfl, tc1 := BitVec.ofNat 64 t.tc1, tc2 := BitVec.ofNat 64 t.tc2
    tickCyc := 0, elapsed := 0, stall := 0, torn := [], received := true
    tailSusp := x.tailSusp || (x.phase == .tail) }
  match (s.engine e).nextEnabled 0 with
  | some i => s.modEngine e fun x => { x with phase := .enter i }
  | none => s.tailStart e

/-- A pending swap is deferred (R205). -/
def State.deferSwap (s : State) (e : Nat) : State :=
  let x := s.engine e
  if x.swapPb.isEmpty && x.swapSt.isEmpty then s else s.bump (rEngProgCtrl e) 16 16

/-- Receipt of tick `t` by engine `e`. -/
def State.receive (s : State) (e : Nat) (t : TickInfo) : State :=
  let s := s.modEngine e fun x => { x with offered := none }
  let s := if (s.engine e).fsq.isEmpty then s else s.bump (rEngFarStat e) 16 8
  let x := s.engine e
  if x.heldStore.isSome then
    let s := (s.deferSwap e).setBit (rEngStopWait e) 31 true
    let s := match x.pendTick with
      | some k => (s.modEngine e fun x => { x with six := BitVec.ofNat 64 k.six }).skipFrom e 0 |>.overrun e
      | none => s.modEngine e fun x => { x with stopWait := 0 }
    s.modEngine e fun x => { x with pendTick := some t }
  else
    match x.phase with
    | .run _ => ((s.deferSwap e).stopTick e).beginTick e t
    | .enter _ => ((s.deferSwap e).stopTick e).beginTick e t
    | _ => (s.applySwaps e t.six).beginTick e t

/-- TICK_RECEIPT: the tick that the generator has offered to the engine's cluster. -/
def execTickReceipt (e : Fin 32) (s : State) : Host.Outcome State Fault Refusal :=
  match (s.engine e.val).offered with
  | none => .next s
  | some t => .next (s.receive e.val t)

/-- FAR_STORE_TAKEN (R174, R181, R188, R201): the held instruction's entries fit. -/
def execFarStoreTaken (e : Fin 32) (s : State) : Host.Outcome State Fault Refusal :=
  let x := s.engine e.val
  match x.heldStore with
  | none => .next s
  | some l =>
    if 4 < x.fsq.length + l.length then .next s
    else
      let s := s.modEngine e.val fun x => { x with heldStore := none, cutPending := false, pendTick := none, stopWait := 0 }
      let s := s.takeStores e.val l
      let tail := x.phase == .tail
      let s := if x.pendTick.isSome || x.cutPending then s.hwm (rEngStopWait e.val) 0 16 x.stopWait else s
      match x.pendTick, x.phase with
      | some t, .tail => .next ((s.advance e.val true .next).beginTick e.val t)
      | some t, _ => .next ((s.stopTick e.val).beginTick e.val t)
      | none, .run i => .next (if x.cutPending then s.cutSeg e.val i else s.advance e.val tail .next)
      | none, _ => .next (s.advance e.val tail .next)

/-! ### Register commands -/

/-- DLD_W0_WRITE (R105). -/
def execDldW0Write (e : Fin 32) (n : Fin 64) (v : BitVec 32) (s : State) : Host.Outcome State Fault Refusal :=
  .next (s.bar (rEngDldW0 e.val n.val) fun s => s.dldW0 e.val n.val v)

/-- SWAP_PBANK (R209): a BAR0 write sets the bit. -/
def execSwapPbank (e : Fin 32) (s : State) : Host.Outcome State Fault Refusal :=
  .next (s.bar (rEngProgCtrl e.val) fun s => s.requestSwap e.val true false .bar)

/-- SWAP_STAB (R209). -/
def execSwapStab (e : Fin 32) (s : State) : Host.Outcome State Fault Refusal :=
  .next (s.bar (rEngProgCtrl e.val) fun s => s.requestSwap e.val false true .bar)

/-! ### Cluster reset (R20, R72, R98, R211) -/

/-- PROG_SWAPs pending on an engine that is reset end CANCELLED, or TORN if some engine had applied them (R367). -/
def State.cancelSwaps (s : State) (e : Nat) : State :=
  (s.engine e).swapReqs.foldl (fun s r => match r with
    | .bar => s
    | .desc c q => match s.findDesc c q with
      | none => s
      | some d => (s.setResult c q (if d.wait = d.named then 0x02 else 0x15)).withdrawSwap c q) s

/-- An engine after a cluster reset keeps its memories only. -/
def Engine.afterReset (x : Engine) : Engine :=
  { lm := x.lm, lmErr := x.lmErr, lmEpoch := x.lmEpoch, prog := x.prog, progErr := x.progErr, progEpoch := x.progEpoch }

/-- A bank forgets the requests of cluster `c`'s engines, and decides again if it had decided one of them. -/
def Bank.dropCluster (b : Bank) (c : Nat) : Bank :=
  let mine := fun (r : BankReq) => decide (r.master < 32) && r.master / 4 == c
  { b with
    reqs := b.reqs.filter fun r => !(mine r)
    decided := b.decided.filter fun d => !(mine d.1) }

/-- What a cluster loses at a reset or a power-down: everything but its memories. -/
def State.clusterClear (s : State) (c : Nat) : State :=
  let s := forN 4 (fun i s => s.modEngine (4 * c + i) Engine.afterReset) s
  let lo := 0x080000 + 0x4000 * c
  let s := { s with regs := SMap.keep (fun k => !(decide (lo ≤ k) && decide (k < lo + 0x4000))) s.regs }
  let bit4 : BitVec 32 := 0xF#32 <<< (4 * c)
  { s with
    fab := { s.fab with
      banks := SMap.mapAll (fun _ => {}) (fun _ b => b.dropCluster c) s.fab.banks
      xings := SMap.keep (fun k => k / 32 != 3 + c && k % 32 != 3 + c) s.fab.xings }
    chainNow := s.chainNow.filter fun w => w.arrived || w.eng / 4 != c
    par := { s.par with
      resync := SMap.mapAll (fun _ => {}) (fun _ r => { r with wait := r.wait &&& ~~~bit4 }) s.par.resync } }

def State.clusterReset (s : State) (c : Nat) : State :=
  (forN 4 (fun i s => s.cancelSwaps (4 * c + i)) s).clusterClear c

/-- CLUSTER_RESET. -/
def execClusterReset (c : Fin 8) (s : State) : Host.Outcome State Fault Refusal :=
  .next ((s.clusterReset c.val).histBegin 6 (fld (s.reg rTopModeReason) 0 8) (some 0))

end Sys2Proof.Machine
end

