-- ==== Sys2Proof/Machine/Desc.lean ====
section
/-! DEFINITION. Descriptors: fields, dispatch order (R360, R361, R367, R381), assignment of resources (R722). -/

namespace Sys2Proof.Machine

/-- `len` body bytes from descriptor byte `off` on, as a number. -/
def OpenDesc.num (d : OpenDesc) (off len : Nat) : Nat := fld d.body (8 * (off - 16)) (8 * len)

/-- Every body byte outside the listed fields is 0 (R381). -/
def OpenDesc.onlyUses (d : OpenDesc) (fs : List (Nat × Nat)) : Bool :=
  (List.range 48).all fun i =>
    (fs.any fun f => decide (f.1 ≤ 16 + i) && decide (16 + i < f.1 + f.2)) || d.num (16 + i) 1 == 0

/-- The commit group that extra names. -/
def OpenDesc.group (d : OpenDesc) : Option Nat := if d.extra / 2 ^ 15 % 2 = 1 then some (d.extra % 64) else none

/-- The reserved bits of a group field are 0. -/
def OpenDesc.groupOk (d : OpenDesc) : Bool := d.extra / 64 % 512 == 0

def tProgLoad : Nat := 0x10
def tSegMap : Nat := 0x11
def tProgSwap : Nat := 0x12
def tCoefWrite : Nat := 0x20
def tCoefDelta : Nat := 0x21
def tCommit : Nat := 0x22
def tGainSet : Nat := 0x23
def tRouteSet : Nat := 0x30
def tRouteClear : Nat := 0x31
def tStreamOpen : Nat := 0x40
def tStreamClose : Nat := 0x41
def tLineMap : Nat := 0x50
def tWindowSet : Nat := 0x51
def tDmaCopy : Nat := 0x60
def tCrcCheck : Nat := 0x61
def tQuery : Nat := 0x70
def tCancel : Nat := 0x71
def tPowerSet : Nat := 0x78
def tTestRun : Nat := 0x7F
def tCascSend : Nat := 0x80

/-- A context's PCIe function. -/
def State.funcOf (s : State) (c : Nat) : Nat := s.rfld (rCtxtCtrl c) 0 6

/-- The types of R361. -/
def descTypes : List Nat :=
  [0x01, 0x02, 0x10, 0x11, 0x12, 0x20, 0x21, 0x22, 0x23, 0x30, 0x31, 0x40, 0x41, 0x50, 0x51, 0x60, 0x61, 0x70, 0x71, 0x78,
   0x7F, 0x80]

/-- The control types of R361. -/
def isControl (t : Nat) : Bool := [0x10, 0x11, 0x30, 0x31, 0x50, 0x51, 0x78, 0x7F, 0x80].contains t

/-- The objects a descriptor names (R367): sets 0, groups 1, ramp channels 2, crosspoints 3, engines 4, rings 5,
lines 6, each with its number. -/
def OpenDesc.objects (d : OpenDesc) : List (Nat × Nat) :=
  let g := match d.group with
    | some g => [(1, g)]
    | none => []
  if d.typ = tCoefWrite || d.typ = tCoefDelta then (0, d.num 16 2) :: g
  else if d.typ = tCommit then [(1, d.extra % 64)]
  else if d.typ = tGainSet then
    (if d.num 16 1 = 0 then (2, d.num 18 2) else (3, 65536 * d.num 18 2 + d.num 20 2)) :: g
  else if d.typ = tRouteSet || d.typ = tRouteClear then (3, 65536 * d.num 16 2 + d.num 18 2) :: g
  else if d.typ = tProgSwap then ((List.range 32).filter (fun e => d.num 16 4 / 2 ^ e % 2 == 1)).map (4, ·) ++ g
  else if d.typ = tProgLoad || d.typ = tSegMap then [(4, d.extra % 32)]
  else if d.typ = tStreamOpen || d.typ = tStreamClose then [(5, d.extra % 16)]
  else if d.typ = tLineMap then [(6, d.extra % 4096), (4, d.num 56 1)]
  else []

/-- An earlier descriptor `p` that names an object in common no longer holds `d` back. Its immediate effect is done:
a shadow write has ended, a line is mapped, a swap has been applied before the engine's programs or tables change. -/
def OpenDesc.passed (p d : OpenDesc) : Bool :=
  p.result.isSome ||
  (p.started &&
    (if p.typ = tCoefWrite || p.typ = tCoefDelta then p.staged
     else if p.typ = tLineMap then false
     else if p.typ = tProgSwap then !(d.typ == tProgLoad || d.typ == tSegMap || d.typ == tLineMap)
     else true))

/-- The dispatch rules of R367 let `d` start behind the earlier descriptors `ps`. -/
def mayStart (ps : List OpenDesc) (d : OpenDesc) : Bool :=
  (!(d.barrier || d.typ == 0x02) || ps.all (·.record)) &&
  ps.all fun p =>
    (p.typ != 0x02 || p.record) &&
    (!(isControl p.typ && isControl d.typ) || p.started || p.result.isSome) &&
    (!(p.objects.any fun o => d.objects.contains o) || p.passed d)

/-- The open descriptor `q` of context `c`, if it is of type `t`, has not started, and may start. -/
def State.ready (s : State) (c q t : Nat) : Option OpenDesc :=
  let os := (s.context c).opens
  match os.find? fun d => d.seq == q with
  | none => none
  | some d =>
    if d.typ = t && !d.started && d.result.isNone && mayStart (os.takeWhile fun p => p.seq != q) d then some d else none

/-- The open descriptor `q` of context `c`, if it is of type `t`, has started and is not complete. -/
def State.running (s : State) (c q t : Nat) : Option OpenDesc :=
  (s.findDesc c q).filter fun d => d.typ == t && d.started && d.result.isNone

/-- The descriptor has started. -/
def State.begin (s : State) (c q : Nat) : State := s.modDesc c q fun d => { d with started := true }

/-- The descriptor has won its grant (R380). -/
def State.grant (s : State) (c q : Nat) : State := s.modDesc c q fun d => { d with started := true, granted := true }

/-- The descriptor ends at once with a status. -/
def State.finish (s : State) (c q code : Nat) : State := (s.grant c q).setResult c q code

/-! ### Assignment of resources (R722) -/

/-- The key of an item: kind 1 LM, 2 DLD, 3 SEG, 4 CPORT, 5 CSET. -/
def resKey (kind eng item : Nat) : Nat := (32 * kind + eng) * 65536 + item

def State.resOwner (s : State) (kind eng item : Nat) : Option Nat := SMap.get (fun _ => none) s.res (resKey kind eng item)

/-- Context `c` holds items `lo` to `hi`. -/
def State.holds (s : State) (c kind eng lo hi : Nat) : Bool :=
  decide (hi < lo) || (List.range (hi - lo + 1)).all fun i => s.resOwner kind eng (lo + i) == some c

/-- Physical quads `lo` to `hi` of an engine lie in local-memory units of context `c`. -/
def State.holdsQuads (s : State) (c e lo hi : Nat) : Bool := decide (hi < lo) || s.holds c 1 e (lo / 64) (hi / 64)

/-- The number of items of a kind (R722). -/
def resCount (kind : Nat) : Nat :=
  match kind with
  | 1 => 256
  | 2 => 64
  | 3 => 33
  | 4 => 256
  | 5 => 1024
  | _ => 0

/-- Two ranges meet. -/
def meets (a b c d : Nat) : Bool := decide (a ≤ d) && decide (c ≤ b) && decide (a ≤ b) && decide (c ≤ d)

/-- The enabled entries of both segment tables: engine, table, entry. -/
def State.enabledEntries (s : State) (e : Nat) : List (Bool × Nat) :=
  [true, false].flatMap fun t => ((List.range 33).filter fun i => (s.engine e).segEn t i).map (t, ·)

/-- An enabled configuration reaches the item (R722, R724). -/
def State.resUsed (s : State) (kind e item : Nat) : Bool :=
  let x := s.engine e
  match kind with
  | 1 =>
    let lo := 64 * item
    let hi := lo + 63
    (s.enabledEntries e).any (fun p =>
      let w := x.segWord p.1 p.2 2
      meets (fld w 0 14) (fld w 16 14) lo hi) ||
    (List.range 64).any (fun n =>
      let d := s.dld e n
      d.en && d.place == 0 && meets (d.base / 4) ((d.base + d.len * d.frame - 1) / 4) lo hi) ||
    (List.range 1024).any fun n =>
      let w0 := s.reg (rFabCsetW0 n)
      let size := s.rfld (rFabCsetW2 n) 0 16
      bit w0 31 && !(bit w0 22) && fld w0 24 5 == e &&
        (meets (fld w0 0 22) (fld w0 0 22 + size) lo hi ||
         meets (s.rfld (rFabCsetW1 n) 0 22) (s.rfld (rFabCsetW1 n) 0 22 + size) lo hi)
  | 2 =>
    (s.dld e item).en ||
    (s.enabledEntries e).any fun p =>
      let w := x.segWord p.1 p.2 1
      decide (fld w 16 6 ≤ item) && decide (item ≤ fld w 22 6)
  | 3 => x.segEn true item || x.segEn false item
  | 4 =>
    (List.range 32).any fun f => (s.enabledEntries f).any fun p =>
      let w := (s.engine f).segWord p.1 p.2 3
      p.2 != 32 && (meets (fld w 0 8) (fld w 8 8) item item || meets (fld w 16 8) (fld w 24 8) item item)
  | _ => s.rbit (rFabCsetW0 item) 31

/-- The command in FAB.RES_CMD, executed by Keeper as a K2 task (R724). -/
def State.resCommand (s : State) (op : Nat) : State :=
  let cmd := s.reg rFabResCmd
  if !(bit cmd 29) || fld cmd 9 2 ≠ op then s
  else
    let c := fld cmd 0 9
    let kind := fld cmd 12 3
    let e := fld cmd 16 5
    let lo := s.rfld rFabResRange 0 16
    let hi := s.rfld rFabResRange 16 16
    let items := (List.range (hi + 1 - lo)).map (lo + ·)
    let ok := decide (lo ≤ hi) && decide (hi < resCount kind) && (decide (kind < 4) || e == 0) &&
      (if op = 1 then items.all fun i => s.resOwner kind e i == none
       else items.all fun i => s.resOwner kind e i == some c && !(s.resUsed kind e i))
    let s := s.setBit rFabResCmd 29 false
    if !ok then s.setBit rFabResCmd 30 true
    else { s with res := items.foldl (fun m i =>
      SMap.set (fun _ => none) m (resKey kind e i) (if op = 1 then some c else none)) s.res }

/-- RES_ASSIGN. -/
def execResAssign (s : State) : Host.Outcome State Fault Refusal := .next (s.resCommand 1)

/-- RES_RELEASE. -/
def execResRelease (s : State) : Host.Outcome State Fault Refusal := .next (s.resCommand 2)

end Sys2Proof.Machine
end

