-- ==== Sys2Proof/Machine/Params.lean ====
section
/-! DEFINITION. Coefficient sets, bindings, commit groups and arming (chapter 6). -/

namespace Sys2Proof.Machine

/-! ### Sets (R212 to R214) -/

/-- A completed copy may be taken: it leaves the set disabled, or its pages fit and lie apart (R214). -/
def csetFits (w0 w1 w2 : Word) : Bool :=
  !(bit w0 31) ||
  (let size := fld w2 0 16
   let p := fld w0 0 22
   let q := fld w1 0 22
   let top := if bit w0 22 then 2 ^ 22 - 1 else 16383
   decide (p + size ≤ top) && decide (q + size ≤ top) && !(meets p (p + size) q (q + size)))

/-- A copy becomes the set's configuration. -/
def State.csetTake (s : State) (n : Nat) (w0 w1 w2 : Word) : State :=
  let w0 := if bit w0 22 then w0 &&& 0xE0FFFFFF else w0
  let en := bit w0 31
  let act := !en && s.rbit (rFabCsetW0 n) 23
  let s := s.setReg (rFabCsetW0 n) (putBit (w0 &&& 0x9F7FFFFF) 23 act)
  let s := s.setReg (rFabCsetW1 n) (w1 &&& 0x3FFFFF)
  let s := s.setReg (rFabCsetW2 n) ((s.reg (rFabCsetW2 n) &&& 0xFE000000) ||| (w2 &&& 0x01FFFFFF))
  if en then (s.setBit (rFabCsetW2 n) 25 false).setReg (rFabCsetW3 n) 0 else s

/-- A write to W0 completes the staging copy (R214). -/
def State.csetW0 (s : State) (n : Nat) (w0 : Word) : State :=
  let o := SMap.get (fun _ => ((0 : Word), (0 : Word))) s.par.csetStage n
  if bit w0 31 && (s.rbit (rFabCsetW0 n) 31 || !(csetFits w0 o.1 o.2)) then s.setBit (rFabCsetW2 n) 28 true
  else s.csetTake n w0 o.1 o.2

/-- A write to W1 or W2 goes to the staging copy; a 1 in REJ clears it (R214). -/
def State.csetW12 (s : State) (n : Nat) (second : Bool) (v : Word) : State :=
  let s := if second && bit v 28 then s.setBit (rFabCsetW2 n) 28 false else s
  { s with par := { s.par with
    csetStage := SMap.modify (fun _ => ((0 : Word), (0 : Word))) s.par.csetStage n fun o =>
      if second then (o.1, v) else (v, o.2) } }

/-- CSET_W0_WRITE. -/
def execCsetW0Write (n : Fin 1024) (v : BitVec 32) (s : State) : Host.Outcome State Fault Refusal :=
  .next (s.csetW0 n.val v)

/-- A write of a binding (R215). -/
def State.cbindW (s : State) (e n : Nat) (v : Word) : State := s.setReg (rEngCbind e n) (v &&& 0x8003FFFF)

/-- CBIND_WRITE. -/
def execCbindWrite (e : Fin 32) (n : Fin 16) (v : BitVec 32) (s : State) : Host.Outcome State Fault Refusal :=
  .next (s.bar (rEngCbind e.val n.val) fun s => s.cbindW e.val n.val v)

/-! ### Pages (R213, R216, R218) -/

def State.csetAct (s : State) (n : Nat) : Nat := if s.rbit (rFabCsetW0 n) 23 then 1 else 0
def State.csetSize (s : State) (n : Nat) : Nat := s.rfld (rFabCsetW2 n) 0 16
def State.csetOwner (s : State) (n : Nat) : Nat := s.rfld (rFabCsetW2 n) 16 9
def State.shadowGen (s : State) (n : Nat) : Nat := s.rfld (rFabCsetW3 n) 16 16

/-- The cluster of a LOCAL set runs, so its local memory can be written (R218). -/
def State.csetReach (s : State) (n : Nat) : Bool :=
  s.rbit (rFabCsetW0 n) 22 || s.island (s.rfld (rFabCsetW0 n) 24 5 / 4) != 3

/-- A set's words reach an island that is GOING or OFF (R675). -/
def State.setGone (s : State) (w0 w1 : Word) : Bool :=
  if bit w0 22 then s.quarterGone (16 * fld w0 0 22) || s.quarterGone (16 * fld w1 0 22) else s.islandGone (fld w0 24 5 / 4)

/-- Writes lanes of a quad of a page. The mover's master number is 32 (R32). -/
def State.pageWrite (s : State) (n page quad : Nat) (m : BitVec 4) (v : Quad Word) : State :=
  let w := s.pageBase n page + 4 * quad
  if s.rbit (rFabCsetW0 n) 22 then
    s.calWrite (4 * w) v.toBytes (fun i => m.getLsbD (i / 4)) false 32
  else
    let e := s.rfld (rFabCsetW0 n) 24 5
    forN 4 (fun i s => if m.getLsbD i then s.lmPut e ((w + i) % 65536) (v.get i) else s) s

/-- Copies a page to the other (R223): poison travels with Caldera data. -/
def State.pageCopy (s : State) (n page : Nat) : State :=
  let a := s.pageBase n page
  let b := s.pageBase n (1 - page)
  let quads := s.csetSize n + 1
  if s.rbit (rFabCsetW0 n) 22 then
    forN (2 * quads) (fun k s =>
      let r := s.eccRead (a / 2 + k) 32
      let d := (List.range 8).map fun i => if r.1 then 0 else r.2.calByte (4 * a + 8 * k + i)
      r.2.calWrite (4 * b + 8 * k) d (fun _ => true) r.1 32) s
  else
    let e := s.rfld (rFabCsetW0 n) 24 5
    forN (4 * quads) (fun k s =>
      let r := s.nearWord e (a + k)
      let s := s.lmEccNote e (if r.2 = 1 then 1 else 0) (if r.2 = 2 then [(a + k) % 65536 / 4] else [])
      s.lmPut e ((b + k) % 65536) r.1) s

/-! ### Commit groups (R225 to R228) -/

def State.group (s : State) (g : Nat) : Group := SMap.get (fun _ => {}) s.par.groups g

/-- Members staged in all groups. -/
def State.stagedAll (s : State) : Nat := (s.par.groups.map fun p => p.2.members.length).foldl (· + ·) 0

/-- The sets that a list of members holds. -/
def memberSets (l : List Member) : List Nat := l.filterMap fun
  | .flip n _ _ => some n
  | _ => none

/-- Sets a group; MEMBERS, STAGED and the MEMBER bits of its sets follow. -/
def State.setGroup (s : State) (g : Nat) (x : Group) : State :=
  let old := memberSets (s.group g).members
  let s := { s with par := { s.par with groups := SMap.set (fun _ => {}) s.par.groups g x } }
  let s := old.foldl (fun s n => s.setBit (rFabCsetW2 n) 27 false) s
  let s := (memberSets x.members).foldl (fun s n => s.setBit (rFabCsetW2 n) 27 true) s
  (s.setFld (rFabCgCtrl g) 16 9 x.members.length).setFld rFabCommitStat 16 13 s.stagedAll

/-- STATE of R237: 0 IDLE, 1 STAGING, 2 ARMED, 3 DECIDING, 4 WAIT_APPLIED, 5 IN_DOUBT. -/
def State.groupSt (s : State) (g : Nat) : Nat := s.rfld (rFabCgCtrl g) 12 3
def State.setGroupSt (s : State) (g v : Nat) : State := s.setFld (rFabCgCtrl g) 12 3 v

/-- The context owns the enabled group (R225). -/
def State.ownsGroup (s : State) (c g : Nat) : Bool := s.rbit (rFabCgCtrl g) 31 && s.rfld (rFabCgCtrl g) 0 9 == c

/-- The objects of a member (R227): sets, ramp channels, crosspoints, engines. -/
def Member.objects (m : Member) : List (Nat × Nat) :=
  match m with
  | .flip n _ _ => [(0, n)]
  | .gain (.helper n) _ _ _ _ _ => [(1, n)]
  | .gain (.xpoint a b) _ _ _ _ _ => [(2, 65536 * a + b)]
  | .routeSet a b _ _ _ _ _ _ _ => [(2, 65536 * a + b)]
  | .routeClear a b _ _ _ _ => [(2, 65536 * a + b)]
  | .swap es _ _ _ _ => ((List.range 32).filter (es.getLsbD ·)).map (3, ·)

/-- The groups other than `g` that hold one of the objects. -/
def State.heldElsewhere (s : State) (g : Option Nat) (os : List (Nat × Nat)) : Bool :=
  s.par.groups.any fun p => some p.1 != g && p.2.members.any fun m => m.objects.any os.contains

/-- A member of a group is replaced by a later change to its object (R226). Swaps stand side by side. -/
def Member.replaces (m old : Member) : Bool :=
  match m, old with
  | .swap .., _ => false
  | _, .swap .. => false
  | m, old => m.objects == old.objects

def restage (m : Member) (l : List Member) : List Member :=
  if l.any m.replaces then l.map fun o => if m.replaces o then m else o else l ++ [m]

/-- A group whose state holds descriptors back (R228). -/
def State.groupBusy (s : State) (g : Nat) : Bool := decide (2 ≤ s.groupSt g)

/-- The status with which staging a member into `g`, or applying it at the next tick, is turned away (R225, R227):
0 if it is not. -/
def State.stageStatus (s : State) (c : Nat) (g : Option Nat) (m : Member) : Nat :=
  if s.heldElsewhere g m.objects then 0x10
  else match g with
    | none => 0
    | some g =>
      if !(s.ownsGroup c g) then 0x10
      else
        let l := restage m (s.group g).members
        let d := l.length - (s.group g).members.length
        if 256 < l.length || 4096 < s.stagedAll + d then 0x12 else 0

/-- Stages a member in its group, or for the next tick boundary. -/
def State.stage (s : State) (g : Option Nat) (m : Member) : State :=
  match g with
  | none => { s with par := { s.par with next := s.par.next ++ [m] } }
  | some g =>
    let x := s.group g
    (s.setGroup g { x with members := restage m x.members }).setGroupSt g 1

/-- The group a descriptor names holds it back. -/
def State.heldBack (s : State) (d : OpenDesc) : Bool :=
  match d.group with
  | some g => s.groupBusy g
  | none => false

/-! ### Shadow writes (R218 to R224) -/

/-- What COEF_WRITE and COEF_DELTA require of the set and the generations (R221). -/
def State.coefOk (s : State) (c n : Nat) (gens : List Nat) : Bool :=
  decide (n < 1024) && s.rbit (rFabCsetW0 n) 31 && s.csetOwner n == c && gens.all (· != 0xFFFF)

/-- Starts a shadow write that its checks let through: the member is staged, the quads are written. -/
def State.coefStart (s : State) (c q n : Nat) (d : OpenDesc) (f : State → State) : State :=
  let m := Member.flip n c q
  let st := s.stageStatus c d.group m
  if st ≠ 0 then s.finish c q st
  else
    let s := f (s.begin c q)
    if d.group.isSome then s.stage d.group m else s

/-- COEF_WRITE (R218, R221): `data` are the quads that host reads have returned, from the first on. -/
def execCoefWrite (c : Fin 512) (q : BitVec 32) (data : List (BitVec 128)) (s : State) : Host.Outcome State Fault Refusal :=
  match s.ready c.val q.toNat tCoefWrite with
  | none => .next s
  | some d =>
    let n := d.num 16 2
    let count := d.num 22 2 + 1
    if s.heldBack d || (decide (n < 1024) && (s.rbit (rFabCsetW2 n) 26 || !(s.csetReach n))) then .next s
    else if !(d.onlyUses [(16, 16)]) || !d.groupOk || !(s.coefOk c.val n [d.num 18 2]) ||
        s.setGone (s.reg (rFabCsetW0 n)) (s.reg (rFabCsetW1 n)) ||
        s.csetSize n < d.num 20 2 + d.num 22 2 then .next (s.finish c.val q.toNat 0x10)
    else .next (s.coefStart c.val q.toNat n d fun s =>
      let data := data.take count
      let s := forN data.length (fun k s =>
        s.pageWrite n (1 - s.csetAct n) (d.num 20 2 + k) 0xF (Quad.ofFn fun i => (data.getD k 0).extractLsb' (32 * i) 32)) s
      s.modDesc c.val q.toNat fun d => { d with slot := data.length, granted := !data.isEmpty })

/-- An entry of a delta list (R220), 24 bytes. -/
def deltaOk (size : Nat) (w : BitVec 192) : Bool := decide (fld w 0 16 ≤ size) && zf (w.extractLsb' 0 64) 20 44

/-- COEF_DELTA (R219 to R221): `list` is the delta list. -/
def execCoefDelta (c : Fin 512) (q : BitVec 32) (list : List (BitVec 192)) (s : State) : Host.Outcome State Fault Refusal :=
  match s.ready c.val q.toNat tCoefDelta with
  | none => .next s
  | some d =>
    let n := d.num 16 2
    let count := d.num 22 2 + 1
    if s.heldBack d || (decide (n < 1024) && (s.rbit (rFabCsetW2 n) 26 || !(s.csetReach n))) then .next s
    else if !(d.onlyUses [(16, 16)]) || !d.groupOk || !(s.coefOk c.val n [d.num 18 2, d.num 20 2]) || 256 < count ||
        s.setGone (s.reg (rFabCsetW0 n)) (s.reg (rFabCsetW1 n)) then
      .next (s.finish c.val q.toNat 0x10)
    else if s.shadowGen n ≠ d.num 18 2 then .next (s.finish c.val q.toNat 0x13)
    else if list.length < count then .next (s.modDesc c.val q.toNat fun d => { d with started := true })
    else
      let list := list.take count
      if !(list.all (deltaOk (s.csetSize n))) then .next (s.finish c.val q.toNat 0x10)
      else .next (s.coefStart c.val q.toNat n d fun s =>
        let s := list.foldl (fun s w =>
          s.pageWrite n (1 - s.csetAct n) (fld w 0 16) (BitVec.ofNat 4 (fld w 16 4))
            (Quad.ofFn fun i => w.extractLsb' (64 + 32 * i) 32)) s
        s.modDesc c.val q.toNat fun d => { d with slot := count, granted := true })

/-- SHADOW_WRITE_COMPLETE (R218, R219, R221, R222): `fail` is 0, or 1 for a failed host read, 2 for poisoned data. -/
def execShadowWriteComplete (c : Fin 512) (q : BitVec 32) (fail : Fin 3) (s : State) : Host.Outcome State Fault Refusal :=
  let (c, q) := (c.val, q.toNat)
  match s.findDesc c q with
  | none => .next s
  | some d =>
    if !d.started || d.result.isSome || d.staged || !(d.typ == tCoefWrite || d.typ == tCoefDelta) then .next s
    else
      let n := d.num 16 2
      let gen := if d.typ = tCoefWrite then d.num 18 2 else d.num 20 2
      let s := s.modDesc c q fun d => { d with staged := true }
      if fail.val ≠ 0 then
        let s := if d.slot = 0 then s else (s.setFld (rFabCsetW3 n) 16 16 0xFFFF).setBit (rFabCsetW2 n) 25 true
        .next (s.setResult c q (if fail.val = 1 then 0x20 else 0x22))
      else if d.slot < d.num 22 2 + 1 then .next (s.modDesc c q fun d => { d with staged := false })
      else
        let s := (s.setFld (rFabCsetW3 n) 16 16 gen).setBit (rFabCsetW2 n) 25 true
        .next (if d.group.isSome then s.setResult c q 0 else s.stage none (.flip n c q))

/-- Engines that must leave the old page of set `n` (R223): those with an enabled binding to a segment that is enabled
in their active table, in a powered cluster. -/
def State.boundEngines (s : State) (n : Nat) : BitVec 32 :=
  (List.range 32).foldl (fun m e =>
    if !(s.islandOff (e / 4)) && (List.range 16).any fun b =>
        s.rbit (rEngCbind e b) 31 && s.rfld (rEngCbind e b) 0 10 == n && (s.engine e).segEn true (s.rfld (rEngCbind e b) 10 5)
    then m ||| (1#32 <<< e) else m) 0

def State.resyncOf (s : State) (n : Nat) : Resync := SMap.get (fun _ => {}) s.par.resync n

def State.setResync (s : State) (n : Nat) (r : Resync) : State :=
  { s with par := { s.par with resync := SMap.set (fun _ => {}) s.par.resync n r } }

/-- COEF_FLIP (R223). A set with DIRTY = 0 is not flipped (R224). -/
def State.coefFlip (s : State) (n : Nat) : State :=
  if !(s.rbit (rFabCsetW2 n) 25) then s
  else
    let s := s.setBit (rFabCsetW0 n) 23 (!(s.rbit (rFabCsetW0 n) 23))
    let s := s.setFld (rFabCsetW3 n) 0 16 (s.shadowGen n)
    let s := (s.setBit (rFabCsetW2 n) 25 false).setBit (rFabCsetW2 n) 26 true
    s.setResync n { active := true, wait := s.boundEngines n }

/-- The lowest-numbered free mover (R390). -/
def State.freeMover (s : State) : Option Nat := (List.range 64).find? fun m => SMap.get (fun _ => none) s.mov.movers m == none

def State.setMover (s : State) (m : Nat) (j : Option Job) : State :=
  { s with mov := { s.mov with movers := SMap.set (fun _ => none) s.mov.movers m j } }

/-- RESYNC_START (R223): the copy takes a mover (R389). -/
def execResyncStart (n : Fin 1024) (s : State) : Host.Outcome State Fault Refusal :=
  let r := s.resyncOf n.val
  match s.freeMover with
  | some m =>
    .next (if r.active && r.wait == 0 && !r.copying then
      (s.setResync n.val { r with copying := true }).setMover m (some ⟨.resync n.val, true, s.now⟩) else s)
  | none => .next s

/-- RESYNC_COMPLETE (R223). -/
def execResyncComplete (n : Fin 1024) (s : State) : Host.Outcome State Fault Refusal :=
  let r := s.resyncOf n.val
  .next (if r.copying && s.csetReach n.val then
      let s := ((s.pageCopy n.val (s.csetAct n.val)).setBit (rFabCsetW2 n.val) 26 false).setResync n.val {}
      { s with mov := { s.mov with movers := s.mov.movers.filter fun p => match p.2 with
        | some j => j.work != .resync n.val
        | none => true } }
    else s)

/-! ### COMMIT (R228 to R235) -/

/-- The COMMIT's fields are in range: AT, DISCARD and CASC in extra, followers with CASC only. -/
def commitOk (d : OpenDesc) : Bool :=
  d.onlyUses [(16, 10)] && d.extra / 64 % 4 == 0 && d.extra / 2 ^ 11 == 0 &&
  (d.extra / 2 ^ 10 % 2 == 1 || d.num 24 2 == 0)

/-- COMMIT: dispatch. A COMMIT that is not turned away waits for Keeper's K1 task. -/
def execCommit (c : Fin 512) (q : BitVec 32) (s : State) : Host.Outcome State Fault Refusal :=
  match s.ready c.val q.toNat tCommit with
  | none => .next s
  | some d =>
    let g := d.extra % 64
    if !(commitOk d) || !(s.ownsGroup c.val g) then .next (s.finish c.val q.toNat 0x10)
    else if s.groupBusy g then .next s
    else .next (s.begin c.val q.toNat)

/-- The index from which a commit's due index is counted while D0 does not run (R230). -/
def State.commitBase (s : State) : Nat := if s.d0Running then s.tick.sidx else s.reg64 rClkSidxStartLo

/-- A group must not be armed: no member, a member set of unknown generation, an index too far ahead (R230). -/
def State.armBad (s : State) (g : Nat) (d : OpenDesc) : Bool :=
  (s.group g).members.isEmpty || (memberSets (s.group g).members).any (fun n => s.shadowGen n == 0xFFFF) ||
  (d.extra / 256 % 2 == 1 && decide (s.commitBase + 2 ^ 24 < d.num 16 8))

/-- The due index and lateness that arming fixes (R229, R233). -/
def State.dueOf (s : State) (d : OpenDesc) : Nat × Bool :=
  let at' := d.extra / 256 % 2 == 1
  let k := d.num 16 8
  if !s.d0Running then (if at' then k else 0, false)
  else if at' && decide (s.tick.sidx < k) then (k, false)
  else (s.tick.sidx + 1, at')

/-- The open, started COMMIT `q` of a context that has not ended and is not yet armed, with flag bits as asked. -/
def State.waitingCommit (s : State) (c q flags : Nat) : Option OpenDesc :=
  (s.findDesc c q).filter fun d =>
    d.typ == tCommit && d.started && !d.staged && d.result.isNone && d.extra / 512 % 4 == flags && !(s.groupBusy (d.extra % 64))

/-- COMMIT_ARM (R229, R230, R233). -/
def execCommitArm (c : Fin 512) (q : BitVec 32) (s : State) : Host.Outcome State Fault Refusal :=
  match s.waitingCommit c.val q.toNat 0 with
  | none => .next s
  | some d =>
    let g := d.extra % 64
    if s.armBad g d then .next (s.finish c.val q.toNat 0x10)
    else
      let due := s.dueOf d
      let s := s.modDesc c.val q.toNat fun d => { d with staged := true }
      let s := s.setGroup g { s.group g with arm := some {
        ctx := c.val, seq := q.toNat, late := due.2, origDue := due.1, next := d.extra / 256 % 2 == 0 } }
      .next ((s.setReg64 (rFabCgDueLo g) due.1).setGroupSt g 2)

/-- ROUTE.XP_USED shows the entries in use and those CLEARING (R351). -/
def State.setXps (s : State) (m : SMap Xpoint) : State :=
  let s := { s with route := { s.route with xps := m } }
  let used := (m.filter fun p => p.2.st != 0).length
  let clr := (m.filter fun p => p.2.st == 2).length
  s.setReg rRouteXpUsed (BitVec.ofNat 32 (used + 2 ^ 16 * clr))

/-- Frees the STAGED entry of a pair (R324). -/
def State.freeStaged (s : State) (a b : Nat) : State :=
  s.setXps (s.route.xps.filter fun p => !(p.2.st == 3 && p.2.src == a && p.2.sink == b))

/-- A group is emptied without applying (R234, R378). PROG_SWAPs in it end with `code`. -/
def State.discardGroup (s : State) (g code : Nat) : State :=
  let ms := (s.group g).members
  let s := s.setGroup g {}
  let s := ms.foldl (fun s m => match m with
    | .flip n _ _ =>
      if s.rbit (rFabCsetW2 n) 25 then
        let s := (s.setBit (rFabCsetW2 n) 25 false).setBit (rFabCsetW2 n) 26 true
        (s.setFld (rFabCsetW3 n) 16 16 (s.rfld (rFabCsetW3 n) 0 16)).setResync n { active := true, noFlip := true }
      else s
    | .swap _ _ _ c q => (s.setResult c q code).withdrawSwap c q
    | .routeSet a b .. => s.freeStaged a b
    | .routeClear a b .. => s.freeStaged a b
    | .gain .. => s) s
  s.setGroupSt g 0

/-- COMMIT_DISCARD (R234). -/
def execCommitDiscard (c : Fin 512) (q : BitVec 32) (s : State) : Host.Outcome State Fault Refusal :=
  match (s.waitingCommit c.val q.toNat 1).orElse fun _ => s.waitingCommit c.val q.toNat 3 with
  | none => .next s
  | some d =>
    let g := d.extra % 64
    .next (if (s.group g).members.isEmpty then s.finish c.val q.toNat 0x10
      else (s.discardGroup g 0x02).finish c.val q.toNat 0x00)


end Sys2Proof.Machine
end

