-- ==== Sys2Proof/Machine/Route.lean ====
section
/-! DEFINITION. The route matrix, rate bridges and the ASRC bank (chapter 8), and GAIN_SET. -/

namespace Sys2Proof.Machine

/-! ### Addresses (R313 to R315) -/

/-- Rate codes of R345, in Hz. -/
def asrcRate (code : Nat) : Option Nat :=
  [8000, 11025, 12000, 16000, 22050, 24000, 32000, 44100, 48000, 64000, 88200, 96000, 176400, 192000][code]?

/-- D0 runs at a rate of the 44.1 kHz family. -/
def family441 (rate : Nat) : Bool := rate % 11025 == 0

/-- The cascade channels that are valid at a D0 rate (R314). -/
def cascadeChans (rate : Nat) : Nat := if family441 rate then 0 else 4096 * 48000 / rate

/-- The rate domain of a matrix address used as a source or as a sink: 0 D0, 1 D1, 2 D2, 3 asynchronous; none if the
address is invalid in that direction. -/
def State.addrDom (s : State) (a : Nat) (asSrc : Bool) : Option Nat :=
  if a < 0x00C0 then some (s.rfld (rPortTdmCfg0 (a / 32)) 4 2)
  else if a < 0x0100 then none
  else if a < 0x0110 then (if asSrc then some (s.rfld (rPortPdmMic (a - 0x0100)) 1 2) else none)
  else if 0x0200 ≤ a && a < 0x0240 then
    let r := rRouteBrg (a - 0x0200)
    some (if s.rbit r 0 == asSrc then 0 else 1 + s.rfld r 1 1)
  else if 0x0400 ≤ a && a < 0x0500 then (if s.rbit (rAsrcCfg0 (a - 0x0400)) 16 == asSrc then none else some 0)
  else if 0x0800 ≤ a && a < 0x0C00 then
    let p := (a - 0x0800) / 4
    if decide (p < 192) == asSrc then some (s.rfld (rRouteCpdom (p / 16)) (2 * (p % 16)) 2) else none
  else if 0x0C00 ≤ a && a < 0x0C08 then
    let g := s.rfld (rConvGrp ((a - 0x0C00) / 4)) 0 2
    if asSrc then none else some (if g = 3 then 0 else g)
  else if 0x0C10 ≤ a && a < 0x0C14 then (if asSrc then none else some 0)
  else if a = 0x0C20 || a = 0x0C21 then (if asSrc then some 3 else none)
  else if 0x1000 ≤ a && a < 0x2000 then (if a - 0x1000 < cascadeChans s.d0Rate then some 0 else none)
  else if 0x8000 ≤ a then
    match s.stream ((a - 0x8000) / 8) with
    | some x => if decide (a % 8 < x.chans) && (x.capture != asSrc) then some (if x.media then 3 else x.dom) else none
    | none => none
  else none

/-- An enabled segment of the context, in the active table of some engine, with a range over port `p` (R316). -/
def State.segHoldsPort (s : State) (c p : Nat) (wr : Bool) : Bool :=
  s.eng.any fun ex => (List.range 32).any fun i =>
    let w3 := ex.2.segWord true i 3
    let lo := if wr then fld w3 0 8 else fld w3 16 8
    let hi := if wr then fld w3 8 8 else fld w3 24 8
    ex.2.segEn true i && ex.2.owner i == c && decide (lo ≤ p) && decide (p ≤ hi)

/-- An entry of ROUTE.ACLn grants the address (R316, R354). -/
def State.aclGrants (s : State) (c a : Nat) (asSrc : Bool) : Bool :=
  (List.range 64).any fun n =>
    let w0 := s.reg (rRouteAclW0 n)
    let w1 := s.reg (rRouteAclW1 n)
    bit w1 31 && fld w1 0 9 == c && bit w1 (if asSrc then 9 else 10) && decide (fld w0 0 16 ≤ a) && decide (a ≤ fld w0 16 16)

/-- The context holds an address in a direction (R316). -/
def State.holdsAddr (s : State) (c a : Nat) (asSrc : Bool) : Bool :=
  if 0x8000 ≤ a then
    match s.stream ((a - 0x8000) / 8) with
    | some x => x.ctx == c
    | none => false
  else if 0x0800 ≤ a && a < 0x0C00 then s.segHoldsPort c ((a - 0x0800) / 4) asSrc
  else if 0x0200 ≤ a && a < 0x0240 then s.rfld (rRouteBrg (a - 0x0200)) 8 9 == c
  else if 0x0400 ≤ a && a < 0x0500 then s.rfld (rAsrcCfg0 (a - 0x0400)) 22 9 == c
  else s.aclGrants c a asSrc

/-! ### Crosspoints (R318 to R325) -/

def State.xp (s : State) (n : Nat) : Xpoint := SMap.get (fun _ => {}) s.route.xps n

def State.setXp (s : State) (n : Nat) (x : Xpoint) : State := s.setXps (SMap.set (fun _ => {}) s.route.xps n x)

/-- The entry of a pair, if it is in use. -/
def State.findXp (s : State) (a b : Nat) : Option Nat :=
  (s.route.xps.find? fun p => p.2.st != 0 && p.2.src == a && p.2.sink == b).map Prod.fst

/-- The lowest-numbered free entry. -/
def State.freeXp (s : State) : Option Nat := (List.range 8192).find? fun n => (s.xp n).st == 0

/-- An enabled ramp helper channel delivers into an input port lane (R252). -/
def State.helperLane (s : State) (a : Nat) : Bool :=
  decide (0x0B00 ≤ a) && decide (a < 0x0C00) && (List.range 256).any fun n =>
    let w := s.reg (rFabRampW0 n)
    bit w 31 && bit w 17 && 0x0B00 + 4 * fld w 9 6 + fld w 15 2 == a

/-- A ROUTE_SET would need one entry more: both limits of R318, with the new pairs that wait for the next tick. -/
def State.xpQuota (s : State) (sink : Nat) : Bool :=
  let fresh := s.par.next.filterMap fun
    | .routeSet a b _ _ _ _ true _ _ => some (a, b)
    | _ => none
  let used := s.route.xps.filter fun p => p.2.st != 0
  decide (8192 ≤ used.length + fresh.length) ||
  decide (64 ≤ (used.filter fun p => p.2.sink == sink).length + (fresh.filter fun p => p.2 == sink).length)

/-- The ramp byte of a descriptor is in range. -/
def rampByteOk (b : Nat) : Bool := decide (b < 32)

/-- Stages a change of a ramp or crosspoint, or has it wait for the next tick boundary; R325, R726. -/
def State.stageChange (s : State) (c q : Nat) (d : OpenDesc) (m : Member) : State :=
  let st := s.stageStatus c d.group m
  if st ≠ 0 then s.finish c q st
  else
    let s := (s.begin c q).stage d.group m
    if d.group.isSome then s.setResult c q 0 else s

/-- ROUTE_SET (R320, R321, R324). -/
def execRouteSet (c : Fin 512) (q : BitVec 32) (s : State) : Host.Outcome State Fault Refusal :=
  let (c, q) := (c.val, q.toNat)
  match s.ready c q tRouteSet with
  | none => .next s
  | some d =>
    let a := d.num 16 2
    let b := d.num 18 2
    let e := d.num 24 1
    let old := s.findXp a b
    let pend := s.par.next.any fun
      | .routeSet a' b' .. => a' == a && b' == b
      | _ => false
    if s.heldBack d then .next s
    else if !(d.onlyUses [(16, 8), (24, 1)]) || !d.groupOk || !(rampByteOk e) || s.addrDom a true == none ||
        s.addrDom a true != s.addrDom b false || s.addrDom a true == some 3 || !(s.holdsAddr c a true) ||
        !(s.holdsAddr c b false) || s.helperLane b || (match old with
          | some n => (s.xp n).owner != c
          | none => false) then .next (s.finish c q 0x10)
    else
      let new := old.isNone && !pend
      let m := Member.routeSet a b c (BitVec.ofNat 32 (d.num 20 4)) (e % 16) (decide (16 ≤ e)) new c q
      let st := s.stageStatus c d.group m
      if st = 0 && new && s.xpQuota b then .next (s.finish c q 0x12)
      else
        let s' := s.stageChange c q d m
        match d.group, s.freeXp with
        | some _, some n => .next (if st = 0 && new then s'.setXp n { src := a, sink := b, owner := c, st := 3 } else s')
        | _, _ => .next s'

/-- ROUTE_CLEAR (R320, R322). -/
def execRouteClear (c : Fin 512) (q : BitVec 32) (s : State) : Host.Outcome State Fault Refusal :=
  let (c, q) := (c.val, q.toNat)
  match s.ready c q tRouteClear with
  | none => .next s
  | some d =>
    let a := d.num 16 2
    let b := d.num 18 2
    let e := d.num 24 1
    let mine := (match s.findXp a b with
      | some n => (s.xp n).owner == c
      | none => false) || s.par.next.any fun
      | .routeSet a' b' o .. => a' == a && b' == b && o == c
      | _ => false
    if s.heldBack d then .next s
    else if !(d.onlyUses [(16, 4), (24, 1)]) || !d.groupOk || !(rampByteOk e) || !mine then .next (s.finish c q 0x10)
    else .next (s.stageChange c q d (.routeClear a b (e % 16) (decide (16 ≤ e)) c q))

/-- GAIN_SET (R247, R249, R323, R325). -/
def execGainSet (c : Fin 512) (q : BitVec 32) (s : State) : Host.Outcome State Fault Refusal :=
  let (c, q) := (c.val, q.toNat)
  match s.ready c q tGainSet with
  | none => .next s
  | some d =>
    let kind := d.num 16 1
    let a := d.num 18 2
    let b := d.num 20 2
    let e := d.num 28 1
    let ok := if kind = 0 then decide (a < 256) && b == 0 && s.rbit (rFabRampW0 a) 31 && s.rfld (rFabRampW0 a) 0 9 == c
      else kind == 1 && match s.findXp a b with
        | some n => (s.xp n).owner == c && (s.xp n).st == 1
        | none => false
    if s.heldBack d then .next s
    else if !(d.onlyUses [(16, 1), (18, 4), (24, 5)]) || !d.groupOk || !(rampByteOk e) || !ok then .next (s.finish c q 0x10)
    else .next (s.stageChange c q d
      (.gain (if kind = 0 then .helper a else .xpoint a b) (BitVec.ofNat 32 (d.num 24 4)) (e % 16) (decide (16 ≤ e)) c q))

/-! ### Applying changes (step 2 of R53) -/

/-- The ramp of a helper channel, and its registers (R253). -/
def State.helperRamp (s : State) (n : Nat) : Ramp := SMap.get (fun _ => {}) s.par.ramps n

def rampW3 (r : Ramp) : Word :=
  BitVec.ofNat 32 (r.time + (if r.shape then 16 else 0) + (if r.left = 0 then 0 else 32) + 256 * r.left)

def State.setHelperRamp (s : State) (n : Nat) (r : Ramp) : State :=
  let s := { s with par := { s.par with ramps := SMap.set (fun _ => {}) s.par.ramps n r } }
  ((s.setReg (rFabRampW1 n) r.cur).setReg (rFabRampW2 n) (BitVec.ofInt 32 r.t)).setReg (rFabRampW3 n) (rampW3 r)

/-- A member applies at the present tick (R226, R249, R321 to R325). `grp` is the group it was staged in. -/
def State.applyMember (s : State) (grp : Option (Nat × Bool)) (m : Member) : State :=
  let rate := s.d0Rate
  let done := fun (s : State) c q => if grp.isNone then (s.grant c q).setResult c q 0 else s
  match m with
  | .flip n c q => done (s.coefFlip n) c q
  | .gain (.helper n) t e sh c q => done (s.setHelperRamp n ((s.helperRamp n).start rate e sh t)) c q
  | .gain (.xpoint a b) t e sh c q =>
    done (match s.findXp a b with
      | some n => let x := s.xp n; if x.st = 1 then s.setXp n { x with ramp := x.ramp.start rate e sh t } else s
      | none => s) c q
  | .routeSet a b o t e sh _ c q =>
    done (match s.findXp a b, s.freeXp with
      | some n, _ => let x := s.xp n; s.setXp n { x with st := 1, ramp := x.ramp.start rate e sh t }
      | none, some n => s.setXp n { src := a, sink := b, owner := o, st := 1, ramp := (({} : Ramp).start rate e sh t) }
      | none, none => s) c q
  | .routeClear a b e sh c q =>
    done (match s.findXp a b with
      | some n => let x := s.xp n; s.setXp n { x with st := 2, ramp := x.ramp.start rate e sh 0 }
      | none => s) c q
  | .swap es pb st c q =>
    let s := s.modDesc c q fun d => { d with granted := true, due := grp.map Prod.fst, late := (grp.map Prod.snd).getD false }
    forN 32 (fun e s => if es.getLsbD e then s.requestSwap e pb st (.desc c q) else s) s

/-- One tick of every ramp, after the changes of the tick; a CLEARING entry whose gain has reached 0 is freed at the
next tick (R322). -/
def State.tickRamps (s : State) : State :=
  let s := s.par.ramps.foldl (fun s p => s.setHelperRamp p.1 p.2.tick) s
  s.setXps (SMap.mapAll (fun _ => {}) (fun _ x => { x with ramp := x.ramp.tick }) s.route.xps)

def State.freeCleared (s : State) : State :=
  s.setXps (s.route.xps.filter fun p => !(p.2.st == 2 && p.2.ramp.left == 0 && p.2.ramp.cur == 0))

/-! ### Sink values (R326 to R332) -/

/-- A domain ticks at the present tick. -/
def State.ticks (s : State) (dom : Nat) : Bool :=
  dom == 0 || (dom == 1 && s.tick.flags.getLsbD 0) || (dom == 2 && s.tick.flags.getLsbD 1)

/-- The value of a source at the present tick. -/
def State.sourceValue (s : State) (a : Nat) : Word :=
  if 0x0800 ≤ a && a < 0x0B00 then (s.frozenValue ((a - 0x0800) / 4)).get (a % 4)
  else SMap.get (fun _ => 0) s.route.srcs a

/-- The sum of one sink, saturated (R326). -/
def sinkSum (l : List (Word × Word)) : Word × Bool :=
  sat32 ((l.foldl (fun (acc : Int) p => acc + p.1.toInt * p.2.toInt) 0) / 2 ^ 30)

/-- What a crosspoint brings to its sink: none if it contributes nothing; and the flags of ROUTE.STAT it sets. -/
def State.contribution (s : State) (x : Xpoint) : Option (Word × Word) × Bool × Bool :=
  let ds := s.addrDom x.src true
  let dk := s.addrDom x.sink false
  if s.helperLane x.sink then (none, true, false)
  else if (0x8000 ≤ x.src && ds.isNone) || (0x8000 ≤ x.sink && dk.isNone) then (none, false, false)
  else if ds != dk then (none, false, true)
  else (some (s.sourceValue x.src, x.ramp.cur), false, false)

/-- The sinks that some crosspoint feeds. -/
def State.fedSinks (s : State) : List Nat :=
  ((s.route.xps.filter fun p => p.2.st == 1 || p.2.st == 2).map fun p => p.2.sink).eraseDups

/-- Computes the sinks of the present tick (R326 to R331). -/
def State.computeSinks (s : State) : State :=
  if s.route.computed then s
  else
    let keep := s.route.bufs.filter fun p => !(s.ticks ((s.addrDom p.1 false).getD 0))
    let s := { s with route := { s.route with bufs := keep, computed := true } }
    s.fedSinks.foldl (fun s b =>
      if !(s.ticks ((s.addrDom b false).getD 0)) then s
      else
        let cs := (s.route.xps.filter fun p => (p.2.st == 1 || p.2.st == 2) && p.2.sink == b).map fun p => s.contribution p.2
        let y := sinkSum (cs.filterMap Prod.fst)
        let s := if cs.any (·.2.1) then s.setBit rRouteStat 16 true else s
        let s := if cs.any (·.2.2) then s.setBit rRouteStat 17 true else s
        let s := if y.2 then (s.bump rRouteStat 0 16).setReg rRouteSatSink (BitVec.ofNat 32 b) else s
        { s with route := { s.route with bufs := SMap.set (fun _ => 0) s.route.bufs b y.1 } }) s

/-- A sink's last released value. -/
def State.sinkValue (s : State) (b : Nat) : Word := SMap.get (fun _ => 0) s.route.rels b

/-- ENGINE_PORT_READ (R204): the matrix reads the engine output ports once every engine of a powered cluster has
begun the tick. An engine that has not received it (`late`) has its running segment treated as torn. -/
def State.portRead (s : State) (late : BitVec 32) : State :=
  if s.route.computed then s
  else
    let waits := s.eng.filter fun p => !(s.islandOff (p.1 / 4)) && !p.2.received && (p.2.offered.isSome || p.2.pendTick.isSome)
    if waits.any fun p => !(late.getLsbD p.1) then s
    else
      let old := s.chainTorn
      let torn := waits.filterMap fun p => match p.2.phase with
        | .run i => some (p.1, i)
        | _ => none
      let s := ({ s with chainTorn := old ++ torn } : State).computeSinks
      { s with chainTorn := old }

def execEnginePortRead (late : BitVec 32) (s : State) : Host.Outcome State Fault Refusal := .next (s.portRead late)

/-! ### Bridges (R334 to R337) -/

def State.bridge (s : State) (b : Nat) : Bridge := SMap.get (fun _ => {}) s.route.bridges b

def State.setBridge (s : State) (b : Nat) (x : Bridge) : State :=
  { s with route := { s.route with bridges := SMap.set (fun _ => {}) s.route.bridges b x } }

/-- A write to ROUTE.BRGb: while EN = 1 only EN may change. Enabling clears the filter history. -/
def State.brgW (s : State) (b : Nat) (v : Word) : State :=
  let r := rRouteBrg b
  let s := if bit v 30 then s.setBit r 30 false else s
  let old := s.reg r
  let v := v &&& 0x8001FF03
  if bit old 31 then
    (if v = (old &&& 0x8001FF03) then s
     else if v = (old &&& 0x0001FF03) then s.setBit r 31 false
     else s.setBit r 30 true)
  else
    let s := s.setReg r (v ||| (old &&& 0x40000000))
    if bit v 31 then s.setBridge b {} else s

def execBrgWrite (b : Fin 64) (v : BitVec 32) (s : State) : Host.Outcome State Fault Refusal := .next (s.brgW b.val v)

/-! ### ASRC (R338 to R348) -/

def State.asrc (s : State) (n : Nat) : AsrcCh := SMap.get (fun _ => {}) s.route.asrc n

def State.setAsrc (s : State) (n : Nat) (x : AsrcCh) : State :=
  { s with route := { s.route with asrc := SMap.set (fun _ => {}) s.route.asrc n x } }

/-- Endpoint, direction and mode match (R338); a stream that is not open may be named in either direction. -/
def State.asrcMatch (s : State) (ep : Nat) (out fixed : Bool) : Bool :=
  if 0x8000 ≤ ep then
    fixed && match s.stream ((ep - 0x8000) / 8) with
      | some x => x.media && x.capture == out && decide (ep % 8 < x.chans)
      | none => true
  else if ep = 0x0C20 || ep = 0x0C21 then !fixed && !out
  else decide (ep < 0x00C0) && !fixed && s.rfld (rPortTdmCfg0 (ep / 32)) 4 2 == 3

/-- OWNER holds the endpoint (R339). -/
def State.asrcHolds (s : State) (c ep : Nat) (out : Bool) : Bool :=
  if 0x8000 ≤ ep then
    match s.stream ((ep - 0x8000) / 8) with
    | some x => x.ctx == c
    | none => true
  else s.aclGrants c ep (!out)

/-- Input and output rate of a FIXED channel. -/
def State.asrcRates (s : State) (v : Word) : Option (Nat × Nat) :=
  (asrcRate (fld v 18 4)).map fun r => if bit v 16 then (s.d0Rate, r) else (r, s.d0Rate)

/-- A write to CHn_CFG0 (R339, R344). -/
def State.asrcW0 (s : State) (n : Nat) (v : Word) : State :=
  let old := s.reg (rAsrcCfg0 n)
  if bit old 31 then
    if v = old then s
    else if v = putBit old 31 false then
      ((s.setReg (rAsrcCfg0 n) v).setFld (rAsrcStat n) 0 2 0).setAsrc n {}
    else s.setBit (rAsrcStat n) 9 true
  else if !(bit v 31) then s.setReg (rAsrcCfg0 n) v
  else
    let fixed := bit v 17
    let ep := fld v 0 16
    let rates := s.asrcRates v
    let ratioOk := match rates with
      | some (i, o) => decide (o ≤ 4 * i) && decide (i ≤ 4 * o)
      | none => false
    if s.asrcMatch ep (bit v 16) fixed && rates.isSome && (!fixed || ratioOk) && s.asrcHolds (fld v 22 9) ep (bit v 16) then
      let s := s.setReg (rAsrcCfg0 n) v
      let s := s.setFld (rAsrcStat n) 0 2 (if fixed then 2 else 1)
      let s := match fixed, rates with
        | true, some (i, o) => s.setReg (rAsrcRatio n) (BitVec.ofNat 32 (i * 2 ^ 29 / o))
        | _, _ => s
      s.setAsrc n { fade := if fixed then ({} : Fade).start s.d0Rate else {} }
    else s.setBit (rAsrcStat n) 9 true

/-- A write to CHn_CFG1 (R346). -/
def State.asrcW1 (s : State) (n : Nat) (v : Word) : State :=
  if s.rbit (rAsrcCfg0 n) 31 then s.setBit (rAsrcStat n) 9 true else s.setReg (rAsrcCfg1 n) (v &&& 0x7F)

def execAsrcCfg0Write (n : Fin 256) (v : BitVec 32) (s : State) : Host.Outcome State Fault Refusal := .next (s.asrcW0 n.val v)

/-- ASRC_LOCK (R340, R342): `ratio` is the estimate, Q3.29. -/
def execAsrcLock (n : Fin 256) (ratio : BitVec 32) (s : State) : Host.Outcome State Fault Refusal :=
  .next (if s.rfld (rAsrcStat n.val) 0 2 = 1 then
    let s := (s.setFld (rAsrcStat n.val) 0 2 2).setReg (rAsrcRatio n.val) ratio
    let x := s.asrc n.val
    s.setAsrc n.val { x with fade := x.fade.start s.d0Rate }
  else s)

/-- A TRACK channel loses lock (R340, R342, R347). -/
def State.asrcLose (s : State) (n : Nat) : State :=
  if s.rfld (rAsrcStat n) 0 2 = 2 && !(s.rbit (rAsrcCfg0 n) 17) then
    let s := ((s.setFld (rAsrcStat n) 0 2 1).setBit (rAsrcStat n) 8 true).bump (rAsrcStat n) 16 8
    let x := s.asrc n
    s.setAsrc n { x with fade := x.fade.stop s.d0Rate }
  else s

def execAsrcUnlock (n : Fin 256) (s : State) : Host.Outcome State Fault Refusal := .next (s.asrcLose n.val)

end Sys2Proof.Machine
end

