-- ==== Sys2Proof/Machine/Formats.lean ====
section
/-! DEFINITION. Sample formats of stream rings (R403 to R405) and check values (R413). -/

namespace Sys2Proof.Machine

/-- Bytes of a PCM sample. -/
def fmtBytes (fmt : Nat) : Nat := [2, 3, 4, 4, 4].getD fmt 4

/-- floor(x × 2^31) of a binary32 value, clamped; and whether it was clamped (R404). -/
def f32ToWord (v : BitVec 32) : Word × Bool :=
  let neg := bit v 31
  let e := fld v 23 8
  let man := fld v 0 23
  let hi : Int := 0x7FFFFFFF
  let lo : Int := -0x80000000
  if e = 255 then
    if man ≠ 0 then (0, false) else (BitVec.ofInt 32 (if neg then lo else hi), true)
  else
    let m : Int := if e = 0 then man else man + 2 ^ 23
    let m := if neg then -m else m
    let e := max e 1
    let w : Int := if 119 ≤ e then m * 2 ^ (e - 119) else m / 2 ^ (119 - e)
    if w < lo then (BitVec.ofInt 32 lo, true) else if hi < w then (BitVec.ofInt 32 hi, true) else (BitVec.ofInt 32 w, false)

/-- w / 2^31 as binary32, rounded to nearest, ties to even (R404). -/
def wordToF32 (w : Word) : BitVec 32 :=
  let n := w.toInt.natAbs
  let sgn : Nat := if w.toInt < 0 then 2 ^ 31 else 0
  if n = 0 then 0
  else
    let p := Nat.log2 n
    let q := if p ≤ 23 then n * 2 ^ (23 - p)
      else
        let k := p - 23
        let q := n / 2 ^ k
        let r := n % 2 ^ k
        if 2 ^ (k - 1) < r || (r == 2 ^ (k - 1) && q % 2 == 1) then q + 1 else q
    let (p, q) := if q = 2 ^ 24 then (p + 1, 2 ^ 23) else (p, q)
    BitVec.ofNat 32 (sgn + (p + 96) * 2 ^ 23 + (q - 2 ^ 23))

/-- A host sample as a device word, and whether it was clamped (R403). -/
def decodeSample (fmt : Nat) (b : List Byte) : Word × Bool :=
  let v := ofLeBytes b
  match fmt with
  | 0 => (BitVec.ofNat 32 (v * 2 ^ 16), false)
  | 1 => (BitVec.ofNat 32 (v * 2 ^ 8), false)
  | 2 => (BitVec.ofNat 32 (v * 2 ^ 8), false)
  | 4 => f32ToWord (BitVec.ofNat 32 v)
  | _ => (BitVec.ofNat 32 v, false)

/-- A device word as a host sample (R403). -/
def encodeSample (fmt : Nat) (w : Word) : List Byte :=
  match fmt with
  | 0 => leBytes 2 (w.sshiftRight 16).toNat
  | 1 => leBytes 3 (w.sshiftRight 8).toNat
  | 2 => leBytes 4 (w.sshiftRight 8).toNat
  | 4 => leBytes 4 (wordToF32 w).toNat
  | _ => leBytes 4 w.toNat

/-- The 32 half-words of a bit-plane frame, from the selected microphones' words (R405). -/
def bitPlane (mics : List Nat) (ws : List Word) : List Byte :=
  (List.range 32).flatMap fun t =>
    leBytes 2 (((mics.zip ws).map fun p => if p.2.getLsbD t then 2 ^ p.1 else 0).foldl (· + ·) 0)

/-! ### Check values -/

/-- One bit of a check value with its most significant bit first: width, polynomial. -/
def crcBit (w poly r : Nat) (b : Bool) : Nat :=
  let top := decide (2 ^ (w - 1) ≤ r) != b
  let r := r * 2 % 2 ^ w
  if top then r ^^^ poly else r

/-- One byte; `refl` takes its bits least significant first. -/
def crcByte (w poly : Nat) (refl : Bool) (r : Nat) (b : Byte) : Nat :=
  (List.range 8).foldl (fun r i => crcBit w poly r (b.getLsbD (if refl then i else 7 - i))) r

/-- The width of a check code. -/
def crcWidth (code : Nat) : Nat := [0, 32, 32, 16, 8].getD code 32

def crcPoly (code : Nat) : Nat := [0, 0x04C11DB7, 0x1EDC6F41, 0x1021, 0x07].getD code 0

def crcInit (code : Nat) : Nat := [0, 0xFFFFFFFF, 0xFFFFFFFF, 0xFFFF, 0].getD code 0

/-- The remainder after further bytes. -/
def crcStep (code r : Nat) (bs : List Byte) : Nat :=
  bs.foldl (crcByte (crcWidth code) (crcPoly code) (decide (code ≤ 2))) r

/-- The bits of an `n`-bit number in reverse order. -/
def revBits (n v : Nat) : Nat := (List.range n).foldl (fun acc i => 2 * acc + v / 2 ^ i % 2) 0

/-- The check value of a remainder. -/
def crcEnd (code r : Nat) : Nat := if code ≤ 2 then revBits 32 r ^^^ 0xFFFFFFFF else r

/-- The check value of a list of bytes. -/
def crcOf (code : Nat) (bs : List Byte) : Nat := crcEnd code (crcStep code (crcInit code) bs)

end Sys2Proof.Machine
end

