-- ==== Sys2Proof/Machine/PcieOps.lean ====
section
/-! DEFINITION. Requests of the device: functions, splitting, interrupts, tags (chapter 11; R33). -/

namespace Sys2Proof.Machine

/-- A function that exists now: the PF, or an enabled VF (R429). -/
def State.fnEnabled (s : State) (f : Nat) : Bool := f == 0 || (s.pcie.vfEn && decide (f ≤ s.pcie.numVfs))

/-- The data link layer is up (R448). -/
def State.dlUp (s : State) : Bool := s.rbit rTopPcieStat 7

/-- The function may issue requests (R445). Only the PF has a power state of its own. -/
def State.canIssue (s : State) (f : Nat) : Bool := s.dlUp && s.fnEnabled f && (s.fn f).bme && !(s.fn f).d3

/-! ### Splitting of requests (R434) -/

/-- The pieces, each an address and a length, of a range: none longer than `m`, none across a 4 KiB boundary. -/
def splitReq (m : Nat) : Nat → Nat → Nat → List (Nat × Nat)
  | 0, _, _ => []
  | fuel + 1, a, n =>
    if n = 0 then []
    else
      let k := min (min n m) (4096 - a % 4096)
      (a, k) :: splitReq m fuel (a + k) (n - k)

/-- Max_Payload_Size, never more than 512. -/
def State.mps (s : State) : Nat := min 512 (128 * 2 ^ fld s.pcie.devCtl 5 3)

/-- Max_Read_Request_Size. -/
def State.mrrs (s : State) : Nat := min 4096 (128 * 2 ^ fld s.pcie.devCtl 12 3)

def State.roOn (s : State) : Bool := bit s.pcie.devCtl 4
def State.nsOn (s : State) : Bool := bit s.pcie.devCtl 11

/-- Attributes of a data request: Relaxed Ordering and No Snoop as the PF's Device Control allows (R433), poison. -/
def State.attrs (s : State) (ro ns ep : Bool) : BitVec 3 :=
  BitVec.ofNat 3 ((if ro && s.roOn then 1 else 0) + (if ns && s.nsOn then 2 else 0) + (if ep then 4 else 0))

/-- Offers the writes of a byte range. -/
def State.hostWrite (s : State) (cls master f a : Nat) (d : List Byte) (attr : BitVec 3) : State :=
  (splitReq s.mps (d.length + 1) a d.length).foldl (fun s p =>
    s.offer cls master (.write f p.1 ((d.drop (p.1 - a)).take p.2) attr)) s

/-- Offers the reads of a byte range. -/
def State.hostRead (s : State) (cls master f a n : Nat) (ns : Bool) (who : ReadFor) : State :=
  (splitReq s.mrrs (n + 1) a n).foldl (fun s p => s.offer cls master (.read f p.1 p.2 ns who)) s

/-- A write and a read of a context, relayed for a proxy context (R559). -/
def State.ctxWrite (s : State) (cls master c a : Nat) (d : List Byte) (attr : BitVec 3) : State :=
  if s.proxyOn then s.proxyWrite c cls a d else s.hostWrite cls master (s.rfld (rCtxtCtrl c) 0 6) a d attr

def State.ctxRead (s : State) (cls master c a n : Nat) (ns : Bool) (who : ReadFor) : State :=
  if s.proxyOn then s.proxyRead c cls a n who else s.hostRead cls master (s.rfld (rCtxtCtrl c) 0 6) a n ns who

/-! ### Tags (R435 to R437) -/

/-- The tags that a function has. -/
def State.tags (s : State) (f : Nat) : List Nat :=
  if (f == 0 && bit s.pcie.devCtl2 12) || (f != 0 && s.pcie.vfTag10) then (List.range 768).map (256 + ·)
  else if bit s.pcie.devCtl 8 then List.range 256
  else List.range 32

/-- A relayed host read of device `d` ends: HRD_CPL with a status of R561, and the HRD leaves the inbox. -/
def State.hrdReply (s : State) (d t status : Nat) (data : List Byte) : State :=
  let s := { s with ngx := { s.ngx with inbox := s.ngx.inbox.filter fun m =>
    !(m.kind == 0x10 && m.resend && m.src == d && fld (m.payload.getD 2 0) 16 16 == t) } }
  s.ngxSend { kind := 0x11, dst := d
              payload := [BitVec.ofNat 32 (t + 65536 * status), BitVec.ofNat 32 data.length] ++ packWords 28 data }

/-- The lowest free tag of a function, while fewer than 1,024 reads are outstanding. -/
def State.freeTag (s : State) (f : Nat) : Option Nat :=
  if 1024 ≤ s.pcie.outst.length then none
  else (s.tags f).find? fun t =>
    !(s.pcie.outst.any fun o => o.func == f && o.tag == t) && !(s.pcie.dead.any fun d => d.1 == t && d.2.1 == f)

/-- No read for a requester waits before the port. -/
def State.readsOut (s : State) (who : ReadFor) : Bool :=
  s.fab.outq.all fun r => match r.tlp with
    | .read _ _ _ _ w => w != who
    | _ => true

/-- The reads of a requester are over: their tags are free, and those not yet sent are withdrawn. -/
def State.readsOver (s : State) (who : ReadFor) : State :=
  { s with
    fab := { s.fab with outq := s.fab.outq.filter fun r => match r.tlp with
      | .read _ _ _ _ w => w != who
      | _ => true }
    pcie := { s.pcie with outst := s.pcie.outst.filter fun o => o.who != who } }

/-! ### The outbound port (R33) -/

/-- The function of a request. -/
def Tlp.func : Tlp → Nat
  | .write f .. => f
  | .read f .. => f
  | .msix f .. => f
  | .message f .. => f

/-- A request may go: its function may issue requests, and a read finds a tag. -/
def State.mayGo (s : State) (r : OutReq) : Bool :=
  s.canIssue r.tlp.func && match r.tlp with
    | .read f .. => (s.freeTag f).isSome
    | _ => true

/-- OUTBOUND_PORT_GRANT. -/
def execOutboundPortGrant (s : State) : Host.Outcome State Fault Refusal :=
  match outChoose s.fab.outRun (s.fab.outq.filter s.mayGo) with
  | none => .next s
  | some r =>
    let s := { s with
      fab := { s.fab with
        outq := s.fab.outq.erase r
        outRun := if r.cls ≤ 2 then s.fab.outRun + 1 else 0
        sent := s.fab.sent ++ [r] }
      pcie := { s.pcie with lastBusy := s.now } }
    let s := s.setFld rTopPcieStat 13 3 0
    match r.tlp with
    | .read f _ _ _ who =>
      .next { s with pcie := { s.pcie with outst := s.pcie.outst ++ [⟨(s.freeTag f).getD 0, f, who, s.now⟩] } }
    | _ => .next s

/-! ### MSI-X (R430) -/

/-- The number of MSI-X entries of a function. -/
def msixSize (f : Nat) : Nat := if f = 0 then 1024 else 64

/-! ### Errors (R438): AER status bits of the base specification -/

def aerPoisoned : Nat := 12
def aerTimeout : Nat := 14
def aerUnexpected : Nat := 16
def aerUnsupported : Nat := 20
def aerInternal : Nat := 22

def State.aer (s : State) (f b : Nat) : State := s.modFn f fun x => { x with uncor := x.uncor ||| (1#32 <<< b) }

end Sys2Proof.Machine
end

