-- ==== Sys2Proof/Machine/Xlate.lean ====
section
/-! DEFINITION. Window tables and the translation cache (R275 to R283). -/

namespace Sys2Proof.Machine

/-- The root of a context's window table; none while translation is disabled. -/
def State.root (s : State) (c : Nat) : Option Nat := SMap.get (fun _ => none) s.cal.roots c

def State.setRoot (s : State) (c : Nat) (r : Option Nat) : State :=
  { s with cal := { s.cal with roots := SMap.set (fun _ => none) s.cal.roots c r } }

/-- A window range is in bounds: it starts below 2^52 and ends at or below it (R275). -/
def windowOk (v n : Nat) : Bool := decide (v < 2 ^ 52) && decide (v + n ≤ 2 ^ 52)

/-- The set of the translation cache for a page number v[51:16]: v[25:16] (R280). -/
def tlbSet (page : Nat) : Nat := page % 1024

def State.tlbAt (s : State) (i : Nat) : List Tlb := SMap.get (fun _ => []) s.cal.tlb i

def State.setTlb (s : State) (i : Nat) (l : List Tlb) : State :=
  { s with cal := { s.cal with tlb := SMap.set (fun _ => []) s.cal.tlb i l } }

def State.tlbFind (s : State) (c page : Nat) : Option Tlb :=
  (s.tlbAt (tlbSet page)).find? fun t => t.ctx == c && t.tag == page / 1024

/-- Puts an entry first in its set; the least recently used of more than four goes (R280). -/
def State.tlbUse (s : State) (page : Nat) (t : Tlb) : State :=
  let l := (s.tlbAt (tlbSet page)).filter fun x => !(x.ctx == t.ctx && x.tag == t.tag)
  s.setTlb (tlbSet page) ((t :: l).take 4)

/-- Removes the cached translations of a context whose page satisfies a test. -/
def State.tlbDrop (s : State) (c : Nat) (p : Nat → Bool) : State :=
  { s with cal := { s.cal with tlb := SMap.mapAll (fun _ => []) (fun i l =>
    l.filter fun t => !(t.ctx == c && p (1024 * t.tag + i))) s.cal.tlb } }

/-- Records a translation fault (R281 to R283): causes 1 NOT_ENABLED, 2 INVALID, 3 PERM, 4 RSVD, 5 WALK_ERR. -/
def State.xltFault (s : State) (c v cause level : Nat) : State :=
  ((s.setReg rCaldXltFault (BitVec.ofNat 32 (c + 2 ^ 9 * cause + 2 ^ 12 * level + 2 ^ 31))).setReg64 rCaldXltFvaLo
    (v % 2 ^ 52)).bump rCaldXltStat 16 16

/-- What a translation gives: a bus address with the page's No Snoop bit, a fault, or a walk to wait for. -/
inductive Xl where
  | hit (bus : Nat) (ns : Bool)
  | fault
  | wait
  deriving DecidableEq, Repr

/-- A miss: a walk of the page begins, unless one is under way. -/
def State.startWalk (s : State) (c v cls : Nat) : State :=
  if s.mov.walks.any fun w => w.1 == c && w.2.1 / 65536 == v / 65536 then s
  else ({ s with mov := { s.mov with walks := s.mov.walks ++ [(c, v, cls)] } } : State).bump rCaldXltStat 0 16

/-- Translates a window address of context `c` for a read or a write, at the class of the request. -/
def State.translate (s : State) (c v : Nat) (wr : Bool) (cls : Nat) : Xl × State :=
  if s.minPath then (.hit v false, s)
  else match s.root c with
  | none => (.fault, s.xltFault c v 1 0)
  | some _ =>
    match s.tlbFind c (v / 65536) with
    | none => (.wait, s.startWalk c v cls)
    | some t =>
      let s := s.tlbUse (v / 65536) t
      if (if wr then t.wr else t.rd) then (.hit (65536 * t.page + v % 65536) t.ns, s) else (.fault, s.xltFault c v 3 3)

/-- Translates a range, in pieces that each lie in one 4 KiB block of host memory: the pieces with bus address, offset
in the range, length and No Snoop. -/
def State.translateRange (s : State) (c v n : Nat) (wr : Bool) (cls : Nat) : Option (Option (List (Nat × Nat × Nat × Bool))) × State :=
  (splitReq 4096 (n + 1) v n).foldl (fun (acc : Option (Option (List (Nat × Nat × Nat × Bool))) × State) p =>
    match acc.1 with
    | some none => acc
    | cur =>
      let r := acc.2.translate c p.1 wr cls
      match r.1, cur with
      | .fault, _ => (some none, r.2)
      | .wait, _ => (none, r.2)
      | .hit b ns, some (some l) => (some (some (l ++ [(b, p.1 - v, p.2, ns)])), r.2)
      | .hit .., c => (c, r.2)) (some (some []), s)

/-- The outcome of a walk with the entries `e1`, `e2`, `e3` read; `err` is the level whose read failed, 0 if none. The
cause and level of its fault, or the level-3 entry. -/
def walkOutcome (e1 e2 e3 : BitVec 64) (err : Nat) : (Nat × Nat) ⊕ BitVec 64 :=
  if err = 1 then .inl (5, 1)
  else if !(bit e1 0) then .inl (2, 1)
  else if fld e1 1 14 ≠ 0 then .inl (4, 1)
  else if err = 2 then .inl (5, 2)
  else if !(bit e2 0) then .inl (2, 2)
  else if fld e2 1 14 ≠ 0 then .inl (4, 2)
  else if err = 3 then .inl (5, 3)
  else if !(bit e3 0) then .inl (2, 3)
  else if fld e3 4 12 ≠ 0 then .inl (4, 3)
  else .inr e3

/-- The cache entry that a level-3 entry gives. -/
def tlbOf (c page : Nat) (e3 : BitVec 64) : Tlb :=
  ⟨c, page / 1024, bit e3 1, bit e3 2, bit e3 3, fld e3 16 48⟩

/-- The window address whose walk of page `page` is under way. -/
def State.walkOf (s : State) (c page : Nat) : Option Nat :=
  (s.mov.walks.find? fun w => w.1 == c && w.2.1 / 65536 == page).map fun w => w.2.1

/-- A walk for window address `v` ends: its entry is cached, or its fault is recorded (true). -/
def State.walkEnds (s : State) (c v : Nat) (e1 e2 e3 : BitVec 64) (err : Nat) : Bool × State :=
  let page := v / 65536
  let s := { s with mov := { s.mov with walks := s.mov.walks.filter fun w => !(w.1 == c && w.2.1 / 65536 == page) } }
  if s.root c = none then (true, s.xltFault c v 1 0)
  else match walkOutcome e1 e2 e3 err with
    | .inl f => (true, s.xltFault c v f.1 f.2)
    | .inr e => (false, s.tlbUse page (tlbOf c page e))

end Sys2Proof.Machine
end

