-- ==== Sys2Proof/Machine/Lines.lean ====
section
/-! DEFINITION. Host lines (R284 to R296): mapping, chunks, admission, unmapping. -/

namespace Sys2Proof.Machine

/-! ### Domains -/

/-- N of a division code of TICK_CTRL1 or TICK_CTRL2. -/
def divOf (code : Nat) : Nat := [2, 3, 4, 6, 8, 12].getD code 2

/-- D0 ticks per tick of a domain. -/
def State.domDiv (s : State) (dom : Nat) : Nat := if dom = 0 then 1 else divOf (s.rfld (rClkTickCtrl dom) 8 3)

/-- The tick count of a domain (R73). -/
def State.domCount (s : State) (dom : Nat) : Nat :=
  if dom = 0 then s.tick.sidx else if dom = 1 then s.tick.d1.tc else s.tick.d2.tc

/-! ### Bandwidth (R294, R400, R401) -/

/-- The link rate in bytes per second: rate by SPEED, times width. -/
def State.linkRate (s : State) : Nat :=
  let lane := match s.rfld rTopPcieStat 0 3 with
    | 1 => 250000000
    | 2 => 500000000
    | 3 => 984600000
    | 4 => 1969200000
    | _ => 0
  lane * s.rfld rTopPcieStat 4 3

/-- Bytes charged for a transfer of `b` host bytes. -/
def costBytes (b : Nat) : Nat := b + 24 * ((b + 511) / 512) + 24

/-- A line's cost in a direction it uses, in bytes per second, times 4,096 times both divisions. -/
def State.lineCost (s : State) (l : Line) : Nat :=
  let n1 := s.domDiv 1
  let n2 := s.domDiv 2
  costBytes (l.c * l.f * 4) * (4096 / max 1 l.c) * (n1 * n2 / s.domDiv l.dom) * s.d0Rate

def State.costScale (s : State) : Nat := 4096 * s.domDiv 1 * s.domDiv 2

/-- The sums over all admitted lines, downstream and upstream. -/
def State.lineLoads (s : State) : Nat × Nat :=
  s.cal.lines.foldl (fun acc p =>
    if !p.2.mapped then acc
    else (acc.1 + (if p.2.rd.isSome then s.lineCost p.2 else 0), acc.2 + (if p.2.wmax.isSome then s.lineCost p.2 else 0))) (0, 0)

/-- A scaled cost in units of 1/1,024 of the link rate, rounded up. -/
def State.linkUnits (s : State) (cost : Nat) : Nat :=
  let d := s.linkRate * s.costScale
  if d = 0 then (if cost = 0 then 0 else 2047) else (cost * 1024 + d - 1) / d

/-- CALD.HL_LOAD follows the admitted lines and the link. -/
def State.showLoads (s : State) : State :=
  let l := s.lineLoads
  s.setReg rCaldHlLoad (BitVec.ofNat 32 (min 2047 (s.linkUnits l.1) + 2 ^ 16 * min 2047 (s.linkUnits l.2)))

/-- A context's load in one direction (R401). -/
def State.ctxLoad (s : State) (c : Nat) (up : Bool) : Nat :=
  let st := s.mov.streams.foldl (fun n p => match p.2 with
    | some x => if x.ctx = c && x.capture = up then n + x.share else n
    | none => n) 0
  let ln := s.cal.lines.foldl (fun n p => if p.2.mapped && p.2.owner == c then n + (if up then p.2.costUp else p.2.costDn) else n) 0
  st + s.rfld (rDmaCap c) 16 11 + ln

/-- DMA.CTXn_USE shows a context's load. -/
def State.showUse (s : State) (c : Nat) : State :=
  s.setReg (rDmaUse c) (BitVec.ofNat 32 (min 2047 (s.ctxLoad c false) + 2 ^ 16 * min 2047 (s.ctxLoad c true)))

/-! ### Latency tolerance (R444) -/

/-- The frame rate of a stream. -/
def State.streamHz (s : State) (x : Stream) : Nat :=
  if x.media then [8000, 11025, 12000, 16000, 22050, 24000, 32000, 44100, 48000, 64000, 88200, 96000, 176400, 192000].getD x.rate 48000
  else if x.fmt = 5 then (if s.rbit rConvPdmck 4 then 192000 else 96000)
  else s.d0Rate / s.domDiv x.dom

/-- The device's tolerance in ns: none if no stream or line is open. -/
def State.tolerance (s : State) : Option Nat :=
  let st := s.mov.streams.filterMap fun p => match p.2 with
    | some x => if x.capture then none else some (2 ^ x.flog * 500000000 / max 1 (s.streamHz x))
    | none => none
  let ln := s.cal.lines.filterMap fun p =>
    if p.2.mapped && s.rfld (rCaldHlW0 p.1) 28 3 == 2 then some (p.2.lead * s.domDiv p.2.dom * 1000000000 / s.d0Rate) else none
  match st ++ ln with
  | [] => none
  | a :: l => some (l.foldl min a - 100000)

/-- The LTR encoding of a latency in ns: the smallest scale whose 10-bit value holds it, rounded down. -/
def ltrCode (ns : Nat) : Nat :=
  let k := ([0, 1, 2, 3, 4, 5].find? fun k => decide (ns / 2 ^ (5 * k) < 1024)).getD 5
  min 1023 (ns / 2 ^ (5 * k)) + 2 ^ 10 * k

/-- Sends an LTR message: the latency word of TOP.PCIE_LTR in both halves. -/
def State.ltrSend (s : State) (w : Nat) : State :=
  (s.setReg rTopPcieLtr (BitVec.ofNat 32 w)).offer 4 99 (.message 0 0x10 (w + 2 ^ 16 * w))

/-- With LTR_AUTO, a change of the tolerance is reported. -/
def State.ltrUpdate (s : State) : State :=
  let t := s.tolerance
  if t = s.pcie.tol then s
  else
    let s := { s with pcie := { s.pcie with tol := t } }
    if s.rbit rTopPciePm 8 && bit s.pcie.devCtl2 10 then
      s.ltrSend (match t with
        | some n => ltrCode n + 2 ^ 15
        | none => 0)
    else s

/-! ### LINE_MAP (R284, R292, R294) -/

def isPow2 (n : Nat) : Bool := n != 0 && n == 2 ^ Nat.log2 n

/-- The line that a LINE_MAP describes. -/
def lineOf (s : State) (c q : Nat) (d : OpenDesc) : Line :=
  let band := d.num 62 1
  let cc := 2 ^ d.num 59 1
  let lead := d.num 60 2
  let act := s.domCount (band % 4) + 2 * lead + cc
  { mapped := true, owner := c, hbase := d.num 16 8, f := 2 ^ d.num 58 1, len := d.num 24 8, c := cc, lead := lead
    rd := if band / 4 % 2 = 1 then some (d.num 32 4, d.num 36 4) else none
    wmax := if band / 8 % 2 = 1 then some (d.num 40 4) else none
    sr := d.num 44 4, sw := d.num 48 4, stageQ := d.num 52 4, eng := d.num 56 1, dld := d.num 57 1, dom := band % 4
    act := act, wbNext := Int.ofNat (act / cc * cc), seq := q }

/-- The descriptor lies in a range that an enabled entry of the context in the active table holds. -/
def State.holdsDld (s : State) (c e n : Nat) : Bool :=
  let x := s.engine e
  (List.range 33).any fun i =>
    let w := x.segWord true i 1
    x.segEn true i && x.owner i == c && decide (fld w 16 6 ≤ n) && decide (n ≤ fld w 22 6)

/-- The constraints of R284. -/
def State.lineOk (s : State) (d : OpenDesc) (l : Line) : Bool :=
  d.extra / 4096 == 0 && d.onlyUses [(16, 47)] && decide (d.num 58 1 < 4) && decide (d.num 59 1 ≤ 10) &&
  decide (d.num 62 1 < 16) && l.dom != 3 && decide (l.eng < 32) && decide (l.dld < 64) && decide (l.stageQ < 2 ^ 22) &&
  l.hbase % 64 == 0 && windowOk l.hbase (l.len * l.f * 4) && decide (l.len * l.f * 4 ≤ 2 ^ 40) && decide (d.num 24 8 < 2 ^ 38) &&
  l.len % l.c == 0 && decide (64 ≤ l.c * l.f * 4) && decide (l.c * l.f * 4 ≤ 4096) && decide (1 ≤ l.lead) &&
  (match l.rd with
    | some (lo, hi) => decide (lo ≤ hi) && decide (hi < l.len) && isPow2 l.sr && decide (hi - lo + l.lead + l.c ≤ l.sr) &&
      (match l.wmax with
        | some m => decide (m + l.c + 2 * l.lead ≤ lo)
        | none => true)
    | none => l.sr == 0) &&
  (match l.wmax with
    | some m => decide (m < l.len) && isPow2 l.sw && decide (m + l.lead + l.c ≤ l.sw)
    | none => l.sw == 0 || isPow2 l.sw) &&
  s.assignedRange l.owner (16 * l.stageQ) ((l.sr + l.sw) * l.f * 4) &&
  s.holdsDld l.owner l.eng l.dld && (s.dld l.eng l.dld).dom == l.dom

/-- The line is admitted: its share of the link, its context's cap (R294, R401). -/
def State.lineFits (s : State) (l : Line) : Bool :=
  let sum := s.lineLoads
  let k := s.lineCost l
  let share := min 1024 (s.rfld rCaldHlBudget 0 11)
  let cap := s.rfld (rDmaCap l.owner) 0 11
  let fit := fun (used : Bool) (total : Nat) => !used || decide ((total + k) * 1024 ≤ share * s.linkRate * s.costScale)
  fit l.rd.isSome sum.1 && fit l.wmax.isSome sum.2 &&
  (l.rd.isNone || decide (s.ctxLoad l.owner false + s.linkUnits k ≤ cap)) &&
  (l.wmax.isNone || decide (s.ctxLoad l.owner true + s.linkUnits k ≤ cap))

/-- HLn_W0.STATE: 0 UNMAPPED, 1 FILLING, 2 ACTIVE, 3 DRAINING. -/
def State.lineSt (s : State) (n : Nat) : Nat := s.rfld (rCaldHlW0 n) 28 3
def State.setLineSt (s : State) (n v : Nat) : State := s.setFld (rCaldHlW0 n) 28 3 v

/-- LINE_MAP. -/
def execLineMap (c : Fin 512) (q : BitVec 32) (s : State) : Host.Outcome State Fault Refusal :=
  let (c, q) := (c.val, q.toNat)
  match s.ready c q tLineMap with
  | none => .next s
  | some d =>
    let n := d.extra % 4096
    if 2 ^ 15 ≤ d.extra then .next s
    else
      let l := lineOf s c q d
      if !(s.lineOk d l) || s.lineSt n != 0 || s.islandGone (l.eng / 4) || s.quarterGone (16 * l.stageQ) then .next (s.finish c q 0x10)
      else if s.proxyOn || !(s.lineFits l) then .next (s.finish c q 0x12)
      else
        let u := s.linkUnits (s.lineCost l)
        let l := { l with costDn := if l.rd.isSome then u else 0, costUp := if l.wmax.isSome then u else 0 }
        let s := (((s.grant c q).setLine n l).setLineSt n 1).setReg (rCaldHlW1 n) (BitVec.ofNat 32 (c * 2 ^ 16))
        .next ((s.showLoads).showUse c)

/-! ### Chunks (R286 to R291) -/

/-- The tick count of a line's domain. -/
def State.lineT (s : State) (l : Line) : Int := s.domCount l.dom

def Line.chunk (l : Line) (u0 : Int) (read : Bool) : Option Chunk := l.chunks.find? fun k => k.u0 == u0 && k.read == read

/-- Sets the entry of a chunk. -/
def Line.setChunk (l : Line) (k : Chunk) : Line :=
  { l with chunks := (l.chunks.filter fun x => !(x.u0 == k.u0 && x.read == k.read)) ++ [k] }

/-- The last tick at which the frames of a chunk can be read. -/
def Line.lastRead (l : Line) (u0 : Int) : Int := u0 + l.c - 1 + (match l.rd with
  | some (_, hi) => (hi : Int)
  | none => 0)

/-- Chunks that no tap can read any more, with no write-back under way, are forgotten. -/
def State.pruneLine (s : State) (n : Nat) : State :=
  let l := s.line n
  let live := fun (k : Chunk) => decide (s.lineT l ≤ l.lastRead k.u0) || k.st == .queued || k.st == .issued
  s.setLine n { l with chunks := l.chunks.filter live }

/-- The write-back of a chunk's host frames lets its prefetch be issued (R287, R290): it has been issued, or the frames
were never to be written back. -/
def Line.wbDone (l : Line) (u0 : Int) : Bool :=
  l.wmax.isNone || decide (u0 + l.c ≤ l.act) ||
  (decide (u0 < l.wbNext) && match l.chunk u0 false with
    | some k => k.st == .issued || k.st == .done
    | none => true)

/-- PREFETCH_CHUNK_ISSUE (R286, R287, R292). -/
def execPrefetchChunkIssue (n : Fin 4096) (u0 : Int) (s : State) : Host.Outcome State Fault Refusal :=
  let s := s.pruneLine n.val
  let l := s.line n.val
  let T := s.lineT l
  match l.rd with
  | none => .next s
  | some (lo, _) =>
    if (s.lineSt n.val == 1 || s.lineSt n.val == 2) && u0 % (l.c : Int) == 0 && decide ((l.act : Int) ≤ l.lastRead u0) &&
        decide (u0 + lo - l.lead ≤ T) && decide (T ≤ l.lastRead u0) && (l.chunk u0 true).isNone && l.wbDone u0 then
      let s := s.setLine n.val (l.setChunk { u0 := u0, read := true, st := .queued })
      .next { s with mov := { s.mov with chunks := s.mov.chunks ++ [(n.val, u0, true)] } }
    else .next s

/-- WRITEBACK_CHUNK_ISSUE (R286, R293): the line's next chunk. -/
def execWritebackChunkIssue (n : Fin 4096) (s : State) : Host.Outcome State Fault Refusal :=
  let s := s.pruneLine n.val
  let l := s.line n.val
  match l.wmax with
  | none => .next s
  | some m =>
    let u0 := l.wbNext
    if (s.lineSt n.val == 2 || s.lineSt n.val == 3) && decide (u0 + l.c + m ≤ s.lineT l) &&
        (s.lineSt n.val == 2 || decide (u0 < l.drainAt)) then
      let s := s.setLine n.val { (l.setChunk { u0 := u0, read := false, st := .queued }) with wbNext := u0 + l.c }
      .next { s with mov := { s.mov with chunks := s.mov.chunks ++ [(n.val, u0, false)] } }
    else .next s

/-- A LINE_LATE event to the owner: 0 missed, 1 write-back dropped, 2 chunk error. -/
def State.lineEvent (s : State) (n kind : Nat) : State :=
  let s := if kind = 0 then s.tally 12 else if kind = 1 then s.tally 13 else s
  s.logEvent (s.line n).owner 0x10 0xFF 0xFF (n + 4096 * kind)

/-- A write-band chunk is dropped (R290). -/
def State.dropChunk (s : State) (n : Nat) (u0 : Int) : State :=
  let l := s.line n
  let s := s.setLine n (l.setChunk { u0 := u0, read := false, st := .dropped })
  let s := { s with mov := { s.mov with chunks := s.mov.chunks.filter fun k => k != (n, u0, false) } }
  (((s.bump (rCaldHlW0 n) 16 8).setBit (rCaldHlW0 n) 31 true).lineEvent n 1)

/-- A read-band chunk fails (R291). -/
def State.failChunk (s : State) (n : Nat) (u0 : Int) : State :=
  let l := s.line n
  let k := (l.chunk u0 true).getD { u0 := u0, read := true, st := .failed }
  ((s.setLine n (l.setChunk { k with st := .failed })).bump (rCaldHlW0 n) 24 4).lineEvent n 2

/-- CHUNK_DEADLINE (R290). -/
def execChunkDeadline (n : Fin 4096) (u0 : Int) (read : Bool) (s : State) : Host.Outcome State Fault Refusal :=
  let n := n.val
  let l := s.line n
  let T := s.lineT l
  if s.lineSt n == 0 || u0 % (l.c : Int) != 0 then .next s
  else if read then
    match l.rd with
    | none => .next s
    | some (lo, _) =>
      let k := (l.chunk u0 true).getD { u0 := u0, read := true, st := .never }
      if s.lineSt n != 3 && decide ((l.act : Int) ≤ l.lastRead u0) && decide (max (u0 + lo) l.act ≤ T) &&
          decide (T ≤ l.lastRead u0) && !k.missed && k.st != .valid then
        .next ((((s.setLine n (l.setChunk { k with missed := true })).bump (rCaldHlW0 n) 0 16).setBit
          (rCaldHlW0 n) 31 true).lineEvent n 0)
      else .next s
  else if l.wmax.isNone || T < u0 + l.sw then .next s
  else if u0 = l.wbNext && (s.lineSt n == 2 || decide (u0 < l.drainAt)) then
    .next ((s.setLine n { l with wbNext := u0 + l.c }).dropChunk n u0)
  else match l.chunk u0 false with
    | some k => .next (if k.st = .queued then s.dropChunk n u0 else s)
    | none => .next s

/-- The Caldera byte address of a chunk's staging slots. -/
def Line.stageAddr (l : Line) (u0 : Int) (read : Bool) : Nat :=
  16 * l.stageQ + 4 * l.f * (if read then modI u0 l.sr else l.sr + modI u0 l.sw)

/-- The window address of a chunk's host frames (R288). -/
def Line.hostAddr (l : Line) (u0 : Int) : Nat := l.hbase + modI u0 l.len * l.f * 4

/-- The frames of a write-band chunk that are written back: tick-times from activation to the draining tick. -/
def Line.wbFrames (l : Line) (draining : Bool) (u0 : Int) : Nat × Nat :=
  let lo := if u0 < l.act then ((l.act : Int) - u0).toNat else 0
  let hi := if draining && decide ((l.drainAt : Int) < u0 + l.c) then ((l.drainAt : Int) - u0).toNat else l.c
  (lo, hi - lo)

/-- The data of a prefetched chunk is written to its staging slots; the chunk becomes valid with the last of them
(R288, R290). Mover `m` wrote them. -/
def State.chunkArrives (s : State) (n : Nat) (u0 : Int) (m : Nat) (d : List Byte) : State :=
  let l := s.line n
  match l.chunk u0 true with
  | none => s
  | some k =>
    if l.lastRead u0 < s.lineT l then s
    else
      let a := l.stageAddr u0 true
      let s := s.busRange 1 (32 + m) a d.length true
      let s := (s.calStore a d 32).setLine n (l.setChunk { k with st := .valid })
      s.hwm (rCaldHlW1 n) 0 16 ((s.now - k.issuedAt) * 16 * s.d0Rate / (s.domDiv l.dom * 1228800000))

/-! ### Activation and unmapping (R292, R293) -/

/-- The descriptor that Keeper writes for a line (R284). -/
def Line.dldWords (l : Line) (n : Nat) (en : Bool) : Word × Word × Word :=
  (BitVec.ofNat 32 (l.stageQ + 2 ^ 22 * 2 + 2 ^ 24 * l.dom + 2 ^ 26 * Nat.log2 l.f + (if en then 2 ^ 31 else 0)),
   BitVec.ofNat 32 l.len, BitVec.ofNat 32 (l.len / 2 ^ 32 % 64 + 2 ^ 16 * n))

/-- Every read-band chunk that a tap can read at the activation tick is valid. -/
def Line.readyAt (l : Line) : Bool :=
  match l.rd with
  | none => true
  | some (lo, hi) =>
    let c : Int := l.c
    let first := ((l.act : Int) - hi) / c
    let last := ((l.act : Int) - lo) / c
    (List.range (last - first + 1).toNat).all fun i => match l.chunk ((first + i) * c) true with
      | some k => k.st == .valid
      | none => false

/-- LINE_ACTIVATION. -/
def execLineActivation (n : Fin 4096) (s : State) : Host.Outcome State Fault Refusal :=
  let n := n.val
  let l := s.line n
  if s.lineSt n != 1 || decide (s.lineT l < l.act) then .next s
  else
    let w := l.dldWords n true
    let s := s.setLineSt n 2
    let s := if s.islandOff (l.eng / 4) then s
      else ((s.setReg (rEngDldW0 l.eng l.dld) w.1).setReg (rEngDldW1 l.eng l.dld) w.2.1).setReg (rEngDldW2 l.eng l.dld) w.2.2
    .next ((s.setResult l.owner l.seq (if l.readyAt then 0 else 0x23)).ltrUpdate)

/-- UNMAP: the descriptor is disabled at the engine's next tick, and the write band drains. -/
def execUnmap (c : Fin 512) (q : BitVec 32) (s : State) : Host.Outcome State Fault Refusal :=
  let (c, q) := (c.val, q.toNat)
  match s.ready c q tLineMap with
  | none => .next s
  | some d =>
    let n := d.extra % 4096
    let l := s.line n
    if d.extra < 2 ^ 15 then .next s
    else if d.extra / 4096 != 8 || !(d.onlyUses [(16, 47)]) || s.lineSt n != 2 || l.owner != c then .next (s.finish c q 0x10)
    else
      let w := l.dldWords n false
      let s := (s.grant c q).setLineSt n 3
      let s := s.setLine n { l with drainAt := (s.lineT l + 1).toNat, seq := q }
      .next (if s.islandOff (l.eng / 4) then s else s.modEngine l.eng fun x => { x with
        dldWait := SMap.set (fun _ => ((0 : Word), (0 : Word), (0 : Word))) x.dldWait l.dld w })

/-- The line is unmapped and its staging buffer released. -/
def State.lineGone (s : State) (n : Nat) : State :=
  let l := s.line n
  let s := (s.setLine n {}).setLineSt n 0
  let s := { s with mov := { s.mov with chunks := s.mov.chunks.filter fun k => k.1 != n } }
  (((s.setFld (rCaldHlW1 n) 16 9 0).showLoads).showUse l.owner).ltrUpdate

/-- UNMAP_COMPLETE. -/
def execUnmapComplete (n : Fin 4096) (s : State) : Host.Outcome State Fault Refusal :=
  let n := n.val
  let l := s.line n
  if s.lineSt n != 3 || decide (s.lineT l < l.drainAt) || (l.wmax.isSome && decide (l.wbNext < l.drainAt)) ||
      l.chunks.any (fun k => !k.read && (k.st == .queued || k.st == .issued)) then .next s
  else .next ((s.lineGone n).setResult l.owner l.seq 0)

end Sys2Proof.Machine
end

