-- ==== Sys2Proof/Machine/Streams.lean ====
section
/-! DEFINITION. Stream rings (R392 to R411): opening, entries, FIFO, closing, parking. -/

namespace Sys2Proof.Machine

/-! ### Shape -/

/-- The microphones of a PDM1 stream, in ascending order. -/
def Stream.micList (x : Stream) : List Nat := (List.range 16).filter fun m => x.mics.getLsbD m

/-- Words of a FIFO frame: a channel's, or a microphone's block of 32 bits. -/
def Stream.words (x : Stream) : Nat := if x.fmt = 5 then x.micList.length else x.chans

/-- Bytes of a host frame (R405). -/
def Stream.hostFrame (x : Stream) : Nat :=
  if x.fmt = 5 then (if x.layout = 2 then 64 else 4 * x.words) else x.chans * fmtBytes x.fmt

def Stream.fifoFrames (x : Stream) : Nat := 2 ^ x.flog
def Stream.burstFrames (x : Stream) : Nat := 2 ^ x.burst

/-- Caldera byte address of the FIFO slot of frame number `i`. -/
def Stream.slot (x : Stream) (i : Nat) : Nat := 16 * x.fq + 4 * x.words * (i % x.fifoFrames)

/-- Frames of an entry. -/
def Stream.entFrames (x : Stream) (e : StrEnt) : Nat := e.len / max 1 x.hostFrame

/-- The host ranges, as window addresses, of frames [k, k+n) of an entry, in ascending order (R405). -/
def Stream.ranges (x : Stream) (e : StrEnt) (k n : Nat) : List (Nat × Nat) :=
  if x.layout = 1 then
    let sz := if x.fmt = 5 then 4 else fmtBytes x.fmt
    (List.range x.words).map fun c => (e.buf + c * (e.len / max 1 x.words) + k * sz, n * sz)
  else [(e.buf + k * x.hostFrame, n * x.hostFrame)]

/-- A full bucket, in 2^-16 byte (R400). -/
def Stream.fullBucket (x : Stream) : Nat := 2 * costBytes (x.burstFrames * x.hostFrame) * 65536

/-! ### Registers, table, events -/

/-- DMA.LOAD shows the sums of the open shares. -/
def State.showDma (s : State) : State :=
  let sum := fun (up : Bool) => s.mov.streams.foldl (fun n p => match p.2 with
    | some x => if x.capture = up then n + x.share else n
    | none => n) 0
  s.setReg rDmaLoad (BitVec.ofNat 32 (min 2047 (sum false) + 2 ^ 16 * min 2047 (sum true)))

/-- Writes the stream's entry of the stream table (R395). -/
def State.streamTable (s : State) (r : Nat) (x : Stream) (st : Nat) : State :=
  if x.quiet then s
  else if s.minPath then (s.setReg rBootMinCons x.cons).setFld rBootMinStat 0 8 st
  else s.ringWrite x.ctx (s.reg64 (rCtxtSrLo x.ctx) + 0x200 + 8 * x.ring)
    (leBytes 4 x.cons.toNat ++ leBytes 2 r ++ leBytes 1 st ++ [0])

/-- A STREAM event (R411). -/
def State.streamEvent (s : State) (x : Stream) (cause : Nat) : State :=
  if s.minPath then (if cause = 0 then s.bump rBootMinStat 16 16 else s)
  else s.logEvent x.ctx 0x30 0xFF 0xFF (x.ring + 2 ^ 16 * cause)

/-- A change of state, shown in the stream table. -/
def State.streamState (s : State) (r : Nat) (x : Stream) (st : Nat) : State :=
  (s.setStream r (some { x with st := st })).streamTable r x st

/-- The FIFO's quarter is powered. -/
def State.fifoOn (s : State) (x : Stream) : Bool := !(s.quarterOff (16 * x.fq))

/-! ### STREAM_OPEN (R392 to R394) -/

/-- The stream that a STREAM_OPEN describes. -/
def streamOf (c : Nat) (d : OpenDesc) : Stream :=
  let dir := d.num 28 1
  let x : Stream := {
    ctx := c, ring := d.extra % 16, capture := dir % 2 == 1, media := dir / 2 % 2 == 1, dom := dir / 4 % 4, rate := d.num 29 1,
    chans := d.num 30 1, fmt := d.num 31 1, layout := d.num 32 1, burst := d.num 33 1, share := d.num 34 2,
    mics := BitVec.ofNat 16 (d.num 36 2), flog := d.num 38 1, fq := d.num 40 4, base := d.num 16 8, size := d.num 24 4 }
  { x with st := if x.capture then 1 else 2, tokens := x.fullBucket }

/-- The fields are in range and fit together (R381, R392, R393). -/
def streamFieldsOk (d : OpenDesc) (x : Stream) : Bool :=
  d.extra / 16 == 0 && d.onlyUses [(16, 12), (28, 11), (40, 4)] && decide (d.num 28 1 < 16) &&
  x.base % 4096 == 0 && isPow2 x.size && decide (16 ≤ x.size) && decide (x.size ≤ 65536) &&
  (if x.media then x.dom == 0 && (asrcRateOk x.rate) else x.dom != 3 && x.rate == 0) &&
  (if x.fmt = 5 then x.chans == 0 && decide (x.layout < 3) && !x.media && x.capture && x.mics != 0
   else decide (x.fmt < 5) && decide (1 ≤ x.chans) && decide (x.chans ≤ 8) && decide (x.layout < 2) && x.mics == 0) &&
  decide (x.burst ≤ 12) && decide (x.burstFrames * x.hostFrame ≤ 4096) && decide (1 ≤ x.share) && decide (x.share ≤ 1024) &&
  decide (6 ≤ x.flog) && decide (x.flog ≤ 16) && decide (x.fq < 2 ^ 22)
where
  asrcRateOk (code : Nat) : Bool := decide (code < 14)

/-- The open stream of a context's ring. -/
def State.ringStream (s : State) (c n : Nat) : Option (Nat × Stream) :=
  s.mov.streams.findSome? fun p => match p.2 with
    | some x => if x.ctx = c && x.ring = n then some (p.1, x) else none
    | none => none

/-- The lowest free stream number. -/
def State.freeStream (s : State) : Option Nat := (List.range 4096).find? fun r => s.stream r == none

/-- The shares of the open streams in a direction. -/
def State.shareSum (s : State) (up : Bool) : Nat :=
  s.mov.streams.foldl (fun n p => match p.2 with
    | some x => if x.capture = up then n + x.share else n
    | none => n) 0

/-- STREAM_OPEN. -/
def execStreamOpen (c : Fin 512) (q : BitVec 32) (s : State) : Host.Outcome State Fault Refusal :=
  let (c, q) := (c.val, q.toNat)
  match s.ready c q tStreamOpen with
  | none => .next s
  | some d =>
    let x := streamOf c d
    let budget := min 1024 (s.rfld rDmaBudget (if x.capture then 16 else 0) 11)
    if !(streamFieldsOk d x) || (s.ringStream c x.ring).isSome ||
        !(s.assignedRange c (16 * x.fq) (4 * x.words * x.fifoFrames)) then .next (s.finish c q 0x10)
    else if s.proxyOn then .next (s.finish c q 0x12)
    else match s.freeStream with
      | none => .next (s.finish c q 0x12)
      | some r =>
        if s.rfld (rDmaCap c) 0 11 < s.ctxLoad c x.capture + x.share || budget < s.shareSum x.capture + x.share then
          .next (s.finish c q 0x12)
        else
          let s := (s.grant c q).setStream r (some x)
          .next (((((s.streamTable r x x.st).showDma).showUse c).setResult c q 0).ltrUpdate)

/-! ### Entries (R396 to R398) -/

/-- The ring entry that 16 bytes written by the host describe; one that breaks R397 has its status at once. -/
def Stream.entryOf (x : Stream) (b : BitVec 128) : StrEnt :=
  let buf := fld b 0 64
  let len := fld b 64 32
  let ok := windowOk buf len && decide (1 ≤ len) && decide (len ≤ 2 ^ 24) && len % max 1 x.hostFrame == 0
  { buf := buf, len := len, irq := bit b 96, status := if ok then none else some 0x10 }

/-- Bytes 16 to 31 of an entry that completes at index `i` (R396, R398). -/
def Stream.tailBytes (x : Stream) (e : StrEnt) (i : BitVec 32) (status : Nat) : List Byte :=
  let phase := if i.getLsbD (Nat.log2 x.size) then 0 else 1
  leBytes 8 e.sidx ++ leBytes 4 e.moved ++ leBytes 1 status ++ leBytes 1 phase ++ [0, 0]

/-- The entry at index `i` of the list ends with a status, if it has none yet. -/
def Stream.endEntry (x : Stream) (i status : Nat) : Stream :=
  match x.entries[i]? with
  | some e => if e.status.isSome then x else { x with entries := setAt x.entries i { e with status := some status } }
  | none => x

/-- Every entry without a status ends CANCELLED. -/
def Stream.cancelAll (x : Stream) : Stream :=
  { x with entries := x.entries.map fun e => if e.status.isSome then e else { e with status := some 0x02 } }

/-! ### The end of a stream (R399) -/

/-- The movers' bursts of a stream are dropped; what they had not moved is to be issued again. -/
def State.dropBursts (s : State) (r : Nat) : State :=
  let mine := fun (j : Option Job) => match j with
    | some ⟨.burst r' _ _ _, _, _⟩ => r' == r
    | _ => false
  (s.mov.movers.filter fun p => mine p.2).foldl (fun s p => (s.setMover p.1 none).readsOver (.mover p.1)) s

/-- A stream that is closing and has nothing left to do is freed. -/
def State.streamEnds (s : State) (r : Nat) : State :=
  match s.stream r with
  | none => s
  | some x =>
    if !x.closing || !x.entries.isEmpty || !(x.capture || x.fade.st == .silent || !s.d0Running) then s
    else
      let s := s.setStream r none
      let s := (((s.streamTable r x 0).showDma).showUse x.ctx).ltrUpdate
      match x.closeBy with
      | some (c, q) => s.setResult c q (if x.wasParked then 0x24 else 0)
      | none => s

/-- A capture stream that is closing has written its FIFO out, or cannot: its entries end. -/
def Stream.flushEnds (x : Stream) : Stream :=
  let head := match x.entries.head? with
    | some e => if e.status.isNone && 0 < e.moved then x.endEntry 0 0 else x
    | none => x
  head.cancelAll

/-- Begins the close of a stream: a playback stream fades, its entries are cancelled; a capture stream writes its FIFO
into the current entry. -/
def State.streamClose (s : State) (r : Nat) (by' : Option (Nat × Nat)) (quiet : Bool) : State :=
  match s.stream r with
  | none => s
  | some x =>
    let parked := x.st == 4
    let x := { x with closing := true, closeBy := by', quiet := x.quiet || quiet, wasParked := parked }
    let x := if x.capture then
        (if parked || quiet || x.wr == x.rd then x.flushEnds
         else { x with entries := match x.entries with
           | e :: l => e :: l.map fun e => if e.status.isSome then e else { e with status := some 0x02 }
           | [] => [] })
      else { x.cancelAll with fade := x.fade.stop s.d0Rate, rd := x.wr }
    let x := if quiet then { x with entries := [] } else x
    let s := if x.capture && !parked && !quiet then s else s.dropBursts r
    (s.setStream r (some x)).streamEnds r

/-- STREAM_CLOSE. -/
def execStreamClose (c : Fin 512) (q : BitVec 32) (s : State) : Host.Outcome State Fault Refusal :=
  let (c, q) := (c.val, q.toNat)
  match s.ready c q tStreamClose with
  | none => .next s
  | some d =>
    match s.ringStream c (d.extra % 16) with
    | none => .next (s.finish c q 0x10)
    | some (r, x) =>
      if d.extra / 16 != 0 || !(d.onlyUses []) || x.closing then .next (s.finish c q 0x10)
      else .next ((s.grant c q).streamClose r (some (c, q)) false)

/-- STREAM_ENTRY_COMPLETE (R398): the entry at the consumer index, once it has its status. -/
def execStreamEntryComplete (r : Fin 4096) (s : State) : Host.Outcome State Fault Refusal :=
  match s.stream r.val with
  | none => .next s
  | some x =>
    match x.entries with
    | [] => .next (s.streamEnds r.val)
    | e :: rest =>
      match e.status with
      | none => .next s
      | some st =>
        let i := x.cons
        let x := { x with cons := x.cons + 1, entries := rest }
        let s := s.setStream r.val (some x)
        let s := s.ringWrite x.ctx (x.base + 32 * (i.toNat % x.size) + 16) (x.tailBytes e i st)
        let s := s.streamTable r.val x x.st
        let s := if e.irq && !s.minPath then s.ctxIrq x.ctx (s.rfld (rCtxtIrq x.ctx) 0 10) else s
        .next (s.streamEnds r.val)

/-! ### The FIFO at a tick (R406, R407, R409) -/

/-- The words of a FIFO frame. -/
def State.fifoWords (s : State) (x : Stream) (i m : Nat) : List Word × Bool × State :=
  let r := s.calRead (x.slot i) (4 * x.words) m
  ((List.range x.words).map fun k => BitVec.ofNat 32 (ofLeBytes ((r.1.drop (4 * k)).take 4)), r.2.1, r.2.2)

/-- A playback stream may start (R406): half its FIFO is filled, or it has some frames and all entries are taken. -/
def Stream.mayRun (x : Stream) : Bool :=
  decide (x.fifoFrames ≤ 2 * (x.wr - x.rd)) ||
  (decide (x.rd < x.wr) && x.entries.all fun e => e.status.isSome || decide (x.entFrames e ≤ e.issued))

/-- Bookkeeping of the frame that leaves a playback FIFO at tick `k`: the first of its entry gives the sample index, the
last completes it. -/
def Stream.passed (x : Stream) (k : Nat) : Stream :=
  let es := x.entries.map fun e =>
    if e.moved = 0 then e
    else
      let e := if e.start = x.rd then { e with sidx := k } else e
      if e.status.isNone && e.moved == x.entFrames e && e.start + e.moved == x.rd + 1 then { e with status := some 0 } else e
  { x with rd := x.rd + 1, entries := es }

/-- A playback stream in RUN yields a frame (R406, R407). -/
def State.streamYield (s : State) (r : Nat) : State :=
  match s.stream r with
  | none => s
  | some x =>
    if x.capture || x.st != 1 || x.closing then s
    else if x.rd < x.wr then
      let f := s.fifoWords x x.rd 32
      f.2.2.setStream r (some { x.passed s.tick.sidx with live := f.1 })
    else
      let x := { x with fade := x.fade.stop s.d0Rate, under := min 65535 (x.under + 1) }
      ((s.streamState r x 3).bump rDmaStat 0 16).streamEvent x 0

/-- A playback stream in WAIT or FADED moves to RUN if it may (R406). -/
def State.streamStart (s : State) (r : Nat) : State :=
  match s.stream r with
  | none => s
  | some x =>
    if x.capture || !(x.st == 2 || x.st == 3) || x.closing || !x.mayRun || !(s.fifoOn x) then s
    else
      let s' := s.streamState r { x with fade := x.fade.start s.d0Rate } 1
      if x.st = 3 then s'.streamEvent x 1 else s'

/-- A capture stream takes a frame of words (R409), sampled in tick `k`. -/
def State.streamPutAt (s : State) (r : Nat) (ws : List Word) (k : Nat) : State :=
  match s.stream r with
  | none => s
  | some x =>
    if !x.capture || x.closing then s
    else if x.st = 4 || x.fifoFrames ≤ x.wr - x.rd || !(s.fifoOn x) then
      let s := s.bump rDmaStat 16 16
      if x.st = 4 then s else s.streamEvent x 3
    else
      let s := s.calStore (x.slot x.wr) (ws.flatMap fun w => leBytes 4 w.toNat) 32
      s.setStream r (some { x with wr := x.wr + 1, stamps := x.stamps ++ [k] })

def State.streamPut (s : State) (r : Nat) (ws : List Word) : State := s.streamPutAt r ws s.tick.sidx

/-! ### Bursts (R400, R405, R408 to R410) -/

/-- Frames in the movers' hands on their way into a playback FIFO. -/
def State.inBursts (s : State) (r : Nat) : Nat :=
  s.mov.movers.foldl (fun n p => match p.2 with
    | some ⟨.burst r' _ _ k, _, _⟩ => if r' = r then n + k else n
    | _ => n) 0

/-- The next burst of a stream, if it is eligible: entry in the list, first frame, frames. -/
def State.nextBurst (s : State) (r : Nat) (x : Stream) : Option (Nat × Nat × Nat) :=
  match (List.range x.entries.length).find? fun i => match x.entries[i]? with
      | some e => e.status.isNone && decide (e.issued < x.entFrames e)
      | none => false with
  | none => none
  | some i =>
    match x.entries[i]? with
    | none => none
    | some e =>
      let n := min x.burstFrames (x.entFrames e - e.issued)
      let n' := if x.capture && x.closing then min n (x.wr - x.rd) else n
      let room := if x.capture then decide (n' ≤ x.wr - x.rd) && decide (0 < n')
        else decide (x.wr + s.inBursts r + n ≤ x.rd + x.fifoFrames) && !x.closing
      if x.st != 4 && !x.quiet && room && decide (costBytes (n' * x.hostFrame) * 65536 ≤ x.tokens) && s.fifoOn x then some (i, e.issued, n')
      else none

/-- When a stream's FIFO runs empty or full, in FAB cycles from now (R390). -/
def State.burstDeadline (s : State) (x : Stream) : Nat :=
  let frames := if x.capture then x.fifoFrames - (x.wr - x.rd) else x.wr - x.rd
  s.now + frames * 1228800000 / max 1 (s.streamHz x)

/-- An entry of a stream fails (R408, R409). -/
def State.entryFails (s : State) (r i status : Nat) : State :=
  match s.stream r with
  | none => s
  | some x =>
    let x := { x.endEntry i status with fail := min 65535 (x.fail + 1) }
    (s.setStream r (some x)).streamEvent x 2

/-- The host bytes of capture frames [rd, rd+n), and whether some were poisoned. -/
def State.captureBytes (s : State) (x : Stream) (n m : Nat) : List Byte × Bool × State :=
  let rows := (List.range n).foldl (fun (acc : List (List Word) × Bool × State) k =>
    let f := acc.2.2.fifoWords x (x.rd + k) m
    (acc.1 ++ [f.1], acc.2.1 || f.2.1, f.2.2)) ([], false, s)
  let enc := fun (w : Word) => if x.fmt = 5 then leBytes 4 w.toNat else encodeSample x.fmt w
  let bytes :=
    if x.layout = 1 then (List.range x.words).flatMap fun c => rows.1.flatMap fun f => enc (f.getD c 0)
    else if x.layout = 2 then rows.1.flatMap fun f => bitPlane x.micList f
    else rows.1.flatMap fun f => f.flatMap enc
  (bytes, rows.2.1, rows.2.2)

/-- Mover `m`'s accesses to `n` frames of a FIFO, from frame `i`. -/
def State.busFrames (s : State) (m : Nat) (x : Stream) (i n : Nat) (write : Bool) : State :=
  forN n (fun k s => s.busRange 2 (32 + m) (x.slot (i + k)) (4 * x.words) write) s

/-- The frames that the host bytes of a playback burst spell, and how many samples were clamped. -/
def Stream.playWords (x : Stream) (n : Nat) (d : List Byte) : List (List Word) × Nat :=
  let sz := fmtBytes x.fmt
  let samp := fun (k c : Nat) => decodeSample x.fmt
    ((d.drop (if x.layout = 1 then (c * n + k) * sz else (k * x.chans + c) * sz)).take sz)
  let fs := (List.range n).map fun k => (List.range x.chans).map fun c => samp k c
  (fs.map fun f => f.map Prod.fst, (fs.map fun f => (f.filter Prod.snd).length).foldl (· + ·) 0)

/-- Frames that arrive for entry `i` of a playback stream go into the FIFO. -/
def State.playArrives (s : State) (r i n : Nat) (d : List Byte) (since : Nat) : State :=
  match s.stream r with
  | none => s
  | some x =>
    match x.entries[i]? with
    | none => s
    | some e =>
      if e.status.isSome then s
      else
        let p := x.playWords n d
        let s := (List.range n).foldl (fun s k =>
          s.calStore (x.slot (x.wr + k)) ((p.1.getD k []).flatMap fun w => leBytes 4 w.toNat) 32) s
        let e := { e with moved := e.moved + n, start := if e.moved = 0 then x.wr else e.start }
        s.setStream r (some { x with
          wr := x.wr + n, entries := setAt x.entries i e, sat := min 65535 (x.sat + p.2)
          lat := max x.lat (min 65535 ((s.now - since) * 10 / 12288)) })

/-! ### Parking (R415, R416) -/

/-- The stream's FIFO island goes down without FORCE. -/
def State.parkStream (s : State) (r : Nat) : State :=
  match s.stream r with
  | none => s
  | some x =>
    if x.st = 4 || x.closing then s
    else
      let s := s.dropBursts r
      let x := { x with fade := x.fade.cut, live := [], entries := x.entries.map fun e => { e with issued := e.moved } }
      (s.streamState r x 4).streamEvent x 4

/-- The island has returned. -/
def State.unparkStream (s : State) (r : Nat) : State :=
  match s.stream r with
  | none => s
  | some x => if x.st = 4 then (s.streamState r x (if x.capture then 1 else 2)).streamEvent x 5 else s

/-- The FIFO was lost (R416). -/
def State.loseStream (s : State) (r : Nat) : State :=
  match s.stream r with
  | none => s
  | some x =>
    let x := { x.endEntry 0 0x22 with fade := x.fade.cut, rd := x.wr, stamps := [] }
    (((s.setStream r (some x)).streamEvent x 6).dropBursts r).streamClose r none false

end Sys2Proof.Machine
end

