-- ==== Sys2Proof/Machine/Ports.lean ====
section
/-! DEFINITION. TDM ports, PDM microphones and S/PDIF (chapter 12). -/

namespace Sys2Proof.Machine

def State.audOff (s : State) : Bool := s.islandOff 12
def State.cnvOff (s : State) : Bool := s.islandOff 13

/-- Sets the value of a matrix source. -/
def State.setSrc (s : State) (a : Nat) (w : Word) : State :=
  { s with route := { s.route with srcs := SMap.set (fun _ => 0) s.route.srcs a w } }

/-- A rate domain runs: D0 runs, and the domain is enabled. -/
def State.domRuns (s : State) (dom : Nat) : Bool := s.d0Running && (dom == 0 || s.rbit (rClkTickCtrl dom) 31)

/-! ### ASRC channels at their endpoints (R338 to R342) -/

/-- The enabled ASRC channels of an endpoint in a direction. -/
def State.asrcAt (s : State) (ep : Nat) (out : Bool) : List Nat :=
  (List.range 256).filter fun n => let w := s.reg (rAsrcCfg0 n); bit w 31 && bit w 16 == out && fld w 0 16 == ep

/-- A sample arrives at an endpoint. -/
def State.asrcIn (s : State) (ep : Nat) (w : Word) : State :=
  (s.asrcAt ep false).foldl (fun s n => let x := s.asrc n; s.setAsrc n { x with hist := w :: x.hist, count := x.count + 1 }) s

/-- The sample for an endpoint: 0 if no channel converts to it. -/
def State.asrcOut (s : State) (ep : Nat) : Word :=
  match s.asrcAt ep true with
  | n :: _ => (s.asrc n).out
  | [] => 0

/-! ### TDM ports (R453 to R466) -/

def State.tdm (s : State) (n : Nat) : Tdm := SMap.get (fun _ => {}) s.port.tdm n

def State.setTdm (s : State) (n : Nat) (x : Tdm) : State :=
  { s with port := { s.port with tdm := SMap.set (fun _ => {}) s.port.tdm n x } }

def State.tdmSt (s : State) (n : Nat) : Nat := s.rfld (rPortTdmStat n) 0 2
def State.setTdmSt (s : State) (n v : Nat) : State := s.setFld (rPortTdmStat n) 0 2 v

/-- Bits of SLOT_W and DATA_W codes. -/
def widthBits (c : Nat) : Nat := if c = 0 then 16 else if c = 1 then 24 else 32

def State.tdmDom (s : State) (n : Nat) : Nat := s.rfld (rPortTdmCfg0 n) 4 2
def State.tdmSlots (s : State) (n : Nat) : Nat := s.rfld (rPortTdmCfg0 n) 12 5 + 1

/-- The frame rate of a configuration as a fraction in Hz: none if its domain is not enabled or RATE is reserved. -/
def State.tdmRate (s : State) (cfg : Word) : Option (Nat × Nat) :=
  let dom := fld cfg 4 2
  if dom = 3 then (asrcRate (fld cfg 8 4)).map fun r => (r, 1)
  else if dom = 0 then some (s.d0Rate, 1)
  else if s.rbit (rClkTickCtrl dom) 31 then some (s.d0Rate, s.domDiv dom) else none

/-- A configuration may be enabled (R456, R458, R461). -/
def State.tdmValid (s : State) (cfg : Word) : Bool :=
  let fmt := fld cfg 2 2
  let sw := fld cfg 17 2
  let dw := fld cfg 19 2
  let slots := fld cfg 12 5 + 1
  fmt != 3 && sw != 3 && dw != 3 && decide (dw ≤ sw) && (asrcRate (fld cfg 8 4)).isSome &&
  (fmt == 0 || (slots == 2 && !(bit cfg 25) && !(bit cfg 26))) &&
  match s.tdmRate cfg with
  | none => false
  | some (a, b) =>
    decide (1024000 * b ≤ a * slots * widthBits sw) && decide (a * slots * widthBits sw ≤ 49152000 * b) &&
    (!(bit cfg 1) || family441 (if fld cfg 4 2 = 3 then a else s.d0Rate) == bit cfg 6)

/-- The port is the CUR_SRC of a domain (R65). -/
def State.tdmIsSource (s : State) (n : Nat) : Bool :=
  (List.range 3).any fun d => s.rfld (rClkTickStat d) 0 4 == 2 + n

def State.tdmRej (s : State) (n : Nat) : State := s.setBit (rPortTdmStat n) 10 true

/-- A write to TDMn_CFG0. -/
def State.tdmCfgW (s : State) (n : Nat) (v : Word) : State :=
  let r := rPortTdmCfg0 n
  let old := s.reg r
  let v := v &&& 0x07FFFF7F
  if s.tdmIsSource n && ((bit old 0 && !(bit v 0)) || (bit v 1 && !(bit old 1))) then s.tdmRej n
  else if bit old 0 then
    if v = putBit old 0 false then ((s.setReg r v).setTdmSt n 0).setTdm n {} else s.tdmRej n
  else if !(bit v 0) then s.setReg r v
  else if s.tdmValid v then ((s.setReg r v).setTdmSt n 1).setTdm n {}
  else s.tdmRej n

def execTdmCfg0Write (n : Fin 6) (v : BitVec 32) (s : State) : Host.Outcome State Fault Refusal :=
  .next (s.bar (rPortTdmCfg0 n.val) fun s => s.tdmCfgW n.val v)

/-- A write to RXMASK or TXMASK. -/
def State.tdmMaskW (s : State) (n r : Nat) (v : Word) : State :=
  if s.rbit (rPortTdmCfg0 n) 0 then s.tdmRej n else s.setReg r v

/-- A slip in the receive (bit 16) or transmit (bit 24) direction. -/
def State.tdmSlip (s : State) (n lo : Nat) : State := (s.bump (rPortTdmCnt n) lo 8).setBit (rPortTdmStat n) 11 true

/-- The Q1.31 words of a received frame (R457), from the samples of DATA_W bits. -/
def State.tdmWords (s : State) (n : Nat) (ws : List Word) : List Word :=
  let dw := widthBits (s.rfld (rPortTdmCfg0 n) 19 2)
  (List.range (s.tdmSlots n)).map fun k =>
    if s.rbit (rPortTdmRxmask n) k then (ws.getD k 0) <<< (32 - dw) else 0

/-- A consistent frame is complete on a TDM port (R453, R455, R464). -/
def State.tdmRx (s : State) (n : Nat) (ws : List Word) : State :=
  let st := s.tdmSt n
  let x := s.tdm n
  if st = 0 || st = 3 || s.audOff then s
  else
    let f := s.tdmWords n ws
    if st = 1 then
      if x.run = 0 then s.setTdm n { x with run := 1 }
      else (s.setTdmSt n 2).setTdm n { x with run := 0, rx := [f], txSets := [], txPrev := [], rxStart := true, txStart := true }
    else if s.tdmDom n = 3 then
      (List.range (s.tdmSlots n)).foldl (fun s k => s.asrcIn (32 * n + k) (f.getD k 0)) s
    else if x.rx.length < 4 then s.setTdm n { x with rx := x.rx ++ [f] }
    else (s.setTdm n { x with rx := x.rx.drop 1 ++ [f] }).tdmSlip n 16

/-- The freeze of a TDM port at a tick of D0, and its fades (R453, R463, R464). -/
def State.tdmFreeze (s : State) (n : Nat) : State :=
  let x := s.tdm n
  let slots := List.range (s.tdmSlots n)
  if s.tdmDom n = 3 then s
  else if s.tdmSt n = 0 || s.audOff then slots.foldl (fun s k => s.setSrc (32 * n + k) 0) s
  else
    let due := s.ticks (s.tdmDom n)
    let live := due && s.tdmSt n == 2
    let s := if live && x.rx.isEmpty then s.tdmSlip n 16 else s
    let s := if live && decide (3 ≤ x.rx.length) then s.tdmSlip n 16 else s
    let x := if live then
        { x with
          frozen := (match x.rx with
            | f :: _ => f
            | [] => x.frozen)
          rx := (if 3 ≤ x.rx.length then x.rx.drop (x.rx.length - 1) else x.rx.drop 1)
          rxStart := false
          rxFade := if x.rxStart then x.rxFade.start s.d0Rate else x.rxFade }
      else x
    let x := { x with rxFade := x.rxFade.tick slots fun k => x.frozen.getD k 0 }
    let s := s.setTdm n x
    if due then slots.foldl (fun s k => s.setSrc (32 * n + k) (x.rxFade.outAt k)) s else s

/-- The release to a TDM port's transmitter at a tick of D0 (R454, R464). -/
def State.tdmRelease (s : State) (n : Nat) : State :=
  let x := s.tdm n
  if s.tdmDom n = 3 || s.tdmSt n != 2 then s
  else
    let slots := List.range (s.tdmSlots n)
    let due := s.ticks (s.tdmDom n)
    let x := if due && x.txStart then { x with txStart := false, txFade := x.txFade.start s.d0Rate } else x
    let x := { x with txFade := x.txFade.tick slots fun k => s.sinkValue (32 * n + k) }
    s.setTdm n (if due then { x with txSets := x.txSets ++ [(s.now, slots.map x.txFade.outAt)] } else x)

/-- The released sets that wait for a frame that starts now (R454): those released at least half a frame period ago. -/
def setsReady (now a b : Nat) (sets : List (Nat × List Word)) : List (Nat × List Word) × List (Nat × List Word) :=
  sets.partition fun p => decide (p.1 * 2 * a + 1228800000 * b ≤ now * 2 * a)

/-- What a transmit slot carries (R457): left-aligned in the slot word; none is high impedance. -/
def State.tdmSlot (s : State) (n k : Nat) (w : Option Word) : Option Word :=
  let cfg := s.reg (rPortTdmCfg0 n)
  let idle : Option Word := if bit cfg 22 then none else some 0
  let dw := widthBits (fld cfg 19 2)
  let sw := widthBits (fld cfg 17 2)
  match w with
  | some w => if s.rbit (rPortTdmTxmask n) k then some ((w >>> (32 - dw)) <<< (sw - dw)) else idle
  | none => idle

/-- A TDM frame starts on the transmit side. -/
def State.tdmTx (s : State) (n : Nat) : State :=
  let x := s.tdm n
  let slots := List.range (s.tdmSlots n)
  let blank := slots.map fun k => s.tdmSlot n k none
  if s.tdmSt n = 0 || s.audOff then s
  else if s.tdmSt n != 2 || s.mode.selfTest then s.setTdm n { x with sent := blank }
  else if s.tdmDom n = 3 then
    s.setTdm n { x with sent := slots.map fun k => s.tdmSlot n k (some (s.asrcOut (32 * n + k))) }
  else
    let (a, b) := (s.tdmRate (s.reg (rPortTdmCfg0 n))).getD (48000, 1)
    let (ready, later) := setsReady s.now a b x.txSets
    if ready.isEmpty && x.txPrev.isEmpty then s.setTdm n { x with sent := blank }
    else
      let s := if ready.length = 1 then s else s.tdmSlip n 24
      let prev := (ready.getLast?.map Prod.snd).getD x.txPrev
      s.setTdm n { x with txSets := later, txPrev := prev, sent := slots.map fun k => s.tdmSlot n k (some (prev.getD k 0)) }

/-- A slave port starves (R463). -/
def State.tdmStarve (s : State) (n : Nat) : State :=
  if s.tdmSt n = 3 then s
  else
    let x := s.tdm n
    let f := if s.rbit (rPortTdmCfg0 n) 21 then x.rxFade.cut else x.rxFade.stop s.d0Rate
    ((s.setTdmSt n 3).bump (rPortTdmCnt n) 0 8).setTdm n
      { x with rx := [], run := 0, txSets := [], txPrev := [], rxFade := f, txFade := x.txFade.cut
               rxStart := false, txStart := false, needReset := true }

/-- The port is an enabled slave port. -/
def State.tdmSlave (s : State) (n : Nat) : Bool := s.tdmSt n != 0 && !(s.rbit (rPortTdmCfg0 n) 1) && !s.audOff

/-- FRAMING_ERROR (R462, R463). -/
def execFramingError (n : Fin 6) (s : State) : Host.Outcome State Fault Refusal :=
  let n := n.val
  .next (if s.tdmSlave n then ((s.setBit (rPortTdmStat n) 9 true).bump (rPortTdmCnt n) 8 8).tdmStarve n else s)

/-- MISSING_BIT_CLOCK (R463). -/
def execMissingBitClock (n : Fin 6) (s : State) : Host.Outcome State Fault Refusal :=
  let n := n.val
  .next (if s.tdmSlave n then (s.setBit (rPortTdmStat n) 8 true).tdmStarve n else s)

/-- Keeper's K0 run resets the receive logic of the ports that wait for it; they enter WAIT (R463, R464). -/
def State.tdmReset (s : State) (n : Nat) : State :=
  let x := s.tdm n
  if x.needReset then (s.setTdmSt n 1).setTdm n { x with needReset := false, run := 0, rx := [] } else s

/-! ### PDM microphones (R467 to R473) -/

def State.mic (s : State) (m : Nat) : Mic := SMap.get (fun _ => {}) s.port.mics m

def State.setMic (s : State) (m : Nat) (x : Mic) : State :=
  { s with port := { s.port with mics := SMap.set (fun _ => {}) s.port.mics m x } }

def State.micOn (s : State) (m : Nat) : Bool := s.rbit (rPortPdmMic m) 0

/-- PDMCK(m/4) runs. -/
def State.micClock (s : State) (m : Nat) : Bool := s.rbit rConvPdmck (m / 4) && !(s.rbit rConvClk 0) && !s.cnvOff

/-- The microphones follow their clocks (R470). -/
def State.micClocks (s : State) : State :=
  forN 16 (fun m s =>
    let x := s.mic m
    let on := s.micClock m
    if x.clocked == on || !(s.micOn m) then s
    else if on then s.setMic m { x with clocked := true, fade := if x.settling then x.fade else x.fade.start s.d0Rate }
    else s.setMic m { x with clocked := false, fade := x.fade.stop s.d0Rate }) s

/-- The PDM ratio of a domain is a whole number from 16 to 1,536 (R468, R469). -/
def State.pdmRatioOk (s : State) (dom : Nat) : Bool :=
  let p := (if s.rbit rConvPdmck 4 then 6144000 else 3072000) * s.domDiv dom
  p % s.d0Rate == 0 && decide (16 ≤ p / s.d0Rate) && decide (p / s.d0Rate ≤ 1536)

/-- A write to PDM_MICm (R469, R472). -/
def State.micW (s : State) (m : Nat) (v : Word) : State :=
  let r := rPortPdmMic m
  let old := s.reg r
  let v := v &&& 0x0000FF1F
  let rej := s.setBit rPortPdmStat 16 true
  if bit old 0 then
    if v = old then s
    else if v = putBit old 0 false then (s.setReg r v).setMic m {}
    else rej
  else if !(bit v 0) then s.setReg r v
  else
    let dom := fld v 1 2
    let on := dom == 0 || (dom != 3 && s.rbit (rClkTickCtrl dom) 31)
    if on && s.pdmRatioOk dom && s.micClock m then
      (s.setReg r v).setMic m { settling := true, since := s.now, clocked := true }
    else rej

def execPdmMicWrite (m : Fin 16) (v : BitVec 32) (s : State) : Host.Outcome State Fault Refusal :=
  .next (s.bar (rPortPdmMic m.val) fun s => s.micW m.val v)

/-- SETTLE_END (R470). -/
def execSettleEnd (m : Fin 16) (s : State) : Host.Outcome State Fault Refusal :=
  let x := s.mic m.val
  .next (if s.micOn m.val && x.settling && decide (x.since + s.rfld (rPortPdmMic m.val) 8 8 * 1228800 ≤ s.now) then
    s.setMic m.val { x with settling := false, fade := if x.clocked then x.fade.start s.d0Rate else x.fade }
  else s)

/-- A decimator's sample is complete (R468). `ws` are the PDM bits since the last one. Whether the sample saturates, and
on which side, is a free value. -/
def State.micRx (s : State) (m : Nat) (ws : List Word) : State :=
  let x := s.mic m
  if !(s.micOn m) || s.audOff || !x.clocked then s
  else
    let bits := ws.reverse ++ x.bits
    let (f, s) := s.draw
    let y := Config.filterOut (400 + s.rfld (rPortPdmMic m) 3 2) bits
    let y : Word := if bit f 0 then (if bit f 1 then 0x80000000 else 0x7FFFFFFF) else y
    let s := if bit f 0 then s.bump rPortPdmStat 8 8 else s
    let full := decide (4 ≤ x.rx.length)
    let s := if full then s.bump rPortPdmStat 0 8 else s
    s.setMic m { x with bits := bits, rx := (if full then x.rx.drop 1 else x.rx) ++ [y] }

/-- The freeze of a microphone at a tick of D0 (R453, R470). -/
def State.micFreeze (s : State) (m : Nat) : State :=
  let x := s.mic m
  if !(s.micOn m) || s.audOff then s.setSrc (0x0100 + m) 0
  else
    let due := s.ticks (s.rfld (rPortPdmMic m) 1 2)
    let s := if due && (x.rx.isEmpty || decide (3 ≤ x.rx.length)) then s.bump rPortPdmStat 0 8 else s
    let x := if due then
        { x with
          frozen := (match x.rx with
            | y :: _ => y
            | [] => x.frozen)
          rx := (if 3 ≤ x.rx.length then x.rx.drop (x.rx.length - 1) else x.rx.drop 1) }
      else x
    let x := { x with fade := x.fade.tick [0] fun _ => x.frozen }
    let s := s.setMic m x
    if due then s.setSrc (0x0100 + m) (x.fade.outAt 0) else s

/-- A block of 32 PDM periods is complete (R405, R468): every raw stream takes the words of its microphones. The sample
index is that of the tick during which the first period was sampled. -/
def State.pdmBlock (s : State) (ws : List Word) : State :=
  if s.cnvOff || s.audOff || s.rfld rConvPdmck 0 4 = 0 then s
  else
    let len := if s.rbit rConvPdmck 4 then 6400 else 12800
    let k := if s.tick.gen.lastTick + len ≤ s.now then s.tick.sidx else s.tick.sidx - 1
    s.mov.streams.foldl (fun s p => match p.2 with
      | some x => if x.fmt = 5 then s.streamPutAt p.1 (x.micList.map fun m => ws.getD m 0) k else s
      | none => s) s

/-- RX_FRAME_COMPLETE: `src` is 0 to 5 for TDM ports, 6 + m for microphone m, 22 for a block of raw PDM (one word per
microphone). -/
def execRxFrameComplete (src : Fin 23) (ws : List (BitVec 32)) (s : State) : Host.Outcome State Fault Refusal :=
  .next (if src.val < 6 then s.tdmRx src.val ws else if src.val < 22 then s.micRx (src.val - 6) ws else s.pdmBlock ws)

/-! ### S/PDIF (R474 to R481) -/

def State.setSpr (s : State) (x : SpdifRx) : State := { s with port := { s.port with spr := x } }

/-- The receiver loses lock. -/
def State.sprLose (s : State) : State :=
  let s := s.setSpr { s.port.spr with good := 0, bad := 0, gathering := false }
  if s.rfld rPortSprStat 0 2 = 2 then
    let s := ((s.setFld rPortSprStat 0 2 1).setFld rPortSprStat 4 4 0xF).setBit rPortSprStat 8 true
    [0x0C20, 0x0C21].foldl (fun s ep => (s.asrcAt ep false).foldl State.asrcLose s) s
  else s

/-- A write to SPDIF_RX CFG. -/
def State.sprCfgW (s : State) (v : Word) : State :=
  let old := s.reg rPortSprCfg
  let v := v &&& 7
  let s := s.setReg rPortSprCfg v
  if !(bit v 0) then
    let s := s.sprLose
    ((s.setFld rPortSprStat 0 2 0).setFld rPortSprStat 4 4 0xF).setSpr { held := s.port.spr.held, latched := s.port.spr.latched }
  else if !(bit old 0) then s.setFld rPortSprStat 0 2 1
  else if bit old 1 != bit v 1 then s.sprLose
  else s

/-- The 12 words of a block's channel status, A then B (R476). -/
def csWords (a b : List Bool) : SMap Word :=
  let word := fun (l : List Bool) i => BitVec.ofNat 32 (((List.range 32).map fun j => if l.getD (32 * i + j) false then 2 ^ j else 0).foldl (· + ·) 0)
  (List.range 12).foldl (fun m k => SMap.set (fun _ => 0) m k (if k < 6 then word a k else word b (k - 6))) []

/-- The end of a channel-status block. -/
def State.csBlock (s : State) (a b : List Bool) : State :=
  let w := csWords a b
  if w = s.port.spr.held then s
  else
    let s := (s.setSpr { s.port.spr with held := w }).setBit rPortSprStat 10 true
    s.setBit rPortSprStat 9 (a.getD 1 false)

/-- What one S/PDIF subframe brings: sample, V, channel-status bit, an error in it. -/
def State.sprSample (s : State) (prev : Word) (x : BitVec 24) (v err : Bool) : Word :=
  if s.rbit rPortSprStat 9 || (s.rbit rPortSprCfg 2 && v) then 0 else if err then prev else (x.zeroExtend 32) <<< 8

/-- SPDIF_FRAME: `ok`: the preambles are valid; `rate`: the measured rate's code, 0xF if it is not within ±1,000 ppm of
one of the seven; then per subframe sample, V, channel-status bit, error; `z`: the frame starts a block. -/
def execSpdifFrame (ok : Bool) (rate : Fin 16) (a b : BitVec 24) (va vb ca cb ea eb z : Bool) (s : State) :
    Host.Outcome State Fault Refusal :=
  let x := s.port.spr
  let rate := rate.val
  let rateOk := [6, 7, 8, 0xA, 0xB, 0xC, 0xD].contains rate
  let locked := s.rfld rPortSprStat 0 2 == 2
  if s.rfld rPortSprStat 0 2 = 0 || s.audOff then .next s
  else if !ok then
    if locked && decide (2 ≤ x.bad) then .next s.sprLose
    else .next (s.setSpr { x with bad := x.bad + 1, good := 0, gathering := false })
  else if locked && rate != s.rfld rPortSprStat 4 4 then .next s.sprLose
  else if !locked then
    let good := if !rateOk then 0 else if x.rateRun = rate then x.good + 1 else 1
    let s := s.setSpr { x with bad := 0, good := good, rateRun := rate }
    .next (if 8 ≤ good then (s.setFld rPortSprStat 0 2 2).setFld rPortSprStat 4 4 rate else s)
  else
    let s := if ea then s.bump rPortSprStat 16 8 else s
    let s := if eb then s.bump rPortSprStat 16 8 else s
    let wa := s.sprSample x.prevA a va ea
    let wb := s.sprSample x.prevB b vb eb
    let on := z || x.gathering
    let la := if z then [ca] else if on then x.csA ++ [ca] else []
    let lb := if z then [cb] else if on then x.csB ++ [cb] else []
    let full := la.length == 192
    let s := s.setSpr { x with bad := 0, prevA := wa, prevB := wb, gathering := on && !full, csA := if full then [] else la, csB := if full then [] else lb }
    let s := if full then s.csBlock la lb else s
    .next ((s.asrcIn 0x0C20 wa).asrcIn 0x0C21 wb)

/-- MISSING_PREAMBLES (R474). -/
def execMissingPreambles (s : State) : Host.Outcome State Fault Refusal :=
  .next (if s.rfld rPortSprStat 0 2 = 2 && !s.audOff then s.sprLose else s)

/-- A read of CS_A0 latches the 12 channel-status words. -/
def State.csRead (s : State) : State := s.setSpr { s.port.spr with latched := s.port.spr.held }

def execCsA0Read (s : State) : Host.Outcome State Fault Refusal :=
  .next (match s.dark (rPortSprCs 0) with
    | some b => { s.setBit rTopDark b true with rdata := 0 }
    | none => { s.csRead with rdata := SMap.get (fun _ => 0) s.port.spr.held 0 })

def State.spt (s : State) (t : Nat) : SpdifTx := SMap.get (fun _ => {}) s.port.spt t

def State.setSpt (s : State) (t : Nat) (x : SpdifTx) : State :=
  { s with port := { s.port with spt := SMap.set (fun _ => {}) s.port.spt t x } }

/-- A write to a transmitter's CFG (R480). -/
def State.sptCfgW (s : State) (t : Nat) (v : Word) : State :=
  let r := rPortSptCfg t
  let v := v &&& 3
  if bit v 0 && !(s.rbit r 0) && s.rbit rConvClk 0 != family441 s.d0Rate then s.setBit (rPortSptStat t) 1 true
  else
    let was := s.rbit r 0
    let s := s.setReg r v
    if was == bit v 0 then s else s.setSpt t { s.spt t with txSets := [], txPrev := [], pos := 0, sent := [] }

/-- A write to CS0 to CS5 of a transmitter: CS5 completes the staged copy (R480). -/
def State.sptCsW (s : State) (t i : Nat) (v : Word) : State :=
  let s := s.setReg (rPortSptCs t i) v
  if i = 5 then
    let w := (List.range 6).foldl (fun m k => SMap.set (fun _ => 0) m k (s.reg (rPortSptCs t k))) []
    (s.setSpt t { s.spt t with waiting := w }).setBit (rPortSptStat t) 0 true
  else s

def execCs5Write (t : Fin 2) (v : BitVec 32) (s : State) : Host.Outcome State Fault Refusal :=
  .next (s.bar (rPortSptCs t.val 5) fun s => s.sptCsW t.val 5 v)

/-- The release to a transmitter at a tick of D0. -/
def State.sptRelease (s : State) (t : Nat) : State :=
  if s.rbit (rPortSptCfg t) 0 then
    let x := s.spt t
    s.setSpt t { x with txSets := x.txSets ++ [(s.now, [s.sinkValue (0x0C10 + 2 * t), s.sinkValue (0x0C11 + 2 * t)])] }
  else s

/-- A frame starts on a transmitter (R454, R479, R480). -/
def State.sptTx (s : State) (t : Nat) : State :=
  let x := s.spt t
  if !(s.rbit (rPortSptCfg t) 0) || s.audOff then s
  else
    let z := x.pos == 0
    let pend := z && s.rbit (rPortSptStat t) 0
    let s := if pend then s.setBit (rPortSptStat t) 0 false else s
    let act := if pend then x.waiting else x.active
    let x := { x with
      active := act, sentZ := z, pos := (x.pos + 1) % 192
      sentC := bit (SMap.get (fun _ => 0) act (x.pos / 32)) (x.pos % 32) }
    if !s.d0Running || s.cnvOff || s.mode.selfTest then s.setSpt t { x with sent := [0, 0], sentV := true, txSets := [] }
    else
      let (ready, later) := setsReady s.now s.d0Rate 1 x.txSets
      let s := if ready.length = 1 then s else s.bump (rPortSptStat t) 8 8
      let prev := (ready.getLast?.map Prod.snd).getD x.txPrev
      s.setSpt t { x with
        txSets := later, txPrev := prev, sentV := s.rbit (rPortSptCfg t) 1
        sent := [0, 1].map fun k => (prev.getD k 0).extractLsb' 8 24 }

/-- TX_FRAME_START: a frame starts on a TDM port (0 to 5) or an S/PDIF transmitter (6, 7). -/
def execTxFrameStart (p : Fin 8) (s : State) : Host.Outcome State Fault Refusal :=
  .next (if p.val < 6 then s.tdmTx p.val else s.sptTx (p.val - 6))

end Sys2Proof.Machine
end

