-- ==== Sys2Proof/Machine/Dacs.lean ====
section
/-! DEFINITION. The output DACs and the converter registers (chapter 12). -/

namespace Sys2Proof.Machine

def State.dac (s : State) (d : Nat) : Dac := SMap.get (fun _ => {}) s.port.dacs d

def State.setDac (s : State) (d : Nat) (x : Dac) : State :=
  { s with port := { s.port with dacs := SMap.set (fun _ => {}) s.port.dacs d x } }

def State.dacSt (s : State) (d : Nat) : Nat := s.rfld rConvDacStat (4 * d) 4
def State.setDacSt (s : State) (d v : Nat) : State := s.setFld rConvDacStat (4 * d) 4 v

def State.grp (s : State) (g : Nat) : DacGrp := SMap.get (fun _ => {}) s.port.grps g

def State.setGrp (s : State) (g : Nat) (x : DacGrp) : State :=
  { s with port := { s.port with grps := SMap.set (fun _ => {}) s.port.grps g x } }

def State.grpStrb (s : State) (g : Nat) : Nat := s.rfld (rConvGrp g) 0 2

/-- DOM_STOP is present (R484). -/
def State.domStop (s : State) (g : Nat) : Bool :=
  let d := s.grpStrb g
  !(s.domRuns (if d = 3 then 0 else d))

/-- A group fault is present. -/
def State.grpFault (s : State) (g : Nat) : Bool := (s.grp g).strbLost || s.domStop g

/-- RUN to FADING. -/
def State.dacFade (s : State) (d : Nat) (down : Bool) : State :=
  let x := s.dac d
  (s.setDacSt d 3).setDac d { x with down := down, since := s.now, fade := x.fade.stop s.d0Rate }

/-- The channel enters RUN, with a fade in; a group fault that is present fades it again at once. -/
def State.dacRun (s : State) (d : Nat) : State :=
  let x := s.dac d
  let s := (s.setDacSt d 2).setDac d { x with fade := ({} : Fade).start s.d0Rate }
  if s.grpFault (d / 4) then s.dacFade d false else s

/-- The channel goes to mid scale with code 0 (4 MUTED, 5 RAMP_DOWN), or to CLAMP (0) or RAMP_UP (1). -/
def State.dacRest (s : State) (d v : Nat) : State := (s.setDacSt d v).setDac d {}

/-- A group fault fades its running channels. -/
def State.grpFades (s : State) (g : Nat) : State :=
  forN 4 (fun k s => if s.dacSt (4 * g + k) = 2 then s.dacFade (4 * g + k) false else s) s

def State.dacStart (s : State) (d : Nat) : State := if s.dacSt d = 0 then s.dacRest d 1 else s

def State.dacStop (s : State) (d : Nat) : State :=
  if s.dacSt d = 2 then s.dacFade d true else if s.dacSt d = 1 || s.dacSt d = 4 then s.dacRest d 5 else s

def State.dacMute (s : State) (d : Nat) : State := if s.dacSt d = 2 then s.dacFade d false else s

def State.dacUnmute (s : State) (d : Nat) : State := if s.dacSt d = 4 && !(s.grpFault (d / 4)) then s.dacRun d else s

def execDacStart (d : Fin 8) (s : State) : Host.Outcome State Fault Refusal :=
  .next (s.bar (rConvDacCtrl d.val) fun s => s.dacStart d.val)

def execDacStop (d : Fin 8) (s : State) : Host.Outcome State Fault Refusal :=
  .next (s.bar (rConvDacCtrl d.val) fun s => s.dacStop d.val)

def execDacMute (d : Fin 8) (s : State) : Host.Outcome State Fault Refusal :=
  .next (s.bar (rConvDacCtrl d.val) fun s => s.dacMute d.val)

def execDacUnmute (d : Fin 8) (s : State) : Host.Outcome State Fault Refusal :=
  .next (s.bar (rConvDacCtrl d.val) fun s => s.dacUnmute d.val)

/-- A write to DACd_CTRL (R491). -/
def State.dacW (s : State) (d : Nat) (v : Word) : State :=
  match fld v 0 3 with
  | 1 => s.dacStart d
  | 2 => s.dacStop d
  | 3 => s.dacMute d
  | 4 => s.dacUnmute d
  | _ => s

/-- The end of a ramp (R482). -/
def State.rampEnd (s : State) (d : Nat) : State :=
  if s.dacSt d = 1 then s.dacRun d else if s.dacSt d = 5 then s.dacRest d 0 else s

/-- STOP to every channel that is not in CLAMP (R485, R669, R687): a channel that fades goes on to RAMP_DOWN. -/
def State.dacStopAll (s : State) : State :=
  forN 8 (fun d s => if s.dacSt d = 3 then s.setDac d { s.dac d with down := true } else s.dacStop d) s

/-- FADE_END (R482, R484): the fade has run out with the strobes, or, without them, with the CNV clock after 1 ms. -/
def execFadeEnd (d : Fin 8) (s : State) : Host.Outcome State Fault Refusal :=
  let d := d.val
  let x := s.dac d
  .next (if s.dacSt d = 3 && (x.fade.st == .silent || (s.grpFault (d / 4) && decide (x.since + 1228800 ≤ s.now))) then
    s.dacRest d (if x.down then 5 else 4)
  else s)

/-- STRB_LOST (R484). -/
def execStrbLost (g : Fin 2) (s : State) : Host.Outcome State Fault Refusal :=
  let g := g.val
  let x := s.grp g
  .next (if s.grpStrb g = 3 && !x.strbLost && !s.cnvOff && decide (x.lastEdge + 2 * 1228800000 / s.d0Rate ≤ s.now) then
    ((s.setGrp g { x with strbLost := true, clearAt := none }).setBit rConvFault (8 + g) true).grpFades g
  else s)

/-- D0 stops: DOM_STOP of both groups (R484). -/
def State.dacDomStop (s : State) : State :=
  if s.cnvOff then s
  else forN 2 (fun g s => ((s.setGrp g { s.grp g with clearAt := none }).setBit rConvFault (10 + g) true).grpFades g) s

/-- D0 starts: the faults that were DOM_STOP alone end. -/
def State.dacDomStart (s : State) : State :=
  forN 2 (fun g s => if s.grpFault g then s else s.setGrp g { s.grp g with clearAt := some s.now }) s

/-- The strobe rate of a group as a fraction in Hz. -/
def State.strbRate (s : State) (g : Nat) : Nat × Nat :=
  let d := s.grpStrb g
  (s.d0Rate, if d = 3 then 1 else s.domDiv d)

/-- AUTO_UNMUTE (R483). -/
def execAutoUnmute (g : Fin 2) (s : State) : Host.Outcome State Fault Refusal :=
  let g := g.val
  let (a, b) := s.strbRate g
  match (s.grp g).clearAt with
  | some t =>
    if s.rbit (rConvGrp g) 3 && !(s.grpFault g) && decide (t + 2 * 1228800000 * b / a ≤ s.now) && !s.cnvOff then
      .next (forN 4 (fun k s => if s.dacSt (4 * g + k) = 4 then s.dacRun (4 * g + k) else s)
        (s.setGrp g { s.grp g with clearAt := none }))
    else .next s
  | none => .next s

/-- SHORT (R483, R493). -/
def execDacShort (d : Fin 8) (s : State) : Host.Outcome State Fault Refusal :=
  let d := d.val
  .next (if s.cnvOff then s
  else
    let s := s.setBit rConvFault d true
    if s.dacSt d = 0 || s.dacSt d = 5 then s else s.dacRest d 4)

/-- A channel advances its fade by a tick and, if `load`, loads the code (R486). -/
def State.dacAdvance (s : State) (d : Nat) (load : Bool) : State :=
  if s.dacSt d = 2 || s.dacSt d = 3 then
    let x := s.dac d
    let f := x.fade.tick [0] fun _ => s.sinkValue (0x0C00 + d)
    s.setDac d { x with fade := f, code := if load then (f.outAt 0).extractLsb' 8 24 else x.code }
  else s

/-- Step 4 of R53: the groups strobed from ticks; and the release of a set to a group on an LDS pin. -/
def State.dacTick (s : State) : State :=
  if s.cnvOff then s
  else forN 2 (fun g s =>
    let d := s.grpStrb g
    if d = 3 then
      let x := s.grp g
      (if x.loads = 0 then s.bump rConvSlip (8 * g) 8 else s).setGrp g { x with loads := 0 }
    else forN 4 (fun k s => s.dacAdvance (4 * g + k) (s.ticks d)) s) s

/-- LDS_STROBE: an edge of LDSg (R486). -/
def execLdsStrobe (g : Fin 2) (rising : Bool) (s : State) : Host.Outcome State Fault Refusal :=
  let g := g.val
  if s.grpStrb g != 3 || s.cnvOff || rising == s.rbit (rConvGrp g) 2 then .next s
  else
    let x := s.grp g
    let s := if 1 ≤ x.loads then s.bump rConvSlip (8 * g) 8 else s
    let clear := x.strbLost && !(s.domStop g)
    let s := s.setGrp g { x with
      strbLost := false, lastEdge := s.now, loads := x.loads + 1, clearAt := if clear then some s.now else x.clearAt }
    .next (forN 4 (fun k s => s.dacAdvance (4 * g + k) true) s)

/-- The CNV island loses power or is reset (R485): every channel is in CLAMP at once. -/
def State.dacClamp (s : State) : State := forN 8 (fun d s => s.dacRest d 0) s

def State.dacsClamped (s : State) : Bool := s.reg rConvDacStat == 0

/-! ### Converter registers (R488 to R490) -/

/-- A write to CONV.CLK. -/
def State.convClkW (s : State) (v : Word) : State :=
  let s := if bit v 31 then s.setBit rConvClk 31 false else s
  if bit v 0 == s.rbit rConvClk 0 then s
  else if s.dacsClamped && !(s.rbit (rPortSptCfg 0) 0) && !(s.rbit (rPortSptCfg 1) 0) && s.rfld rConvPdmck 0 4 == 0 then
    (s.setBit rConvClk 0 (bit v 0)).micClocks
  else s.setBit rConvClk 31 true

/-- A write to CONV.PDMCK. -/
def State.convPdmckW (s : State) (v : Word) : State :=
  let s := if bit v 31 then s.setBit rConvPdmck 31 false else s
  let ck := s.rfld rConvPdmck 0 4
  if (bit v 4 != s.rbit rConvPdmck 4 && ck != 0) || (fld v 0 4 != 0 && s.rbit rConvClk 0) then s.setBit rConvPdmck 31 true
  else (s.setFld rConvPdmck 0 5 (fld v 0 5)).micClocks

/-- A write to CONV.GRPg. -/
def State.convGrpW (s : State) (g : Nat) (v : Word) : State :=
  let r := rConvGrp g
  let s := if bit v 31 then s.setBit r 31 false else s
  let clamped := (List.range 4).all fun k => s.dacSt (4 * g + k) == 0
  if fld v 0 3 != s.rfld r 0 3 && !clamped then s.setBit r 31 true
  else
    let s := if fld v 0 3 = s.rfld r 0 3 then s else s.setGrp g { lastEdge := s.now }
    s.setFld r 0 4 (fld v 0 4)

end Sys2Proof.Machine
end

