-- ==== Sys2Proof/Machine/Lantern.lean ====
section
/-! DEFINITION. The Lantern page (R386 to R388), and changes of mode (R661, R589). -/

namespace Sys2Proof.Machine

/-! ### Relief's registers -/

/-- TOP.RLF_STAT.STATE (R593). -/
def rlfWatch : Nat := 0
def rlfReset : Nat := 1
def rlfLoad : Nat := 2
def rlfFlash : Nat := 3
def rlfRebuild : Nat := 4
def rlfMinimal : Nat := 5
def rlfFault : Nat := 6

def State.rlf (s : State) : Nat := s.rfld rTopRlfStat 0 3

/-- Keeper executes its firmware. -/
def State.keeperRuns (s : State) : Bool :=
  s.mode.started && !s.mode.dormant && !s.keep.halted && (s.rlf == rlfWatch || s.rlf == rlfRebuild || s.rlf == rlfFault)

/-! ### The page -/

def State.tallyOf (s : State) (k : Nat) : Nat := SMap.get (fun _ => 0) s.keep.tally k

/-- `n` little-endian fields of `w` bytes. -/
def leFields (w n : Nat) (f : Nat → Nat) : List Byte := (List.range n).flatMap fun i => leBytes w (f i)

def zeros (n : Nat) : List Byte := List.replicate n 0

def Hist.bytes (h : Hist) : List Byte :=
  leBytes 8 h.sidx ++ leBytes 1 h.kind ++ leBytes 1 h.reason ++ leBytes 2 (h.dur.getD 0xFFFF) ++ leBytes 4 h.count

/-- The CODE that the page carries, and the reason. -/
def State.lanHead (s : State) (sn : Nat) : List Byte :=
  let three := fun d => let r := rClkTickStat d
    (if s.rbit r 4 then 1 else 0) + (if s.rbit r 5 then 2 else 0) + (if s.rbit r 8 then 4 else 0)
  leBytes 4 sn ++ leBytes 2 1 ++ leBytes 1 s.modeCode ++ leBytes 1 (s.rfld rTopModeReason 0 8) ++
  leBytes 8 s.tick.sidx ++ leBytes 8 ((s.now - s.boot.fullAt) * 10 / 12288) ++ leBytes 4 (three 0 + 8 * three 1 + 64 * three 2) ++
  leBytes 4 ((if s.rbit (rClkPllStat 0) 8 then 1 else 0) + (if s.rbit (rClkPllStat 1) 8 then 2 else 0)
    + (if s.rbit rClkPllsStat 8 then 4 else 0) + (if s.rbit rClkHoldStat 0 then 256 else 0)) ++
  leFields 2 8 (fun i => s.rfld (rPwrTemp i) 0 16) ++ zeros 16

/-- Descriptors held over all contexts (R363). -/
def State.heldCount (s : State) : Nat :=
  s.ctx.foldl (fun n p => if s.rbit (rCtxtStat p.1) 11 then n + (p.2.p - p.2.c).toNat else n) 0

/-- Bytes 0x040 to 0x17F. `kp` are Keeper's loads and queues, which the model leaves free. -/
def State.lanBody (s : State) (kp : Nat → Nat) : List Byte :=
  let quarter := fun q => ((List.range 16).map fun i => s.rfld (rCaldBankStat (16 * q + i)) 0 6).foldl (· + ·) 0
  let relocs := ((List.range 8).filter fun n => s.rbit (rCaldProtRemap n) 31).length
  let reserve := ((List.range 8).filter fun i => (s.tile (352 + i)).1 == 3).length
  leFields 2 8 (fun c => min 65535 (s.tallyOf (16 + c) * 65536 / usableCycles s.d0Rate)) ++
  leFields 2 12 kp ++ leBytes 4 s.heldCount ++ zeros 20 ++
  leFields 4 8 s.tallyOf ++ leFields 4 4 (fun q => s.tallyOf (8 + q)) ++
  leFields 2 6 (fun c => min 65535 (s.tallyOf (24 + c))) ++ zeros 4 ++
  leBytes 2 (s.rfld rCaldCap 0 14) ++ leBytes 2 (s.rfld rCaldCap 16 14) ++
  leFields 2 4 quarter ++ leBytes 1 relocs ++ leBytes 1 reserve ++ zeros 2 ++
  leBytes 4 (s.tallyOf 12) ++ leBytes 4 (s.tallyOf 13) ++ leBytes 4 (s.tallyOf 14) ++ zeros 36 ++
  (s.keep.hist.flatMap Hist.bytes) ++ zeros (128 - 16 * s.keep.hist.length)

/-- Offers bytes of the page as TLPs of at most 512 bytes, class P4. -/
def State.lanPut (s : State) (off : Nat) (d : List Byte) : State :=
  let a := s.reg64 rTopLanternLo + off
  (splitReq 512 (d.length + 1) a d.length).foldl (fun s p =>
    s.hostWrite 4 99 0 p.1 ((d.drop (p.1 - a)).take p.2) 0) s

/-- Keeper writes the whole page (R387). -/
def State.lantern (s : State) : State :=
  if !(s.rbit rTopLanternCtrl 0) || !s.keeperRuns then s
  else
    let sn := s.keep.lanSeq + 1
    let c := s.freeCtr
    let body := s.lanBody fun i => (Config.freeValue (c + i)).toNat % 65536
    let s := { s with freeCtr := c + 12 }
    let s := s.lanPut 0 (s.lanHead sn ++ body ++ zeros (0xFFC - 0x180) ++ leBytes 4 sn)
    { s with keep := { s.keep with lanSeq := sn, lanAt := s.now, tally := SMap.keep (fun k => decide (k < 16)) s.keep.tally } }

/-- Relief writes the head and the end of the page (R386, R579). -/
def State.lanternHead (s : State) : State :=
  if !(s.rbit rTopLanternCtrl 0) then s
  else
    let sn := s.keep.lanSeq + 1
    let s := (s.lanPut 0 ((s.lanHead sn).take 64)).lanPut 0xFFC (leBytes 4 sn)
    { s with keep := { s.keep with lanSeq := sn } }

/-- LANTERN_WRITE: Keeper's write every 1 ms (R386). -/
def execLanternWrite (s : State) : Host.Outcome State Fault Refusal :=
  .next (if s.keep.lanAt + 1228800 ≤ s.now then s.lantern else s)

/-! ### Changes of mode -/

/-- Carries out `f`; if TOP.MODE.CODE changes by it, TOP.MODE_REASON takes the reason and Keeper writes the page. -/
def State.modeDo (s : State) (reason : Nat) (f : State → State) : State :=
  let t := f s
  if t.modeCode = s.modeCode then t else (t.setFld rTopModeReason 0 8 reason).lantern

end Sys2Proof.Machine
end

