-- ==== Sys2Proof/Machine/Clocks.lean ====
section
/-! DEFINITION. Tick sources and tick control (chapter 2), PLLs, clock outputs and holdover (chapter 13). -/

namespace Sys2Proof.Machine

/-! ### Tick control (R62 to R65) -/

def State.modGen (s : State) (f : TickGen → TickGen) : State :=
  { s with tick := { s.tick with gen := f s.tick.gen } }

def State.dom (s : State) (m : Nat) : DomGen := if m = 1 then s.tick.d1 else s.tick.d2

def State.setDom (s : State) (m : Nat) (x : DomGen) : State :=
  { s with tick := if m = 1 then { s.tick with d1 := x } else { s.tick with d2 := x } }

/-- CUR_SRC of a domain (R65). -/
def State.curSrc (s : State) (m : Nat) : Nat := s.rfld (rClkTickStat m) 0 4

/-- A source that a domain may take (R41, R64), for D0 at a RATE code. -/
def State.srcOk (s : State) (m src rate : Nat) : Bool :=
  let tdm := decide (2 ≤ src) && decide (src ≤ 7) && !(s.rbit (rPortTdmCfg0 (src - 2)) 1)
  if m = 0 then
    tdm || (src == 0 && decide (rate < 4)) || (src == 1 && decide (4 ≤ rate)) || src == 8 || (src == 9 && decide (rate < 4)) || src == 0xA
  else tdm || src == 0xB

/-- A write to TICK_CTRLn (R63, R64). -/
def State.tickCtrlW (s : State) (m : Nat) (v : Word) : State :=
  let r := rClkTickCtrl m
  let old := s.reg r
  let rej := s.setBit (rClkTickStat m) 10 true
  let rate := fld v 4 3
  if m = 0 then
    if (rate != fld old 4 3 && s.modeCode != 5) || rate == 3 || rate == 7 || !(s.srcOk 0 (fld v 0 4) rate) then rej
    else s.setReg r ((old &&& 0x80000000) ||| (v &&& 0x7F))
  else
    let same := fld v 8 3 == fld old 8 3 && fld v 12 4 == fld old 12 4 && bit v 31 == bit old 31
    if (!same && s.modeCode != 5) || decide (5 < fld v 8 3) || decide (divOf (fld v 8 3) ≤ fld v 12 4) || !(s.srcOk m (fld v 0 4) 0) then rej
    else
      let s := s.setReg r (v &&& 0x8000F70F)
      if s.curSrc m = 0xB then s.setFld (rClkTickStat m) 16 4 (fld v 12 4) else s

def execTickCtrlWrite (n : Fin 3) (v : BitVec 32) (s : State) : Host.Outcome State Fault Refusal := .next (s.tickCtrlW n.val v)

/-! ### Source events (R42 to R48) -/

/-- The rate of source events in Hz (R42): link frames come at 48 kHz. -/
def State.srcHz (s : State) (src : Nat) : Nat := if src = 9 then 48000 else s.d0Rate

/-- `dt` FAB cycles are 0.95 to 1.05 nominal source periods (R44). -/
def inRange (dt hz : Nat) : Bool := decide (19 * 1228800000 ≤ 20 * dt * hz) && decide (20 * dt * hz ≤ 21 * 1228800000)

/-- The phase error of the ticks against an event now, in FAB cycles, positive if the nearest tick that an event should
meet is late: every tick, or under BEACON the first of each link frame. -/
def State.phaseErr (s : State) (src : Nat) : Int :=
  let g := s.tick.gen
  let m := if src = 9 then s.d0Rate / 48000 else 1
  let e : Nat := s.tick.sidx % max 1 m * g.period + (s.now - g.lastTick)
  let P : Nat := m * g.period
  if 2 * e ≤ P then - (e : Int) else (P : Int) - e

/-- D0 leaves LOCKED (R45). -/
def State.unlock (s : State) : State :=
  let s := s.modGen fun g => { g with run16 := 0 }
  if s.rbit (rClkTickStat 0) 4 then (s.setBit (rClkTickStat 0) 4 false).setBit (rClkTickStat 0) 9 true else s

/-- A used event: phase, LOCKED, and the estimate F, whose new value within ±5 % of nominal is free. -/
def State.useEvent (s : State) (src : Nat) : State :=
  let e := s.phaseErr src
  let (f, s) := s.draw
  let nom := 1228800000 * 256 / s.d0Rate
  let est := clampN (nom * 19 / 20) (nom * 21 / 20) (f.toNat % 2 ^ 24)
  let s := s.setBit (rClkTickStat 0) 5 false
  let s := s.modGen fun g => { g with
    f := est, err := e, firstEv := false, lastUsed := s.now, lastRecv := s.now
    run16 := if e.natAbs ≤ 8 then min 16 (g.run16 + 1) else 0 }
  if 16 ≤ s.tick.gen.run16 then s.setBit (rClkTickStat 0) 4 true
  else if 32 < e.natAbs then s.unlock
  else s

/-- An event of a source while D0 is in holdover: the qualification of an external PREV_SRC (R521). -/
def State.observe (s : State) (src : Nat) : State :=
  if s.rbit rClkHoldStat 0 && s.rfld rClkHoldStat 4 4 == src then
    let ok := inRange (s.now - s.clk.prevEv) (s.srcHz src)
    { s with clk := { s.clk with prevEv := s.now, okSince := if ok then some (s.clk.okSince.getD s.now) else none } }
  else s

/-- An event of source `src` arrives (R44, R46). -/
def State.sourceEvent (s : State) (src : Nat) : State :=
  if s.d0Running && !s.mode.runPend && s.curSrc 0 == src then
    let g := s.tick.gen
    let hz := s.srcHz src
    let fly := s.rbit (rClkTickStat 0) 5
    let used := g.firstEv || inRange (s.now - (if fly then g.lastRecv else g.lastUsed)) hz
    if used then s.useEvent src else s.modGen fun g => { g with lastRecv := s.now }
  else s.observe src

/-- SOURCE_EVENT: an event of source `src` other than BEACON. `refs` counts the REFCLK cycles since the holdover
synthesiser's last event: only a carry out of its accumulator is an event (R517). -/
def execSourceEvent (src : Fin 12) (refs : BitVec 32) (s : State) : Host.Outcome State Fault Refusal :=
  match src.val with
  | 0 => .next (if s.rfld (rClkPllStat 0) 0 2 = 0 then s else s.sourceEvent 0)
  | 1 => .next (if s.rfld (rClkPllStat 1) 0 2 = 0 then s else s.sourceEvent 1)
  | 8 => .next (if s.rfld rPortSprStat 0 2 = 2 then s.sourceEvent 8 else s)
  | 9 => .next s
  | 10 =>
    let acc := s.clk.nco + refs.toNat * (s.reg64 rClkHoldIncLo % 2 ^ 48)
    if !(s.rbit rClkRefStat 8) || !(s.rbit rClkHoldStat 0) then .next s
    else
      let s := { s with clk := { s.clk with nco := acc % 2 ^ 48 } }
      .next (if acc < 2 ^ 48 then s else s.sourceEvent 10)
  | 11 => .next s
  | k => .next (if s.tdmSlave (k - 2) then s.sourceEvent k else s)

/-- D0 enters flywheel operation (R46): no used event for 1.5 nominal source periods. -/
def execSrcLost (s : State) : Host.Outcome State Fault Refusal :=
  let g := s.tick.gen
  let since := s.now - max g.lastUsed g.applied
  if s.d0Running && !s.mode.runPend && !(s.rbit (rClkTickStat 0) 5) && decide (3 * 1228800000 ≤ 2 * since * s.srcHz (s.curSrc 0)) then
    let s := (s.setBit (rClkTickStat 0) 5 true).setBit (rClkTickStat 0) 8 true
    .next { s.unlock with clk := { s.clk with lostNew := true } }
  else .next s

/-- DM_SOURCE_EVENT: an event of the external source of D1 (`m` = 0) or D2 (R48). -/
def execDmSourceEvent (m : Fin 2) (s : State) : Host.Outcome State Fault Refusal :=
  let m := m.val + 1
  let x := s.dom m
  if !(s.domRuns m) || s.curSrc m == 0xB then .next s
  else match x.last with
    | none => .next s
    | some k =>
      let P := s.tick.gen.period
      let since := (s.tick.sidx - k) * P + (s.now - s.tick.gen.lastTick)
      let full := s.domDiv m * P
      let off : Int := if 2 * since ≤ full then since else (since : Int) - full
      if P < 2 * off.natAbs then
        let s := (s.setBit (rClkTickStat m) 9 true).setBit (rClkTickStat m) 4 false
        .next (s.setDom m { x with run16 := 0, move := if 0 < off then 1 else -1 })
      else
        let s := s.setDom m { x with run16 := min 16 (x.run16 + 1) }
        .next (if 16 ≤ x.run16 + 1 then s.setBit (rClkTickStat m) 4 true else s)

/-- A read of SIDX_LO latches SIDX_HI and SIDX_PHASE (R67, R68). -/
def State.sidxRead (s : State) : Word × State :=
  let runs := s.d0Running && s.mode.started && !s.mode.runPend
  let k := if runs then s.tick.sidx else 0
  let ph := if runs then (s.now - s.tick.gen.lastTick) % 2 ^ 24 else 0
  let l := SMap.set (fun _ => 0) s.latches rClkSidxHi (BitVec.ofNat 32 (k / 2 ^ 32))
  (BitVec.ofNat 32 k, { s with latches := SMap.set (fun _ => 0) l rClkSidxPhase (BitVec.ofNat 32 ph) })

def execSidxLoRead (s : State) : Host.Outcome State Fault Refusal :=
  let r := s.sidxRead
  .next { r.2 with rdata := r.1 }

/-! ### PLLs (R496 to R508) -/

def State.pll (s : State) (x : Nat) : Pll := SMap.get (fun _ => {}) s.clk.plls x

def State.setPll (s : State) (x : Nat) (p : Pll) : State :=
  { s with clk := { s.clk with plls := SMap.set (fun _ => {}) s.clk.plls x p } }

/-- The status register of PLL-A (0), PLL-B (1), PLL-S (2). -/
def pllStatReg (x : Nat) : Nat := if x = 2 then rClkPllsStat else rClkPllStat x

/-- Loop state (R499): 0 OFF, 1 ACQUIRE, 2 CLOSED, 3 HELD. -/
def State.pllSt (s : State) (x : Nat) : Nat := s.rfld (pllStatReg x) 0 2

def State.setPllSt (s : State) (x v : Nat) : State :=
  (s.setFld (pllStatReg x) 0 2 v).setPll x { s.pll x with since := s.now }

/-- PLLx_LOCK is held low continuously (R509). -/
def State.lockLow (s : State) (x : Nat) : Bool := s.pllSt x != 2

/-- Nominal VCO frequency (R496). -/
def vcoHz (x : Nat) : Nat := if x = 0 then 2359296000 else if x = 1 then 2167603200 else 2457600000

/-- REFCLK in Hz (R495). -/
def State.refHz (s : State) : Nat := [24576000, 49152000, 19200000, 38400000].getD (s.rfld rClkRefStat 0 2) 24576000

/-- The target VCO frequency of PLL-A or PLL-B with INT, as a fraction in Hz. -/
def State.vcoTarget (s : State) (x int : Nat) : Nat × Nat :=
  let den := max 1 (s.rfld (rClkPllDen x) 0 24)
  (s.refHz * (int * den + s.rfld (rClkPllNum x) 0 24), den)

/-- The lowest-numbered valid band that holds a frequency in MHz (R498). -/
def State.bandFor (s : State) (mhz : Nat) : Option Nat :=
  (List.range 16).find? fun i => let w := s.reg (rClkBand i)
    bit w 31 && decide (fld w 0 12 ≤ mhz) && decide (mhz ≤ fld w 12 12)

def State.pllBand (s : State) (x int : Nat) : Option Nat :=
  let t := s.vcoTarget x int
  s.bandFor (t.1 / (t.2 * 1000000))

/-- The settings allow EN (R504). -/
def State.pllOk (s : State) (x int : Nat) : Bool :=
  let t := s.vcoTarget x int
  let nom := vcoHz x * t.2
  decide (16 ≤ int) && decide (s.rfld (rClkPllNum x) 0 24 < t.2) &&
  decide ((max t.1 nom - min t.1 nom) * 1000000 ≤ 100 * nom) && (s.pllBand x int).isSome

/-- Something uses the PLL (R504). -/
def State.pllUsed (s : State) (x : Nat) : Bool :=
  s.curSrc 0 == x ||
  ((List.range 6).any fun n => let w := s.reg (rPortTdmCfg0 n); bit w 0 && bit w 1 && bit w 6 == (x == 1)) ||
  (s.rbit rConvClk 0 == (x == 1) && (!s.dacsClamped || s.rbit (rPortSptCfg 0) 0 || s.rbit (rPortSptCfg 1) 0 || s.rfld rConvPdmck 0 4 != 0)) ||
  ((List.range 4).any fun n => s.rfld (rClkCkoAct n) 0 3 == 2 + x)

/-- The PLL starts to acquire: it takes its band (R498, R501). -/
def State.acquire (s : State) (x : Nat) : State :=
  let s := match s.pllBand x (s.rfld (rClkPllCtrl x) 8 8) with
    | some b => s.setFld (rClkPllCtrl x) 16 4 b
    | none => s
  s.setPllSt x 1

/-- RELOCK is honoured only in HELD (R501). -/
def State.relock (s : State) (x : Nat) : State := if s.pllSt x = 3 then s.acquire x else s

/-- A write to PLLA_CTRL or PLLB_CTRL (R502, R504). -/
def State.pllCtrlW (s : State) (x : Nat) (v : Word) : State :=
  let r := rClkPllCtrl x
  let s := if bit v 31 then s.setBit r 31 false else s
  let rej := s.setBit r 31 true
  let int := fld v 8 8
  let put := fun (s : State) => ((s.setBit r 0 (bit v 0)).setBit r 2 (bit v 2)).setFld r 8 8 int
  if s.rbit r 0 then
    if int ≠ s.rfld r 8 8 then rej
    else if !(bit v 0) then (if s.pllUsed x then rej else (put s).setPllSt x 0)
    else if bit v 1 then (put s).relock x else put s
  else if !(bit v 0) then put s
  else if s.pllOk x int then (put s).acquire x else rej

/-- PLL_ENABLE: a write to PLLA_CTRL (0) or PLLB_CTRL (1). -/
def execPllEnable (x : Fin 2) (v : BitVec 32) (s : State) : Host.Outcome State Fault Refusal := .next (s.pllCtrlW x.val (v ||| 1))

/-- PLL_DISABLE: a write that clears EN. -/
def execPllDisable (x : Fin 2) (v : BitVec 32) (s : State) : Host.Outcome State Fault Refusal :=
  .next (s.pllCtrlW x.val (v &&& 0xFFFFFFFE))

/-- RELOCK. -/
def execRelock (x : Fin 2) (s : State) : Host.Outcome State Fault Refusal := .next (s.relock x.val)

/-- A write to PLLx_NUM or PLLx_DEN. -/
def State.pllNumW (s : State) (x r : Nat) (v : Word) : State :=
  let v := v &&& 0xFFFFFF
  if s.rbit (rClkPllCtrl x) 0 && v != s.reg r then s.setBit (rClkPllCtrl x) 31 true else s.setReg r v

/-- ACQUIRE_END: PLL-A (0), PLL-B (1), PLL-S (2). -/
def execAcquireEnd (x : Fin 3) (s : State) : Host.Outcome State Fault Refusal :=
  .next (if s.pllSt x.val = 1 then s.setPllSt x.val 2 else s)

/-- A slip in CLOSED (R500). -/
def State.pllSlip (s : State) (x : Nat) : State :=
  if s.pllSt x = 2 then
    let s := (s.setPllSt x 3).setPll x { s.pll x with since := s.now, slipAt := s.now, newLoss := true }
    (s.setBit (pllStatReg x) 8 true).bump (pllStatReg x) 16 8
  else s

/-- PLL_SLIP; a slip of PLL-S begins the hold condition (R661, R662). -/
def execPllSlip (x : Fin 3) (s : State) : Host.Outcome State Fault Refusal := .next (s.modeDo 0x13 fun s => s.pllSlip x.val)

/-- FERR_MEASURE (R505): the PLL-S error in units of 0.1 %. -/
def execFerrMeasure (ferr : BitVec 8) (s : State) : Host.Outcome State Fault Refusal :=
  let s := s.setFld rClkPllsStat 24 8 ferr.toNat
  .next (if 30 < ferr.toInt.natAbs then s.setBit rClkPllsStat 9 true else s)

/-- TRACK_TRIM (R508) at a D0 tick. The phase of the rate-divider edge is free, so the change of the pull is free within
1 ppm per ms, and the pull within ±200 ppm. -/
def State.trackTrim (s : State) (x : Nat) : State :=
  let r := rClkPllTrk x
  if !(s.rbit (rClkPllCtrl x) 2) || s.curSrc 0 == x || family441 s.d0Rate != (x == 1) || s.pllSt x != 2 then s
  else
    let k := s.tick.sidx
    let step := (k + 1) * 64000 / s.d0Rate - k * 64000 / s.d0Rate
    let (f, s) := s.draw
    let p := clampI (-12800) 12800 (sextNat (s.rfld r 0 16) 16 + ((f.toNat % (2 * step + 1) : Nat) : Int) - step)
    let s := s.setFld r 0 16 (p % 65536).toNat
    if p.natAbs = 12800 then s.setBit r 16 true else s

/-! ### REFCLK (R495, R522) -/

/-- REFCLK_LOST: the holdover synthesiser stops, PLL-A and PLL-B slip. -/
def execRefclkLost (s : State) : Host.Outcome State Fault Refusal :=
  .next (if s.rbit rClkRefStat 8 then
    ((((s.setBit rClkRefStat 8 false).setBit rClkRefStat 9 true).setBit rClkHoldStat 8 true).pllSlip 0).pllSlip 1
  else s)

def execRefclkReturn (s : State) : Host.Outcome State Fault Refusal := .next (s.setBit rClkRefStat 8 true)

/-! ### Clock outputs (R511 to R516) -/

def State.cko (s : State) (n : Nat) : Cko := SMap.get (fun _ => {}) s.clk.ckos n

/-- Output `n` is the odd one of an active LVDS pair. -/
def State.ckoOdd (s : State) (n : Nat) : Bool := n % 2 == 1 && s.clk.pairAct.getLsbD (n / 2)

/-- Steps not yet applied: one is applied in each output period. -/
def State.ckoPend (s : State) (n : Nat) : Int :=
  let c := s.cko n
  let src := s.rfld (rClkCkoAct n) 0 3
  if src < 2 then c.pend
  else
    let k := (s.now - c.at') * vcoHz (src - 2) / (max 1 (s.rfld (rClkCkoAct n) 4 16) * 1228800000)
    if 0 ≤ c.pend then max 0 (c.pend - k) else min 0 (c.pend + k)

/-- CKO_PHASE_ADD (R516). -/
def State.ckoPhaseW (s : State) (n : Nat) (add : Int) : State :=
  if s.rfld (rClkCkoAct n) 0 3 < 2 || s.ckoOdd n then s
  else
    let c : Cko := { pend := clampI (-2047) 2047 (s.ckoPend n + add), at' := s.now, phase := (s.cko n).phase + add }
    { s with clk := { s.clk with ckos := SMap.set (fun _ => {}) s.clk.ckos n c } }

def execCkoPhaseAdd (n : Fin 4) (add : BitVec 12) (s : State) : Host.Outcome State Fault Refusal :=
  .next (s.ckoPhaseW n.val add.toInt)

/-- The staged settings may be applied (R514). -/
def State.ckoOk (s : State) : Bool :=
  (List.range 4).all fun n =>
    let w := s.reg (rClkCkoCfg n)
    let src := fld w 0 3
    let lvds := s.rbit rClkCkoPair (n / 2)
    let hz := vcoHz (src - 2)
    decide (src ≤ 4) &&
    (decide (src < 2) || (decide (6 ≤ fld w 4 16) && (if src = 4 then s.pllSt 2 != 0 else s.rbit (rClkPllCtrl (src - 2)) 0) &&
      ((lvds && n % 2 == 1) || decide (hz ≤ (if lvds then 400000000 else 150000000) * fld w 4 16))))

/-- The commit takes effect (R515). -/
def State.ckoApply (s : State) : State :=
  let s := forN 4 (fun n s =>
    if s.reg (rClkCkoAct n) = s.reg (rClkCkoCfg n) then s
    else
      let p := s.ckoPend n
      let s := { s with clk := { s.clk with ckos := SMap.modify (fun _ => {}) s.clk.ckos n fun c => { c with pend := p, at' := s.now } } }
      s.setReg (rClkCkoAct n) (s.reg (rClkCkoCfg n))) s
  ({ s with clk := { s.clk with pairAct := BitVec.ofNat 2 (s.rfld rClkCkoPair 0 2) } } : State).setBit rClkCkoCommit 8 false

/-- A write to CKO_COMMIT (R513, R514). -/
def State.ckoCommitW (s : State) (v : Word) : State :=
  let s := if bit v 9 then s.setBit rClkCkoCommit 9 false else s
  let s := s.setBit rClkCkoCommit 1 (bit v 1)
  if !(bit v 0) then s
  else if s.rbit rClkCkoCommit 8 || !s.ckoOk then s.setBit rClkCkoCommit 9 true
  else if bit v 1 then s.setBit rClkCkoCommit 8 true
  else s.ckoApply

def execCkoCommit (v : BitVec 32) (s : State) : Host.Outcome State Fault Refusal := .next (s.ckoCommitW (v ||| 1))

/-! ### Holdover (R517 to R524) -/

/-- HOLD_MEAS_WINDOW (R518): the REFCLK cycles counted over 4,096 D0 ticks. -/
def execHoldMeasWindow (count : BitVec 24) (s : State) : Host.Outcome State Fault Refusal :=
  .next (if 4096 ≤ s.clk.win then
    ({ s with clk := { s.clk with win := s.clk.win - 4096 } } : State).setReg rClkHoldMeas (count.setWidth 32)
  else s)

/-- The increment for the nominal D0 rate. -/
def State.incNominal (s : State) : Nat := 2 ^ 48 * s.d0Rate / s.refHz

/-- The increment that continues the measured tick rate (R518); the nominal one before the first window has ended. -/
def State.incMeasured (s : State) : Nat :=
  let m := s.rfld rClkHoldMeas 0 24
  if m = 0 then s.incNominal else 2 ^ 48 * 4096 / m

/-- SLEW moves the increment towards nominal by 1 ppm/s, at each tick (R520). -/
def State.slew (s : State) : State :=
  if s.rbit rClkHoldStat 0 && s.rbit rClkHoldCtrl 1 then
    let i := s.reg64 rClkHoldIncLo
    let n := s.incNominal
    let d := max 1 (i / (1000000 * s.d0Rate))
    s.setReg64 rClkHoldIncLo (if i < n then min n (i + d) else max n (i - d))
  else s

/-- RET in FAB cycles. -/
def State.retTime (s : State) : Nat := max 1 (s.rfld rClkHoldCtrl 8 8) * 12288000

/-- PREV_SRC qualifies (R521). The two further conditions for BEACON (R540) are `link`. -/
def State.prevOk (s : State) (link : Bool) : Bool :=
  let p := s.rfld rClkHoldStat 4 4
  s.rbit rClkHoldStat 0 &&
  if p < 2 then s.pllSt p == 2 && decide ((s.pll p).since + s.retTime ≤ s.now) && decide ((s.pll p).slipAt + s.retTime ≤ s.now)
  else match s.clk.okSince with
    | some t => decide (t + s.retTime ≤ s.now) && decide (20 * (s.now - s.clk.prevEv) * s.srcHz p ≤ 21 * 1228800000) && (p != 9 || link)
    | none => false

/-- The reason of a move to holdover; SOURCE_LOST if SRC was written by the host. -/
def State.holdReason (s : State) : Nat := if s.clk.holdWhy = 0 then 0x11 else s.clk.holdWhy

/-- A change of D0's SRC takes effect at a tick (R47, R519): entry to holdover and return from it. -/
def State.srcChange (s : State) : State :=
  let new := s.rfld (rClkTickCtrl 0) 0 4
  let old := s.curSrc 0
  if new = old then s
  else
    let s := (s.setFld (rClkTickStat 0) 0 4 new).modGen fun g => { g with applied := s.now, firstEv := true, run16 := 0, lastUsed := s.now, lastRecv := s.now, err := 0 }
    if new = 0xA then
      let s := (s.setBit rClkHoldStat 0 true).bump rClkHoldStat 16 16
      let s := { s with clk := { s.clk with nco := 0, okSince := none, prevEv := s.now } }
      s.histBegin 4 s.holdReason none
    else if old = 0xA then
      let s := (s.setBit rClkHoldStat 0 false).histEnd 4
      { s with clk := { s.clk with holdWhy := 0 } }
    else s

end Sys2Proof.Machine
end

