-- ==== Sys2Proof/Machine/Movers.lean ====
section
/-! DEFINITION. The movers (R389 to R391, R400 to R402, R412 to R416), translation walks, copies and checks. -/

namespace Sys2Proof.Machine

/-! ### Copies (R412, R413) -/

def State.copyOf (s : State) (c q : Nat) : Option Copy := s.mov.copies.find? fun k => k.ctx == c && k.seq == q

def State.modCopy (s : State) (c q : Nat) (f : Copy → Copy) : State :=
  { s with mov := { s.mov with copies := s.mov.copies.map fun k => if k.ctx = c && k.seq = q then f k else k } }

/-- A copy ends with a status: its pieces are dropped, its check unit is free. -/
def State.copyEnds (s : State) (c q code : Nat) : State :=
  let mine := fun (j : Option Job) => match j with
    | some ⟨.copy c' q' _ _, _, _⟩ => c' == c && q' == q
    | _ => false
  let s := (s.mov.movers.filter fun p => mine p.2).foldl (fun s p => (s.setMover p.1 none).readsOver (.mover p.1)) s
  ({ s with mov := { s.mov with copies := s.mov.copies.filter fun k => !(k.ctx == c && k.seq == q) } } : State).setResult c q code

/-- The COPY share is 0 and the transfer has a host side (R402). -/
def State.copyBarred (s : State) (c : Nat) (k : Copy) : Bool :=
  s.rfld (rDmaCap c) 16 11 == 0 && !(k.srcCal && (k.dstCal || k.isCheck))

/-- A side of a transfer is permitted (R275, R412). -/
def State.sideOk (s : State) (c : Nat) (cal : Bool) (a n : Nat) : Bool := if cal then s.ownsRange c a n else windowOk a n

/-- A DMA_COPY or CRC_CHECK that passes its checks begins. -/
def State.copyStart (s : State) (c q : Nat) (k : Copy) (ok : Bool) : State :=
  if !ok then s.finish c q 0x10
  else if s.copyBarred c k then s.finish c q 0x12
  else ({ s with mov := { s.mov with copies := s.mov.copies ++ [{ k with start := s.now }] } } : State).begin c q

/-- DMA_COPY. -/
def execDmaCopy (c : Fin 512) (q : BitVec 32) (s : State) : Host.Outcome State Fault Refusal :=
  let (c, q) := (c.val, q.toNat)
  match s.ready c q tDmaCopy with
  | none => .next s
  | some d =>
    let k : Copy := {
      ctx := c, seq := q, src := d.num 16 8, dst := d.num 24 8, len := d.num 32 4, srcCal := d.num 36 1 == 1
      dstCal := d.num 37 1 == 1, isCheck := false, check := d.num 38 1, expect := d.num 40 4, rem := crcInit (d.num 38 1) }
    .next (s.copyStart c q k (d.extra == 0 && d.onlyUses [(16, 23), (40, 4)] && decide (1 ≤ k.len) && decide (d.num 36 1 < 2) &&
      decide (d.num 37 1 < 2) && decide (k.check < 5) && s.sideOk c k.srcCal k.src k.len && s.sideOk c k.dstCal k.dst k.len))

/-- CRC_CHECK. -/
def execCrcCheck (c : Fin 512) (q : BitVec 32) (s : State) : Host.Outcome State Fault Refusal :=
  let (c, q) := (c.val, q.toNat)
  match s.ready c q tCrcCheck with
  | none => .next s
  | some d =>
    let k : Copy := {
      ctx := c, seq := q, src := d.num 16 8, dst := 0, len := d.num 28 4, srcCal := d.num 24 1 == 1, dstCal := false
      isCheck := true, check := d.num 32 1, expect := d.num 36 4, rem := crcInit (d.num 32 1) }
    .next (s.copyStart c q k (d.extra == 0 && d.onlyUses [(16, 9), (28, 5), (36, 4)] && decide (1 ≤ k.len) &&
      decide (d.num 24 1 < 2) && decide (1 ≤ k.check) && decide (k.check < 5) && s.sideOk c k.srcCal k.src k.len))

/-- A free check-value unit. -/
def State.freeCheck (s : State) : Option Nat := [0, 1, 2, 3].find? fun u => s.mov.copies.all fun k => k.unit != some u

/-- Bytes of the next piece (R389). -/
def Copy.piece (k : Copy) : Nat :=
  let n := min 4096 (k.len - k.issued)
  let n := if k.srcCal then n else min n (4096 - (k.src + k.issued) % 4096)
  if k.dstCal || k.isCheck then n else min n (4096 - (k.dst + k.issued) % 4096)

def Copy.paced (k : Copy) : Bool := !(k.srcCal && (k.dstCal || k.isCheck))

/-- What a full copy bucket of a context holds. -/
def copyFull : Nat := 2 * costBytes 4096 * 65536

def State.copyTok (s : State) (c : Nat) : Nat := SMap.get (fun _ => copyFull) s.mov.copyTokens c

/-- A transfer has a piece that may be taken now. -/
def State.copyEligible (s : State) (k : Copy) : Bool :=
  decide (k.issued < k.len) && !k.parked && (k.check == 0 || k.unit.isSome || s.freeCheck.isSome) &&
  (!k.paced || decide (costBytes k.piece * 65536 ≤ s.copyTok k.ctx))

/-- `bs` have gone from source to destination: the checkpoint advances, and at the end the check value is compared. -/
def State.copyAdvance (s : State) (c q : Nat) (bs : List Byte) : State :=
  match s.copyOf c q with
  | none => s
  | some k =>
    let rem := if k.check = 0 then 0 else crcStep k.check k.rem bs
    let k := { k with pos := k.pos + bs.length, rem := rem }
    let s := s.modCopy c q fun _ => k
    if k.pos < k.len then s
    else s.copyEnds c q (if k.check ≠ 0 && crcEnd k.check k.rem ≠ k.expect then 0x21 else 0)

/-! ### Taking work (R390) -/

/-- The chunk work item to take first: earliest deadline, write-back first, lower line (R287). -/
def State.nextChunk (s : State) : Option (Nat × Int × Bool) :=
  let due := fun (k : Nat × Int × Bool) =>
    let l := s.line k.1
    let d : Int := if k.2.2 then k.2.1 + (match l.rd with
      | some (lo, _) => (lo : Int)
      | none => 0) else k.2.1 + l.sw
    (d - s.lineT l) * s.domDiv l.dom
  s.mov.chunks.foldl (fun best k => match best with
    | none => some k
    | some b =>
      if due k < due b || (due k == due b && ((!k.2.2 && b.2.2) || (k.2.2 == b.2.2 && decide (k.1 < b.1)))) then some k else best) none

/-- The stream bursts and copy pieces that may be taken: deadline, 0 for a stream or 1 for a copy, its number in the
order of R390, the work. -/
def State.candidates (s : State) : List (Nat × Nat × Nat × Work) :=
  (s.mov.streams.filterMap fun p => match p.2 with
    | none => none
    | some x => (s.nextBurst p.1 x).map fun b => (s.burstDeadline x, 0, p.1, .burst p.1 (x.cons.toNat + b.1) b.2.1 b.2.2)) ++
  ((List.range s.mov.copies.length).filterMap fun i => match s.mov.copies[i]? with
    | none => none
    | some k => if s.copyEligible k then some (k.start + 1228800, 1, i, .copy k.ctx k.seq k.issued k.piece) else none)

/-- The next work item. -/
def State.nextWork (s : State) : Option Work :=
  match s.nextChunk with
  | some k => some (.chunk k.1 k.2.1 k.2.2)
  | none =>
    (s.candidates.foldl (fun (best : Option (Nat × Nat × Nat × Work)) k => match best with
      | none => some k
      | some b =>
        if decide (k.1 < b.1) || (k.1 == b.1 && (decide (k.2.1 < b.2.1) || (k.2.1 == b.2.1 && decide (k.2.2.1 < b.2.2.1)))) then some k
        else best) none).map fun k => k.2.2.2

/-! ### Issuing work -/

/-- Offers the reads of translated pieces. -/
def State.readPieces (s : State) (cls m c : Nat) (l : List (Nat × Nat × Nat × Bool)) : State :=
  l.foldl (fun s p => s.ctxRead cls (32 + m) c p.1 p.2.2.1 (p.2.2.2 && s.nsOn) (.mover m)) s

/-- Offers the writes of translated pieces of `d`. -/
def State.writePieces (s : State) (cls m c : Nat) (l : List (Nat × Nat × Nat × Bool)) (d : List Byte) (ep : Bool) : State :=
  l.foldl (fun s p => s.ctxWrite cls (32 + m) c p.1 ((d.drop p.2.1).take p.2.2.1) (s.attrs true p.2.2.2 ep)) s

/-- The index in the list of a stream's entries of the entry with ring index `ent`. -/
def Stream.entIndex (x : Stream) (ent : Nat) : Nat := (ent + 2 ^ 32 - x.cons.toNat) % 2 ^ 32

/-- Several host ranges translated, offsets counted through them. -/
def State.translateAll (s : State) (c : Nat) (rs : List (Nat × Nat)) (wr : Bool) (cls : Nat) :
    Option (Option (List (Nat × Nat × Nat × Bool))) × State :=
  let r := rs.foldl (fun (acc : Option (Option (List (Nat × Nat × Nat × Bool))) × Nat × State) p =>
    let t := acc.2.2.translateRange c p.1 p.2 wr cls
    let out := match acc.1, t.1 with
      | some none, _ => some none
      | _, some none => some none
      | some (some l), some (some l') => some (some (l ++ l'.map fun x => (x.1, x.2.1 + acc.2.1, x.2.2)))
      | _, _ => none
    (out, acc.2.1 + p.2, t.2)) (some (some []), 0, s)
  (r.1, r.2.2)

/-- Mover `m` issues the requests of its job, if its translations are at hand; a fault ends it (R281, R291, R408). -/
def State.issueJob (s : State) (m : Nat) (j : Job) : State :=
  match j.work with
  | .resync _ => s
  | .chunk n u0 read =>
    let l := s.line n
    let fr := if read then (0, l.c) else l.wbFrames (s.lineSt n == 3) u0
    let t := s.translateRange l.owner (l.hostAddr u0 + 4 * l.f * fr.1) (4 * l.f * fr.2) (!read) 1
    (match t.1 with
    | none => t.2
    | some none => if read then (t.2.setMover m none).failChunk n u0 else (t.2.setMover m none).dropChunk n u0
    | some (some ps) =>
      let s := t.2
      let s := match s.root l.owner with
        | some _ =>
          let nx := l.hostAddr (u0 + l.c)
          if (s.tlbFind l.owner (nx / 65536)).isSome then s else s.startWalk l.owner nx 1
        | none => s
      if read then
        let k := (l.chunk u0 true).getD { u0 := u0, read := true, st := .issued }
        ((s.setLine n (l.setChunk { k with st := .issued, issuedAt := s.now })).readPieces 1 m l.owner ps).setMover m
          (some { j with issued := true })
      else
        let r := s.calRead (l.stageAddr u0 false + 4 * l.f * fr.1) (4 * l.f * fr.2) 32
        let s := r.2.2.setLine n (l.setChunk { u0 := u0, read := false, st := .done })
        let s := s.busRange 1 (32 + m) (l.stageAddr u0 false + 4 * l.f * fr.1) (4 * l.f * fr.2) false
        (s.writePieces 1 m l.owner ps r.1 r.2.1).setMover m none)
  | .burst r ent off n =>
    (match s.stream r with
    | none => s.setMover m none
    | some x =>
      let i := x.entIndex ent
      match x.entries[i]? with
      | none => s.setMover m none
      | some e =>
        let t := s.translateAll x.ctx (x.ranges e off n) x.capture 2
        match t.1 with
        | none => t.2
        | some none =>
          let s := t.2.setMover m none
          let s := if x.capture then s.setStream r (some { x with rd := x.rd + n, stamps := x.stamps.drop n }) else s
          s.entryFails r i 0x20
        | some (some ps) =>
          if !x.capture then (t.2.readPieces 2 m x.ctx ps).setMover m (some { j with issued := true })
          else
            let b := t.2.captureBytes x n 32
            let s := b.2.2.busFrames m x x.rd n false
            let s := (s.writePieces 2 m x.ctx ps b.1 b.2.1).setMover m none
            let moved := e.moved + n
            let e := { e with
              moved := moved, sidx := if e.moved = 0 then x.stamps.headD 0 else e.sidx
              status := if moved = x.entFrames e then some 0 else e.status }
            let x := { x with rd := x.rd + n, stamps := x.stamps.drop n, entries := setAt x.entries i e }
            let x := if x.closing && x.rd == x.wr then x.flushEnds else x
            let s := s.setStream r (some { x with lat := max x.lat (min 65535 ((s.now - j.at') * 10 / 12288)) })
            if b.2.1 then s.entryFails r i 0x22 else s)
  | .copy c q off n =>
    (match s.copyOf c q with
    | none => s.setMover m none
    | some k =>
      if k.srcCal then
        if k.pos ≠ off then s
        else
          let r := s.calRead (k.src + off) n 32
          if k.isCheck then
            (let s := (r.2.2.busRange 2 (32 + m) (k.src + off) n false).setMover m none
             if r.2.1 then s.copyEnds c q 0x22 else s.copyAdvance c q r.1)
          else if k.dstCal then
            (let s := (r.2.2.busRange 2 (32 + m) (k.src + off) n false).setMover m none
             if r.2.1 then s.copyEnds c q 0x22
             else ((s.calStore (k.dst + off) r.1 32).busRange 2 (32 + m) (k.dst + off) n true).copyAdvance c q r.1)
          else
            let t := s.translateRange c (k.dst + off) n true 2
            match t.1 with
            | none => t.2
            | some none => (t.2.setMover m none).copyEnds c q 0x20
            | some (some ps) =>
              let r := t.2.calRead (k.src + off) n 32
              let s := r.2.2.busRange 2 (32 + m) (k.src + off) n false
              let s := (s.writePieces 2 m c ps r.1 r.2.1).setMover m none
              if r.2.1 then s.copyEnds c q 0x22 else s.copyAdvance c q r.1
      else
        let t := s.translateRange c (k.src + off) n false 2
        let t2 := if k.isCheck || k.dstCal then (some (some []), t.2) else t.2.translateRange c (k.dst + off) n true 2
        match t.1, t2.1 with
        | some none, _ => (t2.2.setMover m none).copyEnds c q 0x20
        | _, some none => (t2.2.setMover m none).copyEnds c q 0x20
        | some (some ps), some _ => (t2.2.readPieces 2 m c ps).setMover m (some { j with issued := true })
        | _, _ => t2.2)

/-- A mover takes a work item: its tokens are spent, its bytes counted as issued, its requests issued. -/
def State.takeWork (s : State) (m : Nat) (w : Work) : State :=
  let j : Job := { work := w, at' := s.now }
  let s := s.setMover m (some j)
  let s := match w with
    | .chunk n u0 read => { s with mov := { s.mov with chunks := s.mov.chunks.filter fun k => k != (n, u0, read) } }
    | .burst r ent _ n =>
      (match s.stream r with
      | none => s
      | some x =>
        let i := x.entIndex ent
        match x.entries[i]? with
        | none => s
        | some e => s.setStream r (some { x with
            tokens := x.tokens - costBytes (n * x.hostFrame) * 65536
            entries := setAt x.entries i { e with issued := e.issued + n } }))
    | .copy c q _ n =>
      let s := if ((s.copyOf c q).map Copy.paced).getD false then
          { s with mov := { s.mov with
            copyTokens := SMap.set (fun _ => copyFull) s.mov.copyTokens c (s.copyTok c - costBytes n * 65536) } }
        else s
      let u := s.freeCheck
      (s.modCopy c q fun k => { k with issued := k.issued + n, unit := if k.check = 0 || k.unit.isSome then k.unit else u }).grant c q
    | .resync _ => s
  s.issueJob m j

/-- FABRIC_LOGIC holds the movers back (R687). -/
def State.moversHeld (s : State) : Bool := s.test.run.any fun t => t % 16 == 5 || t % 16 == 15

/-- MOVER_TAKE. -/
def execMoverTake (s : State) : Host.Outcome State Fault Refusal :=
  if s.moversHeld then .next s
  else match s.freeMover, s.nextWork with
  | some m, some w => .next (s.takeWork m w)
  | _, _ => .next s

/-! ### Translation walks (R280, R281) -/

/-- The jobs that wait for a translation try again. -/
def State.retryJobs (s : State) : State :=
  forN 64 (fun m s => match SMap.get (fun _ => none) s.mov.movers m with
    | some j => if j.issued then s else s.issueJob m j
    | none => s) s

/-- A job needs a page of a context's window. -/
def State.jobNeeds (s : State) (w : Work) (c page : Nat) : Bool :=
  let meets := fun (a n : Nat) => decide (a / 65536 ≤ page) && decide (page ≤ (a + n - 1) / 65536)
  match w with
  | .chunk n u0 _ => let l := s.line n; l.owner == c && meets (l.hostAddr u0) (4 * l.f * l.c)
  | .burst r ent off n =>
    (match s.stream r with
    | some x => x.ctx == c && (match x.entries[x.entIndex ent]? with
      | some e => (x.ranges e off n).any fun p => meets p.1 p.2
      | none => false)
    | none => false)
  | .copy c' q off n => c' == c && (match s.copyOf c q with
    | some k => (!k.srcCal && meets (k.src + off) n) || (!k.dstCal && !k.isCheck && meets (k.dst + off) n)
    | none => false)
  | .resync _ => false

/-- A job that had no requests issued ends because its translation faulted. -/
def State.faultJob (s : State) (m : Nat) (j : Job) : State :=
  let s := s.setMover m none
  match j.work with
  | .chunk n u0 read => if read then s.failChunk n u0 else s.dropChunk n u0
  | .burst r ent _ n =>
    (match s.stream r with
    | none => s
    | some x =>
      let s := if x.capture then s.setStream r (some { x with rd := x.rd + n, stamps := x.stamps.drop n }) else s
      s.entryFails r (x.entIndex ent) 0x20)
  | .copy c q _ _ => s.copyEnds c q 0x20
  | .resync _ => s

/-- TRANSLATION_WALK: the walk for page `page` of context `c` reads the entries `e1`, `e2`, `e3`; `err` is the level
whose read failed. It waits while the function may issue no request. -/
def execTranslationWalk (c : Fin 512) (page : BitVec 36) (e1 e2 e3 : BitVec 64) (err : Fin 4) (s : State) :
    Host.Outcome State Fault Refusal :=
  let (c, page) := (c.val, page.toNat)
  match s.walkOf c page with
  | none => .next s
  | some v =>
    if !(s.canIssue (s.funcOf c)) then .next s
    else
      let r := s.walkEnds c v e1 e2 e3 err.val
      if r.1 then
        .next (forN 64 (fun m s => match SMap.get (fun _ => none) s.mov.movers m with
          | some j => if !j.issued && s.jobNeeds j.work c page then s.faultJob m j else s
          | none => s) r.2)
      else .next r.2.retryJobs

/-! ### Completions from the host (R288, R291, R408, R412) -/

/-- Mover `m`'s job, if its requests have been issued and have all left the port. -/
def State.awaited (s : State) (m : Nat) : Option Job :=
  match SMap.get (fun _ => none) s.mov.movers m with
  | some j =>
    if j.issued && s.readsOut (.mover m) && !(s.pcie.outst.any fun o => o.who == .mover m && decide (1024 ≤ o.tag)) then some j else none
  | none => none

/-- CHUNK_COMPLETION: the data of mover `m`'s prefetch; `fail` 1 for an error, 2 for poisoned data. -/
def execChunkCompletion (m : Fin 64) (data : List (BitVec 8)) (fail : Fin 3) (s : State) : Host.Outcome State Fault Refusal :=
  match s.awaited m.val with
  | some ⟨.chunk n u0 true, _, _⟩ =>
    let l := s.line n
    if fail.val = 0 && data.length ≠ 4 * l.f * l.c then .next s
    else
      let s := (s.setMover m.val none).readsOver (.mover m.val)
      if s.lineSt n == 0 || s.lineSt n == 3 then .next s
      else .next (if fail.val ≠ 0 then s.failChunk n u0 else s.chunkArrives n u0 m.val data)
  | _ => .next s

/-- A burst of the stream that comes earlier in ring order is under way. -/
def State.burstBehind (s : State) (r ent off : Nat) : Bool :=
  s.mov.movers.any fun p => match p.2 with
    | some ⟨.burst r' e' o' _, _, _⟩ => r' == r && (decide (e' < ent) || (e' == ent && decide (o' < off)))
    | _ => false

/-- BURST_COMPLETION: the data of mover `m`'s playback burst; `fail` 1 for an error, 2 for poisoned data. -/
def execBurstCompletion (m : Fin 64) (data : List (BitVec 8)) (fail : Fin 3) (s : State) : Host.Outcome State Fault Refusal :=
  match s.awaited m.val with
  | some ⟨.burst r ent off n, _, t⟩ =>
    (match s.stream r with
    | none => .next ((s.setMover m.val none).readsOver (.mover m.val))
    | some x =>
      if s.burstBehind r ent off || (fail.val = 0 && data.length ≠ n * x.hostFrame) then .next s
      else
        let s := (s.setMover m.val none).readsOver (.mover m.val)
        let i := x.entIndex ent
        .next (if fail.val ≠ 0 then s.entryFails r i (if fail.val = 1 then 0x20 else 0x22) 
          else (s.busFrames m.val x x.wr n true).playArrives r i n data t))
  | _ => .next s

/-- COPY_PIECE_COMPLETION: the data of mover `m`'s piece; `fail` 1 for an error, 2 for poisoned data. -/
def execCopyPieceCompletion (m : Fin 64) (data : List (BitVec 8)) (fail : Fin 3) (s : State) : Host.Outcome State Fault Refusal :=
  match s.awaited m.val with
  | some ⟨.copy c q off n, _, _⟩ =>
    (match s.copyOf c q with
    | none => .next ((s.setMover m.val none).readsOver (.mover m.val))
    | some k =>
      if k.pos ≠ off || (fail.val = 0 && data.length ≠ n) then .next s
      else
        let s := (s.setMover m.val none).readsOver (.mover m.val)
        if fail.val ≠ 0 then .next (s.copyEnds c q (if fail.val = 1 then 0x20 else 0x22))
        else if k.isCheck then .next (s.copyAdvance c q data)
        else if k.dstCal then 
          .next (((s.calStore (k.dst + off) data 32).busRange 2 (32 + m.val) (k.dst + off) n true).copyAdvance c q data)
        else
          let t := s.translateRange c (k.dst + off) n true 2
          match t.1 with
          | some (some ps) => .next ((t.2.writePieces 2 m.val c ps data false).copyAdvance c q data)
          | _ => .next (t.2.copyEnds c q 0x20))
  | _ => .next s

/-! ### Buckets, reset, parking (R400, R402, R414, R415) -/

/-- lane[gen] of R400, by SPEED. -/
def laneUnits (speed : Nat) : Nat := [0, 13653333, 27306666, 53773128, 107546256].getD speed 0

/-- The refill of a bucket with a share. -/
def State.refillInc (s : State) (share : Nat) : Nat :=
  share * s.rfld rTopPcieStat 4 3 * laneUnits (s.rfld rTopPcieStat 0 3) / 1024

/-- BUCKET_REFILL. -/
def execBucketRefill (s : State) : Host.Outcome State Fault Refusal :=
  .next { s with mov := { s.mov with
    lastRefill := s.now
    streams := s.mov.streams.map fun p => (p.1, p.2.map fun x => { x with tokens := min (x.tokens + s.refillInc x.share) x.fullBucket })
    copyTokens := SMap.mapAll (fun _ => copyFull) (fun c t => min (t + s.refillInc (s.rfld (rDmaCap c) 16 11)) copyFull)
      s.mov.copyTokens } }

/-- The DMA engine is reset: movers, walks and the translation cache are empty, every transfer resumes from its
checkpoint. -/
def State.dmaReset (s : State) : State :=
  let works := s.mov.movers.filterMap fun p => p.2.map Job.work
  let s := forN 64 (fun m s => s.readsOver (.mover m)) s
  let s := { s with
    mov := { s.mov with
      movers := [], walks := [], resets := s.mov.resets + 1
      chunks := s.mov.chunks ++ works.filterMap fun
        | .chunk n u0 read => some (n, u0, read)
        | _ => none
      streams := s.mov.streams.map fun p => (p.1, p.2.map fun x => { x with
        entries := x.entries.map fun e => { e with issued := e.moved } })
      copies := s.mov.copies.map fun k => { k with issued := k.pos } }
    cal := { s.cal with tlb := [] } }
  works.foldl (fun s w => match w with
    | .resync n => s.setResync n { s.resyncOf n with copying := false }
    | _ => s) s

/-- DMA_RESET: DMA.CTRL.RESET; the bit reads 0 again at the end. -/
def execDmaReset (s : State) : Host.Outcome State Fault Refusal :=
  .next (s.dmaReset.histBegin 5 (fld (s.reg rTopModeReason) 0 8) (some 0))

/-- A copy's Caldera side lies in a quarter. -/
def Copy.inQuarter (k : Copy) (q : Nat) : Bool :=
  (k.srcCal && decide (calQuarter k.src ≤ q) && decide (q ≤ calQuarter (k.src + k.len - 1))) ||
  (k.dstCal && decide (calQuarter k.dst ≤ q) && decide (q ≤ calQuarter (k.dst + k.len - 1)))

/-- A stream's FIFO lies in a quarter. -/
def Stream.inQuarter (x : Stream) (q : Nat) : Bool :=
  decide (calQuarter (16 * x.fq) ≤ q) && decide (q ≤ calQuarter (16 * x.fq + 4 * x.words * x.fifoFrames - 1))

/-- Parks or resumes every transfer in a quarter. -/
def State.parkQuarter (s : State) (quarter : Nat) : State :=
  let s := s.mov.streams.foldl (fun s p => match p.2 with
    | some x => if x.inQuarter quarter then s.parkStream p.1 else s
    | none => s) s
  (s.mov.copies.filter fun k => k.inQuarter quarter).foldl (fun s k =>
    let mine := fun (j : Option Job) => match j with
      | some ⟨.copy c' q' _ _, _, _⟩ => c' == k.ctx && q' == k.seq
      | _ => false
    let s := (s.mov.movers.filter fun p => mine p.2).foldl (fun s p => (s.setMover p.1 none).readsOver (.mover p.1)) s
    s.modCopy k.ctx k.seq fun k => { k with parked := true, issued := k.pos }) s

def State.unparkQuarter (s : State) (quarter : Nat) : State :=
  let s := s.mov.streams.foldl (fun s p => match p.2 with
    | some x => if x.inQuarter quarter then s.unparkStream p.1 else s
    | none => s) s
  { s with mov := { s.mov with copies := s.mov.copies.map fun k => if k.inQuarter quarter then { k with parked := false } else k } }

/-- The transfers of a quarter lost by a FORCE power-down end (R416). -/
def State.loseQuarter (s : State) (quarter : Nat) : State :=
  let s := s.mov.streams.foldl (fun s p => match p.2 with
    | some x => if x.inQuarter quarter then s.loseStream p.1 else s
    | none => s) s
  (s.mov.copies.filter fun k => k.inQuarter quarter).foldl (fun s k => s.copyEnds k.ctx k.seq 0x22) s

end Sys2Proof.Machine
end

