-- ==== Sys2Proof/Machine/Repair.lean ====
section
/-! DEFINITION. Tiles, Sinter, repair and retirement (R268 to R274, R297 to R312). -/

namespace Sys2Proof.Machine

/-! ### Tile commands (R270) -/

/-- A tile range meets Caldera bytes [a, a+n). -/
def tilesMeet (lo hi a n : Nat) : Bool := n != 0 && decide (a / 4096 ≤ hi) && decide (lo ≤ (a + n - 1) / 4096)

/-- Something of the context reaches a tile of the range (R270). -/
def State.tilesReached (s : State) (c lo hi : Nat) : Bool :=
  ((List.range 32).any fun e =>
    let x := s.engine e
    ((s.enabledEntries e).any fun p => fld (x.segWord p.1 p.2 0) 16 9 == c && [4, 5, 6, 7].any fun k =>
      let w := x.segWord p.1 p.2 k
      meets (fld w 0 14) (fld w 14 14) lo hi) ||
    ((List.range 64).any fun n =>
      let d := s.dld e n
      d.en && d.place == 1 && s.resOwner 2 e n == some c && tilesMeet lo hi (4 * d.base) (4 * d.len * d.frame))) ||
  ((List.range 1024).any fun n =>
    s.rbit (rFabCsetW0 n) 31 && s.rbit (rFabCsetW0 n) 22 && s.csetOwner n == c &&
      (tilesMeet lo hi (4 * s.pageBase n 0) (16 * (s.csetSize n + 1)) ||
       tilesMeet lo hi (4 * s.pageBase n 1) (16 * (s.csetSize n + 1)))) ||
  (s.cal.lines.any fun p => p.2.mapped && p.2.owner == c && tilesMeet lo hi (16 * p.2.stageQ) ((p.2.sr + p.2.sw) * p.2.f * 4)) ||
  (s.mov.streams.any fun p => match p.2 with
    | some x => x.ctx == c && tilesMeet lo hi (16 * x.fq) (4 * x.words * x.fifoFrames)
    | none => false) ||
  s.mov.copies.any fun k => k.ctx == c && ((k.srcCal && tilesMeet lo hi k.src k.len) || (k.dstCal && tilesMeet lo hi k.dst k.len))

/-- The command in CALD.TILE_CMD, executed by Keeper as a K2 task. -/
def State.tileCommand (s : State) (op : Nat) : State :=
  let cmd := s.reg rCaldTileCmd
  if !(bit cmd 29) || fld cmd 9 2 ≠ op then s
  else
    let c := fld cmd 0 9
    let lo := s.rfld rCaldTileRange 0 14
    let hi := s.rfld rCaldTileRange 16 14
    let ts := (List.range (hi + 1 - lo)).map (lo + ·)
    let ok := decide (lo ≤ hi) &&
      (if op = 1 then ts.all fun t => (s.tile t).1 == 0
       else (ts.all fun t => ((s.tile t).1 == 1 || (s.tile t).1 == 4) && (s.tile t).2 == c) && !(s.tilesReached c lo hi))
    let s := s.setBit rCaldTileCmd 29 false
    if !ok then s.setBit rCaldTileCmd 30 true
    else ts.foldl (fun s t =>
      if op = 1 then s.setTile t (1, c) else if (s.tile t).1 = 4 then s.retireTile t else s.setTile t (0, 0)) s

/-- TILE_ASSIGN. -/
def execTileAssign (s : State) : Host.Outcome State Fault Refusal := .next (s.tileCommand 1)

/-- TILE_RELEASE. -/
def execTileRelease (s : State) : Host.Outcome State Fault Refusal := .next (s.tileCommand 2)

/-! ### Sinter in Caldera (R297 to R299) -/

/-- A region that Sinter visits: not in a RETIRED tile, not in a quarter that is powered down. -/
def State.visits (s : State) (r : Nat) : Bool := (s.tile (r / 16)).1 != 5 && !(s.quarterOff (256 * r))

/-- The first region to visit from `r` on, in ascending order, within `n` regions. -/
def State.nextRegion (s : State) : Nat → Nat → Option Nat
  | 0, _ => none
  | n + 1, r => if s.visits r then some r else State.nextRegion s n (r + 1)

/-- The region to visit next, and whether it begins a new sweep. -/
def State.sinterNext (s : State) : Option (Nat × Bool) :=
  let k := s.cal.sinter
  let from' := if k.started then k.region + 1 else 0
  match s.nextRegion (262144 - from') from' with
  | some r => some (r, false)
  | none => (s.nextRegion 262144 0).map (·, true)

/-- Sinter's save of a region: its bytes, its poison by ECC word. -/
def State.sinterSave (s : State) (r : Nat) : List Byte × List Bool × State :=
  let step := fun (acc : List Bool × State) (i : Nat) =>
    let e := acc.2.eccRead (32 * r + i) 34
    (acc.1 ++ [e.1], e.2)
  let p := (List.range 32).foldl step ([], s)
  ((List.range 256).map fun i => p.2.cal.cell (256 * r + i), p.1, p.2)

/-- SINTER_REGION_START: `bad` marks the ECC words of the region whose cells the march finds faulty for the first time. -/
def execSinterRegionStart (bad : BitVec 32) (s : State) : Host.Outcome State Fault Refusal :=
  let pace := max 1 (s.rfld rCaldSinterCtrl 8 8) * 1024
  if s.mode.selfTest || !(s.rbit rCaldSinterCtrl 0) || s.cal.sinter.active || (s.cal.sinter.started && decide (s.now < s.cal.sinter.lastStart + pace)) then
    .next s
  else match s.sinterNext with
    | none => .next s
    | some (r, wrap) =>
      let s := if wrap then s.count rCaldSinterStat 20 12 else s
      let s := s.setBit rCaldSinterStat 19 (s.rfld rCaldSinterStat 20 1 == 1)
      let s := s.busAccess 5 100 (256 * r) false true
      let v := s.sinterSave r
      let s := v.2.2
      let hard := (List.range 32).foldl (fun m i =>
        if bad.getLsbD i then SMap.set (fun _ => 0) m (32 * r + i) (max 1 (SMap.get (fun _ => 0) m (32 * r + i))) else m) s.cal.hard
      let s := { s with cal := { s.cal with
        hard := hard, sinter := { active := true, region := r, started := true, lastStart := s.now, buf := v.1, poison := v.2.1 } } }
      let s := (s.setFld rCaldSinterStat 0 18 r).setBit rCaldSinterStat 18 true
      let faulty := bad != 0 || (List.range 32).any fun i => s.cal.hardAt (32 * r + i) != 0
      .next (if faulty then (s.bump rCaldSinterFail 0 16).rowFailing (calBankRow (256 * r)) else s)

/-- SINTER_RESTORE. -/
def State.sinterRestore (s : State) : State :=
  let k := s.cal.sinter
  if !k.active then s
  else
    let c := (List.range 256).foldl (fun (c : CalderaState) i => c.setCell (256 * k.region + i) (k.buf.getD i 0)) s.cal
    let soft := (List.range 32).foldl (fun m i =>
      SMap.set (fun _ => 0) m (32 * k.region + i) (if k.poison.getD i false then 2 else 0)) c.soft
    let s := { s with cal := { c with soft := soft, sinter := { k with active := false, buf := [], poison := [] } } }
    let s := if k.poison.any id then s.setBit rCaldEccStat 17 true else s
    (s.busAccess 5 100 (256 * k.region) true true).setBit rCaldSinterStat 18 false

def execSinterRestore (s : State) : Host.Outcome State Fault Refusal := .next s.sinterRestore

/-! ### Sinter in the local memories (R300) -/

/-- An engine's local region is FAILING. -/
def State.lmRegionFails (s : State) (e r : Nat) : State :=
  if SMap.get (fun _ => false) s.cal.lmFailing (1024 * e + r) then s
  else
    let s := { s with cal := { s.cal with lmFailing := SMap.set (fun _ => false) s.cal.lmFailing (1024 * e + r) true } }
    (s.bump (rCaldLmr e) 8 8).setFld (rCaldLmr e) 16 10 r

/-- LM_SINTER_REGION_START: `bad` marks the words whose cells the march finds faulty for the first time. The region is
restored at a later tick. -/
def execLmSinterRegionStart (e : Fin 32) (bad : BitVec 64) (s : State) : Host.Outcome State Fault Refusal :=
  let e := e.val
  let k := SMap.get (fun _ => {}) s.cal.lmSinter e
  let pace := max 1 (s.rfld rCaldSinterCtrl 16 8)
  if s.mode.selfTest || !(s.rbit rCaldSinterCtrl 1) || k.active || s.islandOff (e / 4) || decide (s.tick.sidx < k.lastTick + pace) then .next s
  else
    let r := k.next
    let words := (List.range 64).map fun i => s.nearWord e (64 * r + i)
    let s := s.lmEccNote e (words.filter fun w => w.2 == 1).length
      ((List.range 64).filterMap fun i => if (words.getD i (0, 0)).2 = 2 then some ((64 * r + i) / 4) else none)
    let hard := (List.range 64).foldl (fun m i =>
      if bad.getLsbD i then SMap.set (fun _ => 0) m (65536 * e + 64 * r + i) (max 1 (SMap.get (fun _ => 0) m (65536 * e + 64 * r + i)))
      else m) s.cal.lmHard
    let k' : LmSinter := { next := r, active := true, lastTick := s.tick.sidx, buf := words.map Prod.fst }
    let s := { s with cal := { s.cal with lmHard := hard, lmSinter := SMap.set (fun _ => {}) s.cal.lmSinter e k' } }
    let sp := SMap.get (fun _ => 0) s.cal.lmSpare (1024 * e + r)
    let faulty := bad != 0 || (List.range 64).any fun i =>
      SMap.get (fun _ => 0) hard (if sp = 0 then 65536 * e + 64 * r + i else 2 ^ 21 + 512 * e + 64 * (sp - 1) + i) != 0
    .next (if faulty then s.lmRegionFails e r else s)

/-- The local region in an engine's holding buffer is written back; poison stays with its word. -/
def State.lmRestore (s : State) (e : Nat) : State :=
  let k := SMap.get (fun _ => {}) s.cal.lmSinter e
  if !k.active then s
  else
    let s := { s with cal := { s.cal with
      lmSinter := SMap.set (fun _ => {}) s.cal.lmSinter e { k with active := false, next := (k.next + 1) % 1024, buf := [] } } }
    let x := s.engine e
    let x := (List.range 64).foldl (fun (x : Engine) i =>
      let a := 64 * k.next + i
      { x with
        lm := SMap.set (lmDefault e x) x.lm a (k.buf.getD i 0)
        lmErr := SMap.set (fun _ => 0) x.lmErr a (if SMap.get (fun _ => 0) x.lmErr a = 2 then 2 else 0) }) x
    s.setEngine e x

/-! ### Repair (R304 to R308) -/

/-- The first byte address of a row. -/
def rowAddr (br : Nat) : Nat :=
  let b := br / 1024
  let r := br % 1024
  2 ^ 24 * (b / 16) + 65536 * (r / 4) + 4096 * (b % 16) + 1024 * (r % 4)

/-- A FAILING row is moved to a free spare row of its bank. -/
def State.rowRepair (s : State) (br : Nat) : State :=
  let b := br / 1024
  if !(SMap.get (fun _ => false) s.cal.failing br) then s
  else
    let used := s.rfld (rCaldBankStat b) 0 6
    if 32 ≤ used || SMap.get (fun _ => 0) s.cal.spare br ≠ 0 then s.tileOutcome br
    else
      let w0 := rowAddr br / 8
      let s := (List.range 128).foldl (fun s i =>
        let r := s.eccRead (w0 + i) 34
        r.2.setEcc (w0 + i) r.1) s
      let s := { s with cal := { s.cal with
        spare := SMap.set (fun _ => 0) s.cal.spare br (used + 1), failing := SMap.set (fun _ => false) s.cal.failing br false } }
      (s.setFld (rCaldBankStat b) 0 6 (used + 1)).setBit (rCaldBankStat b) 6 (used + 1 == 32)

/-- ROW_REPAIR: row `br` of bank br / 1,024. -/
def execRowRepair (br : Fin 65536) (s : State) : Host.Outcome State Fault Refusal := .next (s.rowRepair br.val)

/-- PROTECTED_TILE_RELOCATION (R306): tile `t` has a FAILING row and its bank no free spare. -/
def execProtectedTileRelocation (t : Fin 16384) (s : State) : Host.Outcome State Fault Refusal :=
  let t := t.val
  let b := calBank (4096 * t)
  let row := calBankRow (4096 * t)
  let fails := (List.range 4).any fun i => SMap.get (fun _ => false) s.cal.failing (row + i) &&
    (s.rbit (rCaldBankStat b) 6 || SMap.get (fun _ => 0) s.cal.spare (row + i) != 0)
  let target := (List.range 16384).find? fun u => (s.tile u).1 == 3 && calBank (4096 * u) != b
  let slot := (List.range 8).find? fun n => !(s.rbit (rCaldProtRemap n) 31)
  match target, slot with
  | some u, some n =>
    if (s.tile t).1 != 2 || !fails then .next s
    else
      let r := (List.range 512).foldl (fun s i =>
        let e := s.eccRead (512 * t + i) 33
        let d := (List.range 8).map fun j => if e.1 then 0 else e.2.calByte (4096 * t + 8 * i + j)
        e.2.calWrite (4096 * u + 8 * i) d (fun _ => true) e.1 33) s
      let s := r.setReg (rCaldProtRemap n) (BitVec.ofNat 32 (t + 2 ^ 16 * u + 2 ^ 31))
      .next (((s.retireTile t).setTile u (2, 0)).histBegin 8 (fld (s.reg rTopModeReason) 0 8) (some 0))
  | _, _ => .next s

/-- A FAILING local region is moved to a spare region. Without a free one the owners of segments whose local window
reaches it are notified, once. -/
def State.lmRegionRepair (s : State) (e r : Nat) : State :=
  let k := 1024 * e + r
  if !(SMap.get (fun _ => false) s.cal.lmFailing k) then s
  else
    let used := s.rfld (rCaldLmr e) 0 4
    if used < 8 && SMap.get (fun _ => 0) s.cal.lmSpare k = 0 then
      let x := s.engine e
      let x := { x with lmErr := (List.range 64).foldl (fun m i =>
        let a := 64 * r + i
        SMap.set (fun _ => 0) m a (if s.lmEcc e a = 2 then 2 else 0)) x.lmErr }
      let s := (s.setEngine e x).setFld (rCaldLmr e) 0 4 (used + 1)
      let s := s.setBit (rCaldLmr e) 4 (used + 1 == 8)
      { s with cal := { s.cal with
        lmSpare := SMap.set (fun _ => 0) s.cal.lmSpare k (used + 1), lmFailing := SMap.set (fun _ => false) s.cal.lmFailing k false } }
    else if SMap.get (fun _ => false) s.cal.lmTold k then s
    else
      let x := s.engine e
      let owners := (((List.range 33).filter fun i =>
        let w := x.segWord true i 2
        x.segEn true i && meets (fld w 0 14) (fld w 16 14) (16 * r) (16 * r + 15)).map x.owner).eraseDups
      let s := { s with cal := { s.cal with lmTold := SMap.set (fun _ => false) s.cal.lmTold k true } }
      owners.foldl (fun s c => s.logEvent c 0x21 e 0xFF (16 * r)) s

/-- LM_REGION_REPAIR (R308): region `r` of engine `e`. -/
def execLmRegionRepair (e : Fin 32) (r : Fin 1024) (s : State) : Host.Outcome State Fault Refusal := .next (s.lmRegionRepair e.val r.val)

/-- CALD.TILE_INFO as read (R273). -/
def State.tileInfo (s : State) : Word :=
  let t := s.rfld rCaldTileSel 0 14
  let v := s.tile t
  let row := calBankRow (4096 * t)
  let rep := (List.range 4).foldl (fun n i => if SMap.get (fun _ => 0) s.cal.spare (row + i) ≠ 0 then n + 2 ^ i else n) 0
  BitVec.ofNat 32 ((if v.1 = 1 || v.1 = 4 then v.2 else 0) + 2 ^ 9 * v.1 + 2 ^ 12 * rep)

/-- CALD.ROW_INFO as read (R312). -/
def State.rowInfo (s : State) : Word :=
  let br := s.rfld rCaldRowSel 0 16
  let sp := SMap.get (fun _ => 0) s.cal.spare br
  let n : Nat := ((s.cal.watch.find? fun x => x.row == br).map Watch.count).getD 0
  let st := if SMap.get (fun _ => false) s.cal.failing br then 2 else if sp ≠ 0 then 3 else if n ≠ 0 then 1 else 0
  BitVec.ofNat 32 (st + 4 * (if sp = 0 then 0 else sp - 1) + 256 * min n 255)

end Sys2Proof.Machine
end

