-- ==== Sys2Proof/Machine/Crypto.lean ====
section
/-! DEFINITION. The cryptographic functions that the spec names: SHA-384, HMAC-SHA-384 and ECDSA on the curve P-384
(R602 to R604, R613, R626), as the federal standards that define them give them (log entry 20). -/

namespace Sys2Proof.Machine

/-! ### SHA-384 -/

def shaK0 : List (BitVec 64) := [
  0x428a2f98d728ae22, 0x7137449123ef65cd, 0xb5c0fbcfec4d3b2f, 0xe9b5dba58189dbbc,
  0x3956c25bf348b538, 0x59f111f1b605d019, 0x923f82a4af194f9b, 0xab1c5ed5da6d8118,
  0xd807aa98a3030242, 0x12835b0145706fbe, 0x243185be4ee4b28c, 0x550c7dc3d5ffb4e2,
  0x72be5d74f27b896f, 0x80deb1fe3b1696b1, 0x9bdc06a725c71235, 0xc19bf174cf692694]

def shaK1 : List (BitVec 64) := [
  0xe49b69c19ef14ad2, 0xefbe4786384f25e3, 0x0fc19dc68b8cd5b5, 0x240ca1cc77ac9c65,
  0x2de92c6f592b0275, 0x4a7484aa6ea6e483, 0x5cb0a9dcbd41fbd4, 0x76f988da831153b5,
  0x983e5152ee66dfab, 0xa831c66d2db43210, 0xb00327c898fb213f, 0xbf597fc7beef0ee4,
  0xc6e00bf33da88fc2, 0xd5a79147930aa725, 0x06ca6351e003826f, 0x142929670a0e6e70]

def shaK2 : List (BitVec 64) := [
  0x27b70a8546d22ffc, 0x2e1b21385c26c926, 0x4d2c6dfc5ac42aed, 0x53380d139d95b3df,
  0x650a73548baf63de, 0x766a0abb3c77b2a8, 0x81c2c92e47edaee6, 0x92722c851482353b,
  0xa2bfe8a14cf10364, 0xa81a664bbc423001, 0xc24b8b70d0f89791, 0xc76c51a30654be30,
  0xd192e819d6ef5218, 0xd69906245565a910, 0xf40e35855771202a, 0x106aa07032bbd1b8]

def shaK3 : List (BitVec 64) := [
  0x19a4c116b8d2d0c8, 0x1e376c085141ab53, 0x2748774cdf8eeb99, 0x34b0bcb5e19b48a8,
  0x391c0cb3c5c95a63, 0x4ed8aa4ae3418acb, 0x5b9cca4f7763e373, 0x682e6ff3d6b2b8a3,
  0x748f82ee5defb2fc, 0x78a5636f43172f60, 0x84c87814a1f0ab72, 0x8cc702081a6439ec,
  0x90befffa23631e28, 0xa4506cebde82bde9, 0xbef9a3f7b2c67915, 0xc67178f2e372532b]

def shaK4 : List (BitVec 64) := [
  0xca273eceea26619c, 0xd186b8c721c0c207, 0xeada7dd6cde0eb1e, 0xf57d4f7fee6ed178,
  0x06f067aa72176fba, 0x0a637dc5a2c898a6, 0x113f9804bef90dae, 0x1b710b35131c471b,
  0x28db77f523047d84, 0x32caab7b40c72493, 0x3c9ebe0a15c9bebc, 0x431d67c49c100d4c,
  0x4cc5d4becb3e42b6, 0x597f299cfc657e2a, 0x5fcb6fab3ad6faec, 0x6c44198c4a475817]

/-- The 80 round constants. -/
def shaK : List (BitVec 64) := shaK0 ++ shaK1 ++ shaK2 ++ shaK3 ++ shaK4

/-- The eight working variables. -/
structure ShaSt where
  a : BitVec 64
  b : BitVec 64
  c : BitVec 64
  d : BitVec 64
  e : BitVec 64
  f : BitVec 64
  g : BitVec 64
  h : BitVec 64
  deriving DecidableEq, Repr

/-- The initial value of SHA-384. -/
def sha384Init : ShaSt :=
  ⟨0xcbbb9d5dc1059ed8, 0x629a292a367cd507, 0x9159015a3070dd17, 0x152fecd8f70e5939,
   0x67332667ffc00b31, 0x8eb44a8768581511, 0xdb0c2e0d64f98fa7, 0x47b5481dbefa4fa4⟩

def bigEndian : List Byte → Nat := List.foldl (fun v b => 256 * v + b.toNat) 0

/-- `n` bytes of a number, most significant first. -/
def beBytes (n v : Nat) : List Byte := (leBytes n v).reverse

/-- The message schedule as a sliding window of 16 words. -/
def shaNext (w : List (BitVec 64)) : BitVec 64 :=
  let x := w.getD 14 0
  let y := w.getD 1 0
  let s1 := x.rotateRight 19 ^^^ x.rotateRight 61 ^^^ (x >>> 6)
  let s0 := y.rotateRight 1 ^^^ y.rotateRight 8 ^^^ (y >>> 7)
  s1 + w.getD 9 0 + s0 + w.getD 0 0

def shaRound (t : ShaSt) (k w : BitVec 64) : ShaSt :=
  let s1 := t.e.rotateRight 14 ^^^ t.e.rotateRight 18 ^^^ t.e.rotateRight 41
  let ch := (t.e &&& t.f) ^^^ (~~~t.e &&& t.g)
  let t1 := t.h + s1 + ch + k + w
  let s0 := t.a.rotateRight 28 ^^^ t.a.rotateRight 34 ^^^ t.a.rotateRight 39
  let mj := (t.a &&& t.b) ^^^ (t.a &&& t.c) ^^^ (t.b &&& t.c)
  ⟨t1 + (s0 + mj), t.a, t.b, t.c, t.d + t1, t.e, t.f, t.g⟩

/-- The rounds over the remaining constants. -/
def shaRounds : List (BitVec 64) → List (BitVec 64) → ShaSt → ShaSt
  | [], _, t => t
  | k :: ks, w, t => shaRounds ks (w.drop 1 ++ [shaNext w]) (shaRound t k (w.headD 0))

def ShaSt.add (x y : ShaSt) : ShaSt :=
  ⟨x.a + y.a, x.b + y.b, x.c + y.c, x.d + y.d, x.e + y.e, x.f + y.f, x.g + y.g, x.h + y.h⟩

/-- One block of 128 bytes. -/
def shaBlock (t : ShaSt) (b : List Byte) : ShaSt :=
  let w := (List.range 16).map fun i => BitVec.ofNat 64 (bigEndian ((b.drop (8 * i)).take 8))
  t.add (shaRounds shaK w t)

/-- `n` blocks. -/
def shaBlocks : Nat → List Byte → ShaSt → ShaSt
  | 0, _, t => t
  | n + 1, b, t => shaBlocks n (b.drop 128) (shaBlock t (b.take 128))

/-- SHA-384 of a byte string: 48 bytes. -/
def sha384 (m : List Byte) : List Byte :=
  let n := m.length
  let p := m ++ 0x80 :: List.replicate ((239 - n % 128) % 128) 0 ++ beBytes 16 (8 * n)
  let t := shaBlocks (p.length / 128) p sha384Init
  [t.a, t.b, t.c, t.d, t.e, t.f].flatMap fun x => beBytes 8 x.toNat

/-- HMAC-SHA-384 under a key of at most 128 bytes. -/
def hmac384 (key m : List Byte) : List Byte :=
  let k := key ++ List.replicate (128 - key.length) 0
  sha384 ((k.map (· ^^^ 0x5C)) ++ sha384 ((k.map (· ^^^ 0x36)) ++ m))

/-! ### ECDSA on P-384 -/

def p384 : Nat := 2 ^ 384 - 2 ^ 128 - 2 ^ 96 + 2 ^ 32 - 1

def n384 : Nat := 0xffffffffffffffffffffffffffffffffffffffffffffffffc7634d81f4372ddf581a0db248b0a77aecec196accc52973

def b384 : Nat := 0xb3312fa7e23ee7e4988e056be3f82d19181d9c6efe8141120314088f5013875ac656398d8a2ed19d2a85c8edd3ec2aef

/-- A point of the curve; none is the point at infinity. -/
abbrev EcPoint := Option (Nat × Nat)

def g384 : EcPoint := some
  (0xaa87ca22be8b05378eb1c71ef320ad746e1d3b628ba79b9859f741e082542a385502f25dbf55296c3a545e3872760ab7,
   0x3617de4a96262c6f5d9e98bf9292dc29f8f41dbd289a147ce9da3113b5f0b8c00a60b1ce1d7e819d7a431d7c90ea0e5f)

/-- b^e modulo m, over `k` bits of e. -/
def powMod (m : Nat) : Nat → Nat → Nat → Nat
  | 0, _, _ => 1
  | k + 1, b, e => (if e % 2 = 1 then b else 1) * powMod m k (b * b % m) (e / 2) % m

/-- The inverse modulo a prime of 384 bits. -/
def invMod (m a : Nat) : Nat := powMod m 384 (a % m) (m - 2)

/-- Addition of points. -/
def ecAdd (x y : EcPoint) : EcPoint :=
  match x, y with
  | none, y => y
  | x, none => x
  | some (x1, y1), some (x2, y2) =>
    if x1 = x2 && (y1 + y2) % p384 = 0 then none
    else
      let l := if x1 = x2 then (3 * x1 * x1 + p384 - 3) * invMod p384 (2 * y1) % p384
        else (y2 + p384 - y1) * invMod p384 (x2 + p384 - x1) % p384
      let x3 := (l * l + 2 * p384 - x1 - x2) % p384
      some (x3, (l * (x1 + p384 - x3) + p384 - y1) % p384)

/-- `e` times a point, over `k` bits of e. -/
def ecMul : Nat → Nat → EcPoint → EcPoint
  | 0, _, _ => none
  | k + 1, e, q => if e % 2 = 1 then ecAdd q (ecMul k (e / 2) (ecAdd q q)) else ecMul k (e / 2) (ecAdd q q)

/-- A public key of 96 bytes (X then Y, big-endian) that is a point of the curve. -/
def pubPoint (k : List Byte) : EcPoint :=
  let x := bigEndian (k.take 48)
  let y := bigEndian ((k.drop 48).take 48)
  if x < p384 && y < p384 && y * y % p384 == (x * x * x + (p384 - 3) * x + b384) % p384 then some (x, y) else none

/-- A signature (r then s, 48 bytes each, big-endian) over a digest is valid. -/
def ecdsaOk (key digest sig : List Byte) : Bool :=
  let r := bigEndian (sig.take 48)
  let s := bigEndian ((sig.drop 48).take 48)
  match pubPoint key with
  | none => false
  | some q =>
    if r = 0 || s = 0 || decide (n384 ≤ r) || decide (n384 ≤ s) then false
    else
      let w := invMod n384 s
      let e := bigEndian digest
      match ecAdd (ecMul 384 (e * w % n384) g384) (ecMul 384 (r * w % n384) (some q)) with
      | none => false
      | some (x, _) => x % n384 == r

end Sys2Proof.Machine
end

