-- ==== Sys2Proof/Machine/Secure.lean ====
section
/-! DEFINITION. Measurement, the audit log and the fuses (chapter 16). -/

namespace Sys2Proof.Machine

/-! ### Measurement (R604 to R608) -/

/-- The 48 bytes of a group of 12 word registers, byte 0 in bits [7:0] of the first. -/
def State.bytes48 (s : State) (r : Nat → Nat) : List Byte := (List.range 12).flatMap fun j => leBytes 4 (s.reg (r j)).toNat

def State.setBytes48 (s : State) (r : Nat → Nat) (b : List Byte) : State :=
  forN 12 (fun j s => s.setReg (r j) (BitVec.ofNat 32 (ofLeBytes ((b.drop (4 * j)).take 4)))) s

/-- An extension of DAYMARKi by a measurement of 48 bytes. -/
def State.extendDay (s : State) (i : Nat) (m : List Byte) : State :=
  s.setBytes48 (rSecDaymark i) (sha384 (s.bytes48 (rSecDaymark i) ++ m))

/-- The measurement of a PROG_LOAD that completes OK: DAYMARK2 is extended and the measurement logged. `body` are its engine
byte, bank byte, pc and count, instruction words and descriptor images. -/
def State.measureLoad (s : State) (c : Nat) (body : List Byte) : State :=
  let m := sha384 body
  let n := match s.boot.mlog with
    | [] => 0
    | e :: _ => e.num + 1
  let s := s.extendDay 2 m
  { s with boot := { s.boot with mlog := (⟨m, n, c⟩ :: s.boot.mlog).take 64 } }

/-- SEC.MLOG_Wi as read (R608): the entries stand in a ring of 64, numbered from 0. -/
def State.mlogWord (s : State) (i : Nat) : Word :=
  match s.boot.mlog.find? fun e => e.num % 64 == s.rfld rSecMlogSel 0 6 with
  | none => 0
  | some e =>
    if i < 12 then BitVec.ofNat 32 (ofLeBytes ((e.digest.drop (4 * i)).take 4))
    else BitVec.ofNat 32 (e.num % 65536 + 65536 * e.ctx)

/-- SEC.DM_CMD written (R607): a GO within 2 µs of the previous one is ignored. -/
def State.dmCmdW (s : State) (v : Word) : State :=
  let s := s.setBit rSecDmCmd 1 (bit v 1)
  let late := match s.boot.dmAt with
    | some t => decide (t + 2458 ≤ s.now)
    | none => true
  if bit v 0 && late then
    let s := s.extendDay (if bit v 1 then 7 else 6) (s.bytes48 rSecDmExt)
    { s with boot := { s.boot with dmAt := some s.now } }
  else s

/-- DM_EXTEND: SEC.DM_CMD written with GO; `sel` chooses DAYMARK7. -/
def execDmExtend (sel : Bool) (s : State) : Host.Outcome State Fault Refusal :=
  .next (s.dmCmdW (if sel then 3 else 1))

/-! ### Audit log (R631, R632) -/

/-- Milliseconds since the last full device reset. -/
def State.uptimeMs (s : State) : Nat := (s.now - s.boot.fullAt) / 1228800

/-- One entry: reason, source, context, function, detail. -/
def State.audit (s : State) (reason source ctx func detail : Nat) : State :=
  let e : Audit := ⟨BitVec.ofNat 32 s.uptimeMs,
    BitVec.ofNat 32 (reason + 2 ^ 8 * source + 2 ^ 12 * ctx + 2 ^ 21 * func), BitVec.ofNat 32 detail⟩
  let s := { s with boot := { s.boot with audit := (e :: s.boot.audit).take 64 } }
  s.setReg rSecAuditCnt (s.reg rSecAuditCnt + 1)

/-- SEC.AUDIT_Wi as read: the entry selected, counted back from the newest. -/
def State.auditWord (s : State) (i : Nat) : Word :=
  match s.boot.audit[s.rfld rSecAuditSel 0 6]? with
  | none => 0
  | some e => if i = 0 then e.w0 else if i = 1 then e.w1 else e.w2

/-- A privileged descriptor of a virtual function is refused (R382, R629): the entry in the audit log. -/
def State.auditDesc (s : State) (c q reason : Nat) : State := s.audit reason 7 c (s.rfld (rCtxtCtrl c) 0 6) q

/-! ### Fuses (R619 to R623) -/

/-- A programmed fuse word. -/
def State.fuse (s : State) (n : Nat) : Word := SMap.get (fun _ => 0) s.boot.fuses n

/-- A fuse word as decided at step 3 of R597. -/
def State.fuseVal (s : State) (n : Nat) : Word := SMap.get (fun _ => 0) s.boot.vals n

def State.marginal (s : State) (n : Nat) : Bool := SMap.get (fun _ => false) s.boot.marg n

/-- A read of a copy with its parity bit passes (even parity). -/
def parityOk (v : BitVec 33) : Bool := ((List.range 33).filter v.getLsbD).length % 2 == 0

/-- A word is sound: both copies good and equal (R619). -/
def fuseSound (r : FuseRead) : Bool :=
  r.al == r.ah && r.bl == r.bh && parityOk r.al && parityOk r.bl && r.al == r.bl

/-- What a marginal word 48 counts as (R622). -/
def lockWord (r : FuseRead) : Word :=
  let l := [r.al, r.ah, r.bl, r.bh]
  let any := fun b => l.any fun v => bit v b
  let all := fun b => l.all fun v => bit v b
  let or' := (List.range 14).foldl (fun (w : Word) b =>
    if [0, 1, 2, 3, 8, 9, 13].contains b && any b || [4, 5, 6, 7].contains b && all b then putBit w b true else w) 0
  let same := l.all fun v => fld v 10 3 == fld r.al 10 3
  let lo := l.foldl (fun n v => min n (fld v 14 2)) 3
  putFld (putFld or' 10 3 (if same then fld r.al 10 3 else 4)) 14 2 lo

/-- The value decided for a marginal word (R621). Where the rule gives none, it is a free value. -/
def State.marginalWord (s : State) (r : FuseRead) : Word × State :=
  let w := r.word.val
  let (f, s') := s.draw
  let low := fun (v : BitVec 33) => v.setWidth 32
  if w = 48 then (lockWord r, s)
  else if w = 49 || w = 50 then (low (r.al ||| r.ah ||| r.bl ||| r.bh), s)
  else if 96 ≤ w then
    if parityOk r.al && parityOk r.ah then (if r.al = r.ah then (low r.al, s) else (f.setWidth 32, s'))
    else if parityOk r.bl && parityOk r.bh then (if r.bl = r.bh then (low r.bl, s) else (f.setWidth 32, s'))
    else (0, s)
  else (f.setWidth 32, s')

/-- The device-unique key can be used (R621). -/
def State.dukOk (s : State) : Bool := (List.range 8).all fun i => !(s.marginal (51 + i))

/-- The device-unique key's 32 bytes. -/
def State.duk (s : State) : List Byte := (List.range 8).flatMap fun i => leBytes 4 (s.fuseVal (51 + i)).toNat

/-- A key slot's hash. -/
def State.keyHash (s : State) (i : Nat) : List Byte := (List.range 12).flatMap fun j => leBytes 4 (s.fuseVal (12 * i + j)).toNat

/-- A key slot holds a key. -/
def State.keySet (s : State) (i : Nat) : Bool := (List.range 12).any fun j => s.fuseVal (12 * i + j) != 0

/-- A key slot is revoked, or marginal. -/
def State.keyRevoked (s : State) (i : Nat) : Bool :=
  bit (s.fuseVal 48) i || (List.range 12).any fun j => s.marginal (12 * i + j)

/-- R623. -/
def State.keyUsable (s : State) (i : Nat) : Bool := decide (i < 4) && s.keySet i && !(s.keyRevoked i)

/-- Step 3 of R597: `odd` are the words whose reads are not all as programmed, with their reads. -/
def State.readFuses (s : State) (odd : List FuseRead) : State :=
  let s := { s with boot := { s.boot with vals := s.boot.fuses, marg := [] } }
  let s := odd.foldl (fun s r =>
    if fuseSound r then
      { s with boot := { s.boot with vals := SMap.set (fun _ => 0) s.boot.vals r.word.val (r.al.setWidth 32) } }
    else
      let (v, s) := s.marginalWord r
      { s with boot := { s.boot with
        vals := SMap.set (fun _ => 0) s.boot.vals r.word.val v
        marg := SMap.set (fun _ => false) s.boot.marg r.word.val true } }) s
  let ms := (List.range 128).filter s.marginal
  let has := fun lo hi => ms.any fun w => decide (lo ≤ w) && decide (w ≤ hi)
  s.setReg rBootFuseStat (BitVec.ofNat 32 (min 255 ms.length + (if has 0 63 then 2 ^ 8 else 0) + (if has 64 95 then 2 ^ 9 else 0)
    + (if has 96 127 then 2 ^ 10 else 0) + (if s.dukOk then 0 else 2 ^ 11) + 2 ^ 16 * ms.headD 0))

/-- BOOT.FUSE_DATA as read (R620, R633). -/
def State.fuseData (s : State) : Word :=
  let w := s.rfld rBootFuseSel 0 7
  if 51 ≤ w && w ≤ 58 then 0 else s.fuseVal w

end Sys2Proof.Machine
end

