-- ==== Sys2Proof/Machine/Contexts.lean ====
section
/-! DEFINITION. Contexts: doorbells, acceptance, completion, journal, cancellation, enabling and stopping (chapter 9). -/

namespace Sys2Proof.Machine

/-! ### Journal and status (R356, R373) -/

/-- The journal's bytes before its check. -/
def Ctx.journalHead (x : Ctx) (c : Nat) : List Byte :=
  leBytes 4 0x4A524C31 ++ leBytes 2 c ++ [1, if x.valid then 1 else 0] ++ leBytes 4 x.c.toNat ++ leBytes 4 x.nextSeq.toNat ++
  leBytes 4 x.lastDone.toNat ++ leBytes 4 x.w.toNat ++ leBytes 4 x.evprod.toNat ++ leBytes 4 x.update.toNat ++
  List.replicate 28 0 ++ (List.range 16).flatMap fun i => leBytes 4 (SMap.get (fun _ => (0 : Word)) x.marks i).toNat

/-- The 128 bytes of a journal copy, with its check. -/
def Ctx.journal (x : Ctx) (c : Nat) : List Byte :=
  let b := x.journalHead c
  b ++ leBytes 4 (crcOf 2 b)

/-- The journal is written: the ring unit writes it in Caldera (R269, R32), the update counter advances, and the mirror copy
of its parity is sent in one TLP. -/
def State.writeJournal (s : State) (c : Nat) : State :=
  let s := s.busRange 3 96 (0x100000 + 128 * c) 128 true
  let x := s.context c
  let x := { x with update := x.update + 1, valid := true }
  if x.quiet then s.setContext c x
  else (s.setContext c x).ringWrite c (s.reg64 (rCtxtSrLo c) + (if bit x.update 0 then 0x80 else 0)) (x.journal c)

/-- CTXn_STAT.OPEN and CTRL_OUT follow the open descriptors. -/
def State.showCtx (s : State) (c : Nat) : State :=
  let os := (s.context c).opens
  let out := os.filter fun d => isControl d.typ && !d.record
  (s.setFld (rCtxtStat c) 3 5 os.length).setFld (rCtxtStat c) 8 3 out.length

def State.setCtxState (s : State) (c v : Nat) : State := s.setFld (rCtxtStat c) 0 3 v

/-! ### Fetching (R363, R364, R366) -/

/-- Relief has stopped ring fetching (R379, R593). -/
def State.fetchStopped (s : State) : Bool := s.rbit rTopRlfStat 3

/-- A fetch of a context is before the port or outstanding. -/
def State.fetching (s : State) (c : Nat) : Bool :=
  !(s.readsOut (.fetch c)) || s.pcie.outst.any fun o => o.who == .fetch c

/-- The ring unit asks for the descriptor at C, if there is one. -/
def State.fetchNext (s : State) (c : Nat) : State :=
  let x := s.context c
  if !s.proxyOn && s.ctxState c = 1 && !s.fetchStopped && x.c != x.p && !(s.fetching c) && x.fetchFail.isNone then
    s.ctxRead 3 96 c (s.reg64 (rCtxtCrLo c) + 64 * (x.c.toNat % 2 ^ s.rfld (rCtxtSize c) 0 5)) 64 false (.fetch c)
  else s

/-- The descriptor at C must be held (R363). -/
def State.heldDesc (s : State) (c typ : Nat) : Bool :=
  let x := s.context c
  decide (16 ≤ x.opens.length) ||
  (isControl typ && decide (4 ≤ (x.opens.filter fun d => isControl d.typ && !d.record).length)) ||
  decide (s.cpEntries c < (x.w - x.k).toNat + x.uncompleted + 2)

/-- The open descriptor that 64 bytes make, accepted with the expected sequence (R360, R365, R381, R382). -/
def State.openOf (s : State) (c : Nat) (b : BitVec 512) : OpenDesc :=
  let typ := fld b 0 8
  let bad := fld b 10 6 != 0 || !(descTypes.contains typ) || BitVec.ofNat 32 (fld b 32 32) != (s.context c).nextSeq
  let refused := (typ == tPowerSet || typ == tTestRun) && s.funcOf c != 0
  { seq := (s.context c).nextSeq.toNat, typ := typ, irq := bit b 8, barrier := bit b 9, extra := fld b 16 16
    tag := b.extractLsb' 64 64, body := b.extractLsb' 128 384
    started := bad || refused, granted := bad || refused
    result := if bad then some 0x10 else if refused then some 0x11 else none
    notBefore := if refused && !bad then s.now + 12288 else 0 }

/-- The device accepts a descriptor (R364, R365). -/
def State.accept (s : State) (c : Nat) (b : BitVec 512) : State :=
  let s := s.setBit (rCtxtStat c) 11 false
  let o := s.openOf c b
  let s := if o.notBefore = 0 then s else s.auditDesc c o.seq 0x18
  let s := if BitVec.ofNat 32 (fld b 32 32) ≠ (s.context c).nextSeq then s.setBit (rCtxtErr c) 4 true else s
  let s := s.modContext c fun x => { x with c := x.c + 1, nextSeq := x.nextSeq + 1, opens := x.opens ++ [o] }
  ((s.writeJournal c).showCtx c).fetchNext c

/-- The 512 bits that 16 words make. -/
def wordsBits (ws : List Word) : BitVec 512 := BitVec.ofNat 512 (ofLeBytes (ws.flatMap fun w => leBytes 4 w.toNat))

/-- A proxy context takes its next descriptor from the DATA messages that wait for it (R559, R560). -/
def State.proxyAccept (s : State) (c : Nat) : State :=
  match SMap.get (fun _ => []) s.ngx.store c with
  | [] => s
  | ws :: rest =>
    if s.ctxState c ≠ 1 || s.fetchStopped then s
    else if s.heldDesc c (fld (wordsBits ws) 0 8) then s.setBit (rCtxtStat c) 11 true
    else ({ s with ngx := { s.ngx with store := SMap.set (fun _ => []) s.ngx.store c rest } } : State).accept c (wordsBits ws)

/-- DESCRIPTOR_ACCEPT: the fetch of context `c` returns the descriptor at C, or fails. -/
def execDescriptorAccept (c : Fin 512) (d : Option (BitVec 512)) (s : State) : Host.Outcome State Fault Refusal :=
  let c := c.val
  if s.proxyOn then .next (s.proxyAccept c)
  else if !(s.pcie.outst.any fun o => o.who == .fetch c) then .next s
  else match d with
    | none =>
      let s := (s.readsOver (.fetch c)).setBit (rCtxtErr c) 1 true
      .next (s.modContext c fun x => { x with fetchFail := some s.now })
    | some b =>
      if s.ctxState c ≠ 1 || s.fetchStopped then .next (s.readsOver (.fetch c))
      else if s.heldDesc c (fld b 0 8) then .next (s.setBit (rCtxtStat c) 11 true)
      else .next ((s.readsOver (.fetch c)).accept c b)

/-- FETCH_RETRY: 1 ms after a fetch failed. -/
def execFetchRetry (c : Fin 512) (s : State) : Host.Outcome State Fault Refusal :=
  let c := c.val
  match (s.context c).fetchFail with
  | none => .next s
  | some t =>
    if s.now < t + 1228800 then .next s
    else .next ((s.modContext c fun x => { x with fetchFail := none }).fetchNext c)

/-! ### Doorbells (R358, R359) -/

/-- The context of a doorbell page: `f` is the function whose BAR was written, `page` the page in it. -/
def State.doorbellCtx (s : State) (f page : Nat) : Option Nat :=
  if f = 0 then (if s.funcOf page = 0 then some page else none)
  else if !(s.fnEnabled f) || 16 ≤ page then none
  else (List.range 512).find? fun c => s.funcOf c == f && s.rfld (rCtxtCtrl c) 6 4 == page && s.ctxState c != 0

/-- A doorbell to a context that is ACTIVE or RESUMING. A write to a function without memory space is refused (R427). -/
def State.doorbell (s : State) (f page : Nat) (g : Nat → State) : State :=
  if !(if f = 0 then (s.fn 0).mse else s.pcie.vfMse) then s.aer f aerUnsupported
  else match s.doorbellCtx f page with
  | some c => if s.ctxState c = 1 || s.ctxState c = 3 || (s.minPath && f == 0 && c == 0) then g c else s
  | none => s

/-- COMMAND_PRODUCER. -/
def execCommandProducer (f : Fin 64) (page : Fin 512) (v : BitVec 32) (s : State) : Host.Outcome State Fault Refusal :=
  .next (s.doorbell f.val page.val fun c =>
    if s.minPath then s else
    let x := s.context c
    if 2 ^ s.rfld (rCtxtSize c) 0 5 < (v - x.c).toNat then s.setBit (rCtxtErr c) 0 true
    else (s.setContext c { x with p := v }).fetchNext c)

/-- A completion consumer index for a context, with the event consumer count that the host area then holds (R359). -/
def State.consumer (s : State) (c : Nat) (v evCons : BitVec 32) : State :=
  let x := s.context c
  if (x.w - x.k).toNat < (v - x.k).toNat then s.setBit (rCtxtErr c) 0 true
  else
    let used := fun (i : BitVec 32) => decide ((i - x.k).toNat < (v - x.k).toNat)
    let opens := x.opens.filter fun d => !(d.record && used (BitVec.ofNat 32 d.slot))
    let notice := x.notice.filter fun i => !(used i)
    ((s.setContext c { x with k := v, opens := opens, notice := notice, evCons := evCons }).showCtx c).fetchNext c

/-- COMPLETION_CONSUMER: `evCons` is the event consumer count read from the state record (R374). -/
def execCompletionConsumer (f : Fin 64) (page : Fin 512) (v evCons : BitVec 32) (s : State) : Host.Outcome State Fault Refusal :=
  .next (s.doorbell f.val page.val fun c => if s.minPath then s else s.consumer c v evCons)

/-- STREAM_RING_PRODUCER: `es` are bytes 0 to 15 of the entries that the doorbell adds. -/
def execStreamRingProducer (f : Fin 64) (page : Fin 512) (n : Fin 16) (v : BitVec 32) (es : List (BitVec 128)) (s : State) :
    Host.Outcome State Fault Refusal :=
  .next (s.doorbell f.val page.val fun c =>
    match s.ringStream c n.val with
    | none => s
    | some (r, x) =>
      if x.size < (v - x.cons).toNat then s.setBit (rCtxtErr c) 0 true
      else if x.closing || es.length ≠ (v - x.prod).toNat then s
      else s.setStream r (some { x with prod := v, entries := x.entries ++ es.map x.entryOf }))

/-! ### Completion (R368 to R372) -/

/-- A STOPPING context whose open descriptors all have marks, and whose records have been issued if they can be,
becomes DISABLED (R378). -/
def State.maybeDisabled (s : State) (c : Nat) : State :=
  let x := s.context c
  if s.ctxState c = 2 && x.opens.all (fun d => d.mark && (d.record || x.quiet || !(s.canIssue (s.funcOf c)))) then
    let s := (s.setCtxState c 0).setBit (rCtxtStat c) 11 false
    let f := s.funcOf c
    s.modFn f fun y => { y with pendTx := (List.range 512).any fun k => s.funcOf k == f && s.ctxState k == 2 }
  else s

/-- DESCRIPTOR_FINISH: the executor of a descriptor whose effect is complete writes its mark. -/
def execDescriptorFinish (c : Fin 512) (q : BitVec 32) (s : State) : Host.Outcome State Fault Refusal :=
  let c := c.val
  match s.findDesc c q.toNat with
  | none => .next s
  | some d =>
    match d.result with
    | none => .next s
    | some st =>
      if d.mark then .next s
      else
        let m : Word := BitVec.ofNat 32 (q.toNat % 2 ^ 24 + 2 ^ 24 * st)
        let s := s.modDesc c q.toNat fun d => { d with mark := true }
        let s := s.modContext c fun x => { x with marks := SMap.set (fun _ => 0) x.marks (q.toNat % 16) m }
        .next ((s.writeJournal c).maybeDisabled c)

/-- COMPLETION_RECORD: the next record in ring order, if its descriptor has its mark. -/
def execCompletionRecord (c : Fin 512) (s : State) : Host.Outcome State Fault Refusal :=
  let c := c.val
  let x := s.context c
  match x.opens.find? fun d => !d.record with
  | none => .next s
  | some d =>
    match d.result with
    | none => .next s
    | some st =>
      if !d.mark || s.now < d.notBefore || s.ctxState c == 0 || x.quiet || !(s.canIssue (s.funcOf c)) then .next s
      else
        let i := x.w.toNat
        let s := s.putRecord c d.seq st 0 d.tag
        let s := s.modDesc c d.seq fun d => { d with record := true, slot := i }
        let s := s.modContext c fun x => { x with
          lastDone := BitVec.ofNat 32 d.seq, recSince := x.recSince + 1, irqDue := x.irqDue || d.irq || !(st == 0 || st == 1) }
        .next (((s.showCtx c).fetchNext c).maybeDisabled c)

/-- COMPLETION_INTERRUPT (R372). -/
def execCompletionInterrupt (c : Fin 512) (s : State) : Host.Outcome State Fault Refusal :=
  let c := c.val
  let x := s.context c
  let due := (decide (max 1 (s.rfld (rCtxtMod c) 16 8) ≤ x.recSince) || x.irqDue) && match x.lastIrq with
    | some t => decide (t + s.rfld (rCtxtMod c) 0 16 * 12288 / 10 ≤ s.now)
    | none => true
  if !due then .next s
  else
    let s := s.ctxIrq c (s.rfld (rCtxtIrq c) 0 10)
    .next (s.modContext c fun x => { x with recSince := 0, irqDue := false, lastIrq := some s.now })

/-! ### NOP and FENCE -/

/-- NOP_DESC. -/
def execNopDesc (c : Fin 512) (q : BitVec 32) (s : State) : Host.Outcome State Fault Refusal :=
  match s.ready c.val q.toNat 0x01 with
  | none => .next s
  | some d => .next (s.finish c.val q.toNat (if d.extra == 0 && d.onlyUses [] then 0 else 0x10))

/-- FENCE: it starts once every earlier descriptor has completed. -/
def execFence (c : Fin 512) (q : BitVec 32) (s : State) : Host.Outcome State Fault Refusal :=
  match s.ready c.val q.toNat 0x02 with
  | none => .next s
  | some d => .next (s.finish c.val q.toNat (if d.extra == 0 && d.onlyUses [] then 0 else 0x10))

/-! ### Cancellation (R380, R727) -/

/-- The context and sequence of a member. -/
def Member.by : Member → Nat × Nat
  | .flip _ c q => (c, q)
  | .gain _ _ _ _ c q => (c, q)
  | .routeSet _ _ _ _ _ _ _ c q => (c, q)
  | .routeClear _ _ _ _ c q => (c, q)
  | .swap _ _ _ c q => (c, q)

/-- The members that a descriptor staged leave their groups, and its changes leave the next tick. -/
def State.unstage (s : State) (c q : Nat) : State :=
  let s := { s with par := { s.par with next := s.par.next.filter fun m => m.by != (c, q) } }
  s.par.groups.foldl (fun s p =>
    if p.2.members.any fun m => m.by == (c, q) then
      let ms := p.2.members.filter fun m => m.by != (c, q)
      let s := s.setGroup p.1 { s.group p.1 with members := ms }
      if s.groupSt p.1 = 1 && ms.isEmpty then s.setGroupSt p.1 0 else s
    else s) s

/-- The group that a COMMIT has armed. -/
def State.armedBy (s : State) (c q : Nat) : Option Nat :=
  (s.par.groups.find? fun p => match p.2.arm with
    | some a => !a.follow && a.ctx == c && a.seq == q && (s.groupSt p.1 == 2 || s.groupSt p.1 == 3)
    | none => false).map Prod.fst

/-- A COMMIT is cancelled: its group returns to STAGING; a master's cascade commit is to be decided ABORT (R235, R245). -/
def State.cancelCommit (s : State) (c q g : Nat) : State :=
  let s := s.setBit (rFabCgStat g) 17 true
  let x := s.group g
  if s.groupSt g = 3 then s.setGroup g { x with arm := x.arm.map fun a => { a with cancelled := true } }
  else ((s.setGroup g { x with arm := none }).setGroupSt g (if x.members.isEmpty then 0 else 1)).setResult c q 0x02

/-- A descriptor that has not won its grant is cancelled. -/
def State.cancelDesc (s : State) (c : Nat) (d : OpenDesc) : State :=
  let q := d.seq
  match s.armedBy c q with
  | some g => s.cancelCommit c q g
  | none =>
    let s := if d.typ = tProgSwap then s.withdrawSwap c q else s
    let s := { s with mov := { s.mov with copies := s.mov.copies.filter fun k => !(k.ctx == c && k.seq == q) } }
    let s := { s with ngx := { s.ngx with msgs := s.ngx.msgs.filter fun m => m.desc != some (c, q) } }
    (s.unstage c q).setResult c q 0x02

/-- Types that no CANCEL cancels. -/
def neverCancelled (t : Nat) : Bool := t == 0x01 || t == 0x02 || t == tQuery || t == tCancel

/-- A sequence has been accepted in the context. -/
def Ctx.accepted (x : Ctx) (t : BitVec 32) : Bool := decide ((x.nextSeq - 1 - t).toNat < x.c.toNat)

/-- CANCEL. -/
def execCancel (c : Fin 512) (q : BitVec 32) (s : State) : Host.Outcome State Fault Refusal :=
  let (c, q) := (c.val, q.toNat)
  match s.ready c q tCancel with
  | none => .next s
  | some d =>
    let t := d.num 16 4
    let earlier := (s.context c).accepted (BitVec.ofNat 32 t) && decide ((BitVec.ofNat 32 q - BitVec.ofNat 32 t).toNat < 2 ^ 31) && t != q
    if d.extra != 0 || !(d.onlyUses [(16, 4)]) || !earlier then .next (s.finish c q 0x10)
    else match s.findDesc c t with
      | none => .next (s.finish c q 0x03)
      | some x =>
        if x.typ = tCancel then .next (s.finish c q 0x10)
        else if neverCancelled x.typ || x.granted || x.result.isSome then .next (s.finish c q 0x03)
        else .next ((s.cancelDesc c x).finish c q 0)

/-! ### ENABLE, DISABLE, RESET (R357, R375 to R378) -/

/-- A command of a context is turned away. -/
def State.ctxRej (s : State) (c : Nat) : State := s.setBit (rCtxtCmd c) 30 true

/-- The fields of CMD that a write of the command stores (R356). -/
def State.ctxCmdW (s : State) (c op : Nat) (fresh : Bool) : State :=
  (s.setFld (rCtxtCmd c) 0 2 op).setBit (rCtxtCmd c) 2 fresh

/-- What ENABLE requires (R357). -/
def State.enableOk (s : State) (c : Nat) : Bool :=
  let f := s.funcOf c
  let crl := s.rfld (rCtxtSize c) 0 5
  let cpl := s.rfld (rCtxtSize c) 8 5
  s.ctxState c == 0 && s.fnEnabled f && decide (4 ≤ crl) && decide (crl ≤ 16) && decide (5 ≤ cpl) && decide (cpl ≤ 16) &&
  decide (s.rfld (rCtxtIrq c) 0 10 < msixSize f) && decide (s.rfld (rCtxtIrq c) 16 10 < msixSize f) &&
  (f == 0 || (List.range 512).all fun k =>
    k == c || s.funcOf k != f || s.rfld (rCtxtCtrl k) 6 4 != s.rfld (rCtxtCtrl c) 6 4 || s.ctxState k == 0)

/-- Word `i` of a mirror copy. -/
def mirWord (b : BitVec 1024) (i : Nat) : BitVec 32 := b.extractLsb' (32 * i) 32

/-- A mirror copy is valid for a context (R374). -/
def mirValid (c : Nat) (b : BitVec 1024) : Bool :=
  mirWord b 0 == 0x4A524C31 && fld (mirWord b 1) 0 16 == c && fld (mirWord b 1) 16 8 == 1 && fld (mirWord b 1) 24 8 == 1 &&
  crcOf 2 ((List.range 124).map fun i => b.extractLsb' (8 * i) 8) == (mirWord b 31).toNat

/-- The journal that a mirror copy holds. -/
def ctxOfMirror (b : BitVec 1024) : Ctx :=
  { valid := true, c := mirWord b 2, p := mirWord b 2, nextSeq := mirWord b 3, lastDone := mirWord b 4, w := mirWord b 5
    evprod := mirWord b 6, update := mirWord b 7
    marks := (List.range 16).foldl (fun m i => SMap.set (fun _ => 0) m i (mirWord b (15 + i))) [] }

/-- The first of two update counters is not older, modulo 2^32. -/
def notOlder (a b : BitVec 32) : Bool := decide ((a - b).toNat < 2 ^ 31)

/-- The newest valid mirror copy. -/
def newestMirror (c : Nat) (a b : BitVec 1024) : Option Ctx :=
  match mirValid c a, mirValid c b with
  | true, true => some (ctxOfMirror (if notOlder (mirWord a 7) (mirWord b 7) then a else b))
  | true, false => some (ctxOfMirror a)
  | false, true => some (ctxOfMirror b)
  | false, false => none

/-- The journal that ENABLE takes (R375, step 1). -/
def pickJournal (own : Ctx) (mir : Option Ctx) : Option Ctx :=
  match own.valid, mir with
  | true, some m => some (if notOlder own.update m.update then own else m)
  | true, none => some own
  | false, m => m

/-- Replays one sequence: with its mark, or ABANDONED (R375, R376). -/
def State.replayOne (s : State) (c : Nat) (seq : BitVec 32) (tag : BitVec 64) : State :=
  let x := s.context c
  let m := SMap.get (fun _ => (0 : Word)) x.marks (seq.toNat % 16)
  let st := if fld m 0 24 = seq.toNat % 2 ^ 24 then fld m 24 8 else 0x30
  let i := x.w.toNat
  let s := s.putRecord c seq.toNat st 4 tag
  s.modContext c fun x => { x with
    lastDone := seq, recSince := x.recSince + 1, irqDue := x.irqDue || !(st == 0 || st == 1)
    opens := x.opens ++ [{ seq := seq.toNat, typ := 0, tag := tag, started := true, granted := true, result := some st
                           mark := true, record := true, slot := i }] }

/-- CTX_ENABLE: the ENABLE command. `a` and `b` are the mirror copies in the state record, `host` its words 0x100 to 0x110
(host_last_seq, host_cp, host_flags, start_seq, ev_cons), `tags` the tags of the descriptors replayed, `ok` whether the
record could be read. -/
def execCtxEnable (c : Fin 512) (fresh : Bool) (a b : BitVec 1024) (host : BitVec 160) (tags : List (BitVec 64)) (ok : Bool)
    (s : State) : Host.Outcome State Fault Refusal :=
  let c := c.val
  let s := s.ctxCmdW c 1 fresh
  let h := fun i => host.extractLsb' (32 * i) 32
  if !(s.enableOk c) then .next (s.ctxRej c)
  else if !ok then .next ((s.setBit (rCtxtErr c) 2 true).ctxRej c)
  else match pickJournal (s.context c) (newestMirror c a b), fresh with
    | none, false => .next ((s.setBit (rCtxtErr c) 5 true).ctxRej c)
    | some _, true => .next (s.ctxRej c)
    | none, true =>
      let s := s.setContext c { nextSeq := h 3, w := h 1, k := h 1, evCons := h 4, valid := true }
      .next (((s.writeJournal c).setCtxState c 1).showCtx c)
    | some j, false =>
      let last := bit (h 2) 0
      let from' := if last then h 0 else j.lastDone
      let w := if last then h 1 else j.w
      let n := min 16 (j.nextSeq - 1 - from').toNat
      let s := s.setContext c { j with w := w, k := w, p := j.c, evCons := h 4, opens := [], notice := none, fetchFail := none }
      let s := forN n (fun i s => s.replayOne c (from' + 1 + BitVec.ofNat 32 i) (tags.getD i 0)) s
      .next (((s.writeJournal c).setCtxState c 1).showCtx c)

/-- The context stops: fetching ends, what has not won its grant is cancelled (R378, R439). -/
def State.stopCtx (s : State) (c : Nat) : State :=
  if s.ctxState c = 0 || s.ctxState c = 2 then s
  else
    let s := (s.setCtxState c 2).readsOver (.fetch c)
    let s := s.modContext c fun x => { x with fetchFail := none }
    let s := (s.context c).opens.foldl (fun s d =>
      if d.granted || d.result.isSome || neverCancelled d.typ then s else s.cancelDesc c d) s
    s.maybeDisabled c

/-- CTX_DISABLE. -/
def execCtxDisable (c : Fin 512) (s : State) : Host.Outcome State Fault Refusal :=
  let s := s.ctxCmdW c.val 2 false
  .next (if s.ctxState c.val = 0 || s.ctxState c.val = 2 then s.ctxRej c.val else s.stopCtx c.val)

/-- A mapped line of a context is unmapped: it drains (R293), or is dropped without write-back. -/
def State.unmapLine (s : State) (n : Nat) (drain : Bool) : State :=
  let l := s.line n
  let off := fun (s : State) => if s.islandOff (l.eng / 4) then s else s.modEngine l.eng fun x => { x with
    dldWait := SMap.set (fun _ => ((0 : Word), (0 : Word), (0 : Word))) x.dldWait l.dld (l.dldWords n false) }
  if drain && s.lineSt n == 2 then off ((s.setLineSt n 3).setLine n { l with drainAt := (s.lineT l + 1).toNat })
  else if drain && s.lineSt n == 3 then s
  else (if s.lineSt n == 2 then off s else s).lineGone n

/-- CTX_RESET. -/
def execCtxReset (c : Fin 512) (s : State) : Host.Outcome State Fault Refusal :=
  let c := c.val
  let s := s.ctxCmdW c 3 false
  if s.ctxState c ≠ 0 then .next (s.ctxRej c)
  else
    let s := s.setXps (s.route.xps.filter fun p => p.2.owner != c)
    let s := s.mov.streams.foldl (fun s p => match p.2 with
      | some x => if x.ctx = c then s.streamClose p.1 none true else s
      | none => s) s
    let s := s.cal.lines.foldl (fun s p => if p.2.mapped && p.2.owner == c then s.unmapLine p.1 true else s) s
    let s := forN 64 (fun g s => if s.ownsGroup c g then s.discardGroup g 0x02 else s) s
    .next ((s.setContext c {}).showCtx c)

end Sys2Proof.Machine
end

