-- ==== Sys2Proof/Machine/Pcie.lean ====
section
/-! DEFINITION. The PCIe endpoint: resets, link, timeouts, interrupts, power states (chapter 11). -/

namespace Sys2Proof.Machine

/-! ### Failing requests -/

/-- The job of a mover ends because its host reads failed. -/
def State.failJob (s : State) (m : Nat) : State :=
  match SMap.get (fun _ => none) s.mov.movers m with
  | none => s
  | some j =>
    let s := (s.setMover m none).readsOver (.mover m)
    match j.work with
    | .chunk n u0 true => if s.lineSt n == 0 then s else s.failChunk n u0
    | .chunk _ _ false => s
    | .burst r ent _ _ =>
      (match s.stream r with
      | some x => s.entryFails r (x.entIndex ent) 0x20
      | none => s)
    | .copy c q _ _ => s.copyEnds c q 0x20
    | .resync _ => s

/-- A descriptor fetch has failed (R366). -/
def State.fetchFails (s : State) (c : Nat) : State :=
  let s := (s.readsOver (.fetch c)).setBit (rCtxtErr c) 1 true
  s.modContext c fun x => { x with fetchFail := some s.now }

/-- A coefficient write that has begun and still waits for host data ends DMA_ERROR (R222). -/
def State.failCoef (s : State) (c : Nat) (d : OpenDesc) : State :=
  let n := d.num 16 2
  let s := if d.slot = 0 then s else (s.setFld (rFabCsetW3 n) 16 16 0xFFFF).setBit (rFabCsetW2 n) 25 true
  (s.modDesc c d.seq fun d => { d with staged := true }).setResult c d.seq 0x20

/-! ### Function Level Reset (R439, R440) -/

/-- The contexts of a function. -/
def State.ctxsOf (s : State) (f : Nat) : List Nat := (List.range 512).filter fun c => s.funcOf c == f

/-- Step 3 for one context: granted descriptors that need host data end, every result has its mark in the journal. -/
def State.flrDescs (s : State) (c : Nat) : State :=
  let s := (s.context c).opens.foldl (fun s d =>
    if d.result.isSome then s
    else if (s.copyOf c d.seq).isSome then s.copyEnds c d.seq 0x20
    else if (d.typ = tCoefWrite || d.typ = tCoefDelta) && d.started && !d.staged then s.failCoef c d
    else if (d.typ = tProgLoad || d.typ = tSegMap) && d.granted && !d.started then s.setResult c d.seq 0x20
    else if d.typ = tLineMap && d.granted then s.setResult c d.seq 0x20
    else s) s
  (s.context c).opens.foldl (fun s d => match d.result with
    | some st =>
      if d.mark then s
      else
        let m : Word := BitVec.ofNat 32 (d.seq % 2 ^ 24 + 2 ^ 24 * st)
        let s := s.modDesc c d.seq fun d => { d with mark := true }
        (s.modContext c fun x => { x with marks := SMap.set (fun _ => 0) x.marks (d.seq % 16) m }).writeJournal c
    | none => s) s

/-- The steps of an FLR that concern one context. -/
def State.flrCtx (s : State) (c : Nat) : State :=
  let s := (s.modContext c fun x => { x with quiet := true }).stopCtx c
  let s := forN 64 (fun m s => match SMap.get (fun _ => none) s.mov.movers m with
    | some j =>
      let mine := match j.work with
        | .chunk n _ _ => (s.line n).owner == c
        | .burst r _ _ _ => ((s.stream r).map Stream.ctx) == some c
        | .copy c' _ _ _ => c' == c
        | .resync _ => false
      if mine then s.failJob m else s
    | none => s) s
  let s := s.flrDescs c
  let s := s.mov.streams.foldl (fun s p => match p.2 with
    | some x => if x.ctx = c then s.streamClose p.1 none true else s
    | none => s) s
  let s := s.cal.lines.foldl (fun s p => if p.2.mapped && p.2.owner == c then s.unmapLine p.1 false else s) s
  let s := s.tlbDrop c fun _ => true
  let s := { s with mov := { s.mov with walks := s.mov.walks.filter fun w => w.1 != c } }
  s.maybeDisabled c

/-- An FLR of function `f`. -/
def State.flr (s : State) (f : Nat) : State :=
  let s := if f < 32 then s.setBit rTopPcieFlrLo f true else s.setBit rTopPcieFlrHi (f - 32) true
  let s := { s with fab := { s.fab with outq := s.fab.outq.filter fun r => r.tlp.func != f } }
  let s := (s.ctxsOf f).foldl State.flrCtx s
  let old := s.fn f
  let busy := (s.ctxsOf f).any fun c => s.ctxState c == 2
  let s := s.modFn f fun _ => { cor := old.cor, uncor := old.uncor, pendTx := busy }
  { s with
    fab := { s.fab with outq := s.fab.outq.filter fun r => r.tlp.func != f }
    pcie := { s.pcie with
      msix := SMap.keep (fun k => k / 1024 != f) s.pcie.msix
      outst := s.pcie.outst.filter fun o => o.func != f } }

/-- An FLR of the PF clears VF Enable. -/
def State.pfFlr (s : State) : State :=
  let vfs := if s.pcie.vfEn then (List.range s.pcie.numVfs).map (· + 1) else []
  let s := vfs.foldl State.flr s
  let s := s.flr 0
  { s with pcie := { s.pcie with
    vfEn := false, vfMse := false, vfTag10 := false, numVfs := 0, devCtl := 0x2810, devCtl2 := 0, lnkCtl := 0
    pmeEn := false, pmeStat := false, trained := false } }

/-- FLR: a write to a function's Device Control (with the PF's Device Control 2 and Link Control), whose bit 15 is
Initiate Function Level Reset. -/
def execFlr (f : Fin 64) (dc dc2 lc : BitVec 16) (s : State) : Host.Outcome State Fault Refusal :=
  let f := f.val
  if !(s.fnEnabled f) then .next (s.aer 0 aerUnsupported)
  else
    let s := if f = 0 then { s with pcie := { s.pcie with devCtl := dc &&& 0x7FFF, devCtl2 := dc2, lnkCtl := lc } } else s
    .next (if !(bit dc 15) then s else if f = 0 then s.pfFlr else s.flr f)

/-- PF_FLR. -/
def execPfFlr (s : State) : Host.Outcome State Fault Refusal := .next s.pfFlr

/-- VF_ENABLE_CLEAR: a write to SR-IOV Control and NumVFs (R429). VF Enable is bit 0, VF MSE bit 3, VF 10-Bit Tag
Requester Enable bit 5. The recovery personality has no such capability (R425). -/
def execVfEnableClear (ctl : BitVec 16) (num : BitVec 16) (s : State) : Host.Outcome State Fault Refusal :=
  if s.rbit rTopPcieStat 16 then .next s
  else
    let vfs := if s.pcie.vfEn && !(bit ctl 0) then (List.range s.pcie.numVfs).map (· + 1) else []
    let s := vfs.foldl State.flr s
    let n := if s.pcie.vfEn then s.pcie.numVfs else min 63 num.toNat
    .next { s with pcie := { s.pcie with vfEn := bit ctl 0, vfMse := bit ctl 3, vfTag10 := bit ctl 5, numVfs := n } }

/-! ### Link (R425, R441, R448, R449) -/

/-- The link goes down: an FLR of the PF, and the controller and the configuration spaces are reset. -/
def State.linkDown (s : State) : State :=
  let s := s.pfFlr
  let s := s.setReg rTopPcieStat 0
  let s := forN 64 (fun f s => s.modFn f fun x => { cor := x.cor, uncor := x.uncor, pendTx := x.pendTx }) s
  { s with
    fab := { s.fab with outq := [], outRun := 0 }
    pcie := { s.pcie with outst := [], dead := [], msix := [], tol := none } }

/-- HOT_RESET: a hot reset or a link disable. -/
def execHotReset (s : State) : Host.Outcome State Fault Refusal := .next (s.linkDown.setBit rTopPcieEvt 0 true)

/-- DL_DOWN. -/
def execDlDown (s : State) : Host.Outcome State Fault Refusal := .next (s.linkDown.setBit rTopPcieEvt 1 true)

/-- WIDTH of R448: x1, x2, x4. -/
def widthCode (w : Nat) : Nat := 2 ^ w

/-- LINK_UP: the link first trains, at rate code `speed` + 1 and width 1, 2 or 4; the personality is chosen (R425). -/
def execLinkUp (speed : Fin 4) (width : Fin 3) (rev : Bool) (pol : BitVec 4) (s : State) : Host.Outcome State Fault Refusal :=
  if s.dlUp then .next s
  else
    let rec' := if s.pcie.trained then s.rbit rTopPcieStat 16 else s.modeCode == 3 || s.modeCode == 4
    let w := speed.val + 1 + 16 * widthCode width.val + 2 ^ 7 + (if rev then 2 ^ 8 else 0) + 2 ^ 9 * pol.toNat + (if rec' then 2 ^ 16 else 0)
    let s := s.setReg rTopPcieStat (BitVec.ofNat 32 w)
    let s := { s with pcie := { s.pcie with trained := true, lastBusy := s.now } }
    .next s.showLoads

/-- LINK_RETRAIN. -/
def execLinkRetrain (speed : Fin 4) (width : Fin 3) (s : State) : Host.Outcome State Fault Refusal :=
  if !s.dlUp then .next s
  else
    let lower := decide (speed.val + 1 < s.rfld rTopPcieStat 0 3) || decide (widthCode width.val < s.rfld rTopPcieStat 4 3)
    let s := (s.setFld rTopPcieStat 0 3 (speed.val + 1)).setFld rTopPcieStat 4 3 (widthCode width.val)
    let s := s.bump rTopPcieEvt 16 8
    .next ((if lower then s.setBit rTopPcieEvt 2 true else s).showLoads)

/-! ### Completion timeout (R436, R437) -/

/-- The shortest time after which a read times out, in FAB cycles. -/
def State.ctoMin (s : State) : Nat :=
  match fld s.pcie.devCtl2 0 4 with
  | 1 => 76 * 12288 / 10
  | 2 => 7600 * 12288 / 10
  | 6 => 152000 * 12288 / 10
  | 9 => 608000 * 12288 / 10
  | 0xA => 2380000 * 12288 / 10
  | 0xD => 9500000 * 12288 / 10
  | 0xE => 38000000 * 12288 / 10
  | _ => 38000 * 12288 / 10

/-- COMPLETION_TIMEOUT of the read with a tag of a function. -/
def execCompletionTimeout (f : Fin 64) (tag : Fin 1024) (s : State) : Host.Outcome State Fault Refusal :=
  match s.pcie.outst.find? fun o => o.func == f.val && o.tag == tag.val with
  | none => .next s
  | some o =>
    if s.now < o.at' + s.ctoMin then .next s
    else
      let s := (s.setBit rTopPcieEvt 3 true).aer f.val aerTimeout
      let s := { s with pcie := { s.pcie with
        outst := s.pcie.outst.filter fun x => !(x.func == f.val && x.tag == tag.val)
        dead := s.pcie.dead ++ [(tag.val, f.val, s.now + 2 * s.ctoMin)] } }
      match o.who with
      | .mover m => .next (s.failJob m)
      | .fetch c => .next (s.fetchFails c)
      | .relay d t => .next ((s.readsOver (.relay d t)).hrdReply d t 1 [])

/-- LATE_COMPLETION: a completion for no outstanding read. -/
def execLateCompletion (f : Fin 64) (tag : Fin 1024) (s : State) : Host.Outcome State Fault Refusal :=
  .next (if s.pcie.outst.any fun o => o.func == f.val && o.tag == tag.val then s else s.aer f.val aerUnexpected)

/-- TAG_REUSE. -/
def execTagReuse (f : Fin 64) (tag : Fin 1024) (s : State) : Host.Outcome State Fault Refusal :=
  .next { s with pcie := { s.pcie with
    dead := s.pcie.dead.filter fun d => !(d.1 == tag.val && d.2.1 == f.val && decide (d.2.2 ≤ s.now)) } }

/-! ### MSI-X (R431) -/

/-- The pending entries of a function that no mask holds back send one message each. -/
def State.msixFlush (s : State) (f : Nat) : State :=
  let x := s.fn f
  if !x.msixEn || x.fmask then s
  else forN (msixSize f) (fun n s =>
    let e := s.msixEntry f n
    if e.pend && !e.mask then (s.setMsix f n { e with pend := false }).offer 3 96 (.msix f e.addr e.data) else s) s

/-- MSIX_UNMASK: a write to a table entry (`n`), or to Message Control (bit 15 enable, bit 14 function mask). -/
def execMsixUnmask (f : Fin 64) (n : Option (Fin 1024)) (addr : BitVec 64) (data ctl : BitVec 32) (s : State) :
    Host.Outcome State Fault Refusal :=
  let f := f.val
  match n with
  | none => .next ((s.modFn f fun x => { x with msixEn := bit ctl 15, fmask := bit ctl 14 }).msixFlush f)
  | some n =>
    if msixSize f ≤ n.val then .next s
    else
      let e := s.msixEntry f n.val
      .next ((s.setMsix f n.val { e with addr := addr.toNat / 4 * 4, data := data, mask := bit ctl 0 }).msixFlush f)

/-! ### Link power and power management (R443 to R447) -/

/-- L1_ENTRY: `sub` is the L1 substate, 0 none, 1 L1.1, 2 L1.2. -/
def execL1Entry (sub : Fin 3) (s : State) : Host.Outcome State Fault Refusal :=
  let idle := max 1 (s.rfld rTopPciePm 0 8) * 12288 / 10
  if bit s.pcie.lnkCtl 1 && s.dlUp && s.fab.outq.isEmpty && s.pcie.outst.isEmpty && decide (s.pcie.lastBusy + idle ≤ s.now) then
    .next ((s.setBit rTopPcieStat 13 true).setFld rTopPcieStat 14 2 sub.val)
  else .next s

/-- A write to TOP.PCIE_LTR (R452). -/
def State.pcieLtrW (s : State) (v : Word) : State :=
  if s.rbit rTopPciePm 8 then s
  else
    let w := v &&& 0x9FFF
    if bit s.pcie.devCtl2 10 then s.ltrSend w.toNat else s.setReg rTopPcieLtr w

/-- PCIE_LTR_WRITE (R444, R452). -/
def execPcieLtrWrite (v : BitVec 32) (s : State) : Host.Outcome State Fault Refusal := .next (s.pcieLtrW v)

/-- POWER_STATE_CHANGE: a write to the PF's Power Management Control/Status: state [1:0], PME_En [8], PME_Status [15]
(write 1 to clear). -/
def execPowerStateChange (v : BitVec 16) (s : State) : Host.Outcome State Fault Refusal :=
  let st := fld v 0 2
  let s := s.modFn 0 fun x => { x with d3 := if st = 3 then true else if st = 0 then false else x.d3 }
  .next { s with pcie := { s.pcie with pmeEn := bit v 8, pmeStat := s.pcie.pmeStat && !(bit v 15) } }

/-- BUS_MASTER_ENABLE: a write to a function's Command register: Memory Space Enable [1], Bus Master Enable [2]. -/
def execBusMasterEnable (f : Fin 64) (v : BitVec 16) (s : State) : Host.Outcome State Fault Refusal :=
  if !(s.fnEnabled f.val) then .next (s.aer 0 aerUnsupported)
  else .next (s.modFn f.val fun x => { x with bme := bit v 2, mse := bit v 1 })

/-- PME (R446): an edge on GPIO 0 to 3, or on SPIS_CS_N (4). -/
def execPme (src : Fin 5) (s : State) : Host.Outcome State Fault Refusal :=
  let on := s.rbit rPwrDormCtrl (if src.val < 4 then wkGpio + src.val else wkSpis)
  if (s.fn 0).d3 && s.pcie.pmeEn && on && !s.pcie.pmeStat then
    .next (({ s with pcie := { s.pcie with pmeStat := true } } : State).offer 3 96 (.message 0 0x18 0))
  else .next s
where
  wkGpio : Nat := 3
  wkSpis : Nat := 2

end Sys2Proof.Machine
end

