-- ==== Sys2Proof/Machine/BootOps.lean ====
section
/-! DEFINITION. Flash contents, boot images, resets of the device and the steps of start-up (chapters 16, 11, 18). -/

namespace Sys2Proof.Machine

/-! ### Flash contents (R609, R610, R613) -/

def flashDefault (_ : Nat) : Byte := 0xFF

def State.flashByte (s : State) (a : Nat) : Byte := SMap.get flashDefault s.boot.flash a

def State.flashRead (s : State) (a n : Nat) : List Byte := (List.range n).map fun i => s.flashByte (a + i)

def State.flashSet (s : State) (a : Nat) (d : List Byte) : State :=
  let f := d.zipIdx.foldl (fun m p => SMap.set flashDefault m (a + p.2) p.1) s.boot.flash
  { s with boot := { s.boot with flash := f } }

/-- Erases bytes [a, a+n). -/
def State.flashErase (s : State) (a n : Nat) : State :=
  let f := SMap.keep (fun k => !(decide (a ≤ k) && decide (k < a + n))) s.boot.flash
  { s with boot := { s.boot with flash := f } }

/-- Little-endian field of a byte string. -/
def byteNum (b : List Byte) (o n : Nat) : Nat := ofLeBytes ((b.drop o).take n)

/-- Of two records, the valid one with the larger seq modulo 2^32: 0, 1, or none. -/
def newerCopy (ok0 ok1 : Bool) (s0 s1 : Nat) : Option Nat :=
  match ok0, ok1 with
  | false, false => none
  | true, false => some 0
  | false, true => some 1
  | true, true => if (s0 + 2 ^ 32 - s1) % 2 ^ 32 < 2 ^ 31 then some 0 else some 1

/-- The boot control record copy in use. -/
def State.bcrCopy (s : State) : Option Nat :=
  let c := fun i => s.flashRead (0x1000 * i) 64
  let ok := fun i => byteNum (c i) 0 4 == 0x52434249 && byteNum (c i) 60 4 == crcOf 2 ((c i).take 60)
  newerCopy (ok 0) (ok 1) (byteNum (c 0) 4 4) (byteNum (c 1) 4 4)

/-- The active slot: 0 A, 1 B. -/
def State.activeSlot (s : State) : Nat :=
  match s.bcrCopy with
  | some i => if s.flashByte (0x1000 * i + 8) = 1 then 1 else 0
  | none => 0

/-- Keeper writes a record that makes a slot active: the copy not in use, with seq one higher. -/
def State.writeBcr (s : State) (slot : Nat) : State :=
  let seq := match s.bcrCopy with
    | some i => byteNum (s.flashRead (0x1000 * i) 64) 4 4 + 1
    | none => 0
  let other := match s.bcrCopy with
    | some i => 1 - i
    | none => 0
  let d := leBytes 4 0x52434249 ++ leBytes 4 seq ++ leBytes 1 slot ++ List.replicate 51 0
  (s.flashErase (0x1000 * other) 4096).flashSet (0x1000 * other) (d ++ leBytes 4 (crcOf 2 d))

/-- The anti-rollback record copy in use. -/
def State.arbCopy (s : State) : Option Nat :=
  let c := fun i => s.flashRead (0x2000 + 0x1000 * i) 64
  let ok := fun i => byteNum (c i) 0 4 == 0x42524149 && ((c i).drop 16).take 48 == hmac384 s.duk ((c i).take 16)
  if s.dukOk then newerCopy (ok 0) (ok 1) (byteNum (c 0) 4 4) (byteNum (c 1) 4 4) else none

/-- The lowest accepted sec_version by the record. -/
def State.arbMin (s : State) (keeper : Bool) : Nat :=
  match s.arbCopy with
  | some i => byteNum (s.flashRead (0x2000 + 0x1000 * i) 64) (if keeper then 10 else 8) 2
  | none => 0

/-- The floor of R614. -/
def State.floor (s : State) (keeper : Bool) : Nat :=
  let v := (s.fuseVal (if keeper then 50 else 49)).toNat
  max (if v = 0 then 0 else Nat.log2 v + 1) (s.arbMin keeper)

/-- Keeper writes a new anti-rollback record that raises the minima (R615). -/
def State.writeArb (s : State) (m1 mk : Nat) : State :=
  let seq := match s.arbCopy with
    | some i => byteNum (s.flashRead (0x2000 + 0x1000 * i) 64) 4 4 + 1
    | none => 0
  let other := match s.arbCopy with
    | some i => 1 - i
    | none => 0
  let d := leBytes 4 0x42524149 ++ leBytes 4 seq ++ leBytes 2 (max m1 (s.arbMin false)) ++ leBytes 2 (max mk (s.arbMin true)) ++ [0, 0, 0, 0]
  (s.flashErase (0x2000 + 0x1000 * other) 4096).flashSet (0x2000 + 0x1000 * other) (d ++ hmac384 s.duk d)

/-- The byte offset of a slot: 0 A, 1 B, 2 golden. -/
def slotBase (k : Nat) : Nat := 0x100000 + 0x200000 * k

/-! ### Images (R602, R603) -/

/-- The header's fields lie within R602. -/
def headerOk (keeper : Bool) (b : List Byte) : Bool :=
  let len := byteNum b 8 4
  let tcm := byteNum b 12 4
  byteNum b 0 4 == 0x4D495A49 && byteNum b 4 2 == 1 && byteNum b 6 1 == (if keeper then 2 else 1) &&
  byteNum b 22 2 == 0 && ((b.drop 272).take 240).all (· == 0) &&
  len % 64 == 0 && decide (1 ≤ len) && decide (len ≤ if keeper then 1048064 else 65536) &&
  tcm % 64 == 0 && decide (tcm ≤ len) && (if keeper then decide (tcm ≤ 458752) else tcm == len) && decide (byteNum b 16 4 < tcm)

/-- The payload of an image. -/
def imgPayload (b : List Byte) : List Byte := (b.drop 512).take (byteNum b 8 4)

/-- The reason of R632 for which an image fails verification, 0 if it passes: the bytes from its header on. -/
def State.imageReason (s : State) (keeper : Bool) (b : List Byte) : Nat :=
  let k := byteNum b 7 1
  let key := (b.drop 80).take 96
  if b.length < 512 then 0x07
  else if !(headerOk keeper b) then 0x01
  else if (imgPayload b).length < byteNum b 8 4 then 0x07
  else if 4 ≤ k || !(s.keySet k) then 0x02
  else if (List.range 12).any (fun j => s.marginal (12 * k + j)) then 0x03
  else if sha384 key != s.keyHash k then 0x02
  else if s.keyRevoked k then 0x03
  else if !(ecdsaOk key (sha384 (b.take 176)) ((b.drop 176).take 96)) then 0x04
  else if sha384 (imgPayload b) != (b.drop 32).take 48 then 0x05
  else if byteNum b 20 2 < s.floor keeper then 0x06
  else 0

/-- The measurement of an image: SHA-384 of header and payload. -/
def imgMeasure (b : List Byte) : List Byte := sha384 (b.take 512 ++ imgPayload b)

def stage1Off : Nat := 0
def keeperOff : Nat := 0x20000

/-- The first image of a bundle that fails: its type (KEEPER) and reason. -/
def State.bundleReason (s : State) (b : List Byte) : Option (Bool × Nat) :=
  let r1 := s.imageReason false b
  let rk := s.imageReason true (b.drop keeperOff)
  if r1 ≠ 0 then some (false, r1) else if rk ≠ 0 then some (true, rk) else none

/-- A slot's bundle as read from the flash. -/
def State.slotBundle (s : State) (k : Nat) : List Byte := s.flashRead (slotBase k) 0x200000

/-- The part of a slot that an image of `n` payload bytes at `off` takes. -/
def State.slotImage (s : State) (k off : Nat) : List Byte :=
  let h := s.flashRead (slotBase k + off) 512
  h ++ s.flashRead (slotBase k + off + 512) (min (byteNum h 8 4) 1048064)

/-- Loads bytes into TCM. -/
def State.tcmLoad (s : State) (o : Nat) (d : List Byte) : State :=
  let f := d.zipIdx.foldl (fun m p => SMap.set (fun _ => 0) m (o + p.2) p.1) s.boot.tcm
  { s with boot := { s.boot with tcm := f } }

/-- The protected copy's first `n` bytes (R269), as they are stored. -/
def State.copyBytes (s : State) (o n : Nat) : List Byte := (List.range n).map fun i => s.calByte (s.calServe (o + i))

/-- Length of header and payload of the image in the protected copy. -/
def State.copyLen (s : State) : Nat := 512 + min (byteNum (s.copyBytes 0 512) 8 4) 1048064

/-! ### The repair log (R309) -/

/-- What Keeper's repair log holds: spare rows in use, relocations, tile states other than their start values. -/
def State.saveRepairs (s : State) : State :=
  { s with cal := { s.cal with
    logSpare := s.cal.spare
    logTiles := SMap.keep (fun t => (s.tile t).1 == 5 || (s.tile t).1 == 4 || decide (t < 360)) s.cal.tiles
    logRemap := (List.range 8).map fun n => s.reg (rCaldProtRemap n) } }

/-- Keeper applies the repair log at start-up. A tile that was RETIRING starts RETIRED. -/
def State.applyRepairs (s : State) : State :=
  let s := { s with cal := { s.cal with spare := s.cal.logSpare } }
  let s := forN 64 (fun b s =>
    let n := (s.cal.spare.filter fun p => p.1 / 1024 == b).length
    (s.setFld (rCaldBankStat b) 0 6 n).setBit (rCaldBankStat b) 6 (decide (32 ≤ n))) s
  let s := forN 8 (fun n s => s.setReg (rCaldProtRemap n) (s.cal.logRemap.getD n 0)) s
  s.cal.logTiles.foldl (fun s p => if p.2.1 = 4 || p.2.1 = 5 then s.retireTile p.1 else s.setTile p.1 p.2) s

/-! ### Reset of the device (R12, R598, R442) -/

/-- Every island but AON is reset: the state takes its reset values; what the AON island, the flash, the fuses and the TAP
hold stays, and the contents of the memories are undefined. `full` is a full device reset. -/
def State.devReset (s : State) (full : Bool) : State :=
  let s := if s.boot.phase = 6 then s.saveRepairs else s
  let z := State.reset
  let t : State := { z with
    pending := s.pending
    now := s.now
    freeCtr := s.freeCtr
    tap := s.tap
    fab := { z.fab with sent := s.fab.sent }
    spim := { poll := s.spim.cmd.any fun k => decide (2 ≤ k.op) && decide (k.op ≤ 4) }
    pwr := { z.pwr with
      en := s.pwr.en, seq := s.pwr.seq, seqAt := s.pwr.seqAt, entered := s.pwr.entered, next := s.pwr.next
      wakePin := s.pwr.wakePin, wakeAt := s.pwr.wakeAt, perstLow := s.pwr.perstLow, perstHeld := s.pwr.perstHeld }
    cal := { z.cal with
      epochs := (List.range 4).map fun q => (q, SMap.get (fun _ => 0) s.cal.epochs q + 1)
      hard := s.cal.hard, lmHard := s.cal.lmHard, pmSpare := s.cal.pmSpare
      logSpare := s.cal.logSpare, logTiles := s.cal.logTiles, logRemap := s.cal.logRemap }
    eng := (List.range 32).map fun e =>
      (e, { lmEpoch := (s.engine e).lmEpoch + 1, progEpoch := (s.engine e).progEpoch + 1 })
    boot := { z.boot with
      att := s.boot.att, lastSlot := s.boot.lastSlot, fails := s.boot.fails, backUntil := s.boot.backUntil
      starts := s.boot.starts, fullAt := if full then s.now else s.boot.fullAt
      fuses := s.boot.fuses, flash := s.boot.flash, audit := if full then [] else s.boot.audit } }
  let keep := fun (t : State) r => t.setReg r (s.reg r)
  let t := [rPwrDormCtrl, rPwrWakeTmr, rPwrWakeSrc].foldl keep t
  if full then t else [rTopRlfCnt, rTopRlfTimeLo, rTopRlfTimeHi, rSecAuditCnt, rNgxSession].foldl keep t

/-- A new session number (R555): derived from the AON counter and the identity words in a way that is not stated, so a
free value, other than the last one. -/
def State.newSession (s : State) (old : Nat) : State :=
  let (f, s) := s.draw
  let v := f.toNat % 65536
  let s := s.setFld rNgxSession 0 16 (if v = old then v + 1 else v)
  { s with boot := { s.boot with starts := s.boot.starts + 1 } }

/-- Step 1 of R597: the straps are sampled (R599, R702), the start count applied (R617), WAKE begins. -/
def State.startUp (s : State) (straps : BitVec 6) (reason : Nat) : State :=
  let att := min 3 (s.boot.att + 1)
  let held := s.boot.att == 3
  let s := { s with boot := { s.boot with att := att, phase := 1, reason := reason, wd := some s.now, bootDone := held } }
  let s := (s.setReg rBootStraps (BitVec.ofNat 32 straps.toNat)).setReg rBootStat (BitVec.ofNat 32 ((att - 1) * 2 ^ 7))
  let s := (s.setReg rTopModeReason (BitVec.ofNat 32 reason)).setBit rSpisStat 0 (straps.getLsbD 5)
  if straps.getLsbD 4 then (s.setBit rNgxStat 0 true).setBit rNgxStat 5 true
  else ((s.setBit rNgxStat 0 false).setBit rNgxStat 5 false).setFld rNgxCtrl 0 4 3

/-- A full device reset followed by step 1. `pme` keeps the PF's retained PME bits (R447). -/
def State.fullStart (s : State) (straps : BitVec 6) (reason : Nat) (pme : Bool) : State :=
  let old := s.rfld rNgxSession 0 16
  let t := (s.devReset true).newSession old
  let t := if pme then { t with pcie := { t.pcie with pmeEn := s.pcie.pmeEn, pmeStat := s.pcie.pmeStat } } else t
  t.startUp straps reason

/-- An internal boot reset, then step 1. -/
def State.bootReset (s : State) (straps : BitVec 6) (reason : Nat) : State := (s.devReset false).startUp straps reason

/-! ### Modes of start-up -/

/-- MINIMAL is entered (R585, R617, R623); D0 stops at the end of its tick (R50). -/
def State.enterMinimal (s : State) (reason : Nat) : State :=
  let s := s.modeDo reason fun s => { s with
    mode := { s.mode with started := false, boot := 4, recovery := false, selfTest := false, runPend := false }
    tick := { s.tick with idleAtEnd := s.mode.baseRun }
    boot := { s.boot with wd := none, cur := 0, left := [], phase := 2 } }
  s.histBegin 2 reason none

/-- AWAIT_IMAGE is entered (R601). -/
def State.enterAwait (s : State) : State :=
  s.modeDo 0x06 fun s => { s with
    mode := { s.mode with boot := 3 }
    boot := { s.boot with wd := none, att := 0, cur := 0, awaitAt := s.now, phase := 2 } }

end Sys2Proof.Machine
end

