-- ==== Sys2Proof/Machine/Spim.lean ====
section
/-! DEFINITION. The SPI master: flash commands, cache, combine buffer, PF commands (chapter 17). -/

namespace Sys2Proof.Machine

def State.modSpim (s : State) (f : SpimState → SpimState) : State := { s with spim := f s.spim }

/-! ### Replies of the SPI slave (R653) -/

/-- A request has been executed: its reply is held, with the flags due. -/
def State.spisAnswer (s : State) (op alive result data : Nat) : State :=
  let x := s.spis
  let flags := alive % 16 + (if x.bad then 16 else 0) + (if x.drop then 32 else 0) + (if x.unread then 128 else 0)
  let s := if x.unread then s.bump rSpisCnt 24 8 else s
  { s with spis := { x with reply := some (op, flags, result, data), unread := true, bad := false, drop := false, busy := none } }

/-! ### Cache (R639) -/

def State.cacheSet (s : State) (i : Nat) : List (Nat × List Byte) := SMap.get (fun _ => []) s.spim.cache i

def State.setCacheSet (s : State) (i : Nat) (l : List (Nat × List Byte)) : State :=
  s.modSpim fun x => { x with cache := SMap.set (fun _ => []) x.cache i l }

/-- Invalidates the lines that overlap bytes [a, a+n). -/
def State.cacheDrop (s : State) (a n : Nat) : State :=
  let hit := fun i (p : Nat × List Byte) => let b := 64 * (256 * p.1 + i); decide (b < a + n) && decide (a < b + 64)
  let k := (s.spim.cache.map fun q => (q.2.filter (hit q.1)).length).foldl (· + ·) 0
  let s := s.modSpim fun x => { x with
    cache := SMap.mapAll (fun _ => []) (fun i l => l.filter fun p => !(hit i p)) x.cache }
  s.bumpBy rSpimCache 16 16 k

/-- A hit: the byte, with its line moved to the front of its set. -/
def State.cacheHit (s : State) (a : Nat) : Option (Byte × State) :=
  let i := a / 64 % 256
  let l := s.cacheSet i
  match l.find? fun p => p.1 == a / 16384 with
  | none => none
  | some p => some (p.2.getD (a % 64) 0, s.setCacheSet i (p :: l.filter fun q => q.1 != p.1))

/-- A miss fills its line. -/
def State.cacheFill (s : State) (a : Nat) : Byte × State :=
  let d := s.flashRead (a / 64 * 64) 64
  let i := a / 64 % 256
  let s := s.bump rSpimCache 0 16
  (d.getD (a % 64) 0, s.setCacheSet i (((a / 16384, d) :: s.cacheSet i).take 4))

/-! ### Commands (R640 to R645) -/

def pfRead : Nat := 1
def pfProgram : Nat := 2
def pfErase4 : Nat := 3
def pfErase64 : Nat := 4
def pfStatus : Nat := 5
/-- Erase of a slot for the SPI slave's mailbox, and the programming of a bundle with its new boot control record. -/
def slotErase : Nat := 7
def slotWrite : Nat := 8

def State.flashSize (s : State) : Nat := 2 ^ s.rfld rSpimCfg 16 5

/-- The controller can start a command. -/
def State.spimFree (s : State) : Bool := s.spim.cmd.isNone && s.spim.held.isNone && !s.spim.poll

/-- The bytes that a command programs or erases. -/
def FlashCmd.range (k : FlashCmd) : Nat × Nat :=
  if k.op = pfProgram then (k.addr, k.data.length)
  else if k.op = pfErase4 then (k.addr / 4096 * 4096, 4096)
  else if k.op = pfErase64 then (k.addr / 65536 * 65536, 65536)
  else if k.op = slotErase || k.op = slotWrite then (k.addr, 0x200000)
  else (0, 0)

/-- Programming clears bits: the bytes of a page program. The bottom block is protected while SPIM_WP_N is low (R646). -/
def State.flashProgram (s : State) (a : Nat) (d : List Byte) : State :=
  if a < 0x10000 && !(s.rbit rSpimStat 2) then s
  else s.flashSet a (d.zipIdx.map fun p => p.1 &&& s.flashByte (a + p.2))

/-- What the flash does with a command. -/
def State.flashDo (s : State) (k : FlashCmd) : State :=
  if k.op = pfProgram then s.flashProgram k.addr k.data
  else if k.op = pfErase4 || k.op = pfErase64 || k.op = slotErase then
    (if k.range.1 < 0x10000 && !(s.rbit rSpimStat 2) then s else s.flashErase k.range.1 k.range.2)
  else if k.op = slotWrite then ((s.flashErase k.addr 0x200000).flashSet k.addr k.data).writeBcr ((k.addr - 0x100000) / 0x200000)
  else s

/-- Issues a command. -/
def State.spimIssue (s : State) (k : FlashCmd) : State :=
  let long := k.op != pfRead && k.op != pfStatus
  let s := (s.setBit rSpimStat 0 true)
  let s := if long then ((s.setBit rSpimStat 1 true).cacheDrop k.range.1 k.range.2).flashDo k else s
  s.modSpim fun x => { x with cmd := some { k with at' := s.now } }

/-- The controller takes the next request (R643). -/
def State.spimNext (s : State) : State :=
  if !s.spimFree then s
  else
    let best := s.spim.queue.foldl (fun (b : Option FlashCmd) k => match b with
      | none => some k
      | some c => if k.who < c.who then some k else some c) none
    match best with
    | none => s.setBit rSpimStat 0 false
    | some k => (s.modSpim fun x => { x with queue := x.queue.erase k }).spimIssue k

def State.spimReq (s : State) (k : FlashCmd) : State := (s.modSpim fun x => { x with queue := x.queue ++ [k] }).spimNext

/-- Bytes of the PF command buffer. -/
def State.pfBuf (s : State) (n : Nat) : List Byte :=
  (List.range n).map fun j => (s.reg (rSpimPfBuf (j / 4))).extractLsb' (8 * (j % 4)) 8

def State.setPfBuf (s : State) (d : List Byte) : State :=
  d.zipIdx.foldl (fun s p => s.setFld (rSpimPfBuf (p.2 / 4)) (8 * (p.2 % 4)) 8 p.1.toNat) s

/-- The PF command ends with a status. -/
def State.pfEnd (s : State) (st : Nat) : State :=
  let s := (s.setFld rSpimPfCmd 24 4 st).setBit rSpimPfCmd 31 false
  if st = 4 then s.setBit rSpimStat 10 true else s

/-- SPIM.PF_CMD with GO (R644, R645). -/
def State.pfGo (s : State) (op len : Nat) : State :=
  if s.rbit rSpimPfCmd 31 then s.setBit rSpimStat 11 true
  else
    let s := ((s.setFld rSpimPfCmd 0 3 op).setFld rSpimPfCmd 8 8 len).setFld rSpimPfCmd 24 4 0
    let a := s.rfld rSpimPfAddr 0 26
    let k : FlashCmd := { who := 3, op := op, addr := a, len := len + 1
                          data := if op = pfProgram then s.pfBuf (len + 1) else []
                          mask := List.replicate (len + 1) true }
    let r := if op = pfRead then (a, len + 1) else k.range
    let s := s.setBit rSpimPfCmd 31 true
    if op = 0 || 5 < op then s.pfEnd 4
    else if op != pfRead && op != pfStatus && r.1 < 0x10000 then s.pfEnd 1
    else if (op = pfProgram && 256 < a % 256 + len + 1) || (op != pfStatus && s.flashSize < r.1 + r.2) then s.pfEnd 4
    else s.spimReq k

def execFlashRead (len : Fin 256) (s : State) : Host.Outcome State Fault Refusal := .next (s.pfGo pfRead len.val)
def execFlashProgram (len : Fin 256) (s : State) : Host.Outcome State Fault Refusal := .next (s.pfGo pfProgram len.val)
def execErase4k (s : State) : Host.Outcome State Fault Refusal := .next (s.pfGo pfErase4 (s.rfld rSpimPfCmd 8 8))
def execErase64k (s : State) : Host.Outcome State Fault Refusal := .next (s.pfGo pfErase64 (s.rfld rSpimPfCmd 8 8))
def execFlashStatus (s : State) : Host.Outcome State Fault Refusal := .next (s.pfGo pfStatus (s.rfld rSpimPfCmd 8 8))

/-- A write to PF_CMD (R644): while BUSY, GO is ignored. -/
def State.pfCmdW (s : State) (v : Word) : State :=
  if bit v 31 then s.pfGo (fld v 0 3) (fld v 8 8) else (s.setFld rSpimPfCmd 0 3 (fld v 0 3)).setFld rSpimPfCmd 8 8 (fld v 8 8)

/-- A write to CFG (R648). -/
def State.spimCfgW (s : State) (v : Word) : State :=
  if s.rbit rSpimStat 0 then s.setBit rSpimStat 11 true else s.setReg rSpimCfg (v &&& 0x003FFFFF)

/-! ### The combine buffer and the window (R638 to R641) -/

/-- The combine buffer is flushed as one page program. -/
def State.combFlush (s : State) : State :=
  let at' := fun i => SMap.get (fun _ => none) s.spim.comb i
  let ws := (List.range 256).filter fun i => (at' i).isSome
  match ws with
  | [] => s
  | lo :: _ =>
    let hi := ws.getLastD lo
    let is := (List.range (hi + 1 - lo)).map (lo + ·)
    let k : FlashCmd := { who := 1, op := pfProgram, addr := 256 * s.spim.combPage + lo
                          data := is.map fun i => (at' i).getD 0xFF
                          mask := is.map fun i => (at' i).isSome }
    (s.modSpim fun x => { x with comb := [] }).spimReq k

/-- COMBINE_FLUSH. -/
def execCombineFlush (s : State) : Host.Outcome State Fault Refusal :=
  .next (if s.spim.combAt + 122880 ≤ s.now then s.combFlush else s)

/-- A read of the window, once the combine buffer is flushed. -/
def State.windowServe (s : State) (a : Nat) : State :=
  match s.cacheHit a with
  | some (b, s) => s.modSpim fun x => { x with kData := b }
  | none =>
    if s.spimFree then
      let (b, s) := s.cacheFill a
      s.modSpim fun x => { x with kData := b }
    else s.modSpim fun x => { x with reads := x.reads ++ [a] }

/-- WINDOW_READ. -/
def execWindowRead (a : Fin 67108864) (s : State) : Host.Outcome State Fault Refusal :=
  .next (if s.flashSize ≤ a.val then (s.setBit rSpimStat 10 true).modSpim fun x => { x with kData := 0 }
  else s.combFlush.windowServe a.val)

/-- WINDOW_WRITE. -/
def execWindowWrite (a : Fin 67108864) (v : BitVec 8) (s : State) : Host.Outcome State Fault Refusal :=
  let a := a.val
  .next (if s.flashSize ≤ a then s.setBit rSpimStat 10 true
  else
    let s := if s.spim.combPage = a / 256 then s else s.combFlush
    s.modSpim fun x => { x with
      combPage := a / 256, comb := SMap.set (fun _ => none) x.comb (a % 256) (some v), combAt := s.now })

/-! ### The end of a command (R640 to R642) -/

/-- Every byte that a program wrote reads back. -/
def State.verifyOk (s : State) (k : FlashCmd) : Bool :=
  (k.data.zip k.mask).zipIdx.all fun p => !p.1.2 || s.flashByte (k.addr + p.2) == p.1.1

/-- The flash is ready: waiting reads are served, and the next request is taken. -/
def State.spimAfter (s : State) : State :=
  let rs := s.spim.reads
  let s := s.modSpim fun x => { x with reads := [] }
  (rs.foldl State.windowServe s).spimNext

/-- A command ends with a status of R645; `st` is the flash's status byte. -/
def State.cmdEnds (s : State) (k : FlashCmd) (status : Nat) (st : Byte) : State :=
  let s := s.modSpim fun x => { x with cmd := none }
  let s := if k.op = pfStatus then s.setBit rSpimStat 1 (bit st 0) else s.setBit rSpimStat 1 (status == 2)
  if k.op = slotWrite then
    let s := s.setBit rBootMbxStat 2 false
    if status = 2 then s else { s with boot := { s.boot with att := 0 } }
  else if k.who = 3 then
    let s := if k.op = pfRead then s.setPfBuf (s.flashRead k.addr k.len) else if k.op = pfStatus then s.setPfBuf [st] else s
    s.pfEnd status
  else if k.who = 4 then
    match s.spis.busy with
    | some (op, alive) => s.spisAnswer op alive 0 0
    | none => s
  else s.modSpim fun x => { x with kFail := x.kFail || status == 2 || status == 3 }

/-- FLASH_READY: the busy bit clears; `st` is the status byte that RDSR returned. -/
def execFlashReady (st : BitVec 8) (s : State) : Host.Outcome State Fault Refusal :=
  .next (if s.spim.held.isSome then s
  else match s.spim.cmd with
  | none => (((s.modSpim fun x => { x with poll := false }).setBit rSpimStat 1 false).spimAfter)
  | some k =>
    let bad := k.op == pfProgram && s.rbit rSpimCfg 21 && !(s.verifyOk k)
    let s := if bad then s.setBit rSpimStat 8 true else s
    (s.cmdEnds k (if bad then 3 else 0) st).spimAfter)

/-- FLASH_TIMEOUT: PP_MS or ERASE_MS after the command was issued. -/
def execFlashTimeout (s : State) : Host.Outcome State Fault Refusal :=
  .next (match s.spim.cmd with
  | none => s
  | some k =>
    let ms := max 1 (if k.op = pfProgram then s.rfld rSpimTmo 0 8 else s.rfld rSpimTmo 8 12)
    if k.op = pfRead || k.op = pfStatus || s.now < k.at' + 1228800 * ms then s
    else (((s.setBit rSpimStat 9 true).cmdEnds k 2 0).modSpim fun x => { x with poll := true }))

/-! ### Reset of the controller (R647) -/

/-- The controller is held in reset in a recovery. -/
def State.spimReset (s : State) : State :=
  let long := match s.spim.cmd with
    | some k => k.op != pfRead && k.op != pfStatus
    | none => false
  let pf := s.rbit rSpimPfCmd 31
  let s := s.modSpim fun x => { x with
    cmd := none, queue := x.queue.filter fun k => k.who == 2, cache := [], comb := [], reads := []
    poll := x.poll || long, held := some s.now }
  let s := (s.setBit rSpimStat 0 false).setBit rSpimStat 2 false
  let s := { s with spis := { s.spis with busy := none } }
  if pf then s.pfEnd 5 else s

/-- SPIM_RELEASE: 10 µs after the Keeper core is held. -/
def execSpimRelease (s : State) : Host.Outcome State Fault Refusal :=
  .next (match s.spim.held with
  | some t => if t + 12288 ≤ s.now then (s.modSpim fun x => { x with held := none }).spimNext else s
  | none => s)

end Sys2Proof.Machine
end

