-- ==== Sys2Proof/Machine/Keeper.lean ====
section
/-! DEFINITION. Heartbeat, recovery, Relief (chapter 15). -/

namespace Sys2Proof.Machine

def State.modKeep (s : State) (f : KeepState → KeepState) : State := { s with keep := f s.keep }

def State.setRlf (s : State) (v : Nat) : State := s.setFld rTopRlfStat 0 3 v

/-- Bits of the clusters, as a list of numbers. -/
def clustersOf (m : BitVec 8) : List Nat := (List.range 8).filter m.getLsbD

/-! ### Self-test stopped by a recovery (R688) -/

/-- The sequencer stops at once: the touched clusters are reset, RESULT is ABORTED, no record is written. A TEST_RUN is
executed again after the rebuild. -/
def State.testAbort (s : State) : State :=
  match s.test.run with
  | none => s
  | some _ =>
    let s := (clustersOf s.test.touched).foldl State.clusterReset s
    let s := match s.test.desc with
      | some (c, q) => s.modDesc c q fun d => { d with started := false, granted := false }
      | none => s
    let s := (s.setBit rTestStat 0 false).setFld rTestStat 1 3 4
    { s with mode := { s.mode with selfTest := false }, test := { record := s.test.record } }

/-! ### Recovery (R577, R579, R584) -/

/-- A recovery is in progress: steps 1 to 7. -/
def State.recovering (s : State) : Bool := s.rlf == rlfReset || s.rlf == rlfLoad || s.rlf == rlfFlash || s.rlf == rlfRebuild

/-- Sixty seconds in FAB cycles. -/
def minute : Nat := 73728000000

/-- The recoveries that started within the last 60 s. -/
def State.recentStarts (s : State) : List Nat := s.keep.starts.filter fun t => decide (s.now < t + minute)

/-- Steps 1 to 3 of R579. -/
def State.recoverySteps (s : State) (reason : Nat) : State :=
  let prev := if s.mode.recovery then s.rfld rTopRlfStat 8 4 else s.modeUnder
  let first := !s.mode.recovery
  let s := (s.setBit rTopRlfStat 3 true).setFld rTopRlfStat 8 4 prev
  let s := s.setRlf rlfReset
  let s := s.testAbort
  let s := if first then s.modeDo reason fun s => { s with mode := { s.mode with recovery := true } }
    else s.setFld rTopModeReason 0 8 reason
  let s := s.lanternHead
  let s := if first then s.histBegin 1 reason none else s
  let s := s.spimReset
  let s := s.xEmpty fun a b => a == 12 || b == 12
  let s := { s with fab := { s.fab with outq := s.fab.outq.filter fun r => r.master != 99 } }
  let s := s.setReg64 rTopRlfTimeLo ((s.now - s.boot.fullAt) * 10 / 12288)
  let s := s.setFld rTopRlfStat 4 1 0
  { s with
    keep := { s.keep with trigAt := s.now, waitFirst := false, halted := false }
    pwr := { s.pwr with op := none } }

/-- A trigger of R577. In FAULT, in MINIMAL and before firmware has first reached IDLE none is acted on. -/
def State.startRecovery (s : State) (reason : Nat) : State :=
  if !s.mode.started || s.rlf == rlfFault || s.rlf == rlfMinimal then s
  else
    let recent := s.recentStarts
    let s := s.modKeep fun x => { x with starts := s.now :: recent }
    let s := s.bump rTopRlfCnt 0 16
    let s := s.setFld rTopRlfCnt 16 2 (min 2 (recent.length + 1))
    if recent.length < 2 then s.recoverySteps reason
    else ((s.recoverySteps 0x26).enterMinimal 0x26).setRlf rlfMinimal

/-! ### Heartbeat (R576 to R578) -/

/-- Relief watches the heartbeat. -/
def State.watching (s : State) : Bool :=
  s.mode.started && (s.rlf == rlfWatch || s.rlf == rlfRebuild) && !(s.rbit rTopRlfStat 4)

/-- HEARTBEAT. -/
def execHeartbeat (s : State) : Host.Outcome State Fault Refusal :=
  .next (if !s.keeperRuns then s
  else
    let s := (s.count rTopRlfHb 0 16).setFld rTopRlfHb 16 2 0
    s.modKeep fun x => { x with hbAt := s.now, waitFirst := false })

/-- 10.2 ms in FAB cycles. -/
def tMiss : Nat := 12533760

/-- HEARTBEAT_MISS. -/
def execHeartbeatMiss (s : State) : Host.Outcome State Fault Refusal :=
  .next (if !s.watching || s.keep.waitFirst || s.now < s.keep.hbAt + tMiss then s
  else
    let s := s.modKeep fun x => { x with hbAt := x.hbAt + tMiss }
    let n := s.rfld rTopRlfHb 16 2 + 1
    let s := s.setFld rTopRlfHb 16 2 (min 2 n)
    if 2 ≤ n then s.startRecovery 0x20 else s)

/-- FIRST_HEARTBEAT_TIMEOUT: 100 ms after Keeper's release. -/
def execFirstHeartbeatTimeout (s : State) : Host.Outcome State Fault Refusal :=
  .next (if s.watching && s.keep.waitFirst && decide (s.keep.released + 122880000 ≤ s.now) then s.startRecovery 0x20 else s)

def execKeeperFault (s : State) : Host.Outcome State Fault Refusal := .next (s.startRecovery 0x21)

def execTcmUe (s : State) : Host.Outcome State Fault Refusal := .next (s.startRecovery 0x22)

def execKeeperPoison (s : State) : Host.Outcome State Fault Refusal := .next (s.startRecovery 0x23)

/-- TOP.RLF_CTRL written (R592). -/
def State.rlfCtrlW (s : State) (v : Word) : State :=
  let s := if bit v 31 then s.setBit rTopRlfCtrl 31 false else s
  if !(bit v 0) then s
  else if s.recovering || s.rlf == rlfFault then s.setBit rTopRlfCtrl 31 true
  else s.startRecovery 0x24

/-- RESTART. -/
def execRestart (s : State) : Host.Outcome State Fault Refusal := .next (s.rlfCtrlW 1)

/-- The debug session halts Keeper, or releases it (R578). -/
def State.haltKeeper (s : State) (on : Bool) : State :=
  if on then (s.setBit rTopRlfStat 4 true).modKeep fun x => { x with halted := true }
  else if s.keep.halted then (s.setBit rTopRlfStat 4 false).modKeep fun x => { x with halted := false, hbAt := s.now, released := s.now }
  else s

/-! ### Steps 4 to 7 (R580 to R582) -/

/-- The digest that the SEC block holds for the running image. -/
def State.fwDigest (s : State) : List Byte := s.bytes48 rSecFwDigest

/-- Keeper leaves reset at the firmware's restart entry. -/
def State.releaseKeeper (s : State) (img : List Byte) : State :=
  let s := s.tcmLoad 0 ((imgPayload img).take (byteNum img 12 4))
  (s.setRlf rlfRebuild).modKeep fun x => { x with waitFirst := true, released := s.now, hbAt := s.now }

/-- COPY_CHECK: at the earliest the copy fails on its words' errors as Relief reads them. -/
def execCopyCheck (s : State) : Host.Outcome State Fault Refusal :=
  .next (if s.rlf != rlfReset && s.rlf != rlfLoad then s
  else
    let (d, ue, s) := s.calRead 0 s.copyLen 98
    if !ue && sha384 d == s.fwDigest then s.releaseKeeper d else s.setRlf rlfFlash)

/-- FLASH_RELOAD: the active slot's image; `readable` says that the flash could be read. -/
def execFlashReload (readable : Bool) (s : State) : Host.Outcome State Fault Refusal :=
  .next (if s.rlf != rlfFlash || s.spim.held.isSome then s
  else
    let img := s.slotImage s.activeSlot keeperOff
    if readable && s.imageReason true img == 0 && imgMeasure img == s.fwDigest then
      ((s.calStore 0 img 98).setFld rTopModeReason 0 8 0x27).releaseKeeper img
    else (s.enterMinimal 0x28).setRlf rlfMinimal)

/-- REBUILD_END: fetching resumes, and the control descriptors under way begin again (R379, R581, R582). -/
def execRebuildEnd (s : State) : Host.Outcome State Fault Refusal :=
  .next (if s.rlf != rlfRebuild then s
  else
    let s := (s.setRlf rlfWatch).setBit rTopRlfStat 3 false
    let s := forN 512 (fun c s => s.modContext c fun x => { x with opens := x.opens.map fun d =>
      if d.typ = tPowerSet && !d.mark && d.result.isNone then { d with started := false, granted := false } else d }) s
    let n := s.rfld rTopRlfCnt 0 16
    let s := s.modeDo 0x25 fun s => { s with mode := { s.mode with recovery := false } }
    let s := s.histEnd 1
    forN 512 (fun c s => if s.ctxState c = 1 || s.ctxState c = 3 then (s.logEvent c 0x40 0xFF 0xFF n).fetchNext c else s) s)

/-! ### Relief's own failure (R587, R588) -/

/-- TMR_VOTE: 0 the copies agree, 1 one of them differs, 2 no two agree, 3 the voter's self-check fails. -/
def execTmrVote (bad : Fin 4) (s : State) : Host.Outcome State Fault Refusal :=
  .next (match bad.val with
  | 0 => s
  | 1 => s.bump rTopRlfStat 16 8
  | _ =>
    if s.rlf = rlfFault then s
    else
      let s := (s.setRlf rlfFault).setBit rTopRlfStat 3 true
      let s := (s.aer 0 aerInternal).setFld rTopModeReason 0 8 0x2F
      (s.histBegin 3 0x2F none).lantern)

/-- FAULT_N is driven low (R588, R679). -/
def State.faultPin (s : State) : Bool := s.rlf == rlfFault || s.pwr.tripPin

end Sys2Proof.Machine
end

