-- ==== Sys2Proof/Machine/Boot.lean ====
section
/-! DEFINITION. Start-up, images, update, fuses, debug unlock, MINIMAL (chapter 16). -/

namespace Sys2Proof.Machine

def State.modBoot (s : State) (f : BootState → BootState) : State := { s with boot := f s.boot }

/-! ### Start-up (R597 to R603) -/

/-- The slots in the order in which the flash source yields them (R611): BOOT.STAT.SOURCE codes. -/
def State.slotOrder (s : State) : List Nat :=
  let a := s.activeSlot
  if !(s.rbit rBootStraps 3) && !(bit (s.fuseVal 48) 13) then [3]
  else
    let l := [1 + a, 2 - a, 3]
    match s.boot.lastSlot with
    | some k =>
      if s.rfld rBootStat 7 2 = 0 then l
      else
        let i := l.findIdx (· == k + 1)
        l.drop (i + 1) ++ l.take (i + 1)
    | none => l

/-- The sources of a boot order (R600). -/
def State.orderSources (s : State) (o : Nat) : List Nat :=
  let f := s.slotOrder
  match o with
  | 0 => f ++ [4]
  | 1 => f ++ [6, 4]
  | 2 => 4 :: f
  | 3 => 6 :: f
  | 4 => f
  | 5 => [4]
  | 6 => [6]
  | _ => 5 :: f ++ [4]

/-- BOOT_ROM_START: steps 2 and 3 of R597. `freq` is the REFCLK frequency found, `odd` the fuse words whose reads are not all
as programmed. -/
def execBootRomStart (freq : Fin 4) (odd : List FuseRead) (s : State) : Host.Outcome State Fault Refusal :=
  .next (if s.boot.phase != 1 || s.pwr.perstHeld && s.boot.reason == 2 || s.tap.held then s
  else
    let s := ((s.setFld rClkRefStat 0 2 freq.val).setBit rClkRefStat 8 true).acquire 2
    let s := s.readFuses odd
    let lock := s.fuseVal 48
    let o := if bit lock 9 then fld lock 10 3 else s.rfld rBootStraps 0 3
    let s := (s.setFld rBootStat 4 3 o).setBit rBootStat 9 (bit lock 9)
    let s := s.extendDay 3 (sha384 (leBytes 4 (s.reg rBootStraps).toNat ++ leBytes 1 o ++ leBytes 4 lock.toNat ++
      leBytes 4 (s.reg rBootFuseStat).toNat))
    if s.boot.bootDone then s.enterMinimal 0x07
    else
      let s := { s with mode := { s.mode with boot := 2 } }
      s.modBoot fun x => { x with phase := 2, left := s.orderSources o })

/-- An image of the start-up that fails is recorded, and the next source is tried (R601, R630). -/
def State.sourceFails (s : State) (keeper : Bool) (reason : Nat) : State :=
  let d := if 1 ≤ s.boot.cur && s.boot.cur ≤ 3 then s.boot.cur - 1 else 3
  let s := s.audit reason 8 0 0 (d + if keeper then 256 else 0)
  s.modBoot fun x => { x with cur := 0, phase := 2, img := [] }

/-- The bundle's image at an offset, from the source in hand. -/
def State.sourceImage (s : State) (off : Nat) : List Byte :=
  let c := s.boot.cur
  if 1 ≤ c && c ≤ 3 then s.slotImage (c - 1) off else if c = 6 then s.boot.img else s.boot.img.drop off

/-- Verifies the stage-1 image of the source in hand. -/
def State.tryStage1 (s : State) : State :=
  match s.imageReason false (s.sourceImage stage1Off) with
  | 0 => s.modBoot fun x => { x with phase := 3 }
  | r => s.sourceFails false r

/-- The ROM asks the master for further pieces, at most 16 at a time (R562). -/
def State.bootAsk (s : State) : State :=
  if s.boot.cur != 6 || s.boot.phase != 2 || s.rfld rNgxStat 11 2 != 3 then s
  else forN 16 (fun _ s =>
    let got := s.boot.img.length
    let total := if got < 512 then 512 else 512 + min (byteNum s.boot.img 8 4) 1048064
    let o := s.boot.bootNext
    if total ≤ o || 16 * 112 ≤ o - got then s
    else
      let n := min 112 (total - o)
      (s.ngxSend { kind := 0x20, dst := 0, payload := [BitVec.ofNat 32 o, BitVec.ofNat 32 n] }).modBoot fun x =>
        { x with bootNext := o + n }) s

/-- BOOT_SOURCE_TRY: the next source. `quad` says that the flash answers quad reads (R637). -/
def execBootSourceTry (quad : Bool) (s : State) : Host.Outcome State Fault Refusal :=
  .next (if s.boot.phase != 2 || s.boot.cur != 0 || s.mode.boot != 2 then s
  else if !((List.range 4).any s.keyUsable) then s.enterMinimal 0x09
  else match s.boot.left with
  | [] => s.enterAwait
  | c :: rest =>
    let s := s.modBoot fun x => { x with left := rest }
    if c = 4 || c = 5 then s.enterAwait
    else
      let s := s.modBoot fun x => { x with cur := c, cascAt := s.now, img := [], bootNext := 0 }
      if c = 6 then (s.setReg rNgxBootStat 0).bootAsk
      else
        let s := (s.setFld rSpimCfg 0 10 (if quad then 37 else 196)).setBit rSpimCfg 10 quad
        (s.setFld rSpimCfg 11 4 6).tryStage1)

/-- STAGE1_START. -/
def execStage1Start (s : State) : Host.Outcome State Fault Refusal :=
  .next (if s.boot.phase != 3 then s
  else
    let img := s.sourceImage stage1Off
    let s := (s.extendDay 0 (imgMeasure img)).tcmLoad 0x70000 (imgPayload img)
    s.modBoot fun x => { x with
      phase := 4, stage1Ver := byteNum img 20 2
      lastSlot := if 1 ≤ x.cur && x.cur ≤ 3 then some (x.cur - 1) else none })

/-- KEEPER_IMAGE_START: the Keeper image of the source in hand. From a cascade master the ROM itself verifies it. -/
def execKeeperImageStart (s : State) : Host.Outcome State Fault Refusal :=
  .next (if s.boot.phase != 4 then s
  else
    let img := s.sourceImage keeperOff
    match s.imageReason true img with
    | 0 =>
      let s := if s.boot.cur = 6 then s.extendDay 0 (List.replicate 48 0) else s
      let m := imgMeasure img
      let s := ((s.calStore 0 (img.take 512 ++ imgPayload img) 99).setBytes48 rSecFwDigest m).extendDay 1 m
      let s := (s.setFld rBootStat 0 4 s.boot.cur).tcmLoad 0 ((imgPayload img).take (byteNum img 12 4))
      s.modBoot fun x => { x with
        phase := 5, keeperVer := byteNum img 20 2, keyIdx := byteNum img 7 1
        lastSlot := if x.cur = 6 then none else x.lastSlot }
    | r => s.sourceFails true r)

/-- Keeper writes the measured PLL bands, unless a trim word is marginal or none has been programmed (R621). -/
def State.writeBands (s : State) : State :=
  if (List.range 16).any (fun i => s.marginal (64 + i)) || (List.range 16).all (fun i => s.fuseVal (64 + i) == 0) then s
  else forN 16 (fun i s => s.setReg (rClkBand i) (s.fuseVal (64 + i) &&& 0xBFFFFFFF)) s

/-- KEEPER_INIT_DONE: step 6 of R597. -/
def execKeeperInitDone (s : State) : Host.Outcome State Fault Refusal :=
  .next (if s.boot.phase != 5 then s
  else
    let c := s.boot.cur
    let s := s.writeBands.applyRepairs
    let s := if (c = 1 || c = 2) && s.activeSlot + 1 != c then s.writeBcr (c - 1) else s
    let s := s.modBoot fun x => { x with phase := 6, att := 0, wd := none, img := [] }
    let s := s.modKeep fun x => { x with hbAt := s.now, released := s.now, waitFirst := true, lanAt := s.now }
    s.modeDo (if s.rfld rBootFuseStat 0 8 = 0 then 0x05 else 0x08) fun s => { s with mode := { s.mode with started := true, boot := 2 } })

/-- BOOT_WATCHDOG: 900 ms. -/
def execBootWatchdog (straps : BitVec 6) (s : State) : Host.Outcome State Fault Refusal :=
  .next (match s.boot.wd with
  | some t => if t + 1105920000 ≤ s.now then s.bootReset straps s.boot.reason else s
  | none => s)

/-- From AWAIT_IMAGE back to VERIFY; the watchdog runs again. -/
def State.verifyAgain (s : State) (reason : Nat) : State :=
  s.modeDo reason fun s => { s with
    mode := { s.mode with boot := 2 }, boot := { s.boot with wd := some s.now, cur := 0, phase := 2 } }

/-- AWAIT_IMAGE_TIMEOUT: 2 s, while a later source remains. -/
def execAwaitImageTimeout (s : State) : Host.Outcome State Fault Refusal :=
  .next (if s.mode.boot = 3 && !s.mode.started && !s.boot.left.isEmpty && decide (s.boot.awaitAt + 2457600000 ≤ s.now) then
    s.verifyAgain 0x06
  else s)

/-- CASCADE_UP_TIMEOUT: 200 ms without RX_STATE = UP, or the image cannot be had. -/
def execCascadeUpTimeout (s : State) : Host.Outcome State Fault Refusal :=
  .next (if s.boot.cur = 6 && s.boot.phase = 2 && s.rfld rNgxStat 11 2 != 3 && decide (s.boot.cascAt + 245760000 ≤ s.now) then
    s.sourceFails true 0x07
  else s)

/-- FAIL_CLR. -/
def execFailClr (s : State) : Host.Outcome State Fault Refusal := .next (s.modBoot fun x => { x with att := 0 })

/-! ### Requests with a fixed time (R612, R615, R616, R624, R629) -/

/-- The mode is IDLE, RUN or RUN_REDUCED. -/
def State.quietMode (s : State) : Bool := [5, 6, 7].contains s.modeCode

/-- The audit detail of an image: slot, image type. -/
def imgDetail (slot : Nat) (r : Bool × Nat) : Nat := slot + if r.1 then 256 else 0

/-- BOOT.UPD written with GO. -/
def State.updGo (s : State) (slot : Nat) : State :=
  if s.rbit rBootUpd 0 then s
  else
    let s := (s.setFld rBootUpd 0 3 (1 + 2 * slot))
    if !s.keeperRuns || slot = s.activeSlot then
      s.modBoot fun x => { x with upd := some { at' := s.now, ok := false, reason := 0x19, detail := slot } }
    else match s.bundleReason (s.slotBundle slot) with
    | none => (s.writeBcr slot).modBoot fun x => { x with upd := some { at' := s.now, ok := true } }
    | some r => s.modBoot fun x => { x with upd := some { at' := s.now, ok := false, reason := r.2, detail := imgDetail slot r } }

/-- UPD. -/
def execUpd (slot : Fin 2) (s : State) : Host.Outcome State Fault Refusal := .next (s.updGo slot.val)

/-- BOOT.ARB written with GO. -/
def State.arbGo (s : State) (fuse : Bool) : State :=
  if s.rbit rBootArb 0 then s
  else
    let s := s.setFld rBootArb 0 3 (1 + if fuse then 2 else 0)
    let no := fun r => s.modBoot fun x => { x with arb := some { at' := s.now, ok := false, reason := r } }
    if !s.quietMode then no 0x19
    else if !fuse && !s.dukOk then no 0x1A
    else
      let b := s.boot
      let up := fun (w : Word) v => w ||| BitVec.ofNat 32 (2 ^ min v 32 - 1)
      let s := if fuse then s.modBoot fun x => { x with
          fuses := SMap.set (fun _ => 0) (SMap.set (fun _ => 0) x.fuses 49 (up (s.fuse 49) b.stage1Ver)) 50 (up (s.fuse 50) b.keeperVer) }
        else s.writeArb b.stage1Ver b.keeperVer
      s.modBoot fun x => { x with arb := some { at' := s.now, ok := true } }

def execArbRecord (s : State) : Host.Outcome State Fault Refusal := .next (s.arbGo false)

def execArbFuse (s : State) : Host.Outcome State Fault Refusal := .next (s.arbGo true)

/-- BOOT.OTP_PGM written with GO. -/
def State.otpGo (s : State) (w : Nat) : State :=
  if s.rbit rBootOtpPgm 31 then s
  else
    let s := ((s.setFld rBootOtpPgm 0 7 w).setBit rBootOtpPgm 30 false).setBit rBootOtpPgm 31 true
    let d := s.reg rBootOtpData
    let no := fun r => s.modBoot fun x => { x with otp := some { at' := s.now, ok := false, reason := r, detail := w } }
    if !s.quietMode then no 0x19
    else if !(w == 48 || decide (112 ≤ w)) || (w = 48 && bit d s.boot.keyIdx) then no 0x1A
    else
      let v := s.fuse w ||| d
      s.modBoot fun x => { x with fuses := SMap.set (fun _ => 0) x.fuses w v, otp := some { at' := s.now, ok := true } }

/-- OTP_PGM. -/
def execOtpPgm (w : Fin 128) (s : State) : Host.Outcome State Fault Refusal := .next (s.otpGo w.val)

/-- BOOT.MBX_CMD written with GO, or MBX_GO of the SPI slave: while BUSY it is ignored. The bundle has still to be read. -/
def State.mbxGo (s : State) (boot write spis : Bool) (len : Nat) : State :=
  if s.rbit rBootMbxStat 0 then s
  else
    let s := (s.setBit rBootMbxStat 0 true).setBit rBootMbxStat 1 false
    s.modBoot fun x => { x with mbx := some { at' := s.now, ok := false, boot := boot, write := write, spis := spis, waits := true, len := len
                                              reason := 0x07, detail := 3 } }

/-- The bundle of the mailbox has been read, or could not be: both images are checked. -/
def State.mbxRead (s : State) (b : Option (List Byte)) : State :=
  match s.boot.mbx with
  | none => s
  | some k =>
    let k := { k with waits := false }
    let k := if k.boot && s.modeCode != 3 then { k with reason := 0x19 }
      else match b with
      | none => k
      | some b => match s.bundleReason b with
        | none => { k with ok := true, bundle := b }
        | some r => { k with reason := r.2, detail := imgDetail 3 r }
    s.modBoot fun x => { x with mbx := some k }

/-- A mailbox request waits for its bundle; `boot` is its BOOT bit. -/
def State.mbxWaits (s : State) (boot : Bool) : Bool :=
  match s.boot.mbx with
  | some k => k.waits && k.boot == boot
  | none => false

/-- The bundle that the mailbox's source holds: the SPI slave's is the inactive slot (R651). -/
def State.mbxBundle (s : State) (data : List Byte) (ok : Bool) : Option (List Byte) :=
  match s.boot.mbx with
  | some k => if k.spis then some ((s.slotBundle (1 - s.activeSlot)).take k.len) else if ok then some (data.take k.len) else none
  | none => none

/-- MBX_BOOT: the bundle of a GO with BOOT = 1; `data` is what the host memory holds, `ok` that the reads succeed. -/
def execMbxBoot (data : List (BitVec 8)) (ok : Bool) (s : State) : Host.Outcome State Fault Refusal :=
  .next (if s.mbxWaits true then s.mbxRead (s.mbxBundle data ok) else s)

/-- MBX_WRITE: the bundle of a GO with BOOT = 0. -/
def execMbxWrite (data : List (BitVec 8)) (ok : Bool) (s : State) : Host.Outcome State Fault Refusal :=
  .next (if s.mbxWaits false then s.mbxRead (s.mbxBundle data ok) else s)

/-- A mailbox bundle has passed (R616). -/
def State.mbxPass (s : State) (k : FixOp) : State :=
  let s := if !k.write then s
    else if k.spis then (s.writeBcr (1 - s.activeSlot)).modBoot fun x => { x with att := 0 }
    else
      let slot := 1 - s.activeSlot
      (s.setBit rBootMbxStat 2 true).spimReq { who := 2, op := slotWrite, addr := slotBase slot, data := k.bundle }
  if k.boot && s.modeCode = 3 then
    let s := s.verifyAgain 0x04
    (s.modBoot fun x => { x with cur := if k.spis then 5 else 4, img := k.bundle }).tryStage1
  else s

/-! ### Debug unlock (R625 to R628) -/

/-- NEW_CHAL: a write to DBG_REQ with NEW_CHAL. The challenge is random: free values. -/
def State.newChal (s : State) (level key : Nat) : State :=
  let s := (s.setFld rSecDbgReq 0 2 level).setFld rSecDbgReq 4 2 key
  let s := forN 12 (fun j s => let (f, s) := s.draw; s.setReg (rSecDbgChal j) (f.setWidth 32)) s
  s.modBoot fun x => { x with chalAt := s.now, chalOk := true }

def execNewChal (level key : Fin 4) (s : State) : Host.Outcome State Fault Refusal := .next (s.newChal level.val key.val)

/-- The first condition of R626 that fails, 0 if all hold. -/
def State.dbgReason (s : State) : Nat :=
  let level := s.rfld rSecDbgReq 0 2
  let k := s.rfld rSecDbgReq 4 2
  let lock := s.fuseVal 48
  let resp := (List.range 48).flatMap fun j => leBytes 4 (s.reg (rSecDbgResp j)).toNat
  let key := resp.take 96
  let die := (List.range 4).flatMap fun j => leBytes 4 (s.fuseVal (96 + j)).toNat
  let msg := sha384 (s.bytes48 rSecDbgChal ++ die ++ leBytes 1 level ++ leBytes 1 k)
  if bit lock 8 then 0x10
  else if s.now < s.boot.backUntil then 0x11
  else if !s.boot.chalOk || s.boot.chalAt + 73728000000 ≤ s.now then 0x12
  else if !(s.keySet k) then 0x02
  else if s.keyRevoked k then 0x03
  else if !(bit lock (4 + k)) then 0x14
  else if sha384 key != s.keyHash k then 0x02
  else if level = 0 || fld lock 14 2 < level then 0x13
  else if !(ecdsaOk key msg (resp.drop 96)) then 0x04
  else if !([3, 4, 5, 6, 7, 8, 0xB].contains s.modeCode) then 0x19
  else 0

/-- SEC.DBG_CMD.GO: the response is submitted. -/
def State.dbgGo (s : State) (jtag : Bool) : State :=
  if s.rbit rSecDbgStat 0 then s
  else
    let r := s.dbgReason
    let chal := s.bytes48 rSecDbgChal
    let s := s.setBit rSecDbgStat 0 true
    s.modBoot fun x => { x with
      chalOk := false, dbgFrom := if jtag then 1 else 0
      dbg := some { at' := s.now, ok := decide (r = 0), reason := r, bundle := chal
                    detail := s.rfld rSecDbgReq 4 2 + 16 * s.rfld rSecDbgReq 0 2 } }

def execDbgGo (jtag : Bool) (s : State) : Host.Outcome State Fault Refusal := .next (s.dbgGo jtag)

/-- The result of a debug unlock. -/
def State.dbgResult (s : State) (k : FixOp) : State :=
  let s := (s.setBit rSecDbgStat 0 false).setBit rSecDbgStat 2 (!k.ok)
  if k.ok then
    let s := s.modBoot fun x => { x with fails := 0, backUntil := 0 }
    let level := k.detail / 16
    let s := ((s.setBit rSecDbgStat 1 true).setFld rSecDbgStat 4 2 level).setFld rSecDbgStat 16 5 0
    let s := s.extendDay 4 (sha384 (k.bundle ++ leBytes 1 level ++ leBytes 1 (k.detail % 16)))
    s.modeDo 0x31 fun s => { s with mode := { s.mode with session := true } }
  else
    let s := s.audit k.reason s.boot.dbgFrom 0 0 k.detail
    if k.reason = 0x11 then s
    else
      let n := min 31 (s.boot.fails + 1)
      let s := s.setFld rSecDbgStat 16 5 n
      s.modBoot fun x => { x with fails := n, backUntil := s.now + min (2 ^ (n - 1)) 3600 * 1228800000 }

/-- SEC.DBG_CMD.CLOSE (R628). -/
def State.dbgClose (s : State) : State :=
  if !s.mode.session then s
  else
    let s := ((s.setBit rSecDbgStat 1 false).setFld rSecDbgStat 4 2 0).haltKeeper false
    s.modeDo 0x32 fun s => { s with mode := { s.mode with session := false } }

def execDbgClose (s : State) : Host.Outcome State Fault Refusal := .next s.dbgClose

/-- CHALLENGE_EXPIRY. -/
def execChallengeExpiry (s : State) : Host.Outcome State Fault Refusal :=
  .next (if s.boot.chalAt + 73728000000 ≤ s.now then s.modBoot fun x => { x with chalOk := false } else s)

/-! ### Results at their fixed time (R629) -/

/-- A request's time has come: its audit entry if it is refused. -/
def State.fixAudit (s : State) (k : FixOp) (source : Nat) : State := if k.ok then s else s.audit k.reason source 0 0 k.detail

/-- FIXED_TIME_RESULT: 0 debug unlock, 1 fuse programming, 2 BOOT.UPD, 3 BOOT.ARB, 4 the image mailbox. -/
def execFixedTimeResult (op : Fin 5) (s : State) : Host.Outcome State Fault Refusal :=
  let due := fun (k : Option FixOp) ms => k.filter fun k => decide (k.at' + 1228800 * ms ≤ s.now)
  match op.val with
  | 0 => match due s.boot.dbg 50 with
    | some k => .next ((s.modBoot fun x => { x with dbg := none }).dbgResult k)
    | none => .next s
  | 1 => match due s.boot.otp 50 with
    | some k => .next ((((s.modBoot fun x => { x with otp := none }).setBit rBootOtpPgm 31 false).setBit rBootOtpPgm 30 (!k.ok)).fixAudit k 6)
    | none => .next s
  | 2 => match due s.boot.upd 1000 with
    | some k => .next ((((s.modBoot fun x => { x with upd := none }).setBit rBootUpd 0 false).setBit rBootUpd 2 (!k.ok)).fixAudit k 4)
    | none => .next s
  | 3 => match due s.boot.arb 1000 with
    | some k => .next ((((s.modBoot fun x => { x with arb := none }).setBit rBootArb 0 false).setBit rBootArb 2 (!k.ok)).fixAudit k 5)
    | none => .next s
  | _ => match due s.boot.mbx 1000 with
    | some k =>
      let s := ((s.modBoot fun x => { x with mbx := none }).setBit rBootMbxStat 0 false).setBit rBootMbxStat 1 (!k.ok)
      let s := s.fixAudit k (if k.spis then 3 else 2)
      .next (if k.ok then s.mbxPass k else s)
    | none => .next s

/-! ### The audio path of MINIMAL (R618) -/

/-- The stream of the MINIMAL path. Its FIFO's place, in FREE memory, and its size are the model's. -/
def State.minStream (s : State) : Stream :=
  { ctx := 0, ring := 0, capture := false, media := false, dom := 0, rate := 0, chans := 2
    fmt := if s.rbit rBootMinCfg 4 then 3 else 0, layout := 0, burst := 6, share := 1024, mics := 0, flog := 9, fq := 360 * 256
    base := s.reg64 rBootMinRingLo, size := 2 ^ clampN 4 16 (s.rfld rBootMinCfg 0 4)
    st := 2, tokens := 2 * costBytes 4096 * 65536 }

/-- Takes a part of BAR0 back to its reset values. -/
def State.resetBlock (s : State) (lo hi : Nat) : State :=
  { s with regs := SMap.keep (fun k => !(decide (lo ≤ k) && decide (k < hi))) s.regs }

/-- The data plane is reconfigured for MINIMAL: D0 at 48 kHz from PLL-A, stream ring 0 of CTX0 to DAC0, DAC1 and TDM0. -/
def State.minStart (s : State) : State :=
  let cons := s.reg rBootMinCons
  let s := ((s.resetBlock 0x0A0000 0x0C0000).resetBlock 0x0D0000 0x0F0000).resetBlock 0x020800 0x0208A0
  let s := { s with route := {}, mov := {}, port := {}, tick := {} }
  let s := (s.setReg (rClkPllCtrl 0) 0x6000).pllCtrlW 0 0x6001
  let s := s.setStream 0 (some { s.minStream with prod := cons, cons := cons })
  let s := (s.setReg (rPortTdmTxmask 0) 3).tdmCfgW 0 0x00141807
  let s := (s.convGrpW 0 8).setFld rBootMinStat 0 8 2
  let cross := fun n a b (s : State) => s.setXp n { src := a, sink := b, st := 1, ramp := { cur := 0x40000000 } }
  let s := cross 0 0x8000 0x0C00 (cross 1 0x8000 0x0000 (cross 2 0x8001 0x0C01 (cross 3 0x8001 0x0001 s)))
  let s := (s.dacStart 0).dacStart 1
  { s.modBoot (fun x => { x with minFrames := 0 }) with
    mode := { s.mode with baseRun := true }
    tick := { s.tick with gen := { lastTick := s.now, period := 25600, f := 25600 * 256 } } }

/-- BOOT.MIN_CFG written. -/
def State.minCfgW (s : State) (v : Word) : State :=
  let was := s.rbit rBootMinCfg 31
  let s := s.setReg rBootMinCfg (v &&& 0x8000001F)
  if s.mode.boot != 4 || s.mode.started then s
  else if bit v 31 && !was then s.minStart
  else if !(bit v 31) && was then { s.dacDomStop with mode := { s.mode with baseRun := false }, mov := {} }
  else s

/-- MIN_PATH_ENABLE: MIN_CFG.EN is set. -/
def execMinPathEnable (s : State) : Host.Outcome State Fault Refusal := .next (s.minCfgW (putBit (s.reg rBootMinCfg) 31 true))

end Sys2Proof.Machine
end

