-- ==== Sys2Proof/Machine/NgxOps.lean ====
section
/-! DEFINITION. The cascade link: messages, frames, audio slots, beacon (chapter 14). -/

namespace Sys2Proof.Machine

/-! ### Ring (R525 to R527) -/

def State.isMaster (s : State) : Bool := s.rbit rNgxStat 0

/-- The device's own number. -/
def State.devNo (s : State) : Nat := if s.isMaster then 0 else s.rfld rNgxStat 1 4

/-- The port is enabled and its island powered. -/
def State.ngxOn (s : State) : Bool := s.rbit rNgxCtrl 0 && !(s.islandOff 11)

/-- RX_STATE (R529): 0 DOWN, 1 ALIGN, 2 SYNC, 3 UP. -/
def State.rxState (s : State) : Nat := s.rfld rNgxStat 11 2

/-- The SESSION word of a device in the last good header. -/
def State.sessionOf (s : State) (d : Nat) : Word := s.ngx.sess.getD d 0

/-- Device `d` is present in the ring (R527). -/
def State.present (s : State) (d : Nat) : Bool := bit (s.sessionOf d) 16

/-- Ticks in a link frame: 1, 2 or 4. -/
def State.frameTicks (s : State) : Nat := 2 ^ s.rfld (rClkTickCtrl 0) 4 2

/-- D0 runs in the 48 kHz family. -/
def State.run48 (s : State) : Bool := s.d0Running && !s.mode.runPend && !(family441 s.d0Rate)

/-- The index of the first tick of the next frame that the master originates. -/
def State.nextBase (s : State) : Nat :=
  let f := s.frameTicks
  s.ngx.base + f * ((s.tick.sidx - s.ngx.base) / f + 1)

/-! ### Messages (R545 to R555) -/

def State.peer (s : State) (p : Nat) : Peer := SMap.get (fun _ => {}) s.ngx.peers p

def State.setPeer (s : State) (p : Nat) (x : Peer) : State :=
  { s with ngx := { s.ngx with peers := SMap.set (fun _ => {}) s.ngx.peers p x } }

/-- A kind that carries a sequence number. -/
def sequenced (k : Nat) : Bool := k != 0 && k != 1 && k != 2

/-- Kinds sent only to the master; kinds sent only by it; the known kinds (R546). -/
def toMaster (k : Nat) : Bool := [6, 9, 0xA, 0xB, 0xC, 0xD, 0x10, 0x12, 0x13, 0x20].contains k
def fromMaster (k : Nat) : Bool := [4, 5, 8, 0x11, 0x21].contains k
def knownKind (k : Nat) : Bool := toMaster k || fromMaster k || k == 1 || k == 2 || k == 3

/-- A discarded message is counted (R567). -/
def State.msgDrop (s : State) (p n : Nat) : State :=
  if n = 0 then s else ((s.bumpBy rNgxMsgDrop 0 16 n).setFld rNgxMsgDrop 16 4 p).setBit rNgxMsgDrop 31 true

/-- The order of choice of R549. -/
def kindRank (k : Nat) : Nat :=
  if k = 2 then 0 else if 8 ≤ k && k ≤ 0xD then 1 else if 4 ≤ k && k ≤ 6 then 2 else if 0x20 ≤ k then 3 else if 0x10 ≤ k then 4 else 5

/-- Messages to a peer sent and not acknowledged. -/
def State.unacked (s : State) (p : Nat) : Nat := (s.ngx.msgs.filter fun m => m.dst == p && m.seq.isSome).length

/-- A message may be sent now. -/
def State.sendable (s : State) (m : Msg) : Bool :=
  m.resend || (m.seq.isNone && decide (s.unacked m.dst < 16))

/-- Whether `a` comes before `b` under R549; both are in queue order. -/
def Msg.before (a b : Msg) : Bool :=
  decide (kindRank a.kind < kindRank b.kind) ||
  (kindRank a.kind == kindRank b.kind && a.resend &&
    (!b.resend || (a.dst == b.dst && match a.seq, b.seq with
      | some x, some y => decide (x ≠ y) && decide ((y + 65536 - x) % 65536 < 32768)
      | _, _ => false)))

/-- The message to send next, by its place in the queue. -/
def State.nextMsg (s : State) : Option Nat :=
  let l := (s.ngx.msgs.zipIdx.filter fun p => s.sendable p.1)
  (l.foldl (fun (best : Option (Msg × Nat)) p => match best with
    | none => some p
    | some b => if p.1.before b.1 then some p else some b) none).map Prod.snd

/-- The ACK that the device owes (R551). -/
def State.ackMsg (s : State) : Option Msg :=
  let owed := (List.range 16).filter fun p => (s.peer p).owes
  if owed.isEmpty then none
  else some { kind := 2, dst := 0, all := true, src := s.devNo
              payload := owed.map fun p => BitVec.ofNat 32 (p + 65536 * (((s.peer p).expect + 65535) % 65536)) }

/-- The 32 words of a slot (R545). -/
def Msg.words (m : Msg) (res : Nat) : List Word :=
  let p := m.payload.take 30
  BitVec.ofNat 32 (m.dst + (if m.all then 16 else 0) + 32 * m.src + 512 * res + 8192 + 65536 * m.kind + 2 ^ 24 * p.length)
    :: BitVec.ofNat 32 (m.seq.getD 0 + 65536 * m.ctx) :: p ++ List.replicate (30 - p.length) 0

def emptySlot (res : Nat) : List Word := BitVec.ofNat 32 (512 * res) :: List.replicate 31 0

/-- The message that a slot's words spell. -/
def msgOf (ws : List Word) : Msg :=
  let w0 := ws.getD 0 0
  let w1 := ws.getD 1 0
  { kind := fld w0 16 8, dst := fld w0 0 4, all := bit w0 4, src := fld w0 5 4, ctx := fld w1 16 9
    seq := if sequenced (fld w0 16 8) then some (fld w1 0 16) else none
    payload := (ws.drop 2).take (fld w0 24 5) }

def slotFull (ws : List Word) : Bool := bit (ws.getD 0 0) 13
def slotRes (ws : List Word) : Nat := fld (ws.getD 0 0) 9 4

/-- What the device puts into a slot that it may fill: an owed ACK, else the next message; else the slot stays empty. -/
def State.fillSlot (s : State) (res : Nat) : List Word × State :=
  match s.ackMsg with
  | some m =>
    (m.words res, forN 16 (fun p s => let x := s.peer p; if x.owes then s.setPeer p { x with owes := false } else s) s)
  | none =>
    match s.nextMsg with
    | none => (emptySlot res, s)
    | some i =>
      let m := { s.ngx.msgs.getD i { kind := 0, dst := 0, payload := [] } with src := s.devNo }
      let x := s.peer m.dst
      let s := if m.resend then s.bump rNgxMsg 0 16 else s
      let (q, s) := match m.seq with
        | some q => (q, s)
        | none => (x.send, s.setPeer m.dst { x with send := (x.send + 1) % 65536 })
      let m := { m with seq := some q, resend := false, sentAt := s.ngx.frames }
      let s := match m.desc with
        | some (c, k) => if m.sentAt = s.ngx.frames && (s.ngx.msgs.getD i m).seq.isNone then s.finish c k 0 else s
        | none => s
      (m.words res, { s with ngx := { s.ngx with msgs := setAt s.ngx.msgs i m } })

/-- A received message that is for this device (R550, R553, R560): taken into the inbox, a repeat, or left. -/
def State.takeMsg (s : State) (m : Msg) : State :=
  let me := s.devNo
  if !(knownKind m.kind) || (toMaster m.kind && me != 0) || (fromMaster m.kind && m.src != 0) then s.msgDrop m.src 1
  else match m.seq with
    | none => { s with ngx := { s.ngx with inbox := s.ngx.inbox ++ [m] } }
    | some q =>
      let x := s.peer m.src
      if q = x.expect then
        let waiting := (s.ngx.inbox.filter fun k => k.kind == 3 && k.ctx == m.ctx).length + (SMap.get (fun _ => []) s.ngx.store m.ctx).length
        if m.kind = 3 && s.ctxState m.ctx != 0 && decide (4 ≤ waiting) then s.setPeer m.src { x with owes := true }
        else
          let s := s.setPeer m.src { x with expect := (q + 1) % 65536, owes := true }
          { s with ngx := { s.ngx with inbox := s.ngx.inbox ++ [m] } }
      else if (x.expect + 65536 - q) % 65536 ≤ 32768 then (s.setPeer m.src { x with owes := true }).bump rNgxMsg 16 16
      else s.setPeer m.src { x with owes := true }

/-- One slot at a device that it reaches: messages for the device are taken, its own come back, and it may be filled
(R547, R548). `ok` is the slot CRC. -/
def State.passSlot (s : State) (ws : List Word) (ok : Bool) : List Word × State :=
  let me := s.devNo
  let m := msgOf ws
  let res := slotRes ws
  let mine := slotFull ws && ok && m.all && m.src != me
  let s := if mine || (slotFull ws && ok && !m.all && m.dst == me) then s.takeMsg m else s
  let freed := slotFull ws && ok && ((m.src == me) || (!m.all && m.dst == me))
  let mayFill := res == me || res == 0 || decide (res < me)
  if slotFull ws && !freed then (ws, s)
  else if mayFill && ok then s.fillSlot res
  else (if freed then emptySlot res else ws, s)

/-! ### Sections and check words (R532, R534) -/

def crcWords (ws : List Word) : Word := BitVec.ofNat 32 (crcOf 2 (ws.flatMap fun w => leBytes 4 w.toNat))

/-- The check word sent for a section: the computed one, or its complement if the section arrived bad. -/
def crcSent (ws : List Word) (ok : Bool) : Word := if ok then crcWords ws else crcWords ws ^^^ 0xFFFFFFFF

def frHeader (fr : List Word) : List Word := (fr.drop 1).take 63
def frAudio (fr : List Word) : List Word := (fr.drop 64).take 4096
def frSlot (fr : List Word) (i : Nat) : List Word := (fr.drop (4160 + 32 * i)).take 32

/-- The SOF as data: K28.5 and K27.7 on each lane. -/
def sofWord : Word := 0xFBBCFBBC

/-- A whole frame from its sections; `oks` says which arrived good (header, audio, slots). -/
def frameOf (hdr audio : List Word) (slots : List (List Word)) (okH okA : Bool) (okS : List Bool) : List Word :=
  sofWord :: hdr ++ audio ++ slots.flatten ++ [crcSent hdr okH, crcSent audio okA] ++
    (slots.zip okS).map fun p => crcSent p.1 p.2

/-! ### Audio slots (R542 to R544) -/

def State.chEn (s : State) (x : Nat) : Bool := s.rbit (rNgxChen (x / 32)) (x % 32)
def State.chWriter (s : State) (x : Nat) : Nat := s.rfld (rNgxChwr (x / 8)) (4 * (x % 8)) 4

/-- The enabled channels that exist. -/
def State.chans (s : State) : List Nat := (List.range (cascadeChans s.d0Rate)).filter s.chEn

/-- The release of the cascade channels that the device writes, at a tick of D0. -/
def State.casRelease (s : State) : State :=
  if !s.ngxOn then s
  else
    let me := s.devNo
    let m := s.chans.foldl (fun m x => if s.chWriter x = me then SMap.set (fun _ => 0) m x (s.sinkValue (0x1000 + x)) else m) []
    { s with ngx := { s.ngx with rel := ((s.tick.sidx, m) :: s.ngx.rel).take (3 * s.frameTicks) } }

/-- The audio words of a frame with index `b`, with the device's own channels written into `base`. -/
def State.audioFor (s : State) (b : Nat) (base : List Word) : List Word :=
  let f := s.frameTicks
  let me := s.devNo
  base.zipIdx.map fun p =>
    let x := p.2 / f
    if !(s.chEn x) || decide (cascadeChans s.d0Rate ≤ x) then (if me = 0 then 0 else p.1)
    else if s.chWriter x != me then p.1
    else match s.ngx.rel.find? fun r => r.1 + 2 * f == b + p.2 % f with
      | some r => SMap.get (fun _ => 0) r.2 x
      | none => 0

/-- The word of channel `x` for tick `k` (R543): the frame that carries it, and whether it is taken from a copy. -/
def State.casWord (s : State) (x k : Nat) : Option (RxFrame × Word) :=
  let f := s.frameTicks
  let me := s.devNo
  let direct := me == 0 || decide (s.chWriter x < me)
  let lead := if direct then f else 0
  match s.ngx.rx.find? fun r => decide (r.sidx + lead ≤ k) && decide (k < r.sidx + lead + f) with
  | some r => if r.audOk && (direct || r.copyValid) then some (r, r.audio.getD (f * x + (k - r.sidx - lead)) 0) else none
  | none => none

/-- A cascade channel's value at a tick of D0 (R332, R544). -/
def State.casTick (s : State) (x : Nat) : State :=
  let c := SMap.get (fun _ => {}) s.ngx.cas x
  let k := s.tick.sidx
  let f := s.frameTicks
  let first := (k - s.ngx.base) % f == 0
  let w := if s.ngxOn then s.casWord x k else none
  let c := match w with
    | some (r, v) =>
      let follows := c.frame == some (r.sidx - f) || c.frame == some r.sidx
      let good := if first then (if follows then c.good + 1 else 1) else c.good
      let back := decide (3 ≤ c.lost) && decide (2 ≤ good)
      { c with
        last := v, good := good, frame := some r.sidx, lost := if c.lost < 3 || back then 0 else c.lost
        fade := if back then c.fade.start s.d0Rate else c.fade }
    | none =>
      let lost := if first then min 3 (c.lost + 1) else c.lost
      { c with good := 0, frame := none, lost := lost, fade := if lost = 3 then c.fade.stop s.d0Rate else c.fade }
  let c := { c with fade := c.fade.tick [0] fun _ => c.last }
  ({ s with ngx := { s.ngx with cas := SMap.set (fun _ => {}) s.ngx.cas x c } } : State).setSrc (0x1000 + x) (c.fade.outAt 0)

/-! ### Header (R533) -/

/-- The device's SESSION word. -/
def State.ownSession (s : State) : Word :=
  BitVec.ofNat 32 (s.rfld rNgxSession 0 16 + 65536 + (if s.rbit rNgxCtrl 1 then 2 ^ 17 else 0))

/-- The words of a decision. -/
def Decision.words (d : Decision) : List Word :=
  [BitVec.ofNat 32 (d.group + (if d.go then 64 else 128)), BitVec.ofNat 32 d.due, BitVec.ofNat 32 (d.due / 2 ^ 32)]

/-- The eight decisions of a frame, earliest due index first (R557). -/
def State.frameDecisions (s : State) : List Decision :=
  (s.par.decisions.foldr (fun d l => (l.takeWhile fun e => decide (e.due < d.due)) ++ d :: l.dropWhile fun e => decide (e.due < d.due)) []).take 8

/-- The header that the master originates, words 1 to 63. -/
def State.masterHeader (s : State) (copy : Bool) : List Word :=
  let run := s.run48
  let n := s.rfld rNgxStat 6 5
  let rate := if run then s.rfld (rClkTickCtrl 0) 4 2 else 3
  let b := if run then s.nextBase else 0
  let ds := s.frameDecisions.flatMap Decision.words
  [BitVec.ofNat 32 (1 + 256 * (n - 1) + 4096 * rate + (if run then 2 ^ 14 else 0) + (if copy then 2 ^ 15 else 0) + 65536 * s.ngx.epoch.toNat),
   BitVec.ofNat 32 b, BitVec.ofNat 32 (b / 2 ^ 32), s.ngx.frameCnt, 1, 0,
   BitVec.ofNat 32 (s.rfld rNgxTiming 0 16 + 65536 * s.rfld rNgxDelay 16 16)] ++
  List.replicate 8 0 ++ ds ++ List.replicate (24 - ds.length) 0 ++ List.replicate 8 0 ++
  (s.ownSession :: (List.range 15).map fun i => s.ngx.sess.getD (i + 1) 0)

/-- Header word `w` (1 to 63). -/
def hw (h : List Word) (w : Nat) : Word := h.getD (w - 1) 0

/-- A peer's session number changed (R555); a relayed access to it ends with ERR (R558). -/
def State.sessionChange (s : State) (p : Nat) : State :=
  let lost := s.ngx.msgs.filter fun m => m.dst == p && !m.all
  let s := s.msgDrop p lost.length
  let s := { s with ngx := { s.ngx with msgs := s.ngx.msgs.filter fun m => m.dst != p || m.all } }
  let s := s.setPeer p { s.peer p with send := 0, expect := 0, owes := false }
  if s.rbit rNgxRrCmd 31 && s.rfld rNgxRrAddr 24 4 == p then (s.setBit rNgxRrCmd 31 false).setBit rNgxRrCmd 30 true else s

/-- The SESSION words of a good header. -/
def State.seeSessions (s : State) (h : List Word) : State :=
  let s := { s with ngx := { s.ngx with sess := (List.range 16).map fun d => hw h (48 + d) } }
  forN 16 (fun d s =>
    let w := s.sessionOf d
    let x := s.peer d
    if d = s.devNo || !(bit w 16) then s
    else
      let s := if x.session.isSome && x.session != some (fld w 0 16) then s.sessionChange d else s
      s.setPeer d { s.peer d with session := some (fld w 0 16) }) s

/-! ### Cascade commits on a follower (R243, R246, R557) -/

/-- A message of a commit to the master. -/
def State.commitMsg (s : State) (kind dst g : Nat) (idx : Option Nat) : State :=
  s.ngxSend { kind := kind, dst := dst
              payload := BitVec.ofNat 32 g :: (match idx with
                | some i => [BitVec.ofNat 32 i, BitVec.ofNat 32 (i / 2 ^ 32)]
                | none => []) }

/-- A group returns to STAGING with its members; without any, to IDLE. -/
def State.restageGroup (s : State) (g : Nat) : State :=
  let x := s.group g
  (s.setGroup g { x with arm := none }).setGroupSt g (if x.members.isEmpty then 0 else 1)

/-- A follower discards its IN_DOUBT arms (R246). -/
def State.dropDoubt (s : State) : State := forN 64 (fun g s => if s.groupSt g = 5 then s.restageGroup g else s) s

/-- One decision of a beacon (R243, R244, R557). Each is acted on once. -/
def State.takeDecision (s : State) (g : Nat) (go : Bool) (due : Nat) : State :=
  if s.ngx.answered.contains (g, due, go) then s
  else
    let s := { s with ngx := { s.ngx with answered := (g, due, go) :: s.ngx.answered } }
    let doubt := s.groupSt g == 5
    if go then
      if doubt then
        let d := max due (s.tick.sidx + 1)
        let x := s.group g
        let s := s.setGroup g { x with arm := x.arm.map fun a => { a with late := decide (due < d), origDue := due } }
        (s.setReg64 (rFabCgDueLo g) d).setGroupSt g 2
      else s.commitMsg 0x0C 0 g none
    else (if doubt then s.restageGroup g else s).commitMsg 0x0D 0 g none

/-- The decisions of a header; those no longer in the beacon are forgotten. -/
def State.takeDecisions (s : State) (h : List Word) : State :=
  let ds := (List.range 8).filterMap fun i =>
    let v := fld (hw h (16 + 3 * i)) 6 2
    if v = 1 || v = 2 then some (fld (hw h (16 + 3 * i)) 0 6, (hw h (17 + 3 * i)).toNat + 2 ^ 32 * (hw h (18 + 3 * i)).toNat, v == 1) else none
  let s := { s with ngx := { s.ngx with answered := s.ngx.answered.filter fun a => ds.contains a } }
  ds.foldl (fun s d => s.takeDecision d.1 d.2.2 d.2.1) s

/-! ### Losses (R529, R539) -/

/-- The receive side becomes DOWN. -/
def State.linkLost (s : State) : State :=
  let s := ((s.setFld rNgxStat 11 2 0).setBit rNgxStat 16 true).histBegin 7 (s.rfld rTopModeReason 0 8) none
  { s with ngx := { s.ngx with good := 0, sent := if s.isMaster then s.ngx.sent else none } }

/-- A frame is lost. -/
def State.frameLost (s : State) : State :=
  let s := s.bump rNgxErr 0 8
  let n := s.ngx.loss + 1
  let s := { s with ngx := { s.ngx with loss := n, good := 0, ret := none, retSlots := [], frames := s.ngx.frames + 1 } }
  if n < 3 || s.rxState = 0 then s
  else if s.isMaster then s.linkLost.setBit rNgxStat 17 true else s.linkLost

/-- A frame with a good header: RX_STATE moves towards UP; `gap` is the number of words since the previous SOF. -/
def State.frameGood (s : State) (gap : Nat) : State :=
  let pace := decide (6392 ≤ gap) && decide (gap ≤ 6408)
  let n := if s.ngx.good = 0 || pace then s.ngx.good + 1 else 1
  let s := { s with ngx := { s.ngx with good := n, loss := 0, frames := s.ngx.frames + 1 } }
  let s := s.setBit rNgxStat 17 false
  s.setFld rNgxStat 11 2 (if 3 ≤ n || s.rxState = 3 then 3 else 2)

/-! ### Registers (R563, R565, R569) -/

/-- A write to NGX.CTRL. -/
def State.ngxCtrlW (s : State) (v : Word) : State :=
  let s := if bit v 31 then s.setBit rNgxCtrl 31 false else s
  let busy := s.ctx.any fun p => s.ctxState p.1 != 0
  if (s.isMaster && bit v 1) || (bit v 1 != s.rbit rNgxCtrl 1 && busy) then s.setBit rNgxCtrl 31 true
  else
    let was := s.rbit rNgxCtrl 0
    let s := s.setFld rNgxCtrl 0 4 (fld v 0 (if s.isMaster then 4 else 2))
    if bit v 0 && !was then
      let s := s.setFld rNgxStat 11 2 0
      { s with ngx := { s.ngx with good := 0, loss := 0, sent := none } }
    else s

/-- A write to NGX.TIMING. -/
def State.ngxTimingW (s : State) (v : Word) : State :=
  if !s.isMaster || s.rbit rNgxCtrl 2 then s else s.setFld rNgxTiming 0 16 (fld v 0 16)

/-- A write to RR_ADDR or RR_DATA: master only. -/
def State.rrW (s : State) (r : Nat) (mask v : Word) : State := if s.isMaster then s.setReg r (v &&& mask) else s

/-- A write to RR_CMD (R558, R569). -/
def State.rrCmdW (s : State) (v : Word) : State :=
  if !s.isMaster then s
  else
    let s := if bit v 30 then s.setBit rNgxRrCmd 30 false else s
    let s := s.setBit rNgxRrCmd 1 (bit v 1)
    if !(bit v 0) then s
    else if s.rbit rNgxRrCmd 31 then s.setBit rNgxRrCmd 30 true
    else
      let d := s.rfld rNgxRrAddr 24 4
      if !(s.present d) || d = 0 then s.setBit rNgxRrCmd 30 true
      else
        let o : Word := BitVec.ofNat 32 (s.rfld rNgxRrAddr 0 22)
        let m : Msg := if bit v 1 then { kind := 5, dst := d, payload := [o, s.reg rNgxRrData] } else { kind := 4, dst := d, payload := [o] }
        (s.setBit rNgxRrCmd 31 true).ngxSend m

end Sys2Proof.Machine
end

