-- ==== Sys2Proof/Machine/Power.lean ====
section
/-! DEFINITION. Mode commands, supply sequencing, DORMANT, power islands, caps (chapter 18). -/

namespace Sys2Proof.Machine

def State.modPwr (s : State) (f : PowerState → PowerState) : State := { s with pwr := f s.pwr }

/-! ### Supply rails (R666 to R668) -/

/-- The up sequence begins: PWR_EN2 rises. -/
def State.powerUp (s : State) : State := s.modPwr fun x => { x with en := 4, seq := .up 0, seqAt := s.now }

/-- The down sequence begins: PWR_EN1 falls. -/
def State.powerDown (s : State) (next : SeqNext) : State :=
  s.modPwr fun x => { x with en := x.en &&& 5, seq := .down 1 next, seqAt := s.now }

/-- Counts a failed step, or a brown-out, in PWR.SEQ across the start-up that follows. -/
def State.keepSeq (s : State) (v : Word) : State := s.setReg rPwrSeq v

/-- RAIL_GOOD: the rails of the enable raised last are good. After the last one start-up begins, and the straps are
sampled (R702). -/
def execRailGood (straps : BitVec 6) (s : State) : Host.Outcome State Fault Refusal :=
  .next (match s.pwr.seq with
  | .up 0 => s.modPwr fun x => { x with en := 5, seq := .up 1, seqAt := s.now }
  | .up 1 => s.modPwr fun x => { x with en := 7, seq := .up 2, seqAt := s.now }
  | .up _ =>
    let v := s.reg rPwrSeq
    ((s.modPwr fun x => { x with seq := .on, seqAt := s.now }).fullStart straps s.pwr.next s.pcie.pmeStat).keepSeq v
  | _ => s)

/-- 10 ms, 0.9 ms and 0.9 s in FAB cycles (R668). -/
def tGood : Nat := 12288000
def tDn : Nat := 1105920
def tRetry : Nat := 1105920000

/-- SEQUENCE_TIMEOUT. -/
def execSequenceTimeout (s : State) : Host.Outcome State Fault Refusal :=
  .next (match s.pwr.seq with
  | .up _ => if s.pwr.seqAt + tGood ≤ s.now then (s.bump rPwrSeq 0 8).powerDown .retry else s
  | _ => s)

/-- SEQUENCE_RETRY. -/
def execSequenceRetry (s : State) : Host.Outcome State Fault Refusal :=
  .next (if s.pwr.seq = .retry && decide (s.pwr.seqAt + tRetry ≤ s.now) then s.powerUp else s)

/-! ### DORMANT (R669 to R672) -/

/-- An enabled wake source ends DORMANT (R670, R671): 1 PERST, 2 SPIS, 3 to 6 GPIO, 7 TIMER. -/
def State.wake (s : State) (src : Nat) : State :=
  let s := (s.setFld rPwrWakeSrc 0 4 src).modPwr fun x => { x with next := if src = 1 then 2 else 3, held := none }
  let drive := src != 1 && (s.rbit rPwrDormCtrl 8 || s.pcie.pmeEn)
  let s := if drive then s.modPwr fun x => { x with wakePin := true, wakeAt := s.now, perstLow := x.perstHeld } else s
  let s := if src != 1 && s.pcie.pmeEn then { s with pcie := { s.pcie with pmeStat := true } } else s
  s.powerUp

/-- The wake source is enabled. -/
def State.wakeOn (s : State) (src : Nat) : Bool := s.rbit rPwrDormCtrl src

/-- A wake source arrives: during the down sequence it is held. -/
def State.wakeBy (s : State) (src : Nat) : State :=
  if !s.mode.dormant || !(s.wakeOn src) then s
  else match s.pwr.seq with
  | .off => s.wake src
  | .down _ .dormant => if s.pwr.held.isSome then s else s.modPwr fun x => { x with held := some src }
  | _ => s

/-- WAKE_SOURCE: source `src` + 1 of R672. The rise of PERST_N is PERST_N_RELEASE too. -/
def execWakeSource (src : Fin 6) (s : State) : Host.Outcome State Fault Refusal :=
  .next ((if src.val = 0 then s.modPwr fun x => { x with perstHeld := false } else s).wakeBy (src.val + 1))

/-- WAKE_TIMER: at the earliest after 0.9 × SEC, by the AON oscillator's ±10 %. -/
def execWakeTimer (s : State) : Host.Outcome State Fault Refusal :=
  .next (if s.pwr.entered + max 1 (s.rfld rPwrWakeTmr 0 24) * 1105920000 ≤ s.now then s.wakeBy 7 else s)

/-- WAKE_N_RELEASE. -/
def execWakeNRelease (s : State) : Host.Outcome State Fault Refusal :=
  .next (if s.pwr.wakePin && ((s.pwr.perstLow && !s.pwr.perstHeld) || decide (s.pwr.wakeAt + 2457600000 ≤ s.now)) then
    s.modPwr fun x => { x with wakePin := false, perstLow := false }
  else s)

/-- DOWN_STEP: the next enable falls. -/
def execDownStep (s : State) : Host.Outcome State Fault Refusal :=
  .next (if s.now < s.pwr.seqAt + tDn then s
  else match s.pwr.seq with
  | .down 1 n => s.modPwr fun x => { x with en := x.en &&& 4, seq := .down 2 n, seqAt := s.now }
  | .down _ n =>
    let s := s.modPwr fun x => { x with en := 0, seqAt := s.now }
    (match n with
    | .up => s.powerUp
    | .retry => s.modPwr fun x => { x with seq := .retry }
    | .dormant =>
      let s := s.modPwr fun x => { x with seq := .off }
      match s.pwr.held with
      | some src => s.wake src
      | none => s)
  | _ => s)

/-- BROWN_OUT: a power loss in any mode other than DORMANT. -/
def execBrownOut (s : State) : Host.Outcome State Fault Refusal :=
  .next (if s.mode.dormant || s.pwr.seq != .on then s
  else
    let v := s.reg rPwrSeq
    let t := ((s.devReset true).keepSeq v).setBit rPwrSeq 8 true
    (t.modPwr fun x => { x with next := 1 }).powerDown .up)

/-- VDD_AON_APPLIED: everything but the flash, the fuses and the cells' faults is at its reset value; after 1 ms the up
sequence begins. -/
def execVddAonApplied (s : State) : Host.Outcome State Fault Refusal :=
  let t := s.devReset true
  let z := State.reset
  let t := { t with
    now := s.now + 1228800
    tap := z.tap
    regs := []
    pwr := { z.pwr with en := 0, next := 1, perstHeld := s.pwr.perstHeld }
    boot := { z.boot with fuses := s.boot.fuses, flash := s.boot.flash, fullAt := s.now, backUntil := s.now + 73728000000 } }
  .next t.powerUp

/-- Steps 3 to 5 of R669. The Lantern page reaches the host before the link goes idle. -/
def State.goDormant (s : State) : State :=
  let s := s.saveRepairs.modPwr fun x => { x with dormWait := false }
  let s := s.modeDo 0x33 fun s => { s with mode := { s.mode with dormant := true } }
  let page := s.fab.outq.filter fun r => r.master == 99
  let s := { s with fab := { s.fab with sent := s.fab.sent ++ page } }
  let t := (s.devReset true).setFld rPwrWakeSrc 16 16 (s.rfld rPwrWakeSrc 16 16 + 1)
  let t := { t with
    mode := { t.mode with dormant := true }
    pcie := { t.pcie with pmeEn := s.pcie.pmeEn, pmeStat := s.pcie.pmeStat } }
  (t.modPwr fun x => { x with entered := s.now, held := none }).powerDown .dormant

/-- DORMANT waits for the DACs no longer. -/
def State.afterClamp (s : State) : State := if s.pwr.dormWait && s.dacsClamped then s.goDormant else s

/-- PWR.DORM_CTRL written. -/
def State.dormCtrlW (s : State) (v : Word) : State :=
  let s := if bit v 31 then s.setBit rPwrDormCtrl 31 false else s
  let s := s.setFld rPwrDormCtrl 1 8 (fld v 1 8)
  if !(bit v 0) then s
  else if s.modeCode != 5 || s.ctx.any (fun p => s.ctxState p.1 != 0) then s.setBit rPwrDormCtrl 31 true
  else ((s.dacStopAll).modPwr fun x => { x with dormWait := true }).afterClamp

/-- DORM_GO. -/
def execDormGo (s : State) : Host.Outcome State Fault Refusal := .next (s.dormCtrlW (s.reg rPwrDormCtrl &&& 0x7FFFFFFF ||| 1))

/-- RAMP_END (R482). -/
def execRampEnd (d : Fin 8) (s : State) : Host.Outcome State Fault Refusal := .next (s.rampEnd d.val).afterClamp

/-! ### PERST_N (R442, R670, R671, R715) -/

/-- PERST_N_ASSERT: PERST_N has been low for longer than the glitch filter. -/
def execPerstNAssert (s : State) : Host.Outcome State Fault Refusal :=
  .next (if s.pwr.perstHeld then s
  else
    let s := s.modPwr fun x => { x with perstHeld := true, perstLow := x.wakePin || x.perstLow }
    if s.mode.dormant || s.pwr.seq != .on then s
    else
      let t := s.devReset true
      { t with pcie := { t.pcie with pmeEn := s.pcie.pmeEn && s.pcie.pmeStat, pmeStat := s.pcie.pmeStat } })

/-- PERST_N_RELEASE: the straps are sampled at the rising edge. During DORMANT it is a wake source; while the rails rise or
fall only the pin changes. -/
def execPerstNRelease (straps : BitVec 6) (s : State) : Host.Outcome State Fault Refusal :=
  .next (if !s.pwr.perstHeld then s
  else
    let s := s.modPwr fun x => { x with perstHeld := false }
    if s.mode.dormant then s.wakeBy 1
    else if s.pwr.seq != .on || s.tap.held then s
    else s.fullStart straps 2 s.pcie.pmeStat)

/-! ### TOP.MODE_CMD (R663 to R665) -/

/-- A GO with OP = RUN. -/
def State.goRun (s : State) : State :=
  if !s.mode.started || s.mode.baseRun || s.mode.runPend || s.mode.recovery || s.mode.selfTest then s.setBit rTopModeCmd 31 true
  else
    let P := 1228800000 / s.d0Rate
    { s.setBit rTopModeCmd 3 true with
      mode := { s.mode with runPend := true }
      ngx := { s.ngx with start := none }
      tick := { s.tick with gen := { lastTick := s.now, period := P, f := 1228800000 * 256 / s.d0Rate, lastUsed := s.now, lastRecv := s.now, applied := s.now } } }

/-- A GO with OP = IDLE: it cancels a RUN that is pending; else the generator emits no tick after the one in progress. -/
def State.goIdle (s : State) : State :=
  if s.mode.runPend then { s.setBit rTopModeCmd 3 false with mode := { s.mode with runPend := false } }
  else if !s.mode.started || !s.mode.baseRun then s.setBit rTopModeCmd 31 true
  else { s with tick := { s.tick with idleAtEnd := true } }

/-- TOP.MODE_CMD written. A GO with a reserved OP is refused. -/
def State.modeCmdW (s : State) (v : Word) : State :=
  let s := if bit v 31 then s.setBit rTopModeCmd 31 false else s
  let s := s.setFld rTopModeCmd 0 2 (fld v 0 2)
  if !(bit v 2) then s
  else if fld v 0 2 = 1 then s.goRun
  else if fld v 0 2 = 2 then s.goIdle
  else s.setBit rTopModeCmd 31 true

/-- MODE_CMD_RUN. -/
def execModeCmdRun (s : State) : Host.Outcome State Fault Refusal := .next (s.modeCmdW 5)

/-- MODE_CMD_IDLE. -/
def execModeCmdIdle (s : State) : Host.Outcome State Fault Refusal := .next (s.modeCmdW 6)

/-! ### Caps (R677 to R680) -/

def State.setIsland (s : State) (i v : Nat) : State := s.setFld rPwrIslStat (2 * i) 2 v

/-- A cap is active. -/
def State.capActive (s : State) : Bool := s.rbit rPwrCapStat 8 || s.rbit rPwrCapStat 9

/-- A cluster is shed (R677). -/
def State.shedCluster (s : State) (c : Nat) : State :=
  let s := ((s.setIsland c 3).setBit rPwrCapStat c true).bump rPwrCapStat 24 8
  s.modPwr fun x => { x with shed := c :: x.shed.filter (· != c) }

/-- A shed cluster is no longer counted: it is restored, or goes to OFF. -/
def State.unshed (s : State) (c v : Nat) : State :=
  let s := (s.setIsland c v).setBit rPwrCapStat c false
  (s.startClock (3 + c)).modPwr fun x => { x with shed := x.shed.filter (· != c) }

/-- The clusters that are due are shed at a tick. -/
def State.shedDue (s : State) : State :=
  let l := s.pwr.due.filter fun c => s.island c == 0
  let s := s.modPwr fun x => { x with due := [] }
  if l.isEmpty then s else s.modeDo s.pwr.capWhy fun s => l.foldl State.shedCluster s

/-- A cluster has drained its queues, so its clock may stop. -/
def State.drained (s : State) (c : Nat) : Bool :=
  (List.range 4).all fun i =>
    let x := s.engine (4 * c + i)
    x.phase == .idle && x.wq.isEmpty && x.fsq.isEmpty && x.heldStore.isNone && x.farLoads.isEmpty

/-- The clocks of the shed clusters stop once they have drained. -/
def State.stopShed (s : State) : State :=
  s.pwr.shed.foldl (fun s c => if s.drained c then s.stopClock (3 + c) else s) s

/-- Every shed cluster is restored, when D0 stops (R665). -/
def State.restoreAll (s : State) : State :=
  let s := s.modPwr fun x => { x with due := [] }
  s.pwr.shed.foldl (fun s c => s.unshed c 0) s

/-- The ticking cluster to shed next: the lowest priority value, the higher number among equals. -/
def State.nextShed (s : State) : Option Nat :=
  let prio := fun c => s.rfld rPwrShedPrio (3 * c) 3
  ((List.range 8).filter fun c => s.island c == 0 && !(s.pwr.due.contains c)).foldl (fun best c => match best with
    | none => some c
    | some b => if prio c ≤ prio b then some c else some b) none

/-- A cluster is to be shed at the next tick; the first shed fixes the reason. -/
def State.decideShed (s : State) (c : Nat) : State :=
  let first := s.pwr.shed.isEmpty && s.pwr.due.isEmpty
  let why := if s.rbit rPwrCapStat 8 then 0x18 else 0x19
  s.modPwr fun x => { x with
    due := x.due ++ [c], lastShed := some s.now, shedAt := s.now, belowAt := none, capWhy := if first then why else x.capWhy }

/-- The highest of the eight sensor readings, in 1/16 °C. -/
def maxTemp (ts : List (BitVec 16)) : Int := ((List.range 8).map fun i => (ts.getD i 0).toInt).foldl max (ts.getD 0 0).toInt

/-- CAP_SAMPLE: the readings of the eight sensors (absent ones read 0) and the power estimate in 10 mW. -/
def execCapSample (temps : List (BitVec 16)) (est : Fin 4096) (s : State) : Host.Outcome State Fault Refusal :=
  let s := forN 8 (fun i s => s.setReg (rPwrTemp i) ((temps.getD i 0).setWidth 32)) s
  let s := s.setFld rPwrPcap 16 12 est.val
  let t := maxTemp temps
  let hi := 16 * s.rfld rPwrCapCtrl 8 8
  let lo := 16 * s.rfld rPwrCapCtrl 16 8
  let cap := s.rfld rPwrPcap 0 12
  let s := s.setBit rPwrCapStat 8 (s.rbit rPwrCapCtrl 0 && decide ((hi : Int) ≤ t))
  let s := s.setBit rPwrCapStat 9 (s.rbit rPwrCapCtrl 1 && decide (cap ≤ est.val))
  let below := decide (t < (lo : Int)) && decide (10 * est.val < 9 * cap)
  let s := s.modPwr fun x => { x with
    belowAt := if below then some (x.belowAt.getD s.now) else none
    tripPin := x.tripPin && !(decide (t < (lo : Int))) }
  if !s.d0Running || s.mode.runPend then .next s
  else
    let s := if 1840 ≤ t then
        let s := (s.setBit rPwrCapStat 10 true).modPwr fun x => { x with tripPin := true }
        ((List.range 8).filter fun c => s.island c == 0 && !(s.pwr.due.contains c)).foldl State.decideShed s
      else s
    let mayShed := match s.pwr.lastShed with
      | some t => decide (t + 12288000 ≤ s.now)
      | none => true
    let mayBack := match s.pwr.belowAt with
      | some t => decide (max t s.pwr.shedAt + 1228800000 ≤ s.now)
      | none => false
    if s.capActive && mayShed then
      .next (match s.nextShed with
        | some c => s.decideShed c
        | none => s)
    else if mayBack then
      match s.pwr.shed with
      | [] => .next s
      | c :: _ =>
        let s := s.modeDo 0x1A fun s => s.unshed c 0
        .next (s.modPwr fun x => { x with shedAt := s.now })
    else .next s

/-- PWR.CAP_CTRL written. -/
def State.capCtrlW (s : State) (v : Word) : State :=
  let s := if bit v 31 then s.setBit rPwrCapCtrl 31 false else s
  if fld v 8 8 ≤ fld v 16 8 then s.setBit rPwrCapCtrl 31 true
  else s.setReg rPwrCapCtrl ((s.reg rPwrCapCtrl &&& 0x80000000) ||| (v &&& 0x00FFFF03))

/-! ### Power islands (R673 to R676) -/

/-- The live allocations in a cluster (R674): their owners. -/
def State.liveCluster (s : State) (c : Nat) : List Nat :=
  let segs := (List.range 4).flatMap fun k =>
    (s.enabledEntries (4 * c + k)).map fun p => fld ((s.engine (4 * c + k)).segWord p.1 p.2 0) 16 9
  let sets := (List.range 1024).filterMap fun n =>
    let w := s.reg (rFabCsetW0 n)
    if bit w 31 && !(bit w 22) && fld w 24 5 / 4 == c then some (s.csetOwner n) else none
  (segs ++ sets).eraseDups

/-- The first and last tile of bytes [a, a+n). -/
def tileSpan (a n : Nat) : Nat × Nat := (a / 4096, (a + n - 1) / 4096)

/-- The tiles that live allocations reach (R674), as ranges with their owners. -/
def State.liveTiles (s : State) : List (Nat × Nat × Nat) :=
  let segs := s.eng.flatMap fun x => (s.enabledEntries x.1).flatMap fun p => [4, 5, 6, 7].map fun k =>
    let w := x.2.segWord p.1 p.2 k
    (fld (x.2.segWord p.1 p.2 0) 16 9, fld w 0 14, fld w 14 14)
  let sets := (List.range 1024).flatMap fun n =>
    if s.rbit (rFabCsetW0 n) 31 && s.rbit (rFabCsetW0 n) 22 then
      [(s.csetOwner n, tileSpan (4 * s.pageBase n 0) (16 * (s.csetSize n + 1))),
       (s.csetOwner n, tileSpan (4 * s.pageBase n 1) (16 * (s.csetSize n + 1)))]
    else []
  let dlds := (List.range 2048).filterMap fun k =>
    let d := s.dld (k / 64) (k % 64)
    if d.en && d.place == 1 then (s.resOwner 2 (k / 64) (k % 64)).map fun c => (c, tileSpan (4 * d.base) (4 * d.len * d.frame)) else none
  let lines := s.cal.lines.filterMap fun p =>
    if p.2.mapped then some (p.2.owner, tileSpan (16 * p.2.stageQ) ((p.2.sr + p.2.sw) * p.2.f * 4)) else none
  segs ++ sets ++ dlds ++ lines

/-- The contexts that own a live allocation in an island. -/
def State.liveOwners (s : State) (i : Nat) : List Nat :=
  if i < 8 then s.liveCluster i
  else if i < 11 then
    let lo := 4096 * (i - 7)
    ((s.liveTiles.filter fun t => meets t.2.1 t.2.2 lo (lo + 4095)).map fun t => t.1).eraseDups
  else []

/-- The island holds D0's CUR_SRC (R674). -/
def State.holdsSource (s : State) (i : Nat) : Bool :=
  (i == 11 && s.curSrc 0 == 9) || (i == 12 && decide (2 ≤ s.curSrc 0) && decide (s.curSrc 0 ≤ 8))

/-- The quarter or cluster of a host line's staging buffer and descriptor. -/
def State.lineIn (s : State) (n i : Nat) : Bool :=
  let l := s.line n
  l.mapped && (if i < 8 then l.eng / 4 == i
    else tilesMeet (4096 * (i - 7)) (4096 * (i - 7) + 4095) (16 * l.stageQ) ((l.sr + l.sw) * l.f * 4))

/-- The result of a POWER_SET for PWR.PS_RESULT. -/
def State.psResult (s : State) (cause isl : Nat) : State := s.setReg rPwrPsResult (BitVec.ofNat 32 (isl % 16384 + 65536 * cause))

/-- A set of islands as a mask. -/
def islMask (l : List Nat) : Nat := l.foldl (fun m i => m + 2 ^ i) 0

/-- The POWER_SET is complete once every named island has reached its state. -/
def State.powerDone (s : State) : State :=
  match s.pwr.op with
  | none => s
  | some o =>
    if (List.range 14).all fun i => !(o.isl.getLsbD i) || (if o.on.getLsbD i then s.island i != 1 && s.island i != 2 else s.island i == 2) then
      let lost := o.force && !o.owners.isEmpty
      let s := s.psResult (if lost then 5 else 1) (if lost then islMask ((o.owners.map Prod.fst).eraseDups) else o.isl.toNat)
      (s.setResult o.ctx o.seq 0).modPwr fun x => { x with op := none }
    else s

/-- An island becomes GOING (R675). -/
def State.islandGoing (s : State) (i : Nat) (force : Bool) : State :=
  if s.island i = 2 || s.island i = 1 then s
  else
    let s := if s.island i = 3 then s.modeDo 0x1A fun s => s.unshed i 1 else s.setIsland i 1
    let s := if 8 ≤ i && i < 11 && !force then s.parkQuarter (i - 7) else s
    if i = 13 then s.dacStopAll else s

/-- POWER_SET (R381, R673 to R675). -/
def execPowerSet (c : Fin 512) (q : BitVec 32) (s : State) : Host.Outcome State Fault Refusal :=
  let (c, q) := (c.val, q.toNat)
  match s.ready c q tPowerSet with
  | none => .next s
  | some d =>
    let sel := d.num 16 4
    let on := d.num 20 4
    let force := d.num 24 1 == 1
    if s.pwr.op.isSome || !s.keeperRuns then .next s
    else if d.extra != 0 || !(d.onlyUses [(16, 9)]) || decide (2 ^ 14 ≤ sel) || decide (2 ^ 14 ≤ on) || decide (1 < d.num 24 1) then
      .next (s.finish c q 0x10)
    else if !([5, 6, 7, 8].contains s.modeCode) then .next ((s.psResult 4 sel).finish c q 0x10)
    else
      let down := (List.range 14).filter fun i => sel / 2 ^ i % 2 == 1 && on / 2 ^ i % 2 == 0
      let live := down.filter fun i => !(s.liveOwners i).isEmpty
      let src := down.filter s.holdsSource
      if !force && !(live.isEmpty && src.isEmpty) then
        .next ((s.psResult (if live.isEmpty then 3 else 2) (islMask (live ++ src))).finish c q 0x10)
      else
        let owners := if force then down.flatMap fun i =>
            ((s.liveOwners i ++ (s.cal.lines.filterMap fun p => if s.lineIn p.1 i then some p.2.owner else none)).eraseDups).map fun k => (i, k)
          else []
        let s := (s.grant c q).modPwr fun x => { x with op := some {
          ctx := c, seq := q, isl := BitVec.ofNat 14 sel, on := BitVec.ofNat 14 on, force := force, owners := owners } }
        .next (down.foldl (fun s i => s.islandGoing i force) s).powerDone

/-- A cluster's registers are cleared at power-down; its pending swaps are kept (R676). -/
def State.clusterOff (s : State) (c : Nat) : State :=
  let old := (List.range 4).map fun i => s.engine (4 * c + i)
  let s := s.clusterClear c
  let s := forN 4 (fun i s =>
    let e := 4 * c + i
    let o := old.getD i {}
    let s := s.modEngine e fun x => { x with
      swapPb := o.swapPb, swapSt := o.swapSt, lm := [], lmErr := [], prog := [], progErr := []
      lmEpoch := x.lmEpoch + 1, progEpoch := x.progEpoch + 1 }
    let s := { s with cal := { s.cal with lmSinter := SMap.set (fun _ => {}) s.cal.lmSinter e {} } }
    s.showSwaps e) s
  s.stopClock (3 + c)

/-- The contents of a quarter become undefined. -/
def State.quarterLost (s : State) (q : Nat) : State :=
  { s with cal := { s.cal with
    bytes := SMap.keep (fun a => calQuarter a != q) s.cal.bytes
    soft := SMap.keep (fun w => calQuarter (8 * w) != q) s.cal.soft
    epochs := SMap.set (fun _ => 0) s.cal.epochs q (SMap.get (fun _ => 0) s.cal.epochs q + 1) } }

/-- A GOING island may become OFF (R675). -/
def State.mayGoOff (s : State) (i : Nat) : Bool :=
  if i < 8 then s.drained i else if i = 13 then s.dacsClamped else true

/-- ISLAND_POWER_DOWN: the GOING island `i` becomes OFF. -/
def execIslandPowerDown (i : Fin 14) (s : State) : Host.Outcome State Fault Refusal :=
  let i := i.val
  .next (match s.pwr.op with
  | none => s
  | some o =>
    if s.island i != 1 || !(s.mayGoOff i) then s
    else
      let s := if !o.force || 11 ≤ i then s
        else (s.cal.lines.filterMap fun p => if s.lineIn p.1 i then some p.1 else none).foldl (fun s n => s.unmapLine n false) s
      let s :=
        if i < 8 then s.clusterOff i
        else if i < 11 then
          let q := i - 7
          let s := if calQuarter (256 * s.cal.sinter.region) = q then s.sinterRestore else s
          (if o.force then s.loseQuarter q else s).quarterLost q
        else if i = 11 then
          { s.setFld rNgxStat 11 2 0 with ngx := { s.ngx with good := 0, loss := 0, sent := none, rx := [], ret := none, retSlots := [] } }
        else if i = 12 then
          let fmt := s.rbit rSpisStat 0
          let s := ((s.resetBlock 0x0D0000 0x0E0000).resetBlock 0x110000 0x120000).setBit rSpisStat 0 fmt
          { s with port := { s.port with tdm := [], mics := [], spr := {}, spt := [] }, spis := {} }
        else
          let s := s.dacClamp.resetBlock 0x0E0000 0x0F0000
          { s with port := { s.port with dacs := [], grps := [] } }
      let s := s.setIsland i 2
      let s := (o.owners.filter fun p => p.1 == i).foldl (fun s p => s.logEvent p.2 0x22 0xFF 0xFF (2 ^ i)) s
      s.powerDone)

/-- ISLAND_POWER_UP: the OFF island `i` comes up (R676). -/
def execIslandPowerUp (i : Fin 14) (s : State) : Host.Outcome State Fault Refusal :=
  let i := i.val
  .next (match s.pwr.op with
  | none => s
  | some o =>
    if s.island i != 2 || !(o.isl.getLsbD i) || !(o.on.getLsbD i) then s
    else
      let s := s.setIsland i 0
      let s :=
        if i < 8 then
          let s := s.startClock (3 + i)
          if s.capActive && s.d0Running && !s.mode.runPend then
            let s := s.modPwr fun x => { x with capWhy := if x.shed.isEmpty then (if s.rbit rPwrCapStat 8 then 0x18 else 0x19) else x.capWhy }
            s.modeDo s.pwr.capWhy fun s => s.shedCluster i
          else s
        else if i < 11 then s.unparkQuarter (i - 7)
        else s
      s.powerDone)

end Sys2Proof.Machine
end

