-- ==== Sys2Proof/Machine/Images.lean ====
section
/-! DEFINITION. PROG_LOAD, SEG_MAP and PROG_SWAP (R160, R206 to R208, R214, R381, R722, R723). -/

namespace Sys2Proof.Machine

/-! ### Checks over a segment table -/

/-- A segment table as words by entry and word. -/
abbrev Tab := Nat → Nat → Word

def Engine.table (x : Engine) (active : Bool) : Tab := x.segWord active

def Tab.en (t : Tab) (i : Nat) : Bool := bit (t i 0) 31
def Tab.start (t : Tab) (i : Nat) : Nat := fld (t i 0) 0 14
def Tab.ctx (t : Tab) (i : Nat) : Nat := fld (t i 0) 16 9

/-- The enabled entry that the word at an address belongs to: the greatest START at or below it (R723). -/
def Tab.entryAt (t : Tab) (a : Nat) : Option Nat :=
  (List.range 33).foldl (fun best i =>
    if !(t.en i) || a < t.start i then best
    else match best with
      | some b => if t.start b ≤ t.start i then some i else best
      | none => some i) none

/-- A word passes the kind check of a table (R723). -/
def Tab.kindOk (t : Tab) (a : Nat) (w : IWord) : Bool :=
  match t.entryAt a with
  | some i => kindLegal (i == 32) w
  | none => true

/-- A reserved bit of an entry image is set. -/
def entryReserved (i : Nat) (w : Nat → Word) : Bool :=
  !(fld (w 0) 14 2 == 0 && fld (w 0) 27 4 == 0 && fld (w 1) 28 4 == 0 && fld (w 2) 14 2 == 0 && fld (w 2) 30 2 == 0 &&
    [4, 5, 6, 7].all fun n => fld (w n) 29 3 == 0) ||
  (i == 32 && !(bit (w 0) 25 == false && fld (w 1) 0 16 == 0 && w 3 == 0))

/-- The table check of R206. -/
def Tab.legal (t : Tab) (rate : Nat) : Bool :=
  let en := (List.range 32).filter t.en
  let bud := en.map fun i => fld (t i 1) 0 16
  rising (en.map t.start) && decide (bud.foldl (· + ·) 0 ≤ usableCycles rate) && bud.all (fun b => decide (11 ≤ b)) &&
    (List.range 33).all fun i => !(entryReserved i (t i))

/-- Numbers from `lo` to `hi`. -/
def upTo (lo hi : Nat) : List Nat := (List.range (hi + 1 - lo)).map (lo + ·)

/-- What an enabled entry reaches is assigned to its context (R206, R268, R722). -/
def State.entryHeld (s : State) (e : Nat) (t : Tab) (i : Nat) : Bool :=
  let c := t.ctx i
  let w2 := t i 2
  let w1 := t i 1
  let w3 := t i 3
  let mine := fun (k eng n : Nat) => s.resOwner k eng n == some c
  (decide (fld w2 16 14 < fld w2 0 14) || (upTo (fld w2 0 14 / 64) (fld w2 16 14 / 64)).all fun u => mine 1 e u) &&
  ((upTo (fld w1 16 6) (fld w1 22 6)).all fun n => mine 2 e n) &&
  (i == 32 || (((upTo (fld w3 0 8) (fld w3 8 8)).all fun p => mine 4 0 p) && ((upTo (fld w3 16 8) (fld w3 24 8)).all fun p => mine 4 0 p))) &&
  [4, 5, 6, 7].all fun n => (upTo (fld (t i n) 0 14) (fld (t i n) 14 14)).all fun tile =>
    ((s.tile tile).1 == 1 || (s.tile tile).1 == 4) && (s.tile tile).2 == c

/-- An enabled segment other than the last holds an END within its addresses, in a program bank (R206). -/
def State.earlyEnd (s : State) (e : Nat) (t : Tab) (bk : Bool) : Bool :=
  let en := (List.range 32).filter t.en
  (en.zip (en.drop 1)).any fun p =>
    (List.range (t.start p.2 - t.start p.1)).any fun k => opcOf (s.progWord e bk (t.start p.1 + k)) == 0x02

/-- Keeper's check of a table that is to become active with a program bank (R206). -/
def State.tableOk (s : State) (e : Nat) (t : Tab) (bk : Bool) : Bool :=
  t.legal s.d0Rate && !(s.earlyEnd e t bk) && (List.range 33).all fun i => !(t.en i) || s.entryHeld e t i

/-! ### PROG_LOAD -/

/-- Keeper has started the task and waits for host data. -/
def State.awaitData (s : State) (c q : Nat) : State := s.modDesc c q fun d => { d with granted := true }

/-- The line of an enabled descriptor image lies in memory assigned to the context (R160). -/
def State.dldHeld (s : State) (c e : Nat) (d : Dld) : Bool :=
  !d.en ||
  match d.place with
  | 0 => d.len * d.frame == 0 ||
      (upTo (d.base / 256) ((d.base + d.len * d.frame - 1) / 256)).all fun u => s.resOwner 1 e u == some c
  | 1 => s.ownsRange c (4 * d.base) (4 * d.len * d.frame)
  | _ => true

/-- The words of the image pass Keeper's checks, with the bank as it stands after the load (R160, R723). -/
def State.imageOk (s : State) (e : Nat) (bk : Bool) (pc : Nat) (ws : List IWord) : Bool :=
  let at' := fun (a : Nat) => if pc ≤ a && a < pc + ws.length then ws.getD (a - pc) 0 else s.progWord e bk a
  let next := fun (a : Nat) => if a = 16383 then none else some (at' (a + 1))
  let x := s.engine e
  (List.range ws.length).all (fun k =>
    let w := ws.getD k 0
    let a := pc + k
    opcodes.contains (opcOf w) && fieldsLegal w && guardLegal w && repeatLegal w (next a) &&
      ((x.table true).kindOk a w || (x.table false).kindOk a w)) &&
  (pc == 0 || repeatLegal (at' (pc - 1)) (next (pc - 1)))

/-- Word `i` of a descriptor image. -/
def dldImg (b : BitVec 128) (i : Nat) : Word := b.extractLsb' (32 * i) 32

/-- Writes an image into a program bank, and stages descriptors from `n0` on. -/
def Engine.load (x : Engine) (e : Nat) (bk : Bool) (pc : Nat) (image : List IWord) (n0 : Nat) (dlds : List (BitVec 128)) : Engine :=
  let put := fun (x : Engine) (k : Nat) =>
    let a := (if bk then 16384 else 0) + pc + k
    let prog := SMap.set (progDefault e x) x.prog a (image.getD k 0)
    let err := SMap.set (fun _ => 0) x.progErr a 0
    { x with prog := prog, progErr := err }
  let x := (List.range image.length).foldl put x
  let stage := fun (m : SMap (Word × Word × Word)) (k : Nat) =>
    let b := dlds.getD k 0
    SMap.set (fun _ => ((0 : Word), (0 : Word), (0 : Word))) m (n0 + k) (dldImg b 0 &&& 0x8FFFFFFF, dldImg b 1, dldImg b 2 &&& 0x0FFF003F)
  { x with dldWait := (List.range dlds.length).foldl stage x.dldWait }

/-- PROG_LOAD: `image` and `dlds` are what the host reads have returned; `fail` 1 for a failed read, 2 for poisoned
data. -/
def execProgLoad (c : Fin 512) (q : BitVec 32) (image : List (BitVec 64)) (dlds : List (BitVec 128)) (fail : Fin 3) (s : State) :
    Host.Outcome State Fault Refusal :=
  let (c, q) := (c.val, q.toNat)
  match s.ready c q tProgLoad with
  | none => .next s
  | some d =>
    let e := d.extra % 32
    let bk := d.extra / 256 % 2 == 1
    let count := d.num 24 2
    let pc := d.num 26 2
    let n0 := d.num 36 1
    let nd := d.num 37 1
    if d.extra / 32 % 8 != 0 || d.extra / 512 != 0 || !(d.onlyUses [(16, 22)]) || !(decide (1 ≤ count) && decide (pc + count ≤ 16384)) ||
        !(decide (n0 < 64) && decide (n0 + nd ≤ 64)) || !(windowOk (d.num 16 8) (8 * count)) || !(windowOk (d.num 28 8) (16 * nd)) || s.islandGone (e / 4) then
      .next (s.finish c q 0x10)
    else if bk == s.actBank e || !(s.engine e).swapPb.isEmpty then .next (s.finish c q 0x14)
    else if fail.val ≠ 0 then .next (s.finish c q (if fail.val = 1 then 0x20 else 0x22))
    else if image.length ≠ count || dlds.length ≠ nd then .next (s.awaitData c q)
    else
      let ok := s.imageOk e bk pc image && (List.range nd).all fun k =>
        let b := dlds.getD k 0
        s.resOwner 2 e (n0 + k) == some c && s.dldHeld c e (dldOf (dldImg b 0) (dldImg b 1) (dldImg b 2))
      if !ok then .next (s.finish c q 0x10)
      else
        let body := leBytes 1 e ++ leBytes 1 (if bk then 1 else 0) ++ leBytes 2 pc ++ leBytes 2 count ++
          image.flatMap (fun w => leBytes 8 w.toNat) ++ dlds.flatMap fun b => leBytes 16 b.toNat
        .next (((s.modEngine e fun x => x.load e bk pc image n0 dlds).measureLoad c body).finish c q 0)

/-! ### SEG_MAP -/

/-- A set record's words (R213, R381). -/
def recSet (b : BitVec 128) : Nat := fld b 0 16
def recWord (b : BitVec 128) (i : Nat) : Word := b.extractLsb' (32 * (i + 1)) 32

/-- The pages of a set record lie in memory assigned to the context. -/
def State.pagesHeld (s : State) (c : Nat) (w0 w1 w2 : Word) : Bool :=
  let n := fld w2 0 16 + 1
  [fld w0 0 22, fld w1 0 22].all fun p =>
    if bit w0 22 then s.ownsRange c (16 * p) (16 * n)
    else (upTo (p / 64) ((p + n - 1) / 64)).all fun u => s.resOwner 1 (fld w0 24 5) u == some c

/-- A set record passes the checks of R214 and R722. -/
def State.recOk (s : State) (c : Nat) (b : BitVec 128) : Bool :=
  let n := recSet b
  let w0 := recWord b 0
  let w1 := recWord b 1
  let w2 := recWord b 2
  fld b 16 16 == 0 && decide (n < 1024) && s.resOwner 5 0 n == some c && fld w2 16 9 == c && csetFits w0 w1 w2 &&
  !(bit w0 31 && s.rbit (rFabCsetW0 n) 31) && s.pagesHeld c w0 w1 w2

/-- No number stands twice. -/
def distinct : List Nat → Bool
  | [] => true
  | a :: l => !(l.contains a) && distinct l

/-- SEG_MAP: the entry images, binding images and set records that the host reads have returned. -/
def execSegMap (c : Fin 512) (q : BitVec 32) (images : List (BitVec 256)) (binds : List (BitVec 32)) (sets : List (BitVec 128))
    (fail : Fin 3) (s : State) : Host.Outcome State Fault Refusal :=
  let (c, q) := (c.val, q.toNat)
  match s.ready c q tSegMap with
  | none => .next s
  | some d =>
    let e := d.extra % 32
    let mask := d.num 24 4
    let what := d.num 28 1
    let ns := d.num 48 2
    let es := (List.range 32).filter (fun i => mask / 2 ^ i % 2 == 1) ++ (if what % 2 = 1 then [32] else [])
    if d.extra / 32 != 0 || !(d.onlyUses [(16, 13), (32, 18)]) || 4 ≤ what || 64 < ns || !(windowOk (d.num 16 8) 1056) ||
        !(windowOk (d.num 32 8) 64) || !(windowOk (d.num 40 8) (16 * ns)) || s.islandGone (e / 4) then .next (s.finish c q 0x10)
    else if fail.val ≠ 0 then .next (s.finish c q (if fail.val = 1 then 0x20 else 0x22))
    else if images.length ≠ 33 || (2 ≤ what && binds.length ≠ 16) || sets.length ≠ ns then
      .next (s.awaitData c q)
    else
      let x := s.engine e
      let img : Tab := fun i n => (images.getD i 0).extractLsb' (32 * n) 32
      let new : Tab := fun i n => if es.contains i then img i n else x.segWord false i n
      let entOk := es.all fun i =>
        !(entryReserved i (img i)) && s.resOwner 3 e i == some c && (!(Tab.en img i) || Tab.ctx img i == c)
      let bindOk := what < 2 || binds.all fun b =>
        fld b 19 12 == 0 && (!(bit b 31) || s.resOwner 5 0 (fld b 0 10) == some c)
      let setOk := sets.all (s.recOk c) && distinct (sets.map recSet) &&
        sets.all fun b => !(bit (recWord b 0) 31 && s.setGone (recWord b 0) (recWord b 1))
      let winOk := es.all fun i => !(Tab.en img i) || [4, 5, 6, 7].all fun n =>
        decide (fld (img i n) 14 14 < fld (img i n) 0 14) ||
          !((upTo (fld (img i n) 0 14 / 4096) (fld (img i n) 14 14 / 4096)).any fun q => s.quarterGone (2 ^ 24 * q))
      if !(entOk && bindOk && setOk && winOk && s.tableOk e new (s.actBank e)) then .next (s.finish c q 0x10)
      else
        let s := s.modEngine e fun x => es.foldl (fun x i => forN 8 (fun n x => x.setSegWord false i n (img i n)) x) x
        let s := if what < 2 then s else forN 16 (fun n s => s.cbindW e n (binds.getD n 0)) s
        let s := sets.foldl (fun s b => s.csetTake (recSet b) (recWord b 0) (recWord b 1) (recWord b 2)) s
        .next (s.finish c q 0)

/-! ### PROG_SWAP -/

/-- Keeper's checks of a PROG_SWAP on one engine: the table and the bank that would be active (R206, R723). -/
def State.swapOk (s : State) (e : Nat) (pb st : Bool) : Bool :=
  let x := s.engine e
  let t := x.table (!st)
  let bk := s.actBank e != pb
  s.tableOk e t bk && (List.range 16384).all fun a => t.kindOk a (s.progWord e bk a)

/-- PROG_SWAP. -/
def execProgSwap (c : Fin 512) (q : BitVec 32) (s : State) : Host.Outcome State Fault Refusal :=
  let (c, q) := (c.val, q.toNat)
  match s.ready c q tProgSwap with
  | none => .next s
  | some d =>
    let es := d.num 16 4
    let what := d.num 20 1
    let pb := what % 2 == 1
    let st := what / 2 % 2 == 1
    let names := (List.range 32).filter fun e => es / 2 ^ e % 2 == 1
    if s.heldBack d then .next s
    else if !(d.onlyUses [(16, 5)]) || !d.groupOk || es == 0 || !(what == 1 || what == 2 || what == 3) ||
        !(names.all fun e => s.swapOk e pb st) then .next (s.finish c q 0x10)
    else
      let mark := fun (s : State) => s.modDesc c q fun d => { d with wait := BitVec.ofNat 32 es, named := BitVec.ofNat 32 es }
      match d.group with
      | none => .next (names.foldl (fun s e => s.requestSwap e pb st (.desc c q)) (mark (s.begin c q)))
      | some g =>
        let m := Member.swap (BitVec.ofNat 32 es) pb st c q
        let code := s.stageStatus c (some g) m
        .next (if code ≠ 0 then s.finish c q code else (mark (s.begin c q)).stage (some g) m)

end Sys2Proof.Machine
end

