-- ==== Sys2Proof/Machine/Test.lean ====
section
/-! DEFINITION. Self-test (chapter 19). -/

namespace Sys2Proof.Machine

def State.modTest (s : State) (f : TestState → TestState) : State := { s with test := f s.test }

/-- The tests that a test code runs (R682). -/
def testCodes (code : Nat) : List Nat :=
  if code = 15 then [1, 2, 3, 4, 5] else if 1 ≤ code && code ≤ 5 then [code] else []

/-- The clusters that a test can touch: those with power. -/
def State.testClusters (s : State) : List Nat := (List.range 8).filter fun c => s.island c == 0

/-- R683: a live allocation stands against the test. -/
def State.testLive (s : State) (code : Nat) : Bool :=
  ((testCodes code).any (fun k => k == 1 || k == 2 || k == 4) && s.testClusters.any fun c => !(s.liveCluster c).isEmpty) ||
  ((testCodes code).contains 3 && s.liveTiles.any fun t => (upTo t.2.1 t.2.2).any fun u => (s.tile u).1 == 0)

/-- Why a start is refused, as TEST.STAT.CAUSE; 0 if it is taken (R683, R686). -/
def State.testCause (s : State) (t : Nat) : Nat :=
  if (testCodes (t % 16)).isEmpty || 32 ≤ t then 4
  else if !s.mode.started || s.mode.baseRun || s.mode.runPend || s.mode.recovery then 1
  else if s.rbit rTestStat 0 then 2
  else if t / 16 % 2 = 0 && s.testLive (t % 16) then 3
  else 0

/-- Steps 1 to 4 of R687, by path: 0 PF, 1 SPI slave, 2 JTAG. -/
def State.testBegin (s : State) (path t : Nat) (desc : Option (Nat × Nat)) : State :=
  let s := ((((s.setBit rTestStat 0 true).setFld rTestStat 1 3 0).setFld rTestStat 4 6 t).setFld rTestStat 10 2 path)
  let s := s.modeDo 0x30 fun s => { s with mode := { s.mode with selfTest := true } }
  let s := { s with test := { run := some t, started := s.now, desc := desc, record := s.test.record } }
  let hit := if (testCodes (t % 16)).any (fun k => k == 1 || k == 2 || k == 4) then s.testClusters else []
  let s := hit.foldl (fun s i => (s.liveCluster i).foldl (fun s c => s.logEvent c 0x22 0xFF 0xFF (2 ^ i)) s) s
  forN 32 (fun e s => s.lmRestore e) s.dacStopAll.sinterRestore

/-- A start on a path; a refusal writes CAUSE. -/
def State.testStart (s : State) (path t : Nat) (desc : Option (Nat × Nat)) : State :=
  if s.testCause t = 0 then s.testBegin path t desc else s.setFld rTestStat 12 3 (s.testCause t)

/-- TEST_RUN (R687, R689). -/
def execTestRun (c : Fin 512) (q : BitVec 32) (s : State) : Host.Outcome State Fault Refusal :=
  let (c, q) := (c.val, q.toNat)
  match s.ready c q tTestRun with
  | none => .next s
  | some d =>
    let t := d.num 16 1
    if !s.keeperRuns then .next s
    else if d.extra != 0 || !(d.onlyUses [(16, 1), (24, 8)]) || !(windowOk (d.num 24 8) 256) then .next (s.finish c q 0x10)
    else if s.testCause t ≠ 0 then .next ((s.testStart 0 t none).finish c q 0x10)
    else .next ((s.grant c q).testStart 0 t (some (c, q)))

/-- TEST.CTRL written (R691). -/
def State.testCtrlW (s : State) (v : Word) : State :=
  let s := if bit v 31 then s.setBit rTestCtrl 31 false else s
  let s := (s.setFld rTestCtrl 0 5 (fld v 0 5)).setBit rTestCtrl 9 (bit v 9)
  if !(bit v 8) then s
  else
    let t := fld v 0 5
    let s' := s.testStart 0 t none
    if s.testCause t = 0 then s' else s'.setBit rTestCtrl 31 true

/-! ### The tests (R682, R684, R685) -/

/-- Test `k` is the next to run. -/
def State.testNext (s : State) (k : Nat) : Bool :=
  match s.test.run with
  | some t => (testCodes (t % 16)).find? (fun j => !(s.test.done.contains j)) == some k && s.dacsClamped &&
      (k != 5 || s.mov.movers.all fun p => p.2.isNone)
  | none => false

/-- Runs `f` as test `k`, if it is the next. -/
def State.testDo (s : State) (k : Nat) (f : State → State) : State :=
  if s.testNext k then (f s).modTest fun x => { x with done := x.done ++ [k] } else s

/-- The test touches the clusters with power. -/
def State.testTouch (s : State) : State :=
  let m := s.testClusters.foldl (fun m c => m ||| (1#8 <<< c)) s.test.touched
  s.modTest fun x => { x with touched := m }

/-- Every engine of the clusters with power. -/
def State.testEngines (s : State) (f : Engine → Engine) : State :=
  s.testClusters.foldl (fun s c => forN 4 (fun i s => s.modEngine (4 * c + i) f) s) s

/-- PROG_MEM: `rows` names the engine of each faulty program-store row found. -/
def State.testProgMem (s : State) (rows : List (Fin 32)) : State :=
  let s := s.testTouch.testEngines fun x => { x with prog := [], progErr := [], progEpoch := x.progEpoch + 1 }
  rows.foldl (fun s e =>
    let n := SMap.get (fun _ => 0) s.cal.pmSpare e.val
    let s := s.modTest fun x => { x with rows := x.rows + 1 }
    if n < 4 then { s with cal := { s.cal with pmSpare := SMap.set (fun _ => 0) s.cal.pmSpare e.val (n + 1) } }
    else s.modTest fun x => { x with pmFail := putBit x.pmFail e.val true, bad := true }) s

/-- LOCAL_MEM: the faulty regions found, 1,024 × engine + region. -/
def State.testLocalMem (s : State) (bad : List (Fin 32768)) : State :=
  let s := s.testTouch.testEngines fun x => { x with lm := [], lmErr := [], lmEpoch := x.lmEpoch + 1 }
  bad.foldl (fun s k =>
    let e := k.val / 1024
    let r := k.val % 1024
    let fresh := !(SMap.get (fun _ => false) s.cal.lmFailing k.val)
    let s := ((s.lmRegionFails e r).lmRegionRepair e r).modTest fun x => { x with rows := x.rows + if fresh then 1 else 0 }
    if SMap.get (fun _ => false) s.cal.lmFailing k.val then s.modTest fun x => { x with lmFail := putBit x.lmFail e true, bad := true }
    else s) s

/-- CALDERA: the faulty rows found, 1,024 × bank + row. The FREE tiles lose their contents. -/
def State.testCaldera (s : State) (bad : List (Fin 65536)) : State :=
  let free := (List.range 16384).filter fun t => (s.tile t).1 == 0
  let s := { s with cal := { s.cal with
    bytes := SMap.keep (fun a => (s.tile (calTile a)).1 != 0) s.cal.bytes
    soft := SMap.keep (fun w => (s.tile (calTile (8 * w))).1 != 0) s.cal.soft
    tileEpochs := free.foldl (fun m t => SMap.modify (fun _ => 0) m t (· + 1)) s.cal.tileEpochs } }
  (bad.filter fun k => (s.tile (rowTile k.val)).1 == 0).foldl (fun s k =>
    let fresh := !(SMap.get (fun _ => false) s.cal.failing k.val)
    let s := ((s.rowFailing k.val).rowRepair k.val).modTest fun x => { x with rows := x.rows + if fresh then 1 else 0 }
    if SMap.get (fun _ => false) s.cal.failing k.val then s.modTest fun x => { x with calFail := x.calFail ||| (1#64 <<< (k.val / 1024)), bad := true }
    else s) s

/-- TEST.SEED holds its reset value. -/
def State.seedReset (s : State) : Bool := s.reg rTestSeedLo == 0x5A5AC3C3 && s.reg rTestSeedHi == 0x0F0F9669

/-- A MISR's comparison. -/
def State.misrCheck (s : State) (ok : Bool) : State :=
  if s.seedReset then s.modTest fun x => { x with bad := x.bad || !ok } else s.modTest fun x => { x with noCmp := true }

/-- ENGINE_LOGIC: the clusters' MISRs. -/
def State.testEngineLogic (s : State) (misrs : List (BitVec 64)) : State :=
  let cs := s.testClusters
  let s := s.testTouch.modTest fun x => { x with misrs := cs.foldl (fun m c => SMap.set (fun _ => 0) m c (misrs.getD c 0)) [] }
  s.misrCheck (cs.all fun c => misrs.getD c 0 == 0x6E1D47A09C35B28F)

/-- FABRIC_LOGIC: the fabric's MISR. Filter histories and the ASRC's tracking state are reset. -/
def State.testFabricLogic (s : State) (misr : BitVec 64) : State :=
  let br : SMap Bridge := s.route.bridges.map fun p => (p.1, { p.2 with hist := [] })
  let ch : SMap AsrcCh := s.route.asrc.map fun p => (p.1, { p.2 with hist := [], count := 0 })
  let s := { s with route := { s.route with bridges := br, asrc := ch } }
  let s := forN 256 (fun n s => if s.rfld (rAsrcStat n) 0 2 = 2 then s.setFld (rAsrcStat n) 0 2 1 else s) s
  (s.modTest fun x => { x with misrFab := misr }).misrCheck (misr == 0x1B94D0E753A62C81)

def execTestProgMem (rows : List (Fin 32)) (s : State) : Host.Outcome State Fault Refusal :=
  .next (s.testDo 1 fun s => s.testProgMem rows)

def execTestLocalMem (bad : List (Fin 32768)) (s : State) : Host.Outcome State Fault Refusal :=
  .next (s.testDo 2 fun s => s.testLocalMem bad)

def execTestCaldera (bad : List (Fin 65536)) (s : State) : Host.Outcome State Fault Refusal :=
  .next (s.testDo 3 fun s => s.testCaldera bad)

def execTestEngineLogic (misrs : List (BitVec 64)) (s : State) : Host.Outcome State Fault Refusal :=
  .next (s.testDo 4 fun s => s.testEngineLogic misrs)

def execTestFabricLogic (misr : BitVec 64) (s : State) : Host.Outcome State Fault Refusal :=
  .next (s.testDo 5 fun s => s.testFabricLogic misr)

/-- ALL: the five tests in order, with what each finds. -/
def execTestAll (rows : List (Fin 32)) (lm : List (Fin 32768)) (cal : List (Fin 65536)) (misrs : List (BitVec 64))
    (misr : BitVec 64) (s : State) : Host.Outcome State Fault Refusal :=
  .next (if s.test.run.any (fun t => t % 16 == 15) then
    (((((s.testDo 1 fun s => s.testProgMem rows).testDo 2 fun s => s.testLocalMem lm).testDo 3 fun s => s.testCaldera cal).testDo 4
      fun s => s.testEngineLogic misrs).testDo 5 fun s => s.testFabricLogic misr)
  else s)

/-! ### The end of a test (R687, R689) -/

/-- TEST.STAT.RESULT: 1 PASS, 2 FAIL, 3 NO_COMPARE. -/
def TestState.result (x : TestState) : Nat := if x.bad then 2 else if x.noCmp then 3 else 1

/-- The result record. -/
def TestState.bytes (x : TestState) (now : Nat) : List Byte :=
  leBytes 1 (x.run.getD 0) ++ leBytes 1 x.result ++ [0, 0] ++ leBytes 4 ((now - x.started) * 10 / 12288) ++
  leBytes 4 x.pmFail.toNat ++ leBytes 4 x.lmFail.toNat ++ leBytes 8 x.calFail.toNat ++ leBytes 4 x.rows ++ [0, 0, 0, 0] ++
  ((List.range 8).flatMap fun c => leBytes 8 (SMap.get (fun _ => 0) x.misrs c).toNat) ++ leBytes 8 x.misrFab.toNat ++
  List.replicate 152 0

/-- The sequencer is done: the touched clusters are reset, the record and RES0 to RES25 written, the mode returns. -/
def State.testEnds (s : State) : State :=
  let x := s.test
  let s := (clustersOf x.touched).foldl State.clusterReset s
  let rec' := x.bytes s.now
  let s := forN 26 (fun i s => s.setReg (rTestRes i) (BitVec.ofNat 32 (ofLeBytes ((rec'.drop (4 * i)).take 4)))) s
  let s := (s.setFld rTestStat 1 3 x.result).setBit rTestStat 0 false
  let s := { s with test := { record := rec' } }
  s.modeDo 0x30 fun s => { s with mode := { s.mode with selfTest := false } }

/-- TEST_COMPLETE: every test of the code has run. A TEST_RUN's record is written to its result address before its mark; it
waits for a translation. -/
def execTestComplete (s : State) : Host.Outcome State Fault Refusal :=
  .next (match s.test.run with
  | none => s
  | some t =>
    if !((testCodes (t % 16)).all fun k => s.test.done.contains k) then s
    else match s.test.desc with
    | none => s.testEnds
    | some (c, q) => match s.findDesc c q with
      | none => s.testEnds
      | some d =>
        let t := s.translateRange c (d.num 24 8) 256 true 3
        match t.1 with
        | none => t.2
        | some none => t.2.testEnds.setResult c q 0x20
        | some (some ps) =>
          let s := t.2.testEnds
          let bs := s.test.record
          (ps.foldl (fun s p => s.ctxWrite 3 96 c p.1 ((bs.drop p.2.1).take p.2.2.1) 0) s).setResult c q 0)

end Sys2Proof.Machine
end

