-- ==== Sys2Proof/Machine/Bar.lean ====
section
/-! DEFINITION. Writes and reads of BAR0 (chapters 0 and 1): the register network, shared by the PF, the register relay of
the cascade and the SPI slave. A register with a row of its own in the opcode table is written by the same operation as that
row. -/

namespace Sys2Proof.Machine

/-- The low half of a 64-bit pair under R10 (CLK.SIDX_LO has its own read). -/
def pairLow (off : Nat) : Bool :=
  [rTopLanternLo, rTopPcieFlrLo, rTopRlfTimeLo, rClkHoldIncLo, rClkSidxStartLo, rBootMbxAddrLo, rBootMinRingLo,
    rCaldXltFvaLo, rTestSeedLo].contains off ||
  (decide (0x050000 ≤ off) && decide (off < 0x058000) && [0x08, 0x10, 0x18].contains (off % 0x40)) ||
  (decide (0x061000 ≤ off) && decide (off < 0x061800) && [0x08, 0x10].contains (off % 0x20)) ||
  (decide (0x080000 ≤ off) && decide (off < 0x0A0000) && off % 0x1000 == 0x144)

/-- A register that reads what the last read of its low half latched (R10, R67). -/
def latched (off : Nat) : Bool :=
  off == rClkSidxHi || off == rClkSidxPhase || (decide (4 ≤ off) && pairLow (off - 4))

/-- In the recovery personality only TOP, BOOT, SEC and TEST respond (R425). -/
def State.responds (s : State) (off : Nat) : Bool :=
  !s.tap.held && (!(s.rbit rTopPcieStat 16) || [0x00, 0x03, 0x04, 0x12].contains (off / 0x10000))

/-- Which register an access at an offset reaches: none if it is unaligned, empty or not presented (R9, R425). -/
def State.regFor (s : State) (off : Nat) : Option RegDesc :=
  if off % 4 ≠ 0 || !(s.responds off) then none else regAt off

/-! ### Writes (R9, R11, R13, R22) -/

/-- A write by access type: RW fields take the value, W1C bits written 1 clear. -/
def State.plainW (s : State) (d : RegDesc) (off : Nat) (v : Word) : State :=
  s.setReg off (((s.reg off &&& ~~~d.rw) ||| (v &&& d.rw)) &&& ~~~(v &&& d.w1c))

/-- Clears the W1C bits that a write names. -/
def State.w1c (s : State) (d : RegDesc) (off : Nat) (v : Word) : State := s.setReg off (s.reg off &&& ~~~(v &&& d.w1c))

/-- A command register with BUSY in bit 29, REJ in bit 30 and GO in bit 31 (R272, R725): the command then runs as TILE_ASSIGN,
TILE_RELEASE, RES_ASSIGN or RES_RELEASE. -/
def State.goBusyW (s : State) (d : RegDesc) (off : Nat) (v : Word) : State :=
  if !(bit v 31) then s.plainW d off v
  else if s.rbit off 29 then (s.w1c d off v).setBit off 30 true
  else
    let s := s.plainW d off v
    if fld v 9 2 = 1 || fld v 9 2 = 2 then s.setBit off 29 true else s.setBit off 30 true

/-- The state an outcome leaves; a command that stops leaves the state. -/
def stateOf (s : State) (o : Host.Outcome State Fault Refusal) : State :=
  match o with
  | .next t => t
  | .fault _ => s
  | .refused _ => s

/-- A write to CTXn_CMD (R357). With GO, DISABLE and RESET act at once; ENABLE acts as CTX_ENABLE, which brings the contents
of host memory. -/
def State.ctxtCmdW (s : State) (d : RegDesc) (c : Fin 512) (v : Word) : State :=
  let s := (s.w1c d (rCtxtCmd c.val) v).ctxCmdW c.val (fld v 0 2) (bit v 2)
  if !(bit v 31) then s
  else match fld v 0 2 with
    | 0 => s.ctxRej c.val
    | 1 => s
    | 2 => stateOf s (execCtxDisable c s)
    | _ => stateOf s (execCtxReset c s)

/-- TOP and PWR. -/
def State.topW (s : State) (d : RegDesc) (off : Nat) (v : Word) : State :=
  if off = rTopModeCmd then s.modeCmdW v
  else if off = rTopRlfCtrl then s.rlfCtrlW v
  else if off = rTopPcieLtr then s.pcieLtrW v
  else if off = rPwrCapCtrl then s.capCtrlW v
  else if off = rPwrDormCtrl then s.dormCtrlW v
  else s.plainW d off v

/-- CLK. -/
def State.clkW (s : State) (d : RegDesc) (off : Nat) (v : Word) : State :=
  let x := (off - 0x020100) / 0x40
  if d.base = rClkPllCtrl 0 then s.pllCtrlW x v
  else if d.base = rClkPllNum 0 || d.base = rClkPllDen 0 then s.pllNumW x off v
  else if d.base = rClkCkoPhase 0 then s.ckoPhaseW ((off - 0x020400) / 0x10) (sextNat (fld v 0 12) 12)
  else if off = rClkCkoCommit then s.ckoCommitW v
  else if d.base = rClkTickCtrl 0 then s.tickCtrlW ((off - 0x020800) / 0x20) v
  else if off = rClkSidxStartLo || off = rClkSidxStartHi then (if s.modeCode = 5 then s.setReg off v else s)
  else if off = rClkHoldIncLo || off = rClkHoldIncHi then (if s.rbit rClkHoldStat 0 then s else s.plainW d off v)
  else s.plainW d off v

/-- BOOT. -/
def State.bootW (s : State) (d : RegDesc) (off : Nat) (v : Word) : State :=
  if off = rBootCtrl then (if bit v 0 then s.modBoot fun x => { x with att := 0 } else s)
  else if off = rBootOtpPgm then (if bit v 31 then s.otpGo (fld v 0 7) else s.plainW d off v)
  else if off = rBootMbxCmd then
    let s := s.plainW d off v
    if bit v 0 then s.mbxGo (bit v 1) (bit v 2) false (s.rfld rBootMbxLen 0 22) else s
  else if off = rBootUpd then (if bit v 0 then s.updGo (fld v 1 1) else s.plainW d off v)
  else if off = rBootArb then (if bit v 0 then s.arbGo (bit v 1) else s.plainW d off v)
  else if off = rBootMinCfg then s.minCfgW v
  else s.plainW d off v

/-- SEC. The write-only words of DM_EXT and DBG_RESP are held for the command that uses them. -/
def State.secW (s : State) (d : RegDesc) (off : Nat) (v : Word) : State :=
  if off = rSecDmCmd then s.dmCmdW v
  else if d.base = rSecDmExt 0 || d.base = rSecDbgResp 0 then s.setReg off v
  else if off = rSecDbgReq then
    let s := s.plainW d off v
    if bit v 8 then s.newChal (fld v 0 2) (fld v 4 2) else s
  else if off = rSecDbgCmd then
    let s := if bit v 0 then s.dbgGo false else s
    if bit v 1 then s.dbgClose else s
  else s.plainW d off v

/-- CTXT (R356). -/
def State.ctxtW (s : State) (d : RegDesc) (off : Nat) (v : Word) : State :=
  let c : Fin 512 := Fin.ofNat 512 ((off - 0x050000) / 0x40)
  if d.base = rCtxtCmd 0 then s.ctxtCmdW d c v
  else if d.base = rCtxtErr 0 then s.plainW d off v
  else if s.ctxState c.val = 0 then s.plainW d off v
  else s

/-- FAB. -/
def State.fabW (s : State) (d : RegDesc) (off : Nat) (v : Word) : State :=
  let n := (off - 0x064000) / 0x10
  if off = rFabResCmd then s.goBusyW d off v
  else if d.base = rFabCgCtrl 0 then
    (if s.groupSt ((off - 0x061000) / 0x20) = 0 then s.plainW d off v else s)
  else if d.base = rFabRampW0 0 then
    (if s.heldElsewhere none [(1, (off - 0x062000) / 0x10)] then s else s.plainW d off v)
  else if d.base = rFabCsetW0 0 then s.csetW0 n v
  else if d.base = rFabCsetW1 0 then s.csetW12 n false v
  else if d.base = rFabCsetW2 0 then s.csetW12 n true v
  else s.plainW d off v

/-- ENG: the standby segment table and tail entry, descriptors, bindings, swap requests. -/
def State.engW (s : State) (d : RegDesc) (off : Nat) (v : Word) : State :=
  let e := (off - 0x080000) / 0x1000
  let o := off % 0x1000
  if 0x100 ≤ o && o < 0x120 then s.modEngine e fun x => x.setSegWord false 32 ((o - 0x100) / 4) (v &&& d.rw)
  else if 0x800 ≤ o && o < 0xC00 then
    s.modEngine e fun x => x.setSegWord false ((o - 0x800) / 0x20) (o % 0x20 / 4) (v &&& d.rw)
  else if o = 0x140 then
    let s := s.w1c d off v
    if bit v 4 || bit v 5 then s.requestSwap e (bit v 4) (bit v 5) .bar else s
  else if 0x300 ≤ o && o < 0x340 then s.cbindW e ((o - 0x300) / 4) v
  else if 0x400 ≤ o && o < 0x800 then
    let n := (o - 0x400) / 0x10
    if o % 0x10 = 0 then s.dldW0 e n v
    else if o % 0x10 = 4 then s.dldW12 e n false v
    else if o % 0x10 = 8 then s.dldW12 e n true v
    else s
  else s.plainW d off v

/-- ROUTE, ASRC and DMA. -/
def State.routeW (s : State) (d : RegDesc) (off : Nat) (v : Word) : State :=
  if d.base = rRouteCpdom 0 then
    (if s.modeCode = 5 && (List.range 16).all (fun j => fld v (2 * j) 2 != 3) then s.setReg off v else s)
  else if d.base = rRouteBrg 0 then s.brgW ((off - 0x0A0200) / 4) v
  else if d.base = rAsrcCfg0 0 then s.asrcW0 ((off - 0x0B0000) / 0x10) v
  else if d.base = rAsrcCfg1 0 then s.asrcW1 ((off - 0x0B0000) / 0x10) v
  else if off = rDmaCtrl then (if bit v 0 then s.dmaReset else s)
  else s.plainW d off v

/-- PORT and CONV. -/
def State.portW (s : State) (d : RegDesc) (off : Nat) (v : Word) : State :=
  let t := (off - 0x0D0380) / 0x40
  if d.base = rPortTdmCfg0 0 then s.tdmCfgW ((off - 0x0D0000) / 0x40) v
  else if d.base = rPortTdmRxmask 0 || d.base = rPortTdmTxmask 0 then s.tdmMaskW ((off - 0x0D0000) / 0x40) off v
  else if d.base = rPortPdmMic 0 then s.micW ((off - 0x0D0200) / 4) v
  else if off = rPortSprCfg then s.sprCfgW v
  else if d.base = rPortSptCfg 0 then s.sptCfgW t v
  else if d.base = rPortSptCs 0 0 then s.sptCsW t ((off - 0x0D0390) % 0x40 / 4) v
  else if off = rConvClk then s.convClkW v
  else if off = rConvPdmck then s.convPdmckW v
  else if d.base = rConvGrp 0 then s.convGrpW ((off - 0x0E0010) / 4) v
  else if d.base = rConvDacCtrl 0 then s.dacW ((off - 0x0E0020) / 4) v
  else s.plainW d off v

/-- NGX. -/
def State.ngxW (s : State) (d : RegDesc) (off : Nat) (v : Word) : State :=
  if off = rNgxCtrl then s.ngxCtrlW v
  else if off = rNgxTiming then s.ngxTimingW v
  else if off = rNgxRrAddr then s.rrW off 0x0F3FFFFC v
  else if off = rNgxRrData then s.rrW off 0xFFFFFFFF v
  else if off = rNgxRrCmd then s.rrCmdW v
  else s.plainW d off v

/-- SPIM, SPIS, TEST. -/
def State.spiW (s : State) (d : RegDesc) (off : Nat) (v : Word) : State :=
  if off = rSpimCfg then s.spimCfgW v
  else if off = rSpimPfCmd then s.pfCmdW v
  else if off = rTestCtrl then s.testCtrlW v
  else s.plainW d off v

/-- A write that has reached its register. -/
def State.regWrite (s : State) (d : RegDesc) (off : Nat) (v : Word) : State :=
  let b := off / 0x10000
  if b ≤ 1 then s.topW d off v
  else if b = 2 then s.clkW d off v
  else if b = 3 then s.bootW d off v
  else if b = 4 then s.secW d off v
  else if b = 5 then s.ctxtW d off v
  else if b = 6 then s.fabW d off v
  else if b = 7 then (if off = rCaldTileCmd then s.goBusyW d off v else s.plainW d off v)
  else if b ≤ 9 then s.engW d off v
  else if b ≤ 0xC then s.routeW d off v
  else if b ≤ 0xE then s.portW d off v
  else if b = 0xF then s.ngxW d off v
  else s.spiW d off v

/-- A BAR0 write on any path (R9, R13, R22). -/
def State.barWrite (s : State) (off : Nat) (v : Word) : State :=
  s.bar off fun s => match s.regFor off with
    | none => s
    | some d => s.regWrite d off v

/-- REGISTER_WRITE. -/
def execRegisterWrite (off : Fin 4194304) (v : BitVec 32) (s : State) : Host.Outcome State Fault Refusal :=
  .next (s.barWrite off.val v)

/-! ### Reads (R9, R10, R13, R15, R22) -/

/-- TOP.GPIOn_CFG.IN (R703): the level that a ball drives; that of an input ball comes from outside. -/
def State.gpioIn (s : State) (n : Nat) : Bool × State :=
  let fn := s.rfld (rTopGpio n) 0 3
  if fn = 1 then (s.rbit (rTopGpio n) 3, s)
  else if 2 ≤ fn && fn ≤ 5 then
    (match SMap.get (fun _ => none) s.gpio.pulse fn with
     | some t => decide (s.now < t + 256)
     | none => false, s)
  else
    let (f, s) := s.draw
    (f.getLsbD 0, s)

/-- FAB.RES_INFO (R725). -/
def State.resInfo (s : State) : Word :=
  match s.resOwner (s.rfld rFabResSel 16 3) (s.rfld rFabResSel 19 5) (s.rfld rFabResSel 0 16) with
  | some c => BitVec.ofNat 32 (c + 512)
  | none => 0

/-- ROUTE.XP_W0 to XP_W4 (R352). -/
def State.xpWord (s : State) (i : Nat) : Word :=
  let x := s.xp (s.rfld rRouteXpSel 0 13)
  let member := x.st != 0 && s.heldElsewhere none [(2, 65536 * x.src + x.sink)]
  match i with
  | 0 => BitVec.ofNat 32 (x.src + 65536 * x.sink)
  | 1 => BitVec.ofNat 32 (x.owner + 512 * x.st + (if member then 2048 else 0))
  | 2 => x.ramp.cur
  | 3 => BitVec.ofInt 32 x.ramp.t
  | _ => rampW3 x.ramp

/-- DMA.STR_W0 to STR_W3 (R421). -/
def State.strWord (s : State) (i : Nat) : Word :=
  match s.stream (s.rfld rDmaStrSel 0 12) with
  | none => 0
  | some x => match i with
    | 0 => BitVec.ofNat 32 (x.ctx + 512 * x.ring + 8192 * x.st)
    | 1 => BitVec.ofNat 32 x.tokens
    | 2 => BitVec.ofNat 32 (min 65535 x.under + 65536 * min 65535 x.sat)
    | _ => BitVec.ofNat 32 (min 65535 x.lat + 65536 * min 65535 x.fail)

/-- The counters of STR_W2 or STR_W3 clear. -/
def State.strClear (s : State) (i : Nat) : State :=
  let r := s.rfld rDmaStrSel 0 12
  match s.stream r with
  | none => s
  | some x => s.setStream r (some (if i = 2 then { x with under := 0, sat := 0 } else { x with lat := 0, fail := 0 }))

/-- The value that a register returns: what is stored, but for the registers that the device computes. -/
def State.regValue (s : State) (d : RegDesc) (off : Nat) : Word :=
  let o := off % 0x1000
  let e := (off - 0x080000) / 0x1000
  let b := off / 0x10000
  let i := (off - d.base) / 4
  if off = rTopMode then s.modeWord
  else if off = rTopRlfCnt then putFld (s.reg off) 16 2 (min 3 s.recentStarts.length)
  else if off = rClkHoldStat then putBit (s.reg off) 1 (s.prevOk (s.rxState == 3 && s.ngx.contOk))
  else if d.base = rClkCkoPhase 0 then
    BitVec.ofNat 32 ((s.ckoPend ((off - 0x020400) / 0x10) % 4096).toNat * 65536)
  else if d.base = rSecMlogW 0 then s.mlogWord i
  else if d.base = rSecAuditW 0 then s.auditWord i
  else if d.base = rSecDmExt 0 || d.base = rSecDbgResp 0 then 0
  else if off = rSecDbgStat then putFld (s.reg off) 8 4 (if s.mode.session then s.modeUnder else 0)
  else if off = rBootFuseData then s.fuseData
  else if off = rFabResInfo then s.resInfo
  else if off = rCaldTileInfo then s.tileInfo
  else if off = rCaldRowInfo then s.rowInfo
  else if d.base = rRouteXpW 0 then s.xpWord i
  else if d.base = rDmaStrW 0 then s.strWord i
  else if d.base = rPortSprCs 0 then SMap.get (fun _ => 0) s.port.spr.latched i
  else if off = rNgxRrAddr || off = rNgxRrData || off = rNgxRrCmd then (if s.isMaster then s.reg off else 0)
  else if b = 8 || b = 9 then
    let x := s.engine e
    if 0x100 ≤ o && o < 0x120 then x.segWord false 32 ((o - 0x100) / 4)
    else if 0x120 ≤ o && o < 0x140 then x.segWord true 32 ((o - 0x120) / 4)
    else if 0x800 ≤ o && o < 0xC00 then x.segWord false ((o - 0x800) / 0x20) (o % 0x20 / 4)
    else if 0xC00 ≤ o then x.segWord true ((o - 0xC00) / 0x20) (o % 0x20 / 4)
    else s.reg off
  else s.reg off

/-- What a read does besides: RC fields clear (R13). -/
def State.readClear (s : State) (d : RegDesc) (off : Nat) : State :=
  if d.base = rDmaStrW 0 then (if (off - d.base) / 4 < 2 then s else s.strClear ((off - d.base) / 4))
  else if d.rc = 0 then s
  else s.setReg off (s.reg off &&& ~~~d.rc)

/-- A read that has reached its register. -/
def State.regRead (s : State) (d : RegDesc) (off : Nat) : Word × State :=
  if off = rClkSidxLo then s.sidxRead
  else if latched off then (SMap.get (fun _ => 0) s.latches off, s)
  else if pairLow off then
    (s.regValue d off, { s with latches := SMap.set (fun _ => 0) s.latches (off + 4) (s.reg (off + 4)) })
  else if d.base = rTopGpio 0 then
    let (v, s) := s.gpioIn ((off - d.base) / 4)
    (putBit (s.reg off) 4 v, s)
  else
    let s := if off = rPortSprCs 0 then s.csRead else s
    (s.regValue d off, s.readClear d off)

/-- A BAR0 read on any path (R9, R22). -/
def State.barRead (s : State) (off : Nat) : Word × State :=
  match s.dark off with
  | some b => (0, s.setBit rTopDark b true)
  | none => match s.regFor off with
    | none => (0, s)
    | some d => s.regRead d off

/-- READ_CLEAR and LOW_HALF_READ: a BAR0 read of the PF. -/
def State.pfRead (s : State) (off : Nat) : State :=
  let r := s.barRead off
  { r.2 with rdata := r.1 }

def execReadClear (off : Fin 4194304) (s : State) : Host.Outcome State Fault Refusal := .next (s.pfRead off.val)

/-- LOW_HALF_READ. -/
def execLowHalfRead (off : Fin 4194304) (s : State) : Host.Outcome State Fault Refusal := .next (s.pfRead off.val)

end Sys2Proof.Machine
end

