-- ==== Sys2Proof/Machine/Engine.lean ====
section
/-! DEFINITION. The meanings of the engine instructions (chapter 4). Each command issues the engine's next instruction. -/

namespace Sys2Proof.Machine

/-- Flags raised by a result of latency `n`. -/
def raise (n : Nat) (c : Bool) (m : BitVec 5) : List (Nat × RegWrite) := if c then [(n, .flg m)] else []

/-- A write of a scalar destination, if the guard lets lane 0 through (R114). -/
def scalarWr (n : Nat) (m : BitVec 4) (w : RegWrite) : List (Nat × RegWrite) := if m.getLsbD 0 then [(n, w)] else []

/-- The first fault of two. -/
def firstFault (a b : Nat) : Nat := if a ≠ 0 then a else b

def execNop (e : Fin 32) (s : State) : Host.Outcome State Fault Refusal :=
  .next (s.issue e.val 0x00 fun _ _ _ => {})

/-- RPT (R152, R153). -/
def execRpt (e : Fin 32) (s : State) : Host.Outcome State Fault Refusal :=
  .next (s.issue e.val 0x01 fun _ _ w => { ctl := .rep (fld w 0 12) })

/-- END (R155). -/
def execEndProgram (e : Fin 32) (s : State) : Host.Outcome State Fault Refusal :=
  .next (s.issue e.val 0x02 fun _ _ _ => { ctl := .stop })

/-- MAC (R125, R128). -/
def effMac (e : Nat) (s : State) (tail : Bool) (w : IWord) : Eff :=
  let x := s.engine e
  let m := (x.bank tail).guard w
  let d := fld w 49 2
  let xo := s.opnd e tail (fld w 36 13) (bit w 22)
  let yo := s.opnd e tail (fld w 23 13) (bit w 21)
  let r := macQuad (fld w 53 2) (fld w 51 2) m (x.forwarded tail d) xo.val yo.val
  let f : Eff := {
    fault := firstFault xo.fault yo.fault
    frs := xo.fr ++ yo.fr
    wr := (xo.upd ++ yo.upd).map (1, ·) ++ [(3, .aq d m r.1 true)] ++ raise 3 r.2 flgAov
      ++ raise 3 (!(xo.ue ++ yo.ue).isEmpty) flgPoison
    ce := xo.ce + yo.ce
    ue := xo.ue ++ yo.ue }
  (f.slots xo.words xo.quad).slots yo.words yo.quad

def execMac (e : Fin 32) (s : State) : Host.Outcome State Fault Refusal := .next (s.issue e.val 0x10 (effMac e.val))

/-- The address that TAP4 moves its sample to (R127). -/
def tapMove (w0 : Nat) (b l : BitVec 24) (d : Nat) : Nat :=
  if l = 0 then (w0 + d) % 2 ^ 24 else (b.toNat + modI ((w0 : Int) - b.toNat + d) l.toNat) % 2 ^ 24

/-- TAP4 (R126 to R128). -/
def effTap4 (e : Nat) (s : State) (tail : Bool) (w : IWord) : Eff :=
  let x := s.engine e
  let b := x.bank tail
  let m := b.guard w
  let d := fld w 49 2
  let xk := bit w 48
  let n := fld w 45 3
  let k := fld w 39 3
  let xm :=
    if xk then nearAddr x b n (fld w 37 8) true
    else s.nearDld e (fld w 42 6) (b.rg k).toNat (fld w 34 3) true
      (if zf w 37 2 then [] else [.g k (b.rg k + tincOf (fld w 37 2))])
  let xr := s.nearRead e xm.words
  let yo := s.opnd e tail (fld w 21 13) (bit w 20)
  let dist := if xk then [0, 1, 4, 0].getD (fld w 35 2) 0 else 0
  let w0 := if (b.rl n).toNat / 4 = 0 then (b.ra n).toNat else quadWord (b.ra n) (b.rb n) (b.rl n) 0
  let v := tapMove w0 (b.rb n) (b.rl n) dist % 65536
  let r := macQuad (fld w 53 2) (fld w 51 2) m (x.forwarded tail d) (quadOf xr.1) yo.val
  let f : Eff := {
    fault := firstFault xm.fault (firstFault yo.fault (if dist != 0 && !(x.lmOk v) then 1 else 0))
    frs := yo.fr
    wr := (xm.upd ++ yo.upd).map (1, ·) ++ [(3, .aq d m r.1 true)] ++ raise 3 r.2 flgAov
      ++ raise 3 (!(xr.2.2 ++ yo.ue).isEmpty) flgPoison
    posts := if dist = 0 then [] else quadPosts [v] m (quadOf xr.1)
    ce := xr.2.1 + yo.ce
    ue := xr.2.2 ++ yo.ue }
  (f.slots xm.words true).slots yo.words yo.quad

def execTap4 (e : Fin 32) (s : State) : Host.Outcome State Fault Refusal := .next (s.issue e.val 0x11 (effTap4 e.val))

/-- The quad move that MOVA, MOVST and MOVF make: values, SAT, DTH afterwards (R79 to R85). -/
def moveOf (b : RegBank) (w : IWord) (aq so dm : Nat) : Quad Word × Bool × Word :=
  moveQuad (b.raq aq) (b.guard w) (effShift b so) dm b.dth

/-- DTH after a dithered move can be read in the next cycle (R169). -/
def dthWr (dm : Nat) (v : Word) : List (Nat × RegWrite) := if dm = 0 then [] else [(1, .dth v)]

/-- MOVA (R129). -/
def effMova (e : Nat) (s : State) (tail : Bool) (w : IWord) : Eff :=
  let b := (s.engine e).bank tail
  let dm := fld w 42 2
  let r := moveOf b w (fld w 50 2) (fld w 44 6) dm
  { wr := dthWr dm r.2.2 ++ [(2, .q (fld w 52 3) (b.guard w) r.1)] ++ raise 2 r.2.1 flgSat }

def execMova (e : Fin 32) (s : State) : Host.Outcome State Fault Refusal := .next (s.issue e.val 0x18 (effMova e.val))

/-- MOVAL (R129): dither draws for its lane only. -/
def effMoval (e : Nat) (s : State) (tail : Bool) (w : IWord) : Eff :=
  let b := (s.engine e).bank tail
  let dm := fld w 42 2
  let sh := effShift b (fld w 44 6)
  let d := dither dm sh b.dth
  let r := moveLane ((b.raq (fld w 50 2)).get (fld w 40 2)) sh d.1
  { wr := dthWr dm d.2 ++ scalarWr 2 (b.guard w) (.g (fld w 52 3) r.1)
      ++ raise 2 (r.2 && (b.guard w).getLsbD 0) flgSat }

def execMoval (e : Fin 32) (s : State) : Host.Outcome State Fault Refusal := .next (s.issue e.val 0x19 (effMoval e.val))

/-- MOVST (R129). -/
def effMovst (e : Nat) (s : State) (tail : Bool) (w : IWord) : Eff :=
  let b := (s.engine e).bank tail
  let dm := fld w 14 2
  let m := s.nearOp e tail true w
  let r := moveOf b w (fld w 52 2) (fld w 16 6) dm
  { fault := m.fault
    wr := m.upd.map (1, ·) ++ dthWr dm r.2.2 ++ raise 2 r.2.1 flgSat
    posts := quadPosts m.words (b.guard w) r.1 }

def execMovst (e : Fin 32) (s : State) : Host.Outcome State Fault Refusal := .next (s.issue e.val 0x1A (effMovst e.val))

/-- MOVF (R129, R131). -/
def effMovf (e : Nat) (s : State) (tail : Bool) (w : IWord) : Eff :=
  let b := (s.engine e).bank tail
  let dm := fld w 14 2
  let m := s.farOp e tail true true w
  let r := moveOf b w (fld w 52 2) (fld w 16 6) dm
  { fault := m.fault
    wr := m.upd.map (1, ·) ++ dthWr dm r.2.2 ++ raise 2 r.2.1 flgSat
    stores := farEntries m.words (b.guard w) r.1 }

def execMovf (e : Fin 32) (s : State) : Host.Outcome State Fault Refusal := .next (s.issue e.val 0x1B (effMovf e.val))

/-- LDA (R129, R82). -/
def effLda (e : Nat) (s : State) (tail : Bool) (w : IWord) : Eff :=
  let b := (s.engine e).bank tail
  let v := if bit w 46 then Quad.all 0 else (b.rq (fld w 47 3)).map fun x => BitVec.ofInt 72 (x.toInt * 2 ^ 32)
  { wr := [(2, .aq (fld w 50 2) (b.guard w) v false)] }

def execLda (e : Fin 32) (s : State) : Host.Outcome State Fault Refusal := .next (s.issue e.val 0x1C (effLda e.val))

/-- ARAW (R129, R130). -/
def effAraw (e : Nat) (s : State) (tail : Bool) (w : IWord) : Eff :=
  let b := (s.engine e).bank tail
  let g := fld w 51 3
  let q := fld w 49 2
  let l := fld w 47 2
  let p := fld w 45 2
  { wr :=
      if bit w 54 then (if (b.guard w).getLsbD l then [(2, .aqPart q l p (b.rg g))] else [])
      else scalarWr 2 (b.guard w) (.g g (getPart ((b.raq q).get l) p)) }

def execAraw (e : Fin 32) (s : State) : Host.Outcome State Fault Refusal := .next (s.issue e.val 0x1D (effAraw e.val))

/-- AACC (R129). -/
def effAacc (e : Nat) (s : State) (tail : Bool) (w : IWord) : Eff :=
  let b := (s.engine e).bank tail
  let d := fld w 51 2
  let r := aaccQuad (fld w 53 2) (b.guard w) (b.raq d) (b.raq (fld w 49 2))
  { wr := [(2, .aq d (b.guard w) r.1 false)] ++ raise 2 r.2 flgAov }

def execAacc (e : Fin 32) (s : State) : Host.Outcome State Fault Refusal := .next (s.issue e.val 0x1E (effAacc e.val))

/-- QOP (R132). -/
def effQop (e : Nat) (s : State) (tail : Bool) (w : IWord) : Eff :=
  let b := (s.engine e).bank tail
  let a := b.rq (fld w 49 3)
  let c := b.rq (fld w 46 3)
  let r := Quad.ofFn fun i => qopLane (fld w 42 4) (fld w 37 5) (a.get i) (c.get i)
  let sat := (List.range 4).any fun i => (b.guard w).getLsbD i && (r.get i).2
  { wr := [(2, .q (fld w 52 3) (b.guard w) (r.map Prod.fst))] ++ raise 2 sat flgSat }

def execQop (e : Fin 32) (s : State) : Host.Outcome State Fault Refusal := .next (s.issue e.val 0x20 (effQop e.val))

/-- QXF (R133). -/
def effQxf (e : Nat) (s : State) (tail : Bool) (w : IWord) : Eff :=
  let b := (s.engine e).bank tail
  let m := b.guard w
  let d := fld w 52 3
  let v := b.rq (fld w 49 3)
  let l := fld w 47 2
  match fld w 42 4 with
  | 0 => { wr := [(1, .q d m v)] }
  | 1 => { wr := [(1, .q d m (Quad.all (v.get l)))] }
  | 2 => { frs := [l], wr := [(1, .q d m (b.rfr l))] }
  | 3 => { wr := [(1, .q d (m &&& (1#4 <<< l)) (Quad.all (b.rg (fld w 49 3))))] }
  | 4 => { wr := scalarWr 1 m (.g d (v.get l)) }
  | _ => { wr := [(1, .q d m (Quad.ofFn fun i => v.get (i + l)))] }

def execQxf (e : Fin 32) (s : State) : Host.Outcome State Fault Refusal := .next (s.issue e.val 0x21 (effQxf e.val))

/-- SEL (R134). -/
def effSel (e : Nat) (s : State) (tail : Bool) (w : IWord) : Eff :=
  let b := (s.engine e).bank tail
  { wr := [(1, .q (fld w 52 3) 0xF (Quad.merge (b.rps (fld w 44 2)) (b.rq (fld w 46 3)) (b.rq (fld w 49 3))))] }

def execSel (e : Fin 32) (s : State) : Host.Outcome State Fault Refusal := .next (s.issue e.val 0x22 (effSel e.val))

/-- A predicate from one test per lane. -/
def lanesMask (f : Nat → Bool) : BitVec 4 :=
  (List.range 4).foldl (fun m i => if f i then m ||| (1#4 <<< i) else m) 0

/-- PCMP (R135). -/
def effPcmp (e : Nat) (s : State) (tail : Bool) (w : IWord) : Eff :=
  let b := (s.engine e).bank tail
  let a := b.rq (fld w 49 3)
  let c := if bit w 45 then Quad.all 0 else b.rq (fld w 46 3)
  { wr := [(1, .ps (fld w 53 2) (lanesMask fun i => cndHolds (fld w 42 3) (a.get i) (c.get i)))] }

def execPcmp (e : Fin 32) (s : State) : Host.Outcome State Fault Refusal := .next (s.issue e.val 0x24 (effPcmp e.val))

/-- PSET (R136). -/
def effPset (e : Nat) (s : State) (tail : Bool) (w : IWord) : Eff :=
  let x := s.engine e
  let b := x.bank tail
  let pa := b.rps (fld w 51 2)
  let pb := b.rps (fld w 49 2)
  let v : BitVec 4 := match fld w 45 4 with
    | 0 => BitVec.ofNat 4 (fld w 41 4)
    | 1 => pa &&& pb
    | 2 => pa ||| pb
    | 3 => pa ^^^ pb
    | 4 => ~~~pa
    | 5 => if x.dfl.getLsbD (fld w 31 1) then 0xF else 0
    | _ => if cndHolds (fld w 32 3) (b.rg (fld w 38 3)) (b.rg (fld w 35 3)) then 0xF else 0
  { wr := [(1, .ps (fld w 53 2) v)] }

def execPset (e : Fin 32) (s : State) : Host.Outcome State Fault Refusal := .next (s.issue e.val 0x25 (effPset e.val))

/-- CHW (R145, R189, R198). -/
def effChw (e : Nat) (s : State) (tail : Bool) (w : IWord) : Eff :=
  let x := s.engine e
  let p := fld w 44 8
  let w3 := x.segWord true x.entry 3
  { fault := if fld w3 0 8 ≤ p && p ≤ fld w3 8 8 && p ≤ 191 then 0 else 5
    chw := some (p, (x.bank tail).guard w, (x.bank tail).rq (fld w 52 3)) }

def execChw (e : Fin 32) (s : State) : Host.Outcome State Fault Refusal := .next (s.issue e.val 0x28 (effChw e.val))

/-- CHR (R145, R146, R189, R198). -/
def effChr (e : Nat) (s : State) (tail : Bool) (w : IWord) : Eff :=
  let x := s.engine e
  let p := fld w 44 8
  let w3 := x.segWord true x.entry 3
  let r := s.chainRead e p (x.tickCyc + 1)
  { fault := if fld w3 16 8 ≤ p && p ≤ fld w3 24 8 then 0 else 6
    wr := [(2, .q (fld w 52 3) ((x.bank tail).guard w) r.1)] ++ raise 2 r.2 flgEarly }

def execChr (e : Fin 32) (s : State) : Host.Outcome State Fault Refusal := .next (s.issue e.val 0x29 (effChr e.val))

/-- LDQ (R137, R138). -/
def effLdq (e : Nat) (s : State) (tail : Bool) (w : IWord) : Eff :=
  let b := (s.engine e).bank tail
  let m := s.nearOp e tail true w
  let r := s.nearRead e m.words
  let f : Eff := {
    fault := m.fault
    wr := m.upd.map (1, ·) ++ [(2, .q (fld w 52 3) (b.guard w) (quadOf r.1))] ++ raise 2 (!r.2.2.isEmpty) flgPoison
    ce := r.2.1
    ue := r.2.2 }
  f.slots m.words true

def execLdq (e : Fin 32) (s : State) : Host.Outcome State Fault Refusal := .next (s.issue e.val 0x2C (effLdq e.val))

/-- LDG (R137, R138). -/
def effLdg (e : Nat) (s : State) (tail : Bool) (w : IWord) : Eff :=
  let b := (s.engine e).bank tail
  let m := s.nearOp e tail false w
  let r := s.nearRead e m.words
  let f : Eff := {
    fault := m.fault
    wr := m.upd.map (1, ·) ++ scalarWr 2 (b.guard w) (.g (fld w 52 3) (quadOf r.1).l0)
      ++ raise 2 (!r.2.2.isEmpty) flgPoison
    ce := r.2.1
    ue := r.2.2 }
  f.slots m.words false

def execLdg (e : Fin 32) (s : State) : Host.Outcome State Fault Refusal := .next (s.issue e.val 0x2D (effLdg e.val))

/-- STQ (R137, R94). -/
def effStq (e : Nat) (s : State) (tail : Bool) (w : IWord) : Eff :=
  let b := (s.engine e).bank tail
  let m := s.nearOp e tail true w
  { fault := m.fault
    wr := m.upd.map (1, ·)
    posts := quadPosts m.words (b.guard w) (b.rq (fld w 52 3)) }

def execStq (e : Fin 32) (s : State) : Host.Outcome State Fault Refusal := .next (s.issue e.val 0x2E (effStq e.val))

/-- STG (R137, R94). -/
def effStg (e : Nat) (s : State) (tail : Bool) (w : IWord) : Eff :=
  let b := (s.engine e).bank tail
  let m := s.nearOp e tail false w
  { fault := m.fault
    wr := m.upd.map (1, ·)
    posts := quadPosts m.words (b.guard w) (Quad.all (b.rg (fld w 52 3))) }

def execStg (e : Fin 32) (s : State) : Host.Outcome State Fault Refusal := .next (s.issue e.val 0x2F (effStg e.val))

/-- GOP (R147). -/
def effGop (e : Nat) (s : State) (tail : Bool) (w : IWord) : Eff :=
  let b := (s.engine e).bank tail
  let c := if bit w 41 then BitVec.ofInt 32 (sextNat (fld w 0 16) 16) else b.rg (fld w 46 3)
  { wr := [(1, .g (fld w 52 3) (gopFn (fld w 42 4) (b.rg (fld w 49 3)) c))] }

def execGop (e : Fin 32) (s : State) : Host.Outcome State Fault Refusal := .next (s.issue e.val 0x30 (effGop e.val))

/-- LDI (R148). -/
def effLdi (w : IWord) : Eff :=
  let v : Word := w.extractLsb' 0 32
  let i := fld w 49 3
  { wr := [(1, match fld w 52 3 with
      | 0 => .g i v
      | 1 => .a i (v.setWidth 24)
      | 2 => .m i (v.setWidth 24)
      | 3 => .l i (v.setWidth 24)
      | _ => .b i (v.setWidth 24))] }

def execLdi (e : Fin 32) (s : State) : Host.Outcome State Fault Refusal := .next (s.issue e.val 0x31 fun _ _ w => effLdi w)

/-- The value of a special register (R149). -/
def srRead (x : Engine) (b : RegBank) (c : Nat) : Word :=
  if c < 0x08 then (b.ra (c % 8)).setWidth 32
  else if c < 0x10 then (b.rm (c % 8)).signExtend 32
  else if c < 0x18 then (b.rl (c % 8)).setWidth 32
  else if c < 0x20 then (b.rb (c % 8)).setWidth 32
  else match c with
    | 0x20 => b.shm.signExtend 32
    | 0x21 => b.dth
    | 0x22 => b.flg.setWidth 32
    | 0x30 => x.six.extractLsb' 0 32
    | 0x31 => x.six.extractLsb' 32 32
    | 0x32 => x.dfl.setWidth 32
    | 0x33 => x.tc1.extractLsb' 0 32
    | 0x34 => x.tc1.extractLsb' 32 32
    | 0x35 => x.tc2.extractLsb' 0 32
    | 0x36 => x.tc2.extractLsb' 32 32
    | _ => (b.rps (c % 4)).setWidth 32

/-- The write of a special register (R149). -/
def srWrite (c : Nat) (v : Word) : RegWrite :=
  if c < 0x08 then .a (c % 8) (v.setWidth 24)
  else if c < 0x10 then .m (c % 8) (v.setWidth 24)
  else if c < 0x18 then .l (c % 8) (v.setWidth 24)
  else if c < 0x20 then .b (c % 8) (v.setWidth 24)
  else match c with
    | 0x20 => .shm (v.setWidth 5)
    | 0x21 => .dth v
    | _ => .ps (c % 4) (v.setWidth 4)

/-- MVS (R149). -/
def effMvs (e : Nat) (s : State) (tail : Bool) (w : IWord) : Eff :=
  let x := s.engine e
  let b := x.bank tail
  let c := fld w 43 8
  let g := fld w 51 3
  { wr := [(1, if bit w 54 then srWrite c (b.rg g) else .g g (srRead x b c))] }

def execMvs (e : Fin 32) (s : State) : Host.Outcome State Fault Refusal := .next (s.issue e.val 0x32 (effMvs e.val))

/-- AADR (R150). -/
def effAadr (e : Nat) (s : State) (tail : Bool) (w : IWord) : Eff :=
  let b := (s.engine e).bank tail
  let n := fld w 52 3
  { wr := [(1, .a n (postMod (b.ra n) (b.rb n) (b.rl n) (b.offset (fld w 44 8))))] }

def execAadr (e : Fin 32) (s : State) : Host.Outcome State Fault Refusal := .next (s.issue e.val 0x33 (effAadr e.val))

/-- FLGC (R151). -/
def execFlgc (e : Fin 32) (s : State) : Host.Outcome State Fault Refusal :=
  .next (s.issue e.val 0x34 fun _ _ w => { clr := BitVec.ofNat 5 (fld w 40 5) })

/-- BR (R156, R158). -/
def effBr (e : Nat) (s : State) (tail : Bool) (w : IWord) : Eff :=
  let b := (s.engine e).bank tail
  let g := b.rg (fld w 49 3)
  let f := b.flg.getLsbD (fld w 46 3)
  let take := match fld w 52 3 with
    | 0 => true
    | 1 => g == 0
    | 2 => g != 0
    | 3 => g.msb
    | 4 => !g.msb
    | 5 => f
    | _ => !f
  { ctl := if take then .jump (fld w 0 14) else .next }

def execBr (e : Fin 32) (s : State) : Host.Outcome State Fault Refusal := .next (s.issue e.val 0x38 (effBr e.val))

/-- DBNZ (R157, R158). -/
def effDbnz (e : Nat) (s : State) (tail : Bool) (w : IWord) : Eff :=
  let b := (s.engine e).bank tail
  let i := fld w 49 3
  let v := b.rg i - 1
  { wr := [(1, .g i v)], ctl := if v = 0 then .next else .jump (fld w 0 14) }

def execDbnz (e : Fin 32) (s : State) : Host.Outcome State Fault Refusal := .next (s.issue e.val 0x39 (effDbnz e.val))

/-- FLD and FLDW (R139 to R142). -/
def effFarLoad (quad : Bool) (e : Nat) (s : State) (tail : Bool) (w : IWord) : Eff :=
  let b := (s.engine e).bank tail
  let m := s.farOp e tail quad false w
  { fault := m.fault
    wr := m.upd.map (1, ·)
    load := some (fld w 52 2, b.guard w, farPieces m.words m.host) }

def execFld (e : Fin 32) (s : State) : Host.Outcome State Fault Refusal := .next (s.issue e.val 0x3A (effFarLoad true e.val))

def execFldw (e : Fin 32) (s : State) : Host.Outcome State Fault Refusal := .next (s.issue e.val 0x3B (effFarLoad false e.val))

/-- FST and FSTW (R139, R140, R173). -/
def effFarStore (quad : Bool) (e : Nat) (s : State) (tail : Bool) (w : IWord) : Eff :=
  let b := (s.engine e).bank tail
  let m := s.farOp e tail quad true w
  { fault := m.fault
    wr := m.upd.map (1, ·)
    stores := farEntries m.words (b.guard w) (b.rq (fld w 52 3)) }

def execFst (e : Fin 32) (s : State) : Host.Outcome State Fault Refusal := .next (s.issue e.val 0x3C (effFarStore true e.val))

def execFstw (e : Fin 32) (s : State) : Host.Outcome State Fault Refusal := .next (s.issue e.val 0x3D (effFarStore false e.val))

/-- WRITE_QUEUE_RETIRE (R96, R98): the end of an engine cycle in which no instruction issues. A hold cycle, and a
cycle spent while an instruction could issue, is no pipeline cycle (R167). Hold cycles after a tick's receipt or the
end of a budget are stop-wait (R202). -/
def execWriteQueueRetire (e : Fin 32) (s : State) : Host.Outcome State Fault Refusal :=
  let x := s.engine e.val
  let s := s.emptyCycle e.val (x.heldStore.isNone && x.running.isNone)
  .next (if x.heldStore.isSome && (x.pendTick.isSome || x.cutPending) then
    s.modEngine e.val fun x => { x with stopWait := x.stopWait + 1 } else s)

/-- ILLEGAL_WORD (R161, R162): the word at the next program address is illegal. -/
def execIllegalWord (e : Fin 32) (s : State) : Host.Outcome State Fault Refusal :=
  match (s.engine e.val).running with
  | none => .next s
  | some tail =>
    let c := (s.fetch e.val tail).2
    if c = 0 then .next s
    else
      let old := s.reg (rEngIllStat e.val)
      let v := ((s.engine e.val).bank tail).pc % 16384 + (if tail then 2 ^ 14 else 0)
        + (if s.actBank e.val then 2 ^ 15 else 0) + c * 2 ^ 16 + 2 ^ 31
      .next ((s.setReg (rEngIllStat e.val) (BitVec.ofNat 32 v ||| (old &&& 0x0FF00000))).faultAt e.val 8)

/-- Writes the far loads whose data is complete to their registers, in the order of issue (R141, R143). -/
def State.deliverFar (s : State) (e : Nat) : Nat → State
  | 0 => s
  | k + 1 =>
    match (s.engine e).farLoads with
    | [] => s
    | l :: rest =>
      if !l.left.isEmpty then s
      else
        let v := Quad.ofFn fun i => SMap.get (fun _ => 0) l.got i
        let s := s.modEngine e fun x =>
          { (x.modBank l.tail fun b => b.setFr l.fr (Quad.merge l.mask (b.rfr l.fr) v)) with farLoads := rest }
        let s := if l.poison then s.land e l.tail (.flg flgPoison) else s
        let s := if l.late then s.land e l.tail (.flg flgLate) else s
        s.deliverFar e k

/-- FAR_RETURN_ARRIVAL (R141 to R143, R171, R172): the oldest returned access of engine `e` arrives. -/
def execFarReturnArrival (e : Fin 32) (s : State) : Host.Outcome State Fault Refusal :=
  match (s.engine e.val).farRet with
  | [] => .next s
  | r :: rest =>
    let s := s.modEngine e.val fun x => { x with
      farRet := rest
      farLoads := x.farLoads.map fun l =>
        if l.id = r.load then { l with
          left := l.left.erase r.piece
          got := r.words.foldl (fun m w => SMap.set (fun _ => 0) m w.1 w.2) l.got
          poison := l.poison || r.poison
          late := l.late || r.late }
        else l }
    .next (s.deliverFar e.val (s.engine e.val).farLoads.length)

end Sys2Proof.Machine
end

