-- ==== Sys2Proof/Machine/Ngx.lean ====
section
/-! DEFINITION. The commands of the cascade link: frames, messages, relay, follower boot, cascade commits (chapters 6, 14). -/

namespace Sys2Proof.Machine

def State.modNgx (s : State) (f : NgxState → NgxState) : State := { s with ngx := f s.ngx }

/-- A GPIO pulse function starts a pulse (R704). -/
def State.pulse (s : State) (fn : Nat) : State :=
  { s with gpio := { s.gpio with pulse := SMap.set (fun _ => none) s.gpio.pulse fn (some s.now) } }

/-! ### Frames (R526, R531 to R543) -/

/-- SYMBOL_LOCK. -/
def execSymbolLock (s : State) : Host.Outcome State Fault Refusal :=
  .next (if s.ngxOn && s.rxState = 0 then (s.setFld rNgxStat 11 2 1).histEnd 7 else s)

/-- The 64 slots that the master originates: what returned and travels on, and its own messages (R547). -/
def State.masterSlots (s : State) : List (List Word) × State :=
  let n := max 1 (s.rfld rNgxStat 6 5)
  let back := s.ngx.retSlots
  forN 64 (fun i (acc : List (List Word) × State) =>
    let res := (acc.2.ngx.frameCnt.toNat + i) % n
    let old := back.getD i []
    if slotFull old then (acc.1 ++ [putFld (old.getD 0 0) 9 4 res :: old.drop 1], acc.2)
    else if res = 0 then
      let r := acc.2.fillSlot res
      (acc.1 ++ [r.1], r.2)
    else (acc.1 ++ [emptySlot res], acc.2)) ([], s)

/-- FRAME_ORIGINATE: the master sends a frame, with 118 + `idle` idle words after it while D0 holds the pace. -/
def execFrameOriginate (idle : Fin 17) (s : State) : Host.Outcome State Fault Refusal :=
  if !s.isMaster || !s.ngxOn then .next s
  else
    let run := s.run48
    let s := if s.d0Running && family441 s.d0Rate then s.setBit rNgxStat 21 true else s
    let s := if run && (idle.val = 0 || idle.val = 16) then s.setBit rNgxStat 22 true else s
    let s := s.modNgx fun x => { x with frameCnt := x.frameCnt + 1 }
    let back := s.ngx.ret
    let zero : List Word := List.replicate 4096 0
    let hdr := s.masterHeader back.isSome
    let audio := if run then s.audioFor s.nextBase (back.getD zero) else zero
    let (slots, s) := s.masterSlots
    let fr := frameOf hdr audio slots true true (List.replicate 64 true)
    .next ((s.modNgx fun x => { x with sent := some fr, ret := none, retSlots := [] }).pulse 5)

/-- What a good header says on a follower (R526, R536, R538, R557). `lag` is its forwarding latency. -/
def State.followHeader (s : State) (h : List Word) : State :=
  let hops := fld (hw h 5) 0 5
  let nm1 := fld (hw h 1) 8 4
  let cable := fld (hw h 7) 16 16
  let talign := fld (hw h 7) 0 16
  let delta := fld (hw h 6) 0 16 + hops * cable
  let s := ((s.setFld rNgxStat 1 4 hops).setBit rNgxStat 5 true).setFld rNgxStat 6 5 (if nm1 = 0 then 0 else nm1 + 1)
  let s := if talign < delta then s.setBit rNgxStat 18 true else s
  let s := (s.setReg rNgxDelay (BitVec.ofNat 32 (min delta talign + 65536 * cable))).setFld rNgxTiming 0 16 talign
  let s := s.modNgx fun x => { x with beacon := some {
    sidx := (hw h 2).toNat + 2 ^ 32 * (hw h 3).toNat, epoch := fld (hw h 1) 16 16, rate := fld (hw h 1) 12 2, run := bit (hw h 1) 14 } }
  ((s.seeSessions h).takeDecisions h).pulse 5

/-- The loop as the master measures it (R526, R537). -/
def State.measureLoop (s : State) (h : List Word) (L : Nat) : State :=
  let hops := fld (hw h 5) 0 5
  if 16 < hops then (s.setBit rNgxStat 20 true).setFld rNgxStat 6 5 0
  else
    let s := (s.setFld rNgxStat 6 5 hops).setFld rNgxDelay 0 16 L
    if 24576 < L then s.setBit rNgxStat 23 true
    else if s.ngx.aligned ≠ 0 && s.ngx.frames < s.ngx.aligned + 64 then s
    else
      let s := s.setFld rNgxDelay 16 16 ((L - fld (hw h 6) 0 16) / max 1 hops)
      let s := if s.rbit rNgxCtrl 2 then s.setFld rNgxTiming 0 16 L else s
      s.modNgx fun x => { x with aligned := x.frames }

/-- The audio part of a frame is held for the ticks that take words from it (R543); a new epoch starts afresh. -/
def State.keepAudio (s : State) (h audio : List Word) (ok : Bool) : State :=
  if !(bit (hw h 1) 14) then s
  else
    let e := fld (hw h 1) 16 16
    s.modNgx fun x => { x with rx := (({
      sidx := (hw h 2).toNat + 2 ^ 32 * (hw h 3).toNat, epoch := e, audOk := ok, copyValid := bit (hw h 1) 15, audio := audio } : RxFrame) ::
      x.rx.filter fun r => r.epoch == e).take 4 }

/-- A slot of a frame that has returned to the master: its own and its peers' messages to it are taken; the rest travel on. -/
def State.returnSlot (s : State) (ws : List Word) (ok : Bool) : List Word × State :=
  if !(slotFull ws) || !ok then ([], s)
  else
    let m := msgOf ws
    let s := if m.src != 0 && (m.all || m.dst == 0) then s.takeMsg m else s
    (if m.src == 0 || (!m.all && m.dst == 0) then [] else ws, s)

/-- A frame at the master (R535, R537, R543, R547). -/
def State.masterTakes (s : State) (ws : List Word) (L : Nat) (okH okA : Bool) (okS : List Bool) : State :=
  let h := frHeader ws
  let s := if okH then ((s.seeSessions h).measureLoop h L).keepAudio h (frAudio ws) okA else s
  let (slots, s) := forN 64 (fun i (acc : List (List Word) × State) =>
    let r := acc.2.returnSlot (frSlot ws i) (okS.getD i false)
    (acc.1 ++ [r.1], r.2)) ([], s)
  s.modNgx fun x => { x with ret := if okH && okA then some (frAudio ws) else none, retSlots := slots }

/-- The header as a follower sends it on (R526, R533, R538). -/
def State.forwardHeader (s : State) (h : List Word) (lag : Nat) : List Word :=
  let h := setAt h 4 (putFld (hw h 5) 0 5 (fld (hw h 5) 0 5 + 1))
  let h := setAt h 5 (putFld (hw h 6) 0 16 (fld (hw h 6) 0 16 + lag))
  setAt h (47 + s.devNo) s.ownSession

/-- A frame at a follower (R526, R534, R535). `was` is RX_STATE before it: in SYNC or UP the frame is sent on. -/
def State.followerTakes (s : State) (ws : List Word) (lag was : Nat) (okH okA : Bool) (okS : List Bool) : State :=
  let h := frHeader ws
  let slots := (List.range 64).map (frSlot ws)
  let on := decide (2 ≤ was)
  if okH && decide (15 < fld (hw h 5) 0 5) then
    let fr := frameOf h (frAudio ws) slots true okA okS
    ((s.setBit rNgxStat 20 true).setBit rNgxStat 5 false).modNgx fun x => { x with sent := if on then some fr else none }
  else
    let s := if okH then (s.followHeader h).keepAudio h (frAudio ws) okA else s
    let run := okH && bit (hw h 1) 14
    let hdr := if okH then s.forwardHeader h lag else h
    let audio := if run then s.audioFor ((hw h 2).toNat + 2 ^ 32 * (hw h 3).toNat) (frAudio ws) else frAudio ws
    let valid := s.rbit rNgxStat 5
    let (out, s) := slots.zipIdx.foldl (fun (acc : List (List Word) × State) p =>
      let ok := okS.getD p.2 false
      if !valid then (acc.1 ++ [p.1], acc.2)
      else if on then
        let r := acc.2.passSlot p.1 ok
        (acc.1 ++ [r.1], r.2)
      else
        let m := msgOf p.1
        let mine := slotFull p.1 && ok && m.src != acc.2.devNo && (m.all || m.dst == acc.2.devNo)
        (acc.1 ++ [p.1], if mine then acc.2.takeMsg m else acc.2)) ([], s)
    let fr := frameOf hdr audio out okH okA okS
    s.modNgx fun x => { x with sent := if on then some fr else none }

/-- FRAME_RECEIVE: a frame's 6,274 words before the idle words; `gap` words since the previous SOF; `lag` is the loop delay on
the master, the forwarding latency on a follower, in FAB cycles. -/
def execFrameReceive (ws : List (BitVec 32)) (gap : Nat) (lag : BitVec 16) (s : State) : Host.Outcome State Fault Refusal :=
  if !s.ngxOn || s.rxState = 0 then .next s
  else
    let h := frHeader ws
    let okH := ws.getD 6208 0 == crcWords h
    let okA := ws.getD 6209 0 == crcWords (frAudio ws)
    let okS := (List.range 64).map fun i => ws.getD (6210 + i) 0 == crcWords (frSlot ws i)
    let was := s.rxState
    let s := if okH then s.frameGood gap else (s.bump rNgxErr 8 8).frameLost
    let s := if okA then s else s.bump rNgxErr 16 8
    let s := s.bumpBy rNgxErr 24 8 (okS.filter (! ·)).length
    let s := if s.isMaster then s.masterTakes ws lag.toNat okH okA okS else s.followerTakes ws lag.toNat was okH okA okS
    .next (if s.rxState = 3 && was ≠ 3 then s.bootAsk else s)

/-- FRAME_LOSS: no SOF in time (R539). -/
def execFrameLoss (s : State) : Host.Outcome State Fault Refusal :=
  .next (if s.ngxOn && 2 ≤ s.rxState then s.frameLost else s)

/-! ### The beacon (R536, R540, R541) -/

/-- The follower's own index for the tick that an event now falls nearest to. -/
def State.nearestTick (s : State) : Nat :=
  if 2 * (s.now - s.tick.gen.lastTick) ≤ s.tick.gen.period then s.tick.sidx else s.tick.sidx + 1

/-- BEACON_EVENT: TALIGN − δ after the SOF of a frame with a good header and RUN = 1. Each frame gives one event. -/
def execBeaconEvent (s : State) : Host.Outcome State Fault Refusal :=
  match s.ngx.beacon with
  | none => .next s
  | some b =>
    if s.isMaster || !s.ngxOn || !b.run then .next s
    else
      let s := s.modNgx fun x => { x with beacon := none }
      if s.mode.runPend then
        if s.rfld (rClkTickCtrl 0) 0 4 ≠ 9 then .next s
        else if b.rate ≠ s.rfld (rClkTickCtrl 0) 4 3 then .next (s.setBit rNgxStat 21 true)
        else .next (s.modNgx fun x => { x with start := some b.sidx, adopted := some b.epoch })
      else
        let back := s.d0Running && s.rbit rClkHoldStat 0 && s.rfld rClkHoldStat 4 4 == 9
        let cont := s.ngx.adopted == some b.epoch && b.sidx == s.nearestTick
        let s := (s.modNgx fun x => { x with contOk := cont }).sourceEvent 9
        .next (if back && !cont && s.rxState = 3 then
            (s.setBit rNgxStat 19 true).dropDoubt.modNgx fun x => { x with rejoin := true }
          else s)

/-! ### Received messages (R550, R551) -/

/-- The next message of a kind from a device: messages of one rank (R549) are acted on in their order of arrival; a host read
that has been issued no longer holds back those behind it. -/
def State.popMsg (s : State) (kind src : Nat) : Option (Msg × State) :=
  match s.ngx.inbox.find? fun m => m.src == src && kindRank m.kind == kindRank kind && !m.resend with
  | some m => if m.kind = kind then some (m, s.modNgx fun x => { x with inbox := x.inbox.erase m }) else none
  | none => none

/-- What a message does, if one of the kind from the device has come. -/
def State.onMsg (s : State) (kind src : Nat) (f : Msg → State → State) : Host.Outcome State Fault Refusal :=
  match s.popMsg kind src with
  | some (m, t) => .next (f m t)
  | none => .next s

/-- Payload word `i`. -/
def Msg.word (m : Msg) (i : Nat) : Word := m.payload.getD i 0

/-- VOID (R554). -/
def execNgxVoid (src : Fin 16) (s : State) : Host.Outcome State Fault Refusal := s.onMsg 1 src.val fun _ t => t

/-- ACK (R551): cumulative. -/
def execNgxAck (src : Fin 16) (s : State) : Host.Outcome State Fault Refusal :=
  s.onMsg 2 src.val fun m t => m.payload.foldl (fun t w =>
    if fld w 0 4 ≠ t.devNo then t
    else
      let last := fld w 16 16
      t.modNgx fun x => { x with msgs := x.msgs.filter fun k =>
        !(k.dst == src.val && match k.seq with
          | some q => decide ((last + 65536 - q) % 65536 < 32768)
          | none => false) }) t

/-- DATA (R559, R560): a descriptor, or a completion consumer index, of a proxy context. `evCons` is the host's event consumer
index. -/
def execNgxData (src : Fin 16) (evCons : BitVec 32) (s : State) : Host.Outcome State Fault Refusal :=
  s.onMsg 3 src.val fun m t =>
    if !t.proxyOn || t.ctxState m.ctx = 0 then t.msgDrop src.val 1
    else if m.payload.length = 16 then
      let t := t.modNgx fun x => { x with store := SMap.modify (fun _ => []) x.store m.ctx (· ++ [m.payload]) }
      (t.modContext m.ctx fun x => { x with p := x.p + 1 }).showCtx m.ctx
    else if m.payload.length = 1 then t.consumer m.ctx (m.word 0) evCons
    else t.msgDrop src.val 1

/-! ### Register relay (R558) -/

def regRsp (off v : Word) : Msg := { kind := 6, dst := 0, payload := [off, v] }

/-- REG_RD on a follower. -/
def execRegRd (src : Fin 16) (s : State) : Host.Outcome State Fault Refusal :=
  s.onMsg 4 src.val fun m t =>
    let r := t.barRead (fld (m.word 0) 0 22)
    r.2.ngxSend (regRsp (m.word 0) r.1)

/-- REG_WR on a follower. -/
def execRegWr (src : Fin 16) (s : State) : Host.Outcome State Fault Refusal :=
  s.onMsg 5 src.val fun m t => (t.barWrite (fld (m.word 0) 0 22) (m.word 1)).ngxSend (regRsp (m.word 0) 0)

/-- REG_RSP on the master. -/
def execRegRsp (src : Fin 16) (s : State) : Host.Outcome State Fault Refusal :=
  s.onMsg 6 src.val fun m t =>
    if !(t.rbit rNgxRrCmd 31) then t
    else
      let t := if t.rbit rNgxRrCmd 1 then t else t.setReg rNgxRrData (m.word 1)
      t.setBit rNgxRrCmd 31 false

/-- RR_READ: RR_CMD.GO with WR = 0. -/
def execRrRead (s : State) : Host.Outcome State Fault Refusal := .next (s.bar rNgxRrCmd fun s => s.rrCmdW 1)

/-- RR_WRITE: RR_CMD.GO with WR = 1. -/
def execRrWrite (s : State) : Host.Outcome State Fault Refusal := .next (s.bar rNgxRrCmd fun s => s.rrCmdW 3)

/-- MESSAGE_REPEAT: a message to device `p` has gone four frames without an ACK (R552). -/
def execMessageRepeat (p : Fin 16) (s : State) : Host.Outcome State Fault Refusal :=
  let old := fun (m : Msg) => m.dst == p.val && !m.resend && m.seq.isSome && decide (m.sentAt + 4 ≤ s.ngx.frames)
  match s.ngx.msgs.find? old with
  | none => .next s
  | some k =>
    let later := fun (m : Msg) => m.dst == p.val && match k.seq, m.seq with
      | some a, some b => decide ((b + 65536 - a) % 65536 < 32768)
      | _, _ => false
    .next (s.modNgx fun x => { x with msgs := x.msgs.map fun m => if later m then { m with resend := true } else m })

/-! ### Host relay (R561) -/

/-- The function of a proxy context's principal. -/
def State.relayFn (s : State) (m : Msg) : Nat := s.rfld (rCtxtCtrl m.ctx) 0 6

/-- The class that a relayed request carries, and its bus address. -/
def Msg.cls (m : Msg) : Nat := fld (m.word 2) 8 3
def Msg.addr (m : Msg) : Nat := (m.word 0).toNat + 2 ^ 32 * (m.word 1).toNat

/-- The bytes of `n` that start at payload word `i`. -/
def Msg.bytes (m : Msg) (i n : Nat) : List Byte := ((m.payload.drop i).flatMap fun w => leBytes 4 w.toNat).take n

/-- HRD on the master. Without `cpl` the next read is issued; with it, the read with that tag has its answer: `data`, or
`fail` 1 for a failure, 2 for poisoned data. -/
def execHrd (src : Fin 16) (cpl : Option (Fin 65536)) (data : List (BitVec 8)) (fail : Fin 3) (s : State) :
    Host.Outcome State Fault Refusal :=
  match cpl with
  | none => s.onMsg 0x10 src.val fun m t =>
    let tag := fld (m.word 2) 16 16
    let t := t.modNgx fun x => { x with inbox := x.inbox ++ [{ m with resend := true }] }
    if t.canIssue (t.relayFn m) then t.hostRead m.cls 97 (t.relayFn m) m.addr (fld (m.word 2) 0 7) false (.relay src.val tag)
    else t.hrdReply src.val tag 1 []
  | some tag =>
    let who := ReadFor.relay src.val tag.val
    if !(s.ngx.inbox.any fun m => m.kind == 0x10 && m.resend && m.src == src.val && fld (m.word 2) 16 16 == tag.val) || !(s.readsOut who) then
      .next s
    else if !(s.pcie.outst.any fun o => o.who == who) then .next (s.hrdReply src.val tag.val 1 [])
    else .next ((s.readsOver who).hrdReply src.val tag.val fail.val (if fail.val = 1 then [] else data.take 112))

/-- HRD_CPL on a follower: the answer to the relayed read with a tag. The data go to the reader once all of its reads are
answered. -/
def execHrdCpl (tag : Fin 65536) (s : State) : Host.Outcome State Fault Refusal :=
  match s.ngx.inbox.find? fun m => m.kind == 0x11 && fld (m.word 0) 0 16 == tag.val with
  | none => .next s
  | some m =>
    let s := s.modNgx fun x => { x with inbox := x.inbox.erase m }
    match s.pcie.outst.find? fun o => o.tag == 1024 + tag.val with
    | none => .next s
    | some o =>
      let st := fld (m.word 0) 16 2
      match o.who with
      | .mover k =>
        if st = 1 then .next (s.failJob k)
        else
          let mine := s.pcie.outst.filter fun p => p.who == o.who
          let got := s.ngx.got ++ [(o.tag, m.bytes 2 (fld (m.word 1) 0 7), st)]
          let here := mine.filterMap fun p => got.find? fun g => g.1 == p.tag
          if here.length < mine.length then .next (s.modNgx fun x => { x with got := got })
          else
            let data := here.flatMap fun g => g.2.1
            let fail : Fin 3 := if here.any (fun g => g.2.2 == 2) then 2 else 0
            let s := (s.modNgx fun x => { x with got := got.filter fun g => !(mine.any fun p => p.tag == g.1) }).readsOver o.who
            match SMap.get (fun _ => none) s.mov.movers k with
            | some ⟨.chunk .., _, _⟩ => execChunkCompletion (Fin.ofNat 64 k) data fail s
            | some ⟨.burst .., _, _⟩ => execBurstCompletion (Fin.ofNat 64 k) data fail s
            | some ⟨.copy .., _, _⟩ => execCopyPieceCompletion (Fin.ofNat 64 k) data fail s
            | _ => .next s
      | _ => .next (s.readsOver o.who)

/-- RELAY_READ_TIMEOUT: 50 ms without HRD_CPL. -/
def execRelayReadTimeout (tag : Fin 65536) (s : State) : Host.Outcome State Fault Refusal :=
  match s.pcie.outst.find? fun o => o.tag == 1024 + tag.val with
  | none => .next s
  | some o =>
    if s.now < o.at' + 61440000 then .next s
    else match o.who with
      | .mover k => .next (s.failJob k)
      | who => .next (s.readsOver who)

/-- HWR on the master: joined with what is held of the same follower; with MORE it is held itself. -/
def execHwr (src : Fin 16) (s : State) : Host.Outcome State Fault Refusal :=
  s.onMsg 0x12 src.val fun m t =>
    let d := m.bytes 3 (fld (m.word 2) 0 7)
    let j : Join := match SMap.get (fun _ => none) t.ngx.join src.val with
      | some j => { j with data := j.data ++ d }
      | none => { func := t.relayFn m, cls := m.cls, addr := m.addr, data := d }
    let more := bit (m.word 2) 11
    let t := t.modNgx fun x => { x with join := SMap.set (fun _ => none) x.join src.val (if more then some j else none) }
    if more then t else t.hostWrite j.cls 97 j.func j.addr j.data 0

/-- HIRQ on the master. -/
def execHirq (src : Fin 16) (s : State) : Host.Outcome State Fault Refusal :=
  s.onMsg 0x13 src.val fun m t => t.msixSend (t.relayFn m) (fld (m.word 0) 0 10)

/-! ### Follower boot (R562) -/

/-- BOOT_REQ on the master. -/
def execBootReq (src : Fin 16) (s : State) : Host.Outcome State Fault Refusal :=
  if !s.keeperRuns then .next s
  else s.onMsg 0x20 src.val fun m t =>
    let o := (m.word 0).toNat
    let n := if t.rbit rNgxCtrl 3 then min (min 112 (fld (m.word 1) 0 7)) (t.copyLen - o) else 0
    t.ngxSend { kind := 0x21, dst := src.val, payload := [m.word 0, BitVec.ofNat 32 n] ++ packWords 28 (t.copyBytes o n) }

/-- BOOT_DATA on a follower. -/
def execBootData (src : Fin 16) (s : State) : Host.Outcome State Fault Refusal :=
  s.onMsg 0x21 src.val fun m t =>
    if t.boot.cur != 6 || t.boot.phase != 2 then t
    else
      let n := fld (m.word 1) 0 7
      if n = 0 then t.sourceFails true 0x07
      else if (m.word 0).toNat ≠ t.boot.img.length then t
      else
        let img := t.boot.img ++ m.bytes 2 n
        let t := (t.modBoot fun x => { x with img := img }).setFld rNgxBootStat 0 24 img.length
        if 512 ≤ img.length && 512 + min (byteNum img 8 4) 1048064 ≤ img.length then
          (t.setBit rNgxBootStat 31 true).modBoot fun x => { x with phase := 4 }
        else t.bootAsk

/-! ### CASC_SEND (R556) -/

/-- CASC_SEND; `payload` is what was read at the payload address, `fail` 1 for an error, 2 for poisoned data. Its result comes
with the transmission of its slot. -/
def execCascSend (c : Fin 512) (q : BitVec 32) (payload : List (BitVec 32)) (fail : Fin 3) (s : State) :
    Host.Outcome State Fault Refusal :=
  let (c, q) := (c.val, q.toNat)
  match s.ready c q tCascSend with
  | none => .next s
  | some d =>
    let dst := d.extra % 16
    let proxy := d.num 16 2
    let n := d.num 18 1
    if !(d.onlyUses [(16, 3), (24, 8)]) || d.extra / 16 != 0 || dst == s.devNo || !(s.present dst) || !(bit (s.sessionOf dst) 17) ||
        !(n == 1 || n == 16) || decide (512 ≤ proxy) || (s.funcOf c != 0 && proxy != c) || !(windowOk (d.num 24 8) (4 * n)) then
      .next (s.finish c q 0x10)
    else if fail.val ≠ 0 then .next (s.finish c q (if fail.val = 1 then 0x20 else 0x22))
    else if payload.length ≠ n then .next s
    else .next ((s.begin c q).ngxSend { kind := 3, dst := dst, ctx := proxy, payload := payload, desc := some (c, q) })

/-! ### Cascade commits (R239 to R245) -/

/-- The devices that a mask names. -/
def devsOf (m : BitVec 16) : List Nat := (List.range 16).filter m.getLsbD

def State.modArm (s : State) (g : Nat) (f : Arm → Arm) : State :=
  let x := s.group g
  s.setGroup g { x with arm := x.arm.map f }

/-- CASCADE_COMMIT: a COMMIT with CASC on the master. -/
def execCascadeCommit (c : Fin 512) (q : BitVec 32) (s : State) : Host.Outcome State Fault Refusal :=
  let (c, q) := (c.val, q.toNat)
  match s.waitingCommit c q 2 with
  | none => .next s
  | some d =>
    let g := d.extra % 64
    let mask : BitVec 16 := BitVec.ofNat 16 (d.num 24 2)
    if !s.isMaster || !(s.rbit (rFabCgCtrl g) 9) || mask == 0 || bit mask 0 || !((devsOf mask).all s.present) || s.armBad g d then
      .next (s.finish c q 0x10)
    else
      let at' := d.extra / 256 % 2 == 1
      let due := if at' then d.num 16 8 else 0
      let s := s.modDesc c q fun d => { d with staged := true }
      let s := s.setGroup g { s.group g with arm := some { ctx := c, seq := q, origDue := due, next := !at', mask := mask } }
      let s := (s.setReg64 (rFabCgDueLo g) due).setGroupSt g 3
      .next ((devsOf mask).foldl (fun s p => s.commitMsg 8 p g (some due)) s)

/-- The index of the frame in progress. -/
def State.frameStart (s : State) : Nat := s.tick.sidx - (s.tick.sidx - s.ngx.base) % s.frameTicks

/-- The master decides ABORT: the group returns to STAGING and the COMMIT ends with a status. -/
def State.decideAbort (s : State) (g : Nat) (a : Arm) (st : Nat) : State :=
  let s := (s.restageGroup g).setResult a.ctx a.seq st
  { s with par := { s.par with decisions := s.par.decisions ++ [⟨g, false, a.origDue, a.mask⟩] } }

/-- The master decides GO for index `d`. -/
def State.decideGo (s : State) (g : Nat) (a : Arm) (d : Nat) (late : Bool) : State :=
  let s := (s.grant a.ctx a.seq).modArm g fun a => { a with late := late, next := false }
  let s := (s.setReg64 (rFabCgDueLo g) d).setGroupSt g 4
  { s with par := { s.par with decisions := s.par.decisions ++ [⟨g, true, d, a.mask⟩] } }

/-- CASCADE_DECISION of group `g`, at a frame start at or after its decision point. -/
def execCascadeDecision (g : Fin 64) (s : State) : Host.Outcome State Fault Refusal :=
  let g := g.val
  let T := 2 * s.frameTicks
  let fs := s.frameStart
  match (s.group g).arm with
  | none => .next s
  | some a =>
    if s.groupSt g ≠ 3 then .next s
    else if a.cancelled then .next (s.decideAbort g a 0x02)
    else if !s.run48 || !s.keeperRuns || (!a.next && decide (fs + s.frameTicks + T ≤ a.origDue)) then .next s
    else
      let a := if a.next then { a with next := false, origDue := fs + T } else a
      let s := s.modArm g fun _ => a
      if a.refused then .next ((s.setBit (rFabCgStat g) 18 true).decideAbort g a 0x10)
      else if a.armed &&& a.mask != a.mask then .next s
      else if fs + T ≤ a.origDue then .next (s.decideGo g a a.origDue false)
      else .next (s.decideGo g a (fs + T) true)

/-- The master completes a cascade COMMIT once it has applied its own group and every follower has reported or is missing
(R244). -/
def State.cascadeDone (s : State) (g : Nat) : State :=
  match (s.group g).arm with
  | none => s
  | some a =>
    if s.groupSt g ≠ 4 || !(s.group g).members.isEmpty || (a.applied ||| a.missing) &&& a.mask != a.mask then s
    else
      let st := if a.missing != 0 then 0x30 else if a.late || a.otherIdx then 1 else 0
      let s := ((s.setGroup g {}).setGroupSt g 0).setResult a.ctx a.seq st
      { s with par := { s.par with decisions := s.par.decisions.filter fun d => !(d.group == g && d.go) } }

/-- The group that a commit message names. -/
def Msg.group (m : Msg) : Nat := fld (m.word 0) 0 6

/-- The index that words 1 and 2 hold. -/
def Msg.index (m : Msg) : Nat := (m.word 1).toNat + 2 ^ 32 * (m.word 2).toNat

/-- ARM on a follower: its K1 task arms the group IN_DOUBT, or refuses. -/
def execArm (src : Fin 16) (s : State) : Host.Outcome State Fault Refusal :=
  if !s.keeperRuns then .next s
  else s.onMsg 8 src.val fun m t =>
    let g := m.group
    let x := t.group g
    let st := t.groupSt g
    if !(t.rbit (rFabCgCtrl g) 31) || !(t.rbit (rFabCgCtrl g) 9) || x.members.isEmpty || !(st == 1 || st == 5) then t.commitMsg 0x0A 0 g none
    else
      let t := t.setGroup g { x with arm := some { origDue := m.index, follow := true } }
      ((t.setReg64 (rFabCgDueLo g) m.index).setGroupSt g 5).commitMsg 9 0 g none

/-- ARMED on the master. -/
def execArmed (src : Fin 16) (s : State) : Host.Outcome State Fault Refusal :=
  s.onMsg 9 src.val fun m t =>
    if t.groupSt m.group = 3 then t.modArm m.group fun a => { a with armed := a.armed ||| (1#16 <<< src.val) } else t

/-- REFUSED on the master. -/
def execNgxRefused (src : Fin 16) (s : State) : Host.Outcome State Fault Refusal :=
  s.onMsg 0x0A src.val fun m t => if t.groupSt m.group = 3 then t.modArm m.group fun a => { a with refused := true } else t

/-- APPLIED on the master: a follower has applied the group at an index. -/
def execApplied (src : Fin 16) (s : State) : Host.Outcome State Fault Refusal :=
  s.onMsg 0x0B src.val fun m t =>
    let g := m.group
    if t.groupSt g ≠ 4 then t
    else
      let t := if t.reg64 (rFabCgDueLo g) < m.index then t.setBit (rFabCgStat g) src.val true else t
      (t.modArm g fun a => { a with
        applied := a.applied ||| (1#16 <<< src.val), otherIdx := a.otherIdx || m.index != a.origDue }).cascadeDone g

/-- NOT_ARMED on the master. -/
def execNotArmed (src : Fin 16) (s : State) : Host.Outcome State Fault Refusal :=
  s.onMsg 0x0C src.val fun m t =>
    let g := m.group
    if t.groupSt g ≠ 4 then t
    else ((t.setBit (rFabCgMiss g) src.val true).modArm g fun a => { a with missing := a.missing ||| (1#16 <<< src.val) }).cascadeDone g

/-- ABORT_ACK on the master: an ABORT that all have acknowledged leaves the beacon. -/
def execAbortAck (src : Fin 16) (s : State) : Host.Outcome State Fault Refusal :=
  s.onMsg 0x0D src.val fun m t =>
    let ds := t.par.decisions.map fun d =>
      if d.group = m.group && !d.go then { d with mask := d.mask &&& ~~~(1#16 <<< src.val) } else d
    { t with par := { t.par with decisions := ds.filter fun d => d.go || d.mask != 0 } }

end Sys2Proof.Machine
end

