-- ==== Sys2Proof/Machine/Query.lean ====
section
/-! DEFINITION. QUERY (R381). -/

namespace Sys2Proof.Machine

/-- The result buffer of entries that each begin at an item: the entries from the first on that fit in 63 words. -/
def queryWords (es : List (Nat × List Word)) (size : Nat) : List Word :=
  let n := min es.length (63 / size)
  let next := match es[n]? with
    | some e => e.1
    | none => 0xFFFF
  let body := (es.take n).flatMap Prod.snd
  (BitVec.ofNat 32 (n + 2 ^ 16 * next) :: body) ++ List.replicate (63 - body.length) 0

/-- A QUERY of one kind: `top` is the last item, `es` the matching entries in ascending item order. -/
def State.query (s : State) (c q kind top size : Nat) (es : State → List (Nat × List Word)) : State :=
  match s.ready c q tQuery with
  | none => s
  | some d =>
    if d.extra ≠ kind && !(kind == 0 && 4 ≤ d.extra) then s
    else if 4 ≤ d.extra || !(d.onlyUses [(16, 10)]) || top < d.num 24 2 || !(windowOk (d.num 16 8) 256) then s.finish c q 0x10
    else
      let t := s.translateRange c (d.num 16 8) 256 true 3
      match t.1 with
      | none => t.2
      | some none => t.2.finish c q 0x20
      | some (some ps) =>
        let ws := queryWords ((es s).filter fun e => decide (d.num 24 2 ≤ e.1)) size
        let bs := ws.flatMap fun w => leBytes 4 w.toNat
        (ps.foldl (fun s p => s.ctxWrite 3 96 c p.1 ((bs.drop p.2.1).take p.2.2.1) 0) t.2).finish c q 0

/-- QUERY_CONTEXT. A QUERY of a reserved kind ends here as BAD_DESC. -/
def execQueryContext (c : Fin 512) (q : BitVec 32) (s : State) : Host.Outcome State Fault Refusal :=
  .next (s.query c.val q.toNat 0 0 2 fun s => [(0, [s.reg (rCtxtStat c.val), s.reg (rCtxtErr c.val)])])

/-- QUERY_GROUPS. -/
def execQueryGroups (c : Fin 512) (q : BitVec 32) (s : State) : Host.Outcome State Fault Refusal :=
  .next (s.query c.val q.toNat 1 63 8 fun s => (List.range 64).filterMap fun g =>
    if s.ownsGroup c.val g then
      some (g, BitVec.ofNat 32 g :: [rFabCgCtrl g, rFabCgDueLo g, rFabCgDueHi g, rFabCgAppliedLo g, rFabCgAppliedHi g,
        rFabCgStat g, rFabCgMiss g].map s.reg)
    else none)

/-- QUERY_SEGMENTS. -/
def execQuerySegments (c : Fin 512) (q : BitVec 32) (s : State) : Host.Outcome State Fault Refusal :=
  .next (s.query c.val q.toNat 2 1023 3 fun s => (List.range 1024).filterMap fun k =>
    let e := k / 32
    let i := k % 32
    if (s.engine e).owner i = c.val then some (k, [BitVec.ofNat 32 k, s.reg (rEngSegStat e i), s.reg (rEngSegHwm e i)]) else none)

/-- QUERY_LINES. -/
def execQueryLines (c : Fin 512) (q : BitVec 32) (s : State) : Host.Outcome State Fault Refusal :=
  .next (s.query c.val q.toNat 3 4095 3 fun s => (List.range 4096).filterMap fun n =>
    if (s.line n).mapped && (s.line n).owner == c.val then
      some (n, [BitVec.ofNat 32 n, s.reg (rCaldHlW0 n), s.reg (rCaldHlW1 n)])
    else none)

end Sys2Proof.Machine
end

