-- ==== Sys2Proof/Machine/Spis.lean ====
section
/-! DEFINITION. The SPI slave (chapter 17). Every row brings `m3`, the SPI mode of its transaction. -/

namespace Sys2Proof.Machine

def State.modSpis (s : State) (f : SpisState → SpisState) : State := { s with spis := f s.spis }

/-- The slave takes part in transactions: AUD has power and EN is 1 (R657, R658). -/
def State.spisOn (s : State) : Bool := !(s.islandOff 12) && s.rbit rSpisCtrl 0

/-- Runs `f` for a transaction in which the slave takes part. -/
def State.spisDo (s : State) (m3 : Bool) (f : State → State) : State :=
  if s.spisOn then f (s.setBit rSpisStat 1 m3) else s

/-- BAD_FRAME (R649). -/
def execBadFrame (m3 : Bool) (s : State) : Host.Outcome State Fault Refusal :=
  .next (s.spisDo m3 fun s => ((s.setBit rSpisStat 8 true).bump rSpisCnt 0 8).modSpis fun x => { x with bad := true })

/-- A good request arrives while one executes: it is discarded (R655). -/
def State.spisDrop (s : State) : State :=
  ((s.setBit rSpisStat 9 true).bump rSpisCnt 16 8).modSpis fun x => { x with drop := true }

/-- A repeat of the last executed request (R654). -/
def State.spisRepeat (s : State) : State :=
  (s.bump rSpisCnt 8 8).modSpis fun x => { x with reply := x.reply.map fun r => (r.1, r.2.1 ||| 64, r.2.2) }

/-- The frame's bytes before its CRC (R649). -/
def spisFrame (op alive addr : Nat) (data : List Byte) : List Byte :=
  beBytes 1 op ++ beBytes 1 alive ++ beBytes 4 addr ++ beBytes 2 data.length ++ data

/-- A good frame (R653 to R655): discarded, a repeat, or executed by `f`. -/
def State.spisReq (s : State) (m3 : Bool) (op : Nat) (alive : BitVec 4) (addr : BitVec 32) (data : List Byte)
    (f : State → State) : State :=
  s.spisDo m3 fun s =>
    let key := (alive.toNat, crcOf 3 (spisFrame op alive.toNat addr.toNat data))
    if s.spis.busy.isSome then s.spisDrop
    else if s.spis.last = some key then s.spisRepeat
    else f (s.modSpis fun x => { x with last := some key })

/-- REPEAT: a request that equals the last executed one in alive and CRC. -/
def execRepeat (m3 : Bool) (alive : BitVec 4) (crc : BitVec 16) (s : State) : Host.Outcome State Fault Refusal :=
  .next (s.spisDo m3 fun s =>
    if s.spis.last ≠ some (alive.toNat, crc.toNat) then s
    else if s.spis.busy.isSome then s.spisDrop
    else s.spisRepeat)

/-- The opcodes of R650 that have a row of their own, with the data length that they take. -/
def spisKnown (op n : Nat) : Bool :=
  (op == 2 && n == 0) || (op == 3 && n == 4) || (op == 0x10 && n == 0) || (op == 0x11 && decide (1 ≤ n)) || (op == 0x12 && n == 8) ||
  (op == 0x13 && n == 0) || (op == 0x20 && (n == 0 || n == 1 || n == 4))

/-- PING, and every request whose opcode is reserved or whose length is not that of its opcode: result RANGE (R650). -/
def execPing (m3 : Bool) (op : BitVec 8) (alive : BitVec 4) (addr : BitVec 32) (data : List (BitVec 8)) (s : State) :
    Host.Outcome State Fault Refusal :=
  let op := op.toNat
  .next (if op = 0 || 256 < data.length || spisKnown op data.length then s
  else s.spisReq m3 op alive addr data fun s =>
    s.spisAnswer op alive.toNat (if op = 1 && data.isEmpty then 0 else 2) 0)

/-- An access to BAR0 is allowed by RD_EN or WR_EN (R652). -/
def State.spisMay (s : State) (en : Nat) (addr : BitVec 32) : Bool :=
  let b := fld addr 16 6
  decide (addr.toNat < 0x400000) && b != 0x11 && s.rbit en b

/-- SPIS_REG_RD. -/
def execSpisRegRd (m3 : Bool) (alive : BitVec 4) (addr : BitVec 32) (s : State) : Host.Outcome State Fault Refusal :=
  .next (s.spisReq m3 2 alive addr [] fun s =>
    if s.spisMay rSpisRdEn addr then
      let (v, s) := s.barRead addr.toNat
      s.spisAnswer 2 alive.toNat 0 v.toNat
    else s.spisAnswer 2 alive.toNat 1 0)

/-- SPIS_REG_WR. -/
def execSpisRegWr (m3 : Bool) (alive : BitVec 4) (addr : BitVec 32) (v : BitVec 32) (s : State) :
    Host.Outcome State Fault Refusal :=
  .next (s.spisReq m3 3 alive addr (beBytes 4 v.toNat) fun s =>
    if s.spisMay rSpisWrEn addr then (s.barWrite addr.toNat v).spisAnswer 3 alive.toNat 0 0
    else s.spisAnswer 3 alive.toNat 1 0)

/-! ### The mailbox (R650, R651) -/

/-- Keeper, or the ROM in AWAIT_IMAGE, can execute a mailbox opcode. -/
def State.mbxServed (s : State) : Bool := s.keeperRuns || s.modeUnder == 3

/-- A mailbox opcode completes BUSY and does nothing. -/
def State.mbxBusy (s : State) : Bool := s.rbit rBootMbxStat 0 || s.rbit rBootUpd 0 || !(s.rbit rSpisCtrl 1)

/-- A mailbox request: BUSY, or executed by `f`. -/
def State.mbxReq (s : State) (m3 : Bool) (op : Nat) (alive : BitVec 4) (addr : BitVec 32) (data : List Byte)
    (f : State → State) : State :=
  if s.mbxServed then
    s.spisReq m3 op alive addr data fun s =>
      if s.mbxBusy then s.spisAnswer op alive.toNat 3 (if op = 0x13 then (s.reg rBootMbxStat).toNat else 0) else f s
  else s

/-- A flash command of the mailbox: the reply comes when it ends. -/
def State.mbxFlash (s : State) (op : Nat) (alive : BitVec 4) (k : FlashCmd) : State :=
  (s.modSpis fun x => { x with busy := some (op, alive.toNat) }).spimReq k

/-- The inactive slot's first byte in the flash. -/
def State.mbxSlot (s : State) : Nat := slotBase (1 - s.activeSlot)

/-- MBX_OPEN. -/
def execMbxOpen (m3 : Bool) (alive : BitVec 4) (addr : BitVec 32) (s : State) : Host.Outcome State Fault Refusal :=
  .next (s.mbxReq m3 0x10 alive addr [] fun s => s.mbxFlash 0x10 alive { who := 4, op := slotErase, addr := s.mbxSlot })

/-- MBX_WR. -/
def execMbxWr (m3 : Bool) (alive : BitVec 4) (addr : BitVec 32) (data : List (BitVec 8)) (s : State) :
    Host.Outcome State Fault Refusal :=
  .next (if data.isEmpty || 256 < data.length then s
  else s.mbxReq m3 0x11 alive addr data fun s =>
    if addr.toNat % 256 ≠ 0 || 0x200000 ≤ addr.toNat then s.spisAnswer 0x11 alive.toNat 2 0
    else s.mbxFlash 0x11 alive
      { who := 4, op := pfProgram, addr := s.mbxSlot + addr.toNat, len := data.length, data := data
        mask := List.replicate data.length true })

/-- MBX_GO: `len` is the bundle's length, `flags` is byte 4. -/
def execMbxGo (m3 : Bool) (alive : BitVec 4) (addr : BitVec 32) (len : BitVec 32) (flags : BitVec 8) (s : State) :
    Host.Outcome State Fault Refusal :=
  .next (s.mbxReq m3 0x12 alive addr (beBytes 4 len.toNat ++ [flags, 0, 0, 0]) fun s =>
    (s.mbxGo (bit flags 0) (bit flags 1) true len.toNat).spisAnswer 0x12 alive.toNat 0 0)

/-- MBX_STAT. -/
def execMbxStat (m3 : Bool) (alive : BitVec 4) (addr : BitVec 32) (s : State) : Host.Outcome State Fault Refusal :=
  .next (s.mbxReq m3 0x13 alive addr [] fun s => s.spisAnswer 0x13 alive.toNat 0 (s.reg rBootMbxStat).toNat)

/-! ### TEST_RUN (R690) -/

/-- A TEST_RUN of the slave: DENIED while TEST.CTRL.SPIS_EN is 0. -/
def State.spisTest (s : State) (m3 : Bool) (alive : BitVec 4) (addr : BitVec 32) (data : List Byte) (f : State → State) :
    State :=
  s.spisReq m3 0x20 alive addr data fun s => if s.rbit rTestCtrl 9 then f s else s.spisAnswer 0x20 alive.toNat 1 0

/-- SPIS_TEST_RUN, with 4 data bytes: the test byte and zeros. A start that is refused completes DENIED, BUSY or RANGE by its
cause. -/
def execSpisTestRun (m3 : Bool) (alive : BitVec 4) (addr : BitVec 32) (t : BitVec 8) (s : State) :
    Host.Outcome State Fault Refusal :=
  .next (s.spisTest m3 alive addr [t, 0, 0, 0] fun s =>
    let c := s.testCause t.toNat
    (s.testStart 1 t.toNat none).spisAnswer 0x20 alive.toNat ([0, 3, 3, 1, 2].getD c 1) 0)

/-- SPIS_TEST_STAT, with no data. -/
def execSpisTestStat (m3 : Bool) (alive : BitVec 4) (addr : BitVec 32) (s : State) : Host.Outcome State Fault Refusal :=
  .next (s.spisTest m3 alive addr [] fun s => s.spisAnswer 0x20 alive.toNat 0 (s.reg rTestStat).toNat)

/-- SPIS_RESULT_READ, with one data byte: word `addr` of the last result record. -/
def execSpisResultRead (m3 : Bool) (alive : BitVec 4) (addr : BitVec 32) (b : BitVec 8) (s : State) :
    Host.Outcome State Fault Refusal :=
  .next (s.spisTest m3 alive addr [b] fun s =>
    if 25 < addr.toNat then s.spisAnswer 0x20 alive.toNat 2 0
    else s.spisAnswer 0x20 alive.toNat 0 (ofLeBytes ((s.test.record.drop (4 * addr.toNat)).take 4)))

/-! ### Reply reads (R653, R656) -/

/-- The reply's nine bytes. -/
def spisReply (r : Nat × Nat × Nat × Nat) : List Byte :=
  let b := beBytes 1 r.1 ++ beBytes 1 r.2.1 ++ beBytes 1 r.2.2.1 ++ beBytes 4 r.2.2.2
  b ++ beBytes 2 (crcOf 3 b)

/-- The foghorn pattern. -/
def foghorn (n : Nat) : List Byte := (List.range n).map fun i => if i % 2 = 0 then 0xF0 else 0x0F

/-- What a reply read of `n` bytes sends, and whether it sends the whole reply. `fmt` is the long format. -/
def spisSend (fmt : Bool) (reply : Option (Nat × Nat × Nat × Nat)) (ready busy : Bool) (n : Nat) : List Byte × Bool :=
  match reply, ready && !busy with
  | some r, true =>
    let b := (if fmt then [0x5A] else []) ++ spisReply r
    ((b ++ List.replicate (n - b.length) 0xFF).take n, decide (b.length ≤ n))
  | r, _ =>
    if fmt then (((if r.isNone && !busy then 0x3C else 0xA5) :: foghorn (n - 1)).take n, false) else (foghorn n, false)

/-- REPLY_READ: a transaction of `n` bytes; `ready` says that the reply was ready in time. While the slave takes no part,
SPIS_MISO is at high impedance and nothing is sent. -/
def execReplyRead (m3 : Bool) (ready : Bool) (n : Nat) (s : State) : Host.Outcome State Fault Refusal :=
  .next (if !s.spisOn then s.modSpis fun x => { x with out := [] }
  else s.spisDo m3 fun s =>
    let r := spisSend (s.rbit rSpisStat 0) s.spis.reply ready s.spis.busy.isSome n
    s.modSpis fun x => { x with out := r.1, unread := x.unread && !r.2 })

end Sys2Proof.Machine
end

