-- ==== Sys2Proof/Machine/Tap.lean ====
section
/-! DEFINITION. The TAP (R692 to R694). A row loads its instruction, captures its data register into `dr` and, where it has
one, updates it. `straps` are the levels of the strap balls, which count where the row ends a reset. -/

namespace Sys2Proof.Machine

def State.modTap (s : State) (f : TapState → TapState) : State := { s with tap := f s.tap }

/-- The islands have power. -/
def State.powered (s : State) : Bool := s.pwr.seq == .on && !s.mode.dormant

/-- INT_SCAN opens the internal chains (R694). -/
def State.scanOpens (s : State) : Bool :=
  s.tap.scan || (s.mode.session && s.rfld rSecDbgStat 4 2 == 3) ||
  (List.range 48).all fun w => s.fuse w == 0 && s.fuseVal w == 0 && !(s.marginal w)

/-- Leaving INT_SCAN: a full device reset, with TCM and Caldera cleared. -/
def State.scanLeave (s : State) (straps : BitVec 6) : State :=
  let s := s.modTap fun x => { x with held := false, scan := false }
  if !s.powered then s
  else
    let s := s.fullStart straps 2 false
    { s with boot := { s.boot with tcm := [] }, cal := { s.cal with bytes := [], cleared := s.cal.epochs } }

/-- Another instruction ends the hold: start-up runs from step 1 of R597 with reason PERST (R693). -/
def State.holdLeave (s : State) (straps : BitVec 6) : State :=
  let s := s.modTap fun x => { x with held := false }
  if s.powered then s.bootReset straps 2 else s

/-- Every island but AON is held in reset (R693). -/
def State.holdEnter (s : State) : State :=
  let s := s.modTap fun x => { x with held := true }
  if s.powered then s.devReset false else s

/-- An instruction is loaded; `capture` is what its data register captures. -/
def State.tapLoad (s : State) (ir : Nat) (straps : BitVec 6) (capture : BitVec 832) : State :=
  let opens := ir == 0x18 && s.scanOpens
  let hold := opens || ir == 0 || ir == 3 || ir == 4
  let s := if s.tap.scan && !opens then s.scanLeave straps
    else if s.tap.held && !hold then s.holdLeave straps else s
  let s := if hold && !s.tap.held then s.holdEnter else s
  s.modTap fun x => { x with ir := ir, scan := opens, dr := capture }

/-- TAP_RESET: IDCODE is selected. -/
def execTapReset (straps : BitVec 6) (s : State) : Host.Outcome State Fault Refusal := .next (s.tapLoad 2 straps 0)

/-- EXTEST: `pins` are captured, `load` is shifted in. -/
def execTapExtest (pins load : BitVec 412) (straps : BitVec 6) (s : State) : Host.Outcome State Fault Refusal :=
  .next ((s.tapLoad 0 straps (pins.setWidth 832)).modTap fun x => { x with bsr := load })

/-- SAMPLE. -/
def execTapSample (pins load : BitVec 412) (straps : BitVec 6) (s : State) : Host.Outcome State Fault Refusal :=
  .next ((s.tapLoad 1 straps (pins.setWidth 832)).modTap fun x => { x with bsr := load })

/-- IDCODE. -/
def execTapIdcode (straps : BitVec 6) (s : State) : Host.Outcome State Fault Refusal := .next (s.tapLoad 2 straps 0xB512058B)

/-- CLAMP: bypass is selected. -/
def execTapClamp (straps : BitVec 6) (s : State) : Host.Outcome State Fault Refusal := .next (s.tapLoad 3 straps 0)

/-- HIGHZ: bypass is selected. -/
def execTapHighz (straps : BitVec 6) (s : State) : Host.Outcome State Fault Refusal := .next (s.tapLoad 4 straps 0)

/-- BYPASS. -/
def execTapBypass (straps : BitVec 6) (s : State) : Host.Outcome State Fault Refusal := .next (s.tapLoad 0x1F straps 0)

/-- INT_SCAN. -/
def execTapIntScan (straps : BitVec 6) (s : State) : Host.Outcome State Fault Refusal := .next (s.tapLoad 0x18 straps 0)

/-- TEST_START: Update-DR starts the test byte; a refusal sets TEST.CTRL.REJ (R686). -/
def execTapTestStart (t : BitVec 8) (straps : BitVec 6) (s : State) : Host.Outcome State Fault Refusal :=
  let s := s.tapLoad 0x10 straps 0
  .next (if !s.powered then s
  else if s.testCause t.toNat = 0 then s.testStart 2 t.toNat none
  else (s.testStart 2 t.toNat none).setBit rTestCtrl 31 true)

/-- TEST_STAT. -/
def execTapTestStat (straps : BitVec 6) (s : State) : Host.Outcome State Fault Refusal :=
  let s := s.tapLoad 0x11 straps 0
  .next (s.modTap fun x => { x with dr := (s.reg rTestStat).setWidth 832 })

/-- TEST_RESULT: bytes 0 to 103 of the last result record. -/
def execTapTestResult (straps : BitVec 6) (s : State) : Host.Outcome State Fault Refusal :=
  let s := s.tapLoad 0x12 straps 0
  .next (s.modTap fun x => { x with dr := BitVec.ofNat 832 (ofLeBytes (s.test.record.take 104)) })

/-- JTAG reaches the debug registers of SEC, and in a session of LEVEL 0b10 or 0b11 all of SEC (R625, R629). -/
def State.dbgReach (s : State) (off : Nat) : Bool :=
  decide (0x400 ≤ off) && decide (off ≤ 0x504) || (s.mode.session && s.rbit rSecDbgStat 5)

/-- A SEC register read or written through JTAG; GO through JTAG is noted as such in the audit log. -/
def State.dbgReg (s : State) (off : Nat) (wr : Bool) (v : Word) : State :=
  match (if off % 4 = 0 && s.dbgReach off then regAt (0x040000 + off) else none) with
  | none => s.modTap fun x => { x with dr := 0 }
  | some d =>
    if wr then
      if 0x040000 + off = rSecDbgCmd then
        let s := if bit v 0 then s.dbgGo true else s
        if bit v 1 then s.dbgClose else s
      else s.secW d (0x040000 + off) v
    else
      let r := s.regRead d (0x040000 + off)
      r.2.modTap fun x => { x with dr := r.1.setWidth 832 }

/-- Keeper halt and TCM access, in a session of LEVEL 0b10 or 0b11 (R628): 2 halt, 3 release, 4 a TCM word read, 5 a TCM word
written. -/
def State.dbgKeeper (s : State) (what off : Nat) (v : Word) : State :=
  if !(s.mode.session && s.rbit rSecDbgStat 5) then s.modTap fun x => { x with dr := 0 }
  else if what = 2 then s.haltKeeper true
  else if what = 3 then s.haltKeeper false
  else if what = 4 then
    let w := ofLeBytes ((List.range 4).map fun i => SMap.get (fun _ => 0) s.boot.tcm (off / 4 * 4 + i))
    s.modTap fun x => { x with dr := BitVec.ofNat 832 w }
  else s.tcmLoad (off / 4 * 4) (leBytes 4 v.toNat)

/-- DBG_ACCESS: 0 a register read, 1 a register write, 2 to 5 as for Keeper; `off` is the offset in SEC or in TCM. -/
def execTapDbgAccess (what : Fin 6) (off : Fin 524288) (v : BitVec 32) (straps : BitVec 6) (s : State) :
    Host.Outcome State Fault Refusal :=
  let s := s.tapLoad 0x14 straps 0
  .next (if !s.powered then s
  else if what.val ≤ 1 then s.dbgReg off.val (what.val == 1) v
  else s.dbgKeeper what.val off.val v)

end Sys2Proof.Machine
end

