-- ==== Sys2Proof/Machine/TickAudio.lean ====
section
/-! DEFINITION. Steps 3 and 4 of the tick boundary (R53): engine output ports, sink buffers, ports, bridges, streams, the ASRC
bank. -/

namespace Sys2Proof.Machine

/-! ### Engine output ports (R199, R200, R329) -/

/-- The enabled segments of the active tables: engine, entry, first and last port of the write range, ZERO policy. -/
def State.chainHolders (s : State) : List (Nat × Nat × Nat × Nat × Bool) :=
  s.eng.flatMap fun p => (List.range 32).filterMap fun i =>
    let w3 := p.2.segWord true i 3
    if p.2.segEn true i then some (p.1, i, fld w3 0 8, fld w3 8 8, bit (p.2.segWord true i 0) 25) else none

/-- Writes that a segment torn during the last frozen tick had made are not used. -/
def State.settleTorn (s : State) : State :=
  let ok := fun (w : ChainWrite) => !(w.tick + 1 == s.tick.sidx && s.chainTorn.contains (w.eng, w.seg))
  { s with
    chainNow := s.chainNow.filter ok
    chainFrz := SMap.mapAll (fun _ => {}) (fun _ f => { f with writes := f.writes.filter ok }) s.chainFrz }

/-- The domain of an output port (R315). -/
def State.portDom (s : State) (p : Nat) : Nat := s.rfld (rRouteCpdom (p / 16)) (2 * (p % 16)) 2

/-- The freeze at the present tick; `prev` gives the previous tick of a domain. -/
def State.chainFreeze (s : State) (prev : Nat → Option Nat) : State :=
  let k := s.tick.sidx
  let hs := s.chainHolders
  let torn := s.eng.flatMap fun p => if p.2.six.toNat + 1 = k then p.2.torn.map (p.1, ·) else []
  let one := fun (m : SMap FrozenPort) p =>
    let d := s.portDom p
    if !(s.ticks d) then m
    else
      let ws := s.chainNow.filter fun w => w.port == p && w.arrived && prev d == some w.tick
      let h := (hs.find? fun h => decide (h.2.2.1 ≤ p) && decide (p ≤ h.2.2.2.1)).map fun h => (h.1, h.2.1, h.2.2.2.2)
      SMap.set (fun _ => {}) m p { base := s.frozenValue p, writes := sortWrites ws, holder := h, at' := k }
  { s with
    chainFrz := (List.range 192).foldl one s.chainFrz
    chainNow := s.chainNow.filter fun w => let d := s.portDom w.port; !(s.ticks d) && prev d == some w.tick
    chainTorn := torn }

/-- D0 stops: the ports keep their values until the next epoch. -/
def State.chainRest (s : State) : State :=
  let z : SMap FrozenPort := (List.range 192).foldl (fun m p =>
    let v := s.frozenValue p
    if v = Quad.all 0 then m else SMap.set (fun _ => {}) m p { base := v, holder := some (0, 0, false) }) []
  { s with chainNow := [], chainTorn := [], chainFrz := z }

/-! ### Sink buffers (R328, R197, R252) -/

/-- The sink buffers of the ticking domains are released. -/
def State.sinkRelease (s : State) : State :=
  let due := fun a => s.ticks ((s.addrDom a false).getD 0)
  let old := SMap.keep (fun a => !(due a)) s.route.rels
  let new := s.route.bufs.foldl (fun m p => if due p.1 then SMap.set (fun _ => 0) m p.1 p.2 else m) old
  { s with route := { s.route with rels := new } }

/-- The ramp helper channels that deliver: port lane, value. -/
def State.deliveries (s : State) : List (Nat × Word) :=
  (List.range 256).filterMap fun n =>
    let w := s.reg (rFabRampW0 n)
    if bit w 31 && bit w 17 then some (4 * fld w 9 6 + fld w 15 2, (s.helperRamp n).cur) else none

/-- CP192 to CP255 take the released sinks; a lane that a helper channel delivers into takes its value. -/
def State.inputPorts (s : State) : State :=
  let put := fun (m : SMap (Quad Word)) (lane : Nat) v =>
    SMap.modify (fun _ => Quad.all 0) m (192 + lane / 4) fun q => q.set (lane % 4) v
  let hs := s.deliveries
  let m := (s.route.rels.filter fun p => decide (0x0B00 ≤ p.1) && decide (p.1 < 0x0C00)).foldl (fun m p => put m (p.1 - 0x0B00) p.2) []
  let s := if (hs.map Prod.fst).eraseDups.length < hs.length then s.setBit rRouteStat 16 true else s
  { s with chainIn := hs.foldl (fun m h => put m h.1 h.2) m }

/-! ### Bridges (R39, R334, R335) -/

/-- One tick of a bridge. -/
def State.bridgeTick (s : State) (b : Nat) : State :=
  let r := rRouteBrg b
  let dom := 1 + s.rfld r 1 1
  let n := s.domDiv dom
  let x := s.bridge b
  let y := s.sinkValue (0x0200 + b)
  if !(s.rbit r 31) || !(s.domRuns dom) then s.setSrc (0x0200 + b) 0
  else if !(s.rbit r 0) then
    let x := { x with hist := (y :: x.hist).take (40 * n + 1) }
    let x := if s.ticks dom then { x with out := Config.filterOut (100 + n) x.hist } else x
    (s.setBridge b x).setSrc (0x0200 + b) x.out
  else
    let x := if s.ticks dom then { x with hist := (y :: x.hist).take 41, phase := 0 }
      else { x with phase := min (n - 1) (x.phase + 1) }
    let x := { x with out := Config.filterOut (1000 + 16 * n + x.phase) x.hist }
    (s.setBridge b x).setSrc (0x0200 + b) x.out

/-! ### ASRC (R339 to R342) -/

/-- Frames that a FIXED endpoint moves during the present tick, from the RATE of the channel. -/
def State.paceOf (s : State) (n : Nat) : Nat :=
  let hz := (asrcRate (s.rfld (rAsrcCfg0 n) 18 4)).getD 48000
  let k := s.tick.sidx
  (k + 1) * hz / s.d0Rate - k * hz / s.d0Rate

/-- The live value of a channel: the filter is not stated, so it is a function of the tick, the place in the tick, the delay,
the ratio and the input (log entry 4). -/
def State.asrcLive (s : State) (n j : Nat) : Word :=
  let lat := max 8 (s.rfld (rAsrcCfg1 n) 0 7)
  Config.filterOut (2000 + 128 * j + lat) (BitVec.ofNat 32 s.tick.sidx :: s.reg (rAsrcRatio n) :: (s.asrc n).hist)

/-- What a channel's fade makes of its live value at the present tick. -/
def State.asrcNow (s : State) (n j : Nat) : Word := (s.asrc n).fade.value 0 (s.asrcLive n j)

/-- An OUT channel takes the released value of its sink. -/
def State.asrcPush (s : State) (n : Nat) : State :=
  let x := s.asrc n
  s.setAsrc n { x with hist := s.sinkValue (0x0400 + n) :: x.hist, count := x.count + 1 }

/-- A FIXED IN channel whose stream is not open is treated as stopped: it fades as outside LOCKED. -/
def State.asrcStream (s : State) (n : Nat) : State :=
  let w := s.reg (rAsrcCfg0 n)
  let ep := fld w 0 16
  let x := s.asrc n
  if bit w 16 || !(bit w 17) then s
  else if (s.addrDom ep true).isNone then s.setAsrc n { x with fade := x.fade.stop s.d0Rate }
  else match x.fade.st with
    | .silent => s.setAsrc n { x with fade := x.fade.start s.d0Rate }
    | .out .. => s.setAsrc n { x with fade := x.fade.start s.d0Rate }
    | _ => s

/-- One tick of an enabled channel: its fade, its value. -/
def State.asrcTick (s : State) (n : Nat) : State :=
  let s := s.asrcStream n
  let x := s.asrc n
  let f := x.fade.tick [0] fun _ => s.asrcLive n 0
  let s := s.setAsrc n { x with fade := f, out := f.outAt 0 }
  if s.rbit (rAsrcCfg0 n) 16 then s else s.setSrc (0x0400 + n) (f.outAt 0)

/-- The enabled channels. -/
def State.asrcOn (s : State) : List Nat := (List.range 256).filter fun n => s.rbit (rAsrcCfg0 n) 31

/-! ### Streams (R406, R407, R409) -/

/-- The ASRC channels of a stream's channels, with the stream's channel number. -/
def State.streamAsrc (s : State) (r : Nat) (x : Stream) (out : Bool) : List (Nat × Nat) :=
  (List.range x.chans).flatMap fun ch => (s.asrcAt (0x8000 + 8 * r + ch) out).map (·, ch)

/-- A media playback stream yields the frames that its channels consume in this tick. -/
def State.mediaYield (s : State) (r : Nat) (x : Stream) : State :=
  match s.streamAsrc r x false with
  | [] => s
  | (n0, c0) :: l =>
    forN (s.paceOf n0) (fun _ s =>
      let s := s.streamYield r
      match s.stream r with
      | none => s
      | some x => ((n0, c0) :: l).foldl (fun s p => let a := s.asrc p.1
          s.setAsrc p.1 { a with hist := x.fade.value p.2 (x.live.getD p.2 0) :: a.hist, count := a.count + 1 }) s) s

/-- A media capture stream takes the frames that its channels produce in this tick. -/
def State.mediaPut (s : State) (r : Nat) (x : Stream) : State :=
  match s.streamAsrc r x true with
  | [] => s
  | (n0, _) :: _ =>
    forN (s.paceOf n0) (fun j s => s.streamPut r ((List.range x.chans).map fun ch =>
      match s.asrcAt (0x8000 + 8 * r + ch) true with
      | n :: _ => s.asrcNow n j
      | [] => 0)) s

/-- One D0 tick of an open stream. -/
def State.streamTick (s : State) (r : Nat) : State :=
  match s.stream r with
  | none => s
  | some x =>
    let due := x.media || s.ticks x.dom
    if x.capture then
      if x.fmt = 5 || !due then s
      else if x.media then s.mediaPut r x
      else s.streamPut r ((List.range x.chans).map fun ch => s.sinkValue (0x8000 + 8 * r + ch))
    else
      let s := if due then s.streamStart r else s
      let s := if x.media then s.mediaYield r x else if due then s.streamYield r else s
      match s.stream r with
      | none => s
      | some x =>
        let x := { x with fade := x.fade.tick (List.range x.chans) fun ch => x.live.getD ch 0 }
        let s := s.setStream r (some x)
        let s := if due && !x.media then
            (List.range x.chans).foldl (fun s ch => s.setSrc (0x8000 + 8 * r + ch) (x.fade.outAt ch)) s
          else s
        s.streamEnds r

/-! ### The whole of steps 3 and 4 -/

/-- Sources whose object is gone or not enabled deliver 0 (R332). -/
def State.clearSrcs (s : State) : State :=
  let live := fun a =>
    if 0x0400 ≤ a && a < 0x0500 then s.rbit (rAsrcCfg0 (a - 0x0400)) 31 && !(s.rbit (rAsrcCfg0 (a - 0x0400)) 16)
    else if 0x1000 ≤ a && a < 0x2000 then s.chans.contains (a - 0x1000)
    else if 0x8000 ≤ a then (s.stream ((a - 0x8000) / 8)).isSome
    else true
  { s with route := { s.route with srcs := SMap.keep live s.route.srcs } }

/-- Input frames are frozen, sink buffers released, streams and converters advance, DAC codes load. -/
def State.tickAudio (s : State) : State :=
  let s := s.sinkRelease.inputPorts.clearSrcs
  let s := forN 16 (fun m s => s.micFreeze m) (forN 6 (fun n s => s.tdmFreeze n) s)
  let s := s.chans.foldl State.casTick s
  let s := forN 64 (fun b s => s.bridgeTick b) s
  let on := s.asrcOn
  let s := (on.filter fun n => s.rbit (rAsrcCfg0 n) 16).foldl State.asrcPush s
  let s := (s.mov.streams.map Prod.fst).foldl State.streamTick s
  let s := on.foldl State.asrcTick s
  let s := forN 2 (fun t s => s.sptRelease t) (forN 6 (fun n s => s.tdmRelease n) s)
  let s := s.casRelease.dacTick
  { s with route := { s.route with computed := false } }

end Sys2Proof.Machine
end

