-- ==== Sys2Proof/Machine/Tick.lean ====
section
/-! DEFINITION. The D0 tick (chapter 2) and Keeper's K0 supervision (chapter 13). -/

namespace Sys2Proof.Machine

/-! ### The generators (R43, R44, R47, R48) -/

/-- The instant of the next tick: the period follows the estimate, less at most 8 cycles of the phase error, and changes by
at most 16 cycles within ±5 % of nominal. -/
def State.tickTime (s : State) : State :=
  let g := s.tick.gen
  let nom := 1228800000 / s.d0Rate
  let whole := (g.f + g.frac) / 256
  let c := clampI (-8) 8 g.err
  let p := ((whole : Int) - c).toNat
  let p := clampN (nom * 19 / 20 + 1) (nom * 21 / 20) (clampN (g.period - 16) (g.period + 16) p)
  let t := g.lastTick + p
  let s := { s with now := max s.now t }
  s.modGen fun g => { g with lastTick := t, period := p, frac := (g.f + g.frac) % 256, err := g.err - c }

/-- D1 or D2 at the present tick (R37, R48): its flag, and its state. A phase that moves later holds the next index back. -/
def State.domTick (s : State) (m : Nat) : Bool × State :=
  let k := s.tick.sidx
  let x := s.dom m
  let n := s.domDiv m
  let r := rClkTickStat m
  let ph := s.rfld r 16 4
  if !(s.rbit (rClkTickCtrl m) 31) then (false, s)
  else if x.hold then (false, s.setDom m { x with hold := false })
  else if k % n ≠ ph % n then (false, s)
  else
    let x := { x with last := some k, tc := if x.last.isSome then x.tc + 1 else 0 }
    let s := if x.move = 0 then s else s.setFld r 16 4 (if 0 < x.move then (ph + 1) % n else (ph + n - 1) % n)
    let s := s.setDom m { x with move := 0, hold := decide (0 < x.move) }
    let src := s.rfld (rClkTickCtrl m) 0 4
    if s.curSrc m = src then (true, s)
    else
      let s := (s.setFld r 0 4 src).setBit r 4 (src == 0xB)
      let s := s.setDom m { s.dom m with run16 := 0 }
      (true, if src = 0xB then s.setFld r 16 4 (s.rfld (rClkTickCtrl m) 12 4) else s)

/-- The flags of D1 and D2 are fixed. -/
def State.tickFlags (s : State) : State :=
  let (a, s) := s.domTick 1
  let (b, s) := s.domTick 2
  { s with tick := { s.tick with flags := BitVec.ofNat 2 ((if a then 1 else 0) + (if b then 2 else 0)) } }

/-- A domain starts with the epoch: its source, its phase, LOCKED (R48, R65). -/
def State.domEpoch (s : State) (m : Nat) : State :=
  let r := rClkTickStat m
  let src := s.rfld (rClkTickCtrl m) 0 4
  let s := ((s.setFld r 0 4 src).setFld r 16 4 (s.rfld (rClkTickCtrl m) 12 4)).setDom m {}
  s.setBit r 4 (src == 0xB && s.rbit (rClkTickCtrl m) 31)

/-! ### Commits (R231 to R233, R243, R324) -/

/-- A group that is due applies at the present tick. -/
def State.groupApply (s : State) (g : Nat) : State :=
  let x := s.group g
  match x.arm with
  | none => s
  | some a =>
    let k := s.tick.sidx
    let late := a.late || (!a.next && decide (s.reg64 (rFabCgDueLo g) < k))
    let s := x.members.foldl (fun s m => s.applyMember (some (k, late)) m) s
    let s := s.setReg64 (rFabCgAppliedLo g) k
    let s := if late then ((s.setBit (rFabCgStat g) 16 true).bump rFabCommitStat 0 8).tally 14 else s
    if s.groupSt g = 4 then (s.setGroup g { x with members := [], arm := some { a with late := late } }).cascadeDone g
    else
      let s := (s.setGroup g {}).setGroupSt g 0
      if a.follow then s.commitMsg 0x0B 0 g (some k)
      else (s.grant a.ctx a.seq).setResult a.ctx a.seq (if late then 1 else 0)

/-- The group applies at the present tick or should have. -/
def State.groupDue (s : State) (g : Nat) : Bool :=
  (s.groupSt g == 2 || (s.groupSt g == 4 && !(s.group g).members.isEmpty)) && decide (s.reg64 (rFabCgDueLo g) ≤ s.tick.sidx)

/-- Step 2 of R53: freed crosspoints, groups in ascending order, changes without a group, ramps. -/
def State.tickCommits (s : State) : State :=
  let s := s.freeCleared
  let s := ((List.range 64).filter s.groupDue).foldl State.groupApply s
  let ms := s.par.next
  let s := { s with par := { s.par with next := [] } }
  (ms.foldl (fun s m => s.applyMember none m) s).tickRamps

/-! ### Engines (R53 step 5, R56, R677) -/

/-- The tick is offered to the engines of the clusters that take ticks; the segments of a shed cluster are not reached. -/
def State.tickOffer (s : State) : State :=
  let t : TickInfo := { six := s.tick.sidx, dfl := s.tick.flags, tc1 := s.tick.d1.tc, tc2 := s.tick.d2.tc }
  forN 32 (fun e s =>
    let st := s.island (e / 4)
    if st = 0 then (s.modEngine e fun x => { x with offered := some t, received := false }).lmRestore e
    else
      let s := s.modEngine e fun x => { x with offered := none }
      if st = 3 then
        ((List.range 32).filter ((s.engine e).segEn true)).foldl (fun s i =>
          (s.bump (rEngSegStat e i) 16 8).logEvent ((s.engine e).owner i) 0x02 e i 0) s
      else s) s

/-! ### The boundary -/

/-- GPIO pulses of the ticking domains (R704). -/
def State.tickPulses (s : State) : State :=
  let s := s.pulse 2
  let s := if s.tick.flags.getLsbD 0 then s.pulse 3 else s
  if s.tick.flags.getLsbD 1 then s.pulse 4 else s

/-- What follows the choice of the index, in the order of R53; `before` is the state at the end of the tick before. -/
def State.tickBoundary (before s : State) : State :=
  let prev := fun d => if d = 0 then (if s.tick.sidx = 0 then none else some (s.tick.sidx - 1))
    else (before.dom d).last
  let s := s.tickFlags.tickPulses
  let s := s.setReg rClkTickPeriod0 (BitVec.ofNat 32 s.tick.gen.f)
  let s := { s with clk := { s.clk with win := s.clk.win + 1 } }
  let s := if s.rbit rClkCkoCommit 8 then s.ckoApply else s
  let s := ((s.slew).trackTrim 0).trackTrim 1
  let s := (s.tickCommits.chainFreeze prev).tickAudio
  (s.shedDue.tickOffer).stopShed

/-- A pending SRC takes effect, and the mode follows (R47, R661, R662). -/
def State.tickSource (s : State) : State :=
  let new := s.rfld (rClkTickCtrl 0) 0 4
  s.modeDo (if new = 0xA then s.holdReason else 0x12) State.srcChange

/-- The epoch tick (R50, R51, R664): the first tick after an accepted RUN. -/
def State.epoch (s : State) (k : Nat) : State :=
  let s := ((s.setBit rTopModeCmd 3 false).setBit (rClkTickCtrl 0) 31 true)
  let g := { s.tick.gen with lastTick := s.now, applied := s.now, firstEv := true, lastUsed := s.now, lastRecv := s.now }
  let s := { s with
    tick := { gen := g, sidx := k }
    ngx := { s.ngx with base := k, start := none, epoch := if s.isMaster then s.ngx.epoch + 1 else s.ngx.epoch } }
  let s := (s.domEpoch 1).domEpoch 2
  let t := s.modeDo 0x04 fun s => ({ s with mode := { s.mode with runPend := false, baseRun := true } } : State).srcChange
  s.tickBoundary t.dacDomStart

/-- D0 stops at the end of the tick in progress (R50, R65, R73, R665). -/
def State.d0Stop (s : State) : State :=
  let s := s.chainRest
  let s := ((s.setBit (rClkTickStat 0) 4 false).setBit (rClkTickStat 0) 5 false).setBit (rClkTickCtrl 0) 31 false
  let s := (s.setBit (rClkTickStat 1) 4 false).setBit (rClkTickStat 2) 4 false
  let s := forN 32 (fun e s => s.modEngine e fun x => { x with six := 0, tc1 := 0, tc2 := 0, offered := none }) s
  let s := { s with
    tick := { gen := s.tick.gen }
    latches := SMap.keep (fun r => r != rClkSidxHi && r != rClkSidxPhase) s.latches
    route := { s.route with computed := true } }
  let s := s.dropDoubt
  s.modeDo 0x04 fun s => ({ s with mode := { s.mode with baseRun := false } } : State).restoreAll.dacDomStop

/-- A tick of the MINIMAL path (R618): the index counts the ticks since the path was enabled. -/
def State.minTick (s : State) : State :=
  let s := s.computeSinks.tickTime
  let s := { s with tick := { s.tick with sidx := s.tick.sidx + 1 } }
  let s := s.modBoot fun x => { x with minFrames := s.tick.sidx }
  s.tickPulses.tickRamps.tickAudio

/-- A tick while D0 runs. -/
def State.runTick (s : State) : State :=
  let s := s.computeSinks
  let before := s
  let s := s.settleTorn.tickTime
  let s := { s with tick := { s.tick with sidx := s.tick.sidx + 1 } }
  before.tickBoundary s.tickSource

/-- D0_TICK. -/
def execD0Tick (s : State) : Host.Outcome State Fault Refusal :=
  .next (if s.mode.runPend then
    (if s.rfld (rClkTickCtrl 0) 0 4 = 9 then
      (match s.ngx.start with
       | some k => s.epoch k
       | none => s)
     else s.epoch (s.reg64 rClkSidxStartLo))
  else if !s.mode.baseRun then s
  else if s.tick.idleAtEnd then s.d0Stop
  else if s.minPath then s.minTick
  else s.runTick)

/-! ### K0 (R519 to R523, R540) -/

/-- K0 moves D0 to the holdover synthesiser (R519). -/
def State.k0Hold (s : State) : State :=
  let c := s.curSrc 0
  let pll := decide (c < 2) && (s.pll c).newLoss
  if !s.d0Running || s.mode.runPend || c == 0xA || !(pll || s.clk.lostNew) then s
  else
    let why := if pll then 0x10 else if c = 9 && s.rxState = 0 then 0x14 else 0x11
    let s := (s.setFld rClkHoldStat 4 4 c).setReg64 rClkHoldIncLo s.incMeasured
    { s.setFld (rClkTickCtrl 0) 0 4 0xA with clk := { s.clk with holdWhy := why } }

/-- Every held PLL-A or PLL-B is relocked, at most once in 10 ms. -/
def State.k0Relock (s : State) : State :=
  forN 2 (fun x s =>
    if s.pllSt x = 3 && s.rbit rClkRefStat 8 && decide ((s.pll x).again ≤ s.now) then
      let s := s.relock x
      s.setPll x { s.pll x with again := s.now + 12288000 }
    else s) s

/-- The losses that K0 has read. -/
def State.k0Clear (s : State) : State :=
  let s := forN 3 (fun x s => s.setPll x { s.pll x with newLoss := false }) s
  { s with clk := { s.clk with lostNew := false } }

/-- The return to the previous source (R521). -/
def State.k0Return (s : State) : State :=
  if s.rbit rClkHoldCtrl 0 && s.prevOk (s.rxState == 3 && s.ngx.contOk) then
    s.setFld (rClkTickCtrl 0) 0 4 (s.rfld rClkHoldStat 4 4)
  else s

/-- A follower whose beacon no longer continues its count goes through IDLE back to RUN (R540). -/
def State.k0Rejoin (s : State) : State :=
  if !s.ngx.rejoin then s
  else if s.mode.baseRun then s.goIdle
  else if s.modeUnder = 5 && !s.mode.runPend then
    ((s.setFld (rClkTickCtrl 0) 0 4 9).modNgx fun x => { x with rejoin := false }).goRun
  else s

/-- K0_RUN. -/
def execK0Run (s : State) : Host.Outcome State Fault Refusal :=
  .next (if !s.keeperRuns then s
  else
    let s := (s.k0Hold).k0Relock.k0Clear.k0Return
    (forN 6 (fun n s => s.tdmReset n) s).k0Rejoin)

end Sys2Proof.Machine
end

