-- ==== Sys2Proof/Machine/Windows.lean ====
section
/-! DEFINITION. WINDOW_SET (R279). -/

namespace Sys2Proof.Machine

/-- The fields of a WINDOW_SET with operation `op` are in range. -/
def windowSetOk (d : OpenDesc) (op : Nat) : Bool :=
  d.extra == op && d.onlyUses [(16, 24)] &&
  match op with
  | 1 => d.num 16 8 % 32768 == 0
  | 3 => decide (1 ≤ d.num 32 8) && windowOk (d.num 24 8) (d.num 32 8)
  | _ => true

/-- Every request of a mover for a context's function has been issued. -/
def State.moversIssued (s : State) (c : Nat) : Bool :=
  s.fab.outq.all fun r => !(decide (32 ≤ r.master) && decide (r.master < 96) && r.tlp.func == s.rfld (rCtxtCtrl c) 0 6)

/-- WINDOW_SET with an effect `f`. It completes once every request that used a removed entry has been issued. -/
def State.windowSet (s : State) (c q op : Nat) (f : OpenDesc → State → State) : State :=
  match s.ready c q tWindowSet with
  | some d =>
    if d.extra % 4 ≠ op && !(d.extra % 4 == 0 && op == 1) then s
    else if !(windowSetOk d op) then s.finish c q 0x10
    else
      let s := (f d s).grant c q
      if s.moversIssued c then s.setResult c q 0 else s
  | none =>
    match s.running c q tWindowSet with
    | some d => if d.extra % 4 = op && s.moversIssued c then s.setResult c q 0 else s
    | none => s

/-- WINDOW_SET_ROOT. A reserved operation ends here as BAD_DESC. -/
def execWindowSetRoot (c : Fin 512) (q : BitVec 32) (s : State) : Host.Outcome State Fault Refusal :=
  .next (s.windowSet c.val q.toNat 1 fun d s => (s.setRoot c.val (some (d.num 16 8))).tlbDrop c.val fun _ => true)

/-- WINDOW_SET_DISABLE. -/
def execWindowSetDisable (c : Fin 512) (q : BitVec 32) (s : State) : Host.Outcome State Fault Refusal :=
  .next (s.windowSet c.val q.toNat 2 fun _ s => (s.setRoot c.val none).tlbDrop c.val fun _ => true)

/-- WINDOW_SET_INVALIDATE: the pages that the range meets. -/
def execWindowSetInvalidate (c : Fin 512) (q : BitVec 32) (s : State) : Host.Outcome State Fault Refusal :=
  .next (s.windowSet c.val q.toNat 3 fun d s => s.tlbDrop c.val fun p =>
    decide (d.num 24 8 / 65536 ≤ p) && decide (p ≤ (d.num 24 8 + d.num 32 8 - 1) / 65536))

end Sys2Proof.Machine
end

