-- ==== Sys2Proof/Machine/Dispatch.lean ====
section
/-! DEFINITION. The dispatch of the commands to their meanings, one arm per row of the table. -/

namespace Sys2Proof.Machine

def exec (i : Instr) (s : State) : Host.Outcome State Fault Refusal :=
  match i with
  | .registerWrite off v => Sys2Proof.Machine.execRegisterWrite off v s
  | .readClear off => Sys2Proof.Machine.execReadClear off s
  | .lowHalfRead off => Sys2Proof.Machine.execLowHalfRead off s
  | .crossingDelivery src dst => Sys2Proof.Machine.execCrossingDelivery src dst s
  | .floorCredit => Sys2Proof.Machine.execFloorCredit s
  | .grantDecision b => Sys2Proof.Machine.execGrantDecision b s
  | .bankGrant b => Sys2Proof.Machine.execBankGrant b s
  | .outboundPortGrant => Sys2Proof.Machine.execOutboundPortGrant s
  | .d0Tick => Sys2Proof.Machine.execD0Tick s
  | .tickReceipt e => Sys2Proof.Machine.execTickReceipt e s
  | .sourceEvent src refs => Sys2Proof.Machine.execSourceEvent src refs s
  | .srcLost => Sys2Proof.Machine.execSrcLost s
  | .dmSourceEvent m => Sys2Proof.Machine.execDmSourceEvent m s
  | .tickCtrlWrite n v => Sys2Proof.Machine.execTickCtrlWrite n v s
  | .sidxLoRead => Sys2Proof.Machine.execSidxLoRead s
  | .nop e => Sys2Proof.Machine.execNop e s
  | .rpt e => Sys2Proof.Machine.execRpt e s
  | .endProgram e => Sys2Proof.Machine.execEndProgram e s
  | .mac e => Sys2Proof.Machine.execMac e s
  | .tap4 e => Sys2Proof.Machine.execTap4 e s
  | .mova e => Sys2Proof.Machine.execMova e s
  | .moval e => Sys2Proof.Machine.execMoval e s
  | .movst e => Sys2Proof.Machine.execMovst e s
  | .movf e => Sys2Proof.Machine.execMovf e s
  | .lda e => Sys2Proof.Machine.execLda e s
  | .araw e => Sys2Proof.Machine.execAraw e s
  | .aacc e => Sys2Proof.Machine.execAacc e s
  | .qop e => Sys2Proof.Machine.execQop e s
  | .qxf e => Sys2Proof.Machine.execQxf e s
  | .sel e => Sys2Proof.Machine.execSel e s
  | .pcmp e => Sys2Proof.Machine.execPcmp e s
  | .pset e => Sys2Proof.Machine.execPset e s
  | .chw e => Sys2Proof.Machine.execChw e s
  | .chr e => Sys2Proof.Machine.execChr e s
  | .ldq e => Sys2Proof.Machine.execLdq e s
  | .ldg e => Sys2Proof.Machine.execLdg e s
  | .stq e => Sys2Proof.Machine.execStq e s
  | .stg e => Sys2Proof.Machine.execStg e s
  | .gop e => Sys2Proof.Machine.execGop e s
  | .ldi e => Sys2Proof.Machine.execLdi e s
  | .mvs e => Sys2Proof.Machine.execMvs e s
  | .aadr e => Sys2Proof.Machine.execAadr e s
  | .flgc e => Sys2Proof.Machine.execFlgc e s
  | .br e => Sys2Proof.Machine.execBr e s
  | .dbnz e => Sys2Proof.Machine.execDbnz e s
  | .fld e => Sys2Proof.Machine.execFld e s
  | .fldw e => Sys2Proof.Machine.execFldw e s
  | .fst e => Sys2Proof.Machine.execFst e s
  | .fstw e => Sys2Proof.Machine.execFstw e s
  | .writeQueueRetire e => Sys2Proof.Machine.execWriteQueueRetire e s
  | .farReturnArrival e => Sys2Proof.Machine.execFarReturnArrival e s
  | .farStoreTaken e => Sys2Proof.Machine.execFarStoreTaken e s
  | .illegalWord e => Sys2Proof.Machine.execIllegalWord e s
  | .segmentEntry e => Sys2Proof.Machine.execSegmentEntry e s
  | .budgetCut e => Sys2Proof.Machine.execBudgetCut e s
  | .enginePortRead late => Sys2Proof.Machine.execEnginePortRead late s
  | .dldW0Write e n v => Sys2Proof.Machine.execDldW0Write e n v s
  | .swapPbank e => Sys2Proof.Machine.execSwapPbank e s
  | .swapStab e => Sys2Proof.Machine.execSwapStab e s
  | .clusterReset c => Sys2Proof.Machine.execClusterReset c s
  | .resAssign => Sys2Proof.Machine.execResAssign s
  | .resRelease => Sys2Proof.Machine.execResRelease s
  | .csetW0Write n v => Sys2Proof.Machine.execCsetW0Write n v s
  | .cbindWrite e n v => Sys2Proof.Machine.execCbindWrite e n v s
  | .coefWrite c q data => Sys2Proof.Machine.execCoefWrite c q data s
  | .coefDelta c q list => Sys2Proof.Machine.execCoefDelta c q list s
  | .shadowWriteComplete c q fail => Sys2Proof.Machine.execShadowWriteComplete c q fail s
  | .resyncStart n => Sys2Proof.Machine.execResyncStart n s
  | .resyncComplete n => Sys2Proof.Machine.execResyncComplete n s
  | .commit c q => Sys2Proof.Machine.execCommit c q s
  | .commitArm c q => Sys2Proof.Machine.execCommitArm c q s
  | .commitDiscard c q => Sys2Proof.Machine.execCommitDiscard c q s
  | .cascadeCommit c q => Sys2Proof.Machine.execCascadeCommit c q s
  | .cascadeDecision g => Sys2Proof.Machine.execCascadeDecision g s
  | .gainSet c q => Sys2Proof.Machine.execGainSet c q s
  | .cancel c q => Sys2Proof.Machine.execCancel c q s
  | .tileAssign => Sys2Proof.Machine.execTileAssign s
  | .tileRelease => Sys2Proof.Machine.execTileRelease s
  | .translationWalk c page e1 e2 e3 err => Sys2Proof.Machine.execTranslationWalk c page e1 e2 e3 err s
  | .windowSetRoot c q => Sys2Proof.Machine.execWindowSetRoot c q s
  | .windowSetDisable c q => Sys2Proof.Machine.execWindowSetDisable c q s
  | .windowSetInvalidate c q => Sys2Proof.Machine.execWindowSetInvalidate c q s
  | .prefetchChunkIssue n u0 => Sys2Proof.Machine.execPrefetchChunkIssue n u0 s
  | .writebackChunkIssue n => Sys2Proof.Machine.execWritebackChunkIssue n s
  | .chunkCompletion m data fail => Sys2Proof.Machine.execChunkCompletion m data fail s
  | .chunkDeadline n u0 read => Sys2Proof.Machine.execChunkDeadline n u0 read s
  | .lineMap c q => Sys2Proof.Machine.execLineMap c q s
  | .lineActivation n => Sys2Proof.Machine.execLineActivation n s
  | .unmap c q => Sys2Proof.Machine.execUnmap c q s
  | .unmapComplete n => Sys2Proof.Machine.execUnmapComplete n s
  | .sinterRegionStart bad => Sys2Proof.Machine.execSinterRegionStart bad s
  | .sinterRestore => Sys2Proof.Machine.execSinterRestore s
  | .lmSinterRegionStart e bad => Sys2Proof.Machine.execLmSinterRegionStart e bad s
  | .rowRepair br => Sys2Proof.Machine.execRowRepair br s
  | .protectedTileRelocation t => Sys2Proof.Machine.execProtectedTileRelocation t s
  | .lmRegionRepair e r => Sys2Proof.Machine.execLmRegionRepair e r s
  | .routeSet c q => Sys2Proof.Machine.execRouteSet c q s
  | .routeClear c q => Sys2Proof.Machine.execRouteClear c q s
  | .brgWrite b v => Sys2Proof.Machine.execBrgWrite b v s
  | .asrcCfg0Write n v => Sys2Proof.Machine.execAsrcCfg0Write n v s
  | .asrcLock n ratio => Sys2Proof.Machine.execAsrcLock n ratio s
  | .asrcUnlock n => Sys2Proof.Machine.execAsrcUnlock n s
  | .ctxEnable c fresh a b host tags ok => Sys2Proof.Machine.execCtxEnable c fresh a b host tags ok s
  | .ctxDisable c => Sys2Proof.Machine.execCtxDisable c s
  | .ctxReset c => Sys2Proof.Machine.execCtxReset c s
  | .commandProducer f page v => Sys2Proof.Machine.execCommandProducer f page v s
  | .completionConsumer f page v evCons => Sys2Proof.Machine.execCompletionConsumer f page v evCons s
  | .streamRingProducer f page n v es => Sys2Proof.Machine.execStreamRingProducer f page n v es s
  | .descriptorAccept c d => Sys2Proof.Machine.execDescriptorAccept c d s
  | .fetchRetry c => Sys2Proof.Machine.execFetchRetry c s
  | .descriptorFinish c q => Sys2Proof.Machine.execDescriptorFinish c q s
  | .completionRecord c => Sys2Proof.Machine.execCompletionRecord c s
  | .completionInterrupt c => Sys2Proof.Machine.execCompletionInterrupt c s
  | .nopDesc c q => Sys2Proof.Machine.execNopDesc c q s
  | .fence c q => Sys2Proof.Machine.execFence c q s
  | .progLoad c q image dlds fail => Sys2Proof.Machine.execProgLoad c q image dlds fail s
  | .segMap c q images binds sets fail => Sys2Proof.Machine.execSegMap c q images binds sets fail s
  | .progSwap c q => Sys2Proof.Machine.execProgSwap c q s
  | .streamOpen c q => Sys2Proof.Machine.execStreamOpen c q s
  | .streamClose c q => Sys2Proof.Machine.execStreamClose c q s
  | .dmaCopy c q => Sys2Proof.Machine.execDmaCopy c q s
  | .crcCheck c q => Sys2Proof.Machine.execCrcCheck c q s
  | .queryContext c q => Sys2Proof.Machine.execQueryContext c q s
  | .queryGroups c q => Sys2Proof.Machine.execQueryGroups c q s
  | .querySegments c q => Sys2Proof.Machine.execQuerySegments c q s
  | .queryLines c q => Sys2Proof.Machine.execQueryLines c q s
  | .powerSet c q => Sys2Proof.Machine.execPowerSet c q s
  | .testRun c q => Sys2Proof.Machine.execTestRun c q s
  | .cascSend c q payload fail => Sys2Proof.Machine.execCascSend c q payload fail s
  | .lanternWrite => Sys2Proof.Machine.execLanternWrite s
  | .moverTake => Sys2Proof.Machine.execMoverTake s
  | .bucketRefill => Sys2Proof.Machine.execBucketRefill s
  | .streamEntryComplete r => Sys2Proof.Machine.execStreamEntryComplete r s
  | .burstCompletion m data fail => Sys2Proof.Machine.execBurstCompletion m data fail s
  | .dmaReset => Sys2Proof.Machine.execDmaReset s
  | .flr f dc dc2 lc => Sys2Proof.Machine.execFlr f dc dc2 lc s
  | .pfFlr => Sys2Proof.Machine.execPfFlr s
  | .vfEnableClear ctl num => Sys2Proof.Machine.execVfEnableClear ctl num s
  | .hotReset => Sys2Proof.Machine.execHotReset s
  | .dlDown => Sys2Proof.Machine.execDlDown s
  | .linkRetrain speed width => Sys2Proof.Machine.execLinkRetrain speed width s
  | .perstNRelease straps => Sys2Proof.Machine.execPerstNRelease straps s
  | .perstNAssert => Sys2Proof.Machine.execPerstNAssert s
  | .completionTimeout f tag => Sys2Proof.Machine.execCompletionTimeout f tag s
  | .lateCompletion f tag => Sys2Proof.Machine.execLateCompletion f tag s
  | .msixUnmask f n addr data ctl => Sys2Proof.Machine.execMsixUnmask f n addr data ctl s
  | .l1Entry sub => Sys2Proof.Machine.execL1Entry sub s
  | .pcieLtrWrite v => Sys2Proof.Machine.execPcieLtrWrite v s
  | .pme src => Sys2Proof.Machine.execPme src s
  | .rxFrameComplete src ws => Sys2Proof.Machine.execRxFrameComplete src ws s
  | .txFrameStart p => Sys2Proof.Machine.execTxFrameStart p s
  | .framingError n => Sys2Proof.Machine.execFramingError n s
  | .missingBitClock n => Sys2Proof.Machine.execMissingBitClock n s
  | .tdmCfg0Write n v => Sys2Proof.Machine.execTdmCfg0Write n v s
  | .pdmMicWrite m v => Sys2Proof.Machine.execPdmMicWrite m v s
  | .settleEnd m => Sys2Proof.Machine.execSettleEnd m s
  | .spdifFrame ok rate a b va vb ca cb ea eb z => Sys2Proof.Machine.execSpdifFrame ok rate a b va vb ca cb ea eb z s
  | .csA0Read => Sys2Proof.Machine.execCsA0Read s
  | .cs5Write t v => Sys2Proof.Machine.execCs5Write t v s
  | .dacStart d => Sys2Proof.Machine.execDacStart d s
  | .dacStop d => Sys2Proof.Machine.execDacStop d s
  | .dacMute d => Sys2Proof.Machine.execDacMute d s
  | .dacUnmute d => Sys2Proof.Machine.execDacUnmute d s
  | .rampEnd d => Sys2Proof.Machine.execRampEnd d s
  | .fadeEnd d => Sys2Proof.Machine.execFadeEnd d s
  | .strbLost g => Sys2Proof.Machine.execStrbLost g s
  | .autoUnmute g => Sys2Proof.Machine.execAutoUnmute g s
  | .dacShort d => Sys2Proof.Machine.execDacShort d s
  | .ldsStrobe g rising => Sys2Proof.Machine.execLdsStrobe g rising s
  | .refclkLost => Sys2Proof.Machine.execRefclkLost s
  | .pllEnable x v => Sys2Proof.Machine.execPllEnable x v s
  | .pllDisable x v => Sys2Proof.Machine.execPllDisable x v s
  | .relock x => Sys2Proof.Machine.execRelock x s
  | .acquireEnd x => Sys2Proof.Machine.execAcquireEnd x s
  | .pllSlip x => Sys2Proof.Machine.execPllSlip x s
  | .ferrMeasure ferr => Sys2Proof.Machine.execFerrMeasure ferr s
  | .ckoCommit v => Sys2Proof.Machine.execCkoCommit v s
  | .ckoPhaseAdd n add => Sys2Proof.Machine.execCkoPhaseAdd n add s
  | .holdMeasWindow count => Sys2Proof.Machine.execHoldMeasWindow count s
  | .k0Run => Sys2Proof.Machine.execK0Run s
  | .frameOriginate idle => Sys2Proof.Machine.execFrameOriginate idle s
  | .frameReceive ws gap lag => Sys2Proof.Machine.execFrameReceive ws gap lag s
  | .frameLoss => Sys2Proof.Machine.execFrameLoss s
  | .beaconEvent => Sys2Proof.Machine.execBeaconEvent s
  | .ngxVoid src => Sys2Proof.Machine.execNgxVoid src s
  | .ngxAck src => Sys2Proof.Machine.execNgxAck src s
  | .ngxData src evCons => Sys2Proof.Machine.execNgxData src evCons s
  | .regRd src => Sys2Proof.Machine.execRegRd src s
  | .regWr src => Sys2Proof.Machine.execRegWr src s
  | .regRsp src => Sys2Proof.Machine.execRegRsp src s
  | .arm src => Sys2Proof.Machine.execArm src s
  | .armed src => Sys2Proof.Machine.execArmed src s
  | .ngxRefused src => Sys2Proof.Machine.execNgxRefused src s
  | .applied src => Sys2Proof.Machine.execApplied src s
  | .notArmed src => Sys2Proof.Machine.execNotArmed src s
  | .abortAck src => Sys2Proof.Machine.execAbortAck src s
  | .hrd src cpl data fail => Sys2Proof.Machine.execHrd src cpl data fail s
  | .hrdCpl tag => Sys2Proof.Machine.execHrdCpl tag s
  | .hwr src => Sys2Proof.Machine.execHwr src s
  | .hirq src => Sys2Proof.Machine.execHirq src s
  | .bootReq src => Sys2Proof.Machine.execBootReq src s
  | .bootData src => Sys2Proof.Machine.execBootData src s
  | .messageRepeat p => Sys2Proof.Machine.execMessageRepeat p s
  | .rrRead => Sys2Proof.Machine.execRrRead s
  | .rrWrite => Sys2Proof.Machine.execRrWrite s
  | .relayReadTimeout tag => Sys2Proof.Machine.execRelayReadTimeout tag s
  | .heartbeat => Sys2Proof.Machine.execHeartbeat s
  | .heartbeatMiss => Sys2Proof.Machine.execHeartbeatMiss s
  | .keeperFault => Sys2Proof.Machine.execKeeperFault s
  | .tcmUe => Sys2Proof.Machine.execTcmUe s
  | .keeperPoison => Sys2Proof.Machine.execKeeperPoison s
  | .restart => Sys2Proof.Machine.execRestart s
  | .firstHeartbeatTimeout => Sys2Proof.Machine.execFirstHeartbeatTimeout s
  | .copyCheck => Sys2Proof.Machine.execCopyCheck s
  | .flashReload readable => Sys2Proof.Machine.execFlashReload readable s
  | .rebuildEnd => Sys2Proof.Machine.execRebuildEnd s
  | .tmrVote bad => Sys2Proof.Machine.execTmrVote bad s
  | .bootRomStart freq odd => Sys2Proof.Machine.execBootRomStart freq odd s
  | .bootSourceTry quad => Sys2Proof.Machine.execBootSourceTry quad s
  | .stage1Start => Sys2Proof.Machine.execStage1Start s
  | .keeperImageStart => Sys2Proof.Machine.execKeeperImageStart s
  | .keeperInitDone => Sys2Proof.Machine.execKeeperInitDone s
  | .bootWatchdog straps => Sys2Proof.Machine.execBootWatchdog straps s
  | .awaitImageTimeout => Sys2Proof.Machine.execAwaitImageTimeout s
  | .cascadeUpTimeout => Sys2Proof.Machine.execCascadeUpTimeout s
  | .dmExtend sel => Sys2Proof.Machine.execDmExtend sel s
  | .upd slot => Sys2Proof.Machine.execUpd slot s
  | .arbRecord => Sys2Proof.Machine.execArbRecord s
  | .arbFuse => Sys2Proof.Machine.execArbFuse s
  | .mbxBoot data ok => Sys2Proof.Machine.execMbxBoot data ok s
  | .mbxWrite data ok => Sys2Proof.Machine.execMbxWrite data ok s
  | .failClr => Sys2Proof.Machine.execFailClr s
  | .otpPgm w => Sys2Proof.Machine.execOtpPgm w s
  | .newChal level key => Sys2Proof.Machine.execNewChal level key s
  | .dbgGo jtag => Sys2Proof.Machine.execDbgGo jtag s
  | .dbgClose => Sys2Proof.Machine.execDbgClose s
  | .challengeExpiry => Sys2Proof.Machine.execChallengeExpiry s
  | .fixedTimeResult op => Sys2Proof.Machine.execFixedTimeResult op s
  | .minPathEnable => Sys2Proof.Machine.execMinPathEnable s
  | .flashRead len => Sys2Proof.Machine.execFlashRead len s
  | .flashProgram len => Sys2Proof.Machine.execFlashProgram len s
  | .erase4k => Sys2Proof.Machine.execErase4k s
  | .erase64k => Sys2Proof.Machine.execErase64k s
  | .flashStatus => Sys2Proof.Machine.execFlashStatus s
  | .flashReady st => Sys2Proof.Machine.execFlashReady st s
  | .flashTimeout => Sys2Proof.Machine.execFlashTimeout s
  | .combineFlush => Sys2Proof.Machine.execCombineFlush s
  | .windowRead a => Sys2Proof.Machine.execWindowRead a s
  | .windowWrite a v => Sys2Proof.Machine.execWindowWrite a v s
  | .spimRelease => Sys2Proof.Machine.execSpimRelease s
  | .badFrame m3 => Sys2Proof.Machine.execBadFrame m3 s
  | .repeat m3 alive crc => Sys2Proof.Machine.execRepeat m3 alive crc s
  | .ping m3 op alive addr data => Sys2Proof.Machine.execPing m3 op alive addr data s
  | .spisRegRd m3 alive addr => Sys2Proof.Machine.execSpisRegRd m3 alive addr s
  | .spisRegWr m3 alive addr v => Sys2Proof.Machine.execSpisRegWr m3 alive addr v s
  | .mbxOpen m3 alive addr => Sys2Proof.Machine.execMbxOpen m3 alive addr s
  | .mbxWr m3 alive addr data => Sys2Proof.Machine.execMbxWr m3 alive addr data s
  | .mbxGo m3 alive addr len flags => Sys2Proof.Machine.execMbxGo m3 alive addr len flags s
  | .mbxStat m3 alive addr => Sys2Proof.Machine.execMbxStat m3 alive addr s
  | .spisTestRun m3 alive addr t => Sys2Proof.Machine.execSpisTestRun m3 alive addr t s
  | .spisTestStat m3 alive addr => Sys2Proof.Machine.execSpisTestStat m3 alive addr s
  | .spisResultRead m3 alive addr b => Sys2Proof.Machine.execSpisResultRead m3 alive addr b s
  | .replyRead m3 ready n => Sys2Proof.Machine.execReplyRead m3 ready n s
  | .modeCmdRun => Sys2Proof.Machine.execModeCmdRun s
  | .modeCmdIdle => Sys2Proof.Machine.execModeCmdIdle s
  | .railGood straps => Sys2Proof.Machine.execRailGood straps s
  | .sequenceTimeout => Sys2Proof.Machine.execSequenceTimeout s
  | .sequenceRetry => Sys2Proof.Machine.execSequenceRetry s
  | .downStep => Sys2Proof.Machine.execDownStep s
  | .brownOut => Sys2Proof.Machine.execBrownOut s
  | .vddAonApplied => Sys2Proof.Machine.execVddAonApplied s
  | .dormGo => Sys2Proof.Machine.execDormGo s
  | .wakeSource src => Sys2Proof.Machine.execWakeSource src s
  | .wakeTimer => Sys2Proof.Machine.execWakeTimer s
  | .wakeNRelease => Sys2Proof.Machine.execWakeNRelease s
  | .islandPowerDown isl => Sys2Proof.Machine.execIslandPowerDown isl s
  | .islandPowerUp isl => Sys2Proof.Machine.execIslandPowerUp isl s
  | .capSample temps est => Sys2Proof.Machine.execCapSample temps est s
  | .testProgMem rows => Sys2Proof.Machine.execTestProgMem rows s
  | .testLocalMem bad => Sys2Proof.Machine.execTestLocalMem bad s
  | .testCaldera bad => Sys2Proof.Machine.execTestCaldera bad s
  | .testEngineLogic misrs => Sys2Proof.Machine.execTestEngineLogic misrs s
  | .testFabricLogic misr => Sys2Proof.Machine.execTestFabricLogic misr s
  | .testAll rows lm cal misrs misr => Sys2Proof.Machine.execTestAll rows lm cal misrs misr s
  | .testComplete => Sys2Proof.Machine.execTestComplete s
  | .tapReset straps => Sys2Proof.Machine.execTapReset straps s
  | .tapExtest pins load straps => Sys2Proof.Machine.execTapExtest pins load straps s
  | .tapSample pins load straps => Sys2Proof.Machine.execTapSample pins load straps s
  | .tapIdcode straps => Sys2Proof.Machine.execTapIdcode straps s
  | .tapClamp straps => Sys2Proof.Machine.execTapClamp straps s
  | .tapHighz straps => Sys2Proof.Machine.execTapHighz straps s
  | .tapTestStart t straps => Sys2Proof.Machine.execTapTestStart t straps s
  | .tapTestStat straps => Sys2Proof.Machine.execTapTestStat straps s
  | .tapTestResult straps => Sys2Proof.Machine.execTapTestResult straps s
  | .tapDbgAccess what off v straps => Sys2Proof.Machine.execTapDbgAccess what off v straps s
  | .tapIntScan straps => Sys2Proof.Machine.execTapIntScan straps s
  | .tapBypass straps => Sys2Proof.Machine.execTapBypass straps s
  | .refclkReturn => Sys2Proof.Machine.execRefclkReturn s
  | .symbolLock => Sys2Proof.Machine.execSymbolLock s
  | .missingPreambles => Sys2Proof.Machine.execMissingPreambles s
  | .linkUp speed width rev pol => Sys2Proof.Machine.execLinkUp speed width rev pol s
  | .powerStateChange v => Sys2Proof.Machine.execPowerStateChange v s
  | .busMasterEnable f v => Sys2Proof.Machine.execBusMasterEnable f v s
  | .copyPieceCompletion m data fail => Sys2Proof.Machine.execCopyPieceCompletion m data fail s
  | .tagReuse f tag => Sys2Proof.Machine.execTagReuse f tag s

end Sys2Proof.Machine
end

