-- ==== Sys2Proof/Machine/Step.lean ====
section
/-! DEFINITION. One step: the command at the front of the queue, or one FAB cycle. -/

namespace Sys2Proof.Machine

/-- One FAB clock cycle with no command waiting (R11; DESIGN CHOICE, log entry 1). -/
def State.fabCycle (s : State) : State := { s with now := s.now + 1 }

/-- One step: take the command at the front of the queue and run it with the queue's rest; with an empty queue one FAB
cycle passes (log entry 1). -/
def step (s : State) : Host.Outcome State Fault Refusal :=
  match s.pending with
  | [] => .next s.fabCycle
  | c :: rest => exec c { s with pending := rest }

/-- The state with the command a word spells put at the front of its queue; unchanged where the word spells none. -/
def State.withFetchWord (s : State) (nbits w : Nat) : State :=
  match Sys2Proof.decodeTableWord nbits w with
  | none => s
  | some c => { s with pending := c :: s.pending }

end Sys2Proof.Machine
end

