-- ==== Sys2Proof/Safety.lean ====
section
/-! DEFINITION. What a sound state and a safe step are, in the terms of the claims: the canonical form of the memories, fuses
that are only ever programmed, the parts of the state that a command may change, an engine with nothing under way. -/

namespace Sys2Proof.Machine

/-- The bytes of Caldera stand in canonical form: addresses strictly rising, none equal to what an unlisted byte reads
as (R254, R676). -/
def calWf (bytes : List Host.Cell) (epochs tileEpochs cleared : SMap Nat) : Bool :=
  SMap.wf (calDefault { epochs := epochs, tileEpochs := tileEpochs, cleared := cleared }) bytes

/-- The memories of bytes (Caldera, the flash, Keeper's TCM) and the fuse words stand in canonical form. -/
def Memory.wf (s : State) : Bool :=
  calWf s.cal.bytes s.cal.epochs s.cal.tileEpochs s.cal.cleared && SMap.wf flashDefault s.boot.flash &&
  SMap.wf (fun _ => (0 : Byte)) s.boot.tcm && SMap.wf (fun _ => (0 : Word)) s.boot.fuses

/-- What every step keeps: canonical memories, and only the clusters 0 to 7 shed or due to be shed (R675, R677). -/
def State.inv (s : State) : Prop := Memory.wf s = true ∧ ∀ c ∈ s.pwr.shed ++ s.pwr.due, c < 8

/-- Every fuse bit that is programmed in `s` is programmed in `t` (R619). -/
def fusesKept (s t : State) : Prop := ∀ w, s.fuse w &&& t.fuse w = s.fuse w

/-- The registers of a bank: all of it but the program counter, the repeat count and the held word (R70). -/
def RegBank.file (b : RegBank) : RegBank := { b with pc := 0, rpt := 0, held := false }

/-- Engine `e`'s next instruction is the legal word `w` of opcode `op`, and nothing of an earlier instruction is under way:
no result in flight, room in the write queue, no far load, an empty far-store queue (R97, R121, R142, R165, R174). -/
def State.poised (s : State) (e op : Nat) (tail : Bool) (w : IWord) : Prop :=
  s.nextWord e op = some (tail, w) ∧ (s.engine e).inflight = [] ∧ (s.engine e).wq.length ≤ 12 ∧ (s.engine e).farLoads = [] ∧
  (s.engine e).fsq = []

/-- Descriptor `q` of context `c` is open, and its effect is complete with the status `code` (R370). -/
def State.ended (s : State) (c q code : Nat) : Prop := (s.findDesc c q).bind (·.result) = some code

/-! ### Frames: the parts of the state that a command may change -/

/-- The parts of the state: its fields, and apart from them the bytes of Caldera, of the flash and of TCM, and the fuses. -/
inductive Part where
  | regs | latches | rdata | eng | chainNow | chainId | chainFrz | chainTorn | chainIn | fab
  | tick | par | cal | res | ctx | mode | route | mov | port | pcie
  | clk | keep | pwr | ngx | boot | spim | spis | test | tap | gpio
  | calMem | flash | tcm | fuse
  deriving DecidableEq, Repr

/-- Outside the parts `ps`, `t` is as `s`. -/
def sameOutside (ps : List Part) (s t : State) : Prop :=
  (.regs ∉ ps → t.regs = s.regs) ∧
  (.latches ∉ ps → t.latches = s.latches) ∧
  (.rdata ∉ ps → t.rdata = s.rdata) ∧
  (.eng ∉ ps → t.eng = s.eng) ∧
  (.chainNow ∉ ps → t.chainNow = s.chainNow) ∧
  (.chainId ∉ ps → t.chainId = s.chainId) ∧
  (.chainFrz ∉ ps → t.chainFrz = s.chainFrz) ∧
  (.chainTorn ∉ ps → t.chainTorn = s.chainTorn) ∧
  (.chainIn ∉ ps → t.chainIn = s.chainIn) ∧
  (.fab ∉ ps → t.fab = s.fab) ∧
  (.tick ∉ ps → t.tick = s.tick) ∧
  (.par ∉ ps → t.par = s.par) ∧
  (.cal ∉ ps → t.cal = s.cal) ∧
  (.res ∉ ps → t.res = s.res) ∧
  (.ctx ∉ ps → t.ctx = s.ctx) ∧
  (.mode ∉ ps → t.mode = s.mode) ∧
  (.route ∉ ps → t.route = s.route) ∧
  (.mov ∉ ps → t.mov = s.mov) ∧
  (.port ∉ ps → t.port = s.port) ∧
  (.pcie ∉ ps → t.pcie = s.pcie) ∧
  (.clk ∉ ps → t.clk = s.clk) ∧
  (.keep ∉ ps → t.keep = s.keep) ∧
  (.pwr ∉ ps → t.pwr = s.pwr) ∧
  (.ngx ∉ ps → t.ngx = s.ngx) ∧
  (.boot ∉ ps → t.boot = s.boot) ∧
  (.spim ∉ ps → t.spim = s.spim) ∧
  (.spis ∉ ps → t.spis = s.spis) ∧
  (.test ∉ ps → t.test = s.test) ∧
  (.tap ∉ ps → t.tap = s.tap) ∧
  (.gpio ∉ ps → t.gpio = s.gpio) ∧
  (.calMem ∉ ps → ∀ a, t.cal.cell a = s.cal.cell a) ∧
  (.flash ∉ ps → t.boot.flash = s.boot.flash) ∧
  (.tcm ∉ ps → t.boot.tcm = s.boot.tcm) ∧
  (.fuse ∉ ps → t.boot.fuses = s.boot.fuses)

/-- Every part but the flash and the fuses: what a device reset may change. -/
def Part.noFlash : List Part :=
  [.regs, .latches, .rdata, .eng, .chainNow, .chainId, .chainFrz, .chainTorn, .chainIn, .fab, .tick, .par, .cal, .res, .ctx,
   .mode, .route, .mov, .port, .pcie, .clk, .keep, .pwr, .ngx, .boot, .spim, .spis, .test, .tap, .gpio, .calMem, .tcm]

/-- Every part. -/
def Part.all : List Part := .flash :: .fuse :: Part.noFlash

/-- The parts of the state that a command may change. -/
def footprint : Instr → List Part
  | .registerWrite .. | .regWr .. | .spisRegWr .. => Part.all
  | .readClear .. | .lowHalfRead .. => [.regs, .latches, .rdata, .mov, .port]
  | .crossingDelivery .. => [.chainNow, .fab]
  | .floorCredit .. | .grantDecision .. => [.fab]
  | .bankGrant .. => [.regs, .eng, .fab, .cal, .ctx, .pcie, .keep, .ngx, .calMem]
  | .outboundPortGrant .. => [.regs, .fab, .pcie]
  | .d0Tick ..
    => [.regs, .latches, .eng, .chainNow, .chainFrz, .chainTorn, .chainIn, .fab, .tick, .par, .cal, .ctx, .mode, .route, .mov, .port, .pcie, .clk, .keep, .pwr, .ngx, .boot, .gpio, .calMem]
  | .tickReceipt .. | .farStoreTaken .. => [.regs, .eng, .chainTorn, .fab, .par, .cal, .ctx, .pcie, .keep, .ngx]
  | .sourceEvent .. | .srcLost .. => [.regs, .tick, .clk]
  | .dmSourceEvent .. => [.regs, .tick]
  | .tickCtrlWrite .. | .csetW0Write .. | .cbindWrite .. | .linkRetrain .. | .l1Entry .. | .ferrMeasure ..
  | .refclkReturn .. => [.regs]
  | .sidxLoRead .. => [.latches, .rdata]
  | .nop .. | .rpt .. | .endProgram .. | .mac .. | .tap4 .. | .mova .. | .moval .. | .movst .. | .movf .. | .lda ..
  | .araw .. | .aacc .. | .qop .. | .qxf .. | .sel .. | .pcmp .. | .pset .. | .chw .. | .chr .. | .ldq .. | .ldg ..
  | .stq .. | .stg .. | .gop .. | .ldi .. | .mvs .. | .aadr .. | .flgc .. | .br .. | .dbnz .. | .fld .. | .fldw ..
  | .fst .. | .fstw .. => [.regs, .eng, .chainNow, .chainId, .chainTorn, .fab, .cal, .ctx, .pcie, .keep, .ngx]
  | .writeQueueRetire .. | .segmentEntry .. => [.regs, .eng, .cal]
  | .farReturnArrival .. | .dldW0Write .. | .swapPbank .. | .swapStab .. => [.regs, .eng]
  | .illegalWord .. | .budgetCut .. => [.regs, .eng, .chainTorn, .fab, .cal, .ctx, .pcie, .ngx]
  | .enginePortRead .. => [.regs, .chainTorn, .route]
  | .clusterReset .. => [.regs, .eng, .chainNow, .fab, .par, .ctx, .keep]
  | .resAssign .. | .resRelease .. => [.regs, .res]
  | .coefWrite .. | .coefDelta .. => [.regs, .eng, .fab, .par, .cal, .ctx, .pcie, .ngx, .calMem]
  | .shadowWriteComplete .. | .commitArm .. | .cascadeDecision .. | .gainSet .. | .routeClear .. => [.regs, .par, .ctx]
  | .resyncStart .. => [.par, .mov]
  | .resyncComplete .. => [.regs, .eng, .fab, .par, .cal, .ctx, .mov, .pcie, .ngx, .calMem]
  | .commit .. | .nopDesc .. | .fence .. => [.ctx]
  | .commitDiscard .. => [.regs, .eng, .par, .ctx, .route]
  | .cascadeCommit .. | .applied .. | .notArmed .. => [.regs, .par, .ctx, .ngx]
  | .cancel .. => [.regs, .eng, .par, .ctx, .mov, .ngx]
  | .tileAssign .. | .tileRelease .. | .lmSinterRegionStart .. => [.regs, .cal]
  | .translationWalk .. | .chunkCompletion .. | .moverTake .. | .hrdCpl ..
    => [.regs, .fab, .cal, .ctx, .mov, .pcie, .keep, .ngx, .calMem]
  | .windowSetRoot .. | .windowSetDisable .. | .windowSetInvalidate .. => [.cal, .ctx]
  | .prefetchChunkIssue .. | .writebackChunkIssue .. => [.cal, .mov]
  | .chunkDeadline .. | .completionTimeout .. | .relayReadTimeout .. => [.regs, .fab, .cal, .ctx, .mov, .pcie, .keep, .ngx]
  | .lineMap .. => [.regs, .cal, .ctx]
  | .lineActivation .. => [.regs, .fab, .ctx, .pcie]
  | .unmap .. => [.regs, .eng, .cal, .ctx]
  | .unmapComplete .. => [.regs, .fab, .cal, .ctx, .mov, .pcie]
  | .sinterRegionStart .. | .rowRepair .. => [.regs, .fab, .cal, .ctx, .pcie, .ngx]
  | .sinterRestore .. => [.regs, .fab, .cal, .calMem]
  | .protectedTileRelocation .. => [.regs, .fab, .cal, .ctx, .pcie, .keep, .ngx, .calMem]
  | .lmRegionRepair .. => [.regs, .eng, .fab, .cal, .ctx, .pcie, .ngx]
  | .routeSet .. => [.regs, .par, .ctx, .route]
  | .brgWrite .. | .asrcCfg0Write .. | .asrcLock .. | .asrcUnlock .. => [.regs, .route]
  | .ctxEnable .. => [.regs, .fab, .ctx, .ngx]
  | .ctxDisable .. => [.regs, .eng, .fab, .par, .ctx, .mov, .pcie, .ngx]
  | .ctxReset .. => [.regs, .eng, .fab, .par, .cal, .ctx, .route, .mov, .pcie, .ngx]
  | .commandProducer .. | .completionConsumer .. | .descriptorFinish .. | .completionRecord .. | .ngxData ..
    => [.regs, .fab, .ctx, .pcie, .ngx]
  | .streamRingProducer .. => [.regs, .mov, .pcie]
  | .descriptorAccept .. => [.regs, .fab, .ctx, .pcie, .ngx, .boot]
  | .fetchRetry .. | .completionInterrupt .. => [.fab, .ctx, .pcie, .ngx]
  | .progLoad .. => [.regs, .eng, .ctx, .boot]
  | .segMap .. => [.regs, .eng, .ctx]
  | .progSwap .. => [.regs, .eng, .par, .ctx]
  | .streamOpen .. | .streamClose .. | .streamEntryComplete .. => [.regs, .fab, .ctx, .mov, .pcie, .ngx]
  | .dmaCopy .. | .crcCheck .. => [.ctx, .mov]
  | .queryContext .. | .queryGroups .. | .querySegments .. | .queryLines .. => [.regs, .fab, .cal, .ctx, .mov, .ngx]
  | .powerSet .. => [.regs, .fab, .ctx, .mov, .port, .pcie, .keep, .pwr, .ngx]
  | .testRun .. => [.regs, .eng, .fab, .cal, .ctx, .mode, .port, .pcie, .keep, .ngx, .test, .calMem]
  | .cascSend .. => [.ctx, .ngx]
  | .lanternWrite .. => [.fab, .keep]
  | .bucketRefill .. => [.mov]
  | .burstCompletion .. | .copyPieceCompletion .. => [.regs, .fab, .cal, .ctx, .mov, .pcie, .ngx, .calMem]
  | .dmaReset .. => [.fab, .par, .cal, .mov, .pcie, .keep]
  | .flr .. | .pfFlr .. | .vfEnableClear .. | .hotReset .. | .dlDown ..
    => [.regs, .eng, .fab, .par, .cal, .ctx, .mov, .pcie, .keep, .ngx]
  | .perstNRelease .. | .perstNAssert .. | .rampEnd .. | .bootWatchdog .. | .railGood .. | .brownOut ..
  | .vddAonApplied .. | .dormGo .. | .tapReset .. | .tapExtest .. | .tapSample .. | .tapIdcode .. | .tapClamp ..
  | .tapHighz .. | .tapTestStart .. | .tapTestStat .. | .tapTestResult .. | .tapDbgAccess .. | .tapIntScan ..
  | .tapBypass .. => Part.noFlash
  | .lateCompletion .. | .powerStateChange .. | .busMasterEnable .. | .tagReuse .. => [.pcie]
  | .msixUnmask .. | .pme .. => [.fab, .pcie]
  | .pcieLtrWrite .. => [.regs, .fab]
  | .rxFrameComplete .. => [.regs, .fab, .cal, .ctx, .route, .mov, .port, .pcie, .ngx, .calMem]
  | .txFrameStart .. | .framingError .. | .missingBitClock .. | .tdmCfg0Write .. | .pdmMicWrite .. | .cs5Write ..
  | .dacStart .. | .dacStop .. | .dacMute .. | .dacUnmute .. | .fadeEnd .. | .strbLost .. | .autoUnmute .. | .dacShort ..
  | .ldsStrobe .. => [.regs, .port]
  | .settleEnd .. => [.port]
  | .spdifFrame .. | .missingPreambles .. => [.regs, .route, .port]
  | .csA0Read .. => [.regs, .rdata, .port]
  | .refclkLost .. | .pllEnable .. | .pllDisable .. | .relock .. | .acquireEnd .. | .ckoCommit .. | .holdMeasWindow ..
    => [.regs, .clk]
  | .pllSlip .. => [.regs, .fab, .clk, .keep]
  | .ckoPhaseAdd .. => [.clk]
  | .k0Run .. => [.regs, .tick, .mode, .port, .clk, .ngx]
  | .frameOriginate .. => [.regs, .ctx, .ngx, .gpio]
  | .frameReceive .. => [.regs, .par, .ctx, .keep, .ngx, .boot, .gpio]
  | .frameLoss .. => [.regs, .keep, .ngx]
  | .beaconEvent .. => [.regs, .tick, .par, .clk, .ngx]
  | .ngxVoid .. | .ngxAck .. | .bootReq .. | .messageRepeat .. => [.ngx]
  | .regRd .. => [.regs, .latches, .mov, .port, .ngx]
  | .regRsp .. | .rrRead .. | .rrWrite .. => [.regs, .ngx]
  | .arm .. | .armed .. | .ngxRefused .. => [.regs, .par, .ngx]
  | .abortAck .. => [.par, .ngx]
  | .hrd .. | .hirq .. => [.fab, .pcie, .ngx]
  | .hwr .. => [.fab, .ngx]
  | .bootData .. => [.regs, .ngx, .boot]
  | .heartbeat .. | .symbolLock .. => [.regs, .keep]
  | .heartbeatMiss .. | .keeperFault .. | .tcmUe .. | .keeperPoison .. | .restart .. | .firstHeartbeatTimeout ..
    => [.regs, .eng, .chainNow, .fab, .tick, .par, .ctx, .mode, .keep, .pwr, .boot, .spim, .spis, .test]
  | .copyCheck .. => [.regs, .fab, .cal, .ctx, .pcie, .keep, .ngx, .boot, .tcm]
  | .flashReload .. => [.regs, .fab, .tick, .cal, .ctx, .mode, .pcie, .keep, .ngx, .boot, .calMem, .tcm]
  | .rebuildEnd .. => [.regs, .fab, .ctx, .mode, .pcie, .keep, .ngx]
  | .tmrVote .. => [.regs, .fab, .pcie, .keep]
  | .bootRomStart .. => [.regs, .fab, .tick, .mode, .clk, .keep, .boot]
  | .bootSourceTry .. => [.regs, .fab, .tick, .mode, .keep, .ngx, .boot]
  | .stage1Start .. => [.regs, .boot, .tcm]
  | .keeperImageStart .. => [.regs, .fab, .cal, .ctx, .pcie, .ngx, .boot, .calMem, .tcm]
  | .keeperInitDone .. => [.regs, .fab, .cal, .mode, .keep, .boot, .flash]
  | .awaitImageTimeout .. => [.regs, .fab, .mode, .keep, .boot]
  | .cascadeUpTimeout .. | .dmExtend .. | .newChal .. | .dbgGo .. => [.regs, .boot]
  | .upd .. => [.regs, .boot, .flash]
  | .arbRecord .. | .arbFuse .. => [.regs, .boot, .flash, .fuse]
  | .mbxBoot .. | .mbxWrite .. | .failClr .. | .challengeExpiry .. => [.boot]
  | .otpPgm .. => [.regs, .boot, .fuse]
  | .dbgClose .. => [.regs, .fab, .mode, .keep]
  | .fixedTimeResult .. => [.regs, .fab, .mode, .keep, .boot, .spim, .flash]
  | .minPathEnable .. => [.regs, .tick, .mode, .route, .mov, .port, .clk, .boot]
  | .flashRead .. | .flashProgram .. | .erase4k .. | .erase64k .. | .flashStatus .. | .combineFlush .. | .windowRead ..
  | .windowWrite .. | .spimRelease .. => [.regs, .boot, .spim, .flash]
  | .flashReady .. | .mbxOpen .. | .mbxWr .. => [.regs, .boot, .spim, .spis, .flash]
  | .flashTimeout .. => [.regs, .boot, .spim, .spis]
  | .badFrame .. | .repeat .. | .ping .. | .mbxStat .. | .spisTestStat .. | .spisResultRead .. | .replyRead ..
    => [.regs, .spis]
  | .spisRegRd .. => [.regs, .latches, .mov, .port, .spis]
  | .mbxGo .. => [.regs, .boot, .spis]
  | .spisTestRun .. => [.regs, .eng, .fab, .cal, .ctx, .mode, .port, .pcie, .keep, .ngx, .spis, .test, .calMem]
  | .modeCmdRun .. | .modeCmdIdle .. => [.regs, .tick, .mode, .ngx]
  | .sequenceTimeout .. => [.regs, .pwr]
  | .sequenceRetry .. | .wakeNRelease .. => [.pwr]
  | .downStep .. | .wakeSource .. | .wakeTimer .. => [.regs, .pcie, .pwr]
  | .islandPowerDown .. => [.regs, .eng, .chainNow, .fab, .par, .cal, .ctx, .mov, .port, .pcie, .pwr, .ngx, .spis, .calMem]
  | .islandPowerUp .. => [.regs, .fab, .ctx, .mov, .pcie, .keep, .pwr, .ngx]
  | .capSample .. => [.regs, .fab, .keep, .pwr]
  | .testProgMem .. => [.eng, .cal, .test]
  | .testLocalMem .. => [.regs, .eng, .fab, .cal, .ctx, .pcie, .ngx, .test]
  | .testCaldera .. => [.regs, .fab, .cal, .ctx, .pcie, .ngx, .test, .calMem]
  | .testEngineLogic .. => [.test]
  | .testFabricLogic .. => [.regs, .route, .test]
  | .testAll .. => [.regs, .eng, .fab, .cal, .ctx, .route, .pcie, .ngx, .test, .calMem]
  | .testComplete .. => [.regs, .eng, .chainNow, .fab, .par, .cal, .ctx, .mode, .mov, .keep, .ngx, .test]
  | .linkUp .. => [.regs, .pcie]

end Sys2Proof.Machine
end

