-- ==== Sys2Proof/Certificates/Slice0/Obligations.lean ====
section
/-! DEFINITION. The statements about the model, for the provers. -/

open Sys2Proof Sys2Proof.Machine

/-- The state after reset: canonical memories, an empty queue, idle engines, no descriptor open, IDCODE in the TAP (R692), and
the reset values of registers of several blocks. Where the spec leaves a point open it follows the model's reading, log entries
5, 6 and 77. -/
def Obligations.ResetState : Prop :=
  let s := State.reset
  s.inv ∧ s.pending = [] ∧ s.boot.phase = 0 ∧ s.tap.ir = 2 ∧ s.tap.held = false ∧
  (∀ e : Fin 32, (s.engine e).phase = .idle) ∧ (∀ c : Fin 512, (s.context c).opens = []) ∧
  s.reg 0x000000 = 0x5120B000 ∧ s.reg rPwrCapCtrl = 0x005F6401 ∧ s.reg rPwrPcap = 0x000002EE ∧ s.rfld rSpimCfg 0 10 = 0x0C4 ∧
  s.reg rSpisCtrl = 3 ∧ s.reg rSpisRdEn = 0x0000B ∧ s.reg rSpisWrEn = 0

/-- A step runs the command at the front of the queue with the queue's rest. With an empty queue one FAB cycle passes, which is
the model's choice (log entry 1). -/
def Obligations.StepRunsFront : Prop :=
  (∀ (c : Instr) (rest : List Instr) (s : State), step { s with pending := c :: rest } = exec c { s with pending := rest }) ∧
  (∀ s : State, s.pending = [] → step s = .next { s with now := s.now + 1 })

/-- Every command answers a next state in every state: none ends in a fault or a refusal; and none touches the queue, turns the
time back, or takes a free value twice. Where the spec leaves a point open it follows the model's reading, log entries 4 and 10.
-/
def Obligations.EveryCommandAnswers : Prop :=
  ∀ (c : Instr) (s : State), ∃ t, exec c s = .next t ∧ t.pending = s.pending ∧ s.now ≤ t.now ∧ s.freeCtr ≤ t.freeCtr

/-- The frame of every command: outside the parts of the state that `footprint` gives it, the next state is as before. -/
def Obligations.CommandsKeepTheRest : Prop :=
  ∀ (c : Instr) (s t : State), exec c s = .next t → sameOutside (footprint c) s t

/-- Every step keeps the canonical form of the memories, and only clusters 0 to 7 are ever shed or due to be shed. -/
def Obligations.InvariantIsKept : Prop := ∀ s t : State, s.inv → step s = .next t → t.inv

/-- No step clears a programmed bit of a fuse word (R619). -/
def Obligations.FusesAreNeverCleared : Prop :=
  ∀ s t : State, Memory.wf s = true → step s = .next t → fusesKept s t

/-- BAR0 accesses (R9, R10, R13, R22, R425). A write changes the RW bits of a register and clears the W1C bits written 1, and no
other bit (CLK.HOLD_CTRL and CLK.PLLA_STAT stand for the rest); a read returns the register and clears its RC bits; a read of
the low half of a pair latches the high half (TOP.RLF_TIME). An access to a powered-down island is discarded, reads 0 and is
recorded in TOP.DARK_ACCESS; an unaligned access changes nothing and reads 0. Where the spec leaves a point open it follows the
model's reading, log entries 8 and 13. -/
def Obligations.RegisterAccess : Prop :=
  ∀ (s : State),
    (s.tap.held = false → s.rbit rTopPcieStat 16 = false →
      (∀ v : BitVec 32, exec (.registerWrite (Fin.ofNat _ rClkHoldCtrl) v) s =
        .next (s.setReg rClkHoldCtrl ((s.reg rClkHoldCtrl &&& 0xFFFF00FC) ||| (v &&& 0x0000FF03)))) ∧
      (∀ v : BitVec 32, exec (.registerWrite (Fin.ofNat _ (rClkPllStat 0)) v) s =
        .next (s.setReg (rClkPllStat 0) (s.reg (rClkPllStat 0) &&& ~~~(v &&& 0x100)))) ∧
      (∃ t, exec (.readClear (Fin.ofNat _ (rClkPllStat 0))) s = .next t ∧ t.rdata = s.reg (rClkPllStat 0) ∧
        t.reg (rClkPllStat 0) = s.reg (rClkPllStat 0) &&& 0xFF00FFFF ∧ ∀ o, o ≠ rClkPllStat 0 → t.reg o = s.reg o) ∧
      (∃ t, exec (.lowHalfRead (Fin.ofNat _ rTopRlfTimeLo)) s = .next t ∧ t.rdata = s.reg rTopRlfTimeLo ∧ t.regs = s.regs ∧
        SMap.get (fun _ => 0) t.latches rTopRlfTimeHi = s.reg rTopRlfTimeHi)) ∧
    (∀ (off : Fin 4194304) (b : Nat), s.dark off = some b →
      (∀ v : BitVec 32, exec (.registerWrite off v) s = .next (s.setBit rTopDark b true)) ∧
      exec (.readClear off) s = .next { s.setBit rTopDark b true with rdata := 0 }) ∧
    (∀ off : Fin 4194304, s.dark off = none → off.val % 4 ≠ 0 →
      (∀ v : BitVec 32, exec (.registerWrite off v) s = .next s) ∧ exec (.readClear off) s = .next { s with rdata := 0 })

/-- Bank arbitration (R28 to R34) and crossings (R17 to R20). FLOOR_CREDIT gives P1 to P5 a credit at every bank. GRANT_DECISION
decides for a bank that is idle or in its last 8 cycles. BANK_GRANT starts the decided access: it leaves the queue and occupies
the bank, and a floor grant spends its class's credit. CROSSING_DELIVERY takes the oldest word, unless a clock is stopped.
OUTBOUND_PORT_GRANT sends the chosen request. Where the spec leaves a point open it follows the model's reading, log entries 12
and 74. -/
def Obligations.FabricGrants : Prop :=
  ∀ (s : State),
    (∃ t, exec .floorCredit s = .next t ∧ ∀ b < 64, t.bank b = { s.bank b with credits := (s.bank b).credits ||| 0b111110 }) ∧
    (∀ b : Fin 64, (s.bank b).decided = none → (s.bank b).busyUntil ≤ s.now + 8 → ∃ t, exec (.grantDecision b) s = .next t ∧
      (t.bank b).decided = (s.bank b).choose s.now ∧ (∀ k, k ≠ b.val → t.bank k = s.bank k) ∧ t.regs = s.regs) ∧
    (∀ (b : Fin 64) (r : BankReq) (floor : Bool), (s.bank b).decided = some (r, floor) → (s.bank b).busyUntil ≤ s.now →
      ∃ t, exec (.bankGrant b) s = .next t ∧ (t.bank b).decided = none ∧ (t.bank b).busyUntil = s.now + r.cycles ∧
        (t.bank b).reqs = (s.bank b).reqs.erase r ∧ (t.bank b).floor = floor ∧
        (t.bank b).credits = (if floor then (s.bank b).credits &&& ~~~(1#6 <<< r.cls) else (s.bank b).credits) ∧
        ∀ k, k ≠ b.val → t.bank k = s.bank k) ∧
    (∀ (src dst : Fin 26) (v : BitVec 64) (rest : List XWord), s.xing (xKey src dst) = .raw v :: rest →
      s.clockStopped src = false → s.clockStopped dst = false → ∃ t, exec (.crossingDelivery src dst) s = .next t ∧
        t.xing (xKey src dst) = rest ∧ t.fab.taken = (xKey src dst, v) :: s.fab.taken) ∧
    (∀ (src dst : Fin 26) (r : BankReq) (rest : List XWord), s.xing (xKey src dst) = .far r :: rest →
      s.clockStopped src = false → s.clockStopped dst = false → ∃ t, exec (.crossingDelivery src dst) s = .next t ∧
        t.xing (xKey src dst) = rest ∧
        (t.bank (calBank r.addr)).reqs = (s.bank (calBank r.addr)).reqs ++ [{ r with arrival := s.now }]) ∧
    (∀ src dst : Fin 26, (s.clockStopped src || s.clockStopped dst) = true → exec (.crossingDelivery src dst) s = .next s) ∧
    (∀ r : OutReq, outChoose s.fab.outRun (s.fab.outq.filter s.mayGo) = some r → ∃ t, exec .outboundPortGrant s = .next t ∧
      t.fab.outq = s.fab.outq.erase r ∧ t.fab.sent = s.fab.sent ++ [r] ∧
      t.fab.outRun = (if r.cls ≤ 2 then s.fab.outRun + 1 else 0) ∧ t.pcie.lastBusy = s.now)

/-- The D0 tick (R43 to R53, R664, R665) and Keeper's supervision (R519). A tick of a running domain raises the sample index by
1 and comes one period after the last; the epoch tick takes the start index; D0 stops with index 0. When the source of D0 is
lost, K0 records it as the previous source and moves D0 to the holdover synthesiser. Where the spec leaves a point open it
follows the model's reading, log entries 14, 17 and 18. -/
def Obligations.Ticks : Prop :=
  ∀ (s : State),
    (s.mode.runPend = false → s.mode.baseRun = true → s.tick.idleAtEnd = false → s.minPath = false →
      ∃ t, exec .d0Tick s = .next t ∧ t.tick.sidx = s.tick.sidx + 1 ∧
        t.tick.gen.lastTick = s.tick.gen.lastTick + t.tick.gen.period) ∧
    (s.mode.runPend = true → s.rfld (rClkTickCtrl 0) 0 4 ≠ 9 → ∃ t, exec .d0Tick s = .next t ∧
      t.tick.sidx = s.reg64 rClkSidxStartLo ∧ t.tick.gen.lastTick = s.now) ∧
    (s.mode.runPend = false → s.mode.baseRun = true → s.tick.idleAtEnd = true → ∃ t, exec .d0Tick s = .next t ∧
      t.tick.sidx = 0 ∧ t.mode.baseRun = false) ∧
    (s.mode.runPend = false → s.mode.baseRun = false → exec .d0Tick s = .next s) ∧
    (s.keeperRuns = true → s.mode.baseRun = true → s.mode.runPend = false → s.curSrc 0 ≠ 0xA → s.clk.lostNew = true →
      s.rbit rClkHoldStat 0 = false → s.ngx.rejoin = false → ∃ t, exec .k0Run s = .next t ∧
        t.rfld (rClkTickCtrl 0) 0 4 = 0xA ∧ t.rfld rClkHoldStat 4 4 = s.curSrc 0 ∧ t.clk.lostNew = false) ∧
    (s.keeperRuns = false → exec .k0Run s = .next s)

/-- Tick sources and tick control (R44 to R48, R62 to R68). A read of SIDX_LO in a running domain latches SIDX_HI. A write to
TICK_CTRLn in IDLE with legal contents is taken; a change that needs IDLE is rejected in every other mode (bit 10). A lost
source puts D0 into flywheel operation. A first event after a change of source is used: it ends flywheel operation and moves the
estimate F, which stays within 5 % of nominal. An external event of D1 or D2 more than half a tick off its tick ends LOCKED.
Where the spec leaves a point open it follows the model's reading, log entries 15, 16 and 17. -/
def Obligations.TickSources : Prop :=
  ∀ (s : State),
    (s.d0Running = true → s.mode.started = true → s.mode.runPend = false → ∃ t, exec .sidxLoRead s = .next t ∧
      t.rdata = BitVec.ofNat 32 s.tick.sidx ∧
      SMap.get (fun _ => 0) t.latches rClkSidxHi = BitVec.ofNat 32 (s.tick.sidx / 2 ^ 32) ∧ t.regs = s.regs) ∧
    (∀ v : BitVec 32, s.modeCode = 5 → fld v 4 3 ≠ 3 → fld v 4 3 ≠ 7 → s.srcOk 0 (fld v 0 4) (fld v 4 3) = true →
      exec (.tickCtrlWrite 0 v) s = .next (s.setReg (rClkTickCtrl 0) ((s.reg (rClkTickCtrl 0) &&& 0x80000000) ||| (v &&& 0x7F)))) ∧
    (∀ v : BitVec 32, s.modeCode ≠ 5 → fld v 4 3 ≠ s.rfld (rClkTickCtrl 0) 4 3 →
      exec (.tickCtrlWrite 0 v) s = .next (s.setBit (rClkTickStat 0) 10 true)) ∧
    (∀ (m : Fin 3) (v : BitVec 32), m ≠ 0 → s.modeCode = 5 → fld v 8 3 ≤ 5 → fld v 12 4 < divOf (fld v 8 3) →
      s.srcOk m (fld v 0 4) 0 = true → ∃ t, exec (.tickCtrlWrite m v) s = .next t ∧ t.reg (rClkTickCtrl m) = v &&& 0x8000F70F ∧
      (s.curSrc m = 0xB → t.rfld (rClkTickStat m) 16 4 = fld v 12 4)) ∧
    (s.d0Running = true → s.mode.runPend = false → s.rbit (rClkTickStat 0) 5 = false →
      3 * 1228800000 ≤ 2 * (s.now - max s.tick.gen.lastUsed s.tick.gen.applied) * s.srcHz (s.curSrc 0) →
      ∃ t, exec .srcLost s = .next t ∧ t.rbit (rClkTickStat 0) 5 = true ∧ t.rbit (rClkTickStat 0) 8 = true ∧
        t.rbit (rClkTickStat 0) 4 = false ∧ t.tick.gen.run16 = 0) ∧
    (∀ (x : Fin 2) (r : BitVec 32), s.rfld (rClkPllStat x) 0 2 ≠ 0 → s.d0Running = true → s.mode.runPend = false →
      s.curSrc 0 = x.val → s.tick.gen.firstEv = true → ∃ t, exec (.sourceEvent (x.castLE (by decide)) r) s = .next t ∧
        t.rbit (rClkTickStat 0) 5 = false ∧ t.tick.gen.firstEv = false ∧ t.tick.gen.lastUsed = s.now ∧
        t.tick.gen.err = s.phaseErr x ∧ 1228800000 * 256 / s.d0Rate * 19 / 20 ≤ t.tick.gen.f ∧
        t.tick.gen.f ≤ 1228800000 * 256 / s.d0Rate * 21 / 20) ∧
    (∀ (m : Fin 2) (k : Nat), s.domRuns (m + 1) = true → s.curSrc (m + 1) ≠ 0xB → (s.dom (m + 1)).last = some k →
      let P := s.tick.gen.period
      let since := (s.tick.sidx - k) * P + (s.now - s.tick.gen.lastTick)
      let full := s.domDiv (m + 1) * P
      let off : Int := if 2 * since ≤ full then since else (since : Int) - full
      P < 2 * off.natAbs → ∃ t, exec (.dmSourceEvent m) s = .next t ∧ t.rbit (rClkTickStat (m + 1)) 9 = true ∧
        t.rbit (rClkTickStat (m + 1)) 4 = false ∧ (t.dom (m + 1)).run16 = 0 ∧
        (t.dom (m + 1)).move = if 0 < off then 1 else -1)

/-- TICK_RECEIPT (R53, R57, R176, R178, R201): an idle engine takes the tick's index, DFL and tick counters and enters its first
enabled segment; an instruction held for its far stores finishes first and the tick waits; a tick program still running is an
overrun. CLUSTER_RESET (R20, R72, R98): the four engines keep their memories only, and the cluster's registers are at reset.
DLD_W0_WRITE (R105): a write to W0 makes the copy wait for the next tick, and no active descriptor changes. SWAP_PBANK and
SWAP_STAB (R209): a request waits and its bit reads 1. Where the spec leaves a point open it follows the model's reading, log
entries 32 and 75. -/
def Obligations.TicksAtEngines : Prop :=
  (∀ (e : Fin 32) (s : State) (k : TickInfo),
    let x := s.engine e
    x.offered = some k →
      (x.heldStore = none → x.swapPb = [] → x.swapSt = [] → x.phase = .idle → ∃ t, exec (.tickReceipt e) s = .next t ∧
        (t.engine e).offered = none ∧ (t.engine e).received = true ∧ (t.engine e).six = BitVec.ofNat 64 k.six ∧
        (t.engine e).dfl = k.dfl ∧ (t.engine e).tc1 = BitVec.ofNat 64 k.tc1 ∧ (t.engine e).tc2 = BitVec.ofNat 64 k.tc2 ∧
        (t.engine e).phase = match x.nextEnabled 0 with
          | some i => .enter i
          | none => if x.segEn true 32 then .tail else .idle) ∧
      (x.heldStore ≠ none → ∃ t, exec (.tickReceipt e) s = .next t ∧ (t.engine e).pendTick = some k ∧
        t.rbit (rEngStopWait e) 31 = true ∧ (t.engine e).heldStore = x.heldStore ∧ (t.engine e).phase = x.phase) ∧
      (∀ i, x.heldStore = none → x.phase = .run i → i < 32 → ∃ t, exec (.tickReceipt e) s = .next t ∧
        t.rbit (rEngTickOvr e) 31 = true ∧ (t.engine e).six = BitVec.ofNat 64 k.six ∧ (t.engine e).tickCyc ≤ 7)) ∧
  (∀ (c : Fin 8) (s : State), ∃ t, exec (.clusterReset c) s = .next t ∧
    (∀ i, i < 4 → t.engine (4 * c + i) = (s.engine (4 * c + i)).afterReset) ∧
    (∀ o, 0x080000 + 0x4000 * c.val ≤ o → o < 0x084000 + 0x4000 * c.val → t.reg o = regReset o)) ∧
  (∀ (e : Fin 32) (n : Fin 64) (v : Word) (s : State), s.dark (rEngDldW0 e n) = none →
    ∃ t, exec (.dldW0Write e n v) s = .next t ∧ t.regs = s.regs ∧
      SMap.get (fun _ => (0, 0, 0)) (t.engine e).dldWait n =
        (v &&& 0x8FFFFFFF, SMap.get (fun _ => (0, 0)) (s.engine e).dldOpen n)) ∧
  (∀ (e : Fin 32) (s : State), s.dark (rEngProgCtrl e) = none →
    (∃ t, exec (.swapPbank e) s = .next t ∧ (t.engine e).swapPb = (s.engine e).swapPb ++ [.bar] ∧
      (t.engine e).swapSt = (s.engine e).swapSt ∧ t.rbit (rEngProgCtrl e) 4 = true) ∧
    (∃ t, exec (.swapStab e) s = .next t ∧ (t.engine e).swapSt = (s.engine e).swapSt ++ [.bar] ∧
      (t.engine e).swapPb = (s.engine e).swapPb ∧ t.rbit (rEngProgCtrl e) 5 = true))

/-- NOP, RPT, END, FLGC, BR and DBNZ (R151 to R158): each completes where its engine is poised, with the program counter and the
registers that the rules give. `after` is the next address of an instruction that does not jump (R111, R153). Where the spec
leaves a point open it follows the model's reading, log entry 32. -/
def Obligations.EngineControl : Prop :=
  ∀ (e : Fin 32) (s : State) (tail : Bool) (w : IWord),
    let b := (s.engine e).bank tail
    let after := if b.rpt = 0 then b.pc + 1 else b.pc
    let target := fld w 0 14
    let g := b.rg (fld w 49 3)
    (s.poised e 0x00 tail w → ∃ t, exec (.nop e) s = .next t ∧
      ((t.engine e).bank tail).file = b.file ∧ ((t.engine e).bank tail).pc = after) ∧
    (s.poised e 0x01 tail w → ∃ t, exec (.rpt e) s = .next t ∧
      ((t.engine e).bank tail).file = b.file ∧ ((t.engine e).bank tail).pc = b.pc + 1 ∧
      ((t.engine e).bank tail).rpt = fld w 0 12) ∧
    (s.poised e 0x02 true w → ∃ t, exec (.endProgram e) s = .next t ∧ (t.engine e).phase = .idle) ∧
    (s.poised e 0x34 tail w → ∃ t, exec (.flgc e) s = .next t ∧
      ((t.engine e).bank tail).file = { b.file with flg := b.flg &&& ~~~(BitVec.ofNat 5 (fld w 40 5)) } ∧
      ((t.engine e).bank tail).pc = after) ∧
    (s.poised e 0x38 tail w → ∃ t, exec (.br e) s = .next t ∧ ((t.engine e).bank tail).file = b.file ∧
      (fld w 52 3 = 0 → ((t.engine e).bank tail).pc = target) ∧
      (fld w 52 3 = 1 → ((t.engine e).bank tail).pc = if g = 0 then target else after) ∧
      (fld w 52 3 = 2 → ((t.engine e).bank tail).pc = if g = 0 then after else target) ∧
      (fld w 52 3 = 3 → ((t.engine e).bank tail).pc = if g.toInt < 0 then target else after) ∧
      (fld w 52 3 = 4 → ((t.engine e).bank tail).pc = if g.toInt < 0 then after else target) ∧
      (fld w 52 3 = 5 → ((t.engine e).bank tail).pc = if b.flg.getLsbD (fld w 46 3) then target else after) ∧
      (fld w 52 3 = 6 → ((t.engine e).bank tail).pc = if b.flg.getLsbD (fld w 46 3) then after else target)) ∧
    (s.poised e 0x39 tail w → ∃ t, exec (.dbnz e) s = .next t ∧
      ((t.engine e).bank tail).file = (b.setG (fld w 49 3) (g - 1)).file ∧
      ((t.engine e).bank tail).pc = if g - 1 = 0 then after else target)

/-- GOP, LDI, MVS, AADR, PCMP, PSET, SEL and QXF (R133 to R136, R147 to R150): the result is in its register when the
instruction has completed (latency 1), under the guard, and every other register of the bank is as before; so is the other
program's bank. Operations are named by their codes: `gopFn`, `cndHolds`, `srRead`, `srWrite`, `postMod` are the tables of these
rules. -/
def Obligations.EngineResultsNextCycle : Prop :=
  ∀ (e : Fin 32) (s : State) (tail : Bool) (w : IWord),
    let x := s.engine e
    let b := x.bank tail
    let m := b.guard w
    let done := fun (t : State) (r : RegBank) =>
      ((t.engine e).bank tail).file = r.file ∧ (t.engine e).bank (!tail) = x.bank (!tail) ∧ (t.engine e).inflight = []
    (s.poised e 0x30 tail w → ∃ t, exec (.gop e) s = .next t ∧ done t (b.setG (fld w 52 3) (gopFn (fld w 42 4) (b.rg (fld w 49 3))
      (if bit w 41 then BitVec.ofInt 32 (sextNat (fld w 0 16) 16) else b.rg (fld w 46 3))))) ∧
    (s.poised e 0x31 tail w → ∃ t, exec (.ldi e) s = .next t ∧
      (fld w 52 3 = 0 → done t (b.setG (fld w 49 3) (w.extractLsb' 0 32))) ∧
      (fld w 52 3 = 1 → done t (b.setA (fld w 49 3) (w.extractLsb' 0 24))) ∧
      (fld w 52 3 = 2 → done t (b.setM (fld w 49 3) (w.extractLsb' 0 24))) ∧
      (fld w 52 3 = 3 → done t (b.setL (fld w 49 3) (w.extractLsb' 0 24))) ∧
      (fld w 52 3 = 4 → done t (b.setB (fld w 49 3) (w.extractLsb' 0 24)))) ∧
    (s.poised e 0x32 tail w → ∃ t, exec (.mvs e) s = .next t ∧
      done t (if bit w 54 then b.apply (srWrite (fld w 43 8) (b.rg (fld w 51 3)))
        else b.setG (fld w 51 3) (srRead x b (fld w 43 8)))) ∧
    (s.poised e 0x33 tail w → ∃ t, exec (.aadr e) s = .next t ∧ done t (b.setA (fld w 52 3)
      (postMod (b.ra (fld w 52 3)) (b.rb (fld w 52 3)) (b.rl (fld w 52 3)) (b.offset (fld w 44 8))))) ∧
    (s.poised e 0x24 tail w → ∃ t, exec (.pcmp e) s = .next t ∧ done t (b.setPs (fld w 53 2) (lanesMask fun i =>
      cndHolds (fld w 42 3) ((b.rq (fld w 49 3)).get i) ((if bit w 45 then Quad.all 0 else b.rq (fld w 46 3)).get i)))) ∧
    (s.poised e 0x25 tail w → ∃ t, exec (.pset e) s = .next t ∧
      (fld w 45 4 = 0 → done t (b.setPs (fld w 53 2) (BitVec.ofNat 4 (fld w 41 4)))) ∧
      (fld w 45 4 = 1 → done t (b.setPs (fld w 53 2) (b.rps (fld w 51 2) &&& b.rps (fld w 49 2)))) ∧
      (fld w 45 4 = 2 → done t (b.setPs (fld w 53 2) (b.rps (fld w 51 2) ||| b.rps (fld w 49 2)))) ∧
      (fld w 45 4 = 3 → done t (b.setPs (fld w 53 2) (b.rps (fld w 51 2) ^^^ b.rps (fld w 49 2)))) ∧
      (fld w 45 4 = 4 → done t (b.setPs (fld w 53 2) (~~~(b.rps (fld w 51 2))))) ∧
      (fld w 45 4 = 5 → done t (b.setPs (fld w 53 2) (if x.dfl.getLsbD (fld w 31 1) then 0xF else 0))) ∧
      (fld w 45 4 = 6 → done t (b.setPs (fld w 53 2)
        (if cndHolds (fld w 32 3) (b.rg (fld w 38 3)) (b.rg (fld w 35 3)) then 0xF else 0)))) ∧
    (s.poised e 0x22 tail w → ∃ t, exec (.sel e) s = .next t ∧ done t (b.setQ (fld w 52 3)
      (Quad.merge (b.rps (fld w 44 2)) (b.rq (fld w 46 3)) (b.rq (fld w 49 3))))) ∧
    (s.poised e 0x21 tail w → ∃ t, exec (.qxf e) s = .next t ∧
      (fld w 42 4 = 0 → done t (b.setQ (fld w 52 3) (Quad.merge m (b.rq (fld w 52 3)) (b.rq (fld w 49 3))))) ∧
      (fld w 42 4 = 1 → done t (b.setQ (fld w 52 3)
        (Quad.merge m (b.rq (fld w 52 3)) (Quad.all ((b.rq (fld w 49 3)).get (fld w 47 2)))))) ∧
      (fld w 42 4 = 2 → done t (b.setQ (fld w 52 3) (Quad.merge m (b.rq (fld w 52 3)) (b.rfr (fld w 47 2))))) ∧
      (fld w 42 4 = 3 → done t (b.setQ (fld w 52 3)
        (Quad.merge (m &&& (1#4 <<< fld w 47 2)) (b.rq (fld w 52 3)) (Quad.all (b.rg (fld w 49 3)))))) ∧
      (fld w 42 4 = 4 → done t (if m.getLsbD 0 then b.setG (fld w 52 3) ((b.rq (fld w 49 3)).get (fld w 47 2)) else b)) ∧
      (fld w 42 4 = 5 → done t (b.setQ (fld w 52 3)
        (Quad.merge m (b.rq (fld w 52 3)) (Quad.ofFn fun i => (b.rq (fld w 49 3)).get (i + fld w 47 2))))))

/-- MAC, TAP4, AACC, LDA, ARAW, MOVA, MOVAL, QOP, CHR, LDQ and LDG (R125 to R132, R137, R145, R165): the results are in flight
when the instruction has issued, with the pipeline cycles that still pass before they can be read (latency 3 leaves 2, latency 2
leaves 1), flags with them; address updates and DTH, of latency 1, are written; the other registers are as before. Operand forms
are `State.opnd` and `State.nearOp`; the arithmetic is `macQuad`, `aaccQuad`, `moveOf`, `qopLane`. Where the spec leaves a point
open it follows the model's reading, log entry 32. -/
def Obligations.EngineResultsInFlight : Prop :=
  ∀ (e : Fin 32) (s : State) (tail : Bool) (w : IWord),
    let x := s.engine e
    let b := x.bank tail
    let m := b.guard w
    let fl := fun (n : Nat) (c : Bool) (k : BitVec 5) => if c then [(⟨tail, n, .flg k⟩ : Pend)] else []
    let out := fun (t : State) (r : RegBank) (l : List Pend) =>
      ((t.engine e).bank tail).file = r.file ∧ (t.engine e).bank (!tail) = x.bank (!tail) ∧ (t.engine e).inflight = l
    let upd := fun (l : List RegWrite) => l.foldl RegBank.apply b
    (s.poised e 0x10 tail w →
      let xo := s.opnd e tail (fld w 36 13) (bit w 22)
      let yo := s.opnd e tail (fld w 23 13) (bit w 21)
      let r := macQuad (fld w 53 2) (fld w 51 2) m (b.raq (fld w 49 2)) xo.val yo.val
      xo.fault = 0 → yo.fault = 0 → ∃ t, exec (.mac e) s = .next t ∧ out t (upd (xo.upd ++ yo.upd))
        (⟨tail, 2, .aq (fld w 49 2) m r.1 true⟩ :: fl 2 r.2 flgAov ++ fl 2 (!(xo.ue ++ yo.ue).isEmpty) flgPoison)) ∧
    (s.poised e 0x11 tail w →
      let n := fld w 45 3
      let k := fld w 39 3
      let xm := if bit w 48 then nearAddr x b n (fld w 37 8) true
        else s.nearDld e (fld w 42 6) (b.rg k).toNat (fld w 34 3) true
          (if fld w 37 2 = 0 then [] else [.g k (b.rg k + tincOf (fld w 37 2))])
      let dist := if bit w 48 then [0, 1, 4, 0].getD (fld w 35 2) 0 else 0
      let w0 := if (b.rl n).toNat / 4 = 0 then (b.ra n).toNat else quadWord (b.ra n) (b.rb n) (b.rl n) 0
      let v := tapMove w0 (b.rb n) (b.rl n) dist % 65536
      let xr := s.nearRead e xm.words
      let yo := s.opnd e tail (fld w 21 13) (bit w 20)
      let r := macQuad (fld w 53 2) (fld w 51 2) m (b.raq (fld w 49 2)) (quadOf xr.1) yo.val
      xm.fault = 0 → yo.fault = 0 → (dist ≠ 0 → x.lmOk v = true) →
      ∃ t, exec (.tap4 e) s = .next t ∧ out t (upd (xm.upd ++ yo.upd))
        (⟨tail, 2, .aq (fld w 49 2) m r.1 true⟩ :: fl 2 r.2 flgAov ++ fl 2 (!(xr.2.2 ++ yo.ue).isEmpty) flgPoison) ∧
        ∃ k ≤ 2, (t.engine e).wq = x.wq.drop k ++ (if dist = 0 then [] else quadPosts [v] m (quadOf xr.1))) ∧
    (s.poised e 0x1E tail w →
      let r := aaccQuad (fld w 53 2) m (b.raq (fld w 51 2)) (b.raq (fld w 49 2))
      ∃ t, exec (.aacc e) s = .next t ∧ out t b (⟨tail, 1, .aq (fld w 51 2) m r.1 false⟩ :: fl 1 r.2 flgAov)) ∧
    (s.poised e 0x1C tail w →
      let v := if bit w 46 then Quad.all 0 else (b.rq (fld w 47 3)).map fun x => BitVec.ofInt 72 (x.toInt * 2 ^ 32)
      ∃ t, exec (.lda e) s = .next t ∧ out t b [⟨tail, 1, .aq (fld w 50 2) m v false⟩]) ∧
    (s.poised e 0x1D tail w → ∃ t, exec (.araw e) s = .next t ∧ out t b
      (if bit w 54 then
        if m.getLsbD (fld w 47 2) then [⟨tail, 1, .aqPart (fld w 49 2) (fld w 47 2) (fld w 45 2) (b.rg (fld w 51 3))⟩] else []
      else if m.getLsbD 0 then [⟨tail, 1, .g (fld w 51 3) (getPart ((b.raq (fld w 49 2)).get (fld w 47 2)) (fld w 45 2))⟩]
        else [])) ∧
    (s.poised e 0x18 tail w →
      let dm := fld w 42 2
      let r := moveOf b w (fld w 50 2) (fld w 44 6) dm
      ∃ t, exec (.mova e) s = .next t ∧ out t (if dm = 0 then b else b.apply (.dth r.2.2))
        (⟨tail, 1, .q (fld w 52 3) m r.1⟩ :: fl 1 r.2.1 flgSat)) ∧
    (s.poised e 0x19 tail w →
      let dm := fld w 42 2
      let sh := effShift b (fld w 44 6)
      let d := dither dm sh b.dth
      let r := moveLane ((b.raq (fld w 50 2)).get (fld w 40 2)) sh d.1
      ∃ t, exec (.moval e) s = .next t ∧ out t (if dm = 0 then b else b.apply (.dth d.2))
        (if m.getLsbD 0 then ⟨tail, 1, .g (fld w 52 3) r.1⟩ :: fl 1 r.2 flgSat else [])) ∧
    (s.poised e 0x20 tail w →
      let r := Quad.ofFn fun i => qopLane (fld w 42 4) (fld w 37 5) ((b.rq (fld w 49 3)).get i) ((b.rq (fld w 46 3)).get i)
      ∃ t, exec (.qop e) s = .next t ∧ out t b (⟨tail, 1, .q (fld w 52 3) m (r.map Prod.fst)⟩ ::
        fl 1 ((List.range 4).any fun i => m.getLsbD i && (r.get i).2) flgSat)) ∧
    (s.poised e 0x29 tail w →
      let p := fld w 44 8
      let w3 := x.segWord true x.entry 3
      let r := s.chainRead e p (x.tickCyc + 1)
      fld w3 16 8 ≤ p → p ≤ fld w3 24 8 → ∃ t, exec (.chr e) s = .next t ∧
        out t b (⟨tail, 1, .q (fld w 52 3) m r.1⟩ :: fl 1 r.2 flgEarly)) ∧
    (s.poised e 0x2C tail w →
      let o := s.nearOp e tail true w
      let r := s.nearRead e o.words
      o.fault = 0 → ∃ t, exec (.ldq e) s = .next t ∧ out t (upd o.upd)
        (⟨tail, 1, .q (fld w 52 3) m (quadOf r.1)⟩ :: fl 1 (!r.2.2.isEmpty) flgPoison)) ∧
    (s.poised e 0x2D tail w →
      let o := s.nearOp e tail false w
      let r := s.nearRead e o.words
      o.fault = 0 → ∃ t, exec (.ldg e) s = .next t ∧ out t (upd o.upd)
        ((if m.getLsbD 0 then [⟨tail, 1, .g (fld w 52 3) (quadOf r.1).l0⟩] else []) ++ fl 1 (!r.2.2.isEmpty) flgPoison))

/-- MOVST, STQ and STG (R94, R129, R137) append to the write queue one entry per physical quad with a written lane, after the
two entries that their free cycle retires, and write the address update. CHW (R145) adds its write to those posted in this tick,
with the tick's index; a mask of 0 posts nothing. Where the spec leaves a point open it follows the model's reading, log entries
31 and 32. -/
def Obligations.EngineStores : Prop :=
  ∀ (e : Fin 32) (s : State) (tail : Bool) (w : IWord),
    let x := s.engine e
    let b := x.bank tail
    let m := b.guard w
    let upd := fun (l : List RegWrite) => l.foldl RegBank.apply b
    (s.poised e 0x1A tail w →
      let dm := fld w 14 2
      let o := s.nearOp e tail true w
      let r := moveOf b w (fld w 52 2) (fld w 16 6) dm
      o.fault = 0 → ∃ t, exec (.movst e) s = .next t ∧
        (t.engine e).wq = x.wq.drop 2 ++ quadPosts o.words m r.1 ∧
        ((t.engine e).bank tail).file = (if dm = 0 then upd o.upd else (upd o.upd).apply (.dth r.2.2)).file ∧
        (t.engine e).inflight = if r.2.1 then [⟨tail, 1, .flg flgSat⟩] else []) ∧
    (s.poised e 0x2E tail w →
      let o := s.nearOp e tail true w
      o.fault = 0 → ∃ t, exec (.stq e) s = .next t ∧
        (t.engine e).wq = x.wq.drop 2 ++ quadPosts o.words m (b.rq (fld w 52 3)) ∧
        ((t.engine e).bank tail).file = (upd o.upd).file ∧ (t.engine e).inflight = []) ∧
    (s.poised e 0x2F tail w →
      let o := s.nearOp e tail false w
      o.fault = 0 → ∃ t, exec (.stg e) s = .next t ∧
        (t.engine e).wq = x.wq.drop 2 ++ quadPosts o.words m (Quad.all (b.rg (fld w 52 3))) ∧
        ((t.engine e).bank tail).file = (upd o.upd).file ∧ (t.engine e).inflight = []) ∧
    (s.poised e 0x28 tail w →
      let p := fld w 44 8
      let w3 := x.segWord true x.entry 3
      fld w3 0 8 ≤ p → p ≤ fld w3 8 8 → p ≤ 191 → ∃ t, exec (.chw e) s = .next t ∧
        ((t.engine e).bank tail).file = b.file ∧
        (m = 0 → t.chainNow = s.chainNow) ∧
        (m ≠ 0 → ∃ id stamp seg, t.chainNow = s.chainNow ++ [⟨id, p, x.six.toNat, stamp, e, seg, m, b.rq (fld w 52 3), false⟩]))

/-- FLD and FLDW (R139 to R142) leave a far load under way for their FR, with the Caldera accesses of R140; a segment that ends
at this instruction ends its far loads (R172). FST, FSTW and MOVF (R129, R139, R173) put one entry per 32-byte unit with a
written lane into the far-store queue, the unit of word 0 first. The address updates are written. Where the spec leaves a point
open it follows the model's reading, log entry 32. -/
def Obligations.EngineFarAccesses : Prop :=
  ∀ (e : Fin 32) (s : State) (tail : Bool) (w : IWord),
    let b := (s.engine e).bank tail
    let m := b.guard w
    let upd := fun (l : List RegWrite) => l.foldl RegBank.apply b
    let load := fun (t : State) (o : MemOp) =>
      ((t.engine e).bank tail).file = (upd o.upd).file ∧
      ((∃ id, (t.engine e).farLoads =
          [{ id := id, tail := tail, fr := fld w 52 2, mask := m, left := farPieces o.words o.host }]) ∨
        (tail = false ∧ (t.engine e).farLoads = []))
    let store := fun (t : State) (o : MemOp) (v : Quad Word) =>
      (t.engine e).fsq.map (fun x => (x.unit, x.mask, x.data)) = (farEntries o.words m v).map (fun x => (x.unit, x.mask, x.data))
    (s.poised e 0x3A tail w → (s.farOp e tail true false w).fault = 0 →
      ∃ t, exec (.fld e) s = .next t ∧ load t (s.farOp e tail true false w)) ∧
    (s.poised e 0x3B tail w → (s.farOp e tail false false w).fault = 0 →
      ∃ t, exec (.fldw e) s = .next t ∧ load t (s.farOp e tail false false w)) ∧
    (s.poised e 0x3C tail w → (s.farOp e tail true true w).fault = 0 →
      ∃ t, exec (.fst e) s = .next t ∧ store t (s.farOp e tail true true w) (b.rq (fld w 52 3)) ∧
        ((t.engine e).bank tail).file = (upd (s.farOp e tail true true w).upd).file) ∧
    (s.poised e 0x3D tail w → (s.farOp e tail false true w).fault = 0 →
      ∃ t, exec (.fstw e) s = .next t ∧ store t (s.farOp e tail false true w) (b.rq (fld w 52 3)) ∧
        ((t.engine e).bank tail).file = (upd (s.farOp e tail false true w).upd).file) ∧
    (s.poised e 0x1B tail w → (s.farOp e tail true true w).fault = 0 →
      let dm := fld w 14 2
      let o := s.farOp e tail true true w
      let r := moveOf b w (fld w 52 2) (fld w 16 6) dm
      ∃ t, exec (.movf e) s = .next t ∧ store t o r.1 ∧
        ((t.engine e).bank tail).file = (if dm = 0 then upd o.upd else (upd o.upd).apply (.dth r.2.2)).file ∧
        (t.engine e).inflight = if r.2.1 then [⟨tail, 1, .flg flgSat⟩] else [])

/-- WRITE_QUEUE_RETIRE (R96, R98, R167): a cycle in which no instruction may issue retires the two oldest entries of the write
queue and brings results in flight one cycle nearer; it counts for the tick and the segment. FAR_RETURN_ARRIVAL (R141, R143):
the last piece of the oldest far load writes its FR under its mask, and the load is over. ILLEGAL_WORD (R161, R162): an illegal
word raises ENG.ILL_STAT with its cause, and ends a tail program. END (R155, R179) of a tick program starts the tail program if
it is enabled. Where the spec leaves a point open it follows the model's reading, log entries 31 and 32. -/
def Obligations.EngineCycles : Prop :=
  ∀ (e : Fin 32) (s : State),
    let x := s.engine e
    (x.running = none → x.heldStore = none → ∃ t, exec (.writeQueueRetire e) s = .next t ∧ (t.engine e).wq = x.wq.drop 2 ∧
      (t.engine e).inflight = (x.inflight.map fun p => { p with left := p.left - 1 }).filter (fun p => 0 < p.left) ∧
      (t.engine e).tickCyc = x.tickCyc + 1 ∧ (t.engine e).elapsed = x.elapsed + 1) ∧
    (∀ r rest l more, x.farRet = r :: rest → x.farLoads = l :: more → r.load = l.id → l.left = [r.piece] →
      (∀ k ∈ more, k.id ≠ l.id ∧ k.left ≠ []) → l.poison = false → r.poison = false → l.late = false → r.late = false →
      ∃ t, exec (.farReturnArrival e) s = .next t ∧ (t.engine e).farRet = rest ∧ (t.engine e).farLoads = more ∧
        ((t.engine e).bank l.tail).rfr l.fr = Quad.merge l.mask ((x.bank l.tail).rfr l.fr)
          (Quad.ofFn fun i => SMap.get (fun _ => 0) (r.words.foldl (fun m w => SMap.set (fun _ => 0) m w.1 w.2) l.got) i)) ∧
    (x.running = some true → (s.fetch e true).2 ≠ 0 → ∃ t, exec (.illegalWord e) s = .next t ∧
      t.rfld (rEngIllStat e) 16 4 = (s.fetch e true).2 ∧ t.rbit (rEngIllStat e) 31 = true ∧ (t.engine e).phase = .idle) ∧
    (∀ w, s.poised e 0x02 false w → ∃ t, exec (.endProgram e) s = .next t ∧
      (t.engine e).phase = if x.segEn true 32 then .tail else .idle)

/-- An engine's instruction changes no other engine: neither its registers, its local memory, its program nor what it has under
way. -/
def Obligations.EnginesAreSeparate : Prop :=
  ∀ (e : Fin 32) (c : Instr) (s t : State) (k : Nat), k ≠ e.val → c ∈ [.nop e, .rpt e, .endProgram e, .mac e, .tap4 e, .mova e, .moval e,
      .movst e, .movf e, .lda e, .araw e, .aacc e, .qop e, .qxf e, .sel e, .pcmp e, .pset e, .chw e, .chr e, .ldq e, .ldg e, .stq e,
      .stg e, .gop e, .ldi e, .mvs e, .aadr e, .flgc e, .br e, .dbnz e, .fld e, .fldw e, .fst e, .fstw e] →
    exec c s = .next t → t.engine k = s.engine k

/-- SEGMENT_ENTRY (R184 to R187): four cycles, or ten where the frame is initialised; the old frame is saved; the entry's PC is
the table's. BUDGET_CUT (R188, R193 to R195): below the budget nothing happens; a held instruction finishes first; else the
segment is torn, counted, and the next enabled entry or the tail program follows. FAR_STORE_TAKEN (R174): the held entries join
the queue of four only when all of them fit. Where the spec leaves a point open it follows the model's reading, log entries 32
and 75. -/
def Obligations.Segments : Prop :=
  ∀ (e : Fin 32) (s : State) (i : Nat),
    let x := s.engine e
    (x.phase = .enter i → ∃ t, exec (.segmentEntry e) s = .next t ∧
      (t.engine e).phase = .run i ∧ (t.engine e).frameOf = some i ∧ (t.engine e).needInit.getLsbD i = false ∧
      (t.engine e).tick.pc = fld (x.segWord true i 0) 0 14 ∧
      (t.engine e).elapsed = (if x.needInit.getLsbD i then 10 else 4) ∧
      (x.inflight = [] → ∀ o, x.frameOf = some o → SMap.get (fun _ => {}) (t.engine e).frames o = x.tick.frame)) ∧
    (x.phase = .run i → i < 32 →
      (x.elapsed < fld (x.segWord true i 1) 0 16 → exec (.budgetCut e) s = .next s) ∧
      (fld (x.segWord true i 1) 0 16 ≤ x.elapsed → x.heldStore ≠ none →
        exec (.budgetCut e) s = .next (s.setEngine e { x with cutPending := true })) ∧
      (fld (x.segWord true i 1) 0 16 ≤ x.elapsed → x.heldStore = none → ∃ t, exec (.budgetCut e) s = .next t ∧
        (t.engine e).torn = i :: x.torn ∧ t.rfld (rEngSegStat e i) 0 8 = min (s.rfld (rEngSegStat e i) 0 8 + 1) 255 ∧
        (t.engine e).phase = match x.nextEnabled (i + 1) with
          | some j => .enter j
          | none => if x.segEn true 32 then .tail else .idle)) ∧
    (∀ l, x.heldStore = some l →
      (4 < x.fsq.length + l.length → exec (.farStoreTaken e) s = .next s) ∧
      (x.fsq.length + l.length ≤ 4 → x.pendTick = none → x.cutPending = false → ∃ t, exec (.farStoreTaken e) s = .next t ∧
        (t.engine e).heldStore = none ∧
        (t.engine e).fsq.map (fun f => (f.unit, f.mask, f.data)) = (x.fsq ++ l).map fun f => (f.unit, f.mask, f.data)))

/-- PROG_LOAD, SEG_MAP, PROG_SWAP (R206 to R209, R214, R723). A load into the active bank ends with the bank-busy status; a
failed read ends DMA_ERROR, poisoned data POISON; a legal image stands in the inactive bank word for word. A legal SEG_MAP
writes the eight words of every named entry into the inactive table and no word of the active one. A legal PROG_SWAP with no
group puts a request at every engine it names and at no other. Where the spec leaves a point open it follows the model's
reading, log entries 33 and 68. -/
def Obligations.ProgramImages : Prop :=
  (∀ (c : Fin 512) (q : BitVec 32) (image : List (BitVec 64)) (dlds : List (BitVec 128)) (s : State) (d : OpenDesc),
    s.ready c q.toNat tProgLoad = some d →
    let e := d.extra % 32
    let bk := d.extra / 256 % 2 == 1
    let count := d.num 24 2
    let pc := d.num 26 2
    let n0 := d.num 36 1
    let nd := d.num 37 1
    let run := fun fail => exec (.progLoad c q image dlds fail) s
    (d.extra / 32 % 8 ≠ 0 ∨ count = 0 ∨ 16384 < pc + count → ∃ t, run 0 = .next t ∧ t.ended c q.toNat 0x10 ∧ t.eng = s.eng) ∧
    (d.extra / 32 % 8 = 0 → d.extra / 512 = 0 → d.onlyUses [(16, 22)] = true → 1 ≤ count → pc + count ≤ 16384 → n0 < 64 →
      n0 + nd ≤ 64 → windowOk (d.num 16 8) (8 * count) = true → windowOk (d.num 28 8) (16 * nd) = true → s.islandGone (e / 4) = false →
      (bk = s.actBank e → ∃ t, run 0 = .next t ∧ t.ended c q.toNat 0x14 ∧ t.eng = s.eng) ∧
      (bk ≠ s.actBank e → (s.engine e).swapPb = [] →
        (∃ t, run 1 = .next t ∧ t.ended c q.toNat 0x20 ∧ t.eng = s.eng) ∧
        (∃ t, run 2 = .next t ∧ t.ended c q.toNat 0x22 ∧ t.eng = s.eng) ∧
        (image.length = count → dlds.length = nd → s.imageOk e bk pc image = true →
          (∀ k, k < nd → s.resOwner 2 e (n0 + k) = some c.val ∧
            s.dldHeld c e (dldOf (dldImg (dlds.getD k 0) 0) (dldImg (dlds.getD k 0) 1) (dldImg (dlds.getD k 0) 2)) = true) →
          ∃ t, run 0 = .next t ∧ t.ended c q.toNat 0 ∧ (∀ k, k < count → t.progWord e bk (pc + k) = image.getD k 0) ∧
            (∀ a, a < 16384 → t.progWord e (!bk) a = s.progWord e (!bk) a))))) ∧
  (∀ (c : Fin 512) (q : BitVec 32) (images : List (BitVec 256)) (s : State) (d : OpenDesc), s.ready c q.toNat tSegMap = some d →
    let e := d.extra
    let mask := d.num 24 4
    let what := d.num 28 1
    let es := (List.range 32).filter (fun i => mask / 2 ^ i % 2 == 1) ++ (if what % 2 = 1 then [32] else [])
    let img : Tab := fun i n => (images.getD i 0).extractLsb' (32 * n) 32
    let new : Tab := fun i n => if es.contains i then img i n else (s.engine e).segWord false i n
    (4 ≤ what → ∃ t, exec (.segMap c q images [] [] 0) s = .next t ∧ t.ended c q.toNat 0x10 ∧ t.eng = s.eng) ∧
    (e < 32 → what < 2 → d.onlyUses [(16, 13), (32, 18)] = true → d.num 48 2 = 0 → windowOk (d.num 16 8) 1056 = true →
      windowOk (d.num 32 8) 64 = true → windowOk (d.num 40 8) 0 = true → s.islandGone (e / 4) = false → images.length = 33 →
      (∀ i ∈ es, entryReserved i (img i) = false ∧ s.resOwner 3 e i = some c.val ∧ (Tab.en img i = true → Tab.ctx img i = c ∧
        ∀ n, 4 ≤ n → n < 8 → ∀ k, fld (img i n) 0 14 / 4096 ≤ k → k ≤ fld (img i n) 14 14 / 4096 → s.quarterGone (2 ^ 24 * k) = false)) →
      s.tableOk e new (s.actBank e) = true →
      ∃ t, exec (.segMap c q images [] [] 0) s = .next t ∧ t.ended c q.toNat 0 ∧
        (∀ i n, i < 33 → n < 8 → (t.engine e).segWord false i n = new i n) ∧
        (∀ i n, i < 33 → n < 8 → (t.engine e).segWord true i n = (s.engine e).segWord true i n))) ∧
  (∀ (c : Fin 512) (q : BitVec 32) (s : State) (d : OpenDesc), s.ready c q.toNat tProgSwap = some d →
    let es := d.num 16 4
    let what := d.num 20 1
    let pb := what % 2 == 1
    let st := what / 2 % 2 == 1
    d.group = none →
    (es = 0 ∨ what = 0 ∨ 4 ≤ what → ∃ t, exec (.progSwap c q) s = .next t ∧ t.ended c q.toNat 0x10 ∧ t.eng = s.eng) ∧
    (d.onlyUses [(16, 5)] = true → d.groupOk = true → es ≠ 0 → 1 ≤ what → what < 4 → ∃ t, exec (.progSwap c q) s = .next t ∧
      if (List.range 32).all (fun e => es / 2 ^ e % 2 == 0 || s.swapOk e pb st) then
        (∀ e, e < 32 → (t.engine e).swapPb =
          (s.engine e).swapPb ++ if pb ∧ es / 2 ^ e % 2 = 1 then [.desc c q.toNat] else []) ∧
        (∀ e, e < 32 → (t.engine e).swapSt =
          (s.engine e).swapSt ++ if st ∧ es / 2 ^ e % 2 = 1 then [.desc c q.toNat] else []) ∧
        t.findDesc c q.toNat = some { d with started := true, wait := BitVec.ofNat 32 es, named := BitVec.ofNat 32 es }
      else t.ended c q.toNat 0x10 ∧ t.eng = s.eng))

/-- QUERY (R381). A query of a reserved kind, of an item beyond the last, or whose buffer leaves the window ends BAD_DESC; one
whose buffer cannot be written ends DMA_ERROR; any other writes 63 words from its first word, which holds the count and the next
item, and ends OK. A context's entry holds its status and its error word. Where the spec leaves a point open it follows the
model's reading, log entry 70. -/
def Obligations.Queries : Prop :=
  ∀ (c : Fin 512) (q : BitVec 32) (s : State) (d : OpenDesc), s.ready c q.toNat tQuery = some d →
    let dest := d.num 16 8
    let x := s.translateRange c dest 256 true 3
    let put := fun (ps : List (Nat × Nat × Nat × Bool)) (ws : List Word) =>
      let bs := ws.flatMap fun w => leBytes 4 w.toNat
      (ps.foldl (fun s p => s.ctxWrite 3 96 c p.1 ((bs.drop p.2.1).take p.2.2.1) 0) x.2).finish c q.toNat 0
    let from' := d.num 24 2
    let rows := fun (n size : Nat) (f : Nat → Option (List Word)) =>
      queryWords ((((List.range n).filterMap fun k => (f k).map fun ws => (k, ws))).filter fun e => decide (from' ≤ e.1)) size
    (4 ≤ d.extra → ∃ t, exec (.queryContext c q) s = .next t ∧ t.ended c q.toNat 0x10 ∧ t.fab = s.fab) ∧
    (d.onlyUses [(16, 10)] = true → windowOk dest 256 = true →
      (d.extra = 0 → from' = 0 →
        (x.1 = some none → exec (.queryContext c q) s = .next (x.2.finish c q.toNat 0x20)) ∧
        (x.1 = none → exec (.queryContext c q) s = .next x.2) ∧
        ∀ ps, x.1 = some (some ps) → exec (.queryContext c q) s =
          .next (put ps ([0xFFFF0001, s.reg (rCtxtStat c), s.reg (rCtxtErr c)] ++ List.replicate 61 0))) ∧
      (d.extra = 1 → from' ≤ 63 → ∀ ps, x.1 = some (some ps) → exec (.queryGroups c q) s = .next (put ps (rows 64 8 fun g =>
        if s.ownsGroup c g then some (BitVec.ofNat 32 g :: [rFabCgCtrl g, rFabCgDueLo g, rFabCgDueHi g, rFabCgAppliedLo g,
          rFabCgAppliedHi g, rFabCgStat g, rFabCgMiss g].map s.reg) else none))) ∧
      (d.extra = 2 → from' ≤ 1023 → ∀ ps, x.1 = some (some ps) → exec (.querySegments c q) s = .next (put ps (rows 1024 3 fun k =>
        if (s.engine (k / 32)).owner (k % 32) = c then
          some [BitVec.ofNat 32 k, s.reg (rEngSegStat (k / 32) (k % 32)), s.reg (rEngSegHwm (k / 32) (k % 32))] else none))) ∧
      (d.extra = 3 → from' ≤ 4095 → ∀ ps, x.1 = some (some ps) → exec (.queryLines c q) s = .next (put ps (rows 4096 3 fun n =>
        if (s.line n).mapped && (s.line n).owner == c then
          some [BitVec.ofNat 32 n, s.reg (rCaldHlW0 n), s.reg (rCaldHlW1 n)] else none))))

/-- RES_ASSIGN, RES_RELEASE (R722) and TILE_ASSIGN, TILE_RELEASE (R270): a command whose items are all free, or all the
context's and unused, hands over every item of its range and no other, and clears its busy bit; any other command clears the
busy bit, sets the rejected bit and changes no owner. Where the spec leaves a point open it follows the model's reading, log
entry 69. -/
def Obligations.Assignments : Prop :=
  (∀ (s : State) (op : Nat),
    let cmd := s.reg rFabResCmd
    let c := fld cmd 0 9
    let kind := fld cmd 12 3
    let e := fld cmd 16 5
    let lo := s.rfld rFabResRange 0 16
    let hi := s.rfld rFabResRange 16 16
    let run := if op = 1 then exec .resAssign s else exec .resRelease s
    let item := fun i => if op = 1 then s.resOwner kind e i = none else s.resOwner kind e i = some c ∧ s.resUsed kind e i = false
    (op = 1 ∨ op = 2) → bit cmd 29 = true → fld cmd 9 2 = op →
      (lo ≤ hi → hi < resCount kind → (kind < 4 ∨ e = 0) → (∀ i, lo ≤ i → i ≤ hi → item i) → ∃ t, run = .next t ∧
        t.reg rFabResCmd = putBit cmd 29 false ∧
        (∀ i, lo ≤ i → i ≤ hi → t.resOwner kind e i = if op = 1 then some c else none) ∧
        (∀ i, i < 65536 → (i < lo ∨ hi < i) → t.resOwner kind e i = s.resOwner kind e i)) ∧
      (hi < lo ∨ resCount kind ≤ hi ∨ (4 ≤ kind ∧ e ≠ 0) ∨ (∃ i, lo ≤ i ∧ i ≤ hi ∧ ¬ item i) →
        run = .next ((s.setBit rFabResCmd 29 false).setBit rFabResCmd 30 true))) ∧
  (∀ (s : State) (op : Nat),
    let cmd := s.reg rCaldTileCmd
    let c := fld cmd 0 9
    let lo := s.rfld rCaldTileRange 0 14
    let hi := s.rfld rCaldTileRange 16 14
    let run := if op = 1 then exec .tileAssign s else exec .tileRelease s
    let owned := fun k => (s.tile k).1 = (if op = 1 then 0 else 1) ∧ (op = 1 ∨ (s.tile k).2 = c)
    (op = 1 ∨ op = 2) → bit cmd 29 = true → fld cmd 9 2 = op →
      (lo ≤ hi → (∀ k, lo ≤ k → k ≤ hi → owned k) → (op = 1 ∨ s.tilesReached c lo hi = false) → ∃ t, run = .next t ∧
        t.reg rCaldTileCmd = putBit cmd 29 false ∧
        (∀ k, lo ≤ k → k ≤ hi → t.tile k = if op = 1 then (1, c) else (0, 0)) ∧
        (∀ k, k < lo ∨ hi < k → t.tile k = s.tile k)) ∧
      (hi < lo ∨ (op = 2 ∧ s.tilesReached c lo hi = true) ∨
        (∃ k, lo ≤ k ∧ k ≤ hi ∧ (s.tile k).1 ≠ (if op = 1 then 0 else 1) ∧ (op = 1 ∨ (s.tile k).1 ≠ 4)) →
        run = .next ((s.setBit rCaldTileCmd 29 false).setBit rCaldTileCmd 30 true)))

/-- Coefficient sets (R214, R215, R218 to R223). A write of W0 takes the staged copy, or sets REJ (bit 28 of W2) and changes
nothing else if it would enable a set that is enabled or does not fit. A binding is stored without its reserved bits. COEF_WRITE
and COEF_DELTA with legal fields write the shadow page, quad by quad, and count the quads. The shadow write ends with the new
generation, or with FFFF after a failure that had written something. A RESYNC takes a free mover, and ends with the pages equal
and bit 26 clear. Where the spec leaves a point open it follows the model's reading, log entry 67. -/
def Obligations.CoefficientSets : Prop :=
  ∀ (s : State) (c : Fin 512) (q : BitVec 32),
    (∀ (n : Fin 1024) (v : BitVec 32), bit v 31 = true → s.rbit (rFabCsetW0 n) 31 = true →
      exec (.csetW0Write n v) s = .next (s.setBit (rFabCsetW2 n) 28 true)) ∧
    (∀ (n : Fin 1024) (v : BitVec 32), bit v 31 = false → ∃ t, exec (.csetW0Write n v) s = .next t ∧
      t.rbit (rFabCsetW0 n) 31 = false ∧ t.rfld (rFabCsetW0 n) 0 22 = fld v 0 22 ∧
      t.reg (rFabCsetW1 n) = (SMap.get (fun _ => ((0 : Word), (0 : Word))) s.par.csetStage n).1 &&& 0x3FFFFF) ∧
    (∀ (e : Fin 32) (n : Fin 16) (v : BitVec 32), s.dark (rEngCbind e n) = none →
      exec (.cbindWrite e n v) s = .next (s.setReg (rEngCbind e n) (v &&& 0x8003FFFF))) ∧
    (∀ d (data : List (BitVec 128)), s.ready c q.toNat tCoefWrite = some d → s.heldBack d = false →
      s.rbit (rFabCsetW2 (d.num 16 2)) 26 = false → s.csetReach (d.num 16 2) = true → d.onlyUses [(16, 16)] = true →
      d.groupOk = true → s.coefOk c (d.num 16 2) [d.num 18 2] = true →
      s.setGone (s.reg (rFabCsetW0 (d.num 16 2))) (s.reg (rFabCsetW1 (d.num 16 2))) = false →
      d.num 20 2 + d.num 22 2 ≤ s.csetSize (d.num 16 2) → d.group = none →
      s.stageStatus c none (.flip (d.num 16 2) c q.toNat) = 0 → data.length = d.num 22 2 + 1 →
      exec (.coefWrite c q data) s = .next ((forN data.length (fun k u => u.pageWrite (d.num 16 2) (1 - u.csetAct (d.num 16 2))
        (d.num 20 2 + k) 0xF (Quad.ofFn fun i => (data.getD k 0).extractLsb' (32 * i) 32)) (s.begin c q.toNat)).modDesc c q.toNat
          fun d => { d with slot := data.length, granted := true })) ∧
    (∀ d (list : List (BitVec 192)), s.ready c q.toNat tCoefDelta = some d → s.heldBack d = false →
      s.rbit (rFabCsetW2 (d.num 16 2)) 26 = false → s.csetReach (d.num 16 2) = true → d.onlyUses [(16, 16)] = true →
      d.groupOk = true → s.coefOk c (d.num 16 2) [d.num 18 2, d.num 20 2] = true →
      s.setGone (s.reg (rFabCsetW0 (d.num 16 2))) (s.reg (rFabCsetW1 (d.num 16 2))) = false → d.num 22 2 < 256 →
      s.shadowGen (d.num 16 2) = d.num 18 2 → list.length = d.num 22 2 + 1 →
      list.all (deltaOk (s.csetSize (d.num 16 2))) = true → d.group = none →
      s.stageStatus c none (.flip (d.num 16 2) c q.toNat) = 0 →
      exec (.coefDelta c q list) s = .next ((list.foldl (fun u w => u.pageWrite (d.num 16 2) (1 - u.csetAct (d.num 16 2))
        (fld w 0 16) (BitVec.ofNat 4 (fld w 16 4)) (Quad.ofFn fun i => w.extractLsb' (64 + 32 * i) 32)) (s.begin c q.toNat)).modDesc
          c q.toNat fun d => { d with slot := list.length, granted := true })) ∧
    (∀ d, s.findDesc c q.toNat = some d → d.started = true → d.result = none → d.staged = false →
      (d.typ = tCoefWrite ∨ d.typ = tCoefDelta) →
      let n := d.num 16 2
      (d.num 22 2 < d.slot → d.group = none → ∃ t, exec (.shadowWriteComplete c q 0) s = .next t ∧
        t.shadowGen n = (if d.typ = tCoefWrite then d.num 18 2 else d.num 20 2) ∧ t.rbit (rFabCsetW2 n) 25 = true ∧
        t.par.next = s.par.next ++ [.flip n c q.toNat]) ∧
      (d.num 22 2 < d.slot → d.group ≠ none → ∃ t, exec (.shadowWriteComplete c q 0) s = .next t ∧ t.ended c q.toNat 0 ∧
        t.shadowGen n = (if d.typ = tCoefWrite then d.num 18 2 else d.num 20 2) ∧ t.rbit (rFabCsetW2 n) 25 = true) ∧
      (∀ fail : Fin 3, fail ≠ 0 → ∃ t, exec (.shadowWriteComplete c q fail) s = .next t ∧
        t.ended c q.toNat (if fail = 1 then 0x20 else 0x22) ∧ (d.slot ≠ 0 → t.shadowGen n = 0xFFFF))) ∧
    (∀ (n : Fin 1024) m, s.freeMover = some m → (s.resyncOf n).active = true → (s.resyncOf n).wait = 0 →
      (s.resyncOf n).copying = false → ∃ t, exec (.resyncStart n) s = .next t ∧ (t.resyncOf n).copying = true ∧
        SMap.get (fun _ => none) t.mov.movers m = some ⟨.resync n, true, s.now⟩) ∧
    (∀ n : Fin 1024, (s.resyncOf n).copying = true → s.csetReach n = true → ∃ t, exec (.resyncComplete n) s = .next t ∧
      t.resyncOf n = {} ∧ t.rbit (rFabCsetW2 n) 26 = false)

/-- Commits (R225 to R234). A COMMIT with legal fields of a context that owns the group starts, unless the group is armed, when
it waits; one of another context is BAD_DESC. Arming fixes the due index and the state ARMED; a group that must not be armed
ends the COMMIT as BAD_DESC. Discarding empties the group and ends the COMMIT with OK; an empty group makes it BAD_DESC. Where
the spec leaves a point open it follows the model's reading, log entry 36. -/
def Obligations.Commits : Prop :=
  ∀ (s : State) (c : Fin 512) (q : BitVec 32) (d : OpenDesc),
    let g := d.extra % 64
    (s.ready c q.toNat tCommit = some d →
      (commitOk d = true → s.ownsGroup c g = true → s.groupBusy g = false →
        exec (.commit c q) s = .next (s.modDesc c q.toNat fun d => { d with started := true })) ∧
      (commitOk d = true → s.ownsGroup c g = true → s.groupBusy g = true → exec (.commit c q) s = .next s) ∧
      ((commitOk d && s.ownsGroup c g) = false → ∃ t, exec (.commit c q) s = .next t ∧ t.ended c q.toNat 0x10)) ∧
    (s.waitingCommit c q.toNat 0 = some d →
      (s.armBad g d = false → ∃ t, exec (.commitArm c q) s = .next t ∧ t.groupSt g = 2 ∧
        t.reg64 (rFabCgDueLo g) = (s.dueOf d).1 % 2 ^ 64 ∧ (t.group g).members = (s.group g).members) ∧
      (s.armBad g d = true → ∃ t, exec (.commitArm c q) s = .next t ∧ t.ended c q.toNat 0x10 ∧ t.groupSt g = s.groupSt g)) ∧
    (s.waitingCommit c q.toNat 1 = some d →
      ((s.group g).members ≠ [] → ∃ t, exec (.commitDiscard c q) s = .next t ∧ t.ended c q.toNat 0 ∧ t.groupSt g = 0) ∧
      ((s.group g).members = [] → ∃ t, exec (.commitDiscard c q) s = .next t ∧ t.ended c q.toNat 0x10))

/-- SINTER_REGION_START, SINTER_RESTORE (R297 to R299) and LM_SINTER_REGION_START (R300): a region that is due goes to the
holding buffer, and the restore writes its 256 bytes back. ROW_REPAIR (R304, R305): a FAILING row takes the next spare of its
bank, if there is one. PROTECTED_TILE_RELOCATION (R306): a PROTECTED tile without a spare row moves, the remap entry is written,
and the old tile is retired. LM_REGION_REPAIR (R308): a FAILING local region takes the next spare region. Where the spec leaves
a point open it follows the model's reading, log entries 63 and 64. -/
def Obligations.SinterAndRepair : Prop :=
  (∀ (bad : BitVec 32) (s : State),
    (s.mode.selfTest = false → s.rbit rCaldSinterCtrl 0 = true → s.cal.sinter.active = false →
      (∀ r w, s.cal.sinter.started = false → s.sinterNext = some (r, w) → ∃ t, exec (.sinterRegionStart bad) s = .next t ∧
        t.cal.sinter.active = true ∧ t.cal.sinter.started = true ∧ t.cal.sinter.region = r ∧ t.cal.sinter.lastStart = s.now ∧
        t.rfld rCaldSinterStat 0 18 = r ∧ t.rbit rCaldSinterStat 18 = true) ∧
      (s.cal.sinter.started = true → s.now < s.cal.sinter.lastStart + 1024 → exec (.sinterRegionStart bad) s = .next s))) ∧
  (∀ s : State,
    (s.cal.sinter.active = true → ∃ t, exec .sinterRestore s = .next t ∧ t.cal.sinter.active = false ∧
      t.rbit rCaldSinterStat 18 = false ∧
      ∀ i, i < 256 → t.cal.cell (256 * s.cal.sinter.region + i) = s.cal.sinter.buf.getD i 0) ∧
    (s.cal.sinter.active = false → exec .sinterRestore s = .next s)) ∧
  (∀ (e : Fin 32) (bad : BitVec 64) (s : State),
    let k := SMap.get (fun _ => {}) s.cal.lmSinter e
    s.mode.selfTest = false → s.rbit rCaldSinterCtrl 1 = true → k.active = false → s.islandOff (e / 4) = false →
      k.lastTick + 255 ≤ s.tick.sidx → ∃ t, exec (.lmSinterRegionStart e bad) s = .next t ∧
        SMap.get (fun _ => {}) t.cal.lmSinter e =
          { next := k.next, active := true, lastTick := s.tick.sidx, buf := (List.range 64).map fun i => (s.nearWord e (64 * k.next + i)).1 }) ∧
  (∀ (br : Fin 65536) (s : State),
    let used := s.rfld (rCaldBankStat (br / 1024)) 0 6
    let fails := fun (t : State) => SMap.get (fun _ => false) t.cal.failing br
    let spare := fun (t : State) => SMap.get (fun _ => 0) t.cal.spare br
    (fails s = false → exec (.rowRepair br) s = .next s) ∧
    (fails s = true → used < 32 → spare s = 0 → ∃ t, exec (.rowRepair br) s = .next t ∧ fails t = false ∧ spare t = used + 1 ∧
      t.rfld (rCaldBankStat (br / 1024)) 0 6 = used + 1 ∧ t.rbit (rCaldBankStat (br / 1024)) 6 = (used + 1 == 32))) ∧
  (∀ (k : Fin 16384) (u n : Nat) (s : State),
    (s.tile k).1 = 2 → SMap.get (fun _ => false) s.cal.failing (calBankRow (4096 * k)) = true →
      s.rbit (rCaldBankStat (calBank (4096 * k))) 6 = true →
      (List.range 16384).find? (fun u => (s.tile u).1 == 3 && calBank (4096 * u) != calBank (4096 * k)) = some u →
      (List.range 8).find? (fun n => !(s.rbit (rCaldProtRemap n) 31)) = some n →
      ∃ t, exec (.protectedTileRelocation k) s = .next t ∧ t.tile u = (2, 0) ∧ t.tile k = (5, 0) ∧
        t.reg (rCaldProtRemap n) = BitVec.ofNat 32 (k + 2 ^ 16 * u + 2 ^ 31)) ∧
  (∀ (e : Fin 32) (r : Fin 1024) (s : State),
    let used := s.rfld (rCaldLmr e) 0 4
    let fails := fun (t : State) => SMap.get (fun _ => false) t.cal.lmFailing (1024 * e + r)
    let spare := fun (t : State) => SMap.get (fun _ => 0) t.cal.lmSpare (1024 * e + r)
    (fails s = false → exec (.lmRegionRepair e r) s = .next s) ∧
    (fails s = true → used < 8 → spare s = 0 → ∃ t, exec (.lmRegionRepair e r) s = .next t ∧ fails t = false ∧ spare t = used + 1 ∧
      t.rfld (rCaldLmr e) 0 4 = used + 1 ∧ t.rbit (rCaldLmr e) 4 = (used + 1 == 8)))

/-- MOVER_TAKE (R390), BUCKET_REFILL (R400, R402), DMA_RESET (R414). A free mover takes the work that comes first, unless a test
holds the movers back. A refill adds its share to every bucket, up to full. A reset empties the movers, the walks and the
translation cache, and every transfer goes on from its checkpoint. TRANSLATION_WALK (R280, R281): a walk whose entries are valid
puts its page first in the cache; any other records its fault and its level in CALD.XLT_FAULT. WINDOW_SET (R279): the root is
set or removed and the pages named are cached no more. Where the spec leaves a point open it follows the model's reading, log
entries 12 and 39. -/
def Obligations.MoversAndWindows : Prop :=
  (∀ s : State,
    (∀ m w, s.moversHeld = false → s.freeMover = some m → s.nextWork = some w → exec .moverTake s = .next (s.takeWork m w)) ∧
    (s.moversHeld = true ∨ s.freeMover = none ∨ s.nextWork = none → exec .moverTake s = .next s)) ∧
  (∀ s : State, SMap.wf (fun _ => copyFull) s.mov.copyTokens = true → ∃ t, exec .bucketRefill s = .next t ∧ t.mov.lastRefill = s.now ∧
    (∀ r, t.stream r = (s.stream r).map fun x => { x with tokens := min (x.tokens + s.refillInc x.share) x.fullBucket }) ∧
    (∀ c, t.copyTok c = min (s.copyTok c + s.refillInc (s.rfld (rDmaCap c) 16 11)) copyFull)) ∧
  (∀ s : State, ∃ t, exec .dmaReset s = .next t ∧ t.mov.movers = [] ∧ t.mov.walks = [] ∧ t.cal.tlb = [] ∧
    t.mov.resets = s.mov.resets + 1 ∧ t.mov.copies = s.mov.copies.map fun k => { k with issued := k.pos }) ∧
  (∀ (c : Fin 512) (page : BitVec 36) (e1 e2 e3 : BitVec 64) (err : Fin 4) (s : State) (v : Nat),
    let run := exec (.translationWalk c page e1 e2 e3 err) s
    s.walkOf c page.toNat = some v →
      (s.canIssue (s.funcOf c) = false → run = .next s) ∧
      (s.canIssue (s.funcOf c) = true → s.root c ≠ none →
        (∀ e, walkOutcome e1 e2 e3 err = .inr e → s.mov.movers = [] →
          ∃ t, run = .next t ∧ t.walkOf c page.toNat = none ∧ t.tlbFind c page.toNat = some (tlbOf c page.toNat e)) ∧
        (∀ cause level, walkOutcome e1 e2 e3 err = .inl (cause, level) → s.mov.movers = [] → ∃ t, run = .next t ∧
          t.walkOf c page.toNat = none ∧ t.reg rCaldXltFault = BitVec.ofNat 32 (c + 2 ^ 9 * cause + 2 ^ 12 * level + 2 ^ 31) ∧
          t.cal.tlb = s.cal.tlb))) ∧
  (∀ (c : Fin 512) (q : BitVec 32) (s : State) (d : OpenDesc), s.ready c q.toNat tWindowSet = some d → d.onlyUses [(16, 24)] = true →
    s.moversIssued c = true →
    (d.extra = 1 → d.num 16 8 % 32768 = 0 → ∃ t, exec (.windowSetRoot c q) s = .next t ∧ t.root c = some (d.num 16 8) ∧
      (∀ p, t.tlbFind c p = none) ∧ t.ended c q.toNat 0) ∧
    (d.extra = 1 → d.num 16 8 % 32768 ≠ 0 → ∃ t, exec (.windowSetRoot c q) s = .next t ∧ t.cal = s.cal ∧ t.ended c q.toNat 0x10) ∧
    (d.extra = 2 → ∃ t, exec (.windowSetDisable c q) s = .next t ∧ t.root c = none ∧ (∀ p, t.tlbFind c p = none) ∧
      t.ended c q.toNat 0) ∧
    (let a := d.num 24 8
     let n := d.num 32 8
     d.extra = 3 → 1 ≤ n → windowOk a n = true → SMap.wf (fun _ => []) s.cal.tlb = true → ∃ t,
      exec (.windowSetInvalidate c q) s = .next t ∧ t.root c = s.root c ∧ t.ended c q.toNat 0 ∧
      (∀ p, a / 65536 ≤ p → p ≤ (a + n - 1) / 65536 → t.tlbFind c p = none) ∧
      (∀ p, p < a / 65536 ∨ (a + n - 1) / 65536 < p → t.tlbFind c p = s.tlbFind c p)))

/-- DMA_COPY, CRC_CHECK and the completion of a piece (R402, R412, R413). A descriptor with a reserved extra or no length ends
BAD_DESC; a legal one whose context may not copy ends QUOTA; any other joins the copies with its fields. A piece of a check that
arrives in order advances the checkpoint and the running remainder; the last one ends it with OK or with the check mismatch; a
failed or poisoned piece ends it DMA_ERROR or POISON. Where the spec leaves a point open it follows the model's reading, log
entries 12 and 33. -/
def Obligations.CopiesAndChecks : Prop :=
  (∀ (c : Fin 512) (q : BitVec 32) (s : State) (d : OpenDesc), s.ready c q.toNat tDmaCopy = some d →
    let k : Copy := {
      ctx := c, seq := q.toNat, src := d.num 16 8, dst := d.num 24 8, len := d.num 32 4, srcCal := d.num 36 1 == 1
      dstCal := d.num 37 1 == 1, isCheck := false, check := d.num 38 1, expect := d.num 40 4, rem := crcInit (d.num 38 1)
      start := s.now }
    (d.extra ≠ 0 ∨ k.len = 0 → ∃ t, exec (.dmaCopy c q) s = .next t ∧ t.ended c q.toNat 0x10 ∧ t.mov = s.mov) ∧
    (d.extra = 0 → d.onlyUses [(16, 23), (40, 4)] = true → 1 ≤ k.len → d.num 36 1 < 2 → d.num 37 1 < 2 → k.check < 5 →
      s.sideOk c k.srcCal k.src k.len = true → s.sideOk c k.dstCal k.dst k.len = true →
      (s.copyBarred c k = true → ∃ t, exec (.dmaCopy c q) s = .next t ∧ t.ended c q.toNat 0x12 ∧ t.mov = s.mov) ∧
      (s.copyBarred c k = false → ∃ t, exec (.dmaCopy c q) s = .next t ∧ t.mov.copies = s.mov.copies ++ [k] ∧
        t.findDesc c q.toNat = some { d with started := true }))) ∧
  (∀ (c : Fin 512) (q : BitVec 32) (s : State) (d : OpenDesc), s.ready c q.toNat tCrcCheck = some d →
    let k : Copy := {
      ctx := c, seq := q.toNat, src := d.num 16 8, dst := 0, len := d.num 28 4, srcCal := d.num 24 1 == 1, dstCal := false
      isCheck := true, check := d.num 32 1, expect := d.num 36 4, rem := crcInit (d.num 32 1), start := s.now }
    (d.extra ≠ 0 ∨ k.len = 0 ∨ k.check = 0 ∨ 5 ≤ k.check →
      ∃ t, exec (.crcCheck c q) s = .next t ∧ t.ended c q.toNat 0x10 ∧ t.mov = s.mov) ∧
    (d.extra = 0 → d.onlyUses [(16, 9), (28, 5), (36, 4)] = true → 1 ≤ k.len → d.num 24 1 < 2 → 1 ≤ k.check → k.check < 5 →
      s.sideOk c k.srcCal k.src k.len = true → s.copyBarred c k = false →
      ∃ t, exec (.crcCheck c q) s = .next t ∧ t.mov.copies = s.mov.copies ++ [k] ∧
        t.findDesc c q.toNat = some { d with started := true })) ∧
  (∀ (m : Fin 64) (data : List Byte) (s : State) (j : Job) (c q : Nat) (k : Copy) (d : OpenDesc),
    s.awaited m = some j → j.work = .copy c q k.pos data.length → s.copyOf c q = some k → s.findDesc c q = some d → d.result = none →
    (k.isCheck = true →
      let rem := if k.check = 0 then 0 else crcStep k.check k.rem data
      (k.pos + data.length < k.len → ∃ t, exec (.copyPieceCompletion m data 0) s = .next t ∧
        t.copyOf c q = some { k with pos := k.pos + data.length, rem := rem } ∧ SMap.get (fun _ => none) t.mov.movers m = none) ∧
      (k.len ≤ k.pos + data.length → ∃ t, exec (.copyPieceCompletion m data 0) s = .next t ∧ t.copyOf c q = none ∧
        t.ended c q (if k.check ≠ 0 ∧ crcEnd k.check rem ≠ k.expect then 0x21 else 0))) ∧
    (∃ t, exec (.copyPieceCompletion m data 1) s = .next t ∧ t.copyOf c q = none ∧ t.ended c q 0x20) ∧
    (∃ t, exec (.copyPieceCompletion m data 2) s = .next t ∧ t.copyOf c q = none ∧ t.ended c q 0x22))

/-- LINE_MAP, LINE_ACTIVATION, UNMAP, UNMAP_COMPLETE (R284, R292 to R294): a legal, admitted mapping leaves the line FILLING
with its owner and its activation tick; an illegal one ends BAD_DESC, one that does not fit QUOTA. At its activation tick a
FILLING line becomes ACTIVE, its descriptor is written, and LINE_MAP ends OK, or late if a chunk that can be read is not valid.
UNMAP leaves the line DRAINING; once its write band has been written back it is UNMAPPED. Where the spec leaves a point open it
follows the model's reading, log entry 38. -/
def Obligations.LineLifetimes : Prop :=
  (∀ (c : Fin 512) (q : BitVec 32) (s : State) (d : OpenDesc), s.ready c q.toNat tLineMap = some d →
    let n := d.extra % 4096
    let l := lineOf s c q.toNat d
    let m := s.line n
    (d.extra < 2 ^ 15 →
      (s.lineOk d l = false ∨ s.lineSt n ≠ 0 → ∃ t, exec (.lineMap c q) s = .next t ∧ t.ended c q.toNat 0x10 ∧ t.cal = s.cal) ∧
      (s.lineOk d l = true → s.lineSt n = 0 → s.islandGone (l.eng / 4) = false → s.quarterGone (16 * l.stageQ) = false →
        (s.proxyOn = true ∨ s.lineFits l = false →
          ∃ t, exec (.lineMap c q) s = .next t ∧ t.ended c q.toNat 0x12 ∧ t.cal = s.cal) ∧
        (s.proxyOn = false → s.lineFits l = true → ∃ t, exec (.lineMap c q) s = .next t ∧ t.lineSt n = 1 ∧
          (t.line n).mapped = true ∧ (t.line n).owner = c ∧ (t.line n).act = l.act ∧ (t.line n).chunks = [] ∧
          t.findDesc c q.toNat = some { d with started := true, granted := true }))) ∧
    (d.extra / 4096 = 8 →
      (s.lineSt n ≠ 2 ∨ m.owner ≠ c → ∃ t, exec (.unmap c q) s = .next t ∧ t.ended c q.toNat 0x10 ∧ t.cal = s.cal) ∧
      (s.lineSt n = 2 → m.owner = c → d.onlyUses [(16, 47)] = true → ∃ t, exec (.unmap c q) s = .next t ∧ t.lineSt n = 3 ∧
        t.line n = { m with drainAt := (s.lineT m + 1).toNat, seq := q.toNat } ∧
        (s.islandOff (m.eng / 4) = false →
          SMap.get (fun _ => (0, 0, 0)) (t.engine m.eng).dldWait m.dld = m.dldWords n false)))) ∧
  (∀ (n : Fin 4096) (s : State) (d : OpenDesc),
    let l := s.line n
    s.findDesc l.owner l.seq = some d → d.result = none →
      (s.lineSt n = 1 → l.act ≤ s.lineT l → s.islandOff (l.eng / 4) = false → l.eng < 32 → l.dld < 64 →
        ∃ t, exec (.lineActivation n) s = .next t ∧ t.lineSt n = 2 ∧ t.ended l.owner l.seq (if l.readyAt then 0 else 0x23) ∧
          t.reg (rEngDldW0 l.eng l.dld) = (l.dldWords n true).1) ∧
      (s.lineSt n = 3 → l.drainAt ≤ s.lineT l → (l.wmax = none ∨ l.drainAt ≤ l.wbNext) → l.chunks = [] →
        ∃ t, exec (.unmapComplete n) s = .next t ∧ t.line n = {} ∧ t.lineSt n = 0 ∧ t.ended l.owner l.seq 0))

/-- Chunks of a host line (R286 to R291). A read-band chunk that a tap will read within the lead is queued for a mover; a
write-band chunk whose frames are complete is queued, and the next one follows it. At its deadline a chunk that is not valid is
missed: the line counts it, its flag is set. The data of a prefetch makes its chunk valid, a failed read makes it failed. Where
the spec leaves a point open it follows the model's reading, log entry 38. -/
def Obligations.LineChunks : Prop :=
  (∀ (n : Fin 4096) (u0 : Int) (s : State) (lo hi : Nat),
    let p := s.pruneLine n
    let l := p.line n
    let T := s.lineT l
    l.rd = some (lo, hi) → (s.lineSt n = 1 ∨ s.lineSt n = 2) → u0 % (l.c : Int) = 0 → l.act ≤ l.lastRead u0 → T ≤ l.lastRead u0 →
      l.chunk u0 true = none → l.wbDone u0 = true →
      (u0 + lo - l.lead ≤ T → ∃ t, exec (.prefetchChunkIssue n u0) s = .next t ∧
        t.mov.chunks = s.mov.chunks ++ [(n.val, u0, true)] ∧
        (t.line n).chunk u0 true = some { u0 := u0, read := true, st := .queued }) ∧
      (T < u0 + lo - l.lead → exec (.prefetchChunkIssue n u0) s = .next p)) ∧
  (∀ (n : Fin 4096) (s : State) (m : Nat),
    let l := (s.pruneLine n).line n
    let u0 := l.wbNext
    l.wmax = some m → s.lineSt n = 2 →
      (u0 + l.c + m ≤ s.lineT l → ∃ t, exec (.writebackChunkIssue n) s = .next t ∧
        t.mov.chunks = s.mov.chunks ++ [(n.val, u0, false)] ∧ (t.line n).wbNext = u0 + l.c ∧
        (t.line n).chunk u0 false = some { u0 := u0, read := false, st := .queued }) ∧
      (s.lineT l < u0 + l.c + m → exec (.writebackChunkIssue n) s = .next (s.pruneLine n))) ∧
  (∀ (n : Fin 4096) (u0 : Int) (s : State) (k : Chunk) (lo hi : Nat),
    let l := s.line n
    let T := s.lineT l
    l.rd = some (lo, hi) → (s.lineSt n = 1 ∨ s.lineSt n = 2) → u0 % (l.c : Int) = 0 → l.act ≤ l.lastRead u0 → T ≤ l.lastRead u0 →
      l.chunk u0 true = some k → u0 + lo ≤ T → l.act ≤ T →
      (k.missed = false → k.st ≠ .valid → ∃ t, exec (.chunkDeadline n u0 true) s = .next t ∧
        (t.line n).chunk u0 true = some { k with missed := true } ∧ t.rbit (rCaldHlW0 n) 31 = true ∧
        t.rfld (rCaldHlW0 n) 0 16 = min (s.rfld (rCaldHlW0 n) 0 16 + 1) 65535) ∧
      (k.missed = true ∨ k.st = .valid → exec (.chunkDeadline n u0 true) s = .next s)) ∧
  (∀ (m : Fin 64) (data : List Byte) (s : State) (j : Job) (n : Nat) (u0 : Int) (k : Chunk),
    let l := s.line n
    s.awaited m = some j → j.work = .chunk n u0 true → l.chunk u0 true = some k → (s.lineSt n = 1 ∨ s.lineSt n = 2) →
      (data.length = 4 * l.f * l.c → s.lineT l ≤ l.lastRead u0 → ∃ t, exec (.chunkCompletion m data 0) s = .next t ∧
        (t.line n).chunk u0 true = some { k with st := .valid } ∧ SMap.get (fun _ => none) t.mov.movers m = none) ∧
      (∃ t, exec (.chunkCompletion m data 1) s = .next t ∧ (t.line n).chunk u0 true = some { k with st := .failed } ∧
        SMap.get (fun _ => none) t.mov.movers m = none))

/-- STREAM_OPEN, STREAM_CLOSE, STREAM_ENTRY_COMPLETE and the completion of a burst (R392 to R399, R405, R408). A legal stream
within the budgets takes the lowest free number and ends OK; an illegal one ends BAD_DESC, one beyond them QUOTA. A silent
playback stream with no entries closes at once. The entry at the consumer index leaves the ring once it has a status. The frames
of a burst join the FIFO; a failed burst gives its entry DMA_ERROR or POISON. Where the spec leaves a point open it follows the
model's reading, log entries 43 and 44. -/
def Obligations.Streams : Prop :=
  (∀ (c : Fin 512) (q : BitVec 32) (s : State) (d : OpenDesc), s.ready c q.toNat tStreamOpen = some d →
    let x := streamOf c d
    let budget := min 1024 (s.rfld rDmaBudget (if x.capture then 16 else 0) 11)
    let area := s.assignedRange c (16 * x.fq) (4 * x.words * x.fifoFrames)
    (streamFieldsOk d x = false ∨ s.ringStream c x.ring ≠ none ∨ area = false →
      ∃ t, exec (.streamOpen c q) s = .next t ∧ t.ended c q.toNat 0x10 ∧ t.mov = s.mov) ∧
    (streamFieldsOk d x = true → s.ringStream c x.ring = none → area = true → s.proxyOn = false → ∀ r, s.freeStream = some r →
      (s.ctxLoad c x.capture + x.share ≤ s.rfld (rDmaCap c) 0 11 → s.shareSum x.capture + x.share ≤ budget →
        ∃ t, exec (.streamOpen c q) s = .next t ∧ t.stream r = some x ∧ t.ended c q.toNat 0) ∧
      (s.rfld (rDmaCap c) 0 11 < s.ctxLoad c x.capture + x.share ∨ budget < s.shareSum x.capture + x.share →
        ∃ t, exec (.streamOpen c q) s = .next t ∧ t.ended c q.toNat 0x12 ∧ t.mov = s.mov))) ∧
  (∀ (c : Fin 512) (q : BitVec 32) (s : State) (d : OpenDesc), s.ready c q.toNat tStreamClose = some d →
    (s.ringStream c (d.extra % 16) = none → ∃ t, exec (.streamClose c q) s = .next t ∧ t.ended c q.toNat 0x10 ∧ t.mov = s.mov) ∧
    (∀ r x, s.ringStream c (d.extra % 16) = some (r, x) → s.stream r = some x → d.extra / 16 = 0 → d.onlyUses [] = true →
      x.closing = false → x.capture = false → x.entries = [] → x.fade.st = .silent →
      ∃ t, exec (.streamClose c q) s = .next t ∧ t.stream r = none ∧ t.ended c q.toNat (if x.st = 4 then 0x24 else 0))) ∧
  (∀ (r : Fin 4096) (s : State) (x : Stream) (e : StrEnt) (rest : List StrEnt),
    s.stream r = some x → x.closing = false → x.entries = e :: rest →
      (e.status = none → exec (.streamEntryComplete r) s = .next s) ∧
      (e.status ≠ none → ∃ t, exec (.streamEntryComplete r) s = .next t ∧
        t.stream r = some { x with cons := x.cons + 1, entries := rest })) ∧
  (∀ (m : Fin 64) (data : List Byte) (s : State) (j : Job) (r ent off n : Nat) (x : Stream) (e : StrEnt),
    let i := x.entIndex ent
    s.awaited m = some j → j.work = .burst r ent off n → s.stream r = some x → x.entries[i]? = some e → e.status = none →
      s.burstBehind r ent off = false →
      (data.length = n * x.hostFrame → ∃ t y, exec (.burstCompletion m data 0) s = .next t ∧ t.stream r = some y ∧
        y.wr = x.wr + n ∧ y.entries = setAt x.entries i { e with moved := e.moved + n, start := if e.moved = 0 then x.wr else e.start }) ∧
      (∃ t y, exec (.burstCompletion m data 1) s = .next t ∧ t.stream r = some y ∧
        y.entries = setAt x.entries i { e with status := some 0x20 } ∧ y.fail = min 65535 (x.fail + 1)) ∧
      (∃ t y, exec (.burstCompletion m data 2) s = .next t ∧ t.stream r = some y ∧
        y.entries = setAt x.entries i { e with status := some 0x22 } ∧ y.fail = min 65535 (x.fail + 1)))

/-- Routing (R247, R318 to R325). GAIN_SET, ROUTE_SET and ROUTE_CLEAR with legal fields and no group are staged for the next
tick boundary and start; ones that name what their context does not hold end as BAD_DESC, and a group that is busy holds them
back. Engine output ports are read once every engine has begun the tick. Where the spec leaves a point open it follows the
model's reading, log entry 65. -/
def Obligations.Routing : Prop :=
  ∀ (s : State) (c : Fin 512) (q : BitVec 32) (d : OpenDesc), d.group = none → d.groupOk = true →
    rampByteOk (d.num 28 1) = true → rampByteOk (d.num 24 1) = true →
    let a := d.num 18 2
    let n := d.num 16 2
    let e := d.num 24 1
    (s.ready c q.toNat tGainSet = some d → d.num 16 1 = 0 → d.num 20 2 = 0 → a < 256 → s.rbit (rFabRampW0 a) 31 = true →
      s.rfld (rFabRampW0 a) 0 9 = c.val → d.onlyUses [(16, 1), (18, 4), (24, 5)] = true →
      let m := Member.gain (.helper a) (BitVec.ofNat 32 (d.num 24 4)) (d.num 28 1 % 16) (decide (16 ≤ d.num 28 1)) c q.toNat
      s.heldElsewhere none m.objects = false → ∃ t, exec (.gainSet c q) s = .next t ∧ t.par.next = s.par.next ++ [m] ∧
        (t.findDesc c q.toNat).map (·.started) = some true) ∧
    (s.ready c q.toNat tGainSet = some d → d.num 16 1 = 0 → (s.rbit (rFabRampW0 a) 31 = false ∨ s.rfld (rFabRampW0 a) 0 9 ≠ c.val) →
      ∃ t, exec (.gainSet c q) s = .next t ∧ t.ended c q.toNat 0x10 ∧ t.par = s.par) ∧
    (s.ready c q.toNat tRouteSet = some d → d.onlyUses [(16, 8), (24, 1)] = true → s.addrDom n true ≠ none →
      s.addrDom n true = s.addrDom a false → s.addrDom n true ≠ some 3 → s.holdsAddr c n true = true →
      s.holdsAddr c a false = true → s.helperLane a = false → s.findXp n a = none →
      (s.par.next.any fun | .routeSet a' b' .. => a' == n && b' == a | _ => false) = false →
      let m := Member.routeSet n a c (BitVec.ofNat 32 (d.num 20 4)) (e % 16) (decide (16 ≤ e)) true c q.toNat
      s.heldElsewhere none m.objects = false → s.xpQuota a = false → ∃ t, exec (.routeSet c q) s = .next t ∧
        t.par.next = s.par.next ++ [m] ∧ (t.findDesc c q.toNat).map (·.started) = some true) ∧
    (s.ready c q.toNat tRouteSet = some d → s.holdsAddr c n true = false → ∃ t, exec (.routeSet c q) s = .next t ∧
      t.ended c q.toNat 0x10 ∧ t.par = s.par) ∧
    (∀ k, s.ready c q.toNat tRouteClear = some d → d.onlyUses [(16, 4), (24, 1)] = true → s.findXp n a = some k →
      (s.xp k).owner = c.val →
      let m := Member.routeClear n a (e % 16) (decide (16 ≤ e)) c q.toNat
      s.heldElsewhere none m.objects = false → ∃ t, exec (.routeClear c q) s = .next t ∧ t.par.next = s.par.next ++ [m] ∧
        (t.findDesc c q.toNat).map (·.started) = some true)

/-- Bridges, resamplers and the reads of engine ports (R204, R328 to R342). A disabled bridge takes a write; an enabled one lets
only EN change, and any other change sets bit 30. A disabled ASRC channel takes a write that leaves it disabled; an enabled one
lets only EN change (bit 9 of CHn_STAT otherwise). ASRC_LOCK of a searching channel gives it its ratio; ASRC_UNLOCK of a locked
TRACK channel loses lock, which it records and counts. Ports already read stay as they are. Where the spec leaves a point open
it follows the model's reading, log entries 45 and 46. -/
def Obligations.BridgesAndResamplers : Prop :=
  ∀ (s : State),
    (∀ late : BitVec 32, s.route.computed = true → exec (.enginePortRead late) s = .next s) ∧
    (∀ late : BitVec 32, s.route.computed = false → s.eng = [] → exec (.enginePortRead late) s = .next s.computeSinks) ∧
    (∀ (b : Fin 64) (v : BitVec 32), s.rbit (rRouteBrg b) 31 = false → bit v 30 = false → bit v 31 = false →
      exec (.brgWrite b v) s = .next (s.setReg (rRouteBrg b) ((v &&& 0x8001FF03) ||| (s.reg (rRouteBrg b) &&& 0x40000000)))) ∧
    (∀ (b : Fin 64) (v : BitVec 32), s.rbit (rRouteBrg b) 31 = true → bit v 30 = false →
      v &&& 0x8001FF03 = s.reg (rRouteBrg b) &&& 0x0001FF03 →
      exec (.brgWrite b v) s = .next (s.setBit (rRouteBrg b) 31 false)) ∧
    (∀ (b : Fin 64) (v : BitVec 32), s.rbit (rRouteBrg b) 31 = true → bit v 30 = false →
      v &&& 0x0001FF03 ≠ s.reg (rRouteBrg b) &&& 0x0001FF03 →
      exec (.brgWrite b v) s = .next (s.setBit (rRouteBrg b) 30 true)) ∧
    (∀ (n : Fin 256) (v : BitVec 32), s.rbit (rAsrcCfg0 n) 31 = false → bit v 31 = false →
      exec (.asrcCfg0Write n v) s = .next (s.setReg (rAsrcCfg0 n) v)) ∧
    (∀ (n : Fin 256) (v : BitVec 32), s.rbit (rAsrcCfg0 n) 31 = true → v ≠ s.reg (rAsrcCfg0 n) →
      v ≠ putBit (s.reg (rAsrcCfg0 n)) 31 false → exec (.asrcCfg0Write n v) s = .next (s.setBit (rAsrcStat n) 9 true)) ∧
    (∀ n : Fin 256, s.rbit (rAsrcCfg0 n) 31 = true → ∃ t,
      exec (.asrcCfg0Write n (putBit (s.reg (rAsrcCfg0 n)) 31 false)) s = .next t ∧ t.rfld (rAsrcStat n) 0 2 = 0 ∧
        t.rbit (rAsrcCfg0 n) 31 = false ∧ t.asrc n = {}) ∧
    (∀ (n : Fin 256) (r : BitVec 32), s.rfld (rAsrcStat n) 0 2 = 1 → ∃ t, exec (.asrcLock n r) s = .next t ∧
      t.rfld (rAsrcStat n) 0 2 = 2 ∧ t.reg (rAsrcRatio n) = r) ∧
    (∀ n : Fin 256, s.rfld (rAsrcStat n) 0 2 = 2 → s.rbit (rAsrcCfg0 n) 17 = false → ∃ t,
      exec (.asrcUnlock n) s = .next t ∧ t.rfld (rAsrcStat n) 0 2 = 1 ∧ t.rbit (rAsrcStat n) 8 = true ∧
      t.rfld (rAsrcStat n) 16 8 = min (s.rfld (rAsrcStat n) 16 8 + 1) 255)

/-- NOP, FENCE and CANCEL (R367, R380, R381). NOP and FENCE complete with OK, or with BAD_DESC if a field they do not use is
set; a FENCE starts only when every earlier descriptor has its record. A CANCEL of a descriptor that has not won its grant ends
it as CANCELLED and itself as OK; a CANCEL of one that has is CANCEL_LATE. A descriptor that may not start yet stays as it is.
Acceptance and completion (R363 to R372). A fetched descriptor is accepted with the expected sequence number, or held while the
context may not take it; a failed fetch is recorded and repeated 1 ms later. A descriptor whose effect is complete writes its
mark, its sequence and status, into its slot of the journal. The next record in ring order goes to W, and the completion
interrupt, when due, clears what it reports. Where the spec leaves a point open it follows the model's reading, log entries 33
and 34. -/
def Obligations.AcceptanceAndCompletion : Prop :=
  (∀ (s : State) (c : Fin 512) (q : BitVec 32),
    (s.ready c q.toNat 0x01 = none → exec (.nopDesc c q) s = .next s) ∧
    (s.ready c q.toNat 0x02 = none → exec (.fence c q) s = .next s) ∧
    (∀ d, s.ready c q.toNat 0x01 = some d → ∃ t, exec (.nopDesc c q) s = .next t ∧
      t.ended c q.toNat (if d.extra = 0 ∧ d.onlyUses [] = true then 0 else 0x10) ∧ t.regs = s.regs) ∧
    (∀ d, s.ready c q.toNat 0x02 = some d → ∃ t, exec (.fence c q) s = .next t ∧
      t.ended c q.toNat (if d.extra = 0 ∧ d.onlyUses [] = true then 0 else 0x10) ∧
      ∀ p ∈ (s.context c).opens.takeWhile (fun p => p.seq != q.toNat), p.record = true) ∧
    (∀ d x, s.ready c q.toNat tCancel = some d → d.extra = 0 → d.onlyUses [(16, 4)] = true → d.num 16 4 ≠ q.toNat →
      (s.context c).accepted (BitVec.ofNat 32 (d.num 16 4)) = true → (q - BitVec.ofNat 32 (d.num 16 4)).toNat < 2 ^ 31 →
      s.findDesc c (d.num 16 4) = some x → neverCancelled x.typ = false →
      (x.granted = false → x.result = none → exec (.cancel c q) s = .next ((s.cancelDesc c x).finish c q.toNat 0)) ∧
      (x.granted = true → ∃ t, exec (.cancel c q) s = .next t ∧ t.ended c q.toNat 3 ∧ t.findDesc c (d.num 16 4) = some x))) ∧
  (∀ (s : State) (c : Fin 512),
    let x := s.context c
    (∀ b, s.proxyOn = false → (s.pcie.outst.any fun o => o.who == .fetch c) = true → s.ctxState c = 1 → s.fetchStopped = false →
      s.heldDesc c (fld b 0 8) = false → ∃ t, exec (.descriptorAccept c (some b)) s = .next t ∧
        (t.context c).opens = x.opens ++ [s.openOf c b] ∧ (t.context c).c = x.c + 1 ∧ (t.context c).nextSeq = x.nextSeq + 1) ∧
    (∀ b, s.proxyOn = false → (s.pcie.outst.any fun o => o.who == .fetch c) = true → s.ctxState c = 1 → s.fetchStopped = false →
      s.heldDesc c (fld b 0 8) = true → exec (.descriptorAccept c (some b)) s = .next (s.setBit (rCtxtStat c) 11 true)) ∧
    (s.proxyOn = false → (s.pcie.outst.any fun o => o.who == .fetch c) = true → ∃ t,
      exec (.descriptorAccept c none) s = .next t ∧ t.rbit (rCtxtErr c) 1 = true ∧ (t.context c).fetchFail = some s.now ∧
      (t.context c).opens = x.opens) ∧
    (∀ k, x.fetchFail = some k → k + 1228800 ≤ s.now → ∃ t, exec (.fetchRetry c) s = .next t ∧ (t.context c).fetchFail = none) ∧
    (∀ k, x.fetchFail = some k → s.now < k + 1228800 → exec (.fetchRetry c) s = .next s) ∧
    (∀ (q : BitVec 32) d st, s.findDesc c q.toNat = some d → d.result = some st → d.mark = false → ∃ t,
      exec (.descriptorFinish c q) s = .next t ∧
      SMap.get (fun _ => 0) (t.context c).marks (q.toNat % 16) = BitVec.ofNat 32 (q.toNat % 2 ^ 24 + 2 ^ 24 * st) ∧
      (t.context c).update = x.update + 1 ∧ (t.findDesc c q.toNat).map (·.mark) = some true) ∧
    (∀ d st, (x.opens.find? fun d => !d.record) = some d → d.result = some st → d.mark = true → d.notBefore ≤ s.now →
      s.ctxState c ≠ 0 → x.quiet = false → s.canIssue (s.funcOf c) = true → ∃ t, exec (.completionRecord c) s = .next t ∧
        (t.context c).w = x.w + 1 ∧ (t.context c).lastDone = BitVec.ofNat 32 d.seq ∧
        (t.context c).recSince = x.recSince + 1 ∧ (t.context c).irqDue = (x.irqDue || d.irq || decide (2 ≤ st))) ∧
    ((max 1 (s.rfld (rCtxtMod c) 16 8) ≤ x.recSince ∨ x.irqDue = true) →
      (∀ k, x.lastIrq = some k → k + s.rfld (rCtxtMod c) 0 16 * 12288 / 10 ≤ s.now) → ∃ t,
        exec (.completionInterrupt c) s = .next t ∧ (t.context c).recSince = 0 ∧ (t.context c).irqDue = false ∧
        (t.context c).lastIrq = some s.now) ∧
    (x.recSince < max 1 (s.rfld (rCtxtMod c) 16 8) → x.irqDue = false → exec (.completionInterrupt c) s = .next s))

/-- Doorbells and the commands of a context (R357 to R359, R375 to R378). A doorbell in range sets P, K with the event count, or
a stream's producer index; one out of range sets bit 0 of CTXn_ERR and nothing else. A fresh ENABLE with no journal makes the
context ACTIVE; an ENABLE whose record cannot be read, a DISABLE of a context that is not running and a RESET of one that is not
DISABLED are rejected (bit 30 of CTXn_CMD). A RESET leaves an empty context. Where the spec leaves a point open it follows the
model's reading, log entries 8 and 35. -/
def Obligations.ContextCommands : Prop :=
  ∀ (s : State) (f : Fin 64) (page : Fin 512) (k : Nat),
    (if f.val = 0 then (s.fn 0).mse else s.pcie.vfMse) = true → s.doorbellCtx f page = some k → s.minPath = false →
    (s.ctxState k = 1 ∨ s.ctxState k = 3) →
    let x := s.context k
    (∀ v : BitVec 32, (v - x.c).toNat ≤ 2 ^ s.rfld (rCtxtSize k) 0 5 → ∃ t, exec (.commandProducer f page v) s = .next t ∧
      t.context k = { x with p := v }) ∧
    (∀ v : BitVec 32, 2 ^ s.rfld (rCtxtSize k) 0 5 < (v - x.c).toNat →
      exec (.commandProducer f page v) s = .next (s.setBit (rCtxtErr k) 0 true)) ∧
    (∀ v ev : BitVec 32, (v - x.k).toNat ≤ (x.w - x.k).toNat → ∃ t, exec (.completionConsumer f page v ev) s = .next t ∧
      (t.context k).k = v ∧ (t.context k).evCons = ev ∧ (t.context k).w = x.w) ∧
    (∀ v ev : BitVec 32, (x.w - x.k).toNat < (v - x.k).toNat →
      exec (.completionConsumer f page v ev) s = .next (s.setBit (rCtxtErr k) 0 true)) ∧
    (∀ (n : Fin 16) (v : BitVec 32) es r y, s.ringStream k n = some (r, y) → (v - y.cons).toNat ≤ y.size → y.closing = false →
      es.length = (v - y.prod).toNat → ∃ t, exec (.streamRingProducer f page n v es) s = .next t ∧
        t.stream r = some { y with prod := v, entries := y.entries ++ es.map y.entryOf }) ∧
    (∀ (n : Fin 16) (v : BitVec 32) es r y, s.ringStream k n = some (r, y) → y.size < (v - y.cons).toNat →
      exec (.streamRingProducer f page n v es) s = .next (s.setBit (rCtxtErr k) 0 true))

/-- The commands of a context (R357, R375 to R378). A fresh ENABLE with no valid journal makes the context ACTIVE with the start
sequence of its record; one with a journal goes on from it, and replays up to 16 sequences; an ENABLE with neither (bit 5 of
CTXn_ERR), or that the configuration forbids, or whose record cannot be read (bit 2 of CTXn_ERR), is rejected (bit 30 of
CTXn_CMD). So is a DISABLE of a context that is DISABLED or STOPPING, and a RESET of one that is not DISABLED. A DISABLE of a
running context without open descriptors ends DISABLED. A RESET leaves an empty context. Where the spec leaves a point open it
follows the model's reading, log entry 35. -/
def Obligations.ContextStates : Prop :=
  ∀ (s : State) (c : Fin 512),
    (∀ (a b : BitVec 1024) (host : BitVec 160) (tags : List (BitVec 64)), (s.ctxCmdW c 1 true).enableOk c = true →
      pickJournal (s.context c) (newestMirror c a b) = none → ∃ t, exec (.ctxEnable c true a b host tags true) s = .next t ∧
        t.ctxState c = 1 ∧ (t.context c).nextSeq = host.extractLsb' 96 32 ∧ (t.context c).evCons = host.extractLsb' 128 32 ∧
        (t.context c).opens = []) ∧
    (∀ (fresh ok : Bool) (a b : BitVec 1024) (host : BitVec 160) (tags : List (BitVec 64)),
      (s.ctxCmdW c 1 fresh).enableOk c = false → ∃ t, exec (.ctxEnable c fresh a b host tags ok) s = .next t ∧
        t.rbit (rCtxtCmd c) 30 = true ∧ t.ctx = s.ctx ∧ t.ctxState c = s.ctxState c) ∧
    (∀ (fresh : Bool) (a b : BitVec 1024) (host : BitVec 160) (tags : List (BitVec 64)),
      (s.ctxCmdW c 1 fresh).enableOk c = true → ∃ t, exec (.ctxEnable c fresh a b host tags false) s = .next t ∧
        t.rbit (rCtxtErr c) 2 = true ∧ t.rbit (rCtxtCmd c) 30 = true ∧ t.ctx = s.ctx) ∧
    (∀ (a b : BitVec 1024) (host : BitVec 160) (tags : List (BitVec 64)) j, (s.ctxCmdW c 1 false).enableOk c = true →
      pickJournal (s.context c) (newestMirror c a b) = some j → ∃ t, exec (.ctxEnable c false a b host tags true) s = .next t ∧
        t.ctxState c = 1 ∧ (t.context c).c = j.c ∧ (t.context c).nextSeq = j.nextSeq ∧ (t.context c).opens.length =
          min 16 (j.nextSeq - 1 - (if bit host 64 then host.extractLsb' 0 32 else j.lastDone)).toNat) ∧
    (∀ (a b : BitVec 1024) (host : BitVec 160) (tags : List (BitVec 64)), (s.ctxCmdW c 1 false).enableOk c = true →
      pickJournal (s.context c) (newestMirror c a b) = none → ∃ t, exec (.ctxEnable c false a b host tags true) s = .next t ∧
        t.rbit (rCtxtErr c) 5 = true ∧ t.rbit (rCtxtCmd c) 30 = true ∧ t.ctx = s.ctx) ∧
    ((s.ctxState c = 0 ∨ s.ctxState c = 2) → ∃ t, exec (.ctxDisable c) s = .next t ∧ t.rbit (rCtxtCmd c) 30 = true ∧
      t.ctx = s.ctx) ∧
    ((s.ctxState c = 1 ∨ s.ctxState c = 3) → (s.context c).opens = [] → ∃ t, exec (.ctxDisable c) s = .next t ∧
      t.ctxState c = 0 ∧ (t.context c).fetchFail = none) ∧
    (s.ctxState c ≠ 0 → ∃ t, exec (.ctxReset c) s = .next t ∧ t.rbit (rCtxtCmd c) 30 = true ∧ t.ctx = s.ctx) ∧
    (s.ctxState c = 0 → ∃ t, exec (.ctxReset c) s = .next t ∧ t.context c = {} ∧
      ∀ p ∈ t.route.xps, p.2.owner ≠ c.val)

/-- PCIe functions and resets (R426, R429, R439 to R442, R446, R449). An FLR of an enabled function clears its enables and its
MSI-X table and drops its requests, and leaves the other functions their own; one of an absent function is an unsupported
request. A PF FLR, a hot reset and a link-down disable every VF; the last two also clear TOP.PCIE_STAT and the requests on their
way, and say so in TOP.PCIE_EVT. Command, power-state and MSI-X writes change their bits; an unmasked pending vector is sent.
Where the spec leaves a point open it follows the model's reading, log entries 40 and 42. -/
def Obligations.PcieFunctions : Prop :=
  ∀ (s : State),
    (∀ (f : Fin 64) (dc dc2 lc : BitVec 16),
      (s.fnEnabled f = false → ∃ t, exec (.flr f dc dc2 lc) s = .next t ∧ (t.fn 0).uncor.getLsbD aerUnsupported = true ∧ t.ctx = s.ctx) ∧
      (f.val ≠ 0 → s.fnEnabled f = true →
        (bit dc 15 = false → exec (.flr f dc dc2 lc) s = .next s) ∧
        (bit dc 15 = true → ∃ t, exec (.flr f dc dc2 lc) s = .next t ∧ (t.fn f).bme = false ∧ (t.fn f).msixEn = false ∧
          (t.fn f).mse = false ∧ (∀ n, n < 1024 → t.msixEntry f n = {}) ∧ (∀ o ∈ t.pcie.outst, o.func ≠ f) ∧
          ∀ g, g ≠ f.val → t.fn g = s.fn g))) ∧
    (∃ t, exec .pfFlr s = .next t ∧ t.pcie.vfEn = false ∧ t.pcie.numVfs = 0 ∧ (t.fn 0).bme = false ∧ t.pcie.trained = false) ∧
    (∀ ctl num : BitVec 16,
      (s.rbit rTopPcieStat 16 = true → exec (.vfEnableClear ctl num) s = .next s) ∧
      (s.rbit rTopPcieStat 16 = false → ∃ t, exec (.vfEnableClear ctl num) s = .next t ∧ t.pcie.vfEn = bit ctl 0 ∧
        t.pcie.vfMse = bit ctl 3 ∧ t.pcie.numVfs = (if s.pcie.vfEn then s.pcie.numVfs else min 63 num.toNat) ∧
        (s.pcie.vfEn = true → bit ctl 0 = false → ∀ f, 1 ≤ f → f ≤ s.pcie.numVfs → (t.fn f).bme = false))) ∧
    (∃ t, exec .hotReset s = .next t ∧ t.reg rTopPcieStat = 0 ∧ t.rbit rTopPcieEvt 0 = true ∧ t.pcie.outst = [] ∧ t.fab.outq = [] ∧
      t.pcie.vfEn = false) ∧
    (∃ t, exec .dlDown s = .next t ∧ t.reg rTopPcieStat = 0 ∧ t.rbit rTopPcieEvt 1 = true ∧ t.pcie.outst = [] ∧ t.fab.outq = [] ∧
      t.pcie.vfEn = false) ∧
    (∀ v : BitVec 16, ∃ t, exec (.powerStateChange v) s = .next t ∧ t.pcie.pmeEn = bit v 8 ∧
      t.pcie.pmeStat = (s.pcie.pmeStat && !(bit v 15)) ∧
      (t.fn 0).d3 = (if fld v 0 2 = 3 then true else if fld v 0 2 = 0 then false else (s.fn 0).d3) ∧ t.regs = s.regs) ∧
    (∀ (f : Fin 64) (v : BitVec 16),
      (s.fnEnabled f = true → ∃ t, exec (.busMasterEnable f v) s = .next t ∧ t.fn f = { s.fn f with bme := bit v 2, mse := bit v 1 } ∧
        ∀ g, g ≠ f.val → t.fn g = s.fn g) ∧
      (s.fnEnabled f = false → exec (.busMasterEnable f v) s = .next (s.aer 0 aerUnsupported))) ∧
    (∀ (f : Fin 64) (n : Fin 1024) (addr : BitVec 64) (data ctl : BitVec 32),
      (msixSize f ≤ n.val → exec (.msixUnmask f (some n) addr data ctl) s = .next s) ∧
      (n.val < msixSize f → bit ctl 0 = true → ∃ t, exec (.msixUnmask f (some n) addr data ctl) s = .next t ∧
        t.msixEntry f n = { s.msixEntry f n with addr := addr.toNat / 4 * 4, data := data, mask := true }) ∧
      (n.val < msixSize f → bit ctl 0 = false → (s.fn f).msixEn = true → (s.fn f).fmask = false → (s.msixEntry f n).pend = true →
        ∃ t, exec (.msixUnmask f (some n) addr data ctl) s = .next t ∧ (t.msixEntry f n).pend = false ∧
          ∃ r ∈ t.fab.outq, r.tlp = .msix f (addr.toNat / 4 * 4) data)) ∧
    (∀ (f : Fin 64) (addr : BitVec 64) (data ctl : BitVec 32), bit ctl 15 = false →
      ∃ t, exec (.msixUnmask f none addr data ctl) s = .next t ∧ t.fn f = { s.fn f with msixEn := false, fmask := bit ctl 14 })

/-- The PCIe link and its requests (R425, R437, R438, R443 to R446, R450, R452). A link that trains shows its speed, its width
and its personality; a retrain shows the new ones and marks a lower one. A read that times out is removed, its tag is withheld,
and its reader fails; a completion for no read is unexpected; a tag is used again after its time. An idle link enters L1. LTR is
written by software while the automatic reports are off; PME is sent once. Where the spec leaves a point open it follows the
model's reading, log entries 40 and 41. -/
def Obligations.PcieLink : Prop :=
  ∀ (s : State),
    (∀ (speed : Fin 4) (width : Fin 3) (rev : Bool) (pol : BitVec 4),
      (s.dlUp = false → s.pcie.trained = false → ∃ t, exec (.linkUp speed width rev pol) s = .next t ∧ t.dlUp = true ∧
        t.rfld rTopPcieStat 0 3 = speed + 1 ∧ t.rfld rTopPcieStat 4 3 = widthCode width ∧
        t.rbit rTopPcieStat 16 = (s.modeCode == 3 || s.modeCode == 4) ∧ t.pcie.trained = true) ∧
      (s.dlUp = true → exec (.linkUp speed width rev pol) s = .next s) ∧
      (s.dlUp = false → exec (.linkRetrain speed width) s = .next s) ∧
      (s.dlUp = true → ∃ t, exec (.linkRetrain speed width) s = .next t ∧ t.rfld rTopPcieStat 0 3 = speed + 1 ∧
        t.rfld rTopPcieStat 4 3 = widthCode width ∧ t.rfld rTopPcieEvt 16 8 = min (s.rfld rTopPcieEvt 16 8 + 1) 255 ∧
        (speed + 1 < s.rfld rTopPcieStat 0 3 ∨ widthCode width < s.rfld rTopPcieStat 4 3 → t.rbit rTopPcieEvt 2 = true))) ∧
    (∀ (f : Fin 64) (tag : Fin 1024),
      let mine := fun (o : Outst) => o.func == f.val && o.tag == tag.val
      (s.pcie.outst.find? mine = none → exec (.completionTimeout f tag) s = .next s ∧
        exec (.lateCompletion f tag) s = .next (s.aer f aerUnexpected)) ∧
      (∀ o, s.pcie.outst.find? mine = some o →
        exec (.lateCompletion f tag) s = .next s ∧
        (s.now < o.at' + s.ctoMin → exec (.completionTimeout f tag) s = .next s) ∧
        (∀ c, c < 512 → o.at' + s.ctoMin ≤ s.now → o.who = .fetch c → ∃ t, exec (.completionTimeout f tag) s = .next t ∧
          t.rbit rTopPcieEvt 3 = true ∧ t.rbit (rCtxtErr c) 1 = true ∧ (t.context c).fetchFail = some s.now ∧
          (∀ x ∈ t.pcie.outst, mine x = false) ∧ (tag.val, f.val, s.now + 2 * s.ctoMin) ∈ t.pcie.dead)) ∧
      (∃ t, exec (.tagReuse f tag) s = .next t ∧ (∀ d ∈ t.pcie.dead, d.1 = tag.val → d.2.1 = f.val → s.now < d.2.2) ∧
        t.regs = s.regs)) ∧
    (∀ sub : Fin 3,
      let idle := max 1 (s.rfld rTopPciePm 0 8) * 12288 / 10
      (bit s.pcie.lnkCtl 1 = true → s.dlUp = true → s.fab.outq = [] → s.pcie.outst = [] → s.pcie.lastBusy + idle ≤ s.now →
        ∃ t, exec (.l1Entry sub) s = .next t ∧ t.rbit rTopPcieStat 13 = true ∧ t.rfld rTopPcieStat 14 2 = sub) ∧
      (bit s.pcie.lnkCtl 1 = false ∨ s.dlUp = false ∨ s.now < s.pcie.lastBusy + idle → exec (.l1Entry sub) s = .next s)) ∧
    (∀ v : BitVec 32,
      (s.rbit rTopPciePm 8 = true → exec (.pcieLtrWrite v) s = .next s) ∧
      (s.rbit rTopPciePm 8 = false → ∃ t, exec (.pcieLtrWrite v) s = .next t ∧ t.reg rTopPcieLtr = v &&& 0x9FFF)) ∧
    (∀ src : Fin 5,
      let on := s.rbit rPwrDormCtrl (if src.val < 4 then 3 + src.val else 2)
      ((s.fn 0).d3 = true → s.pcie.pmeEn = true → on = true → s.pcie.pmeStat = false → ∃ t, exec (.pme src) s = .next t ∧
        t.pcie.pmeStat = true ∧ ∃ r ∈ t.fab.outq, r.tlp = .message 0 0x18 0) ∧
      ((s.fn 0).d3 = false ∨ s.pcie.pmeEn = false ∨ on = false ∨ s.pcie.pmeStat = true → exec (.pme src) s = .next s))

/-- TDM ports and microphones (R453 to R473). A legal configuration enables the port, which waits; one that is not legal, or a
change of an enabled port, is rejected. The second consistent frame starts the port; later frames join its receive queue. A
framing error or a missing bit clock starves a slave port. A transmit frame takes the one set that is ready. A microphone
settles, then its samples join its queue; a write with a ratio or a clock that is not there is rejected; a raw block joins its
stream. Where the spec leaves a point open it follows the model's reading, log entries 47 and 48. -/
def Obligations.TdmAndMicrophones : Prop :=
  ∀ (s : State), s.audOff = false →
    (∀ (n : Fin 6) (v : BitVec 32), s.dark (rPortTdmCfg0 n) = none → s.tdmIsSource n = false →
      let w := v &&& 0x07FFFF7F
      (s.rbit (rPortTdmCfg0 n) 0 = false →
        (bit w 0 = false → exec (.tdmCfg0Write n v) s = .next (s.setReg (rPortTdmCfg0 n) w)) ∧
        (bit w 0 = true → s.tdmValid w = true → ∃ t, exec (.tdmCfg0Write n v) s = .next t ∧ t.reg (rPortTdmCfg0 n) = w ∧ t.tdmSt n = 1) ∧
        (bit w 0 = true → s.tdmValid w = false → exec (.tdmCfg0Write n v) s = .next (s.setBit (rPortTdmStat n) 10 true))) ∧
      (s.rbit (rPortTdmCfg0 n) 0 = true →
        (w = putBit (s.reg (rPortTdmCfg0 n)) 0 false → ∃ t, exec (.tdmCfg0Write n v) s = .next t ∧ t.reg (rPortTdmCfg0 n) = w ∧ t.tdmSt n = 0) ∧
        (w ≠ putBit (s.reg (rPortTdmCfg0 n)) 0 false →
          exec (.tdmCfg0Write n v) s = .next (s.setBit (rPortTdmStat n) 10 true)))) ∧
    (∀ (n : Fin 6) (src : Fin 23) (ws : List Word), src.val = n →
      let x := s.tdm n
      (s.tdmSt n = 1 → x.run = 0 → ∃ t, exec (.rxFrameComplete src ws) s = .next t ∧ (t.tdm n).run = 1 ∧ t.tdmSt n = 1) ∧
      (s.tdmSt n = 1 → x.run ≠ 0 → ∃ t, exec (.rxFrameComplete src ws) s = .next t ∧ t.tdmSt n = 2 ∧ (t.tdm n).rx = [s.tdmWords n ws]) ∧
      (s.tdmSt n = 2 → s.tdmDom n ≠ 3 → x.rx.length < 4 → ∃ t, exec (.rxFrameComplete src ws) s = .next t ∧
        (t.tdm n).rx = x.rx ++ [s.tdmWords n ws])) ∧
    (∀ n : Fin 6,
      (s.tdmSlave n = true → s.tdmSt n ≠ 3 →
        (∃ t, exec (.framingError n) s = .next t ∧ t.tdmSt n = 3 ∧ t.rbit (rPortTdmStat n) 9 = true) ∧
        (∃ t, exec (.missingBitClock n) s = .next t ∧ t.tdmSt n = 3 ∧ t.rbit (rPortTdmStat n) 8 = true)) ∧
      (s.tdmSlave n = false → exec (.framingError n) s = .next s ∧ exec (.missingBitClock n) s = .next s)) ∧
    (∀ (n : Fin 6) (p : Fin 8) (ab : Nat × Nat) (at' : Nat) (ws : List Word) (later : List (Nat × List Word)), p.val = n →
      s.tdmSt n = 2 → s.mode.selfTest = false → s.tdmDom n ≠ 3 → s.tdmRate (s.reg (rPortTdmCfg0 n)) = some ab →
      setsReady s.now ab.1 ab.2 (s.tdm n).txSets = ([(at', ws)], later) → ∃ t, exec (.txFrameStart p) s = .next t ∧
        (t.tdm n).sent = (List.range (s.tdmSlots n)).map (fun k => s.tdmSlot n k (some (ws.getD k 0))) ∧
        (t.tdm n).txSets = later ∧ (t.tdm n).txPrev = ws) ∧
    (∀ (m : Fin 16) (v : BitVec 32), s.dark (rPortPdmMic m) = none → s.rbit (rPortPdmMic m) 0 = false →
      let w := v &&& 0x0000FF1F
      bit w 0 = true → fld w 1 2 = 0 →
      (s.pdmRatioOk 0 = true → s.micClock m = true → ∃ t, exec (.pdmMicWrite m v) s = .next t ∧ t.reg (rPortPdmMic m) = w ∧
        (t.mic m).settling = true ∧ (t.mic m).since = s.now) ∧
      (s.pdmRatioOk 0 = false ∨ s.micClock m = false → exec (.pdmMicWrite m v) s = .next (s.setBit rPortPdmStat 16 true))) ∧
    (∀ m : Fin 16, s.micOn m = true → (s.mic m).settling = true →
      let due := (s.mic m).since + s.rfld (rPortPdmMic m) 8 8 * 1228800
      (due ≤ s.now → ∃ t, exec (.settleEnd m) s = .next t ∧ (t.mic m).settling = false) ∧
      (s.now < due → exec (.settleEnd m) s = .next s)) ∧
    (∀ (m : Fin 16) (src : Fin 23) (ws : List Word), src.val = 6 + m.val → s.micOn m = true → (s.mic m).clocked = true →
      (s.mic m).rx.length < 4 → ∃ t y, exec (.rxFrameComplete src ws) s = .next t ∧ (t.mic m).bits = ws.reverse ++ (s.mic m).bits ∧
        (t.mic m).rx = (s.mic m).rx ++ [y]) ∧
    (∀ (r : Nat) (x : Stream) (ws : List Word), s.cnvOff = false → s.rfld rConvPdmck 0 4 ≠ 0 → s.mov.streams = [(r, some x)] →
      x.fmt = 5 → x.capture = true → x.closing = false → x.st ≠ 4 → x.wr - x.rd < x.fifoFrames → s.fifoOn x = true →
      ∃ t y, exec (.rxFrameComplete 22 ws) s = .next t ∧ t.stream r = some y ∧ y.wr = x.wr + 1 ∧ y.stamps.length = x.stamps.length + 1)

/-- S/PDIF (R474 to R481). Eight frames at one rate lock the receiver; the third bad frame, another rate, or no preambles unlock
it. A locked frame gives its two samples. A read of CS_A0 returns the first word of the last block and latches all of it. A
write of CS5 completes the transmitter's channel status; a frame that starts moves on in the block of 192. Where the spec leaves
a point open it follows the model's reading, log entry 48. -/
def Obligations.SpdifPorts : Prop :=
  ∀ (s : State), s.audOff = false →
    let x := s.port.spr
    let st := s.rfld rPortSprStat 0 2
    (∀ (rate : Fin 16) (a b : BitVec 24) (va vb ca cb ea eb z : Bool),
      let run := fun ok => exec (.spdifFrame ok rate a b va vb ca cb ea eb z) s
      (st = 0 → ∀ ok, run ok = .next s) ∧
      (st = 1 → ∃ t, run false = .next t ∧ t.port.spr.good = 0 ∧ t.port.spr.bad = x.bad + 1 ∧ t.regs = s.regs) ∧
      (st = 1 → rate.val ∈ [6, 7, 8, 0xA, 0xB, 0xC, 0xD] → x.rateRun = rate →
        (x.good < 7 → ∃ t, run true = .next t ∧ t.port.spr.good = x.good + 1 ∧ t.rfld rPortSprStat 0 2 = 1) ∧
        (7 ≤ x.good → ∃ t, run true = .next t ∧ t.rfld rPortSprStat 0 2 = 2 ∧ t.rfld rPortSprStat 4 4 = rate)) ∧
      (st = 2 → 2 ≤ x.bad → ∃ t, run false = .next t ∧ t.rfld rPortSprStat 0 2 = 1 ∧ t.rbit rPortSprStat 8 = true) ∧
      (st = 2 → x.bad < 2 → ∃ t, run false = .next t ∧ t.rfld rPortSprStat 0 2 = 2 ∧ t.port.spr.bad = x.bad + 1) ∧
      (st = 2 → s.rfld rPortSprStat 4 4 ≠ rate → ∃ t, run true = .next t ∧ t.rfld rPortSprStat 0 2 = 1) ∧
      (st = 2 → s.rfld rPortSprStat 4 4 = rate → s.rbit rPortSprStat 9 = false → s.rbit rPortSprCfg 2 = false → ea = false → eb = false →
        ∃ t, run true = .next t ∧ t.port.spr.prevA = (a.zeroExtend 32) <<< 8 ∧ t.port.spr.prevB = (b.zeroExtend 32) <<< 8 ∧
          t.port.spr.bad = 0)) ∧
    (st = 2 → ∃ t, exec .missingPreambles s = .next t ∧ t.rfld rPortSprStat 0 2 = 1 ∧ t.rfld rPortSprStat 4 4 = 0xF) ∧
    (st ≠ 2 → exec .missingPreambles s = .next s) ∧
    (s.dark (rPortSprCs 0) = none → ∃ t, exec .csA0Read s = .next t ∧ t.rdata = SMap.get (fun _ => 0) x.held 0 ∧
      t.port.spr.latched = x.held ∧ t.regs = s.regs) ∧
    (∀ (k : Fin 2) (v : BitVec 32), s.dark (rPortSptCs k 5) = none → ∃ t, exec (.cs5Write k v) s = .next t ∧
      t.reg (rPortSptCs k 5) = v ∧ t.rbit (rPortSptStat k) 0 = true ∧
      (∀ i, i < 6 → SMap.get (fun _ => 0) (t.spt k).waiting i = t.reg (rPortSptCs k i))) ∧
    (∀ p : Fin 8, 6 ≤ p.val → s.rbit (rPortSptCfg (p.val - 6)) 0 = true → ∃ t, exec (.txFrameStart p) s = .next t ∧
      (t.spt (p.val - 6)).pos = ((s.spt (p.val - 6)).pos + 1) % 192 ∧ ((t.spt (p.val - 6)).sentZ = true ↔ (s.spt (p.val - 6)).pos = 0))

/-- The output DACs (R482 to R486, R491). START in CLAMP begins the ramp up; STOP in RUN fades, and in RAMP_UP or MUTED ramps
down; MUTE fades; UNMUTE without a fault runs; in any other state a command does nothing. The end of a fade leaves MUTED or
RAMP_DOWN. A lost strobe faults the group and fades what runs; after its time AUTO_UNMUTE runs what is muted; a short mutes its
channel; an LDS edge loads the group. Where the spec leaves a point open it follows the model's reading, log entry 49. -/
def Obligations.Dacs : Prop :=
  ∀ (s : State),
    (∀ d : Fin 8, s.dark (rConvDacCtrl d) = none →
      (s.dacSt d = 0 → ∃ t, exec (.dacStart d) s = .next t ∧ t.dacSt d = 1) ∧
      (s.dacSt d ≠ 0 → exec (.dacStart d) s = .next s) ∧
      (s.dacSt d = 2 → ∃ t, exec (.dacStop d) s = .next t ∧ t.dacSt d = 3 ∧ (t.dac d).down = true) ∧
      (s.dacSt d = 1 ∨ s.dacSt d = 4 → ∃ t, exec (.dacStop d) s = .next t ∧ t.dacSt d = 5) ∧
      (s.dacSt d = 0 ∨ s.dacSt d = 3 ∨ s.dacSt d = 5 → exec (.dacStop d) s = .next s) ∧
      (s.dacSt d = 2 → ∃ t, exec (.dacMute d) s = .next t ∧ t.dacSt d = 3 ∧ (t.dac d).down = false) ∧
      (s.dacSt d ≠ 2 → exec (.dacMute d) s = .next s) ∧
      (s.dacSt d = 4 → s.grpFault (d / 4) = false → ∃ t, exec (.dacUnmute d) s = .next t ∧ t.dacSt d = 2) ∧
      (s.dacSt d ≠ 4 ∨ s.grpFault (d / 4) = true → exec (.dacUnmute d) s = .next s)) ∧
    (∀ d : Fin 8, s.dacSt d = 3 →
      ((s.dac d).fade.st = .silent → ∃ t, exec (.fadeEnd d) s = .next t ∧ t.dacSt d = if (s.dac d).down then 5 else 4) ∧
      ((s.dac d).fade.st ≠ .silent → s.now < (s.dac d).since + 1228800 → exec (.fadeEnd d) s = .next s)) ∧
    (∀ g : Fin 2, s.cnvOff = false →
      (s.grpStrb g = 3 → (s.grp g).strbLost = false →
        ((s.grp g).lastEdge + 2 * 1228800000 / s.d0Rate ≤ s.now → ∃ t, exec (.strbLost g) s = .next t ∧ (t.grp g).strbLost = true ∧
          t.rbit rConvFault (8 + g) = true ∧ ∀ k, k < 4 → s.dacSt (4 * g + k) = 2 → t.dacSt (4 * g + k) = 3) ∧
        (s.now < (s.grp g).lastEdge + 2 * 1228800000 / s.d0Rate → exec (.strbLost g) s = .next s)) ∧
      (∀ at', (s.grp g).clearAt = some at' → s.rbit (rConvGrp g) 3 = true → s.grpFault g = false →
        (at' + 2 * 1228800000 * (s.strbRate g).2 / (s.strbRate g).1 ≤ s.now → ∃ t, exec (.autoUnmute g) s = .next t ∧
          (t.grp g).clearAt = none ∧ ∀ k, k < 4 → s.dacSt (4 * g + k) = 4 → t.dacSt (4 * g + k) = 2)) ∧
      (∀ rising, s.grpStrb g = 3 →
        (rising ≠ s.rbit (rConvGrp g) 2 → ∃ t, exec (.ldsStrobe g rising) s = .next t ∧ (t.grp g).loads = (s.grp g).loads + 1 ∧
          (t.grp g).lastEdge = s.now ∧ (t.grp g).strbLost = false) ∧
        (rising = s.rbit (rConvGrp g) 2 → exec (.ldsStrobe g rising) s = .next s))) ∧
    (∀ d : Fin 8, s.cnvOff = false →
      (s.dacSt d ≠ 0 → s.dacSt d ≠ 5 → ∃ t, exec (.dacShort d) s = .next t ∧ t.dacSt d = 4 ∧ t.rbit rConvFault d = true) ∧
      (s.dacSt d = 0 ∨ s.dacSt d = 5 → exec (.dacShort d) s = .next (s.setBit rConvFault d true)))

/-- PLL loops (R499 to R505, R522). ACQUIRE_END closes an acquiring loop. A slip of a closed loop holds it, records LOST and
counts SLIPS up to 255; RELOCK of a held loop acquires. PLL_ENABLE of a stopped loop acquires if the settings allow it, and is
rejected (REJ, bit 31) otherwise; PLL_DISABLE of a running loop that nothing uses stops it, and is rejected while something uses
it. FERR_MEASURE stores the error and records an alarm above 3.0 %. REFCLK_LOST clears PRESENT, records LOST and slips PLL-A and
PLL-B; REFCLK_RETURN sets PRESENT. HOLD_MEAS_WINDOW stores the count of a finished window. Clock outputs (R513 to R516). A
commit with legal settings and none pending takes effect at once (bit 1 clear) or waits for Dm's tick (bit 8); illegal settings
or a commit while one is pending are rejected (bit 9). CKO_PHASE_ADD adds its steps to those pending, limited to ±2,047; an
output that is off or fixed, or the odd one of a pair, ignores it. Where the spec leaves a point open it follows the model's
reading, log entries 19 and 73. -/
def Obligations.ClockSystem : Prop :=
  (∀ (s : State),
    (∀ x : Fin 3, s.pllSt x = 1 → ∃ t, exec (.acquireEnd x) s = .next t ∧ t.pllSt x = 2) ∧
    (∀ x : Fin 3, s.pllSt x = 2 → ∃ t, exec (.pllSlip x) s = .next t ∧ t.pllSt x = 3 ∧ t.rbit (pllStatReg x) 8 = true ∧
      t.rfld (pllStatReg x) 16 8 = min (s.rfld (pllStatReg x) 16 8 + 1) 255) ∧
    (∀ x : Fin 2, s.pllSt x = 3 → ∃ t, exec (.relock x) s = .next t ∧ t.pllSt x = 1) ∧
    (∀ (x : Fin 2) (v : BitVec 32), s.rbit (rClkPllCtrl x) 0 = false → s.pllOk x (fld v 8 8) = true →
      ∃ t, exec (.pllEnable x v) s = .next t ∧ t.rbit (rClkPllCtrl x) 0 = true ∧ t.rfld (rClkPllCtrl x) 8 8 = fld v 8 8 ∧
        t.pllSt x = 1) ∧
    (∀ (x : Fin 2) (v : BitVec 32), s.rbit (rClkPllCtrl x) 0 = false → s.pllOk x (fld v 8 8) = false →
      ∃ t, exec (.pllEnable x v) s = .next t ∧ t.rbit (rClkPllCtrl x) 31 = true ∧ t.rbit (rClkPllCtrl x) 0 = false ∧
        t.pllSt x = s.pllSt x) ∧
    (∀ (x : Fin 2) (v : BitVec 32), s.rbit (rClkPllCtrl x) 0 = true → fld v 8 8 = s.rfld (rClkPllCtrl x) 8 8 →
      s.pllUsed x = false → ∃ t, exec (.pllDisable x v) s = .next t ∧ t.rbit (rClkPllCtrl x) 0 = false ∧ t.pllSt x = 0) ∧
    (∀ (x : Fin 2) (v : BitVec 32), s.rbit (rClkPllCtrl x) 0 = true → fld v 8 8 = s.rfld (rClkPllCtrl x) 8 8 →
      s.pllUsed x = true → ∃ t, exec (.pllDisable x v) s = .next t ∧ t.rbit (rClkPllCtrl x) 31 = true ∧
        t.rbit (rClkPllCtrl x) 0 = true ∧ t.pllSt x = s.pllSt x) ∧
    (∀ f : BitVec 8, ∃ t, exec (.ferrMeasure f) s = .next t ∧ t.rfld rClkPllsStat 24 8 = f.toNat ∧
      t.rbit rClkPllsStat 9 = (s.rbit rClkPllsStat 9 || decide (30 < f.toInt.natAbs))) ∧
    (s.rbit rClkRefStat 8 = true → s.pllSt 0 = 2 → s.pllSt 1 = 2 → ∃ t, exec .refclkLost s = .next t ∧
      t.rbit rClkRefStat 8 = false ∧ t.rbit rClkRefStat 9 = true ∧ t.rbit rClkHoldStat 8 = true ∧ t.pllSt 0 = 3 ∧ t.pllSt 1 = 3) ∧
    exec .refclkReturn s = .next (s.setBit rClkRefStat 8 true) ∧
    (∀ n : BitVec 24, 4096 ≤ s.clk.win → ∃ t, exec (.holdMeasWindow n) s = .next t ∧ t.clk.win = s.clk.win - 4096 ∧
      (t.reg rClkHoldMeas).toNat = n.toNat ∧ ∀ o, o ≠ rClkHoldMeas → t.reg o = s.reg o)) ∧
  (∀ (s : State),
    (∀ v : BitVec 32, bit v 1 = false → s.rbit rClkCkoCommit 8 = false → s.ckoOk = true → ∃ t, exec (.ckoCommit v) s = .next t ∧
      t.rbit rClkCkoCommit 8 = false ∧ ∀ n < 4, t.reg (rClkCkoAct n) = s.reg (rClkCkoCfg n)) ∧
    (∀ v : BitVec 32, bit v 1 = true → s.rbit rClkCkoCommit 8 = false → s.ckoOk = true → ∃ t, exec (.ckoCommit v) s = .next t ∧
      t.rbit rClkCkoCommit 8 = true ∧ ∀ o, o ≠ rClkCkoCommit → t.reg o = s.reg o) ∧
    (∀ v : BitVec 32, (s.rbit rClkCkoCommit 8 || !s.ckoOk) = true → ∃ t, exec (.ckoCommit v) s = .next t ∧
      t.rbit rClkCkoCommit 9 = true ∧ ∀ o, o ≠ rClkCkoCommit → t.reg o = s.reg o) ∧
    (∀ (n : Fin 4) (a : BitVec 12), 2 ≤ s.rfld (rClkCkoAct n) 0 3 → s.ckoOdd n = false → ∃ t, exec (.ckoPhaseAdd n a) s = .next t ∧
      (t.cko n).pend = clampI (-2047) 2047 (s.ckoPend n + a.toInt) ∧ (t.cko n).phase = (s.cko n).phase + a.toInt ∧
      ∀ k, k ≠ n.val → t.cko k = s.cko k) ∧
    (∀ (n : Fin 4) (a : BitVec 12), (s.rfld (rClkCkoAct n) 0 3 < 2 ∨ s.ckoOdd n = true) → exec (.ckoPhaseAdd n a) s = .next s))

/-- Frames of the cascade link (R529, R531 to R541): symbol lock; a frame with a good header, which moves the receive side
towards UP, and one with a bad header, which is lost; a missing frame; the third loss in a row takes the link down. The master's
frame begins with the SOF word. A BEACON_EVENT before the first tick on a follower gives the sample index and the epoch from
which it starts. Where the spec leaves a point open it follows the model's reading, log entries 50 and 52. -/
def Obligations.LinkFrames : Prop :=
  ∀ (s : State), s.ngxOn = true →
    let lost := fun (t : State) => t.ngx.loss = s.ngx.loss + 1 ∧ t.ngx.good = 0 ∧ t.ngx.frames = s.ngx.frames + 1 ∧
      t.rxState = if 2 ≤ s.ngx.loss then 0 else s.rxState
    (s.rxState = 0 → (∃ t, exec .symbolLock s = .next t ∧ t.rxState = 1) ∧
      ∀ ws gap lag, exec (.frameReceive ws gap lag) s = .next s) ∧
    (s.rxState ≠ 0 → exec .symbolLock s = .next s) ∧
    (2 ≤ s.rxState → ∃ t, exec .frameLoss s = .next t ∧ lost t) ∧
    (s.rxState < 2 → exec .frameLoss s = .next s) ∧
    (∀ (ws : List Word) (gap : Nat) (lag : BitVec 16), s.rxState ≠ 0 →
      let n := if s.ngx.good = 0 ∨ (6392 ≤ gap ∧ gap ≤ 6408) then s.ngx.good + 1 else 1
      ∃ t, exec (.frameReceive ws gap lag) s = .next t ∧ if ws.getD 6208 0 = crcWords (frHeader ws) then
        t.rxState = (if 3 ≤ n ∨ s.rxState = 3 then 3 else 2) ∧ t.ngx.good = n ∧ t.ngx.loss = 0 ∧ t.ngx.frames = s.ngx.frames + 1
      else lost t) ∧
    (s.isMaster = true → ∀ idle, ∃ t fr, exec (.frameOriginate idle) s = .next t ∧ t.ngx.sent = some fr ∧ fr.head? = some sofWord ∧
      t.ngx.frameCnt = s.ngx.frameCnt + 1 ∧ t.ngx.ret = none ∧ SMap.get (fun _ => none) t.gpio.pulse 5 = some s.now) ∧
    (s.ngx.beacon = none → exec .beaconEvent s = .next s) ∧
    (∀ b, s.ngx.beacon = some b → s.isMaster = false → b.run = true → s.mode.runPend = true → s.rfld (rClkTickCtrl 0) 0 4 = 9 →
      (b.rate = s.rfld (rClkTickCtrl 0) 4 3 → ∃ t, exec .beaconEvent s = .next t ∧ t.ngx.start = some b.sidx ∧
        t.ngx.adopted = some b.epoch ∧ t.ngx.beacon = none ∧ t.regs = s.regs) ∧
      (b.rate ≠ s.rfld (rClkTickCtrl 0) 4 3 → ∃ t, exec .beaconEvent s = .next t ∧ t.rbit rNgxStat 21 = true ∧
        t.ngx.start = s.ngx.start))

/-- Messages of the cascade link (R549 to R560, R569), each taken from the inbox in its order: VOID has no effect; an ACK
removes the messages it covers; DATA puts a descriptor into a proxy context's store; REG_RD and REG_WR act on BAR0 and answer;
REG_RSP ends the relayed access. RR_READ and RR_WRITE send their request to a present device, and are refused otherwise. A
message unacknowledged for four frames is sent again. CASC_SEND sends its payload to a present device. Where the spec leaves a
point open it follows the model's reading, log entry 51. -/
def Obligations.LinkMessages : Prop :=
  (∀ (src : Fin 16) (s : State) (m : Msg) (p : State),
    (s.popMsg 1 src = some (m, p) → exec (.ngxVoid src) s = .next p) ∧
    (s.popMsg 1 src = none → exec (.ngxVoid src) s = .next s) ∧
    (s.popMsg 2 src = some (m, p) → ∀ w, m.payload = [w] →
      (fld w 0 4 ≠ p.devNo → exec (.ngxAck src) s = .next p) ∧
      (fld w 0 4 = p.devNo → ∃ t, exec (.ngxAck src) s = .next t ∧ t.ngx.msgs = p.ngx.msgs.filter fun k =>
        !(k.dst == src.val && match k.seq with
          | some q => decide ((fld w 16 16 + 65536 - q) % 65536 < 32768)
          | none => false))) ∧
    (s.popMsg 3 src = some (m, p) → ∀ ev : BitVec 32,
      (p.proxyOn = false ∨ p.ctxState m.ctx = 0 → exec (.ngxData src ev) s = .next (p.msgDrop src 1)) ∧
      (p.proxyOn = true → p.ctxState m.ctx ≠ 0 → m.payload.length = 16 → ∃ t, exec (.ngxData src ev) s = .next t ∧
        (t.context m.ctx).p = (p.context m.ctx).p + 1 ∧
        SMap.get (fun _ => []) t.ngx.store m.ctx = SMap.get (fun _ => []) p.ngx.store m.ctx ++ [m.payload])) ∧
    (let off := fld (m.word 0) 0 22
     (s.popMsg 4 src = some (m, p) → exec (.regRd src) s =
        .next ((p.barRead off).2.ngxSend { kind := 6, dst := 0, payload := [m.word 0, (p.barRead off).1] })) ∧
     (s.popMsg 5 src = some (m, p) → exec (.regWr src) s =
        .next ((p.barWrite off (m.word 1)).ngxSend { kind := 6, dst := 0, payload := [m.word 0, 0] }))) ∧
    (s.popMsg 6 src = some (m, p) →
      (p.rbit rNgxRrCmd 31 = false → exec (.regRsp src) s = .next p) ∧
      (p.rbit rNgxRrCmd 31 = true → p.rbit rNgxRrCmd 1 = false → ∃ t, exec (.regRsp src) s = .next t ∧
        t.reg rNgxRrData = m.word 1 ∧ t.rbit rNgxRrCmd 31 = false) ∧
      (p.rbit rNgxRrCmd 31 = true → p.rbit rNgxRrCmd 1 = true → exec (.regRsp src) s = .next (p.setBit rNgxRrCmd 31 false)))) ∧
  (∀ s : State, s.dark rNgxRrCmd = none → s.isMaster = true → s.rbit rNgxRrCmd 31 = false →
    let d := s.rfld rNgxRrAddr 24 4
    let o : Word := BitVec.ofNat 32 (s.rfld rNgxRrAddr 0 22)
    (s.present d = true → d ≠ 0 →
      (∃ t, exec .rrRead s = .next t ∧ t.rbit rNgxRrCmd 31 = true ∧ t.ngx.msgs = s.ngx.msgs ++ [{ kind := 4, dst := d, payload := [o] }]) ∧
      (∃ t, exec .rrWrite s = .next t ∧ t.rbit rNgxRrCmd 31 = true ∧
        t.ngx.msgs = s.ngx.msgs ++ [{ kind := 5, dst := d, payload := [o, s.reg rNgxRrData] }])) ∧
    (s.present d = false ∨ d = 0 → ∃ t, exec .rrRead s = .next t ∧ t.rbit rNgxRrCmd 30 = true ∧ t.ngx = s.ngx)) ∧
  (∀ (p : Fin 16) (s : State) (k : Msg),
    let old := fun (m : Msg) => m.dst == p.val && !m.resend && m.seq.isSome && decide (m.sentAt + 4 ≤ s.ngx.frames)
    (s.ngx.msgs.find? old = some k → ∃ t, exec (.messageRepeat p) s = .next t ∧ { k with resend := true } ∈ t.ngx.msgs ∧
      t.ngx.msgs.map (fun m => { m with resend := false }) = s.ngx.msgs.map fun m => { m with resend := false }) ∧
    (s.ngx.msgs.find? old = none → exec (.messageRepeat p) s = .next s)) ∧
  (∀ (c : Fin 512) (q : BitVec 32) (ws : List Word) (s : State) (d : OpenDesc), s.ready c q.toNat tCascSend = some d →
    let dst := d.extra
    let proxy := d.num 16 2
    let n := d.num 18 1
    (s.present (dst % 16) = false ∨ dst % 16 = s.devNo → ∃ t, exec (.cascSend c q ws 0) s = .next t ∧ t.ended c q.toNat 0x10) ∧
    (dst < 16 → d.onlyUses [(16, 3), (24, 8)] = true → dst ≠ s.devNo → s.present dst = true → bit (s.sessionOf dst) 17 = true →
      (n = 1 ∨ n = 16) → proxy < 512 → (s.funcOf c = 0 ∨ proxy = c) → windowOk (d.num 24 8) (4 * n) = true →
      (∃ t, exec (.cascSend c q ws 1) s = .next t ∧ t.ended c q.toNat 0x20) ∧
      (ws.length = n → ∃ t, exec (.cascSend c q ws 0) s = .next t ∧
        t.ngx.msgs = s.ngx.msgs ++ [{ kind := 3, dst := dst, ctx := proxy, payload := ws, desc := some (c.val, q.toNat) }])))

/-- Host relay and follower boot (R561, R562): the master issues a relayed read, write or interrupt for the follower's function,
or answers that the read failed; a read's answer goes to the job that waits for it, a failed or late one ends the job; BOOT_REQ
is answered with at most 112 bytes of the image; BOOT_DATA adds the next bytes of it. Where the spec leaves a point open it
follows the model's reading, log entry 51. -/
def Obligations.HostRelay : Prop :=
  (∀ (src : Fin 16) (s : State) (m : Msg) (p : State),
    let tag := fld (m.word 2) 16 16
    let held := p.modNgx fun x => { x with inbox := x.inbox ++ [{ m with resend := true }] }
    (s.popMsg 0x10 src = some (m, p) →
      (p.canIssue (p.relayFn m) = true → exec (.hrd src none [] 0) s =
        .next (held.hostRead m.cls 97 (p.relayFn m) m.addr (fld (m.word 2) 0 7) false (.relay src tag))) ∧
      (p.canIssue (p.relayFn m) = false → exec (.hrd src none [] 0) s = .next (held.hrdReply src tag 1 []))) ∧
    (s.popMsg 0x12 src = some (m, p) → SMap.get (fun _ => none) p.ngx.join src = none →
      let d := m.bytes 3 (fld (m.word 2) 0 7)
      (bit (m.word 2) 11 = false → ∃ t, exec (.hwr src) s = .next t ∧ t.fab = (p.hostWrite m.cls 97 (p.relayFn m) m.addr d 0).fab) ∧
      (bit (m.word 2) 11 = true → ∃ t, exec (.hwr src) s = .next t ∧ t.fab = p.fab ∧ SMap.get (fun _ => none) t.ngx.join src =
        some { func := p.relayFn m, cls := m.cls, addr := m.addr, data := d })) ∧
    (s.popMsg 0x13 src = some (m, p) → exec (.hirq src) s = .next (p.msixSend (p.relayFn m) (fld (m.word 0) 0 10))) ∧
    (s.popMsg 0x20 src = some (m, p) → s.keeperRuns = true →
      let o := (m.word 0).toNat
      let n := if p.rbit rNgxCtrl 3 then min (min 112 (fld (m.word 1) 0 7)) (p.copyLen - o) else 0
      exec (.bootReq src) s =
        .next (p.ngxSend { kind := 0x21, dst := src, payload := [m.word 0, BitVec.ofNat 32 n] ++ packWords 28 (p.copyBytes o n) })) ∧
    (s.popMsg 0x21 src = some (m, p) → p.boot.cur = 6 → p.boot.phase = 2 →
      (fld (m.word 1) 0 7 = 0 → exec (.bootData src) s = .next (p.sourceFails true 0x07)) ∧
      (fld (m.word 1) 0 7 ≠ 0 → (m.word 0).toNat ≠ p.boot.img.length → exec (.bootData src) s = .next p) ∧
      (fld (m.word 1) 0 7 ≠ 0 → (m.word 0).toNat = p.boot.img.length → ∃ t, exec (.bootData src) s = .next t ∧
        t.boot.img = p.boot.img ++ m.bytes 2 (fld (m.word 1) 0 7)))) ∧
  (∀ (tag : Fin 65536) (s : State) (m : Msg) (o : Outst) (k : Nat),
    let p := s.modNgx fun x => { x with inbox := x.inbox.erase m }
    s.ngx.inbox.find? (fun m => m.kind == 0x11 && fld (m.word 0) 0 16 == tag.val) = some m →
      (s.pcie.outst.find? (fun o => o.tag == 1024 + tag.val) = none → exec (.hrdCpl tag) s = .next p) ∧
      (s.pcie.outst.find? (fun o => o.tag == 1024 + tag.val) = some o → o.who = .mover k →
        (fld (m.word 0) 16 2 = 1 → exec (.hrdCpl tag) s = .next (p.failJob k)) ∧
        (∀ c q off n i a, fld (m.word 0) 16 2 = 0 → s.ngx.got = [] → s.pcie.outst.filter (fun r => r.who == o.who) = [o] →
          SMap.get (fun _ => none) s.mov.movers k = some ⟨.copy c q off n, i, a⟩ → exec (.hrdCpl tag) s =
            exec (.copyPieceCompletion (Fin.ofNat 64 k) (m.bytes 2 (fld (m.word 1) 0 7)) 0) (p.readsOver o.who)))) ∧
  (∀ (tag : Fin 65536) (s : State) (o : Outst) (k : Nat),
    s.pcie.outst.find? (fun o => o.tag == 1024 + tag.val) = some o → o.who = .mover k →
      (s.now < o.at' + 61440000 → exec (.relayReadTimeout tag) s = .next s) ∧
      (o.at' + 61440000 ≤ s.now → exec (.relayReadTimeout tag) s = .next (s.failJob k)))

/-- Cascade commits (R239 to R246, R557). On the master a legal COMMIT arms its group with its devices' mask and due index; the
decision, two frames ahead, is GO at the due index, GO late at the decided one, or ABORT where the commit was cancelled or
refused; the answers of the followers are collected, and the commit ends once all have applied or are missing. On a follower ARM
puts a group with members IN_DOUBT, and is refused otherwise. Where the spec leaves a point open it follows the model's reading,
log entry 37. -/
def Obligations.CascadeCommits : Prop :=
  (∀ (c : Fin 512) (q : BitVec 32) (s : State) (d : OpenDesc), s.waitingCommit c q.toNat 2 = some d →
    let g := d.extra % 64
    let mask : BitVec 16 := BitVec.ofNat 16 (d.num 24 2)
    let now' := d.extra / 256 % 2 == 0
    (s.isMaster = false ∨ mask = 0 ∨ bit mask 0 = true → exec (.cascadeCommit c q) s = .next (s.finish c q.toNat 0x10)) ∧
    (s.isMaster = true → s.rbit (rFabCgCtrl g) 9 = true → mask ≠ 0 → bit mask 0 = false →
      (∀ p, p < 16 → bit mask p = true → s.present p = true) → s.armBad g d = false →
      ∃ t, exec (.cascadeCommit c q) s = .next t ∧ t.groupSt g = 3 ∧
        t.reg64 (rFabCgDueLo g) = (if now' then 0 else d.num 16 8) ∧
        (t.group g).arm = some { ctx := c, seq := q.toNat, origDue := if now' then 0 else d.num 16 8, next := now', mask := mask })) ∧
  (∀ (g : Fin 64) (s : State) (a : Arm),
    let T := 2 * s.frameTicks
    let fs := s.frameStart
    (s.group g).arm = some a → s.groupSt g = 3 →
      (a.cancelled = true → ∃ t, exec (.cascadeDecision g) s = .next t ∧ (t.group g).arm = none ∧
        t.par.decisions = s.par.decisions ++ [⟨g, false, a.origDue, a.mask⟩]) ∧
      (a.cancelled = false → s.run48 = true → s.keeperRuns = true → a.next = false →
        (a.origDue ≥ fs + s.frameTicks + T → exec (.cascadeDecision g) s = .next s) ∧
        (a.origDue < fs + s.frameTicks + T →
          (a.refused = true → ∃ t, exec (.cascadeDecision g) s = .next t ∧ (t.group g).arm = none ∧
            t.par.decisions = s.par.decisions ++ [⟨g, false, a.origDue, a.mask⟩]) ∧
          (a.refused = false → a.armed &&& a.mask = a.mask → ∃ t, exec (.cascadeDecision g) s = .next t ∧ t.groupSt g = 4 ∧
            t.par.decisions = s.par.decisions ++ [⟨g, true, max a.origDue (fs + T), a.mask⟩] ∧
            (t.group g).arm.map (·.late) = some (decide (a.origDue < fs + T)))))) ∧
  (∀ (src : Fin 16) (s : State) (m : Msg) (p : State),
    let g := m.group
    let x := p.group g
    let b : BitVec 16 := 1#16 <<< src.val
    (s.popMsg 8 src = some (m, p) → s.keeperRuns = true →
      (x.members = [] → exec (.arm src) s = .next (p.commitMsg 0x0A 0 g none)) ∧
      (p.rbit (rFabCgCtrl g) 31 = true → p.rbit (rFabCgCtrl g) 9 = true → x.members ≠ [] → (p.groupSt g = 1 ∨ p.groupSt g = 5) →
        ∃ t, exec (.arm src) s = .next t ∧ t.groupSt g = 5 ∧ (t.group g).arm = some { origDue := m.index, follow := true } ∧
          (t.group g).members = x.members ∧ t.reg64 (rFabCgDueLo g) = m.index)) ∧
    (∀ a, x.arm = some a →
      (s.popMsg 9 src = some (m, p) → p.groupSt g = 3 → ∃ t, exec (.armed src) s = .next t ∧
        (t.group g).arm = some { a with armed := a.armed ||| b }) ∧
      (s.popMsg 0x0A src = some (m, p) → p.groupSt g = 3 → ∃ t, exec (.ngxRefused src) s = .next t ∧
        (t.group g).arm = some { a with refused := true }) ∧
      (s.popMsg 0x0B src = some (m, p) → p.groupSt g = 4 → (x.members ≠ [] → ∃ t, exec (.applied src) s = .next t ∧
          (t.group g).arm = some { a with applied := a.applied ||| b, otherIdx := a.otherIdx || m.index != a.origDue }) ∧
        (x.members = [] → ((a.applied ||| b) ||| a.missing) &&& a.mask = a.mask → ∃ t, exec (.applied src) s = .next t ∧
          t.group g = {} ∧ t.groupSt g = 0)) ∧
      (s.popMsg 0x0C src = some (m, p) → p.groupSt g = 4 → (x.members ≠ [] → ∃ t, exec (.notArmed src) s = .next t ∧
          t.rbit (rFabCgMiss g) src = true ∧ (t.group g).arm = some { a with missing := a.missing ||| b }) ∧
        (x.members = [] → (a.applied ||| (a.missing ||| b)) &&& a.mask = a.mask → ∃ t, exec (.notArmed src) s = .next t ∧
          t.group g = {} ∧ t.groupSt g = 0))) ∧
    (s.popMsg 0x0D src = some (m, p) → ∃ t, exec (.abortAck src) s = .next t ∧ t.par.decisions = (p.par.decisions.map fun d =>
      if d.group = g && !d.go then { d with mask := d.mask &&& ~~~b } else d).filter fun d => d.go || d.mask != 0))

/-- Keeper's page to the host (R386 to R388): once a millisecond has passed since the last write, and while the page is enabled
and Keeper runs, it is written with the next sequence number, the fields that the spec leaves to Keeper being free; else nothing
happens. Where the spec leaves a point open it follows the model's reading, log entry 55. -/
def Obligations.LanternPage : Prop :=
  ∀ (s : State),
    (s.now < s.keep.lanAt + 1228800 ∨ s.rbit rTopLanternCtrl 0 = false ∨ s.keeperRuns = false → exec .lanternWrite s = .next s) ∧
    (s.keep.lanAt + 1228800 ≤ s.now → s.rbit rTopLanternCtrl 0 = true → s.keeperRuns = true →
      ∃ t, exec .lanternWrite s = .next t ∧ t.keep.lanSeq = s.keep.lanSeq + 1 ∧ t.keep.lanAt = s.now ∧ t.freeCtr = s.freeCtr + 12 ∧
        t.regs = s.regs ∧ t.cal = s.cal ∧ t.keep.hist = s.keep.hist ∧
        (∀ i, i < 16 → t.tallyOf i = s.tallyOf i) ∧ (∀ i, 16 ≤ i → t.tallyOf i = 0))

/-- Heartbeat and triggers (R575 to R579, R584, R592). A heartbeat counts and clears the misses. The first miss is counted; the
second, a missing first heartbeat, a Keeper fault, an uncorrectable error in its memory, poison that it reads, and RESTART each
start a recovery, which leaves Relief in RESET and the mode RECOVERY; the third within a minute leaves MINIMAL. Before IDLE has
been reached first, in FAULT and in MINIMAL none does. Where the spec leaves a point open it follows the model's reading, log
entry 53. -/
def Obligations.RecoveryTriggers : Prop :=
  ∀ (s : State),
    let live := s.mode.started = true ∧ s.rlf ≠ rlfFault ∧ s.rlf ≠ rlfMinimal
    let few := s.recentStarts.length < 2
    let rec' := fun (t : State) => t.rlf = rlfReset ∧ t.rbit rTopRlfStat 3 = true ∧ t.mode.recovery = true ∧
      t.rfld rTopRlfCnt 0 16 = min (s.rfld rTopRlfCnt 0 16 + 1) 65535 ∧ t.keep.starts = s.now :: s.recentStarts
    let min' := fun (t : State) => t.rlf = rlfMinimal ∧ t.mode.started = false ∧ t.mode.boot = 4 ∧ t.keep.starts = s.now :: s.recentStarts
    (∀ c : Instr, c = .keeperFault ∨ c = .tcmUe ∨ c = .keeperPoison →
      (live → few → ∃ t, exec c s = .next t ∧ rec' t) ∧ (live → ¬ few → ∃ t, exec c s = .next t ∧ min' t) ∧
      (¬ live → exec c s = .next s)) ∧
    (live → s.recovering = false → few → ∃ t, exec .restart s = .next t ∧ rec' t) ∧
    (s.recovering = true ∨ s.rlf = rlfFault → exec .restart s = .next (s.setBit rTopRlfCtrl 31 true)) ∧
    (s.keeperRuns = true → ∃ t, exec .heartbeat s = .next t ∧ t.rfld rTopRlfHb 0 16 = (s.rfld rTopRlfHb 0 16 + 1) % 65536 ∧
      t.rfld rTopRlfHb 16 2 = 0 ∧ t.keep.hbAt = s.now ∧ t.keep.waitFirst = false) ∧
    (s.keeperRuns = false → exec .heartbeat s = .next s) ∧
    (s.watching = true → s.keep.waitFirst = false →
      (s.now < s.keep.hbAt + tMiss → exec .heartbeatMiss s = .next s) ∧
      (s.keep.hbAt + tMiss ≤ s.now → s.rfld rTopRlfHb 16 2 = 0 → ∃ t, exec .heartbeatMiss s = .next t ∧ t.rfld rTopRlfHb 16 2 = 1 ∧
        t.rlf = s.rlf ∧ t.mode = s.mode) ∧
      (s.keep.hbAt + tMiss ≤ s.now → s.rfld rTopRlfHb 16 2 ≠ 0 → few → ∃ t, exec .heartbeatMiss s = .next t ∧ rec' t)) ∧
    (s.watching = true → s.keep.waitFirst = true →
      (s.keep.released + 122880000 ≤ s.now → few → ∃ t, exec .firstHeartbeatTimeout s = .next t ∧ rec' t) ∧
      (s.now < s.keep.released + 122880000 → exec .firstHeartbeatTimeout s = .next s))

/-- The recovery itself (R580 to R582, R587, R588). A copy that can be read and whose digest is the image's releases Keeper for
the rebuild; any other leads to the flash, and a flash image that fails leads to MINIMAL. The end of the rebuild returns Relief
to WATCH and ends the mode RECOVERY. A vote with one differing copy counts; one without a majority is a FAULT, for good. Where
the spec leaves a point open it follows the model's reading, log entries 53 and 54. -/
def Obligations.RecoverySteps : Prop :=
  ∀ (s : State),
    (s.rlf = rlfReset ∨ s.rlf = rlfLoad →
      let r := s.calRead 0 s.copyLen 98
      let good := r.2.1 = false ∧ sha384 r.1 = r.2.2.fwDigest
      ∃ t, exec .copyCheck s = .next t ∧ t.mode = s.mode ∧
        if good then t.rlf = rlfRebuild ∧ t.keep.waitFirst = true ∧ t.keep.released = s.now else t.rlf = rlfFlash) ∧
    (s.rlf ≠ rlfReset → s.rlf ≠ rlfLoad → exec .copyCheck s = .next s) ∧
    (s.rlf = rlfFlash → s.spim.held = none → ∀ readable,
      let img := s.slotImage s.activeSlot keeperOff
      let good := readable = true ∧ s.imageReason true img = 0 ∧ imgMeasure img = s.fwDigest
      ∃ t, exec (.flashReload readable) s = .next t ∧ if good then t.rlf = rlfRebuild ∧ t.rfld rTopModeReason 0 8 = 0x27
        else t.rlf = rlfMinimal ∧ t.mode.boot = 4 ∧ t.mode.started = false) ∧
    (s.rlf ≠ rlfFlash → ∀ readable, exec (.flashReload readable) s = .next s) ∧
    (s.rlf = rlfRebuild → ∃ t, exec .rebuildEnd s = .next t ∧ t.rlf = rlfWatch ∧ t.rbit rTopRlfStat 3 = false ∧
      t.mode = { s.mode with recovery := false }) ∧
    (s.rlf ≠ rlfRebuild → exec .rebuildEnd s = .next s) ∧
    exec (.tmrVote 0) s = .next s ∧
    exec (.tmrVote 1) s = .next (s.bump rTopRlfStat 16 8) ∧
    (∀ bad : Fin 4, 2 ≤ bad.val →
      (s.rlf ≠ rlfFault → ∃ t, exec (.tmrVote bad) s = .next t ∧ t.rlf = rlfFault ∧ t.rbit rTopRlfStat 3 = true ∧
        t.rfld rTopModeReason 0 8 = 0x2F ∧ t.faultPin = true) ∧
      (s.rlf = rlfFault → exec (.tmrVote bad) s = .next s))

/-- Start-up (R597 to R603, R618, R623, R630). The ROM finds REFCLK and the boot order; after three failed attempts, or with no
usable key, it goes to MINIMAL. Each source is tried in its order; the last one left is AWAIT_IMAGE. A stage-1 image that runs
leads to the Keeper image, one that verifies starts Keeper, one that fails gives up its source. Keeper's initialisation ends the
attempts. The watchdog restarts the ROM; AWAIT_IMAGE and a cascade source end at their time. FAIL_CLR clears the attempts. Where
the spec leaves a point open it follows the model's reading, log entry 62. -/
def Obligations.StartUp : Prop :=
  ∀ (s : State),
    (∀ (freq : Fin 4) (odd : List FuseRead),
      (s.boot.phase = 1 → s.pwr.perstHeld = false → s.tap.held = false → ∃ t, exec (.bootRomStart freq odd) s = .next t ∧
        t.boot.phase = 2 ∧ t.rfld rClkRefStat 0 2 = freq ∧ t.rbit rClkRefStat 8 = true ∧
        t.mode.boot = if s.boot.bootDone then 4 else 2) ∧
      (s.boot.phase ≠ 1 → exec (.bootRomStart freq odd) s = .next s)) ∧
    (s.boot.phase = 2 → s.boot.cur = 0 → s.mode.boot = 2 → ∀ quad,
      ((∀ k, k < 4 → s.keyUsable k = false) → ∃ t, exec (.bootSourceTry quad) s = .next t ∧ t.mode.boot = 4 ∧ t.mode.started = false) ∧
      (∀ k, k < 4 → s.keyUsable k = true →
        (s.boot.left = [] → ∃ t, exec (.bootSourceTry quad) s = .next t ∧ t.mode.boot = 3 ∧ t.boot.att = 0) ∧
        (∀ c rest, s.boot.left = c :: rest →
          (c = 4 ∨ c = 5 → ∃ t, exec (.bootSourceTry quad) s = .next t ∧ t.mode.boot = 3 ∧ t.boot.left = rest ∧ t.boot.att = 0) ∧
          (c = 6 → ∃ t, exec (.bootSourceTry quad) s = .next t ∧ t.boot.cur = 6 ∧ t.boot.left = rest ∧ t.boot.cascAt = s.now) ∧
          (1 ≤ c → c ≤ 3 → ∃ t, exec (.bootSourceTry quad) s = .next t ∧ t.boot.left = rest ∧
            ((t.boot.phase = 3 ∧ t.boot.cur = c) ∨ (t.boot.phase = 2 ∧ t.boot.cur = 0 ∧ t.boot.audit ≠ [])))))) ∧
    (s.boot.phase = 3 → ∃ t, exec .stage1Start s = .next t ∧ t.boot.phase = 4 ∧
      t.boot.lastSlot = if 1 ≤ s.boot.cur ∧ s.boot.cur ≤ 3 then some (s.boot.cur - 1) else none) ∧
    (s.boot.phase ≠ 3 → exec .stage1Start s = .next s) ∧
    (s.boot.phase = 4 → s.boot.cur < 16 → ∃ t, exec .keeperImageStart s = .next t ∧
      if s.imageReason true (s.sourceImage keeperOff) = 0 then t.boot.phase = 5 ∧ t.rfld rBootStat 0 4 = s.boot.cur
      else t.boot.phase = 2 ∧ t.boot.cur = 0) ∧
    (s.boot.phase ≠ 4 → exec .keeperImageStart s = .next s) ∧
    (s.boot.phase = 5 → ∃ t, exec .keeperInitDone s = .next t ∧ t.boot.phase = 6 ∧ t.mode.started = true ∧ t.boot.att = 0 ∧
      t.boot.wd = none ∧ t.keep.waitFirst = true ∧ t.keep.released = s.now) ∧
    (s.boot.phase ≠ 5 → exec .keeperInitDone s = .next s) ∧
    (∀ (straps : BitVec 6) (at' : Nat), s.boot.wd = some at' →
      (at' + 1105920000 ≤ s.now → ∃ t, exec (.bootWatchdog straps) s = .next t ∧ t.boot.phase = 1 ∧ t.boot.wd = some s.now ∧
        t.boot.att = min 3 (s.boot.att + 1) ∧ t.reg rBootStraps = BitVec.ofNat 32 straps.toNat ∧ t.mode = State.reset.mode) ∧
      (s.now < at' + 1105920000 → exec (.bootWatchdog straps) s = .next s)) ∧
    (s.mode.boot = 3 → s.mode.started = false → s.boot.left ≠ [] →
      (s.boot.awaitAt + 2457600000 ≤ s.now → ∃ t, exec .awaitImageTimeout s = .next t ∧ t.mode.boot = 2 ∧ t.boot.wd = some s.now ∧
        t.boot.cur = 0 ∧ t.boot.phase = 2 ∧ t.boot.left = s.boot.left) ∧
      (s.now < s.boot.awaitAt + 2457600000 → exec .awaitImageTimeout s = .next s)) ∧
    (s.boot.cur = 6 → s.boot.phase = 2 → s.rfld rNgxStat 11 2 ≠ 3 →
      (s.boot.cascAt + 245760000 ≤ s.now → ∃ t, exec .cascadeUpTimeout s = .next t ∧ t.boot.cur = 0 ∧ t.boot.phase = 2 ∧
        t.reg rSecAuditCnt = s.reg rSecAuditCnt + 1) ∧
      (s.now < s.boot.cascAt + 245760000 → exec .cascadeUpTimeout s = .next s)) ∧
    exec .failClr s = .next { s with boot := { s.boot with att := 0 } }

/-- Requests of chapter 16 (R607, R612, R615 to R618, R624 to R629). Each is ignored while its unit is busy, shows BUSY, and is
refused outside the modes that allow it; its result comes at its fixed time, clears BUSY and shows a failure. Fuses are only
ever programmed, never cleared. A debug request needs a challenge that has not expired, and consumes it; a session opened or
closed changes the mode. DM_EXTEND is ignored within 2 µs of the one before. MINIMAL's path runs D0. Where the spec leaves a
point open it follows the model's reading, log entries 22, 23 and 25. -/
def Obligations.TrustRequests : Prop :=
  ∀ (s : State),
    let late := fun (k : FixOp) (ms : Nat) => k.at' + 1228800 * ms ≤ s.now
    (∀ slot : Fin 2,
      (s.rbit rBootUpd 0 = true → exec (.upd slot) s = .next s) ∧
      (s.rbit rBootUpd 0 = false → ∃ t k, exec (.upd slot) s = .next t ∧ t.rbit rBootUpd 0 = true ∧ t.boot.upd = some k ∧ k.at' = s.now ∧
        k.ok = (s.keeperRuns && slot.val != s.activeSlot && (s.bundleReason (s.slotBundle slot)).isNone))) ∧
    (∀ fuse : Bool, let c : Instr := if fuse then .arbFuse else .arbRecord
      (s.rbit rBootArb 0 = true → exec c s = .next s) ∧
      (s.rbit rBootArb 0 = false → s.quietMode = false → ∃ t, exec c s = .next t ∧ t.rbit rBootArb 0 = true ∧
        t.boot.arb = some { at' := s.now, ok := false, reason := 0x19 } ∧ t.boot.fuses = s.boot.fuses)) ∧
    (s.rbit rBootArb 0 = false → s.quietMode = true →
      (∃ t, exec .arbFuse s = .next t ∧ t.boot.arb = some { at' := s.now, ok := true } ∧
        t.fuse 49 = s.fuse 49 ||| BitVec.ofNat 32 (2 ^ min s.boot.stage1Ver 32 - 1) ∧
        t.fuse 50 = s.fuse 50 ||| BitVec.ofNat 32 (2 ^ min s.boot.keeperVer 32 - 1)) ∧
      (s.dukOk = true → ∃ t, exec .arbRecord s = .next t ∧ t.boot.arb = some { at' := s.now, ok := true } ∧
        t.boot.fuses = s.boot.fuses)) ∧
    (∀ w : Fin 128,
      (s.rbit rBootOtpPgm 31 = true → exec (.otpPgm w) s = .next s) ∧
      (s.rbit rBootOtpPgm 31 = false →
        (s.quietMode = false ∨ (w.val ≠ 48 ∧ w.val < 112) → ∃ t k, exec (.otpPgm w) s = .next t ∧ t.rbit rBootOtpPgm 31 = true ∧
          t.boot.otp = some k ∧ k.ok = false ∧ t.boot.fuses = s.boot.fuses) ∧
        (s.quietMode = true → 112 ≤ w.val → ∃ t, exec (.otpPgm w) s = .next t ∧ t.rbit rBootOtpPgm 31 = true ∧
          t.fuse w = s.fuse w ||| s.reg rBootOtpData ∧ t.boot.otp = some { at' := s.now, ok := true }))) ∧
    (∀ (data : List Byte) (ok boot : Bool), let c : Instr := if boot then .mbxBoot data ok else .mbxWrite data ok
      (s.mbxWaits boot = false → exec c s = .next s) ∧
      (∀ k, s.boot.mbx = some k → k.waits = true → k.boot = boot → ∃ t k', exec c s = .next t ∧ t.boot.mbx = some k' ∧ k'.waits = false ∧
        (boot = true → s.modeCode ≠ 3 → k'.ok = k.ok ∧ k'.reason = 0x19) ∧
        (k.spis = false → ok = false → boot = false → k'.ok = k.ok))) ∧
    (∀ level key : Fin 4, ∃ t, exec (.newChal level key) s = .next t ∧ t.rfld rSecDbgReq 0 2 = level ∧ t.rfld rSecDbgReq 4 2 = key ∧
      t.boot.chalOk = true ∧ t.boot.chalAt = s.now ∧ t.freeCtr = s.freeCtr + 12) ∧
    (∀ jtag : Bool,
      (s.rbit rSecDbgStat 0 = true → exec (.dbgGo jtag) s = .next s) ∧
      (s.rbit rSecDbgStat 0 = false → ∃ t k, exec (.dbgGo jtag) s = .next t ∧ t.rbit rSecDbgStat 0 = true ∧ t.boot.chalOk = false ∧
        t.boot.dbg = some k ∧ k.ok = decide (s.dbgReason = 0) ∧ (s.boot.chalOk = false → k.ok = false) ∧ k.at' = s.now)) ∧
    (s.mode.session = true → ∃ t, exec .dbgClose s = .next t ∧ t.mode = { s.mode with session := false } ∧
      t.rbit rSecDbgStat 1 = false) ∧
    (s.mode.session = false → exec .dbgClose s = .next s) ∧
    (s.boot.chalAt + 73728000000 ≤ s.now → exec .challengeExpiry s = .next { s with boot := { s.boot with chalOk := false } }) ∧
    (s.now < s.boot.chalAt + 73728000000 → exec .challengeExpiry s = .next s) ∧
    (∀ k, s.boot.dbg = some k →
      (late k 50 → ∃ t, exec (.fixedTimeResult 0) s = .next t ∧ t.boot.dbg = none ∧ t.rbit rSecDbgStat 0 = false ∧
        t.rbit rSecDbgStat 2 = !k.ok ∧ t.mode.session = (s.mode.session || k.ok)) ∧
      (¬ late k 50 → exec (.fixedTimeResult 0) s = .next s)) ∧
    (∀ k, s.boot.otp = some k → (late k 50 → ∃ t, exec (.fixedTimeResult 1) s = .next t ∧ t.boot.otp = none ∧
        t.rbit rBootOtpPgm 31 = false ∧ t.rbit rBootOtpPgm 30 = !k.ok) ∧ (¬ late k 50 → exec (.fixedTimeResult 1) s = .next s)) ∧
    (∀ k, s.boot.upd = some k → (late k 1000 → ∃ t, exec (.fixedTimeResult 2) s = .next t ∧ t.boot.upd = none ∧
        t.rbit rBootUpd 0 = false ∧ t.rbit rBootUpd 2 = !k.ok) ∧ (¬ late k 1000 → exec (.fixedTimeResult 2) s = .next s)) ∧
    (∀ k, s.boot.arb = some k → (late k 1000 → ∃ t, exec (.fixedTimeResult 3) s = .next t ∧ t.boot.arb = none ∧
        t.rbit rBootArb 0 = false ∧ t.rbit rBootArb 2 = !k.ok) ∧ (¬ late k 1000 → exec (.fixedTimeResult 3) s = .next s)) ∧
    (∀ k, s.boot.mbx = some k → (late k 1000 → ∃ t, exec (.fixedTimeResult 4) s = .next t ∧ t.boot.mbx = none ∧
        t.rbit rBootMbxStat 0 = false ∧ t.rbit rBootMbxStat 1 = !k.ok) ∧ (¬ late k 1000 → exec (.fixedTimeResult 4) s = .next s)) ∧
    (∀ sel : Bool,
      (∀ at', s.boot.dmAt = some at' → s.now < at' + 2458 → exec (.dmExtend sel) s = .next (s.setBit rSecDmCmd 1 sel)) ∧
      (s.boot.dmAt = none → exec (.dmExtend sel) s = .next
        (let p := (s.setBit rSecDmCmd 1 sel).extendDay (if sel then 7 else 6) (s.bytes48 rSecDmExt)
         { p with boot := { p.boot with dmAt := some s.now } }))) ∧
    (s.mode.boot = 4 → s.mode.started = false → s.rbit rBootMinCfg 31 = false → ∃ t, exec .minPathEnable s = .next t ∧
      t.rbit rBootMinCfg 31 = true ∧ t.mode.baseRun = true ∧ t.tick.gen.period = 25600)

/-- The flash commands of the PF (R643 to R646). While one runs, GO is ignored and REJ is set. A program or erase that touches
the lowest 64 KiB ends PROTECTED, a program across a page or a range beyond the flash ends RANGE, and neither reaches the flash.
Any other command sets BUSY and is issued when the controller is free: a program clears bits of the bytes, an erase sets its
sector or block to FF, and every other byte of the flash stays. A busy controller queues it. Where the spec leaves a point open
it follows the model's reading, log entry 26. -/
def Obligations.FlashCommands : Prop :=
  ∀ (s : State) (len : Fin 256) (c : Instr) (op : Nat),
    (c = .flashRead len ∧ op = 1) ∨ (c = .flashProgram len ∧ op = 2) ∨ (c = .erase4k ∧ op = 3 ∧ s.rfld rSpimPfCmd 8 8 = len.val) ∨
      (c = .erase64k ∧ op = 4 ∧ s.rfld rSpimPfCmd 8 8 = len.val) ∨ (c = .flashStatus ∧ op = 5 ∧ s.rfld rSpimPfCmd 8 8 = len.val) →
    let a := s.rfld rSpimPfAddr 0 26
    let n := len.val + 1
    let lo := if op = 3 then a / 4096 * 4096 else if op = 4 then a / 65536 * 65536 else a
    let size := if op = 3 then 4096 else if op = 4 then 65536 else n
    let byte := fun i => if op = 2 then s.flashByte i &&& (s.reg (rSpimPfBuf ((i - a) / 4))).extractLsb' (8 * ((i - a) % 4)) 8 else 0xFF
    let ends := fun (code : Nat) => ∃ t, exec c s = .next t ∧ t.rfld rSpimPfCmd 24 4 = code ∧ t.rbit rSpimPfCmd 31 = false ∧
      t.boot = s.boot ∧ t.spim = s.spim
    (s.rbit rSpimPfCmd 31 = true → exec c s = .next (s.setBit rSpimStat 11 true)) ∧
    (s.rbit rSpimPfCmd 31 = false →
      if 2 ≤ op ∧ op ≤ 4 ∧ lo < 0x10000 then ends 1
      else if (op = 2 ∧ 256 < a % 256 + n) ∨ (op ≠ 5 ∧ 2 ^ s.rfld rSpimCfg 16 5 < lo + size) then ends 4
      else ∃ t, exec c s = .next t ∧ t.rbit rSpimPfCmd 31 = true ∧ t.rfld rSpimPfCmd 24 4 = 0 ∧
        (s.spim.cmd = none → s.spim.held = none → s.spim.poll = false → s.spim.queue = [] → ∃ k, t.spim.cmd = some k ∧
          k.op = op ∧ k.who = 3 ∧ k.addr = a ∧ k.len = n ∧ k.at' = s.now ∧ t.rbit rSpimStat 0 = true ∧
          (op = 1 ∨ op = 5 → t.boot = s.boot) ∧
          (2 ≤ op → op ≤ 4 → ∀ i, t.flashByte i = if lo ≤ i ∧ i < lo + size then byte i else s.flashByte i)) ∧
        (s.spim.cmd.isSome = true ∨ s.spim.held.isSome = true ∨ s.spim.poll = true → t.boot = s.boot ∧ t.spim.cmd = s.spim.cmd ∧
          ∃ k, t.spim.queue = s.spim.queue ++ [k] ∧ k.op = op ∧ k.who = 3 ∧ k.addr = a ∧ k.len = n))

/-- The end of a flash command, and the release of the controller (R637, R641, R642, R645, R647). A PF command ends with
VERIFY_FAIL where a programmed byte does not read back, else OK; a read or status command leaves its bytes in the buffer, and
waiting reads are served. A program or erase that outlasts its limit ends TIMEOUT and the controller polls on. Ten microseconds
after a reset of the controller it takes requests again. Where the spec leaves a point open it follows the model's reading, log
entry 26. -/
def Obligations.FlashEnds : Prop :=
  ∀ (s : State) (st : BitVec 8),
    (s.spim.held.isSome = true → exec (.flashReady st) s = .next s) ∧
    (s.spim.held = none → s.spim.cmd = none → ∃ t, exec (.flashReady st) s = .next t ∧ t.spim.poll = false ∧ t.spim.reads = []) ∧
    (∀ k, s.spim.held = none → s.spim.poll = false → s.spim.cmd = some k → k.who = 3 → 1 ≤ k.op → k.op ≤ 5 →
      let bad := k.op = 2 ∧ s.rbit rSpimCfg 21 = true ∧ s.verifyOk k = false
      ∃ t, exec (.flashReady st) s = .next t ∧ t.rfld rSpimPfCmd 24 4 = (if bad then 3 else 0) ∧ t.rbit rSpimPfCmd 31 = false ∧
        (bad → t.rbit rSpimStat 8 = true) ∧ t.spim.reads = [] ∧
        (s.spim.queue = [] → t.spim.cmd = none ∧ t.rbit rSpimStat 0 = false ∧ t.boot = s.boot) ∧
        (k.op = 1 → k.len ≤ 256 → t.pfBuf k.len = s.flashRead k.addr k.len) ∧ (k.op = 5 → t.pfBuf 1 = [st])) ∧
    (s.spim.cmd = none → exec .flashTimeout s = .next s) ∧
    (∀ k, s.spim.cmd = some k → k.who = 3 →
      let ms := max 1 (if k.op = 2 then s.rfld rSpimTmo 0 8 else s.rfld rSpimTmo 8 12)
      (k.op = 1 ∨ k.op = 5 ∨ s.now < k.at' + 1228800 * ms → exec .flashTimeout s = .next s) ∧
      (2 ≤ k.op → k.op ≤ 4 → k.at' + 1228800 * ms ≤ s.now → ∃ t, exec .flashTimeout s = .next t ∧ t.rbit rSpimStat 9 = true ∧
        t.rfld rSpimPfCmd 24 4 = 2 ∧ t.rbit rSpimPfCmd 31 = false ∧ t.spim.poll = true ∧ t.spim.cmd = none ∧ t.boot = s.boot)) ∧
    (s.spim.held = none → exec .spimRelease s = .next s) ∧
    (∀ r, s.spim.held = some r →
      (s.now < r + 12288 → exec .spimRelease s = .next s) ∧
      (r + 12288 ≤ s.now → ∃ t, exec .spimRelease s = .next t ∧ t.spim.held = none ∧ t.spim.poll = s.spim.poll ∧
        (s.spim.cmd = none → s.spim.poll = false → s.spim.queue ≠ [] → t.spim.cmd.isSome = true)))

/-- Keeper's window (R638 to R640). A read at or above the flash's size returns 0 and a write there is discarded, with RANGE. A
read first flushes the combine buffer; a hit is served from the cache even while the flash is busy, a miss waits for the
controller. A write is gathered; a write to another page flushes what stands there, as does 100 µs without a write, as one page
program of exactly the gathered bytes. Where the spec leaves a point open it follows the model's reading, log entry 26. -/
def Obligations.FlashWindow : Prop :=
  ∀ (s : State) (a : Fin 67108864) (v : BitVec 8),
    (2 ^ s.rfld rSpimCfg 16 5 ≤ a.val → (∃ t, exec (.windowRead a) s = .next t ∧ t.spim = { s.spim with kData := 0 } ∧
        t.rbit rSpimStat 10 = true ∧ t.boot = s.boot) ∧ exec (.windowWrite a v) s = .next (s.setBit rSpimStat 10 true)) ∧
    (a.val < 2 ^ s.rfld rSpimCfg 16 5 →
      let u := s.combFlush
      let w := if s.spim.combPage = a.val / 256 then s else u
      (∀ p, (u.cacheSet (a.val / 64 % 256)).find? (fun p => p.1 == a.val / 16384) = some p →
        ∃ t, exec (.windowRead a) s = .next t ∧ t.spim.kData = p.2.getD (a.val % 64) 0 ∧ t.boot = u.boot ∧ t.regs = u.regs) ∧
      ((u.cacheSet (a.val / 64 % 256)).find? (fun p => p.1 == a.val / 16384) = none →
        (u.spimFree = true → ∃ t, exec (.windowRead a) s = .next t ∧ t.spim.kData = u.flashByte a.val ∧ t.boot = u.boot) ∧
        (u.spimFree = false → exec (.windowRead a) s = .next { u with spim := { u.spim with reads := u.spim.reads ++ [a.val] } })) ∧
      ∃ t, exec (.windowWrite a v) s = .next t ∧ t.spim.combPage = a.val / 256 ∧ t.spim.combAt = s.now ∧ t.boot = w.boot ∧
        ∀ i, SMap.get (fun _ => none) t.spim.comb i = if i = a.val % 256 then some v else SMap.get (fun _ => none) w.spim.comb i) ∧
    (s.now < s.spim.combAt + 122880 → exec .combineFlush s = .next s) ∧
    (s.spim.combAt + 122880 ≤ s.now → ∃ t, exec .combineFlush s = .next t ∧
      (s.spim.comb = [] → t = s) ∧
      ((∃ i, i < 256 ∧ (SMap.get (fun _ => none) s.spim.comb i).isSome = true) → t.spim.comb = [] ∧
        (s.spimFree = true → s.spim.queue = [] → 256 ≤ s.spim.combPage →
          ∀ j, t.flashByte j = match (if j / 256 = s.spim.combPage then SMap.get (fun _ => none) s.spim.comb (j % 256) else none) with
            | some b => b &&& s.flashByte j
            | none => s.flashByte j)))

/-- Requests of the SPI slave (R650, R652 to R655, R690). A good frame that is no repeat is executed and its reply, with the
flags due, is held: PING does nothing, a reserved opcode or length is RANGE, a register access is DENIED without its enable bit
or in the slave's own block, and a TEST_RUN without SPIS_EN. While an earlier request executes, every request is discarded with
DROP; while the slave takes no part, nothing happens. Bad frames, repeats and reply reads of the SPI slave (R649, R653, R654,
R656). Where the spec leaves a point open it follows the model's reading, log entry 27. -/
def Obligations.SlaveRequests : Prop :=
  (∀ (s : State) (m3 : Bool) (alive : BitVec 4) (addr v : BitVec 32) (op b : BitVec 8) (data : List (BitVec 8)),
    let flags := alive.toNat + (if s.spis.bad then 16 else 0) + (if s.spis.drop then 32 else 0) + (if s.spis.unread then 128 else 0)
    let replied := fun (c : Instr) (o result d : Nat) => ∃ t, exec c s = .next t ∧ t.spis.reply = some (o, flags, result, d) ∧
      t.spis.unread = true ∧ t.spis.bad = false ∧ t.spis.drop = false ∧ t.spis.busy = none ∧ t.rbit rSpisStat 1 = m3
    let taken := fun (u : State) => ∃ key, u = { s.setBit rSpisStat 1 m3 with spis := { s.spis with last := some key } }
    let may := fun (en : Nat) => addr.toNat < 0x400000 ∧ fld addr 16 6 ≠ 0x11 ∧ s.rbit en (fld addr 16 6) = true
    let c0 := Instr.ping m3 op alive addr data
    let c1 := Instr.spisRegRd m3 alive addr
    let c2 := Instr.spisRegWr m3 alive addr v
    let c3 := Instr.spisTestRun m3 alive addr b
    let c4 := Instr.spisTestStat m3 alive addr
    let c5 := Instr.spisResultRead m3 alive addr b
    let known := op = 0 ∨ 256 < data.length ∨ spisKnown op.toNat data.length = true
    (s.spisOn = true → s.spis.busy = none → s.spis.last = none →
      (¬ known → replied c0 op.toNat (if op = 1 ∧ data = [] then 0 else 2) 0) ∧
      (¬ may rSpisRdEn → replied c1 2 1 0) ∧
      (may rSpisRdEn → ∃ u, taken u ∧ replied c1 2 0 (u.barRead addr.toNat).1.toNat) ∧
      (¬ may rSpisWrEn → replied c2 3 1 0) ∧
      (may rSpisWrEn → ∃ u, taken u ∧ exec c2 s = .next ((u.barWrite addr.toNat v).spisAnswer 3 alive.toNat 0 0)) ∧
      (s.rbit rTestCtrl 9 = false → ∀ c, c = c3 ∨ c = c4 ∨ c = c5 → replied c 0x20 1 0) ∧
      (s.rbit rTestCtrl 9 = true →
        replied c3 0x20 (match s.testCause b.toNat with | 0 => 0 | 1 => 3 | 2 => 3 | 3 => 1 | _ => 2) 0 ∧
        replied c4 0x20 0 (s.reg rTestStat).toNat ∧
        replied c5 0x20 (if addr.toNat ≤ 25 then 0 else 2)
          (if addr.toNat ≤ 25 then ofLeBytes ((s.test.record.drop (4 * addr.toNat)).take 4) else 0))) ∧
    (∀ c, (c = c0 ∧ ¬ known) ∨ c = c1 ∨ c = c2 ∨ c = c3 ∨ c = c4 ∨ c = c5 →
      (s.spisOn = false → exec c s = .next s) ∧
      (s.spisOn = true → s.spis.busy.isSome = true → ∃ t, exec c s = .next t ∧ t.spis = { s.spis with drop := true } ∧
        t.rbit rSpisStat 9 = true ∧ t.rfld rSpisCnt 16 8 = min (s.rfld rSpisCnt 16 8 + 1) 255))) ∧
  (∀ (s : State) (m3 ready : Bool) (alive : BitVec 4) (crc : BitVec 16) (n : Nat),
    (s.spisOn = false → exec (.badFrame m3) s = .next s ∧ exec (.repeat m3 alive crc) s = .next s ∧
      ∃ t, exec (.replyRead m3 ready n) s = .next t ∧ t.spis = { s.spis with out := [] } ∧ t.regs = s.regs) ∧
    (s.spisOn = true →
      (∃ t, exec (.badFrame m3) s = .next t ∧ t.spis = { s.spis with bad := true } ∧ t.rbit rSpisStat 8 = true ∧
        t.rfld rSpisCnt 0 8 = min (s.rfld rSpisCnt 0 8 + 1) 255) ∧
      (s.spis.last = some (alive.toNat, crc.toNat) → s.spis.busy = none → ∃ t, exec (.repeat m3 alive crc) s = .next t ∧
        t.rfld rSpisCnt 8 8 = min (s.rfld rSpisCnt 8 8 + 1) 255 ∧
        t.spis = { s.spis with reply := s.spis.reply.map fun r => (r.1, r.2.1 ||| 64, r.2.2) }) ∧
      (s.spis.last ≠ some (alive.toNat, crc.toNat) → exec (.repeat m3 alive crc) s = .next (s.setBit rSpisStat 1 m3)) ∧
      (∀ r, s.spis.reply = some r → s.spis.busy = none → ready = true →
        let head := if s.rbit rSpisStat 0 then [0x5A] else []
        let whole := head ++ spisReply r
        ∃ t, exec (.replyRead m3 ready n) s = .next t ∧ t.spis.reply = s.spis.reply ∧ t.spis.out.length = n ∧
          t.spis.unread = (s.spis.unread && decide (n < whole.length)) ∧
          ∀ i, i < n → t.spis.out[i]? = some (whole.getD i 0xFF)) ∧
      (s.spis.reply = none ∨ s.spis.busy.isSome = true ∨ ready = false →
        let status := if s.spis.reply = none ∧ s.spis.busy = none then 0x3C else 0xA5
        ∃ t, exec (.replyRead m3 ready n) s = .next t ∧ t.spis.reply = s.spis.reply ∧ t.spis.unread = s.spis.unread ∧
          ∀ i, i < n → t.spis.out[i]? = some (if s.rbit rSpisStat 0 then
            (if i = 0 then status else if i % 2 = 1 then 0xF0 else 0x0F) else if i % 2 = 0 then 0xF0 else 0x0F))))

/-- The mailbox of the SPI slave (R650, R651, R655). Served by Keeper or by the ROM in AWAIT_IMAGE; BUSY while an update runs or
MBX_EN is 0; MBX_OPEN erases and MBX_WR programs the inactive slot and reply when the flash has done it; MBX_GO replies at once
and starts the check of the bundle; MBX_STAT returns the mailbox status. Where the spec leaves a point open it follows the
model's reading, log entry 27. -/
def Obligations.SlaveMailbox : Prop :=
  ∀ (s : State) (m3 : Bool) (alive : BitVec 4) (addr len : BitVec 32) (fl : BitVec 8) (data : List (BitVec 8)),
    let replied := fun (c : Instr) (o result d : Nat) => ∃ t, exec c s = .next t ∧
      (∃ flags, t.spis.reply = some (o, flags, result, d) ∧ flags % 16 = alive.toNat) ∧ t.spis.unread = true ∧ t.spis.busy = none
    let starts := fun (c : Instr) (o : Nat) (k : FlashCmd) => ∃ t, exec c s = .next t ∧ t.spis.busy = some (o, alive.toNat) ∧
      t.spis.reply = s.spis.reply ∧
      (s.spimFree = true → s.spim.queue = [] → t.spim.cmd = some { k with at' := s.now }) ∧
      (s.spimFree = false → t.spim.queue = s.spim.queue ++ [k] ∧ t.boot = s.boot)
    let ok := data ≠ [] ∧ data.length ≤ 256
    let busy := s.rbit rBootMbxStat 0 = true ∨ s.rbit rBootUpd 0 = true ∨ s.rbit rSpisCtrl 1 = false
    let ready := s.mbxServed = true ∧ s.spisOn = true ∧ s.spis.busy = none ∧ s.spis.last = none
    let c0 := Instr.mbxOpen m3 alive addr
    let c1 := Instr.mbxWr m3 alive addr data
    let c2 := Instr.mbxGo m3 alive addr len fl
    let c3 := Instr.mbxStat m3 alive addr
    (ready → busy → replied c0 0x10 3 0 ∧ (ok → replied c1 0x11 3 0) ∧ replied c2 0x12 3 0 ∧
      replied c3 0x13 3 (s.reg rBootMbxStat).toNat) ∧
    (ready → ¬ busy →
      starts c0 0x10 { who := 4, op := slotErase, addr := s.mbxSlot } ∧
      (ok → addr.toNat % 256 = 0 → addr.toNat < 0x200000 →
        let k : FlashCmd := { who := 4, op := pfProgram, addr := s.mbxSlot + addr.toNat, len := data.length, data := data }
        starts c1 0x11 { k with mask := List.replicate data.length true }) ∧
      (ok → addr.toNat % 256 ≠ 0 ∨ 0x200000 ≤ addr.toNat → replied c1 0x11 2 0) ∧
      (∃ t, exec c2 s = .next t ∧ (∃ flags, t.spis.reply = some (0x12, flags, 0, 0)) ∧ t.rbit rBootMbxStat 0 = true ∧
        t.rbit rBootMbxStat 1 = false ∧ (t.boot.mbx.map fun m => (m.at', m.boot, m.write, m.spis, m.len)) =
          some (s.now, bit fl 0, bit fl 1, true, len.toNat)) ∧
      replied c3 0x13 0 (s.reg rBootMbxStat).toNat) ∧
    (s.mbxServed = false ∨ s.spisOn = false → ∀ c, c = c0 ∨ (c = c1 ∧ ok) ∨ c = c2 ∨ c = c3 → exec c s = .next s)

/-- Supply sequencing and power loss (R666 to R668, R670, R715). Each rail that is good raises the next enable, and after the
last one start-up begins with the straps sampled; a step that takes 10 ms goes down and counts; a retry comes after its pause;
going down, each step drops the next enable. A brown-out or PERST_N resets the device but not the fuses and the flash. After
VDD_AON every register is at its reset value. Where the spec leaves a point open it follows the model's reading, log entries 57,
61 and 77. -/
def Obligations.SupplySequence : Prop :=
  ∀ (s : State),
    let starts := fun (t : State) (straps : BitVec 6) (reason : Nat) => t.boot.phase = 1 ∧ t.reg rBootStraps = BitVec.ofNat 32 straps.toNat ∧
      t.reg rTopModeReason = BitVec.ofNat 32 reason ∧ t.mode = State.reset.mode ∧ t.boot.fuses = s.boot.fuses ∧ t.boot.flash = s.boot.flash
    (∀ straps : BitVec 6,
      (s.pwr.seq = .up 0 → exec (.railGood straps) s = .next { s with pwr := { s.pwr with en := 5, seq := .up 1, seqAt := s.now } }) ∧
      (s.pwr.seq = .up 1 → exec (.railGood straps) s = .next { s with pwr := { s.pwr with en := 7, seq := .up 2, seqAt := s.now } }) ∧
      (s.pwr.seq = .up 2 → ∃ t, exec (.railGood straps) s = .next t ∧ t.pwr.seq = .on ∧ t.reg rPwrSeq = s.reg rPwrSeq ∧
        starts t straps s.pwr.next) ∧
      (s.pwr.seq = .on → exec (.railGood straps) s = .next s)) ∧
    (∀ k, s.pwr.seq = .up k →
      (s.pwr.seqAt + tGood ≤ s.now → ∃ t, exec .sequenceTimeout s = .next t ∧ t.pwr.seq = .down 1 .retry ∧ t.pwr.en = s.pwr.en &&& 5 ∧
        t.rfld rPwrSeq 0 8 = min (s.rfld rPwrSeq 0 8 + 1) 255) ∧
      (s.now < s.pwr.seqAt + tGood → exec .sequenceTimeout s = .next s)) ∧
    (s.pwr.seq = .retry →
      (s.pwr.seqAt + tRetry ≤ s.now →
        exec .sequenceRetry s = .next { s with pwr := { s.pwr with en := 4, seq := .up 0, seqAt := s.now } }) ∧
      (s.now < s.pwr.seqAt + tRetry → exec .sequenceRetry s = .next s)) ∧
    (∀ n, s.pwr.seqAt + tDn ≤ s.now →
      (s.pwr.seq = .down 1 n → exec .downStep s =
        .next { s with pwr := { s.pwr with en := s.pwr.en &&& 4, seq := .down 2 n, seqAt := s.now } }) ∧
      (s.pwr.seq = .down 2 .up → exec .downStep s = .next { s with pwr := { s.pwr with en := 4, seq := .up 0, seqAt := s.now } }) ∧
      (s.pwr.seq = .down 2 .retry → exec .downStep s = .next { s with pwr := { s.pwr with en := 0, seq := .retry, seqAt := s.now } }) ∧
      (s.pwr.seq = .down 2 .dormant → s.pwr.held = none →
        exec .downStep s = .next { s with pwr := { s.pwr with en := 0, seq := .off, seqAt := s.now } })) ∧
    (s.now < s.pwr.seqAt + tDn → exec .downStep s = .next s) ∧
    (s.mode.dormant = false → s.pwr.seq = .on → ∃ t, exec .brownOut s = .next t ∧ t.pwr.seq = .down 1 .up ∧ t.pwr.en = s.pwr.en &&& 5 ∧
      t.pwr.next = 1 ∧ t.rbit rPwrSeq 8 = true ∧ t.boot.fuses = s.boot.fuses ∧ t.boot.flash = s.boot.flash ∧ t.mode = State.reset.mode) ∧
    (s.mode.dormant = true ∨ s.pwr.seq ≠ .on → exec .brownOut s = .next s) ∧
    (∃ t, exec .vddAonApplied s = .next t ∧ t.regs = [] ∧ t.pwr.seq = .up 0 ∧ t.pwr.en = 4 ∧ t.pwr.next = 1 ∧
      t.now = s.now + 1228800 ∧ t.boot.fuses = s.boot.fuses ∧ t.boot.flash = s.boot.flash) ∧
    (s.pwr.perstHeld = false → s.mode.dormant = false → s.pwr.seq = .on → ∃ t, exec .perstNAssert s = .next t ∧
      t.pwr.perstHeld = true ∧ t.mode = State.reset.mode ∧ t.boot.fuses = s.boot.fuses ∧ t.boot.flash = s.boot.flash ∧
      ∀ o, o ∉ [rPwrDormCtrl, rPwrWakeTmr, rPwrWakeSrc] → t.reg o = regReset o) ∧
    (s.pwr.perstHeld = true → exec .perstNAssert s = .next s) ∧
    (∀ straps : BitVec 6,
      (s.pwr.perstHeld = true → s.mode.dormant = false → s.pwr.seq = .on → s.tap.held = false →
        ∃ t, exec (.perstNRelease straps) s = .next t ∧ t.pwr.perstHeld = false ∧ starts t straps 2) ∧
      (s.pwr.perstHeld = false → exec (.perstNRelease straps) s = .next s))

/-- DORMANT, its wake sources, and TOP.MODE_CMD (R663 to R665, R669 to R672). GO in IDLE with no context open and every DAC
clamped enters DORMANT and begins the down sequence; in any other mode it sets the rejected bit. An enabled wake source begins
the up sequence and is recorded; during the down sequence it is held. WAKE_N ends with PERST_N or after its time. A GO with RUN
leaves the run pending with the tick period of the rate; one with IDLE cancels it, or stops D0 after its tick; a refused GO sets
the rejected bit. Where the spec leaves a point open it follows the model's reading, log entries 56 and 58. -/
def Obligations.DormantAndModes : Prop :=
  ∀ (s : State),
    (s.modeCode ≠ 5 ∨ (s.ctx.any fun p => s.ctxState p.1 != 0) = true → ∃ t, exec .dormGo s = .next t ∧
      t.rbit rPwrDormCtrl 31 = true ∧ t.mode = s.mode ∧ t.pwr = s.pwr) ∧
    (s.modeCode = 5 → (s.ctx.any fun p => s.ctxState p.1 != 0) = false →
      (s.reg rConvDacStat = 0 → ∃ t, exec .dormGo s = .next t ∧ t.mode.dormant = true ∧ t.pwr.seq = .down 1 .dormant ∧
        t.pwr.entered = s.now) ∧
      (s.reg rConvDacStat ≠ 0 → ∃ t, exec .dormGo s = .next t ∧ t.mode = s.mode ∧ t.pwr.dormWait = true)) ∧
    (∀ src : Fin 6, s.mode.dormant = true → s.wakeOn (src + 1) = true →
      (s.pwr.seq = .off → ∃ t, exec (.wakeSource src) s = .next t ∧ t.pwr.seq = .up 0 ∧ t.pwr.en = 4 ∧
        t.rfld rPwrWakeSrc 0 4 = src + 1 ∧ t.pwr.next = if src.val = 0 then 2 else 3) ∧
      (∀ k, s.pwr.seq = .down k .dormant → s.pwr.held = none →
        ∃ t, exec (.wakeSource src) s = .next t ∧ t.pwr.held = some (src + 1) ∧ t.pwr.seq = s.pwr.seq)) ∧
    (∀ src : Fin 6, src.val ≠ 0 → s.mode.dormant = false ∨ s.wakeOn (src + 1) = false → exec (.wakeSource src) s = .next s) ∧
    (let t0 := s.pwr.entered + max 1 (s.rfld rPwrWakeTmr 0 24) * 1105920000
     (t0 ≤ s.now → s.mode.dormant = true → s.wakeOn 7 = true → s.pwr.seq = .off → ∃ t, exec .wakeTimer s = .next t ∧
        t.pwr.seq = .up 0 ∧ t.rfld rPwrWakeSrc 0 4 = 7 ∧ t.pwr.next = 3) ∧
     (s.now < t0 → exec .wakeTimer s = .next s)) ∧
    (s.pwr.wakePin = true →
      (s.pwr.wakeAt + 2457600000 ≤ s.now ∨ (s.pwr.perstLow = true ∧ s.pwr.perstHeld = false) →
        exec .wakeNRelease s = .next { s with pwr := { s.pwr with wakePin := false, perstLow := false } }) ∧
      (s.now < s.pwr.wakeAt + 2457600000 → s.pwr.perstLow = false → exec .wakeNRelease s = .next s)) ∧
    (∀ d : Fin 8,
      (s.pwr.dormWait = false →
        (s.dacSt d = 1 → ∃ t, exec (.rampEnd d) s = .next t ∧ t.dacSt d = if s.grpFault (d / 4) then 3 else 2) ∧
        (s.dacSt d = 5 → ∃ t, exec (.rampEnd d) s = .next t ∧ t.dacSt d = 0) ∧
        (s.dacSt d ≠ 1 → s.dacSt d ≠ 5 → exec (.rampEnd d) s = .next s)) ∧
      (s.pwr.dormWait = true → s.reg rConvDacStat = BitVec.ofNat 32 (5 * 16 ^ d.val) →
        ∃ t, exec (.rampEnd d) s = .next t ∧ t.mode.dormant = true)) ∧
    (let ok := s.mode.started && !s.mode.baseRun && !s.mode.runPend && !s.mode.recovery && !s.mode.selfTest
     (ok = true → ∃ t, exec .modeCmdRun s = .next t ∧ t.mode = { s.mode with runPend := true } ∧ t.rbit rTopModeCmd 3 = true ∧
        t.tick.gen.period = 1228800000 / s.d0Rate ∧ t.tick.gen.lastTick = s.now) ∧
     (ok = false → ∃ t, exec .modeCmdRun s = .next t ∧ t.mode = s.mode ∧ t.rbit rTopModeCmd 31 = true)) ∧
    (s.mode.runPend = true → ∃ t, exec .modeCmdIdle s = .next t ∧ t.mode = { s.mode with runPend := false } ∧ t.rbit rTopModeCmd 3 = false) ∧
    (s.mode.runPend = false →
      (s.mode.started = true → s.mode.baseRun = true → ∃ t, exec .modeCmdIdle s = .next t ∧ t.tick.idleAtEnd = true ∧ t.mode = s.mode) ∧
      (s.mode.started = false ∨ s.mode.baseRun = false →
        ∃ t, exec .modeCmdIdle s = .next t ∧ t.mode = s.mode ∧ t.rbit rTopModeCmd 31 = true))

/-- Power islands and caps (R673 to R680). A POWER_SET waits while one is under way; outside IDLE, RUN, RUN_REDUCED and HOLDOVER
it is refused; with nothing live in the islands it powers down they become GOING, and the islands not named keep their state;
with FORCE off, a live allocation refuses it. A GOING island that may stop becomes OFF; an OFF island that is named comes up,
shed while a cap is active. A sample writes the sensors, the estimate and the two flags of the caps, and a cap decides the next
cluster to shed. Where the spec leaves a point open it follows the model's reading, log entries 59 and 60. -/
def Obligations.IslandsAndCaps : Prop :=
  (∀ (c : Fin 512) (q : BitVec 32) (s : State) (d : OpenDesc), s.ready c q.toNat tPowerSet = some d →
    let sel := d.num 16 4
    let on := d.num 20 4
    (s.pwr.op ≠ none ∨ s.keeperRuns = false → exec (.powerSet c q) s = .next s) ∧
    (s.pwr.op = none → s.keeperRuns = true →
      (d.extra ≠ 0 ∨ 2 ^ 14 ≤ sel → ∃ t, exec (.powerSet c q) s = .next t ∧ t.ended c q.toNat 0x10 ∧ t.regs = s.regs) ∧
      (d.extra = 0 → d.onlyUses [(16, 9)] = true → sel < 2 ^ 14 → on < 2 ^ 14 → d.num 24 1 ≤ 1 →
        (s.modeCode ∉ [5, 6, 7, 8] → ∃ t, exec (.powerSet c q) s = .next t ∧ t.ended c q.toNat 0x10 ∧
          t.reg rPwrPsResult = BitVec.ofNat 32 (sel + 65536 * 4)) ∧
        (s.modeCode ∈ [5, 6, 7, 8] → d.num 24 1 = 0 →
          (∀ i, i < 14 → sel / 2 ^ i % 2 = 1 → on / 2 ^ i % 2 = 0 → s.liveOwners i ≠ [] → ∃ t, exec (.powerSet c q) s = .next t ∧
            t.ended c q.toNat 0x10 ∧ t.rfld rPwrPsResult 16 4 = 2 ∧ t.pwr = s.pwr) ∧
          ((∀ i, i < 14 → sel / 2 ^ i % 2 = 1 → on / 2 ^ i % 2 = 0 → s.liveOwners i = [] ∧ s.holdsSource i = false) →
            ∃ t, exec (.powerSet c q) s = .next t ∧
              (∀ i, i < 14 → sel / 2 ^ i % 2 = 1 → on / 2 ^ i % 2 = 0 → s.island i ≠ 2 → t.island i = 1) ∧
              (∀ i, i < 14 → sel / 2 ^ i % 2 = 0 ∨ on / 2 ^ i % 2 = 1 → t.island i = s.island i)))))) ∧
  (∀ (i : Fin 14) (s : State),
    (s.pwr.op = none → exec (.islandPowerDown i) s = .next s ∧ exec (.islandPowerUp i) s = .next s) ∧
    (∀ o, s.pwr.op = some o →
      (s.island i = 1 → s.mayGoOff i = true → ∃ t, exec (.islandPowerDown i) s = .next t ∧ t.island i = 2) ∧
      (s.island i = 1 → s.mayGoOff i = false → exec (.islandPowerDown i) s = .next s) ∧
      (s.island i = 2 → o.isl.getLsbD i = true → o.on.getLsbD i = true → ∃ t, exec (.islandPowerUp i) s = .next t ∧
        t.island i = if i.val < 8 ∧ s.capActive = true ∧ s.d0Running = true ∧ s.mode.runPend = false then 3 else 0))) ∧
  (∀ (temps : List (BitVec 16)) (est : Fin 4096) (s : State),
    let hot := s.rbit rPwrCapCtrl 0 && decide (((16 * s.rfld rPwrCapCtrl 8 8 : Nat) : Int) ≤ maxTemp temps)
    let hard := s.rbit rPwrCapCtrl 1 && decide (s.rfld rPwrPcap 0 12 ≤ est.val)
    (∀ c ∈ s.pwr.shed, c < 8) → ∃ t, exec (.capSample temps est) s = .next t ∧
      (∀ i, i < 8 → t.reg (rPwrTemp i) = (temps.getD i 0).setWidth 32) ∧ t.rfld rPwrPcap 16 12 = est ∧
      t.rbit rPwrCapStat 8 = hot ∧ t.rbit rPwrCapStat 9 = hard ∧
      (s.d0Running = false → t.pwr.due = s.pwr.due) ∧
      (∀ c, s.d0Running = true → s.mode.runPend = false → maxTemp temps < 1840 → (hot || hard) = true → s.pwr.lastShed = none →
        s.nextShed = some c → t.pwr.due = s.pwr.due ++ [c] ∧ t.pwr.lastShed = some s.now))

/-- Self-test (R682 to R689). A TEST_RUN that is refused ends BAD_DESC with its cause in TEST.STAT; any other sets RUNNING, the
code and the mode. The tests run in their order, each once, and add what they find; with the reset seed a MISR that differs
fails the test. At the end the record and its result are written, RUNNING is clear and the mode returns. Where the spec leaves a
point open it follows the model's reading, log entry 28. -/
def Obligations.SelfTests : Prop :=
  (∀ (c : Fin 512) (q : BitVec 32) (s : State) (d : OpenDesc), s.ready c q.toNat tTestRun = some d →
    let code := d.num 16 1
    (s.keeperRuns = false → exec (.testRun c q) s = .next s) ∧
    (s.keeperRuns = true → d.extra ≠ 0 → ∃ t, exec (.testRun c q) s = .next t ∧ t.ended c q.toNat 0x10 ∧ t.test = s.test) ∧
    (s.keeperRuns = true → d.extra = 0 → d.onlyUses [(16, 1), (24, 8)] = true → windowOk (d.num 24 8) 256 = true →
      (s.testCause code ≠ 0 → ∃ t, exec (.testRun c q) s = .next t ∧ t.ended c q.toNat 0x10 ∧ t.rfld rTestStat 12 3 = s.testCause code ∧
        t.test = s.test) ∧
      (s.testCause code = 0 → ∃ t, exec (.testRun c q) s = .next t ∧ t.rbit rTestStat 0 = true ∧ t.rfld rTestStat 4 6 = code ∧
        t.test.run = some code ∧ t.test.done = [] ∧ t.mode = { s.mode with selfTest := true }))) ∧
  (∀ (s : State) (rows : List (Fin 32)) (lm : List (Fin 32768)) (cal : List (Fin 65536)) (misrs : List (BitVec 64)) (misr : BitVec 64),
    (s.testNext 1 = true → ∃ t, exec (.testProgMem rows) s = .next t ∧ t.test.done = s.test.done ++ [1] ∧
      t.test.rows = s.test.rows + rows.length) ∧
    (s.testNext 1 = false → exec (.testProgMem rows) s = .next s) ∧
    (s.testNext 2 = true → ∃ t, exec (.testLocalMem lm) s = .next t ∧ t.test.done = s.test.done ++ [2]) ∧
    (s.testNext 3 = true → ∃ t, exec (.testCaldera cal) s = .next t ∧ t.test.done = s.test.done ++ [3]) ∧
    (s.testNext 4 = true → ∃ t, exec (.testEngineLogic misrs) s = .next t ∧ t.test.done = s.test.done ++ [4] ∧
      t.test.bad = (s.test.bad || s.seedReset && s.testClusters.any fun c => misrs.getD c 0 != 0x6E1D47A09C35B28F)) ∧
    (s.testNext 5 = true → ∃ t, exec (.testFabricLogic misr) s = .next t ∧ t.test.done = s.test.done ++ [5] ∧ t.test.misrFab = misr ∧
      t.test.bad = (s.test.bad || s.seedReset && misr != 0x1B94D0E753A62C81)) ∧
    (∀ code, s.test.run = some code → code % 16 = 15 → s.test.done = [] → s.dacsClamped = true →
      (∀ p ∈ s.mov.movers, p.2 = none) → ∃ t, exec (.testAll rows lm cal misrs misr) s = .next t ∧ t.test.done = [1, 2, 3, 4, 5])) ∧
  (∀ (s : State) (code : Nat), s.test.run = some code → s.test.desc = none →
    (((testCodes (code % 16)).all fun k => s.test.done.contains k) = true → ∃ t, exec .testComplete s = .next t ∧
      t.test.run = none ∧ t.test.record = s.test.bytes s.now ∧ t.rbit rTestStat 0 = false ∧ t.rfld rTestStat 1 3 = s.test.result ∧
      t.mode = { s.mode with selfTest := false }) ∧
    (((testCodes (code % 16)).all fun k => s.test.done.contains k) = false → exec .testComplete s = .next s))

/-- Instructions of the TAP that select a register (R692 to R694, R625, R686). From a TAP that holds nothing, each loads its
code and captures its register and leaves the rest of the device as it is, save what a test start or a debug access does; an
INT_SCAN that may not open acts as BYPASS. EXTEST, CLAMP, HIGHZ and an open INT_SCAN hold every island but AON in reset; another
instruction ends the hold with a start-up of reason PERST, and leaving INT_SCAN is a full device reset with TCM and Caldera
cleared (R693, R694). Where the spec leaves a point open it follows the model's reading, log entries 24 and 29. -/
def Obligations.TapInstructions : Prop :=
  (∀ (s : State) (st : BitVec 6) (pins load : BitVec 412) (b : BitVec 8) (what : Fin 6) (off : Fin 524288) (v : BitVec 32),
    s.tap.scan = false → s.tap.held = false →
    let loaded := fun (ir : Nat) (dr : BitVec 832) => { s with tap := { s.tap with ir := ir, dr := dr } }
    exec (.tapReset st) s = .next (loaded 2 0) ∧
    exec (.tapSample pins load st) s = .next { s with tap := { ir := 1, bsr := load, dr := pins.setWidth 832 } } ∧
    exec (.tapIdcode st) s = .next (loaded 2 0xB512058B) ∧
    exec (.tapBypass st) s = .next (loaded 0x1F 0) ∧
    (s.scanOpens = false → exec (.tapIntScan st) s = .next (loaded 0x18 0)) ∧
    exec (.tapTestStat st) s = .next (loaded 0x11 ((s.reg rTestStat).setWidth 832)) ∧
    exec (.tapTestResult st) s = .next (loaded 0x12 (BitVec.ofNat 832 (ofLeBytes (s.test.record.take 104)))) ∧
    (s.powered = false → exec (.tapTestStart b st) s = .next (loaded 0x10 0) ∧
      exec (.tapDbgAccess what off v st) s = .next (loaded 0x14 0)) ∧
    (s.powered = true →
      (s.testCause b.toNat = 0 → exec (.tapTestStart b st) s = .next ((loaded 0x10 0).testBegin 2 b.toNat none)) ∧
      (s.testCause b.toNat ≠ 0 → ∃ t, exec (.tapTestStart b st) s = .next t ∧ t.rbit rTestCtrl 31 = true ∧
        t.rfld rTestStat 12 3 = s.testCause b.toNat ∧ t.test = s.test ∧ t.mode = s.mode)) ∧
    (s.powered = true →
      let deep := s.mode.session = true ∧ s.rbit rSecDbgStat 5 = true
      (what.val ≤ 1 → (off.val < 0x400 ∨ 0x504 < off.val) → ¬ deep → exec (.tapDbgAccess what off v st) s = .next (loaded 0x14 0)) ∧
      (2 ≤ what.val → ¬ deep → exec (.tapDbgAccess what off v st) s = .next (loaded 0x14 0)) ∧
      (what.val = 0 → 0x400 ≤ off.val → off.val ≤ 0x504 → off.val % 4 = 0 → ∀ d, regAt (0x040000 + off.val) = some d →
        ∃ t, exec (.tapDbgAccess what off v st) s = .next t ∧
          t.tap.dr = ((loaded 0x14 0).regRead d (0x040000 + off.val)).1.setWidth 832) ∧
      (deep → what.val = 4 → ∃ t, exec (.tapDbgAccess what off v st) s = .next t ∧ t.boot = s.boot ∧ ∀ i : Fin 4,
        t.tap.dr.extractLsb' (8 * i.val) 8 = SMap.get (fun _ => 0) s.boot.tcm (off.val / 4 * 4 + i.val)) ∧
      (deep → what.val = 5 → ∃ t, exec (.tapDbgAccess what off v st) s = .next t ∧ ∀ j, SMap.get (fun _ => 0) t.boot.tcm j =
        if j / 4 = off.val / 4 then v.extractLsb' (8 * (j % 4)) 8 else SMap.get (fun _ => 0) s.boot.tcm j) ∧
      (deep → what.val = 2 → ∃ t, exec (.tapDbgAccess what off v st) s = .next t ∧ t.keep.halted = true) ∧
      (deep → what.val = 3 → ∃ t, exec (.tapDbgAccess what off v st) s = .next t ∧ t.keep.halted = false))) ∧
  (∀ (s : State) (st : BitVec 6) (pins load : BitVec 412),
    (s.tap.scan = false → ∀ (c : Instr) (ir : Nat),
      (c = .tapExtest pins load st ∧ ir = 0) ∨ (c = .tapClamp st ∧ ir = 3) ∨ (c = .tapHighz st ∧ ir = 4) ∨
        (c = .tapIntScan st ∧ ir = 0x18 ∧ s.scanOpens = true) →
      ∃ t, exec c s = .next t ∧ t.tap.held = true ∧ t.tap.ir = ir ∧ t.tap.scan = decide (ir = 0x18) ∧
        (ir = 0 → t.tap.bsr = load ∧ t.tap.dr = pins.setWidth 832) ∧
        (s.tap.held = true ∨ s.powered = false → { t with tap := s.tap } = s) ∧
        (s.tap.held = false → s.powered = true → t.boot.phase = 0 ∧ t.eng.all (fun p => p.2.progEpoch == (s.engine p.1).progEpoch + 1) ∧
          t.boot.flash = s.boot.flash ∧ t.boot.fuses = s.boot.fuses ∧ t.pwr.seq = s.pwr.seq)) ∧
    (∀ (c : Instr), c = .tapReset st ∨ c = .tapBypass st ∨ c = .tapIdcode st ∨ c = .tapSample pins load st ∨ c = .tapTestStat st →
      (s.tap.scan = false → s.tap.held = true → s.powered = true → ∃ t, exec c s = .next t ∧ t.tap.held = false ∧
        t.boot.phase = 1 ∧ t.boot.reason = 2 ∧ t.boot.fuses = s.boot.fuses ∧ t.boot.flash = s.boot.flash) ∧
      (s.tap.scan = true → s.powered = true → ∃ t, exec c s = .next t ∧ t.tap.held = false ∧ t.tap.scan = false ∧
        t.boot.phase = 1 ∧ t.boot.reason = 2 ∧ t.boot.tcm = [] ∧ t.cal.bytes = [] ∧ t.boot.fuses = s.boot.fuses ∧
        t.boot.flash = s.boot.flash)))
end

