-- ==== Sys2Proof/Laws/SMap.lean ====
section
/-! SUPPORT. Laws of the sparse tables: every operation keeps the canonical form; a read after a write gives the value
written, and a write leaves every other key alone. -/

namespace Sys2Proof

/-- Every key of a table lies above a bound. -/
def SMap.above {α : Type} (b : Nat) (m : SMap α) : Prop := ∀ p ∈ m, b < p.1

theorem SMap.sortedFrom_some {α : Type} {b : Nat} {m : SMap α} :
    SMap.sortedFrom (some b) m = true ↔ SMap.sortedFrom none m = true ∧ SMap.above b m := by
  induction m generalizing b with
  | nil => simp [SMap.sortedFrom, SMap.above]
  | cons p m ih =>
    obtain ⟨k, v⟩ := p
    simp only [SMap.sortedFrom, Bool.true_and, Bool.and_eq_true, decide_eq_true_eq, SMap.above, List.mem_cons,
      forall_eq_or_imp]
    constructor
    · rintro ⟨h1, h2⟩
      exact ⟨h2, h1, fun q hq => Nat.lt_trans h1 ((ih.mp h2).2 q hq)⟩
    · rintro ⟨h1, h2, _⟩
      exact ⟨h2, h1⟩

theorem SMap.sorted_cons {α : Type} {k : Nat} {v : α} {m : SMap α} :
    SMap.sortedFrom none ((k, v) :: m) = true ↔ SMap.sortedFrom none m = true ∧ SMap.above k m := by
  rw [← SMap.sortedFrom_some]
  simp [SMap.sortedFrom]

/-- The canonical form, entry by entry. -/
theorem SMap.wf_cons {α : Type} [DecidableEq α] {d : Nat → α} {k : Nat} {v : α} {m : SMap α} :
    SMap.wf d ((k, v) :: m) = true ↔ SMap.wf d m = true ∧ SMap.above k m ∧ v ≠ d k := by
  simp only [SMap.wf, Bool.and_eq_true, SMap.sorted_cons, List.all_cons, decide_eq_true_eq]
  constructor
  · rintro ⟨⟨h1, h2⟩, h3, h4⟩
    exact ⟨⟨h1, h4⟩, h2, h3⟩
  · rintro ⟨⟨h1, h4⟩, h2, h3⟩
    exact ⟨⟨h1, h2⟩, h3, h4⟩

theorem SMap.wf_nil {α : Type} [DecidableEq α] (d : Nat → α) : SMap.wf d ([] : SMap α) = true := rfl

theorem SMap.above_trans {α : Type} {a b : Nat} {m : SMap α} (h : a < b) (hm : SMap.above b m) : SMap.above a m :=
  fun p hp => Nat.lt_trans h (hm p hp)

theorem SMap.above_keep {α : Type} {p : Nat → Bool} {b : Nat} {m : SMap α} (h : SMap.above b m) :
    SMap.above b (SMap.keep p m) := by
  induction m with
  | nil => exact h
  | cons q m ih =>
    obtain ⟨j, u⟩ := q
    have hr : SMap.above b m := fun p hp => h p (List.mem_cons_of_mem _ hp)
    unfold SMap.keep
    split
    · intro r hr'
      rcases List.mem_cons.mp hr' with rfl | hr'
      · exact h _ (List.mem_cons_self ..)
      · exact ih hr r hr'
    · exact ih hr

/-- Dropping entries keeps the canonical form, also where the dropped keys read as something else from then on. -/
theorem SMap.wf_keep {α : Type} [DecidableEq α] {d d' : Nat → α} {p : Nat → Bool} {m : SMap α}
    (h : SMap.wf d m = true) (hd : ∀ k, p k = true → d' k = d k) : SMap.wf d' (SMap.keep p m) = true := by
  induction m with
  | nil => rfl
  | cons q m ih =>
    obtain ⟨j, u⟩ := q
    obtain ⟨hm, ha, hu⟩ := SMap.wf_cons.mp h
    unfold SMap.keep
    split
    · rename_i hp
      exact SMap.wf_cons.mpr ⟨ih hm, SMap.above_keep ha, by rw [hd j hp]; exact hu⟩
    · exact ih hm

theorem SMap.above_insert {α : Type} {b k : Nat} {v : α} {m : SMap α} (h : b < k) (hm : SMap.above b m) :
    SMap.above b (SMap.insert m k v) := by
  induction m with
  | nil =>
    intro p hp
    simp only [SMap.insert, List.mem_singleton] at hp
    exact hp ▸ h
  | cons q m ih =>
    obtain ⟨j, u⟩ := q
    have hj : b < j := hm (j, u) (List.mem_cons_self ..)
    have hr : SMap.above b m := fun p hp => hm p (List.mem_cons_of_mem _ hp)
    unfold SMap.insert
    repeat' split
    · intro p hp
      rcases List.mem_cons.mp hp with rfl | hp
      · exact h
      · exact hm p hp
    · intro p hp
      rcases List.mem_cons.mp hp with rfl | hp
      · exact h
      · exact hr p hp
    · intro p hp
      rcases List.mem_cons.mp hp with rfl | hp
      · exact hj
      · exact ih hr p hp

theorem SMap.wf_insert {α : Type} [DecidableEq α] {d : Nat → α} {m : SMap α} (h : SMap.wf d m = true) (k : Nat) (v : α)
    (hv : v ≠ d k) : SMap.wf d (SMap.insert m k v) = true := by
  induction m with
  | nil => exact SMap.wf_cons.mpr ⟨rfl, (fun p hp => by simp at hp), hv⟩
  | cons q m ih =>
    obtain ⟨j, u⟩ := q
    obtain ⟨hm, ha, hu⟩ := SMap.wf_cons.mp h
    unfold SMap.insert
    repeat' split
    · rename_i hlt
      refine SMap.wf_cons.mpr ⟨h, ?_, hv⟩
      intro p hp
      rcases List.mem_cons.mp hp with rfl | hp
      · exact hlt
      · exact Nat.lt_trans hlt (ha p hp)
    · rename_i hk
      exact SMap.wf_cons.mpr ⟨hm, hk ▸ ha, hv⟩
    · exact SMap.wf_cons.mpr ⟨ih hm, SMap.above_insert (by omega) ha, hu⟩

/-- A write keeps the canonical form. -/
theorem SMap.wf_set {α : Type} [DecidableEq α] {d : Nat → α} {m : SMap α} (h : SMap.wf d m = true) (k : Nat) (v : α) :
    SMap.wf d (SMap.set d m k v) = true := by
  unfold SMap.set
  split
  · exact SMap.wf_keep h fun _ _ => rfl
  · rename_i hv
    exact SMap.wf_insert h k v hv

theorem SMap.wf_foldl_set {α β : Type} [DecidableEq α] {d : Nat → α} (key : β → Nat) (val : β → α) (l : List β)
    {m : SMap α} (h : SMap.wf d m = true) :
    SMap.wf d (l.foldl (fun m b => SMap.set d m (key b) (val b)) m) = true := by
  induction l generalizing m with
  | nil => exact h
  | cons b l ih => exact ih (SMap.wf_set h _ _)

theorem SMap.get_insert {α : Type} {d : Nat → α} (m : SMap α) (k : Nat) (v : α) (j : Nat) :
    SMap.get d (SMap.insert m k v) j = if j = k then v else SMap.get d m j := by
  induction m with
  | nil => rfl
  | cons q m ih =>
    obtain ⟨i, u⟩ := q
    unfold SMap.insert
    repeat' split
    all_goals simp_all [SMap.get]

theorem SMap.get_keep {α : Type} {d : Nat → α} (p : Nat → Bool) (m : SMap α) (j : Nat) :
    SMap.get d (SMap.keep p m) j = if p j then SMap.get d m j else d j := by
  induction m with
  | nil => simp [SMap.keep, SMap.get]
  | cons q m ih =>
    obtain ⟨i, u⟩ := q
    unfold SMap.keep
    split <;> simp only [SMap.get, ih] <;> repeat' split
    all_goals simp_all

/-- A read after a write gives the value written, and a write leaves every other key alone. -/
theorem SMap.get_set {α : Type} [DecidableEq α] {d : Nat → α} (m : SMap α) (k : Nat) (v : α) (j : Nat) :
    SMap.get d (SMap.set d m k v) j = if j = k then v else SMap.get d m j := by
  unfold SMap.set
  split
  · rw [SMap.get_keep]
    by_cases h : j = k <;> simp_all
  · exact SMap.get_insert m k v j

@[simp] theorem SMap.get_set_same {α : Type} [DecidableEq α] {d : Nat → α} (m : SMap α) (k : Nat) (v : α) :
    SMap.get d (SMap.set d m k v) k = v := by simp [SMap.get_set]

theorem SMap.get_set_other {α : Type} [DecidableEq α] {d : Nat → α} {m : SMap α} {k k' : Nat} (v : α) (hk : k' ≠ k) :
    SMap.get d (SMap.set d m k v) k' = SMap.get d m k' := by simp [SMap.get_set, hk]

@[simp] theorem SMap.get_nil {α : Type} (d : Nat → α) (k : Nat) : SMap.get d [] k = d k := rfl

end Sys2Proof
end

