-- ==== Sys2Proof/Laws/Kept.lean ====
section
/-! SUPPORT. What every operation keeps: the queue of commands, the direction of time and of the counter of free values, the
canonical form of the memories, every programmed fuse bit, and every part of the state outside a mask (its frame). -/

namespace Sys2Proof.Machine

/-- Which parts of the state an operation may change: one flag per field of State, and one for each of the memories inside
`cal` and `boot`: the Caldera bytes, the flash, the TCM, the fuses. -/
structure Mask where
  regs : Bool := false
  latches : Bool := false
  rdata : Bool := false
  eng : Bool := false
  chainNow : Bool := false
  chainId : Bool := false
  chainFrz : Bool := false
  chainTorn : Bool := false
  chainIn : Bool := false
  fab : Bool := false
  tick : Bool := false
  par : Bool := false
  cal : Bool := false
  res : Bool := false
  ctx : Bool := false
  mode : Bool := false
  route : Bool := false
  mov : Bool := false
  port : Bool := false
  pcie : Bool := false
  clk : Bool := false
  keep : Bool := false
  pwr : Bool := false
  ngx : Bool := false
  boot : Bool := false
  spim : Bool := false
  spis : Bool := false
  test : Bool := false
  tap : Bool := false
  gpio : Bool := false
  calMem : Bool := false
  flash : Bool := false
  tcm : Bool := false
  fuse : Bool := false

/-- `Memory.wf` on the parts of a state that it reads. -/
def Canon (c : CalderaState) (b : BootState) : Prop :=
  calWf c.bytes c.epochs c.tileEpochs c.cleared = true ∧ SMap.wf flashDefault b.flash = true ∧
  SMap.wf (fun _ => (0 : Byte)) b.tcm = true ∧ SMap.wf (fun _ => (0 : Word)) b.fuses = true

theorem wf_canon (s : State) : Memory.wf s = true ↔ Canon s.cal s.boot := by
  simp only [Memory.wf, Canon, Bool.and_eq_true, and_assoc]

/-- Every programmed bit of the fuse words `a` is programmed in `b`. -/
def FuseLe (a b : SMap Word) : Prop :=
  ∀ w, SMap.get (fun _ => (0 : Word)) a w &&& SMap.get (fun _ => 0) b w = SMap.get (fun _ => 0) a w

/-- The Caldera bytes are the same. -/
def SameBytes (c d : CalderaState) : Prop :=
  c.bytes = d.bytes ∧ c.epochs = d.epochs ∧ c.tileEpochs = d.tileEpochs ∧ c.cleared = d.cleared

/-- Every operation on the way from `z` to `s` has kept the queue, has not turned time or the free-value counter back, has kept
the memories canonical, has cleared no fuse bit, and has changed no part of the state but those of the mask. -/
structure Kept (M : Mask) (z s : State) : Prop where
  pending : s.pending = z.pending
  now : z.now ≤ s.now
  freeCtr : z.freeCtr ≤ s.freeCtr
  canon : Canon z.cal z.boot → Canon s.cal s.boot ∧ FuseLe z.boot.fuses s.boot.fuses
  regs : M.regs = false → s.regs = z.regs
  latches : M.latches = false → s.latches = z.latches
  rdata : M.rdata = false → s.rdata = z.rdata
  eng : M.eng = false → s.eng = z.eng
  chainNow : M.chainNow = false → s.chainNow = z.chainNow
  chainId : M.chainId = false → s.chainId = z.chainId
  chainFrz : M.chainFrz = false → s.chainFrz = z.chainFrz
  chainTorn : M.chainTorn = false → s.chainTorn = z.chainTorn
  chainIn : M.chainIn = false → s.chainIn = z.chainIn
  fab : M.fab = false → s.fab = z.fab
  tick : M.tick = false → s.tick = z.tick
  par : M.par = false → s.par = z.par
  cal : M.cal = false → s.cal = z.cal
  res : M.res = false → s.res = z.res
  ctx : M.ctx = false → s.ctx = z.ctx
  mode : M.mode = false → s.mode = z.mode
  route : M.route = false → s.route = z.route
  mov : M.mov = false → s.mov = z.mov
  port : M.port = false → s.port = z.port
  pcie : M.pcie = false → s.pcie = z.pcie
  clk : M.clk = false → s.clk = z.clk
  keep : M.keep = false → s.keep = z.keep
  pwr : M.pwr = false → s.pwr = z.pwr
  ngx : M.ngx = false → s.ngx = z.ngx
  boot : M.boot = false → s.boot = z.boot
  spim : M.spim = false → s.spim = z.spim
  spis : M.spis = false → s.spis = z.spis
  test : M.test = false → s.test = z.test
  tap : M.tap = false → s.tap = z.tap
  gpio : M.gpio = false → s.gpio = z.gpio
  calMem : M.calMem = false → SameBytes s.cal z.cal
  flash : M.flash = false → s.boot.flash = z.boot.flash
  tcm : M.tcm = false → s.boot.tcm = z.boot.tcm
  fuse : M.fuse = false → s.boot.fuses = z.boot.fuses

/-- `Kept` of the next state, if a command answers one. -/
def OutOk (M : Mask) (z : State) : Host.Outcome State Fault Refusal → Prop
  | .next s => Kept M z s
  | _ => True

theorem FuseLe.refl (a : SMap Word) : FuseLe a a := fun w => by
  ext i
  simp

theorem FuseLe.trans {a b c : SMap Word} (h1 : FuseLe a b) (h2 : FuseLe b c) : FuseLe a c := fun w => by
  rw [← h1 w, BitVec.and_assoc, h2 w]

theorem SameBytes.refl (c : CalderaState) : SameBytes c c := ⟨rfl, rfl, rfl, rfl⟩

theorem SameBytes.trans {a b c : CalderaState} (h : SameBytes a b) (k : SameBytes b c) : SameBytes a c :=
  ⟨h.1.trans k.1, h.2.1.trans k.2.1, h.2.2.1.trans k.2.2.1, h.2.2.2.trans k.2.2.2⟩

theorem SameBytes.canon {c d : CalderaState} {b : BootState} (h : SameBytes d c) (k : Canon c b) : Canon d b := by
  unfold Canon
  rw [h.1, h.2.1, h.2.2.1, h.2.2.2]
  exact k

theorem off {b : Bool} {p : Prop} (m : b = true) (h : b = false) : p := by
  rw [m] at h
  cases h

theorem Kept.refl {M : Mask} (z : State) : Kept M z z :=
  ⟨rfl, Nat.le_refl _, Nat.le_refl _, fun h => ⟨h, FuseLe.refl _⟩, fun _ => rfl, fun _ => rfl, fun _ => rfl, fun _ => rfl, fun _ => rfl, fun _ => rfl, fun _ => rfl, fun _ => rfl, fun _ => rfl, fun _ => rfl, fun _ => rfl, fun _ => rfl, fun _ => rfl, fun _ => rfl, fun _ => rfl, fun _ => rfl, fun _ => rfl, fun _ => rfl, fun _ => rfl, fun _ => rfl, fun _ => rfl, fun _ => rfl, fun _ => rfl, fun _ => rfl, fun _ => rfl, fun _ => rfl, fun _ => rfl, fun _ => rfl, fun _ => rfl, fun _ => rfl,
    fun _ => SameBytes.refl _, fun _ => rfl, fun _ => rfl, fun _ => rfl⟩

theorem OutOk.next {M : Mask} {z s : State} (h : Kept M z s) : OutOk M z (.next s) := h

/-! ### One field of the state is updated -/

theorem Kept.upNow {M : Mask} {z s : State} {n : Nat} (hn : s.now ≤ n) (h : Kept M z s) : Kept M z { s with now := n } :=
  { h with now := Nat.le_trans h.now hn }

theorem Kept.upFreeCtr {M : Mask} {z s : State} {n : Nat} (hn : s.freeCtr ≤ n) (h : Kept M z s) :
    Kept M z { s with freeCtr := n } :=
  { h with freeCtr := Nat.le_trans h.freeCtr hn }

theorem Kept.upRegs {M : Mask} {z s : State} {v : SMap Word} (m : M.regs = true) (h : Kept M z s) : Kept M z { s with regs := v } :=
  { h with regs := fun k => off m k }

theorem Kept.upLatches {M : Mask} {z s : State} {v : SMap Word} (m : M.latches = true) (h : Kept M z s) : Kept M z { s with latches := v } :=
  { h with latches := fun k => off m k }

theorem Kept.upRdata {M : Mask} {z s : State} {v : Word} (m : M.rdata = true) (h : Kept M z s) : Kept M z { s with rdata := v } :=
  { h with rdata := fun k => off m k }

theorem Kept.upEng {M : Mask} {z s : State} {v : SMap Engine} (m : M.eng = true) (h : Kept M z s) : Kept M z { s with eng := v } :=
  { h with eng := fun k => off m k }

theorem Kept.upChainNow {M : Mask} {z s : State} {v : List ChainWrite} (m : M.chainNow = true) (h : Kept M z s) : Kept M z { s with chainNow := v } :=
  { h with chainNow := fun k => off m k }

theorem Kept.upChainId {M : Mask} {z s : State} {v : Nat} (m : M.chainId = true) (h : Kept M z s) : Kept M z { s with chainId := v } :=
  { h with chainId := fun k => off m k }

theorem Kept.upChainFrz {M : Mask} {z s : State} {v : SMap FrozenPort} (m : M.chainFrz = true) (h : Kept M z s) : Kept M z { s with chainFrz := v } :=
  { h with chainFrz := fun k => off m k }

theorem Kept.upChainTorn {M : Mask} {z s : State} {v : List (Nat × Nat)} (m : M.chainTorn = true) (h : Kept M z s) : Kept M z { s with chainTorn := v } :=
  { h with chainTorn := fun k => off m k }

theorem Kept.upChainIn {M : Mask} {z s : State} {v : SMap (Quad Word)} (m : M.chainIn = true) (h : Kept M z s) : Kept M z { s with chainIn := v } :=
  { h with chainIn := fun k => off m k }

theorem Kept.upFab {M : Mask} {z s : State} {v : FabricState} (m : M.fab = true) (h : Kept M z s) : Kept M z { s with fab := v } :=
  { h with fab := fun k => off m k }

theorem Kept.upTick {M : Mask} {z s : State} {v : TickState} (m : M.tick = true) (h : Kept M z s) : Kept M z { s with tick := v } :=
  { h with tick := fun k => off m k }

theorem Kept.upPar {M : Mask} {z s : State} {v : ParamState} (m : M.par = true) (h : Kept M z s) : Kept M z { s with par := v } :=
  { h with par := fun k => off m k }

theorem Kept.upRes {M : Mask} {z s : State} {v : SMap (Option Nat)} (m : M.res = true) (h : Kept M z s) : Kept M z { s with res := v } :=
  { h with res := fun k => off m k }

theorem Kept.upCtx {M : Mask} {z s : State} {v : SMap Ctx} (m : M.ctx = true) (h : Kept M z s) : Kept M z { s with ctx := v } :=
  { h with ctx := fun k => off m k }

theorem Kept.upMode {M : Mask} {z s : State} {v : ModeState} (m : M.mode = true) (h : Kept M z s) : Kept M z { s with mode := v } :=
  { h with mode := fun k => off m k }

theorem Kept.upRoute {M : Mask} {z s : State} {v : RouteState} (m : M.route = true) (h : Kept M z s) : Kept M z { s with route := v } :=
  { h with route := fun k => off m k }

theorem Kept.upMov {M : Mask} {z s : State} {v : MoverState} (m : M.mov = true) (h : Kept M z s) : Kept M z { s with mov := v } :=
  { h with mov := fun k => off m k }

theorem Kept.upPort {M : Mask} {z s : State} {v : PortState} (m : M.port = true) (h : Kept M z s) : Kept M z { s with port := v } :=
  { h with port := fun k => off m k }

theorem Kept.upPcie {M : Mask} {z s : State} {v : PcieState} (m : M.pcie = true) (h : Kept M z s) : Kept M z { s with pcie := v } :=
  { h with pcie := fun k => off m k }

theorem Kept.upClk {M : Mask} {z s : State} {v : ClkState} (m : M.clk = true) (h : Kept M z s) : Kept M z { s with clk := v } :=
  { h with clk := fun k => off m k }

theorem Kept.upKeep {M : Mask} {z s : State} {v : KeepState} (m : M.keep = true) (h : Kept M z s) : Kept M z { s with keep := v } :=
  { h with keep := fun k => off m k }

theorem Kept.upPwr {M : Mask} {z s : State} {v : PowerState} (m : M.pwr = true) (h : Kept M z s) : Kept M z { s with pwr := v } :=
  { h with pwr := fun k => off m k }

theorem Kept.upNgx {M : Mask} {z s : State} {v : NgxState} (m : M.ngx = true) (h : Kept M z s) : Kept M z { s with ngx := v } :=
  { h with ngx := fun k => off m k }

theorem Kept.upSpim {M : Mask} {z s : State} {v : SpimState} (m : M.spim = true) (h : Kept M z s) : Kept M z { s with spim := v } :=
  { h with spim := fun k => off m k }

theorem Kept.upSpis {M : Mask} {z s : State} {v : SpisState} (m : M.spis = true) (h : Kept M z s) : Kept M z { s with spis := v } :=
  { h with spis := fun k => off m k }

theorem Kept.upTest {M : Mask} {z s : State} {v : TestState} (m : M.test = true) (h : Kept M z s) : Kept M z { s with test := v } :=
  { h with test := fun k => off m k }

theorem Kept.upTap {M : Mask} {z s : State} {v : TapState} (m : M.tap = true) (h : Kept M z s) : Kept M z { s with tap := v } :=
  { h with tap := fun k => off m k }

theorem Kept.upGpio {M : Mask} {z s : State} {v : GpioState} (m : M.gpio = true) (h : Kept M z s) : Kept M z { s with gpio := v } :=
  { h with gpio := fun k => off m k }

theorem Kept.upCal {M : Mask} {z s : State} {c : CalderaState} (m : M.cal = true) (hb : SameBytes c s.cal) (h : Kept M z s) :
    Kept M z { s with cal := c } :=
  { h with cal := fun k => off m k, calMem := fun k => hb.trans (h.calMem k), canon := fun k => ⟨hb.canon (h.canon k).1, (h.canon k).2⟩ }

theorem Kept.upBoot {M : Mask} {z s : State} {b : BootState} (m : M.boot = true) (h1 : b.flash = s.boot.flash)
    (h2 : b.tcm = s.boot.tcm) (h3 : b.fuses = s.boot.fuses) (h : Kept M z s) : Kept M z { s with boot := b } :=
  { h with
    boot := fun k => off m k
    flash := fun k => h1.trans (h.flash k)
    tcm := fun k => h2.trans (h.tcm k)
    fuse := fun k => h3.trans (h.fuse k)
    canon := fun k => by
      have h0 := h.canon k
      unfold Canon at h0 ⊢
      simp only [h1, h2, h3]
      exact h0 }

/-- The Caldera bytes change. -/
theorem Kept.upBytes {M : Mask} {z s : State} {c : CalderaState} (m1 : M.cal = true) (m2 : M.calMem = true)
    (hw : Canon s.cal s.boot → Canon c s.boot) (h : Kept M z s) : Kept M z { s with cal := c } :=
  { h with cal := fun k => off m1 k, calMem := fun k => off m2 k, canon := fun k => ⟨hw (h.canon k).1, (h.canon k).2⟩ }

/-- A memory of the Boot ROM block changes. -/
theorem Kept.upRoms {M : Mask} {z s : State} {b : BootState} (m : M.boot = true) (m1 : M.flash = true ∨ b.flash = s.boot.flash)
    (m2 : M.tcm = true ∨ b.tcm = s.boot.tcm) (m3 : M.fuse = true ∨ b.fuses = s.boot.fuses)
    (hw : Canon s.cal s.boot → Canon s.cal b ∧ FuseLe s.boot.fuses b.fuses) (h : Kept M z s) : Kept M z { s with boot := b } :=
  { h with
    boot := fun k => off m k
    flash := fun k => m1.elim (fun e => off e k) fun e => e.trans (h.flash k)
    tcm := fun k => m2.elim (fun e => off e k) fun e => e.trans (h.tcm k)
    fuse := fun k => m3.elim (fun e => off e k) fun e => e.trans (h.fuse k)
    canon := fun k =>
      have h0 := h.canon k
      have h1 := hw h0.1
      ⟨h1.1, h0.2.trans h1.2⟩ }

theorem snd_of {M : Mask} {z : State} {α : Type} {e : α × State} {a : α} {s : State} (heq : e = (a, s)) (h : Kept M z e.2) : Kept M z s := by
  subst heq
  exact h

theorem snd_of2 {M : Mask} {z : State} {α β : Type} {e : α × β × State} {a : α} {b : β} {s : State} (heq : e = (a, b, s))
    (h : Kept M z e.2.2) : Kept M z s := by
  subst heq
  exact h

theorem snd_some {M : Mask} {z : State} {α : Type} {e : Option (α × State)} {a : α} {s : State} (heq : e = some (a, s))
    (h : ∀ r, e = some r → Kept M z r.2) : Kept M z s := h _ heq

theorem foldl_kept {M : Mask} {z : State} {α : Type} {l : List α} {f : State → α → State} {s : State} (h : Kept M z s)
    (hf : ∀ s a, Kept M z s → Kept M z (f s a)) : Kept M z (l.foldl f s) := by
  induction l generalizing s with
  | nil => exact h
  | cons a l ih => exact ih (hf s a h)

theorem foldl_kept2 {M : Mask} {z : State} {α β : Type} {l : List α} {f : β × State → α → β × State} {s : β × State} (h : Kept M z s.2)
    (hf : ∀ s a, Kept M z s.2 → Kept M z (f s a).2) : Kept M z (l.foldl f s).2 := by
  induction l generalizing s with
  | nil => exact h
  | cons a l ih => exact ih (hf s a h)

theorem foldl_kept3 {M : Mask} {z : State} {α β γ : Type} {l : List α} {f : β × γ × State → α → β × γ × State} {s : β × γ × State}
    (h : Kept M z s.2.2) (hf : ∀ s a, Kept M z s.2.2 → Kept M z (f s a).2.2) : Kept M z (l.foldl f s).2.2 := by
  induction l generalizing s with
  | nil => exact h
  | cons a l ih => exact ih (hf s a h)

theorem forN_kept {M : Mask} {z : State} {n : Nat} {f : Nat → State → State} {s : State} (h : Kept M z s)
    (hf : ∀ i s, Kept M z s → Kept M z (f i s)) : Kept M z (forN n f s) :=
  foldl_kept h fun s i => hf i s

theorem forN_kept2 {M : Mask} {z : State} {β : Type} {n : Nat} {f : Nat → β × State → β × State} {s : β × State} (h : Kept M z s.2)
    (hf : ∀ i s, Kept M z s.2 → Kept M z (f i s).2) : Kept M z (forN n f s).2 :=
  foldl_kept2 h fun s i => hf i s

theorem stateOf_kept {M : Mask} {z s : State} {o : Host.Outcome State Fault Refusal} (h : Kept M z s) (ho : OutOk M z o) : Kept M z (stateOf s o) := by
  cases o with
  | next t => exact ho
  | fault r => exact h
  | refused r => exact h

theorem State.modBoot_kept {M : Mask} {z s : State} {f : BootState → BootState} (m : M.boot = true) (h : Kept M z s)
    (h1 : (f s.boot).flash = s.boot.flash) (h2 : (f s.boot).tcm = s.boot.tcm) (h3 : (f s.boot).fuses = s.boot.fuses) :
    Kept M z (s.modBoot f) := Kept.upBoot m h1 h2 h3 h

/-- Programming more bits of a fuse word. -/
theorem FuseLe.set {m : SMap Word} (w : Nat) (v : Word)
    (hv : SMap.get (fun _ => (0 : Word)) m w &&& v = SMap.get (fun _ => 0) m w) : FuseLe m (SMap.set (fun _ => 0) m w v) := by
  intro k
  by_cases hk : k = w
  · subst hk
    rw [SMap.get_set_same]
    exact hv
  · rw [SMap.get_set_other v hk]
    exact FuseLe.refl m k

theorem setCells_parts (f : Nat → Nat) (g : Nat → Byte) (l : List Nat) (d : CalderaState) :
    (l.foldl (fun (c : CalderaState) i => c.setCell (f i) (g i)) d).epochs = d.epochs ∧
    (l.foldl (fun (c : CalderaState) i => c.setCell (f i) (g i)) d).tileEpochs = d.tileEpochs ∧
    (l.foldl (fun (c : CalderaState) i => c.setCell (f i) (g i)) d).cleared = d.cleared := by
  induction l generalizing d with
  | nil => exact ⟨rfl, rfl, rfl⟩
  | cons i l ih => exact ih (d.setCell (f i) (g i))

theorem setCells_wf (f : Nat → Nat) (g : Nat → Byte) (l : List Nat) {d : CalderaState} (h : calWf d.bytes d.epochs d.tileEpochs d.cleared = true) :
    calWf (l.foldl (fun (c : CalderaState) i => c.setCell (f i) (g i)) d).bytes d.epochs d.tileEpochs d.cleared = true := by
  induction l generalizing d with
  | nil => exact h
  | cons i l ih => exact ih (d := d.setCell (f i) (g i)) (SMap.wf_set h _ _)

/-- Sinter writes its holding buffer back to the cells. -/
theorem Kept.cells {M : Mask} {z s : State} (m1 : M.cal = true) (m2 : M.calMem = true) (h : Kept M z s) (f : Nat → Nat) (g : Nat → Byte)
    (l : List Nat) (soft : SMap Nat) (k : Sinter) :
    Kept M z { s with cal := { l.foldl (fun (c : CalderaState) i => c.setCell (f i) (g i)) s.cal with soft := soft, sinter := k } } := by
  refine Kept.upBytes m1 m2 (fun hc => ?_) h
  have hp := setCells_parts f g l s.cal
  have hw := setCells_wf f g l hc.1
  refine ⟨?_, hc.2⟩
  show calWf _ (l.foldl _ s.cal).epochs (l.foldl _ s.cal).tileEpochs (l.foldl _ s.cal).cleared = true
  rw [hp.1, hp.2.1, hp.2.2]
  exact hw

/-- A reset: every field but the queue may change; flash and fuses stay. -/
theorem Kept.restart {M : Mask} {z s t : State} (h : Kept M z s) (m_regs : M.regs = true)
    (m_latches : M.latches = true) (m_rdata : M.rdata = true) (m_eng : M.eng = true) (m_chainNow : M.chainNow = true)
    (m_chainId : M.chainId = true) (m_chainFrz : M.chainFrz = true) (m_chainTorn : M.chainTorn = true)
    (m_chainIn : M.chainIn = true) (m_fab : M.fab = true) (m_tick : M.tick = true) (m_par : M.par = true)
    (m_cal : M.cal = true) (m_res : M.res = true) (m_ctx : M.ctx = true) (m_mode : M.mode = true)
    (m_route : M.route = true) (m_mov : M.mov = true) (m_port : M.port = true) (m_pcie : M.pcie = true)
    (m_clk : M.clk = true) (m_keep : M.keep = true) (m_pwr : M.pwr = true) (m_ngx : M.ngx = true)
    (m_boot : M.boot = true) (m_spim : M.spim = true) (m_spis : M.spis = true) (m_test : M.test = true)
    (m_tap : M.tap = true) (m_gpio : M.gpio = true) (m_calMem : M.calMem = true) (m_tcm : M.tcm = true) (hp :
    t.pending = s.pending) (hn : s.now ≤ t.now) (hf : s.freeCtr ≤ t.freeCtr) (hfl : t.boot.flash =
    s.boot.flash) (hfu : t.boot.fuses = s.boot.fuses) (hc : calWf t.cal.bytes t.cal.epochs t.cal.tileEpochs
    t.cal.cleared = true) (ht : SMap.wf (fun _ => (0 : Byte)) t.boot.tcm = true) : Kept M z t :=
  ⟨hp.trans h.pending, Nat.le_trans h.now hn, Nat.le_trans h.freeCtr hf, fun k => by
      obtain ⟨h1, h2⟩ := h.canon k
      exact ⟨⟨hc, hfl ▸ h1.2.1, ht, hfu ▸ h1.2.2.2⟩, hfu ▸ h2⟩,
    fun k => off m_regs k, fun k => off m_latches k, fun k => off m_rdata k, fun k => off m_eng k, fun k => off
    m_chainNow k, fun k => off m_chainId k, fun k => off m_chainFrz k, fun k => off m_chainTorn k, fun k => off
    m_chainIn k, fun k => off m_fab k, fun k => off m_tick k, fun k => off m_par k, fun k => off m_cal k, fun k => off
    m_res k, fun k => off m_ctx k, fun k => off m_mode k, fun k => off m_route k, fun k => off m_mov k, fun k => off
    m_port k, fun k => off m_pcie k, fun k => off m_clk k, fun k => off m_keep k, fun k => off m_pwr k, fun k => off
    m_ngx k, fun k => off m_boot k, fun k => off m_spim k, fun k => off m_spis k, fun k => off m_test k, fun k => off
    m_tap k, fun k => off m_gpio k, fun k => off m_calMem k, fun k => hfl.trans (h.flash k), fun k => off m_tcm k, fun k
    => hfu.trans (h.fuse k)⟩

/-- `t` differs from `s` in parts of the mask only, and the memories stay canonical. Every part not named is the same. -/
structure Upd (M : Mask) (s t : State) : Prop where
  pending : t.pending = s.pending := by exact rfl
  now : s.now ≤ t.now := by exact Nat.le_refl _
  freeCtr : s.freeCtr ≤ t.freeCtr := by exact Nat.le_refl _
  regs : M.regs = true ∨ t.regs = s.regs := by exact .inr rfl
  latches : M.latches = true ∨ t.latches = s.latches := by exact .inr rfl
  rdata : M.rdata = true ∨ t.rdata = s.rdata := by exact .inr rfl
  eng : M.eng = true ∨ t.eng = s.eng := by exact .inr rfl
  chainNow : M.chainNow = true ∨ t.chainNow = s.chainNow := by exact .inr rfl
  chainId : M.chainId = true ∨ t.chainId = s.chainId := by exact .inr rfl
  chainFrz : M.chainFrz = true ∨ t.chainFrz = s.chainFrz := by exact .inr rfl
  chainTorn : M.chainTorn = true ∨ t.chainTorn = s.chainTorn := by exact .inr rfl
  chainIn : M.chainIn = true ∨ t.chainIn = s.chainIn := by exact .inr rfl
  fab : M.fab = true ∨ t.fab = s.fab := by exact .inr rfl
  tick : M.tick = true ∨ t.tick = s.tick := by exact .inr rfl
  par : M.par = true ∨ t.par = s.par := by exact .inr rfl
  cal : M.cal = true ∨ t.cal = s.cal := by exact .inr rfl
  res : M.res = true ∨ t.res = s.res := by exact .inr rfl
  ctx : M.ctx = true ∨ t.ctx = s.ctx := by exact .inr rfl
  mode : M.mode = true ∨ t.mode = s.mode := by exact .inr rfl
  route : M.route = true ∨ t.route = s.route := by exact .inr rfl
  mov : M.mov = true ∨ t.mov = s.mov := by exact .inr rfl
  port : M.port = true ∨ t.port = s.port := by exact .inr rfl
  pcie : M.pcie = true ∨ t.pcie = s.pcie := by exact .inr rfl
  clk : M.clk = true ∨ t.clk = s.clk := by exact .inr rfl
  keep : M.keep = true ∨ t.keep = s.keep := by exact .inr rfl
  pwr : M.pwr = true ∨ t.pwr = s.pwr := by exact .inr rfl
  ngx : M.ngx = true ∨ t.ngx = s.ngx := by exact .inr rfl
  boot : M.boot = true ∨ t.boot = s.boot := by exact .inr rfl
  spim : M.spim = true ∨ t.spim = s.spim := by exact .inr rfl
  spis : M.spis = true ∨ t.spis = s.spis := by exact .inr rfl
  test : M.test = true ∨ t.test = s.test := by exact .inr rfl
  tap : M.tap = true ∨ t.tap = s.tap := by exact .inr rfl
  gpio : M.gpio = true ∨ t.gpio = s.gpio := by exact .inr rfl
  calMem : M.calMem = true ∨ SameBytes t.cal s.cal := by exact .inr ⟨rfl, rfl, rfl, rfl⟩
  flash : M.flash = true ∨ t.boot.flash = s.boot.flash := by exact .inr rfl
  tcm : M.tcm = true ∨ t.boot.tcm = s.boot.tcm := by exact .inr rfl
  fuse : M.fuse = true ∨ t.boot.fuses = s.boot.fuses := by exact .inr rfl
  canon : Canon s.cal s.boot → Canon t.cal t.boot ∧ FuseLe s.boot.fuses t.boot.fuses := by exact fun h => ⟨h, FuseLe.refl _⟩

theorem keepOn {b : Bool} {α : Type} {x y z : α} (m : b = true ∨ x = y) (h : b = false → y = z) (k : b = false) : x = z :=
  m.elim (fun e => off e k) fun e => e.trans (h k)

theorem Kept.lit {M : Mask} {z s t : State} (u : Upd M s t) (h : Kept M z s) : Kept M z t :=
  ⟨u.pending.trans h.pending, Nat.le_trans h.now u.now, Nat.le_trans h.freeCtr u.freeCtr,
    fun k => ⟨(u.canon (h.canon k).1).1, (h.canon k).2.trans (u.canon (h.canon k).1).2⟩, keepOn u.regs h.regs,
    keepOn u.latches h.latches, keepOn u.rdata h.rdata, keepOn u.eng h.eng, keepOn u.chainNow h.chainNow,
    keepOn u.chainId h.chainId, keepOn u.chainFrz h.chainFrz, keepOn u.chainTorn h.chainTorn,
    keepOn u.chainIn h.chainIn, keepOn u.fab h.fab, keepOn u.tick h.tick, keepOn u.par h.par, keepOn u.cal h.cal,
    keepOn u.res h.res, keepOn u.ctx h.ctx, keepOn u.mode h.mode, keepOn u.route h.route, keepOn u.mov h.mov,
    keepOn u.port h.port, keepOn u.pcie h.pcie, keepOn u.clk h.clk, keepOn u.keep h.keep, keepOn u.pwr h.pwr,
    keepOn u.ngx h.ngx, keepOn u.boot h.boot, keepOn u.spim h.spim, keepOn u.spis h.spis, keepOn u.test h.test,
    keepOn u.tap h.tap, keepOn u.gpio h.gpio, fun k => u.calMem.elim (fun e => off e k) fun e => e.trans (h.calMem k),
    keepOn u.flash h.flash, keepOn u.tcm h.tcm, keepOn u.fuse h.fuse⟩

theorem ite_kept {M : Mask} {z a b : State} {p : Prop} [Decidable p] (ha : Kept M z a) (hb : Kept M z b) :
    Kept M z (if p then a else b) := by
  split
  · exact ha
  · exact hb

theorem ite_ok {M : Mask} {z : State} {a b : Host.Outcome State Fault Refusal} {p : Prop} [Decidable p] (ha : OutOk M z a)
    (hb : OutOk M z b) : OutOk M z (if p then a else b) := by
  split
  · exact ha
  · exact hb

end Sys2Proof.Machine
end

