-- ==== Sys2Proof/Laws/KeptOps.lean ====
section
/-! SUPPORT. What the operations and meanings of Machine/Ops.lean keep (Laws/Kept.lean). -/

namespace Sys2Proof.Machine

theorem State.setEngine_kept {M : Mask} {z₀ : State} {s : State} {e : Nat} {x : Engine} (m_eng : M.eng = true) (h0 : Kept M
    z₀ s) : Kept M z₀ (@State.setEngine s e x) := by
  unfold State.setEngine
  exact Kept.upEng m_eng (by assumption)

theorem State.modEngine_kept {M : Mask} {z₀ : State} {s : State} {e : Nat} {f : Engine → Engine} (m_eng : M.eng = true) (h0 :
    Kept M z₀ s) : Kept M z₀ (@State.modEngine s e f) := by
  unfold State.modEngine
  exact State.setEngine_kept m_eng (by assumption)

theorem State.setReg_kept {M : Mask} {z₀ : State} {s : State} {off : Nat} {v : Word} (m_regs : M.regs = true) (h0 : Kept M z₀
    s) : Kept M z₀ (@State.setReg s off v) := by
  unfold State.setReg
  exact Kept.upRegs m_regs (by assumption)

theorem State.setBit_kept {M : Mask} {z₀ : State} {s : State} {off : Nat} {b : Nat} {v : Bool} (m_regs : M.regs = true) (h0 :
    Kept M z₀ s) : Kept M z₀ (@State.setBit s off b v) := by
  unfold State.setBit
  exact State.setReg_kept m_regs (by assumption)

theorem State.bar_kept {M : Mask} {z₀ : State} {s : State} {off : Nat} {f : State → State} (m_regs : M.regs = true) (h0 :
    Kept M z₀ s) (h2 : ∀ u0, Kept M z₀ u0 → Kept M z₀ (f u0)) : Kept M z₀ (@State.bar s off f) := by
  unfold State.bar
  split
  · exact State.setBit_kept m_regs (by assumption)
  · apply h2
    assumption

theorem State.setFld_kept {M : Mask} {z₀ : State} {s : State} {off : Nat} {lo : Nat} {len : Nat} {v : Nat} (m_regs : M.regs =
    true) (h0 : Kept M z₀ s) : Kept M z₀ (@State.setFld s off lo len v) := by
  unfold State.setFld
  exact State.setReg_kept m_regs (by assumption)

theorem State.setContext_kept {M : Mask} {z₀ : State} {s : State} {c : Nat} {x : Ctx} (m_ctx : M.ctx = true) (h0 : Kept M z₀
    s) : Kept M z₀ (@State.setContext s c x) := by
  unfold State.setContext
  exact Kept.upCtx m_ctx (by assumption)

theorem State.modContext_kept {M : Mask} {z₀ : State} {s : State} {c : Nat} {f : Ctx → Ctx} (m_ctx : M.ctx = true) (h0 : Kept
    M z₀ s) : Kept M z₀ (@State.modContext s c f) := by
  unfold State.modContext
  exact State.setContext_kept m_ctx (by assumption)

theorem State.modDesc_kept {M : Mask} {z₀ : State} {s : State} {c : Nat} {q : Nat} {f : OpenDesc → OpenDesc} (m_ctx : M.ctx =
    true) (h0 : Kept M z₀ s) : Kept M z₀ (@State.modDesc s c q f) := by
  unfold State.modDesc
  exact State.modContext_kept m_ctx (by assumption)

theorem State.setResult_kept {M : Mask} {z₀ : State} {s : State} {c : Nat} {q : Nat} {code : Nat} (m_ctx : M.ctx = true) (h0
    : Kept M z₀ s) : Kept M z₀ (@State.setResult s c q code) := by
  unfold State.setResult
  exact State.modDesc_kept m_ctx (by assumption)

theorem State.offer_kept {M : Mask} {z₀ : State} {s : State} {cls : Nat} {master : Nat} {t : Tlp} (m_fab : M.fab = true) (h0
    : Kept M z₀ s) : Kept M z₀ (@State.offer s cls master t) := by
  unfold State.offer
  exact Kept.upFab m_fab (by assumption)

theorem State.ngxSend_kept {M : Mask} {z₀ : State} {s : State} {m : Msg} (m_ngx : M.ngx = true) (h0 : Kept M z₀ s) : Kept M
    z₀ (@State.ngxSend s m) := by
  unfold State.ngxSend
  exact Kept.upNgx m_ngx (by assumption)

theorem State.proxyRead_kept {M : Mask} {z₀ : State} {s : State} {c : Nat} {cls : Nat} {addr : Nat} {n : Nat} {who : ReadFor}
    (m_pcie : M.pcie = true) (m_ngx : M.ngx = true) (h0 : Kept M z₀ s) : Kept M z₀ (@State.proxyRead s c cls addr n who) := by
  unfold State.proxyRead
  refine forN_kept ?_ ?_
  · assumption
  · intro v0
    intro v1
    intro v2
    extract_lets x3 x4 x5 x6 x7
    clear_value x3 x4
    have k8 : Kept M z₀ x5 := by
      dsimp -zeta only [x5]
      exact State.ngxSend_kept m_ngx (by assumption)
    clear_value x5 x6 x7
    exact Kept.lit (s := x5) { pcie := .inl m_pcie, ngx := .inl m_ngx } (by assumption)

theorem State.modFn_kept {M : Mask} {z₀ : State} {s : State} {f : Nat} {g : PcieFn → PcieFn} (m_pcie : M.pcie = true) (h0 :
    Kept M z₀ s) : Kept M z₀ (@State.modFn s f g) := by
  unfold State.modFn
  exact Kept.upPcie m_pcie (by assumption)

theorem State.relayWrite_kept {M : Mask} {z₀ : State} {s : State} {c : Nat} {cls : Nat} {addr : Nat} {d : List
    Sys2Proof.Byte} (m_ngx : M.ngx = true) (h0 : Kept M z₀ s) : Kept M z₀ (@State.relayWrite s c cls addr d) := by
  unfold State.relayWrite
  refine forN_kept ?_ ?_
  · assumption
  · intro v0
    intro v1
    intro v2
    exact State.ngxSend_kept m_ngx (by assumption)

theorem State.proxyWrite_kept {M : Mask} {z₀ : State} {s : State} {c : Nat} {cls : Nat} {addr : Nat} {d : List
    Sys2Proof.Byte} (m_ngx : M.ngx = true) (h0 : Kept M z₀ s) : Kept M z₀ (@State.proxyWrite s c cls addr d) := by
  unfold State.proxyWrite
  refine forN_kept ?_ ?_
  · assumption
  · intro v0
    intro v1
    intro v2
    exact State.relayWrite_kept m_ngx (by assumption)

theorem State.ringWrite_kept {M : Mask} {z₀ : State} {s : State} {c : Nat} {addr : Nat} {d : List Sys2Proof.Byte} (m_fab :
    M.fab = true) (m_ngx : M.ngx = true) (h0 : Kept M z₀ s) : Kept M z₀ (@State.ringWrite s c addr d) := by
  unfold State.ringWrite
  refine ite_kept ?_ ?_
  · exact State.proxyWrite_kept m_ngx (by assumption)
  · exact State.offer_kept m_fab (by assumption)

theorem State.bumpBy_kept {M : Mask} {z₀ : State} {s : State} {off : Nat} {lo : Nat} {len : Nat} {k : Nat} (m_regs : M.regs =
    true) (h0 : Kept M z₀ s) : Kept M z₀ (@State.bumpBy s off lo len k) := by
  unfold State.bumpBy
  exact State.setFld_kept m_regs (by assumption)

theorem State.bump_kept {M : Mask} {z₀ : State} {s : State} {off : Nat} {lo : Nat} {len : Nat} (m_regs : M.regs = true) (h0 :
    Kept M z₀ s) : Kept M z₀ (@State.bump s off lo len) := by
  unfold State.bump
  exact State.setFld_kept m_regs (by assumption)

theorem State.setReg64_kept {M : Mask} {z₀ : State} {s : State} {off : Nat} {v : Nat} (m_regs : M.regs = true) (h0 : Kept M
    z₀ s) : Kept M z₀ (@State.setReg64 s off v) := by
  unfold State.setReg64
  exact State.setReg_kept m_regs (State.setReg_kept m_regs (by assumption))

theorem State.setMsix_kept {M : Mask} {z₀ : State} {s : State} {f : Nat} {n : Nat} {e : Msix} (m_pcie : M.pcie = true) (h0 :
    Kept M z₀ s) : Kept M z₀ (@State.setMsix s f n e) := by
  unfold State.setMsix
  exact Kept.upPcie m_pcie (by assumption)

theorem State.msixSend_kept {M : Mask} {z₀ : State} {s : State} {f : Nat} {n : Nat} (m_fab : M.fab = true) (m_pcie : M.pcie =
    true) (h0 : Kept M z₀ s) : Kept M z₀ (@State.msixSend s f n) := by
  unfold State.msixSend
  extract_lets x0 x1
  clear_value x0 x1
  refine ite_kept ?_ ?_
  · assumption
  · refine ite_kept ?_ ?_
    · exact State.setMsix_kept m_pcie (by assumption)
    · exact State.offer_kept m_fab (by assumption)

theorem State.ctxIrq_kept {M : Mask} {z₀ : State} {s : State} {c : Nat} {vec : Nat} (m_fab : M.fab = true) (m_pcie : M.pcie =
    true) (m_ngx : M.ngx = true) (h0 : Kept M z₀ s) : Kept M z₀ (@State.ctxIrq s c vec) := by
  unfold State.ctxIrq
  refine ite_kept ?_ ?_
  · exact State.ngxSend_kept m_ngx (by assumption)
  · exact State.msixSend_kept m_fab m_pcie (by assumption)

theorem State.putRecord_kept {M : Mask} {z₀ : State} {s : State} {c : Nat} {seq : Nat} {status : Nat} {flags : Nat} {tag :
    BitVec 64} (m_fab : M.fab = true) (m_ctx : M.ctx = true) (m_ngx : M.ngx = true) (h0 : Kept M z₀ s) : Kept M z₀
    (@State.putRecord s c seq status flags tag) := by
  unfold State.putRecord
  extract_lets x0 x1 x2 x3
  clear_value x0 x1 x2
  have k4 : Kept M z₀ x3 := by
    dsimp -zeta only [x3]
    exact State.ringWrite_kept m_fab m_ngx (by assumption)
  clear_value x3
  exact State.modContext_kept m_ctx (by assumption)

theorem State.eventNotice_kept {M : Mask} {z₀ : State} {s : State} {c : Nat} (m_fab : M.fab = true) (m_ctx : M.ctx = true)
    (m_pcie : M.pcie = true) (m_ngx : M.ngx = true) (h0 : Kept M z₀ s) : Kept M z₀ (@State.eventNotice s c) := by
  unfold State.eventNotice
  extract_lets x0 x1 x2
  clear_value x0
  have k3 : Kept M z₀ x1 := by
    dsimp -zeta only [x1]
    exact State.modContext_kept m_ctx (by assumption)
  clear_value x1
  have k4 : Kept M z₀ x2 := by
    dsimp -zeta only [x2]
    exact State.putRecord_kept m_fab m_ctx m_ngx (by assumption)
  clear_value x2
  refine ite_kept ?_ ?_
  · assumption
  · refine ite_kept ?_ ?_
    · exact State.ctxIrq_kept m_fab m_pcie m_ngx (by assumption)
    · assumption

theorem State.logEventAt_kept {M : Mask} {z₀ : State} {s : State} {sidx : Nat} {c : Nat} {kind : Nat} {eng : Nat} {seg : Nat}
    {detail : Nat} (m_regs : M.regs = true) (m_fab : M.fab = true) (m_ctx : M.ctx = true) (m_pcie : M.pcie = true) (m_ngx :
    M.ngx = true) (h0 : Kept M z₀ s) : Kept M z₀ (@State.logEventAt s sidx c kind eng seg detail) := by
  unfold State.logEventAt
  refine ite_kept ?_ ?_
  · assumption
  · extract_lets x0 x1 x2 x3 x4 x5 x6 x7 x8 x9 x10 x11 x12 x13
    clear_value x0 x1 x2
    have k14 : Kept M z₀ x3 := by
      dsimp -zeta only [x3]
      exact State.setContext_kept m_ctx (by assumption)
    clear_value x3 x4
    have k15 : Kept M z₀ x5 := by
      dsimp -zeta only [x5]
      exact State.ringWrite_kept m_fab m_ngx (by assumption)
    clear_value x5 x6 x7 x8 x9
    have k16 : Kept M z₀ x10 := by
      dsimp -zeta only [x10]
      exact State.modContext_kept m_ctx (by assumption)
    clear_value x10
    have k17 : Kept M z₀ x11 := by
      dsimp -zeta only [x11]
      exact State.ringWrite_kept m_fab m_ngx (by assumption)
    clear_value x11
    have k18 : Kept M z₀ x12 := by
      dsimp -zeta only [x12]
      exact State.ringWrite_kept m_fab m_ngx (by assumption)
    clear_value x12
    have k19 : Kept M z₀ x13 := by
      dsimp -zeta only [x13]
      exact State.modContext_kept m_ctx (by assumption)
    clear_value x13
    refine ite_kept ?_ ?_
    · exact State.eventNotice_kept m_fab m_ctx m_pcie m_ngx (by assumption)
    · refine ite_kept ?_ ?_
      · exact State.eventNotice_kept m_fab m_ctx m_pcie m_ngx (by assumption)
      · exact State.setBit_kept m_regs (by assumption)

theorem State.logEvent_kept {M : Mask} {z₀ : State} {s : State} {c : Nat} {kind : Nat} {eng : Nat} {seg : Nat} {detail : Nat}
    (m_regs : M.regs = true) (m_fab : M.fab = true) (m_ctx : M.ctx = true) (m_pcie : M.pcie = true) (m_ngx : M.ngx = true)
    (h0 : Kept M z₀ s) : Kept M z₀ (@State.logEvent s c kind eng seg detail) := by
  unfold State.logEvent
  exact State.logEventAt_kept m_regs m_fab m_ctx m_pcie m_ngx (by assumption)

theorem State.histBegin_kept {M : Mask} {z₀ : State} {s : State} {kind : Nat} {reason : Nat} {dur : Option Nat} (m_keep :
    M.keep = true) (h0 : Kept M z₀ s) : Kept M z₀ (@State.histBegin s kind reason dur) := by
  unfold State.histBegin
  extract_lets x0 x1
  clear_value x0 x1
  exact Kept.upKeep m_keep (by assumption)

theorem State.tally_kept {M : Mask} {z₀ : State} {s : State} {k : Nat} (m_keep : M.keep = true) (h0 : Kept M z₀ s) : Kept M
    z₀ (@State.tally s k) := by
  unfold State.tally
  exact Kept.upKeep m_keep (by assumption)

theorem State.setStream_kept {M : Mask} {z₀ : State} {s : State} {r : Nat} {x : Option Stream} (m_mov : M.mov = true) (h0 :
    Kept M z₀ s) : Kept M z₀ (@State.setStream s r x) := by
  unfold State.setStream
  exact Kept.upMov m_mov (by assumption)

theorem State.draw_kept {M : Mask} {z₀ : State} {s : State} (h0 : Kept M z₀ s) : Kept M z₀ (@State.draw s).2 := by
  unfold State.draw
  dsimp -zeta only
  exact Kept.upFreeCtr (by omega) (by assumption)

theorem State.histEnd_kept {M : Mask} {z₀ : State} {s : State} {kind : Nat} (m_keep : M.keep = true) (h0 : Kept M z₀ s) :
    Kept M z₀ (@State.histEnd s kind) := by
  unfold State.histEnd
  exact Kept.upKeep m_keep (by assumption)

theorem State.count_kept {M : Mask} {z₀ : State} {s : State} {off : Nat} {lo : Nat} {len : Nat} (m_regs : M.regs = true) (h0
    : Kept M z₀ s) : Kept M z₀ (@State.count s off lo len) := by
  unfold State.count
  exact State.setFld_kept m_regs (by assumption)

theorem State.hwm_kept {M : Mask} {z₀ : State} {s : State} {off : Nat} {lo : Nat} {len : Nat} {v : Nat} (m_regs : M.regs =
    true) (h0 : Kept M z₀ s) : Kept M z₀ (@State.hwm s off lo len v) := by
  unfold State.hwm
  exact State.setFld_kept m_regs (by assumption)

theorem State.tallyMax_kept {M : Mask} {z₀ : State} {s : State} {k : Nat} {v : Nat} (m_keep : M.keep = true) (h0 : Kept M z₀
    s) : Kept M z₀ (@State.tallyMax s k v) := by
  unfold State.tallyMax
  exact Kept.upKeep m_keep (by assumption)

end Sys2Proof.Machine
end

