-- ==== Sys2Proof/Laws/KeptDesc.lean ====
section
/-! SUPPORT. What the operations and meanings of Machine/Desc.lean keep (Laws/Kept.lean). -/

namespace Sys2Proof.Machine

theorem State.grant_kept {M : Mask} {z₀ : State} {s : State} {c : Nat} {q : Nat} (m_ctx : M.ctx = true) (h0 : Kept M z₀ s) :
    Kept M z₀ (@State.grant s c q) := by
  unfold State.grant
  exact State.modDesc_kept m_ctx (by assumption)

theorem State.finish_kept {M : Mask} {z₀ : State} {s : State} {c : Nat} {q : Nat} {code : Nat} (m_ctx : M.ctx = true) (h0 :
    Kept M z₀ s) : Kept M z₀ (@State.finish s c q code) := by
  unfold State.finish
  exact State.setResult_kept m_ctx (State.grant_kept m_ctx (by assumption))

theorem State.begin_kept {M : Mask} {z₀ : State} {s : State} {c : Nat} {q : Nat} (m_ctx : M.ctx = true) (h0 : Kept M z₀ s) :
    Kept M z₀ (@State.begin s c q) := by
  unfold State.begin
  exact State.modDesc_kept m_ctx (by assumption)

theorem State.resCommand_kept {M : Mask} {z₀ : State} {s : State} {op : Nat} (m_regs : M.regs = true) (m_res : M.res = true)
    (h0 : Kept M z₀ s) : Kept M z₀ (@State.resCommand s op) := by
  unfold State.resCommand
  extract_lets x0 x1 x2 x3 x4 x5 x6 x7 x8
  clear_value x0 x1 x2 x3 x4 x5 x6 x7
  have k9 : Kept M z₀ x8 := by
    dsimp -zeta only [x8]
    exact State.setBit_kept m_regs (by assumption)
  clear_value x8
  refine ite_kept ?_ ?_
  · assumption
  · refine ite_kept ?_ ?_
    · exact State.setBit_kept m_regs (by assumption)
    · exact Kept.upRes m_res (by assumption)

theorem execResRelease_kept {M : Mask} {z₀ : State} {s : State} (m_regs : M.regs = true) (m_res : M.res = true) (h0 : Kept M
    z₀ s) : OutOk M z₀ (@execResRelease s) := by
  unfold execResRelease
  exact OutOk.next (State.resCommand_kept m_regs m_res (by assumption))

theorem execResAssign_kept {M : Mask} {z₀ : State} {s : State} (m_regs : M.regs = true) (m_res : M.res = true) (h0 : Kept M
    z₀ s) : OutOk M z₀ (@execResAssign s) := by
  unfold execResAssign
  exact OutOk.next (State.resCommand_kept m_regs m_res (by assumption))

end Sys2Proof.Machine
end

