-- ==== Sys2Proof/Laws/KeptCalderaOps.lean ====
section
/-! SUPPORT. What the operations and meanings of Machine/CalderaOps.lean keep (Laws/Kept.lean). -/

namespace Sys2Proof.Machine

theorem State.calPut_kept {M : Mask} {z₀ : State} {s : State} {a : Nat} {v : Sys2Proof.Byte} (m_cal : M.cal = true) (m_calMem
    : M.calMem = true) (h0 : Kept M z₀ s) : Kept M z₀ (@State.calPut s a v) := by
  unfold State.calPut
  extract_lets x0
  split
  · exact Kept.upCal m_cal ⟨rfl, rfl, rfl, rfl⟩ h0
  · exact Kept.upBytes m_cal m_calMem (fun hc => ⟨SMap.wf_set hc.1 _ _, hc.2⟩) h0

theorem State.setTile_kept {M : Mask} {z₀ : State} {s : State} {t : Nat} {v : Nat × Nat} (m_cal : M.cal = true) (h0 : Kept M
    z₀ s) : Kept M z₀ (@State.setTile s t v) := by
  unfold State.setTile
  exact Kept.upCal m_cal ⟨rfl, rfl, rfl, rfl⟩ (by assumption)

theorem State.retireTile_kept {M : Mask} {z₀ : State} {s : State} {t : Nat} (m_regs : M.regs = true) (m_cal : M.cal = true)
    (h0 : Kept M z₀ s) : Kept M z₀ (@State.retireTile s t) := by
  unfold State.retireTile
  extract_lets x0 x1 x2 x3
  clear_value x0
  have k4 : Kept M z₀ x1 := by
    dsimp -zeta only [x1]
    refine ite_kept ?_ ?_
    · exact State.setFld_kept m_regs (by assumption)
    · assumption
  clear_value x1
  have k5 : Kept M z₀ x2 := by
    dsimp -zeta only [x2]
    exact State.setFld_kept m_regs (by assumption)
  clear_value x2 x3
  exact State.setTile_kept m_cal (State.setFld_kept m_regs (by assumption))

theorem State.tileOutcome_kept {M : Mask} {z₀ : State} {s : State} {br : Nat} (m_regs : M.regs = true) (m_fab : M.fab = true)
    (m_cal : M.cal = true) (m_ctx : M.ctx = true) (m_pcie : M.pcie = true) (m_ngx : M.ngx = true) (h0 : Kept M z₀ s) : Kept M
    z₀ (@State.tileOutcome s br) := by
  unfold State.tileOutcome
  extract_lets x0
  clear_value x0
  split
  · exact State.retireTile_kept m_regs m_cal (by assumption)
  · exact State.logEvent_kept m_regs m_fab m_ctx m_pcie m_ngx (State.setTile_kept m_cal (by assumption))
  · exact State.retireTile_kept m_regs m_cal (by assumption)
  · assumption

theorem State.rowFailing_kept {M : Mask} {z₀ : State} {s : State} {br : Nat} (m_regs : M.regs = true) (m_fab : M.fab = true)
    (m_cal : M.cal = true) (m_ctx : M.ctx = true) (m_pcie : M.pcie = true) (m_ngx : M.ngx = true) (h0 : Kept M z₀ s) : Kept M
    z₀ (@State.rowFailing s br) := by
  unfold State.rowFailing
  refine ite_kept ?_ ?_
  · assumption
  · extract_lets x0 x1
    subst x0
    have k2 : Kept M z₀ x1 := by
      dsimp -zeta only [x1]
      exact Kept.upCal m_cal ⟨rfl, rfl, rfl, rfl⟩ (by assumption)
    clear_value x1
    refine ite_kept ?_ ?_
    · exact State.tileOutcome_kept m_regs m_fab m_cal m_ctx m_pcie m_ngx (by assumption)
    · assumption

theorem State.eccUncorrectable_kept {M : Mask} {z₀ : State} {s : State} {w : Nat} {m : Nat} (m_regs : M.regs = true) (m_fab :
    M.fab = true) (m_cal : M.cal = true) (m_ctx : M.ctx = true) (m_pcie : M.pcie = true) (m_ngx : M.ngx = true) (h0 : Kept M
    z₀ s) : Kept M z₀ (@State.eccUncorrectable s w m) := by
  unfold State.eccUncorrectable
  extract_lets x0 x1
  have k2 : Kept M z₀ x0 := by
    dsimp -zeta only [x0]
    exact State.setBit_kept m_regs (by assumption)
  clear_value x0
  have k3 : Kept M z₀ x1 := by
    dsimp -zeta only [x1]
    exact State.setReg_kept m_regs (by assumption)
  clear_value x1
  exact State.rowFailing_kept m_regs m_fab m_cal m_ctx m_pcie m_ngx (by assumption)

theorem State.eccCorrect_kept {M : Mask} {z₀ : State} {s : State} {w : Nat} (m_regs : M.regs = true) (m_fab : M.fab = true)
    (m_cal : M.cal = true) (m_ctx : M.ctx = true) (m_pcie : M.pcie = true) (m_ngx : M.ngx = true) (h0 : Kept M z₀ s) : Kept M
    z₀ (@State.eccCorrect s w) := by
  unfold State.eccCorrect
  extract_lets x0 x1 x2 x3 x4
  clear_value x0
  have k5 : Kept M z₀ x1 := by
    dsimp -zeta only [x1]
    exact State.bump_kept m_regs (State.bump_kept m_regs (by assumption))
  clear_value x1
  subst x2
  have k6 : Kept M z₀ x3 := by
    dsimp -zeta only [x3]
    exact Kept.upCal m_cal ⟨rfl, rfl, rfl, rfl⟩ (by assumption)
  clear_value x3 x4
  refine ite_kept ?_ ?_
  · exact State.rowFailing_kept m_regs m_fab m_cal m_ctx m_pcie m_ngx (by assumption)
  · assumption

theorem State.eccRead_kept {M : Mask} {z₀ : State} {s : State} {w : Nat} {m : Nat} (m_regs : M.regs = true) (m_fab : M.fab =
    true) (m_cal : M.cal = true) (m_ctx : M.ctx = true) (m_pcie : M.pcie = true) (m_ngx : M.ngx = true) (h0 : Kept M z₀ s) :
    Kept M z₀ (@State.eccRead s w m).2 := by
  unfold State.eccRead
  split
  · assumption
  · extract_lets x0
    clear_value x0
    split
    · assumption
    · dsimp -zeta only
      refine ite_kept ?_ ?_
      · assumption
      · exact State.eccCorrect_kept m_regs m_fab m_cal m_ctx m_pcie m_ngx (by assumption)
    · dsimp -zeta only
      exact State.eccUncorrectable_kept m_regs m_fab m_cal m_ctx m_pcie m_ngx (by assumption)

theorem State.setEcc_kept {M : Mask} {z₀ : State} {s : State} {w : Nat} {poison : Bool} (m_regs : M.regs = true) (m_cal :
    M.cal = true) (h0 : Kept M z₀ s) : Kept M z₀ (@State.setEcc s w poison) := by
  unfold State.setEcc
  extract_lets x0 x1 x2
  subst x0
  clear_value x1
  have k3 : Kept M z₀ x2 := by
    dsimp -zeta only [x2]
    refine ite_kept ?_ ?_
    · exact Kept.upCal m_cal ⟨rfl, rfl, rfl, rfl⟩ (by assumption)
    · exact Kept.upCal m_cal ⟨rfl, rfl, rfl, rfl⟩ (by assumption)
  clear_value x2
  refine ite_kept ?_ ?_
  · exact State.setBit_kept m_regs (by assumption)
  · assumption

theorem State.calWrite_kept {M : Mask} {z₀ : State} {s : State} {a : Nat} {d : List Sys2Proof.Byte} {mask : Nat → Bool}
    {poison : Bool} {m : Nat} (m_regs : M.regs = true) (m_fab : M.fab = true) (m_cal : M.cal = true) (m_ctx : M.ctx = true)
    (m_pcie : M.pcie = true) (m_ngx : M.ngx = true) (m_calMem : M.calMem = true) (h0 : Kept M z₀ s) : Kept M z₀
    (@State.calWrite s a d mask poison m) := by
  unfold State.calWrite
  refine ite_kept ?_ ?_
  · assumption
  · extract_lets x0 x1 x2 x3
    clear_value x0 x1 x2
    have k4 : Kept M z₀ x3 := by
      dsimp -zeta only [x3]
      refine foldl_kept ?_ ?_
      · assumption
      · intro v5
        intro v6
        intro v7
        refine ite_kept ?_ ?_
        · exact State.setEcc_kept m_regs m_cal (by assumption)
        · extract_lets x8
          have k9 : Kept M z₀ x8.2 := by
            dsimp -zeta only [x8]
            exact State.eccRead_kept m_regs m_fab m_cal m_ctx m_pcie m_ngx (by assumption)
          clear_value x8
          exact State.setEcc_kept m_regs m_cal (by assumption)
    clear_value x3
    refine foldl_kept ?_ ?_
    · assumption
    · intro v10
      intro v11
      intro v12
      refine ite_kept ?_ ?_
      · exact State.calPut_kept m_cal m_calMem (by assumption)
      · assumption

theorem State.calStore_kept {M : Mask} {z₀ : State} {s : State} {a : Nat} {d : List Sys2Proof.Byte} {m : Nat} (m_regs :
    M.regs = true) (m_fab : M.fab = true) (m_cal : M.cal = true) (m_ctx : M.ctx = true) (m_pcie : M.pcie = true) (m_ngx :
    M.ngx = true) (m_calMem : M.calMem = true) (h0 : Kept M z₀ s) : Kept M z₀ (@State.calStore s a d m) := by
  unfold State.calStore
  exact State.calWrite_kept m_regs m_fab m_cal m_ctx m_pcie m_ngx m_calMem (by assumption)

theorem State.calRead_kept {M : Mask} {z₀ : State} {s : State} {a : Nat} {n : Nat} {m : Nat} (m_regs : M.regs = true) (m_fab
    : M.fab = true) (m_cal : M.cal = true) (m_ctx : M.ctx = true) (m_pcie : M.pcie = true) (m_ngx : M.ngx = true) (h0 : Kept
    M z₀ s) : Kept M z₀ (@State.calRead s a n m).2.2 := by
  unfold State.calRead
  extract_lets x0 x1 x2
  have k5 : ∀ y3 y4, Kept M z₀ y3.2 → Kept M z₀ (x0 y3 y4).2 := by
    intro v6
    intro v7
    intro v8
    dsimp -zeta only [x0]
    extract_lets x9
    have k10 : Kept M z₀ x9.2 := by
      dsimp -zeta only [x9]
      exact State.eccRead_kept m_regs m_fab m_cal m_ctx m_pcie m_ngx (by assumption)
    clear_value x9
    assumption
  clear_value x0
  have k11 : Kept M z₀ x1.2 := by
    dsimp -zeta only [x1]
    refine foldl_kept2 ?_ ?_
    · assumption
    · intro v12
      intro v13
      intro v14
      apply k5
      assumption
  clear_value x1 x2
  assumption

end Sys2Proof.Machine
end

