-- ==== Sys2Proof/Laws/KeptFabric.lean ====
section
/-! SUPPORT. What the operations and meanings of Machine/Fabric.lean keep (Laws/Kept.lean). -/

namespace Sys2Proof.Machine

theorem State.setBank_kept {M : Mask} {z₀ : State} {s : State} {b : Nat} {x : Bank} (m_fab : M.fab = true) (h0 : Kept M z₀ s)
    : Kept M z₀ (@State.setBank s b x) := by
  unfold State.setBank
  exact Kept.upFab m_fab (by assumption)

theorem State.bankArrive_kept {M : Mask} {z₀ : State} {s : State} {r : BankReq} (m_fab : M.fab = true) (h0 : Kept M z₀ s) :
    Kept M z₀ (@State.bankArrive s r) := by
  unfold State.bankArrive
  extract_lets x0 x1
  clear_value x0 x1
  exact State.setBank_kept m_fab (by assumption)

theorem State.busAccess_kept {M : Mask} {z₀ : State} {s : State} {cls : Nat} {master : Nat} {addr : Nat} {write : Bool} {wide
    : Bool} (m_fab : M.fab = true) (h0 : Kept M z₀ s) : Kept M z₀ (@State.busAccess s cls master addr write wide) := by
  unfold State.busAccess
  exact State.bankArrive_kept m_fab (by assumption)

theorem State.busRange_kept {M : Mask} {z₀ : State} {s : State} {cls : Nat} {master : Nat} {addr : Nat} {n : Nat} {write :
    Bool} (m_fab : M.fab = true) (h0 : Kept M z₀ s) : Kept M z₀ (@State.busRange s cls master addr n write) := by
  unfold State.busRange
  refine forN_kept ?_ ?_
  · assumption
  · intro v0
    intro v1
    intro v2
    exact State.busAccess_kept m_fab (by assumption)

theorem State.xEmpty_kept {M : Mask} {z₀ : State} {s : State} {p : Nat → Nat → Bool} (m_fab : M.fab = true) (h0 : Kept M z₀
    s) : Kept M z₀ (@State.xEmpty s p) := by
  unfold State.xEmpty
  exact Kept.upFab m_fab (by assumption)

theorem State.stopClock_kept {M : Mask} {z₀ : State} {s : State} {d : Nat} (m_fab : M.fab = true) (h0 : Kept M z₀ s) : Kept M
    z₀ (@State.stopClock s d) := by
  unfold State.stopClock
  refine ite_kept ?_ ?_
  · assumption
  · exact Kept.upFab m_fab (by assumption)

theorem State.startClock_kept {M : Mask} {z₀ : State} {s : State} {d : Nat} (m_fab : M.fab = true) (h0 : Kept M z₀ s) : Kept
    M z₀ (@State.startClock s d) := by
  unfold State.startClock
  exact Kept.upFab m_fab (by assumption)

theorem State.setLine_kept {M : Mask} {z₀ : State} {s : State} {n : Nat} {l : Line} (m_cal : M.cal = true) (h0 : Kept M z₀ s)
    : Kept M z₀ (@State.setLine s n l) := by
  unfold State.setLine
  exact Kept.upCal m_cal ⟨rfl, rfl, rfl, rfl⟩ (by assumption)

theorem State.setXing_kept {M : Mask} {z₀ : State} {s : State} {k : Nat} {l : List XWord} (m_fab : M.fab = true) (h0 : Kept M
    z₀ s) : Kept M z₀ (@State.setXing s k l) := by
  unfold State.setXing
  exact Kept.upFab m_fab (by assumption)

theorem State.xOffer_kept {M : Mask} {z₀ : State} {s : State} {src : Nat} {dst : Nat} {w : XWord} (m_fab : M.fab = true) (h0
    : Kept M z₀ s) : Kept M z₀ (@State.xOffer s src dst w) := by
  unfold State.xOffer
  exact State.setXing_kept m_fab (by assumption)

theorem State.storeEntry_kept {M : Mask} {z₀ : State} {s : State} {e : Nat} {x : FarEntry} (m_regs : M.regs = true) (m_fab :
    M.fab = true) (m_cal : M.cal = true) (m_ctx : M.ctx = true) (m_pcie : M.pcie = true) (m_ngx : M.ngx = true) (m_calMem :
    M.calMem = true) (h0 : Kept M z₀ s) : Kept M z₀ (@State.storeEntry s e x) := by
  unfold State.storeEntry
  exact State.calWrite_kept m_regs m_fab m_cal m_ctx m_pcie m_ngx m_calMem (by assumption)

theorem State.farStoreLeaves_kept {M : Mask} {z₀ : State} {s : State} {e : Nat} {x : FarEntry} (m_eng : M.eng = true) (m_fab
    : M.fab = true) (h0 : Kept M z₀ s) : Kept M z₀ (@State.farStoreLeaves s e x) := by
  unfold State.farStoreLeaves
  extract_lets x0 x1
  clear_value x0 x1
  split
  · extract_lets x2 x3 x4 x5
    have k6 : Kept M z₀ x2 := by
      dsimp -zeta only [x2]
      exact State.setEngine_kept m_eng (by assumption)
    clear_value x2 x3 x4 x5
    exact Kept.upFab m_fab (by assumption)

theorem State.readUnitWords_kept {M : Mask} {z₀ : State} {s : State} {unit : Nat} {m : Nat} {ws : List Nat} (m_regs : M.regs
    = true) (m_fab : M.fab = true) (m_cal : M.cal = true) (m_ctx : M.ctx = true) (m_pcie : M.pcie = true) (m_ngx : M.ngx =
    true) (h0 : Kept M z₀ s) : Kept M z₀ (@State.readUnitWords s unit m ws).2 := by
  unfold State.readUnitWords
  extract_lets x0 x1
  clear_value x0
  have k2 : Kept M z₀ x1.2 := by
    dsimp -zeta only [x1]
    refine foldl_kept2 ?_ ?_
    · assumption
    · intro v3
      intro v4
      intro v5
      extract_lets x6
      have k7 : Kept M z₀ x6.2 := by
        dsimp -zeta only [x6]
        exact State.eccRead_kept m_regs m_fab m_cal m_ctx m_pcie m_ngx (by assumption)
      clear_value x6
      assumption
  clear_value x1
  assumption

theorem State.serveGrant_kept {M : Mask} {z₀ : State} {s : State} {r : BankReq} (m_regs : M.regs = true) (m_eng : M.eng =
    true) (m_fab : M.fab = true) (m_cal : M.cal = true) (m_ctx : M.ctx = true) (m_pcie : M.pcie = true) (m_ngx : M.ngx =
    true) (m_calMem : M.calMem = true) (h0 : Kept M z₀ s) : Kept M z₀ (@State.serveGrant s r) := by
  unfold State.serveGrant
  split
  · extract_lets x0 x1 x2 x3 x4
    have k5 : Kept M z₀ x0.2 := by
      dsimp -zeta only [x0]
      exact State.readUnitWords_kept m_regs m_fab m_cal m_ctx m_pcie m_ngx (by assumption)
    clear_value x0 x1 x2 x3 x4
    exact State.setEngine_kept m_eng (by assumption)
  · exact State.farStoreLeaves_kept m_eng m_fab (State.storeEntry_kept m_regs m_fab m_cal m_ctx m_pcie m_ngx m_calMem (by
      assumption))
  · assumption

theorem execBankGrant_kept {M : Mask} {z₀ : State} {b : Fin 64} {s : State} (m_regs : M.regs = true) (m_eng : M.eng = true)
    (m_fab : M.fab = true) (m_cal : M.cal = true) (m_ctx : M.ctx = true) (m_pcie : M.pcie = true) (m_keep : M.keep = true)
    (m_ngx : M.ngx = true) (m_calMem : M.calMem = true) (h1 : Kept M z₀ s) : OutOk M z₀ (@execBankGrant b s) := by
  unfold execBankGrant
  extract_lets x0
  clear_value x0
  split
  · exact OutOk.next (by assumption)
  · refine ite_ok ?_ ?_
    · exact OutOk.next (by assumption)
    · extract_lets x1 x2 x3
      have k4 : Kept M z₀ x1 := by
        dsimp -zeta only [x1]
        exact State.setBank_kept m_fab (by assumption)
      clear_value x1
      have k5 : Kept M z₀ x2 := by
        dsimp -zeta only [x2]
        exact State.tallyMax_kept m_keep (State.hwm_kept m_regs (by assumption))
      clear_value x2
      have k6 : Kept M z₀ x3 := by
        dsimp -zeta only [x3]
        split
        · refine ite_kept ?_ ?_
          · exact State.tally_kept m_keep (State.bump_kept m_regs (by assumption))
          · assumption
        · assumption
      clear_value x3
      exact OutOk.next (State.serveGrant_kept m_regs m_eng m_fab m_cal m_ctx m_pcie m_ngx m_calMem (by assumption))

theorem execGrantDecision_kept {M : Mask} {z₀ : State} {b : Fin 64} {s : State} (m_fab : M.fab = true) (h1 : Kept M z₀ s) :
    OutOk M z₀ (@execGrantDecision b s) := by
  unfold execGrantDecision
  extract_lets x0
  clear_value x0
  refine ite_ok ?_ ?_
  · exact OutOk.next (by assumption)
  · exact OutOk.next (State.setBank_kept m_fab (by assumption))

theorem execFloorCredit_kept {M : Mask} {z₀ : State} {s : State} (m_fab : M.fab = true) (h0 : Kept M z₀ s) : OutOk M z₀
    (@execFloorCredit s) := by
  unfold execFloorCredit
  refine OutOk.next ?_
  refine forN_kept ?_ ?_
  · assumption
  · intro v0
    intro v1
    intro v2
    exact State.setBank_kept m_fab (by assumption)

theorem State.chainArrive_kept {M : Mask} {z₀ : State} {s : State} {id : Nat} (m_chainNow : M.chainNow = true) (h0 : Kept M
    z₀ s) : Kept M z₀ (@State.chainArrive s id) := by
  unfold State.chainArrive
  exact Kept.upChainNow m_chainNow (by assumption)

theorem execCrossingDelivery_kept {M : Mask} {z₀ : State} {src : Fin 26} {dst : Fin 26} {s : State} (m_chainNow : M.chainNow
    = true) (m_fab : M.fab = true) (h2 : Kept M z₀ s) : OutOk M z₀ (@execCrossingDelivery src dst s) := by
  unfold execCrossingDelivery
  extract_lets x0
  clear_value x0
  split
  · exact OutOk.next (by assumption)
  · refine ite_ok ?_ ?_
    · exact OutOk.next (by assumption)
    · extract_lets x1 x2
      have k3 : Kept M z₀ x1 := by
        dsimp -zeta only [x1]
        exact State.setXing_kept m_fab (by assumption)
      clear_value x1 x2
      split
      · exact OutOk.next (State.bankArrive_kept m_fab (by assumption))
      · exact OutOk.next (State.chainArrive_kept m_chainNow (by assumption))
      · exact OutOk.next (Kept.upFab m_fab (by assumption))

end Sys2Proof.Machine
end

