-- ==== Sys2Proof/Laws/KeptLines.lean ====
section
/-! SUPPORT. What the operations and meanings of Machine/Lines.lean keep (Laws/Kept.lean). -/

namespace Sys2Proof.Machine

theorem State.showUse_kept {M : Mask} {z₀ : State} {s : State} {c : Nat} (m_regs : M.regs = true) (h0 : Kept M z₀ s) : Kept M
    z₀ (@State.showUse s c) := by
  unfold State.showUse
  exact State.setReg_kept m_regs (by assumption)

theorem State.ltrSend_kept {M : Mask} {z₀ : State} {s : State} {w : Nat} (m_regs : M.regs = true) (m_fab : M.fab = true) (h0
    : Kept M z₀ s) : Kept M z₀ (@State.ltrSend s w) := by
  unfold State.ltrSend
  exact State.offer_kept m_fab (State.setReg_kept m_regs (by assumption))

theorem State.ltrUpdate_kept {M : Mask} {z₀ : State} {s : State} (m_regs : M.regs = true) (m_fab : M.fab = true) (m_pcie :
    M.pcie = true) (h0 : Kept M z₀ s) : Kept M z₀ (@State.ltrUpdate s) := by
  unfold State.ltrUpdate
  extract_lets x0 x1 x2
  clear_value x0 x1
  have k3 : Kept M z₀ x2 := by
    dsimp -zeta only [x2]
    exact Kept.upPcie m_pcie (by assumption)
  clear_value x2
  refine ite_kept ?_ ?_
  · assumption
  · refine ite_kept ?_ ?_
    · exact State.ltrSend_kept m_regs m_fab (by assumption)
    · assumption

theorem State.showLoads_kept {M : Mask} {z₀ : State} {s : State} (m_regs : M.regs = true) (h0 : Kept M z₀ s) : Kept M z₀
    (@State.showLoads s) := by
  unfold State.showLoads
  extract_lets x0
  clear_value x0
  exact State.setReg_kept m_regs (by assumption)

theorem State.setLineSt_kept {M : Mask} {z₀ : State} {s : State} {n : Nat} {v : Nat} (m_regs : M.regs = true) (h0 : Kept M z₀
    s) : Kept M z₀ (@State.setLineSt s n v) := by
  unfold State.setLineSt
  exact State.setFld_kept m_regs (by assumption)

theorem State.lineGone_kept {M : Mask} {z₀ : State} {s : State} {n : Nat} (m_regs : M.regs = true) (m_fab : M.fab = true)
    (m_cal : M.cal = true) (m_mov : M.mov = true) (m_pcie : M.pcie = true) (h0 : Kept M z₀ s) : Kept M z₀ (@State.lineGone s
    n) := by
  unfold State.lineGone
  extract_lets x0 x1 x2 x3
  clear_value x0
  have k4 : Kept M z₀ x1 := by
    dsimp -zeta only [x1]
    exact State.setLineSt_kept m_regs (State.setLine_kept m_cal (by assumption))
  clear_value x1 x2
  have k5 : Kept M z₀ x3 := by
    dsimp -zeta only [x3]
    exact Kept.upMov m_mov (by assumption)
  clear_value x3
  exact State.ltrUpdate_kept m_regs m_fab m_pcie (State.showUse_kept m_regs (State.showLoads_kept m_regs (State.setFld_kept
      m_regs (by assumption))))

theorem State.lineEvent_kept {M : Mask} {z₀ : State} {s : State} {n : Nat} {kind : Nat} (m_regs : M.regs = true) (m_fab :
    M.fab = true) (m_ctx : M.ctx = true) (m_pcie : M.pcie = true) (m_keep : M.keep = true) (m_ngx : M.ngx = true) (h0 : Kept
    M z₀ s) : Kept M z₀ (@State.lineEvent s n kind) := by
  unfold State.lineEvent
  extract_lets x0
  have k1 : Kept M z₀ x0 := by
    dsimp -zeta only [x0]
    refine ite_kept ?_ ?_
    · exact State.tally_kept m_keep (by assumption)
    · refine ite_kept ?_ ?_
      · exact State.tally_kept m_keep (by assumption)
      · assumption
  clear_value x0
  exact State.logEvent_kept m_regs m_fab m_ctx m_pcie m_ngx (by assumption)

theorem State.failChunk_kept {M : Mask} {z₀ : State} {s : State} {n : Nat} {u0 : Int} (m_regs : M.regs = true) (m_fab : M.fab
    = true) (m_cal : M.cal = true) (m_ctx : M.ctx = true) (m_pcie : M.pcie = true) (m_keep : M.keep = true) (m_ngx : M.ngx =
    true) (h0 : Kept M z₀ s) : Kept M z₀ (@State.failChunk s n u0) := by
  unfold State.failChunk
  extract_lets x0 x1
  clear_value x0 x1
  exact State.lineEvent_kept m_regs m_fab m_ctx m_pcie m_keep m_ngx (State.bump_kept m_regs (State.setLine_kept m_cal (by
      assumption)))

theorem State.chunkArrives_kept {M : Mask} {z₀ : State} {s : State} {n : Nat} {u0 : Int} {m : Nat} {d : List Sys2Proof.Byte}
    (m_regs : M.regs = true) (m_fab : M.fab = true) (m_cal : M.cal = true) (m_ctx : M.ctx = true) (m_pcie : M.pcie = true)
    (m_ngx : M.ngx = true) (m_calMem : M.calMem = true) (h0 : Kept M z₀ s) : Kept M z₀ (@State.chunkArrives s n u0 m d) := by
  unfold State.chunkArrives
  extract_lets x0 x1 x2
  clear_value x0 x1
  have k3 : Kept M z₀ x2 := by
    dsimp -zeta only [x2]
    exact State.busRange_kept m_fab (by assumption)
  clear_value x2
  split
  · assumption
  · refine ite_kept ?_ ?_
    · assumption
    · extract_lets x4
      have k5 : Kept M z₀ x4 := by
        dsimp -zeta only [x4]
        exact State.setLine_kept m_cal (State.calStore_kept m_regs m_fab m_cal m_ctx m_pcie m_ngx m_calMem (by assumption))
      clear_value x4
      exact State.hwm_kept m_regs (by assumption)

theorem State.dropChunk_kept {M : Mask} {z₀ : State} {s : State} {n : Nat} {u0 : Int} (m_regs : M.regs = true) (m_fab : M.fab
    = true) (m_cal : M.cal = true) (m_ctx : M.ctx = true) (m_mov : M.mov = true) (m_pcie : M.pcie = true) (m_keep : M.keep =
    true) (m_ngx : M.ngx = true) (h0 : Kept M z₀ s) : Kept M z₀ (@State.dropChunk s n u0) := by
  unfold State.dropChunk
  extract_lets x0 x1 x2 x3
  clear_value x0
  have k4 : Kept M z₀ x1 := by
    dsimp -zeta only [x1]
    exact State.setLine_kept m_cal (by assumption)
  clear_value x1 x2
  have k5 : Kept M z₀ x3 := by
    dsimp -zeta only [x3]
    exact Kept.upMov m_mov (by assumption)
  clear_value x3
  exact State.lineEvent_kept m_regs m_fab m_ctx m_pcie m_keep m_ngx (State.setBit_kept m_regs (State.bump_kept m_regs (by
      assumption)))

theorem execUnmapComplete_kept {M : Mask} {z₀ : State} {n : Fin 4096} {s : State} (m_regs : M.regs = true) (m_fab : M.fab =
    true) (m_cal : M.cal = true) (m_ctx : M.ctx = true) (m_mov : M.mov = true) (m_pcie : M.pcie = true) (h1 : Kept M z₀ s) :
    OutOk M z₀ (@execUnmapComplete n s) := by
  unfold execUnmapComplete
  extract_lets x0 x1
  clear_value x0 x1
  refine ite_ok ?_ ?_
  · exact OutOk.next (by assumption)
  · exact OutOk.next (State.setResult_kept m_ctx (State.lineGone_kept m_regs m_fab m_cal m_mov m_pcie (by assumption)))

theorem execUnmap_kept {M : Mask} {z₀ : State} {c : Fin 512} {q : BitVec 32} {s : State} (m_regs : M.regs = true) (m_eng :
    M.eng = true) (m_cal : M.cal = true) (m_ctx : M.ctx = true) (h2 : Kept M z₀ s) : OutOk M z₀ (@execUnmap c q s) := by
  unfold execUnmap
  split
  · split
    · exact OutOk.next (by assumption)
    · extract_lets x0 x1 x2 x3 x4
      clear_value x0 x1 x2
      have k5 : Kept M z₀ x3 := by
        dsimp -zeta only [x3]
        exact State.setLineSt_kept m_regs (State.grant_kept m_ctx (by assumption))
      clear_value x3
      have k6 : Kept M z₀ x4 := by
        dsimp -zeta only [x4]
        exact State.setLine_kept m_cal (by assumption)
      clear_value x4
      refine ite_ok ?_ ?_
      · exact OutOk.next (by assumption)
      · refine ite_ok ?_ ?_
        · exact OutOk.next (State.finish_kept m_ctx (by assumption))
        · refine OutOk.next ?_
          refine ite_kept ?_ ?_
          · assumption
          · exact State.modEngine_kept m_eng (by assumption)

theorem execLineActivation_kept {M : Mask} {z₀ : State} {n : Fin 4096} {s : State} (m_regs : M.regs = true) (m_fab : M.fab =
    true) (m_ctx : M.ctx = true) (m_pcie : M.pcie = true) (h1 : Kept M z₀ s) : OutOk M z₀ (@execLineActivation n s) := by
  unfold execLineActivation
  extract_lets x0 x1 x2 x3 x4
  clear_value x0 x1 x2
  have k5 : Kept M z₀ x3 := by
    dsimp -zeta only [x3]
    exact State.setLineSt_kept m_regs (by assumption)
  clear_value x3
  have k6 : Kept M z₀ x4 := by
    dsimp -zeta only [x4]
    refine ite_kept ?_ ?_
    · assumption
    · exact State.setReg_kept m_regs (State.setReg_kept m_regs (State.setReg_kept m_regs (by assumption)))
  clear_value x4
  refine ite_ok ?_ ?_
  · exact OutOk.next (by assumption)
  · exact OutOk.next (State.ltrUpdate_kept m_regs m_fab m_pcie (State.setResult_kept m_ctx (by assumption)))

theorem execLineMap_kept {M : Mask} {z₀ : State} {c : Fin 512} {q : BitVec 32} {s : State} (m_regs : M.regs = true) (m_cal :
    M.cal = true) (m_ctx : M.ctx = true) (h2 : Kept M z₀ s) : OutOk M z₀ (@execLineMap c q s) := by
  unfold execLineMap
  split
  · split
    · exact OutOk.next (by assumption)
    · extract_lets x0 x1 x2 x3 x4
      clear_value x0 x1 x2 x3
      have k5 : Kept M z₀ x4 := by
        dsimp -zeta only [x4]
        exact State.setReg_kept m_regs (State.setLineSt_kept m_regs (State.setLine_kept m_cal (State.grant_kept m_ctx (by
            assumption))))
      clear_value x4
      refine ite_ok ?_ ?_
      · exact OutOk.next (by assumption)
      · refine ite_ok ?_ ?_
        · exact OutOk.next (State.finish_kept m_ctx (by assumption))
        · refine ite_ok ?_ ?_
          · exact OutOk.next (State.finish_kept m_ctx (by assumption))
          · exact OutOk.next (State.showUse_kept m_regs (State.showLoads_kept m_regs (by assumption)))

theorem execChunkDeadline_kept {M : Mask} {z₀ : State} {n : Fin 4096} {u0 : Int} {read : Bool} {s : State} (m_regs : M.regs =
    true) (m_fab : M.fab = true) (m_cal : M.cal = true) (m_ctx : M.ctx = true) (m_mov : M.mov = true) (m_pcie : M.pcie =
    true) (m_keep : M.keep = true) (m_ngx : M.ngx = true) (h3 : Kept M z₀ s) : OutOk M z₀ (@execChunkDeadline n u0 read s) :=
    by
  unfold execChunkDeadline
  extract_lets x0 x1 x2 x3
  clear_value x0 x1 x2 x3
  refine ite_ok ?_ ?_
  · exact OutOk.next (by assumption)
  · refine ite_ok ?_ ?_
    · split
      · exact OutOk.next (by assumption)
      · refine ite_ok ?_ ?_
        · exact OutOk.next (State.lineEvent_kept m_regs m_fab m_ctx m_pcie m_keep m_ngx (State.setBit_kept m_regs
            (State.bump_kept m_regs (State.setLine_kept m_cal (by assumption)))))
        · exact OutOk.next (by assumption)
    · refine ite_ok ?_ ?_
      · exact OutOk.next (by assumption)
      · refine ite_ok ?_ ?_
        · exact OutOk.next (State.dropChunk_kept m_regs m_fab m_cal m_ctx m_mov m_pcie m_keep m_ngx (State.setLine_kept m_cal
            (by assumption)))
        · split
          · refine OutOk.next ?_
            refine ite_kept ?_ ?_
            · exact State.dropChunk_kept m_regs m_fab m_cal m_ctx m_mov m_pcie m_keep m_ngx (by assumption)
            · assumption
          · exact OutOk.next (by assumption)

theorem State.pruneLine_kept {M : Mask} {z₀ : State} {s : State} {n : Nat} (m_cal : M.cal = true) (h0 : Kept M z₀ s) : Kept M
    z₀ (@State.pruneLine s n) := by
  unfold State.pruneLine
  extract_lets x0 x1
  clear_value x0 x1
  exact State.setLine_kept m_cal (by assumption)

theorem execWritebackChunkIssue_kept {M : Mask} {z₀ : State} {n : Fin 4096} {s : State} (m_cal : M.cal = true) (m_mov : M.mov
    = true) (h1 : Kept M z₀ s) : OutOk M z₀ (@execWritebackChunkIssue n s) := by
  unfold execWritebackChunkIssue
  extract_lets x0 x1 x2 x3 x4 x5
  have k6 : Kept M z₀ x0 := by
    dsimp -zeta only [x0]
    exact State.pruneLine_kept m_cal (by assumption)
  clear_value x0 x1 x2 x3
  have k7 : Kept M z₀ x4 := by
    dsimp -zeta only [x4]
    exact State.setLine_kept m_cal (by assumption)
  clear_value x4 x5
  split
  · exact OutOk.next (by assumption)
  · refine ite_ok ?_ ?_
    · exact OutOk.next (Kept.upMov m_mov (by assumption))
    · exact OutOk.next (by assumption)

theorem execPrefetchChunkIssue_kept {M : Mask} {z₀ : State} {n : Fin 4096} {u0 : Int} {s : State} (m_cal : M.cal = true)
    (m_mov : M.mov = true) (h2 : Kept M z₀ s) : OutOk M z₀ (@execPrefetchChunkIssue n u0 s) := by
  unfold execPrefetchChunkIssue
  extract_lets x0 x1 x2 x3 x4
  have k5 : Kept M z₀ x0 := by
    dsimp -zeta only [x0]
    exact State.pruneLine_kept m_cal (by assumption)
  clear_value x0 x1 x2
  have k6 : Kept M z₀ x3 := by
    dsimp -zeta only [x3]
    exact State.setLine_kept m_cal (by assumption)
  clear_value x3 x4
  split
  · exact OutOk.next (by assumption)
  · refine ite_ok ?_ ?_
    · exact OutOk.next (Kept.upMov m_mov (by assumption))
    · exact OutOk.next (by assumption)

end Sys2Proof.Machine
end

