-- ==== Sys2Proof/Laws/KeptEngineOps.lean ====
section
/-! SUPPORT. What the operations and meanings of Machine/EngineOps.lean keep (Laws/Kept.lean). -/

namespace Sys2Proof.Machine

theorem State.setLmCell_kept {M : Mask} {z₀ : State} {s : State} {e : Nat} {a : Nat} {v : Word} (m_eng : M.eng = true) (h0 :
    Kept M z₀ s) : Kept M z₀ (@State.setLmCell s e a v) := by
  unfold State.setLmCell
  exact State.modEngine_kept m_eng (by assumption)

theorem State.lmPut_kept {M : Mask} {z₀ : State} {s : State} {e : Nat} {a : Nat} {v : Word} (m_eng : M.eng = true) (m_cal :
    M.cal = true) (h0 : Kept M z₀ s) : Kept M z₀ (@State.lmPut s e a v) := by
  unfold State.lmPut
  refine ite_kept ?_ ?_
  · extract_lets x0 x1 x2
    clear_value x0 x1
    subst x2
    exact Kept.lit (s := s) { eng := .inl m_eng, cal := .inl m_cal } (by assumption)
  · exact State.setLmCell_kept m_eng (by assumption)

theorem State.retireEntry_kept {M : Mask} {z₀ : State} {s : State} {e : Nat} {q : WqEntry} (m_eng : M.eng = true) (m_cal :
    M.cal = true) (h0 : Kept M z₀ s) : Kept M z₀ (@State.retireEntry s e q) := by
  unfold State.retireEntry
  refine forN_kept ?_ ?_
  · assumption
  · intro v0
    intro v1
    intro v2
    refine ite_kept ?_ ?_
    · exact State.lmPut_kept m_eng m_cal (by assumption)
    · assumption

theorem State.retire_kept {M : Mask} {z₀ : State} {s : State} {e : Nat} {k : Nat} (m_eng : M.eng = true) (m_cal : M.cal =
    true) (h0 : Kept M z₀ s) : Kept M z₀ (@State.retire s e k) := by
  unfold State.retire
  extract_lets x0 x1
  clear_value x0
  have k2 : Kept M z₀ x1 := by
    dsimp -zeta only [x1]
    exact State.modEngine_kept m_eng (by assumption)
  clear_value x1
  refine foldl_kept ?_ ?_
  · assumption
  · intro v3
    intro v4
    intro v5
    exact State.retireEntry_kept m_eng m_cal (by assumption)

theorem State.land_kept {M : Mask} {z₀ : State} {s : State} {e : Nat} {tail : Bool} {w : RegWrite} (m_regs : M.regs = true)
    (m_eng : M.eng = true) (h0 : Kept M z₀ s) : Kept M z₀ (@State.land s e tail w) := by
  unfold State.land
  extract_lets x0 x1 x2
  clear_value x0 x1
  have k3 : Kept M z₀ x2 := by
    dsimp -zeta only [x2]
    exact State.setEngine_kept m_eng (by assumption)
  clear_value x2
  split
  · exact State.setReg_kept m_regs (by assumption)
  · assumption

theorem State.pipeStep_kept {M : Mask} {z₀ : State} {s : State} {e : Nat} (m_regs : M.regs = true) (m_eng : M.eng = true) (h0
    : Kept M z₀ s) : Kept M z₀ (@State.pipeStep s e) := by
  unfold State.pipeStep
  extract_lets x0 x1
  clear_value x0
  have k2 : Kept M z₀ x1 := by
    dsimp -zeta only [x1]
    exact State.modEngine_kept m_eng (by assumption)
  clear_value x1
  refine foldl_kept ?_ ?_
  · assumption
  · intro v3
    intro v4
    intro v5
    exact State.land_kept m_regs m_eng (by assumption)

theorem State.emptyCycle_kept {M : Mask} {z₀ : State} {s : State} {e : Nat} {pipe : Bool} (m_regs : M.regs = true) (m_eng :
    M.eng = true) (m_cal : M.cal = true) (h0 : Kept M z₀ s) : Kept M z₀ (@State.emptyCycle s e pipe) := by
  unfold State.emptyCycle
  extract_lets x0 x1
  have k2 : Kept M z₀ x0 := by
    dsimp -zeta only [x0]
    exact State.retire_kept m_eng m_cal (by assumption)
  clear_value x0
  have k3 : Kept M z₀ x1 := by
    dsimp -zeta only [x1]
    exact State.modEngine_kept m_eng (by assumption)
  clear_value x1
  refine ite_kept ?_ ?_
  · exact State.pipeStep_kept m_regs m_eng (by assumption)
  · assumption

theorem State.drainCycle_kept {M : Mask} {z₀ : State} {s : State} {e : Nat} (m_regs : M.regs = true) (m_eng : M.eng = true)
    (m_cal : M.cal = true) (h0 : Kept M z₀ s) : Kept M z₀ (@State.drainCycle s e) := by
  unfold State.drainCycle
  exact State.bump_kept m_regs (State.emptyCycle_kept m_regs m_eng m_cal (by assumption))

end Sys2Proof.Machine
end

