-- ==== Sys2Proof/Laws/KeptSegments.lean ====
section
/-! SUPPORT. What the operations and meanings of Machine/Segments.lean keep (Laws/Kept.lean). -/

namespace Sys2Proof.Machine

theorem State.lmEccNote_kept {M : Mask} {z₀ : State} {s : State} {e : Nat} {ce : Nat} {ue : List Nat} (m_regs : M.regs =
    true) (h0 : Kept M z₀ s) : Kept M z₀ (@State.lmEccNote s e ce ue) := by
  unfold State.lmEccNote
  extract_lets x0
  have k1 : Kept M z₀ x0 := by
    dsimp -zeta only [x0]
    refine ite_kept ?_ ?_
    · assumption
    · exact State.bumpBy_kept m_regs (by assumption)
  clear_value x0
  split
  · exact State.setBit_kept m_regs (State.setFld_kept m_regs (by assumption))
  · assumption

theorem State.segReport_kept {M : Mask} {z₀ : State} {s : State} {e : Nat} {i : Nat} {kind : Nat} {detail : Nat} (m_regs :
    M.regs = true) (m_fab : M.fab = true) (m_ctx : M.ctx = true) (m_pcie : M.pcie = true) (m_ngx : M.ngx = true) (h0 : Kept M
    z₀ s) : Kept M z₀ (@State.segReport s e i kind detail) := by
  unfold State.segReport
  extract_lets x0
  clear_value x0
  exact State.logEventAt_kept m_regs m_fab m_ctx m_pcie m_ngx (by assumption)

theorem State.frameInit_kept {M : Mask} {z₀ : State} {s : State} {e : Nat} {i : Nat} (m_regs : M.regs = true) (m_eng : M.eng
    = true) (m_cal : M.cal = true) (h0 : Kept M z₀ s) : Kept M z₀ (@State.frameInit s e i).2 := by
  unfold State.frameInit
  extract_lets x0 x1 x2 x3 x4 x5 x6 x7 x8
  clear_value x0 x1 x2 x3 x4 x5
  have k9 : Kept M z₀ x6 := by
    dsimp -zeta only [x6]
    refine ite_kept ?_ ?_
    · exact State.lmEccNote_kept m_regs (by assumption)
    · assumption
  clear_value x6
  have k10 : Kept M z₀ x7 := by
    dsimp -zeta only [x7]
    refine forN_kept ?_ ?_
    · assumption
    · intro v11
      intro v12
      intro v13
      exact State.pipeStep_kept m_regs m_eng (by assumption)
  clear_value x7
  have k14 : Kept M z₀ x8 := by
    dsimp -zeta only [x8]
    exact State.retire_kept m_eng m_cal (by assumption)
  clear_value x8
  dsimp -zeta only
  exact State.modEngine_kept m_eng (by assumption)

theorem State.tailStart_kept {M : Mask} {z₀ : State} {s : State} {e : Nat} (m_regs : M.regs = true) (m_eng : M.eng = true)
    (m_cal : M.cal = true) (h0 : Kept M z₀ s) : Kept M z₀ (@State.tailStart s e) := by
  unfold State.tailStart
  extract_lets x0 x1 x2
  clear_value x0
  have k3 : Kept M z₀ x1 := by
    dsimp -zeta only [x1]
    exact State.emptyCycle_kept m_regs m_eng m_cal (by assumption)
  clear_value x1
  have k4 : Kept M z₀ x2.2 := by
    dsimp -zeta only [x2]
    split
    · exact State.frameInit_kept m_regs m_eng m_cal (by assumption)
    · assumption
  clear_value x2
  refine ite_kept ?_ ?_
  · exact State.modEngine_kept m_eng (by assumption)
  · refine ite_kept ?_ ?_
    · exact State.modEngine_kept m_eng (by assumption)
    · exact State.modEngine_kept m_eng (by assumption)

theorem State.afterSeg_kept {M : Mask} {z₀ : State} {s : State} {e : Nat} {i : Nat} (m_regs : M.regs = true) (m_eng : M.eng =
    true) (m_cal : M.cal = true) (h0 : Kept M z₀ s) : Kept M z₀ (@State.afterSeg s e i) := by
  unfold State.afterSeg
  split
  · exact State.modEngine_kept m_eng (by assumption)
  · exact State.tailStart_kept m_regs m_eng m_cal (by assumption)

theorem State.tear_kept {M : Mask} {z₀ : State} {s : State} {e : Nat} {i : Nat} (m_regs : M.regs = true) (m_eng : M.eng =
    true) (m_chainTorn : M.chainTorn = true) (h0 : Kept M z₀ s) : Kept M z₀ (@State.tear s e i) := by
  unfold State.tear
  extract_lets x0 x1
  clear_value x0
  have k2 : Kept M z₀ x1 := by
    dsimp -zeta only [x1]
    exact State.setEngine_kept m_eng (State.bump_kept m_regs (by assumption))
  clear_value x1
  refine ite_kept ?_ ?_
  · assumption
  · exact Kept.upChainTorn m_chainTorn (by assumption)

theorem State.segExit_kept {M : Mask} {z₀ : State} {s : State} {e : Nat} {i : Nat} (m_regs : M.regs = true) (m_eng : M.eng =
    true) (m_fab : M.fab = true) (m_ctx : M.ctx = true) (m_pcie : M.pcie = true) (m_ngx : M.ngx = true) (h0 : Kept M z₀ s) :
    Kept M z₀ (@State.segExit s e i) := by
  unfold State.segExit
  extract_lets x0 x1 x2 x3
  clear_value x0 x1
  have k4 : Kept M z₀ x2 := by
    dsimp -zeta only [x2]
    exact State.hwm_kept m_regs (by assumption)
  clear_value x2
  have k5 : Kept M z₀ x3 := by
    dsimp -zeta only [x3]
    refine ite_kept ?_ ?_
    · assumption
    · exact State.segReport_kept m_regs m_fab m_ctx m_pcie m_ngx (State.setReg_kept m_regs (by assumption))
  clear_value x3
  exact State.modEngine_kept m_eng (by assumption)

theorem State.cutSeg_kept {M : Mask} {z₀ : State} {s : State} {e : Nat} {i : Nat} (m_regs : M.regs = true) (m_eng : M.eng =
    true) (m_chainTorn : M.chainTorn = true) (m_fab : M.fab = true) (m_cal : M.cal = true) (m_ctx : M.ctx = true) (m_pcie :
    M.pcie = true) (m_ngx : M.ngx = true) (h0 : Kept M z₀ s) : Kept M z₀ (@State.cutSeg s e i) := by
  unfold State.cutSeg
  extract_lets x0
  have k1 : Kept M z₀ x0 := by
    dsimp -zeta only [x0]
    exact State.segExit_kept m_regs m_eng m_fab m_ctx m_pcie m_ngx (State.tear_kept m_regs m_eng m_chainTorn (State.bump_kept
        m_regs (by assumption)))
  clear_value x0
  exact State.afterSeg_kept m_regs m_eng m_cal (State.segReport_kept m_regs m_fab m_ctx m_pcie m_ngx (by assumption))

theorem execBudgetCut_kept {M : Mask} {z₀ : State} {e : Fin 32} {s : State} (m_regs : M.regs = true) (m_eng : M.eng = true)
    (m_chainTorn : M.chainTorn = true) (m_fab : M.fab = true) (m_cal : M.cal = true) (m_ctx : M.ctx = true) (m_pcie : M.pcie
    = true) (m_ngx : M.ngx = true) (h1 : Kept M z₀ s) : OutOk M z₀ (@execBudgetCut e s) := by
  unfold execBudgetCut
  extract_lets x0
  clear_value x0
  split
  · refine ite_ok ?_ ?_
    · exact OutOk.next (by assumption)
    · refine ite_ok ?_ ?_
      · exact OutOk.next (State.setEngine_kept m_eng (by assumption))
      · exact OutOk.next (State.cutSeg_kept m_regs m_eng m_chainTorn m_fab m_cal m_ctx m_pcie m_ngx (by assumption))
  · exact OutOk.next (by assumption)

theorem State.bindApply_kept {M : Mask} {z₀ : State} {s : State} {e : Nat} {i : Nat} {n : Nat} (m_regs : M.regs = true)
    (m_eng : M.eng = true) (h0 : Kept M z₀ s) : Kept M z₀ (@State.bindApply s e i n) := by
  unfold State.bindApply
  extract_lets x0 x1 x2 x3 x4 x5 x6 x7 x8
  clear_value x0 x1 x2 x3 x4 x5 x6 x7
  have k9 : Kept M z₀ x8 := by
    dsimp -zeta only [x8]
    exact State.modEngine_kept m_eng (by assumption)
  clear_value x8
  refine ite_kept ?_ ?_
  · assumption
  · refine ite_kept ?_ ?_
    · assumption
    · exact State.setBit_kept m_regs (by assumption)

theorem State.bindReset_kept {M : Mask} {z₀ : State} {s : State} {e : Nat} {i : Nat} (m_regs : M.regs = true) (h0 : Kept M z₀
    s) : Kept M z₀ (@State.bindReset s e i) := by
  unfold State.bindReset
  refine forN_kept ?_ ?_
  · assumption
  · intro v0
    intro v1
    intro v2
    refine ite_kept ?_ ?_
    · exact State.setBit_kept m_regs (by assumption)
    · assumption

theorem State.segmentEntry_kept {M : Mask} {z₀ : State} {s : State} {e : Nat} {i : Nat} (m_regs : M.regs = true) (m_eng :
    M.eng = true) (m_cal : M.cal = true) (h0 : Kept M z₀ s) : Kept M z₀ (@State.segmentEntry s e i) := by
  unfold State.segmentEntry
  extract_lets x0 x1 x2 x3 x4 x5 x6 x7 x8
  have k9 : Kept M z₀ x0 := by
    dsimp -zeta only [x0]
    exact State.modEngine_kept m_eng (by assumption)
  clear_value x0
  have k10 : Kept M z₀ x1 := by
    dsimp -zeta only [x1]
    refine forN_kept ?_ ?_
    · assumption
    · intro v11
      intro v12
      intro v13
      exact State.emptyCycle_kept m_regs m_eng m_cal (by assumption)
  clear_value x1
  have k14 : Kept M z₀ x2 := by
    dsimp -zeta only [x2]
    exact State.modEngine_kept m_eng (by assumption)
  clear_value x2 x3 x4
  have k15 : Kept M z₀ x5.2 := by
    dsimp -zeta only [x5]
    split
    · exact State.frameInit_kept m_regs m_eng m_cal (by assumption)
    · assumption
  clear_value x5
  have k16 : Kept M z₀ x6 := by
    dsimp -zeta only [x6]
    refine ite_kept ?_ ?_
    · exact State.bindReset_kept m_regs (by assumption)
    · assumption
  clear_value x6 x7
  have k17 : Kept M z₀ x8 := by
    dsimp -zeta only [x8]
    exact State.modEngine_kept m_eng (by assumption)
  clear_value x8
  refine forN_kept ?_ ?_
  · assumption
  · intro v18
    intro v19
    intro v20
    exact State.bindApply_kept m_regs m_eng (by assumption)

theorem execSegmentEntry_kept {M : Mask} {z₀ : State} {e : Fin 32} {s : State} (m_regs : M.regs = true) (m_eng : M.eng =
    true) (m_cal : M.cal = true) (h1 : Kept M z₀ s) : OutOk M z₀ (@execSegmentEntry e s) := by
  unfold execSegmentEntry
  split
  · exact OutOk.next (State.segmentEntry_kept m_regs m_eng m_cal (by assumption))
  · exact OutOk.next (by assumption)

theorem State.tailEnd_kept {M : Mask} {z₀ : State} {s : State} {e : Nat} (m_eng : M.eng = true) (h0 : Kept M z₀ s) : Kept M
    z₀ (@State.tailEnd s e) := by
  unfold State.tailEnd
  exact State.modEngine_kept m_eng (by assumption)

theorem State.faultAt_kept {M : Mask} {z₀ : State} {s : State} {e : Nat} {cause : Nat} (m_regs : M.regs = true) (m_eng :
    M.eng = true) (m_chainTorn : M.chainTorn = true) (m_fab : M.fab = true) (m_cal : M.cal = true) (m_ctx : M.ctx = true)
    (m_pcie : M.pcie = true) (m_ngx : M.ngx = true) (h0 : Kept M z₀ s) : Kept M z₀ (@State.faultAt s e cause) := by
  unfold State.faultAt
  extract_lets x0 x1 x2
  clear_value x0
  have k3 : Kept M z₀ x1 := by
    dsimp -zeta only [x1]
    exact State.emptyCycle_kept m_regs m_eng m_cal (by assumption)
  clear_value x1
  have k4 : Kept M z₀ x2 := by
    dsimp -zeta only [x2]
    exact State.setReg_kept m_regs (by assumption)
  clear_value x2
  split
  · extract_lets x5 x6
    have k7 : Kept M z₀ x5 := by
      dsimp -zeta only [x5]
      exact State.setReg_kept m_regs (by assumption)
    clear_value x5
    have k8 : Kept M z₀ x6 := by
      dsimp -zeta only [x6]
      exact State.segExit_kept m_regs m_eng m_fab m_ctx m_pcie m_ngx (State.tear_kept m_regs m_eng m_chainTorn
          (State.bump_kept m_regs (by assumption)))
    clear_value x6
    exact State.afterSeg_kept m_regs m_eng m_cal (State.segReport_kept m_regs m_fab m_ctx m_pcie m_ngx (by assumption))
  · exact State.tailEnd_kept m_eng (State.segReport_kept m_regs m_fab m_ctx m_pcie m_ngx (by assumption))
  · assumption

theorem State.skipSeg_kept {M : Mask} {z₀ : State} {s : State} {e : Nat} {i : Nat} (m_regs : M.regs = true) (m_fab : M.fab =
    true) (m_ctx : M.ctx = true) (m_pcie : M.pcie = true) (m_ngx : M.ngx = true) (h0 : Kept M z₀ s) : Kept M z₀
    (@State.skipSeg s e i) := by
  unfold State.skipSeg
  exact State.segReport_kept m_regs m_fab m_ctx m_pcie m_ngx (State.bump_kept m_regs (by assumption))

end Sys2Proof.Machine
end

