-- ==== Sys2Proof/Laws/KeptEngineIssue.lean ====
section
/-! SUPPORT. What the operations and meanings of Machine/EngineIssue.lean keep (Laws/Kept.lean). -/

namespace Sys2Proof.Machine

theorem State.passEntry_kept {M : Mask} {z₀ : State} {s : State} {e : Nat} {tail : Bool} (m_regs : M.regs = true) (m_eng :
    M.eng = true) (m_fab : M.fab = true) (m_ctx : M.ctx = true) (m_pcie : M.pcie = true) (m_ngx : M.ngx = true) (h0 : Kept M
    z₀ s) : Kept M z₀ (@State.passEntry s e tail) := by
  unfold State.passEntry
  extract_lets x0
  clear_value x0
  split
  · split
    · refine ite_kept ?_ ?_
      · exact State.modEngine_kept m_eng (State.segExit_kept m_regs m_eng m_fab m_ctx m_pcie m_ngx (by assumption))
      · assumption
    · assumption
  · assumption

theorem State.endProgram_kept {M : Mask} {z₀ : State} {s : State} {e : Nat} {tail : Bool} (m_regs : M.regs = true) (m_eng :
    M.eng = true) (m_fab : M.fab = true) (m_cal : M.cal = true) (m_ctx : M.ctx = true) (m_pcie : M.pcie = true) (m_keep :
    M.keep = true) (m_ngx : M.ngx = true) (h0 : Kept M z₀ s) : Kept M z₀ (@State.endProgram s e tail) := by
  unfold State.endProgram
  refine ite_kept ?_ ?_
  · exact State.tailEnd_kept m_eng (by assumption)
  · split
    · exact State.tallyMax_kept m_keep (State.tailStart_kept m_regs m_eng m_cal (State.segExit_kept m_regs m_eng m_fab m_ctx
        m_pcie m_ngx (by assumption)))
    · assumption

theorem State.advance_kept {M : Mask} {z₀ : State} {s : State} {e : Nat} {tail : Bool} {c : Ctl} (m_regs : M.regs = true)
    (m_eng : M.eng = true) (m_fab : M.fab = true) (m_cal : M.cal = true) (m_ctx : M.ctx = true) (m_pcie : M.pcie = true)
    (m_keep : M.keep = true) (m_ngx : M.ngx = true) (h0 : Kept M z₀ s) : Kept M z₀ (@State.advance s e tail c) := by
  unfold State.advance
  refine ite_kept ?_ ?_
  · exact State.endProgram_kept m_regs m_eng m_fab m_cal m_ctx m_pcie m_keep m_ngx (by assumption)
  · exact State.passEntry_kept m_regs m_eng m_fab m_ctx m_pcie m_ngx (State.modEngine_kept m_eng (by assumption))

theorem State.offerFar_kept {M : Mask} {z₀ : State} {s : State} {e : Nat} {unit : Nat} {cycles : Nat} {k : ReqKind} (m_fab :
    M.fab = true) (h0 : Kept M z₀ s) : Kept M z₀ (@State.offerFar s e unit cycles k) := by
  unfold State.offerFar
  exact State.xOffer_kept m_fab (by assumption)

theorem State.takeStores_kept {M : Mask} {z₀ : State} {s : State} {e : Nat} {l : List FarEntry} (m_eng : M.eng = true) (m_fab
    : M.fab = true) (h0 : Kept M z₀ s) : Kept M z₀ (@State.takeStores s e l) := by
  unfold State.takeStores
  refine foldl_kept ?_ ?_
  · assumption
  · intro v0
    intro v1
    intro v2
    extract_lets x3 x4 x5
    clear_value x3 x4
    have k6 : Kept M z₀ x5 := by
      dsimp -zeta only [x5]
      exact State.setEngine_kept m_eng (by assumption)
    clear_value x5
    exact State.offerFar_kept m_fab (by assumption)

theorem State.stallOver_kept {M : Mask} {z₀ : State} {s : State} {e : Nat} (m_regs : M.regs = true) (m_eng : M.eng = true)
    (h0 : Kept M z₀ s) : Kept M z₀ (@State.stallOver s e) := by
  unfold State.stallOver
  extract_lets x0
  clear_value x0
  refine ite_kept ?_ ?_
  · assumption
  · exact State.modEngine_kept m_eng (State.hwm_kept m_regs (by assumption))

theorem State.countPce_kept {M : Mask} {z₀ : State} {s : State} {e : Nat} {tail : Bool} (m_regs : M.regs = true) (h0 : Kept M
    z₀ s) : Kept M z₀ (@State.countPce s e tail) := by
  unfold State.countPce
  extract_lets x0 x1
  clear_value x0 x1
  refine ite_kept ?_ ?_
  · exact State.bump_kept m_regs (by assumption)
  · assumption

theorem State.issueLoad_kept {M : Mask} {z₀ : State} {s : State} {e : Nat} {tail : Bool} {fr : Nat} {m : BitVec 4} {ps : List
    FarPiece} (m_eng : M.eng = true) (m_fab : M.fab = true) (h0 : Kept M z₀ s) : Kept M z₀ (@State.issueLoad s e tail fr m
    ps) := by
  unfold State.issueLoad
  extract_lets x0 x1
  clear_value x0
  have k2 : Kept M z₀ x1 := by
    dsimp -zeta only [x1]
    exact State.modEngine_kept m_eng (by assumption)
  clear_value x1
  refine foldl_kept ?_ ?_
  · assumption
  · intro v3
    intro v4
    intro v5
    split
    · exact State.modEngine_kept m_eng (by assumption)
    · exact State.offerFar_kept m_fab (by assumption)

theorem State.chainWrite_kept {M : Mask} {z₀ : State} {s : State} {e : Nat} {seg : Nat} {stamp : Nat} {p : Nat} {m : BitVec
    4} {v : Sys2Proof.Quad Word} (m_chainNow : M.chainNow = true) (m_chainId : M.chainId = true) (m_fab : M.fab = true) (h0 :
    Kept M z₀ s) : Kept M z₀ (@State.chainWrite s e seg stamp p m v) := by
  unfold State.chainWrite
  refine ite_kept ?_ ?_
  · assumption
  · extract_lets x0
    clear_value x0
    exact State.xOffer_kept m_fab (Kept.lit (s := s) { chainNow := .inl m_chainNow, chainId := .inl m_chainId } (by
        assumption))

theorem State.commitEff_kept {M : Mask} {z₀ : State} {s : State} {e : Nat} {tail : Bool} {f : Eff} (m_regs : M.regs = true)
    (m_eng : M.eng = true) (m_chainNow : M.chainNow = true) (m_chainId : M.chainId = true) (m_fab : M.fab = true) (m_cal :
    M.cal = true) (m_ctx : M.ctx = true) (m_pcie : M.pcie = true) (m_keep : M.keep = true) (m_ngx : M.ngx = true) (h0 : Kept
    M z₀ s) : Kept M z₀ (@State.commitEff s e tail f) := by
  unfold State.commitEff
  extract_lets x0 x1 x2 x3 x4 x5 x6 x7 x8 x9 x10 x11 x12 x13
  clear_value x0 x1
  have k14 : Kept M z₀ x2 := by
    dsimp -zeta only [x2]
    exact State.lmEccNote_kept m_regs (by assumption)
  clear_value x2
  have k15 : Kept M z₀ x3 := by
    dsimp -zeta only [x3]
    refine forN_kept ?_ ?_
    · assumption
    · intro v16
      intro v17
      intro v18
      exact State.pipeStep_kept m_regs m_eng (State.modEngine_kept m_eng (by assumption))
  clear_value x3 x4 x5
  have k19 : Kept M z₀ x6 := by
    dsimp -zeta only [x6]
    exact State.retire_kept m_eng m_cal (by assumption)
  clear_value x6
  have k20 : Kept M z₀ x7 := by
    dsimp -zeta only [x7]
    exact State.hwm_kept m_regs (by assumption)
  clear_value x7
  have k21 : Kept M z₀ x8 := by
    dsimp -zeta only [x8]
    exact State.modEngine_kept m_eng (by assumption)
  clear_value x8
  have k22 : Kept M z₀ x9 := by
    dsimp -zeta only [x9]
    exact State.modEngine_kept m_eng (by assumption)
  clear_value x9
  have k23 : Kept M z₀ x10 := by
    dsimp -zeta only [x10]
    exact State.pipeStep_kept m_regs m_eng (by assumption)
  clear_value x10
  have k24 : Kept M z₀ x11 := by
    dsimp -zeta only [x11]
    split
    · exact State.chainWrite_kept m_chainNow m_chainId m_fab (by assumption)
    · assumption
  clear_value x11
  have k25 : Kept M z₀ x12 := by
    dsimp -zeta only [x12]
    split
    · exact State.issueLoad_kept m_eng m_fab (by assumption)
    · assumption
  clear_value x12
  have k26 : Kept M z₀ x13 := by
    dsimp -zeta only [x13]
    split
    · exact State.emptyCycle_kept m_regs m_eng m_cal (State.emptyCycle_kept m_regs m_eng m_cal (by assumption))
    · assumption
  clear_value x13
  refine ite_kept ?_ ?_
  · exact State.advance_kept m_regs m_eng m_fab m_cal m_ctx m_pcie m_keep m_ngx (State.takeStores_kept m_eng m_fab (by
      assumption))
  · exact State.modEngine_kept m_eng (State.setBit_kept m_regs (by assumption))

theorem State.stallCycle_kept {M : Mask} {z₀ : State} {s : State} {e : Nat} (m_regs : M.regs = true) (m_eng : M.eng = true)
    (m_cal : M.cal = true) (h0 : Kept M z₀ s) : Kept M z₀ (@State.stallCycle s e) := by
  unfold State.stallCycle
  exact State.modEngine_kept m_eng (State.emptyCycle_kept m_regs m_eng m_cal (by assumption))

theorem State.drainBefore_kept {M : Mask} {z₀ : State} {s : State} {e : Nat} {body : State → Eff} (m_regs : M.regs = true)
    (m_eng : M.eng = true) (m_cal : M.cal = true) (h0 : Kept M z₀ s) : Kept M z₀ (@State.drainBefore s e body) := by
  unfold State.drainBefore
  refine forN_kept ?_ ?_
  · assumption
  · intro v0
    intro v1
    intro v2
    extract_lets x3
    clear_value x3
    refine ite_kept ?_ ?_
    · exact State.drainCycle_kept m_regs m_eng m_cal (by assumption)
    · assumption

theorem State.issue_kept {M : Mask} {z₀ : State} {s : State} {e : Nat} {op : Nat} {body : State → Bool → IWord → Eff} (m_regs
    : M.regs = true) (m_eng : M.eng = true) (m_chainNow : M.chainNow = true) (m_chainId : M.chainId = true) (m_chainTorn :
    M.chainTorn = true) (m_fab : M.fab = true) (m_cal : M.cal = true) (m_ctx : M.ctx = true) (m_pcie : M.pcie = true) (m_keep
    : M.keep = true) (m_ngx : M.ngx = true) (h0 : Kept M z₀ s) : Kept M z₀ (@State.issue s e op body) := by
  unfold State.issue
  split
  · assumption
  · extract_lets x0 x1
    have k2 : Kept M z₀ x0 := by
      dsimp -zeta only [x0]
      exact State.drainBefore_kept m_regs m_eng m_cal (by assumption)
    clear_value x0 x1
    refine ite_kept ?_ ?_
    · exact State.faultAt_kept m_regs m_eng m_chainTorn m_fab m_cal m_ctx m_pcie m_ngx (by assumption)
    · refine ite_kept ?_ ?_
      · exact State.stallCycle_kept m_regs m_eng m_cal (by assumption)
      · exact State.commitEff_kept m_regs m_eng m_chainNow m_chainId m_fab m_cal m_ctx m_pcie m_keep m_ngx
          (State.countPce_kept m_regs (State.stallOver_kept m_regs m_eng (by assumption)))

end Sys2Proof.Machine
end

