-- ==== Sys2Proof/Laws/KeptSwap.lean ====
section
/-! SUPPORT. What the operations and meanings of Machine/Swap.lean keep (Laws/Kept.lean). -/

namespace Sys2Proof.Machine

theorem State.showSwaps_kept {M : Mask} {z₀ : State} {s : State} {e : Nat} (m_regs : M.regs = true) (h0 : Kept M z₀ s) : Kept
    M z₀ (@State.showSwaps s e) := by
  unfold State.showSwaps
  extract_lets x0
  clear_value x0
  exact State.setBit_kept m_regs (State.setBit_kept m_regs (by assumption))

theorem State.requestSwap_kept {M : Mask} {z₀ : State} {s : State} {e : Nat} {pb : Bool} {st : Bool} {r : SwapReq} (m_regs :
    M.regs = true) (m_eng : M.eng = true) (h0 : Kept M z₀ s) : Kept M z₀ (@State.requestSwap s e pb st r) := by
  unfold State.requestSwap
  exact State.showSwaps_kept m_regs (State.modEngine_kept m_eng (by assumption))

theorem execSwapStab_kept {M : Mask} {z₀ : State} {e : Fin 32} {s : State} (m_regs : M.regs = true) (m_eng : M.eng = true)
    (h1 : Kept M z₀ s) : OutOk M z₀ (@execSwapStab e s) := by
  unfold execSwapStab
  refine OutOk.next ?_
  refine State.bar_kept m_regs ?_ ?_
  · assumption
  · intro v0
    intro v1
    exact State.requestSwap_kept m_regs m_eng (by assumption)

theorem State.withdrawSwap_kept {M : Mask} {z₀ : State} {s : State} {c : Nat} {q : Nat} (m_regs : M.regs = true) (m_eng :
    M.eng = true) (h0 : Kept M z₀ s) : Kept M z₀ (@State.withdrawSwap s c q) := by
  unfold State.withdrawSwap
  refine forN_kept ?_ ?_
  · assumption
  · intro v0
    intro v1
    intro v2
    exact State.showSwaps_kept m_regs (State.modEngine_kept m_eng (by assumption))

theorem State.cancelSwaps_kept {M : Mask} {z₀ : State} {s : State} {e : Nat} (m_regs : M.regs = true) (m_eng : M.eng = true)
    (m_ctx : M.ctx = true) (h0 : Kept M z₀ s) : Kept M z₀ (@State.cancelSwaps s e) := by
  unfold State.cancelSwaps
  refine foldl_kept ?_ ?_
  · assumption
  · intro v0
    intro v1
    intro v2
    split
    · assumption
    · split
      · assumption
      · exact State.withdrawSwap_kept m_regs m_eng (State.setResult_kept m_ctx (by assumption))

theorem State.clusterClear_kept {M : Mask} {z₀ : State} {s : State} {c : Nat} (m_regs : M.regs = true) (m_eng : M.eng = true)
    (m_chainNow : M.chainNow = true) (m_fab : M.fab = true) (m_par : M.par = true) (h0 : Kept M z₀ s) : Kept M z₀
    (@State.clusterClear s c) := by
  unfold State.clusterClear
  extract_lets x0 x1 x2 x3 x4 x5
  have k6 : Kept M z₀ x0 := by
    dsimp -zeta only [x0]
    refine forN_kept ?_ ?_
    · assumption
    · intro v7
      intro v8
      intro v9
      exact State.modEngine_kept m_eng (by assumption)
  clear_value x0 x1
  have k10 : Kept M z₀ x2 := by
    dsimp -zeta only [x2]
    exact Kept.upRegs m_regs (by assumption)
  clear_value x2 x3 x4 x5
  exact Kept.lit (s := x2) { chainNow := .inl m_chainNow, fab := .inl m_fab, par := .inl m_par } (by assumption)

theorem State.clusterReset_kept {M : Mask} {z₀ : State} {s : State} {c : Nat} (m_regs : M.regs = true) (m_eng : M.eng = true)
    (m_chainNow : M.chainNow = true) (m_fab : M.fab = true) (m_par : M.par = true) (m_ctx : M.ctx = true) (h0 : Kept M z₀ s)
    : Kept M z₀ (@State.clusterReset s c) := by
  unfold State.clusterReset
  refine State.clusterClear_kept m_regs m_eng m_chainNow m_fab m_par ?_
  refine forN_kept ?_ ?_
  · assumption
  · intro v0
    intro v1
    intro v2
    exact State.cancelSwaps_kept m_regs m_eng m_ctx (by assumption)

theorem State.serveSwap_kept {M : Mask} {z₀ : State} {s : State} {e : Nat} {six : Nat} {r : SwapReq} (m_ctx : M.ctx = true)
    (h0 : Kept M z₀ s) : Kept M z₀ (@State.serveSwap s e six r) := by
  unfold State.serveSwap
  split
  · assumption
  · extract_lets x0
    have k1 : Kept M z₀ x0 := by
      dsimp -zeta only [x0]
      exact State.modDesc_kept m_ctx (by assumption)
    clear_value x0
    split
    · assumption
    · refine ite_kept ?_ ?_
      · assumption
      · extract_lets x2
        clear_value x2
        exact State.setResult_kept m_ctx (by assumption)

theorem State.refuseSwapReq_kept {M : Mask} {z₀ : State} {s : State} {r : SwapReq} (m_regs : M.regs = true) (m_eng : M.eng =
    true) (m_ctx : M.ctx = true) (h0 : Kept M z₀ s) : Kept M z₀ (@State.refuseSwapReq s r) := by
  unfold State.refuseSwapReq
  split
  · assumption
  · split
    · assumption
    · exact State.withdrawSwap_kept m_regs m_eng (State.setResult_kept m_ctx (by assumption))

theorem State.refuseSwaps_kept {M : Mask} {z₀ : State} {s : State} {e : Nat} (m_regs : M.regs = true) (m_eng : M.eng = true)
    (m_ctx : M.ctx = true) (h0 : Kept M z₀ s) : Kept M z₀ (@State.refuseSwaps s e) := by
  unfold State.refuseSwaps
  extract_lets x0 x1
  clear_value x0
  have k2 : Kept M z₀ x1 := by
    dsimp -zeta only [x1]
    exact State.setBit_kept m_regs (State.showSwaps_kept m_regs (State.modEngine_kept m_eng (by assumption)))
  clear_value x1
  refine foldl_kept ?_ ?_
  · assumption
  · intro v3
    intro v4
    intro v5
    exact State.refuseSwapReq_kept m_regs m_eng m_ctx (by assumption)

theorem State.applySwaps_kept {M : Mask} {z₀ : State} {s : State} {e : Nat} {six : Nat} (m_regs : M.regs = true) (m_eng :
    M.eng = true) (m_ctx : M.ctx = true) (h0 : Kept M z₀ s) : Kept M z₀ (@State.applySwaps s e six) := by
  unfold State.applySwaps
  extract_lets x0 x1 x2 x3 x4 x5 x6 x7 x8
  clear_value x0 x1 x2 x3 x4 x5
  have k9 : Kept M z₀ x6 := by
    dsimp -zeta only [x6]
    exact State.showSwaps_kept m_regs (State.setEngine_kept m_eng (by assumption))
  clear_value x6
  have k10 : Kept M z₀ x7 := by
    dsimp -zeta only [x7]
    refine ite_kept ?_ ?_
    · exact State.setBit_kept m_regs (by assumption)
    · assumption
  clear_value x7
  have k11 : Kept M z₀ x8 := by
    dsimp -zeta only [x8]
    exact State.setReg64_kept m_regs (by assumption)
  clear_value x8
  refine ite_kept ?_ ?_
  · assumption
  · refine ite_kept ?_ ?_
    · exact State.refuseSwaps_kept m_regs m_eng m_ctx (by assumption)
    · refine foldl_kept ?_ ?_
      · assumption
      · intro v12
        intro v13
        intro v14
        exact State.serveSwap_kept m_ctx (by assumption)

theorem State.dldW12_kept {M : Mask} {z₀ : State} {s : State} {e : Nat} {n : Nat} {second : Bool} {v : Word} (m_eng : M.eng =
    true) (h0 : Kept M z₀ s) : Kept M z₀ (@State.dldW12 s e n second v) := by
  unfold State.dldW12
  exact State.modEngine_kept m_eng (by assumption)

theorem State.dldW0_kept {M : Mask} {z₀ : State} {s : State} {e : Nat} {n : Nat} {w0 : Word} (m_eng : M.eng = true) (h0 :
    Kept M z₀ s) : Kept M z₀ (@State.dldW0 s e n w0) := by
  unfold State.dldW0
  exact State.modEngine_kept m_eng (by assumption)

theorem execClusterReset_kept {M : Mask} {z₀ : State} {c : Fin 8} {s : State} (m_regs : M.regs = true) (m_eng : M.eng = true)
    (m_chainNow : M.chainNow = true) (m_fab : M.fab = true) (m_par : M.par = true) (m_ctx : M.ctx = true) (m_keep : M.keep =
    true) (h1 : Kept M z₀ s) : OutOk M z₀ (@execClusterReset c s) := by
  unfold execClusterReset
  exact OutOk.next (State.histBegin_kept m_keep (State.clusterReset_kept m_regs m_eng m_chainNow m_fab m_par m_ctx (by
      assumption)))

theorem execSwapPbank_kept {M : Mask} {z₀ : State} {e : Fin 32} {s : State} (m_regs : M.regs = true) (m_eng : M.eng = true)
    (h1 : Kept M z₀ s) : OutOk M z₀ (@execSwapPbank e s) := by
  unfold execSwapPbank
  refine OutOk.next ?_
  refine State.bar_kept m_regs ?_ ?_
  · assumption
  · intro v0
    intro v1
    exact State.requestSwap_kept m_regs m_eng (by assumption)

theorem execDldW0Write_kept {M : Mask} {z₀ : State} {e : Fin 32} {n : Fin 64} {v : BitVec 32} {s : State} (m_regs : M.regs =
    true) (m_eng : M.eng = true) (h3 : Kept M z₀ s) : OutOk M z₀ (@execDldW0Write e n v s) := by
  unfold execDldW0Write
  refine OutOk.next ?_
  refine State.bar_kept m_regs ?_ ?_
  · assumption
  · intro v0
    intro v1
    exact State.dldW0_kept m_eng (by assumption)

theorem State.overrun_kept {M : Mask} {z₀ : State} {s : State} {e : Nat} (m_regs : M.regs = true) (m_keep : M.keep = true)
    (h0 : Kept M z₀ s) : Kept M z₀ (@State.overrun s e) := by
  unfold State.overrun
  extract_lets x0 x1
  clear_value x0
  have k2 : Kept M z₀ x1 := by
    dsimp -zeta only [x1]
    exact State.tally_kept m_keep (State.setBit_kept m_regs (by assumption))
  clear_value x1
  refine ite_kept ?_ ?_
  · exact State.setBit_kept m_regs (by assumption)
  · exact State.count_kept m_regs (by assumption)

theorem State.skipFrom_kept {M : Mask} {z₀ : State} {s : State} {e : Nat} {i : Nat} (m_regs : M.regs = true) (m_fab : M.fab =
    true) (m_ctx : M.ctx = true) (m_pcie : M.pcie = true) (m_ngx : M.ngx = true) (h0 : Kept M z₀ s) : Kept M z₀
    (@State.skipFrom s e i) := by
  unfold State.skipFrom
  refine foldl_kept ?_ ?_
  · assumption
  · intro v0
    intro v1
    intro v2
    exact State.skipSeg_kept m_regs m_fab m_ctx m_pcie m_ngx (by assumption)

theorem State.stopTick_kept {M : Mask} {z₀ : State} {s : State} {e : Nat} (m_regs : M.regs = true) (m_eng : M.eng = true)
    (m_chainTorn : M.chainTorn = true) (m_fab : M.fab = true) (m_ctx : M.ctx = true) (m_pcie : M.pcie = true) (m_keep :
    M.keep = true) (m_ngx : M.ngx = true) (h0 : Kept M z₀ s) : Kept M z₀ (@State.stopTick s e) := by
  unfold State.stopTick
  split
  · exact State.skipFrom_kept m_regs m_fab m_ctx m_pcie m_ngx (State.segReport_kept m_regs m_fab m_ctx m_pcie m_ngx
      (State.segExit_kept m_regs m_eng m_fab m_ctx m_pcie m_ngx (State.tear_kept m_regs m_eng m_chainTorn (State.overrun_kept
      m_regs m_keep (by assumption)))))
  · exact State.skipFrom_kept m_regs m_fab m_ctx m_pcie m_ngx (State.overrun_kept m_regs m_keep (by assumption))
  · assumption

theorem State.activateDlds_kept {M : Mask} {z₀ : State} {s : State} {e : Nat} (m_regs : M.regs = true) (m_eng : M.eng = true)
    (h0 : Kept M z₀ s) : Kept M z₀ (@State.activateDlds s e) := by
  unfold State.activateDlds
  extract_lets x0 x1
  clear_value x0
  have k2 : Kept M z₀ x1 := by
    dsimp -zeta only [x1]
    exact State.modEngine_kept m_eng (by assumption)
  clear_value x1
  refine foldl_kept ?_ ?_
  · assumption
  · intro v3
    intro v4
    intro v5
    extract_lets x6 x7 x8 x9 x10
    clear_value x6 x7 x8
    have k11 : Kept M z₀ x9 := by
      dsimp -zeta only [x9]
      exact State.setReg_kept m_regs (by assumption)
    clear_value x9
    have k12 : Kept M z₀ x10 := by
      dsimp -zeta only [x10]
      exact State.setReg_kept m_regs (State.setReg_kept m_regs (by assumption))
    clear_value x10
    refine ite_kept ?_ ?_
    · assumption
    · exact State.setBit_kept m_regs (by assumption)

theorem State.beginTick_kept {M : Mask} {z₀ : State} {s : State} {e : Nat} {t : TickInfo} (m_regs : M.regs = true) (m_eng :
    M.eng = true) (m_par : M.par = true) (m_cal : M.cal = true) (h0 : Kept M z₀ s) : Kept M z₀ (@State.beginTick s e t) := by
  unfold State.beginTick
  extract_lets x0 x1 x2 x3
  have k4 : Kept M z₀ x0 := by
    dsimp -zeta only [x0]
    exact State.activateDlds_kept m_regs m_eng (by assumption)
  clear_value x0 x1
  have k5 : Kept M z₀ x2 := by
    dsimp -zeta only [x2]
    exact Kept.upPar m_par (by assumption)
  clear_value x2
  have k6 : Kept M z₀ x3 := by
    dsimp -zeta only [x3]
    exact State.modEngine_kept m_eng (by assumption)
  clear_value x3
  split
  · exact State.modEngine_kept m_eng (by assumption)
  · exact State.tailStart_kept m_regs m_eng m_cal (by assumption)

theorem execFarStoreTaken_kept {M : Mask} {z₀ : State} {e : Fin 32} {s : State} (m_regs : M.regs = true) (m_eng : M.eng =
    true) (m_chainTorn : M.chainTorn = true) (m_fab : M.fab = true) (m_par : M.par = true) (m_cal : M.cal = true) (m_ctx :
    M.ctx = true) (m_pcie : M.pcie = true) (m_keep : M.keep = true) (m_ngx : M.ngx = true) (h1 : Kept M z₀ s) : OutOk M z₀
    (@execFarStoreTaken e s) := by
  unfold execFarStoreTaken
  extract_lets x0 x1 x2
  clear_value x0
  have k3 : Kept M z₀ x1 := by
    dsimp -zeta only [x1]
    exact State.modEngine_kept m_eng (by assumption)
  clear_value x1 x2
  split
  · exact OutOk.next (by assumption)
  · refine ite_ok ?_ ?_
    · exact OutOk.next (by assumption)
    · extract_lets x4 x5
      have k6 : Kept M z₀ x4 := by
        dsimp -zeta only [x4]
        exact State.takeStores_kept m_eng m_fab (by assumption)
      clear_value x4
      have k7 : Kept M z₀ x5 := by
        dsimp -zeta only [x5]
        refine ite_kept ?_ ?_
        · exact State.hwm_kept m_regs (by assumption)
        · assumption
      clear_value x5
      split
      · exact OutOk.next (State.beginTick_kept m_regs m_eng m_par m_cal (State.advance_kept m_regs m_eng m_fab m_cal m_ctx
          m_pcie m_keep m_ngx (by assumption)))
      · exact OutOk.next (State.beginTick_kept m_regs m_eng m_par m_cal (State.stopTick_kept m_regs m_eng m_chainTorn m_fab
          m_ctx m_pcie m_keep m_ngx (by assumption)))
      · refine OutOk.next ?_
        refine ite_kept ?_ ?_
        · exact State.cutSeg_kept m_regs m_eng m_chainTorn m_fab m_cal m_ctx m_pcie m_ngx (by assumption)
        · exact State.advance_kept m_regs m_eng m_fab m_cal m_ctx m_pcie m_keep m_ngx (by assumption)
      · exact OutOk.next (State.advance_kept m_regs m_eng m_fab m_cal m_ctx m_pcie m_keep m_ngx (by assumption))

theorem State.deferSwap_kept {M : Mask} {z₀ : State} {s : State} {e : Nat} (m_regs : M.regs = true) (h0 : Kept M z₀ s) : Kept
    M z₀ (@State.deferSwap s e) := by
  unfold State.deferSwap
  extract_lets x0
  clear_value x0
  refine ite_kept ?_ ?_
  · assumption
  · exact State.bump_kept m_regs (by assumption)

theorem State.receive_kept {M : Mask} {z₀ : State} {s : State} {e : Nat} {t : TickInfo} (m_regs : M.regs = true) (m_eng :
    M.eng = true) (m_chainTorn : M.chainTorn = true) (m_fab : M.fab = true) (m_par : M.par = true) (m_cal : M.cal = true)
    (m_ctx : M.ctx = true) (m_pcie : M.pcie = true) (m_keep : M.keep = true) (m_ngx : M.ngx = true) (h0 : Kept M z₀ s) : Kept
    M z₀ (@State.receive s e t) := by
  unfold State.receive
  extract_lets x0 x1 x2 x3 x4
  have k5 : Kept M z₀ x0 := by
    dsimp -zeta only [x0]
    exact State.modEngine_kept m_eng (by assumption)
  clear_value x0
  have k6 : Kept M z₀ x1 := by
    dsimp -zeta only [x1]
    refine ite_kept ?_ ?_
    · assumption
    · exact State.bump_kept m_regs (by assumption)
  clear_value x1 x2
  have k7 : Kept M z₀ x3 := by
    dsimp -zeta only [x3]
    exact State.setBit_kept m_regs (State.deferSwap_kept m_regs (by assumption))
  clear_value x3
  have k8 : Kept M z₀ x4 := by
    dsimp -zeta only [x4]
    split
    · exact State.overrun_kept m_regs m_keep (State.skipFrom_kept m_regs m_fab m_ctx m_pcie m_ngx (State.modEngine_kept m_eng
        (by assumption)))
    · exact State.modEngine_kept m_eng (by assumption)
  clear_value x4
  refine ite_kept ?_ ?_
  · exact State.modEngine_kept m_eng (by assumption)
  · split
    · exact State.beginTick_kept m_regs m_eng m_par m_cal (State.stopTick_kept m_regs m_eng m_chainTorn m_fab m_ctx m_pcie
        m_keep m_ngx (State.deferSwap_kept m_regs (by assumption)))
    · exact State.beginTick_kept m_regs m_eng m_par m_cal (State.stopTick_kept m_regs m_eng m_chainTorn m_fab m_ctx m_pcie
        m_keep m_ngx (State.deferSwap_kept m_regs (by assumption)))
    · exact State.beginTick_kept m_regs m_eng m_par m_cal (State.applySwaps_kept m_regs m_eng m_ctx (by assumption))

theorem execTickReceipt_kept {M : Mask} {z₀ : State} {e : Fin 32} {s : State} (m_regs : M.regs = true) (m_eng : M.eng = true)
    (m_chainTorn : M.chainTorn = true) (m_fab : M.fab = true) (m_par : M.par = true) (m_cal : M.cal = true) (m_ctx : M.ctx =
    true) (m_pcie : M.pcie = true) (m_keep : M.keep = true) (m_ngx : M.ngx = true) (h1 : Kept M z₀ s) : OutOk M z₀
    (@execTickReceipt e s) := by
  unfold execTickReceipt
  split
  · exact OutOk.next (by assumption)
  · exact OutOk.next (State.receive_kept m_regs m_eng m_chainTorn m_fab m_par m_cal m_ctx m_pcie m_keep m_ngx (by assumption))

end Sys2Proof.Machine
end

