-- ==== Sys2Proof/Laws/KeptParams.lean ====
section
/-! SUPPORT. What the operations and meanings of Machine/Params.lean keep (Laws/Kept.lean). -/

namespace Sys2Proof.Machine

theorem State.setGroupSt_kept {M : Mask} {z₀ : State} {s : State} {g : Nat} {v : Nat} (m_regs : M.regs = true) (h0 : Kept M
    z₀ s) : Kept M z₀ (@State.setGroupSt s g v) := by
  unfold State.setGroupSt
  exact State.setFld_kept m_regs (by assumption)

theorem State.setGroup_kept {M : Mask} {z₀ : State} {s : State} {g : Nat} {x : Group} (m_regs : M.regs = true) (m_par : M.par
    = true) (h0 : Kept M z₀ s) : Kept M z₀ (@State.setGroup s g x) := by
  unfold State.setGroup
  extract_lets x0 x1 x2 x3 x4
  clear_value x0 x1
  have k5 : Kept M z₀ x2 := by
    dsimp -zeta only [x2]
    exact Kept.upPar m_par (by assumption)
  clear_value x2
  have k6 : Kept M z₀ x3 := by
    dsimp -zeta only [x3]
    refine foldl_kept ?_ ?_
    · assumption
    · intro v7
      intro v8
      intro v9
      exact State.setBit_kept m_regs (by assumption)
  clear_value x3
  have k10 : Kept M z₀ x4 := by
    dsimp -zeta only [x4]
    refine foldl_kept ?_ ?_
    · assumption
    · intro v11
      intro v12
      intro v13
      exact State.setBit_kept m_regs (by assumption)
  clear_value x4
  exact State.setFld_kept m_regs (State.setFld_kept m_regs (by assumption))

theorem State.setXps_kept {M : Mask} {z₀ : State} {s : State} {m : Sys2Proof.SMap Xpoint} (m_regs : M.regs = true) (m_route :
    M.route = true) (h0 : Kept M z₀ s) : Kept M z₀ (@State.setXps s m) := by
  unfold State.setXps
  extract_lets x0 x1 x2 x3
  clear_value x0
  have k4 : Kept M z₀ x1 := by
    dsimp -zeta only [x1]
    exact Kept.upRoute m_route (by assumption)
  clear_value x1 x2 x3
  exact State.setReg_kept m_regs (by assumption)

theorem State.setResync_kept {M : Mask} {z₀ : State} {s : State} {n : Nat} {r : Resync} (m_par : M.par = true) (h0 : Kept M
    z₀ s) : Kept M z₀ (@State.setResync s n r) := by
  unfold State.setResync
  exact Kept.upPar m_par (by assumption)

theorem State.coefFlip_kept {M : Mask} {z₀ : State} {s : State} {n : Nat} (m_regs : M.regs = true) (m_par : M.par = true) (h0
    : Kept M z₀ s) : Kept M z₀ (@State.coefFlip s n) := by
  unfold State.coefFlip
  refine ite_kept ?_ ?_
  · assumption
  · extract_lets x0 x1 x2
    have k3 : Kept M z₀ x0 := by
      dsimp -zeta only [x0]
      exact State.setBit_kept m_regs (by assumption)
    clear_value x0
    have k4 : Kept M z₀ x1 := by
      dsimp -zeta only [x1]
      exact State.setFld_kept m_regs (by assumption)
    clear_value x1
    have k5 : Kept M z₀ x2 := by
      dsimp -zeta only [x2]
      exact State.setBit_kept m_regs (State.setBit_kept m_regs (by assumption))
    clear_value x2
    exact State.setResync_kept m_par (by assumption)

theorem State.setMover_kept {M : Mask} {z₀ : State} {s : State} {m : Nat} {j : Option Job} (m_mov : M.mov = true) (h0 : Kept
    M z₀ s) : Kept M z₀ (@State.setMover s m j) := by
  unfold State.setMover
  exact Kept.upMov m_mov (by assumption)

theorem State.csetTake_kept {M : Mask} {z₀ : State} {s : State} {n : Nat} {w0 : Word} {w1 : Word} {w2 : Word} (m_regs :
    M.regs = true) (h0 : Kept M z₀ s) : Kept M z₀ (@State.csetTake s n w0 w1 w2) := by
  unfold State.csetTake
  extract_lets x0 x1 x2 x3 x4 x5
  clear_value x0 x1 x2
  have k6 : Kept M z₀ x3 := by
    dsimp -zeta only [x3]
    exact State.setReg_kept m_regs (by assumption)
  clear_value x3
  have k7 : Kept M z₀ x4 := by
    dsimp -zeta only [x4]
    exact State.setReg_kept m_regs (by assumption)
  clear_value x4
  have k8 : Kept M z₀ x5 := by
    dsimp -zeta only [x5]
    exact State.setReg_kept m_regs (by assumption)
  clear_value x5
  refine ite_kept ?_ ?_
  · exact State.setReg_kept m_regs (State.setBit_kept m_regs (by assumption))
  · assumption

theorem State.csetW0_kept {M : Mask} {z₀ : State} {s : State} {n : Nat} {w0 : Word} (m_regs : M.regs = true) (h0 : Kept M z₀
    s) : Kept M z₀ (@State.csetW0 s n w0) := by
  unfold State.csetW0
  extract_lets x0
  clear_value x0
  refine ite_kept ?_ ?_
  · exact State.setBit_kept m_regs (by assumption)
  · exact State.csetTake_kept m_regs (by assumption)

theorem State.stage_kept {M : Mask} {z₀ : State} {s : State} {g : Option Nat} {m : Member} (m_regs : M.regs = true) (m_par :
    M.par = true) (h0 : Kept M z₀ s) : Kept M z₀ (@State.stage s g m) := by
  unfold State.stage
  split
  · exact Kept.upPar m_par (by assumption)
  · extract_lets x0
    clear_value x0
    exact State.setGroupSt_kept m_regs (State.setGroup_kept m_regs m_par (by assumption))

theorem State.cbindW_kept {M : Mask} {z₀ : State} {s : State} {e : Nat} {n : Nat} {v : Word} (m_regs : M.regs = true) (h0 :
    Kept M z₀ s) : Kept M z₀ (@State.cbindW s e n v) := by
  unfold State.cbindW
  exact State.setReg_kept m_regs (by assumption)

theorem State.csetW12_kept {M : Mask} {z₀ : State} {s : State} {n : Nat} {second : Bool} {v : Word} (m_regs : M.regs = true)
    (m_par : M.par = true) (h0 : Kept M z₀ s) : Kept M z₀ (@State.csetW12 s n second v) := by
  unfold State.csetW12
  extract_lets x0 x1
  have k2 : Kept M z₀ x0 := by
    dsimp -zeta only [x0]
    refine ite_kept ?_ ?_
    · exact State.setBit_kept m_regs (by assumption)
    · assumption
  clear_value x0 x1
  exact Kept.upPar m_par (by assumption)

theorem State.freeStaged_kept {M : Mask} {z₀ : State} {s : State} {a : Nat} {b : Nat} (m_regs : M.regs = true) (m_route :
    M.route = true) (h0 : Kept M z₀ s) : Kept M z₀ (@State.freeStaged s a b) := by
  unfold State.freeStaged
  exact State.setXps_kept m_regs m_route (by assumption)

theorem State.discardGroup_kept {M : Mask} {z₀ : State} {s : State} {g : Nat} {code : Nat} (m_regs : M.regs = true) (m_eng :
    M.eng = true) (m_par : M.par = true) (m_ctx : M.ctx = true) (m_route : M.route = true) (h0 : Kept M z₀ s) : Kept M z₀
    (@State.discardGroup s g code) := by
  unfold State.discardGroup
  extract_lets x0 x1 x2
  clear_value x0
  have k3 : Kept M z₀ x1 := by
    dsimp -zeta only [x1]
    exact State.setGroup_kept m_regs m_par (by assumption)
  clear_value x1
  have k4 : Kept M z₀ x2 := by
    dsimp -zeta only [x2]
    refine foldl_kept ?_ ?_
    · assumption
    · intro v5
      intro v6
      intro v7
      split
      · refine ite_kept ?_ ?_
        · extract_lets x8
          have k9 : Kept M z₀ x8 := by
            dsimp -zeta only [x8]
            exact State.setBit_kept m_regs (State.setBit_kept m_regs (by assumption))
          clear_value x8
          exact State.setResync_kept m_par (State.setFld_kept m_regs (by assumption))
        · assumption
      · exact State.withdrawSwap_kept m_regs m_eng (State.setResult_kept m_ctx (by assumption))
      · exact State.freeStaged_kept m_regs m_route (by assumption)
      · exact State.freeStaged_kept m_regs m_route (by assumption)
      · assumption
  clear_value x2
  exact State.setGroupSt_kept m_regs (by assumption)

theorem execCommitDiscard_kept {M : Mask} {z₀ : State} {c : Fin 512} {q : BitVec 32} {s : State} (m_regs : M.regs = true)
    (m_eng : M.eng = true) (m_par : M.par = true) (m_ctx : M.ctx = true) (m_route : M.route = true) (h2 : Kept M z₀ s) :
    OutOk M z₀ (@execCommitDiscard c q s) := by
  unfold execCommitDiscard
  split
  · exact OutOk.next (by assumption)
  · extract_lets x0
    clear_value x0
    refine OutOk.next ?_
    refine ite_kept ?_ ?_
    · exact State.finish_kept m_ctx (by assumption)
    · exact State.finish_kept m_ctx (State.discardGroup_kept m_regs m_eng m_par m_ctx m_route (by assumption))

theorem execCommitArm_kept {M : Mask} {z₀ : State} {c : Fin 512} {q : BitVec 32} {s : State} (m_regs : M.regs = true) (m_par
    : M.par = true) (m_ctx : M.ctx = true) (h2 : Kept M z₀ s) : OutOk M z₀ (@execCommitArm c q s) := by
  unfold execCommitArm
  split
  · exact OutOk.next (by assumption)
  · extract_lets x0 x1 x2 x3 x4
    clear_value x0 x1
    have k5 : Kept M z₀ x2 := by
      dsimp -zeta only [x2]
      exact State.modDesc_kept m_ctx (by assumption)
    clear_value x2 x3
    have k6 : Kept M z₀ x4 := by
      dsimp -zeta only [x4]
      exact State.setGroup_kept m_regs m_par (by assumption)
    clear_value x4
    refine ite_ok ?_ ?_
    · exact OutOk.next (State.finish_kept m_ctx (by assumption))
    · exact OutOk.next (State.setGroupSt_kept m_regs (State.setReg64_kept m_regs (by assumption)))

theorem execCommit_kept {M : Mask} {z₀ : State} {c : Fin 512} {q : BitVec 32} {s : State} (m_ctx : M.ctx = true) (h2 : Kept M
    z₀ s) : OutOk M z₀ (@execCommit c q s) := by
  unfold execCommit
  split
  · exact OutOk.next (by assumption)
  · extract_lets x0
    clear_value x0
    refine ite_ok ?_ ?_
    · exact OutOk.next (State.finish_kept m_ctx (by assumption))
    · refine ite_ok ?_ ?_
      · exact OutOk.next (by assumption)
      · exact OutOk.next (State.begin_kept m_ctx (by assumption))

theorem State.pageCopy_kept {M : Mask} {z₀ : State} {s : State} {n : Nat} {page : Nat} (m_regs : M.regs = true) (m_eng :
    M.eng = true) (m_fab : M.fab = true) (m_cal : M.cal = true) (m_ctx : M.ctx = true) (m_pcie : M.pcie = true) (m_ngx :
    M.ngx = true) (m_calMem : M.calMem = true) (h0 : Kept M z₀ s) : Kept M z₀ (@State.pageCopy s n page) := by
  unfold State.pageCopy
  extract_lets x0 x1 x2 x3
  clear_value x0 x1 x2 x3
  refine ite_kept ?_ ?_
  · refine forN_kept ?_ ?_
    · assumption
    · intro v4
      intro v5
      intro v6
      extract_lets x7 x8
      have k9 : Kept M z₀ x7.2 := by
        dsimp -zeta only [x7]
        exact State.eccRead_kept m_regs m_fab m_cal m_ctx m_pcie m_ngx (by assumption)
      clear_value x7 x8
      exact State.calWrite_kept m_regs m_fab m_cal m_ctx m_pcie m_ngx m_calMem (by assumption)
  · refine forN_kept ?_ ?_
    · assumption
    · intro v10
      intro v11
      intro v12
      extract_lets x13 x14
      clear_value x13
      have k15 : Kept M z₀ x14 := by
        dsimp -zeta only [x14]
        exact State.lmEccNote_kept m_regs (by assumption)
      clear_value x14
      exact State.lmPut_kept m_eng m_cal (by assumption)

theorem execResyncComplete_kept {M : Mask} {z₀ : State} {n : Fin 1024} {s : State} (m_regs : M.regs = true) (m_eng : M.eng =
    true) (m_fab : M.fab = true) (m_par : M.par = true) (m_cal : M.cal = true) (m_ctx : M.ctx = true) (m_mov : M.mov = true)
    (m_pcie : M.pcie = true) (m_ngx : M.ngx = true) (m_calMem : M.calMem = true) (h1 : Kept M z₀ s) : OutOk M z₀
    (@execResyncComplete n s) := by
  unfold execResyncComplete
  extract_lets x0 x1 x2
  clear_value x0
  have k3 : Kept M z₀ x1 := by
    dsimp -zeta only [x1]
    exact State.setResync_kept m_par (State.setBit_kept m_regs (State.pageCopy_kept m_regs m_eng m_fab m_cal m_ctx m_pcie
        m_ngx m_calMem (by assumption)))
  clear_value x1 x2
  refine OutOk.next ?_
  refine ite_kept ?_ ?_
  · exact Kept.upMov m_mov (by assumption)
  · assumption

theorem execResyncStart_kept {M : Mask} {z₀ : State} {n : Fin 1024} {s : State} (m_par : M.par = true) (m_mov : M.mov = true)
    (h1 : Kept M z₀ s) : OutOk M z₀ (@execResyncStart n s) := by
  unfold execResyncStart
  extract_lets x0
  clear_value x0
  split
  · refine OutOk.next ?_
    refine ite_kept ?_ ?_
    · exact State.setMover_kept m_mov (State.setResync_kept m_par (by assumption))
    · assumption
  · exact OutOk.next (by assumption)

theorem execShadowWriteComplete_kept {M : Mask} {z₀ : State} {c : Fin 512} {q : BitVec 32} {fail : Fin 3} {s : State} (m_regs
    : M.regs = true) (m_par : M.par = true) (m_ctx : M.ctx = true) (h3 : Kept M z₀ s) : OutOk M z₀ (@execShadowWriteComplete
    c q fail s) := by
  unfold execShadowWriteComplete
  split
  · split
    · exact OutOk.next (by assumption)
    · refine ite_ok ?_ ?_
      · exact OutOk.next (by assumption)
      · extract_lets x0 x1 x2 x3 x4
        clear_value x0 x1
        have k5 : Kept M z₀ x2 := by
          dsimp -zeta only [x2]
          exact State.modDesc_kept m_ctx (by assumption)
        clear_value x2
        have k6 : Kept M z₀ x3 := by
          dsimp -zeta only [x3]
          refine ite_kept ?_ ?_
          · assumption
          · exact State.setBit_kept m_regs (State.setFld_kept m_regs (by assumption))
        clear_value x3
        have k7 : Kept M z₀ x4 := by
          dsimp -zeta only [x4]
          exact State.setBit_kept m_regs (State.setFld_kept m_regs (by assumption))
        clear_value x4
        refine ite_ok ?_ ?_
        · exact OutOk.next (State.setResult_kept m_ctx (by assumption))
        · refine ite_ok ?_ ?_
          · exact OutOk.next (State.modDesc_kept m_ctx (by assumption))
          · refine OutOk.next ?_
            refine ite_kept ?_ ?_
            · exact State.setResult_kept m_ctx (by assumption)
            · exact State.stage_kept m_regs m_par (by assumption)

theorem State.pageWrite_kept {M : Mask} {z₀ : State} {s : State} {n : Nat} {page : Nat} {quad : Nat} {m : BitVec 4} {v :
    Sys2Proof.Quad Word} (m_regs : M.regs = true) (m_eng : M.eng = true) (m_fab : M.fab = true) (m_cal : M.cal = true) (m_ctx
    : M.ctx = true) (m_pcie : M.pcie = true) (m_ngx : M.ngx = true) (m_calMem : M.calMem = true) (h0 : Kept M z₀ s) : Kept M
    z₀ (@State.pageWrite s n page quad m v) := by
  unfold State.pageWrite
  extract_lets x0 x1
  clear_value x0 x1
  refine ite_kept ?_ ?_
  · exact State.calWrite_kept m_regs m_fab m_cal m_ctx m_pcie m_ngx m_calMem (by assumption)
  · refine forN_kept ?_ ?_
    · assumption
    · intro v2
      intro v3
      intro v4
      refine ite_kept ?_ ?_
      · exact State.lmPut_kept m_eng m_cal (by assumption)
      · assumption

theorem State.coefStart_kept {M : Mask} {z₀ : State} {s : State} {c : Nat} {q : Nat} {n : Nat} {d : OpenDesc} {f : State →
    State} (m_regs : M.regs = true) (m_par : M.par = true) (m_ctx : M.ctx = true) (h0 : Kept M z₀ s) (h5 : ∀ u0, Kept M z₀ u0
    → Kept M z₀ (f u0)) : Kept M z₀ (@State.coefStart s c q n d f) := by
  unfold State.coefStart
  extract_lets x0 x1 x2
  clear_value x0 x1
  have k3 : Kept M z₀ x2 := by
    dsimp -zeta only [x2]
    apply h5
    exact State.begin_kept m_ctx (by assumption)
  clear_value x2
  refine ite_kept ?_ ?_
  · exact State.finish_kept m_ctx (by assumption)
  · refine ite_kept ?_ ?_
    · exact State.stage_kept m_regs m_par (by assumption)
    · assumption

theorem execCoefDelta_kept {M : Mask} {z₀ : State} {c : Fin 512} {q : BitVec 32} {list : List (BitVec 192)} {s : State}
    (m_regs : M.regs = true) (m_eng : M.eng = true) (m_fab : M.fab = true) (m_par : M.par = true) (m_cal : M.cal = true)
    (m_ctx : M.ctx = true) (m_pcie : M.pcie = true) (m_ngx : M.ngx = true) (m_calMem : M.calMem = true) (h3 : Kept M z₀ s) :
    OutOk M z₀ (@execCoefDelta c q list s) := by
  unfold execCoefDelta
  split
  · exact OutOk.next (by assumption)
  · extract_lets x0 x1 x2
    clear_value x0 x1 x2
    refine ite_ok ?_ ?_
    · exact OutOk.next (by assumption)
    · refine ite_ok ?_ ?_
      · exact OutOk.next (State.finish_kept m_ctx (by assumption))
      · refine ite_ok ?_ ?_
        · exact OutOk.next (State.finish_kept m_ctx (by assumption))
        · refine ite_ok ?_ ?_
          · exact OutOk.next (State.modDesc_kept m_ctx (by assumption))
          · refine ite_ok ?_ ?_
            · exact OutOk.next (State.finish_kept m_ctx (by assumption))
            · refine OutOk.next ?_
              refine State.coefStart_kept m_regs m_par m_ctx ?_ ?_
              · assumption
              · intro v3
                intro v4
                extract_lets x5
                have k6 : Kept M z₀ x5 := by
                  dsimp -zeta only [x5]
                  refine foldl_kept ?_ ?_
                  · assumption
                  · intro v7
                    intro v8
                    intro v9
                    exact State.pageWrite_kept m_regs m_eng m_fab m_cal m_ctx m_pcie m_ngx m_calMem (by assumption)
                clear_value x5
                exact State.modDesc_kept m_ctx (by assumption)

theorem execCoefWrite_kept {M : Mask} {z₀ : State} {c : Fin 512} {q : BitVec 32} {data : List (BitVec 128)} {s : State}
    (m_regs : M.regs = true) (m_eng : M.eng = true) (m_fab : M.fab = true) (m_par : M.par = true) (m_cal : M.cal = true)
    (m_ctx : M.ctx = true) (m_pcie : M.pcie = true) (m_ngx : M.ngx = true) (m_calMem : M.calMem = true) (h3 : Kept M z₀ s) :
    OutOk M z₀ (@execCoefWrite c q data s) := by
  unfold execCoefWrite
  split
  · exact OutOk.next (by assumption)
  · extract_lets x0 x1 x2
    clear_value x0 x1 x2
    refine ite_ok ?_ ?_
    · exact OutOk.next (by assumption)
    · refine ite_ok ?_ ?_
      · exact OutOk.next (State.finish_kept m_ctx (by assumption))
      · refine OutOk.next ?_
        refine State.coefStart_kept m_regs m_par m_ctx ?_ ?_
        · assumption
        · intro v3
          intro v4
          extract_lets x5
          have k6 : Kept M z₀ x5 := by
            dsimp -zeta only [x5]
            refine forN_kept ?_ ?_
            · assumption
            · intro v7
              intro v8
              intro v9
              exact State.pageWrite_kept m_regs m_eng m_fab m_cal m_ctx m_pcie m_ngx m_calMem (by assumption)
          clear_value x5
          exact State.modDesc_kept m_ctx (by assumption)

theorem execCbindWrite_kept {M : Mask} {z₀ : State} {e : Fin 32} {n : Fin 16} {v : BitVec 32} {s : State} (m_regs : M.regs =
    true) (h3 : Kept M z₀ s) : OutOk M z₀ (@execCbindWrite e n v s) := by
  unfold execCbindWrite
  refine OutOk.next ?_
  refine State.bar_kept m_regs ?_ ?_
  · assumption
  · intro v0
    intro v1
    exact State.cbindW_kept m_regs (by assumption)

theorem execCsetW0Write_kept {M : Mask} {z₀ : State} {n : Fin 1024} {v : BitVec 32} {s : State} (m_regs : M.regs = true) (h2
    : Kept M z₀ s) : OutOk M z₀ (@execCsetW0Write n v s) := by
  unfold execCsetW0Write
  exact OutOk.next (State.csetW0_kept m_regs (by assumption))

end Sys2Proof.Machine
end

