-- ==== Sys2Proof/Laws/KeptPcieOps.lean ====
section
/-! SUPPORT. What the operations and meanings of Machine/PcieOps.lean keep (Laws/Kept.lean). -/

namespace Sys2Proof.Machine

theorem State.hostRead_kept {M : Mask} {z₀ : State} {s : State} {cls : Nat} {master : Nat} {f : Nat} {a : Nat} {n : Nat} {ns
    : Bool} {who : ReadFor} (m_fab : M.fab = true) (h0 : Kept M z₀ s) : Kept M z₀ (@State.hostRead s cls master f a n ns who)
    := by
  unfold State.hostRead
  refine foldl_kept ?_ ?_
  · assumption
  · intro v0
    intro v1
    intro v2
    exact State.offer_kept m_fab (by assumption)

theorem State.ctxRead_kept {M : Mask} {z₀ : State} {s : State} {cls : Nat} {master : Nat} {c : Nat} {a : Nat} {n : Nat} {ns :
    Bool} {who : ReadFor} (m_fab : M.fab = true) (m_pcie : M.pcie = true) (m_ngx : M.ngx = true) (h0 : Kept M z₀ s) : Kept M
    z₀ (@State.ctxRead s cls master c a n ns who) := by
  unfold State.ctxRead
  refine ite_kept ?_ ?_
  · exact State.proxyRead_kept m_pcie m_ngx (by assumption)
  · exact State.hostRead_kept m_fab (by assumption)

theorem State.aer_kept {M : Mask} {z₀ : State} {s : State} {f : Nat} {b : Nat} (m_pcie : M.pcie = true) (h0 : Kept M z₀ s) :
    Kept M z₀ (@State.aer s f b) := by
  unfold State.aer
  exact State.modFn_kept m_pcie (by assumption)

theorem State.hostWrite_kept {M : Mask} {z₀ : State} {s : State} {cls : Nat} {master : Nat} {f : Nat} {a : Nat} {d : List
    Sys2Proof.Byte} {attr : BitVec 3} (m_fab : M.fab = true) (h0 : Kept M z₀ s) : Kept M z₀ (@State.hostWrite s cls master f
    a d attr) := by
  unfold State.hostWrite
  refine foldl_kept ?_ ?_
  · assumption
  · intro v0
    intro v1
    intro v2
    exact State.offer_kept m_fab (by assumption)

theorem State.ctxWrite_kept {M : Mask} {z₀ : State} {s : State} {cls : Nat} {master : Nat} {c : Nat} {a : Nat} {d : List
    Sys2Proof.Byte} {attr : BitVec 3} (m_fab : M.fab = true) (m_ngx : M.ngx = true) (h0 : Kept M z₀ s) : Kept M z₀
    (@State.ctxWrite s cls master c a d attr) := by
  unfold State.ctxWrite
  refine ite_kept ?_ ?_
  · exact State.proxyWrite_kept m_ngx (by assumption)
  · exact State.hostWrite_kept m_fab (by assumption)

theorem State.readsOver_kept {M : Mask} {z₀ : State} {s : State} {who : ReadFor} (m_fab : M.fab = true) (m_pcie : M.pcie =
    true) (h0 : Kept M z₀ s) : Kept M z₀ (@State.readsOver s who) := by
  unfold State.readsOver
  exact Kept.lit (s := s) { fab := .inl m_fab, pcie := .inl m_pcie } (by assumption)

theorem State.hrdReply_kept {M : Mask} {z₀ : State} {s : State} {d : Nat} {t : Nat} {status : Nat} {data : List
    Sys2Proof.Byte} (m_ngx : M.ngx = true) (h0 : Kept M z₀ s) : Kept M z₀ (@State.hrdReply s d t status data) := by
  unfold State.hrdReply
  extract_lets x0 x1
  clear_value x0
  have k2 : Kept M z₀ x1 := by
    dsimp -zeta only [x1]
    exact Kept.upNgx m_ngx (by assumption)
  clear_value x1
  exact State.ngxSend_kept m_ngx (by assumption)

theorem execOutboundPortGrant_kept {M : Mask} {z₀ : State} {s : State} (m_regs : M.regs = true) (m_fab : M.fab = true)
    (m_pcie : M.pcie = true) (h0 : Kept M z₀ s) : OutOk M z₀ (@execOutboundPortGrant s) := by
  unfold execOutboundPortGrant
  split
  · exact OutOk.next (by assumption)
  · extract_lets x0 x1 x2 x3 x4
    clear_value x0 x1
    have k5 : Kept M z₀ x2 := by
      dsimp -zeta only [x2]
      exact Kept.lit (s := s) { fab := .inl m_fab, pcie := .inl m_pcie } (by assumption)
    clear_value x2
    have k6 : Kept M z₀ x3 := by
      dsimp -zeta only [x3]
      exact State.setFld_kept m_regs (by assumption)
    clear_value x3 x4
    split
    · exact OutOk.next (Kept.upPcie m_pcie (by assumption))
    · exact OutOk.next (by assumption)

end Sys2Proof.Machine
end

