-- ==== Sys2Proof/Laws/KeptSecure.lean ====
section
/-! SUPPORT. What the operations and meanings of Machine/Secure.lean keep (Laws/Kept.lean). -/

namespace Sys2Proof.Machine

theorem State.setBytes48_kept {M : Mask} {z₀ : State} {s : State} {r : Nat → Nat} {b : List Sys2Proof.Byte} (m_regs : M.regs
    = true) (h0 : Kept M z₀ s) : Kept M z₀ (@State.setBytes48 s r b) := by
  unfold State.setBytes48
  refine forN_kept ?_ ?_
  · assumption
  · intro v0
    intro v1
    intro v2
    exact State.setReg_kept m_regs (by assumption)

theorem State.extendDay_kept {M : Mask} {z₀ : State} {s : State} {i : Nat} {m : List Sys2Proof.Byte} (m_regs : M.regs = true)
    (h0 : Kept M z₀ s) : Kept M z₀ (@State.extendDay s i m) := by
  unfold State.extendDay
  exact State.setBytes48_kept m_regs (by assumption)

theorem State.dmCmdW_kept {M : Mask} {z₀ : State} {s : State} {v : Word} (m_regs : M.regs = true) (m_boot : M.boot = true)
    (h0 : Kept M z₀ s) : Kept M z₀ (@State.dmCmdW s v) := by
  unfold State.dmCmdW
  extract_lets x0 x1 x2 x3
  have k4 : Kept M z₀ x0 := by
    dsimp -zeta only [x0]
    exact State.setBit_kept m_regs (by assumption)
  clear_value x0 x1
  have k5 : Kept M z₀ x2 := by
    dsimp -zeta only [x2]
    exact State.extendDay_kept m_regs (by assumption)
  clear_value x2
  subst x3
  refine ite_kept ?_ ?_
  · exact Kept.upBoot m_boot rfl rfl rfl (by assumption)
  · assumption

theorem State.audit_kept {M : Mask} {z₀ : State} {s : State} {reason : Nat} {source : Nat} {ctx : Nat} {func : Nat} {detail :
    Nat} (m_regs : M.regs = true) (m_boot : M.boot = true) (h0 : Kept M z₀ s) : Kept M z₀ (@State.audit s reason source ctx
    func detail) := by
  unfold State.audit
  extract_lets x0 x1 x2
  clear_value x0
  subst x1
  have k3 : Kept M z₀ x2 := by
    dsimp -zeta only [x2]
    exact Kept.upBoot m_boot rfl rfl rfl (by assumption)
  clear_value x2
  exact State.setReg_kept m_regs (by assumption)

theorem execDmExtend_kept {M : Mask} {z₀ : State} {sel : Bool} {s : State} (m_regs : M.regs = true) (m_boot : M.boot = true)
    (h1 : Kept M z₀ s) : OutOk M z₀ (@execDmExtend sel s) := by
  unfold execDmExtend
  exact OutOk.next (State.dmCmdW_kept m_regs m_boot (by assumption))

theorem State.marginalWord_kept {M : Mask} {z₀ : State} {s : State} {r : Sys2Proof.FuseRead} (h0 : Kept M z₀ s) : Kept M z₀
    (@State.marginalWord s r).2 := by
  unfold State.marginalWord
  extract_lets x0 x1
  clear_value x0 x1
  split
  · rename_i w2 w3 w4 w5
    have k6 : Kept M z₀ w4 := snd_of w5 (by
        refine State.draw_kept ?_
        assumption)
    split
    · assumption
    · split
      · assumption
      · split
        · split
          · split
            · assumption
            · assumption
          · split
            · split
              · assumption
              · assumption
            · assumption
        · assumption

theorem State.readFuses_kept {M : Mask} {z₀ : State} {s : State} {odd : List Sys2Proof.FuseRead} (m_regs : M.regs = true)
    (m_boot : M.boot = true) (h0 : Kept M z₀ s) : Kept M z₀ (@State.readFuses s odd) := by
  unfold State.readFuses
  extract_lets x0 x1 x2 x3 x4
  subst x0
  have k5 : Kept M z₀ x1 := by
    dsimp -zeta only [x1]
    exact Kept.upBoot m_boot rfl rfl rfl (by assumption)
  clear_value x1
  have k6 : Kept M z₀ x2 := by
    dsimp -zeta only [x2]
    refine foldl_kept ?_ ?_
    · assumption
    · intro v7
      intro v8
      intro v9
      refine ite_kept ?_ ?_
      · exact Kept.upBoot m_boot rfl rfl rfl (by assumption)
      · exact Kept.upBoot m_boot rfl rfl rfl (State.marginalWord_kept (by assumption))
  clear_value x2 x3 x4
  exact State.setReg_kept m_regs (by assumption)

theorem State.measureLoad_kept {M : Mask} {z₀ : State} {s : State} {c : Nat} {body : List Sys2Proof.Byte} (m_regs : M.regs =
    true) (m_boot : M.boot = true) (h0 : Kept M z₀ s) : Kept M z₀ (@State.measureLoad s c body) := by
  unfold State.measureLoad
  extract_lets x0 x1 x2 x3
  clear_value x0 x1
  have k4 : Kept M z₀ x2 := by
    dsimp -zeta only [x2]
    exact State.extendDay_kept m_regs (by assumption)
  clear_value x2
  subst x3
  exact Kept.upBoot m_boot rfl rfl rfl (by assumption)

theorem State.auditDesc_kept {M : Mask} {z₀ : State} {s : State} {c : Nat} {q : Nat} {reason : Nat} (m_regs : M.regs = true)
    (m_boot : M.boot = true) (h0 : Kept M z₀ s) : Kept M z₀ (@State.auditDesc s c q reason) := by
  unfold State.auditDesc
  exact State.audit_kept m_regs m_boot (by assumption)

end Sys2Proof.Machine
end

