-- ==== Sys2Proof/Laws/KeptStreams.lean ====
section
/-! SUPPORT. What the operations and meanings of Machine/Streams.lean keep (Laws/Kept.lean). -/

namespace Sys2Proof.Machine

theorem State.streamTable_kept {M : Mask} {z₀ : State} {s : State} {r : Nat} {x : Stream} {st : Nat} (m_regs : M.regs = true)
    (m_fab : M.fab = true) (m_ngx : M.ngx = true) (h0 : Kept M z₀ s) : Kept M z₀ (@State.streamTable s r x st) := by
  unfold State.streamTable
  refine ite_kept ?_ ?_
  · assumption
  · refine ite_kept ?_ ?_
    · exact State.setFld_kept m_regs (State.setReg_kept m_regs (by assumption))
    · exact State.ringWrite_kept m_fab m_ngx (by assumption)

theorem State.showDma_kept {M : Mask} {z₀ : State} {s : State} (m_regs : M.regs = true) (h0 : Kept M z₀ s) : Kept M z₀
    (@State.showDma s) := by
  unfold State.showDma
  extract_lets x0
  clear_value x0
  exact State.setReg_kept m_regs (by assumption)

theorem State.streamEnds_kept {M : Mask} {z₀ : State} {s : State} {r : Nat} (m_regs : M.regs = true) (m_fab : M.fab = true)
    (m_ctx : M.ctx = true) (m_mov : M.mov = true) (m_pcie : M.pcie = true) (m_ngx : M.ngx = true) (h0 : Kept M z₀ s) : Kept M
    z₀ (@State.streamEnds s r) := by
  unfold State.streamEnds
  split
  · assumption
  · refine ite_kept ?_ ?_
    · assumption
    · extract_lets x0 x1
      have k2 : Kept M z₀ x0 := by
        dsimp -zeta only [x0]
        exact State.setStream_kept m_mov (by assumption)
      clear_value x0
      have k3 : Kept M z₀ x1 := by
        dsimp -zeta only [x1]
        exact State.ltrUpdate_kept m_regs m_fab m_pcie (State.showUse_kept m_regs (State.showDma_kept m_regs
            (State.streamTable_kept m_regs m_fab m_ngx (by assumption))))
      clear_value x1
      split
      · exact State.setResult_kept m_ctx (by assumption)
      · assumption

theorem State.streamState_kept {M : Mask} {z₀ : State} {s : State} {r : Nat} {x : Stream} {st : Nat} (m_regs : M.regs = true)
    (m_fab : M.fab = true) (m_mov : M.mov = true) (m_ngx : M.ngx = true) (h0 : Kept M z₀ s) : Kept M z₀ (@State.streamState s
    r x st) := by
  unfold State.streamState
  exact State.streamTable_kept m_regs m_fab m_ngx (State.setStream_kept m_mov (by assumption))

theorem State.streamEvent_kept {M : Mask} {z₀ : State} {s : State} {x : Stream} {cause : Nat} (m_regs : M.regs = true) (m_fab
    : M.fab = true) (m_ctx : M.ctx = true) (m_pcie : M.pcie = true) (m_ngx : M.ngx = true) (h0 : Kept M z₀ s) : Kept M z₀
    (@State.streamEvent s x cause) := by
  unfold State.streamEvent
  refine ite_kept ?_ ?_
  · refine ite_kept ?_ ?_
    · exact State.bump_kept m_regs (by assumption)
    · assumption
  · exact State.logEvent_kept m_regs m_fab m_ctx m_pcie m_ngx (by assumption)

theorem State.fifoWords_kept {M : Mask} {z₀ : State} {s : State} {x : Stream} {i : Nat} {m : Nat} (m_regs : M.regs = true)
    (m_fab : M.fab = true) (m_cal : M.cal = true) (m_ctx : M.ctx = true) (m_pcie : M.pcie = true) (m_ngx : M.ngx = true) (h0
    : Kept M z₀ s) : Kept M z₀ (@State.fifoWords s x i m).2.2 := by
  unfold State.fifoWords
  extract_lets x0
  have k1 : Kept M z₀ x0.2.2 := by
    dsimp -zeta only [x0]
    exact State.calRead_kept m_regs m_fab m_cal m_ctx m_pcie m_ngx (by assumption)
  clear_value x0
  assumption

theorem State.streamYield_kept {M : Mask} {z₀ : State} {s : State} {r : Nat} (m_regs : M.regs = true) (m_fab : M.fab = true)
    (m_cal : M.cal = true) (m_ctx : M.ctx = true) (m_mov : M.mov = true) (m_pcie : M.pcie = true) (m_ngx : M.ngx = true) (h0
    : Kept M z₀ s) : Kept M z₀ (@State.streamYield s r) := by
  unfold State.streamYield
  split
  · assumption
  · refine ite_kept ?_ ?_
    · assumption
    · refine ite_kept ?_ ?_
      · extract_lets x0 x1
        have k2 : Kept M z₀ x0.2.2 := by
          dsimp -zeta only [x0]
          exact State.fifoWords_kept m_regs m_fab m_cal m_ctx m_pcie m_ngx (by assumption)
        clear_value x0 x1
        exact State.setStream_kept m_mov (by assumption)
      · extract_lets x3
        clear_value x3
        exact State.streamEvent_kept m_regs m_fab m_ctx m_pcie m_ngx (State.bump_kept m_regs (State.streamState_kept m_regs
            m_fab m_mov m_ngx (by assumption)))

theorem State.streamStart_kept {M : Mask} {z₀ : State} {s : State} {r : Nat} (m_regs : M.regs = true) (m_fab : M.fab = true)
    (m_ctx : M.ctx = true) (m_mov : M.mov = true) (m_pcie : M.pcie = true) (m_ngx : M.ngx = true) (h0 : Kept M z₀ s) : Kept M
    z₀ (@State.streamStart s r) := by
  unfold State.streamStart
  split
  · assumption
  · refine ite_kept ?_ ?_
    · assumption
    · extract_lets x0
      have k1 : Kept M z₀ x0 := by
        dsimp -zeta only [x0]
        exact State.streamState_kept m_regs m_fab m_mov m_ngx (by assumption)
      clear_value x0
      refine ite_kept ?_ ?_
      · exact State.streamEvent_kept m_regs m_fab m_ctx m_pcie m_ngx (by assumption)
      · assumption

theorem State.streamPutAt_kept {M : Mask} {z₀ : State} {s : State} {r : Nat} {ws : List Word} {k : Nat} (m_regs : M.regs =
    true) (m_fab : M.fab = true) (m_cal : M.cal = true) (m_ctx : M.ctx = true) (m_mov : M.mov = true) (m_pcie : M.pcie =
    true) (m_ngx : M.ngx = true) (m_calMem : M.calMem = true) (h0 : Kept M z₀ s) : Kept M z₀ (@State.streamPutAt s r ws k) :=
    by
  unfold State.streamPutAt
  split
  · assumption
  · refine ite_kept ?_ ?_
    · assumption
    · refine ite_kept ?_ ?_
      · extract_lets x0
        have k1 : Kept M z₀ x0 := by
          dsimp -zeta only [x0]
          exact State.bump_kept m_regs (by assumption)
        clear_value x0
        refine ite_kept ?_ ?_
        · assumption
        · exact State.streamEvent_kept m_regs m_fab m_ctx m_pcie m_ngx (by assumption)
      · extract_lets x2
        have k3 : Kept M z₀ x2 := by
          dsimp -zeta only [x2]
          exact State.calStore_kept m_regs m_fab m_cal m_ctx m_pcie m_ngx m_calMem (by assumption)
        clear_value x2
        exact State.setStream_kept m_mov (by assumption)

theorem State.streamPut_kept {M : Mask} {z₀ : State} {s : State} {r : Nat} {ws : List Word} (m_regs : M.regs = true) (m_fab :
    M.fab = true) (m_cal : M.cal = true) (m_ctx : M.ctx = true) (m_mov : M.mov = true) (m_pcie : M.pcie = true) (m_ngx :
    M.ngx = true) (m_calMem : M.calMem = true) (h0 : Kept M z₀ s) : Kept M z₀ (@State.streamPut s r ws) := by
  unfold State.streamPut
  exact State.streamPutAt_kept m_regs m_fab m_cal m_ctx m_mov m_pcie m_ngx m_calMem (by assumption)

theorem State.dropBursts_kept {M : Mask} {z₀ : State} {s : State} {r : Nat} (m_fab : M.fab = true) (m_mov : M.mov = true)
    (m_pcie : M.pcie = true) (h0 : Kept M z₀ s) : Kept M z₀ (@State.dropBursts s r) := by
  unfold State.dropBursts
  extract_lets x0
  clear_value x0
  refine foldl_kept ?_ ?_
  · assumption
  · intro v1
    intro v2
    intro v3
    exact State.readsOver_kept m_fab m_pcie (State.setMover_kept m_mov (by assumption))

theorem State.streamClose_kept {M : Mask} {z₀ : State} {s : State} {r : Nat} {by' : Option (Nat × Nat)} {quiet : Bool}
    (m_regs : M.regs = true) (m_fab : M.fab = true) (m_ctx : M.ctx = true) (m_mov : M.mov = true) (m_pcie : M.pcie = true)
    (m_ngx : M.ngx = true) (h0 : Kept M z₀ s) : Kept M z₀ (@State.streamClose s r by' quiet) := by
  unfold State.streamClose
  split
  · assumption
  · extract_lets x0 x1 x2 x3 x4 x5
    clear_value x0 x1 x2 x3 x4
    have k6 : Kept M z₀ x5 := by
      dsimp -zeta only [x5]
      refine ite_kept ?_ ?_
      · assumption
      · exact State.dropBursts_kept m_fab m_mov m_pcie (by assumption)
    clear_value x5
    exact State.streamEnds_kept m_regs m_fab m_ctx m_mov m_pcie m_ngx (State.setStream_kept m_mov (by assumption))

theorem execStreamClose_kept {M : Mask} {z₀ : State} {c : Fin 512} {q : BitVec 32} {s : State} (m_regs : M.regs = true)
    (m_fab : M.fab = true) (m_ctx : M.ctx = true) (m_mov : M.mov = true) (m_pcie : M.pcie = true) (m_ngx : M.ngx = true) (h2
    : Kept M z₀ s) : OutOk M z₀ (@execStreamClose c q s) := by
  unfold execStreamClose
  split
  · split
    · exact OutOk.next (by assumption)
    · split
      · exact OutOk.next (State.finish_kept m_ctx (by assumption))
      · refine ite_ok ?_ ?_
        · exact OutOk.next (State.finish_kept m_ctx (by assumption))
        · exact OutOk.next (State.streamClose_kept m_regs m_fab m_ctx m_mov m_pcie m_ngx (State.grant_kept m_ctx (by
            assumption)))

theorem State.unparkStream_kept {M : Mask} {z₀ : State} {s : State} {r : Nat} (m_regs : M.regs = true) (m_fab : M.fab = true)
    (m_ctx : M.ctx = true) (m_mov : M.mov = true) (m_pcie : M.pcie = true) (m_ngx : M.ngx = true) (h0 : Kept M z₀ s) : Kept M
    z₀ (@State.unparkStream s r) := by
  unfold State.unparkStream
  split
  · assumption
  · refine ite_kept ?_ ?_
    · exact State.streamEvent_kept m_regs m_fab m_ctx m_pcie m_ngx (State.streamState_kept m_regs m_fab m_mov m_ngx (by
        assumption))
    · assumption

theorem State.loseStream_kept {M : Mask} {z₀ : State} {s : State} {r : Nat} (m_regs : M.regs = true) (m_fab : M.fab = true)
    (m_ctx : M.ctx = true) (m_mov : M.mov = true) (m_pcie : M.pcie = true) (m_ngx : M.ngx = true) (h0 : Kept M z₀ s) : Kept M
    z₀ (@State.loseStream s r) := by
  unfold State.loseStream
  split
  · assumption
  · extract_lets x0 x1
    clear_value x0 x1
    exact State.streamClose_kept m_regs m_fab m_ctx m_mov m_pcie m_ngx (State.dropBursts_kept m_fab m_mov m_pcie
        (State.streamEvent_kept m_regs m_fab m_ctx m_pcie m_ngx (State.setStream_kept m_mov (by assumption))))

theorem State.entryFails_kept {M : Mask} {z₀ : State} {s : State} {r : Nat} {i : Nat} {status : Nat} (m_regs : M.regs = true)
    (m_fab : M.fab = true) (m_ctx : M.ctx = true) (m_mov : M.mov = true) (m_pcie : M.pcie = true) (m_ngx : M.ngx = true) (h0
    : Kept M z₀ s) : Kept M z₀ (@State.entryFails s r i status) := by
  unfold State.entryFails
  split
  · assumption
  · extract_lets x0 x1
    clear_value x0 x1
    exact State.streamEvent_kept m_regs m_fab m_ctx m_pcie m_ngx (State.setStream_kept m_mov (by assumption))

theorem State.busFrames_kept {M : Mask} {z₀ : State} {s : State} {m : Nat} {x : Stream} {i : Nat} {n : Nat} {write : Bool}
    (m_fab : M.fab = true) (h0 : Kept M z₀ s) : Kept M z₀ (@State.busFrames s m x i n write) := by
  unfold State.busFrames
  refine forN_kept ?_ ?_
  · assumption
  · intro v0
    intro v1
    intro v2
    exact State.busRange_kept m_fab (by assumption)

theorem State.playArrives_kept {M : Mask} {z₀ : State} {s : State} {r : Nat} {i : Nat} {n : Nat} {d : List Sys2Proof.Byte}
    {since : Nat} (m_regs : M.regs = true) (m_fab : M.fab = true) (m_cal : M.cal = true) (m_ctx : M.ctx = true) (m_mov :
    M.mov = true) (m_pcie : M.pcie = true) (m_ngx : M.ngx = true) (m_calMem : M.calMem = true) (h0 : Kept M z₀ s) : Kept M z₀
    (@State.playArrives s r i n d since) := by
  unfold State.playArrives
  split
  · assumption
  · split
    · assumption
    · refine ite_kept ?_ ?_
      · assumption
      · extract_lets x0 x1 x2
        clear_value x0
        have k3 : Kept M z₀ x1 := by
          dsimp -zeta only [x1]
          refine foldl_kept ?_ ?_
          · assumption
          · intro v4
            intro v5
            intro v6
            exact State.calStore_kept m_regs m_fab m_cal m_ctx m_pcie m_ngx m_calMem (by assumption)
        clear_value x1 x2
        exact State.setStream_kept m_mov (by assumption)

theorem execStreamEntryComplete_kept {M : Mask} {z₀ : State} {r : Fin 4096} {s : State} (m_regs : M.regs = true) (m_fab :
    M.fab = true) (m_ctx : M.ctx = true) (m_mov : M.mov = true) (m_pcie : M.pcie = true) (m_ngx : M.ngx = true) (h1 : Kept M
    z₀ s) : OutOk M z₀ (@execStreamEntryComplete r s) := by
  unfold execStreamEntryComplete
  split
  · exact OutOk.next (by assumption)
  · split
    · exact OutOk.next (State.streamEnds_kept m_regs m_fab m_ctx m_mov m_pcie m_ngx (by assumption))
    · split
      · exact OutOk.next (by assumption)
      · extract_lets x0 x1 x2 x3 x4 x5
        clear_value x0 x1
        have k6 : Kept M z₀ x2 := by
          dsimp -zeta only [x2]
          exact State.setStream_kept m_mov (by assumption)
        clear_value x2
        have k7 : Kept M z₀ x3 := by
          dsimp -zeta only [x3]
          exact State.ringWrite_kept m_fab m_ngx (by assumption)
        clear_value x3
        have k8 : Kept M z₀ x4 := by
          dsimp -zeta only [x4]
          exact State.streamTable_kept m_regs m_fab m_ngx (by assumption)
        clear_value x4
        have k9 : Kept M z₀ x5 := by
          dsimp -zeta only [x5]
          refine ite_kept ?_ ?_
          · exact State.ctxIrq_kept m_fab m_pcie m_ngx (by assumption)
          · assumption
        clear_value x5
        exact OutOk.next (State.streamEnds_kept m_regs m_fab m_ctx m_mov m_pcie m_ngx (by assumption))

theorem State.captureBytes_kept {M : Mask} {z₀ : State} {s : State} {x : Stream} {n : Nat} {m : Nat} (m_regs : M.regs = true)
    (m_fab : M.fab = true) (m_cal : M.cal = true) (m_ctx : M.ctx = true) (m_pcie : M.pcie = true) (m_ngx : M.ngx = true) (h0
    : Kept M z₀ s) : Kept M z₀ (@State.captureBytes s x n m).2.2 := by
  unfold State.captureBytes
  extract_lets x0 x1 x2
  have k3 : Kept M z₀ x0.2.2 := by
    dsimp -zeta only [x0]
    refine foldl_kept3 ?_ ?_
    · assumption
    · intro v4
      intro v5
      intro v6
      extract_lets x7
      have k8 : Kept M z₀ x7.2.2 := by
        dsimp -zeta only [x7]
        exact State.fifoWords_kept m_regs m_fab m_cal m_ctx m_pcie m_ngx (by assumption)
      clear_value x7
      assumption
  clear_value x0 x1 x2
  assumption

theorem State.parkStream_kept {M : Mask} {z₀ : State} {s : State} {r : Nat} (m_regs : M.regs = true) (m_fab : M.fab = true)
    (m_ctx : M.ctx = true) (m_mov : M.mov = true) (m_pcie : M.pcie = true) (m_ngx : M.ngx = true) (h0 : Kept M z₀ s) : Kept M
    z₀ (@State.parkStream s r) := by
  unfold State.parkStream
  split
  · assumption
  · refine ite_kept ?_ ?_
    · assumption
    · extract_lets x0 x1
      have k2 : Kept M z₀ x0 := by
        dsimp -zeta only [x0]
        exact State.dropBursts_kept m_fab m_mov m_pcie (by assumption)
      clear_value x0 x1
      exact State.streamEvent_kept m_regs m_fab m_ctx m_pcie m_ngx (State.streamState_kept m_regs m_fab m_mov m_ngx (by
          assumption))

theorem execStreamOpen_kept {M : Mask} {z₀ : State} {c : Fin 512} {q : BitVec 32} {s : State} (m_regs : M.regs = true) (m_fab
    : M.fab = true) (m_ctx : M.ctx = true) (m_mov : M.mov = true) (m_pcie : M.pcie = true) (m_ngx : M.ngx = true) (h2 : Kept
    M z₀ s) : OutOk M z₀ (@execStreamOpen c q s) := by
  unfold execStreamOpen
  split
  · split
    · exact OutOk.next (by assumption)
    · extract_lets x0 x1
      clear_value x0 x1
      refine ite_ok ?_ ?_
      · exact OutOk.next (State.finish_kept m_ctx (by assumption))
      · refine ite_ok ?_ ?_
        · exact OutOk.next (State.finish_kept m_ctx (by assumption))
        · split
          · exact OutOk.next (State.finish_kept m_ctx (by assumption))
          · refine ite_ok ?_ ?_
            · exact OutOk.next (State.finish_kept m_ctx (by assumption))
            · extract_lets x2
              have k3 : Kept M z₀ x2 := by
                dsimp -zeta only [x2]
                exact State.setStream_kept m_mov (State.grant_kept m_ctx (by assumption))
              clear_value x2
              exact OutOk.next (State.ltrUpdate_kept m_regs m_fab m_pcie (State.setResult_kept m_ctx (State.showUse_kept
                  m_regs (State.showDma_kept m_regs (State.streamTable_kept m_regs m_fab m_ngx (by assumption))))))

end Sys2Proof.Machine
end

