-- ==== Sys2Proof/Laws/KeptContexts.lean ====
section
/-! SUPPORT. What the operations and meanings of Machine/Contexts.lean keep (Laws/Kept.lean). -/

namespace Sys2Proof.Machine

theorem State.unstage_kept {M : Mask} {z₀ : State} {s : State} {c : Nat} {q : Nat} (m_regs : M.regs = true) (m_par : M.par =
    true) (h0 : Kept M z₀ s) : Kept M z₀ (@State.unstage s c q) := by
  unfold State.unstage
  extract_lets x0 x1
  clear_value x0
  have k2 : Kept M z₀ x1 := by
    dsimp -zeta only [x1]
    exact Kept.upPar m_par (by assumption)
  clear_value x1
  refine foldl_kept ?_ ?_
  · assumption
  · intro v3
    intro v4
    intro v5
    refine ite_kept ?_ ?_
    · extract_lets x6 x7 x8
      clear_value x6 x7
      have k9 : Kept M z₀ x8 := by
        dsimp -zeta only [x8]
        exact State.setGroup_kept m_regs m_par (by assumption)
      clear_value x8
      refine ite_kept ?_ ?_
      · exact State.setGroupSt_kept m_regs (by assumption)
      · assumption
    · assumption

theorem State.cancelCommit_kept {M : Mask} {z₀ : State} {s : State} {c : Nat} {q : Nat} {g : Nat} (m_regs : M.regs = true)
    (m_par : M.par = true) (m_ctx : M.ctx = true) (h0 : Kept M z₀ s) : Kept M z₀ (@State.cancelCommit s c q g) := by
  unfold State.cancelCommit
  extract_lets x0 x1
  have k2 : Kept M z₀ x0 := by
    dsimp -zeta only [x0]
    exact State.setBit_kept m_regs (by assumption)
  clear_value x0 x1
  refine ite_kept ?_ ?_
  · exact State.setGroup_kept m_regs m_par (by assumption)
  · exact State.setResult_kept m_ctx (State.setGroupSt_kept m_regs (State.setGroup_kept m_regs m_par (by assumption)))

theorem State.cancelDesc_kept {M : Mask} {z₀ : State} {s : State} {c : Nat} {d : OpenDesc} (m_regs : M.regs = true) (m_eng :
    M.eng = true) (m_par : M.par = true) (m_ctx : M.ctx = true) (m_mov : M.mov = true) (m_ngx : M.ngx = true) (h0 : Kept M z₀
    s) : Kept M z₀ (@State.cancelDesc s c d) := by
  unfold State.cancelDesc
  extract_lets x0 x1 x2 x3 x4 x5
  clear_value x0
  have k6 : Kept M z₀ x1 := by
    dsimp -zeta only [x1]
    refine ite_kept ?_ ?_
    · exact State.withdrawSwap_kept m_regs m_eng (by assumption)
    · assumption
  clear_value x1 x2
  have k7 : Kept M z₀ x3 := by
    dsimp -zeta only [x3]
    exact Kept.upMov m_mov (by assumption)
  clear_value x3 x4
  have k8 : Kept M z₀ x5 := by
    dsimp -zeta only [x5]
    exact Kept.upNgx m_ngx (by assumption)
  clear_value x5
  split
  · exact State.cancelCommit_kept m_regs m_par m_ctx (by assumption)
  · exact State.setResult_kept m_ctx (State.unstage_kept m_regs m_par (by assumption))

theorem execCancel_kept {M : Mask} {z₀ : State} {c : Fin 512} {q : BitVec 32} {s : State} (m_regs : M.regs = true) (m_eng :
    M.eng = true) (m_par : M.par = true) (m_ctx : M.ctx = true) (m_mov : M.mov = true) (m_ngx : M.ngx = true) (h2 : Kept M z₀
    s) : OutOk M z₀ (@execCancel c q s) := by
  unfold execCancel
  split
  · split
    · exact OutOk.next (by assumption)
    · extract_lets x0 x1
      clear_value x0 x1
      refine ite_ok ?_ ?_
      · exact OutOk.next (State.finish_kept m_ctx (by assumption))
      · split
        · exact OutOk.next (State.finish_kept m_ctx (by assumption))
        · refine ite_ok ?_ ?_
          · exact OutOk.next (State.finish_kept m_ctx (by assumption))
          · refine ite_ok ?_ ?_
            · exact OutOk.next (State.finish_kept m_ctx (by assumption))
            · exact OutOk.next (State.finish_kept m_ctx (State.cancelDesc_kept m_regs m_eng m_par m_ctx m_mov m_ngx (by
                assumption)))

theorem State.showCtx_kept {M : Mask} {z₀ : State} {s : State} {c : Nat} (m_regs : M.regs = true) (h0 : Kept M z₀ s) : Kept M
    z₀ (@State.showCtx s c) := by
  unfold State.showCtx
  extract_lets x0 x1
  clear_value x0 x1
  exact State.setFld_kept m_regs (State.setFld_kept m_regs (by assumption))

theorem State.fetchNext_kept {M : Mask} {z₀ : State} {s : State} {c : Nat} (m_fab : M.fab = true) (m_pcie : M.pcie = true)
    (m_ngx : M.ngx = true) (h0 : Kept M z₀ s) : Kept M z₀ (@State.fetchNext s c) := by
  unfold State.fetchNext
  extract_lets x0
  clear_value x0
  refine ite_kept ?_ ?_
  · exact State.ctxRead_kept m_fab m_pcie m_ngx (by assumption)
  · assumption

theorem State.consumer_kept {M : Mask} {z₀ : State} {s : State} {c : Nat} {v : BitVec 32} {evCons : BitVec 32} (m_regs :
    M.regs = true) (m_fab : M.fab = true) (m_ctx : M.ctx = true) (m_pcie : M.pcie = true) (m_ngx : M.ngx = true) (h0 : Kept M
    z₀ s) : Kept M z₀ (@State.consumer s c v evCons) := by
  unfold State.consumer
  extract_lets x0 x1 x2 x3
  clear_value x0 x1 x2 x3
  refine ite_kept ?_ ?_
  · exact State.setBit_kept m_regs (by assumption)
  · exact State.fetchNext_kept m_fab m_pcie m_ngx (State.showCtx_kept m_regs (State.setContext_kept m_ctx (by assumption)))

theorem State.doorbell_kept {M : Mask} {z₀ : State} {s : State} {f : Nat} {page : Nat} {g : Nat → State} (m_pcie : M.pcie =
    true) (h0 : Kept M z₀ s) (h3 : ∀ u0, Kept M z₀ (g u0)) : Kept M z₀ (@State.doorbell s f page g) := by
  unfold State.doorbell
  refine ite_kept ?_ ?_
  · exact State.aer_kept m_pcie (by assumption)
  · split
    · refine ite_kept ?_ ?_
      · apply h3
      · assumption
    · assumption

theorem execCompletionConsumer_kept {M : Mask} {z₀ : State} {f : Fin 64} {page : Fin 512} {v : BitVec 32} {evCons : BitVec
    32} {s : State} (m_regs : M.regs = true) (m_fab : M.fab = true) (m_ctx : M.ctx = true) (m_pcie : M.pcie = true) (m_ngx :
    M.ngx = true) (h4 : Kept M z₀ s) : OutOk M z₀ (@execCompletionConsumer f page v evCons s) := by
  unfold execCompletionConsumer
  refine OutOk.next ?_
  refine State.doorbell_kept m_pcie ?_ ?_
  · assumption
  · intro v0
    refine ite_kept ?_ ?_
    · assumption
    · exact State.consumer_kept m_regs m_fab m_ctx m_pcie m_ngx (by assumption)

theorem State.writeJournal_kept {M : Mask} {z₀ : State} {s : State} {c : Nat} (m_fab : M.fab = true) (m_ctx : M.ctx = true)
    (m_ngx : M.ngx = true) (h0 : Kept M z₀ s) : Kept M z₀ (@State.writeJournal s c) := by
  unfold State.writeJournal
  extract_lets x0 x1 x2
  have k3 : Kept M z₀ x0 := by
    dsimp -zeta only [x0]
    exact State.busRange_kept m_fab (by assumption)
  clear_value x0 x1 x2
  refine ite_kept ?_ ?_
  · exact State.setContext_kept m_ctx (by assumption)
  · exact State.ringWrite_kept m_fab m_ngx (State.setContext_kept m_ctx (by assumption))

theorem State.setCtxState_kept {M : Mask} {z₀ : State} {s : State} {c : Nat} {v : Nat} (m_regs : M.regs = true) (h0 : Kept M
    z₀ s) : Kept M z₀ (@State.setCtxState s c v) := by
  unfold State.setCtxState
  exact State.setFld_kept m_regs (by assumption)

theorem State.maybeDisabled_kept {M : Mask} {z₀ : State} {s : State} {c : Nat} (m_regs : M.regs = true) (m_pcie : M.pcie =
    true) (h0 : Kept M z₀ s) : Kept M z₀ (@State.maybeDisabled s c) := by
  unfold State.maybeDisabled
  extract_lets x0 x1 x2
  clear_value x0
  have k3 : Kept M z₀ x1 := by
    dsimp -zeta only [x1]
    exact State.setBit_kept m_regs (State.setCtxState_kept m_regs (by assumption))
  clear_value x1 x2
  refine ite_kept ?_ ?_
  · exact State.modFn_kept m_pcie (by assumption)
  · assumption

theorem execDescriptorFinish_kept {M : Mask} {z₀ : State} {c : Fin 512} {q : BitVec 32} {s : State} (m_regs : M.regs = true)
    (m_fab : M.fab = true) (m_ctx : M.ctx = true) (m_pcie : M.pcie = true) (m_ngx : M.ngx = true) (h2 : Kept M z₀ s) : OutOk
    M z₀ (@execDescriptorFinish c q s) := by
  unfold execDescriptorFinish
  extract_lets x0 x1
  clear_value x0
  have k2 : Kept M z₀ x1 := by
    dsimp -zeta only [x1]
    exact State.modDesc_kept m_ctx (by assumption)
  clear_value x1
  split
  · exact OutOk.next (by assumption)
  · split
    · exact OutOk.next (by assumption)
    · refine ite_ok ?_ ?_
      · exact OutOk.next (by assumption)
      · extract_lets x3 x4
        clear_value x3
        have k5 : Kept M z₀ x4 := by
          dsimp -zeta only [x4]
          exact State.modContext_kept m_ctx (by assumption)
        clear_value x4
        exact OutOk.next (State.maybeDisabled_kept m_regs m_pcie (State.writeJournal_kept m_fab m_ctx m_ngx (by assumption)))

theorem State.unmapLine_kept {M : Mask} {z₀ : State} {s : State} {n : Nat} {drain : Bool} (m_regs : M.regs = true) (m_eng :
    M.eng = true) (m_fab : M.fab = true) (m_cal : M.cal = true) (m_mov : M.mov = true) (m_pcie : M.pcie = true) (h0 : Kept M
    z₀ s) : Kept M z₀ (@State.unmapLine s n drain) := by
  unfold State.unmapLine
  extract_lets x0 x1
  clear_value x0
  have k3 : ∀ y2, Kept M z₀ y2 → Kept M z₀ (x1 y2) := by
    intro v4
    intro v5
    dsimp -zeta only [x1]
    refine ite_kept ?_ ?_
    · assumption
    · exact State.modEngine_kept m_eng (by assumption)
  clear_value x1
  refine ite_kept ?_ ?_
  · apply k3
    exact State.setLine_kept m_cal (State.setLineSt_kept m_regs (by assumption))
  · refine ite_kept ?_ ?_
    · assumption
    · refine State.lineGone_kept m_regs m_fab m_cal m_mov m_pcie ?_
      refine ite_kept ?_ ?_
      · apply k3
        assumption
      · assumption

theorem State.ctxRej_kept {M : Mask} {z₀ : State} {s : State} {c : Nat} (m_regs : M.regs = true) (h0 : Kept M z₀ s) : Kept M
    z₀ (@State.ctxRej s c) := by
  unfold State.ctxRej
  exact State.setBit_kept m_regs (by assumption)

theorem State.ctxCmdW_kept {M : Mask} {z₀ : State} {s : State} {c : Nat} {op : Nat} {fresh : Bool} (m_regs : M.regs = true)
    (h0 : Kept M z₀ s) : Kept M z₀ (@State.ctxCmdW s c op fresh) := by
  unfold State.ctxCmdW
  exact State.setBit_kept m_regs (State.setFld_kept m_regs (by assumption))

theorem execCtxReset_kept {M : Mask} {z₀ : State} {c : Fin 512} {s : State} (m_regs : M.regs = true) (m_eng : M.eng = true)
    (m_fab : M.fab = true) (m_par : M.par = true) (m_cal : M.cal = true) (m_ctx : M.ctx = true) (m_route : M.route = true)
    (m_mov : M.mov = true) (m_pcie : M.pcie = true) (m_ngx : M.ngx = true) (h1 : Kept M z₀ s) : OutOk M z₀ (@execCtxReset c
    s) := by
  unfold execCtxReset
  extract_lets x0 x1 x2 x3 x4 x5
  clear_value x0
  have k6 : Kept M z₀ x1 := by
    dsimp -zeta only [x1]
    exact State.ctxCmdW_kept m_regs (by assumption)
  clear_value x1
  have k7 : Kept M z₀ x2 := by
    dsimp -zeta only [x2]
    exact State.setXps_kept m_regs m_route (by assumption)
  clear_value x2
  have k8 : Kept M z₀ x3 := by
    dsimp -zeta only [x3]
    refine foldl_kept ?_ ?_
    · assumption
    · intro v9
      intro v10
      intro v11
      split
      · refine ite_kept ?_ ?_
        · exact State.streamClose_kept m_regs m_fab m_ctx m_mov m_pcie m_ngx (by assumption)
        · assumption
      · assumption
  clear_value x3
  have k12 : Kept M z₀ x4 := by
    dsimp -zeta only [x4]
    refine foldl_kept ?_ ?_
    · assumption
    · intro v13
      intro v14
      intro v15
      refine ite_kept ?_ ?_
      · exact State.unmapLine_kept m_regs m_eng m_fab m_cal m_mov m_pcie (by assumption)
      · assumption
  clear_value x4
  have k16 : Kept M z₀ x5 := by
    dsimp -zeta only [x5]
    refine forN_kept ?_ ?_
    · assumption
    · intro v17
      intro v18
      intro v19
      refine ite_kept ?_ ?_
      · exact State.discardGroup_kept m_regs m_eng m_par m_ctx m_route (by assumption)
      · assumption
  clear_value x5
  refine ite_ok ?_ ?_
  · exact OutOk.next (State.ctxRej_kept m_regs (by assumption))
  · exact OutOk.next (State.showCtx_kept m_regs (State.setContext_kept m_ctx (by assumption)))

theorem State.stopCtx_kept {M : Mask} {z₀ : State} {s : State} {c : Nat} (m_regs : M.regs = true) (m_eng : M.eng = true)
    (m_fab : M.fab = true) (m_par : M.par = true) (m_ctx : M.ctx = true) (m_mov : M.mov = true) (m_pcie : M.pcie = true)
    (m_ngx : M.ngx = true) (h0 : Kept M z₀ s) : Kept M z₀ (@State.stopCtx s c) := by
  unfold State.stopCtx
  refine ite_kept ?_ ?_
  · assumption
  · extract_lets x0 x1 x2
    have k3 : Kept M z₀ x0 := by
      dsimp -zeta only [x0]
      exact State.readsOver_kept m_fab m_pcie (State.setCtxState_kept m_regs (by assumption))
    clear_value x0
    have k4 : Kept M z₀ x1 := by
      dsimp -zeta only [x1]
      exact State.modContext_kept m_ctx (by assumption)
    clear_value x1
    have k5 : Kept M z₀ x2 := by
      dsimp -zeta only [x2]
      refine foldl_kept ?_ ?_
      · assumption
      · intro v6
        intro v7
        intro v8
        refine ite_kept ?_ ?_
        · assumption
        · exact State.cancelDesc_kept m_regs m_eng m_par m_ctx m_mov m_ngx (by assumption)
    clear_value x2
    exact State.maybeDisabled_kept m_regs m_pcie (by assumption)

theorem execCtxDisable_kept {M : Mask} {z₀ : State} {c : Fin 512} {s : State} (m_regs : M.regs = true) (m_eng : M.eng = true)
    (m_fab : M.fab = true) (m_par : M.par = true) (m_ctx : M.ctx = true) (m_mov : M.mov = true) (m_pcie : M.pcie = true)
    (m_ngx : M.ngx = true) (h1 : Kept M z₀ s) : OutOk M z₀ (@execCtxDisable c s) := by
  unfold execCtxDisable
  extract_lets x0
  have k1 : Kept M z₀ x0 := by
    dsimp -zeta only [x0]
    exact State.ctxCmdW_kept m_regs (by assumption)
  clear_value x0
  refine OutOk.next ?_
  refine ite_kept ?_ ?_
  · exact State.ctxRej_kept m_regs (by assumption)
  · exact State.stopCtx_kept m_regs m_eng m_fab m_par m_ctx m_mov m_pcie m_ngx (by assumption)

theorem execFence_kept {M : Mask} {z₀ : State} {c : Fin 512} {q : BitVec 32} {s : State} (m_ctx : M.ctx = true) (h2 : Kept M
    z₀ s) : OutOk M z₀ (@execFence c q s) := by
  unfold execFence
  split
  · exact OutOk.next (by assumption)
  · exact OutOk.next (State.finish_kept m_ctx (by assumption))

theorem execNopDesc_kept {M : Mask} {z₀ : State} {c : Fin 512} {q : BitVec 32} {s : State} (m_ctx : M.ctx = true) (h2 : Kept
    M z₀ s) : OutOk M z₀ (@execNopDesc c q s) := by
  unfold execNopDesc
  split
  · exact OutOk.next (by assumption)
  · exact OutOk.next (State.finish_kept m_ctx (by assumption))

theorem execCompletionInterrupt_kept {M : Mask} {z₀ : State} {c : Fin 512} {s : State} (m_fab : M.fab = true) (m_ctx : M.ctx
    = true) (m_pcie : M.pcie = true) (m_ngx : M.ngx = true) (h1 : Kept M z₀ s) : OutOk M z₀ (@execCompletionInterrupt c s) :=
    by
  unfold execCompletionInterrupt
  extract_lets x0 x1 x2 x3
  clear_value x0 x1 x2
  have k4 : Kept M z₀ x3 := by
    dsimp -zeta only [x3]
    exact State.ctxIrq_kept m_fab m_pcie m_ngx (by assumption)
  clear_value x3
  refine ite_ok ?_ ?_
  · exact OutOk.next (by assumption)
  · exact OutOk.next (State.modContext_kept m_ctx (by assumption))

theorem execCompletionRecord_kept {M : Mask} {z₀ : State} {c : Fin 512} {s : State} (m_regs : M.regs = true) (m_fab : M.fab =
    true) (m_ctx : M.ctx = true) (m_pcie : M.pcie = true) (m_ngx : M.ngx = true) (h1 : Kept M z₀ s) : OutOk M z₀
    (@execCompletionRecord c s) := by
  unfold execCompletionRecord
  extract_lets x0 x1 x2
  clear_value x0 x1 x2
  split
  · exact OutOk.next (by assumption)
  · split
    · exact OutOk.next (by assumption)
    · refine ite_ok ?_ ?_
      · exact OutOk.next (by assumption)
      · extract_lets x3 x4 x5
        have k6 : Kept M z₀ x3 := by
          dsimp -zeta only [x3]
          exact State.putRecord_kept m_fab m_ctx m_ngx (by assumption)
        clear_value x3
        have k7 : Kept M z₀ x4 := by
          dsimp -zeta only [x4]
          exact State.modDesc_kept m_ctx (by assumption)
        clear_value x4
        have k8 : Kept M z₀ x5 := by
          dsimp -zeta only [x5]
          exact State.modContext_kept m_ctx (by assumption)
        clear_value x5
        exact OutOk.next (State.maybeDisabled_kept m_regs m_pcie (State.fetchNext_kept m_fab m_pcie m_ngx (State.showCtx_kept
            m_regs (by assumption))))

theorem execFetchRetry_kept {M : Mask} {z₀ : State} {c : Fin 512} {s : State} (m_fab : M.fab = true) (m_ctx : M.ctx = true)
    (m_pcie : M.pcie = true) (m_ngx : M.ngx = true) (h1 : Kept M z₀ s) : OutOk M z₀ (@execFetchRetry c s) := by
  unfold execFetchRetry
  extract_lets x0
  clear_value x0
  split
  · exact OutOk.next (by assumption)
  · refine ite_ok ?_ ?_
    · exact OutOk.next (by assumption)
    · exact OutOk.next (State.fetchNext_kept m_fab m_pcie m_ngx (State.modContext_kept m_ctx (by assumption)))

theorem State.accept_kept {M : Mask} {z₀ : State} {s : State} {c : Nat} {b : BitVec 512} (m_regs : M.regs = true) (m_fab :
    M.fab = true) (m_ctx : M.ctx = true) (m_pcie : M.pcie = true) (m_ngx : M.ngx = true) (m_boot : M.boot = true) (h0 : Kept
    M z₀ s) : Kept M z₀ (@State.accept s c b) := by
  unfold State.accept
  extract_lets x0 x1 x2 x3 x4
  have k5 : Kept M z₀ x0 := by
    dsimp -zeta only [x0]
    exact State.setBit_kept m_regs (by assumption)
  clear_value x0 x1
  have k6 : Kept M z₀ x2 := by
    dsimp -zeta only [x2]
    refine ite_kept ?_ ?_
    · assumption
    · exact State.auditDesc_kept m_regs m_boot (by assumption)
  clear_value x2
  have k7 : Kept M z₀ x3 := by
    dsimp -zeta only [x3]
    refine ite_kept ?_ ?_
    · exact State.setBit_kept m_regs (by assumption)
    · assumption
  clear_value x3
  have k8 : Kept M z₀ x4 := by
    dsimp -zeta only [x4]
    exact State.modContext_kept m_ctx (by assumption)
  clear_value x4
  exact State.fetchNext_kept m_fab m_pcie m_ngx (State.showCtx_kept m_regs (State.writeJournal_kept m_fab m_ctx m_ngx (by
      assumption)))

theorem State.proxyAccept_kept {M : Mask} {z₀ : State} {s : State} {c : Nat} (m_regs : M.regs = true) (m_fab : M.fab = true)
    (m_ctx : M.ctx = true) (m_pcie : M.pcie = true) (m_ngx : M.ngx = true) (m_boot : M.boot = true) (h0 : Kept M z₀ s) : Kept
    M z₀ (@State.proxyAccept s c) := by
  unfold State.proxyAccept
  split
  · assumption
  · refine ite_kept ?_ ?_
    · assumption
    · refine ite_kept ?_ ?_
      · exact State.setBit_kept m_regs (by assumption)
      · exact State.accept_kept m_regs m_fab m_ctx m_pcie m_ngx m_boot (Kept.upNgx m_ngx (by assumption))

theorem execDescriptorAccept_kept {M : Mask} {z₀ : State} {c : Fin 512} {d : Option (BitVec 512)} {s : State} (m_regs :
    M.regs = true) (m_fab : M.fab = true) (m_ctx : M.ctx = true) (m_pcie : M.pcie = true) (m_ngx : M.ngx = true) (m_boot :
    M.boot = true) (h2 : Kept M z₀ s) : OutOk M z₀ (@execDescriptorAccept c d s) := by
  unfold execDescriptorAccept
  extract_lets x0 x1
  clear_value x0
  have k2 : Kept M z₀ x1 := by
    dsimp -zeta only [x1]
    exact State.setBit_kept m_regs (State.readsOver_kept m_fab m_pcie (by assumption))
  clear_value x1
  refine ite_ok ?_ ?_
  · exact OutOk.next (State.proxyAccept_kept m_regs m_fab m_ctx m_pcie m_ngx m_boot (by assumption))
  · refine ite_ok ?_ ?_
    · exact OutOk.next (by assumption)
    · split
      · exact OutOk.next (State.modContext_kept m_ctx (by assumption))
      · refine ite_ok ?_ ?_
        · exact OutOk.next (State.readsOver_kept m_fab m_pcie (by assumption))
        · refine ite_ok ?_ ?_
          · exact OutOk.next (State.setBit_kept m_regs (by assumption))
          · exact OutOk.next (State.accept_kept m_regs m_fab m_ctx m_pcie m_ngx m_boot (State.readsOver_kept m_fab m_pcie (by
              assumption)))

theorem execStreamRingProducer_kept {M : Mask} {z₀ : State} {f : Fin 64} {page : Fin 512} {n : Fin 16} {v : BitVec 32} {es :
    List (BitVec 128)} {s : State} (m_regs : M.regs = true) (m_mov : M.mov = true) (m_pcie : M.pcie = true) (h5 : Kept M z₀
    s) : OutOk M z₀ (@execStreamRingProducer f page n v es s) := by
  unfold execStreamRingProducer
  refine OutOk.next ?_
  refine State.doorbell_kept m_pcie ?_ ?_
  · assumption
  · intro v0
    split
    · assumption
    · refine ite_kept ?_ ?_
      · exact State.setBit_kept m_regs (by assumption)
      · refine ite_kept ?_ ?_
        · assumption
        · exact State.setStream_kept m_mov (by assumption)

theorem execCommandProducer_kept {M : Mask} {z₀ : State} {f : Fin 64} {page : Fin 512} {v : BitVec 32} {s : State} (m_regs :
    M.regs = true) (m_fab : M.fab = true) (m_ctx : M.ctx = true) (m_pcie : M.pcie = true) (m_ngx : M.ngx = true) (h3 : Kept M
    z₀ s) : OutOk M z₀ (@execCommandProducer f page v s) := by
  unfold execCommandProducer
  refine OutOk.next ?_
  refine State.doorbell_kept m_pcie ?_ ?_
  · assumption
  · intro v0
    refine ite_kept ?_ ?_
    · assumption
    · extract_lets x1
      clear_value x1
      refine ite_kept ?_ ?_
      · exact State.setBit_kept m_regs (by assumption)
      · exact State.fetchNext_kept m_fab m_pcie m_ngx (State.setContext_kept m_ctx (by assumption))

theorem State.replayOne_kept {M : Mask} {z₀ : State} {s : State} {c : Nat} {seq : BitVec 32} {tag : BitVec 64} (m_fab : M.fab
    = true) (m_ctx : M.ctx = true) (m_ngx : M.ngx = true) (h0 : Kept M z₀ s) : Kept M z₀ (@State.replayOne s c seq tag) := by
  unfold State.replayOne
  extract_lets x0 x1 x2 x3 x4
  clear_value x0 x1 x2 x3
  have k5 : Kept M z₀ x4 := by
    dsimp -zeta only [x4]
    exact State.putRecord_kept m_fab m_ctx m_ngx (by assumption)
  clear_value x4
  exact State.modContext_kept m_ctx (by assumption)

theorem execCtxEnable_kept {M : Mask} {z₀ : State} {c : Fin 512} {fresh : Bool} {a : BitVec 1024} {b : BitVec 1024} {host :
    BitVec 160} {tags : List (BitVec 64)} {ok : Bool} {s : State} (m_regs : M.regs = true) (m_fab : M.fab = true) (m_ctx :
    M.ctx = true) (m_ngx : M.ngx = true) (h7 : Kept M z₀ s) : OutOk M z₀ (@execCtxEnable c fresh a b host tags ok s) := by
  unfold execCtxEnable
  extract_lets x0 x1 x2 x3 x4
  clear_value x0
  have k5 : Kept M z₀ x1 := by
    dsimp -zeta only [x1]
    exact State.ctxCmdW_kept m_regs (by assumption)
  clear_value x1 x2
  have k6 : Kept M z₀ x3 := by
    dsimp -zeta only [x3]
    exact State.setContext_kept m_ctx (by assumption)
  clear_value x3 x4
  refine ite_ok ?_ ?_
  · exact OutOk.next (State.ctxRej_kept m_regs (by assumption))
  · refine ite_ok ?_ ?_
    · exact OutOk.next (State.ctxRej_kept m_regs (State.setBit_kept m_regs (by assumption)))
    · split
      · exact OutOk.next (State.ctxRej_kept m_regs (State.setBit_kept m_regs (by assumption)))
      · exact OutOk.next (State.ctxRej_kept m_regs (by assumption))
      · exact OutOk.next (State.showCtx_kept m_regs (State.setCtxState_kept m_regs (State.writeJournal_kept m_fab m_ctx m_ngx
          (by assumption))))
      · extract_lets x7 x8 x9 x10 x11
        clear_value x7 x8 x9
        have k12 : Kept M z₀ x10 := by
          dsimp -zeta only [x10]
          exact State.setContext_kept m_ctx (by assumption)
        clear_value x10
        have k13 : Kept M z₀ x11 := by
          dsimp -zeta only [x11]
          refine forN_kept ?_ ?_
          · assumption
          · intro v14
            intro v15
            intro v16
            exact State.replayOne_kept m_fab m_ctx m_ngx (by assumption)
        clear_value x11
        exact OutOk.next (State.showCtx_kept m_regs (State.setCtxState_kept m_regs (State.writeJournal_kept m_fab m_ctx m_ngx
            (by assumption))))

end Sys2Proof.Machine
end

