-- ==== Sys2Proof/Laws/Regs.lean ====
section
/-! SUPPORT. Laws of bit fields and of the stored registers: what a field, a bit or a register reads as after a write. -/

namespace Sys2Proof

/-- A bit of a field. -/
theorem testBit_fld {n : Nat} (w : BitVec n) (lo len i : Nat) :
    (fld w lo len).testBit i = (decide (i < len) && w.getLsbD (lo + i)) := by
  simp only [fld, Nat.testBit_mod_two_pow, Nat.testBit_div_two_pow, BitVec.getLsbD]
  rw [Nat.add_comm]

theorem getLsbD_fmask (lo len i : Nat) (hi : i < 32) : (fmask lo len).getLsbD i = (decide (lo ≤ i) && decide (i < lo + len)) := by
  simp only [fmask, BitVec.getLsbD_ofNat, hi, decide_true, Bool.true_and, Nat.testBit_mul_two_pow, Nat.testBit_two_pow_sub_one]
  by_cases h : lo ≤ i <;> simp [h]
  omega

theorem getLsbD_putFld (w : Word) (lo len v i : Nat) (hi : i < 32) :
    (putFld w lo len v).getLsbD i = if lo ≤ i ∧ i < lo + len then v.testBit (i - lo) else w.getLsbD i := by
  simp only [putFld, BitVec.getLsbD_or, BitVec.getLsbD_and, BitVec.getLsbD_not, getLsbD_fmask lo len i hi,
    BitVec.getLsbD_ofNat, hi, decide_true, Bool.true_and, Nat.testBit_mul_two_pow, Nat.testBit_mod_two_pow]
  by_cases h1 : lo ≤ i <;> by_cases h2 : i < lo + len <;> simp [h1, h2]
  · intro h
    omega
  · intro h
    omega

/-- A field reads as what was written to it. -/
theorem fld_putFld_same (w : Word) (lo len v : Nat) (h : lo + len ≤ 32) : fld (putFld w lo len v) lo len = v % 2 ^ len := by
  apply Nat.eq_of_testBit_eq
  intro i
  rw [testBit_fld, Nat.testBit_mod_two_pow]
  by_cases hi : i < len
  · rw [getLsbD_putFld _ _ _ _ _ (by omega), if_pos (by omega)]
    simp
  · simp [hi]

/-- A write of a field leaves every field beside it alone. -/
theorem fld_putFld_other (w : Word) (lo len v lo' len' : Nat) (h : lo' + len' ≤ lo ∨ lo + len ≤ lo') :
    fld (putFld w lo len v) lo' len' = fld w lo' len' := by
  apply Nat.eq_of_testBit_eq
  intro i
  rw [testBit_fld, testBit_fld]
  by_cases hi : i < len'
  · by_cases h32 : lo' + i < 32
    · rw [getLsbD_putFld _ _ _ _ _ h32, if_neg (by omega)]
    · rw [BitVec.getLsbD_of_ge _ _ (by omega), BitVec.getLsbD_of_ge _ _ (by omega)]
  · simp [hi]

theorem bit_putFld_other (w : Word) (lo len v b : Nat) (h : b < lo ∨ lo + len ≤ b) : bit (putFld w lo len v) b = bit w b := by
  unfold bit
  by_cases h32 : b < 32
  · rw [getLsbD_putFld _ _ _ _ _ h32, if_neg (by omega)]
  · rw [BitVec.getLsbD_of_ge _ _ (by omega), BitVec.getLsbD_of_ge _ _ (by omega)]

theorem bit_putFld_same (w : Word) (lo len v b : Nat) (h : lo ≤ b) (h' : b < lo + len) (h32 : b < 32) :
    bit (putFld w lo len v) b = v.testBit (b - lo) := by
  unfold bit
  rw [getLsbD_putFld _ _ _ _ _ h32, if_pos (by omega)]

@[simp] theorem bit_putBit (w : Word) (b : Nat) (v : Bool) (b' : Nat) (h : b < 32) :
    bit (putBit w b v) b' = if b' = b then v else bit w b' := by
  unfold putBit
  by_cases hb : b' = b
  · subst hb
    rw [bit_putFld_same _ _ _ _ _ (Nat.le_refl _) (by omega) h, if_pos rfl]
    cases v <;> simp
  · rw [bit_putFld_other _ _ _ _ _ (by omega), if_neg hb]

theorem fld_putBit (w : Word) (b : Nat) (v : Bool) (lo len : Nat) (h : lo + len ≤ b ∨ b < lo) :
    fld (putBit w b v) lo len = fld w lo len := fld_putFld_other _ _ _ _ _ _ (by omega)

namespace Machine

theorem State.reg_setReg (s : State) (a : Nat) (v : Word) (b : Nat) : (s.setReg a v).reg b = if b = a then v else s.reg b :=
  SMap.get_set ..

@[simp] theorem State.reg_setReg_same (s : State) (a : Nat) (v : Word) : (s.setReg a v).reg a = v := by simp [State.reg_setReg]

theorem State.reg_setReg_other (s : State) {a b : Nat} (v : Word) (h : b ≠ a) : (s.setReg a v).reg b = s.reg b := by
  simp [State.reg_setReg, h]

theorem State.reg_setFld (s : State) (a lo len v b : Nat) :
    (s.setFld a lo len v).reg b = if b = a then putFld (s.reg a) lo len v else s.reg b := State.reg_setReg ..

theorem State.reg_setBit (s : State) (a k : Nat) (v : Bool) (b : Nat) :
    (s.setBit a k v).reg b = if b = a then putBit (s.reg a) k v else s.reg b := State.reg_setReg ..

theorem State.rfld_setFld_same (s : State) (a lo len v : Nat) (h : lo + len ≤ 32) :
    (s.setFld a lo len v).rfld a lo len = v % 2 ^ len := by
  simp [State.rfld, State.reg_setFld, fld_putFld_same _ _ _ _ h]

theorem State.rbit_setBit_same (s : State) (a k : Nat) (v : Bool) (h : k < 32) : (s.setBit a k v).rbit a k = v := by
  simp [State.rbit, State.reg_setBit, h]

/-- A row's registers lie within its extent. -/
theorem RegDesc.holds_span {d : RegDesc} {off : Nat} (h : d.holds off = true) :
    d.base ≤ off ∧ off ≤ d.base + d.n1 * d.s1 + d.n2 * d.s2 := by
  unfold RegDesc.holds at h
  split at h
  · cases h
  · simp only [Bool.and_eq_true, decide_eq_true_eq] at h
    generalize hk : off - d.base = k at h
    obtain ⟨⟨h1, h2⟩, h3⟩ := h
    have key : ∀ (m s n : Nat), (if s = 0 then 0 else m / s) < n → m ≤ n * s + (if s = 0 then m else m % s) := by
      intro m s n hn
      by_cases hs : s = 0
      · simp [hs]
      · simp only [hs, if_false] at hn ⊢
        have a := Nat.div_add_mod m s
        have b := Nat.mul_le_mul_left s (Nat.le_of_lt hn)
        rw [Nat.mul_comm s n] at b
        omega
    have a := key _ _ _ h1
    have b := key _ _ _ h2
    omega

/-- The reset value is 0 throughout a range in which no row and no exception gives another. -/
theorem regReset_zero {lo hi off : Nat} (h1 : lo ≤ off) (h2 : off < hi)
    (h : (regTable.all fun d => d.rst == 0 || decide (hi ≤ d.base) || decide (d.base + d.n1 * d.s1 + d.n2 * d.s2 < lo)) &&
      (regSpecial.all fun p => decide (p.1 < lo) || decide (hi ≤ p.1)) = true) : regReset off = 0 := by
  simp only [Bool.and_eq_true, List.all_eq_true, Bool.or_eq_true, decide_eq_true_eq, beq_iff_eq] at h
  unfold regReset
  split
  · rename_i p hp
    have := List.find?_some hp
    have := h.2 p (List.mem_of_find?_eq_some hp)
    simp at *; omega
  · split
    · rename_i d hd
      unfold regAt at hd
      have hs := RegDesc.holds_span (List.find?_some (p := fun (x : RegDesc) => x.holds off) hd)
      obtain (h | h) | h := h.1 d (List.mem_of_find?_eq_some hd)
      · exact h
      · omega
      · omega
    · rfl

end Machine
end Sys2Proof
end

