-- ==== Sys2Proof/Laws/State.lean ====
section
/-! SUPPORT. The update laws of the state: what each basic update leaves alone, field by field, and what the observers read
after it. -/

namespace Sys2Proof.Machine

@[simp] theorem State.setReg_fields (s : State) (o : Nat) (v : Word) :
    (s.setReg o v).pending = s.pending ∧ (s.setReg o v).now = s.now ∧ (s.setReg o v).freeCtr = s.freeCtr ∧
    (s.setReg o v).latches = s.latches ∧ (s.setReg o v).rdata = s.rdata ∧ (s.setReg o v).eng = s.eng ∧
    (s.setReg o v).chainNow = s.chainNow ∧ (s.setReg o v).chainId = s.chainId ∧ (s.setReg o v).chainFrz = s.chainFrz ∧
    (s.setReg o v).chainTorn = s.chainTorn ∧ (s.setReg o v).chainIn = s.chainIn ∧ (s.setReg o v).fab = s.fab ∧
    (s.setReg o v).tick = s.tick ∧ (s.setReg o v).par = s.par ∧ (s.setReg o v).cal = s.cal ∧ (s.setReg o v).res = s.res ∧
    (s.setReg o v).ctx = s.ctx ∧ (s.setReg o v).mode = s.mode ∧ (s.setReg o v).route = s.route ∧ (s.setReg o v).mov = s.mov ∧
    (s.setReg o v).port = s.port ∧ (s.setReg o v).pcie = s.pcie ∧ (s.setReg o v).clk = s.clk ∧ (s.setReg o v).keep = s.keep ∧
    (s.setReg o v).pwr = s.pwr ∧ (s.setReg o v).ngx = s.ngx ∧ (s.setReg o v).boot = s.boot ∧ (s.setReg o v).spim = s.spim ∧
    (s.setReg o v).spis = s.spis ∧ (s.setReg o v).test = s.test ∧ (s.setReg o v).tap = s.tap ∧
    (s.setReg o v).gpio = s.gpio := by
  refine ⟨rfl, rfl, rfl, rfl, rfl, rfl, rfl, rfl, rfl, rfl, rfl, rfl, rfl, rfl, rfl, rfl, rfl, rfl, rfl, rfl, rfl, rfl, rfl, rfl, rfl, rfl, rfl, rfl, rfl, rfl, rfl, rfl⟩

@[simp] theorem State.engine_setReg (s : State) (o : Nat) (v : Word) (i : Nat) : (s.setReg o v).engine i = s.engine i := rfl

@[simp] theorem State.context_setReg (s : State) (o : Nat) (v : Word) (i : Nat) : (s.setReg o v).context i = s.context i := rfl

@[simp] theorem State.stream_setReg (s : State) (o : Nat) (v : Word) (i : Nat) : (s.setReg o v).stream i = s.stream i := rfl

@[simp] theorem State.setReg64_fields (s : State) (o v : Nat) :
    (s.setReg64 o v).pending = s.pending ∧ (s.setReg64 o v).now = s.now ∧ (s.setReg64 o v).freeCtr = s.freeCtr ∧
    (s.setReg64 o v).latches = s.latches ∧ (s.setReg64 o v).rdata = s.rdata ∧ (s.setReg64 o v).eng = s.eng ∧
    (s.setReg64 o v).chainNow = s.chainNow ∧ (s.setReg64 o v).chainId = s.chainId ∧ (s.setReg64 o v).chainFrz = s.chainFrz ∧
    (s.setReg64 o v).chainTorn = s.chainTorn ∧ (s.setReg64 o v).chainIn = s.chainIn ∧ (s.setReg64 o v).fab = s.fab ∧
    (s.setReg64 o v).tick = s.tick ∧ (s.setReg64 o v).par = s.par ∧ (s.setReg64 o v).cal = s.cal ∧
    (s.setReg64 o v).res = s.res ∧ (s.setReg64 o v).ctx = s.ctx ∧ (s.setReg64 o v).mode = s.mode ∧
    (s.setReg64 o v).route = s.route ∧ (s.setReg64 o v).mov = s.mov ∧ (s.setReg64 o v).port = s.port ∧
    (s.setReg64 o v).pcie = s.pcie ∧ (s.setReg64 o v).clk = s.clk ∧ (s.setReg64 o v).keep = s.keep ∧
    (s.setReg64 o v).pwr = s.pwr ∧ (s.setReg64 o v).ngx = s.ngx ∧ (s.setReg64 o v).boot = s.boot ∧
    (s.setReg64 o v).spim = s.spim ∧ (s.setReg64 o v).spis = s.spis ∧ (s.setReg64 o v).test = s.test ∧
    (s.setReg64 o v).tap = s.tap ∧ (s.setReg64 o v).gpio = s.gpio := by
  refine ⟨rfl, rfl, rfl, rfl, rfl, rfl, rfl, rfl, rfl, rfl, rfl, rfl, rfl, rfl, rfl, rfl, rfl, rfl, rfl, rfl, rfl, rfl, rfl, rfl, rfl, rfl, rfl, rfl, rfl, rfl, rfl, rfl⟩

@[simp] theorem State.engine_setReg64 (s : State) (o v : Nat) (i : Nat) : (s.setReg64 o v).engine i = s.engine i := rfl

@[simp] theorem State.context_setReg64 (s : State) (o v : Nat) (i : Nat) : (s.setReg64 o v).context i = s.context i := rfl

@[simp] theorem State.stream_setReg64 (s : State) (o v : Nat) (i : Nat) : (s.setReg64 o v).stream i = s.stream i := rfl

@[simp] theorem State.setFld_fields (s : State) (o lo len v : Nat) :
    (s.setFld o lo len v).pending = s.pending ∧ (s.setFld o lo len v).now = s.now ∧
    (s.setFld o lo len v).freeCtr = s.freeCtr ∧ (s.setFld o lo len v).latches = s.latches ∧
    (s.setFld o lo len v).rdata = s.rdata ∧ (s.setFld o lo len v).eng = s.eng ∧ (s.setFld o lo len v).chainNow = s.chainNow ∧
    (s.setFld o lo len v).chainId = s.chainId ∧ (s.setFld o lo len v).chainFrz = s.chainFrz ∧
    (s.setFld o lo len v).chainTorn = s.chainTorn ∧ (s.setFld o lo len v).chainIn = s.chainIn ∧
    (s.setFld o lo len v).fab = s.fab ∧ (s.setFld o lo len v).tick = s.tick ∧ (s.setFld o lo len v).par = s.par ∧
    (s.setFld o lo len v).cal = s.cal ∧ (s.setFld o lo len v).res = s.res ∧ (s.setFld o lo len v).ctx = s.ctx ∧
    (s.setFld o lo len v).mode = s.mode ∧ (s.setFld o lo len v).route = s.route ∧ (s.setFld o lo len v).mov = s.mov ∧
    (s.setFld o lo len v).port = s.port ∧ (s.setFld o lo len v).pcie = s.pcie ∧ (s.setFld o lo len v).clk = s.clk ∧
    (s.setFld o lo len v).keep = s.keep ∧ (s.setFld o lo len v).pwr = s.pwr ∧ (s.setFld o lo len v).ngx = s.ngx ∧
    (s.setFld o lo len v).boot = s.boot ∧ (s.setFld o lo len v).spim = s.spim ∧ (s.setFld o lo len v).spis = s.spis ∧
    (s.setFld o lo len v).test = s.test ∧ (s.setFld o lo len v).tap = s.tap ∧ (s.setFld o lo len v).gpio = s.gpio := by
  refine ⟨rfl, rfl, rfl, rfl, rfl, rfl, rfl, rfl, rfl, rfl, rfl, rfl, rfl, rfl, rfl, rfl, rfl, rfl, rfl, rfl, rfl, rfl, rfl, rfl, rfl, rfl, rfl, rfl, rfl, rfl, rfl, rfl⟩

@[simp] theorem State.engine_setFld (s : State) (o lo len v : Nat) (i : Nat) : (s.setFld o lo len v).engine i = s.engine i := rfl

@[simp] theorem State.context_setFld (s : State) (o lo len v : Nat) (i : Nat) : (s.setFld o lo len v).context i = s.context i := rfl

@[simp] theorem State.stream_setFld (s : State) (o lo len v : Nat) (i : Nat) : (s.setFld o lo len v).stream i = s.stream i := rfl

@[simp] theorem State.setBit_fields (s : State) (o b : Nat) (v : Bool) :
    (s.setBit o b v).pending = s.pending ∧ (s.setBit o b v).now = s.now ∧ (s.setBit o b v).freeCtr = s.freeCtr ∧
    (s.setBit o b v).latches = s.latches ∧ (s.setBit o b v).rdata = s.rdata ∧ (s.setBit o b v).eng = s.eng ∧
    (s.setBit o b v).chainNow = s.chainNow ∧ (s.setBit o b v).chainId = s.chainId ∧ (s.setBit o b v).chainFrz = s.chainFrz ∧
    (s.setBit o b v).chainTorn = s.chainTorn ∧ (s.setBit o b v).chainIn = s.chainIn ∧ (s.setBit o b v).fab = s.fab ∧
    (s.setBit o b v).tick = s.tick ∧ (s.setBit o b v).par = s.par ∧ (s.setBit o b v).cal = s.cal ∧
    (s.setBit o b v).res = s.res ∧ (s.setBit o b v).ctx = s.ctx ∧ (s.setBit o b v).mode = s.mode ∧
    (s.setBit o b v).route = s.route ∧ (s.setBit o b v).mov = s.mov ∧ (s.setBit o b v).port = s.port ∧
    (s.setBit o b v).pcie = s.pcie ∧ (s.setBit o b v).clk = s.clk ∧ (s.setBit o b v).keep = s.keep ∧
    (s.setBit o b v).pwr = s.pwr ∧ (s.setBit o b v).ngx = s.ngx ∧ (s.setBit o b v).boot = s.boot ∧
    (s.setBit o b v).spim = s.spim ∧ (s.setBit o b v).spis = s.spis ∧ (s.setBit o b v).test = s.test ∧
    (s.setBit o b v).tap = s.tap ∧ (s.setBit o b v).gpio = s.gpio := by
  refine ⟨rfl, rfl, rfl, rfl, rfl, rfl, rfl, rfl, rfl, rfl, rfl, rfl, rfl, rfl, rfl, rfl, rfl, rfl, rfl, rfl, rfl, rfl, rfl, rfl, rfl, rfl, rfl, rfl, rfl, rfl, rfl, rfl⟩

@[simp] theorem State.engine_setBit (s : State) (o b : Nat) (v : Bool) (i : Nat) : (s.setBit o b v).engine i = s.engine i := rfl

@[simp] theorem State.context_setBit (s : State) (o b : Nat) (v : Bool) (i : Nat) : (s.setBit o b v).context i = s.context i := rfl

@[simp] theorem State.stream_setBit (s : State) (o b : Nat) (v : Bool) (i : Nat) : (s.setBit o b v).stream i = s.stream i := rfl

@[simp] theorem State.bump_fields (s : State) (o lo len : Nat) :
    (s.bump o lo len).pending = s.pending ∧ (s.bump o lo len).now = s.now ∧ (s.bump o lo len).freeCtr = s.freeCtr ∧
    (s.bump o lo len).latches = s.latches ∧ (s.bump o lo len).rdata = s.rdata ∧ (s.bump o lo len).eng = s.eng ∧
    (s.bump o lo len).chainNow = s.chainNow ∧ (s.bump o lo len).chainId = s.chainId ∧
    (s.bump o lo len).chainFrz = s.chainFrz ∧ (s.bump o lo len).chainTorn = s.chainTorn ∧
    (s.bump o lo len).chainIn = s.chainIn ∧ (s.bump o lo len).fab = s.fab ∧ (s.bump o lo len).tick = s.tick ∧
    (s.bump o lo len).par = s.par ∧ (s.bump o lo len).cal = s.cal ∧ (s.bump o lo len).res = s.res ∧
    (s.bump o lo len).ctx = s.ctx ∧ (s.bump o lo len).mode = s.mode ∧ (s.bump o lo len).route = s.route ∧
    (s.bump o lo len).mov = s.mov ∧ (s.bump o lo len).port = s.port ∧ (s.bump o lo len).pcie = s.pcie ∧
    (s.bump o lo len).clk = s.clk ∧ (s.bump o lo len).keep = s.keep ∧ (s.bump o lo len).pwr = s.pwr ∧
    (s.bump o lo len).ngx = s.ngx ∧ (s.bump o lo len).boot = s.boot ∧ (s.bump o lo len).spim = s.spim ∧
    (s.bump o lo len).spis = s.spis ∧ (s.bump o lo len).test = s.test ∧ (s.bump o lo len).tap = s.tap ∧
    (s.bump o lo len).gpio = s.gpio := by
  refine ⟨rfl, rfl, rfl, rfl, rfl, rfl, rfl, rfl, rfl, rfl, rfl, rfl, rfl, rfl, rfl, rfl, rfl, rfl, rfl, rfl, rfl, rfl, rfl, rfl, rfl, rfl, rfl, rfl, rfl, rfl, rfl, rfl⟩

@[simp] theorem State.engine_bump (s : State) (o lo len : Nat) (i : Nat) : (s.bump o lo len).engine i = s.engine i := rfl

@[simp] theorem State.context_bump (s : State) (o lo len : Nat) (i : Nat) : (s.bump o lo len).context i = s.context i := rfl

@[simp] theorem State.stream_bump (s : State) (o lo len : Nat) (i : Nat) : (s.bump o lo len).stream i = s.stream i := rfl

@[simp] theorem State.bumpBy_fields (s : State) (o lo len k : Nat) :
    (s.bumpBy o lo len k).pending = s.pending ∧ (s.bumpBy o lo len k).now = s.now ∧
    (s.bumpBy o lo len k).freeCtr = s.freeCtr ∧ (s.bumpBy o lo len k).latches = s.latches ∧
    (s.bumpBy o lo len k).rdata = s.rdata ∧ (s.bumpBy o lo len k).eng = s.eng ∧ (s.bumpBy o lo len k).chainNow = s.chainNow ∧
    (s.bumpBy o lo len k).chainId = s.chainId ∧ (s.bumpBy o lo len k).chainFrz = s.chainFrz ∧
    (s.bumpBy o lo len k).chainTorn = s.chainTorn ∧ (s.bumpBy o lo len k).chainIn = s.chainIn ∧
    (s.bumpBy o lo len k).fab = s.fab ∧ (s.bumpBy o lo len k).tick = s.tick ∧ (s.bumpBy o lo len k).par = s.par ∧
    (s.bumpBy o lo len k).cal = s.cal ∧ (s.bumpBy o lo len k).res = s.res ∧ (s.bumpBy o lo len k).ctx = s.ctx ∧
    (s.bumpBy o lo len k).mode = s.mode ∧ (s.bumpBy o lo len k).route = s.route ∧ (s.bumpBy o lo len k).mov = s.mov ∧
    (s.bumpBy o lo len k).port = s.port ∧ (s.bumpBy o lo len k).pcie = s.pcie ∧ (s.bumpBy o lo len k).clk = s.clk ∧
    (s.bumpBy o lo len k).keep = s.keep ∧ (s.bumpBy o lo len k).pwr = s.pwr ∧ (s.bumpBy o lo len k).ngx = s.ngx ∧
    (s.bumpBy o lo len k).boot = s.boot ∧ (s.bumpBy o lo len k).spim = s.spim ∧ (s.bumpBy o lo len k).spis = s.spis ∧
    (s.bumpBy o lo len k).test = s.test ∧ (s.bumpBy o lo len k).tap = s.tap ∧ (s.bumpBy o lo len k).gpio = s.gpio := by
  refine ⟨rfl, rfl, rfl, rfl, rfl, rfl, rfl, rfl, rfl, rfl, rfl, rfl, rfl, rfl, rfl, rfl, rfl, rfl, rfl, rfl, rfl, rfl, rfl, rfl, rfl, rfl, rfl, rfl, rfl, rfl, rfl, rfl⟩

@[simp] theorem State.engine_bumpBy (s : State) (o lo len k : Nat) (i : Nat) : (s.bumpBy o lo len k).engine i = s.engine i := rfl

@[simp] theorem State.context_bumpBy (s : State) (o lo len k : Nat) (i : Nat) : (s.bumpBy o lo len k).context i = s.context i := rfl

@[simp] theorem State.stream_bumpBy (s : State) (o lo len k : Nat) (i : Nat) : (s.bumpBy o lo len k).stream i = s.stream i := rfl

@[simp] theorem State.hwm_fields (s : State) (o lo len v : Nat) :
    (s.hwm o lo len v).pending = s.pending ∧ (s.hwm o lo len v).now = s.now ∧ (s.hwm o lo len v).freeCtr = s.freeCtr ∧
    (s.hwm o lo len v).latches = s.latches ∧ (s.hwm o lo len v).rdata = s.rdata ∧ (s.hwm o lo len v).eng = s.eng ∧
    (s.hwm o lo len v).chainNow = s.chainNow ∧ (s.hwm o lo len v).chainId = s.chainId ∧
    (s.hwm o lo len v).chainFrz = s.chainFrz ∧ (s.hwm o lo len v).chainTorn = s.chainTorn ∧
    (s.hwm o lo len v).chainIn = s.chainIn ∧ (s.hwm o lo len v).fab = s.fab ∧ (s.hwm o lo len v).tick = s.tick ∧
    (s.hwm o lo len v).par = s.par ∧ (s.hwm o lo len v).cal = s.cal ∧ (s.hwm o lo len v).res = s.res ∧
    (s.hwm o lo len v).ctx = s.ctx ∧ (s.hwm o lo len v).mode = s.mode ∧ (s.hwm o lo len v).route = s.route ∧
    (s.hwm o lo len v).mov = s.mov ∧ (s.hwm o lo len v).port = s.port ∧ (s.hwm o lo len v).pcie = s.pcie ∧
    (s.hwm o lo len v).clk = s.clk ∧ (s.hwm o lo len v).keep = s.keep ∧ (s.hwm o lo len v).pwr = s.pwr ∧
    (s.hwm o lo len v).ngx = s.ngx ∧ (s.hwm o lo len v).boot = s.boot ∧ (s.hwm o lo len v).spim = s.spim ∧
    (s.hwm o lo len v).spis = s.spis ∧ (s.hwm o lo len v).test = s.test ∧ (s.hwm o lo len v).tap = s.tap ∧
    (s.hwm o lo len v).gpio = s.gpio := by
  refine ⟨rfl, rfl, rfl, rfl, rfl, rfl, rfl, rfl, rfl, rfl, rfl, rfl, rfl, rfl, rfl, rfl, rfl, rfl, rfl, rfl, rfl, rfl, rfl, rfl, rfl, rfl, rfl, rfl, rfl, rfl, rfl, rfl⟩

@[simp] theorem State.engine_hwm (s : State) (o lo len v : Nat) (i : Nat) : (s.hwm o lo len v).engine i = s.engine i := rfl

@[simp] theorem State.context_hwm (s : State) (o lo len v : Nat) (i : Nat) : (s.hwm o lo len v).context i = s.context i := rfl

@[simp] theorem State.stream_hwm (s : State) (o lo len v : Nat) (i : Nat) : (s.hwm o lo len v).stream i = s.stream i := rfl

@[simp] theorem State.count_fields (s : State) (o lo len : Nat) :
    (s.count o lo len).pending = s.pending ∧ (s.count o lo len).now = s.now ∧ (s.count o lo len).freeCtr = s.freeCtr ∧
    (s.count o lo len).latches = s.latches ∧ (s.count o lo len).rdata = s.rdata ∧ (s.count o lo len).eng = s.eng ∧
    (s.count o lo len).chainNow = s.chainNow ∧ (s.count o lo len).chainId = s.chainId ∧
    (s.count o lo len).chainFrz = s.chainFrz ∧ (s.count o lo len).chainTorn = s.chainTorn ∧
    (s.count o lo len).chainIn = s.chainIn ∧ (s.count o lo len).fab = s.fab ∧ (s.count o lo len).tick = s.tick ∧
    (s.count o lo len).par = s.par ∧ (s.count o lo len).cal = s.cal ∧ (s.count o lo len).res = s.res ∧
    (s.count o lo len).ctx = s.ctx ∧ (s.count o lo len).mode = s.mode ∧ (s.count o lo len).route = s.route ∧
    (s.count o lo len).mov = s.mov ∧ (s.count o lo len).port = s.port ∧ (s.count o lo len).pcie = s.pcie ∧
    (s.count o lo len).clk = s.clk ∧ (s.count o lo len).keep = s.keep ∧ (s.count o lo len).pwr = s.pwr ∧
    (s.count o lo len).ngx = s.ngx ∧ (s.count o lo len).boot = s.boot ∧ (s.count o lo len).spim = s.spim ∧
    (s.count o lo len).spis = s.spis ∧ (s.count o lo len).test = s.test ∧ (s.count o lo len).tap = s.tap ∧
    (s.count o lo len).gpio = s.gpio := by
  refine ⟨rfl, rfl, rfl, rfl, rfl, rfl, rfl, rfl, rfl, rfl, rfl, rfl, rfl, rfl, rfl, rfl, rfl, rfl, rfl, rfl, rfl, rfl, rfl, rfl, rfl, rfl, rfl, rfl, rfl, rfl, rfl, rfl⟩

@[simp] theorem State.engine_count (s : State) (o lo len : Nat) (i : Nat) : (s.count o lo len).engine i = s.engine i := rfl

@[simp] theorem State.context_count (s : State) (o lo len : Nat) (i : Nat) : (s.count o lo len).context i = s.context i := rfl

@[simp] theorem State.stream_count (s : State) (o lo len : Nat) (i : Nat) : (s.count o lo len).stream i = s.stream i := rfl

@[simp] theorem State.setEngine_fields (s : State) (e : Nat) (x : Engine) :
    (s.setEngine e x).pending = s.pending ∧ (s.setEngine e x).now = s.now ∧ (s.setEngine e x).freeCtr = s.freeCtr ∧
    (s.setEngine e x).regs = s.regs ∧ (s.setEngine e x).latches = s.latches ∧ (s.setEngine e x).rdata = s.rdata ∧
    (s.setEngine e x).chainNow = s.chainNow ∧ (s.setEngine e x).chainId = s.chainId ∧
    (s.setEngine e x).chainFrz = s.chainFrz ∧ (s.setEngine e x).chainTorn = s.chainTorn ∧
    (s.setEngine e x).chainIn = s.chainIn ∧ (s.setEngine e x).fab = s.fab ∧ (s.setEngine e x).tick = s.tick ∧
    (s.setEngine e x).par = s.par ∧ (s.setEngine e x).cal = s.cal ∧ (s.setEngine e x).res = s.res ∧
    (s.setEngine e x).ctx = s.ctx ∧ (s.setEngine e x).mode = s.mode ∧ (s.setEngine e x).route = s.route ∧
    (s.setEngine e x).mov = s.mov ∧ (s.setEngine e x).port = s.port ∧ (s.setEngine e x).pcie = s.pcie ∧
    (s.setEngine e x).clk = s.clk ∧ (s.setEngine e x).keep = s.keep ∧ (s.setEngine e x).pwr = s.pwr ∧
    (s.setEngine e x).ngx = s.ngx ∧ (s.setEngine e x).boot = s.boot ∧ (s.setEngine e x).spim = s.spim ∧
    (s.setEngine e x).spis = s.spis ∧ (s.setEngine e x).test = s.test ∧ (s.setEngine e x).tap = s.tap ∧
    (s.setEngine e x).gpio = s.gpio := by
  refine ⟨rfl, rfl, rfl, rfl, rfl, rfl, rfl, rfl, rfl, rfl, rfl, rfl, rfl, rfl, rfl, rfl, rfl, rfl, rfl, rfl, rfl, rfl, rfl, rfl, rfl, rfl, rfl, rfl, rfl, rfl, rfl, rfl⟩

@[simp] theorem State.reg_setEngine (s : State) (e : Nat) (x : Engine) (i : Nat) : (s.setEngine e x).reg i = s.reg i := rfl

@[simp] theorem State.context_setEngine (s : State) (e : Nat) (x : Engine) (i : Nat) : (s.setEngine e x).context i = s.context i := rfl

@[simp] theorem State.stream_setEngine (s : State) (e : Nat) (x : Engine) (i : Nat) : (s.setEngine e x).stream i = s.stream i := rfl

@[simp] theorem State.modEngine_fields (s : State) (e : Nat) (f : Engine → Engine) :
    (s.modEngine e f).pending = s.pending ∧ (s.modEngine e f).now = s.now ∧ (s.modEngine e f).freeCtr = s.freeCtr ∧
    (s.modEngine e f).regs = s.regs ∧ (s.modEngine e f).latches = s.latches ∧ (s.modEngine e f).rdata = s.rdata ∧
    (s.modEngine e f).chainNow = s.chainNow ∧ (s.modEngine e f).chainId = s.chainId ∧
    (s.modEngine e f).chainFrz = s.chainFrz ∧ (s.modEngine e f).chainTorn = s.chainTorn ∧
    (s.modEngine e f).chainIn = s.chainIn ∧ (s.modEngine e f).fab = s.fab ∧ (s.modEngine e f).tick = s.tick ∧
    (s.modEngine e f).par = s.par ∧ (s.modEngine e f).cal = s.cal ∧ (s.modEngine e f).res = s.res ∧
    (s.modEngine e f).ctx = s.ctx ∧ (s.modEngine e f).mode = s.mode ∧ (s.modEngine e f).route = s.route ∧
    (s.modEngine e f).mov = s.mov ∧ (s.modEngine e f).port = s.port ∧ (s.modEngine e f).pcie = s.pcie ∧
    (s.modEngine e f).clk = s.clk ∧ (s.modEngine e f).keep = s.keep ∧ (s.modEngine e f).pwr = s.pwr ∧
    (s.modEngine e f).ngx = s.ngx ∧ (s.modEngine e f).boot = s.boot ∧ (s.modEngine e f).spim = s.spim ∧
    (s.modEngine e f).spis = s.spis ∧ (s.modEngine e f).test = s.test ∧ (s.modEngine e f).tap = s.tap ∧
    (s.modEngine e f).gpio = s.gpio := by
  refine ⟨rfl, rfl, rfl, rfl, rfl, rfl, rfl, rfl, rfl, rfl, rfl, rfl, rfl, rfl, rfl, rfl, rfl, rfl, rfl, rfl, rfl, rfl, rfl, rfl, rfl, rfl, rfl, rfl, rfl, rfl, rfl, rfl⟩

@[simp] theorem State.reg_modEngine (s : State) (e : Nat) (f : Engine → Engine) (i : Nat) : (s.modEngine e f).reg i = s.reg i := rfl

@[simp] theorem State.context_modEngine (s : State) (e : Nat) (f : Engine → Engine) (i : Nat) : (s.modEngine e f).context i = s.context i := rfl

@[simp] theorem State.stream_modEngine (s : State) (e : Nat) (f : Engine → Engine) (i : Nat) : (s.modEngine e f).stream i = s.stream i := rfl

@[simp] theorem State.setContext_fields (s : State) (c : Nat) (x : Ctx) :
    (s.setContext c x).pending = s.pending ∧ (s.setContext c x).now = s.now ∧ (s.setContext c x).freeCtr = s.freeCtr ∧
    (s.setContext c x).regs = s.regs ∧ (s.setContext c x).latches = s.latches ∧ (s.setContext c x).rdata = s.rdata ∧
    (s.setContext c x).eng = s.eng ∧ (s.setContext c x).chainNow = s.chainNow ∧ (s.setContext c x).chainId = s.chainId ∧
    (s.setContext c x).chainFrz = s.chainFrz ∧ (s.setContext c x).chainTorn = s.chainTorn ∧
    (s.setContext c x).chainIn = s.chainIn ∧ (s.setContext c x).fab = s.fab ∧ (s.setContext c x).tick = s.tick ∧
    (s.setContext c x).par = s.par ∧ (s.setContext c x).cal = s.cal ∧ (s.setContext c x).res = s.res ∧
    (s.setContext c x).mode = s.mode ∧ (s.setContext c x).route = s.route ∧ (s.setContext c x).mov = s.mov ∧
    (s.setContext c x).port = s.port ∧ (s.setContext c x).pcie = s.pcie ∧ (s.setContext c x).clk = s.clk ∧
    (s.setContext c x).keep = s.keep ∧ (s.setContext c x).pwr = s.pwr ∧ (s.setContext c x).ngx = s.ngx ∧
    (s.setContext c x).boot = s.boot ∧ (s.setContext c x).spim = s.spim ∧ (s.setContext c x).spis = s.spis ∧
    (s.setContext c x).test = s.test ∧ (s.setContext c x).tap = s.tap ∧ (s.setContext c x).gpio = s.gpio := by
  refine ⟨rfl, rfl, rfl, rfl, rfl, rfl, rfl, rfl, rfl, rfl, rfl, rfl, rfl, rfl, rfl, rfl, rfl, rfl, rfl, rfl, rfl, rfl, rfl, rfl, rfl, rfl, rfl, rfl, rfl, rfl, rfl, rfl⟩

@[simp] theorem State.reg_setContext (s : State) (c : Nat) (x : Ctx) (i : Nat) : (s.setContext c x).reg i = s.reg i := rfl

@[simp] theorem State.engine_setContext (s : State) (c : Nat) (x : Ctx) (i : Nat) : (s.setContext c x).engine i = s.engine i := rfl

@[simp] theorem State.stream_setContext (s : State) (c : Nat) (x : Ctx) (i : Nat) : (s.setContext c x).stream i = s.stream i := rfl

@[simp] theorem State.modContext_fields (s : State) (c : Nat) (f : Ctx → Ctx) :
    (s.modContext c f).pending = s.pending ∧ (s.modContext c f).now = s.now ∧ (s.modContext c f).freeCtr = s.freeCtr ∧
    (s.modContext c f).regs = s.regs ∧ (s.modContext c f).latches = s.latches ∧ (s.modContext c f).rdata = s.rdata ∧
    (s.modContext c f).eng = s.eng ∧ (s.modContext c f).chainNow = s.chainNow ∧ (s.modContext c f).chainId = s.chainId ∧
    (s.modContext c f).chainFrz = s.chainFrz ∧ (s.modContext c f).chainTorn = s.chainTorn ∧
    (s.modContext c f).chainIn = s.chainIn ∧ (s.modContext c f).fab = s.fab ∧ (s.modContext c f).tick = s.tick ∧
    (s.modContext c f).par = s.par ∧ (s.modContext c f).cal = s.cal ∧ (s.modContext c f).res = s.res ∧
    (s.modContext c f).mode = s.mode ∧ (s.modContext c f).route = s.route ∧ (s.modContext c f).mov = s.mov ∧
    (s.modContext c f).port = s.port ∧ (s.modContext c f).pcie = s.pcie ∧ (s.modContext c f).clk = s.clk ∧
    (s.modContext c f).keep = s.keep ∧ (s.modContext c f).pwr = s.pwr ∧ (s.modContext c f).ngx = s.ngx ∧
    (s.modContext c f).boot = s.boot ∧ (s.modContext c f).spim = s.spim ∧ (s.modContext c f).spis = s.spis ∧
    (s.modContext c f).test = s.test ∧ (s.modContext c f).tap = s.tap ∧ (s.modContext c f).gpio = s.gpio := by
  refine ⟨rfl, rfl, rfl, rfl, rfl, rfl, rfl, rfl, rfl, rfl, rfl, rfl, rfl, rfl, rfl, rfl, rfl, rfl, rfl, rfl, rfl, rfl, rfl, rfl, rfl, rfl, rfl, rfl, rfl, rfl, rfl, rfl⟩

@[simp] theorem State.reg_modContext (s : State) (c : Nat) (f : Ctx → Ctx) (i : Nat) : (s.modContext c f).reg i = s.reg i := rfl

@[simp] theorem State.engine_modContext (s : State) (c : Nat) (f : Ctx → Ctx) (i : Nat) : (s.modContext c f).engine i = s.engine i := rfl

@[simp] theorem State.stream_modContext (s : State) (c : Nat) (f : Ctx → Ctx) (i : Nat) : (s.modContext c f).stream i = s.stream i := rfl

@[simp] theorem State.modDesc_fields (s : State) (c q : Nat) (f : OpenDesc → OpenDesc) :
    (s.modDesc c q f).pending = s.pending ∧ (s.modDesc c q f).now = s.now ∧ (s.modDesc c q f).freeCtr = s.freeCtr ∧
    (s.modDesc c q f).regs = s.regs ∧ (s.modDesc c q f).latches = s.latches ∧ (s.modDesc c q f).rdata = s.rdata ∧
    (s.modDesc c q f).eng = s.eng ∧ (s.modDesc c q f).chainNow = s.chainNow ∧ (s.modDesc c q f).chainId = s.chainId ∧
    (s.modDesc c q f).chainFrz = s.chainFrz ∧ (s.modDesc c q f).chainTorn = s.chainTorn ∧
    (s.modDesc c q f).chainIn = s.chainIn ∧ (s.modDesc c q f).fab = s.fab ∧ (s.modDesc c q f).tick = s.tick ∧
    (s.modDesc c q f).par = s.par ∧ (s.modDesc c q f).cal = s.cal ∧ (s.modDesc c q f).res = s.res ∧
    (s.modDesc c q f).mode = s.mode ∧ (s.modDesc c q f).route = s.route ∧ (s.modDesc c q f).mov = s.mov ∧
    (s.modDesc c q f).port = s.port ∧ (s.modDesc c q f).pcie = s.pcie ∧ (s.modDesc c q f).clk = s.clk ∧
    (s.modDesc c q f).keep = s.keep ∧ (s.modDesc c q f).pwr = s.pwr ∧ (s.modDesc c q f).ngx = s.ngx ∧
    (s.modDesc c q f).boot = s.boot ∧ (s.modDesc c q f).spim = s.spim ∧ (s.modDesc c q f).spis = s.spis ∧
    (s.modDesc c q f).test = s.test ∧ (s.modDesc c q f).tap = s.tap ∧ (s.modDesc c q f).gpio = s.gpio := by
  refine ⟨rfl, rfl, rfl, rfl, rfl, rfl, rfl, rfl, rfl, rfl, rfl, rfl, rfl, rfl, rfl, rfl, rfl, rfl, rfl, rfl, rfl, rfl, rfl, rfl, rfl, rfl, rfl, rfl, rfl, rfl, rfl, rfl⟩

@[simp] theorem State.reg_modDesc (s : State) (c q : Nat) (f : OpenDesc → OpenDesc) (i : Nat) : (s.modDesc c q f).reg i = s.reg i := rfl

@[simp] theorem State.engine_modDesc (s : State) (c q : Nat) (f : OpenDesc → OpenDesc) (i : Nat) : (s.modDesc c q f).engine i = s.engine i := rfl

@[simp] theorem State.stream_modDesc (s : State) (c q : Nat) (f : OpenDesc → OpenDesc) (i : Nat) : (s.modDesc c q f).stream i = s.stream i := rfl

@[simp] theorem State.setResult_fields (s : State) (c q k : Nat) :
    (s.setResult c q k).pending = s.pending ∧ (s.setResult c q k).now = s.now ∧ (s.setResult c q k).freeCtr = s.freeCtr ∧
    (s.setResult c q k).regs = s.regs ∧ (s.setResult c q k).latches = s.latches ∧ (s.setResult c q k).rdata = s.rdata ∧
    (s.setResult c q k).eng = s.eng ∧ (s.setResult c q k).chainNow = s.chainNow ∧ (s.setResult c q k).chainId = s.chainId ∧
    (s.setResult c q k).chainFrz = s.chainFrz ∧ (s.setResult c q k).chainTorn = s.chainTorn ∧
    (s.setResult c q k).chainIn = s.chainIn ∧ (s.setResult c q k).fab = s.fab ∧ (s.setResult c q k).tick = s.tick ∧
    (s.setResult c q k).par = s.par ∧ (s.setResult c q k).cal = s.cal ∧ (s.setResult c q k).res = s.res ∧
    (s.setResult c q k).mode = s.mode ∧ (s.setResult c q k).route = s.route ∧ (s.setResult c q k).mov = s.mov ∧
    (s.setResult c q k).port = s.port ∧ (s.setResult c q k).pcie = s.pcie ∧ (s.setResult c q k).clk = s.clk ∧
    (s.setResult c q k).keep = s.keep ∧ (s.setResult c q k).pwr = s.pwr ∧ (s.setResult c q k).ngx = s.ngx ∧
    (s.setResult c q k).boot = s.boot ∧ (s.setResult c q k).spim = s.spim ∧ (s.setResult c q k).spis = s.spis ∧
    (s.setResult c q k).test = s.test ∧ (s.setResult c q k).tap = s.tap ∧ (s.setResult c q k).gpio = s.gpio := by
  refine ⟨rfl, rfl, rfl, rfl, rfl, rfl, rfl, rfl, rfl, rfl, rfl, rfl, rfl, rfl, rfl, rfl, rfl, rfl, rfl, rfl, rfl, rfl, rfl, rfl, rfl, rfl, rfl, rfl, rfl, rfl, rfl, rfl⟩

@[simp] theorem State.reg_setResult (s : State) (c q k : Nat) (i : Nat) : (s.setResult c q k).reg i = s.reg i := rfl

@[simp] theorem State.engine_setResult (s : State) (c q k : Nat) (i : Nat) : (s.setResult c q k).engine i = s.engine i := rfl

@[simp] theorem State.stream_setResult (s : State) (c q k : Nat) (i : Nat) : (s.setResult c q k).stream i = s.stream i := rfl

@[simp] theorem State.setStream_fields (s : State) (r : Nat) (x : Option Stream) :
    (s.setStream r x).pending = s.pending ∧ (s.setStream r x).now = s.now ∧ (s.setStream r x).freeCtr = s.freeCtr ∧
    (s.setStream r x).regs = s.regs ∧ (s.setStream r x).latches = s.latches ∧ (s.setStream r x).rdata = s.rdata ∧
    (s.setStream r x).eng = s.eng ∧ (s.setStream r x).chainNow = s.chainNow ∧ (s.setStream r x).chainId = s.chainId ∧
    (s.setStream r x).chainFrz = s.chainFrz ∧ (s.setStream r x).chainTorn = s.chainTorn ∧
    (s.setStream r x).chainIn = s.chainIn ∧ (s.setStream r x).fab = s.fab ∧ (s.setStream r x).tick = s.tick ∧
    (s.setStream r x).par = s.par ∧ (s.setStream r x).cal = s.cal ∧ (s.setStream r x).res = s.res ∧
    (s.setStream r x).ctx = s.ctx ∧ (s.setStream r x).mode = s.mode ∧ (s.setStream r x).route = s.route ∧
    (s.setStream r x).port = s.port ∧ (s.setStream r x).pcie = s.pcie ∧ (s.setStream r x).clk = s.clk ∧
    (s.setStream r x).keep = s.keep ∧ (s.setStream r x).pwr = s.pwr ∧ (s.setStream r x).ngx = s.ngx ∧
    (s.setStream r x).boot = s.boot ∧ (s.setStream r x).spim = s.spim ∧ (s.setStream r x).spis = s.spis ∧
    (s.setStream r x).test = s.test ∧ (s.setStream r x).tap = s.tap ∧ (s.setStream r x).gpio = s.gpio := by
  refine ⟨rfl, rfl, rfl, rfl, rfl, rfl, rfl, rfl, rfl, rfl, rfl, rfl, rfl, rfl, rfl, rfl, rfl, rfl, rfl, rfl, rfl, rfl, rfl, rfl, rfl, rfl, rfl, rfl, rfl, rfl, rfl, rfl⟩

@[simp] theorem State.reg_setStream (s : State) (r : Nat) (x : Option Stream) (i : Nat) : (s.setStream r x).reg i = s.reg i := rfl

@[simp] theorem State.engine_setStream (s : State) (r : Nat) (x : Option Stream) (i : Nat) : (s.setStream r x).engine i = s.engine i := rfl

@[simp] theorem State.context_setStream (s : State) (r : Nat) (x : Option Stream) (i : Nat) : (s.setStream r x).context i = s.context i := rfl

@[simp] theorem State.offer_fields (s : State) (cls m : Nat) (t : Tlp) :
    (s.offer cls m t).pending = s.pending ∧ (s.offer cls m t).now = s.now ∧ (s.offer cls m t).freeCtr = s.freeCtr ∧
    (s.offer cls m t).regs = s.regs ∧ (s.offer cls m t).latches = s.latches ∧ (s.offer cls m t).rdata = s.rdata ∧
    (s.offer cls m t).eng = s.eng ∧ (s.offer cls m t).chainNow = s.chainNow ∧ (s.offer cls m t).chainId = s.chainId ∧
    (s.offer cls m t).chainFrz = s.chainFrz ∧ (s.offer cls m t).chainTorn = s.chainTorn ∧
    (s.offer cls m t).chainIn = s.chainIn ∧ (s.offer cls m t).tick = s.tick ∧ (s.offer cls m t).par = s.par ∧
    (s.offer cls m t).cal = s.cal ∧ (s.offer cls m t).res = s.res ∧ (s.offer cls m t).ctx = s.ctx ∧
    (s.offer cls m t).mode = s.mode ∧ (s.offer cls m t).route = s.route ∧ (s.offer cls m t).mov = s.mov ∧
    (s.offer cls m t).port = s.port ∧ (s.offer cls m t).pcie = s.pcie ∧ (s.offer cls m t).clk = s.clk ∧
    (s.offer cls m t).keep = s.keep ∧ (s.offer cls m t).pwr = s.pwr ∧ (s.offer cls m t).ngx = s.ngx ∧
    (s.offer cls m t).boot = s.boot ∧ (s.offer cls m t).spim = s.spim ∧ (s.offer cls m t).spis = s.spis ∧
    (s.offer cls m t).test = s.test ∧ (s.offer cls m t).tap = s.tap ∧ (s.offer cls m t).gpio = s.gpio := by
  refine ⟨rfl, rfl, rfl, rfl, rfl, rfl, rfl, rfl, rfl, rfl, rfl, rfl, rfl, rfl, rfl, rfl, rfl, rfl, rfl, rfl, rfl, rfl, rfl, rfl, rfl, rfl, rfl, rfl, rfl, rfl, rfl, rfl⟩

@[simp] theorem State.reg_offer (s : State) (cls m : Nat) (t : Tlp) (i : Nat) : (s.offer cls m t).reg i = s.reg i := rfl

@[simp] theorem State.engine_offer (s : State) (cls m : Nat) (t : Tlp) (i : Nat) : (s.offer cls m t).engine i = s.engine i := rfl

@[simp] theorem State.context_offer (s : State) (cls m : Nat) (t : Tlp) (i : Nat) : (s.offer cls m t).context i = s.context i := rfl

@[simp] theorem State.stream_offer (s : State) (cls m : Nat) (t : Tlp) (i : Nat) : (s.offer cls m t).stream i = s.stream i := rfl

@[simp] theorem State.ngxSend_fields (s : State) (m : Msg) :
    (s.ngxSend m).pending = s.pending ∧ (s.ngxSend m).now = s.now ∧ (s.ngxSend m).freeCtr = s.freeCtr ∧
    (s.ngxSend m).regs = s.regs ∧ (s.ngxSend m).latches = s.latches ∧ (s.ngxSend m).rdata = s.rdata ∧
    (s.ngxSend m).eng = s.eng ∧ (s.ngxSend m).chainNow = s.chainNow ∧ (s.ngxSend m).chainId = s.chainId ∧
    (s.ngxSend m).chainFrz = s.chainFrz ∧ (s.ngxSend m).chainTorn = s.chainTorn ∧ (s.ngxSend m).chainIn = s.chainIn ∧
    (s.ngxSend m).fab = s.fab ∧ (s.ngxSend m).tick = s.tick ∧ (s.ngxSend m).par = s.par ∧ (s.ngxSend m).cal = s.cal ∧
    (s.ngxSend m).res = s.res ∧ (s.ngxSend m).ctx = s.ctx ∧ (s.ngxSend m).mode = s.mode ∧ (s.ngxSend m).route = s.route ∧
    (s.ngxSend m).mov = s.mov ∧ (s.ngxSend m).port = s.port ∧ (s.ngxSend m).pcie = s.pcie ∧ (s.ngxSend m).clk = s.clk ∧
    (s.ngxSend m).keep = s.keep ∧ (s.ngxSend m).pwr = s.pwr ∧ (s.ngxSend m).boot = s.boot ∧ (s.ngxSend m).spim = s.spim ∧
    (s.ngxSend m).spis = s.spis ∧ (s.ngxSend m).test = s.test ∧ (s.ngxSend m).tap = s.tap ∧ (s.ngxSend m).gpio = s.gpio := by
  refine ⟨rfl, rfl, rfl, rfl, rfl, rfl, rfl, rfl, rfl, rfl, rfl, rfl, rfl, rfl, rfl, rfl, rfl, rfl, rfl, rfl, rfl, rfl, rfl, rfl, rfl, rfl, rfl, rfl, rfl, rfl, rfl, rfl⟩

@[simp] theorem State.reg_ngxSend (s : State) (m : Msg) (i : Nat) : (s.ngxSend m).reg i = s.reg i := rfl

@[simp] theorem State.engine_ngxSend (s : State) (m : Msg) (i : Nat) : (s.ngxSend m).engine i = s.engine i := rfl

@[simp] theorem State.context_ngxSend (s : State) (m : Msg) (i : Nat) : (s.ngxSend m).context i = s.context i := rfl

@[simp] theorem State.stream_ngxSend (s : State) (m : Msg) (i : Nat) : (s.ngxSend m).stream i = s.stream i := rfl

@[simp] theorem State.tally_fields (s : State) (k : Nat) :
    (s.tally k).pending = s.pending ∧ (s.tally k).now = s.now ∧ (s.tally k).freeCtr = s.freeCtr ∧ (s.tally k).regs = s.regs ∧
    (s.tally k).latches = s.latches ∧ (s.tally k).rdata = s.rdata ∧ (s.tally k).eng = s.eng ∧
    (s.tally k).chainNow = s.chainNow ∧ (s.tally k).chainId = s.chainId ∧ (s.tally k).chainFrz = s.chainFrz ∧
    (s.tally k).chainTorn = s.chainTorn ∧ (s.tally k).chainIn = s.chainIn ∧ (s.tally k).fab = s.fab ∧
    (s.tally k).tick = s.tick ∧ (s.tally k).par = s.par ∧ (s.tally k).cal = s.cal ∧ (s.tally k).res = s.res ∧
    (s.tally k).ctx = s.ctx ∧ (s.tally k).mode = s.mode ∧ (s.tally k).route = s.route ∧ (s.tally k).mov = s.mov ∧
    (s.tally k).port = s.port ∧ (s.tally k).pcie = s.pcie ∧ (s.tally k).clk = s.clk ∧ (s.tally k).pwr = s.pwr ∧
    (s.tally k).ngx = s.ngx ∧ (s.tally k).boot = s.boot ∧ (s.tally k).spim = s.spim ∧ (s.tally k).spis = s.spis ∧
    (s.tally k).test = s.test ∧ (s.tally k).tap = s.tap ∧ (s.tally k).gpio = s.gpio := by
  refine ⟨rfl, rfl, rfl, rfl, rfl, rfl, rfl, rfl, rfl, rfl, rfl, rfl, rfl, rfl, rfl, rfl, rfl, rfl, rfl, rfl, rfl, rfl, rfl, rfl, rfl, rfl, rfl, rfl, rfl, rfl, rfl, rfl⟩

@[simp] theorem State.reg_tally (s : State) (k : Nat) (i : Nat) : (s.tally k).reg i = s.reg i := rfl

@[simp] theorem State.engine_tally (s : State) (k : Nat) (i : Nat) : (s.tally k).engine i = s.engine i := rfl

@[simp] theorem State.context_tally (s : State) (k : Nat) (i : Nat) : (s.tally k).context i = s.context i := rfl

@[simp] theorem State.stream_tally (s : State) (k : Nat) (i : Nat) : (s.tally k).stream i = s.stream i := rfl

@[simp] theorem State.tallyMax_fields (s : State) (k v : Nat) :
    (s.tallyMax k v).pending = s.pending ∧ (s.tallyMax k v).now = s.now ∧ (s.tallyMax k v).freeCtr = s.freeCtr ∧
    (s.tallyMax k v).regs = s.regs ∧ (s.tallyMax k v).latches = s.latches ∧ (s.tallyMax k v).rdata = s.rdata ∧
    (s.tallyMax k v).eng = s.eng ∧ (s.tallyMax k v).chainNow = s.chainNow ∧ (s.tallyMax k v).chainId = s.chainId ∧
    (s.tallyMax k v).chainFrz = s.chainFrz ∧ (s.tallyMax k v).chainTorn = s.chainTorn ∧
    (s.tallyMax k v).chainIn = s.chainIn ∧ (s.tallyMax k v).fab = s.fab ∧ (s.tallyMax k v).tick = s.tick ∧
    (s.tallyMax k v).par = s.par ∧ (s.tallyMax k v).cal = s.cal ∧ (s.tallyMax k v).res = s.res ∧
    (s.tallyMax k v).ctx = s.ctx ∧ (s.tallyMax k v).mode = s.mode ∧ (s.tallyMax k v).route = s.route ∧
    (s.tallyMax k v).mov = s.mov ∧ (s.tallyMax k v).port = s.port ∧ (s.tallyMax k v).pcie = s.pcie ∧
    (s.tallyMax k v).clk = s.clk ∧ (s.tallyMax k v).pwr = s.pwr ∧ (s.tallyMax k v).ngx = s.ngx ∧
    (s.tallyMax k v).boot = s.boot ∧ (s.tallyMax k v).spim = s.spim ∧ (s.tallyMax k v).spis = s.spis ∧
    (s.tallyMax k v).test = s.test ∧ (s.tallyMax k v).tap = s.tap ∧ (s.tallyMax k v).gpio = s.gpio := by
  refine ⟨rfl, rfl, rfl, rfl, rfl, rfl, rfl, rfl, rfl, rfl, rfl, rfl, rfl, rfl, rfl, rfl, rfl, rfl, rfl, rfl, rfl, rfl, rfl, rfl, rfl, rfl, rfl, rfl, rfl, rfl, rfl, rfl⟩

@[simp] theorem State.reg_tallyMax (s : State) (k v : Nat) (i : Nat) : (s.tallyMax k v).reg i = s.reg i := rfl

@[simp] theorem State.engine_tallyMax (s : State) (k v : Nat) (i : Nat) : (s.tallyMax k v).engine i = s.engine i := rfl

@[simp] theorem State.context_tallyMax (s : State) (k v : Nat) (i : Nat) : (s.tallyMax k v).context i = s.context i := rfl

@[simp] theorem State.stream_tallyMax (s : State) (k v : Nat) (i : Nat) : (s.tallyMax k v).stream i = s.stream i := rfl

@[simp] theorem State.histBegin_fields (s : State) (k r : Nat) (d : Option Nat) :
    (s.histBegin k r d).pending = s.pending ∧ (s.histBegin k r d).now = s.now ∧ (s.histBegin k r d).freeCtr = s.freeCtr ∧
    (s.histBegin k r d).regs = s.regs ∧ (s.histBegin k r d).latches = s.latches ∧ (s.histBegin k r d).rdata = s.rdata ∧
    (s.histBegin k r d).eng = s.eng ∧ (s.histBegin k r d).chainNow = s.chainNow ∧ (s.histBegin k r d).chainId = s.chainId ∧
    (s.histBegin k r d).chainFrz = s.chainFrz ∧ (s.histBegin k r d).chainTorn = s.chainTorn ∧
    (s.histBegin k r d).chainIn = s.chainIn ∧ (s.histBegin k r d).fab = s.fab ∧ (s.histBegin k r d).tick = s.tick ∧
    (s.histBegin k r d).par = s.par ∧ (s.histBegin k r d).cal = s.cal ∧ (s.histBegin k r d).res = s.res ∧
    (s.histBegin k r d).ctx = s.ctx ∧ (s.histBegin k r d).mode = s.mode ∧ (s.histBegin k r d).route = s.route ∧
    (s.histBegin k r d).mov = s.mov ∧ (s.histBegin k r d).port = s.port ∧ (s.histBegin k r d).pcie = s.pcie ∧
    (s.histBegin k r d).clk = s.clk ∧ (s.histBegin k r d).pwr = s.pwr ∧ (s.histBegin k r d).ngx = s.ngx ∧
    (s.histBegin k r d).boot = s.boot ∧ (s.histBegin k r d).spim = s.spim ∧ (s.histBegin k r d).spis = s.spis ∧
    (s.histBegin k r d).test = s.test ∧ (s.histBegin k r d).tap = s.tap ∧ (s.histBegin k r d).gpio = s.gpio := by
  refine ⟨rfl, rfl, rfl, rfl, rfl, rfl, rfl, rfl, rfl, rfl, rfl, rfl, rfl, rfl, rfl, rfl, rfl, rfl, rfl, rfl, rfl, rfl, rfl, rfl, rfl, rfl, rfl, rfl, rfl, rfl, rfl, rfl⟩

@[simp] theorem State.reg_histBegin (s : State) (k r : Nat) (d : Option Nat) (i : Nat) : (s.histBegin k r d).reg i = s.reg i := rfl

@[simp] theorem State.engine_histBegin (s : State) (k r : Nat) (d : Option Nat) (i : Nat) : (s.histBegin k r d).engine i = s.engine i := rfl

@[simp] theorem State.context_histBegin (s : State) (k r : Nat) (d : Option Nat) (i : Nat) : (s.histBegin k r d).context i = s.context i := rfl

@[simp] theorem State.stream_histBegin (s : State) (k r : Nat) (d : Option Nat) (i : Nat) : (s.histBegin k r d).stream i = s.stream i := rfl

@[simp] theorem State.histEnd_fields (s : State) (k : Nat) :
    (s.histEnd k).pending = s.pending ∧ (s.histEnd k).now = s.now ∧ (s.histEnd k).freeCtr = s.freeCtr ∧
    (s.histEnd k).regs = s.regs ∧ (s.histEnd k).latches = s.latches ∧ (s.histEnd k).rdata = s.rdata ∧
    (s.histEnd k).eng = s.eng ∧ (s.histEnd k).chainNow = s.chainNow ∧ (s.histEnd k).chainId = s.chainId ∧
    (s.histEnd k).chainFrz = s.chainFrz ∧ (s.histEnd k).chainTorn = s.chainTorn ∧ (s.histEnd k).chainIn = s.chainIn ∧
    (s.histEnd k).fab = s.fab ∧ (s.histEnd k).tick = s.tick ∧ (s.histEnd k).par = s.par ∧ (s.histEnd k).cal = s.cal ∧
    (s.histEnd k).res = s.res ∧ (s.histEnd k).ctx = s.ctx ∧ (s.histEnd k).mode = s.mode ∧ (s.histEnd k).route = s.route ∧
    (s.histEnd k).mov = s.mov ∧ (s.histEnd k).port = s.port ∧ (s.histEnd k).pcie = s.pcie ∧ (s.histEnd k).clk = s.clk ∧
    (s.histEnd k).pwr = s.pwr ∧ (s.histEnd k).ngx = s.ngx ∧ (s.histEnd k).boot = s.boot ∧ (s.histEnd k).spim = s.spim ∧
    (s.histEnd k).spis = s.spis ∧ (s.histEnd k).test = s.test ∧ (s.histEnd k).tap = s.tap ∧ (s.histEnd k).gpio = s.gpio := by
  refine ⟨rfl, rfl, rfl, rfl, rfl, rfl, rfl, rfl, rfl, rfl, rfl, rfl, rfl, rfl, rfl, rfl, rfl, rfl, rfl, rfl, rfl, rfl, rfl, rfl, rfl, rfl, rfl, rfl, rfl, rfl, rfl, rfl⟩

@[simp] theorem State.reg_histEnd (s : State) (k : Nat) (i : Nat) : (s.histEnd k).reg i = s.reg i := rfl

@[simp] theorem State.engine_histEnd (s : State) (k : Nat) (i : Nat) : (s.histEnd k).engine i = s.engine i := rfl

@[simp] theorem State.context_histEnd (s : State) (k : Nat) (i : Nat) : (s.histEnd k).context i = s.context i := rfl

@[simp] theorem State.stream_histEnd (s : State) (k : Nat) (i : Nat) : (s.histEnd k).stream i = s.stream i := rfl

@[simp] theorem State.setBank_fields (s : State) (b : Nat) (x : Bank) :
    (s.setBank b x).pending = s.pending ∧ (s.setBank b x).now = s.now ∧ (s.setBank b x).freeCtr = s.freeCtr ∧
    (s.setBank b x).regs = s.regs ∧ (s.setBank b x).latches = s.latches ∧ (s.setBank b x).rdata = s.rdata ∧
    (s.setBank b x).eng = s.eng ∧ (s.setBank b x).chainNow = s.chainNow ∧ (s.setBank b x).chainId = s.chainId ∧
    (s.setBank b x).chainFrz = s.chainFrz ∧ (s.setBank b x).chainTorn = s.chainTorn ∧ (s.setBank b x).chainIn = s.chainIn ∧
    (s.setBank b x).tick = s.tick ∧ (s.setBank b x).par = s.par ∧ (s.setBank b x).cal = s.cal ∧ (s.setBank b x).res = s.res ∧
    (s.setBank b x).ctx = s.ctx ∧ (s.setBank b x).mode = s.mode ∧ (s.setBank b x).route = s.route ∧
    (s.setBank b x).mov = s.mov ∧ (s.setBank b x).port = s.port ∧ (s.setBank b x).pcie = s.pcie ∧
    (s.setBank b x).clk = s.clk ∧ (s.setBank b x).keep = s.keep ∧ (s.setBank b x).pwr = s.pwr ∧ (s.setBank b x).ngx = s.ngx ∧
    (s.setBank b x).boot = s.boot ∧ (s.setBank b x).spim = s.spim ∧ (s.setBank b x).spis = s.spis ∧
    (s.setBank b x).test = s.test ∧ (s.setBank b x).tap = s.tap ∧ (s.setBank b x).gpio = s.gpio := by
  refine ⟨rfl, rfl, rfl, rfl, rfl, rfl, rfl, rfl, rfl, rfl, rfl, rfl, rfl, rfl, rfl, rfl, rfl, rfl, rfl, rfl, rfl, rfl, rfl, rfl, rfl, rfl, rfl, rfl, rfl, rfl, rfl, rfl⟩

@[simp] theorem State.reg_setBank (s : State) (b : Nat) (x : Bank) (i : Nat) : (s.setBank b x).reg i = s.reg i := rfl

@[simp] theorem State.engine_setBank (s : State) (b : Nat) (x : Bank) (i : Nat) : (s.setBank b x).engine i = s.engine i := rfl

@[simp] theorem State.context_setBank (s : State) (b : Nat) (x : Bank) (i : Nat) : (s.setBank b x).context i = s.context i := rfl

@[simp] theorem State.stream_setBank (s : State) (b : Nat) (x : Bank) (i : Nat) : (s.setBank b x).stream i = s.stream i := rfl

@[simp] theorem State.setXing_fields (s : State) (k : Nat) (l : List XWord) :
    (s.setXing k l).pending = s.pending ∧ (s.setXing k l).now = s.now ∧ (s.setXing k l).freeCtr = s.freeCtr ∧
    (s.setXing k l).regs = s.regs ∧ (s.setXing k l).latches = s.latches ∧ (s.setXing k l).rdata = s.rdata ∧
    (s.setXing k l).eng = s.eng ∧ (s.setXing k l).chainNow = s.chainNow ∧ (s.setXing k l).chainId = s.chainId ∧
    (s.setXing k l).chainFrz = s.chainFrz ∧ (s.setXing k l).chainTorn = s.chainTorn ∧ (s.setXing k l).chainIn = s.chainIn ∧
    (s.setXing k l).tick = s.tick ∧ (s.setXing k l).par = s.par ∧ (s.setXing k l).cal = s.cal ∧ (s.setXing k l).res = s.res ∧
    (s.setXing k l).ctx = s.ctx ∧ (s.setXing k l).mode = s.mode ∧ (s.setXing k l).route = s.route ∧
    (s.setXing k l).mov = s.mov ∧ (s.setXing k l).port = s.port ∧ (s.setXing k l).pcie = s.pcie ∧
    (s.setXing k l).clk = s.clk ∧ (s.setXing k l).keep = s.keep ∧ (s.setXing k l).pwr = s.pwr ∧ (s.setXing k l).ngx = s.ngx ∧
    (s.setXing k l).boot = s.boot ∧ (s.setXing k l).spim = s.spim ∧ (s.setXing k l).spis = s.spis ∧
    (s.setXing k l).test = s.test ∧ (s.setXing k l).tap = s.tap ∧ (s.setXing k l).gpio = s.gpio := by
  refine ⟨rfl, rfl, rfl, rfl, rfl, rfl, rfl, rfl, rfl, rfl, rfl, rfl, rfl, rfl, rfl, rfl, rfl, rfl, rfl, rfl, rfl, rfl, rfl, rfl, rfl, rfl, rfl, rfl, rfl, rfl, rfl, rfl⟩

@[simp] theorem State.reg_setXing (s : State) (k : Nat) (l : List XWord) (i : Nat) : (s.setXing k l).reg i = s.reg i := rfl

@[simp] theorem State.engine_setXing (s : State) (k : Nat) (l : List XWord) (i : Nat) : (s.setXing k l).engine i = s.engine i := rfl

@[simp] theorem State.context_setXing (s : State) (k : Nat) (l : List XWord) (i : Nat) : (s.setXing k l).context i = s.context i := rfl

@[simp] theorem State.stream_setXing (s : State) (k : Nat) (l : List XWord) (i : Nat) : (s.setXing k l).stream i = s.stream i := rfl

@[simp] theorem State.setLine_fields (s : State) (n : Nat) (l : Line) :
    (s.setLine n l).pending = s.pending ∧ (s.setLine n l).now = s.now ∧ (s.setLine n l).freeCtr = s.freeCtr ∧
    (s.setLine n l).regs = s.regs ∧ (s.setLine n l).latches = s.latches ∧ (s.setLine n l).rdata = s.rdata ∧
    (s.setLine n l).eng = s.eng ∧ (s.setLine n l).chainNow = s.chainNow ∧ (s.setLine n l).chainId = s.chainId ∧
    (s.setLine n l).chainFrz = s.chainFrz ∧ (s.setLine n l).chainTorn = s.chainTorn ∧ (s.setLine n l).chainIn = s.chainIn ∧
    (s.setLine n l).fab = s.fab ∧ (s.setLine n l).tick = s.tick ∧ (s.setLine n l).par = s.par ∧ (s.setLine n l).res = s.res ∧
    (s.setLine n l).ctx = s.ctx ∧ (s.setLine n l).mode = s.mode ∧ (s.setLine n l).route = s.route ∧
    (s.setLine n l).mov = s.mov ∧ (s.setLine n l).port = s.port ∧ (s.setLine n l).pcie = s.pcie ∧
    (s.setLine n l).clk = s.clk ∧ (s.setLine n l).keep = s.keep ∧ (s.setLine n l).pwr = s.pwr ∧ (s.setLine n l).ngx = s.ngx ∧
    (s.setLine n l).boot = s.boot ∧ (s.setLine n l).spim = s.spim ∧ (s.setLine n l).spis = s.spis ∧
    (s.setLine n l).test = s.test ∧ (s.setLine n l).tap = s.tap ∧ (s.setLine n l).gpio = s.gpio := by
  refine ⟨rfl, rfl, rfl, rfl, rfl, rfl, rfl, rfl, rfl, rfl, rfl, rfl, rfl, rfl, rfl, rfl, rfl, rfl, rfl, rfl, rfl, rfl, rfl, rfl, rfl, rfl, rfl, rfl, rfl, rfl, rfl, rfl⟩

@[simp] theorem State.reg_setLine (s : State) (n : Nat) (l : Line) (i : Nat) : (s.setLine n l).reg i = s.reg i := rfl

@[simp] theorem State.engine_setLine (s : State) (n : Nat) (l : Line) (i : Nat) : (s.setLine n l).engine i = s.engine i := rfl

@[simp] theorem State.context_setLine (s : State) (n : Nat) (l : Line) (i : Nat) : (s.setLine n l).context i = s.context i := rfl

@[simp] theorem State.stream_setLine (s : State) (n : Nat) (l : Line) (i : Nat) : (s.setLine n l).stream i = s.stream i := rfl

@[simp] theorem State.setDac_fields (s : State) (d : Nat) (x : Dac) :
    (s.setDac d x).pending = s.pending ∧ (s.setDac d x).now = s.now ∧ (s.setDac d x).freeCtr = s.freeCtr ∧
    (s.setDac d x).regs = s.regs ∧ (s.setDac d x).latches = s.latches ∧ (s.setDac d x).rdata = s.rdata ∧
    (s.setDac d x).eng = s.eng ∧ (s.setDac d x).chainNow = s.chainNow ∧ (s.setDac d x).chainId = s.chainId ∧
    (s.setDac d x).chainFrz = s.chainFrz ∧ (s.setDac d x).chainTorn = s.chainTorn ∧ (s.setDac d x).chainIn = s.chainIn ∧
    (s.setDac d x).fab = s.fab ∧ (s.setDac d x).tick = s.tick ∧ (s.setDac d x).par = s.par ∧ (s.setDac d x).cal = s.cal ∧
    (s.setDac d x).res = s.res ∧ (s.setDac d x).ctx = s.ctx ∧ (s.setDac d x).mode = s.mode ∧ (s.setDac d x).route = s.route ∧
    (s.setDac d x).mov = s.mov ∧ (s.setDac d x).pcie = s.pcie ∧ (s.setDac d x).clk = s.clk ∧ (s.setDac d x).keep = s.keep ∧
    (s.setDac d x).pwr = s.pwr ∧ (s.setDac d x).ngx = s.ngx ∧ (s.setDac d x).boot = s.boot ∧ (s.setDac d x).spim = s.spim ∧
    (s.setDac d x).spis = s.spis ∧ (s.setDac d x).test = s.test ∧ (s.setDac d x).tap = s.tap ∧
    (s.setDac d x).gpio = s.gpio := by
  refine ⟨rfl, rfl, rfl, rfl, rfl, rfl, rfl, rfl, rfl, rfl, rfl, rfl, rfl, rfl, rfl, rfl, rfl, rfl, rfl, rfl, rfl, rfl, rfl, rfl, rfl, rfl, rfl, rfl, rfl, rfl, rfl, rfl⟩

@[simp] theorem State.reg_setDac (s : State) (d : Nat) (x : Dac) (i : Nat) : (s.setDac d x).reg i = s.reg i := rfl

@[simp] theorem State.engine_setDac (s : State) (d : Nat) (x : Dac) (i : Nat) : (s.setDac d x).engine i = s.engine i := rfl

@[simp] theorem State.context_setDac (s : State) (d : Nat) (x : Dac) (i : Nat) : (s.setDac d x).context i = s.context i := rfl

@[simp] theorem State.stream_setDac (s : State) (d : Nat) (x : Dac) (i : Nat) : (s.setDac d x).stream i = s.stream i := rfl

@[simp] theorem State.setGrp_fields (s : State) (g : Nat) (x : DacGrp) :
    (s.setGrp g x).pending = s.pending ∧ (s.setGrp g x).now = s.now ∧ (s.setGrp g x).freeCtr = s.freeCtr ∧
    (s.setGrp g x).regs = s.regs ∧ (s.setGrp g x).latches = s.latches ∧ (s.setGrp g x).rdata = s.rdata ∧
    (s.setGrp g x).eng = s.eng ∧ (s.setGrp g x).chainNow = s.chainNow ∧ (s.setGrp g x).chainId = s.chainId ∧
    (s.setGrp g x).chainFrz = s.chainFrz ∧ (s.setGrp g x).chainTorn = s.chainTorn ∧ (s.setGrp g x).chainIn = s.chainIn ∧
    (s.setGrp g x).fab = s.fab ∧ (s.setGrp g x).tick = s.tick ∧ (s.setGrp g x).par = s.par ∧ (s.setGrp g x).cal = s.cal ∧
    (s.setGrp g x).res = s.res ∧ (s.setGrp g x).ctx = s.ctx ∧ (s.setGrp g x).mode = s.mode ∧ (s.setGrp g x).route = s.route ∧
    (s.setGrp g x).mov = s.mov ∧ (s.setGrp g x).pcie = s.pcie ∧ (s.setGrp g x).clk = s.clk ∧ (s.setGrp g x).keep = s.keep ∧
    (s.setGrp g x).pwr = s.pwr ∧ (s.setGrp g x).ngx = s.ngx ∧ (s.setGrp g x).boot = s.boot ∧ (s.setGrp g x).spim = s.spim ∧
    (s.setGrp g x).spis = s.spis ∧ (s.setGrp g x).test = s.test ∧ (s.setGrp g x).tap = s.tap ∧
    (s.setGrp g x).gpio = s.gpio := by
  refine ⟨rfl, rfl, rfl, rfl, rfl, rfl, rfl, rfl, rfl, rfl, rfl, rfl, rfl, rfl, rfl, rfl, rfl, rfl, rfl, rfl, rfl, rfl, rfl, rfl, rfl, rfl, rfl, rfl, rfl, rfl, rfl, rfl⟩

@[simp] theorem State.reg_setGrp (s : State) (g : Nat) (x : DacGrp) (i : Nat) : (s.setGrp g x).reg i = s.reg i := rfl

@[simp] theorem State.engine_setGrp (s : State) (g : Nat) (x : DacGrp) (i : Nat) : (s.setGrp g x).engine i = s.engine i := rfl

@[simp] theorem State.context_setGrp (s : State) (g : Nat) (x : DacGrp) (i : Nat) : (s.setGrp g x).context i = s.context i := rfl

@[simp] theorem State.stream_setGrp (s : State) (g : Nat) (x : DacGrp) (i : Nat) : (s.setGrp g x).stream i = s.stream i := rfl

@[simp] theorem State.modBoot_fields (s : State) (f : BootState → BootState) :
    (s.modBoot f).pending = s.pending ∧ (s.modBoot f).now = s.now ∧ (s.modBoot f).freeCtr = s.freeCtr ∧
    (s.modBoot f).regs = s.regs ∧ (s.modBoot f).latches = s.latches ∧ (s.modBoot f).rdata = s.rdata ∧
    (s.modBoot f).eng = s.eng ∧ (s.modBoot f).chainNow = s.chainNow ∧ (s.modBoot f).chainId = s.chainId ∧
    (s.modBoot f).chainFrz = s.chainFrz ∧ (s.modBoot f).chainTorn = s.chainTorn ∧ (s.modBoot f).chainIn = s.chainIn ∧
    (s.modBoot f).fab = s.fab ∧ (s.modBoot f).tick = s.tick ∧ (s.modBoot f).par = s.par ∧ (s.modBoot f).cal = s.cal ∧
    (s.modBoot f).res = s.res ∧ (s.modBoot f).ctx = s.ctx ∧ (s.modBoot f).mode = s.mode ∧ (s.modBoot f).route = s.route ∧
    (s.modBoot f).mov = s.mov ∧ (s.modBoot f).port = s.port ∧ (s.modBoot f).pcie = s.pcie ∧ (s.modBoot f).clk = s.clk ∧
    (s.modBoot f).keep = s.keep ∧ (s.modBoot f).pwr = s.pwr ∧ (s.modBoot f).ngx = s.ngx ∧ (s.modBoot f).spim = s.spim ∧
    (s.modBoot f).spis = s.spis ∧ (s.modBoot f).test = s.test ∧ (s.modBoot f).tap = s.tap ∧ (s.modBoot f).gpio = s.gpio := by
  refine ⟨rfl, rfl, rfl, rfl, rfl, rfl, rfl, rfl, rfl, rfl, rfl, rfl, rfl, rfl, rfl, rfl, rfl, rfl, rfl, rfl, rfl, rfl, rfl, rfl, rfl, rfl, rfl, rfl, rfl, rfl, rfl, rfl⟩

@[simp] theorem State.reg_modBoot (s : State) (f : BootState → BootState) (i : Nat) : (s.modBoot f).reg i = s.reg i := rfl

@[simp] theorem State.engine_modBoot (s : State) (f : BootState → BootState) (i : Nat) : (s.modBoot f).engine i = s.engine i := rfl

@[simp] theorem State.context_modBoot (s : State) (f : BootState → BootState) (i : Nat) : (s.modBoot f).context i = s.context i := rfl

@[simp] theorem State.stream_modBoot (s : State) (f : BootState → BootState) (i : Nat) : (s.modBoot f).stream i = s.stream i := rfl

@[simp] theorem State.modNgx_fields (s : State) (f : NgxState → NgxState) :
    (s.modNgx f).pending = s.pending ∧ (s.modNgx f).now = s.now ∧ (s.modNgx f).freeCtr = s.freeCtr ∧
    (s.modNgx f).regs = s.regs ∧ (s.modNgx f).latches = s.latches ∧ (s.modNgx f).rdata = s.rdata ∧ (s.modNgx f).eng = s.eng ∧
    (s.modNgx f).chainNow = s.chainNow ∧ (s.modNgx f).chainId = s.chainId ∧ (s.modNgx f).chainFrz = s.chainFrz ∧
    (s.modNgx f).chainTorn = s.chainTorn ∧ (s.modNgx f).chainIn = s.chainIn ∧ (s.modNgx f).fab = s.fab ∧
    (s.modNgx f).tick = s.tick ∧ (s.modNgx f).par = s.par ∧ (s.modNgx f).cal = s.cal ∧ (s.modNgx f).res = s.res ∧
    (s.modNgx f).ctx = s.ctx ∧ (s.modNgx f).mode = s.mode ∧ (s.modNgx f).route = s.route ∧ (s.modNgx f).mov = s.mov ∧
    (s.modNgx f).port = s.port ∧ (s.modNgx f).pcie = s.pcie ∧ (s.modNgx f).clk = s.clk ∧ (s.modNgx f).keep = s.keep ∧
    (s.modNgx f).pwr = s.pwr ∧ (s.modNgx f).boot = s.boot ∧ (s.modNgx f).spim = s.spim ∧ (s.modNgx f).spis = s.spis ∧
    (s.modNgx f).test = s.test ∧ (s.modNgx f).tap = s.tap ∧ (s.modNgx f).gpio = s.gpio := by
  refine ⟨rfl, rfl, rfl, rfl, rfl, rfl, rfl, rfl, rfl, rfl, rfl, rfl, rfl, rfl, rfl, rfl, rfl, rfl, rfl, rfl, rfl, rfl, rfl, rfl, rfl, rfl, rfl, rfl, rfl, rfl, rfl, rfl⟩

@[simp] theorem State.reg_modNgx (s : State) (f : NgxState → NgxState) (i : Nat) : (s.modNgx f).reg i = s.reg i := rfl

@[simp] theorem State.engine_modNgx (s : State) (f : NgxState → NgxState) (i : Nat) : (s.modNgx f).engine i = s.engine i := rfl

@[simp] theorem State.context_modNgx (s : State) (f : NgxState → NgxState) (i : Nat) : (s.modNgx f).context i = s.context i := rfl

@[simp] theorem State.stream_modNgx (s : State) (f : NgxState → NgxState) (i : Nat) : (s.modNgx f).stream i = s.stream i := rfl

@[simp] theorem State.modKeep_fields (s : State) (f : KeepState → KeepState) :
    (s.modKeep f).pending = s.pending ∧ (s.modKeep f).now = s.now ∧ (s.modKeep f).freeCtr = s.freeCtr ∧
    (s.modKeep f).regs = s.regs ∧ (s.modKeep f).latches = s.latches ∧ (s.modKeep f).rdata = s.rdata ∧
    (s.modKeep f).eng = s.eng ∧ (s.modKeep f).chainNow = s.chainNow ∧ (s.modKeep f).chainId = s.chainId ∧
    (s.modKeep f).chainFrz = s.chainFrz ∧ (s.modKeep f).chainTorn = s.chainTorn ∧ (s.modKeep f).chainIn = s.chainIn ∧
    (s.modKeep f).fab = s.fab ∧ (s.modKeep f).tick = s.tick ∧ (s.modKeep f).par = s.par ∧ (s.modKeep f).cal = s.cal ∧
    (s.modKeep f).res = s.res ∧ (s.modKeep f).ctx = s.ctx ∧ (s.modKeep f).mode = s.mode ∧ (s.modKeep f).route = s.route ∧
    (s.modKeep f).mov = s.mov ∧ (s.modKeep f).port = s.port ∧ (s.modKeep f).pcie = s.pcie ∧ (s.modKeep f).clk = s.clk ∧
    (s.modKeep f).pwr = s.pwr ∧ (s.modKeep f).ngx = s.ngx ∧ (s.modKeep f).boot = s.boot ∧ (s.modKeep f).spim = s.spim ∧
    (s.modKeep f).spis = s.spis ∧ (s.modKeep f).test = s.test ∧ (s.modKeep f).tap = s.tap ∧ (s.modKeep f).gpio = s.gpio := by
  refine ⟨rfl, rfl, rfl, rfl, rfl, rfl, rfl, rfl, rfl, rfl, rfl, rfl, rfl, rfl, rfl, rfl, rfl, rfl, rfl, rfl, rfl, rfl, rfl, rfl, rfl, rfl, rfl, rfl, rfl, rfl, rfl, rfl⟩

@[simp] theorem State.reg_modKeep (s : State) (f : KeepState → KeepState) (i : Nat) : (s.modKeep f).reg i = s.reg i := rfl

@[simp] theorem State.engine_modKeep (s : State) (f : KeepState → KeepState) (i : Nat) : (s.modKeep f).engine i = s.engine i := rfl

@[simp] theorem State.context_modKeep (s : State) (f : KeepState → KeepState) (i : Nat) : (s.modKeep f).context i = s.context i := rfl

@[simp] theorem State.stream_modKeep (s : State) (f : KeepState → KeepState) (i : Nat) : (s.modKeep f).stream i = s.stream i := rfl

@[simp] theorem State.engine_setEngine (s : State) (e : Nat) (x : Engine) (i : Nat) :
    (s.setEngine e x).engine i = if i = e then x else s.engine i := SMap.get_set ..

@[simp] theorem State.engine_modEngine (s : State) (e : Nat) (f : Engine → Engine) (i : Nat) :
    (s.modEngine e f).engine i = if i = e then f (s.engine e) else s.engine i := SMap.get_set ..

@[simp] theorem State.context_setContext (s : State) (c : Nat) (x : Ctx) (i : Nat) :
    (s.setContext c x).context i = if i = c then x else s.context i := SMap.get_set ..

@[simp] theorem State.context_modContext (s : State) (c : Nat) (f : Ctx → Ctx) (i : Nat) :
    (s.modContext c f).context i = if i = c then f (s.context c) else s.context i := SMap.get_set ..

@[simp] theorem State.stream_setStream (s : State) (r : Nat) (x : Option Stream) (i : Nat) :
    (s.setStream r x).stream i = if i = r then x else s.stream i := SMap.get_set ..

@[simp] theorem State.bank_setBank (s : State) (b : Nat) (x : Bank) (i : Nat) :
    (s.setBank b x).bank i = if i = b then x else s.bank i := SMap.get_set ..

@[simp] theorem State.line_setLine (s : State) (n : Nat) (l : Line) (i : Nat) :
    (s.setLine n l).line i = if i = n then l else s.line i := SMap.get_set ..

@[simp] theorem State.dac_setDac (s : State) (d : Nat) (x : Dac) (i : Nat) :
    (s.setDac d x).dac i = if i = d then x else s.dac i := SMap.get_set ..

@[simp] theorem State.grp_setGrp (s : State) (g : Nat) (x : DacGrp) (i : Nat) :
    (s.setGrp g x).grp i = if i = g then x else s.grp i := SMap.get_set ..

end Sys2Proof.Machine
end

