-- ==== Sys2Proof/Laws/Desc.lean ====
section
/-! SUPPORT. Laws of descriptors: what the search for an open descriptor finds after an update, and what ending one leaves. -/

namespace Sys2Proof.Machine

theorem State.context_setContext_same (s : State) (c : Nat) (x : Ctx) : (s.setContext c x).context c = x := SMap.get_set_same ..

theorem State.context_setContext_other (s : State) {c k : Nat} (x : Ctx) (h : k ≠ c) : (s.setContext c x).context k = s.context k :=
  SMap.get_set_other _ h ..

/-- A descriptor found after an update of descriptor `q` is the one found before, updated. -/
theorem State.findDesc_modDesc (s : State) (c q : Nat) (f : OpenDesc → OpenDesc) (hf : ∀ d, (f d).seq = d.seq) :
    (s.modDesc c q f).findDesc c q = (s.findDesc c q).map f := by
  unfold State.findDesc State.modDesc State.modContext
  rw [State.context_setContext_same]
  dsimp only
  induction (s.context c).opens with
  | nil => rfl
  | cons d l ih =>
    by_cases h : d.seq = q
    · simp [h, hf]
    · simp only [List.map_cons, if_neg h, List.find?_cons]
      have : (d.seq == q) = false := by simp [h]
      rw [this]
      exact ih

/-- What dispatch has found (R367). -/
theorem State.ready_spec {s : State} {c q t : Nat} {d : OpenDesc} (h : s.ready c q t = some d) :
    s.findDesc c q = some d ∧ d.seq = q ∧ d.typ = t ∧ d.started = false ∧ d.result = none ∧
    mayStart ((s.context c).opens.takeWhile fun p => p.seq != q) d = true := by
  unfold State.ready at h
  extract_lets os at h
  split at h
  · cases h
  · rename_i d' hd
    split at h
    · rename_i hc
      cases h
      simp only [Bool.and_eq_true, decide_eq_true_eq, Bool.not_eq_true', Option.isNone_iff_eq_none] at hc
      have hs := List.find?_some hd
      exact ⟨hd, by simpa using hs, hc.1.1.1, hc.1.1.2, hc.1.2, hc.2⟩
    · cases h

/-- A descriptor that ends has started, has won its grant, and has its status unless it had one. -/
theorem State.findDesc_finish {s : State} {c q : Nat} {d : OpenDesc} (h : s.findDesc c q = some d) (hr : d.result = none) (code : Nat) :
    (s.finish c q code).findDesc c q = some { d with started := true, granted := true, result := some code } := by
  unfold State.finish State.setResult
  rw [State.findDesc_modDesc _ _ _ _ (by intro d; split <;> rfl)]
  unfold State.grant
  rw [State.findDesc_modDesc _ _ _ _ (by intro d; rfl), h]
  simp [hr]

/-- Ending a descriptor changes its context only. -/
theorem State.finish_frame (s : State) (c q code : Nat) : Kept { ctx := true } s (s.finish c q code) :=
  State.finish_kept rfl (Kept.refl s)

theorem State.findDesc_finish_ready {s : State} {c q t : Nat} {d : OpenDesc} (h : s.ready c q t = some d) (code : Nat) :
    (s.finish c q code).findDesc c q = some { d with started := true, granted := true, result := some code } := by
  obtain ⟨h1, _, _, _, h5, _⟩ := State.ready_spec h
  exact State.findDesc_finish h1 h5 code

theorem State.ended_finish {s : State} {c q t : Nat} {d : OpenDesc} (h : s.ready c q t = some d) (code : Nat) :
    (s.finish c q code).ended c q code := by
  unfold State.ended
  rw [State.findDesc_finish_ready h]
  rfl

end Sys2Proof.Machine
end

