-- ==== Sys2Proof/Laws/KeptEngine.lean ====
section
/-! SUPPORT. What the operations and meanings of Machine/Engine.lean keep (Laws/Kept.lean). -/

namespace Sys2Proof.Machine

theorem execIllegalWord_kept {M : Mask} {z₀ : State} {e : Fin 32} {s : State} (m_regs : M.regs = true) (m_eng : M.eng = true)
    (m_chainTorn : M.chainTorn = true) (m_fab : M.fab = true) (m_cal : M.cal = true) (m_ctx : M.ctx = true) (m_pcie : M.pcie
    = true) (m_ngx : M.ngx = true) (h1 : Kept M z₀ s) : OutOk M z₀ (@execIllegalWord e s) := by
  unfold execIllegalWord
  split
  · exact OutOk.next (by assumption)
  · extract_lets x0 x1 x2
    clear_value x0 x1 x2
    refine ite_ok ?_ ?_
    · exact OutOk.next (by assumption)
    · exact OutOk.next (State.faultAt_kept m_regs m_eng m_chainTorn m_fab m_cal m_ctx m_pcie m_ngx (State.setReg_kept m_regs
        (by assumption)))

theorem State.deliverFar_kept {M : Mask} {z₀ : State} {s : State} {e : Nat} {n : Nat} (m_regs : M.regs = true) (m_eng : M.eng
    = true) (h0 : Kept M z₀ s) : Kept M z₀ (@State.deliverFar s e n) := by
  induction n generalizing s with
  | zero => exact h0
  | succ n ih =>
    unfold State.deliverFar
    split
    · exact h0
    · split
      · exact h0
      · extract_lets v x1 x2 x3
        have k1 : Kept M z₀ x1 := State.modEngine_kept m_eng h0
        clear_value x1
        have k2 : Kept M z₀ x2 := by
          dsimp -zeta only [x2]
          split
          · exact State.land_kept m_regs m_eng k1
          · exact k1
        clear_value x2
        have k3 : Kept M z₀ x3 := by
          dsimp -zeta only [x3]
          split
          · exact State.land_kept m_regs m_eng k2
          · exact k2
        clear_value x3
        exact ih k3

theorem execFarReturnArrival_kept {M : Mask} {z₀ : State} {e : Fin 32} {s : State} (m_regs : M.regs = true) (m_eng : M.eng =
    true) (h1 : Kept M z₀ s) : OutOk M z₀ (@execFarReturnArrival e s) := by
  unfold execFarReturnArrival
  split
  · exact OutOk.next (by assumption)
  · extract_lets x0
    have k1 : Kept M z₀ x0 := by
      dsimp -zeta only [x0]
      exact State.modEngine_kept m_eng (by assumption)
    clear_value x0
    exact OutOk.next (State.deliverFar_kept m_regs m_eng (by assumption))

theorem execWriteQueueRetire_kept {M : Mask} {z₀ : State} {e : Fin 32} {s : State} (m_regs : M.regs = true) (m_eng : M.eng =
    true) (m_cal : M.cal = true) (h1 : Kept M z₀ s) : OutOk M z₀ (@execWriteQueueRetire e s) := by
  unfold execWriteQueueRetire
  extract_lets x0 x1
  clear_value x0
  have k2 : Kept M z₀ x1 := by
    dsimp -zeta only [x1]
    exact State.emptyCycle_kept m_regs m_eng m_cal (by assumption)
  clear_value x1
  refine OutOk.next ?_
  refine ite_kept ?_ ?_
  · exact State.modEngine_kept m_eng (by assumption)
  · assumption

theorem execFstw_kept {M : Mask} {z₀ : State} {e : Fin 32} {s : State} (m_regs : M.regs = true) (m_eng : M.eng = true)
    (m_chainNow : M.chainNow = true) (m_chainId : M.chainId = true) (m_chainTorn : M.chainTorn = true) (m_fab : M.fab = true)
    (m_cal : M.cal = true) (m_ctx : M.ctx = true) (m_pcie : M.pcie = true) (m_keep : M.keep = true) (m_ngx : M.ngx = true)
    (h1 : Kept M z₀ s) : OutOk M z₀ (@execFstw e s) := by
  unfold execFstw
  exact OutOk.next (State.issue_kept m_regs m_eng m_chainNow m_chainId m_chainTorn m_fab m_cal m_ctx m_pcie m_keep m_ngx (by
      assumption))

theorem execFst_kept {M : Mask} {z₀ : State} {e : Fin 32} {s : State} (m_regs : M.regs = true) (m_eng : M.eng = true)
    (m_chainNow : M.chainNow = true) (m_chainId : M.chainId = true) (m_chainTorn : M.chainTorn = true) (m_fab : M.fab = true)
    (m_cal : M.cal = true) (m_ctx : M.ctx = true) (m_pcie : M.pcie = true) (m_keep : M.keep = true) (m_ngx : M.ngx = true)
    (h1 : Kept M z₀ s) : OutOk M z₀ (@execFst e s) := by
  unfold execFst
  exact OutOk.next (State.issue_kept m_regs m_eng m_chainNow m_chainId m_chainTorn m_fab m_cal m_ctx m_pcie m_keep m_ngx (by
      assumption))

theorem execFldw_kept {M : Mask} {z₀ : State} {e : Fin 32} {s : State} (m_regs : M.regs = true) (m_eng : M.eng = true)
    (m_chainNow : M.chainNow = true) (m_chainId : M.chainId = true) (m_chainTorn : M.chainTorn = true) (m_fab : M.fab = true)
    (m_cal : M.cal = true) (m_ctx : M.ctx = true) (m_pcie : M.pcie = true) (m_keep : M.keep = true) (m_ngx : M.ngx = true)
    (h1 : Kept M z₀ s) : OutOk M z₀ (@execFldw e s) := by
  unfold execFldw
  exact OutOk.next (State.issue_kept m_regs m_eng m_chainNow m_chainId m_chainTorn m_fab m_cal m_ctx m_pcie m_keep m_ngx (by
      assumption))

theorem execFld_kept {M : Mask} {z₀ : State} {e : Fin 32} {s : State} (m_regs : M.regs = true) (m_eng : M.eng = true)
    (m_chainNow : M.chainNow = true) (m_chainId : M.chainId = true) (m_chainTorn : M.chainTorn = true) (m_fab : M.fab = true)
    (m_cal : M.cal = true) (m_ctx : M.ctx = true) (m_pcie : M.pcie = true) (m_keep : M.keep = true) (m_ngx : M.ngx = true)
    (h1 : Kept M z₀ s) : OutOk M z₀ (@execFld e s) := by
  unfold execFld
  exact OutOk.next (State.issue_kept m_regs m_eng m_chainNow m_chainId m_chainTorn m_fab m_cal m_ctx m_pcie m_keep m_ngx (by
      assumption))

theorem execDbnz_kept {M : Mask} {z₀ : State} {e : Fin 32} {s : State} (m_regs : M.regs = true) (m_eng : M.eng = true)
    (m_chainNow : M.chainNow = true) (m_chainId : M.chainId = true) (m_chainTorn : M.chainTorn = true) (m_fab : M.fab = true)
    (m_cal : M.cal = true) (m_ctx : M.ctx = true) (m_pcie : M.pcie = true) (m_keep : M.keep = true) (m_ngx : M.ngx = true)
    (h1 : Kept M z₀ s) : OutOk M z₀ (@execDbnz e s) := by
  unfold execDbnz
  exact OutOk.next (State.issue_kept m_regs m_eng m_chainNow m_chainId m_chainTorn m_fab m_cal m_ctx m_pcie m_keep m_ngx (by
      assumption))

theorem execBr_kept {M : Mask} {z₀ : State} {e : Fin 32} {s : State} (m_regs : M.regs = true) (m_eng : M.eng = true)
    (m_chainNow : M.chainNow = true) (m_chainId : M.chainId = true) (m_chainTorn : M.chainTorn = true) (m_fab : M.fab = true)
    (m_cal : M.cal = true) (m_ctx : M.ctx = true) (m_pcie : M.pcie = true) (m_keep : M.keep = true) (m_ngx : M.ngx = true)
    (h1 : Kept M z₀ s) : OutOk M z₀ (@execBr e s) := by
  unfold execBr
  exact OutOk.next (State.issue_kept m_regs m_eng m_chainNow m_chainId m_chainTorn m_fab m_cal m_ctx m_pcie m_keep m_ngx (by
      assumption))

theorem execFlgc_kept {M : Mask} {z₀ : State} {e : Fin 32} {s : State} (m_regs : M.regs = true) (m_eng : M.eng = true)
    (m_chainNow : M.chainNow = true) (m_chainId : M.chainId = true) (m_chainTorn : M.chainTorn = true) (m_fab : M.fab = true)
    (m_cal : M.cal = true) (m_ctx : M.ctx = true) (m_pcie : M.pcie = true) (m_keep : M.keep = true) (m_ngx : M.ngx = true)
    (h1 : Kept M z₀ s) : OutOk M z₀ (@execFlgc e s) := by
  unfold execFlgc
  exact OutOk.next (State.issue_kept m_regs m_eng m_chainNow m_chainId m_chainTorn m_fab m_cal m_ctx m_pcie m_keep m_ngx (by
      assumption))

theorem execAadr_kept {M : Mask} {z₀ : State} {e : Fin 32} {s : State} (m_regs : M.regs = true) (m_eng : M.eng = true)
    (m_chainNow : M.chainNow = true) (m_chainId : M.chainId = true) (m_chainTorn : M.chainTorn = true) (m_fab : M.fab = true)
    (m_cal : M.cal = true) (m_ctx : M.ctx = true) (m_pcie : M.pcie = true) (m_keep : M.keep = true) (m_ngx : M.ngx = true)
    (h1 : Kept M z₀ s) : OutOk M z₀ (@execAadr e s) := by
  unfold execAadr
  exact OutOk.next (State.issue_kept m_regs m_eng m_chainNow m_chainId m_chainTorn m_fab m_cal m_ctx m_pcie m_keep m_ngx (by
      assumption))

theorem execMvs_kept {M : Mask} {z₀ : State} {e : Fin 32} {s : State} (m_regs : M.regs = true) (m_eng : M.eng = true)
    (m_chainNow : M.chainNow = true) (m_chainId : M.chainId = true) (m_chainTorn : M.chainTorn = true) (m_fab : M.fab = true)
    (m_cal : M.cal = true) (m_ctx : M.ctx = true) (m_pcie : M.pcie = true) (m_keep : M.keep = true) (m_ngx : M.ngx = true)
    (h1 : Kept M z₀ s) : OutOk M z₀ (@execMvs e s) := by
  unfold execMvs
  exact OutOk.next (State.issue_kept m_regs m_eng m_chainNow m_chainId m_chainTorn m_fab m_cal m_ctx m_pcie m_keep m_ngx (by
      assumption))

theorem execLdi_kept {M : Mask} {z₀ : State} {e : Fin 32} {s : State} (m_regs : M.regs = true) (m_eng : M.eng = true)
    (m_chainNow : M.chainNow = true) (m_chainId : M.chainId = true) (m_chainTorn : M.chainTorn = true) (m_fab : M.fab = true)
    (m_cal : M.cal = true) (m_ctx : M.ctx = true) (m_pcie : M.pcie = true) (m_keep : M.keep = true) (m_ngx : M.ngx = true)
    (h1 : Kept M z₀ s) : OutOk M z₀ (@execLdi e s) := by
  unfold execLdi
  exact OutOk.next (State.issue_kept m_regs m_eng m_chainNow m_chainId m_chainTorn m_fab m_cal m_ctx m_pcie m_keep m_ngx (by
      assumption))

theorem execGop_kept {M : Mask} {z₀ : State} {e : Fin 32} {s : State} (m_regs : M.regs = true) (m_eng : M.eng = true)
    (m_chainNow : M.chainNow = true) (m_chainId : M.chainId = true) (m_chainTorn : M.chainTorn = true) (m_fab : M.fab = true)
    (m_cal : M.cal = true) (m_ctx : M.ctx = true) (m_pcie : M.pcie = true) (m_keep : M.keep = true) (m_ngx : M.ngx = true)
    (h1 : Kept M z₀ s) : OutOk M z₀ (@execGop e s) := by
  unfold execGop
  exact OutOk.next (State.issue_kept m_regs m_eng m_chainNow m_chainId m_chainTorn m_fab m_cal m_ctx m_pcie m_keep m_ngx (by
      assumption))

theorem execStg_kept {M : Mask} {z₀ : State} {e : Fin 32} {s : State} (m_regs : M.regs = true) (m_eng : M.eng = true)
    (m_chainNow : M.chainNow = true) (m_chainId : M.chainId = true) (m_chainTorn : M.chainTorn = true) (m_fab : M.fab = true)
    (m_cal : M.cal = true) (m_ctx : M.ctx = true) (m_pcie : M.pcie = true) (m_keep : M.keep = true) (m_ngx : M.ngx = true)
    (h1 : Kept M z₀ s) : OutOk M z₀ (@execStg e s) := by
  unfold execStg
  exact OutOk.next (State.issue_kept m_regs m_eng m_chainNow m_chainId m_chainTorn m_fab m_cal m_ctx m_pcie m_keep m_ngx (by
      assumption))

theorem execStq_kept {M : Mask} {z₀ : State} {e : Fin 32} {s : State} (m_regs : M.regs = true) (m_eng : M.eng = true)
    (m_chainNow : M.chainNow = true) (m_chainId : M.chainId = true) (m_chainTorn : M.chainTorn = true) (m_fab : M.fab = true)
    (m_cal : M.cal = true) (m_ctx : M.ctx = true) (m_pcie : M.pcie = true) (m_keep : M.keep = true) (m_ngx : M.ngx = true)
    (h1 : Kept M z₀ s) : OutOk M z₀ (@execStq e s) := by
  unfold execStq
  exact OutOk.next (State.issue_kept m_regs m_eng m_chainNow m_chainId m_chainTorn m_fab m_cal m_ctx m_pcie m_keep m_ngx (by
      assumption))

theorem execLdg_kept {M : Mask} {z₀ : State} {e : Fin 32} {s : State} (m_regs : M.regs = true) (m_eng : M.eng = true)
    (m_chainNow : M.chainNow = true) (m_chainId : M.chainId = true) (m_chainTorn : M.chainTorn = true) (m_fab : M.fab = true)
    (m_cal : M.cal = true) (m_ctx : M.ctx = true) (m_pcie : M.pcie = true) (m_keep : M.keep = true) (m_ngx : M.ngx = true)
    (h1 : Kept M z₀ s) : OutOk M z₀ (@execLdg e s) := by
  unfold execLdg
  exact OutOk.next (State.issue_kept m_regs m_eng m_chainNow m_chainId m_chainTorn m_fab m_cal m_ctx m_pcie m_keep m_ngx (by
      assumption))

theorem execLdq_kept {M : Mask} {z₀ : State} {e : Fin 32} {s : State} (m_regs : M.regs = true) (m_eng : M.eng = true)
    (m_chainNow : M.chainNow = true) (m_chainId : M.chainId = true) (m_chainTorn : M.chainTorn = true) (m_fab : M.fab = true)
    (m_cal : M.cal = true) (m_ctx : M.ctx = true) (m_pcie : M.pcie = true) (m_keep : M.keep = true) (m_ngx : M.ngx = true)
    (h1 : Kept M z₀ s) : OutOk M z₀ (@execLdq e s) := by
  unfold execLdq
  exact OutOk.next (State.issue_kept m_regs m_eng m_chainNow m_chainId m_chainTorn m_fab m_cal m_ctx m_pcie m_keep m_ngx (by
      assumption))

theorem execChr_kept {M : Mask} {z₀ : State} {e : Fin 32} {s : State} (m_regs : M.regs = true) (m_eng : M.eng = true)
    (m_chainNow : M.chainNow = true) (m_chainId : M.chainId = true) (m_chainTorn : M.chainTorn = true) (m_fab : M.fab = true)
    (m_cal : M.cal = true) (m_ctx : M.ctx = true) (m_pcie : M.pcie = true) (m_keep : M.keep = true) (m_ngx : M.ngx = true)
    (h1 : Kept M z₀ s) : OutOk M z₀ (@execChr e s) := by
  unfold execChr
  exact OutOk.next (State.issue_kept m_regs m_eng m_chainNow m_chainId m_chainTorn m_fab m_cal m_ctx m_pcie m_keep m_ngx (by
      assumption))

theorem execChw_kept {M : Mask} {z₀ : State} {e : Fin 32} {s : State} (m_regs : M.regs = true) (m_eng : M.eng = true)
    (m_chainNow : M.chainNow = true) (m_chainId : M.chainId = true) (m_chainTorn : M.chainTorn = true) (m_fab : M.fab = true)
    (m_cal : M.cal = true) (m_ctx : M.ctx = true) (m_pcie : M.pcie = true) (m_keep : M.keep = true) (m_ngx : M.ngx = true)
    (h1 : Kept M z₀ s) : OutOk M z₀ (@execChw e s) := by
  unfold execChw
  exact OutOk.next (State.issue_kept m_regs m_eng m_chainNow m_chainId m_chainTorn m_fab m_cal m_ctx m_pcie m_keep m_ngx (by
      assumption))

theorem execPset_kept {M : Mask} {z₀ : State} {e : Fin 32} {s : State} (m_regs : M.regs = true) (m_eng : M.eng = true)
    (m_chainNow : M.chainNow = true) (m_chainId : M.chainId = true) (m_chainTorn : M.chainTorn = true) (m_fab : M.fab = true)
    (m_cal : M.cal = true) (m_ctx : M.ctx = true) (m_pcie : M.pcie = true) (m_keep : M.keep = true) (m_ngx : M.ngx = true)
    (h1 : Kept M z₀ s) : OutOk M z₀ (@execPset e s) := by
  unfold execPset
  exact OutOk.next (State.issue_kept m_regs m_eng m_chainNow m_chainId m_chainTorn m_fab m_cal m_ctx m_pcie m_keep m_ngx (by
      assumption))

theorem execPcmp_kept {M : Mask} {z₀ : State} {e : Fin 32} {s : State} (m_regs : M.regs = true) (m_eng : M.eng = true)
    (m_chainNow : M.chainNow = true) (m_chainId : M.chainId = true) (m_chainTorn : M.chainTorn = true) (m_fab : M.fab = true)
    (m_cal : M.cal = true) (m_ctx : M.ctx = true) (m_pcie : M.pcie = true) (m_keep : M.keep = true) (m_ngx : M.ngx = true)
    (h1 : Kept M z₀ s) : OutOk M z₀ (@execPcmp e s) := by
  unfold execPcmp
  exact OutOk.next (State.issue_kept m_regs m_eng m_chainNow m_chainId m_chainTorn m_fab m_cal m_ctx m_pcie m_keep m_ngx (by
      assumption))

theorem execSel_kept {M : Mask} {z₀ : State} {e : Fin 32} {s : State} (m_regs : M.regs = true) (m_eng : M.eng = true)
    (m_chainNow : M.chainNow = true) (m_chainId : M.chainId = true) (m_chainTorn : M.chainTorn = true) (m_fab : M.fab = true)
    (m_cal : M.cal = true) (m_ctx : M.ctx = true) (m_pcie : M.pcie = true) (m_keep : M.keep = true) (m_ngx : M.ngx = true)
    (h1 : Kept M z₀ s) : OutOk M z₀ (@execSel e s) := by
  unfold execSel
  exact OutOk.next (State.issue_kept m_regs m_eng m_chainNow m_chainId m_chainTorn m_fab m_cal m_ctx m_pcie m_keep m_ngx (by
      assumption))

theorem execQxf_kept {M : Mask} {z₀ : State} {e : Fin 32} {s : State} (m_regs : M.regs = true) (m_eng : M.eng = true)
    (m_chainNow : M.chainNow = true) (m_chainId : M.chainId = true) (m_chainTorn : M.chainTorn = true) (m_fab : M.fab = true)
    (m_cal : M.cal = true) (m_ctx : M.ctx = true) (m_pcie : M.pcie = true) (m_keep : M.keep = true) (m_ngx : M.ngx = true)
    (h1 : Kept M z₀ s) : OutOk M z₀ (@execQxf e s) := by
  unfold execQxf
  exact OutOk.next (State.issue_kept m_regs m_eng m_chainNow m_chainId m_chainTorn m_fab m_cal m_ctx m_pcie m_keep m_ngx (by
      assumption))

theorem execQop_kept {M : Mask} {z₀ : State} {e : Fin 32} {s : State} (m_regs : M.regs = true) (m_eng : M.eng = true)
    (m_chainNow : M.chainNow = true) (m_chainId : M.chainId = true) (m_chainTorn : M.chainTorn = true) (m_fab : M.fab = true)
    (m_cal : M.cal = true) (m_ctx : M.ctx = true) (m_pcie : M.pcie = true) (m_keep : M.keep = true) (m_ngx : M.ngx = true)
    (h1 : Kept M z₀ s) : OutOk M z₀ (@execQop e s) := by
  unfold execQop
  exact OutOk.next (State.issue_kept m_regs m_eng m_chainNow m_chainId m_chainTorn m_fab m_cal m_ctx m_pcie m_keep m_ngx (by
      assumption))

theorem execAacc_kept {M : Mask} {z₀ : State} {e : Fin 32} {s : State} (m_regs : M.regs = true) (m_eng : M.eng = true)
    (m_chainNow : M.chainNow = true) (m_chainId : M.chainId = true) (m_chainTorn : M.chainTorn = true) (m_fab : M.fab = true)
    (m_cal : M.cal = true) (m_ctx : M.ctx = true) (m_pcie : M.pcie = true) (m_keep : M.keep = true) (m_ngx : M.ngx = true)
    (h1 : Kept M z₀ s) : OutOk M z₀ (@execAacc e s) := by
  unfold execAacc
  exact OutOk.next (State.issue_kept m_regs m_eng m_chainNow m_chainId m_chainTorn m_fab m_cal m_ctx m_pcie m_keep m_ngx (by
      assumption))

theorem execAraw_kept {M : Mask} {z₀ : State} {e : Fin 32} {s : State} (m_regs : M.regs = true) (m_eng : M.eng = true)
    (m_chainNow : M.chainNow = true) (m_chainId : M.chainId = true) (m_chainTorn : M.chainTorn = true) (m_fab : M.fab = true)
    (m_cal : M.cal = true) (m_ctx : M.ctx = true) (m_pcie : M.pcie = true) (m_keep : M.keep = true) (m_ngx : M.ngx = true)
    (h1 : Kept M z₀ s) : OutOk M z₀ (@execAraw e s) := by
  unfold execAraw
  exact OutOk.next (State.issue_kept m_regs m_eng m_chainNow m_chainId m_chainTorn m_fab m_cal m_ctx m_pcie m_keep m_ngx (by
      assumption))

theorem execLda_kept {M : Mask} {z₀ : State} {e : Fin 32} {s : State} (m_regs : M.regs = true) (m_eng : M.eng = true)
    (m_chainNow : M.chainNow = true) (m_chainId : M.chainId = true) (m_chainTorn : M.chainTorn = true) (m_fab : M.fab = true)
    (m_cal : M.cal = true) (m_ctx : M.ctx = true) (m_pcie : M.pcie = true) (m_keep : M.keep = true) (m_ngx : M.ngx = true)
    (h1 : Kept M z₀ s) : OutOk M z₀ (@execLda e s) := by
  unfold execLda
  exact OutOk.next (State.issue_kept m_regs m_eng m_chainNow m_chainId m_chainTorn m_fab m_cal m_ctx m_pcie m_keep m_ngx (by
      assumption))

theorem execMovf_kept {M : Mask} {z₀ : State} {e : Fin 32} {s : State} (m_regs : M.regs = true) (m_eng : M.eng = true)
    (m_chainNow : M.chainNow = true) (m_chainId : M.chainId = true) (m_chainTorn : M.chainTorn = true) (m_fab : M.fab = true)
    (m_cal : M.cal = true) (m_ctx : M.ctx = true) (m_pcie : M.pcie = true) (m_keep : M.keep = true) (m_ngx : M.ngx = true)
    (h1 : Kept M z₀ s) : OutOk M z₀ (@execMovf e s) := by
  unfold execMovf
  exact OutOk.next (State.issue_kept m_regs m_eng m_chainNow m_chainId m_chainTorn m_fab m_cal m_ctx m_pcie m_keep m_ngx (by
      assumption))

theorem execMovst_kept {M : Mask} {z₀ : State} {e : Fin 32} {s : State} (m_regs : M.regs = true) (m_eng : M.eng = true)
    (m_chainNow : M.chainNow = true) (m_chainId : M.chainId = true) (m_chainTorn : M.chainTorn = true) (m_fab : M.fab = true)
    (m_cal : M.cal = true) (m_ctx : M.ctx = true) (m_pcie : M.pcie = true) (m_keep : M.keep = true) (m_ngx : M.ngx = true)
    (h1 : Kept M z₀ s) : OutOk M z₀ (@execMovst e s) := by
  unfold execMovst
  exact OutOk.next (State.issue_kept m_regs m_eng m_chainNow m_chainId m_chainTorn m_fab m_cal m_ctx m_pcie m_keep m_ngx (by
      assumption))

theorem execMoval_kept {M : Mask} {z₀ : State} {e : Fin 32} {s : State} (m_regs : M.regs = true) (m_eng : M.eng = true)
    (m_chainNow : M.chainNow = true) (m_chainId : M.chainId = true) (m_chainTorn : M.chainTorn = true) (m_fab : M.fab = true)
    (m_cal : M.cal = true) (m_ctx : M.ctx = true) (m_pcie : M.pcie = true) (m_keep : M.keep = true) (m_ngx : M.ngx = true)
    (h1 : Kept M z₀ s) : OutOk M z₀ (@execMoval e s) := by
  unfold execMoval
  exact OutOk.next (State.issue_kept m_regs m_eng m_chainNow m_chainId m_chainTorn m_fab m_cal m_ctx m_pcie m_keep m_ngx (by
      assumption))

theorem execMova_kept {M : Mask} {z₀ : State} {e : Fin 32} {s : State} (m_regs : M.regs = true) (m_eng : M.eng = true)
    (m_chainNow : M.chainNow = true) (m_chainId : M.chainId = true) (m_chainTorn : M.chainTorn = true) (m_fab : M.fab = true)
    (m_cal : M.cal = true) (m_ctx : M.ctx = true) (m_pcie : M.pcie = true) (m_keep : M.keep = true) (m_ngx : M.ngx = true)
    (h1 : Kept M z₀ s) : OutOk M z₀ (@execMova e s) := by
  unfold execMova
  exact OutOk.next (State.issue_kept m_regs m_eng m_chainNow m_chainId m_chainTorn m_fab m_cal m_ctx m_pcie m_keep m_ngx (by
      assumption))

theorem execTap4_kept {M : Mask} {z₀ : State} {e : Fin 32} {s : State} (m_regs : M.regs = true) (m_eng : M.eng = true)
    (m_chainNow : M.chainNow = true) (m_chainId : M.chainId = true) (m_chainTorn : M.chainTorn = true) (m_fab : M.fab = true)
    (m_cal : M.cal = true) (m_ctx : M.ctx = true) (m_pcie : M.pcie = true) (m_keep : M.keep = true) (m_ngx : M.ngx = true)
    (h1 : Kept M z₀ s) : OutOk M z₀ (@execTap4 e s) := by
  unfold execTap4
  exact OutOk.next (State.issue_kept m_regs m_eng m_chainNow m_chainId m_chainTorn m_fab m_cal m_ctx m_pcie m_keep m_ngx (by
      assumption))

theorem execMac_kept {M : Mask} {z₀ : State} {e : Fin 32} {s : State} (m_regs : M.regs = true) (m_eng : M.eng = true)
    (m_chainNow : M.chainNow = true) (m_chainId : M.chainId = true) (m_chainTorn : M.chainTorn = true) (m_fab : M.fab = true)
    (m_cal : M.cal = true) (m_ctx : M.ctx = true) (m_pcie : M.pcie = true) (m_keep : M.keep = true) (m_ngx : M.ngx = true)
    (h1 : Kept M z₀ s) : OutOk M z₀ (@execMac e s) := by
  unfold execMac
  exact OutOk.next (State.issue_kept m_regs m_eng m_chainNow m_chainId m_chainTorn m_fab m_cal m_ctx m_pcie m_keep m_ngx (by
      assumption))

theorem execEndProgram_kept {M : Mask} {z₀ : State} {e : Fin 32} {s : State} (m_regs : M.regs = true) (m_eng : M.eng = true)
    (m_chainNow : M.chainNow = true) (m_chainId : M.chainId = true) (m_chainTorn : M.chainTorn = true) (m_fab : M.fab = true)
    (m_cal : M.cal = true) (m_ctx : M.ctx = true) (m_pcie : M.pcie = true) (m_keep : M.keep = true) (m_ngx : M.ngx = true)
    (h1 : Kept M z₀ s) : OutOk M z₀ (@execEndProgram e s) := by
  unfold execEndProgram
  exact OutOk.next (State.issue_kept m_regs m_eng m_chainNow m_chainId m_chainTorn m_fab m_cal m_ctx m_pcie m_keep m_ngx (by
      assumption))

theorem execRpt_kept {M : Mask} {z₀ : State} {e : Fin 32} {s : State} (m_regs : M.regs = true) (m_eng : M.eng = true)
    (m_chainNow : M.chainNow = true) (m_chainId : M.chainId = true) (m_chainTorn : M.chainTorn = true) (m_fab : M.fab = true)
    (m_cal : M.cal = true) (m_ctx : M.ctx = true) (m_pcie : M.pcie = true) (m_keep : M.keep = true) (m_ngx : M.ngx = true)
    (h1 : Kept M z₀ s) : OutOk M z₀ (@execRpt e s) := by
  unfold execRpt
  exact OutOk.next (State.issue_kept m_regs m_eng m_chainNow m_chainId m_chainTorn m_fab m_cal m_ctx m_pcie m_keep m_ngx (by
      assumption))

theorem execNop_kept {M : Mask} {z₀ : State} {e : Fin 32} {s : State} (m_regs : M.regs = true) (m_eng : M.eng = true)
    (m_chainNow : M.chainNow = true) (m_chainId : M.chainId = true) (m_chainTorn : M.chainTorn = true) (m_fab : M.fab = true)
    (m_cal : M.cal = true) (m_ctx : M.ctx = true) (m_pcie : M.pcie = true) (m_keep : M.keep = true) (m_ngx : M.ngx = true)
    (h1 : Kept M z₀ s) : OutOk M z₀ (@execNop e s) := by
  unfold execNop
  exact OutOk.next (State.issue_kept m_regs m_eng m_chainNow m_chainId m_chainTorn m_fab m_cal m_ctx m_pcie m_keep m_ngx (by
      assumption))

end Sys2Proof.Machine
end

