-- ==== Sys2Proof/Laws/Engine.lean ====
section
/-! SUPPORT. What the issue of an engine instruction does to the engine: the bank, the results in flight, the queues. -/

namespace Sys2Proof.Machine

/-- The parts of an engine that the write queue's retirement does not touch. -/
def Engine.core (x : Engine) :=
  (x.phase, x.tick, x.tail, x.inflight, x.farLoads, x.fsq, x.heldStore, x.stab, x.actTab, x.tailSusp)

theorem State.lmPut_engine (s : State) (e a : Nat) (v : Word) :
    ∃ lm err, (s.lmPut e a v).engine e = { s.engine e with lm := lm, lmErr := err } := by
  unfold State.lmPut
  split
  · exact ⟨_, _, SMap.get_set_same ..⟩
  · exact ⟨_, _, SMap.get_set_same ..⟩

theorem State.retireEntry_engine (s : State) (e : Nat) (q : WqEntry) :
    ∃ lm err, (s.retireEntry e q).engine e = { s.engine e with lm := lm, lmErr := err } := by
  unfold State.retireEntry forN
  generalize List.range 4 = l
  induction l generalizing s with
  | nil => exact ⟨_, _, rfl⟩
  | cons i l ih =>
    rw [List.foldl_cons]
    obtain ⟨lm, err, h⟩ := ih (if q.mask.getLsbD i then s.lmPut e (4 * q.quad + i) (q.data.get i) else s)
    rw [h]
    split
    · obtain ⟨lm', err', h'⟩ := s.lmPut_engine e (4 * q.quad + i) (q.data.get i)
      rw [h']
      exact ⟨_, _, rfl⟩
    · exact ⟨_, _, rfl⟩

/-- Retirement of the write queue: the entries leave, and only the local memory changes. -/
theorem State.retire_engine (s : State) (e k : Nat) :
    ∃ lm err, (s.retire e k).engine e = { s.engine e with wq := (s.engine e).wq.drop k, lm := lm, lmErr := err } := by
  have h : ∀ (l : List WqEntry) (t : State), ∃ lm err,
      (l.foldl (fun s q => s.retireEntry e q) t).engine e = { t.engine e with lm := lm, lmErr := err } := by
    intro l
    induction l with
    | nil => intro t; exact ⟨_, _, rfl⟩
    | cons q l ih =>
      intro t
      obtain ⟨lm, err, h1⟩ := ih (t.retireEntry e q)
      obtain ⟨lm', err', h2⟩ := t.retireEntry_engine e q
      exact ⟨lm, err, by rw [List.foldl_cons, h1, h2]⟩
  unfold State.retire
  obtain ⟨lm, err, h1⟩ := h ((s.engine e).wq.take k) (s.modEngine e fun x => { x with wq := x.wq.drop k })
  exact ⟨lm, err, by rw [h1, State.engine_modEngine, if_pos rfl]⟩

theorem State.retire_core (s : State) (e k : Nat) : ((s.retire e k).engine e).core = (s.engine e).core := by
  obtain ⟨lm, err, h⟩ := s.retire_engine e k
  rw [h]
  rfl

theorem State.retire_wq (s : State) (e k : Nat) : ((s.retire e k).engine e).wq = (s.engine e).wq.drop k := by
  obtain ⟨lm, err, h⟩ := s.retire_engine e k
  rw [h]

/-- A result that becomes visible changes its bank, and nothing else of the core. -/
theorem State.land_engine (s : State) (e : Nat) (tail : Bool) (w : RegWrite) :
    ∃ r, (s.land e tail w).engine e = ({ s.engine e with flgRun := r }).modBank tail (·.apply w) := by
  unfold State.land
  extract_lets x y t
  have ht : t.engine e = y.modBank tail (·.apply w) := by simp [t]
  have hy : ∃ r, y = { s.engine e with flgRun := r } := by
    dsimp only [y]
    split
    · split
      · exact ⟨_, rfl⟩
      · exact ⟨_, rfl⟩
    · exact ⟨_, rfl⟩
  obtain ⟨r, hr⟩ := hy
  refine ⟨r, ?_⟩
  split
  · rw [State.engine_setReg, ht, hr]
  · rw [ht, hr]

theorem Engine.modBank_modBank (x : Engine) (t : Bool) (f g : RegBank → RegBank) :
    (x.modBank t f).modBank t g = x.modBank t (g ∘ f) := by
  cases t <;> rfl

/-- A result one pipeline cycle on. -/
def Pend.on (p : Pend) : Pend := { p with left := p.left - 1 }

/-- The results that one pipeline cycle makes visible, and those that stay in flight. -/
def pendDue (l : List Pend) : List Pend := (l.map Pend.on).filter fun p => p.left == 0
def pendRest (l : List Pend) : List Pend := (l.map Pend.on).filter fun p => decide (0 < p.left)

/-- A bank after some results. -/
def RegBank.lands (b : RegBank) (l : List Pend) : RegBank := l.foldl (fun (b : RegBank) (p : Pend) => b.apply p.wr) b

/-- Results of one bank that become visible together. -/
theorem State.lands_engine (e : Nat) (tail : Bool) (l : List Pend) (hl : ∀ p ∈ l, p.tail = tail) (s : State) :
    ∃ r, (l.foldl (fun s p => s.land e p.tail p.wr) s).engine e =
      ({ s.engine e with flgRun := r }).modBank tail (·.lands l) := by
  induction l generalizing s with
  | nil => exact ⟨(s.engine e).flgRun, by cases tail <;> rfl⟩
  | cons p l ih =>
    obtain ⟨r1, h1⟩ := s.land_engine e p.tail p.wr
    obtain ⟨r2, h2⟩ := ih (fun q hq => hl q (List.mem_cons_of_mem _ hq)) (s.land e p.tail p.wr)
    have hp : p.tail = tail := hl p (List.mem_cons_self ..)
    refine ⟨r2, ?_⟩
    rw [List.foldl_cons, h2, h1, hp]
    cases tail <;> rfl

/-- A pipeline cycle with results of one bank in flight. -/
theorem State.pipeStep_engine (s : State) (e : Nat) (tail : Bool) (h : ∀ p ∈ (s.engine e).inflight, p.tail = tail) :
    ∃ r, (s.pipeStep e).engine e =
      ({ s.engine e with flgRun := r, inflight := pendRest (s.engine e).inflight } : Engine).modBank tail
        (·.lands (pendDue (s.engine e).inflight)) := by
  unfold State.pipeStep
  extract_lets fl t
  have ht : t.engine e = { s.engine e with inflight := pendRest (s.engine e).inflight } := SMap.get_set_same ..
  obtain ⟨r, hr⟩ := State.lands_engine e tail (fl.filter fun p => p.left == 0) (by
    intro p hp
    simp only [fl, List.mem_filter, List.mem_map] at hp
    obtain ⟨⟨q, hq, rfl⟩, _⟩ := hp
    exact h q hq) t
  exact ⟨r, by rw [hr, ht]; rfl⟩

theorem State.pipeStep_core (s : State) (e : Nat) (h : (s.engine e).inflight = []) :
    ((s.pipeStep e).engine e).core = (s.engine e).core ∧ ((s.pipeStep e).engine e).wq = (s.engine e).wq := by
  obtain ⟨r, hr⟩ := s.pipeStep_engine e false (by simp [h])
  rw [hr]
  simp only [h]
  constructor
  · simp only [Engine.core, h]
    rfl
  · rfl

/-! ### Events and counters leave the engines alone -/

@[simp] theorem State.engine_lmEccNote (s : State) (e ce : Nat) (ue : List Nat) (i : Nat) :
    (s.lmEccNote e ce ue).engine i = s.engine i := by
  unfold State.lmEccNote
  extract_lets x
  have hx : x.engine i = s.engine i := by
    dsimp only [x]
    split
    · rfl
    · rfl
  split
  · simp [hx]
  · exact hx

theorem forN_keeps {α : Type} {σ : Type} (n : Nat) (f : Nat → σ → σ) (g : σ → α) (h : ∀ i s, g (f i s) = g s) (s : σ) :
    g (forN n f s) = g s := by
  unfold forN
  generalize List.range n = l
  induction l generalizing s with
  | nil => rfl
  | cons i l ih => rw [List.foldl_cons, ih, h]

theorem forN_inv {σ : Type} (n : Nat) (f : Nat → σ → σ) (P : σ → Prop) (h : ∀ i s, P s → P (f i s)) (s : σ) (hs : P s) :
    P (forN n f s) := by
  unfold forN
  generalize List.range n = l
  induction l generalizing s with
  | nil => exact hs
  | cons i l ih => exact ih _ (h i s hs)

/-! ### The end of an instruction -/

theorem State.engine_segReport (s : State) (e i k d j : Nat) : (s.segReport e i k d).engine j = s.engine j := by
  have h := (State.segReport_kept (M := { regs := true, fab := true, ctx := true, pcie := true, ngx := true }) (e := e) (i := i)
    (kind := k) (detail := d) rfl rfl rfl rfl rfl (Kept.refl s)).eng rfl
  unfold State.engine
  rw [h]

/-- A segment's exit leaves the banks, the results in flight and the write queue. -/
theorem State.segExit_engine (s : State) (e i : Nat) :
    (s.segExit e i).engine e =
      { s.engine e with flgRun := 0, stall := 0, farLoads := (s.engine e).farLoads.filter (·.tail) } := by
  unfold State.segExit
  extract_lets x new a b
  have hb : b.engine e = s.engine e := by
    dsimp only [b]
    split
    · rfl
    · rw [State.engine_segReport]
      rfl
  rw [State.engine_modEngine, if_pos rfl, hb]

@[simp] theorem RegBank.file_step (b : RegBank) (c : Ctl) : (b.step c).file = b.file := by
  unfold RegBank.step
  split <;> try rfl
  split <;> rfl

@[simp] theorem Engine.bank_modBank (x : Engine) (t u : Bool) (f : RegBank → RegBank) :
    (x.modBank t f).bank u = if u = t then f (x.bank t) else x.bank u := by
  cases t <;> cases u <;> rfl

@[simp] theorem Engine.modBank_rest (x : Engine) (t : Bool) (f : RegBank → RegBank) :
    (x.modBank t f).phase = x.phase ∧ (x.modBank t f).inflight = x.inflight ∧ (x.modBank t f).wq = x.wq ∧
    (x.modBank t f).fsq = x.fsq ∧ (x.modBank t f).farLoads = x.farLoads ∧ (x.modBank t f).heldStore = x.heldStore ∧
    (x.modBank t f).stab = x.stab ∧ (x.modBank t f).actTab = x.actTab ∧ (x.modBank t f).nextFar = x.nextFar := by
  cases t <;> exact ⟨rfl, rfl, rfl, rfl, rfl, rfl, rfl, rfl, rfl⟩

/-- Reaching the next segment's entry leaves the banks, the results in flight and the queues; the tail program's far loads
stay, and so do a segment's that goes on. -/
theorem State.passEntry_engine (s : State) (e : Nat) (tail : Bool) :
    let y := (s.passEntry e tail).engine e
    let x := s.engine e
    (∀ u, y.bank u = x.bank u) ∧ y.inflight = x.inflight ∧ y.wq = x.wq ∧ y.fsq = x.fsq ∧
    (y.farLoads = x.farLoads ∨ y.farLoads = x.farLoads.filter (·.tail)) ∧ (x.phase = .tail → y = x) := by
  intro y x
  have h0 : s.passEntry e tail = s ∨ ∃ i j, x.phase = .run i ∧ s.passEntry e tail =
      (s.segExit e i).modEngine e fun x => { x with phase := .enter j } := by
    unfold State.passEntry
    extract_lets b
    split
    · rename_i i hi
      split
      · rename_i j hj
        split
        · exact .inr ⟨i, j, hi, rfl⟩
        · exact .inl rfl
      · exact .inl rfl
    · exact .inl rfl
  rcases h0 with h | ⟨i, j, hi, h⟩
  · have : y = x := by
      dsimp only [y]
      rw [h]
    rw [this]
    exact ⟨fun _ => rfl, rfl, rfl, rfl, .inl rfl, fun _ => rfl⟩
  · have : y = { x with flgRun := 0, stall := 0, farLoads := x.farLoads.filter (·.tail), phase := .enter j } := by
      dsimp only [y]
      rw [h, State.engine_modEngine, if_pos rfl, State.segExit_engine]
    rw [this]
    refine ⟨fun u => by cases u <;> rfl, rfl, rfl, rfl, .inr rfl, fun hp => ?_⟩
    rw [hi] at hp
    cases hp

/-- What an instruction that is no END leaves of the engine when it has completed. -/
theorem State.advance_engine (s : State) (e : Nat) (tail : Bool) (c : Ctl) (hc : c ≠ .stop) :
    let y := (s.advance e tail c).engine e
    let x := s.engine e
    y.bank tail = (x.bank tail).step c ∧ y.bank (!tail) = x.bank (!tail) ∧ y.inflight = x.inflight ∧ y.wq = x.wq ∧
    y.fsq = x.fsq ∧ (y.farLoads = x.farLoads ∨ y.farLoads = x.farLoads.filter (·.tail)) ∧
    (x.phase = .tail → y.phase = .tail ∧ y.farLoads = x.farLoads) := by
  intro y x
  have hy : y = ((s.modEngine e (·.modBank tail (·.step c))).passEntry e tail).engine e := by
    dsimp only [y, State.advance]
    rw [if_neg hc]
  have hx : (s.modEngine e (·.modBank tail (·.step c))).engine e = x.modBank tail (·.step c) := by
    rw [State.engine_modEngine, if_pos rfl]
  have h := State.passEntry_engine (s.modEngine e (·.modBank tail (·.step c))) e tail
  simp only [hx] at h
  rw [← hy] at h
  obtain ⟨h1, h2, h3, h4, h5, h6⟩ := h
  refine ⟨by rw [h1]; simp, by rw [h1]; simp, by rw [h2]; simp, by rw [h3]; simp, by rw [h4]; simp, by simpa using h5, fun hp => ?_⟩
  have := h6 (by simpa using hp)
  rw [this]
  simp [hp]

/-! ### Completion -/

theorem RegBank.apply_pc (b : RegBank) (w : RegWrite) : (b.apply w).pc = b.pc ∧ (b.apply w).rpt = b.rpt ∧ (b.apply w).held = b.held := by
  cases w <;> exact ⟨rfl, rfl, rfl⟩

theorem RegBank.lands_pc (b : RegBank) (l : List Pend) :
    (b.lands l).pc = b.pc ∧ (b.lands l).rpt = b.rpt ∧ (b.lands l).held = b.held := by
  unfold RegBank.lands
  induction l generalizing b with
  | nil => exact ⟨rfl, rfl, rfl⟩
  | cons p l ih =>
    obtain ⟨h1, h2, h3⟩ := ih (b.apply p.wr)
    obtain ⟨k1, k2, k3⟩ := b.apply_pc p.wr
    exact ⟨h1.trans k1, h2.trans k2, h3.trans k3⟩

/-- The results of an instruction, as they enter the pipeline. -/
def Eff.pends (f : Eff) (tail : Bool) : List Pend := f.wr.map fun w => ⟨tail, w.1, w.2⟩

/-- The bank of the program that issues, when the results of one cycle have landed. -/
def Eff.bankAfter (f : Eff) (tail : Bool) (b : RegBank) : RegBank :=
  RegBank.lands { b with flg := b.flg &&& ~~~f.clr } (pendDue (f.pends tail))

/-- Two engines agree but for the local memory, the write queue and the counters of cycles. -/
def Engine.like (x y : Engine) : Prop := x.core = y.core ∧ x.nextFar = y.nextFar

theorem State.access_cycles (s : State) (e n : Nat) (h : (s.engine e).inflight = []) :
    let y := (forN n (fun _ s =>
      (s.modEngine e fun x => { x with tickCyc := x.tickCyc + 1, elapsed := x.elapsed + 1 }).pipeStep e) s).engine e
    y.core = (s.engine e).core ∧ y.wq = (s.engine e).wq := by
  refine forN_inv n _ (fun t => (t.engine e).core = (s.engine e).core ∧ (t.engine e).wq = (s.engine e).wq) ?_ s ⟨rfl, rfl⟩
  intro _ t ht
  have hi : (t.engine e).inflight = [] := by
    have := congrArg (fun c => c.2.2.2.1) ht.1
    simpa [Engine.core, h] using this
  have k := State.pipeStep_core (t.modEngine e fun x => { x with tickCyc := x.tickCyc + 1, elapsed := x.elapsed + 1 }) e (by
    rw [State.engine_modEngine, if_pos rfl]; exact hi)
  rw [State.engine_modEngine, if_pos rfl] at k
  exact ⟨k.1.trans ht.1, k.2.trans ht.2⟩

/-- The engine after the results of an instruction have entered the pipeline and one cycle has passed. -/
def State.issued (s : State) (e : Nat) (tail : Bool) (f : Eff) : State :=
  let s := s.lmEccNote e f.ce f.ue
  let s := forN (f.cycles - 1) (fun _ s =>
    (s.modEngine e fun x => { x with tickCyc := x.tickCyc + 1, elapsed := x.elapsed + 1 }).pipeStep e) s
  let occ := (s.engine e).wq.length + f.posts.length
  let s := s.retire e f.freeLast
  let s := s.hwm (rEngWqStat e) 0 5 occ
  let s := s.modEngine e fun x => { x with
    tickCyc := x.tickCyc + 1, elapsed := x.elapsed + 1
    wq := x.wq ++ f.posts
    inflight := x.inflight ++ f.wr.map fun w => ⟨tail, w.1, w.2⟩ }
  let s := s.modEngine e (·.modBank tail fun b => { b with flg := b.flg &&& ~~~f.clr })
  s.pipeStep e

theorem State.issued_engine (s : State) (e : Nat) (tail : Bool) (f : Eff) (hin : (s.engine e).inflight = []) :
    let y := (s.issued e tail f).engine e
    let x := s.engine e
    y.bank tail = f.bankAfter tail (x.bank tail) ∧ y.bank (!tail) = x.bank (!tail) ∧ y.inflight = pendRest (f.pends tail) ∧
    y.wq = x.wq.drop f.freeLast ++ f.posts ∧ y.fsq = x.fsq ∧ y.farLoads = x.farLoads ∧ y.phase = x.phase ∧
    y.heldStore = x.heldStore ∧ y.stab = x.stab ∧ y.actTab = x.actTab := by
  intro y x
  let s1 := s.lmEccNote e f.ce f.ue
  let s2 := forN (f.cycles - 1) (fun _ s =>
    (s.modEngine e fun x => { x with tickCyc := x.tickCyc + 1, elapsed := x.elapsed + 1 }).pipeStep e) s1
  let s3 := s2.retire e f.freeLast
  let s5 := (s3.hwm (rEngWqStat e) 0 5 ((s2.engine e).wq.length + f.posts.length)).modEngine e fun x => { x with
    tickCyc := x.tickCyc + 1, elapsed := x.elapsed + 1
    wq := x.wq ++ f.posts
    inflight := x.inflight ++ f.wr.map fun w => ⟨tail, w.1, w.2⟩ }
  let s6 := s5.modEngine e (·.modBank tail fun b => { b with flg := b.flg &&& ~~~f.clr })
  have hy : y = (s6.pipeStep e).engine e := rfl
  have h1 : s1.engine e = x := State.engine_lmEccNote ..
  obtain ⟨h2, w2⟩ := State.access_cycles s1 e (f.cycles - 1) (by rw [h1]; exact hin)
  have h3 : (s3.engine e).core = x.core := by
    rw [State.retire_core, h2, h1]
  have w3 : (s3.engine e).wq = x.wq.drop f.freeLast := by
    rw [State.retire_wq, w2, h1]
  have h5 : s5.engine e = { s3.engine e with
      tickCyc := (s3.engine e).tickCyc + 1, elapsed := (s3.engine e).elapsed + 1
      wq := (s3.engine e).wq ++ f.posts
      inflight := (s3.engine e).inflight ++ f.pends tail } := by
    dsimp only [s5]
    rw [State.engine_modEngine, if_pos rfl, State.engine_hwm]
    rfl
  have h6 : s6.engine e = (s5.engine e).modBank tail fun b => { b with flg := b.flg &&& ~~~f.clr } := by
    dsimp only [s6]
    rw [State.engine_modEngine, if_pos rfl]
  simp only [Engine.core, Prod.mk.injEq] at h3
  obtain ⟨c1, c2, c3, c4, c5, c6, c7, c8, c9, c10⟩ := h3
  have hfl : (s6.engine e).inflight = f.pends tail := by
    rw [h6, (Engine.modBank_rest ..).2.1, h5]
    simp [c4, x, hin]
  obtain ⟨r, hr⟩ := State.pipeStep_engine s6 e tail (by
    rw [hfl]
    intro p hp
    simp only [Eff.pends, List.mem_map] at hp
    obtain ⟨w, _, rfl⟩ := hp
    rfl)
  rw [hy, hr, hfl]
  have hb : ∀ u, (s5.engine e).bank u = x.bank u := by
    intro u
    rw [h5]
    cases u
    · exact c2
    · exact c3
  have h6b : (s6.engine e).bank tail = { x.bank tail with flg := (x.bank tail).flg &&& ~~~f.clr } := by
    rw [h6, Engine.bank_modBank, if_pos rfl, hb]
  have h6c : (s6.engine e).bank (!tail) = x.bank (!tail) := by
    rw [h6, Engine.bank_modBank, if_neg (by cases tail <;> decide), hb]
  have mb : ∀ (z : Engine) (r : BitVec 5) (l : List Pend) (u : Bool), ({ z with flgRun := r, inflight := l } : Engine).bank u = z.bank u :=
    fun z r l u => by cases u <;> rfl
  refine ⟨?_, ?_, ?_, ?_, ?_, ?_, ?_, ?_, ?_, ?_⟩
  · rw [Engine.bank_modBank, if_pos rfl, mb, h6b]
    rfl
  · rw [Engine.bank_modBank, if_neg (by cases tail <;> decide), mb, h6c]
  · rw [(Engine.modBank_rest ..).2.1]
  · rw [(Engine.modBank_rest ..).2.2.1]
    show (s6.engine e).wq = _
    rw [h6, (Engine.modBank_rest ..).2.2.1, h5]
    simp [w3]
  · rw [(Engine.modBank_rest ..).2.2.2.1]
    show (s6.engine e).fsq = _
    rw [h6, (Engine.modBank_rest ..).2.2.2.1, h5]
    exact c6
  · rw [(Engine.modBank_rest ..).2.2.2.2.1]
    show (s6.engine e).farLoads = _
    rw [h6, (Engine.modBank_rest ..).2.2.2.2.1, h5]
    exact c5
  · rw [(Engine.modBank_rest ..).1]
    show (s6.engine e).phase = _
    rw [h6, (Engine.modBank_rest ..).1, h5]
    exact c1
  · rw [(Engine.modBank_rest ..).2.2.2.2.2.1]
    show (s6.engine e).heldStore = _
    rw [h6, (Engine.modBank_rest ..).2.2.2.2.2.1, h5]
    exact c7
  · rw [(Engine.modBank_rest ..).2.2.2.2.2.2.1]
    show (s6.engine e).stab = _
    rw [h6, (Engine.modBank_rest ..).2.2.2.2.2.2.1, h5]
    exact c8
  · rw [(Engine.modBank_rest ..).2.2.2.2.2.2.2.1]
    show (s6.engine e).actTab = _
    rw [h6, (Engine.modBank_rest ..).2.2.2.2.2.2.2.1, h5]
    exact c9

/-- The rest of an instruction: its chain write, its far load, the two cycles of a jump, its stores, the next address. -/
theorem State.commitEff_eq (s : State) (e : Nat) (tail : Bool) (f : Eff) :
    ∃ seg stamp, s.commitEff e tail f =
      (let s := s.issued e tail f
      let s := match f.chw with
        | some (p, m, v) => s.chainWrite e seg stamp p m v
        | none => s
      let s := match f.load with
        | some (r, m, ps) => s.issueLoad e tail r m ps
        | none => s
      let s := match f.ctl with
        | .jump _ => (s.emptyCycle e true).emptyCycle e true
        | _ => s
      if (s.engine e).fsq.length + f.stores.length ≤ 4 then (s.takeStores e f.stores).advance e tail f.ctl
      else (s.setBit (rEngFarStat e) 24 true).modEngine e fun x => { x with heldStore := some f.stores, stopWait := 0 }) :=
  ⟨_, _, rfl⟩

theorem State.chainWrite_engine (s : State) (e seg stamp p : Nat) (m : BitVec 4) (v : Quad Word) (i : Nat) :
    (s.chainWrite e seg stamp p m v).engine i = s.engine i := by
  unfold State.chainWrite
  split <;> rfl

theorem State.offerFar_engine (s : State) (e u c : Nat) (k : ReqKind) (i : Nat) : (s.offerFar e u c k).engine i = s.engine i := rfl

/-- An instruction that neither jumps nor loads from afar, and whose stores fit. -/
theorem State.commitEff_plain (s : State) (e : Nat) (tail : Bool) (f : Eff) (hin : (s.engine e).inflight = [])
    (hl : f.load = none) (hs : f.stores = []) (hq : (s.engine e).fsq.length ≤ 4) (hj : ∀ t, f.ctl ≠ .jump t) (hc : f.ctl ≠ .stop) :
    let y := (s.commitEff e tail f).engine e
    let x := s.engine e
    y.bank tail = (f.bankAfter tail (x.bank tail)).step f.ctl ∧ y.bank (!tail) = x.bank (!tail) ∧
    y.inflight = pendRest (f.pends tail) ∧ y.wq = x.wq.drop f.freeLast ++ f.posts ∧ y.fsq = x.fsq := by
  intro y x
  obtain ⟨seg, stamp, h⟩ := State.commitEff_eq s e tail f
  have hy : y = (((s.issued e tail f).advance e tail f.ctl).engine e) ∨
      ∃ p m v, f.chw = some (p, m, v) ∧ y = (((s.issued e tail f).chainWrite e seg stamp p m v).advance e tail f.ctl).engine e := by
    dsimp only [y]
    rw [h, hl, hs]
    obtain ⟨_, _, _, _, k5, _⟩ := State.issued_engine s e tail f hin
    cases hw : f.chw with
    | none =>
      left
      simp only [List.length_nil, Nat.add_zero]
      rw [k5, if_pos hq]
      rfl
    | some w =>
      right
      refine ⟨w.1, w.2.1, w.2.2, rfl, ?_⟩
      simp only [List.length_nil, Nat.add_zero, State.chainWrite_engine]
      rw [k5, if_pos hq]
      rfl
  obtain ⟨k1, k2, k3, k4, k5, _⟩ := State.issued_engine s e tail f hin
  rcases hy with hy | ⟨p, m, v, _, hy⟩
  · obtain ⟨a1, a2, a3, a4, a5, _⟩ := State.advance_engine (s.issued e tail f) e tail f.ctl hc
    rw [hy]
    exact ⟨by rw [a1, k1], by rw [a2, k2], by rw [a3, k3], by rw [a4, k4], by rw [a5, k5]⟩
  · obtain ⟨a1, a2, a3, a4, a5, _⟩ := State.advance_engine ((s.issued e tail f).chainWrite e seg stamp p m v) e tail f.ctl hc
    rw [State.chainWrite_engine] at a1 a2 a3 a4 a5
    rw [hy]
    exact ⟨by rw [a1, k1], by rw [a2, k2], by rw [a3, k3], by rw [a4, k4], by rw [a5, k5]⟩

/-! ### Issue -/

/-- The state from which a poised instruction completes: the counts of a stall that is over and of a corrected word are made. -/
def State.counted (s : State) (e : Nat) (tail : Bool) : State := (s.stallOver e).countPce e tail

theorem State.counted_engine (s : State) (e : Nat) (tail : Bool) (i : Nat) :
    (s.counted e tail).engine i = if i = e then { s.engine e with stall := 0 } else s.engine i := by
  have h1 : (s.stallOver e).engine i = if i = e then { s.engine e with stall := 0 } else s.engine i := by
    unfold State.stallOver
    extract_lets n
    split
    · rename_i hn
      split
      · rename_i hi
        subst hi
        show s.engine i = _
        rw [← hn]
      · rfl
    · rw [State.engine_modEngine, State.engine_hwm, State.engine_hwm]
  unfold State.counted State.countPce
  extract_lets x b
  rw [apply_ite (fun t => State.engine t i), State.engine_bump, ite_self, h1]

/-- A poised instruction without a fault completes, with its effect read from the state before. -/
theorem State.issue_poised {s : State} {e op : Nat} {tail : Bool} {w : IWord} (body : State → Bool → IWord → Eff)
    (h : s.poised e op tail w) (hf : (body s tail w).fault = 0) (hp : (body s tail w).posts.length ≤ 4) :
    s.issue e op body = (s.counted e tail).commitEff e tail (body s tail w) := by
  obtain ⟨h1, h2, h3, h4, h5⟩ := h
  have hd : s.drainBefore e (fun s => body s tail w) = s := by
    unfold State.drainBefore
    refine forN_inv 8 _ (fun t => t = s) ?_ s rfl
    intro _ t ht
    subst ht
    rw [if_neg]
    simp only [hf, decide_true, Bool.true_and, decide_eq_true_eq]
    omega
  have hfr : ((body s tail w).frs.any ((s.engine e).frPending tail)) = false := by
    rw [List.any_eq_false]
    intro a _
    simp [Engine.frPending, h4]
  unfold State.issue
  rw [h1]
  simp only [hd]
  rw [if_neg (by simp [hf]), if_neg (by simp [hfr])]
  rfl

/-! ### Stores, far loads, jumps and the end of a program -/

/-- A far-store entry without its place in the order of issue. -/
def FarEntry.what (x : FarEntry) : Nat × BitVec 32 × BitVec 256 := (x.unit, x.mask, x.data)

theorem State.takeStores_nil (s : State) (e : Nat) : s.takeStores e [] = s := rfl

theorem State.takeStores_engine (s : State) (e : Nat) (l : List FarEntry) :
    let y := (s.takeStores e l).engine e
    let x := s.engine e
    y.tick = x.tick ∧ y.tail = x.tail ∧ y.inflight = x.inflight ∧ y.wq = x.wq ∧ y.phase = x.phase ∧
    y.fsq.map FarEntry.what = x.fsq.map FarEntry.what ++ l.map FarEntry.what := by
  unfold State.takeStores
  induction l generalizing s with
  | nil => simp
  | cons q l ih =>
    rw [List.foldl_cons]
    extract_lets en q' t
    have ht : (t.offerFar e q'.unit q'.cycles (.farStore e q')).engine e =
        { s.engine e with fsq := (s.engine e).fsq ++ [q'], nextFar := (s.engine e).nextFar + 1 } := by
      rw [State.offerFar_engine]
      simp [t, en]
    have h := ih (t.offerFar e q'.unit q'.cycles (.farStore e q'))
    rw [ht] at h
    obtain ⟨h1, h2, h3, h4, h5, h6⟩ := h
    refine ⟨h1, h2, h3, h4, h5, ?_⟩
    simp only [List.map_append, List.map_cons, List.map_nil] at h6 ⊢
    rw [h6, List.append_assoc]
    rfl

/-- An instruction that stores to Caldera: its entries stand in the far-store queue, in order. -/
theorem State.commitEff_far (s : State) (e : Nat) (tail : Bool) (f : Eff) (hin : (s.engine e).inflight = [])
    (hl : f.load = none) (hw : f.chw = none) (hq : (s.engine e).fsq = []) (hs : f.stores.length ≤ 4) (hc : f.ctl = .next) :
    let y := (s.commitEff e tail f).engine e
    let x := s.engine e
    y.bank tail = (f.bankAfter tail (x.bank tail)).step .next ∧ y.bank (!tail) = x.bank (!tail) ∧
    y.inflight = pendRest (f.pends tail) ∧ y.fsq.map FarEntry.what = f.stores.map FarEntry.what := by
  intro y x
  obtain ⟨seg, stamp, h⟩ := State.commitEff_eq s e tail f
  obtain ⟨k1, k2, k3, k4, k5, _⟩ := State.issued_engine s e tail f hin
  have hy : y = (((s.issued e tail f).takeStores e f.stores).advance e tail .next).engine e := by
    dsimp only [y]
    rw [h, hl, hw, hc]
    simp only []
    rw [k5, if_pos (by rw [hq]; simpa using hs)]
  obtain ⟨t1, t2, t3, t4, t5, t6⟩ := State.takeStores_engine (s.issued e tail f) e f.stores
  obtain ⟨a1, a2, a3, a4, a5, _⟩ := State.advance_engine ((s.issued e tail f).takeStores e f.stores) e tail .next (by decide)
  have tb : ∀ u, (((s.issued e tail f).takeStores e f.stores).engine e).bank u = ((s.issued e tail f).engine e).bank u := by
    intro u
    cases u
    · exact t1
    · exact t2
  rw [hy]
  refine ⟨by rw [a1, tb, k1], by rw [a2, tb, k2], by rw [a3, t3, k3], ?_⟩
  rw [a5, t6, k5, hq]
  rfl

theorem State.issueLoad_engine (s : State) (e : Nat) (tail : Bool) (fr : Nat) (m : BitVec 4) (ps : List FarPiece) :
    let y := (s.issueLoad e tail fr m ps).engine e
    let x := s.engine e
    y.tick = x.tick ∧ y.tail = x.tail ∧ y.inflight = x.inflight ∧ y.wq = x.wq ∧ y.phase = x.phase ∧ y.fsq = x.fsq ∧
    y.stab = x.stab ∧ y.actTab = x.actTab ∧
    y.farLoads = x.farLoads ++ [{ id := x.nextFar, tail := tail, fr := fr, mask := m, left := ps }] := by
  have key : ∀ (l : List FarPiece) (id : Nat) (t : State),
      let u := (l.foldl (fun s p =>
        match ((s.engine e).fsq.filter fun q => q.unit == p.unit).getLast? with
        | some q => s.modEngine e fun x => { x with blocked := x.blocked ++ [⟨id, p, q.id⟩] }
        | none => s.offerFar e p.unit 8 (.farLoad e id p)) t).engine e
      ∃ b, u = { t.engine e with blocked := b } := by
    intro l id
    induction l with
    | nil => intro t; exact ⟨(t.engine e).blocked, rfl⟩
    | cons p l ih =>
      intro t
      simp only [List.foldl_cons]
      split
      · rename_i q _
        obtain ⟨b, hb⟩ := ih (t.modEngine e fun x => { x with blocked := x.blocked ++ [⟨id, p, q.id⟩] })
        exact ⟨b, by rw [hb, State.engine_modEngine, if_pos rfl]⟩
      · obtain ⟨b, hb⟩ := ih (t.offerFar e p.unit 8 (.farLoad e id p))
        exact ⟨b, by rw [hb, State.offerFar_engine]⟩
  intro y x
  obtain ⟨b, hb⟩ := key ps x.nextFar (s.modEngine e fun y => { y with
    nextFar := x.nextFar + 1, farLoads := y.farLoads ++ [{ id := x.nextFar, tail := tail, fr := fr, mask := m, left := ps }] })
  have hy : y = _ := hb
  rw [hy, State.engine_modEngine, if_pos rfl]
  exact ⟨rfl, rfl, rfl, rfl, rfl, rfl, rfl, rfl, rfl⟩

/-- A far load: it is under way, with its destination, its guard and the accesses it waits for, unless the segment ends here. -/
theorem State.commitEff_load (s : State) (e : Nat) (tail : Bool) (f : Eff) (hin : (s.engine e).inflight = []) (r : Nat) (m : BitVec 4)
    (ps : List FarPiece) (hl : f.load = some (r, m, ps)) (hw : f.chw = none) (hq : (s.engine e).fsq = []) (hs : f.stores = [])
    (hc : f.ctl = .next) (hf : (s.engine e).farLoads = []) :
    let y := (s.commitEff e tail f).engine e
    let x := s.engine e
    y.bank tail = (f.bankAfter tail (x.bank tail)).step .next ∧ y.bank (!tail) = x.bank (!tail) ∧
    y.inflight = pendRest (f.pends tail) ∧
    ∃ id, (y.farLoads = [{ id := id, tail := tail, fr := r, mask := m, left := ps }] ∨ (tail = false ∧ y.farLoads = [])) := by
  intro y x
  obtain ⟨seg, stamp, h⟩ := State.commitEff_eq s e tail f
  obtain ⟨k1, k2, k3, k4, k5, k6, k7, _⟩ := State.issued_engine s e tail f hin
  let u := (s.issued e tail f).issueLoad e tail r m ps
  obtain ⟨t1, t2, t3, t4, t5, t6, t7, t8, t9⟩ := State.issueLoad_engine (s.issued e tail f) e tail r m ps
  have hy : y = (u.advance e tail .next).engine e := by
    dsimp only [y]
    rw [h, hl, hw, hc, hs]
    simp only [List.length_nil, Nat.add_zero]
    rw [t6, k5, if_pos (by rw [hq]; simp)]
    rfl
  obtain ⟨a1, a2, a3, a4, a5, a6, a7⟩ := State.advance_engine u e tail .next (by decide)
  have tb : ∀ v, (u.engine e).bank v = ((s.issued e tail f).engine e).bank v := by
    intro v
    cases v
    · exact t1
    · exact t2
  have hfl : (u.engine e).farLoads = [{ id := ((s.issued e tail f).engine e).nextFar, tail := tail, fr := r, mask := m, left := ps }] := by
    dsimp only [u]
    rw [t9, k6, hf]
    rfl
  rw [hy]
  refine ⟨by rw [a1, tb, k1], by rw [a2, tb, k2], by rw [a3, t3, k3], ((s.issued e tail f).engine e).nextFar, ?_⟩
  rcases a6 with a6 | a6
  · exact .inl (by rw [a6, hfl])
  · cases tail with
    | false => exact .inr ⟨rfl, by rw [a6, hfl]; rfl⟩
    | true => exact .inl (by rw [a6, hfl]; rfl)

theorem State.emptyCycle_engine (s : State) (e : Nat) (hin : (s.engine e).inflight = []) :
    ((s.emptyCycle e true).engine e).core = (s.engine e).core := by
  unfold State.emptyCycle
  extract_lets a b
  have hb : (b.engine e).core = (s.engine e).core := by
    dsimp only [b]
    rw [State.engine_modEngine, if_pos rfl]
    show (a.engine e).core = _
    exact State.retire_core s e 2
  rw [if_pos rfl, (State.pipeStep_core b e ?_).1, hb]
  have := congrArg (fun c => c.2.2.2.1) hb
  simpa [Engine.core, hin] using this

/-- A jump: the program goes on at its target. -/
theorem State.commitEff_jump (s : State) (e : Nat) (tail : Bool) (f : Eff) (hin : (s.engine e).inflight = []) (t : Nat)
    (hl : f.load = none) (hw : f.chw = none) (hq : (s.engine e).fsq = []) (hs : f.stores = []) (hc : f.ctl = .jump t)
    (hp : pendRest (f.pends tail) = []) :
    let y := (s.commitEff e tail f).engine e
    let x := s.engine e
    y.bank tail = (f.bankAfter tail (x.bank tail)).step (.jump t) ∧ y.bank (!tail) = x.bank (!tail) ∧ y.inflight = [] := by
  intro y x
  obtain ⟨seg, stamp, h⟩ := State.commitEff_eq s e tail f
  obtain ⟨k1, k2, k3, k4, k5, k6, k7, _⟩ := State.issued_engine s e tail f hin
  let u := ((s.issued e tail f).emptyCycle e true).emptyCycle e true
  have c1 := State.emptyCycle_engine (s.issued e tail f) e (by rw [k3, hp])
  have c2 : (u.engine e).core = ((s.issued e tail f).engine e).core := by
    refine (State.emptyCycle_engine _ e ?_).trans c1
    have := congrArg (fun c => c.2.2.2.1) c1
    simpa [Engine.core, k3, hp] using this
  simp only [Engine.core, Prod.mk.injEq] at c2
  obtain ⟨d1, d2, d3, d4, d5, d6, _⟩ := c2
  have hy : y = (u.advance e tail (.jump t)).engine e := by
    dsimp only [y]
    rw [h, hl, hw, hc, hs]
    simp only [List.length_nil, Nat.add_zero, State.takeStores_nil]
    have hu : ((s.issued e tail f).emptyCycle e true).emptyCycle e true = u := rfl
    rw [hu, if_pos (by rw [d6, k5, hq]; simp)]
  obtain ⟨a1, a2, a3, _⟩ := State.advance_engine u e tail (.jump t) (by simp)
  have tb : ∀ v, (u.engine e).bank v = ((s.issued e tail f).engine e).bank v := by
    intro v
    cases v
    · exact d2
    · exact d3
  rw [hy]
  exact ⟨by rw [a1, tb, k1], by rw [a2, tb, k2], by rw [a3, d4, k3, hp]⟩

/-- END of the tail program. -/
theorem State.commitEff_stop (s : State) (e : Nat) (f : Eff) (hin : (s.engine e).inflight = []) (hl : f.load = none)
    (hw : f.chw = none) (hq : (s.engine e).fsq = []) (hs : f.stores = []) (hc : f.ctl = .stop) (tail : Bool) :
    ∃ u : State, u.engine e = (s.issued e tail f).engine e ∧ s.commitEff e tail f = u.endProgram e tail := by
  obtain ⟨seg, stamp, h⟩ := State.commitEff_eq s e tail f
  obtain ⟨k1, k2, k3, k4, k5, k6, k7, _⟩ := State.issued_engine s e tail f hin
  refine ⟨s.issued e tail f, rfl, ?_⟩
  rw [h, hl, hw, hc, hs]
  simp only [List.length_nil, Nat.add_zero, State.takeStores_nil]
  rw [if_pos (by rw [k5, hq]; simp)]
  unfold State.advance
  rw [if_pos rfl]

/-! ### A poised instruction completes -/

theorem State.counted_self (s : State) (e : Nat) (tail : Bool) :
    (∀ u, ((s.counted e tail).engine e).bank u = (s.engine e).bank u) ∧
    ((s.counted e tail).engine e).inflight = (s.engine e).inflight ∧ ((s.counted e tail).engine e).wq = (s.engine e).wq ∧
    ((s.counted e tail).engine e).fsq = (s.engine e).fsq ∧ ((s.counted e tail).engine e).farLoads = (s.engine e).farLoads ∧
    ((s.counted e tail).engine e).phase = (s.engine e).phase ∧ ((s.counted e tail).engine e).stab = (s.engine e).stab ∧
    ((s.counted e tail).engine e).actTab = (s.engine e).actTab := by
  rw [State.counted_engine, if_pos rfl]
  exact ⟨fun u => by cases u <;> rfl, rfl, rfl, rfl, rfl, rfl, rfl, rfl⟩

section
variable {s : State} {e op : Nat} {tail : Bool} {w : IWord} (body : State → Bool → IWord → Eff) (h : s.poised e op tail w)
  (hf : (body s tail w).fault = 0)
include h hf

theorem State.poised_plain (hp : (body s tail w).posts.length ≤ 4) (hl : (body s tail w).load = none)
    (hs : (body s tail w).stores = []) (hj : ∀ t, (body s tail w).ctl ≠ .jump t) (hc : (body s tail w).ctl ≠ .stop) :
    let y := (s.issue e op body).engine e
    let x := s.engine e
    let f := body s tail w
    y.bank tail = (f.bankAfter tail (x.bank tail)).step f.ctl ∧ y.bank (!tail) = x.bank (!tail) ∧
    y.inflight = pendRest (f.pends tail) ∧ y.wq = x.wq.drop f.freeLast ++ f.posts ∧ y.fsq = x.fsq := by
  obtain ⟨c1, c2, c3, c4, c5, _⟩ := State.counted_self s e tail
  have k := State.commitEff_plain (s.counted e tail) e tail (body s tail w) (c2.trans h.2.1) hl hs
    (by rw [c4, h.2.2.2.2]; exact Nat.zero_le _) hj hc
  dsimp only at k
  rw [c1, c1, c3, c4] at k
  rw [State.issue_poised body h hf hp]
  exact k

theorem State.poised_far (hp : (body s tail w).posts.length ≤ 4) (hl : (body s tail w).load = none)
    (hw : (body s tail w).chw = none) (hs : (body s tail w).stores.length ≤ 4) (hc : (body s tail w).ctl = .next) :
    let y := (s.issue e op body).engine e
    let x := s.engine e
    let f := body s tail w
    y.bank tail = (f.bankAfter tail (x.bank tail)).step .next ∧ y.bank (!tail) = x.bank (!tail) ∧
    y.inflight = pendRest (f.pends tail) ∧ y.fsq.map FarEntry.what = f.stores.map FarEntry.what := by
  obtain ⟨c1, c2, c3, c4, c5, _⟩ := State.counted_self s e tail
  have k := State.commitEff_far (s.counted e tail) e tail (body s tail w) (c2.trans h.2.1) hl hw (c4.trans h.2.2.2.2) hs hc
  dsimp only at k
  rw [c1, c1] at k
  rw [State.issue_poised body h hf hp]
  exact k

theorem State.poised_load (hp : (body s tail w).posts.length ≤ 4) (r : Nat) (m : BitVec 4) (ps : List FarPiece)
    (hl : (body s tail w).load = some (r, m, ps)) (hw : (body s tail w).chw = none) (hs : (body s tail w).stores = [])
    (hc : (body s tail w).ctl = .next) :
    let y := (s.issue e op body).engine e
    let x := s.engine e
    let f := body s tail w
    y.bank tail = (f.bankAfter tail (x.bank tail)).step .next ∧ y.bank (!tail) = x.bank (!tail) ∧
    y.inflight = pendRest (f.pends tail) ∧
    ∃ id, (y.farLoads = [{ id := id, tail := tail, fr := r, mask := m, left := ps }] ∨ (tail = false ∧ y.farLoads = [])) := by
  obtain ⟨c1, c2, c3, c4, c5, _⟩ := State.counted_self s e tail
  have k := State.commitEff_load (s.counted e tail) e tail (body s tail w) (c2.trans h.2.1) r m ps hl hw (c4.trans h.2.2.2.2) hs hc
    (c5.trans h.2.2.2.1)
  dsimp only at k
  rw [c1, c1] at k
  rw [State.issue_poised body h hf hp]
  exact k

theorem State.poised_jump (hp : (body s tail w).posts.length ≤ 4) (t : Nat) (hl : (body s tail w).load = none)
    (hw : (body s tail w).chw = none) (hs : (body s tail w).stores = []) (hc : (body s tail w).ctl = .jump t)
    (hr : pendRest ((body s tail w).pends tail) = []) :
    let y := (s.issue e op body).engine e
    let x := s.engine e
    let f := body s tail w
    y.bank tail = (f.bankAfter tail (x.bank tail)).step (.jump t) ∧ y.bank (!tail) = x.bank (!tail) ∧ y.inflight = [] := by
  obtain ⟨c1, c2, c3, c4, c5, _⟩ := State.counted_self s e tail
  have k := State.commitEff_jump (s.counted e tail) e tail (body s tail w) (c2.trans h.2.1) t hl hw (c4.trans h.2.2.2.2) hs hc hr
  dsimp only at k
  rw [c1, c1] at k
  rw [State.issue_poised body h hf hp]
  exact k

end

theorem lenDedup {α : Type} [BEq α] (l : List α) : l.eraseDups.length ≤ l.length := by
  generalize hn : l.length = n
  induction n using Nat.strongRecOn generalizing l with
  | ind n ih =>
    cases l with
    | nil => simp
    | cons a l =>
      rw [List.eraseDups_cons, List.length_cons]
      have h1 : (l.filter fun b => !b == a).length ≤ l.length := List.length_filter_le ..
      have h2 := ih (l.filter fun b => !b == a).length (by simp only [List.length_cons] at hn; omega) _ rfl
      simp only [List.length_cons] at hn
      omega

/-- A quad store makes at most as many entries as it has words. -/
theorem quadPosts_length (ws : List Nat) (m : BitVec 4) (v : Quad Word) : (quadPosts ws m v).length ≤ ws.length := by
  unfold quadPosts
  extract_lets lanes qs
  rw [List.length_map]
  refine Nat.le_trans (lenDedup _) ?_
  rw [List.length_map]
  refine Nat.le_trans (List.length_filter_le ..) ?_
  simp

theorem farEntries_length (ws : List Nat) (m : BitVec 4) (v : Quad Word) : (farEntries ws m v).length ≤ ws.length := by
  unfold farEntries
  extract_lets lanes us
  rw [List.length_map]
  refine Nat.le_trans (List.length_filter_le ..) ?_
  refine Nat.le_trans (lenDedup _) ?_
  simp

theorem RegBank.step_next (b : RegBank) : (b.step .next).pc = if b.rpt = 0 then b.pc + 1 else b.pc := by
  unfold RegBank.step
  simp only
  split <;> rfl

theorem lanesOf_length (quad : Bool) : (lanesOf quad).length ≤ 4 := by cases quad <;> decide

theorem addrWords_length (b : RegBank) (n ofs : Nat) (quad : Bool) : (addrWords b n ofs quad).1.length ≤ 4 := by
  cases quad <;> simp [addrWords]

theorem nearAddr_length (x : Engine) (b : RegBank) (n ofs : Nat) (quad : Bool) : (nearAddr x b n ofs quad).words.length ≤ 4 := by
  simpa [nearAddr] using addrWords_length b n ofs quad

theorem State.nearDld_length (s : State) (e n t wo : Nat) (quad : Bool) (u : List RegWrite) :
    (s.nearDld e n t wo quad u).words.length ≤ 4 := by
  unfold State.nearDld
  extract_lets x d ws
  split
  · simp
  · simpa [ws] using lanesOf_length quad

/-- A near operand has at most four words (R117). -/
theorem State.nearOp_length (s : State) (e : Nat) (tail quad : Bool) (w : IWord) : (s.nearOp e tail quad w).words.length ≤ 4 := by
  unfold State.nearOp
  split
  · exact State.nearDld_length ..
  · exact nearAddr_length ..

/-- A far operand has at most four words (R117). -/
theorem State.farOp_length (s : State) (e : Nat) (tail quad store : Bool) (w : IWord) :
    (s.farOp e tail quad store w).words.length ≤ 4 := by
  unfold State.farOp
  extract_lets x b win t n d T taps ws l st st' r
  have ht : taps.length ≤ 4 := by simpa [taps] using lanesOf_length quad
  split
  · split
    · simp
    · split
      · simpa [ws] using ht
      · split
        · simp
        · have h1 : st'.length ≤ st.length := List.length_filterMap_le ..
          have h2 : st.length = taps.length := by simp [st]
          simp only [List.length_map]
          omega
  · exact addrWords_length b (fld w 48 3) (fld w 40 8) quad


theorem RegBank.flg_keep (b : RegBank) : ({ b with flg := b.flg &&& ~~~(0 : BitVec 5) } : RegBank) = b := by
  have : b.flg &&& ~~~(0 : BitVec 5) = b.flg := BitVec.and_allOnes
  rw [this]

/-- Results as they enter the pipeline. -/
def pendOf (tail : Bool) (wr : List (Nat × RegWrite)) : List Pend := wr.map fun w => ⟨tail, w.1, w.2⟩

theorem pendOf_append (tail : Bool) (a c : List (Nat × RegWrite)) : pendOf tail (a ++ c) = pendOf tail a ++ pendOf tail c := List.map_append
theorem pendRest_append (a c : List Pend) : pendRest (a ++ c) = pendRest a ++ pendRest c := by simp [pendRest]
theorem pendDue_append (a c : List Pend) : pendDue (a ++ c) = pendDue a ++ pendDue c := by simp [pendDue]
theorem pendRest_one (tail : Bool) (l : List RegWrite) : pendRest (pendOf tail (l.map (1, ·))) = [] := by
  induction l with
  | nil => rfl
  | cons a l ih => simp [pendOf, pendRest, Pend.on]
theorem pendDue_one (tail : Bool) (l : List RegWrite) (b : RegBank) :
    b.lands (pendDue (pendOf tail (l.map (1, ·)))) = l.foldl RegBank.apply b := by
  induction l generalizing b with
  | nil => rfl
  | cons a l ih => exact ih (b.apply a)
theorem RegBank.lands_append (b : RegBank) (a c : List Pend) : b.lands (a ++ c) = (b.lands a).lands c := List.foldl_append

/-- Results `l` of latency n + 2. -/
theorem pendRest_raise (tail : Bool) (n : Nat) (c : Bool) (k : BitVec 5) :
    pendRest (pendOf tail (raise (n + 2) c k)) = if c then [(⟨tail, n + 1, .flg k⟩ : Pend)] else [] := by
  cases c <;> rfl
theorem pendDue_raise (tail : Bool) (n : Nat) (c : Bool) (k : BitVec 5) : pendDue (pendOf tail (raise (n + 2) c k)) = [] := by
  cases c <;> rfl

theorem pendRest_dth (tail : Bool) (n : Nat) (v : Word) : pendRest (pendOf tail (dthWr n v)) = [] := by
  unfold dthWr; split <;> rfl
theorem pendDue_dth (tail : Bool) (n : Nat) (v : Word) (b : RegBank) :
    b.lands (pendDue (pendOf tail (dthWr n v))) = if n = 0 then b else b.apply (.dth v) := by
  unfold dthWr; split <;> rfl

/-- The state after an instruction with results only. -/
theorem State.poised_flying {e : Nat} {s : State} {tail : Bool} {w : IWord} {op : Nat} (body : State → Bool → IWord → Eff) (f : Eff)
    (r : RegBank) (l : List Pend) (h : s.poised e op tail w) (hb : body s tail w = f) (h0 : f.fault = 0) (h1 : f.posts.length ≤ 4)
    (h2 : f.load = none) (h3 : f.stores = []) (h4 : f.ctl = .next) (h5 : f.clr = 0)
    (hr : RegBank.lands ((s.engine e).bank tail) (pendDue (pendOf tail f.wr)) = r) (hl : pendRest (pendOf tail f.wr) = l) :
    (((s.issue e op body).engine e).bank tail).file = r.file ∧
    ((s.issue e op body).engine e).bank (!tail) = (s.engine e).bank (!tail) ∧ ((s.issue e op body).engine e).inflight = l ∧
    ((s.issue e op body).engine e).wq = (s.engine e).wq.drop f.freeLast ++ f.posts := by
  obtain ⟨k1, k2, k3, k4, _⟩ := State.poised_plain body h (by rw [hb, h0]) (by rw [hb]; exact h1) (by rw [hb, h2]) (by rw [hb, h3])
    (by rw [hb, h4]; simp) (by rw [hb, h4]; simp)
  rw [k1, k2, k3, k4, hb]
  refine ⟨?_, rfl, hl, rfl⟩
  have : f.bankAfter tail ((s.engine e).bank tail) = r := by
    unfold Eff.bankAfter
    rw [h5, RegBank.flg_keep]
    exact hr
  rw [this]
  exact RegBank.file_step ..

theorem Eff.slots_frame (f : Eff) (ws : List Nat) (q : Bool) : (f.slots ws q).fault = f.fault ∧ (f.slots ws q).wr = f.wr ∧
    (f.slots ws q).posts = f.posts ∧ (f.slots ws q).load = f.load ∧ (f.slots ws q).stores = f.stores ∧
    (f.slots ws q).ctl = f.ctl ∧ (f.slots ws q).clr = f.clr := by
  unfold Eff.slots
  split
  · simp
  · split <;> simp

theorem Engine.forwarded_none (x : Engine) (tail : Bool) (r : Nat) (h : x.inflight = []) : x.forwarded tail r = (x.bank tail).raq r := by
  unfold Engine.forwarded
  rw [h]
  rfl

theorem Eff.freeLast_le (f : Eff) : f.freeLast ≤ 2 := by
  unfold Eff.freeLast
  split
  · split <;> omega
  · omega


theorem pendDue_stage (b : RegBank) (tail : Bool) (u : List RegWrite) (dm : Nat) (v : Word) (c : Bool) (k : BitVec 5) :
    b.lands (pendDue (pendOf tail (u.map (1, ·) ++ dthWr dm v ++ raise 2 c k))) =
      if dm = 0 then u.foldl RegBank.apply b else (u.foldl RegBank.apply b).apply (.dth v) := by
  rw [pendOf_append, pendOf_append, pendDue_append, pendDue_append, pendDue_raise _ 0, RegBank.lands_append, RegBank.lands_append, pendDue_one, pendDue_dth]
  rfl

theorem State.land_six (s : State) (e : Nat) (tail : Bool) (w : RegWrite) : ((s.land e tail w).engine e).six = (s.engine e).six := by
  obtain ⟨r, h⟩ := State.land_engine s e tail w
  rw [h]
  cases tail <;> rfl

theorem State.pipeStep_six (s : State) (e : Nat) : ((s.pipeStep e).engine e).six = (s.engine e).six := by
  unfold State.pipeStep
  extract_lets fl s1
  have h1 : (s1.engine e).six = (s.engine e).six := by
    dsimp only [s1]
    rw [State.engine_modEngine, if_pos rfl]
  rw [← h1]
  generalize (fl.filter fun p => p.left == 0) = l
  clear_value s1
  clear h1
  induction l generalizing s1 with
  | nil => rfl
  | cons a l ih => exact (ih _).trans (State.land_six ..)

theorem State.issued_six (s : State) (e : Nat) (tail : Bool) (f : Eff) : ((s.issued e tail f).engine e).six = (s.engine e).six := by
  unfold State.issued
  extract_lets s1 s2 occ s3 s4 s5 s6
  have h1 : (s1.engine e).six = (s.engine e).six := by dsimp only [s1]; rw [State.engine_lmEccNote]
  have h2 : (s2.engine e).six = (s1.engine e).six := by
    refine forN_inv _ _ (fun t => (t.engine e).six = (s1.engine e).six) ?_ s1 rfl
    intro _ t ht
    rw [State.pipeStep_six, State.engine_modEngine, if_pos rfl]
    exact ht
  have h3 : (s3.engine e).six = (s2.engine e).six := by
    obtain ⟨_, _, h⟩ := State.retire_engine s2 e f.freeLast
    dsimp only [s3]
    rw [h]
  have h5 : (s5.engine e).six = (s3.engine e).six := by
    dsimp only [s5]
    rw [State.engine_modEngine, if_pos rfl]
    dsimp only [s4]
    rw [State.engine_hwm]
  have h6 : (s6.engine e).six = (s5.engine e).six := by
    dsimp only [s6]
    rw [State.engine_modEngine, if_pos rfl]
    cases tail <;> rfl
  rw [State.pipeStep_six, h6, h5, h3, h2, h1]

/-- Everything but the parts that `issued` and `advance` change. -/
def Mask.issue : Mask := { regs := true, eng := true, cal := true, fab := true, ctx := true, pcie := true, keep := true, ngx := true, calMem := true }

theorem State.issued_chainNow (s : State) (e : Nat) (tail : Bool) (f : Eff) : (s.issued e tail f).chainNow = s.chainNow := by
  have : Kept Mask.issue s (s.issued e tail f) := by
    unfold State.issued
    refine State.pipeStep_kept rfl rfl (State.modEngine_kept rfl (State.modEngine_kept rfl (State.hwm_kept rfl (State.retire_kept rfl rfl ?_))))
    refine forN_kept (State.lmEccNote_kept rfl (Kept.refl _)) ?_
    intro v s h
    exact State.pipeStep_kept rfl rfl (State.modEngine_kept rfl (by assumption))
  exact this.chainNow rfl

theorem State.advance_chainNow (s : State) (e : Nat) (tail : Bool) (c : Ctl) : (s.advance e tail c).chainNow = s.chainNow :=
  (State.advance_kept (M := Mask.issue) rfl rfl rfl rfl rfl rfl rfl rfl (Kept.refl s)).chainNow rfl

theorem State.counted_chainNow (s : State) (e : Nat) (tail : Bool) : (s.counted e tail).chainNow = s.chainNow :=
  (State.countPce_kept (M := Mask.issue) rfl (State.stallOver_kept rfl rfl (Kept.refl s))).chainNow rfl


theorem Eff.bankAfter_none (f : Eff) (tail : Bool) (b : RegBank) (h1 : f.clr = 0) (h2 : f.wr = []) : f.bankAfter tail b = b := by
  unfold Eff.bankAfter Eff.pends
  rw [h1, h2, RegBank.flg_keep]
  rfl

theorem Eff.bankAfter_one (tail : Bool) (b : RegBank) (r : RegWrite) (frs : List Nat) :
    ({ frs := frs, wr := [(1, r)] } : Eff).bankAfter tail b = b.apply r := by
  unfold Eff.bankAfter
  rw [RegBank.flg_keep]
  rfl

theorem State.poised_one {e : Nat} {s : State} {tail : Bool} {w : IWord} {op : Nat} (body : State → Bool → IWord → Eff) (r : RegWrite)
    (frs : List Nat) (h : s.poised e op tail w) (hb : body s tail w = { frs := frs, wr := [(1, r)] }) :
    (((s.issue e op body).engine e).bank tail).file = (((s.engine e).bank tail).apply r).file ∧
    ((s.issue e op body).engine e).bank (!tail) = (s.engine e).bank (!tail) ∧ ((s.issue e op body).engine e).inflight = [] := by
  obtain ⟨k1, k2, k3, _⟩ := State.poised_plain body h (by rw [hb]) (by rw [hb]; simp) (by rw [hb]) (by rw [hb]) (by rw [hb]; simp) (by rw [hb]; simp)
  rw [k1, k2, k3, hb, Eff.bankAfter_one]
  exact ⟨RegBank.file_step .., rfl, rfl⟩


end Sys2Proof.Machine
end

