-- ==== Sys2Proof/Laws/KeptLantern.lean ====
section
/-! SUPPORT. What the operations and meanings of Machine/Lantern.lean keep (Laws/Kept.lean). -/

namespace Sys2Proof.Machine

theorem State.lanPut_kept {M : Mask} {z₀ : State} {s : State} {off : Nat} {d : List Sys2Proof.Byte} (m_fab : M.fab = true)
    (h0 : Kept M z₀ s) : Kept M z₀ (@State.lanPut s off d) := by
  unfold State.lanPut
  extract_lets x0
  clear_value x0
  refine foldl_kept ?_ ?_
  · assumption
  · intro v1
    intro v2
    intro v3
    exact State.hostWrite_kept m_fab (by assumption)

theorem State.lanternHead_kept {M : Mask} {z₀ : State} {s : State} (m_fab : M.fab = true) (m_keep : M.keep = true) (h0 : Kept
    M z₀ s) : Kept M z₀ (@State.lanternHead s) := by
  unfold State.lanternHead
  refine ite_kept ?_ ?_
  · assumption
  · extract_lets x0 x1 x2
    clear_value x0
    have k3 : Kept M z₀ x1 := by
      dsimp -zeta only [x1]
      exact State.lanPut_kept m_fab (State.lanPut_kept m_fab (by assumption))
    clear_value x1 x2
    exact Kept.upKeep m_keep (by assumption)

theorem State.lantern_kept {M : Mask} {z₀ : State} {s : State} (m_fab : M.fab = true) (m_keep : M.keep = true) (h0 : Kept M
    z₀ s) : Kept M z₀ (@State.lantern s) := by
  unfold State.lantern
  split
  · exact h0
  · extract_lets x0 x1 x2 x3 x4
    have k1 : Kept M z₀ x3 := Kept.upFreeCtr (Nat.le_add_right _ _) h0
    clear_value x3
    have k2 : Kept M z₀ x4 := State.lanPut_kept m_fab k1
    clear_value x4
    exact Kept.upKeep m_keep k2

theorem State.modeDo_kept {M : Mask} {z₀ : State} {s : State} {reason : Nat} {f : State → State} (m_regs : M.regs = true)
    (m_fab : M.fab = true) (m_keep : M.keep = true) (h0 : Kept M z₀ s) (h2 : ∀ u0, Kept M z₀ u0 → Kept M z₀ (f u0)) : Kept M
    z₀ (@State.modeDo s reason f) := by
  unfold State.modeDo
  extract_lets x0
  have k1 : Kept M z₀ x0 := by
    dsimp -zeta only [x0]
    apply h2
    assumption
  clear_value x0
  refine ite_kept ?_ ?_
  · assumption
  · exact State.lantern_kept m_fab m_keep (State.setFld_kept m_regs (by assumption))

theorem execLanternWrite_kept {M : Mask} {z₀ : State} {s : State} (m_fab : M.fab = true) (m_keep : M.keep = true) (h0 : Kept
    M z₀ s) : OutOk M z₀ (@execLanternWrite s) := by
  unfold execLanternWrite
  refine OutOk.next ?_
  refine ite_kept ?_ ?_
  · exact State.lantern_kept m_fab m_keep (by assumption)
  · assumption

end Sys2Proof.Machine
end

