-- ==== Sys2Proof/Laws/KeptBootOps.lean ====
section
/-! SUPPORT. What the operations and meanings of Machine/BootOps.lean keep (Laws/Kept.lean). -/

namespace Sys2Proof.Machine

theorem State.saveRepairs_kept {M : Mask} {z₀ : State} {s : State} (m_cal : M.cal = true) (h0 : Kept M z₀ s) : Kept M z₀
    (@State.saveRepairs s) := by
  unfold State.saveRepairs
  exact Kept.upCal m_cal ⟨rfl, rfl, rfl, rfl⟩ (by assumption)

theorem State.devReset_kept {M : Mask} {z₀ : State} {s : State} {full : Bool} (m_regs : M.regs = true) (m_latches : M.latches
    = true) (m_rdata : M.rdata = true) (m_eng : M.eng = true) (m_chainNow : M.chainNow = true) (m_chainId : M.chainId = true)
    (m_chainFrz : M.chainFrz = true) (m_chainTorn : M.chainTorn = true) (m_chainIn : M.chainIn = true) (m_fab : M.fab = true)
    (m_tick : M.tick = true) (m_par : M.par = true) (m_cal : M.cal = true) (m_res : M.res = true) (m_ctx : M.ctx = true)
    (m_mode : M.mode = true) (m_route : M.route = true) (m_mov : M.mov = true) (m_port : M.port = true) (m_pcie : M.pcie =
    true) (m_clk : M.clk = true) (m_keep : M.keep = true) (m_pwr : M.pwr = true) (m_ngx : M.ngx = true) (m_boot : M.boot =
    true) (m_spim : M.spim = true) (m_spis : M.spis = true) (m_test : M.test = true) (m_tap : M.tap = true) (m_gpio : M.gpio
    = true) (m_calMem : M.calMem = true) (m_tcm : M.tcm = true) (h0 : Kept M z₀ s) : Kept M z₀ (@State.devReset s full) := by
  unfold State.devReset
  extract_lets x0 x1 x2 x3 x4 x5 x6 x7 x8
  have k0 : Kept M z₀ x0 := by
    dsimp -zeta only [x0]
    split
    · exact State.saveRepairs_kept m_cal h0
    · exact h0
  have k1 : Kept M z₀ x6 :=
    Kept.restart (t := x6) k0 m_regs m_latches m_rdata m_eng m_chainNow m_chainId m_chainFrz m_chainTorn m_chainIn m_fab
        m_tick m_par m_cal m_res m_ctx m_mode m_route m_mov m_port m_pcie m_clk m_keep m_pwr m_ngx m_boot m_spim m_spis
        m_test m_tap m_gpio m_calMem m_tcm rfl (Nat.le_refl _) (Nat.le_refl _) rfl rfl
      (SMap.wf_nil _) (SMap.wf_nil _)
  clear_value x6
  have k2 : ∀ t r, Kept M z₀ t → Kept M z₀ (x7 t r) := fun t r ht => State.setReg_kept m_regs ht
  clear_value x7
  have k3 : Kept M z₀ x8 := foldl_kept k1 fun t r ht => k2 t r ht
  clear_value x8
  split
  · exact k3
  · exact foldl_kept k3 fun t r ht => k2 t r ht

theorem State.startUp_kept {M : Mask} {z₀ : State} {s : State} {straps : BitVec 6} {reason : Nat} (m_regs : M.regs = true)
    (m_boot : M.boot = true) (h0 : Kept M z₀ s) : Kept M z₀ (@State.startUp s straps reason) := by
  unfold State.startUp
  extract_lets x0 x1 x2 x3 x4 x5
  clear_value x0 x1
  subst x2
  have k6 : Kept M z₀ x3 := by
    dsimp -zeta only [x3]
    exact Kept.upBoot m_boot rfl rfl rfl (by assumption)
  clear_value x3
  have k7 : Kept M z₀ x4 := by
    dsimp -zeta only [x4]
    exact State.setReg_kept m_regs (State.setReg_kept m_regs (by assumption))
  clear_value x4
  have k8 : Kept M z₀ x5 := by
    dsimp -zeta only [x5]
    exact State.setBit_kept m_regs (State.setReg_kept m_regs (by assumption))
  clear_value x5
  refine ite_kept ?_ ?_
  · exact State.setBit_kept m_regs (State.setBit_kept m_regs (by assumption))
  · exact State.setFld_kept m_regs (State.setBit_kept m_regs (State.setBit_kept m_regs (by assumption)))

theorem State.bootReset_kept {M : Mask} {z₀ : State} {s : State} {straps : BitVec 6} {reason : Nat} (m_regs : M.regs = true)
    (m_latches : M.latches = true) (m_rdata : M.rdata = true) (m_eng : M.eng = true) (m_chainNow : M.chainNow = true)
    (m_chainId : M.chainId = true) (m_chainFrz : M.chainFrz = true) (m_chainTorn : M.chainTorn = true) (m_chainIn : M.chainIn
    = true) (m_fab : M.fab = true) (m_tick : M.tick = true) (m_par : M.par = true) (m_cal : M.cal = true) (m_res : M.res =
    true) (m_ctx : M.ctx = true) (m_mode : M.mode = true) (m_route : M.route = true) (m_mov : M.mov = true) (m_port : M.port
    = true) (m_pcie : M.pcie = true) (m_clk : M.clk = true) (m_keep : M.keep = true) (m_pwr : M.pwr = true) (m_ngx : M.ngx =
    true) (m_boot : M.boot = true) (m_spim : M.spim = true) (m_spis : M.spis = true) (m_test : M.test = true) (m_tap : M.tap
    = true) (m_gpio : M.gpio = true) (m_calMem : M.calMem = true) (m_tcm : M.tcm = true) (h0 : Kept M z₀ s) : Kept M z₀
    (@State.bootReset s straps reason) := by
  unfold State.bootReset
  exact State.startUp_kept m_regs m_boot (State.devReset_kept m_regs m_latches m_rdata m_eng m_chainNow m_chainId m_chainFrz
      m_chainTorn m_chainIn m_fab m_tick m_par m_cal m_res m_ctx m_mode m_route m_mov m_port m_pcie m_clk m_keep m_pwr m_ngx
      m_boot m_spim m_spis m_test m_tap m_gpio m_calMem m_tcm (by assumption))

theorem State.newSession_kept {M : Mask} {z₀ : State} {s : State} {old : Nat} (m_regs : M.regs = true) (m_boot : M.boot =
    true) (h0 : Kept M z₀ s) : Kept M z₀ (@State.newSession s old) := by
  unfold State.newSession
  split
  · rename_i w0 w1 w2 w3
    have k4 : Kept M z₀ w2 := snd_of w3 (by
        refine State.draw_kept ?_
        assumption)
    extract_lets x5 x6 x7
    clear_value x5
    have k8 : Kept M z₀ x6 := by
      dsimp -zeta only [x6]
      exact State.setFld_kept m_regs (by assumption)
    clear_value x6
    subst x7
    exact Kept.upBoot m_boot rfl rfl rfl (by assumption)

theorem State.fullStart_kept {M : Mask} {z₀ : State} {s : State} {straps : BitVec 6} {reason : Nat} {pme : Bool} (m_regs :
    M.regs = true) (m_latches : M.latches = true) (m_rdata : M.rdata = true) (m_eng : M.eng = true) (m_chainNow : M.chainNow
    = true) (m_chainId : M.chainId = true) (m_chainFrz : M.chainFrz = true) (m_chainTorn : M.chainTorn = true) (m_chainIn :
    M.chainIn = true) (m_fab : M.fab = true) (m_tick : M.tick = true) (m_par : M.par = true) (m_cal : M.cal = true) (m_res :
    M.res = true) (m_ctx : M.ctx = true) (m_mode : M.mode = true) (m_route : M.route = true) (m_mov : M.mov = true) (m_port :
    M.port = true) (m_pcie : M.pcie = true) (m_clk : M.clk = true) (m_keep : M.keep = true) (m_pwr : M.pwr = true) (m_ngx :
    M.ngx = true) (m_boot : M.boot = true) (m_spim : M.spim = true) (m_spis : M.spis = true) (m_test : M.test = true) (m_tap
    : M.tap = true) (m_gpio : M.gpio = true) (m_calMem : M.calMem = true) (m_tcm : M.tcm = true) (h0 : Kept M z₀ s) : Kept M
    z₀ (@State.fullStart s straps reason pme) := by
  unfold State.fullStart
  extract_lets x0 x1 x2 x3
  clear_value x0
  have k4 : Kept M z₀ x1 := by
    dsimp -zeta only [x1]
    exact State.newSession_kept m_regs m_boot (State.devReset_kept m_regs m_latches m_rdata m_eng m_chainNow m_chainId
        m_chainFrz m_chainTorn m_chainIn m_fab m_tick m_par m_cal m_res m_ctx m_mode m_route m_mov m_port m_pcie m_clk m_keep
        m_pwr m_ngx m_boot m_spim m_spis m_test m_tap m_gpio m_calMem m_tcm (by assumption))
  clear_value x1 x2
  have k5 : Kept M z₀ x3 := by
    dsimp -zeta only [x3]
    refine ite_kept ?_ ?_
    · exact Kept.upPcie m_pcie (by assumption)
    · assumption
  clear_value x3
  exact State.startUp_kept m_regs m_boot (by assumption)

theorem State.enterMinimal_kept {M : Mask} {z₀ : State} {s : State} {reason : Nat} (m_regs : M.regs = true) (m_fab : M.fab =
    true) (m_tick : M.tick = true) (m_mode : M.mode = true) (m_keep : M.keep = true) (m_boot : M.boot = true) (h0 : Kept M z₀
    s) : Kept M z₀ (@State.enterMinimal s reason) := by
  unfold State.enterMinimal
  extract_lets x0
  have k1 : Kept M z₀ x0 := by
    dsimp -zeta only [x0]
    refine State.modeDo_kept m_regs m_fab m_keep ?_ ?_
    · assumption
    · intro v2
      intro v3
      exact Kept.lit (s := v2) { tick := .inl m_tick, mode := .inl m_mode, boot := .inl m_boot } (by assumption)
  clear_value x0
  exact State.histBegin_kept m_keep (by assumption)

theorem State.flashSet_kept {M : Mask} {z₀ : State} {s : State} {a : Nat} {d : List Sys2Proof.Byte} (m_boot : M.boot = true)
    (m_flash : M.flash = true) (h0 : Kept M z₀ s) : Kept M z₀ (@State.flashSet s a d) := by
  unfold State.flashSet
  exact Kept.upRoms m_boot (.inl m_flash) (.inr rfl) (.inr rfl)
    (fun hc => ⟨⟨hc.1, SMap.wf_foldl_set _ _ _ hc.2.1, hc.2.2⟩, FuseLe.refl _⟩) h0

theorem State.flashErase_kept {M : Mask} {z₀ : State} {s : State} {a : Nat} {n : Nat} (m_boot : M.boot = true) (m_flash :
    M.flash = true) (h0 : Kept M z₀ s) : Kept M z₀ (@State.flashErase s a n) := by
  unfold State.flashErase
  exact Kept.upRoms m_boot (.inl m_flash) (.inr rfl) (.inr rfl)
    (fun hc => ⟨⟨hc.1, SMap.wf_keep hc.2.1 fun _ _ => rfl, hc.2.2⟩, FuseLe.refl _⟩) h0

theorem State.writeBcr_kept {M : Mask} {z₀ : State} {s : State} {slot : Nat} (m_boot : M.boot = true) (m_flash : M.flash =
    true) (h0 : Kept M z₀ s) : Kept M z₀ (@State.writeBcr s slot) := by
  unfold State.writeBcr
  extract_lets x0 x1 x2
  clear_value x0 x1 x2
  exact State.flashSet_kept m_boot m_flash (State.flashErase_kept m_boot m_flash (by assumption))

theorem State.tcmLoad_kept {M : Mask} {z₀ : State} {s : State} {o : Nat} {d : List Sys2Proof.Byte} (m_boot : M.boot = true)
    (m_tcm : M.tcm = true) (h0 : Kept M z₀ s) : Kept M z₀ (@State.tcmLoad s o d) := by
  unfold State.tcmLoad
  exact Kept.upRoms m_boot (.inr rfl) (.inl m_tcm) (.inr rfl)
    (fun hc => ⟨⟨hc.1, hc.2.1, SMap.wf_foldl_set _ _ _ hc.2.2.1, hc.2.2.2⟩, FuseLe.refl _⟩) h0

theorem State.writeArb_kept {M : Mask} {z₀ : State} {s : State} {m1 : Nat} {mk : Nat} (m_boot : M.boot = true) (m_flash :
    M.flash = true) (h0 : Kept M z₀ s) : Kept M z₀ (@State.writeArb s m1 mk) := by
  unfold State.writeArb
  extract_lets x0 x1 x2
  clear_value x0 x1 x2
  exact State.flashSet_kept m_boot m_flash (State.flashErase_kept m_boot m_flash (by assumption))

theorem State.applyRepairs_kept {M : Mask} {z₀ : State} {s : State} (m_regs : M.regs = true) (m_cal : M.cal = true) (h0 :
    Kept M z₀ s) : Kept M z₀ (@State.applyRepairs s) := by
  unfold State.applyRepairs
  extract_lets x0 x1 x2 x3
  subst x0
  have k4 : Kept M z₀ x1 := by
    dsimp -zeta only [x1]
    exact Kept.upCal m_cal ⟨rfl, rfl, rfl, rfl⟩ (by assumption)
  clear_value x1
  have k5 : Kept M z₀ x2 := by
    dsimp -zeta only [x2]
    refine forN_kept ?_ ?_
    · assumption
    · intro v6
      intro v7
      intro v8
      extract_lets x9
      clear_value x9
      exact State.setBit_kept m_regs (State.setFld_kept m_regs (by assumption))
  clear_value x2
  have k10 : Kept M z₀ x3 := by
    dsimp -zeta only [x3]
    refine forN_kept ?_ ?_
    · assumption
    · intro v11
      intro v12
      intro v13
      exact State.setReg_kept m_regs (by assumption)
  clear_value x3
  refine foldl_kept ?_ ?_
  · assumption
  · intro v14
    intro v15
    intro v16
    refine ite_kept ?_ ?_
    · exact State.retireTile_kept m_regs m_cal (by assumption)
    · exact State.setTile_kept m_cal (by assumption)

theorem State.enterAwait_kept {M : Mask} {z₀ : State} {s : State} (m_regs : M.regs = true) (m_fab : M.fab = true) (m_mode :
    M.mode = true) (m_keep : M.keep = true) (m_boot : M.boot = true) (h0 : Kept M z₀ s) : Kept M z₀ (@State.enterAwait s) :=
    by
  unfold State.enterAwait
  refine State.modeDo_kept m_regs m_fab m_keep ?_ ?_
  · assumption
  · intro v0
    intro v1
    exact Kept.lit (s := v0) { mode := .inl m_mode, boot := .inl m_boot } (by assumption)

end Sys2Proof.Machine
end

