-- ==== Sys2Proof/Laws/KeptClocks.lean ====
section
/-! SUPPORT. What the operations and meanings of Machine/Clocks.lean keep (Laws/Kept.lean). -/

namespace Sys2Proof.Machine

theorem State.setDom_kept {M : Mask} {z₀ : State} {s : State} {m : Nat} {x : DomGen} (m_tick : M.tick = true) (h0 : Kept M z₀
    s) : Kept M z₀ (@State.setDom s m x) := by
  unfold State.setDom
  exact Kept.upTick m_tick (by assumption)

theorem State.slew_kept {M : Mask} {z₀ : State} {s : State} (m_regs : M.regs = true) (h0 : Kept M z₀ s) : Kept M z₀
    (@State.slew s) := by
  unfold State.slew
  refine ite_kept ?_ ?_
  · extract_lets x0 x1 x2
    clear_value x0 x1 x2
    exact State.setReg64_kept m_regs (by assumption)
  · assumption

theorem State.trackTrim_kept {M : Mask} {z₀ : State} {s : State} {x : Nat} (m_regs : M.regs = true) (h0 : Kept M z₀ s) : Kept
    M z₀ (@State.trackTrim s x) := by
  unfold State.trackTrim
  extract_lets x0 x1 x2
  clear_value x0 x1 x2
  refine ite_kept ?_ ?_
  · assumption
  · split
    · rename_i w3 w4 w5 w6
      have k7 : Kept M z₀ w5 := snd_of w6 (by
          refine State.draw_kept ?_
          assumption)
      extract_lets x8 x9
      clear_value x8
      have k10 : Kept M z₀ x9 := by
        dsimp -zeta only [x9]
        exact State.setFld_kept m_regs (by assumption)
      clear_value x9
      refine ite_kept ?_ ?_
      · exact State.setBit_kept m_regs (by assumption)
      · assumption

theorem State.ckoApply_kept {M : Mask} {z₀ : State} {s : State} (m_regs : M.regs = true) (m_clk : M.clk = true) (h0 : Kept M
    z₀ s) : Kept M z₀ (@State.ckoApply s) := by
  unfold State.ckoApply
  extract_lets x0 x1
  have k2 : Kept M z₀ x0 := by
    dsimp -zeta only [x0]
    refine forN_kept ?_ ?_
    · assumption
    · intro v3
      intro v4
      intro v5
      refine ite_kept ?_ ?_
      · assumption
      · extract_lets x6 x7 x8
        clear_value x6 x7
        have k9 : Kept M z₀ x8 := by
          dsimp -zeta only [x8]
          exact Kept.upClk m_clk (by assumption)
        clear_value x8
        exact State.setReg_kept m_regs (by assumption)
  clear_value x0 x1
  exact State.setBit_kept m_regs (Kept.upClk m_clk (by assumption))

theorem State.sidxRead_kept {M : Mask} {z₀ : State} {s : State} (m_latches : M.latches = true) (h0 : Kept M z₀ s) : Kept M z₀
    (@State.sidxRead s).2 := by
  unfold State.sidxRead
  extract_lets x0 x1 x2 x3
  clear_value x0 x1 x2 x3
  dsimp -zeta only
  exact Kept.upLatches m_latches (by assumption)

theorem State.modGen_kept {M : Mask} {z₀ : State} {s : State} {f : TickGen → TickGen} (m_tick : M.tick = true) (h0 : Kept M
    z₀ s) : Kept M z₀ (@State.modGen s f) := by
  unfold State.modGen
  exact Kept.upTick m_tick (by assumption)

theorem execRefclkReturn_kept {M : Mask} {z₀ : State} {s : State} (m_regs : M.regs = true) (h0 : Kept M z₀ s) : OutOk M z₀
    (@execRefclkReturn s) := by
  unfold execRefclkReturn
  exact OutOk.next (State.setBit_kept m_regs (by assumption))

theorem State.setPll_kept {M : Mask} {z₀ : State} {s : State} {x : Nat} {p : Pll} (m_clk : M.clk = true) (h0 : Kept M z₀ s) :
    Kept M z₀ (@State.setPll s x p) := by
  unfold State.setPll
  exact Kept.upClk m_clk (by assumption)

theorem State.setPllSt_kept {M : Mask} {z₀ : State} {s : State} {x : Nat} {v : Nat} (m_regs : M.regs = true) (m_clk : M.clk =
    true) (h0 : Kept M z₀ s) : Kept M z₀ (@State.setPllSt s x v) := by
  unfold State.setPllSt
  exact State.setPll_kept m_clk (State.setFld_kept m_regs (by assumption))

theorem State.acquire_kept {M : Mask} {z₀ : State} {s : State} {x : Nat} (m_regs : M.regs = true) (m_clk : M.clk = true) (h0
    : Kept M z₀ s) : Kept M z₀ (@State.acquire s x) := by
  unfold State.acquire
  extract_lets x0
  have k1 : Kept M z₀ x0 := by
    dsimp -zeta only [x0]
    split
    · exact State.setFld_kept m_regs (by assumption)
    · assumption
  clear_value x0
  exact State.setPllSt_kept m_regs m_clk (by assumption)

theorem State.relock_kept {M : Mask} {z₀ : State} {s : State} {x : Nat} (m_regs : M.regs = true) (m_clk : M.clk = true) (h0 :
    Kept M z₀ s) : Kept M z₀ (@State.relock s x) := by
  unfold State.relock
  refine ite_kept ?_ ?_
  · exact State.acquire_kept m_regs m_clk (by assumption)
  · assumption

theorem State.pllCtrlW_kept {M : Mask} {z₀ : State} {s : State} {x : Nat} {v : Word} (m_regs : M.regs = true) (m_clk : M.clk
    = true) (h0 : Kept M z₀ s) : Kept M z₀ (@State.pllCtrlW s x v) := by
  unfold State.pllCtrlW
  extract_lets x0 x1 x2 x3 x4
  clear_value x0
  have k5 : Kept M z₀ x1 := by
    dsimp -zeta only [x1]
    refine ite_kept ?_ ?_
    · exact State.setBit_kept m_regs (by assumption)
    · assumption
  clear_value x1
  have k6 : Kept M z₀ x2 := by
    dsimp -zeta only [x2]
    exact State.setBit_kept m_regs (by assumption)
  clear_value x2 x3
  have k8 : ∀ y7, Kept M z₀ y7 → Kept M z₀ (x4 y7) := by
    intro v9
    intro v10
    dsimp -zeta only [x4]
    exact State.setFld_kept m_regs (State.setBit_kept m_regs (State.setBit_kept m_regs (by assumption)))
  clear_value x4
  refine ite_kept ?_ ?_
  · refine ite_kept ?_ ?_
    · assumption
    · refine ite_kept ?_ ?_
      · refine ite_kept ?_ ?_
        · assumption
        · refine State.setPllSt_kept m_regs m_clk ?_
          apply k8
          assumption
      · refine ite_kept ?_ ?_
        · refine State.relock_kept m_regs m_clk ?_
          apply k8
          assumption
        · apply k8
          assumption
  · refine ite_kept ?_ ?_
    · apply k8
      assumption
    · refine ite_kept ?_ ?_
      · refine State.acquire_kept m_regs m_clk ?_
        apply k8
        assumption
      · assumption

theorem State.tickCtrlW_kept {M : Mask} {z₀ : State} {s : State} {m : Nat} {v : Word} (m_regs : M.regs = true) (h0 : Kept M
    z₀ s) : Kept M z₀ (@State.tickCtrlW s m v) := by
  unfold State.tickCtrlW
  extract_lets x0 x1 x2 x3 x4 x5
  clear_value x0 x1
  have k6 : Kept M z₀ x2 := by
    dsimp -zeta only [x2]
    exact State.setBit_kept m_regs (by assumption)
  clear_value x2 x3 x4
  have k7 : Kept M z₀ x5 := by
    dsimp -zeta only [x5]
    exact State.setReg_kept m_regs (by assumption)
  clear_value x5
  refine ite_kept ?_ ?_
  · refine ite_kept ?_ ?_
    · assumption
    · exact State.setReg_kept m_regs (by assumption)
  · refine ite_kept ?_ ?_
    · assumption
    · refine ite_kept ?_ ?_
      · exact State.setFld_kept m_regs (by assumption)
      · assumption

theorem State.ckoCommitW_kept {M : Mask} {z₀ : State} {s : State} {v : Word} (m_regs : M.regs = true) (m_clk : M.clk = true)
    (h0 : Kept M z₀ s) : Kept M z₀ (@State.ckoCommitW s v) := by
  unfold State.ckoCommitW
  extract_lets x0 x1
  have k2 : Kept M z₀ x0 := by
    dsimp -zeta only [x0]
    refine ite_kept ?_ ?_
    · exact State.setBit_kept m_regs (by assumption)
    · assumption
  clear_value x0
  have k3 : Kept M z₀ x1 := by
    dsimp -zeta only [x1]
    exact State.setBit_kept m_regs (by assumption)
  clear_value x1
  refine ite_kept ?_ ?_
  · assumption
  · refine ite_kept ?_ ?_
    · exact State.setBit_kept m_regs (by assumption)
    · refine ite_kept ?_ ?_
      · exact State.setBit_kept m_regs (by assumption)
      · exact State.ckoApply_kept m_regs m_clk (by assumption)

theorem State.ckoPhaseW_kept {M : Mask} {z₀ : State} {s : State} {n : Nat} {add : Int} (m_clk : M.clk = true) (h0 : Kept M z₀
    s) : Kept M z₀ (@State.ckoPhaseW s n add) := by
  unfold State.ckoPhaseW
  refine ite_kept ?_ ?_
  · assumption
  · extract_lets x0 x1
    clear_value x0 x1
    exact Kept.upClk m_clk (by assumption)

theorem State.pllNumW_kept {M : Mask} {z₀ : State} {s : State} {x : Nat} {r : Nat} {v : Word} (m_regs : M.regs = true) (h0 :
    Kept M z₀ s) : Kept M z₀ (@State.pllNumW s x r v) := by
  unfold State.pllNumW
  extract_lets x0
  clear_value x0
  refine ite_kept ?_ ?_
  · exact State.setBit_kept m_regs (by assumption)
  · exact State.setReg_kept m_regs (by assumption)

theorem State.observe_kept {M : Mask} {z₀ : State} {s : State} {src : Nat} (m_clk : M.clk = true) (h0 : Kept M z₀ s) : Kept M
    z₀ (@State.observe s src) := by
  unfold State.observe
  refine ite_kept ?_ ?_
  · extract_lets x0 x1
    clear_value x0 x1
    exact Kept.upClk m_clk (by assumption)
  · assumption

theorem State.unlock_kept {M : Mask} {z₀ : State} {s : State} (m_regs : M.regs = true) (m_tick : M.tick = true) (h0 : Kept M
    z₀ s) : Kept M z₀ (@State.unlock s) := by
  unfold State.unlock
  extract_lets x0
  have k1 : Kept M z₀ x0 := by
    dsimp -zeta only [x0]
    exact State.modGen_kept m_tick (by assumption)
  clear_value x0
  refine ite_kept ?_ ?_
  · exact State.setBit_kept m_regs (State.setBit_kept m_regs (by assumption))
  · assumption

theorem State.useEvent_kept {M : Mask} {z₀ : State} {s : State} {src : Nat} (m_regs : M.regs = true) (m_tick : M.tick = true)
    (h0 : Kept M z₀ s) : Kept M z₀ (@State.useEvent s src) := by
  unfold State.useEvent
  extract_lets x0
  clear_value x0
  split
  · rename_i w1 w2 w3 w4
    have k5 : Kept M z₀ w3 := snd_of w4 (by
        refine State.draw_kept ?_
        assumption)
    extract_lets x6 x7 x8 x9
    clear_value x6 x7
    have k10 : Kept M z₀ x8 := by
      dsimp -zeta only [x8]
      exact State.setBit_kept m_regs (by assumption)
    clear_value x8
    have k11 : Kept M z₀ x9 := by
      dsimp -zeta only [x9]
      exact State.modGen_kept m_tick (by assumption)
    clear_value x9
    refine ite_kept ?_ ?_
    · exact State.setBit_kept m_regs (by assumption)
    · refine ite_kept ?_ ?_
      · exact State.unlock_kept m_regs m_tick (by assumption)
      · assumption

theorem State.sourceEvent_kept {M : Mask} {z₀ : State} {s : State} {src : Nat} (m_regs : M.regs = true) (m_tick : M.tick =
    true) (m_clk : M.clk = true) (h0 : Kept M z₀ s) : Kept M z₀ (@State.sourceEvent s src) := by
  unfold State.sourceEvent
  refine ite_kept ?_ ?_
  · extract_lets x0 x1 x2 x3
    clear_value x0 x1 x2 x3
    refine ite_kept ?_ ?_
    · exact State.useEvent_kept m_regs m_tick (by assumption)
    · exact State.modGen_kept m_tick (by assumption)
  · exact State.observe_kept m_clk (by assumption)

theorem execHoldMeasWindow_kept {M : Mask} {z₀ : State} {count : BitVec 24} {s : State} (m_regs : M.regs = true) (m_clk :
    M.clk = true) (h1 : Kept M z₀ s) : OutOk M z₀ (@execHoldMeasWindow count s) := by
  unfold execHoldMeasWindow
  refine OutOk.next ?_
  refine ite_kept ?_ ?_
  · exact State.setReg_kept m_regs (Kept.upClk m_clk (by assumption))
  · assumption

theorem execCkoPhaseAdd_kept {M : Mask} {z₀ : State} {n : Fin 4} {add : BitVec 12} {s : State} (m_clk : M.clk = true) (h2 :
    Kept M z₀ s) : OutOk M z₀ (@execCkoPhaseAdd n add s) := by
  unfold execCkoPhaseAdd
  exact OutOk.next (State.ckoPhaseW_kept m_clk (by assumption))

theorem execCkoCommit_kept {M : Mask} {z₀ : State} {v : BitVec 32} {s : State} (m_regs : M.regs = true) (m_clk : M.clk =
    true) (h1 : Kept M z₀ s) : OutOk M z₀ (@execCkoCommit v s) := by
  unfold execCkoCommit
  exact OutOk.next (State.ckoCommitW_kept m_regs m_clk (by assumption))

theorem execFerrMeasure_kept {M : Mask} {z₀ : State} {ferr : BitVec 8} {s : State} (m_regs : M.regs = true) (h1 : Kept M z₀
    s) : OutOk M z₀ (@execFerrMeasure ferr s) := by
  unfold execFerrMeasure
  extract_lets x0
  have k1 : Kept M z₀ x0 := by
    dsimp -zeta only [x0]
    exact State.setFld_kept m_regs (by assumption)
  clear_value x0
  refine OutOk.next ?_
  refine ite_kept ?_ ?_
  · exact State.setBit_kept m_regs (by assumption)
  · assumption

theorem State.pllSlip_kept {M : Mask} {z₀ : State} {s : State} {x : Nat} (m_regs : M.regs = true) (m_clk : M.clk = true) (h0
    : Kept M z₀ s) : Kept M z₀ (@State.pllSlip s x) := by
  unfold State.pllSlip
  refine ite_kept ?_ ?_
  · extract_lets x0 x1
    clear_value x0
    have k2 : Kept M z₀ x1 := by
      dsimp -zeta only [x1]
      exact State.setPll_kept m_clk (State.setPllSt_kept m_regs m_clk (by assumption))
    clear_value x1
    exact State.bump_kept m_regs (State.setBit_kept m_regs (by assumption))
  · assumption

theorem execPllSlip_kept {M : Mask} {z₀ : State} {x : Fin 3} {s : State} (m_regs : M.regs = true) (m_fab : M.fab = true)
    (m_clk : M.clk = true) (m_keep : M.keep = true) (h1 : Kept M z₀ s) : OutOk M z₀ (@execPllSlip x s) := by
  unfold execPllSlip
  refine OutOk.next ?_
  refine State.modeDo_kept m_regs m_fab m_keep ?_ ?_
  · assumption
  · intro v0
    intro v1
    exact State.pllSlip_kept m_regs m_clk (by assumption)

theorem execAcquireEnd_kept {M : Mask} {z₀ : State} {x : Fin 3} {s : State} (m_regs : M.regs = true) (m_clk : M.clk = true)
    (h1 : Kept M z₀ s) : OutOk M z₀ (@execAcquireEnd x s) := by
  unfold execAcquireEnd
  refine OutOk.next ?_
  refine ite_kept ?_ ?_
  · exact State.setPllSt_kept m_regs m_clk (by assumption)
  · assumption

theorem execRelock_kept {M : Mask} {z₀ : State} {x : Fin 2} {s : State} (m_regs : M.regs = true) (m_clk : M.clk = true) (h1 :
    Kept M z₀ s) : OutOk M z₀ (@execRelock x s) := by
  unfold execRelock
  exact OutOk.next (State.relock_kept m_regs m_clk (by assumption))

theorem execPllDisable_kept {M : Mask} {z₀ : State} {x : Fin 2} {v : BitVec 32} {s : State} (m_regs : M.regs = true) (m_clk :
    M.clk = true) (h2 : Kept M z₀ s) : OutOk M z₀ (@execPllDisable x v s) := by
  unfold execPllDisable
  exact OutOk.next (State.pllCtrlW_kept m_regs m_clk (by assumption))

theorem execPllEnable_kept {M : Mask} {z₀ : State} {x : Fin 2} {v : BitVec 32} {s : State} (m_regs : M.regs = true) (m_clk :
    M.clk = true) (h2 : Kept M z₀ s) : OutOk M z₀ (@execPllEnable x v s) := by
  unfold execPllEnable
  exact OutOk.next (State.pllCtrlW_kept m_regs m_clk (by assumption))

theorem execRefclkLost_kept {M : Mask} {z₀ : State} {s : State} (m_regs : M.regs = true) (m_clk : M.clk = true) (h0 : Kept M
    z₀ s) : OutOk M z₀ (@execRefclkLost s) := by
  unfold execRefclkLost
  refine OutOk.next ?_
  refine ite_kept ?_ ?_
  · exact State.pllSlip_kept m_regs m_clk (State.pllSlip_kept m_regs m_clk (State.setBit_kept m_regs (State.setBit_kept
      m_regs (State.setBit_kept m_regs (by assumption)))))
  · assumption

theorem execSidxLoRead_kept {M : Mask} {z₀ : State} {s : State} (m_latches : M.latches = true) (m_rdata : M.rdata = true) (h0
    : Kept M z₀ s) : OutOk M z₀ (@execSidxLoRead s) := by
  unfold execSidxLoRead
  extract_lets x0 x1
  have k2 : Kept M z₀ x0.2 := by
    dsimp -zeta only [x0]
    exact State.sidxRead_kept m_latches (by assumption)
  clear_value x0
  have k3 : Kept M z₀ x1 := by
    dsimp -zeta only [x1]
    assumption
  clear_value x1
  exact OutOk.next (Kept.upRdata m_rdata (by assumption))

theorem execTickCtrlWrite_kept {M : Mask} {z₀ : State} {n : Fin 3} {v : BitVec 32} {s : State} (m_regs : M.regs = true) (h2 :
    Kept M z₀ s) : OutOk M z₀ (@execTickCtrlWrite n v s) := by
  unfold execTickCtrlWrite
  exact OutOk.next (State.tickCtrlW_kept m_regs (by assumption))

theorem execDmSourceEvent_kept {M : Mask} {z₀ : State} {m : Fin 2} {s : State} (m_regs : M.regs = true) (m_tick : M.tick =
    true) (h1 : Kept M z₀ s) : OutOk M z₀ (@execDmSourceEvent m s) := by
  unfold execDmSourceEvent
  extract_lets x0 x1 x2 x3 x4 x5
  clear_value x0 x1 x2 x3
  have k6 : Kept M z₀ x4 := by
    dsimp -zeta only [x4]
    exact State.setBit_kept m_regs (State.setBit_kept m_regs (by assumption))
  clear_value x4
  have k7 : Kept M z₀ x5 := by
    dsimp -zeta only [x5]
    exact State.setDom_kept m_tick (by assumption)
  clear_value x5
  refine ite_ok ?_ ?_
  · exact OutOk.next (by assumption)
  · split
    · exact OutOk.next (by assumption)
    · extract_lets x8 x9
      clear_value x8 x9
      refine ite_ok ?_ ?_
      · exact OutOk.next (State.setDom_kept m_tick (by assumption))
      · refine OutOk.next ?_
        refine ite_kept ?_ ?_
        · exact State.setBit_kept m_regs (by assumption)
        · assumption

theorem execSrcLost_kept {M : Mask} {z₀ : State} {s : State} (m_regs : M.regs = true) (m_tick : M.tick = true) (m_clk : M.clk
    = true) (h0 : Kept M z₀ s) : OutOk M z₀ (@execSrcLost s) := by
  unfold execSrcLost
  extract_lets x0 x1 x2 x3 x4
  clear_value x0 x1
  have k5 : Kept M z₀ x2 := by
    dsimp -zeta only [x2]
    exact State.setBit_kept m_regs (State.setBit_kept m_regs (by assumption))
  clear_value x2
  have k6 : Kept M z₀ x3 := by
    dsimp -zeta only [x3]
    exact State.unlock_kept m_regs m_tick (by assumption)
  clear_value x3 x4
  refine ite_ok ?_ ?_
  · exact OutOk.next (Kept.upClk m_clk (by assumption))
  · exact OutOk.next (by assumption)

theorem execSourceEvent_kept {M : Mask} {z₀ : State} {src : Fin 12} {refs : BitVec 32} {s : State} (m_regs : M.regs = true)
    (m_tick : M.tick = true) (m_clk : M.clk = true) (h2 : Kept M z₀ s) : OutOk M z₀ (@execSourceEvent src refs s) := by
  unfold execSourceEvent
  split
  · refine OutOk.next ?_
    refine ite_kept ?_ ?_
    · assumption
    · exact State.sourceEvent_kept m_regs m_tick m_clk (by assumption)
  · refine OutOk.next ?_
    refine ite_kept ?_ ?_
    · assumption
    · exact State.sourceEvent_kept m_regs m_tick m_clk (by assumption)
  · refine OutOk.next ?_
    refine ite_kept ?_ ?_
    · exact State.sourceEvent_kept m_regs m_tick m_clk (by assumption)
    · assumption
  · exact OutOk.next (by assumption)
  · extract_lets x0 x1 x2
    clear_value x1
    have k3 : Kept M z₀ x2 := by
      dsimp -zeta only [x2]
      exact Kept.upClk m_clk (by assumption)
    clear_value x2
    refine ite_ok ?_ ?_
    · exact OutOk.next (by assumption)
    · refine OutOk.next ?_
      refine ite_kept ?_ ?_
      · assumption
      · exact State.sourceEvent_kept m_regs m_tick m_clk (by assumption)
  · exact OutOk.next (by assumption)
  · refine OutOk.next ?_
    refine ite_kept ?_ ?_
    · exact State.sourceEvent_kept m_regs m_tick m_clk (by assumption)
    · assumption

theorem State.srcChange_kept {M : Mask} {z₀ : State} {s : State} (m_regs : M.regs = true) (m_tick : M.tick = true) (m_clk :
    M.clk = true) (m_keep : M.keep = true) (h0 : Kept M z₀ s) : Kept M z₀ (@State.srcChange s) := by
  unfold State.srcChange
  extract_lets x0 x1 x2 x3 x4 x5 x6 x7
  clear_value x0 x1
  have k8 : Kept M z₀ x2 := by
    dsimp -zeta only [x2]
    exact State.modGen_kept m_tick (State.setFld_kept m_regs (by assumption))
  clear_value x2
  have k9 : Kept M z₀ x3 := by
    dsimp -zeta only [x3]
    exact State.bump_kept m_regs (State.setBit_kept m_regs (by assumption))
  clear_value x3 x4
  have k10 : Kept M z₀ x5 := by
    dsimp -zeta only [x5]
    exact Kept.upClk m_clk (by assumption)
  clear_value x5
  have k11 : Kept M z₀ x6 := by
    dsimp -zeta only [x6]
    exact State.histEnd_kept m_keep (State.setBit_kept m_regs (by assumption))
  clear_value x6 x7
  refine ite_kept ?_ ?_
  · assumption
  · refine ite_kept ?_ ?_
    · exact State.histBegin_kept m_keep (by assumption)
    · refine ite_kept ?_ ?_
      · exact Kept.upClk m_clk (by assumption)
      · assumption

end Sys2Proof.Machine
end

