-- ==== Sys2Proof/Laws/KeptRoute.lean ====
section
/-! SUPPORT. What the operations and meanings of Machine/Route.lean keep (Laws/Kept.lean). -/

namespace Sys2Proof.Machine

theorem State.setXp_kept {M : Mask} {z₀ : State} {s : State} {n : Nat} {x : Xpoint} (m_regs : M.regs = true) (m_route :
    M.route = true) (h0 : Kept M z₀ s) : Kept M z₀ (@State.setXp s n x) := by
  unfold State.setXp
  exact State.setXps_kept m_regs m_route (by assumption)

theorem State.setHelperRamp_kept {M : Mask} {z₀ : State} {s : State} {n : Nat} {r : Ramp} (m_regs : M.regs = true) (m_par :
    M.par = true) (h0 : Kept M z₀ s) : Kept M z₀ (@State.setHelperRamp s n r) := by
  unfold State.setHelperRamp
  extract_lets x0 x1
  clear_value x0
  have k2 : Kept M z₀ x1 := by
    dsimp -zeta only [x1]
    exact Kept.upPar m_par (by assumption)
  clear_value x1
  exact State.setReg_kept m_regs (State.setReg_kept m_regs (State.setReg_kept m_regs (by assumption)))

theorem State.applyMember_kept {M : Mask} {z₀ : State} {s : State} {grp : Option (Nat × Bool)} {m : Member} (m_regs : M.regs
    = true) (m_eng : M.eng = true) (m_par : M.par = true) (m_ctx : M.ctx = true) (m_route : M.route = true) (h0 : Kept M z₀
    s) : Kept M z₀ (@State.applyMember s grp m) := by
  unfold State.applyMember
  extract_lets x0 x1
  clear_value x0
  have k5 : ∀ y2 y3 y4, Kept M z₀ y2 → Kept M z₀ (x1 y2 y3 y4) := by
    intro v6
    intro v7
    intro v8
    intro v9
    dsimp -zeta only [x1]
    refine ite_kept ?_ ?_
    · exact State.setResult_kept m_ctx (State.grant_kept m_ctx (by assumption))
    · assumption
  clear_value x1
  split
  · apply k5
    exact State.coefFlip_kept m_regs m_par (by assumption)
  · apply k5
    exact State.setHelperRamp_kept m_regs m_par (by assumption)
  · apply k5
    split
    · extract_lets x10
      clear_value x10
      refine ite_kept ?_ ?_
      · exact State.setXp_kept m_regs m_route (by assumption)
      · assumption
    · assumption
  · apply k5
    split
    · extract_lets x11
      clear_value x11
      exact State.setXp_kept m_regs m_route (by assumption)
    · exact State.setXp_kept m_regs m_route (by assumption)
    · assumption
  · apply k5
    split
    · extract_lets x12
      clear_value x12
      exact State.setXp_kept m_regs m_route (by assumption)
    · assumption
  · extract_lets x13
    have k14 : Kept M z₀ x13 := by
      dsimp -zeta only [x13]
      exact State.modDesc_kept m_ctx (by assumption)
    clear_value x13
    refine forN_kept ?_ ?_
    · assumption
    · intro v15
      intro v16
      intro v17
      refine ite_kept ?_ ?_
      · exact State.requestSwap_kept m_regs m_eng (by assumption)
      · assumption

theorem State.tickRamps_kept {M : Mask} {z₀ : State} {s : State} (m_regs : M.regs = true) (m_par : M.par = true) (m_route :
    M.route = true) (h0 : Kept M z₀ s) : Kept M z₀ (@State.tickRamps s) := by
  unfold State.tickRamps
  extract_lets x0
  have k1 : Kept M z₀ x0 := by
    dsimp -zeta only [x0]
    refine foldl_kept ?_ ?_
    · assumption
    · intro v2
      intro v3
      intro v4
      exact State.setHelperRamp_kept m_regs m_par (by assumption)
  clear_value x0
  exact State.setXps_kept m_regs m_route (by assumption)

theorem State.freeCleared_kept {M : Mask} {z₀ : State} {s : State} (m_regs : M.regs = true) (m_route : M.route = true) (h0 :
    Kept M z₀ s) : Kept M z₀ (@State.freeCleared s) := by
  unfold State.freeCleared
  exact State.setXps_kept m_regs m_route (by assumption)

theorem State.setAsrc_kept {M : Mask} {z₀ : State} {s : State} {n : Nat} {x : AsrcCh} (m_route : M.route = true) (h0 : Kept M
    z₀ s) : Kept M z₀ (@State.setAsrc s n x) := by
  unfold State.setAsrc
  exact Kept.upRoute m_route (by assumption)

theorem State.setBridge_kept {M : Mask} {z₀ : State} {s : State} {b : Nat} {x : Bridge} (m_route : M.route = true) (h0 : Kept
    M z₀ s) : Kept M z₀ (@State.setBridge s b x) := by
  unfold State.setBridge
  exact Kept.upRoute m_route (by assumption)

theorem State.stageChange_kept {M : Mask} {z₀ : State} {s : State} {c : Nat} {q : Nat} {d : OpenDesc} {m : Member} (m_regs :
    M.regs = true) (m_par : M.par = true) (m_ctx : M.ctx = true) (h0 : Kept M z₀ s) : Kept M z₀ (@State.stageChange s c q d
    m) := by
  unfold State.stageChange
  extract_lets x0 x1
  clear_value x0
  have k2 : Kept M z₀ x1 := by
    dsimp -zeta only [x1]
    exact State.stage_kept m_regs m_par (State.begin_kept m_ctx (by assumption))
  clear_value x1
  refine ite_kept ?_ ?_
  · exact State.finish_kept m_ctx (by assumption)
  · refine ite_kept ?_ ?_
    · exact State.setResult_kept m_ctx (by assumption)
    · assumption

theorem execGainSet_kept {M : Mask} {z₀ : State} {c : Fin 512} {q : BitVec 32} {s : State} (m_regs : M.regs = true) (m_par :
    M.par = true) (m_ctx : M.ctx = true) (h2 : Kept M z₀ s) : OutOk M z₀ (@execGainSet c q s) := by
  unfold execGainSet
  split
  · split
    · exact OutOk.next (by assumption)
    · extract_lets x0 x1 x2 x3 x4
      clear_value x0 x1 x2 x3 x4
      refine ite_ok ?_ ?_
      · exact OutOk.next (by assumption)
      · refine ite_ok ?_ ?_
        · exact OutOk.next (State.finish_kept m_ctx (by assumption))
        · exact OutOk.next (State.stageChange_kept m_regs m_par m_ctx (by assumption))

theorem State.asrcLose_kept {M : Mask} {z₀ : State} {s : State} {n : Nat} (m_regs : M.regs = true) (m_route : M.route = true)
    (h0 : Kept M z₀ s) : Kept M z₀ (@State.asrcLose s n) := by
  unfold State.asrcLose
  refine ite_kept ?_ ?_
  · extract_lets x0 x1
    have k2 : Kept M z₀ x0 := by
      dsimp -zeta only [x0]
      exact State.bump_kept m_regs (State.setBit_kept m_regs (State.setFld_kept m_regs (by assumption)))
    clear_value x0 x1
    exact State.setAsrc_kept m_route (by assumption)
  · assumption

theorem State.asrcW1_kept {M : Mask} {z₀ : State} {s : State} {n : Nat} {v : Word} (m_regs : M.regs = true) (h0 : Kept M z₀
    s) : Kept M z₀ (@State.asrcW1 s n v) := by
  unfold State.asrcW1
  refine ite_kept ?_ ?_
  · exact State.setBit_kept m_regs (by assumption)
  · exact State.setReg_kept m_regs (by assumption)

theorem State.asrcW0_kept {M : Mask} {z₀ : State} {s : State} {n : Nat} {v : Word} (m_regs : M.regs = true) (m_route :
    M.route = true) (h0 : Kept M z₀ s) : Kept M z₀ (@State.asrcW0 s n v) := by
  unfold State.asrcW0
  extract_lets x0 x1 x2 x3 x4 x5 x6 x7
  clear_value x0 x1 x2 x3 x4
  have k8 : Kept M z₀ x5 := by
    dsimp -zeta only [x5]
    exact State.setReg_kept m_regs (by assumption)
  clear_value x5
  have k9 : Kept M z₀ x6 := by
    dsimp -zeta only [x6]
    exact State.setFld_kept m_regs (by assumption)
  clear_value x6
  have k10 : Kept M z₀ x7 := by
    dsimp -zeta only [x7]
    split
    · exact State.setReg_kept m_regs (by assumption)
    · assumption
  clear_value x7
  refine ite_kept ?_ ?_
  · refine ite_kept ?_ ?_
    · assumption
    · refine ite_kept ?_ ?_
      · exact State.setAsrc_kept m_route (State.setFld_kept m_regs (State.setReg_kept m_regs (by assumption)))
      · exact State.setBit_kept m_regs (by assumption)
  · refine ite_kept ?_ ?_
    · exact State.setReg_kept m_regs (by assumption)
    · refine ite_kept ?_ ?_
      · exact State.setAsrc_kept m_route (by assumption)
      · exact State.setBit_kept m_regs (by assumption)

theorem State.brgW_kept {M : Mask} {z₀ : State} {s : State} {b : Nat} {v : Word} (m_regs : M.regs = true) (m_route : M.route
    = true) (h0 : Kept M z₀ s) : Kept M z₀ (@State.brgW s b v) := by
  unfold State.brgW
  extract_lets x0 x1 x2 x3 x4
  clear_value x0
  have k5 : Kept M z₀ x1 := by
    dsimp -zeta only [x1]
    refine ite_kept ?_ ?_
    · exact State.setBit_kept m_regs (by assumption)
    · assumption
  clear_value x1 x2 x3
  have k6 : Kept M z₀ x4 := by
    dsimp -zeta only [x4]
    exact State.setReg_kept m_regs (by assumption)
  clear_value x4
  refine ite_kept ?_ ?_
  · refine ite_kept ?_ ?_
    · assumption
    · refine ite_kept ?_ ?_
      · exact State.setBit_kept m_regs (by assumption)
      · exact State.setBit_kept m_regs (by assumption)
  · refine ite_kept ?_ ?_
    · exact State.setBridge_kept m_route (by assumption)
    · assumption

theorem execAsrcUnlock_kept {M : Mask} {z₀ : State} {n : Fin 256} {s : State} (m_regs : M.regs = true) (m_route : M.route =
    true) (h1 : Kept M z₀ s) : OutOk M z₀ (@execAsrcUnlock n s) := by
  unfold execAsrcUnlock
  exact OutOk.next (State.asrcLose_kept m_regs m_route (by assumption))

theorem execAsrcLock_kept {M : Mask} {z₀ : State} {n : Fin 256} {ratio : BitVec 32} {s : State} (m_regs : M.regs = true)
    (m_route : M.route = true) (h2 : Kept M z₀ s) : OutOk M z₀ (@execAsrcLock n ratio s) := by
  unfold execAsrcLock
  refine OutOk.next ?_
  refine ite_kept ?_ ?_
  · extract_lets x0 x1
    have k2 : Kept M z₀ x0 := by
      dsimp -zeta only [x0]
      exact State.setReg_kept m_regs (State.setFld_kept m_regs (by assumption))
    clear_value x0 x1
    exact State.setAsrc_kept m_route (by assumption)
  · assumption

theorem execAsrcCfg0Write_kept {M : Mask} {z₀ : State} {n : Fin 256} {v : BitVec 32} {s : State} (m_regs : M.regs = true)
    (m_route : M.route = true) (h2 : Kept M z₀ s) : OutOk M z₀ (@execAsrcCfg0Write n v s) := by
  unfold execAsrcCfg0Write
  exact OutOk.next (State.asrcW0_kept m_regs m_route (by assumption))

theorem execBrgWrite_kept {M : Mask} {z₀ : State} {b : Fin 64} {v : BitVec 32} {s : State} (m_regs : M.regs = true) (m_route
    : M.route = true) (h2 : Kept M z₀ s) : OutOk M z₀ (@execBrgWrite b v s) := by
  unfold execBrgWrite
  exact OutOk.next (State.brgW_kept m_regs m_route (by assumption))

theorem execRouteClear_kept {M : Mask} {z₀ : State} {c : Fin 512} {q : BitVec 32} {s : State} (m_regs : M.regs = true) (m_par
    : M.par = true) (m_ctx : M.ctx = true) (h2 : Kept M z₀ s) : OutOk M z₀ (@execRouteClear c q s) := by
  unfold execRouteClear
  split
  · split
    · exact OutOk.next (by assumption)
    · extract_lets x0 x1 x2 x3
      clear_value x0 x1 x2 x3
      refine ite_ok ?_ ?_
      · exact OutOk.next (by assumption)
      · refine ite_ok ?_ ?_
        · exact OutOk.next (State.finish_kept m_ctx (by assumption))
        · exact OutOk.next (State.stageChange_kept m_regs m_par m_ctx (by assumption))

theorem execRouteSet_kept {M : Mask} {z₀ : State} {c : Fin 512} {q : BitVec 32} {s : State} (m_regs : M.regs = true) (m_par :
    M.par = true) (m_ctx : M.ctx = true) (m_route : M.route = true) (h2 : Kept M z₀ s) : OutOk M z₀ (@execRouteSet c q s) :=
    by
  unfold execRouteSet
  split
  · split
    · exact OutOk.next (by assumption)
    · extract_lets x0 x1 x2 x3 x4 x5 x6 x7 x8
      clear_value x0 x1 x2 x3 x4 x5 x6 x7
      have k9 : Kept M z₀ x8 := by
        dsimp -zeta only [x8]
        exact State.stageChange_kept m_regs m_par m_ctx (by assumption)
      clear_value x8
      refine ite_ok ?_ ?_
      · exact OutOk.next (by assumption)
      · refine ite_ok ?_ ?_
        · exact OutOk.next (State.finish_kept m_ctx (by assumption))
        · refine ite_ok ?_ ?_
          · exact OutOk.next (State.finish_kept m_ctx (by assumption))
          · split
            · refine OutOk.next ?_
              refine ite_kept ?_ ?_
              · exact State.setXp_kept m_regs m_route (by assumption)
              · assumption
            · exact OutOk.next (by assumption)

theorem State.computeSinks_kept {M : Mask} {z₀ : State} {s : State} (m_regs : M.regs = true) (m_route : M.route = true) (h0 :
    Kept M z₀ s) : Kept M z₀ (@State.computeSinks s) := by
  unfold State.computeSinks
  refine ite_kept ?_ ?_
  · assumption
  · extract_lets x0 x1 x2
    clear_value x0 x1
    have k3 : Kept M z₀ x2 := by
      dsimp -zeta only [x2]
      exact Kept.upRoute m_route (by assumption)
    clear_value x2
    refine foldl_kept ?_ ?_
    · assumption
    · intro v4
      intro v5
      intro v6
      refine ite_kept ?_ ?_
      · assumption
      · extract_lets x7 x8 x9 x10 x11 x12
        clear_value x7 x8
        have k13 : Kept M z₀ x9 := by
          dsimp -zeta only [x9]
          refine ite_kept ?_ ?_
          · exact State.setBit_kept m_regs (by assumption)
          · assumption
        clear_value x9
        have k14 : Kept M z₀ x10 := by
          dsimp -zeta only [x10]
          refine ite_kept ?_ ?_
          · exact State.setBit_kept m_regs (by assumption)
          · assumption
        clear_value x10
        have k15 : Kept M z₀ x11 := by
          dsimp -zeta only [x11]
          refine ite_kept ?_ ?_
          · exact State.setReg_kept m_regs (State.bump_kept m_regs (by assumption))
          · assumption
        clear_value x11 x12
        exact Kept.upRoute m_route (by assumption)

theorem State.portRead_kept {M : Mask} {z₀ : State} {s : State} {late : BitVec 32} (m_regs : M.regs = true) (m_chainTorn :
    M.chainTorn = true) (m_route : M.route = true) (h0 : Kept M z₀ s) : Kept M z₀ (@State.portRead s late) := by
  unfold State.portRead
  refine ite_kept ?_ ?_
  · assumption
  · extract_lets x0 x1 x2 x3
    clear_value x0 x1 x2
    have k4 : Kept M z₀ x3 := by
      dsimp -zeta only [x3]
      exact State.computeSinks_kept m_regs m_route (Kept.upChainTorn m_chainTorn (by assumption))
    clear_value x3
    refine ite_kept ?_ ?_
    · assumption
    · exact Kept.upChainTorn m_chainTorn (by assumption)

theorem execEnginePortRead_kept {M : Mask} {z₀ : State} {late : BitVec 32} {s : State} (m_regs : M.regs = true) (m_chainTorn
    : M.chainTorn = true) (m_route : M.route = true) (h1 : Kept M z₀ s) : OutOk M z₀ (@execEnginePortRead late s) := by
  unfold execEnginePortRead
  exact OutOk.next (State.portRead_kept m_regs m_chainTorn m_route (by assumption))

end Sys2Proof.Machine
end

