-- ==== Sys2Proof/Laws/KeptPorts.lean ====
section
/-! SUPPORT. What the operations and meanings of Machine/Ports.lean keep (Laws/Kept.lean). -/

namespace Sys2Proof.Machine

theorem State.setTdm_kept {M : Mask} {z₀ : State} {s : State} {n : Nat} {x : Tdm} (m_port : M.port = true) (h0 : Kept M z₀ s)
    : Kept M z₀ (@State.setTdm s n x) := by
  unfold State.setTdm
  exact Kept.upPort m_port (by assumption)

theorem State.tdmRelease_kept {M : Mask} {z₀ : State} {s : State} {n : Nat} (m_port : M.port = true) (h0 : Kept M z₀ s) :
    Kept M z₀ (@State.tdmRelease s n) := by
  unfold State.tdmRelease
  extract_lets x0 x1 x2 x3 x4
  clear_value x0 x1 x2 x3 x4
  refine ite_kept ?_ ?_
  · assumption
  · exact State.setTdm_kept m_port (by assumption)

theorem State.setSpt_kept {M : Mask} {z₀ : State} {s : State} {t : Nat} {x : SpdifTx} (m_port : M.port = true) (h0 : Kept M
    z₀ s) : Kept M z₀ (@State.setSpt s t x) := by
  unfold State.setSpt
  exact Kept.upPort m_port (by assumption)

theorem State.sptRelease_kept {M : Mask} {z₀ : State} {s : State} {t : Nat} (m_port : M.port = true) (h0 : Kept M z₀ s) :
    Kept M z₀ (@State.sptRelease s t) := by
  unfold State.sptRelease
  refine ite_kept ?_ ?_
  · extract_lets x0
    clear_value x0
    exact State.setSpt_kept m_port (by assumption)
  · assumption

theorem State.setSrc_kept {M : Mask} {z₀ : State} {s : State} {a : Nat} {w : Word} (m_route : M.route = true) (h0 : Kept M z₀
    s) : Kept M z₀ (@State.setSrc s a w) := by
  unfold State.setSrc
  exact Kept.upRoute m_route (by assumption)

theorem State.tdmSlip_kept {M : Mask} {z₀ : State} {s : State} {n : Nat} {lo : Nat} (m_regs : M.regs = true) (h0 : Kept M z₀
    s) : Kept M z₀ (@State.tdmSlip s n lo) := by
  unfold State.tdmSlip
  exact State.setBit_kept m_regs (State.bump_kept m_regs (by assumption))

theorem State.tdmFreeze_kept {M : Mask} {z₀ : State} {s : State} {n : Nat} (m_regs : M.regs = true) (m_route : M.route =
    true) (m_port : M.port = true) (h0 : Kept M z₀ s) : Kept M z₀ (@State.tdmFreeze s n) := by
  unfold State.tdmFreeze
  extract_lets x0 x1 x2 x3 x4 x5 x6 x7 x8
  clear_value x0 x1 x2 x3
  have k9 : Kept M z₀ x4 := by
    dsimp -zeta only [x4]
    refine ite_kept ?_ ?_
    · exact State.tdmSlip_kept m_regs (by assumption)
    · assumption
  clear_value x4
  have k10 : Kept M z₀ x5 := by
    dsimp -zeta only [x5]
    refine ite_kept ?_ ?_
    · exact State.tdmSlip_kept m_regs (by assumption)
    · assumption
  clear_value x5 x6 x7
  have k11 : Kept M z₀ x8 := by
    dsimp -zeta only [x8]
    exact State.setTdm_kept m_port (by assumption)
  clear_value x8
  refine ite_kept ?_ ?_
  · assumption
  · refine ite_kept ?_ ?_
    · refine foldl_kept ?_ ?_
      · assumption
      · intro v12
        intro v13
        intro v14
        exact State.setSrc_kept m_route (by assumption)
    · refine ite_kept ?_ ?_
      · refine foldl_kept ?_ ?_
        · assumption
        · intro v15
          intro v16
          intro v17
          exact State.setSrc_kept m_route (by assumption)
      · assumption

theorem State.setMic_kept {M : Mask} {z₀ : State} {s : State} {m : Nat} {x : Mic} (m_port : M.port = true) (h0 : Kept M z₀ s)
    : Kept M z₀ (@State.setMic s m x) := by
  unfold State.setMic
  exact Kept.upPort m_port (by assumption)

theorem State.micFreeze_kept {M : Mask} {z₀ : State} {s : State} {m : Nat} (m_regs : M.regs = true) (m_route : M.route =
    true) (m_port : M.port = true) (h0 : Kept M z₀ s) : Kept M z₀ (@State.micFreeze s m) := by
  unfold State.micFreeze
  extract_lets x0 x1 x2 x3 x4 x5
  clear_value x0 x1
  have k6 : Kept M z₀ x2 := by
    dsimp -zeta only [x2]
    refine ite_kept ?_ ?_
    · exact State.bump_kept m_regs (by assumption)
    · assumption
  clear_value x2 x3 x4
  have k7 : Kept M z₀ x5 := by
    dsimp -zeta only [x5]
    exact State.setMic_kept m_port (by assumption)
  clear_value x5
  refine ite_kept ?_ ?_
  · exact State.setSrc_kept m_route (by assumption)
  · refine ite_kept ?_ ?_
    · exact State.setSrc_kept m_route (by assumption)
    · assumption

theorem State.setSpr_kept {M : Mask} {z₀ : State} {s : State} {x : SpdifRx} (m_port : M.port = true) (h0 : Kept M z₀ s) :
    Kept M z₀ (@State.setSpr s x) := by
  unfold State.setSpr
  exact Kept.upPort m_port (by assumption)

theorem State.csRead_kept {M : Mask} {z₀ : State} {s : State} (m_port : M.port = true) (h0 : Kept M z₀ s) : Kept M z₀
    (@State.csRead s) := by
  unfold State.csRead
  exact State.setSpr_kept m_port (by assumption)

theorem State.sprLose_kept {M : Mask} {z₀ : State} {s : State} (m_regs : M.regs = true) (m_route : M.route = true) (m_port :
    M.port = true) (h0 : Kept M z₀ s) : Kept M z₀ (@State.sprLose s) := by
  unfold State.sprLose
  extract_lets x0 x1 x2
  clear_value x0
  have k3 : Kept M z₀ x1 := by
    dsimp -zeta only [x1]
    exact State.setSpr_kept m_port (by assumption)
  clear_value x1
  have k4 : Kept M z₀ x2 := by
    dsimp -zeta only [x2]
    exact State.setBit_kept m_regs (State.setFld_kept m_regs (State.setFld_kept m_regs (by assumption)))
  clear_value x2
  refine ite_kept ?_ ?_
  · refine foldl_kept ?_ ?_
    · assumption
    · intro v5
      intro v6
      intro v7
      refine foldl_kept ?_ ?_
      · assumption
      · intro v8
        intro v9
        intro v10
        exact State.asrcLose_kept m_regs m_route (by assumption)
  · assumption

theorem execMissingPreambles_kept {M : Mask} {z₀ : State} {s : State} (m_regs : M.regs = true) (m_route : M.route = true)
    (m_port : M.port = true) (h0 : Kept M z₀ s) : OutOk M z₀ (@execMissingPreambles s) := by
  unfold execMissingPreambles
  refine OutOk.next ?_
  refine ite_kept ?_ ?_
  · exact State.sprLose_kept m_regs m_route m_port (by assumption)
  · assumption

theorem State.micClocks_kept {M : Mask} {z₀ : State} {s : State} (m_port : M.port = true) (h0 : Kept M z₀ s) : Kept M z₀
    (@State.micClocks s) := by
  unfold State.micClocks
  refine forN_kept ?_ ?_
  · assumption
  · intro v0
    intro v1
    intro v2
    extract_lets x3 x4
    clear_value x3 x4
    refine ite_kept ?_ ?_
    · assumption
    · refine ite_kept ?_ ?_
      · exact State.setMic_kept m_port (by assumption)
      · exact State.setMic_kept m_port (by assumption)

theorem State.sptCsW_kept {M : Mask} {z₀ : State} {s : State} {t : Nat} {i : Nat} {v : Word} (m_regs : M.regs = true) (m_port
    : M.port = true) (h0 : Kept M z₀ s) : Kept M z₀ (@State.sptCsW s t i v) := by
  unfold State.sptCsW
  extract_lets x0 x1 x2
  have k3 : Kept M z₀ x0 := by
    dsimp -zeta only [x0]
    exact State.setReg_kept m_regs (by assumption)
  clear_value x0 x1 x2
  refine ite_kept ?_ ?_
  · exact State.setBit_kept m_regs (State.setSpt_kept m_port (by assumption))
  · assumption

theorem State.sptCfgW_kept {M : Mask} {z₀ : State} {s : State} {t : Nat} {v : Word} (m_regs : M.regs = true) (m_port : M.port
    = true) (h0 : Kept M z₀ s) : Kept M z₀ (@State.sptCfgW s t v) := by
  unfold State.sptCfgW
  extract_lets x0 x1 x2 x3 x4
  clear_value x0 x1 x2
  have k5 : Kept M z₀ x3 := by
    dsimp -zeta only [x3]
    exact State.setReg_kept m_regs (by assumption)
  clear_value x3 x4
  refine ite_kept ?_ ?_
  · exact State.setBit_kept m_regs (by assumption)
  · refine ite_kept ?_ ?_
    · assumption
    · exact State.setSpt_kept m_port (by assumption)

theorem State.sprCfgW_kept {M : Mask} {z₀ : State} {s : State} {v : Word} (m_regs : M.regs = true) (m_route : M.route = true)
    (m_port : M.port = true) (h0 : Kept M z₀ s) : Kept M z₀ (@State.sprCfgW s v) := by
  unfold State.sprCfgW
  extract_lets x0 x1 x2 x3
  clear_value x0 x1
  have k4 : Kept M z₀ x2 := by
    dsimp -zeta only [x2]
    exact State.setReg_kept m_regs (by assumption)
  clear_value x2
  have k5 : Kept M z₀ x3 := by
    dsimp -zeta only [x3]
    exact State.sprLose_kept m_regs m_route m_port (by assumption)
  clear_value x3
  refine ite_kept ?_ ?_
  · exact State.setSpr_kept m_port (State.setFld_kept m_regs (State.setFld_kept m_regs (by assumption)))
  · refine ite_kept ?_ ?_
    · exact State.setFld_kept m_regs (by assumption)
    · refine ite_kept ?_ ?_
      · exact State.sprLose_kept m_regs m_route m_port (by assumption)
      · assumption

theorem State.micW_kept {M : Mask} {z₀ : State} {s : State} {m : Nat} {v : Word} (m_regs : M.regs = true) (m_port : M.port =
    true) (h0 : Kept M z₀ s) : Kept M z₀ (@State.micW s m v) := by
  unfold State.micW
  extract_lets x0 x1 x2 x3 x4 x5
  clear_value x0 x1 x2
  have k6 : Kept M z₀ x3 := by
    dsimp -zeta only [x3]
    exact State.setBit_kept m_regs (by assumption)
  clear_value x3 x4 x5
  refine ite_kept ?_ ?_
  · refine ite_kept ?_ ?_
    · assumption
    · refine ite_kept ?_ ?_
      · exact State.setMic_kept m_port (State.setReg_kept m_regs (by assumption))
      · assumption
  · refine ite_kept ?_ ?_
    · exact State.setReg_kept m_regs (by assumption)
    · refine ite_kept ?_ ?_
      · exact State.setMic_kept m_port (State.setReg_kept m_regs (by assumption))
      · assumption

theorem State.tdmRej_kept {M : Mask} {z₀ : State} {s : State} {n : Nat} (m_regs : M.regs = true) (h0 : Kept M z₀ s) : Kept M
    z₀ (@State.tdmRej s n) := by
  unfold State.tdmRej
  exact State.setBit_kept m_regs (by assumption)

theorem State.tdmMaskW_kept {M : Mask} {z₀ : State} {s : State} {n : Nat} {r : Nat} {v : Word} (m_regs : M.regs = true) (h0 :
    Kept M z₀ s) : Kept M z₀ (@State.tdmMaskW s n r v) := by
  unfold State.tdmMaskW
  refine ite_kept ?_ ?_
  · exact State.tdmRej_kept m_regs (by assumption)
  · exact State.setReg_kept m_regs (by assumption)

theorem State.setTdmSt_kept {M : Mask} {z₀ : State} {s : State} {n : Nat} {v : Nat} (m_regs : M.regs = true) (h0 : Kept M z₀
    s) : Kept M z₀ (@State.setTdmSt s n v) := by
  unfold State.setTdmSt
  exact State.setFld_kept m_regs (by assumption)

theorem State.tdmCfgW_kept {M : Mask} {z₀ : State} {s : State} {n : Nat} {v : Word} (m_regs : M.regs = true) (m_port : M.port
    = true) (h0 : Kept M z₀ s) : Kept M z₀ (@State.tdmCfgW s n v) := by
  unfold State.tdmCfgW
  extract_lets x0 x1 x2
  clear_value x0 x1 x2
  refine ite_kept ?_ ?_
  · exact State.tdmRej_kept m_regs (by assumption)
  · refine ite_kept ?_ ?_
    · refine ite_kept ?_ ?_
      · exact State.setTdm_kept m_port (State.setTdmSt_kept m_regs (State.setReg_kept m_regs (by assumption)))
      · exact State.tdmRej_kept m_regs (by assumption)
    · refine ite_kept ?_ ?_
      · exact State.setReg_kept m_regs (by assumption)
      · refine ite_kept ?_ ?_
        · exact State.setTdm_kept m_port (State.setTdmSt_kept m_regs (State.setReg_kept m_regs (by assumption)))
        · exact State.tdmRej_kept m_regs (by assumption)

theorem State.tdmReset_kept {M : Mask} {z₀ : State} {s : State} {n : Nat} (m_regs : M.regs = true) (m_port : M.port = true)
    (h0 : Kept M z₀ s) : Kept M z₀ (@State.tdmReset s n) := by
  unfold State.tdmReset
  extract_lets x0
  clear_value x0
  refine ite_kept ?_ ?_
  · exact State.setTdm_kept m_port (State.setTdmSt_kept m_regs (by assumption))
  · assumption

theorem execCs5Write_kept {M : Mask} {z₀ : State} {t : Fin 2} {v : BitVec 32} {s : State} (m_regs : M.regs = true) (m_port :
    M.port = true) (h2 : Kept M z₀ s) : OutOk M z₀ (@execCs5Write t v s) := by
  unfold execCs5Write
  refine OutOk.next ?_
  refine State.bar_kept m_regs ?_ ?_
  · assumption
  · intro v0
    intro v1
    exact State.sptCsW_kept m_regs m_port (by assumption)

theorem execCsA0Read_kept {M : Mask} {z₀ : State} {s : State} (m_regs : M.regs = true) (m_rdata : M.rdata = true) (m_port :
    M.port = true) (h0 : Kept M z₀ s) : OutOk M z₀ (@execCsA0Read s) := by
  unfold execCsA0Read
  refine OutOk.next ?_
  split
  · extract_lets x0
    have k1 : Kept M z₀ x0 := by
      dsimp -zeta only [x0]
      exact State.setBit_kept m_regs (by assumption)
    clear_value x0
    exact Kept.upRdata m_rdata (by assumption)
  · extract_lets x2
    have k3 : Kept M z₀ x2 := by
      dsimp -zeta only [x2]
      exact State.csRead_kept m_port (by assumption)
    clear_value x2
    exact Kept.upRdata m_rdata (by assumption)

theorem State.asrcIn_kept {M : Mask} {z₀ : State} {s : State} {ep : Nat} {w : Word} (m_route : M.route = true) (h0 : Kept M
    z₀ s) : Kept M z₀ (@State.asrcIn s ep w) := by
  unfold State.asrcIn
  refine foldl_kept ?_ ?_
  · assumption
  · intro v0
    intro v1
    intro v2
    extract_lets x3
    clear_value x3
    exact State.setAsrc_kept m_route (by assumption)

theorem State.csBlock_kept {M : Mask} {z₀ : State} {s : State} {a : List Bool} {b : List Bool} (m_regs : M.regs = true)
    (m_port : M.port = true) (h0 : Kept M z₀ s) : Kept M z₀ (@State.csBlock s a b) := by
  unfold State.csBlock
  extract_lets x0 x1 x2
  clear_value x0 x1
  have k3 : Kept M z₀ x2 := by
    dsimp -zeta only [x2]
    exact State.setBit_kept m_regs (State.setSpr_kept m_port (by assumption))
  clear_value x2
  refine ite_kept ?_ ?_
  · assumption
  · exact State.setBit_kept m_regs (by assumption)

theorem execSpdifFrame_kept {M : Mask} {z₀ : State} {ok : Bool} {rate : Fin 16} {a : BitVec 24} {b : BitVec 24} {va : Bool}
    {vb : Bool} {ca : Bool} {cb : Bool} {ea : Bool} {eb : Bool} {z : Bool} {s : State} (m_regs : M.regs = true) (m_route :
    M.route = true) (m_port : M.port = true) (h11 : Kept M z₀ s) : OutOk M z₀ (@execSpdifFrame ok rate a b va vb ca cb ea eb
    z s) := by
  unfold execSpdifFrame
  extract_lets x0 x1 x2 x3 x4 x5 x6 x7 x8 x9 x10 x11 x12 x13 x14 x15
  clear_value x0 x1 x2 x3 x4
  have k16 : Kept M z₀ x5 := by
    dsimp -zeta only [x5]
    exact State.setSpr_kept m_port (by assumption)
  clear_value x5
  have k17 : Kept M z₀ x6 := by
    dsimp -zeta only [x6]
    refine ite_kept ?_ ?_
    · exact State.bump_kept m_regs (by assumption)
    · assumption
  clear_value x6
  have k18 : Kept M z₀ x7 := by
    dsimp -zeta only [x7]
    refine ite_kept ?_ ?_
    · exact State.bump_kept m_regs (by assumption)
    · assumption
  clear_value x7 x8 x9 x10 x11 x12 x13
  have k19 : Kept M z₀ x14 := by
    dsimp -zeta only [x14]
    exact State.setSpr_kept m_port (by assumption)
  clear_value x14
  have k20 : Kept M z₀ x15 := by
    dsimp -zeta only [x15]
    refine ite_kept ?_ ?_
    · exact State.csBlock_kept m_regs m_port (by assumption)
    · assumption
  clear_value x15
  refine ite_ok ?_ ?_
  · exact OutOk.next (by assumption)
  · refine ite_ok ?_ ?_
    · refine ite_ok ?_ ?_
      · exact OutOk.next (State.sprLose_kept m_regs m_route m_port (by assumption))
      · exact OutOk.next (State.setSpr_kept m_port (by assumption))
    · refine ite_ok ?_ ?_
      · exact OutOk.next (State.sprLose_kept m_regs m_route m_port (by assumption))
      · refine ite_ok ?_ ?_
        · refine OutOk.next ?_
          refine ite_kept ?_ ?_
          · exact State.setFld_kept m_regs (State.setFld_kept m_regs (by assumption))
          · assumption
        · exact OutOk.next (State.asrcIn_kept m_route (State.asrcIn_kept m_route (by assumption)))

theorem execSettleEnd_kept {M : Mask} {z₀ : State} {m : Fin 16} {s : State} (m_port : M.port = true) (h1 : Kept M z₀ s) :
    OutOk M z₀ (@execSettleEnd m s) := by
  unfold execSettleEnd
  extract_lets x0
  clear_value x0
  refine OutOk.next ?_
  refine ite_kept ?_ ?_
  · exact State.setMic_kept m_port (by assumption)
  · assumption

theorem execPdmMicWrite_kept {M : Mask} {z₀ : State} {m : Fin 16} {v : BitVec 32} {s : State} (m_regs : M.regs = true)
    (m_port : M.port = true) (h2 : Kept M z₀ s) : OutOk M z₀ (@execPdmMicWrite m v s) := by
  unfold execPdmMicWrite
  refine OutOk.next ?_
  refine State.bar_kept m_regs ?_ ?_
  · assumption
  · intro v0
    intro v1
    exact State.micW_kept m_regs m_port (by assumption)

theorem execTdmCfg0Write_kept {M : Mask} {z₀ : State} {n : Fin 6} {v : BitVec 32} {s : State} (m_regs : M.regs = true)
    (m_port : M.port = true) (h2 : Kept M z₀ s) : OutOk M z₀ (@execTdmCfg0Write n v s) := by
  unfold execTdmCfg0Write
  refine OutOk.next ?_
  refine State.bar_kept m_regs ?_ ?_
  · assumption
  · intro v0
    intro v1
    exact State.tdmCfgW_kept m_regs m_port (by assumption)

theorem State.tdmStarve_kept {M : Mask} {z₀ : State} {s : State} {n : Nat} (m_regs : M.regs = true) (m_port : M.port = true)
    (h0 : Kept M z₀ s) : Kept M z₀ (@State.tdmStarve s n) := by
  unfold State.tdmStarve
  refine ite_kept ?_ ?_
  · assumption
  · extract_lets x0 x1
    clear_value x0 x1
    exact State.setTdm_kept m_port (State.bump_kept m_regs (State.setTdmSt_kept m_regs (by assumption)))

theorem execMissingBitClock_kept {M : Mask} {z₀ : State} {n : Fin 6} {s : State} (m_regs : M.regs = true) (m_port : M.port =
    true) (h1 : Kept M z₀ s) : OutOk M z₀ (@execMissingBitClock n s) := by
  unfold execMissingBitClock
  extract_lets x0
  clear_value x0
  refine OutOk.next ?_
  refine ite_kept ?_ ?_
  · exact State.tdmStarve_kept m_regs m_port (State.setBit_kept m_regs (by assumption))
  · assumption

theorem execFramingError_kept {M : Mask} {z₀ : State} {n : Fin 6} {s : State} (m_regs : M.regs = true) (m_port : M.port =
    true) (h1 : Kept M z₀ s) : OutOk M z₀ (@execFramingError n s) := by
  unfold execFramingError
  extract_lets x0
  clear_value x0
  refine OutOk.next ?_
  refine ite_kept ?_ ?_
  · exact State.tdmStarve_kept m_regs m_port (State.bump_kept m_regs (State.setBit_kept m_regs (by assumption)))
  · assumption

theorem State.sptTx_kept {M : Mask} {z₀ : State} {s : State} {t : Nat} (m_regs : M.regs = true) (m_port : M.port = true) (h0
    : Kept M z₀ s) : Kept M z₀ (@State.sptTx s t) := by
  unfold State.sptTx
  extract_lets x0 x1 x2 x3 x4 x5
  clear_value x0 x1 x2
  have k6 : Kept M z₀ x3 := by
    dsimp -zeta only [x3]
    refine ite_kept ?_ ?_
    · exact State.setBit_kept m_regs (by assumption)
    · assumption
  clear_value x3 x4 x5
  refine ite_kept ?_ ?_
  · assumption
  · refine ite_kept ?_ ?_
    · exact State.setSpt_kept m_port (by assumption)
    · split
      · extract_lets x7 x8
        have k9 : Kept M z₀ x7 := by
          dsimp -zeta only [x7]
          refine ite_kept ?_ ?_
          · assumption
          · exact State.bump_kept m_regs (by assumption)
        clear_value x7 x8
        exact State.setSpt_kept m_port (by assumption)

theorem State.tdmTx_kept {M : Mask} {z₀ : State} {s : State} {n : Nat} (m_regs : M.regs = true) (m_port : M.port = true) (h0
    : Kept M z₀ s) : Kept M z₀ (@State.tdmTx s n) := by
  unfold State.tdmTx
  extract_lets x0 x1 x2
  clear_value x0 x1 x2
  refine ite_kept ?_ ?_
  · assumption
  · refine ite_kept ?_ ?_
    · exact State.setTdm_kept m_port (by assumption)
    · refine ite_kept ?_ ?_
      · exact State.setTdm_kept m_port (by assumption)
      · split
        · split
          · refine ite_kept ?_ ?_
            · exact State.setTdm_kept m_port (by assumption)
            · extract_lets x3 x4
              have k5 : Kept M z₀ x3 := by
                dsimp -zeta only [x3]
                refine ite_kept ?_ ?_
                · assumption
                · exact State.tdmSlip_kept m_regs (by assumption)
              clear_value x3 x4
              exact State.setTdm_kept m_port (by assumption)

theorem execTxFrameStart_kept {M : Mask} {z₀ : State} {p : Fin 8} {s : State} (m_regs : M.regs = true) (m_port : M.port =
    true) (h1 : Kept M z₀ s) : OutOk M z₀ (@execTxFrameStart p s) := by
  unfold execTxFrameStart
  refine OutOk.next ?_
  refine ite_kept ?_ ?_
  · exact State.tdmTx_kept m_regs m_port (by assumption)
  · exact State.sptTx_kept m_regs m_port (by assumption)

theorem State.pdmBlock_kept {M : Mask} {z₀ : State} {s : State} {ws : List Word} (m_regs : M.regs = true) (m_fab : M.fab =
    true) (m_cal : M.cal = true) (m_ctx : M.ctx = true) (m_mov : M.mov = true) (m_pcie : M.pcie = true) (m_ngx : M.ngx =
    true) (m_calMem : M.calMem = true) (h0 : Kept M z₀ s) : Kept M z₀ (@State.pdmBlock s ws) := by
  unfold State.pdmBlock
  refine ite_kept ?_ ?_
  · assumption
  · extract_lets x0 x1
    clear_value x0 x1
    refine foldl_kept ?_ ?_
    · assumption
    · intro v2
      intro v3
      intro v4
      split
      · refine ite_kept ?_ ?_
        · exact State.streamPutAt_kept m_regs m_fab m_cal m_ctx m_mov m_pcie m_ngx m_calMem (by assumption)
        · assumption
      · assumption

theorem State.micRx_kept {M : Mask} {z₀ : State} {s : State} {m : Nat} {ws : List Word} (m_regs : M.regs = true) (m_port :
    M.port = true) (h0 : Kept M z₀ s) : Kept M z₀ (@State.micRx s m ws) := by
  unfold State.micRx
  extract_lets x0 x1 x2
  clear_value x0 x1 x2
  refine ite_kept ?_ ?_
  · assumption
  · split
    · rename_i w3 w4 w5 w6
      have k7 : Kept M z₀ w5 := snd_of w6 (by
          refine State.draw_kept ?_
          assumption)
      extract_lets x8 x9 x10 x11
      clear_value x8 x9
      have k12 : Kept M z₀ x10 := by
        dsimp -zeta only [x10]
        refine ite_kept ?_ ?_
        · exact State.bump_kept m_regs (by assumption)
        · assumption
      clear_value x10
      have k13 : Kept M z₀ x11 := by
        dsimp -zeta only [x11]
        refine ite_kept ?_ ?_
        · exact State.bump_kept m_regs (by assumption)
        · assumption
      clear_value x11
      exact State.setMic_kept m_port (by assumption)

theorem State.tdmRx_kept {M : Mask} {z₀ : State} {s : State} {n : Nat} {ws : List Word} (m_regs : M.regs = true) (m_route :
    M.route = true) (m_port : M.port = true) (h0 : Kept M z₀ s) : Kept M z₀ (@State.tdmRx s n ws) := by
  unfold State.tdmRx
  extract_lets x0 x1 x2
  clear_value x0 x1 x2
  refine ite_kept ?_ ?_
  · assumption
  · refine ite_kept ?_ ?_
    · refine ite_kept ?_ ?_
      · exact State.setTdm_kept m_port (by assumption)
      · exact State.setTdm_kept m_port (State.setTdmSt_kept m_regs (by assumption))
    · refine ite_kept ?_ ?_
      · refine foldl_kept ?_ ?_
        · assumption
        · intro v3
          intro v4
          intro v5
          exact State.asrcIn_kept m_route (by assumption)
      · refine ite_kept ?_ ?_
        · exact State.setTdm_kept m_port (by assumption)
        · exact State.tdmSlip_kept m_regs (State.setTdm_kept m_port (by assumption))

theorem execRxFrameComplete_kept {M : Mask} {z₀ : State} {src : Fin 23} {ws : List (BitVec 32)} {s : State} (m_regs : M.regs
    = true) (m_fab : M.fab = true) (m_cal : M.cal = true) (m_ctx : M.ctx = true) (m_route : M.route = true) (m_mov : M.mov =
    true) (m_port : M.port = true) (m_pcie : M.pcie = true) (m_ngx : M.ngx = true) (m_calMem : M.calMem = true) (h2 : Kept M
    z₀ s) : OutOk M z₀ (@execRxFrameComplete src ws s) := by
  unfold execRxFrameComplete
  refine OutOk.next ?_
  refine ite_kept ?_ ?_
  · exact State.tdmRx_kept m_regs m_route m_port (by assumption)
  · refine ite_kept ?_ ?_
    · exact State.micRx_kept m_regs m_port (by assumption)
    · exact State.pdmBlock_kept m_regs m_fab m_cal m_ctx m_mov m_pcie m_ngx m_calMem (by assumption)

end Sys2Proof.Machine
end

