-- ==== Sys2Proof/Laws/KeptDacs.lean ====
section
/-! SUPPORT. What the operations and meanings of Machine/Dacs.lean keep (Laws/Kept.lean). -/

namespace Sys2Proof.Machine

theorem State.setDac_kept {M : Mask} {z₀ : State} {s : State} {d : Nat} {x : Dac} (m_port : M.port = true) (h0 : Kept M z₀ s)
    : Kept M z₀ (@State.setDac s d x) := by
  unfold State.setDac
  exact Kept.upPort m_port (by assumption)

theorem State.dacAdvance_kept {M : Mask} {z₀ : State} {s : State} {d : Nat} {load : Bool} (m_port : M.port = true) (h0 : Kept
    M z₀ s) : Kept M z₀ (@State.dacAdvance s d load) := by
  unfold State.dacAdvance
  refine ite_kept ?_ ?_
  · extract_lets x0 x1
    clear_value x0 x1
    exact State.setDac_kept m_port (by assumption)
  · assumption

theorem State.setGrp_kept {M : Mask} {z₀ : State} {s : State} {g : Nat} {x : DacGrp} (m_port : M.port = true) (h0 : Kept M z₀
    s) : Kept M z₀ (@State.setGrp s g x) := by
  unfold State.setGrp
  exact Kept.upPort m_port (by assumption)

theorem State.dacTick_kept {M : Mask} {z₀ : State} {s : State} (m_regs : M.regs = true) (m_port : M.port = true) (h0 : Kept M
    z₀ s) : Kept M z₀ (@State.dacTick s) := by
  unfold State.dacTick
  refine ite_kept ?_ ?_
  · assumption
  · refine forN_kept ?_ ?_
    · assumption
    · intro v0
      intro v1
      intro v2
      extract_lets x3 x4
      clear_value x3 x4
      refine ite_kept ?_ ?_
      · refine State.setGrp_kept m_port ?_
        refine ite_kept ?_ ?_
        · exact State.bump_kept m_regs (by assumption)
        · assumption
      · refine forN_kept ?_ ?_
        · assumption
        · intro v5
          intro v6
          intro v7
          exact State.dacAdvance_kept m_port (by assumption)

theorem State.setDacSt_kept {M : Mask} {z₀ : State} {s : State} {d : Nat} {v : Nat} (m_regs : M.regs = true) (h0 : Kept M z₀
    s) : Kept M z₀ (@State.setDacSt s d v) := by
  unfold State.setDacSt
  exact State.setFld_kept m_regs (by assumption)

theorem State.dacRest_kept {M : Mask} {z₀ : State} {s : State} {d : Nat} {v : Nat} (m_regs : M.regs = true) (m_port : M.port
    = true) (h0 : Kept M z₀ s) : Kept M z₀ (@State.dacRest s d v) := by
  unfold State.dacRest
  exact State.setDac_kept m_port (State.setDacSt_kept m_regs (by assumption))

theorem State.dacFade_kept {M : Mask} {z₀ : State} {s : State} {d : Nat} {down : Bool} (m_regs : M.regs = true) (m_port :
    M.port = true) (h0 : Kept M z₀ s) : Kept M z₀ (@State.dacFade s d down) := by
  unfold State.dacFade
  extract_lets x0
  clear_value x0
  exact State.setDac_kept m_port (State.setDacSt_kept m_regs (by assumption))

theorem State.dacStop_kept {M : Mask} {z₀ : State} {s : State} {d : Nat} (m_regs : M.regs = true) (m_port : M.port = true)
    (h0 : Kept M z₀ s) : Kept M z₀ (@State.dacStop s d) := by
  unfold State.dacStop
  refine ite_kept ?_ ?_
  · exact State.dacFade_kept m_regs m_port (by assumption)
  · refine ite_kept ?_ ?_
    · exact State.dacRest_kept m_regs m_port (by assumption)
    · assumption

theorem State.dacStopAll_kept {M : Mask} {z₀ : State} {s : State} (m_regs : M.regs = true) (m_port : M.port = true) (h0 :
    Kept M z₀ s) : Kept M z₀ (@State.dacStopAll s) := by
  unfold State.dacStopAll
  refine forN_kept ?_ ?_
  · assumption
  · intro v0
    intro v1
    intro v2
    refine ite_kept ?_ ?_
    · exact State.setDac_kept m_port (by assumption)
    · exact State.dacStop_kept m_regs m_port (by assumption)

theorem State.dacClamp_kept {M : Mask} {z₀ : State} {s : State} (m_regs : M.regs = true) (m_port : M.port = true) (h0 : Kept
    M z₀ s) : Kept M z₀ (@State.dacClamp s) := by
  unfold State.dacClamp
  refine forN_kept ?_ ?_
  · assumption
  · intro v0
    intro v1
    intro v2
    exact State.dacRest_kept m_regs m_port (by assumption)

theorem State.dacRun_kept {M : Mask} {z₀ : State} {s : State} {d : Nat} (m_regs : M.regs = true) (m_port : M.port = true) (h0
    : Kept M z₀ s) : Kept M z₀ (@State.dacRun s d) := by
  unfold State.dacRun
  extract_lets x0 x1
  clear_value x0
  have k2 : Kept M z₀ x1 := by
    dsimp -zeta only [x1]
    exact State.setDac_kept m_port (State.setDacSt_kept m_regs (by assumption))
  clear_value x1
  refine ite_kept ?_ ?_
  · exact State.dacFade_kept m_regs m_port (by assumption)
  · assumption

theorem State.dacUnmute_kept {M : Mask} {z₀ : State} {s : State} {d : Nat} (m_regs : M.regs = true) (m_port : M.port = true)
    (h0 : Kept M z₀ s) : Kept M z₀ (@State.dacUnmute s d) := by
  unfold State.dacUnmute
  refine ite_kept ?_ ?_
  · exact State.dacRun_kept m_regs m_port (by assumption)
  · assumption

theorem State.dacMute_kept {M : Mask} {z₀ : State} {s : State} {d : Nat} (m_regs : M.regs = true) (m_port : M.port = true)
    (h0 : Kept M z₀ s) : Kept M z₀ (@State.dacMute s d) := by
  unfold State.dacMute
  refine ite_kept ?_ ?_
  · exact State.dacFade_kept m_regs m_port (by assumption)
  · assumption

theorem State.dacStart_kept {M : Mask} {z₀ : State} {s : State} {d : Nat} (m_regs : M.regs = true) (m_port : M.port = true)
    (h0 : Kept M z₀ s) : Kept M z₀ (@State.dacStart s d) := by
  unfold State.dacStart
  refine ite_kept ?_ ?_
  · exact State.dacRest_kept m_regs m_port (by assumption)
  · assumption

theorem State.dacW_kept {M : Mask} {z₀ : State} {s : State} {d : Nat} {v : Word} (m_regs : M.regs = true) (m_port : M.port =
    true) (h0 : Kept M z₀ s) : Kept M z₀ (@State.dacW s d v) := by
  unfold State.dacW
  split
  · exact State.dacStart_kept m_regs m_port (by assumption)
  · exact State.dacStop_kept m_regs m_port (by assumption)
  · exact State.dacMute_kept m_regs m_port (by assumption)
  · exact State.dacUnmute_kept m_regs m_port (by assumption)
  · assumption

theorem State.convGrpW_kept {M : Mask} {z₀ : State} {s : State} {g : Nat} {v : Word} (m_regs : M.regs = true) (m_port :
    M.port = true) (h0 : Kept M z₀ s) : Kept M z₀ (@State.convGrpW s g v) := by
  unfold State.convGrpW
  extract_lets x0 x1 x2 x3
  clear_value x0
  have k4 : Kept M z₀ x1 := by
    dsimp -zeta only [x1]
    refine ite_kept ?_ ?_
    · exact State.setBit_kept m_regs (by assumption)
    · assumption
  clear_value x1 x2
  have k5 : Kept M z₀ x3 := by
    dsimp -zeta only [x3]
    refine ite_kept ?_ ?_
    · assumption
    · exact State.setGrp_kept m_port (by assumption)
  clear_value x3
  refine ite_kept ?_ ?_
  · exact State.setBit_kept m_regs (by assumption)
  · exact State.setFld_kept m_regs (by assumption)

theorem State.convPdmckW_kept {M : Mask} {z₀ : State} {s : State} {v : Word} (m_regs : M.regs = true) (m_port : M.port =
    true) (h0 : Kept M z₀ s) : Kept M z₀ (@State.convPdmckW s v) := by
  unfold State.convPdmckW
  extract_lets x0 x1
  have k2 : Kept M z₀ x0 := by
    dsimp -zeta only [x0]
    refine ite_kept ?_ ?_
    · exact State.setBit_kept m_regs (by assumption)
    · assumption
  clear_value x0 x1
  refine ite_kept ?_ ?_
  · exact State.setBit_kept m_regs (by assumption)
  · exact State.micClocks_kept m_port (State.setFld_kept m_regs (by assumption))

theorem State.convClkW_kept {M : Mask} {z₀ : State} {s : State} {v : Word} (m_regs : M.regs = true) (m_port : M.port = true)
    (h0 : Kept M z₀ s) : Kept M z₀ (@State.convClkW s v) := by
  unfold State.convClkW
  extract_lets x0
  have k1 : Kept M z₀ x0 := by
    dsimp -zeta only [x0]
    refine ite_kept ?_ ?_
    · exact State.setBit_kept m_regs (by assumption)
    · assumption
  clear_value x0
  refine ite_kept ?_ ?_
  · assumption
  · refine ite_kept ?_ ?_
    · exact State.micClocks_kept m_port (State.setBit_kept m_regs (by assumption))
    · exact State.setBit_kept m_regs (by assumption)

theorem State.grpFades_kept {M : Mask} {z₀ : State} {s : State} {g : Nat} (m_regs : M.regs = true) (m_port : M.port = true)
    (h0 : Kept M z₀ s) : Kept M z₀ (@State.grpFades s g) := by
  unfold State.grpFades
  refine forN_kept ?_ ?_
  · assumption
  · intro v0
    intro v1
    intro v2
    refine ite_kept ?_ ?_
    · exact State.dacFade_kept m_regs m_port (by assumption)
    · assumption

theorem State.dacDomStop_kept {M : Mask} {z₀ : State} {s : State} (m_regs : M.regs = true) (m_port : M.port = true) (h0 :
    Kept M z₀ s) : Kept M z₀ (@State.dacDomStop s) := by
  unfold State.dacDomStop
  refine ite_kept ?_ ?_
  · assumption
  · refine forN_kept ?_ ?_
    · assumption
    · intro v0
      intro v1
      intro v2
      exact State.grpFades_kept m_regs m_port (State.setBit_kept m_regs (State.setGrp_kept m_port (by assumption)))

theorem execLdsStrobe_kept {M : Mask} {z₀ : State} {g : Fin 2} {rising : Bool} {s : State} (m_regs : M.regs = true) (m_port :
    M.port = true) (h2 : Kept M z₀ s) : OutOk M z₀ (@execLdsStrobe g rising s) := by
  unfold execLdsStrobe
  extract_lets x0 x1 x2 x3 x4
  clear_value x0 x1
  have k5 : Kept M z₀ x2 := by
    dsimp -zeta only [x2]
    refine ite_kept ?_ ?_
    · exact State.bump_kept m_regs (by assumption)
    · assumption
  clear_value x2 x3
  have k6 : Kept M z₀ x4 := by
    dsimp -zeta only [x4]
    exact State.setGrp_kept m_port (by assumption)
  clear_value x4
  refine ite_ok ?_ ?_
  · exact OutOk.next (by assumption)
  · refine OutOk.next ?_
    refine forN_kept ?_ ?_
    · assumption
    · intro v7
      intro v8
      intro v9
      exact State.dacAdvance_kept m_port (by assumption)

theorem execDacShort_kept {M : Mask} {z₀ : State} {d : Fin 8} {s : State} (m_regs : M.regs = true) (m_port : M.port = true)
    (h1 : Kept M z₀ s) : OutOk M z₀ (@execDacShort d s) := by
  unfold execDacShort
  extract_lets x0 x1
  clear_value x0
  have k2 : Kept M z₀ x1 := by
    dsimp -zeta only [x1]
    exact State.setBit_kept m_regs (by assumption)
  clear_value x1
  refine OutOk.next ?_
  refine ite_kept ?_ ?_
  · assumption
  · refine ite_kept ?_ ?_
    · assumption
    · exact State.dacRest_kept m_regs m_port (by assumption)

theorem execAutoUnmute_kept {M : Mask} {z₀ : State} {g : Fin 2} {s : State} (m_regs : M.regs = true) (m_port : M.port = true)
    (h1 : Kept M z₀ s) : OutOk M z₀ (@execAutoUnmute g s) := by
  unfold execAutoUnmute
  extract_lets x0 x1
  clear_value x0 x1
  split
  · split
    · refine ite_ok ?_ ?_
      · refine OutOk.next ?_
        refine forN_kept ?_ ?_
        · exact State.setGrp_kept m_port (by assumption)
        · intro v2
          intro v3
          intro v4
          refine ite_kept ?_ ?_
          · exact State.dacRun_kept m_regs m_port (by assumption)
          · assumption
      · exact OutOk.next (by assumption)
    · exact OutOk.next (by assumption)

theorem execStrbLost_kept {M : Mask} {z₀ : State} {g : Fin 2} {s : State} (m_regs : M.regs = true) (m_port : M.port = true)
    (h1 : Kept M z₀ s) : OutOk M z₀ (@execStrbLost g s) := by
  unfold execStrbLost
  extract_lets x0 x1
  clear_value x0 x1
  refine OutOk.next ?_
  refine ite_kept ?_ ?_
  · exact State.grpFades_kept m_regs m_port (State.setBit_kept m_regs (State.setGrp_kept m_port (by assumption)))
  · assumption

theorem execFadeEnd_kept {M : Mask} {z₀ : State} {d : Fin 8} {s : State} (m_regs : M.regs = true) (m_port : M.port = true)
    (h1 : Kept M z₀ s) : OutOk M z₀ (@execFadeEnd d s) := by
  unfold execFadeEnd
  extract_lets x0 x1
  clear_value x0 x1
  refine OutOk.next ?_
  refine ite_kept ?_ ?_
  · exact State.dacRest_kept m_regs m_port (by assumption)
  · assumption

theorem State.rampEnd_kept {M : Mask} {z₀ : State} {s : State} {d : Nat} (m_regs : M.regs = true) (m_port : M.port = true)
    (h0 : Kept M z₀ s) : Kept M z₀ (@State.rampEnd s d) := by
  unfold State.rampEnd
  refine ite_kept ?_ ?_
  · exact State.dacRun_kept m_regs m_port (by assumption)
  · refine ite_kept ?_ ?_
    · exact State.dacRest_kept m_regs m_port (by assumption)
    · assumption

theorem execDacUnmute_kept {M : Mask} {z₀ : State} {d : Fin 8} {s : State} (m_regs : M.regs = true) (m_port : M.port = true)
    (h1 : Kept M z₀ s) : OutOk M z₀ (@execDacUnmute d s) := by
  unfold execDacUnmute
  refine OutOk.next ?_
  refine State.bar_kept m_regs ?_ ?_
  · assumption
  · intro v0
    intro v1
    exact State.dacUnmute_kept m_regs m_port (by assumption)

theorem execDacMute_kept {M : Mask} {z₀ : State} {d : Fin 8} {s : State} (m_regs : M.regs = true) (m_port : M.port = true)
    (h1 : Kept M z₀ s) : OutOk M z₀ (@execDacMute d s) := by
  unfold execDacMute
  refine OutOk.next ?_
  refine State.bar_kept m_regs ?_ ?_
  · assumption
  · intro v0
    intro v1
    exact State.dacMute_kept m_regs m_port (by assumption)

theorem execDacStop_kept {M : Mask} {z₀ : State} {d : Fin 8} {s : State} (m_regs : M.regs = true) (m_port : M.port = true)
    (h1 : Kept M z₀ s) : OutOk M z₀ (@execDacStop d s) := by
  unfold execDacStop
  refine OutOk.next ?_
  refine State.bar_kept m_regs ?_ ?_
  · assumption
  · intro v0
    intro v1
    exact State.dacStop_kept m_regs m_port (by assumption)

theorem execDacStart_kept {M : Mask} {z₀ : State} {d : Fin 8} {s : State} (m_regs : M.regs = true) (m_port : M.port = true)
    (h1 : Kept M z₀ s) : OutOk M z₀ (@execDacStart d s) := by
  unfold execDacStart
  refine OutOk.next ?_
  refine State.bar_kept m_regs ?_ ?_
  · assumption
  · intro v0
    intro v1
    exact State.dacStart_kept m_regs m_port (by assumption)

theorem State.dacDomStart_kept {M : Mask} {z₀ : State} {s : State} (m_port : M.port = true) (h0 : Kept M z₀ s) : Kept M z₀
    (@State.dacDomStart s) := by
  unfold State.dacDomStart
  refine forN_kept ?_ ?_
  · assumption
  · intro v0
    intro v1
    intro v2
    refine ite_kept ?_ ?_
    · assumption
    · exact State.setGrp_kept m_port (by assumption)

end Sys2Proof.Machine
end

