-- ==== Sys2Proof/Laws/KeptSpim.lean ====
section
/-! SUPPORT. What the operations and meanings of Machine/Spim.lean keep (Laws/Kept.lean). -/

namespace Sys2Proof.Machine

theorem State.pfEnd_kept {M : Mask} {z₀ : State} {s : State} {st : Nat} (m_regs : M.regs = true) (h0 : Kept M z₀ s) : Kept M
    z₀ (@State.pfEnd s st) := by
  unfold State.pfEnd
  extract_lets x0
  have k1 : Kept M z₀ x0 := by
    dsimp -zeta only [x0]
    exact State.setBit_kept m_regs (State.setFld_kept m_regs (by assumption))
  clear_value x0
  refine ite_kept ?_ ?_
  · exact State.setBit_kept m_regs (by assumption)
  · assumption

theorem State.modSpim_kept {M : Mask} {z₀ : State} {s : State} {f : SpimState → SpimState} (m_spim : M.spim = true) (h0 :
    Kept M z₀ s) : Kept M z₀ (@State.modSpim s f) := by
  unfold State.modSpim
  exact Kept.upSpim m_spim (by assumption)

theorem State.spimReset_kept {M : Mask} {z₀ : State} {s : State} (m_regs : M.regs = true) (m_spim : M.spim = true) (m_spis :
    M.spis = true) (h0 : Kept M z₀ s) : Kept M z₀ (@State.spimReset s) := by
  unfold State.spimReset
  extract_lets x0 x1 x2 x3 x4 x5
  clear_value x0 x1
  have k6 : Kept M z₀ x2 := by
    dsimp -zeta only [x2]
    exact State.modSpim_kept m_spim (by assumption)
  clear_value x2
  have k7 : Kept M z₀ x3 := by
    dsimp -zeta only [x3]
    exact State.setBit_kept m_regs (State.setBit_kept m_regs (by assumption))
  clear_value x3 x4
  have k8 : Kept M z₀ x5 := by
    dsimp -zeta only [x5]
    exact Kept.upSpis m_spis (by assumption)
  clear_value x5
  refine ite_kept ?_ ?_
  · exact State.pfEnd_kept m_regs (by assumption)
  · assumption

theorem State.cacheDrop_kept {M : Mask} {z₀ : State} {s : State} {a : Nat} {n : Nat} (m_regs : M.regs = true) (m_spim :
    M.spim = true) (h0 : Kept M z₀ s) : Kept M z₀ (@State.cacheDrop s a n) := by
  unfold State.cacheDrop
  extract_lets x0 x1 x2
  clear_value x0 x1
  have k3 : Kept M z₀ x2 := by
    dsimp -zeta only [x2]
    exact State.modSpim_kept m_spim (by assumption)
  clear_value x2
  exact State.bumpBy_kept m_regs (by assumption)

theorem State.flashProgram_kept {M : Mask} {z₀ : State} {s : State} {a : Nat} {d : List Sys2Proof.Byte} (m_boot : M.boot =
    true) (m_flash : M.flash = true) (h0 : Kept M z₀ s) : Kept M z₀ (@State.flashProgram s a d) := by
  unfold State.flashProgram
  refine ite_kept ?_ ?_
  · assumption
  · exact State.flashSet_kept m_boot m_flash (by assumption)

theorem State.flashDo_kept {M : Mask} {z₀ : State} {s : State} {k : FlashCmd} (m_boot : M.boot = true) (m_flash : M.flash =
    true) (h0 : Kept M z₀ s) : Kept M z₀ (@State.flashDo s k) := by
  unfold State.flashDo
  refine ite_kept ?_ ?_
  · exact State.flashProgram_kept m_boot m_flash (by assumption)
  · refine ite_kept ?_ ?_
    · refine ite_kept ?_ ?_
      · assumption
      · exact State.flashErase_kept m_boot m_flash (by assumption)
    · refine ite_kept ?_ ?_
      · exact State.writeBcr_kept m_boot m_flash (State.flashSet_kept m_boot m_flash (State.flashErase_kept m_boot m_flash
          (by assumption)))
      · assumption

theorem State.spimIssue_kept {M : Mask} {z₀ : State} {s : State} {k : FlashCmd} (m_regs : M.regs = true) (m_boot : M.boot =
    true) (m_spim : M.spim = true) (m_flash : M.flash = true) (h0 : Kept M z₀ s) : Kept M z₀ (@State.spimIssue s k) := by
  unfold State.spimIssue
  extract_lets x0 x1 x2
  clear_value x0
  have k3 : Kept M z₀ x1 := by
    dsimp -zeta only [x1]
    exact State.setBit_kept m_regs (by assumption)
  clear_value x1
  have k4 : Kept M z₀ x2 := by
    dsimp -zeta only [x2]
    refine ite_kept ?_ ?_
    · exact State.flashDo_kept m_boot m_flash (State.cacheDrop_kept m_regs m_spim (State.setBit_kept m_regs (by assumption)))
    · assumption
  clear_value x2
  exact State.modSpim_kept m_spim (by assumption)

theorem State.spimNext_kept {M : Mask} {z₀ : State} {s : State} (m_regs : M.regs = true) (m_boot : M.boot = true) (m_spim :
    M.spim = true) (m_flash : M.flash = true) (h0 : Kept M z₀ s) : Kept M z₀ (@State.spimNext s) := by
  unfold State.spimNext
  refine ite_kept ?_ ?_
  · assumption
  · extract_lets x0
    clear_value x0
    split
    · exact State.setBit_kept m_regs (by assumption)
    · exact State.spimIssue_kept m_regs m_boot m_spim m_flash (State.modSpim_kept m_spim (by assumption))

theorem State.spimReq_kept {M : Mask} {z₀ : State} {s : State} {k : FlashCmd} (m_regs : M.regs = true) (m_boot : M.boot =
    true) (m_spim : M.spim = true) (m_flash : M.flash = true) (h0 : Kept M z₀ s) : Kept M z₀ (@State.spimReq s k) := by
  unfold State.spimReq
  exact State.spimNext_kept m_regs m_boot m_spim m_flash (State.modSpim_kept m_spim (by assumption))

theorem State.spisAnswer_kept {M : Mask} {z₀ : State} {s : State} {op : Nat} {alive : Nat} {result : Nat} {data : Nat}
    (m_regs : M.regs = true) (m_spis : M.spis = true) (h0 : Kept M z₀ s) : Kept M z₀ (@State.spisAnswer s op alive result
    data) := by
  unfold State.spisAnswer
  extract_lets x0 x1 x2
  clear_value x0 x1
  have k3 : Kept M z₀ x2 := by
    dsimp -zeta only [x2]
    refine ite_kept ?_ ?_
    · exact State.bump_kept m_regs (by assumption)
    · assumption
  clear_value x2
  exact Kept.upSpis m_spis (by assumption)

theorem State.combFlush_kept {M : Mask} {z₀ : State} {s : State} (m_regs : M.regs = true) (m_boot : M.boot = true) (m_spim :
    M.spim = true) (m_flash : M.flash = true) (h0 : Kept M z₀ s) : Kept M z₀ (@State.combFlush s) := by
  unfold State.combFlush
  extract_lets x0 x1
  clear_value x0 x1
  split
  · assumption
  · extract_lets x2 x3 x4
    clear_value x2 x3 x4
    exact State.spimReq_kept m_regs m_boot m_spim m_flash (State.modSpim_kept m_spim (by assumption))

theorem execCombineFlush_kept {M : Mask} {z₀ : State} {s : State} (m_regs : M.regs = true) (m_boot : M.boot = true) (m_spim :
    M.spim = true) (m_flash : M.flash = true) (h0 : Kept M z₀ s) : OutOk M z₀ (@execCombineFlush s) := by
  unfold execCombineFlush
  refine OutOk.next ?_
  refine ite_kept ?_ ?_
  · exact State.combFlush_kept m_regs m_boot m_spim m_flash (by assumption)
  · assumption

theorem State.pfGo_kept {M : Mask} {z₀ : State} {s : State} {op : Nat} {len : Nat} (m_regs : M.regs = true) (m_boot : M.boot
    = true) (m_spim : M.spim = true) (m_flash : M.flash = true) (h0 : Kept M z₀ s) : Kept M z₀ (@State.pfGo s op len) := by
  unfold State.pfGo
  refine ite_kept ?_ ?_
  · exact State.setBit_kept m_regs (by assumption)
  · extract_lets x0 x1 x2 x3 x4
    have k5 : Kept M z₀ x0 := by
      dsimp -zeta only [x0]
      exact State.setFld_kept m_regs (State.setFld_kept m_regs (State.setFld_kept m_regs (by assumption)))
    clear_value x0 x1 x2 x3
    have k6 : Kept M z₀ x4 := by
      dsimp -zeta only [x4]
      exact State.setBit_kept m_regs (by assumption)
    clear_value x4
    refine ite_kept ?_ ?_
    · exact State.pfEnd_kept m_regs (by assumption)
    · refine ite_kept ?_ ?_
      · exact State.pfEnd_kept m_regs (by assumption)
      · refine ite_kept ?_ ?_
        · exact State.pfEnd_kept m_regs (by assumption)
        · exact State.spimReq_kept m_regs m_boot m_spim m_flash (by assumption)

theorem State.pfCmdW_kept {M : Mask} {z₀ : State} {s : State} {v : Word} (m_regs : M.regs = true) (m_boot : M.boot = true)
    (m_spim : M.spim = true) (m_flash : M.flash = true) (h0 : Kept M z₀ s) : Kept M z₀ (@State.pfCmdW s v) := by
  unfold State.pfCmdW
  refine ite_kept ?_ ?_
  · exact State.pfGo_kept m_regs m_boot m_spim m_flash (by assumption)
  · exact State.setFld_kept m_regs (State.setFld_kept m_regs (by assumption))

theorem State.spimCfgW_kept {M : Mask} {z₀ : State} {s : State} {v : Word} (m_regs : M.regs = true) (h0 : Kept M z₀ s) : Kept
    M z₀ (@State.spimCfgW s v) := by
  unfold State.spimCfgW
  refine ite_kept ?_ ?_
  · exact State.setBit_kept m_regs (by assumption)
  · exact State.setReg_kept m_regs (by assumption)

theorem execSpimRelease_kept {M : Mask} {z₀ : State} {s : State} (m_regs : M.regs = true) (m_boot : M.boot = true) (m_spim :
    M.spim = true) (m_flash : M.flash = true) (h0 : Kept M z₀ s) : OutOk M z₀ (@execSpimRelease s) := by
  unfold execSpimRelease
  refine OutOk.next ?_
  split
  · refine ite_kept ?_ ?_
    · exact State.spimNext_kept m_regs m_boot m_spim m_flash (State.modSpim_kept m_spim (by assumption))
    · assumption
  · assumption

theorem execWindowWrite_kept {M : Mask} {z₀ : State} {a : Fin 67108864} {v : BitVec 8} {s : State} (m_regs : M.regs = true)
    (m_boot : M.boot = true) (m_spim : M.spim = true) (m_flash : M.flash = true) (h2 : Kept M z₀ s) : OutOk M z₀
    (@execWindowWrite a v s) := by
  unfold execWindowWrite
  extract_lets x0 x1
  clear_value x0
  have k2 : Kept M z₀ x1 := by
    dsimp -zeta only [x1]
    refine ite_kept ?_ ?_
    · assumption
    · exact State.combFlush_kept m_regs m_boot m_spim m_flash (by assumption)
  clear_value x1
  refine OutOk.next ?_
  refine ite_kept ?_ ?_
  · exact State.setBit_kept m_regs (by assumption)
  · exact State.modSpim_kept m_spim (by assumption)

theorem State.setCacheSet_kept {M : Mask} {z₀ : State} {s : State} {i : Nat} {l : List (Nat × List Sys2Proof.Byte)} (m_spim :
    M.spim = true) (h0 : Kept M z₀ s) : Kept M z₀ (@State.setCacheSet s i l) := by
  unfold State.setCacheSet
  exact State.modSpim_kept m_spim (by assumption)

theorem State.cacheFill_kept {M : Mask} {z₀ : State} {s : State} {a : Nat} (m_regs : M.regs = true) (m_spim : M.spim = true)
    (h0 : Kept M z₀ s) : Kept M z₀ (@State.cacheFill s a).2 := by
  unfold State.cacheFill
  extract_lets x0 x1 x2
  clear_value x0 x1
  have k3 : Kept M z₀ x2 := by
    dsimp -zeta only [x2]
    exact State.bump_kept m_regs (by assumption)
  clear_value x2
  dsimp -zeta only
  exact State.setCacheSet_kept m_spim (by assumption)

theorem State.cacheHit_kept {M : Mask} {z₀ : State} {s : State} {a : Nat} (m_spim : M.spim = true) (h0 : Kept M z₀ s) : ∀ r,
    (@State.cacheHit s a) = some r → Kept M z₀ r.2 := by
  intro r hr
  simp only [State.cacheHit] at hr
  split at hr
  · cases hr
  · cases hr
    exact State.setCacheSet_kept m_spim h0

theorem State.windowServe_kept {M : Mask} {z₀ : State} {s : State} {a : Nat} (m_regs : M.regs = true) (m_spim : M.spim =
    true) (h0 : Kept M z₀ s) : Kept M z₀ (@State.windowServe s a) := by
  unfold State.windowServe
  split
  · rename_i w0 w1 w2 w3
    have k4 : Kept M z₀ w2 := snd_some w3 (by
        refine State.cacheHit_kept m_spim ?_
        assumption)
    exact State.modSpim_kept m_spim (by assumption)
  · refine ite_kept ?_ ?_
    · split
      · rename_i w5 w6 w7 w8
        have k9 : Kept M z₀ w7 := snd_of w8 (by
            refine State.cacheFill_kept m_regs m_spim ?_
            assumption)
        exact State.modSpim_kept m_spim (by assumption)
    · exact State.modSpim_kept m_spim (by assumption)

theorem execWindowRead_kept {M : Mask} {z₀ : State} {a : Fin 67108864} {s : State} (m_regs : M.regs = true) (m_boot : M.boot
    = true) (m_spim : M.spim = true) (m_flash : M.flash = true) (h1 : Kept M z₀ s) : OutOk M z₀ (@execWindowRead a s) := by
  unfold execWindowRead
  refine OutOk.next ?_
  refine ite_kept ?_ ?_
  · exact State.modSpim_kept m_spim (State.setBit_kept m_regs (by assumption))
  · exact State.windowServe_kept m_regs m_spim (State.combFlush_kept m_regs m_boot m_spim m_flash (by assumption))

theorem State.setPfBuf_kept {M : Mask} {z₀ : State} {s : State} {d : List Sys2Proof.Byte} (m_regs : M.regs = true) (h0 : Kept
    M z₀ s) : Kept M z₀ (@State.setPfBuf s d) := by
  unfold State.setPfBuf
  refine foldl_kept ?_ ?_
  · assumption
  · intro v0
    intro v1
    intro v2
    exact State.setFld_kept m_regs (by assumption)

theorem State.cmdEnds_kept {M : Mask} {z₀ : State} {s : State} {k : FlashCmd} {status : Nat} {st : Sys2Proof.Byte} (m_regs :
    M.regs = true) (m_boot : M.boot = true) (m_spim : M.spim = true) (m_spis : M.spis = true) (h0 : Kept M z₀ s) : Kept M z₀
    (@State.cmdEnds s k status st) := by
  unfold State.cmdEnds
  extract_lets x0 x1 x2 x3 x4
  have k5 : Kept M z₀ x0 := by
    dsimp -zeta only [x0]
    exact State.modSpim_kept m_spim (by assumption)
  clear_value x0
  have k6 : Kept M z₀ x1 := by
    dsimp -zeta only [x1]
    refine ite_kept ?_ ?_
    · exact State.setBit_kept m_regs (by assumption)
    · exact State.setBit_kept m_regs (by assumption)
  clear_value x1
  have k7 : Kept M z₀ x2 := by
    dsimp -zeta only [x2]
    exact State.setBit_kept m_regs (by assumption)
  clear_value x2
  subst x3
  have k8 : Kept M z₀ x4 := by
    dsimp -zeta only [x4]
    refine ite_kept ?_ ?_
    · exact State.setPfBuf_kept m_regs (by assumption)
    · refine ite_kept ?_ ?_
      · exact State.setPfBuf_kept m_regs (by assumption)
      · assumption
  clear_value x4
  refine ite_kept ?_ ?_
  · refine ite_kept ?_ ?_
    · assumption
    · exact Kept.upBoot m_boot rfl rfl rfl (by assumption)
  · refine ite_kept ?_ ?_
    · exact State.pfEnd_kept m_regs (by assumption)
    · refine ite_kept ?_ ?_
      · split
        · exact State.spisAnswer_kept m_regs m_spis (by assumption)
        · assumption
      · exact State.modSpim_kept m_spim (by assumption)

theorem execFlashTimeout_kept {M : Mask} {z₀ : State} {s : State} (m_regs : M.regs = true) (m_boot : M.boot = true) (m_spim :
    M.spim = true) (m_spis : M.spis = true) (h0 : Kept M z₀ s) : OutOk M z₀ (@execFlashTimeout s) := by
  unfold execFlashTimeout
  refine OutOk.next ?_
  split
  · assumption
  · extract_lets x0
    clear_value x0
    refine ite_kept ?_ ?_
    · assumption
    · exact State.modSpim_kept m_spim (State.cmdEnds_kept m_regs m_boot m_spim m_spis (State.setBit_kept m_regs (by
        assumption)))

theorem State.spimAfter_kept {M : Mask} {z₀ : State} {s : State} (m_regs : M.regs = true) (m_boot : M.boot = true) (m_spim :
    M.spim = true) (m_flash : M.flash = true) (h0 : Kept M z₀ s) : Kept M z₀ (@State.spimAfter s) := by
  unfold State.spimAfter
  extract_lets x0 x1
  clear_value x0
  have k2 : Kept M z₀ x1 := by
    dsimp -zeta only [x1]
    exact State.modSpim_kept m_spim (by assumption)
  clear_value x1
  refine State.spimNext_kept m_regs m_boot m_spim m_flash ?_
  refine foldl_kept ?_ ?_
  · assumption
  · intro v3
    intro v4
    intro v5
    exact State.windowServe_kept m_regs m_spim (by assumption)

theorem execFlashReady_kept {M : Mask} {z₀ : State} {st : BitVec 8} {s : State} (m_regs : M.regs = true) (m_boot : M.boot =
    true) (m_spim : M.spim = true) (m_spis : M.spis = true) (m_flash : M.flash = true) (h1 : Kept M z₀ s) : OutOk M z₀
    (@execFlashReady st s) := by
  unfold execFlashReady
  refine OutOk.next ?_
  refine ite_kept ?_ ?_
  · assumption
  · split
    · exact State.spimAfter_kept m_regs m_boot m_spim m_flash (State.setBit_kept m_regs (State.modSpim_kept m_spim (by
        assumption)))
    · extract_lets x0 x1
      clear_value x0
      have k2 : Kept M z₀ x1 := by
        dsimp -zeta only [x1]
        refine ite_kept ?_ ?_
        · exact State.setBit_kept m_regs (by assumption)
        · assumption
      clear_value x1
      exact State.spimAfter_kept m_regs m_boot m_spim m_flash (State.cmdEnds_kept m_regs m_boot m_spim m_spis (by assumption))

theorem execFlashStatus_kept {M : Mask} {z₀ : State} {s : State} (m_regs : M.regs = true) (m_boot : M.boot = true) (m_spim :
    M.spim = true) (m_flash : M.flash = true) (h0 : Kept M z₀ s) : OutOk M z₀ (@execFlashStatus s) := by
  unfold execFlashStatus
  exact OutOk.next (State.pfGo_kept m_regs m_boot m_spim m_flash (by assumption))

theorem execErase64k_kept {M : Mask} {z₀ : State} {s : State} (m_regs : M.regs = true) (m_boot : M.boot = true) (m_spim :
    M.spim = true) (m_flash : M.flash = true) (h0 : Kept M z₀ s) : OutOk M z₀ (@execErase64k s) := by
  unfold execErase64k
  exact OutOk.next (State.pfGo_kept m_regs m_boot m_spim m_flash (by assumption))

theorem execErase4k_kept {M : Mask} {z₀ : State} {s : State} (m_regs : M.regs = true) (m_boot : M.boot = true) (m_spim :
    M.spim = true) (m_flash : M.flash = true) (h0 : Kept M z₀ s) : OutOk M z₀ (@execErase4k s) := by
  unfold execErase4k
  exact OutOk.next (State.pfGo_kept m_regs m_boot m_spim m_flash (by assumption))

theorem execFlashProgram_kept {M : Mask} {z₀ : State} {len : Fin 256} {s : State} (m_regs : M.regs = true) (m_boot : M.boot =
    true) (m_spim : M.spim = true) (m_flash : M.flash = true) (h1 : Kept M z₀ s) : OutOk M z₀ (@execFlashProgram len s) := by
  unfold execFlashProgram
  exact OutOk.next (State.pfGo_kept m_regs m_boot m_spim m_flash (by assumption))

theorem execFlashRead_kept {M : Mask} {z₀ : State} {len : Fin 256} {s : State} (m_regs : M.regs = true) (m_boot : M.boot =
    true) (m_spim : M.spim = true) (m_flash : M.flash = true) (h1 : Kept M z₀ s) : OutOk M z₀ (@execFlashRead len s) := by
  unfold execFlashRead
  exact OutOk.next (State.pfGo_kept m_regs m_boot m_spim m_flash (by assumption))

end Sys2Proof.Machine
end

