-- ==== Sys2Proof/Laws/KeptKeeper.lean ====
section
/-! SUPPORT. What the operations and meanings of Machine/Keeper.lean keep (Laws/Kept.lean). -/

namespace Sys2Proof.Machine

theorem State.testAbort_kept {M : Mask} {z₀ : State} {s : State} (m_regs : M.regs = true) (m_eng : M.eng = true) (m_chainNow
    : M.chainNow = true) (m_fab : M.fab = true) (m_par : M.par = true) (m_ctx : M.ctx = true) (m_mode : M.mode = true)
    (m_test : M.test = true) (h0 : Kept M z₀ s) : Kept M z₀ (@State.testAbort s) := by
  unfold State.testAbort
  split
  · assumption
  · extract_lets x0 x1 x2 x3
    have k4 : Kept M z₀ x0 := by
      dsimp -zeta only [x0]
      refine foldl_kept ?_ ?_
      · assumption
      · intro v5
        intro v6
        intro v7
        exact State.clusterReset_kept m_regs m_eng m_chainNow m_fab m_par m_ctx (by assumption)
    clear_value x0
    have k8 : Kept M z₀ x1 := by
      dsimp -zeta only [x1]
      split
      · exact State.modDesc_kept m_ctx (by assumption)
      · assumption
    clear_value x1
    have k9 : Kept M z₀ x2 := by
      dsimp -zeta only [x2]
      exact State.setFld_kept m_regs (State.setBit_kept m_regs (by assumption))
    clear_value x2 x3
    exact Kept.lit (s := x2) { mode := .inl m_mode, test := .inl m_test } (by assumption)

theorem State.setRlf_kept {M : Mask} {z₀ : State} {s : State} {v : Nat} (m_regs : M.regs = true) (h0 : Kept M z₀ s) : Kept M
    z₀ (@State.setRlf s v) := by
  unfold State.setRlf
  exact State.setFld_kept m_regs (by assumption)

theorem State.recoverySteps_kept {M : Mask} {z₀ : State} {s : State} {reason : Nat} (m_regs : M.regs = true) (m_eng : M.eng =
    true) (m_chainNow : M.chainNow = true) (m_fab : M.fab = true) (m_par : M.par = true) (m_ctx : M.ctx = true) (m_mode :
    M.mode = true) (m_keep : M.keep = true) (m_pwr : M.pwr = true) (m_spim : M.spim = true) (m_spis : M.spis = true) (m_test
    : M.test = true) (h0 : Kept M z₀ s) : Kept M z₀ (@State.recoverySteps s reason) := by
  unfold State.recoverySteps
  extract_lets x0 x1 x2 x3 x4 x5 x6 x7 x8 x9 x10 x11 x12 x13 x14 x15
  clear_value x0 x1
  have k16 : Kept M z₀ x2 := by
    dsimp -zeta only [x2]
    exact State.setFld_kept m_regs (State.setBit_kept m_regs (by assumption))
  clear_value x2
  have k17 : Kept M z₀ x3 := by
    dsimp -zeta only [x3]
    exact State.setRlf_kept m_regs (by assumption)
  clear_value x3
  have k18 : Kept M z₀ x4 := by
    dsimp -zeta only [x4]
    exact State.testAbort_kept m_regs m_eng m_chainNow m_fab m_par m_ctx m_mode m_test (by assumption)
  clear_value x4
  have k19 : Kept M z₀ x5 := by
    dsimp -zeta only [x5]
    refine ite_kept ?_ ?_
    · refine State.modeDo_kept m_regs m_fab m_keep ?_ ?_
      · assumption
      · intro v20
        intro v21
        exact Kept.upMode m_mode (by assumption)
    · exact State.setFld_kept m_regs (by assumption)
  clear_value x5
  have k22 : Kept M z₀ x6 := by
    dsimp -zeta only [x6]
    exact State.lanternHead_kept m_fab m_keep (by assumption)
  clear_value x6
  have k23 : Kept M z₀ x7 := by
    dsimp -zeta only [x7]
    refine ite_kept ?_ ?_
    · exact State.histBegin_kept m_keep (by assumption)
    · assumption
  clear_value x7
  have k24 : Kept M z₀ x8 := by
    dsimp -zeta only [x8]
    exact State.spimReset_kept m_regs m_spim m_spis (by assumption)
  clear_value x8
  have k25 : Kept M z₀ x9 := by
    dsimp -zeta only [x9]
    exact State.xEmpty_kept m_fab (by assumption)
  clear_value x9 x10
  have k26 : Kept M z₀ x11 := by
    dsimp -zeta only [x11]
    exact Kept.upFab m_fab (by assumption)
  clear_value x11
  have k27 : Kept M z₀ x12 := by
    dsimp -zeta only [x12]
    exact State.setReg64_kept m_regs (by assumption)
  clear_value x12
  have k28 : Kept M z₀ x13 := by
    dsimp -zeta only [x13]
    exact State.setFld_kept m_regs (by assumption)
  clear_value x13 x14 x15
  exact Kept.lit (s := x13) { keep := .inl m_keep, pwr := .inl m_pwr } (by assumption)

theorem State.modKeep_kept {M : Mask} {z₀ : State} {s : State} {f : KeepState → KeepState} (m_keep : M.keep = true) (h0 :
    Kept M z₀ s) : Kept M z₀ (@State.modKeep s f) := by
  unfold State.modKeep
  exact Kept.upKeep m_keep (by assumption)

theorem State.startRecovery_kept {M : Mask} {z₀ : State} {s : State} {reason : Nat} (m_regs : M.regs = true) (m_eng : M.eng =
    true) (m_chainNow : M.chainNow = true) (m_fab : M.fab = true) (m_tick : M.tick = true) (m_par : M.par = true) (m_ctx :
    M.ctx = true) (m_mode : M.mode = true) (m_keep : M.keep = true) (m_pwr : M.pwr = true) (m_boot : M.boot = true) (m_spim :
    M.spim = true) (m_spis : M.spis = true) (m_test : M.test = true) (h0 : Kept M z₀ s) : Kept M z₀ (@State.startRecovery s
    reason) := by
  unfold State.startRecovery
  refine ite_kept ?_ ?_
  · assumption
  · extract_lets x0 x1 x2 x3
    clear_value x0
    have k4 : Kept M z₀ x1 := by
      dsimp -zeta only [x1]
      exact State.modKeep_kept m_keep (by assumption)
    clear_value x1
    have k5 : Kept M z₀ x2 := by
      dsimp -zeta only [x2]
      exact State.bump_kept m_regs (by assumption)
    clear_value x2
    have k6 : Kept M z₀ x3 := by
      dsimp -zeta only [x3]
      exact State.setFld_kept m_regs (by assumption)
    clear_value x3
    refine ite_kept ?_ ?_
    · exact State.recoverySteps_kept m_regs m_eng m_chainNow m_fab m_par m_ctx m_mode m_keep m_pwr m_spim m_spis m_test (by
        assumption)
    · exact State.setRlf_kept m_regs (State.enterMinimal_kept m_regs m_fab m_tick m_mode m_keep m_boot
        (State.recoverySteps_kept m_regs m_eng m_chainNow m_fab m_par m_ctx m_mode m_keep m_pwr m_spim m_spis m_test (by
        assumption)))

theorem execHeartbeatMiss_kept {M : Mask} {z₀ : State} {s : State} (m_regs : M.regs = true) (m_eng : M.eng = true)
    (m_chainNow : M.chainNow = true) (m_fab : M.fab = true) (m_tick : M.tick = true) (m_par : M.par = true) (m_ctx : M.ctx =
    true) (m_mode : M.mode = true) (m_keep : M.keep = true) (m_pwr : M.pwr = true) (m_boot : M.boot = true) (m_spim : M.spim
    = true) (m_spis : M.spis = true) (m_test : M.test = true) (h0 : Kept M z₀ s) : OutOk M z₀ (@execHeartbeatMiss s) := by
  unfold execHeartbeatMiss
  refine OutOk.next ?_
  refine ite_kept ?_ ?_
  · assumption
  · extract_lets x0 x1 x2
    have k3 : Kept M z₀ x0 := by
      dsimp -zeta only [x0]
      exact State.modKeep_kept m_keep (by assumption)
    clear_value x0 x1
    have k4 : Kept M z₀ x2 := by
      dsimp -zeta only [x2]
      exact State.setFld_kept m_regs (by assumption)
    clear_value x2
    refine ite_kept ?_ ?_
    · exact State.startRecovery_kept m_regs m_eng m_chainNow m_fab m_tick m_par m_ctx m_mode m_keep m_pwr m_boot m_spim
        m_spis m_test (by assumption)
    · assumption

theorem State.rlfCtrlW_kept {M : Mask} {z₀ : State} {s : State} {v : Word} (m_regs : M.regs = true) (m_eng : M.eng = true)
    (m_chainNow : M.chainNow = true) (m_fab : M.fab = true) (m_tick : M.tick = true) (m_par : M.par = true) (m_ctx : M.ctx =
    true) (m_mode : M.mode = true) (m_keep : M.keep = true) (m_pwr : M.pwr = true) (m_boot : M.boot = true) (m_spim : M.spim
    = true) (m_spis : M.spis = true) (m_test : M.test = true) (h0 : Kept M z₀ s) : Kept M z₀ (@State.rlfCtrlW s v) := by
  unfold State.rlfCtrlW
  extract_lets x0
  have k1 : Kept M z₀ x0 := by
    dsimp -zeta only [x0]
    refine ite_kept ?_ ?_
    · exact State.setBit_kept m_regs (by assumption)
    · assumption
  clear_value x0
  refine ite_kept ?_ ?_
  · assumption
  · refine ite_kept ?_ ?_
    · exact State.setBit_kept m_regs (by assumption)
    · exact State.startRecovery_kept m_regs m_eng m_chainNow m_fab m_tick m_par m_ctx m_mode m_keep m_pwr m_boot m_spim
        m_spis m_test (by assumption)

theorem execRestart_kept {M : Mask} {z₀ : State} {s : State} (m_regs : M.regs = true) (m_eng : M.eng = true) (m_chainNow :
    M.chainNow = true) (m_fab : M.fab = true) (m_tick : M.tick = true) (m_par : M.par = true) (m_ctx : M.ctx = true) (m_mode
    : M.mode = true) (m_keep : M.keep = true) (m_pwr : M.pwr = true) (m_boot : M.boot = true) (m_spim : M.spim = true)
    (m_spis : M.spis = true) (m_test : M.test = true) (h0 : Kept M z₀ s) : OutOk M z₀ (@execRestart s) := by
  unfold execRestart
  exact OutOk.next (State.rlfCtrlW_kept m_regs m_eng m_chainNow m_fab m_tick m_par m_ctx m_mode m_keep m_pwr m_boot m_spim
      m_spis m_test (by assumption))

theorem State.haltKeeper_kept {M : Mask} {z₀ : State} {s : State} {on : Bool} (m_regs : M.regs = true) (m_keep : M.keep =
    true) (h0 : Kept M z₀ s) : Kept M z₀ (@State.haltKeeper s on) := by
  unfold State.haltKeeper
  refine ite_kept ?_ ?_
  · exact State.modKeep_kept m_keep (State.setBit_kept m_regs (by assumption))
  · refine ite_kept ?_ ?_
    · exact State.modKeep_kept m_keep (State.setBit_kept m_regs (by assumption))
    · assumption

theorem execKeeperFault_kept {M : Mask} {z₀ : State} {s : State} (m_regs : M.regs = true) (m_eng : M.eng = true) (m_chainNow
    : M.chainNow = true) (m_fab : M.fab = true) (m_tick : M.tick = true) (m_par : M.par = true) (m_ctx : M.ctx = true)
    (m_mode : M.mode = true) (m_keep : M.keep = true) (m_pwr : M.pwr = true) (m_boot : M.boot = true) (m_spim : M.spim =
    true) (m_spis : M.spis = true) (m_test : M.test = true) (h0 : Kept M z₀ s) : OutOk M z₀ (@execKeeperFault s) := by
  unfold execKeeperFault
  exact OutOk.next (State.startRecovery_kept m_regs m_eng m_chainNow m_fab m_tick m_par m_ctx m_mode m_keep m_pwr m_boot
      m_spim m_spis m_test (by assumption))

theorem execTmrVote_kept {M : Mask} {z₀ : State} {bad : Fin 4} {s : State} (m_regs : M.regs = true) (m_fab : M.fab = true)
    (m_pcie : M.pcie = true) (m_keep : M.keep = true) (h1 : Kept M z₀ s) : OutOk M z₀ (@execTmrVote bad s) := by
  unfold execTmrVote
  refine OutOk.next ?_
  split
  · assumption
  · exact State.bump_kept m_regs (by assumption)
  · refine ite_kept ?_ ?_
    · assumption
    · extract_lets x0 x1
      have k2 : Kept M z₀ x0 := by
        dsimp -zeta only [x0]
        exact State.setBit_kept m_regs (State.setRlf_kept m_regs (by assumption))
      clear_value x0
      have k3 : Kept M z₀ x1 := by
        dsimp -zeta only [x1]
        exact State.setFld_kept m_regs (State.aer_kept m_pcie (by assumption))
      clear_value x1
      exact State.lantern_kept m_fab m_keep (State.histBegin_kept m_keep (by assumption))

theorem execRebuildEnd_kept {M : Mask} {z₀ : State} {s : State} (m_regs : M.regs = true) (m_fab : M.fab = true) (m_ctx :
    M.ctx = true) (m_mode : M.mode = true) (m_pcie : M.pcie = true) (m_keep : M.keep = true) (m_ngx : M.ngx = true) (h0 :
    Kept M z₀ s) : OutOk M z₀ (@execRebuildEnd s) := by
  unfold execRebuildEnd
  refine OutOk.next ?_
  refine ite_kept ?_ ?_
  · assumption
  · extract_lets x0 x1 x2 x3 x4
    have k5 : Kept M z₀ x0 := by
      dsimp -zeta only [x0]
      exact State.setBit_kept m_regs (State.setRlf_kept m_regs (by assumption))
    clear_value x0
    have k6 : Kept M z₀ x1 := by
      dsimp -zeta only [x1]
      refine forN_kept ?_ ?_
      · assumption
      · intro v7
        intro v8
        intro v9
        exact State.modContext_kept m_ctx (by assumption)
    clear_value x1 x2
    have k10 : Kept M z₀ x3 := by
      dsimp -zeta only [x3]
      refine State.modeDo_kept m_regs m_fab m_keep ?_ ?_
      · assumption
      · intro v11
        intro v12
        exact Kept.upMode m_mode (by assumption)
    clear_value x3
    have k13 : Kept M z₀ x4 := by
      dsimp -zeta only [x4]
      exact State.histEnd_kept m_keep (by assumption)
    clear_value x4
    refine forN_kept ?_ ?_
    · assumption
    · intro v14
      intro v15
      intro v16
      refine ite_kept ?_ ?_
      · exact State.fetchNext_kept m_fab m_pcie m_ngx (State.logEvent_kept m_regs m_fab m_ctx m_pcie m_ngx (by assumption))
      · assumption

theorem State.releaseKeeper_kept {M : Mask} {z₀ : State} {s : State} {img : List Sys2Proof.Byte} (m_regs : M.regs = true)
    (m_keep : M.keep = true) (m_boot : M.boot = true) (m_tcm : M.tcm = true) (h0 : Kept M z₀ s) : Kept M z₀
    (@State.releaseKeeper s img) := by
  unfold State.releaseKeeper
  extract_lets x0
  have k1 : Kept M z₀ x0 := by
    dsimp -zeta only [x0]
    exact State.tcmLoad_kept m_boot m_tcm (by assumption)
  clear_value x0
  exact State.modKeep_kept m_keep (State.setRlf_kept m_regs (by assumption))

theorem execFlashReload_kept {M : Mask} {z₀ : State} {readable : Bool} {s : State} (m_regs : M.regs = true) (m_fab : M.fab =
    true) (m_tick : M.tick = true) (m_cal : M.cal = true) (m_ctx : M.ctx = true) (m_mode : M.mode = true) (m_pcie : M.pcie =
    true) (m_keep : M.keep = true) (m_ngx : M.ngx = true) (m_boot : M.boot = true) (m_calMem : M.calMem = true) (m_tcm :
    M.tcm = true) (h1 : Kept M z₀ s) : OutOk M z₀ (@execFlashReload readable s) := by
  unfold execFlashReload
  refine OutOk.next ?_
  refine ite_kept ?_ ?_
  · assumption
  · extract_lets x0
    clear_value x0
    refine ite_kept ?_ ?_
    · exact State.releaseKeeper_kept m_regs m_keep m_boot m_tcm (State.setFld_kept m_regs (State.calStore_kept m_regs m_fab
        m_cal m_ctx m_pcie m_ngx m_calMem (by assumption)))
    · exact State.setRlf_kept m_regs (State.enterMinimal_kept m_regs m_fab m_tick m_mode m_keep m_boot (by assumption))

theorem execCopyCheck_kept {M : Mask} {z₀ : State} {s : State} (m_regs : M.regs = true) (m_fab : M.fab = true) (m_cal : M.cal
    = true) (m_ctx : M.ctx = true) (m_pcie : M.pcie = true) (m_keep : M.keep = true) (m_ngx : M.ngx = true) (m_boot : M.boot
    = true) (m_tcm : M.tcm = true) (h0 : Kept M z₀ s) : OutOk M z₀ (@execCopyCheck s) := by
  unfold execCopyCheck
  refine OutOk.next ?_
  refine ite_kept ?_ ?_
  · assumption
  · split
    · rename_i w0 w1 w2 w3 w4
      have k5 : Kept M z₀ w3 := snd_of2 w4 (by
          refine State.calRead_kept m_regs m_fab m_cal m_ctx m_pcie m_ngx ?_
          assumption)
      refine ite_kept ?_ ?_
      · exact State.releaseKeeper_kept m_regs m_keep m_boot m_tcm (by assumption)
      · exact State.setRlf_kept m_regs (by assumption)

theorem execFirstHeartbeatTimeout_kept {M : Mask} {z₀ : State} {s : State} (m_regs : M.regs = true) (m_eng : M.eng = true)
    (m_chainNow : M.chainNow = true) (m_fab : M.fab = true) (m_tick : M.tick = true) (m_par : M.par = true) (m_ctx : M.ctx =
    true) (m_mode : M.mode = true) (m_keep : M.keep = true) (m_pwr : M.pwr = true) (m_boot : M.boot = true) (m_spim : M.spim
    = true) (m_spis : M.spis = true) (m_test : M.test = true) (h0 : Kept M z₀ s) : OutOk M z₀ (@execFirstHeartbeatTimeout s)
    := by
  unfold execFirstHeartbeatTimeout
  refine OutOk.next ?_
  refine ite_kept ?_ ?_
  · exact State.startRecovery_kept m_regs m_eng m_chainNow m_fab m_tick m_par m_ctx m_mode m_keep m_pwr m_boot m_spim m_spis
      m_test (by assumption)
  · assumption

theorem execKeeperPoison_kept {M : Mask} {z₀ : State} {s : State} (m_regs : M.regs = true) (m_eng : M.eng = true) (m_chainNow
    : M.chainNow = true) (m_fab : M.fab = true) (m_tick : M.tick = true) (m_par : M.par = true) (m_ctx : M.ctx = true)
    (m_mode : M.mode = true) (m_keep : M.keep = true) (m_pwr : M.pwr = true) (m_boot : M.boot = true) (m_spim : M.spim =
    true) (m_spis : M.spis = true) (m_test : M.test = true) (h0 : Kept M z₀ s) : OutOk M z₀ (@execKeeperPoison s) := by
  unfold execKeeperPoison
  exact OutOk.next (State.startRecovery_kept m_regs m_eng m_chainNow m_fab m_tick m_par m_ctx m_mode m_keep m_pwr m_boot
      m_spim m_spis m_test (by assumption))

theorem execTcmUe_kept {M : Mask} {z₀ : State} {s : State} (m_regs : M.regs = true) (m_eng : M.eng = true) (m_chainNow :
    M.chainNow = true) (m_fab : M.fab = true) (m_tick : M.tick = true) (m_par : M.par = true) (m_ctx : M.ctx = true) (m_mode
    : M.mode = true) (m_keep : M.keep = true) (m_pwr : M.pwr = true) (m_boot : M.boot = true) (m_spim : M.spim = true)
    (m_spis : M.spis = true) (m_test : M.test = true) (h0 : Kept M z₀ s) : OutOk M z₀ (@execTcmUe s) := by
  unfold execTcmUe
  exact OutOk.next (State.startRecovery_kept m_regs m_eng m_chainNow m_fab m_tick m_par m_ctx m_mode m_keep m_pwr m_boot
      m_spim m_spis m_test (by assumption))

theorem execHeartbeat_kept {M : Mask} {z₀ : State} {s : State} (m_regs : M.regs = true) (m_keep : M.keep = true) (h0 : Kept M
    z₀ s) : OutOk M z₀ (@execHeartbeat s) := by
  unfold execHeartbeat
  refine OutOk.next ?_
  refine ite_kept ?_ ?_
  · assumption
  · extract_lets x0
    have k1 : Kept M z₀ x0 := by
      dsimp -zeta only [x0]
      exact State.setFld_kept m_regs (State.count_kept m_regs (by assumption))
    clear_value x0
    exact State.modKeep_kept m_keep (by assumption)

end Sys2Proof.Machine
end

