-- ==== Sys2Proof/Laws/KeptBoot.lean ====
section
/-! SUPPORT. What the operations and meanings of Machine/Boot.lean keep (Laws/Kept.lean). -/

namespace Sys2Proof.Machine

theorem State.dbgClose_kept {M : Mask} {z₀ : State} {s : State} (m_regs : M.regs = true) (m_fab : M.fab = true) (m_mode :
    M.mode = true) (m_keep : M.keep = true) (h0 : Kept M z₀ s) : Kept M z₀ (@State.dbgClose s) := by
  unfold State.dbgClose
  refine ite_kept ?_ ?_
  · assumption
  · extract_lets x0
    have k1 : Kept M z₀ x0 := by
      dsimp -zeta only [x0]
      exact State.haltKeeper_kept m_regs m_keep (State.setFld_kept m_regs (State.setBit_kept m_regs (by assumption)))
    clear_value x0
    refine State.modeDo_kept m_regs m_fab m_keep ?_ ?_
    · assumption
    · intro v2
      intro v3
      exact Kept.upMode m_mode (by assumption)

theorem State.dbgGo_kept {M : Mask} {z₀ : State} {s : State} {jtag : Bool} (m_regs : M.regs = true) (m_boot : M.boot = true)
    (h0 : Kept M z₀ s) : Kept M z₀ (@State.dbgGo s jtag) := by
  unfold State.dbgGo
  refine ite_kept ?_ ?_
  · assumption
  · extract_lets x0 x1 x2
    clear_value x0 x1
    have k3 : Kept M z₀ x2 := by
      dsimp -zeta only [x2]
      exact State.setBit_kept m_regs (by assumption)
    clear_value x2
    refine State.modBoot_kept m_boot ?_ ?_ ?_ ?_
    · assumption
    · rfl
    · rfl
    · rfl

theorem State.newChal_kept {M : Mask} {z₀ : State} {s : State} {level : Nat} {key : Nat} (m_regs : M.regs = true) (m_boot :
    M.boot = true) (h0 : Kept M z₀ s) : Kept M z₀ (@State.newChal s level key) := by
  unfold State.newChal
  extract_lets x0 x1
  have k2 : Kept M z₀ x0 := by
    dsimp -zeta only [x0]
    exact State.setFld_kept m_regs (State.setFld_kept m_regs (by assumption))
  clear_value x0
  have k3 : Kept M z₀ x1 := by
    dsimp -zeta only [x1]
    refine forN_kept ?_ ?_
    · assumption
    · intro v4
      intro v5
      intro v6
      exact State.setReg_kept m_regs (State.draw_kept (by assumption))
  clear_value x1
  refine State.modBoot_kept m_boot ?_ ?_ ?_ ?_
  · assumption
  · rfl
  · rfl
  · rfl

theorem State.resetBlock_kept {M : Mask} {z₀ : State} {s : State} {lo : Nat} {hi : Nat} (m_regs : M.regs = true) (h0 : Kept M
    z₀ s) : Kept M z₀ (@State.resetBlock s lo hi) := by
  unfold State.resetBlock
  exact Kept.upRegs m_regs (by assumption)

theorem State.mbxGo_kept {M : Mask} {z₀ : State} {s : State} {boot : Bool} {write : Bool} {spis : Bool} {len : Nat} (m_regs :
    M.regs = true) (m_boot : M.boot = true) (h0 : Kept M z₀ s) : Kept M z₀ (@State.mbxGo s boot write spis len) := by
  unfold State.mbxGo
  refine ite_kept ?_ ?_
  · assumption
  · extract_lets x0
    have k1 : Kept M z₀ x0 := by
      dsimp -zeta only [x0]
      exact State.setBit_kept m_regs (State.setBit_kept m_regs (by assumption))
    clear_value x0
    refine State.modBoot_kept m_boot ?_ ?_ ?_ ?_
    · assumption
    · rfl
    · rfl
    · rfl

theorem State.minStart_kept {M : Mask} {z₀ : State} {s : State} (m_regs : M.regs = true) (m_tick : M.tick = true) (m_mode :
    M.mode = true) (m_route : M.route = true) (m_mov : M.mov = true) (m_port : M.port = true) (m_clk : M.clk = true) (m_boot
    : M.boot = true) (h0 : Kept M z₀ s) : Kept M z₀ (@State.minStart s) := by
  unfold State.minStart
  extract_lets x0 x1 x2 x3 x4 x5 x6 x7 x8 x9 x10 x11 x12 x13
  clear_value x0
  have k14 : Kept M z₀ x1 := by
    dsimp -zeta only [x1]
    exact State.resetBlock_kept m_regs (State.resetBlock_kept m_regs (State.resetBlock_kept m_regs (by assumption)))
  clear_value x1
  have k15 : Kept M z₀ x2 := by
    dsimp -zeta only [x2]
    exact Kept.lit (s := x1) { tick := .inl m_tick, route := .inl m_route, mov := .inl m_mov, port := .inl m_port } (by
        assumption)
  clear_value x2
  have k16 : Kept M z₀ x3 := by
    dsimp -zeta only [x3]
    exact State.pllCtrlW_kept m_regs m_clk (State.setReg_kept m_regs (by assumption))
  clear_value x3 x4
  have k17 : Kept M z₀ x5 := by
    dsimp -zeta only [x5]
    exact State.setStream_kept m_mov (by assumption)
  clear_value x5
  have k18 : Kept M z₀ x6 := by
    dsimp -zeta only [x6]
    exact State.tdmCfgW_kept m_regs m_port (State.setReg_kept m_regs (by assumption))
  clear_value x6
  have k19 : Kept M z₀ x7 := by
    dsimp -zeta only [x7]
    exact State.setFld_kept m_regs (State.convGrpW_kept m_regs m_port (by assumption))
  clear_value x7
  have k24 : ∀ y20 y21 y22 y23, Kept M z₀ y23 → Kept M z₀ (x8 y20 y21 y22 y23) := by
    intro v25
    intro v26
    intro v27
    intro v28
    intro v29
    dsimp -zeta only [x8]
    exact State.setXp_kept m_regs m_route (by assumption)
  clear_value x8
  have k30 : Kept M z₀ x9 := by
    dsimp -zeta only [x9]
    apply k24
    apply k24
    apply k24
    apply k24
    assumption
  clear_value x9
  have k31 : Kept M z₀ x10 := by
    dsimp -zeta only [x10]
    exact State.dacStart_kept m_regs m_port (State.dacStart_kept m_regs m_port (by assumption))
  clear_value x10
  have k32 : Kept M z₀ x11 := by
    dsimp -zeta only [x11]
    refine State.modBoot_kept m_boot ?_ ?_ ?_ ?_
    · assumption
    · rfl
    · rfl
    · rfl
  clear_value x11 x12 x13
  exact Kept.lit (s := x11) { tick := .inl m_tick, mode := .inl m_mode } (by assumption)

theorem State.minCfgW_kept {M : Mask} {z₀ : State} {s : State} {v : Word} (m_regs : M.regs = true) (m_tick : M.tick = true)
    (m_mode : M.mode = true) (m_route : M.route = true) (m_mov : M.mov = true) (m_port : M.port = true) (m_clk : M.clk =
    true) (m_boot : M.boot = true) (h0 : Kept M z₀ s) : Kept M z₀ (@State.minCfgW s v) := by
  unfold State.minCfgW
  extract_lets x0 x1 x2 x3
  clear_value x0
  have k4 : Kept M z₀ x1 := by
    dsimp -zeta only [x1]
    exact State.setReg_kept m_regs (by assumption)
  clear_value x1
  have k5 : Kept M z₀ x2 := by
    dsimp -zeta only [x2]
    exact State.dacDomStop_kept m_regs m_port (by assumption)
  clear_value x2 x3
  refine ite_kept ?_ ?_
  · assumption
  · refine ite_kept ?_ ?_
    · exact State.minStart_kept m_regs m_tick m_mode m_route m_mov m_port m_clk m_boot (by assumption)
    · refine ite_kept ?_ ?_
      · exact Kept.lit (s := x2) { mode := .inl m_mode, mov := .inl m_mov } (by assumption)
      · assumption

theorem State.arbGo_kept {M : Mask} {z₀ : State} {s : State} {fuse : Bool} (m_regs : M.regs = true) (m_boot : M.boot = true)
    (m_flash : M.flash = true) (m_fuse : M.fuse = true) (h0 : Kept M z₀ s) : Kept M z₀ (@State.arbGo s fuse) := by
  have hor : ∀ (a : Word) v, a &&& (a ||| v) = a := fun a v => by
    ext i hi
    simp only [BitVec.getElem_and, BitVec.getElem_or]
    cases a[i] <;> simp
  unfold State.arbGo
  split
  · exact h0
  · extract_lets x0 x1 x2 x3 x4
    have k0 : Kept M z₀ x0 := State.setFld_kept m_regs h0
    clear_value x0
    have k1 : ∀ r, Kept M z₀ (x1 r) := fun r => State.modBoot_kept m_boot k0 rfl rfl rfl
    have k4 : Kept M z₀ x4 := by
      dsimp -zeta only [x4]
      split
      · refine Kept.upRoms m_boot (.inr rfl) (.inr rfl) (.inl m_fuse) (fun hc => ?_) k0
        have h1 := FuseLe.set 49 (x3 (x0.fuse 49) x2.stage1Ver) (hor _ _)
        have w1 := SMap.wf_set hc.2.2.2 49 (x3 (x0.fuse 49) x2.stage1Ver)
        refine ⟨⟨hc.1, hc.2.1, hc.2.2.1, SMap.wf_set w1 50 _⟩, FuseLe.trans h1 (FuseLe.set 50 _ ?_)⟩
        rw [SMap.get_set_other _ (by decide)]
        exact hor _ _
      · exact State.writeArb_kept m_boot m_flash k0
    clear_value x4
    split
    · exact k1 _
    · split
      · exact k1 _
      · exact State.modBoot_kept m_boot k4 rfl rfl rfl

theorem State.updGo_kept {M : Mask} {z₀ : State} {s : State} {slot : Nat} (m_regs : M.regs = true) (m_boot : M.boot = true)
    (m_flash : M.flash = true) (h0 : Kept M z₀ s) : Kept M z₀ (@State.updGo s slot) := by
  unfold State.updGo
  split
  · exact h0
  · extract_lets x0
    have k0 : Kept M z₀ x0 := State.setFld_kept m_regs h0
    clear_value x0
    split
    · exact State.modBoot_kept m_boot k0 rfl rfl rfl
    · split
      · have k1 : Kept M z₀ (x0.writeBcr slot) := State.writeBcr_kept m_boot m_flash k0
        revert k1
        generalize x0.writeBcr slot = y
        intro k1
        exact State.modBoot_kept m_boot k1 rfl rfl rfl
      · exact State.modBoot_kept m_boot k0 rfl rfl rfl

theorem State.otpGo_kept {M : Mask} {z₀ : State} {s : State} {w : Nat} (m_regs : M.regs = true) (m_boot : M.boot = true)
    (m_fuse : M.fuse = true) (h0 : Kept M z₀ s) : Kept M z₀ (@State.otpGo s w) := by
  have hor : ∀ (a : Word) v, a &&& (a ||| v) = a := fun a v => by
    ext i hi
    simp only [BitVec.getElem_and, BitVec.getElem_or]
    cases a[i] <;> simp
  unfold State.otpGo
  split
  · exact h0
  · extract_lets x0 x1 x2 x3
    have k0 : Kept M z₀ x0 := State.setBit_kept m_regs (State.setBit_kept m_regs (State.setFld_kept m_regs h0))
    clear_value x0
    have k2 : ∀ r, Kept M z₀ (x2 r) := fun r => State.modBoot_kept m_boot k0 rfl rfl rfl
    split
    · exact k2 _
    · split
      · exact k2 _
      · exact Kept.upRoms m_boot (.inr rfl) (.inr rfl) (.inl m_fuse) (fun hc =>
          ⟨⟨hc.1, hc.2.1, hc.2.2.1, SMap.wf_set hc.2.2.2 w _⟩, FuseLe.set w _ (hor _ _)⟩) k0

theorem execMinPathEnable_kept {M : Mask} {z₀ : State} {s : State} (m_regs : M.regs = true) (m_tick : M.tick = true) (m_mode
    : M.mode = true) (m_route : M.route = true) (m_mov : M.mov = true) (m_port : M.port = true) (m_clk : M.clk = true)
    (m_boot : M.boot = true) (h0 : Kept M z₀ s) : OutOk M z₀ (@execMinPathEnable s) := by
  unfold execMinPathEnable
  exact OutOk.next (State.minCfgW_kept m_regs m_tick m_mode m_route m_mov m_port m_clk m_boot (by assumption))

theorem State.sourceFails_kept {M : Mask} {z₀ : State} {s : State} {keeper : Bool} {reason : Nat} (m_regs : M.regs = true)
    (m_boot : M.boot = true) (h0 : Kept M z₀ s) : Kept M z₀ (@State.sourceFails s keeper reason) := by
  unfold State.sourceFails
  extract_lets x0 x1
  clear_value x0
  have k2 : Kept M z₀ x1 := by
    dsimp -zeta only [x1]
    exact State.audit_kept m_regs m_boot (by assumption)
  clear_value x1
  refine State.modBoot_kept m_boot ?_ ?_ ?_ ?_
  · assumption
  · rfl
  · rfl
  · rfl

theorem State.tryStage1_kept {M : Mask} {z₀ : State} {s : State} (m_regs : M.regs = true) (m_boot : M.boot = true) (h0 : Kept
    M z₀ s) : Kept M z₀ (@State.tryStage1 s) := by
  unfold State.tryStage1
  split
  · refine State.modBoot_kept m_boot ?_ ?_ ?_ ?_
    · assumption
    · rfl
    · rfl
    · rfl
  · exact State.sourceFails_kept m_regs m_boot (by assumption)

theorem State.verifyAgain_kept {M : Mask} {z₀ : State} {s : State} {reason : Nat} (m_regs : M.regs = true) (m_fab : M.fab =
    true) (m_mode : M.mode = true) (m_keep : M.keep = true) (m_boot : M.boot = true) (h0 : Kept M z₀ s) : Kept M z₀
    (@State.verifyAgain s reason) := by
  unfold State.verifyAgain
  refine State.modeDo_kept m_regs m_fab m_keep ?_ ?_
  · assumption
  · intro v0
    intro v1
    exact Kept.lit (s := v0) { mode := .inl m_mode, boot := .inl m_boot } (by assumption)

theorem State.mbxPass_kept {M : Mask} {z₀ : State} {s : State} {k : FixOp} (m_regs : M.regs = true) (m_fab : M.fab = true)
    (m_mode : M.mode = true) (m_keep : M.keep = true) (m_boot : M.boot = true) (m_spim : M.spim = true) (m_flash : M.flash =
    true) (h0 : Kept M z₀ s) : Kept M z₀ (@State.mbxPass s k) := by
  unfold State.mbxPass
  extract_lets x0 x1 x2
  have k1 : Kept M z₀ x1 := by
    dsimp -zeta only [x1]
    split
    · exact h0
    · split
      · have k2 : Kept M z₀ (s.writeBcr (1 - s.activeSlot)) := State.writeBcr_kept m_boot m_flash h0
        revert k2
        generalize s.writeBcr (1 - s.activeSlot) = y
        intro k2
        exact State.modBoot_kept m_boot k2 rfl rfl rfl
      · exact State.spimReq_kept m_regs m_boot m_spim m_flash (State.setBit_kept m_regs h0)
  clear_value x1
  split
  · have k2 : Kept M z₀ x2 := State.verifyAgain_kept m_regs m_fab m_mode m_keep m_boot k1
    clear_value x2
    exact State.tryStage1_kept m_regs m_boot (State.modBoot_kept m_boot k2 rfl rfl rfl)
  · exact k1

theorem State.fixAudit_kept {M : Mask} {z₀ : State} {s : State} {k : FixOp} {source : Nat} (m_regs : M.regs = true) (m_boot :
    M.boot = true) (h0 : Kept M z₀ s) : Kept M z₀ (@State.fixAudit s k source) := by
  unfold State.fixAudit
  refine ite_kept ?_ ?_
  · assumption
  · exact State.audit_kept m_regs m_boot (by assumption)

theorem State.dbgResult_kept {M : Mask} {z₀ : State} {s : State} {k : FixOp} (m_regs : M.regs = true) (m_fab : M.fab = true)
    (m_mode : M.mode = true) (m_keep : M.keep = true) (m_boot : M.boot = true) (h0 : Kept M z₀ s) : Kept M z₀
    (@State.dbgResult s k) := by
  unfold State.dbgResult
  extract_lets x0 x1 x2 x3 x4 x5 x6 x7
  have k8 : Kept M z₀ x0 := by
    dsimp -zeta only [x0]
    exact State.setBit_kept m_regs (State.setBit_kept m_regs (by assumption))
  clear_value x0
  have k9 : Kept M z₀ x1 := by
    dsimp -zeta only [x1]
    refine State.modBoot_kept m_boot ?_ ?_ ?_ ?_
    · assumption
    · rfl
    · rfl
    · rfl
  clear_value x1 x2
  have k10 : Kept M z₀ x3 := by
    dsimp -zeta only [x3]
    exact State.setFld_kept m_regs (State.setFld_kept m_regs (State.setBit_kept m_regs (by assumption)))
  clear_value x3
  have k11 : Kept M z₀ x4 := by
    dsimp -zeta only [x4]
    exact State.extendDay_kept m_regs (by assumption)
  clear_value x4
  have k12 : Kept M z₀ x5 := by
    dsimp -zeta only [x5]
    exact State.audit_kept m_regs m_boot (by assumption)
  clear_value x5 x6
  have k13 : Kept M z₀ x7 := by
    dsimp -zeta only [x7]
    exact State.setFld_kept m_regs (by assumption)
  clear_value x7
  refine ite_kept ?_ ?_
  · refine State.modeDo_kept m_regs m_fab m_keep ?_ ?_
    · assumption
    · intro v14
      intro v15
      exact Kept.upMode m_mode (by assumption)
  · refine ite_kept ?_ ?_
    · assumption
    · refine State.modBoot_kept m_boot ?_ ?_ ?_ ?_
      · assumption
      · rfl
      · rfl
      · rfl

theorem execFixedTimeResult_kept {M : Mask} {z₀ : State} {op : Fin 5} {s : State} (m_regs : M.regs = true) (m_fab : M.fab =
    true) (m_mode : M.mode = true) (m_keep : M.keep = true) (m_boot : M.boot = true) (m_spim : M.spim = true) (m_flash :
    M.flash = true) (h1 : Kept M z₀ s) : OutOk M z₀ (@execFixedTimeResult op s) := by
  unfold execFixedTimeResult
  extract_lets x0
  clear_value x0
  split
  · split
    · refine OutOk.next ?_
      refine State.dbgResult_kept m_regs m_fab m_mode m_keep m_boot ?_
      refine State.modBoot_kept m_boot ?_ ?_ ?_ ?_
      · assumption
      · rfl
      · rfl
      · rfl
    · exact OutOk.next (by assumption)
  · split
    · refine OutOk.next ?_
      refine State.fixAudit_kept m_regs m_boot ?_
      refine State.setBit_kept m_regs ?_
      refine State.setBit_kept m_regs ?_
      refine State.modBoot_kept m_boot ?_ ?_ ?_ ?_
      · assumption
      · rfl
      · rfl
      · rfl
    · exact OutOk.next (by assumption)
  · split
    · refine OutOk.next ?_
      refine State.fixAudit_kept m_regs m_boot ?_
      refine State.setBit_kept m_regs ?_
      refine State.setBit_kept m_regs ?_
      refine State.modBoot_kept m_boot ?_ ?_ ?_ ?_
      · assumption
      · rfl
      · rfl
      · rfl
    · exact OutOk.next (by assumption)
  · split
    · refine OutOk.next ?_
      refine State.fixAudit_kept m_regs m_boot ?_
      refine State.setBit_kept m_regs ?_
      refine State.setBit_kept m_regs ?_
      refine State.modBoot_kept m_boot ?_ ?_ ?_ ?_
      · assumption
      · rfl
      · rfl
      · rfl
    · exact OutOk.next (by assumption)
  · split
    · extract_lets x1 x2
      have k3 : Kept M z₀ x1 := by
        dsimp -zeta only [x1]
        refine State.setBit_kept m_regs ?_
        refine State.setBit_kept m_regs ?_
        refine State.modBoot_kept m_boot ?_ ?_ ?_ ?_
        · assumption
        · rfl
        · rfl
        · rfl
      clear_value x1
      have k4 : Kept M z₀ x2 := by
        dsimp -zeta only [x2]
        exact State.fixAudit_kept m_regs m_boot (by assumption)
      clear_value x2
      refine OutOk.next ?_
      refine ite_kept ?_ ?_
      · exact State.mbxPass_kept m_regs m_fab m_mode m_keep m_boot m_spim m_flash (by assumption)
      · assumption
    · exact OutOk.next (by assumption)

theorem execChallengeExpiry_kept {M : Mask} {z₀ : State} {s : State} (m_boot : M.boot = true) (h0 : Kept M z₀ s) : OutOk M z₀
    (@execChallengeExpiry s) := by
  unfold execChallengeExpiry
  refine OutOk.next ?_
  refine ite_kept ?_ ?_
  · refine State.modBoot_kept m_boot ?_ ?_ ?_ ?_
    · assumption
    · rfl
    · rfl
    · rfl
  · assumption

theorem execDbgClose_kept {M : Mask} {z₀ : State} {s : State} (m_regs : M.regs = true) (m_fab : M.fab = true) (m_mode :
    M.mode = true) (m_keep : M.keep = true) (h0 : Kept M z₀ s) : OutOk M z₀ (@execDbgClose s) := by
  unfold execDbgClose
  exact OutOk.next (State.dbgClose_kept m_regs m_fab m_mode m_keep (by assumption))

theorem execDbgGo_kept {M : Mask} {z₀ : State} {jtag : Bool} {s : State} (m_regs : M.regs = true) (m_boot : M.boot = true)
    (h1 : Kept M z₀ s) : OutOk M z₀ (@execDbgGo jtag s) := by
  unfold execDbgGo
  exact OutOk.next (State.dbgGo_kept m_regs m_boot (by assumption))

theorem execNewChal_kept {M : Mask} {z₀ : State} {level : Fin 4} {key : Fin 4} {s : State} (m_regs : M.regs = true) (m_boot :
    M.boot = true) (h2 : Kept M z₀ s) : OutOk M z₀ (@execNewChal level key s) := by
  unfold execNewChal
  exact OutOk.next (State.newChal_kept m_regs m_boot (by assumption))

theorem execOtpPgm_kept {M : Mask} {z₀ : State} {w : Fin 128} {s : State} (m_regs : M.regs = true) (m_boot : M.boot = true)
    (m_fuse : M.fuse = true) (h1 : Kept M z₀ s) : OutOk M z₀ (@execOtpPgm w s) := by
  unfold execOtpPgm
  exact OutOk.next (State.otpGo_kept m_regs m_boot m_fuse (by assumption))

theorem execFailClr_kept {M : Mask} {z₀ : State} {s : State} (m_boot : M.boot = true) (h0 : Kept M z₀ s) : OutOk M z₀
    (@execFailClr s) := by
  unfold execFailClr
  refine OutOk.next ?_
  refine State.modBoot_kept m_boot ?_ ?_ ?_ ?_
  · assumption
  · rfl
  · rfl
  · rfl

theorem State.mbxRead_kept {M : Mask} {z₀ : State} {s : State} {b : Option (List Sys2Proof.Byte)} (m_boot : M.boot = true)
    (h0 : Kept M z₀ s) : Kept M z₀ (@State.mbxRead s b) := by
  unfold State.mbxRead
  split
  · assumption
  · extract_lets x0 x1
    clear_value x0 x1
    refine State.modBoot_kept m_boot ?_ ?_ ?_ ?_
    · assumption
    · rfl
    · rfl
    · rfl

theorem execMbxWrite_kept {M : Mask} {z₀ : State} {data : List (BitVec 8)} {ok : Bool} {s : State} (m_boot : M.boot = true)
    (h2 : Kept M z₀ s) : OutOk M z₀ (@execMbxWrite data ok s) := by
  unfold execMbxWrite
  refine OutOk.next ?_
  refine ite_kept ?_ ?_
  · exact State.mbxRead_kept m_boot (by assumption)
  · assumption

theorem execMbxBoot_kept {M : Mask} {z₀ : State} {data : List (BitVec 8)} {ok : Bool} {s : State} (m_boot : M.boot = true)
    (h2 : Kept M z₀ s) : OutOk M z₀ (@execMbxBoot data ok s) := by
  unfold execMbxBoot
  refine OutOk.next ?_
  refine ite_kept ?_ ?_
  · exact State.mbxRead_kept m_boot (by assumption)
  · assumption

theorem execArbFuse_kept {M : Mask} {z₀ : State} {s : State} (m_regs : M.regs = true) (m_boot : M.boot = true) (m_flash :
    M.flash = true) (m_fuse : M.fuse = true) (h0 : Kept M z₀ s) : OutOk M z₀ (@execArbFuse s) := by
  unfold execArbFuse
  exact OutOk.next (State.arbGo_kept m_regs m_boot m_flash m_fuse (by assumption))

theorem execArbRecord_kept {M : Mask} {z₀ : State} {s : State} (m_regs : M.regs = true) (m_boot : M.boot = true) (m_flash :
    M.flash = true) (m_fuse : M.fuse = true) (h0 : Kept M z₀ s) : OutOk M z₀ (@execArbRecord s) := by
  unfold execArbRecord
  exact OutOk.next (State.arbGo_kept m_regs m_boot m_flash m_fuse (by assumption))

theorem execUpd_kept {M : Mask} {z₀ : State} {slot : Fin 2} {s : State} (m_regs : M.regs = true) (m_boot : M.boot = true)
    (m_flash : M.flash = true) (h1 : Kept M z₀ s) : OutOk M z₀ (@execUpd slot s) := by
  unfold execUpd
  exact OutOk.next (State.updGo_kept m_regs m_boot m_flash (by assumption))

theorem execCascadeUpTimeout_kept {M : Mask} {z₀ : State} {s : State} (m_regs : M.regs = true) (m_boot : M.boot = true) (h0 :
    Kept M z₀ s) : OutOk M z₀ (@execCascadeUpTimeout s) := by
  unfold execCascadeUpTimeout
  refine OutOk.next ?_
  refine ite_kept ?_ ?_
  · exact State.sourceFails_kept m_regs m_boot (by assumption)
  · assumption

theorem execAwaitImageTimeout_kept {M : Mask} {z₀ : State} {s : State} (m_regs : M.regs = true) (m_fab : M.fab = true)
    (m_mode : M.mode = true) (m_keep : M.keep = true) (m_boot : M.boot = true) (h0 : Kept M z₀ s) : OutOk M z₀
    (@execAwaitImageTimeout s) := by
  unfold execAwaitImageTimeout
  refine OutOk.next ?_
  refine ite_kept ?_ ?_
  · exact State.verifyAgain_kept m_regs m_fab m_mode m_keep m_boot (by assumption)
  · assumption

theorem execBootWatchdog_kept {M : Mask} {z₀ : State} {straps : BitVec 6} {s : State} (m_regs : M.regs = true) (m_latches :
    M.latches = true) (m_rdata : M.rdata = true) (m_eng : M.eng = true) (m_chainNow : M.chainNow = true) (m_chainId :
    M.chainId = true) (m_chainFrz : M.chainFrz = true) (m_chainTorn : M.chainTorn = true) (m_chainIn : M.chainIn = true)
    (m_fab : M.fab = true) (m_tick : M.tick = true) (m_par : M.par = true) (m_cal : M.cal = true) (m_res : M.res = true)
    (m_ctx : M.ctx = true) (m_mode : M.mode = true) (m_route : M.route = true) (m_mov : M.mov = true) (m_port : M.port =
    true) (m_pcie : M.pcie = true) (m_clk : M.clk = true) (m_keep : M.keep = true) (m_pwr : M.pwr = true) (m_ngx : M.ngx =
    true) (m_boot : M.boot = true) (m_spim : M.spim = true) (m_spis : M.spis = true) (m_test : M.test = true) (m_tap : M.tap
    = true) (m_gpio : M.gpio = true) (m_calMem : M.calMem = true) (m_tcm : M.tcm = true) (h1 : Kept M z₀ s) : OutOk M z₀
    (@execBootWatchdog straps s) := by
  unfold execBootWatchdog
  refine OutOk.next ?_
  split
  · refine ite_kept ?_ ?_
    · exact State.bootReset_kept m_regs m_latches m_rdata m_eng m_chainNow m_chainId m_chainFrz m_chainTorn m_chainIn m_fab
        m_tick m_par m_cal m_res m_ctx m_mode m_route m_mov m_port m_pcie m_clk m_keep m_pwr m_ngx m_boot m_spim m_spis
        m_test m_tap m_gpio m_calMem m_tcm (by assumption)
    · assumption
  · assumption

theorem State.writeBands_kept {M : Mask} {z₀ : State} {s : State} (m_regs : M.regs = true) (h0 : Kept M z₀ s) : Kept M z₀
    (@State.writeBands s) := by
  unfold State.writeBands
  refine ite_kept ?_ ?_
  · assumption
  · refine forN_kept ?_ ?_
    · assumption
    · intro v0
      intro v1
      intro v2
      exact State.setReg_kept m_regs (by assumption)

theorem execKeeperInitDone_kept {M : Mask} {z₀ : State} {s : State} (m_regs : M.regs = true) (m_fab : M.fab = true) (m_cal :
    M.cal = true) (m_mode : M.mode = true) (m_keep : M.keep = true) (m_boot : M.boot = true) (m_flash : M.flash = true) (h0 :
    Kept M z₀ s) : OutOk M z₀ (@execKeeperInitDone s) := by
  unfold execKeeperInitDone
  refine OutOk.next ?_
  refine ite_kept ?_ ?_
  · assumption
  · extract_lets x0 x1 x2 x3 x4
    clear_value x0
    have k5 : Kept M z₀ x1 := by
      dsimp -zeta only [x1]
      exact State.applyRepairs_kept m_regs m_cal (State.writeBands_kept m_regs (by assumption))
    clear_value x1
    have k6 : Kept M z₀ x2 := by
      dsimp -zeta only [x2]
      refine ite_kept ?_ ?_
      · exact State.writeBcr_kept m_boot m_flash (by assumption)
      · assumption
    clear_value x2
    have k7 : Kept M z₀ x3 := by
      dsimp -zeta only [x3]
      refine State.modBoot_kept m_boot ?_ ?_ ?_ ?_
      · assumption
      · rfl
      · rfl
      · rfl
    clear_value x3
    have k8 : Kept M z₀ x4 := by
      dsimp -zeta only [x4]
      exact State.modKeep_kept m_keep (by assumption)
    clear_value x4
    refine State.modeDo_kept m_regs m_fab m_keep ?_ ?_
    · assumption
    · intro v9
      intro v10
      exact Kept.upMode m_mode (by assumption)

theorem execKeeperImageStart_kept {M : Mask} {z₀ : State} {s : State} (m_regs : M.regs = true) (m_fab : M.fab = true) (m_cal
    : M.cal = true) (m_ctx : M.ctx = true) (m_pcie : M.pcie = true) (m_ngx : M.ngx = true) (m_boot : M.boot = true) (m_calMem
    : M.calMem = true) (m_tcm : M.tcm = true) (h0 : Kept M z₀ s) : OutOk M z₀ (@execKeeperImageStart s) := by
  unfold execKeeperImageStart
  refine OutOk.next ?_
  refine ite_kept ?_ ?_
  · assumption
  · extract_lets x0 x1 x2 x3 x4
    clear_value x0
    have k5 : Kept M z₀ x1 := by
      dsimp -zeta only [x1]
      refine ite_kept ?_ ?_
      · exact State.extendDay_kept m_regs (by assumption)
      · assumption
    clear_value x1 x2
    have k6 : Kept M z₀ x3 := by
      dsimp -zeta only [x3]
      exact State.extendDay_kept m_regs (State.setBytes48_kept m_regs (State.calStore_kept m_regs m_fab m_cal m_ctx m_pcie
          m_ngx m_calMem (by assumption)))
    clear_value x3
    have k7 : Kept M z₀ x4 := by
      dsimp -zeta only [x4]
      exact State.tcmLoad_kept m_boot m_tcm (State.setFld_kept m_regs (by assumption))
    clear_value x4
    split
    · refine State.modBoot_kept m_boot ?_ ?_ ?_ ?_
      · assumption
      · rfl
      · rfl
      · rfl
    · exact State.sourceFails_kept m_regs m_boot (by assumption)

theorem execStage1Start_kept {M : Mask} {z₀ : State} {s : State} (m_regs : M.regs = true) (m_boot : M.boot = true) (m_tcm :
    M.tcm = true) (h0 : Kept M z₀ s) : OutOk M z₀ (@execStage1Start s) := by
  unfold execStage1Start
  refine OutOk.next ?_
  refine ite_kept ?_ ?_
  · assumption
  · extract_lets x0 x1
    clear_value x0
    have k2 : Kept M z₀ x1 := by
      dsimp -zeta only [x1]
      exact State.tcmLoad_kept m_boot m_tcm (State.extendDay_kept m_regs (by assumption))
    clear_value x1
    refine State.modBoot_kept m_boot ?_ ?_ ?_ ?_
    · assumption
    · rfl
    · rfl
    · rfl

theorem State.bootAsk_kept {M : Mask} {z₀ : State} {s : State} (m_ngx : M.ngx = true) (m_boot : M.boot = true) (h0 : Kept M
    z₀ s) : Kept M z₀ (@State.bootAsk s) := by
  unfold State.bootAsk
  refine ite_kept ?_ ?_
  · assumption
  · refine forN_kept ?_ ?_
    · assumption
    · intro v0
      intro v1
      intro v2
      extract_lets x3 x4 x5 x6
      clear_value x3 x4 x5 x6
      refine ite_kept ?_ ?_
      · assumption
      · refine State.modBoot_kept m_boot ?_ ?_ ?_ ?_
        · exact State.ngxSend_kept m_ngx (by assumption)
        · rfl
        · rfl
        · rfl

theorem execBootSourceTry_kept {M : Mask} {z₀ : State} {quad : Bool} {s : State} (m_regs : M.regs = true) (m_fab : M.fab =
    true) (m_tick : M.tick = true) (m_mode : M.mode = true) (m_keep : M.keep = true) (m_ngx : M.ngx = true) (m_boot : M.boot
    = true) (h1 : Kept M z₀ s) : OutOk M z₀ (@execBootSourceTry quad s) := by
  unfold execBootSourceTry
  refine OutOk.next ?_
  refine ite_kept ?_ ?_
  · assumption
  · refine ite_kept ?_ ?_
    · exact State.enterMinimal_kept m_regs m_fab m_tick m_mode m_keep m_boot (by assumption)
    · split
      · exact State.enterAwait_kept m_regs m_fab m_mode m_keep m_boot (by assumption)
      · extract_lets x0 x1 x2
        have k3 : Kept M z₀ x0 := by
          dsimp -zeta only [x0]
          refine State.modBoot_kept m_boot ?_ ?_ ?_ ?_
          · assumption
          · rfl
          · rfl
          · rfl
        clear_value x0
        have k4 : Kept M z₀ x1 := by
          dsimp -zeta only [x1]
          refine State.modBoot_kept m_boot ?_ ?_ ?_ ?_
          · assumption
          · rfl
          · rfl
          · rfl
        clear_value x1
        have k5 : Kept M z₀ x2 := by
          dsimp -zeta only [x2]
          exact State.setBit_kept m_regs (State.setFld_kept m_regs (by assumption))
        clear_value x2
        refine ite_kept ?_ ?_
        · exact State.enterAwait_kept m_regs m_fab m_mode m_keep m_boot (by assumption)
        · refine ite_kept ?_ ?_
          · exact State.bootAsk_kept m_ngx m_boot (State.setReg_kept m_regs (by assumption))
          · exact State.tryStage1_kept m_regs m_boot (State.setFld_kept m_regs (by assumption))

theorem execBootRomStart_kept {M : Mask} {z₀ : State} {freq : Fin 4} {odd : List Sys2Proof.FuseRead} {s : State} (m_regs :
    M.regs = true) (m_fab : M.fab = true) (m_tick : M.tick = true) (m_mode : M.mode = true) (m_clk : M.clk = true) (m_keep :
    M.keep = true) (m_boot : M.boot = true) (h2 : Kept M z₀ s) : OutOk M z₀ (@execBootRomStart freq odd s) := by
  unfold execBootRomStart
  refine OutOk.next ?_
  refine ite_kept ?_ ?_
  · assumption
  · extract_lets x0 x1 x2 x3 x4 x5 x6 x7
    have k8 : Kept M z₀ x0 := by
      dsimp -zeta only [x0]
      exact State.acquire_kept m_regs m_clk (State.setBit_kept m_regs (State.setFld_kept m_regs (by assumption)))
    clear_value x0
    have k9 : Kept M z₀ x1 := by
      dsimp -zeta only [x1]
      exact State.readFuses_kept m_regs m_boot (by assumption)
    clear_value x1 x2 x3
    have k10 : Kept M z₀ x4 := by
      dsimp -zeta only [x4]
      exact State.setBit_kept m_regs (State.setFld_kept m_regs (by assumption))
    clear_value x4
    have k11 : Kept M z₀ x5 := by
      dsimp -zeta only [x5]
      exact State.extendDay_kept m_regs (by assumption)
    clear_value x5 x6
    have k12 : Kept M z₀ x7 := by
      dsimp -zeta only [x7]
      exact Kept.upMode m_mode (by assumption)
    clear_value x7
    refine ite_kept ?_ ?_
    · exact State.enterMinimal_kept m_regs m_fab m_tick m_mode m_keep m_boot (by assumption)
    · refine State.modBoot_kept m_boot ?_ ?_ ?_ ?_
      · assumption
      · rfl
      · rfl
      · rfl

end Sys2Proof.Machine
end

