-- ==== Sys2Proof/Laws/KeptXlate.lean ====
section
/-! SUPPORT. What the operations and meanings of Machine/Xlate.lean keep (Laws/Kept.lean). -/

namespace Sys2Proof.Machine

theorem State.setRoot_kept {M : Mask} {z₀ : State} {s : State} {c : Nat} {r : Option Nat} (m_cal : M.cal = true) (h0 : Kept M
    z₀ s) : Kept M z₀ (@State.setRoot s c r) := by
  unfold State.setRoot
  exact Kept.upCal m_cal ⟨rfl, rfl, rfl, rfl⟩ (by assumption)

theorem State.tlbDrop_kept {M : Mask} {z₀ : State} {s : State} {c : Nat} {p : Nat → Bool} (m_cal : M.cal = true) (h0 : Kept M
    z₀ s) : Kept M z₀ (@State.tlbDrop s c p) := by
  unfold State.tlbDrop
  exact Kept.upCal m_cal ⟨rfl, rfl, rfl, rfl⟩ (by assumption)

theorem State.setTlb_kept {M : Mask} {z₀ : State} {s : State} {i : Nat} {l : List Tlb} (m_cal : M.cal = true) (h0 : Kept M z₀
    s) : Kept M z₀ (@State.setTlb s i l) := by
  unfold State.setTlb
  exact Kept.upCal m_cal ⟨rfl, rfl, rfl, rfl⟩ (by assumption)

theorem State.tlbUse_kept {M : Mask} {z₀ : State} {s : State} {page : Nat} {t : Tlb} (m_cal : M.cal = true) (h0 : Kept M z₀
    s) : Kept M z₀ (@State.tlbUse s page t) := by
  unfold State.tlbUse
  extract_lets x0
  clear_value x0
  exact State.setTlb_kept m_cal (by assumption)

theorem State.startWalk_kept {M : Mask} {z₀ : State} {s : State} {c : Nat} {v : Nat} {cls : Nat} (m_regs : M.regs = true)
    (m_mov : M.mov = true) (h0 : Kept M z₀ s) : Kept M z₀ (@State.startWalk s c v cls) := by
  unfold State.startWalk
  refine ite_kept ?_ ?_
  · assumption
  · exact State.bump_kept m_regs (Kept.upMov m_mov (by assumption))

theorem State.xltFault_kept {M : Mask} {z₀ : State} {s : State} {c : Nat} {v : Nat} {cause : Nat} {level : Nat} (m_regs :
    M.regs = true) (h0 : Kept M z₀ s) : Kept M z₀ (@State.xltFault s c v cause level) := by
  unfold State.xltFault
  exact State.bump_kept m_regs (State.setReg64_kept m_regs (State.setReg_kept m_regs (by assumption)))

theorem State.translate_kept {M : Mask} {z₀ : State} {s : State} {c : Nat} {v : Nat} {wr : Bool} {cls : Nat} (m_regs : M.regs
    = true) (m_cal : M.cal = true) (m_mov : M.mov = true) (h0 : Kept M z₀ s) : Kept M z₀ (@State.translate s c v wr cls).2 :=
    by
  unfold State.translate
  split
  · assumption
  · split
    · dsimp -zeta only
      exact State.xltFault_kept m_regs (by assumption)
    · split
      · dsimp -zeta only
        exact State.startWalk_kept m_regs m_mov (by assumption)
      · extract_lets x0
        have k1 : Kept M z₀ x0 := by
          dsimp -zeta only [x0]
          exact State.tlbUse_kept m_cal (by assumption)
        clear_value x0
        split
        · split
          · assumption
          · dsimp -zeta only
            exact State.xltFault_kept m_regs (by assumption)
        · split
          · assumption
          · dsimp -zeta only
            exact State.xltFault_kept m_regs (by assumption)

theorem State.translateRange_kept {M : Mask} {z₀ : State} {s : State} {c : Nat} {v : Nat} {n : Nat} {wr : Bool} {cls : Nat}
    (m_regs : M.regs = true) (m_cal : M.cal = true) (m_mov : M.mov = true) (h0 : Kept M z₀ s) : Kept M z₀
    (@State.translateRange s c v n wr cls).2 := by
  unfold State.translateRange
  refine foldl_kept2 ?_ ?_
  · assumption
  · intro v0
    intro v1
    intro v2
    split
    · assumption
    · extract_lets x3
      have k4 : Kept M z₀ x3.2 := by
        dsimp -zeta only [x3]
        exact State.translate_kept m_regs m_cal m_mov (by assumption)
      clear_value x3
      split
      · assumption
      · assumption
      · assumption
      · assumption

theorem State.walkEnds_kept {M : Mask} {z₀ : State} {s : State} {c : Nat} {v : Nat} {e1 : BitVec 64} {e2 : BitVec 64} {e3 :
    BitVec 64} {err : Nat} (m_regs : M.regs = true) (m_cal : M.cal = true) (m_mov : M.mov = true) (h0 : Kept M z₀ s) : Kept M
    z₀ (@State.walkEnds s c v e1 e2 e3 err).2 := by
  have aux : ∀ t : State, Kept M z₀ t → Kept M z₀ (if t.root c = none then (true, t.xltFault c v 1 0)
      else match walkOutcome e1 e2 e3 err with
        | .inl f => (true, t.xltFault c v f.1 f.2)
        | .inr e => (false, t.tlbUse (v / 65536) (tlbOf c (v / 65536) e))).2 := by
    intro t ht
    by_cases hr : t.root c = none
    · rw [if_pos hr]
      dsimp only
      exact State.xltFault_kept m_regs ht
    · rw [if_neg hr]
      split <;> dsimp only
      · exact State.xltFault_kept m_regs ht
      · exact State.tlbUse_kept m_cal ht
  unfold State.walkEnds
  exact aux _ (Kept.upMov m_mov h0)

end Sys2Proof.Machine
end

