-- ==== Sys2Proof/Laws/KeptMovers.lean ====
section
/-! SUPPORT. What the operations and meanings of Machine/Movers.lean keep (Laws/Kept.lean). -/

namespace Sys2Proof.Machine

theorem State.writePieces_kept {M : Mask} {z₀ : State} {s : State} {cls : Nat} {m : Nat} {c : Nat} {l : List (Nat × Nat × Nat
    × Bool)} {d : List Sys2Proof.Byte} {ep : Bool} (m_fab : M.fab = true) (m_ngx : M.ngx = true) (h0 : Kept M z₀ s) : Kept M
    z₀ (@State.writePieces s cls m c l d ep) := by
  unfold State.writePieces
  refine foldl_kept ?_ ?_
  · assumption
  · intro v0
    intro v1
    intro v2
    exact State.ctxWrite_kept m_fab m_ngx (by assumption)

theorem State.copyEnds_kept {M : Mask} {z₀ : State} {s : State} {c : Nat} {q : Nat} {code : Nat} (m_fab : M.fab = true)
    (m_ctx : M.ctx = true) (m_mov : M.mov = true) (m_pcie : M.pcie = true) (h0 : Kept M z₀ s) : Kept M z₀ (@State.copyEnds s
    c q code) := by
  unfold State.copyEnds
  extract_lets x0 x1 x2
  clear_value x0
  have k3 : Kept M z₀ x1 := by
    dsimp -zeta only [x1]
    refine foldl_kept ?_ ?_
    · assumption
    · intro v4
      intro v5
      intro v6
      exact State.readsOver_kept m_fab m_pcie (State.setMover_kept m_mov (by assumption))
  clear_value x1 x2
  exact State.setResult_kept m_ctx (Kept.upMov m_mov (by assumption))

theorem State.modCopy_kept {M : Mask} {z₀ : State} {s : State} {c : Nat} {q : Nat} {f : Copy → Copy} (m_mov : M.mov = true)
    (h0 : Kept M z₀ s) : Kept M z₀ (@State.modCopy s c q f) := by
  unfold State.modCopy
  exact Kept.upMov m_mov (by assumption)

theorem State.copyAdvance_kept {M : Mask} {z₀ : State} {s : State} {c : Nat} {q : Nat} {bs : List Sys2Proof.Byte} (m_fab :
    M.fab = true) (m_ctx : M.ctx = true) (m_mov : M.mov = true) (m_pcie : M.pcie = true) (h0 : Kept M z₀ s) : Kept M z₀
    (@State.copyAdvance s c q bs) := by
  unfold State.copyAdvance
  split
  · assumption
  · extract_lets x0 x1 x2
    clear_value x0 x1
    have k3 : Kept M z₀ x2 := by
      dsimp -zeta only [x2]
      exact State.modCopy_kept m_mov (by assumption)
    clear_value x2
    refine ite_kept ?_ ?_
    · assumption
    · exact State.copyEnds_kept m_fab m_ctx m_mov m_pcie (by assumption)

theorem execCopyPieceCompletion_kept {M : Mask} {z₀ : State} {m : Fin 64} {data : List (BitVec 8)} {fail : Fin 3} {s : State}
    (m_regs : M.regs = true) (m_fab : M.fab = true) (m_cal : M.cal = true) (m_ctx : M.ctx = true) (m_mov : M.mov = true)
    (m_pcie : M.pcie = true) (m_ngx : M.ngx = true) (m_calMem : M.calMem = true) (h3 : Kept M z₀ s) : OutOk M z₀
    (@execCopyPieceCompletion m data fail s) := by
  unfold execCopyPieceCompletion
  split
  · split
    · exact OutOk.next (State.readsOver_kept m_fab m_pcie (State.setMover_kept m_mov (by assumption)))
    · refine ite_ok ?_ ?_
      · exact OutOk.next (by assumption)
      · extract_lets x0 x1
        have k2 : Kept M z₀ x0 := by
          dsimp -zeta only [x0]
          exact State.readsOver_kept m_fab m_pcie (State.setMover_kept m_mov (by assumption))
        clear_value x0
        have k3 : Kept M z₀ x1.2 := by
          dsimp -zeta only [x1]
          exact State.translateRange_kept m_regs m_cal m_mov (by assumption)
        clear_value x1
        refine ite_ok ?_ ?_
        · exact OutOk.next (State.copyEnds_kept m_fab m_ctx m_mov m_pcie (by assumption))
        · refine ite_ok ?_ ?_
          · exact OutOk.next (State.copyAdvance_kept m_fab m_ctx m_mov m_pcie (by assumption))
          · refine ite_ok ?_ ?_
            · exact OutOk.next (State.copyAdvance_kept m_fab m_ctx m_mov m_pcie (State.busRange_kept m_fab
                (State.calStore_kept m_regs m_fab m_cal m_ctx m_pcie m_ngx m_calMem (by assumption))))
            · split
              · exact OutOk.next (State.copyAdvance_kept m_fab m_ctx m_mov m_pcie (State.writePieces_kept m_fab m_ngx (by
                  assumption)))
              · exact OutOk.next (State.copyEnds_kept m_fab m_ctx m_mov m_pcie (by assumption))
  · exact OutOk.next (by assumption)

theorem State.copyStart_kept {M : Mask} {z₀ : State} {s : State} {c : Nat} {q : Nat} {k : Copy} {ok : Bool} (m_ctx : M.ctx =
    true) (m_mov : M.mov = true) (h0 : Kept M z₀ s) : Kept M z₀ (@State.copyStart s c q k ok) := by
  unfold State.copyStart
  refine ite_kept ?_ ?_
  · exact State.finish_kept m_ctx (by assumption)
  · refine ite_kept ?_ ?_
    · exact State.finish_kept m_ctx (by assumption)
    · exact State.begin_kept m_ctx (Kept.upMov m_mov (by assumption))

theorem State.unparkQuarter_kept {M : Mask} {z₀ : State} {s : State} {quarter : Nat} (m_regs : M.regs = true) (m_fab : M.fab
    = true) (m_ctx : M.ctx = true) (m_mov : M.mov = true) (m_pcie : M.pcie = true) (m_ngx : M.ngx = true) (h0 : Kept M z₀ s)
    : Kept M z₀ (@State.unparkQuarter s quarter) := by
  unfold State.unparkQuarter
  extract_lets x0 x1
  have k2 : Kept M z₀ x0 := by
    dsimp -zeta only [x0]
    refine foldl_kept ?_ ?_
    · assumption
    · intro v3
      intro v4
      intro v5
      split
      · refine ite_kept ?_ ?_
        · exact State.unparkStream_kept m_regs m_fab m_ctx m_mov m_pcie m_ngx (by assumption)
        · assumption
      · assumption
  clear_value x0 x1
  exact Kept.upMov m_mov (by assumption)

theorem State.loseQuarter_kept {M : Mask} {z₀ : State} {s : State} {quarter : Nat} (m_regs : M.regs = true) (m_fab : M.fab =
    true) (m_ctx : M.ctx = true) (m_mov : M.mov = true) (m_pcie : M.pcie = true) (m_ngx : M.ngx = true) (h0 : Kept M z₀ s) :
    Kept M z₀ (@State.loseQuarter s quarter) := by
  unfold State.loseQuarter
  extract_lets x0
  have k1 : Kept M z₀ x0 := by
    dsimp -zeta only [x0]
    refine foldl_kept ?_ ?_
    · assumption
    · intro v2
      intro v3
      intro v4
      split
      · refine ite_kept ?_ ?_
        · exact State.loseStream_kept m_regs m_fab m_ctx m_mov m_pcie m_ngx (by assumption)
        · assumption
      · assumption
  clear_value x0
  refine foldl_kept ?_ ?_
  · assumption
  · intro v5
    intro v6
    intro v7
    exact State.copyEnds_kept m_fab m_ctx m_mov m_pcie (by assumption)

theorem State.dmaReset_kept {M : Mask} {z₀ : State} {s : State} (m_fab : M.fab = true) (m_par : M.par = true) (m_cal : M.cal
    = true) (m_mov : M.mov = true) (m_pcie : M.pcie = true) (h0 : Kept M z₀ s) : Kept M z₀ (@State.dmaReset s) := by
  unfold State.dmaReset
  extract_lets x0 x1 x2 x3 x4
  clear_value x0
  have k5 : Kept M z₀ x1 := by
    dsimp -zeta only [x1]
    refine forN_kept ?_ ?_
    · assumption
    · intro v6
      intro v7
      intro v8
      exact State.readsOver_kept m_fab m_pcie (by assumption)
  clear_value x1
  subst x2
  clear_value x3
  have k9 : Kept M z₀ x4 := by
    dsimp -zeta only [x4]
    exact Kept.lit (s := x1) { cal := .inl m_cal, mov := .inl m_mov } (by assumption)
  clear_value x4
  refine foldl_kept ?_ ?_
  · assumption
  · intro v10
    intro v11
    intro v12
    split
    · exact State.setResync_kept m_par (by assumption)
    · assumption

theorem execBurstCompletion_kept {M : Mask} {z₀ : State} {m : Fin 64} {data : List (BitVec 8)} {fail : Fin 3} {s : State}
    (m_regs : M.regs = true) (m_fab : M.fab = true) (m_cal : M.cal = true) (m_ctx : M.ctx = true) (m_mov : M.mov = true)
    (m_pcie : M.pcie = true) (m_ngx : M.ngx = true) (m_calMem : M.calMem = true) (h3 : Kept M z₀ s) : OutOk M z₀
    (@execBurstCompletion m data fail s) := by
  unfold execBurstCompletion
  split
  · split
    · exact OutOk.next (State.readsOver_kept m_fab m_pcie (State.setMover_kept m_mov (by assumption)))
    · refine ite_ok ?_ ?_
      · exact OutOk.next (by assumption)
      · extract_lets x0 x1
        have k2 : Kept M z₀ x0 := by
          dsimp -zeta only [x0]
          exact State.readsOver_kept m_fab m_pcie (State.setMover_kept m_mov (by assumption))
        clear_value x0 x1
        refine OutOk.next ?_
        refine ite_kept ?_ ?_
        · exact State.entryFails_kept m_regs m_fab m_ctx m_mov m_pcie m_ngx (by assumption)
        · exact State.playArrives_kept m_regs m_fab m_cal m_ctx m_mov m_pcie m_ngx m_calMem (State.busFrames_kept m_fab (by
            assumption))
  · exact OutOk.next (by assumption)

theorem execChunkCompletion_kept {M : Mask} {z₀ : State} {m : Fin 64} {data : List (BitVec 8)} {fail : Fin 3} {s : State}
    (m_regs : M.regs = true) (m_fab : M.fab = true) (m_cal : M.cal = true) (m_ctx : M.ctx = true) (m_mov : M.mov = true)
    (m_pcie : M.pcie = true) (m_keep : M.keep = true) (m_ngx : M.ngx = true) (m_calMem : M.calMem = true) (h3 : Kept M z₀ s)
    : OutOk M z₀ (@execChunkCompletion m data fail s) := by
  unfold execChunkCompletion
  split
  · extract_lets x0 x1
    clear_value x0
    have k2 : Kept M z₀ x1 := by
      dsimp -zeta only [x1]
      exact State.readsOver_kept m_fab m_pcie (State.setMover_kept m_mov (by assumption))
    clear_value x1
    refine ite_ok ?_ ?_
    · exact OutOk.next (by assumption)
    · refine ite_ok ?_ ?_
      · exact OutOk.next (by assumption)
      · refine OutOk.next ?_
        refine ite_kept ?_ ?_
        · exact State.failChunk_kept m_regs m_fab m_cal m_ctx m_pcie m_keep m_ngx (by assumption)
        · exact State.chunkArrives_kept m_regs m_fab m_cal m_ctx m_pcie m_ngx m_calMem (by assumption)
  · exact OutOk.next (by assumption)

theorem execDmaReset_kept {M : Mask} {z₀ : State} {s : State} (m_fab : M.fab = true) (m_par : M.par = true) (m_cal : M.cal =
    true) (m_mov : M.mov = true) (m_pcie : M.pcie = true) (m_keep : M.keep = true) (h0 : Kept M z₀ s) : OutOk M z₀
    (@execDmaReset s) := by
  unfold execDmaReset
  exact OutOk.next (State.histBegin_kept m_keep (State.dmaReset_kept m_fab m_par m_cal m_mov m_pcie (by assumption)))

theorem execBucketRefill_kept {M : Mask} {z₀ : State} {s : State} (m_mov : M.mov = true) (h0 : Kept M z₀ s) : OutOk M z₀
    (@execBucketRefill s) := by
  unfold execBucketRefill
  exact OutOk.next (Kept.upMov m_mov (by assumption))

theorem State.translateAll_kept {M : Mask} {z₀ : State} {s : State} {c : Nat} {rs : List (Nat × Nat)} {wr : Bool} {cls : Nat}
    (m_regs : M.regs = true) (m_cal : M.cal = true) (m_mov : M.mov = true) (h0 : Kept M z₀ s) : Kept M z₀
    (@State.translateAll s c rs wr cls).2 := by
  unfold State.translateAll
  extract_lets x0
  have k1 : Kept M z₀ x0.2.2 := by
    dsimp -zeta only [x0]
    refine foldl_kept3 ?_ ?_
    · assumption
    · intro v2
      intro v3
      intro v4
      extract_lets x5 x6
      have k7 : Kept M z₀ x5.2 := by
        dsimp -zeta only [x5]
        exact State.translateRange_kept m_regs m_cal m_mov (by assumption)
      clear_value x5 x6
      assumption
  clear_value x0
  assumption

theorem State.readPieces_kept {M : Mask} {z₀ : State} {s : State} {cls : Nat} {m : Nat} {c : Nat} {l : List (Nat × Nat × Nat
    × Bool)} (m_fab : M.fab = true) (m_pcie : M.pcie = true) (m_ngx : M.ngx = true) (h0 : Kept M z₀ s) : Kept M z₀
    (@State.readPieces s cls m c l) := by
  unfold State.readPieces
  refine foldl_kept ?_ ?_
  · assumption
  · intro v0
    intro v1
    intro v2
    exact State.ctxRead_kept m_fab m_pcie m_ngx (by assumption)

theorem State.issueJob_kept {M : Mask} {z₀ : State} {s : State} {m : Nat} {j : Job} (m_regs : M.regs = true) (m_fab : M.fab =
    true) (m_cal : M.cal = true) (m_ctx : M.ctx = true) (m_mov : M.mov = true) (m_pcie : M.pcie = true) (m_keep : M.keep =
    true) (m_ngx : M.ngx = true) (m_calMem : M.calMem = true) (h0 : Kept M z₀ s) : Kept M z₀ (@State.issueJob s m j) := by
  unfold State.issueJob
  split
  · assumption
  · extract_lets x0 x1 x2 x3 x4 x5 x6 x7 x8 x9
    clear_value x0 x1
    have k10 : Kept M z₀ x2.2 := by
      dsimp -zeta only [x2]
      exact State.translateRange_kept m_regs m_cal m_mov (by assumption)
    clear_value x2
    have k11 : Kept M z₀ x3 := by
      dsimp -zeta only [x3]
      assumption
    clear_value x3 x4
    have k12 : Kept M z₀ x5 := by
      dsimp -zeta only [x5]
      split
      · refine ite_kept ?_ ?_
        · assumption
        · exact State.startWalk_kept m_regs m_mov (by assumption)
      · assumption
    clear_value x5 x6
    have k13 : Kept M z₀ x7.2.2 := by
      dsimp -zeta only [x7]
      exact State.calRead_kept m_regs m_fab m_cal m_ctx m_pcie m_ngx (by assumption)
    clear_value x7
    have k14 : Kept M z₀ x8 := by
      dsimp -zeta only [x8]
      exact State.setLine_kept m_cal (by assumption)
    clear_value x8
    have k15 : Kept M z₀ x9 := by
      dsimp -zeta only [x9]
      exact State.busRange_kept m_fab (by assumption)
    clear_value x9
    split
    · assumption
    · refine ite_kept ?_ ?_
      · exact State.failChunk_kept m_regs m_fab m_cal m_ctx m_pcie m_keep m_ngx (State.setMover_kept m_mov (by assumption))
      · exact State.dropChunk_kept m_regs m_fab m_cal m_ctx m_mov m_pcie m_keep m_ngx (State.setMover_kept m_mov (by
          assumption))
    · refine ite_kept ?_ ?_
      · exact State.setMover_kept m_mov (State.readPieces_kept m_fab m_pcie m_ngx (State.setLine_kept m_cal (by assumption)))
      · exact State.setMover_kept m_mov (State.writePieces_kept m_fab m_ngx (by assumption))
  · split
    · exact State.setMover_kept m_mov (by assumption)
    · extract_lets x16
      clear_value x16
      split
      · exact State.setMover_kept m_mov (by assumption)
      · extract_lets x17 x18 x19 x20 x21 x22 x23 x24 x25
        have k26 : Kept M z₀ x17.2 := by
          dsimp -zeta only [x17]
          exact State.translateAll_kept m_regs m_cal m_mov (by assumption)
        clear_value x17
        have k27 : Kept M z₀ x18 := by
          dsimp -zeta only [x18]
          exact State.setMover_kept m_mov (by assumption)
        clear_value x18
        have k28 : Kept M z₀ x19 := by
          dsimp -zeta only [x19]
          refine ite_kept ?_ ?_
          · exact State.setStream_kept m_mov (by assumption)
          · assumption
        clear_value x19
        have k29 : Kept M z₀ x20.2.2 := by
          dsimp -zeta only [x20]
          exact State.captureBytes_kept m_regs m_fab m_cal m_ctx m_pcie m_ngx (by assumption)
        clear_value x20
        have k30 : Kept M z₀ x21 := by
          dsimp -zeta only [x21]
          exact State.busFrames_kept m_fab (by assumption)
        clear_value x21 x22 x23 x24 x25
        split
        · assumption
        · exact State.entryFails_kept m_regs m_fab m_ctx m_mov m_pcie m_ngx (by assumption)
        · refine ite_kept ?_ ?_
          · exact State.setMover_kept m_mov (State.readPieces_kept m_fab m_pcie m_ngx (by assumption))
          · extract_lets x31 x32
            have k33 : Kept M z₀ x31 := by
              dsimp -zeta only [x31]
              exact State.setMover_kept m_mov (State.writePieces_kept m_fab m_ngx (by assumption))
            clear_value x31
            have k34 : Kept M z₀ x32 := by
              dsimp -zeta only [x32]
              exact State.setStream_kept m_mov (by assumption)
            clear_value x32
            refine ite_kept ?_ ?_
            · exact State.entryFails_kept m_regs m_fab m_ctx m_mov m_pcie m_ngx (by assumption)
            · assumption
  · split
    · exact State.setMover_kept m_mov (by assumption)
    · refine ite_kept ?_ ?_
      · refine ite_kept ?_ ?_
        · assumption
        · extract_lets x35 x36 x37 x38 x39
          have k40 : Kept M z₀ x35.2.2 := by
            dsimp -zeta only [x35]
            exact State.calRead_kept m_regs m_fab m_cal m_ctx m_pcie m_ngx (by assumption)
          clear_value x35
          have k41 : Kept M z₀ x36 := by
            dsimp -zeta only [x36]
            exact State.setMover_kept m_mov (State.busRange_kept m_fab (by assumption))
          clear_value x36
          have k42 : Kept M z₀ x37.2 := by
            dsimp -zeta only [x37]
            exact State.translateRange_kept m_regs m_cal m_mov (by assumption)
          clear_value x37
          have k43 : Kept M z₀ x38.2.2 := by
            dsimp -zeta only [x38]
            exact State.calRead_kept m_regs m_fab m_cal m_ctx m_pcie m_ngx (by assumption)
          clear_value x38
          have k44 : Kept M z₀ x39 := by
            dsimp -zeta only [x39]
            exact State.busRange_kept m_fab (by assumption)
          clear_value x39
          refine ite_kept ?_ ?_
          · refine ite_kept ?_ ?_
            · exact State.copyEnds_kept m_fab m_ctx m_mov m_pcie (by assumption)
            · exact State.copyAdvance_kept m_fab m_ctx m_mov m_pcie (by assumption)
          · refine ite_kept ?_ ?_
            · refine ite_kept ?_ ?_
              · exact State.copyEnds_kept m_fab m_ctx m_mov m_pcie (by assumption)
              · exact State.copyAdvance_kept m_fab m_ctx m_mov m_pcie (State.busRange_kept m_fab (State.calStore_kept m_regs
                  m_fab m_cal m_ctx m_pcie m_ngx m_calMem (by assumption)))
            · split
              · assumption
              · exact State.copyEnds_kept m_fab m_ctx m_mov m_pcie (State.setMover_kept m_mov (by assumption))
              · extract_lets x45
                have k46 : Kept M z₀ x45 := by
                  dsimp -zeta only [x45]
                  exact State.setMover_kept m_mov (State.writePieces_kept m_fab m_ngx (by assumption))
                clear_value x45
                refine ite_kept ?_ ?_
                · exact State.copyEnds_kept m_fab m_ctx m_mov m_pcie (by assumption)
                · exact State.copyAdvance_kept m_fab m_ctx m_mov m_pcie (by assumption)
      · extract_lets x47 x48
        have k49 : Kept M z₀ x47.2 := by
          dsimp -zeta only [x47]
          exact State.translateRange_kept m_regs m_cal m_mov (by assumption)
        clear_value x47
        have k50 : Kept M z₀ x48.2 := by
          dsimp -zeta only [x48]
          split
          · assumption
          · exact State.translateRange_kept m_regs m_cal m_mov (by assumption)
        clear_value x48
        split
        · exact State.copyEnds_kept m_fab m_ctx m_mov m_pcie (State.setMover_kept m_mov (by assumption))
        · exact State.copyEnds_kept m_fab m_ctx m_mov m_pcie (State.setMover_kept m_mov (by assumption))
        · exact State.setMover_kept m_mov (State.readPieces_kept m_fab m_pcie m_ngx (by assumption))
        · assumption

theorem State.takeWork_kept {M : Mask} {z₀ : State} {s : State} {m : Nat} {w : Work} (m_regs : M.regs = true) (m_fab : M.fab
    = true) (m_cal : M.cal = true) (m_ctx : M.ctx = true) (m_mov : M.mov = true) (m_pcie : M.pcie = true) (m_keep : M.keep =
    true) (m_ngx : M.ngx = true) (m_calMem : M.calMem = true) (h0 : Kept M z₀ s) : Kept M z₀ (@State.takeWork s m w) := by
  unfold State.takeWork
  extract_lets x0 x1 x2 x3
  clear_value x0
  have k4 : Kept M z₀ x1 := by
    dsimp -zeta only [x1]
    exact State.setMover_kept m_mov (by assumption)
  clear_value x1 x2
  have k5 : Kept M z₀ x3 := by
    dsimp -zeta only [x3]
    split
    · exact Kept.upMov m_mov (by assumption)
    · split
      · assumption
      · extract_lets x17
        clear_value x17
        split
        · assumption
        · exact State.setStream_kept m_mov (by assumption)
    · extract_lets x24 x25
      have k26 : Kept M z₀ x24 := by
        dsimp -zeta only [x24]
        refine ite_kept ?_ ?_
        · exact Kept.upMov m_mov (by assumption)
        · assumption
      clear_value x24 x25
      exact State.grant_kept m_ctx (State.modCopy_kept m_mov (by assumption))
    · assumption
  clear_value x3
  exact State.issueJob_kept m_regs m_fab m_cal m_ctx m_mov m_pcie m_keep m_ngx m_calMem (by assumption)

theorem execMoverTake_kept {M : Mask} {z₀ : State} {s : State} (m_regs : M.regs = true) (m_fab : M.fab = true) (m_cal : M.cal
    = true) (m_ctx : M.ctx = true) (m_mov : M.mov = true) (m_pcie : M.pcie = true) (m_keep : M.keep = true) (m_ngx : M.ngx =
    true) (m_calMem : M.calMem = true) (h0 : Kept M z₀ s) : OutOk M z₀ (@execMoverTake s) := by
  unfold execMoverTake
  refine ite_ok ?_ ?_
  · exact OutOk.next (by assumption)
  · split
    · exact OutOk.next (State.takeWork_kept m_regs m_fab m_cal m_ctx m_mov m_pcie m_keep m_ngx m_calMem (by assumption))
    · exact OutOk.next (by assumption)

theorem State.parkQuarter_kept {M : Mask} {z₀ : State} {s : State} {quarter : Nat} (m_regs : M.regs = true) (m_fab : M.fab =
    true) (m_ctx : M.ctx = true) (m_mov : M.mov = true) (m_pcie : M.pcie = true) (m_ngx : M.ngx = true) (h0 : Kept M z₀ s) :
    Kept M z₀ (@State.parkQuarter s quarter) := by
  unfold State.parkQuarter
  extract_lets x0
  have k1 : Kept M z₀ x0 := by
    dsimp -zeta only [x0]
    refine foldl_kept ?_ ?_
    · assumption
    · intro v2
      intro v3
      intro v4
      split
      · refine ite_kept ?_ ?_
        · exact State.parkStream_kept m_regs m_fab m_ctx m_mov m_pcie m_ngx (by assumption)
        · assumption
      · assumption
  clear_value x0
  refine foldl_kept ?_ ?_
  · assumption
  · intro v5
    intro v6
    intro v7
    extract_lets x8 x9
    clear_value x8
    have k10 : Kept M z₀ x9 := by
      dsimp -zeta only [x9]
      refine foldl_kept ?_ ?_
      · assumption
      · intro v11
        intro v12
        intro v13
        exact State.readsOver_kept m_fab m_pcie (State.setMover_kept m_mov (by assumption))
    clear_value x9
    exact State.modCopy_kept m_mov (by assumption)

theorem execCrcCheck_kept {M : Mask} {z₀ : State} {c : Fin 512} {q : BitVec 32} {s : State} (m_ctx : M.ctx = true) (m_mov :
    M.mov = true) (h2 : Kept M z₀ s) : OutOk M z₀ (@execCrcCheck c q s) := by
  unfold execCrcCheck
  split
  · split
    · exact OutOk.next (by assumption)
    · extract_lets x0
      clear_value x0
      exact OutOk.next (State.copyStart_kept m_ctx m_mov (by assumption))

theorem execDmaCopy_kept {M : Mask} {z₀ : State} {c : Fin 512} {q : BitVec 32} {s : State} (m_ctx : M.ctx = true) (m_mov :
    M.mov = true) (h2 : Kept M z₀ s) : OutOk M z₀ (@execDmaCopy c q s) := by
  unfold execDmaCopy
  split
  · split
    · exact OutOk.next (by assumption)
    · extract_lets x0
      clear_value x0
      exact OutOk.next (State.copyStart_kept m_ctx m_mov (by assumption))

theorem State.retryJobs_kept {M : Mask} {z₀ : State} {s : State} (m_regs : M.regs = true) (m_fab : M.fab = true) (m_cal :
    M.cal = true) (m_ctx : M.ctx = true) (m_mov : M.mov = true) (m_pcie : M.pcie = true) (m_keep : M.keep = true) (m_ngx :
    M.ngx = true) (m_calMem : M.calMem = true) (h0 : Kept M z₀ s) : Kept M z₀ (@State.retryJobs s) := by
  unfold State.retryJobs
  refine forN_kept ?_ ?_
  · assumption
  · intro v0
    intro v1
    intro v2
    split
    · refine ite_kept ?_ ?_
      · assumption
      · exact State.issueJob_kept m_regs m_fab m_cal m_ctx m_mov m_pcie m_keep m_ngx m_calMem (by assumption)
    · assumption

theorem State.faultJob_kept {M : Mask} {z₀ : State} {s : State} {m : Nat} {j : Job} (m_regs : M.regs = true) (m_fab : M.fab =
    true) (m_cal : M.cal = true) (m_ctx : M.ctx = true) (m_mov : M.mov = true) (m_pcie : M.pcie = true) (m_keep : M.keep =
    true) (m_ngx : M.ngx = true) (h0 : Kept M z₀ s) : Kept M z₀ (@State.faultJob s m j) := by
  unfold State.faultJob
  extract_lets x0
  have k1 : Kept M z₀ x0 := by
    dsimp -zeta only [x0]
    exact State.setMover_kept m_mov (by assumption)
  clear_value x0
  split
  · refine ite_kept ?_ ?_
    · exact State.failChunk_kept m_regs m_fab m_cal m_ctx m_pcie m_keep m_ngx (by assumption)
    · exact State.dropChunk_kept m_regs m_fab m_cal m_ctx m_mov m_pcie m_keep m_ngx (by assumption)
  · split
    · assumption
    · extract_lets x2
      have k3 : Kept M z₀ x2 := by
        dsimp -zeta only [x2]
        refine ite_kept ?_ ?_
        · exact State.setStream_kept m_mov (by assumption)
        · assumption
      clear_value x2
      exact State.entryFails_kept m_regs m_fab m_ctx m_mov m_pcie m_ngx (by assumption)
  · exact State.copyEnds_kept m_fab m_ctx m_mov m_pcie (by assumption)
  · assumption

theorem execTranslationWalk_kept {M : Mask} {z₀ : State} {c : Fin 512} {page : BitVec 36} {e1 : BitVec 64} {e2 : BitVec 64}
    {e3 : BitVec 64} {err : Fin 4} {s : State} (m_regs : M.regs = true) (m_fab : M.fab = true) (m_cal : M.cal = true) (m_ctx
    : M.ctx = true) (m_mov : M.mov = true) (m_pcie : M.pcie = true) (m_keep : M.keep = true) (m_ngx : M.ngx = true) (m_calMem
    : M.calMem = true) (h6 : Kept M z₀ s) : OutOk M z₀ (@execTranslationWalk c page e1 e2 e3 err s) := by
  unfold execTranslationWalk
  split
  · split
    · exact OutOk.next (by assumption)
    · refine ite_ok ?_ ?_
      · exact OutOk.next (by assumption)
      · extract_lets x0
        have k1 : Kept M z₀ x0.2 := by
          dsimp -zeta only [x0]
          exact State.walkEnds_kept m_regs m_cal m_mov (by assumption)
        clear_value x0
        refine ite_ok ?_ ?_
        · refine OutOk.next ?_
          refine forN_kept ?_ ?_
          · assumption
          · intro v2
            intro v3
            intro v4
            split
            · refine ite_kept ?_ ?_
              · exact State.faultJob_kept m_regs m_fab m_cal m_ctx m_mov m_pcie m_keep m_ngx (by assumption)
              · assumption
            · assumption
        · exact OutOk.next (State.retryJobs_kept m_regs m_fab m_cal m_ctx m_mov m_pcie m_keep m_ngx m_calMem (by assumption))

end Sys2Proof.Machine
end

