-- ==== Sys2Proof/Laws/KeptNgxOps.lean ====
section
/-! SUPPORT. What the operations and meanings of Machine/NgxOps.lean keep (Laws/Kept.lean). -/

namespace Sys2Proof.Machine

theorem State.msgDrop_kept {M : Mask} {z₀ : State} {s : State} {p : Nat} {n : Nat} (m_regs : M.regs = true) (h0 : Kept M z₀
    s) : Kept M z₀ (@State.msgDrop s p n) := by
  unfold State.msgDrop
  refine ite_kept ?_ ?_
  · assumption
  · exact State.setBit_kept m_regs (State.setFld_kept m_regs (State.bumpBy_kept m_regs (by assumption)))

theorem State.commitMsg_kept {M : Mask} {z₀ : State} {s : State} {kind : Nat} {dst : Nat} {g : Nat} {idx : Option Nat} (m_ngx
    : M.ngx = true) (h0 : Kept M z₀ s) : Kept M z₀ (@State.commitMsg s kind dst g idx) := by
  unfold State.commitMsg
  exact State.ngxSend_kept m_ngx (by assumption)

theorem State.casRelease_kept {M : Mask} {z₀ : State} {s : State} (m_ngx : M.ngx = true) (h0 : Kept M z₀ s) : Kept M z₀
    (@State.casRelease s) := by
  unfold State.casRelease
  refine ite_kept ?_ ?_
  · assumption
  · extract_lets x0 x1 x2
    clear_value x0 x1 x2
    exact Kept.upNgx m_ngx (by assumption)

theorem State.casTick_kept {M : Mask} {z₀ : State} {s : State} {x : Nat} (m_route : M.route = true) (m_ngx : M.ngx = true)
    (h0 : Kept M z₀ s) : Kept M z₀ (@State.casTick s x) := by
  unfold State.casTick
  extract_lets x0 x1 x2 x3 x4 x5 x6 x7 x8
  clear_value x0 x1 x2 x3 x4 x5 x6 x7 x8
  exact State.setSrc_kept m_route (Kept.upNgx m_ngx (by assumption))

theorem State.rrCmdW_kept {M : Mask} {z₀ : State} {s : State} {v : Word} (m_regs : M.regs = true) (m_ngx : M.ngx = true) (h0
    : Kept M z₀ s) : Kept M z₀ (@State.rrCmdW s v) := by
  unfold State.rrCmdW
  refine ite_kept ?_ ?_
  · assumption
  · extract_lets x0 x1 x2 x3 x4
    have k5 : Kept M z₀ x0 := by
      dsimp -zeta only [x0]
      refine ite_kept ?_ ?_
      · exact State.setBit_kept m_regs (by assumption)
      · assumption
    clear_value x0
    have k6 : Kept M z₀ x1 := by
      dsimp -zeta only [x1]
      exact State.setBit_kept m_regs (by assumption)
    clear_value x1 x2 x3 x4
    refine ite_kept ?_ ?_
    · assumption
    · refine ite_kept ?_ ?_
      · exact State.setBit_kept m_regs (by assumption)
      · refine ite_kept ?_ ?_
        · exact State.setBit_kept m_regs (by assumption)
        · exact State.ngxSend_kept m_ngx (State.setBit_kept m_regs (by assumption))

theorem State.rrW_kept {M : Mask} {z₀ : State} {s : State} {r : Nat} {mask : Word} {v : Word} (m_regs : M.regs = true) (h0 :
    Kept M z₀ s) : Kept M z₀ (@State.rrW s r mask v) := by
  unfold State.rrW
  refine ite_kept ?_ ?_
  · exact State.setReg_kept m_regs (by assumption)
  · assumption

theorem State.ngxTimingW_kept {M : Mask} {z₀ : State} {s : State} {v : Word} (m_regs : M.regs = true) (h0 : Kept M z₀ s) :
    Kept M z₀ (@State.ngxTimingW s v) := by
  unfold State.ngxTimingW
  refine ite_kept ?_ ?_
  · assumption
  · exact State.setFld_kept m_regs (by assumption)

theorem State.ngxCtrlW_kept {M : Mask} {z₀ : State} {s : State} {v : Word} (m_regs : M.regs = true) (m_ngx : M.ngx = true)
    (h0 : Kept M z₀ s) : Kept M z₀ (@State.ngxCtrlW s v) := by
  unfold State.ngxCtrlW
  extract_lets x0 x1 x2 x3 x4 x5
  have k6 : Kept M z₀ x0 := by
    dsimp -zeta only [x0]
    refine ite_kept ?_ ?_
    · exact State.setBit_kept m_regs (by assumption)
    · assumption
  clear_value x0 x1 x2
  have k7 : Kept M z₀ x3 := by
    dsimp -zeta only [x3]
    exact State.setFld_kept m_regs (by assumption)
  clear_value x3
  have k8 : Kept M z₀ x4 := by
    dsimp -zeta only [x4]
    exact State.setFld_kept m_regs (by assumption)
  clear_value x4 x5
  refine ite_kept ?_ ?_
  · exact State.setBit_kept m_regs (by assumption)
  · refine ite_kept ?_ ?_
    · exact Kept.upNgx m_ngx (by assumption)
    · assumption

theorem State.restageGroup_kept {M : Mask} {z₀ : State} {s : State} {g : Nat} (m_regs : M.regs = true) (m_par : M.par = true)
    (h0 : Kept M z₀ s) : Kept M z₀ (@State.restageGroup s g) := by
  unfold State.restageGroup
  extract_lets x0
  clear_value x0
  exact State.setGroupSt_kept m_regs (State.setGroup_kept m_regs m_par (by assumption))

theorem State.dropDoubt_kept {M : Mask} {z₀ : State} {s : State} (m_regs : M.regs = true) (m_par : M.par = true) (h0 : Kept M
    z₀ s) : Kept M z₀ (@State.dropDoubt s) := by
  unfold State.dropDoubt
  refine forN_kept ?_ ?_
  · assumption
  · intro v0
    intro v1
    intro v2
    refine ite_kept ?_ ?_
    · exact State.restageGroup_kept m_regs m_par (by assumption)
    · assumption

theorem State.linkLost_kept {M : Mask} {z₀ : State} {s : State} (m_regs : M.regs = true) (m_keep : M.keep = true) (m_ngx :
    M.ngx = true) (h0 : Kept M z₀ s) : Kept M z₀ (@State.linkLost s) := by
  unfold State.linkLost
  extract_lets x0 x1
  have k2 : Kept M z₀ x0 := by
    dsimp -zeta only [x0]
    exact State.histBegin_kept m_keep (State.setBit_kept m_regs (State.setFld_kept m_regs (by assumption)))
  clear_value x0 x1
  exact Kept.upNgx m_ngx (by assumption)

theorem State.frameLost_kept {M : Mask} {z₀ : State} {s : State} (m_regs : M.regs = true) (m_keep : M.keep = true) (m_ngx :
    M.ngx = true) (h0 : Kept M z₀ s) : Kept M z₀ (@State.frameLost s) := by
  unfold State.frameLost
  extract_lets x0 x1 x2 x3
  have k4 : Kept M z₀ x0 := by
    dsimp -zeta only [x0]
    exact State.bump_kept m_regs (by assumption)
  clear_value x0 x1 x2
  have k5 : Kept M z₀ x3 := by
    dsimp -zeta only [x3]
    exact Kept.upNgx m_ngx (by assumption)
  clear_value x3
  refine ite_kept ?_ ?_
  · assumption
  · refine ite_kept ?_ ?_
    · exact State.setBit_kept m_regs (State.linkLost_kept m_regs m_keep m_ngx (by assumption))
    · exact State.linkLost_kept m_regs m_keep m_ngx (by assumption)

theorem State.setPeer_kept {M : Mask} {z₀ : State} {s : State} {p : Nat} {x : Peer} (m_ngx : M.ngx = true) (h0 : Kept M z₀ s)
    : Kept M z₀ (@State.setPeer s p x) := by
  unfold State.setPeer
  exact Kept.upNgx m_ngx (by assumption)

theorem State.takeMsg_kept {M : Mask} {z₀ : State} {s : State} {m : Msg} (m_regs : M.regs = true) (m_ngx : M.ngx = true) (h0
    : Kept M z₀ s) : Kept M z₀ (@State.takeMsg s m) := by
  unfold State.takeMsg
  extract_lets x0 x1 x2 x3
  clear_value x0 x1 x2 x3
  refine ite_kept ?_ ?_
  · exact State.msgDrop_kept m_regs (by assumption)
  · split
    · exact Kept.upNgx m_ngx (by assumption)
    · refine ite_kept ?_ ?_
      · refine ite_kept ?_ ?_
        · exact State.setPeer_kept m_ngx (by assumption)
        · extract_lets x4 x5
          have k6 : Kept M z₀ x4 := by
            dsimp -zeta only [x4]
            exact State.setPeer_kept m_ngx (by assumption)
          clear_value x4 x5
          exact Kept.upNgx m_ngx (by assumption)
      · refine ite_kept ?_ ?_
        · exact State.bump_kept m_regs (State.setPeer_kept m_ngx (by assumption))
        · exact State.setPeer_kept m_ngx (by assumption)

theorem State.fillSlot_kept {M : Mask} {z₀ : State} {s : State} {res : Nat} (m_regs : M.regs = true) (m_ctx : M.ctx = true)
    (m_ngx : M.ngx = true) (h0 : Kept M z₀ s) : Kept M z₀ (@State.fillSlot s res).2 := by
  unfold State.fillSlot
  split
  · dsimp -zeta only
    refine forN_kept ?_ ?_
    · assumption
    · intro v0
      intro v1
      intro v2
      extract_lets x3
      clear_value x3
      refine ite_kept ?_ ?_
      · exact State.setPeer_kept m_ngx (by assumption)
      · assumption
  · split
    · assumption
    · extract_lets x4 x5 x6 x7
      clear_value x4 x5 x6
      have k8 : Kept M z₀ x7 := by
        dsimp -zeta only [x7]
        refine ite_kept ?_ ?_
        · exact State.bump_kept m_regs (by assumption)
        · assumption
      clear_value x7
      split
      · rename_i w9 w10 w11 w12
        have k13 : Kept M z₀ w11 := snd_of w12 (by
            split
            · assumption
            · dsimp -zeta only
              refine State.setPeer_kept m_ngx ?_
              assumption)
        extract_lets x14 x15 x16
        clear_value x14
        have k17 : Kept M z₀ x15 := by
          dsimp -zeta only [x15]
          split
          · refine ite_kept ?_ ?_
            · exact State.finish_kept m_ctx (by assumption)
            · assumption
          · assumption
        clear_value x15 x16
        dsimp -zeta only
        exact Kept.upNgx m_ngx (by assumption)

theorem State.passSlot_kept {M : Mask} {z₀ : State} {s : State} {ws : List Word} {ok : Bool} (m_regs : M.regs = true) (m_ctx
    : M.ctx = true) (m_ngx : M.ngx = true) (h0 : Kept M z₀ s) : Kept M z₀ (@State.passSlot s ws ok).2 := by
  unfold State.passSlot
  extract_lets x0 x1 x2 x3 x4 x5 x6
  clear_value x0 x1 x2 x3
  have k7 : Kept M z₀ x4 := by
    dsimp -zeta only [x4]
    refine ite_kept ?_ ?_
    · exact State.takeMsg_kept m_regs m_ngx (by assumption)
    · assumption
  clear_value x4 x5 x6
  split
  · assumption
  · split
    · exact State.fillSlot_kept m_regs m_ctx m_ngx (by assumption)
    · assumption

theorem State.sessionChange_kept {M : Mask} {z₀ : State} {s : State} {p : Nat} (m_regs : M.regs = true) (m_ngx : M.ngx =
    true) (h0 : Kept M z₀ s) : Kept M z₀ (@State.sessionChange s p) := by
  unfold State.sessionChange
  extract_lets x0 x1 x2 x3 x4 x5
  clear_value x0
  have k6 : Kept M z₀ x1 := by
    dsimp -zeta only [x1]
    exact State.msgDrop_kept m_regs (by assumption)
  clear_value x1 x2
  have k7 : Kept M z₀ x3 := by
    dsimp -zeta only [x3]
    exact Kept.upNgx m_ngx (by assumption)
  clear_value x3 x4
  have k8 : Kept M z₀ x5 := by
    dsimp -zeta only [x5]
    exact State.setPeer_kept m_ngx (by assumption)
  clear_value x5
  refine ite_kept ?_ ?_
  · exact State.setBit_kept m_regs (State.setBit_kept m_regs (by assumption))
  · assumption

theorem State.seeSessions_kept {M : Mask} {z₀ : State} {s : State} {h : List Word} (m_regs : M.regs = true) (m_ngx : M.ngx =
    true) (h0 : Kept M z₀ s) : Kept M z₀ (@State.seeSessions s h) := by
  unfold State.seeSessions
  extract_lets x0 x1
  clear_value x0
  have k2 : Kept M z₀ x1 := by
    dsimp -zeta only [x1]
    exact Kept.upNgx m_ngx (by assumption)
  clear_value x1
  refine forN_kept ?_ ?_
  · assumption
  · intro v3
    intro v4
    intro v5
    extract_lets x6 x7 x8 x9
    clear_value x6 x7
    have k10 : Kept M z₀ x8 := by
      dsimp -zeta only [x8]
      refine ite_kept ?_ ?_
      · exact State.sessionChange_kept m_regs m_ngx (by assumption)
      · assumption
    clear_value x8 x9
    refine ite_kept ?_ ?_
    · assumption
    · exact State.setPeer_kept m_ngx (by assumption)

theorem State.takeDecision_kept {M : Mask} {z₀ : State} {s : State} {g : Nat} {go : Bool} {due : Nat} (m_regs : M.regs =
    true) (m_par : M.par = true) (m_ngx : M.ngx = true) (h0 : Kept M z₀ s) : Kept M z₀ (@State.takeDecision s g go due) := by
  unfold State.takeDecision
  refine ite_kept ?_ ?_
  · assumption
  · extract_lets x0 x1 x2 x3 x4 x5
    clear_value x0
    have k6 : Kept M z₀ x1 := by
      dsimp -zeta only [x1]
      exact Kept.upNgx m_ngx (by assumption)
    clear_value x1 x2 x3 x4
    have k7 : Kept M z₀ x5 := by
      dsimp -zeta only [x5]
      exact State.setGroup_kept m_regs m_par (by assumption)
    clear_value x5
    refine ite_kept ?_ ?_
    · refine ite_kept ?_ ?_
      · exact State.setGroupSt_kept m_regs (State.setReg64_kept m_regs (by assumption))
      · exact State.commitMsg_kept m_ngx (by assumption)
    · refine State.commitMsg_kept m_ngx ?_
      refine ite_kept ?_ ?_
      · exact State.restageGroup_kept m_regs m_par (by assumption)
      · assumption

theorem State.takeDecisions_kept {M : Mask} {z₀ : State} {s : State} {h : List Word} (m_regs : M.regs = true) (m_par : M.par
    = true) (m_ngx : M.ngx = true) (h0 : Kept M z₀ s) : Kept M z₀ (@State.takeDecisions s h) := by
  unfold State.takeDecisions
  extract_lets x0 x1 x2
  clear_value x0 x1
  have k3 : Kept M z₀ x2 := by
    dsimp -zeta only [x2]
    exact Kept.upNgx m_ngx (by assumption)
  clear_value x2
  refine foldl_kept ?_ ?_
  · assumption
  · intro v4
    intro v5
    intro v6
    exact State.takeDecision_kept m_regs m_par m_ngx (by assumption)

theorem State.frameGood_kept {M : Mask} {z₀ : State} {s : State} {gap : Nat} (m_regs : M.regs = true) (m_ngx : M.ngx = true)
    (h0 : Kept M z₀ s) : Kept M z₀ (@State.frameGood s gap) := by
  unfold State.frameGood
  extract_lets x0 x1 x2 x3 x4
  clear_value x0 x1 x2
  have k5 : Kept M z₀ x3 := by
    dsimp -zeta only [x3]
    exact Kept.upNgx m_ngx (by assumption)
  clear_value x3
  have k6 : Kept M z₀ x4 := by
    dsimp -zeta only [x4]
    exact State.setBit_kept m_regs (by assumption)
  clear_value x4
  exact State.setFld_kept m_regs (by assumption)

end Sys2Proof.Machine
end

