-- ==== Sys2Proof/Laws/KeptPcie.lean ====
section
/-! SUPPORT. What the operations and meanings of Machine/Pcie.lean keep (Laws/Kept.lean). -/

namespace Sys2Proof.Machine

theorem State.failCoef_kept {M : Mask} {z₀ : State} {s : State} {c : Nat} {d : OpenDesc} (m_regs : M.regs = true) (m_ctx :
    M.ctx = true) (h0 : Kept M z₀ s) : Kept M z₀ (@State.failCoef s c d) := by
  unfold State.failCoef
  extract_lets x0 x1
  clear_value x0
  have k2 : Kept M z₀ x1 := by
    dsimp -zeta only [x1]
    refine ite_kept ?_ ?_
    · assumption
    · exact State.setBit_kept m_regs (State.setFld_kept m_regs (by assumption))
  clear_value x1
  exact State.setResult_kept m_ctx (State.modDesc_kept m_ctx (by assumption))

theorem State.flrDescs_kept {M : Mask} {z₀ : State} {s : State} {c : Nat} (m_regs : M.regs = true) (m_fab : M.fab = true)
    (m_ctx : M.ctx = true) (m_mov : M.mov = true) (m_pcie : M.pcie = true) (m_ngx : M.ngx = true) (h0 : Kept M z₀ s) : Kept M
    z₀ (@State.flrDescs s c) := by
  unfold State.flrDescs
  extract_lets x0
  have k1 : Kept M z₀ x0 := by
    dsimp -zeta only [x0]
    refine foldl_kept ?_ ?_
    · assumption
    · intro v2
      intro v3
      intro v4
      refine ite_kept ?_ ?_
      · assumption
      · refine ite_kept ?_ ?_
        · exact State.copyEnds_kept m_fab m_ctx m_mov m_pcie (by assumption)
        · refine ite_kept ?_ ?_
          · exact State.failCoef_kept m_regs m_ctx (by assumption)
          · refine ite_kept ?_ ?_
            · exact State.setResult_kept m_ctx (by assumption)
            · refine ite_kept ?_ ?_
              · exact State.setResult_kept m_ctx (by assumption)
              · assumption
  clear_value x0
  refine foldl_kept ?_ ?_
  · assumption
  · intro v5
    intro v6
    intro v7
    split
    · refine ite_kept ?_ ?_
      · assumption
      · extract_lets x8 x9
        clear_value x8
        have k10 : Kept M z₀ x9 := by
          dsimp -zeta only [x9]
          exact State.modDesc_kept m_ctx (by assumption)
        clear_value x9
        exact State.writeJournal_kept m_fab m_ctx m_ngx (State.modContext_kept m_ctx (by assumption))
    · assumption

theorem State.pcieLtrW_kept {M : Mask} {z₀ : State} {s : State} {v : Word} (m_regs : M.regs = true) (m_fab : M.fab = true)
    (h0 : Kept M z₀ s) : Kept M z₀ (@State.pcieLtrW s v) := by
  unfold State.pcieLtrW
  refine ite_kept ?_ ?_
  · assumption
  · extract_lets x0
    clear_value x0
    refine ite_kept ?_ ?_
    · exact State.ltrSend_kept m_regs m_fab (by assumption)
    · exact State.setReg_kept m_regs (by assumption)

theorem execTagReuse_kept {M : Mask} {z₀ : State} {f : Fin 64} {tag : Fin 1024} {s : State} (m_pcie : M.pcie = true) (h2 :
    Kept M z₀ s) : OutOk M z₀ (@execTagReuse f tag s) := by
  unfold execTagReuse
  exact OutOk.next (Kept.upPcie m_pcie (by assumption))

theorem execBusMasterEnable_kept {M : Mask} {z₀ : State} {f : Fin 64} {v : BitVec 16} {s : State} (m_pcie : M.pcie = true)
    (h2 : Kept M z₀ s) : OutOk M z₀ (@execBusMasterEnable f v s) := by
  unfold execBusMasterEnable
  refine ite_ok ?_ ?_
  · exact OutOk.next (State.aer_kept m_pcie (by assumption))
  · exact OutOk.next (State.modFn_kept m_pcie (by assumption))

theorem execPowerStateChange_kept {M : Mask} {z₀ : State} {v : BitVec 16} {s : State} (m_pcie : M.pcie = true) (h1 : Kept M
    z₀ s) : OutOk M z₀ (@execPowerStateChange v s) := by
  unfold execPowerStateChange
  extract_lets x0 x1 x2
  clear_value x0
  have k3 : Kept M z₀ x1 := by
    dsimp -zeta only [x1]
    exact State.modFn_kept m_pcie (by assumption)
  clear_value x1 x2
  exact OutOk.next (Kept.upPcie m_pcie (by assumption))

theorem execLinkUp_kept {M : Mask} {z₀ : State} {speed : Fin 4} {width : Fin 3} {rev : Bool} {pol : BitVec 4} {s : State}
    (m_regs : M.regs = true) (m_pcie : M.pcie = true) (h4 : Kept M z₀ s) : OutOk M z₀ (@execLinkUp speed width rev pol s) :=
    by
  unfold execLinkUp
  refine ite_ok ?_ ?_
  · exact OutOk.next (by assumption)
  · extract_lets x0 x1 x2 x3 x4
    clear_value x0 x1
    have k5 : Kept M z₀ x2 := by
      dsimp -zeta only [x2]
      exact State.setReg_kept m_regs (by assumption)
    clear_value x2 x3
    have k6 : Kept M z₀ x4 := by
      dsimp -zeta only [x4]
      exact Kept.upPcie m_pcie (by assumption)
    clear_value x4
    exact OutOk.next (State.showLoads_kept m_regs (by assumption))

theorem State.failJob_kept {M : Mask} {z₀ : State} {s : State} {m : Nat} (m_regs : M.regs = true) (m_fab : M.fab = true)
    (m_cal : M.cal = true) (m_ctx : M.ctx = true) (m_mov : M.mov = true) (m_pcie : M.pcie = true) (m_keep : M.keep = true)
    (m_ngx : M.ngx = true) (h0 : Kept M z₀ s) : Kept M z₀ (@State.failJob s m) := by
  unfold State.failJob
  split
  · assumption
  · extract_lets x0
    have k1 : Kept M z₀ x0 := by
      dsimp -zeta only [x0]
      exact State.readsOver_kept m_fab m_pcie (State.setMover_kept m_mov (by assumption))
    clear_value x0
    split
    · refine ite_kept ?_ ?_
      · assumption
      · exact State.failChunk_kept m_regs m_fab m_cal m_ctx m_pcie m_keep m_ngx (by assumption)
    · assumption
    · split
      · exact State.entryFails_kept m_regs m_fab m_ctx m_mov m_pcie m_ngx (by assumption)
      · assumption
    · exact State.copyEnds_kept m_fab m_ctx m_mov m_pcie (by assumption)
    · assumption

theorem execPme_kept {M : Mask} {z₀ : State} {src : Fin 5} {s : State} (m_fab : M.fab = true) (m_pcie : M.pcie = true) (h1 :
    Kept M z₀ s) : OutOk M z₀ (@execPme src s) := by
  unfold execPme
  extract_lets x0 x1
  clear_value x0 x1
  refine ite_ok ?_ ?_
  · exact OutOk.next (State.offer_kept m_fab (Kept.upPcie m_pcie (by assumption)))
  · exact OutOk.next (by assumption)

theorem execPcieLtrWrite_kept {M : Mask} {z₀ : State} {v : BitVec 32} {s : State} (m_regs : M.regs = true) (m_fab : M.fab =
    true) (h1 : Kept M z₀ s) : OutOk M z₀ (@execPcieLtrWrite v s) := by
  unfold execPcieLtrWrite
  exact OutOk.next (State.pcieLtrW_kept m_regs m_fab (by assumption))

theorem execL1Entry_kept {M : Mask} {z₀ : State} {sub : Fin 3} {s : State} (m_regs : M.regs = true) (h1 : Kept M z₀ s) :
    OutOk M z₀ (@execL1Entry sub s) := by
  unfold execL1Entry
  extract_lets x0
  clear_value x0
  refine ite_ok ?_ ?_
  · exact OutOk.next (State.setFld_kept m_regs (State.setBit_kept m_regs (by assumption)))
  · exact OutOk.next (by assumption)

theorem State.msixFlush_kept {M : Mask} {z₀ : State} {s : State} {f : Nat} (m_fab : M.fab = true) (m_pcie : M.pcie = true)
    (h0 : Kept M z₀ s) : Kept M z₀ (@State.msixFlush s f) := by
  unfold State.msixFlush
  extract_lets x0
  clear_value x0
  refine ite_kept ?_ ?_
  · assumption
  · refine forN_kept ?_ ?_
    · assumption
    · intro v1
      intro v2
      intro v3
      extract_lets x4
      clear_value x4
      refine ite_kept ?_ ?_
      · exact State.offer_kept m_fab (State.setMsix_kept m_pcie (by assumption))
      · assumption

theorem execMsixUnmask_kept {M : Mask} {z₀ : State} {f : Fin 64} {n : Option (Fin 1024)} {addr : BitVec 64} {data : BitVec
    32} {ctl : BitVec 32} {s : State} (m_fab : M.fab = true) (m_pcie : M.pcie = true) (h5 : Kept M z₀ s) : OutOk M z₀
    (@execMsixUnmask f n addr data ctl s) := by
  unfold execMsixUnmask
  extract_lets x0
  clear_value x0
  split
  · exact OutOk.next (State.msixFlush_kept m_fab m_pcie (State.modFn_kept m_pcie (by assumption)))
  · refine ite_ok ?_ ?_
    · exact OutOk.next (by assumption)
    · extract_lets x1
      clear_value x1
      exact OutOk.next (State.msixFlush_kept m_fab m_pcie (State.setMsix_kept m_pcie (by assumption)))

theorem execLateCompletion_kept {M : Mask} {z₀ : State} {f : Fin 64} {tag : Fin 1024} {s : State} (m_pcie : M.pcie = true)
    (h2 : Kept M z₀ s) : OutOk M z₀ (@execLateCompletion f tag s) := by
  unfold execLateCompletion
  refine OutOk.next ?_
  refine ite_kept ?_ ?_
  · assumption
  · exact State.aer_kept m_pcie (by assumption)

theorem State.fetchFails_kept {M : Mask} {z₀ : State} {s : State} {c : Nat} (m_regs : M.regs = true) (m_fab : M.fab = true)
    (m_ctx : M.ctx = true) (m_pcie : M.pcie = true) (h0 : Kept M z₀ s) : Kept M z₀ (@State.fetchFails s c) := by
  unfold State.fetchFails
  extract_lets x0
  have k1 : Kept M z₀ x0 := by
    dsimp -zeta only [x0]
    exact State.setBit_kept m_regs (State.readsOver_kept m_fab m_pcie (by assumption))
  clear_value x0
  exact State.modContext_kept m_ctx (by assumption)

theorem execCompletionTimeout_kept {M : Mask} {z₀ : State} {f : Fin 64} {tag : Fin 1024} {s : State} (m_regs : M.regs = true)
    (m_fab : M.fab = true) (m_cal : M.cal = true) (m_ctx : M.ctx = true) (m_mov : M.mov = true) (m_pcie : M.pcie = true)
    (m_keep : M.keep = true) (m_ngx : M.ngx = true) (h2 : Kept M z₀ s) : OutOk M z₀ (@execCompletionTimeout f tag s) := by
  unfold execCompletionTimeout
  split
  · exact OutOk.next (by assumption)
  · refine ite_ok ?_ ?_
    · exact OutOk.next (by assumption)
    · extract_lets x0 x1 x2
      have k3 : Kept M z₀ x0 := by
        dsimp -zeta only [x0]
        exact State.aer_kept m_pcie (State.setBit_kept m_regs (by assumption))
      clear_value x0 x1
      have k4 : Kept M z₀ x2 := by
        dsimp -zeta only [x2]
        exact Kept.upPcie m_pcie (by assumption)
      clear_value x2
      split
      · exact OutOk.next (State.failJob_kept m_regs m_fab m_cal m_ctx m_mov m_pcie m_keep m_ngx (by assumption))
      · exact OutOk.next (State.fetchFails_kept m_regs m_fab m_ctx m_pcie (by assumption))
      · exact OutOk.next (State.hrdReply_kept m_ngx (State.readsOver_kept m_fab m_pcie (by assumption)))

theorem execLinkRetrain_kept {M : Mask} {z₀ : State} {speed : Fin 4} {width : Fin 3} {s : State} (m_regs : M.regs = true) (h2
    : Kept M z₀ s) : OutOk M z₀ (@execLinkRetrain speed width s) := by
  unfold execLinkRetrain
  refine ite_ok ?_ ?_
  · exact OutOk.next (by assumption)
  · extract_lets x0 x1 x2
    clear_value x0
    have k3 : Kept M z₀ x1 := by
      dsimp -zeta only [x1]
      exact State.setFld_kept m_regs (State.setFld_kept m_regs (by assumption))
    clear_value x1
    have k4 : Kept M z₀ x2 := by
      dsimp -zeta only [x2]
      exact State.bump_kept m_regs (by assumption)
    clear_value x2
    refine OutOk.next ?_
    refine State.showLoads_kept m_regs ?_
    refine ite_kept ?_ ?_
    · exact State.setBit_kept m_regs (by assumption)
    · assumption

theorem State.flrCtx_kept {M : Mask} {z₀ : State} {s : State} {c : Nat} (m_regs : M.regs = true) (m_eng : M.eng = true)
    (m_fab : M.fab = true) (m_par : M.par = true) (m_cal : M.cal = true) (m_ctx : M.ctx = true) (m_mov : M.mov = true)
    (m_pcie : M.pcie = true) (m_keep : M.keep = true) (m_ngx : M.ngx = true) (h0 : Kept M z₀ s) : Kept M z₀ (@State.flrCtx s
    c) := by
  unfold State.flrCtx
  extract_lets x0 x1 x2 x3 x4 x5 x6 x7
  have k8 : Kept M z₀ x0 := by
    dsimp -zeta only [x0]
    exact State.stopCtx_kept m_regs m_eng m_fab m_par m_ctx m_mov m_pcie m_ngx (State.modContext_kept m_ctx (by assumption))
  clear_value x0
  have k9 : Kept M z₀ x1 := by
    dsimp -zeta only [x1]
    refine forN_kept ?_ ?_
    · assumption
    · intro v10
      intro v11
      intro v12
      split
      · extract_lets x13
        clear_value x13
        refine ite_kept ?_ ?_
        · exact State.failJob_kept m_regs m_fab m_cal m_ctx m_mov m_pcie m_keep m_ngx (by assumption)
        · assumption
      · assumption
  clear_value x1
  have k14 : Kept M z₀ x2 := by
    dsimp -zeta only [x2]
    exact State.flrDescs_kept m_regs m_fab m_ctx m_mov m_pcie m_ngx (by assumption)
  clear_value x2
  have k15 : Kept M z₀ x3 := by
    dsimp -zeta only [x3]
    refine foldl_kept ?_ ?_
    · assumption
    · intro v16
      intro v17
      intro v18
      split
      · refine ite_kept ?_ ?_
        · exact State.streamClose_kept m_regs m_fab m_ctx m_mov m_pcie m_ngx (by assumption)
        · assumption
      · assumption
  clear_value x3
  have k19 : Kept M z₀ x4 := by
    dsimp -zeta only [x4]
    refine foldl_kept ?_ ?_
    · assumption
    · intro v20
      intro v21
      intro v22
      refine ite_kept ?_ ?_
      · exact State.unmapLine_kept m_regs m_eng m_fab m_cal m_mov m_pcie (by assumption)
      · assumption
  clear_value x4
  have k23 : Kept M z₀ x5 := by
    dsimp -zeta only [x5]
    exact State.tlbDrop_kept m_cal (by assumption)
  clear_value x5 x6
  have k24 : Kept M z₀ x7 := by
    dsimp -zeta only [x7]
    exact Kept.upMov m_mov (by assumption)
  clear_value x7
  exact State.maybeDisabled_kept m_regs m_pcie (by assumption)

theorem State.flr_kept {M : Mask} {z₀ : State} {s : State} {f : Nat} (m_regs : M.regs = true) (m_eng : M.eng = true) (m_fab :
    M.fab = true) (m_par : M.par = true) (m_cal : M.cal = true) (m_ctx : M.ctx = true) (m_mov : M.mov = true) (m_pcie :
    M.pcie = true) (m_keep : M.keep = true) (m_ngx : M.ngx = true) (h0 : Kept M z₀ s) : Kept M z₀ (@State.flr s f) := by
  unfold State.flr
  extract_lets x0 x1 x2 x3 x4 x5 x6 x7 x8
  have k9 : Kept M z₀ x0 := by
    dsimp -zeta only [x0]
    refine ite_kept ?_ ?_
    · exact State.setBit_kept m_regs (by assumption)
    · exact State.setBit_kept m_regs (by assumption)
  clear_value x0 x1
  have k10 : Kept M z₀ x2 := by
    dsimp -zeta only [x2]
    exact Kept.upFab m_fab (by assumption)
  clear_value x2
  have k11 : Kept M z₀ x3 := by
    dsimp -zeta only [x3]
    refine foldl_kept ?_ ?_
    · assumption
    · intro v12
      intro v13
      intro v14
      exact State.flrCtx_kept m_regs m_eng m_fab m_par m_cal m_ctx m_mov m_pcie m_keep m_ngx (by assumption)
  clear_value x3 x4 x5
  have k15 : Kept M z₀ x6 := by
    dsimp -zeta only [x6]
    exact State.modFn_kept m_pcie (by assumption)
  clear_value x6 x7 x8
  exact Kept.lit (s := x6) { fab := .inl m_fab, pcie := .inl m_pcie } (by assumption)

theorem State.pfFlr_kept {M : Mask} {z₀ : State} {s : State} (m_regs : M.regs = true) (m_eng : M.eng = true) (m_fab : M.fab =
    true) (m_par : M.par = true) (m_cal : M.cal = true) (m_ctx : M.ctx = true) (m_mov : M.mov = true) (m_pcie : M.pcie =
    true) (m_keep : M.keep = true) (m_ngx : M.ngx = true) (h0 : Kept M z₀ s) : Kept M z₀ (@State.pfFlr s) := by
  unfold State.pfFlr
  extract_lets x0 x1 x2 x3
  clear_value x0
  have k4 : Kept M z₀ x1 := by
    dsimp -zeta only [x1]
    refine foldl_kept ?_ ?_
    · assumption
    · intro v5
      intro v6
      intro v7
      exact State.flr_kept m_regs m_eng m_fab m_par m_cal m_ctx m_mov m_pcie m_keep m_ngx (by assumption)
  clear_value x1
  have k8 : Kept M z₀ x2 := by
    dsimp -zeta only [x2]
    exact State.flr_kept m_regs m_eng m_fab m_par m_cal m_ctx m_mov m_pcie m_keep m_ngx (by assumption)
  clear_value x2 x3
  exact Kept.upPcie m_pcie (by assumption)

theorem State.linkDown_kept {M : Mask} {z₀ : State} {s : State} (m_regs : M.regs = true) (m_eng : M.eng = true) (m_fab :
    M.fab = true) (m_par : M.par = true) (m_cal : M.cal = true) (m_ctx : M.ctx = true) (m_mov : M.mov = true) (m_pcie :
    M.pcie = true) (m_keep : M.keep = true) (m_ngx : M.ngx = true) (h0 : Kept M z₀ s) : Kept M z₀ (@State.linkDown s) := by
  unfold State.linkDown
  extract_lets x0 x1 x2 x3 x4
  have k5 : Kept M z₀ x0 := by
    dsimp -zeta only [x0]
    exact State.pfFlr_kept m_regs m_eng m_fab m_par m_cal m_ctx m_mov m_pcie m_keep m_ngx (by assumption)
  clear_value x0
  have k6 : Kept M z₀ x1 := by
    dsimp -zeta only [x1]
    exact State.setReg_kept m_regs (by assumption)
  clear_value x1
  have k7 : Kept M z₀ x2 := by
    dsimp -zeta only [x2]
    refine forN_kept ?_ ?_
    · assumption
    · intro v8
      intro v9
      intro v10
      exact State.modFn_kept m_pcie (by assumption)
  clear_value x2 x3 x4
  exact Kept.lit (s := x2) { fab := .inl m_fab, pcie := .inl m_pcie } (by assumption)

theorem execDlDown_kept {M : Mask} {z₀ : State} {s : State} (m_regs : M.regs = true) (m_eng : M.eng = true) (m_fab : M.fab =
    true) (m_par : M.par = true) (m_cal : M.cal = true) (m_ctx : M.ctx = true) (m_mov : M.mov = true) (m_pcie : M.pcie =
    true) (m_keep : M.keep = true) (m_ngx : M.ngx = true) (h0 : Kept M z₀ s) : OutOk M z₀ (@execDlDown s) := by
  unfold execDlDown
  exact OutOk.next (State.setBit_kept m_regs (State.linkDown_kept m_regs m_eng m_fab m_par m_cal m_ctx m_mov m_pcie m_keep
      m_ngx (by assumption)))

theorem execHotReset_kept {M : Mask} {z₀ : State} {s : State} (m_regs : M.regs = true) (m_eng : M.eng = true) (m_fab : M.fab
    = true) (m_par : M.par = true) (m_cal : M.cal = true) (m_ctx : M.ctx = true) (m_mov : M.mov = true) (m_pcie : M.pcie =
    true) (m_keep : M.keep = true) (m_ngx : M.ngx = true) (h0 : Kept M z₀ s) : OutOk M z₀ (@execHotReset s) := by
  unfold execHotReset
  exact OutOk.next (State.setBit_kept m_regs (State.linkDown_kept m_regs m_eng m_fab m_par m_cal m_ctx m_mov m_pcie m_keep
      m_ngx (by assumption)))

theorem execVfEnableClear_kept {M : Mask} {z₀ : State} {ctl : BitVec 16} {num : BitVec 16} {s : State} (m_regs : M.regs =
    true) (m_eng : M.eng = true) (m_fab : M.fab = true) (m_par : M.par = true) (m_cal : M.cal = true) (m_ctx : M.ctx = true)
    (m_mov : M.mov = true) (m_pcie : M.pcie = true) (m_keep : M.keep = true) (m_ngx : M.ngx = true) (h2 : Kept M z₀ s) :
    OutOk M z₀ (@execVfEnableClear ctl num s) := by
  unfold execVfEnableClear
  refine ite_ok ?_ ?_
  · exact OutOk.next (by assumption)
  · extract_lets x0 x1 x2 x3
    clear_value x0
    have k4 : Kept M z₀ x1 := by
      dsimp -zeta only [x1]
      refine foldl_kept ?_ ?_
      · assumption
      · intro v5
        intro v6
        intro v7
        exact State.flr_kept m_regs m_eng m_fab m_par m_cal m_ctx m_mov m_pcie m_keep m_ngx (by assumption)
    clear_value x1 x2 x3
    exact OutOk.next (Kept.upPcie m_pcie (by assumption))

theorem execPfFlr_kept {M : Mask} {z₀ : State} {s : State} (m_regs : M.regs = true) (m_eng : M.eng = true) (m_fab : M.fab =
    true) (m_par : M.par = true) (m_cal : M.cal = true) (m_ctx : M.ctx = true) (m_mov : M.mov = true) (m_pcie : M.pcie =
    true) (m_keep : M.keep = true) (m_ngx : M.ngx = true) (h0 : Kept M z₀ s) : OutOk M z₀ (@execPfFlr s) := by
  unfold execPfFlr
  exact OutOk.next (State.pfFlr_kept m_regs m_eng m_fab m_par m_cal m_ctx m_mov m_pcie m_keep m_ngx (by assumption))

theorem execFlr_kept {M : Mask} {z₀ : State} {f : Fin 64} {dc : BitVec 16} {dc2 : BitVec 16} {lc : BitVec 16} {s : State}
    (m_regs : M.regs = true) (m_eng : M.eng = true) (m_fab : M.fab = true) (m_par : M.par = true) (m_cal : M.cal = true)
    (m_ctx : M.ctx = true) (m_mov : M.mov = true) (m_pcie : M.pcie = true) (m_keep : M.keep = true) (m_ngx : M.ngx = true)
    (h4 : Kept M z₀ s) : OutOk M z₀ (@execFlr f dc dc2 lc s) := by
  unfold execFlr
  extract_lets x0 x1 x2
  clear_value x0 x1
  have k3 : Kept M z₀ x2 := by
    dsimp -zeta only [x2]
    refine ite_kept ?_ ?_
    · exact Kept.upPcie m_pcie (by assumption)
    · assumption
  clear_value x2
  refine ite_ok ?_ ?_
  · exact OutOk.next (State.aer_kept m_pcie (by assumption))
  · refine OutOk.next ?_
    refine ite_kept ?_ ?_
    · assumption
    · refine ite_kept ?_ ?_
      · exact State.pfFlr_kept m_regs m_eng m_fab m_par m_cal m_ctx m_mov m_pcie m_keep m_ngx (by assumption)
      · exact State.flr_kept m_regs m_eng m_fab m_par m_cal m_ctx m_mov m_pcie m_keep m_ngx (by assumption)

end Sys2Proof.Machine
end

