-- ==== Sys2Proof/Laws/KeptRepair.lean ====
section
/-! SUPPORT. What the operations and meanings of Machine/Repair.lean keep (Laws/Kept.lean). -/

namespace Sys2Proof.Machine

theorem State.lmRestore_kept {M : Mask} {z₀ : State} {s : State} {e : Nat} (m_eng : M.eng = true) (m_cal : M.cal = true) (h0
    : Kept M z₀ s) : Kept M z₀ (@State.lmRestore s e) := by
  unfold State.lmRestore
  extract_lets x0 x1 x2 x3 x4
  clear_value x0
  subst x1
  have k5 : Kept M z₀ x2 := by
    dsimp -zeta only [x2]
    exact Kept.upCal m_cal ⟨rfl, rfl, rfl, rfl⟩ (by assumption)
  clear_value x2 x3 x4
  refine ite_kept ?_ ?_
  · assumption
  · exact State.setEngine_kept m_eng (by assumption)

theorem State.sinterRestore_kept {M : Mask} {z₀ : State} {s : State} (m_regs : M.regs = true) (m_fab : M.fab = true) (m_cal :
    M.cal = true) (m_calMem : M.calMem = true) (h0 : Kept M z₀ s) : Kept M z₀ (@State.sinterRestore s) := by
  unfold State.sinterRestore
  generalize List.range 256 = l256
  extract_lets k c soft x1 x2
  split
  · exact h0
  · have k1 : Kept M z₀ x1 := Kept.cells m_cal m_calMem h0 (fun i => 256 * k.region + i) (fun i => k.buf.getD i 0) l256 soft _
    clear_value x1
    have k2 : Kept M z₀ x2 := by
      dsimp -zeta only [x2]
      split
      · exact State.setBit_kept m_regs k1
      · exact k1
    clear_value x2
    exact State.setBit_kept m_regs (State.busAccess_kept m_fab k2)

theorem State.rowRepair_kept {M : Mask} {z₀ : State} {s : State} {br : Nat} (m_regs : M.regs = true) (m_fab : M.fab = true)
    (m_cal : M.cal = true) (m_ctx : M.ctx = true) (m_pcie : M.pcie = true) (m_ngx : M.ngx = true) (h0 : Kept M z₀ s) : Kept M
    z₀ (@State.rowRepair s br) := by
  unfold State.rowRepair
  extract_lets x0 x1 x2 x3 x4 x5
  clear_value x0 x1 x2
  have k6 : Kept M z₀ x3 := by
    dsimp -zeta only [x3]
    refine foldl_kept ?_ ?_
    · assumption
    · intro v7
      intro v8
      intro v9
      extract_lets x10
      have k11 : Kept M z₀ x10.2 := by
        dsimp -zeta only [x10]
        exact State.eccRead_kept m_regs m_fab m_cal m_ctx m_pcie m_ngx (by assumption)
      clear_value x10
      exact State.setEcc_kept m_regs m_cal (by assumption)
  clear_value x3
  subst x4
  have k12 : Kept M z₀ x5 := by
    dsimp -zeta only [x5]
    exact Kept.upCal m_cal ⟨rfl, rfl, rfl, rfl⟩ (by assumption)
  clear_value x5
  refine ite_kept ?_ ?_
  · assumption
  · refine ite_kept ?_ ?_
    · exact State.tileOutcome_kept m_regs m_fab m_cal m_ctx m_pcie m_ngx (by assumption)
    · exact State.setBit_kept m_regs (State.setFld_kept m_regs (by assumption))

theorem State.lmRegionFails_kept {M : Mask} {z₀ : State} {s : State} {e : Nat} {r : Nat} (m_regs : M.regs = true) (m_cal :
    M.cal = true) (h0 : Kept M z₀ s) : Kept M z₀ (@State.lmRegionFails s e r) := by
  unfold State.lmRegionFails
  refine ite_kept ?_ ?_
  · assumption
  · extract_lets x0 x1
    subst x0
    have k2 : Kept M z₀ x1 := by
      dsimp -zeta only [x1]
      exact Kept.upCal m_cal ⟨rfl, rfl, rfl, rfl⟩ (by assumption)
    clear_value x1
    exact State.setFld_kept m_regs (State.bump_kept m_regs (by assumption))

theorem State.lmRegionRepair_kept {M : Mask} {z₀ : State} {s : State} {e : Nat} {r : Nat} (m_regs : M.regs = true) (m_eng :
    M.eng = true) (m_fab : M.fab = true) (m_cal : M.cal = true) (m_ctx : M.ctx = true) (m_pcie : M.pcie = true) (m_ngx :
    M.ngx = true) (h0 : Kept M z₀ s) : Kept M z₀ (@State.lmRegionRepair s e r) := by
  unfold State.lmRegionRepair
  extract_lets x0 x1 x2 x3 x4 x5 x6 x7 x8 x9
  clear_value x0 x1 x2 x3
  have k10 : Kept M z₀ x4 := by
    dsimp -zeta only [x4]
    exact State.setFld_kept m_regs (State.setEngine_kept m_eng (by assumption))
  clear_value x4
  have k11 : Kept M z₀ x5 := by
    dsimp -zeta only [x5]
    exact State.setBit_kept m_regs (by assumption)
  clear_value x5
  subst x6
  clear_value x7
  subst x8
  have k12 : Kept M z₀ x9 := by
    dsimp -zeta only [x9]
    exact Kept.upCal m_cal ⟨rfl, rfl, rfl, rfl⟩ (by assumption)
  clear_value x9
  refine ite_kept ?_ ?_
  · assumption
  · refine ite_kept ?_ ?_
    · exact Kept.upCal m_cal ⟨rfl, rfl, rfl, rfl⟩ (by assumption)
    · refine ite_kept ?_ ?_
      · assumption
      · refine foldl_kept ?_ ?_
        · assumption
        · intro v13
          intro v14
          intro v15
          exact State.logEvent_kept m_regs m_fab m_ctx m_pcie m_ngx (by assumption)

theorem execLmRegionRepair_kept {M : Mask} {z₀ : State} {e : Fin 32} {r : Fin 1024} {s : State} (m_regs : M.regs = true)
    (m_eng : M.eng = true) (m_fab : M.fab = true) (m_cal : M.cal = true) (m_ctx : M.ctx = true) (m_pcie : M.pcie = true)
    (m_ngx : M.ngx = true) (h2 : Kept M z₀ s) : OutOk M z₀ (@execLmRegionRepair e r s) := by
  unfold execLmRegionRepair
  exact OutOk.next (State.lmRegionRepair_kept m_regs m_eng m_fab m_cal m_ctx m_pcie m_ngx (by assumption))

theorem execProtectedTileRelocation_kept {M : Mask} {z₀ : State} {t : Fin 16384} {s : State} (m_regs : M.regs = true) (m_fab
    : M.fab = true) (m_cal : M.cal = true) (m_ctx : M.ctx = true) (m_pcie : M.pcie = true) (m_keep : M.keep = true) (m_ngx :
    M.ngx = true) (m_calMem : M.calMem = true) (h1 : Kept M z₀ s) : OutOk M z₀ (@execProtectedTileRelocation t s) := by
  unfold execProtectedTileRelocation
  extract_lets x0 x1 x2 x3 x4 x5
  clear_value x0 x1 x2 x3 x4 x5
  split
  · refine ite_ok ?_ ?_
    · exact OutOk.next (by assumption)
    · extract_lets x6 x7
      have k8 : Kept M z₀ x6 := by
        dsimp -zeta only [x6]
        refine foldl_kept ?_ ?_
        · assumption
        · intro v9
          intro v10
          intro v11
          extract_lets x12 x13
          have k14 : Kept M z₀ x12.2 := by
            dsimp -zeta only [x12]
            exact State.eccRead_kept m_regs m_fab m_cal m_ctx m_pcie m_ngx (by assumption)
          clear_value x12 x13
          exact State.calWrite_kept m_regs m_fab m_cal m_ctx m_pcie m_ngx m_calMem (by assumption)
      clear_value x6
      have k15 : Kept M z₀ x7 := by
        dsimp -zeta only [x7]
        exact State.setReg_kept m_regs (by assumption)
      clear_value x7
      exact OutOk.next (State.histBegin_kept m_keep (State.setTile_kept m_cal (State.retireTile_kept m_regs m_cal (by
          assumption))))
  · exact OutOk.next (by assumption)

theorem execRowRepair_kept {M : Mask} {z₀ : State} {br : Fin 65536} {s : State} (m_regs : M.regs = true) (m_fab : M.fab =
    true) (m_cal : M.cal = true) (m_ctx : M.ctx = true) (m_pcie : M.pcie = true) (m_ngx : M.ngx = true) (h1 : Kept M z₀ s) :
    OutOk M z₀ (@execRowRepair br s) := by
  unfold execRowRepair
  exact OutOk.next (State.rowRepair_kept m_regs m_fab m_cal m_ctx m_pcie m_ngx (by assumption))

theorem execLmSinterRegionStart_kept {M : Mask} {z₀ : State} {e : Fin 32} {bad : BitVec 64} {s : State} (m_regs : M.regs =
    true) (m_cal : M.cal = true) (h2 : Kept M z₀ s) : OutOk M z₀ (@execLmSinterRegionStart e bad s) := by
  unfold execLmSinterRegionStart
  extract_lets x0 x1 x2 x3 x4 x5 x6 x7 x8 x9 x10 x11
  clear_value x0 x1 x2 x3 x4
  have k12 : Kept M z₀ x5 := by
    dsimp -zeta only [x5]
    exact State.lmEccNote_kept m_regs (by assumption)
  clear_value x5 x6 x7
  subst x8
  have k13 : Kept M z₀ x9 := by
    dsimp -zeta only [x9]
    exact Kept.upCal m_cal ⟨rfl, rfl, rfl, rfl⟩ (by assumption)
  clear_value x9 x10 x11
  refine ite_ok ?_ ?_
  · exact OutOk.next (by assumption)
  · refine OutOk.next ?_
    refine ite_kept ?_ ?_
    · exact State.lmRegionFails_kept m_regs m_cal (by assumption)
    · assumption

theorem execSinterRestore_kept {M : Mask} {z₀ : State} {s : State} (m_regs : M.regs = true) (m_fab : M.fab = true) (m_cal :
    M.cal = true) (m_calMem : M.calMem = true) (h0 : Kept M z₀ s) : OutOk M z₀ (@execSinterRestore s) := by
  unfold execSinterRestore
  exact OutOk.next (State.sinterRestore_kept m_regs m_fab m_cal m_calMem (by assumption))

theorem State.sinterSave_kept {M : Mask} {z₀ : State} {s : State} {r : Nat} (m_regs : M.regs = true) (m_fab : M.fab = true)
    (m_cal : M.cal = true) (m_ctx : M.ctx = true) (m_pcie : M.pcie = true) (m_ngx : M.ngx = true) (h0 : Kept M z₀ s) : Kept M
    z₀ (@State.sinterSave s r).2.2 := by
  unfold State.sinterSave
  extract_lets x0 x1
  have k4 : ∀ y2 y3, Kept M z₀ y2.2 → Kept M z₀ (x0 y2 y3).2 := by
    intro v5
    intro v6
    intro v7
    dsimp -zeta only [x0]
    extract_lets x8
    have k9 : Kept M z₀ x8.2 := by
      dsimp -zeta only [x8]
      exact State.eccRead_kept m_regs m_fab m_cal m_ctx m_pcie m_ngx (by assumption)
    clear_value x8
    assumption
  clear_value x0
  have k10 : Kept M z₀ x1.2 := by
    dsimp -zeta only [x1]
    refine foldl_kept2 ?_ ?_
    · assumption
    · intro v11
      intro v12
      intro v13
      apply k4
      assumption
  clear_value x1
  assumption

theorem execSinterRegionStart_kept {M : Mask} {z₀ : State} {bad : BitVec 32} {s : State} (m_regs : M.regs = true) (m_fab :
    M.fab = true) (m_cal : M.cal = true) (m_ctx : M.ctx = true) (m_pcie : M.pcie = true) (m_ngx : M.ngx = true) (h1 : Kept M
    z₀ s) : OutOk M z₀ (@execSinterRegionStart bad s) := by
  unfold execSinterRegionStart
  extract_lets x0
  clear_value x0
  refine ite_ok ?_ ?_
  · exact OutOk.next (by assumption)
  · split
    · exact OutOk.next (by assumption)
    · extract_lets x1 x2 x3 x4 x5 x6 x7 x8 x9 x10
      have k11 : Kept M z₀ x1 := by
        dsimp -zeta only [x1]
        refine ite_kept ?_ ?_
        · exact State.count_kept m_regs (by assumption)
        · assumption
      clear_value x1
      have k12 : Kept M z₀ x2 := by
        dsimp -zeta only [x2]
        exact State.setBit_kept m_regs (by assumption)
      clear_value x2
      have k13 : Kept M z₀ x3 := by
        dsimp -zeta only [x3]
        exact State.busAccess_kept m_fab (by assumption)
      clear_value x3
      have k14 : Kept M z₀ x4.2.2 := by
        dsimp -zeta only [x4]
        exact State.sinterSave_kept m_regs m_fab m_cal m_ctx m_pcie m_ngx (by assumption)
      clear_value x4
      have k15 : Kept M z₀ x5 := by
        dsimp -zeta only [x5]
        assumption
      clear_value x5 x6
      subst x7
      have k16 : Kept M z₀ x8 := by
        dsimp -zeta only [x8]
        exact Kept.upCal m_cal ⟨rfl, rfl, rfl, rfl⟩ (by assumption)
      clear_value x8
      have k17 : Kept M z₀ x9 := by
        dsimp -zeta only [x9]
        exact State.setBit_kept m_regs (State.setFld_kept m_regs (by assumption))
      clear_value x9 x10
      refine OutOk.next ?_
      refine ite_kept ?_ ?_
      · exact State.rowFailing_kept m_regs m_fab m_cal m_ctx m_pcie m_ngx (State.bump_kept m_regs (by assumption))
      · assumption

theorem State.tileCommand_kept {M : Mask} {z₀ : State} {s : State} {op : Nat} (m_regs : M.regs = true) (m_cal : M.cal = true)
    (h0 : Kept M z₀ s) : Kept M z₀ (@State.tileCommand s op) := by
  unfold State.tileCommand
  extract_lets x0 x1 x2 x3 x4 x5 x6
  clear_value x0 x1 x2 x3 x4 x5
  have k7 : Kept M z₀ x6 := by
    dsimp -zeta only [x6]
    exact State.setBit_kept m_regs (by assumption)
  clear_value x6
  refine ite_kept ?_ ?_
  · assumption
  · refine ite_kept ?_ ?_
    · exact State.setBit_kept m_regs (by assumption)
    · refine foldl_kept ?_ ?_
      · assumption
      · intro v8
        intro v9
        intro v10
        refine ite_kept ?_ ?_
        · exact State.setTile_kept m_cal (by assumption)
        · refine ite_kept ?_ ?_
          · exact State.retireTile_kept m_regs m_cal (by assumption)
          · exact State.setTile_kept m_cal (by assumption)

theorem execTileRelease_kept {M : Mask} {z₀ : State} {s : State} (m_regs : M.regs = true) (m_cal : M.cal = true) (h0 : Kept M
    z₀ s) : OutOk M z₀ (@execTileRelease s) := by
  unfold execTileRelease
  exact OutOk.next (State.tileCommand_kept m_regs m_cal (by assumption))

theorem execTileAssign_kept {M : Mask} {z₀ : State} {s : State} (m_regs : M.regs = true) (m_cal : M.cal = true) (h0 : Kept M
    z₀ s) : OutOk M z₀ (@execTileAssign s) := by
  unfold execTileAssign
  exact OutOk.next (State.tileCommand_kept m_regs m_cal (by assumption))

end Sys2Proof.Machine
end

