-- ==== Sys2Proof/Laws/KeptPower.lean ====
section
/-! SUPPORT. What the operations and meanings of Machine/Power.lean keep (Laws/Kept.lean). -/

namespace Sys2Proof.Machine

theorem State.modPwr_kept {M : Mask} {z₀ : State} {s : State} {f : PowerState → PowerState} (m_pwr : M.pwr = true) (h0 : Kept
    M z₀ s) : Kept M z₀ (@State.modPwr s f) := by
  unfold State.modPwr
  exact Kept.upPwr m_pwr (by assumption)

theorem State.setIsland_kept {M : Mask} {z₀ : State} {s : State} {i : Nat} {v : Nat} (m_regs : M.regs = true) (h0 : Kept M z₀
    s) : Kept M z₀ (@State.setIsland s i v) := by
  unfold State.setIsland
  exact State.setFld_kept m_regs (by assumption)

theorem State.shedCluster_kept {M : Mask} {z₀ : State} {s : State} {c : Nat} (m_regs : M.regs = true) (m_pwr : M.pwr = true)
    (h0 : Kept M z₀ s) : Kept M z₀ (@State.shedCluster s c) := by
  unfold State.shedCluster
  extract_lets x0
  have k1 : Kept M z₀ x0 := by
    dsimp -zeta only [x0]
    exact State.bump_kept m_regs (State.setBit_kept m_regs (State.setIsland_kept m_regs (by assumption)))
  clear_value x0
  exact State.modPwr_kept m_pwr (by assumption)

theorem State.shedDue_kept {M : Mask} {z₀ : State} {s : State} (m_regs : M.regs = true) (m_fab : M.fab = true) (m_keep :
    M.keep = true) (m_pwr : M.pwr = true) (h0 : Kept M z₀ s) : Kept M z₀ (@State.shedDue s) := by
  unfold State.shedDue
  extract_lets x0 x1
  clear_value x0
  have k2 : Kept M z₀ x1 := by
    dsimp -zeta only [x1]
    exact State.modPwr_kept m_pwr (by assumption)
  clear_value x1
  refine ite_kept ?_ ?_
  · assumption
  · refine State.modeDo_kept m_regs m_fab m_keep ?_ ?_
    · assumption
    · intro v3
      intro v4
      refine foldl_kept ?_ ?_
      · assumption
      · intro v5
        intro v6
        intro v7
        exact State.shedCluster_kept m_regs m_pwr (by assumption)

theorem State.stopShed_kept {M : Mask} {z₀ : State} {s : State} (m_fab : M.fab = true) (h0 : Kept M z₀ s) : Kept M z₀
    (@State.stopShed s) := by
  unfold State.stopShed
  refine foldl_kept ?_ ?_
  · assumption
  · intro v0
    intro v1
    intro v2
    refine ite_kept ?_ ?_
    · exact State.stopClock_kept m_fab (by assumption)
    · assumption

theorem State.keepSeq_kept {M : Mask} {z₀ : State} {s : State} {v : Word} (m_regs : M.regs = true) (h0 : Kept M z₀ s) : Kept
    M z₀ (@State.keepSeq s v) := by
  unfold State.keepSeq
  exact State.setReg_kept m_regs (by assumption)

theorem State.powerDown_kept {M : Mask} {z₀ : State} {s : State} {next : SeqNext} (m_pwr : M.pwr = true) (h0 : Kept M z₀ s) :
    Kept M z₀ (@State.powerDown s next) := by
  unfold State.powerDown
  exact State.modPwr_kept m_pwr (by assumption)

theorem State.goDormant_kept {M : Mask} {z₀ : State} {s : State} (m_regs : M.regs = true) (m_latches : M.latches = true)
    (m_rdata : M.rdata = true) (m_eng : M.eng = true) (m_chainNow : M.chainNow = true) (m_chainId : M.chainId = true)
    (m_chainFrz : M.chainFrz = true) (m_chainTorn : M.chainTorn = true) (m_chainIn : M.chainIn = true) (m_fab : M.fab = true)
    (m_tick : M.tick = true) (m_par : M.par = true) (m_cal : M.cal = true) (m_res : M.res = true) (m_ctx : M.ctx = true)
    (m_mode : M.mode = true) (m_route : M.route = true) (m_mov : M.mov = true) (m_port : M.port = true) (m_pcie : M.pcie =
    true) (m_clk : M.clk = true) (m_keep : M.keep = true) (m_pwr : M.pwr = true) (m_ngx : M.ngx = true) (m_boot : M.boot =
    true) (m_spim : M.spim = true) (m_spis : M.spis = true) (m_test : M.test = true) (m_tap : M.tap = true) (m_gpio : M.gpio
    = true) (m_calMem : M.calMem = true) (m_tcm : M.tcm = true) (h0 : Kept M z₀ s) : Kept M z₀ (@State.goDormant s) := by
  unfold State.goDormant
  extract_lets x0 x1 x2 x3 x4 x5 x6 x7 x8
  have k9 : Kept M z₀ x0 := by
    dsimp -zeta only [x0]
    exact State.modPwr_kept m_pwr (State.saveRepairs_kept m_cal (by assumption))
  clear_value x0
  have k10 : Kept M z₀ x1 := by
    dsimp -zeta only [x1]
    refine State.modeDo_kept m_regs m_fab m_keep ?_ ?_
    · assumption
    · intro v11
      intro v12
      exact Kept.upMode m_mode (by assumption)
  clear_value x1 x2 x3
  have k13 : Kept M z₀ x4 := by
    dsimp -zeta only [x4]
    exact Kept.upFab m_fab (by assumption)
  clear_value x4
  have k14 : Kept M z₀ x5 := by
    dsimp -zeta only [x5]
    exact State.setFld_kept m_regs (State.devReset_kept m_regs m_latches m_rdata m_eng m_chainNow m_chainId m_chainFrz
        m_chainTorn m_chainIn m_fab m_tick m_par m_cal m_res m_ctx m_mode m_route m_mov m_port m_pcie m_clk m_keep m_pwr
        m_ngx m_boot m_spim m_spis m_test m_tap m_gpio m_calMem m_tcm (by assumption))
  clear_value x5 x6 x7
  have k15 : Kept M z₀ x8 := by
    dsimp -zeta only [x8]
    exact Kept.lit (s := x5) { mode := .inl m_mode, pcie := .inl m_pcie } (by assumption)
  clear_value x8
  exact State.powerDown_kept m_pwr (State.modPwr_kept m_pwr (by assumption))

theorem State.afterClamp_kept {M : Mask} {z₀ : State} {s : State} (m_regs : M.regs = true) (m_latches : M.latches = true)
    (m_rdata : M.rdata = true) (m_eng : M.eng = true) (m_chainNow : M.chainNow = true) (m_chainId : M.chainId = true)
    (m_chainFrz : M.chainFrz = true) (m_chainTorn : M.chainTorn = true) (m_chainIn : M.chainIn = true) (m_fab : M.fab = true)
    (m_tick : M.tick = true) (m_par : M.par = true) (m_cal : M.cal = true) (m_res : M.res = true) (m_ctx : M.ctx = true)
    (m_mode : M.mode = true) (m_route : M.route = true) (m_mov : M.mov = true) (m_port : M.port = true) (m_pcie : M.pcie =
    true) (m_clk : M.clk = true) (m_keep : M.keep = true) (m_pwr : M.pwr = true) (m_ngx : M.ngx = true) (m_boot : M.boot =
    true) (m_spim : M.spim = true) (m_spis : M.spis = true) (m_test : M.test = true) (m_tap : M.tap = true) (m_gpio : M.gpio
    = true) (m_calMem : M.calMem = true) (m_tcm : M.tcm = true) (h0 : Kept M z₀ s) : Kept M z₀ (@State.afterClamp s) := by
  unfold State.afterClamp
  refine ite_kept ?_ ?_
  · exact State.goDormant_kept m_regs m_latches m_rdata m_eng m_chainNow m_chainId m_chainFrz m_chainTorn m_chainIn m_fab
      m_tick m_par m_cal m_res m_ctx m_mode m_route m_mov m_port m_pcie m_clk m_keep m_pwr m_ngx m_boot m_spim m_spis m_test
      m_tap m_gpio m_calMem m_tcm (by assumption)
  · assumption

theorem State.dormCtrlW_kept {M : Mask} {z₀ : State} {s : State} {v : Word} (m_regs : M.regs = true) (m_latches : M.latches =
    true) (m_rdata : M.rdata = true) (m_eng : M.eng = true) (m_chainNow : M.chainNow = true) (m_chainId : M.chainId = true)
    (m_chainFrz : M.chainFrz = true) (m_chainTorn : M.chainTorn = true) (m_chainIn : M.chainIn = true) (m_fab : M.fab = true)
    (m_tick : M.tick = true) (m_par : M.par = true) (m_cal : M.cal = true) (m_res : M.res = true) (m_ctx : M.ctx = true)
    (m_mode : M.mode = true) (m_route : M.route = true) (m_mov : M.mov = true) (m_port : M.port = true) (m_pcie : M.pcie =
    true) (m_clk : M.clk = true) (m_keep : M.keep = true) (m_pwr : M.pwr = true) (m_ngx : M.ngx = true) (m_boot : M.boot =
    true) (m_spim : M.spim = true) (m_spis : M.spis = true) (m_test : M.test = true) (m_tap : M.tap = true) (m_gpio : M.gpio
    = true) (m_calMem : M.calMem = true) (m_tcm : M.tcm = true) (h0 : Kept M z₀ s) : Kept M z₀ (@State.dormCtrlW s v) := by
  unfold State.dormCtrlW
  extract_lets x0 x1
  have k2 : Kept M z₀ x0 := by
    dsimp -zeta only [x0]
    refine ite_kept ?_ ?_
    · exact State.setBit_kept m_regs (by assumption)
    · assumption
  clear_value x0
  have k3 : Kept M z₀ x1 := by
    dsimp -zeta only [x1]
    exact State.setFld_kept m_regs (by assumption)
  clear_value x1
  refine ite_kept ?_ ?_
  · assumption
  · refine ite_kept ?_ ?_
    · exact State.setBit_kept m_regs (by assumption)
    · exact State.afterClamp_kept m_regs m_latches m_rdata m_eng m_chainNow m_chainId m_chainFrz m_chainTorn m_chainIn m_fab
        m_tick m_par m_cal m_res m_ctx m_mode m_route m_mov m_port m_pcie m_clk m_keep m_pwr m_ngx m_boot m_spim m_spis
        m_test m_tap m_gpio m_calMem m_tcm (State.modPwr_kept m_pwr (State.dacStopAll_kept m_regs m_port (by assumption)))

theorem State.capCtrlW_kept {M : Mask} {z₀ : State} {s : State} {v : Word} (m_regs : M.regs = true) (h0 : Kept M z₀ s) : Kept
    M z₀ (@State.capCtrlW s v) := by
  unfold State.capCtrlW
  extract_lets x0
  have k1 : Kept M z₀ x0 := by
    dsimp -zeta only [x0]
    refine ite_kept ?_ ?_
    · exact State.setBit_kept m_regs (by assumption)
    · assumption
  clear_value x0
  refine ite_kept ?_ ?_
  · exact State.setBit_kept m_regs (by assumption)
  · exact State.setReg_kept m_regs (by assumption)

theorem State.goIdle_kept {M : Mask} {z₀ : State} {s : State} (m_regs : M.regs = true) (m_tick : M.tick = true) (m_mode :
    M.mode = true) (h0 : Kept M z₀ s) : Kept M z₀ (@State.goIdle s) := by
  unfold State.goIdle
  refine ite_kept ?_ ?_
  · extract_lets x0 x1
    have k2 : Kept M z₀ x0 := by
      dsimp -zeta only [x0]
      exact State.setBit_kept m_regs (by assumption)
    clear_value x0 x1
    exact Kept.upMode m_mode (by assumption)
  · refine ite_kept ?_ ?_
    · exact State.setBit_kept m_regs (by assumption)
    · exact Kept.upTick m_tick (by assumption)

theorem State.goRun_kept {M : Mask} {z₀ : State} {s : State} (m_regs : M.regs = true) (m_tick : M.tick = true) (m_mode :
    M.mode = true) (m_ngx : M.ngx = true) (h0 : Kept M z₀ s) : Kept M z₀ (@State.goRun s) := by
  unfold State.goRun
  refine ite_kept ?_ ?_
  · exact State.setBit_kept m_regs (by assumption)
  · extract_lets x0 x1 x2 x3 x4
    clear_value x0
    have k5 : Kept M z₀ x1 := by
      dsimp -zeta only [x1]
      exact State.setBit_kept m_regs (by assumption)
    clear_value x1 x2 x3 x4
    exact Kept.lit (s := x1) { tick := .inl m_tick, mode := .inl m_mode, ngx := .inl m_ngx } (by assumption)

theorem State.modeCmdW_kept {M : Mask} {z₀ : State} {s : State} {v : Word} (m_regs : M.regs = true) (m_tick : M.tick = true)
    (m_mode : M.mode = true) (m_ngx : M.ngx = true) (h0 : Kept M z₀ s) : Kept M z₀ (@State.modeCmdW s v) := by
  unfold State.modeCmdW
  extract_lets x0 x1
  have k2 : Kept M z₀ x0 := by
    dsimp -zeta only [x0]
    refine ite_kept ?_ ?_
    · exact State.setBit_kept m_regs (by assumption)
    · assumption
  clear_value x0
  have k3 : Kept M z₀ x1 := by
    dsimp -zeta only [x1]
    exact State.setFld_kept m_regs (by assumption)
  clear_value x1
  refine ite_kept ?_ ?_
  · assumption
  · refine ite_kept ?_ ?_
    · exact State.goRun_kept m_regs m_tick m_mode m_ngx (by assumption)
    · refine ite_kept ?_ ?_
      · exact State.goIdle_kept m_regs m_tick m_mode (by assumption)
      · exact State.setBit_kept m_regs (by assumption)

theorem State.unshed_kept {M : Mask} {z₀ : State} {s : State} {c : Nat} {v : Nat} (m_regs : M.regs = true) (m_fab : M.fab =
    true) (m_pwr : M.pwr = true) (h0 : Kept M z₀ s) : Kept M z₀ (@State.unshed s c v) := by
  unfold State.unshed
  extract_lets x0
  have k1 : Kept M z₀ x0 := by
    dsimp -zeta only [x0]
    exact State.setBit_kept m_regs (State.setIsland_kept m_regs (by assumption))
  clear_value x0
  exact State.modPwr_kept m_pwr (State.startClock_kept m_fab (by assumption))

theorem State.decideShed_kept {M : Mask} {z₀ : State} {s : State} {c : Nat} (m_pwr : M.pwr = true) (h0 : Kept M z₀ s) : Kept
    M z₀ (@State.decideShed s c) := by
  unfold State.decideShed
  extract_lets x0 x1
  clear_value x0 x1
  exact State.modPwr_kept m_pwr (by assumption)

theorem execCapSample_kept {M : Mask} {z₀ : State} {temps : List (BitVec 16)} {est : Fin 4096} {s : State} (m_regs : M.regs =
    true) (m_fab : M.fab = true) (m_keep : M.keep = true) (m_pwr : M.pwr = true) (h2 : Kept M z₀ s) : OutOk M z₀
    (@execCapSample temps est s) := by
  unfold execCapSample
  extract_lets x0 x1 x2 x3 x4 x5 x6 x7 x8 x9 x10 x11 x12 x13
  have k14 : Kept M z₀ x0 := by
    dsimp -zeta only [x0]
    refine forN_kept ?_ ?_
    · assumption
    · intro v15
      intro v16
      intro v17
      exact State.setReg_kept m_regs (by assumption)
  clear_value x0
  have k18 : Kept M z₀ x1 := by
    dsimp -zeta only [x1]
    exact State.setFld_kept m_regs (by assumption)
  clear_value x1 x2 x3 x4 x5
  have k19 : Kept M z₀ x6 := by
    dsimp -zeta only [x6]
    exact State.setBit_kept m_regs (by assumption)
  clear_value x6
  have k20 : Kept M z₀ x7 := by
    dsimp -zeta only [x7]
    exact State.setBit_kept m_regs (by assumption)
  clear_value x7 x8
  have k21 : Kept M z₀ x9 := by
    dsimp -zeta only [x9]
    exact State.modPwr_kept m_pwr (by assumption)
  clear_value x9
  have k22 : Kept M z₀ x10 := by
    dsimp -zeta only [x10]
    exact State.modPwr_kept m_pwr (State.setBit_kept m_regs (by assumption))
  clear_value x10
  have k23 : Kept M z₀ x11 := by
    dsimp -zeta only [x11]
    refine ite_kept ?_ ?_
    · refine foldl_kept ?_ ?_
      · assumption
      · intro v24
        intro v25
        intro v26
        exact State.decideShed_kept m_pwr (by assumption)
    · assumption
  clear_value x11 x12 x13
  refine ite_ok ?_ ?_
  · exact OutOk.next (by assumption)
  · refine ite_ok ?_ ?_
    · refine OutOk.next ?_
      split
      · exact State.decideShed_kept m_pwr (by assumption)
      · assumption
    · refine ite_ok ?_ ?_
      · split
        · exact OutOk.next (by assumption)
        · extract_lets x27
          have k28 : Kept M z₀ x27 := by
            dsimp -zeta only [x27]
            refine State.modeDo_kept m_regs m_fab m_keep ?_ ?_
            · assumption
            · intro v29
              intro v30
              exact State.unshed_kept m_regs m_fab m_pwr (by assumption)
          clear_value x27
          exact OutOk.next (State.modPwr_kept m_pwr (by assumption))
      · exact OutOk.next (by assumption)

theorem State.psResult_kept {M : Mask} {z₀ : State} {s : State} {cause : Nat} {isl : Nat} (m_regs : M.regs = true) (h0 : Kept
    M z₀ s) : Kept M z₀ (@State.psResult s cause isl) := by
  unfold State.psResult
  exact State.setReg_kept m_regs (by assumption)

theorem State.powerDone_kept {M : Mask} {z₀ : State} {s : State} (m_regs : M.regs = true) (m_ctx : M.ctx = true) (m_pwr :
    M.pwr = true) (h0 : Kept M z₀ s) : Kept M z₀ (@State.powerDone s) := by
  unfold State.powerDone
  split
  · assumption
  · refine ite_kept ?_ ?_
    · extract_lets x0 x1
      clear_value x0
      have k2 : Kept M z₀ x1 := by
        dsimp -zeta only [x1]
        exact State.psResult_kept m_regs (by assumption)
      clear_value x1
      exact State.modPwr_kept m_pwr (State.setResult_kept m_ctx (by assumption))
    · assumption

theorem execIslandPowerUp_kept {M : Mask} {z₀ : State} {i : Fin 14} {s : State} (m_regs : M.regs = true) (m_fab : M.fab =
    true) (m_ctx : M.ctx = true) (m_mov : M.mov = true) (m_pcie : M.pcie = true) (m_keep : M.keep = true) (m_pwr : M.pwr =
    true) (m_ngx : M.ngx = true) (h1 : Kept M z₀ s) : OutOk M z₀ (@execIslandPowerUp i s) := by
  unfold execIslandPowerUp
  extract_lets x0 x1 x2 x3 x4
  clear_value x0
  have k5 : Kept M z₀ x1 := by
    dsimp -zeta only [x1]
    exact State.setIsland_kept m_regs (by assumption)
  clear_value x1
  have k6 : Kept M z₀ x2 := by
    dsimp -zeta only [x2]
    exact State.startClock_kept m_fab (by assumption)
  clear_value x2
  have k7 : Kept M z₀ x3 := by
    dsimp -zeta only [x3]
    exact State.modPwr_kept m_pwr (by assumption)
  clear_value x3
  have k8 : Kept M z₀ x4 := by
    dsimp -zeta only [x4]
    refine ite_kept ?_ ?_
    · refine ite_kept ?_ ?_
      · refine State.modeDo_kept m_regs m_fab m_keep ?_ ?_
        · assumption
        · intro v9
          intro v10
          exact State.shedCluster_kept m_regs m_pwr (by assumption)
      · assumption
    · refine ite_kept ?_ ?_
      · exact State.unparkQuarter_kept m_regs m_fab m_ctx m_mov m_pcie m_ngx (by assumption)
      · assumption
  clear_value x4
  refine OutOk.next ?_
  split
  · assumption
  · refine ite_kept ?_ ?_
    · assumption
    · exact State.powerDone_kept m_regs m_ctx m_pwr (by assumption)

theorem State.quarterLost_kept {M : Mask} {z₀ : State} {s : State} {q : Nat} (m_cal : M.cal = true) (m_calMem : M.calMem =
    true) (h0 : Kept M z₀ s) : Kept M z₀ (@State.quarterLost s q) := by
  unfold State.quarterLost
  refine Kept.upBytes m_cal m_calMem (fun hc => ⟨?_, hc.2⟩) h0
  refine SMap.wf_keep hc.1 fun k hk => ?_
  have hq : calQuarter k ≠ q := by simpa using hk
  simp only [calDefault, SMap.get_set_other _ hq]

theorem State.clusterOff_kept {M : Mask} {z₀ : State} {s : State} {c : Nat} (m_regs : M.regs = true) (m_eng : M.eng = true)
    (m_chainNow : M.chainNow = true) (m_fab : M.fab = true) (m_par : M.par = true) (m_cal : M.cal = true) (h0 : Kept M z₀ s)
    : Kept M z₀ (@State.clusterOff s c) := by
  unfold State.clusterOff
  extract_lets x0 x1 x2
  clear_value x0
  have k3 : Kept M z₀ x1 := by
    dsimp -zeta only [x1]
    exact State.clusterClear_kept m_regs m_eng m_chainNow m_fab m_par (by assumption)
  clear_value x1
  have k4 : Kept M z₀ x2 := by
    dsimp -zeta only [x2]
    refine forN_kept ?_ ?_
    · assumption
    · intro v5
      intro v6
      intro v7
      extract_lets x8 x9 x10 x11 x12
      clear_value x8 x9
      have k13 : Kept M z₀ x10 := by
        dsimp -zeta only [x10]
        exact State.modEngine_kept m_eng (by assumption)
      clear_value x10
      subst x11
      have k14 : Kept M z₀ x12 := by
        dsimp -zeta only [x12]
        exact Kept.upCal m_cal ⟨rfl, rfl, rfl, rfl⟩ (by assumption)
      clear_value x12
      exact State.showSwaps_kept m_regs (by assumption)
  clear_value x2
  exact State.stopClock_kept m_fab (by assumption)

theorem execIslandPowerDown_kept {M : Mask} {z₀ : State} {i : Fin 14} {s : State} (m_regs : M.regs = true) (m_eng : M.eng =
    true) (m_chainNow : M.chainNow = true) (m_fab : M.fab = true) (m_par : M.par = true) (m_cal : M.cal = true) (m_ctx :
    M.ctx = true) (m_mov : M.mov = true) (m_port : M.port = true) (m_pcie : M.pcie = true) (m_pwr : M.pwr = true) (m_ngx :
    M.ngx = true) (m_spis : M.spis = true) (m_calMem : M.calMem = true) (h1 : Kept M z₀ s) : OutOk M z₀ (@execIslandPowerDown
    i s) := by
  unfold execIslandPowerDown
  extract_lets x0 x1
  clear_value x0 x1
  refine OutOk.next ?_
  split
  · assumption
  · refine ite_kept ?_ ?_
    · assumption
    · extract_lets x2 x3 x4 x5 x6 x7 x8 x9 x10 x11 x12 x13
      have k14 : Kept M z₀ x2 := by
        dsimp -zeta only [x2]
        refine ite_kept ?_ ?_
        · assumption
        · refine foldl_kept ?_ ?_
          · assumption
          · intro v15
            intro v16
            intro v17
            exact State.unmapLine_kept m_regs m_eng m_fab m_cal m_mov m_pcie (by assumption)
      clear_value x2
      have k18 : Kept M z₀ x3 := by
        dsimp -zeta only [x3]
        refine ite_kept ?_ ?_
        · exact State.sinterRestore_kept m_regs m_fab m_cal m_calMem (by assumption)
        · assumption
      clear_value x3
      have k19 : Kept M z₀ x4 := by
        dsimp -zeta only [x4]
        exact State.setFld_kept m_regs (by assumption)
      clear_value x4 x5 x6
      have k20 : Kept M z₀ x7 := by
        dsimp -zeta only [x7]
        exact State.setBit_kept m_regs (State.resetBlock_kept m_regs (State.resetBlock_kept m_regs (by assumption)))
      clear_value x7 x8
      have k21 : Kept M z₀ x9 := by
        dsimp -zeta only [x9]
        exact State.resetBlock_kept m_regs (State.dacClamp_kept m_regs m_port (by assumption))
      clear_value x9 x10
      have k22 : Kept M z₀ x11 := by
        dsimp -zeta only [x11]
        refine ite_kept ?_ ?_
        · exact State.clusterOff_kept m_regs m_eng m_chainNow m_fab m_par m_cal (by assumption)
        · refine ite_kept ?_ ?_
          · refine State.quarterLost_kept m_cal m_calMem ?_
            refine ite_kept ?_ ?_
            · exact State.loseQuarter_kept m_regs m_fab m_ctx m_mov m_pcie m_ngx (by assumption)
            · assumption
          · refine ite_kept ?_ ?_
            · exact Kept.upNgx m_ngx (by assumption)
            · refine ite_kept ?_ ?_
              · exact Kept.lit (s := x7) { port := .inl m_port, spis := .inl m_spis } (by assumption)
              · exact Kept.upPort m_port (by assumption)
      clear_value x11
      have k23 : Kept M z₀ x12 := by
        dsimp -zeta only [x12]
        exact State.setIsland_kept m_regs (by assumption)
      clear_value x12
      have k24 : Kept M z₀ x13 := by
        dsimp -zeta only [x13]
        refine foldl_kept ?_ ?_
        · assumption
        · intro v25
          intro v26
          intro v27
          exact State.logEvent_kept m_regs m_fab m_ctx m_pcie m_ngx (by assumption)
      clear_value x13
      exact State.powerDone_kept m_regs m_ctx m_pwr (by assumption)

theorem execWakeNRelease_kept {M : Mask} {z₀ : State} {s : State} (m_pwr : M.pwr = true) (h0 : Kept M z₀ s) : OutOk M z₀
    (@execWakeNRelease s) := by
  unfold execWakeNRelease
  refine OutOk.next ?_
  refine ite_kept ?_ ?_
  · exact State.modPwr_kept m_pwr (by assumption)
  · assumption

theorem State.powerUp_kept {M : Mask} {z₀ : State} {s : State} (m_pwr : M.pwr = true) (h0 : Kept M z₀ s) : Kept M z₀
    (@State.powerUp s) := by
  unfold State.powerUp
  exact State.modPwr_kept m_pwr (by assumption)

theorem State.wake_kept {M : Mask} {z₀ : State} {s : State} {src : Nat} (m_regs : M.regs = true) (m_pcie : M.pcie = true)
    (m_pwr : M.pwr = true) (h0 : Kept M z₀ s) : Kept M z₀ (@State.wake s src) := by
  unfold State.wake
  extract_lets x0 x1 x2 x3 x4
  have k5 : Kept M z₀ x0 := by
    dsimp -zeta only [x0]
    exact State.modPwr_kept m_pwr (State.setFld_kept m_regs (by assumption))
  clear_value x0 x1
  have k6 : Kept M z₀ x2 := by
    dsimp -zeta only [x2]
    refine ite_kept ?_ ?_
    · exact State.modPwr_kept m_pwr (by assumption)
    · assumption
  clear_value x2 x3
  have k7 : Kept M z₀ x4 := by
    dsimp -zeta only [x4]
    refine ite_kept ?_ ?_
    · exact Kept.upPcie m_pcie (by assumption)
    · assumption
  clear_value x4
  exact State.powerUp_kept m_pwr (by assumption)

theorem State.wakeBy_kept {M : Mask} {z₀ : State} {s : State} {src : Nat} (m_regs : M.regs = true) (m_pcie : M.pcie = true)
    (m_pwr : M.pwr = true) (h0 : Kept M z₀ s) : Kept M z₀ (@State.wakeBy s src) := by
  unfold State.wakeBy
  refine ite_kept ?_ ?_
  · assumption
  · split
    · exact State.wake_kept m_regs m_pcie m_pwr (by assumption)
    · refine ite_kept ?_ ?_
      · assumption
      · exact State.modPwr_kept m_pwr (by assumption)
    · assumption

theorem execWakeTimer_kept {M : Mask} {z₀ : State} {s : State} (m_regs : M.regs = true) (m_pcie : M.pcie = true) (m_pwr :
    M.pwr = true) (h0 : Kept M z₀ s) : OutOk M z₀ (@execWakeTimer s) := by
  unfold execWakeTimer
  refine OutOk.next ?_
  refine ite_kept ?_ ?_
  · exact State.wakeBy_kept m_regs m_pcie m_pwr (by assumption)
  · assumption

theorem execWakeSource_kept {M : Mask} {z₀ : State} {src : Fin 6} {s : State} (m_regs : M.regs = true) (m_pcie : M.pcie =
    true) (m_pwr : M.pwr = true) (h1 : Kept M z₀ s) : OutOk M z₀ (@execWakeSource src s) := by
  unfold execWakeSource
  refine OutOk.next ?_
  refine State.wakeBy_kept m_regs m_pcie m_pwr ?_
  refine ite_kept ?_ ?_
  · exact State.modPwr_kept m_pwr (by assumption)
  · assumption

theorem execDormGo_kept {M : Mask} {z₀ : State} {s : State} (m_regs : M.regs = true) (m_latches : M.latches = true) (m_rdata
    : M.rdata = true) (m_eng : M.eng = true) (m_chainNow : M.chainNow = true) (m_chainId : M.chainId = true) (m_chainFrz :
    M.chainFrz = true) (m_chainTorn : M.chainTorn = true) (m_chainIn : M.chainIn = true) (m_fab : M.fab = true) (m_tick :
    M.tick = true) (m_par : M.par = true) (m_cal : M.cal = true) (m_res : M.res = true) (m_ctx : M.ctx = true) (m_mode :
    M.mode = true) (m_route : M.route = true) (m_mov : M.mov = true) (m_port : M.port = true) (m_pcie : M.pcie = true) (m_clk
    : M.clk = true) (m_keep : M.keep = true) (m_pwr : M.pwr = true) (m_ngx : M.ngx = true) (m_boot : M.boot = true) (m_spim :
    M.spim = true) (m_spis : M.spis = true) (m_test : M.test = true) (m_tap : M.tap = true) (m_gpio : M.gpio = true)
    (m_calMem : M.calMem = true) (m_tcm : M.tcm = true) (h0 : Kept M z₀ s) : OutOk M z₀ (@execDormGo s) := by
  unfold execDormGo
  exact OutOk.next (State.dormCtrlW_kept m_regs m_latches m_rdata m_eng m_chainNow m_chainId m_chainFrz m_chainTorn m_chainIn
      m_fab m_tick m_par m_cal m_res m_ctx m_mode m_route m_mov m_port m_pcie m_clk m_keep m_pwr m_ngx m_boot m_spim m_spis
      m_test m_tap m_gpio m_calMem m_tcm (by assumption))

theorem execVddAonApplied_kept {M : Mask} {z₀ : State} {s : State} (m_regs : M.regs = true) (m_latches : M.latches = true)
    (m_rdata : M.rdata = true) (m_eng : M.eng = true) (m_chainNow : M.chainNow = true) (m_chainId : M.chainId = true)
    (m_chainFrz : M.chainFrz = true) (m_chainTorn : M.chainTorn = true) (m_chainIn : M.chainIn = true) (m_fab : M.fab = true)
    (m_tick : M.tick = true) (m_par : M.par = true) (m_cal : M.cal = true) (m_res : M.res = true) (m_ctx : M.ctx = true)
    (m_mode : M.mode = true) (m_route : M.route = true) (m_mov : M.mov = true) (m_port : M.port = true) (m_pcie : M.pcie =
    true) (m_clk : M.clk = true) (m_keep : M.keep = true) (m_pwr : M.pwr = true) (m_ngx : M.ngx = true) (m_boot : M.boot =
    true) (m_spim : M.spim = true) (m_spis : M.spis = true) (m_test : M.test = true) (m_tap : M.tap = true) (m_gpio : M.gpio
    = true) (m_calMem : M.calMem = true) (m_tcm : M.tcm = true) (h0 : Kept M z₀ s) : OutOk M z₀ (@execVddAonApplied s) := by
  unfold execVddAonApplied
  extract_lets x0 x1 x2 x3 x4
  have k0 : Kept M z₀ x0 := State.devReset_kept m_regs m_latches m_rdata m_eng m_chainNow m_chainId m_chainFrz m_chainTorn
      m_chainIn m_fab m_tick m_par m_cal m_res m_ctx m_mode m_route m_mov m_port m_pcie m_clk m_keep m_pwr m_ngx m_boot
      m_spim m_spis m_test m_tap m_gpio m_calMem m_tcm h0
  have k1 : Kept M s x0 := State.devReset_kept m_regs m_latches m_rdata m_eng m_chainNow m_chainId m_chainFrz m_chainTorn
      m_chainIn m_fab m_tick m_par m_cal m_res m_ctx m_mode m_route m_mov m_port m_pcie m_clk m_keep m_pwr m_ngx m_boot
      m_spim m_spis m_test m_tap m_gpio m_calMem m_tcm (Kept.refl s)
  refine OutOk.next (State.powerUp_kept m_pwr ?_)
  have hc : ∀ t : State, t.cal = x0.cal → calWf t.cal.bytes t.cal.epochs t.cal.tileEpochs t.cal.cleared = true := by
    intro t ht
    rw [ht]
    exact SMap.wf_nil _
  exact Kept.restart (t := x4) h0 m_regs m_latches m_rdata m_eng m_chainNow m_chainId m_chainFrz m_chainTorn m_chainIn m_fab
      m_tick m_par m_cal m_res m_ctx m_mode m_route m_mov m_port m_pcie m_clk m_keep m_pwr m_ngx m_boot m_spim m_spis m_test
      m_tap m_gpio m_calMem m_tcm k1.pending (Nat.le_add_right _ _) k1.freeCtr rfl rfl (hc _ rfl) (SMap.wf_nil _)

theorem execBrownOut_kept {M : Mask} {z₀ : State} {s : State} (m_regs : M.regs = true) (m_latches : M.latches = true)
    (m_rdata : M.rdata = true) (m_eng : M.eng = true) (m_chainNow : M.chainNow = true) (m_chainId : M.chainId = true)
    (m_chainFrz : M.chainFrz = true) (m_chainTorn : M.chainTorn = true) (m_chainIn : M.chainIn = true) (m_fab : M.fab = true)
    (m_tick : M.tick = true) (m_par : M.par = true) (m_cal : M.cal = true) (m_res : M.res = true) (m_ctx : M.ctx = true)
    (m_mode : M.mode = true) (m_route : M.route = true) (m_mov : M.mov = true) (m_port : M.port = true) (m_pcie : M.pcie =
    true) (m_clk : M.clk = true) (m_keep : M.keep = true) (m_pwr : M.pwr = true) (m_ngx : M.ngx = true) (m_boot : M.boot =
    true) (m_spim : M.spim = true) (m_spis : M.spis = true) (m_test : M.test = true) (m_tap : M.tap = true) (m_gpio : M.gpio
    = true) (m_calMem : M.calMem = true) (m_tcm : M.tcm = true) (h0 : Kept M z₀ s) : OutOk M z₀ (@execBrownOut s) := by
  unfold execBrownOut
  refine OutOk.next ?_
  refine ite_kept ?_ ?_
  · assumption
  · extract_lets x0 x1
    clear_value x0
    have k2 : Kept M z₀ x1 := by
      dsimp -zeta only [x1]
      exact State.setBit_kept m_regs (State.keepSeq_kept m_regs (State.devReset_kept m_regs m_latches m_rdata m_eng
          m_chainNow m_chainId m_chainFrz m_chainTorn m_chainIn m_fab m_tick m_par m_cal m_res m_ctx m_mode m_route m_mov
          m_port m_pcie m_clk m_keep m_pwr m_ngx m_boot m_spim m_spis m_test m_tap m_gpio m_calMem m_tcm (by assumption)))
    clear_value x1
    exact State.powerDown_kept m_pwr (State.modPwr_kept m_pwr (by assumption))

theorem execDownStep_kept {M : Mask} {z₀ : State} {s : State} (m_regs : M.regs = true) (m_pcie : M.pcie = true) (m_pwr :
    M.pwr = true) (h0 : Kept M z₀ s) : OutOk M z₀ (@execDownStep s) := by
  unfold execDownStep
  refine OutOk.next ?_
  refine ite_kept ?_ ?_
  · assumption
  · split
    · exact State.modPwr_kept m_pwr (by assumption)
    · extract_lets x0 x1
      have k2 : Kept M z₀ x0 := by
        dsimp -zeta only [x0]
        exact State.modPwr_kept m_pwr (by assumption)
      clear_value x0
      have k3 : Kept M z₀ x1 := by
        dsimp -zeta only [x1]
        exact State.modPwr_kept m_pwr (by assumption)
      clear_value x1
      split
      · exact State.powerUp_kept m_pwr (by assumption)
      · exact State.modPwr_kept m_pwr (by assumption)
      · split
        · exact State.wake_kept m_regs m_pcie m_pwr (by assumption)
        · assumption
    · assumption

theorem execSequenceRetry_kept {M : Mask} {z₀ : State} {s : State} (m_pwr : M.pwr = true) (h0 : Kept M z₀ s) : OutOk M z₀
    (@execSequenceRetry s) := by
  unfold execSequenceRetry
  refine OutOk.next ?_
  refine ite_kept ?_ ?_
  · exact State.powerUp_kept m_pwr (by assumption)
  · assumption

theorem execSequenceTimeout_kept {M : Mask} {z₀ : State} {s : State} (m_regs : M.regs = true) (m_pwr : M.pwr = true) (h0 :
    Kept M z₀ s) : OutOk M z₀ (@execSequenceTimeout s) := by
  unfold execSequenceTimeout
  refine OutOk.next ?_
  split
  · refine ite_kept ?_ ?_
    · exact State.powerDown_kept m_pwr (State.bump_kept m_regs (by assumption))
    · assumption
  · assumption

theorem execRailGood_kept {M : Mask} {z₀ : State} {straps : BitVec 6} {s : State} (m_regs : M.regs = true) (m_latches :
    M.latches = true) (m_rdata : M.rdata = true) (m_eng : M.eng = true) (m_chainNow : M.chainNow = true) (m_chainId :
    M.chainId = true) (m_chainFrz : M.chainFrz = true) (m_chainTorn : M.chainTorn = true) (m_chainIn : M.chainIn = true)
    (m_fab : M.fab = true) (m_tick : M.tick = true) (m_par : M.par = true) (m_cal : M.cal = true) (m_res : M.res = true)
    (m_ctx : M.ctx = true) (m_mode : M.mode = true) (m_route : M.route = true) (m_mov : M.mov = true) (m_port : M.port =
    true) (m_pcie : M.pcie = true) (m_clk : M.clk = true) (m_keep : M.keep = true) (m_pwr : M.pwr = true) (m_ngx : M.ngx =
    true) (m_boot : M.boot = true) (m_spim : M.spim = true) (m_spis : M.spis = true) (m_test : M.test = true) (m_tap : M.tap
    = true) (m_gpio : M.gpio = true) (m_calMem : M.calMem = true) (m_tcm : M.tcm = true) (h1 : Kept M z₀ s) : OutOk M z₀
    (@execRailGood straps s) := by
  unfold execRailGood
  refine OutOk.next ?_
  split
  · exact State.modPwr_kept m_pwr (by assumption)
  · exact State.modPwr_kept m_pwr (by assumption)
  · extract_lets x0
    clear_value x0
    exact State.keepSeq_kept m_regs (State.fullStart_kept m_regs m_latches m_rdata m_eng m_chainNow m_chainId m_chainFrz
        m_chainTorn m_chainIn m_fab m_tick m_par m_cal m_res m_ctx m_mode m_route m_mov m_port m_pcie m_clk m_keep m_pwr
        m_ngx m_boot m_spim m_spis m_test m_tap m_gpio m_calMem m_tcm (State.modPwr_kept m_pwr (by assumption)))
  · assumption

theorem execModeCmdIdle_kept {M : Mask} {z₀ : State} {s : State} (m_regs : M.regs = true) (m_tick : M.tick = true) (m_mode :
    M.mode = true) (m_ngx : M.ngx = true) (h0 : Kept M z₀ s) : OutOk M z₀ (@execModeCmdIdle s) := by
  unfold execModeCmdIdle
  exact OutOk.next (State.modeCmdW_kept m_regs m_tick m_mode m_ngx (by assumption))

theorem execModeCmdRun_kept {M : Mask} {z₀ : State} {s : State} (m_regs : M.regs = true) (m_tick : M.tick = true) (m_mode :
    M.mode = true) (m_ngx : M.ngx = true) (h0 : Kept M z₀ s) : OutOk M z₀ (@execModeCmdRun s) := by
  unfold execModeCmdRun
  exact OutOk.next (State.modeCmdW_kept m_regs m_tick m_mode m_ngx (by assumption))

theorem execRampEnd_kept {M : Mask} {z₀ : State} {d : Fin 8} {s : State} (m_regs : M.regs = true) (m_latches : M.latches =
    true) (m_rdata : M.rdata = true) (m_eng : M.eng = true) (m_chainNow : M.chainNow = true) (m_chainId : M.chainId = true)
    (m_chainFrz : M.chainFrz = true) (m_chainTorn : M.chainTorn = true) (m_chainIn : M.chainIn = true) (m_fab : M.fab = true)
    (m_tick : M.tick = true) (m_par : M.par = true) (m_cal : M.cal = true) (m_res : M.res = true) (m_ctx : M.ctx = true)
    (m_mode : M.mode = true) (m_route : M.route = true) (m_mov : M.mov = true) (m_port : M.port = true) (m_pcie : M.pcie =
    true) (m_clk : M.clk = true) (m_keep : M.keep = true) (m_pwr : M.pwr = true) (m_ngx : M.ngx = true) (m_boot : M.boot =
    true) (m_spim : M.spim = true) (m_spis : M.spis = true) (m_test : M.test = true) (m_tap : M.tap = true) (m_gpio : M.gpio
    = true) (m_calMem : M.calMem = true) (m_tcm : M.tcm = true) (h1 : Kept M z₀ s) : OutOk M z₀ (@execRampEnd d s) := by
  unfold execRampEnd
  exact OutOk.next (State.afterClamp_kept m_regs m_latches m_rdata m_eng m_chainNow m_chainId m_chainFrz m_chainTorn
      m_chainIn m_fab m_tick m_par m_cal m_res m_ctx m_mode m_route m_mov m_port m_pcie m_clk m_keep m_pwr m_ngx m_boot
      m_spim m_spis m_test m_tap m_gpio m_calMem m_tcm (State.rampEnd_kept m_regs m_port (by assumption)))

theorem execPerstNAssert_kept {M : Mask} {z₀ : State} {s : State} (m_regs : M.regs = true) (m_latches : M.latches = true)
    (m_rdata : M.rdata = true) (m_eng : M.eng = true) (m_chainNow : M.chainNow = true) (m_chainId : M.chainId = true)
    (m_chainFrz : M.chainFrz = true) (m_chainTorn : M.chainTorn = true) (m_chainIn : M.chainIn = true) (m_fab : M.fab = true)
    (m_tick : M.tick = true) (m_par : M.par = true) (m_cal : M.cal = true) (m_res : M.res = true) (m_ctx : M.ctx = true)
    (m_mode : M.mode = true) (m_route : M.route = true) (m_mov : M.mov = true) (m_port : M.port = true) (m_pcie : M.pcie =
    true) (m_clk : M.clk = true) (m_keep : M.keep = true) (m_pwr : M.pwr = true) (m_ngx : M.ngx = true) (m_boot : M.boot =
    true) (m_spim : M.spim = true) (m_spis : M.spis = true) (m_test : M.test = true) (m_tap : M.tap = true) (m_gpio : M.gpio
    = true) (m_calMem : M.calMem = true) (m_tcm : M.tcm = true) (h0 : Kept M z₀ s) : OutOk M z₀ (@execPerstNAssert s) := by
  unfold execPerstNAssert
  refine OutOk.next ?_
  refine ite_kept ?_ ?_
  · assumption
  · extract_lets x0 x1 x2
    have k3 : Kept M z₀ x0 := by
      dsimp -zeta only [x0]
      exact State.modPwr_kept m_pwr (by assumption)
    clear_value x0
    have k4 : Kept M z₀ x1 := by
      dsimp -zeta only [x1]
      exact State.devReset_kept m_regs m_latches m_rdata m_eng m_chainNow m_chainId m_chainFrz m_chainTorn m_chainIn m_fab
          m_tick m_par m_cal m_res m_ctx m_mode m_route m_mov m_port m_pcie m_clk m_keep m_pwr m_ngx m_boot m_spim m_spis
          m_test m_tap m_gpio m_calMem m_tcm (by assumption)
    clear_value x1 x2
    refine ite_kept ?_ ?_
    · assumption
    · exact Kept.upPcie m_pcie (by assumption)

theorem execPerstNRelease_kept {M : Mask} {z₀ : State} {straps : BitVec 6} {s : State} (m_regs : M.regs = true) (m_latches :
    M.latches = true) (m_rdata : M.rdata = true) (m_eng : M.eng = true) (m_chainNow : M.chainNow = true) (m_chainId :
    M.chainId = true) (m_chainFrz : M.chainFrz = true) (m_chainTorn : M.chainTorn = true) (m_chainIn : M.chainIn = true)
    (m_fab : M.fab = true) (m_tick : M.tick = true) (m_par : M.par = true) (m_cal : M.cal = true) (m_res : M.res = true)
    (m_ctx : M.ctx = true) (m_mode : M.mode = true) (m_route : M.route = true) (m_mov : M.mov = true) (m_port : M.port =
    true) (m_pcie : M.pcie = true) (m_clk : M.clk = true) (m_keep : M.keep = true) (m_pwr : M.pwr = true) (m_ngx : M.ngx =
    true) (m_boot : M.boot = true) (m_spim : M.spim = true) (m_spis : M.spis = true) (m_test : M.test = true) (m_tap : M.tap
    = true) (m_gpio : M.gpio = true) (m_calMem : M.calMem = true) (m_tcm : M.tcm = true) (h1 : Kept M z₀ s) : OutOk M z₀
    (@execPerstNRelease straps s) := by
  unfold execPerstNRelease
  refine OutOk.next ?_
  refine ite_kept ?_ ?_
  · assumption
  · extract_lets x0
    have k1 : Kept M z₀ x0 := by
      dsimp -zeta only [x0]
      exact State.modPwr_kept m_pwr (by assumption)
    clear_value x0
    refine ite_kept ?_ ?_
    · exact State.wakeBy_kept m_regs m_pcie m_pwr (by assumption)
    · refine ite_kept ?_ ?_
      · assumption
      · exact State.fullStart_kept m_regs m_latches m_rdata m_eng m_chainNow m_chainId m_chainFrz m_chainTorn m_chainIn m_fab
          m_tick m_par m_cal m_res m_ctx m_mode m_route m_mov m_port m_pcie m_clk m_keep m_pwr m_ngx m_boot m_spim m_spis
          m_test m_tap m_gpio m_calMem m_tcm (by assumption)

theorem State.islandGoing_kept {M : Mask} {z₀ : State} {s : State} {i : Nat} {force : Bool} (m_regs : M.regs = true) (m_fab :
    M.fab = true) (m_ctx : M.ctx = true) (m_mov : M.mov = true) (m_port : M.port = true) (m_pcie : M.pcie = true) (m_keep :
    M.keep = true) (m_pwr : M.pwr = true) (m_ngx : M.ngx = true) (h0 : Kept M z₀ s) : Kept M z₀ (@State.islandGoing s i
    force) := by
  unfold State.islandGoing
  refine ite_kept ?_ ?_
  · assumption
  · extract_lets x0 x1
    have k2 : Kept M z₀ x0 := by
      dsimp -zeta only [x0]
      refine ite_kept ?_ ?_
      · refine State.modeDo_kept m_regs m_fab m_keep ?_ ?_
        · assumption
        · intro v3
          intro v4
          exact State.unshed_kept m_regs m_fab m_pwr (by assumption)
      · exact State.setIsland_kept m_regs (by assumption)
    clear_value x0
    have k5 : Kept M z₀ x1 := by
      dsimp -zeta only [x1]
      refine ite_kept ?_ ?_
      · exact State.parkQuarter_kept m_regs m_fab m_ctx m_mov m_pcie m_ngx (by assumption)
      · assumption
    clear_value x1
    refine ite_kept ?_ ?_
    · exact State.dacStopAll_kept m_regs m_port (by assumption)
    · assumption

theorem execPowerSet_kept {M : Mask} {z₀ : State} {c : Fin 512} {q : BitVec 32} {s : State} (m_regs : M.regs = true) (m_fab :
    M.fab = true) (m_ctx : M.ctx = true) (m_mov : M.mov = true) (m_port : M.port = true) (m_pcie : M.pcie = true) (m_keep :
    M.keep = true) (m_pwr : M.pwr = true) (m_ngx : M.ngx = true) (h2 : Kept M z₀ s) : OutOk M z₀ (@execPowerSet c q s) := by
  unfold execPowerSet
  split
  · split
    · exact OutOk.next (by assumption)
    · extract_lets x0 x1 x2 x3 x4 x5 x6 x7
      clear_value x0 x1 x2 x3 x4 x5 x6
      have k8 : Kept M z₀ x7 := by
        dsimp -zeta only [x7]
        exact State.modPwr_kept m_pwr (State.grant_kept m_ctx (by assumption))
      clear_value x7
      refine ite_ok ?_ ?_
      · exact OutOk.next (by assumption)
      · refine ite_ok ?_ ?_
        · exact OutOk.next (State.finish_kept m_ctx (by assumption))
        · refine ite_ok ?_ ?_
          · exact OutOk.next (State.finish_kept m_ctx (State.psResult_kept m_regs (by assumption)))
          · refine ite_ok ?_ ?_
            · exact OutOk.next (State.finish_kept m_ctx (State.psResult_kept m_regs (by assumption)))
            · refine OutOk.next ?_
              refine State.powerDone_kept m_regs m_ctx m_pwr ?_
              refine foldl_kept ?_ ?_
              · assumption
              · intro v9
                intro v10
                intro v11
                exact State.islandGoing_kept m_regs m_fab m_ctx m_mov m_port m_pcie m_keep m_pwr m_ngx (by assumption)

theorem State.restoreAll_kept {M : Mask} {z₀ : State} {s : State} (m_regs : M.regs = true) (m_fab : M.fab = true) (m_pwr :
    M.pwr = true) (h0 : Kept M z₀ s) : Kept M z₀ (@State.restoreAll s) := by
  unfold State.restoreAll
  extract_lets x0
  have k1 : Kept M z₀ x0 := by
    dsimp -zeta only [x0]
    exact State.modPwr_kept m_pwr (by assumption)
  clear_value x0
  refine foldl_kept ?_ ?_
  · assumption
  · intro v2
    intro v3
    intro v4
    exact State.unshed_kept m_regs m_fab m_pwr (by assumption)

end Sys2Proof.Machine
end

