-- ==== Sys2Proof/Laws/KeptTest.lean ====
section
/-! SUPPORT. What the operations and meanings of Machine/Test.lean keep (Laws/Kept.lean). -/

namespace Sys2Proof.Machine

theorem State.testBegin_kept {M : Mask} {z₀ : State} {s : State} {path : Nat} {t : Nat} {desc : Option (Nat × Nat)} (m_regs :
    M.regs = true) (m_eng : M.eng = true) (m_fab : M.fab = true) (m_cal : M.cal = true) (m_ctx : M.ctx = true) (m_mode :
    M.mode = true) (m_port : M.port = true) (m_pcie : M.pcie = true) (m_keep : M.keep = true) (m_ngx : M.ngx = true) (m_test
    : M.test = true) (m_calMem : M.calMem = true) (h0 : Kept M z₀ s) : Kept M z₀ (@State.testBegin s path t desc) := by
  unfold State.testBegin
  extract_lets x0 x1 x2 x3 x4
  have k5 : Kept M z₀ x0 := by
    dsimp -zeta only [x0]
    exact State.setFld_kept m_regs (State.setFld_kept m_regs (State.setFld_kept m_regs (State.setBit_kept m_regs (by
        assumption))))
  clear_value x0
  have k6 : Kept M z₀ x1 := by
    dsimp -zeta only [x1]
    refine State.modeDo_kept m_regs m_fab m_keep ?_ ?_
    · assumption
    · intro v7
      intro v8
      exact Kept.upMode m_mode (by assumption)
  clear_value x1
  have k9 : Kept M z₀ x2 := by
    dsimp -zeta only [x2]
    exact Kept.upTest m_test (by assumption)
  clear_value x2 x3
  have k10 : Kept M z₀ x4 := by
    dsimp -zeta only [x4]
    refine foldl_kept ?_ ?_
    · assumption
    · intro v11
      intro v12
      intro v13
      refine foldl_kept ?_ ?_
      · assumption
      · intro v14
        intro v15
        intro v16
        exact State.logEvent_kept m_regs m_fab m_ctx m_pcie m_ngx (by assumption)
  clear_value x4
  refine forN_kept ?_ ?_
  · exact State.sinterRestore_kept m_regs m_fab m_cal m_calMem (State.dacStopAll_kept m_regs m_port (by assumption))
  · intro v17
    intro v18
    intro v19
    exact State.lmRestore_kept m_eng m_cal (by assumption)

theorem State.testStart_kept {M : Mask} {z₀ : State} {s : State} {path : Nat} {t : Nat} {desc : Option (Nat × Nat)} (m_regs :
    M.regs = true) (m_eng : M.eng = true) (m_fab : M.fab = true) (m_cal : M.cal = true) (m_ctx : M.ctx = true) (m_mode :
    M.mode = true) (m_port : M.port = true) (m_pcie : M.pcie = true) (m_keep : M.keep = true) (m_ngx : M.ngx = true) (m_test
    : M.test = true) (m_calMem : M.calMem = true) (h0 : Kept M z₀ s) : Kept M z₀ (@State.testStart s path t desc) := by
  unfold State.testStart
  refine ite_kept ?_ ?_
  · exact State.testBegin_kept m_regs m_eng m_fab m_cal m_ctx m_mode m_port m_pcie m_keep m_ngx m_test m_calMem (by
      assumption)
  · exact State.setFld_kept m_regs (by assumption)

theorem State.testEnds_kept {M : Mask} {z₀ : State} {s : State} (m_regs : M.regs = true) (m_eng : M.eng = true) (m_chainNow :
    M.chainNow = true) (m_fab : M.fab = true) (m_par : M.par = true) (m_ctx : M.ctx = true) (m_mode : M.mode = true) (m_keep
    : M.keep = true) (m_test : M.test = true) (h0 : Kept M z₀ s) : Kept M z₀ (@State.testEnds s) := by
  unfold State.testEnds
  extract_lets x0 x1 x2 x3 x4 x5
  clear_value x0
  have k6 : Kept M z₀ x1 := by
    dsimp -zeta only [x1]
    refine foldl_kept ?_ ?_
    · assumption
    · intro v7
      intro v8
      intro v9
      exact State.clusterReset_kept m_regs m_eng m_chainNow m_fab m_par m_ctx (by assumption)
  clear_value x1 x2
  have k10 : Kept M z₀ x3 := by
    dsimp -zeta only [x3]
    refine forN_kept ?_ ?_
    · assumption
    · intro v11
      intro v12
      intro v13
      exact State.setReg_kept m_regs (by assumption)
  clear_value x3
  have k14 : Kept M z₀ x4 := by
    dsimp -zeta only [x4]
    exact State.setBit_kept m_regs (State.setFld_kept m_regs (by assumption))
  clear_value x4
  have k15 : Kept M z₀ x5 := by
    dsimp -zeta only [x5]
    exact Kept.upTest m_test (by assumption)
  clear_value x5
  refine State.modeDo_kept m_regs m_fab m_keep ?_ ?_
  · assumption
  · intro v16
    intro v17
    exact Kept.upMode m_mode (by assumption)

theorem execTestComplete_kept {M : Mask} {z₀ : State} {s : State} (m_regs : M.regs = true) (m_eng : M.eng = true) (m_chainNow
    : M.chainNow = true) (m_fab : M.fab = true) (m_par : M.par = true) (m_cal : M.cal = true) (m_ctx : M.ctx = true) (m_mode
    : M.mode = true) (m_mov : M.mov = true) (m_keep : M.keep = true) (m_ngx : M.ngx = true) (m_test : M.test = true) (h0 :
    Kept M z₀ s) : OutOk M z₀ (@execTestComplete s) := by
  unfold execTestComplete
  refine OutOk.next ?_
  split
  · assumption
  · refine ite_kept ?_ ?_
    · assumption
    · split
      · exact State.testEnds_kept m_regs m_eng m_chainNow m_fab m_par m_ctx m_mode m_keep m_test (by assumption)
      · split
        · exact State.testEnds_kept m_regs m_eng m_chainNow m_fab m_par m_ctx m_mode m_keep m_test (by assumption)
        · extract_lets x0 x1 x2
          have k3 : Kept M z₀ x0.2 := by
            dsimp -zeta only [x0]
            exact State.translateRange_kept m_regs m_cal m_mov (by assumption)
          clear_value x0
          have k4 : Kept M z₀ x1 := by
            dsimp -zeta only [x1]
            exact State.testEnds_kept m_regs m_eng m_chainNow m_fab m_par m_ctx m_mode m_keep m_test (by assumption)
          clear_value x1 x2
          split
          · assumption
          · exact State.setResult_kept m_ctx (State.testEnds_kept m_regs m_eng m_chainNow m_fab m_par m_ctx m_mode m_keep
              m_test (by assumption))
          · refine State.setResult_kept m_ctx ?_
            refine foldl_kept ?_ ?_
            · assumption
            · intro v5
              intro v6
              intro v7
              exact State.ctxWrite_kept m_fab m_ngx (by assumption)

theorem State.modTest_kept {M : Mask} {z₀ : State} {s : State} {f : TestState → TestState} (m_test : M.test = true) (h0 :
    Kept M z₀ s) : Kept M z₀ (@State.modTest s f) := by
  unfold State.modTest
  exact Kept.upTest m_test (by assumption)

theorem State.misrCheck_kept {M : Mask} {z₀ : State} {s : State} {ok : Bool} (m_test : M.test = true) (h0 : Kept M z₀ s) :
    Kept M z₀ (@State.misrCheck s ok) := by
  unfold State.misrCheck
  refine ite_kept ?_ ?_
  · exact State.modTest_kept m_test (by assumption)
  · exact State.modTest_kept m_test (by assumption)

theorem State.testFabricLogic_kept {M : Mask} {z₀ : State} {s : State} {misr : BitVec 64} (m_regs : M.regs = true) (m_route :
    M.route = true) (m_test : M.test = true) (h0 : Kept M z₀ s) : Kept M z₀ (@State.testFabricLogic s misr) := by
  unfold State.testFabricLogic
  extract_lets x0 x1 x2 x3 x4
  clear_value x0 x1 x2
  have k5 : Kept M z₀ x3 := by
    dsimp -zeta only [x3]
    exact Kept.upRoute m_route (by assumption)
  clear_value x3
  have k6 : Kept M z₀ x4 := by
    dsimp -zeta only [x4]
    refine forN_kept ?_ ?_
    · assumption
    · intro v7
      intro v8
      intro v9
      refine ite_kept ?_ ?_
      · exact State.setFld_kept m_regs (by assumption)
      · assumption
  clear_value x4
  exact State.misrCheck_kept m_test (State.modTest_kept m_test (by assumption))

theorem State.testTouch_kept {M : Mask} {z₀ : State} {s : State} (m_test : M.test = true) (h0 : Kept M z₀ s) : Kept M z₀
    (@State.testTouch s) := by
  unfold State.testTouch
  extract_lets x0
  clear_value x0
  exact State.modTest_kept m_test (by assumption)

theorem State.testEngineLogic_kept {M : Mask} {z₀ : State} {s : State} {misrs : List (BitVec 64)} (m_test : M.test = true)
    (h0 : Kept M z₀ s) : Kept M z₀ (@State.testEngineLogic s misrs) := by
  unfold State.testEngineLogic
  extract_lets x0 x1
  clear_value x0
  have k2 : Kept M z₀ x1 := by
    dsimp -zeta only [x1]
    exact State.modTest_kept m_test (State.testTouch_kept m_test (by assumption))
  clear_value x1
  exact State.misrCheck_kept m_test (by assumption)

theorem State.testCaldera_kept {M : Mask} {z₀ : State} {s : State} {bad : List (Fin 65536)} (m_regs : M.regs = true) (m_fab :
    M.fab = true) (m_cal : M.cal = true) (m_ctx : M.ctx = true) (m_pcie : M.pcie = true) (m_ngx : M.ngx = true) (m_test :
    M.test = true) (m_calMem : M.calMem = true) (h0 : Kept M z₀ s) : Kept M z₀ (@State.testCaldera s bad) := by
  unfold State.testCaldera
  extract_lets x0 x1 x2
  have k1 : Kept M z₀ x2 := by
    refine Kept.upBytes m_cal m_calMem (fun hc => ⟨?_, hc.2⟩) h0
    refine SMap.wf_keep hc.1 fun k hk => ?_
    have hn : calTile k ∉ x0 := by
      simp only [x0, List.mem_filter, not_and]
      intro _ h
      simp_all
    have hg : ∀ (l : List Nat) (m : SMap Nat), calTile k ∉ l →
        SMap.get (fun _ => 0) (l.foldl (fun m t => SMap.modify (fun _ => 0) m t (· + 1)) m) (calTile k)
          = SMap.get (fun _ => 0) m (calTile k) := by
      intro l
      induction l with
      | nil => intro m _; rfl
      | cons t l ih =>
        intro m hm
        rw [List.foldl_cons, ih _ (fun h => hm (List.mem_cons_of_mem _ h))]
        exact SMap.get_set_other _ (fun h => hm (h ▸ List.mem_cons_self ..))
    have hx := hg x0 x1.tileEpochs hn
    clear_value x0
    unfold calDefault
    rw [hx]
  clear_value x2
  refine foldl_kept k1 fun s k hs => ?_
  extract_lets y0 y1
  have k2 : Kept M z₀ y1 := State.modTest_kept m_test (State.rowRepair_kept m_regs m_fab m_cal m_ctx m_pcie m_ngx
      (State.rowFailing_kept m_regs m_fab m_cal m_ctx m_pcie m_ngx hs))
  clear_value y1
  split
  · exact State.modTest_kept m_test k2
  · exact k2

theorem State.testEngines_kept {M : Mask} {z₀ : State} {s : State} {f : Engine → Engine} (m_eng : M.eng = true) (h0 : Kept M
    z₀ s) : Kept M z₀ (@State.testEngines s f) := by
  unfold State.testEngines
  refine foldl_kept ?_ ?_
  · assumption
  · intro v0
    intro v1
    intro v2
    refine forN_kept ?_ ?_
    · assumption
    · intro v3
      intro v4
      intro v5
      exact State.modEngine_kept m_eng (by assumption)

theorem State.testLocalMem_kept {M : Mask} {z₀ : State} {s : State} {bad : List (Fin 32768)} (m_regs : M.regs = true) (m_eng
    : M.eng = true) (m_fab : M.fab = true) (m_cal : M.cal = true) (m_ctx : M.ctx = true) (m_pcie : M.pcie = true) (m_ngx :
    M.ngx = true) (m_test : M.test = true) (h0 : Kept M z₀ s) : Kept M z₀ (@State.testLocalMem s bad) := by
  unfold State.testLocalMem
  extract_lets x0
  have k1 : Kept M z₀ x0 := by
    dsimp -zeta only [x0]
    exact State.testEngines_kept m_eng (State.testTouch_kept m_test (by assumption))
  clear_value x0
  refine foldl_kept ?_ ?_
  · assumption
  · intro v2
    intro v3
    intro v4
    extract_lets x5 x6 x7 x8
    clear_value x5 x6 x7
    have k9 : Kept M z₀ x8 := by
      dsimp -zeta only [x8]
      exact State.modTest_kept m_test (State.lmRegionRepair_kept m_regs m_eng m_fab m_cal m_ctx m_pcie m_ngx
          (State.lmRegionFails_kept m_regs m_cal (by assumption)))
    clear_value x8
    refine ite_kept ?_ ?_
    · exact State.modTest_kept m_test (by assumption)
    · assumption

theorem State.testProgMem_kept {M : Mask} {z₀ : State} {s : State} {rows : List (Fin 32)} (m_eng : M.eng = true) (m_cal :
    M.cal = true) (m_test : M.test = true) (h0 : Kept M z₀ s) : Kept M z₀ (@State.testProgMem s rows) := by
  unfold State.testProgMem
  extract_lets x0
  have k1 : Kept M z₀ x0 := by
    dsimp -zeta only [x0]
    exact State.testEngines_kept m_eng (State.testTouch_kept m_test (by assumption))
  clear_value x0
  refine foldl_kept ?_ ?_
  · assumption
  · intro v2
    intro v3
    intro v4
    extract_lets x5 x6 x7
    clear_value x5
    have k8 : Kept M z₀ x6 := by
      dsimp -zeta only [x6]
      exact State.modTest_kept m_test (by assumption)
    clear_value x6
    subst x7
    refine ite_kept ?_ ?_
    · exact Kept.upCal m_cal ⟨rfl, rfl, rfl, rfl⟩ (by assumption)
    · exact State.modTest_kept m_test (by assumption)

theorem State.testDo_kept {M : Mask} {z₀ : State} {s : State} {k : Nat} {f : State → State} (m_test : M.test = true) (h0 :
    Kept M z₀ s) (h2 : ∀ u0, Kept M z₀ u0 → Kept M z₀ (f u0)) : Kept M z₀ (@State.testDo s k f) := by
  unfold State.testDo
  refine ite_kept ?_ ?_
  · refine State.modTest_kept m_test ?_
    apply h2
    assumption
  · assumption

theorem execTestAll_kept {M : Mask} {z₀ : State} {rows : List (Fin 32)} {lm : List (Fin 32768)} {cal : List (Fin 65536)}
    {misrs : List (BitVec 64)} {misr : BitVec 64} {s : State} (m_regs : M.regs = true) (m_eng : M.eng = true) (m_fab : M.fab
    = true) (m_cal : M.cal = true) (m_ctx : M.ctx = true) (m_route : M.route = true) (m_pcie : M.pcie = true) (m_ngx : M.ngx
    = true) (m_test : M.test = true) (m_calMem : M.calMem = true) (h5 : Kept M z₀ s) : OutOk M z₀ (@execTestAll rows lm cal
    misrs misr s) := by
  unfold execTestAll
  refine OutOk.next ?_
  refine ite_kept ?_ ?_
  · refine State.testDo_kept m_test ?_ ?_
    · refine State.testDo_kept m_test ?_ ?_
      · refine State.testDo_kept m_test ?_ ?_
        · refine State.testDo_kept m_test ?_ ?_
          · refine State.testDo_kept m_test ?_ ?_
            · assumption
            · intro v0
              intro v1
              exact State.testProgMem_kept m_eng m_cal m_test (by assumption)
          · intro v2
            intro v3
            exact State.testLocalMem_kept m_regs m_eng m_fab m_cal m_ctx m_pcie m_ngx m_test (by assumption)
        · intro v4
          intro v5
          exact State.testCaldera_kept m_regs m_fab m_cal m_ctx m_pcie m_ngx m_test m_calMem (by assumption)
      · intro v6
        intro v7
        exact State.testEngineLogic_kept m_test (by assumption)
    · intro v8
      intro v9
      exact State.testFabricLogic_kept m_regs m_route m_test (by assumption)
  · assumption

theorem execTestFabricLogic_kept {M : Mask} {z₀ : State} {misr : BitVec 64} {s : State} (m_regs : M.regs = true) (m_route :
    M.route = true) (m_test : M.test = true) (h1 : Kept M z₀ s) : OutOk M z₀ (@execTestFabricLogic misr s) := by
  unfold execTestFabricLogic
  refine OutOk.next ?_
  refine State.testDo_kept m_test ?_ ?_
  · assumption
  · intro v0
    intro v1
    exact State.testFabricLogic_kept m_regs m_route m_test (by assumption)

theorem execTestEngineLogic_kept {M : Mask} {z₀ : State} {misrs : List (BitVec 64)} {s : State} (m_test : M.test = true) (h1
    : Kept M z₀ s) : OutOk M z₀ (@execTestEngineLogic misrs s) := by
  unfold execTestEngineLogic
  refine OutOk.next ?_
  refine State.testDo_kept m_test ?_ ?_
  · assumption
  · intro v0
    intro v1
    exact State.testEngineLogic_kept m_test (by assumption)

theorem execTestCaldera_kept {M : Mask} {z₀ : State} {bad : List (Fin 65536)} {s : State} (m_regs : M.regs = true) (m_fab :
    M.fab = true) (m_cal : M.cal = true) (m_ctx : M.ctx = true) (m_pcie : M.pcie = true) (m_ngx : M.ngx = true) (m_test :
    M.test = true) (m_calMem : M.calMem = true) (h1 : Kept M z₀ s) : OutOk M z₀ (@execTestCaldera bad s) := by
  unfold execTestCaldera
  refine OutOk.next ?_
  refine State.testDo_kept m_test ?_ ?_
  · assumption
  · intro v0
    intro v1
    exact State.testCaldera_kept m_regs m_fab m_cal m_ctx m_pcie m_ngx m_test m_calMem (by assumption)

theorem execTestLocalMem_kept {M : Mask} {z₀ : State} {bad : List (Fin 32768)} {s : State} (m_regs : M.regs = true) (m_eng :
    M.eng = true) (m_fab : M.fab = true) (m_cal : M.cal = true) (m_ctx : M.ctx = true) (m_pcie : M.pcie = true) (m_ngx :
    M.ngx = true) (m_test : M.test = true) (h1 : Kept M z₀ s) : OutOk M z₀ (@execTestLocalMem bad s) := by
  unfold execTestLocalMem
  refine OutOk.next ?_
  refine State.testDo_kept m_test ?_ ?_
  · assumption
  · intro v0
    intro v1
    exact State.testLocalMem_kept m_regs m_eng m_fab m_cal m_ctx m_pcie m_ngx m_test (by assumption)

theorem execTestProgMem_kept {M : Mask} {z₀ : State} {rows : List (Fin 32)} {s : State} (m_eng : M.eng = true) (m_cal : M.cal
    = true) (m_test : M.test = true) (h1 : Kept M z₀ s) : OutOk M z₀ (@execTestProgMem rows s) := by
  unfold execTestProgMem
  refine OutOk.next ?_
  refine State.testDo_kept m_test ?_ ?_
  · assumption
  · intro v0
    intro v1
    exact State.testProgMem_kept m_eng m_cal m_test (by assumption)

theorem State.testCtrlW_kept {M : Mask} {z₀ : State} {s : State} {v : Word} (m_regs : M.regs = true) (m_eng : M.eng = true)
    (m_fab : M.fab = true) (m_cal : M.cal = true) (m_ctx : M.ctx = true) (m_mode : M.mode = true) (m_port : M.port = true)
    (m_pcie : M.pcie = true) (m_keep : M.keep = true) (m_ngx : M.ngx = true) (m_test : M.test = true) (m_calMem : M.calMem =
    true) (h0 : Kept M z₀ s) : Kept M z₀ (@State.testCtrlW s v) := by
  unfold State.testCtrlW
  extract_lets x0 x1 x2 x3
  have k4 : Kept M z₀ x0 := by
    dsimp -zeta only [x0]
    refine ite_kept ?_ ?_
    · exact State.setBit_kept m_regs (by assumption)
    · assumption
  clear_value x0
  have k5 : Kept M z₀ x1 := by
    dsimp -zeta only [x1]
    exact State.setBit_kept m_regs (State.setFld_kept m_regs (by assumption))
  clear_value x1 x2
  have k6 : Kept M z₀ x3 := by
    dsimp -zeta only [x3]
    exact State.testStart_kept m_regs m_eng m_fab m_cal m_ctx m_mode m_port m_pcie m_keep m_ngx m_test m_calMem (by
        assumption)
  clear_value x3
  refine ite_kept ?_ ?_
  · assumption
  · refine ite_kept ?_ ?_
    · assumption
    · exact State.setBit_kept m_regs (by assumption)

theorem execTestRun_kept {M : Mask} {z₀ : State} {c : Fin 512} {q : BitVec 32} {s : State} (m_regs : M.regs = true) (m_eng :
    M.eng = true) (m_fab : M.fab = true) (m_cal : M.cal = true) (m_ctx : M.ctx = true) (m_mode : M.mode = true) (m_port :
    M.port = true) (m_pcie : M.pcie = true) (m_keep : M.keep = true) (m_ngx : M.ngx = true) (m_test : M.test = true)
    (m_calMem : M.calMem = true) (h2 : Kept M z₀ s) : OutOk M z₀ (@execTestRun c q s) := by
  unfold execTestRun
  split
  · split
    · exact OutOk.next (by assumption)
    · extract_lets x0
      clear_value x0
      refine ite_ok ?_ ?_
      · exact OutOk.next (by assumption)
      · refine ite_ok ?_ ?_
        · exact OutOk.next (State.finish_kept m_ctx (by assumption))
        · refine ite_ok ?_ ?_
          · exact OutOk.next (State.finish_kept m_ctx (State.testStart_kept m_regs m_eng m_fab m_cal m_ctx m_mode m_port
              m_pcie m_keep m_ngx m_test m_calMem (by assumption)))
          · exact OutOk.next (State.testStart_kept m_regs m_eng m_fab m_cal m_ctx m_mode m_port m_pcie m_keep m_ngx m_test
              m_calMem (State.grant_kept m_ctx (by assumption)))

end Sys2Proof.Machine
end

