-- ==== Sys2Proof/Laws/KeptBar.lean ====
section
/-! SUPPORT. What the operations and meanings of Machine/Bar.lean keep (Laws/Kept.lean). -/

namespace Sys2Proof.Machine

theorem State.strClear_kept {M : Mask} {z₀ : State} {s : State} {i : Nat} (m_mov : M.mov = true) (h0 : Kept M z₀ s) : Kept M
    z₀ (@State.strClear s i) := by
  unfold State.strClear
  extract_lets x0
  clear_value x0
  split
  · assumption
  · exact State.setStream_kept m_mov (by assumption)

theorem State.readClear_kept {M : Mask} {z₀ : State} {s : State} {d : RegDesc} {off : Nat} (m_regs : M.regs = true) (m_mov :
    M.mov = true) (h0 : Kept M z₀ s) : Kept M z₀ (@State.readClear s d off) := by
  unfold State.readClear
  refine ite_kept ?_ ?_
  · refine ite_kept ?_ ?_
    · assumption
    · exact State.strClear_kept m_mov (by assumption)
  · refine ite_kept ?_ ?_
    · assumption
    · exact State.setReg_kept m_regs (by assumption)

theorem State.gpioIn_kept {M : Mask} {z₀ : State} {s : State} {n : Nat} (h0 : Kept M z₀ s) : Kept M z₀ (@State.gpioIn s n).2
    := by
  unfold State.gpioIn
  extract_lets x0
  clear_value x0
  split
  · assumption
  · split
    · assumption
    · split
      · rename_i w1 w2 w3 w4
        have k5 : Kept M z₀ w3 := snd_of w4 (by
            refine State.draw_kept ?_
            assumption)
        assumption

theorem State.regRead_kept {M : Mask} {z₀ : State} {s : State} {d : RegDesc} {off : Nat} (m_regs : M.regs = true) (m_latches
    : M.latches = true) (m_mov : M.mov = true) (m_port : M.port = true) (h0 : Kept M z₀ s) : Kept M z₀ (@State.regRead s d
    off).2 := by
  unfold State.regRead
  split
  · exact State.sidxRead_kept m_latches (by assumption)
  · split
    · assumption
    · split
      · dsimp -zeta only
        exact Kept.upLatches m_latches (by assumption)
      · split
        · split
          · rename_i w0 w1 w2 w3
            have k4 : Kept M z₀ w2 := snd_of w3 (by
                refine State.gpioIn_kept ?_
                assumption)
            assumption
        · extract_lets x5
          have k6 : Kept M z₀ x5 := by
            dsimp -zeta only [x5]
            refine ite_kept ?_ ?_
            · exact State.csRead_kept m_port (by assumption)
            · assumption
          clear_value x5
          dsimp -zeta only
          exact State.readClear_kept m_regs m_mov (by assumption)

theorem State.plainW_kept {M : Mask} {z₀ : State} {s : State} {d : RegDesc} {off : Nat} {v : Word} (m_regs : M.regs = true)
    (h0 : Kept M z₀ s) : Kept M z₀ (@State.plainW s d off v) := by
  unfold State.plainW
  exact State.setReg_kept m_regs (by assumption)

theorem State.secW_kept {M : Mask} {z₀ : State} {s : State} {d : RegDesc} {off : Nat} {v : Word} (m_regs : M.regs = true)
    (m_fab : M.fab = true) (m_mode : M.mode = true) (m_keep : M.keep = true) (m_boot : M.boot = true) (h0 : Kept M z₀ s) :
    Kept M z₀ (@State.secW s d off v) := by
  unfold State.secW
  refine ite_kept ?_ ?_
  · exact State.dmCmdW_kept m_regs m_boot (by assumption)
  · refine ite_kept ?_ ?_
    · exact State.setReg_kept m_regs (by assumption)
    · refine ite_kept ?_ ?_
      · extract_lets x0
        have k1 : Kept M z₀ x0 := by
          dsimp -zeta only [x0]
          exact State.plainW_kept m_regs (by assumption)
        clear_value x0
        refine ite_kept ?_ ?_
        · exact State.newChal_kept m_regs m_boot (by assumption)
        · assumption
      · refine ite_kept ?_ ?_
        · extract_lets x2
          have k3 : Kept M z₀ x2 := by
            dsimp -zeta only [x2]
            refine ite_kept ?_ ?_
            · exact State.dbgGo_kept m_regs m_boot (by assumption)
            · assumption
          clear_value x2
          refine ite_kept ?_ ?_
          · exact State.dbgClose_kept m_regs m_fab m_mode m_keep (by assumption)
          · assumption
        · exact State.plainW_kept m_regs (by assumption)

theorem State.barRead_kept {M : Mask} {z₀ : State} {s : State} {off : Nat} (m_regs : M.regs = true) (m_latches : M.latches =
    true) (m_mov : M.mov = true) (m_port : M.port = true) (h0 : Kept M z₀ s) : Kept M z₀ (@State.barRead s off).2 := by
  unfold State.barRead
  split
  · dsimp -zeta only
    exact State.setBit_kept m_regs (by assumption)
  · split
    · assumption
    · exact State.regRead_kept m_regs m_latches m_mov m_port (by assumption)

theorem State.pfRead_kept {M : Mask} {z₀ : State} {s : State} {off : Nat} (m_regs : M.regs = true) (m_latches : M.latches =
    true) (m_rdata : M.rdata = true) (m_mov : M.mov = true) (m_port : M.port = true) (h0 : Kept M z₀ s) : Kept M z₀
    (@State.pfRead s off) := by
  unfold State.pfRead
  extract_lets x0 x1
  have k2 : Kept M z₀ x0.2 := by
    dsimp -zeta only [x0]
    exact State.barRead_kept m_regs m_latches m_mov m_port (by assumption)
  clear_value x0
  have k3 : Kept M z₀ x1 := by
    dsimp -zeta only [x1]
    assumption
  clear_value x1
  exact Kept.upRdata m_rdata (by assumption)

theorem execLowHalfRead_kept {M : Mask} {z₀ : State} {off : Fin 4194304} {s : State} (m_regs : M.regs = true) (m_latches :
    M.latches = true) (m_rdata : M.rdata = true) (m_mov : M.mov = true) (m_port : M.port = true) (h1 : Kept M z₀ s) : OutOk M
    z₀ (@execLowHalfRead off s) := by
  unfold execLowHalfRead
  exact OutOk.next (State.pfRead_kept m_regs m_latches m_rdata m_mov m_port (by assumption))

theorem State.topW_kept {M : Mask} {z₀ : State} {s : State} {d : RegDesc} {off : Nat} {v : Word} (m_regs : M.regs = true)
    (m_latches : M.latches = true) (m_rdata : M.rdata = true) (m_eng : M.eng = true) (m_chainNow : M.chainNow = true)
    (m_chainId : M.chainId = true) (m_chainFrz : M.chainFrz = true) (m_chainTorn : M.chainTorn = true) (m_chainIn : M.chainIn
    = true) (m_fab : M.fab = true) (m_tick : M.tick = true) (m_par : M.par = true) (m_cal : M.cal = true) (m_res : M.res =
    true) (m_ctx : M.ctx = true) (m_mode : M.mode = true) (m_route : M.route = true) (m_mov : M.mov = true) (m_port : M.port
    = true) (m_pcie : M.pcie = true) (m_clk : M.clk = true) (m_keep : M.keep = true) (m_pwr : M.pwr = true) (m_ngx : M.ngx =
    true) (m_boot : M.boot = true) (m_spim : M.spim = true) (m_spis : M.spis = true) (m_test : M.test = true) (m_tap : M.tap
    = true) (m_gpio : M.gpio = true) (m_calMem : M.calMem = true) (m_tcm : M.tcm = true) (h0 : Kept M z₀ s) : Kept M z₀
    (@State.topW s d off v) := by
  unfold State.topW
  refine ite_kept ?_ ?_
  · exact State.modeCmdW_kept m_regs m_tick m_mode m_ngx (by assumption)
  · refine ite_kept ?_ ?_
    · exact State.rlfCtrlW_kept m_regs m_eng m_chainNow m_fab m_tick m_par m_ctx m_mode m_keep m_pwr m_boot m_spim m_spis
        m_test (by assumption)
    · refine ite_kept ?_ ?_
      · exact State.pcieLtrW_kept m_regs m_fab (by assumption)
      · refine ite_kept ?_ ?_
        · exact State.capCtrlW_kept m_regs (by assumption)
        · refine ite_kept ?_ ?_
          · exact State.dormCtrlW_kept m_regs m_latches m_rdata m_eng m_chainNow m_chainId m_chainFrz m_chainTorn m_chainIn
              m_fab m_tick m_par m_cal m_res m_ctx m_mode m_route m_mov m_port m_pcie m_clk m_keep m_pwr m_ngx m_boot m_spim
              m_spis m_test m_tap m_gpio m_calMem m_tcm (by assumption)
          · exact State.plainW_kept m_regs (by assumption)

theorem State.ngxW_kept {M : Mask} {z₀ : State} {s : State} {d : RegDesc} {off : Nat} {v : Word} (m_regs : M.regs = true)
    (m_ngx : M.ngx = true) (h0 : Kept M z₀ s) : Kept M z₀ (@State.ngxW s d off v) := by
  unfold State.ngxW
  refine ite_kept ?_ ?_
  · exact State.ngxCtrlW_kept m_regs m_ngx (by assumption)
  · refine ite_kept ?_ ?_
    · exact State.ngxTimingW_kept m_regs (by assumption)
    · refine ite_kept ?_ ?_
      · exact State.rrW_kept m_regs (by assumption)
      · refine ite_kept ?_ ?_
        · exact State.rrW_kept m_regs (by assumption)
        · refine ite_kept ?_ ?_
          · exact State.rrCmdW_kept m_regs m_ngx (by assumption)
          · exact State.plainW_kept m_regs (by assumption)

theorem State.spiW_kept {M : Mask} {z₀ : State} {s : State} {d : RegDesc} {off : Nat} {v : Word} (m_regs : M.regs = true)
    (m_eng : M.eng = true) (m_fab : M.fab = true) (m_cal : M.cal = true) (m_ctx : M.ctx = true) (m_mode : M.mode = true)
    (m_port : M.port = true) (m_pcie : M.pcie = true) (m_keep : M.keep = true) (m_ngx : M.ngx = true) (m_boot : M.boot =
    true) (m_spim : M.spim = true) (m_test : M.test = true) (m_calMem : M.calMem = true) (m_flash : M.flash = true) (h0 :
    Kept M z₀ s) : Kept M z₀ (@State.spiW s d off v) := by
  unfold State.spiW
  refine ite_kept ?_ ?_
  · exact State.spimCfgW_kept m_regs (by assumption)
  · refine ite_kept ?_ ?_
    · exact State.pfCmdW_kept m_regs m_boot m_spim m_flash (by assumption)
    · refine ite_kept ?_ ?_
      · exact State.testCtrlW_kept m_regs m_eng m_fab m_cal m_ctx m_mode m_port m_pcie m_keep m_ngx m_test m_calMem (by
          assumption)
      · exact State.plainW_kept m_regs (by assumption)

theorem State.portW_kept {M : Mask} {z₀ : State} {s : State} {d : RegDesc} {off : Nat} {v : Word} (m_regs : M.regs = true)
    (m_route : M.route = true) (m_port : M.port = true) (h0 : Kept M z₀ s) : Kept M z₀ (@State.portW s d off v) := by
  unfold State.portW
  extract_lets x0
  clear_value x0
  refine ite_kept ?_ ?_
  · exact State.tdmCfgW_kept m_regs m_port (by assumption)
  · refine ite_kept ?_ ?_
    · exact State.tdmMaskW_kept m_regs (by assumption)
    · refine ite_kept ?_ ?_
      · exact State.micW_kept m_regs m_port (by assumption)
      · refine ite_kept ?_ ?_
        · exact State.sprCfgW_kept m_regs m_route m_port (by assumption)
        · refine ite_kept ?_ ?_
          · exact State.sptCfgW_kept m_regs m_port (by assumption)
          · refine ite_kept ?_ ?_
            · exact State.sptCsW_kept m_regs m_port (by assumption)
            · refine ite_kept ?_ ?_
              · exact State.convClkW_kept m_regs m_port (by assumption)
              · refine ite_kept ?_ ?_
                · exact State.convPdmckW_kept m_regs m_port (by assumption)
                · refine ite_kept ?_ ?_
                  · exact State.convGrpW_kept m_regs m_port (by assumption)
                  · refine ite_kept ?_ ?_
                    · exact State.dacW_kept m_regs m_port (by assumption)
                    · exact State.plainW_kept m_regs (by assumption)

theorem State.routeW_kept {M : Mask} {z₀ : State} {s : State} {d : RegDesc} {off : Nat} {v : Word} (m_regs : M.regs = true)
    (m_fab : M.fab = true) (m_par : M.par = true) (m_cal : M.cal = true) (m_route : M.route = true) (m_mov : M.mov = true)
    (m_pcie : M.pcie = true) (h0 : Kept M z₀ s) : Kept M z₀ (@State.routeW s d off v) := by
  unfold State.routeW
  refine ite_kept ?_ ?_
  · refine ite_kept ?_ ?_
    · exact State.setReg_kept m_regs (by assumption)
    · assumption
  · refine ite_kept ?_ ?_
    · exact State.brgW_kept m_regs m_route (by assumption)
    · refine ite_kept ?_ ?_
      · exact State.asrcW0_kept m_regs m_route (by assumption)
      · refine ite_kept ?_ ?_
        · exact State.asrcW1_kept m_regs (by assumption)
        · refine ite_kept ?_ ?_
          · refine ite_kept ?_ ?_
            · exact State.dmaReset_kept m_fab m_par m_cal m_mov m_pcie (by assumption)
            · assumption
          · exact State.plainW_kept m_regs (by assumption)

theorem State.w1c_kept {M : Mask} {z₀ : State} {s : State} {d : RegDesc} {off : Nat} {v : Word} (m_regs : M.regs = true) (h0
    : Kept M z₀ s) : Kept M z₀ (@State.w1c s d off v) := by
  unfold State.w1c
  exact State.setReg_kept m_regs (by assumption)

theorem State.engW_kept {M : Mask} {z₀ : State} {s : State} {d : RegDesc} {off : Nat} {v : Word} (m_regs : M.regs = true)
    (m_eng : M.eng = true) (h0 : Kept M z₀ s) : Kept M z₀ (@State.engW s d off v) := by
  unfold State.engW
  extract_lets x0 x1 x2 x3
  clear_value x0 x1
  have k4 : Kept M z₀ x2 := by
    dsimp -zeta only [x2]
    exact State.w1c_kept m_regs (by assumption)
  clear_value x2 x3
  refine ite_kept ?_ ?_
  · exact State.modEngine_kept m_eng (by assumption)
  · refine ite_kept ?_ ?_
    · exact State.modEngine_kept m_eng (by assumption)
    · refine ite_kept ?_ ?_
      · refine ite_kept ?_ ?_
        · exact State.requestSwap_kept m_regs m_eng (by assumption)
        · assumption
      · refine ite_kept ?_ ?_
        · exact State.cbindW_kept m_regs (by assumption)
        · refine ite_kept ?_ ?_
          · refine ite_kept ?_ ?_
            · exact State.dldW0_kept m_eng (by assumption)
            · refine ite_kept ?_ ?_
              · exact State.dldW12_kept m_eng (by assumption)
              · refine ite_kept ?_ ?_
                · exact State.dldW12_kept m_eng (by assumption)
                · assumption
          · exact State.plainW_kept m_regs (by assumption)

theorem State.goBusyW_kept {M : Mask} {z₀ : State} {s : State} {d : RegDesc} {off : Nat} {v : Word} (m_regs : M.regs = true)
    (h0 : Kept M z₀ s) : Kept M z₀ (@State.goBusyW s d off v) := by
  unfold State.goBusyW
  refine ite_kept ?_ ?_
  · exact State.plainW_kept m_regs (by assumption)
  · refine ite_kept ?_ ?_
    · exact State.setBit_kept m_regs (State.w1c_kept m_regs (by assumption))
    · extract_lets x0
      have k1 : Kept M z₀ x0 := by
        dsimp -zeta only [x0]
        exact State.plainW_kept m_regs (by assumption)
      clear_value x0
      refine ite_kept ?_ ?_
      · exact State.setBit_kept m_regs (by assumption)
      · exact State.setBit_kept m_regs (by assumption)

theorem State.fabW_kept {M : Mask} {z₀ : State} {s : State} {d : RegDesc} {off : Nat} {v : Word} (m_regs : M.regs = true)
    (m_par : M.par = true) (h0 : Kept M z₀ s) : Kept M z₀ (@State.fabW s d off v) := by
  unfold State.fabW
  extract_lets x0
  clear_value x0
  refine ite_kept ?_ ?_
  · exact State.goBusyW_kept m_regs (by assumption)
  · refine ite_kept ?_ ?_
    · refine ite_kept ?_ ?_
      · exact State.plainW_kept m_regs (by assumption)
      · assumption
    · refine ite_kept ?_ ?_
      · refine ite_kept ?_ ?_
        · assumption
        · exact State.plainW_kept m_regs (by assumption)
      · refine ite_kept ?_ ?_
        · exact State.csetW0_kept m_regs (by assumption)
        · refine ite_kept ?_ ?_
          · exact State.csetW12_kept m_regs m_par (by assumption)
          · refine ite_kept ?_ ?_
            · exact State.csetW12_kept m_regs m_par (by assumption)
            · exact State.plainW_kept m_regs (by assumption)

theorem State.ctxtCmdW_kept {M : Mask} {z₀ : State} {s : State} {d : RegDesc} {c : Fin 512} {v : Word} (m_regs : M.regs =
    true) (m_eng : M.eng = true) (m_fab : M.fab = true) (m_par : M.par = true) (m_cal : M.cal = true) (m_ctx : M.ctx = true)
    (m_route : M.route = true) (m_mov : M.mov = true) (m_pcie : M.pcie = true) (m_ngx : M.ngx = true) (h0 : Kept M z₀ s) :
    Kept M z₀ (@State.ctxtCmdW s d c v) := by
  unfold State.ctxtCmdW
  extract_lets x0
  have k1 : Kept M z₀ x0 := by
    dsimp -zeta only [x0]
    exact State.ctxCmdW_kept m_regs (State.w1c_kept m_regs (by assumption))
  clear_value x0
  refine ite_kept ?_ ?_
  · assumption
  · split
    · exact State.ctxRej_kept m_regs (by assumption)
    · assumption
    · refine stateOf_kept ?_ ?_
      · assumption
      · exact execCtxDisable_kept m_regs m_eng m_fab m_par m_ctx m_mov m_pcie m_ngx (by assumption)
    · refine stateOf_kept ?_ ?_
      · assumption
      · exact execCtxReset_kept m_regs m_eng m_fab m_par m_cal m_ctx m_route m_mov m_pcie m_ngx (by assumption)

theorem State.ctxtW_kept {M : Mask} {z₀ : State} {s : State} {d : RegDesc} {off : Nat} {v : Word} (m_regs : M.regs = true)
    (m_eng : M.eng = true) (m_fab : M.fab = true) (m_par : M.par = true) (m_cal : M.cal = true) (m_ctx : M.ctx = true)
    (m_route : M.route = true) (m_mov : M.mov = true) (m_pcie : M.pcie = true) (m_ngx : M.ngx = true) (h0 : Kept M z₀ s) :
    Kept M z₀ (@State.ctxtW s d off v) := by
  unfold State.ctxtW
  extract_lets x0
  clear_value x0
  refine ite_kept ?_ ?_
  · exact State.ctxtCmdW_kept m_regs m_eng m_fab m_par m_cal m_ctx m_route m_mov m_pcie m_ngx (by assumption)
  · refine ite_kept ?_ ?_
    · exact State.plainW_kept m_regs (by assumption)
    · refine ite_kept ?_ ?_
      · exact State.plainW_kept m_regs (by assumption)
      · assumption

theorem State.bootW_kept {M : Mask} {z₀ : State} {s : State} {d : RegDesc} {off : Nat} {v : Word} (m_regs : M.regs = true)
    (m_tick : M.tick = true) (m_mode : M.mode = true) (m_route : M.route = true) (m_mov : M.mov = true) (m_port : M.port =
    true) (m_clk : M.clk = true) (m_boot : M.boot = true) (m_flash : M.flash = true) (m_fuse : M.fuse = true) (h0 : Kept M z₀
    s) : Kept M z₀ (@State.bootW s d off v) := by
  unfold State.bootW
  refine ite_kept ?_ ?_
  · refine ite_kept ?_ ?_
    · refine State.modBoot_kept m_boot ?_ ?_ ?_ ?_
      · assumption
      · rfl
      · rfl
      · rfl
    · assumption
  · refine ite_kept ?_ ?_
    · refine ite_kept ?_ ?_
      · exact State.otpGo_kept m_regs m_boot m_fuse (by assumption)
      · exact State.plainW_kept m_regs (by assumption)
    · refine ite_kept ?_ ?_
      · extract_lets x0
        have k1 : Kept M z₀ x0 := by
          dsimp -zeta only [x0]
          exact State.plainW_kept m_regs (by assumption)
        clear_value x0
        refine ite_kept ?_ ?_
        · exact State.mbxGo_kept m_regs m_boot (by assumption)
        · assumption
      · refine ite_kept ?_ ?_
        · refine ite_kept ?_ ?_
          · exact State.updGo_kept m_regs m_boot m_flash (by assumption)
          · exact State.plainW_kept m_regs (by assumption)
        · refine ite_kept ?_ ?_
          · refine ite_kept ?_ ?_
            · exact State.arbGo_kept m_regs m_boot m_flash m_fuse (by assumption)
            · exact State.plainW_kept m_regs (by assumption)
          · refine ite_kept ?_ ?_
            · exact State.minCfgW_kept m_regs m_tick m_mode m_route m_mov m_port m_clk m_boot (by assumption)
            · exact State.plainW_kept m_regs (by assumption)

theorem State.clkW_kept {M : Mask} {z₀ : State} {s : State} {d : RegDesc} {off : Nat} {v : Word} (m_regs : M.regs = true)
    (m_clk : M.clk = true) (h0 : Kept M z₀ s) : Kept M z₀ (@State.clkW s d off v) := by
  unfold State.clkW
  extract_lets x0
  clear_value x0
  refine ite_kept ?_ ?_
  · exact State.pllCtrlW_kept m_regs m_clk (by assumption)
  · refine ite_kept ?_ ?_
    · exact State.pllNumW_kept m_regs (by assumption)
    · refine ite_kept ?_ ?_
      · exact State.ckoPhaseW_kept m_clk (by assumption)
      · refine ite_kept ?_ ?_
        · exact State.ckoCommitW_kept m_regs m_clk (by assumption)
        · refine ite_kept ?_ ?_
          · exact State.tickCtrlW_kept m_regs (by assumption)
          · refine ite_kept ?_ ?_
            · refine ite_kept ?_ ?_
              · exact State.setReg_kept m_regs (by assumption)
              · assumption
            · refine ite_kept ?_ ?_
              · refine ite_kept ?_ ?_
                · assumption
                · exact State.plainW_kept m_regs (by assumption)
              · exact State.plainW_kept m_regs (by assumption)

theorem State.regWrite_kept {M : Mask} {z₀ : State} {s : State} {d : RegDesc} {off : Nat} {v : Word} (m_regs : M.regs = true)
    (m_latches : M.latches = true) (m_rdata : M.rdata = true) (m_eng : M.eng = true) (m_chainNow : M.chainNow = true)
    (m_chainId : M.chainId = true) (m_chainFrz : M.chainFrz = true) (m_chainTorn : M.chainTorn = true) (m_chainIn : M.chainIn
    = true) (m_fab : M.fab = true) (m_tick : M.tick = true) (m_par : M.par = true) (m_cal : M.cal = true) (m_res : M.res =
    true) (m_ctx : M.ctx = true) (m_mode : M.mode = true) (m_route : M.route = true) (m_mov : M.mov = true) (m_port : M.port
    = true) (m_pcie : M.pcie = true) (m_clk : M.clk = true) (m_keep : M.keep = true) (m_pwr : M.pwr = true) (m_ngx : M.ngx =
    true) (m_boot : M.boot = true) (m_spim : M.spim = true) (m_spis : M.spis = true) (m_test : M.test = true) (m_tap : M.tap
    = true) (m_gpio : M.gpio = true) (m_calMem : M.calMem = true) (m_flash : M.flash = true) (m_tcm : M.tcm = true) (m_fuse :
    M.fuse = true) (h0 : Kept M z₀ s) : Kept M z₀ (@State.regWrite s d off v) := by
  unfold State.regWrite
  extract_lets x0
  clear_value x0
  refine ite_kept ?_ ?_
  · exact State.topW_kept m_regs m_latches m_rdata m_eng m_chainNow m_chainId m_chainFrz m_chainTorn m_chainIn m_fab m_tick
      m_par m_cal m_res m_ctx m_mode m_route m_mov m_port m_pcie m_clk m_keep m_pwr m_ngx m_boot m_spim m_spis m_test m_tap
      m_gpio m_calMem m_tcm (by assumption)
  · refine ite_kept ?_ ?_
    · exact State.clkW_kept m_regs m_clk (by assumption)
    · refine ite_kept ?_ ?_
      · exact State.bootW_kept m_regs m_tick m_mode m_route m_mov m_port m_clk m_boot m_flash m_fuse (by assumption)
      · refine ite_kept ?_ ?_
        · exact State.secW_kept m_regs m_fab m_mode m_keep m_boot (by assumption)
        · refine ite_kept ?_ ?_
          · exact State.ctxtW_kept m_regs m_eng m_fab m_par m_cal m_ctx m_route m_mov m_pcie m_ngx (by assumption)
          · refine ite_kept ?_ ?_
            · exact State.fabW_kept m_regs m_par (by assumption)
            · refine ite_kept ?_ ?_
              · refine ite_kept ?_ ?_
                · exact State.goBusyW_kept m_regs (by assumption)
                · exact State.plainW_kept m_regs (by assumption)
              · refine ite_kept ?_ ?_
                · exact State.engW_kept m_regs m_eng (by assumption)
                · refine ite_kept ?_ ?_
                  · exact State.routeW_kept m_regs m_fab m_par m_cal m_route m_mov m_pcie (by assumption)
                  · refine ite_kept ?_ ?_
                    · exact State.portW_kept m_regs m_route m_port (by assumption)
                    · refine ite_kept ?_ ?_
                      · exact State.ngxW_kept m_regs m_ngx (by assumption)
                      · exact State.spiW_kept m_regs m_eng m_fab m_cal m_ctx m_mode m_port m_pcie m_keep m_ngx m_boot m_spim
                          m_test m_calMem m_flash (by assumption)

theorem State.barWrite_kept {M : Mask} {z₀ : State} {s : State} {off : Nat} {v : Word} (m_regs : M.regs = true) (m_latches :
    M.latches = true) (m_rdata : M.rdata = true) (m_eng : M.eng = true) (m_chainNow : M.chainNow = true) (m_chainId :
    M.chainId = true) (m_chainFrz : M.chainFrz = true) (m_chainTorn : M.chainTorn = true) (m_chainIn : M.chainIn = true)
    (m_fab : M.fab = true) (m_tick : M.tick = true) (m_par : M.par = true) (m_cal : M.cal = true) (m_res : M.res = true)
    (m_ctx : M.ctx = true) (m_mode : M.mode = true) (m_route : M.route = true) (m_mov : M.mov = true) (m_port : M.port =
    true) (m_pcie : M.pcie = true) (m_clk : M.clk = true) (m_keep : M.keep = true) (m_pwr : M.pwr = true) (m_ngx : M.ngx =
    true) (m_boot : M.boot = true) (m_spim : M.spim = true) (m_spis : M.spis = true) (m_test : M.test = true) (m_tap : M.tap
    = true) (m_gpio : M.gpio = true) (m_calMem : M.calMem = true) (m_flash : M.flash = true) (m_tcm : M.tcm = true) (m_fuse :
    M.fuse = true) (h0 : Kept M z₀ s) : Kept M z₀ (@State.barWrite s off v) := by
  unfold State.barWrite
  refine State.bar_kept m_regs ?_ ?_
  · assumption
  · intro v0
    intro v1
    split
    · assumption
    · exact State.regWrite_kept m_regs m_latches m_rdata m_eng m_chainNow m_chainId m_chainFrz m_chainTorn m_chainIn m_fab
        m_tick m_par m_cal m_res m_ctx m_mode m_route m_mov m_port m_pcie m_clk m_keep m_pwr m_ngx m_boot m_spim m_spis
        m_test m_tap m_gpio m_calMem m_flash m_tcm m_fuse (by assumption)

theorem execReadClear_kept {M : Mask} {z₀ : State} {off : Fin 4194304} {s : State} (m_regs : M.regs = true) (m_latches :
    M.latches = true) (m_rdata : M.rdata = true) (m_mov : M.mov = true) (m_port : M.port = true) (h1 : Kept M z₀ s) : OutOk M
    z₀ (@execReadClear off s) := by
  unfold execReadClear
  exact OutOk.next (State.pfRead_kept m_regs m_latches m_rdata m_mov m_port (by assumption))

theorem execRegisterWrite_kept {M : Mask} {z₀ : State} {off : Fin 4194304} {v : BitVec 32} {s : State} (m_regs : M.regs =
    true) (m_latches : M.latches = true) (m_rdata : M.rdata = true) (m_eng : M.eng = true) (m_chainNow : M.chainNow = true)
    (m_chainId : M.chainId = true) (m_chainFrz : M.chainFrz = true) (m_chainTorn : M.chainTorn = true) (m_chainIn : M.chainIn
    = true) (m_fab : M.fab = true) (m_tick : M.tick = true) (m_par : M.par = true) (m_cal : M.cal = true) (m_res : M.res =
    true) (m_ctx : M.ctx = true) (m_mode : M.mode = true) (m_route : M.route = true) (m_mov : M.mov = true) (m_port : M.port
    = true) (m_pcie : M.pcie = true) (m_clk : M.clk = true) (m_keep : M.keep = true) (m_pwr : M.pwr = true) (m_ngx : M.ngx =
    true) (m_boot : M.boot = true) (m_spim : M.spim = true) (m_spis : M.spis = true) (m_test : M.test = true) (m_tap : M.tap
    = true) (m_gpio : M.gpio = true) (m_calMem : M.calMem = true) (m_flash : M.flash = true) (m_tcm : M.tcm = true) (m_fuse :
    M.fuse = true) (h2 : Kept M z₀ s) : OutOk M z₀ (@execRegisterWrite off v s) := by
  unfold execRegisterWrite
  exact OutOk.next (State.barWrite_kept m_regs m_latches m_rdata m_eng m_chainNow m_chainId m_chainFrz m_chainTorn m_chainIn
      m_fab m_tick m_par m_cal m_res m_ctx m_mode m_route m_mov m_port m_pcie m_clk m_keep m_pwr m_ngx m_boot m_spim m_spis
      m_test m_tap m_gpio m_calMem m_flash m_tcm m_fuse (by assumption))

end Sys2Proof.Machine
end

