-- ==== Sys2Proof/Laws/KeptImages.lean ====
section
/-! SUPPORT. What the operations and meanings of Machine/Images.lean keep (Laws/Kept.lean). -/

namespace Sys2Proof.Machine

theorem execProgSwap_kept {M : Mask} {z₀ : State} {c : Fin 512} {q : BitVec 32} {s : State} (m_regs : M.regs = true) (m_eng :
    M.eng = true) (m_par : M.par = true) (m_ctx : M.ctx = true) (h2 : Kept M z₀ s) : OutOk M z₀ (@execProgSwap c q s) := by
  unfold execProgSwap
  split
  · split
    · exact OutOk.next (by assumption)
    · extract_lets x0 x1 x2 x3 x4 x5 x6
      clear_value x0 x1 x2 x3 x4
      have k8 : ∀ y7, Kept M z₀ y7 → Kept M z₀ (x5 y7) := by
        intro v9
        intro v10
        dsimp -zeta only [x5]
        exact State.modDesc_kept m_ctx (by assumption)
      clear_value x5 x6
      refine ite_ok ?_ ?_
      · exact OutOk.next (by assumption)
      · refine ite_ok ?_ ?_
        · exact OutOk.next (State.finish_kept m_ctx (by assumption))
        · split
          · refine OutOk.next ?_
            refine foldl_kept ?_ ?_
            · apply k8
              exact State.begin_kept m_ctx (by assumption)
            · intro v11
              intro v12
              intro v13
              exact State.requestSwap_kept m_regs m_eng (by assumption)
          · extract_lets x14
            clear_value x14
            refine OutOk.next ?_
            refine ite_kept ?_ ?_
            · exact State.finish_kept m_ctx (by assumption)
            · refine State.stage_kept m_regs m_par ?_
              apply k8
              exact State.begin_kept m_ctx (by assumption)

theorem State.awaitData_kept {M : Mask} {z₀ : State} {s : State} {c : Nat} {q : Nat} (m_ctx : M.ctx = true) (h0 : Kept M z₀
    s) : Kept M z₀ (@State.awaitData s c q) := by
  unfold State.awaitData
  exact State.modDesc_kept m_ctx (by assumption)

theorem execSegMap_kept {M : Mask} {z₀ : State} {c : Fin 512} {q : BitVec 32} {images : List (BitVec 256)} {binds : List
    (BitVec 32)} {sets : List (BitVec 128)} {fail : Fin 3} {s : State} (m_regs : M.regs = true) (m_eng : M.eng = true) (m_ctx
    : M.ctx = true) (h6 : Kept M z₀ s) : OutOk M z₀ (@execSegMap c q images binds sets fail s) := by
  unfold execSegMap
  split
  · split
    · exact OutOk.next (by assumption)
    · extract_lets x0 x1 x2 x3 x4 x5 x6 x7 x8 x9 x10 x11 x12 x13 x14
      clear_value x0 x1 x2 x3 x4 x5 x6 x7 x8 x9 x10 x11
      have k15 : Kept M z₀ x12 := by
        dsimp -zeta only [x12]
        exact State.modEngine_kept m_eng (by assumption)
      clear_value x12
      have k16 : Kept M z₀ x13 := by
        dsimp -zeta only [x13]
        refine ite_kept ?_ ?_
        · assumption
        · refine forN_kept ?_ ?_
          · assumption
          · intro v17
            intro v18
            intro v19
            exact State.cbindW_kept m_regs (by assumption)
      clear_value x13
      have k20 : Kept M z₀ x14 := by
        dsimp -zeta only [x14]
        refine foldl_kept ?_ ?_
        · assumption
        · intro v21
          intro v22
          intro v23
          exact State.csetTake_kept m_regs (by assumption)
      clear_value x14
      refine ite_ok ?_ ?_
      · exact OutOk.next (State.finish_kept m_ctx (by assumption))
      · refine ite_ok ?_ ?_
        · exact OutOk.next (State.finish_kept m_ctx (by assumption))
        · refine ite_ok ?_ ?_
          · exact OutOk.next (State.awaitData_kept m_ctx (by assumption))
          · refine ite_ok ?_ ?_
            · exact OutOk.next (State.finish_kept m_ctx (by assumption))
            · exact OutOk.next (State.finish_kept m_ctx (by assumption))

theorem execProgLoad_kept {M : Mask} {z₀ : State} {c : Fin 512} {q : BitVec 32} {image : List (BitVec 64)} {dlds : List
    (BitVec 128)} {fail : Fin 3} {s : State} (m_regs : M.regs = true) (m_eng : M.eng = true) (m_ctx : M.ctx = true) (m_boot :
    M.boot = true) (h5 : Kept M z₀ s) : OutOk M z₀ (@execProgLoad c q image dlds fail s) := by
  unfold execProgLoad
  split
  · split
    · exact OutOk.next (by assumption)
    · extract_lets x0 x1 x2 x3 x4 x5 x6 x7
      clear_value x0 x1 x2 x3 x4 x5 x6 x7
      refine ite_ok ?_ ?_
      · exact OutOk.next (State.finish_kept m_ctx (by assumption))
      · refine ite_ok ?_ ?_
        · exact OutOk.next (State.finish_kept m_ctx (by assumption))
        · refine ite_ok ?_ ?_
          · exact OutOk.next (State.finish_kept m_ctx (by assumption))
          · refine ite_ok ?_ ?_
            · exact OutOk.next (State.awaitData_kept m_ctx (by assumption))
            · refine ite_ok ?_ ?_
              · exact OutOk.next (State.finish_kept m_ctx (by assumption))
              · exact OutOk.next (State.finish_kept m_ctx (State.measureLoad_kept m_regs m_boot (State.modEngine_kept m_eng
                  (by assumption))))

end Sys2Proof.Machine
end

