-- ==== Sys2Proof/Laws/KeptNgx.lean ====
section
/-! SUPPORT. What the operations and meanings of Machine/Ngx.lean keep (Laws/Kept.lean). -/

namespace Sys2Proof.Machine

theorem State.cascadeDone_kept {M : Mask} {z₀ : State} {s : State} {g : Nat} (m_regs : M.regs = true) (m_par : M.par = true)
    (m_ctx : M.ctx = true) (h0 : Kept M z₀ s) : Kept M z₀ (@State.cascadeDone s g) := by
  unfold State.cascadeDone
  split
  · assumption
  · refine ite_kept ?_ ?_
    · assumption
    · extract_lets x0 x1 x2
      clear_value x0
      have k3 : Kept M z₀ x1 := by
        dsimp -zeta only [x1]
        exact State.setResult_kept m_ctx (State.setGroupSt_kept m_regs (State.setGroup_kept m_regs m_par (by assumption)))
      clear_value x1 x2
      exact Kept.upPar m_par (by assumption)

theorem State.pulse_kept {M : Mask} {z₀ : State} {s : State} {fn : Nat} (m_gpio : M.gpio = true) (h0 : Kept M z₀ s) : Kept M
    z₀ (@State.pulse s fn) := by
  unfold State.pulse
  exact Kept.upGpio m_gpio (by assumption)

theorem execSymbolLock_kept {M : Mask} {z₀ : State} {s : State} (m_regs : M.regs = true) (m_keep : M.keep = true) (h0 : Kept
    M z₀ s) : OutOk M z₀ (@execSymbolLock s) := by
  unfold execSymbolLock
  refine OutOk.next ?_
  refine ite_kept ?_ ?_
  · exact State.histEnd_kept m_keep (State.setFld_kept m_regs (by assumption))
  · assumption

theorem execRelayReadTimeout_kept {M : Mask} {z₀ : State} {tag : Fin 65536} {s : State} (m_regs : M.regs = true) (m_fab :
    M.fab = true) (m_cal : M.cal = true) (m_ctx : M.ctx = true) (m_mov : M.mov = true) (m_pcie : M.pcie = true) (m_keep :
    M.keep = true) (m_ngx : M.ngx = true) (h1 : Kept M z₀ s) : OutOk M z₀ (@execRelayReadTimeout tag s) := by
  unfold execRelayReadTimeout
  split
  · exact OutOk.next (by assumption)
  · refine ite_ok ?_ ?_
    · exact OutOk.next (by assumption)
    · split
      · exact OutOk.next (State.failJob_kept m_regs m_fab m_cal m_ctx m_mov m_pcie m_keep m_ngx (by assumption))
      · exact OutOk.next (State.readsOver_kept m_fab m_pcie (by assumption))

theorem execRrWrite_kept {M : Mask} {z₀ : State} {s : State} (m_regs : M.regs = true) (m_ngx : M.ngx = true) (h0 : Kept M z₀
    s) : OutOk M z₀ (@execRrWrite s) := by
  unfold execRrWrite
  refine OutOk.next ?_
  refine State.bar_kept m_regs ?_ ?_
  · assumption
  · intro v0
    intro v1
    exact State.rrCmdW_kept m_regs m_ngx (by assumption)

theorem execRrRead_kept {M : Mask} {z₀ : State} {s : State} (m_regs : M.regs = true) (m_ngx : M.ngx = true) (h0 : Kept M z₀
    s) : OutOk M z₀ (@execRrRead s) := by
  unfold execRrRead
  refine OutOk.next ?_
  refine State.bar_kept m_regs ?_ ?_
  · assumption
  · intro v0
    intro v1
    exact State.rrCmdW_kept m_regs m_ngx (by assumption)

theorem State.modNgx_kept {M : Mask} {z₀ : State} {s : State} {f : NgxState → NgxState} (m_ngx : M.ngx = true) (h0 : Kept M
    z₀ s) : Kept M z₀ (@State.modNgx s f) := by
  unfold State.modNgx
  exact Kept.upNgx m_ngx (by assumption)

theorem execMessageRepeat_kept {M : Mask} {z₀ : State} {p : Fin 16} {s : State} (m_ngx : M.ngx = true) (h1 : Kept M z₀ s) :
    OutOk M z₀ (@execMessageRepeat p s) := by
  unfold execMessageRepeat
  extract_lets x0
  clear_value x0
  split
  · exact OutOk.next (by assumption)
  · extract_lets x1
    clear_value x1
    exact OutOk.next (State.modNgx_kept m_ngx (by assumption))

theorem State.popMsg_kept {M : Mask} {z₀ : State} {s : State} {kind : Nat} {src : Nat} (m_ngx : M.ngx = true) (h0 : Kept M z₀
    s) : ∀ r, (@State.popMsg s kind src) = some r → Kept M z₀ r.2 := by
  intro r hr
  simp only [State.popMsg] at hr
  split at hr
  · split at hr
    · cases hr
      exact Kept.upNgx m_ngx h0
    · cases hr
  · cases hr

theorem State.onMsg_kept {M : Mask} {z₀ : State} {s : State} {kind : Nat} {src : Nat} {f : Msg → State → State} (m_ngx :
    M.ngx = true) (h0 : Kept M z₀ s) (h3 : ∀ u0 u1, Kept M z₀ u1 → Kept M z₀ (f u0 u1)) : OutOk M z₀ (@State.onMsg s kind src
    f) := by
  unfold State.onMsg
  split
  · rename_i w0 w1 w2 w3
    have k4 : Kept M z₀ w2 := snd_some w3 (by
        refine State.popMsg_kept m_ngx ?_
        assumption)
    refine OutOk.next ?_
    apply h3
    assumption
  · exact OutOk.next (by assumption)

theorem execBootData_kept {M : Mask} {z₀ : State} {src : Fin 16} {s : State} (m_regs : M.regs = true) (m_ngx : M.ngx = true)
    (m_boot : M.boot = true) (h1 : Kept M z₀ s) : OutOk M z₀ (@execBootData src s) := by
  unfold execBootData
  refine State.onMsg_kept m_ngx ?_ ?_
  · assumption
  · intro v0
    intro v1
    intro v2
    refine ite_kept ?_ ?_
    · assumption
    · extract_lets x3 x4 x5
      clear_value x3 x4
      have k6 : Kept M z₀ x5 := by
        dsimp -zeta only [x5]
        refine State.setFld_kept m_regs ?_
        refine State.modBoot_kept m_boot ?_ ?_ ?_ ?_
        · assumption
        · rfl
        · rfl
        · rfl
      clear_value x5
      refine ite_kept ?_ ?_
      · exact State.sourceFails_kept m_regs m_boot (by assumption)
      · refine ite_kept ?_ ?_
        · assumption
        · refine ite_kept ?_ ?_
          · refine State.modBoot_kept m_boot ?_ ?_ ?_ ?_
            · exact State.setBit_kept m_regs (by assumption)
            · rfl
            · rfl
            · rfl
          · exact State.bootAsk_kept m_ngx m_boot (by assumption)

theorem execBootReq_kept {M : Mask} {z₀ : State} {src : Fin 16} {s : State} (m_ngx : M.ngx = true) (h1 : Kept M z₀ s) : OutOk
    M z₀ (@execBootReq src s) := by
  unfold execBootReq
  refine ite_ok ?_ ?_
  · exact OutOk.next (by assumption)
  · refine State.onMsg_kept m_ngx ?_ ?_
    · assumption
    · intro v0
      intro v1
      intro v2
      extract_lets x3 x4
      clear_value x3 x4
      exact State.ngxSend_kept m_ngx (by assumption)

theorem execHirq_kept {M : Mask} {z₀ : State} {src : Fin 16} {s : State} (m_fab : M.fab = true) (m_pcie : M.pcie = true)
    (m_ngx : M.ngx = true) (h1 : Kept M z₀ s) : OutOk M z₀ (@execHirq src s) := by
  unfold execHirq
  refine State.onMsg_kept m_ngx ?_ ?_
  · assumption
  · intro v0
    intro v1
    intro v2
    exact State.msixSend_kept m_fab m_pcie (by assumption)

theorem execHwr_kept {M : Mask} {z₀ : State} {src : Fin 16} {s : State} (m_fab : M.fab = true) (m_ngx : M.ngx = true) (h1 :
    Kept M z₀ s) : OutOk M z₀ (@execHwr src s) := by
  unfold execHwr
  refine State.onMsg_kept m_ngx ?_ ?_
  · assumption
  · intro v0
    intro v1
    intro v2
    extract_lets x3 x4 x5 x6
    clear_value x3 x4 x5
    have k7 : Kept M z₀ x6 := by
      dsimp -zeta only [x6]
      exact State.modNgx_kept m_ngx (by assumption)
    clear_value x6
    refine ite_kept ?_ ?_
    · assumption
    · exact State.hostWrite_kept m_fab (by assumption)

theorem execHrdCpl_kept {M : Mask} {z₀ : State} {tag : Fin 65536} {s : State} (m_regs : M.regs = true) (m_fab : M.fab = true)
    (m_cal : M.cal = true) (m_ctx : M.ctx = true) (m_mov : M.mov = true) (m_pcie : M.pcie = true) (m_keep : M.keep = true)
    (m_ngx : M.ngx = true) (m_calMem : M.calMem = true) (h1 : Kept M z₀ s) : OutOk M z₀ (@execHrdCpl tag s) := by
  unfold execHrdCpl
  split
  · exact OutOk.next (by assumption)
  · extract_lets x0 x1
    have k2 : Kept M z₀ x0 := by
      dsimp -zeta only [x0]
      exact State.modNgx_kept m_ngx (by assumption)
    clear_value x0 x1
    split
    · exact OutOk.next (by assumption)
    · split
      · refine ite_ok ?_ ?_
        · exact OutOk.next (State.failJob_kept m_regs m_fab m_cal m_ctx m_mov m_pcie m_keep m_ngx (by assumption))
        · extract_lets x3 x4 x5 x6 x7 x8
          clear_value x3 x4 x5 x6 x7
          have k9 : Kept M z₀ x8 := by
            dsimp -zeta only [x8]
            exact State.readsOver_kept m_fab m_pcie (State.modNgx_kept m_ngx (by assumption))
          clear_value x8
          refine ite_ok ?_ ?_
          · exact OutOk.next (State.modNgx_kept m_ngx (by assumption))
          · split
            · exact execChunkCompletion_kept m_regs m_fab m_cal m_ctx m_mov m_pcie m_keep m_ngx m_calMem (by assumption)
            · exact execBurstCompletion_kept m_regs m_fab m_cal m_ctx m_mov m_pcie m_ngx m_calMem (by assumption)
            · exact execCopyPieceCompletion_kept m_regs m_fab m_cal m_ctx m_mov m_pcie m_ngx m_calMem (by assumption)
            · exact OutOk.next (by assumption)
      · exact OutOk.next (State.readsOver_kept m_fab m_pcie (by assumption))

theorem execHrd_kept {M : Mask} {z₀ : State} {src : Fin 16} {cpl : Option (Fin 65536)} {data : List (BitVec 8)} {fail : Fin
    3} {s : State} (m_fab : M.fab = true) (m_pcie : M.pcie = true) (m_ngx : M.ngx = true) (h4 : Kept M z₀ s) : OutOk M z₀
    (@execHrd src cpl data fail s) := by
  unfold execHrd
  split
  · refine State.onMsg_kept m_ngx ?_ ?_
    · assumption
    · intro v0
      intro v1
      intro v2
      extract_lets x3 x4
      clear_value x3
      have k5 : Kept M z₀ x4 := by
        dsimp -zeta only [x4]
        exact State.modNgx_kept m_ngx (by assumption)
      clear_value x4
      refine ite_kept ?_ ?_
      · exact State.hostRead_kept m_fab (by assumption)
      · exact State.hrdReply_kept m_ngx (by assumption)
  · extract_lets x6
    clear_value x6
    refine ite_ok ?_ ?_
    · exact OutOk.next (by assumption)
    · refine ite_ok ?_ ?_
      · exact OutOk.next (State.hrdReply_kept m_ngx (by assumption))
      · exact OutOk.next (State.hrdReply_kept m_ngx (State.readsOver_kept m_fab m_pcie (by assumption)))

theorem execAbortAck_kept {M : Mask} {z₀ : State} {src : Fin 16} {s : State} (m_par : M.par = true) (m_ngx : M.ngx = true)
    (h1 : Kept M z₀ s) : OutOk M z₀ (@execAbortAck src s) := by
  unfold execAbortAck
  refine State.onMsg_kept m_ngx ?_ ?_
  · assumption
  · intro v0
    intro v1
    intro v2
    extract_lets x3 x4
    clear_value x3 x4
    exact Kept.upPar m_par (by assumption)

theorem State.modArm_kept {M : Mask} {z₀ : State} {s : State} {g : Nat} {f : Arm → Arm} (m_regs : M.regs = true) (m_par :
    M.par = true) (h0 : Kept M z₀ s) : Kept M z₀ (@State.modArm s g f) := by
  unfold State.modArm
  extract_lets x0
  clear_value x0
  exact State.setGroup_kept m_regs m_par (by assumption)

theorem execNotArmed_kept {M : Mask} {z₀ : State} {src : Fin 16} {s : State} (m_regs : M.regs = true) (m_par : M.par = true)
    (m_ctx : M.ctx = true) (m_ngx : M.ngx = true) (h1 : Kept M z₀ s) : OutOk M z₀ (@execNotArmed src s) := by
  unfold execNotArmed
  refine State.onMsg_kept m_ngx ?_ ?_
  · assumption
  · intro v0
    intro v1
    intro v2
    extract_lets x3
    clear_value x3
    refine ite_kept ?_ ?_
    · assumption
    · exact State.cascadeDone_kept m_regs m_par m_ctx (State.modArm_kept m_regs m_par (State.setBit_kept m_regs (by
        assumption)))

theorem execApplied_kept {M : Mask} {z₀ : State} {src : Fin 16} {s : State} (m_regs : M.regs = true) (m_par : M.par = true)
    (m_ctx : M.ctx = true) (m_ngx : M.ngx = true) (h1 : Kept M z₀ s) : OutOk M z₀ (@execApplied src s) := by
  unfold execApplied
  refine State.onMsg_kept m_ngx ?_ ?_
  · assumption
  · intro v0
    intro v1
    intro v2
    extract_lets x3 x4
    clear_value x3
    have k5 : Kept M z₀ x4 := by
      dsimp -zeta only [x4]
      refine ite_kept ?_ ?_
      · exact State.setBit_kept m_regs (by assumption)
      · assumption
    clear_value x4
    refine ite_kept ?_ ?_
    · assumption
    · exact State.cascadeDone_kept m_regs m_par m_ctx (State.modArm_kept m_regs m_par (by assumption))

theorem execNgxRefused_kept {M : Mask} {z₀ : State} {src : Fin 16} {s : State} (m_regs : M.regs = true) (m_par : M.par =
    true) (m_ngx : M.ngx = true) (h1 : Kept M z₀ s) : OutOk M z₀ (@execNgxRefused src s) := by
  unfold execNgxRefused
  refine State.onMsg_kept m_ngx ?_ ?_
  · assumption
  · intro v0
    intro v1
    intro v2
    refine ite_kept ?_ ?_
    · exact State.modArm_kept m_regs m_par (by assumption)
    · assumption

theorem execArmed_kept {M : Mask} {z₀ : State} {src : Fin 16} {s : State} (m_regs : M.regs = true) (m_par : M.par = true)
    (m_ngx : M.ngx = true) (h1 : Kept M z₀ s) : OutOk M z₀ (@execArmed src s) := by
  unfold execArmed
  refine State.onMsg_kept m_ngx ?_ ?_
  · assumption
  · intro v0
    intro v1
    intro v2
    refine ite_kept ?_ ?_
    · exact State.modArm_kept m_regs m_par (by assumption)
    · assumption

theorem execArm_kept {M : Mask} {z₀ : State} {src : Fin 16} {s : State} (m_regs : M.regs = true) (m_par : M.par = true)
    (m_ngx : M.ngx = true) (h1 : Kept M z₀ s) : OutOk M z₀ (@execArm src s) := by
  unfold execArm
  refine ite_ok ?_ ?_
  · exact OutOk.next (by assumption)
  · refine State.onMsg_kept m_ngx ?_ ?_
    · assumption
    · intro v0
      intro v1
      intro v2
      extract_lets x3 x4 x5 x6
      clear_value x3 x4 x5
      have k7 : Kept M z₀ x6 := by
        dsimp -zeta only [x6]
        exact State.setGroup_kept m_regs m_par (by assumption)
      clear_value x6
      refine ite_kept ?_ ?_
      · exact State.commitMsg_kept m_ngx (by assumption)
      · exact State.commitMsg_kept m_ngx (State.setGroupSt_kept m_regs (State.setReg64_kept m_regs (by assumption)))

theorem execRegRsp_kept {M : Mask} {z₀ : State} {src : Fin 16} {s : State} (m_regs : M.regs = true) (m_ngx : M.ngx = true)
    (h1 : Kept M z₀ s) : OutOk M z₀ (@execRegRsp src s) := by
  unfold execRegRsp
  refine State.onMsg_kept m_ngx ?_ ?_
  · assumption
  · intro v0
    intro v1
    intro v2
    refine ite_kept ?_ ?_
    · assumption
    · extract_lets x3
      have k4 : Kept M z₀ x3 := by
        dsimp -zeta only [x3]
        refine ite_kept ?_ ?_
        · assumption
        · exact State.setReg_kept m_regs (by assumption)
      clear_value x3
      exact State.setBit_kept m_regs (by assumption)

theorem execRegWr_kept {M : Mask} {z₀ : State} {src : Fin 16} {s : State} (m_regs : M.regs = true) (m_latches : M.latches =
    true) (m_rdata : M.rdata = true) (m_eng : M.eng = true) (m_chainNow : M.chainNow = true) (m_chainId : M.chainId = true)
    (m_chainFrz : M.chainFrz = true) (m_chainTorn : M.chainTorn = true) (m_chainIn : M.chainIn = true) (m_fab : M.fab = true)
    (m_tick : M.tick = true) (m_par : M.par = true) (m_cal : M.cal = true) (m_res : M.res = true) (m_ctx : M.ctx = true)
    (m_mode : M.mode = true) (m_route : M.route = true) (m_mov : M.mov = true) (m_port : M.port = true) (m_pcie : M.pcie =
    true) (m_clk : M.clk = true) (m_keep : M.keep = true) (m_pwr : M.pwr = true) (m_ngx : M.ngx = true) (m_boot : M.boot =
    true) (m_spim : M.spim = true) (m_spis : M.spis = true) (m_test : M.test = true) (m_tap : M.tap = true) (m_gpio : M.gpio
    = true) (m_calMem : M.calMem = true) (m_flash : M.flash = true) (m_tcm : M.tcm = true) (m_fuse : M.fuse = true) (h1 :
    Kept M z₀ s) : OutOk M z₀ (@execRegWr src s) := by
  unfold execRegWr
  refine State.onMsg_kept m_ngx ?_ ?_
  · assumption
  · intro v0
    intro v1
    intro v2
    exact State.ngxSend_kept m_ngx (State.barWrite_kept m_regs m_latches m_rdata m_eng m_chainNow m_chainId m_chainFrz
        m_chainTorn m_chainIn m_fab m_tick m_par m_cal m_res m_ctx m_mode m_route m_mov m_port m_pcie m_clk m_keep m_pwr
        m_ngx m_boot m_spim m_spis m_test m_tap m_gpio m_calMem m_flash m_tcm m_fuse (by assumption))

theorem execRegRd_kept {M : Mask} {z₀ : State} {src : Fin 16} {s : State} (m_regs : M.regs = true) (m_latches : M.latches =
    true) (m_mov : M.mov = true) (m_port : M.port = true) (m_ngx : M.ngx = true) (h1 : Kept M z₀ s) : OutOk M z₀ (@execRegRd
    src s) := by
  unfold execRegRd
  refine State.onMsg_kept m_ngx ?_ ?_
  · assumption
  · intro v0
    intro v1
    intro v2
    extract_lets x3
    have k4 : Kept M z₀ x3.2 := by
      dsimp -zeta only [x3]
      exact State.barRead_kept m_regs m_latches m_mov m_port (by assumption)
    clear_value x3
    exact State.ngxSend_kept m_ngx (by assumption)

theorem execNgxData_kept {M : Mask} {z₀ : State} {src : Fin 16} {evCons : BitVec 32} {s : State} (m_regs : M.regs = true)
    (m_fab : M.fab = true) (m_ctx : M.ctx = true) (m_pcie : M.pcie = true) (m_ngx : M.ngx = true) (h2 : Kept M z₀ s) : OutOk
    M z₀ (@execNgxData src evCons s) := by
  unfold execNgxData
  refine State.onMsg_kept m_ngx ?_ ?_
  · assumption
  · intro v0
    intro v1
    intro v2
    refine ite_kept ?_ ?_
    · exact State.msgDrop_kept m_regs (by assumption)
    · refine ite_kept ?_ ?_
      · extract_lets x3
        have k4 : Kept M z₀ x3 := by
          dsimp -zeta only [x3]
          exact State.modNgx_kept m_ngx (by assumption)
        clear_value x3
        exact State.showCtx_kept m_regs (State.modContext_kept m_ctx (by assumption))
      · refine ite_kept ?_ ?_
        · exact State.consumer_kept m_regs m_fab m_ctx m_pcie m_ngx (by assumption)
        · exact State.msgDrop_kept m_regs (by assumption)

theorem execNgxAck_kept {M : Mask} {z₀ : State} {src : Fin 16} {s : State} (m_ngx : M.ngx = true) (h1 : Kept M z₀ s) : OutOk
    M z₀ (@execNgxAck src s) := by
  unfold execNgxAck
  refine State.onMsg_kept m_ngx ?_ ?_
  · assumption
  · intro v0
    intro v1
    intro v2
    refine foldl_kept ?_ ?_
    · assumption
    · intro v3
      intro v4
      intro v5
      refine ite_kept ?_ ?_
      · assumption
      · extract_lets x6
        clear_value x6
        exact State.modNgx_kept m_ngx (by assumption)

theorem execNgxVoid_kept {M : Mask} {z₀ : State} {src : Fin 16} {s : State} (m_ngx : M.ngx = true) (h1 : Kept M z₀ s) : OutOk
    M z₀ (@execNgxVoid src s) := by
  unfold execNgxVoid
  refine State.onMsg_kept m_ngx ?_ ?_
  · assumption
  · intro v0
    intro v1
    intro v2
    assumption

theorem execBeaconEvent_kept {M : Mask} {z₀ : State} {s : State} (m_regs : M.regs = true) (m_tick : M.tick = true) (m_par :
    M.par = true) (m_clk : M.clk = true) (m_ngx : M.ngx = true) (h0 : Kept M z₀ s) : OutOk M z₀ (@execBeaconEvent s) := by
  unfold execBeaconEvent
  split
  · exact OutOk.next (by assumption)
  · refine ite_ok ?_ ?_
    · exact OutOk.next (by assumption)
    · extract_lets x0 x1 x2 x3
      have k4 : Kept M z₀ x0 := by
        dsimp -zeta only [x0]
        exact State.modNgx_kept m_ngx (by assumption)
      clear_value x0 x1 x2
      have k5 : Kept M z₀ x3 := by
        dsimp -zeta only [x3]
        exact State.sourceEvent_kept m_regs m_tick m_clk (State.modNgx_kept m_ngx (by assumption))
      clear_value x3
      refine ite_ok ?_ ?_
      · refine ite_ok ?_ ?_
        · exact OutOk.next (by assumption)
        · refine ite_ok ?_ ?_
          · exact OutOk.next (State.setBit_kept m_regs (by assumption))
          · exact OutOk.next (State.modNgx_kept m_ngx (by assumption))
      · refine OutOk.next ?_
        refine ite_kept ?_ ?_
        · exact State.modNgx_kept m_ngx (State.dropDoubt_kept m_regs m_par (State.setBit_kept m_regs (by assumption)))
        · assumption

theorem execFrameLoss_kept {M : Mask} {z₀ : State} {s : State} (m_regs : M.regs = true) (m_keep : M.keep = true) (m_ngx :
    M.ngx = true) (h0 : Kept M z₀ s) : OutOk M z₀ (@execFrameLoss s) := by
  unfold execFrameLoss
  refine OutOk.next ?_
  refine ite_kept ?_ ?_
  · exact State.frameLost_kept m_regs m_keep m_ngx (by assumption)
  · assumption

theorem State.followHeader_kept {M : Mask} {z₀ : State} {s : State} {h : List Word} (m_regs : M.regs = true) (m_par : M.par =
    true) (m_ngx : M.ngx = true) (m_gpio : M.gpio = true) (h0 : Kept M z₀ s) : Kept M z₀ (@State.followHeader s h) := by
  unfold State.followHeader
  extract_lets x0 x1 x2 x3 x4 x5 x6 x7 x8
  clear_value x0 x1 x2 x3 x4
  have k9 : Kept M z₀ x5 := by
    dsimp -zeta only [x5]
    exact State.setFld_kept m_regs (State.setBit_kept m_regs (State.setFld_kept m_regs (by assumption)))
  clear_value x5
  have k10 : Kept M z₀ x6 := by
    dsimp -zeta only [x6]
    refine ite_kept ?_ ?_
    · exact State.setBit_kept m_regs (by assumption)
    · assumption
  clear_value x6
  have k11 : Kept M z₀ x7 := by
    dsimp -zeta only [x7]
    exact State.setFld_kept m_regs (State.setReg_kept m_regs (by assumption))
  clear_value x7
  have k12 : Kept M z₀ x8 := by
    dsimp -zeta only [x8]
    exact State.modNgx_kept m_ngx (by assumption)
  clear_value x8
  exact State.pulse_kept m_gpio (State.takeDecisions_kept m_regs m_par m_ngx (State.seeSessions_kept m_regs m_ngx (by
      assumption)))

theorem State.keepAudio_kept {M : Mask} {z₀ : State} {s : State} {h : List Word} {audio : List Word} {ok : Bool} (m_ngx :
    M.ngx = true) (h0 : Kept M z₀ s) : Kept M z₀ (@State.keepAudio s h audio ok) := by
  unfold State.keepAudio
  refine ite_kept ?_ ?_
  · assumption
  · extract_lets x0
    clear_value x0
    exact State.modNgx_kept m_ngx (by assumption)

theorem State.followerTakes_kept {M : Mask} {z₀ : State} {s : State} {ws : List Word} {lag : Nat} {was : Nat} {okH : Bool}
    {okA : Bool} {okS : List Bool} (m_regs : M.regs = true) (m_par : M.par = true) (m_ctx : M.ctx = true) (m_ngx : M.ngx =
    true) (m_gpio : M.gpio = true) (h0 : Kept M z₀ s) : Kept M z₀ (@State.followerTakes s ws lag was okH okA okS) := by
  unfold State.followerTakes
  extract_lets x0 x1 x2 x3 x4 x5 x6 x7 x8
  clear_value x0 x1 x2 x3
  have k9 : Kept M z₀ x4 := by
    dsimp -zeta only [x4]
    refine ite_kept ?_ ?_
    · exact State.keepAudio_kept m_ngx (State.followHeader_kept m_regs m_par m_ngx m_gpio (by assumption))
    · assumption
  clear_value x4 x5 x6 x7 x8
  refine ite_kept ?_ ?_
  · exact State.modNgx_kept m_ngx (State.setBit_kept m_regs (State.setBit_kept m_regs (by assumption)))
  · split
    · rename_i w10 w11 w12 w13
      have k14 : Kept M z₀ w12 := snd_of w13 (by
          refine foldl_kept2 ?_ ?_
          · assumption
          · intro v15
            intro v16
            intro v17
            extract_lets x18 x19 x20 x21
            clear_value x18
            have k22 : Kept M z₀ x19.2 := by
              dsimp -zeta only [x19]
              exact State.passSlot_kept m_regs m_ctx m_ngx (by assumption)
            clear_value x19 x20 x21
            split
            · assumption
            · split
              · assumption
              · dsimp -zeta only
                refine ite_kept ?_ ?_
                · exact State.takeMsg_kept m_regs m_ngx (by assumption)
                · assumption)
      extract_lets x23
      clear_value x23
      exact State.modNgx_kept m_ngx (by assumption)

theorem State.returnSlot_kept {M : Mask} {z₀ : State} {s : State} {ws : List Word} {ok : Bool} (m_regs : M.regs = true)
    (m_ngx : M.ngx = true) (h0 : Kept M z₀ s) : Kept M z₀ (@State.returnSlot s ws ok).2 := by
  unfold State.returnSlot
  split
  · assumption
  · extract_lets x0 x1
    clear_value x0
    have k2 : Kept M z₀ x1 := by
      dsimp -zeta only [x1]
      refine ite_kept ?_ ?_
      · exact State.takeMsg_kept m_regs m_ngx (by assumption)
      · assumption
    clear_value x1
    assumption

theorem State.measureLoop_kept {M : Mask} {z₀ : State} {s : State} {h : List Word} {L : Nat} (m_regs : M.regs = true) (m_ngx
    : M.ngx = true) (h0 : Kept M z₀ s) : Kept M z₀ (@State.measureLoop s h L) := by
  unfold State.measureLoop
  extract_lets x0 x1 x2 x3
  clear_value x0
  have k4 : Kept M z₀ x1 := by
    dsimp -zeta only [x1]
    exact State.setFld_kept m_regs (State.setFld_kept m_regs (by assumption))
  clear_value x1
  have k5 : Kept M z₀ x2 := by
    dsimp -zeta only [x2]
    exact State.setFld_kept m_regs (by assumption)
  clear_value x2
  have k6 : Kept M z₀ x3 := by
    dsimp -zeta only [x3]
    refine ite_kept ?_ ?_
    · exact State.setFld_kept m_regs (by assumption)
    · assumption
  clear_value x3
  refine ite_kept ?_ ?_
  · exact State.setFld_kept m_regs (State.setBit_kept m_regs (by assumption))
  · refine ite_kept ?_ ?_
    · exact State.setBit_kept m_regs (by assumption)
    · refine ite_kept ?_ ?_
      · assumption
      · exact State.modNgx_kept m_ngx (by assumption)

theorem State.masterTakes_kept {M : Mask} {z₀ : State} {s : State} {ws : List Word} {L : Nat} {okH : Bool} {okA : Bool} {okS
    : List Bool} (m_regs : M.regs = true) (m_ngx : M.ngx = true) (h0 : Kept M z₀ s) : Kept M z₀ (@State.masterTakes s ws L
    okH okA okS) := by
  unfold State.masterTakes
  extract_lets x0 x1
  clear_value x0
  have k2 : Kept M z₀ x1 := by
    dsimp -zeta only [x1]
    refine ite_kept ?_ ?_
    · exact State.keepAudio_kept m_ngx (State.measureLoop_kept m_regs m_ngx (State.seeSessions_kept m_regs m_ngx (by
        assumption)))
    · assumption
  clear_value x1
  split
  · rename_i w3 w4 w5 w6
    have k7 : Kept M z₀ w5 := snd_of w6 (by
        refine forN_kept2 ?_ ?_
        · assumption
        · intro v8
          intro v9
          intro v10
          extract_lets x11
          have k12 : Kept M z₀ x11.2 := by
            dsimp -zeta only [x11]
            exact State.returnSlot_kept m_regs m_ngx (by assumption)
          clear_value x11
          assumption)
    exact State.modNgx_kept m_ngx (by assumption)

theorem execFrameReceive_kept {M : Mask} {z₀ : State} {ws : List (BitVec 32)} {gap : Nat} {lag : BitVec 16} {s : State}
    (m_regs : M.regs = true) (m_par : M.par = true) (m_ctx : M.ctx = true) (m_keep : M.keep = true) (m_ngx : M.ngx = true)
    (m_boot : M.boot = true) (m_gpio : M.gpio = true) (h3 : Kept M z₀ s) : OutOk M z₀ (@execFrameReceive ws gap lag s) := by
  unfold execFrameReceive
  refine ite_ok ?_ ?_
  · exact OutOk.next (by assumption)
  · extract_lets x0 x1 x2 x3 x4 x5 x6 x7 x8
    clear_value x0 x1 x2 x3 x4
    have k9 : Kept M z₀ x5 := by
      dsimp -zeta only [x5]
      refine ite_kept ?_ ?_
      · exact State.frameGood_kept m_regs m_ngx (by assumption)
      · exact State.frameLost_kept m_regs m_keep m_ngx (State.bump_kept m_regs (by assumption))
    clear_value x5
    have k10 : Kept M z₀ x6 := by
      dsimp -zeta only [x6]
      refine ite_kept ?_ ?_
      · assumption
      · exact State.bump_kept m_regs (by assumption)
    clear_value x6
    have k11 : Kept M z₀ x7 := by
      dsimp -zeta only [x7]
      exact State.bumpBy_kept m_regs (by assumption)
    clear_value x7
    have k12 : Kept M z₀ x8 := by
      dsimp -zeta only [x8]
      refine ite_kept ?_ ?_
      · exact State.masterTakes_kept m_regs m_ngx (by assumption)
      · exact State.followerTakes_kept m_regs m_par m_ctx m_ngx m_gpio (by assumption)
    clear_value x8
    refine OutOk.next ?_
    refine ite_kept ?_ ?_
    · exact State.bootAsk_kept m_ngx m_boot (by assumption)
    · assumption

theorem State.masterSlots_kept {M : Mask} {z₀ : State} {s : State} (m_regs : M.regs = true) (m_ctx : M.ctx = true) (m_ngx :
    M.ngx = true) (h0 : Kept M z₀ s) : Kept M z₀ (@State.masterSlots s).2 := by
  unfold State.masterSlots
  extract_lets x0 x1
  clear_value x0 x1
  refine forN_kept2 ?_ ?_
  · assumption
  · intro v2
    intro v3
    intro v4
    extract_lets x5 x6 x7
    clear_value x5 x6
    have k8 : Kept M z₀ x7.2 := by
      dsimp -zeta only [x7]
      exact State.fillSlot_kept m_regs m_ctx m_ngx (by assumption)
    clear_value x7
    split
    · assumption
    · split
      · assumption
      · assumption

theorem execFrameOriginate_kept {M : Mask} {z₀ : State} {idle : Fin 17} {s : State} (m_regs : M.regs = true) (m_ctx : M.ctx =
    true) (m_ngx : M.ngx = true) (m_gpio : M.gpio = true) (h1 : Kept M z₀ s) : OutOk M z₀ (@execFrameOriginate idle s) := by
  unfold execFrameOriginate
  refine ite_ok ?_ ?_
  · exact OutOk.next (by assumption)
  · extract_lets x0 x1 x2 x3 x4 x5 x6 x7
    clear_value x0
    have k8 : Kept M z₀ x1 := by
      dsimp -zeta only [x1]
      refine ite_kept ?_ ?_
      · exact State.setBit_kept m_regs (by assumption)
      · assumption
    clear_value x1
    have k9 : Kept M z₀ x2 := by
      dsimp -zeta only [x2]
      refine ite_kept ?_ ?_
      · exact State.setBit_kept m_regs (by assumption)
      · assumption
    clear_value x2
    have k10 : Kept M z₀ x3 := by
      dsimp -zeta only [x3]
      exact State.modNgx_kept m_ngx (by assumption)
    clear_value x3 x4 x5 x6 x7
    split
    · rename_i w11 w12 w13 w14
      have k15 : Kept M z₀ w13 := snd_of w14 (by
          refine State.masterSlots_kept m_regs m_ctx m_ngx ?_
          assumption)
      extract_lets x16
      clear_value x16
      exact OutOk.next (State.pulse_kept m_gpio (State.modNgx_kept m_ngx (by assumption)))

theorem execCascSend_kept {M : Mask} {z₀ : State} {c : Fin 512} {q : BitVec 32} {payload : List (BitVec 32)} {fail : Fin 3}
    {s : State} (m_ctx : M.ctx = true) (m_ngx : M.ngx = true) (h4 : Kept M z₀ s) : OutOk M z₀ (@execCascSend c q payload fail
    s) := by
  unfold execCascSend
  split
  · split
    · exact OutOk.next (by assumption)
    · extract_lets x0 x1 x2
      clear_value x0 x1 x2
      refine ite_ok ?_ ?_
      · exact OutOk.next (State.finish_kept m_ctx (by assumption))
      · refine ite_ok ?_ ?_
        · exact OutOk.next (State.finish_kept m_ctx (by assumption))
        · refine ite_ok ?_ ?_
          · exact OutOk.next (by assumption)
          · exact OutOk.next (State.ngxSend_kept m_ngx (State.begin_kept m_ctx (by assumption)))

theorem State.decideGo_kept {M : Mask} {z₀ : State} {s : State} {g : Nat} {a : Arm} {d : Nat} {late : Bool} (m_regs : M.regs
    = true) (m_par : M.par = true) (m_ctx : M.ctx = true) (h0 : Kept M z₀ s) : Kept M z₀ (@State.decideGo s g a d late) := by
  unfold State.decideGo
  extract_lets x0 x1 x2
  have k3 : Kept M z₀ x0 := by
    dsimp -zeta only [x0]
    exact State.modArm_kept m_regs m_par (State.grant_kept m_ctx (by assumption))
  clear_value x0
  have k4 : Kept M z₀ x1 := by
    dsimp -zeta only [x1]
    exact State.setGroupSt_kept m_regs (State.setReg64_kept m_regs (by assumption))
  clear_value x1 x2
  exact Kept.upPar m_par (by assumption)

theorem State.decideAbort_kept {M : Mask} {z₀ : State} {s : State} {g : Nat} {a : Arm} {st : Nat} (m_regs : M.regs = true)
    (m_par : M.par = true) (m_ctx : M.ctx = true) (h0 : Kept M z₀ s) : Kept M z₀ (@State.decideAbort s g a st) := by
  unfold State.decideAbort
  extract_lets x0 x1
  have k2 : Kept M z₀ x0 := by
    dsimp -zeta only [x0]
    exact State.setResult_kept m_ctx (State.restageGroup_kept m_regs m_par (by assumption))
  clear_value x0 x1
  exact Kept.upPar m_par (by assumption)

theorem execCascadeDecision_kept {M : Mask} {z₀ : State} {g : Fin 64} {s : State} (m_regs : M.regs = true) (m_par : M.par =
    true) (m_ctx : M.ctx = true) (h1 : Kept M z₀ s) : OutOk M z₀ (@execCascadeDecision g s) := by
  unfold execCascadeDecision
  extract_lets x0 x1 x2
  clear_value x0 x1 x2
  split
  · exact OutOk.next (by assumption)
  · refine ite_ok ?_ ?_
    · exact OutOk.next (by assumption)
    · refine ite_ok ?_ ?_
      · exact OutOk.next (State.decideAbort_kept m_regs m_par m_ctx (by assumption))
      · refine ite_ok ?_ ?_
        · exact OutOk.next (by assumption)
        · extract_lets x3 x4
          clear_value x3
          have k5 : Kept M z₀ x4 := by
            dsimp -zeta only [x4]
            exact State.modArm_kept m_regs m_par (by assumption)
          clear_value x4
          refine ite_ok ?_ ?_
          · exact OutOk.next (State.decideAbort_kept m_regs m_par m_ctx (State.setBit_kept m_regs (by assumption)))
          · refine ite_ok ?_ ?_
            · exact OutOk.next (by assumption)
            · refine ite_ok ?_ ?_
              · exact OutOk.next (State.decideGo_kept m_regs m_par m_ctx (by assumption))
              · exact OutOk.next (State.decideGo_kept m_regs m_par m_ctx (by assumption))

theorem execCascadeCommit_kept {M : Mask} {z₀ : State} {c : Fin 512} {q : BitVec 32} {s : State} (m_regs : M.regs = true)
    (m_par : M.par = true) (m_ctx : M.ctx = true) (m_ngx : M.ngx = true) (h2 : Kept M z₀ s) : OutOk M z₀ (@execCascadeCommit
    c q s) := by
  unfold execCascadeCommit
  split
  · split
    · exact OutOk.next (by assumption)
    · extract_lets x0 x1 x2 x3 x4 x5 x6 x7
      clear_value x0 x1 x2 x3
      have k8 : Kept M z₀ x4 := by
        dsimp -zeta only [x4]
        exact State.modDesc_kept m_ctx (by assumption)
      clear_value x4 x5
      have k9 : Kept M z₀ x6 := by
        dsimp -zeta only [x6]
        exact State.setGroup_kept m_regs m_par (by assumption)
      clear_value x6
      have k10 : Kept M z₀ x7 := by
        dsimp -zeta only [x7]
        exact State.setGroupSt_kept m_regs (State.setReg64_kept m_regs (by assumption))
      clear_value x7
      refine ite_ok ?_ ?_
      · exact OutOk.next (State.finish_kept m_ctx (by assumption))
      · refine OutOk.next ?_
        refine foldl_kept ?_ ?_
        · assumption
        · intro v11
          intro v12
          intro v13
          exact State.commitMsg_kept m_ngx (by assumption)

end Sys2Proof.Machine
end

