-- ==== Sys2Proof/Laws/KeptQuery.lean ====
section
/-! SUPPORT. What the operations and meanings of Machine/Query.lean keep (Laws/Kept.lean). -/

namespace Sys2Proof.Machine

theorem State.query_kept {M : Mask} {z₀ : State} {s : State} {c : Nat} {q : Nat} {kind : Nat} {top : Nat} {size : Nat} {es :
    State → List (Nat × List Word)} (m_regs : M.regs = true) (m_fab : M.fab = true) (m_cal : M.cal = true) (m_ctx : M.ctx =
    true) (m_mov : M.mov = true) (m_ngx : M.ngx = true) (h0 : Kept M z₀ s) : Kept M z₀ (@State.query s c q kind top size es)
    := by
  unfold State.query
  split
  · assumption
  · refine ite_kept ?_ ?_
    · assumption
    · refine ite_kept ?_ ?_
      · exact State.finish_kept m_ctx (by assumption)
      · extract_lets x0 x1 x2
        have k3 : Kept M z₀ x0.2 := by
          dsimp -zeta only [x0]
          exact State.translateRange_kept m_regs m_cal m_mov (by assumption)
        clear_value x0 x1 x2
        split
        · assumption
        · exact State.finish_kept m_ctx (by assumption)
        · refine State.finish_kept m_ctx ?_
          refine foldl_kept ?_ ?_
          · assumption
          · intro v4
            intro v5
            intro v6
            exact State.ctxWrite_kept m_fab m_ngx (by assumption)

theorem execQueryGroups_kept {M : Mask} {z₀ : State} {c : Fin 512} {q : BitVec 32} {s : State} (m_regs : M.regs = true)
    (m_fab : M.fab = true) (m_cal : M.cal = true) (m_ctx : M.ctx = true) (m_mov : M.mov = true) (m_ngx : M.ngx = true) (h2 :
    Kept M z₀ s) : OutOk M z₀ (@execQueryGroups c q s) := by
  unfold execQueryGroups
  exact OutOk.next (State.query_kept m_regs m_fab m_cal m_ctx m_mov m_ngx (by assumption))

theorem execQueryLines_kept {M : Mask} {z₀ : State} {c : Fin 512} {q : BitVec 32} {s : State} (m_regs : M.regs = true) (m_fab
    : M.fab = true) (m_cal : M.cal = true) (m_ctx : M.ctx = true) (m_mov : M.mov = true) (m_ngx : M.ngx = true) (h2 : Kept M
    z₀ s) : OutOk M z₀ (@execQueryLines c q s) := by
  unfold execQueryLines
  exact OutOk.next (State.query_kept m_regs m_fab m_cal m_ctx m_mov m_ngx (by assumption))

theorem execQuerySegments_kept {M : Mask} {z₀ : State} {c : Fin 512} {q : BitVec 32} {s : State} (m_regs : M.regs = true)
    (m_fab : M.fab = true) (m_cal : M.cal = true) (m_ctx : M.ctx = true) (m_mov : M.mov = true) (m_ngx : M.ngx = true) (h2 :
    Kept M z₀ s) : OutOk M z₀ (@execQuerySegments c q s) := by
  unfold execQuerySegments
  exact OutOk.next (State.query_kept m_regs m_fab m_cal m_ctx m_mov m_ngx (by assumption))

theorem execQueryContext_kept {M : Mask} {z₀ : State} {c : Fin 512} {q : BitVec 32} {s : State} (m_regs : M.regs = true)
    (m_fab : M.fab = true) (m_cal : M.cal = true) (m_ctx : M.ctx = true) (m_mov : M.mov = true) (m_ngx : M.ngx = true) (h2 :
    Kept M z₀ s) : OutOk M z₀ (@execQueryContext c q s) := by
  unfold execQueryContext
  exact OutOk.next (State.query_kept m_regs m_fab m_cal m_ctx m_mov m_ngx (by assumption))

end Sys2Proof.Machine
end

