-- ==== Sys2Proof/Laws/KeptSpis.lean ====
section
/-! SUPPORT. What the operations and meanings of Machine/Spis.lean keep (Laws/Kept.lean). -/

namespace Sys2Proof.Machine

theorem State.modSpis_kept {M : Mask} {z₀ : State} {s : State} {f : SpisState → SpisState} (m_spis : M.spis = true) (h0 :
    Kept M z₀ s) : Kept M z₀ (@State.modSpis s f) := by
  unfold State.modSpis
  exact Kept.upSpis m_spis (by assumption)

theorem State.mbxFlash_kept {M : Mask} {z₀ : State} {s : State} {op : Nat} {alive : BitVec 4} {k : FlashCmd} (m_regs : M.regs
    = true) (m_boot : M.boot = true) (m_spim : M.spim = true) (m_spis : M.spis = true) (m_flash : M.flash = true) (h0 : Kept
    M z₀ s) : Kept M z₀ (@State.mbxFlash s op alive k) := by
  unfold State.mbxFlash
  exact State.spimReq_kept m_regs m_boot m_spim m_flash (State.modSpis_kept m_spis (by assumption))

theorem State.spisRepeat_kept {M : Mask} {z₀ : State} {s : State} (m_regs : M.regs = true) (m_spis : M.spis = true) (h0 :
    Kept M z₀ s) : Kept M z₀ (@State.spisRepeat s) := by
  unfold State.spisRepeat
  exact State.modSpis_kept m_spis (State.bump_kept m_regs (by assumption))

theorem State.spisDrop_kept {M : Mask} {z₀ : State} {s : State} (m_regs : M.regs = true) (m_spis : M.spis = true) (h0 : Kept
    M z₀ s) : Kept M z₀ (@State.spisDrop s) := by
  unfold State.spisDrop
  exact State.modSpis_kept m_spis (State.bump_kept m_regs (State.setBit_kept m_regs (by assumption)))

theorem State.spisDo_kept {M : Mask} {z₀ : State} {s : State} {m3 : Bool} {f : State → State} (m_regs : M.regs = true) (h0 :
    Kept M z₀ s) (h2 : ∀ u0, Kept M z₀ u0 → Kept M z₀ (f u0)) : Kept M z₀ (@State.spisDo s m3 f) := by
  unfold State.spisDo
  refine ite_kept ?_ ?_
  · apply h2
    exact State.setBit_kept m_regs (by assumption)
  · assumption

theorem State.spisReq_kept {M : Mask} {z₀ : State} {s : State} {m3 : Bool} {op : Nat} {alive : BitVec 4} {addr : BitVec 32}
    {data : List Sys2Proof.Byte} {f : State → State} (m_regs : M.regs = true) (m_spis : M.spis = true) (h0 : Kept M z₀ s) (h6
    : ∀ u0, Kept M z₀ u0 → Kept M z₀ (f u0)) : Kept M z₀ (@State.spisReq s m3 op alive addr data f) := by
  unfold State.spisReq
  refine State.spisDo_kept m_regs ?_ ?_
  · assumption
  · intro v0
    intro v1
    extract_lets x2
    clear_value x2
    refine ite_kept ?_ ?_
    · exact State.spisDrop_kept m_regs m_spis (by assumption)
    · refine ite_kept ?_ ?_
      · exact State.spisRepeat_kept m_regs m_spis (by assumption)
      · apply h6
        exact State.modSpis_kept m_spis (by assumption)

theorem State.mbxReq_kept {M : Mask} {z₀ : State} {s : State} {m3 : Bool} {op : Nat} {alive : BitVec 4} {addr : BitVec 32}
    {data : List Sys2Proof.Byte} {f : State → State} (m_regs : M.regs = true) (m_spis : M.spis = true) (h0 : Kept M z₀ s) (h6
    : ∀ u0, Kept M z₀ u0 → Kept M z₀ (f u0)) : Kept M z₀ (@State.mbxReq s m3 op alive addr data f) := by
  unfold State.mbxReq
  refine ite_kept ?_ ?_
  · refine State.spisReq_kept m_regs m_spis ?_ ?_
    · assumption
    · intro v0
      intro v1
      refine ite_kept ?_ ?_
      · exact State.spisAnswer_kept m_regs m_spis (by assumption)
      · apply h6
        assumption
  · assumption

theorem execMbxOpen_kept {M : Mask} {z₀ : State} {m3 : Bool} {alive : BitVec 4} {addr : BitVec 32} {s : State} (m_regs :
    M.regs = true) (m_boot : M.boot = true) (m_spim : M.spim = true) (m_spis : M.spis = true) (m_flash : M.flash = true) (h3
    : Kept M z₀ s) : OutOk M z₀ (@execMbxOpen m3 alive addr s) := by
  unfold execMbxOpen
  refine OutOk.next ?_
  refine State.mbxReq_kept m_regs m_spis ?_ ?_
  · assumption
  · intro v0
    intro v1
    exact State.mbxFlash_kept m_regs m_boot m_spim m_spis m_flash (by assumption)

theorem execReplyRead_kept {M : Mask} {z₀ : State} {m3 : Bool} {ready : Bool} {n : Nat} {s : State} (m_regs : M.regs = true)
    (m_spis : M.spis = true) (h3 : Kept M z₀ s) : OutOk M z₀ (@execReplyRead m3 ready n s) := by
  unfold execReplyRead
  refine OutOk.next ?_
  refine ite_kept ?_ ?_
  · exact State.modSpis_kept m_spis (by assumption)
  · refine State.spisDo_kept m_regs ?_ ?_
    · assumption
    · intro v0
      intro v1
      extract_lets x2
      clear_value x2
      exact State.modSpis_kept m_spis (by assumption)

theorem State.spisTest_kept {M : Mask} {z₀ : State} {s : State} {m3 : Bool} {alive : BitVec 4} {addr : BitVec 32} {data :
    List Sys2Proof.Byte} {f : State → State} (m_regs : M.regs = true) (m_spis : M.spis = true) (h0 : Kept M z₀ s) (h5 : ∀ u0,
    Kept M z₀ u0 → Kept M z₀ (f u0)) : Kept M z₀ (@State.spisTest s m3 alive addr data f) := by
  unfold State.spisTest
  refine State.spisReq_kept m_regs m_spis ?_ ?_
  · assumption
  · intro v0
    intro v1
    refine ite_kept ?_ ?_
    · apply h5
      assumption
    · exact State.spisAnswer_kept m_regs m_spis (by assumption)

theorem execSpisResultRead_kept {M : Mask} {z₀ : State} {m3 : Bool} {alive : BitVec 4} {addr : BitVec 32} {b : BitVec 8} {s :
    State} (m_regs : M.regs = true) (m_spis : M.spis = true) (h4 : Kept M z₀ s) : OutOk M z₀ (@execSpisResultRead m3 alive
    addr b s) := by
  unfold execSpisResultRead
  refine OutOk.next ?_
  refine State.spisTest_kept m_regs m_spis ?_ ?_
  · assumption
  · intro v0
    intro v1
    refine ite_kept ?_ ?_
    · exact State.spisAnswer_kept m_regs m_spis (by assumption)
    · exact State.spisAnswer_kept m_regs m_spis (by assumption)

theorem execSpisTestStat_kept {M : Mask} {z₀ : State} {m3 : Bool} {alive : BitVec 4} {addr : BitVec 32} {s : State} (m_regs :
    M.regs = true) (m_spis : M.spis = true) (h3 : Kept M z₀ s) : OutOk M z₀ (@execSpisTestStat m3 alive addr s) := by
  unfold execSpisTestStat
  refine OutOk.next ?_
  refine State.spisTest_kept m_regs m_spis ?_ ?_
  · assumption
  · intro v0
    intro v1
    exact State.spisAnswer_kept m_regs m_spis (by assumption)

theorem execSpisTestRun_kept {M : Mask} {z₀ : State} {m3 : Bool} {alive : BitVec 4} {addr : BitVec 32} {t : BitVec 8} {s :
    State} (m_regs : M.regs = true) (m_eng : M.eng = true) (m_fab : M.fab = true) (m_cal : M.cal = true) (m_ctx : M.ctx =
    true) (m_mode : M.mode = true) (m_port : M.port = true) (m_pcie : M.pcie = true) (m_keep : M.keep = true) (m_ngx : M.ngx
    = true) (m_spis : M.spis = true) (m_test : M.test = true) (m_calMem : M.calMem = true) (h4 : Kept M z₀ s) : OutOk M z₀
    (@execSpisTestRun m3 alive addr t s) := by
  unfold execSpisTestRun
  refine OutOk.next ?_
  refine State.spisTest_kept m_regs m_spis ?_ ?_
  · assumption
  · intro v0
    intro v1
    extract_lets x2
    clear_value x2
    exact State.spisAnswer_kept m_regs m_spis (State.testStart_kept m_regs m_eng m_fab m_cal m_ctx m_mode m_port m_pcie
        m_keep m_ngx m_test m_calMem (by assumption))

theorem execMbxStat_kept {M : Mask} {z₀ : State} {m3 : Bool} {alive : BitVec 4} {addr : BitVec 32} {s : State} (m_regs :
    M.regs = true) (m_spis : M.spis = true) (h3 : Kept M z₀ s) : OutOk M z₀ (@execMbxStat m3 alive addr s) := by
  unfold execMbxStat
  refine OutOk.next ?_
  refine State.mbxReq_kept m_regs m_spis ?_ ?_
  · assumption
  · intro v0
    intro v1
    exact State.spisAnswer_kept m_regs m_spis (by assumption)

theorem execMbxGo_kept {M : Mask} {z₀ : State} {m3 : Bool} {alive : BitVec 4} {addr : BitVec 32} {len : BitVec 32} {flags :
    BitVec 8} {s : State} (m_regs : M.regs = true) (m_boot : M.boot = true) (m_spis : M.spis = true) (h5 : Kept M z₀ s) :
    OutOk M z₀ (@execMbxGo m3 alive addr len flags s) := by
  unfold execMbxGo
  refine OutOk.next ?_
  refine State.mbxReq_kept m_regs m_spis ?_ ?_
  · assumption
  · intro v0
    intro v1
    exact State.spisAnswer_kept m_regs m_spis (State.mbxGo_kept m_regs m_boot (by assumption))

theorem execMbxWr_kept {M : Mask} {z₀ : State} {m3 : Bool} {alive : BitVec 4} {addr : BitVec 32} {data : List (BitVec 8)} {s
    : State} (m_regs : M.regs = true) (m_boot : M.boot = true) (m_spim : M.spim = true) (m_spis : M.spis = true) (m_flash :
    M.flash = true) (h4 : Kept M z₀ s) : OutOk M z₀ (@execMbxWr m3 alive addr data s) := by
  unfold execMbxWr
  refine OutOk.next ?_
  refine ite_kept ?_ ?_
  · assumption
  · refine State.mbxReq_kept m_regs m_spis ?_ ?_
    · assumption
    · intro v0
      intro v1
      refine ite_kept ?_ ?_
      · exact State.spisAnswer_kept m_regs m_spis (by assumption)
      · exact State.mbxFlash_kept m_regs m_boot m_spim m_spis m_flash (by assumption)

theorem execSpisRegWr_kept {M : Mask} {z₀ : State} {m3 : Bool} {alive : BitVec 4} {addr : BitVec 32} {v : BitVec 32} {s :
    State} (m_regs : M.regs = true) (m_latches : M.latches = true) (m_rdata : M.rdata = true) (m_eng : M.eng = true)
    (m_chainNow : M.chainNow = true) (m_chainId : M.chainId = true) (m_chainFrz : M.chainFrz = true) (m_chainTorn :
    M.chainTorn = true) (m_chainIn : M.chainIn = true) (m_fab : M.fab = true) (m_tick : M.tick = true) (m_par : M.par = true)
    (m_cal : M.cal = true) (m_res : M.res = true) (m_ctx : M.ctx = true) (m_mode : M.mode = true) (m_route : M.route = true)
    (m_mov : M.mov = true) (m_port : M.port = true) (m_pcie : M.pcie = true) (m_clk : M.clk = true) (m_keep : M.keep = true)
    (m_pwr : M.pwr = true) (m_ngx : M.ngx = true) (m_boot : M.boot = true) (m_spim : M.spim = true) (m_spis : M.spis = true)
    (m_test : M.test = true) (m_tap : M.tap = true) (m_gpio : M.gpio = true) (m_calMem : M.calMem = true) (m_flash : M.flash
    = true) (m_tcm : M.tcm = true) (m_fuse : M.fuse = true) (h4 : Kept M z₀ s) : OutOk M z₀ (@execSpisRegWr m3 alive addr v
    s) := by
  unfold execSpisRegWr
  refine OutOk.next ?_
  refine State.spisReq_kept m_regs m_spis ?_ ?_
  · assumption
  · intro v0
    intro v1
    refine ite_kept ?_ ?_
    · exact State.spisAnswer_kept m_regs m_spis (State.barWrite_kept m_regs m_latches m_rdata m_eng m_chainNow m_chainId
        m_chainFrz m_chainTorn m_chainIn m_fab m_tick m_par m_cal m_res m_ctx m_mode m_route m_mov m_port m_pcie m_clk m_keep
        m_pwr m_ngx m_boot m_spim m_spis m_test m_tap m_gpio m_calMem m_flash m_tcm m_fuse (by assumption))
    · exact State.spisAnswer_kept m_regs m_spis (by assumption)

theorem execSpisRegRd_kept {M : Mask} {z₀ : State} {m3 : Bool} {alive : BitVec 4} {addr : BitVec 32} {s : State} (m_regs :
    M.regs = true) (m_latches : M.latches = true) (m_mov : M.mov = true) (m_port : M.port = true) (m_spis : M.spis = true)
    (h3 : Kept M z₀ s) : OutOk M z₀ (@execSpisRegRd m3 alive addr s) := by
  unfold execSpisRegRd
  refine OutOk.next ?_
  refine State.spisReq_kept m_regs m_spis ?_ ?_
  · assumption
  · intro v0
    intro v1
    refine ite_kept ?_ ?_
    · split
      · rename_i w2 w3 w4 w5
        have k6 : Kept M z₀ w4 := snd_of w5 (by
            refine State.barRead_kept m_regs m_latches m_mov m_port ?_
            assumption)
        exact State.spisAnswer_kept m_regs m_spis (by assumption)
    · exact State.spisAnswer_kept m_regs m_spis (by assumption)

theorem execPing_kept {M : Mask} {z₀ : State} {m3 : Bool} {op : BitVec 8} {alive : BitVec 4} {addr : BitVec 32} {data : List
    (BitVec 8)} {s : State} (m_regs : M.regs = true) (m_spis : M.spis = true) (h5 : Kept M z₀ s) : OutOk M z₀ (@execPing m3
    op alive addr data s) := by
  unfold execPing
  extract_lets x0
  clear_value x0
  refine OutOk.next ?_
  refine ite_kept ?_ ?_
  · assumption
  · refine State.spisReq_kept m_regs m_spis ?_ ?_
    · assumption
    · intro v1
      intro v2
      exact State.spisAnswer_kept m_regs m_spis (by assumption)

theorem execRepeat_kept {M : Mask} {z₀ : State} {m3 : Bool} {alive : BitVec 4} {crc : BitVec 16} {s : State} (m_regs : M.regs
    = true) (m_spis : M.spis = true) (h3 : Kept M z₀ s) : OutOk M z₀ (@execRepeat m3 alive crc s) := by
  unfold execRepeat
  refine OutOk.next ?_
  refine State.spisDo_kept m_regs ?_ ?_
  · assumption
  · intro v0
    intro v1
    refine ite_kept ?_ ?_
    · assumption
    · refine ite_kept ?_ ?_
      · exact State.spisDrop_kept m_regs m_spis (by assumption)
      · exact State.spisRepeat_kept m_regs m_spis (by assumption)

theorem execBadFrame_kept {M : Mask} {z₀ : State} {m3 : Bool} {s : State} (m_regs : M.regs = true) (m_spis : M.spis = true)
    (h1 : Kept M z₀ s) : OutOk M z₀ (@execBadFrame m3 s) := by
  unfold execBadFrame
  refine OutOk.next ?_
  refine State.spisDo_kept m_regs ?_ ?_
  · assumption
  · intro v0
    intro v1
    exact State.modSpis_kept m_spis (State.bump_kept m_regs (State.setBit_kept m_regs (by assumption)))

end Sys2Proof.Machine
end

