-- ==== Sys2Proof/Laws/KeptStep.lean ====
section
/-! SUPPORT. What the operations and meanings of Machine/Step.lean keep (Laws/Kept.lean). -/

namespace Sys2Proof.Machine

theorem State.fabCycle_kept {M : Mask} {z₀ : State} {s : State} (h0 : Kept M z₀ s) : Kept M z₀ (@State.fabCycle s) := by
  unfold State.fabCycle
  exact Kept.upNow (by omega) (by assumption)

end Sys2Proof.Machine
end

