-- ==== Sys2Proof/Laws/KeptTap.lean ====
section
/-! SUPPORT. What the operations and meanings of Machine/Tap.lean keep (Laws/Kept.lean). -/

namespace Sys2Proof.Machine

theorem State.modTap_kept {M : Mask} {z₀ : State} {s : State} {f : TapState → TapState} (m_tap : M.tap = true) (h0 : Kept M
    z₀ s) : Kept M z₀ (@State.modTap s f) := by
  unfold State.modTap
  exact Kept.upTap m_tap (by assumption)

theorem State.holdEnter_kept {M : Mask} {z₀ : State} {s : State} (m_regs : M.regs = true) (m_latches : M.latches = true)
    (m_rdata : M.rdata = true) (m_eng : M.eng = true) (m_chainNow : M.chainNow = true) (m_chainId : M.chainId = true)
    (m_chainFrz : M.chainFrz = true) (m_chainTorn : M.chainTorn = true) (m_chainIn : M.chainIn = true) (m_fab : M.fab = true)
    (m_tick : M.tick = true) (m_par : M.par = true) (m_cal : M.cal = true) (m_res : M.res = true) (m_ctx : M.ctx = true)
    (m_mode : M.mode = true) (m_route : M.route = true) (m_mov : M.mov = true) (m_port : M.port = true) (m_pcie : M.pcie =
    true) (m_clk : M.clk = true) (m_keep : M.keep = true) (m_pwr : M.pwr = true) (m_ngx : M.ngx = true) (m_boot : M.boot =
    true) (m_spim : M.spim = true) (m_spis : M.spis = true) (m_test : M.test = true) (m_tap : M.tap = true) (m_gpio : M.gpio
    = true) (m_calMem : M.calMem = true) (m_tcm : M.tcm = true) (h0 : Kept M z₀ s) : Kept M z₀ (@State.holdEnter s) := by
  unfold State.holdEnter
  extract_lets x0
  have k1 : Kept M z₀ x0 := by
    dsimp -zeta only [x0]
    exact State.modTap_kept m_tap (by assumption)
  clear_value x0
  refine ite_kept ?_ ?_
  · exact State.devReset_kept m_regs m_latches m_rdata m_eng m_chainNow m_chainId m_chainFrz m_chainTorn m_chainIn m_fab
      m_tick m_par m_cal m_res m_ctx m_mode m_route m_mov m_port m_pcie m_clk m_keep m_pwr m_ngx m_boot m_spim m_spis m_test
      m_tap m_gpio m_calMem m_tcm (by assumption)
  · assumption

theorem State.holdLeave_kept {M : Mask} {z₀ : State} {s : State} {straps : BitVec 6} (m_regs : M.regs = true) (m_latches :
    M.latches = true) (m_rdata : M.rdata = true) (m_eng : M.eng = true) (m_chainNow : M.chainNow = true) (m_chainId :
    M.chainId = true) (m_chainFrz : M.chainFrz = true) (m_chainTorn : M.chainTorn = true) (m_chainIn : M.chainIn = true)
    (m_fab : M.fab = true) (m_tick : M.tick = true) (m_par : M.par = true) (m_cal : M.cal = true) (m_res : M.res = true)
    (m_ctx : M.ctx = true) (m_mode : M.mode = true) (m_route : M.route = true) (m_mov : M.mov = true) (m_port : M.port =
    true) (m_pcie : M.pcie = true) (m_clk : M.clk = true) (m_keep : M.keep = true) (m_pwr : M.pwr = true) (m_ngx : M.ngx =
    true) (m_boot : M.boot = true) (m_spim : M.spim = true) (m_spis : M.spis = true) (m_test : M.test = true) (m_tap : M.tap
    = true) (m_gpio : M.gpio = true) (m_calMem : M.calMem = true) (m_tcm : M.tcm = true) (h0 : Kept M z₀ s) : Kept M z₀
    (@State.holdLeave s straps) := by
  unfold State.holdLeave
  extract_lets x0
  have k1 : Kept M z₀ x0 := by
    dsimp -zeta only [x0]
    exact State.modTap_kept m_tap (by assumption)
  clear_value x0
  refine ite_kept ?_ ?_
  · exact State.bootReset_kept m_regs m_latches m_rdata m_eng m_chainNow m_chainId m_chainFrz m_chainTorn m_chainIn m_fab
      m_tick m_par m_cal m_res m_ctx m_mode m_route m_mov m_port m_pcie m_clk m_keep m_pwr m_ngx m_boot m_spim m_spis m_test
      m_tap m_gpio m_calMem m_tcm (by assumption)
  · assumption

theorem State.scanLeave_kept {M : Mask} {z₀ : State} {s : State} {straps : BitVec 6} (m_regs : M.regs = true) (m_latches :
    M.latches = true) (m_rdata : M.rdata = true) (m_eng : M.eng = true) (m_chainNow : M.chainNow = true) (m_chainId :
    M.chainId = true) (m_chainFrz : M.chainFrz = true) (m_chainTorn : M.chainTorn = true) (m_chainIn : M.chainIn = true)
    (m_fab : M.fab = true) (m_tick : M.tick = true) (m_par : M.par = true) (m_cal : M.cal = true) (m_res : M.res = true)
    (m_ctx : M.ctx = true) (m_mode : M.mode = true) (m_route : M.route = true) (m_mov : M.mov = true) (m_port : M.port =
    true) (m_pcie : M.pcie = true) (m_clk : M.clk = true) (m_keep : M.keep = true) (m_pwr : M.pwr = true) (m_ngx : M.ngx =
    true) (m_boot : M.boot = true) (m_spim : M.spim = true) (m_spis : M.spis = true) (m_test : M.test = true) (m_tap : M.tap
    = true) (m_gpio : M.gpio = true) (m_calMem : M.calMem = true) (m_tcm : M.tcm = true) (h0 : Kept M z₀ s) : Kept M z₀
    (@State.scanLeave s straps) := by
  unfold State.scanLeave
  extract_lets x0 x1 x2 x3
  have k0 : Kept M z₀ x0 := State.modTap_kept m_tap h0
  clear_value x0
  split
  · exact k0
  · have k1 : Kept M z₀ x1 := State.fullStart_kept m_regs m_latches m_rdata m_eng m_chainNow m_chainId m_chainFrz m_chainTorn
      m_chainIn m_fab m_tick m_par m_cal m_res m_ctx m_mode m_route m_mov m_port m_pcie m_clk m_keep m_pwr m_ngx m_boot
      m_spim m_spis m_test m_tap m_gpio m_calMem m_tcm k0
    refine Kept.restart k1 m_regs m_latches m_rdata m_eng m_chainNow m_chainId m_chainFrz m_chainTorn m_chainIn m_fab m_tick
        m_par m_cal m_res m_ctx m_mode m_route m_mov m_port m_pcie m_clk m_keep m_pwr m_ngx m_boot m_spim m_spis m_test m_tap
        m_gpio m_calMem m_tcm ?_ ?_ ?_ ?_ ?_ ?_ ?_
    · rfl
    · exact Nat.le_refl _
    · exact Nat.le_refl _
    · rfl
    · rfl
    · exact SMap.wf_nil _
    · exact SMap.wf_nil _

theorem State.tapLoad_kept {M : Mask} {z₀ : State} {s : State} {ir : Nat} {straps : BitVec 6} {capture : BitVec 832} (m_regs
    : M.regs = true) (m_latches : M.latches = true) (m_rdata : M.rdata = true) (m_eng : M.eng = true) (m_chainNow :
    M.chainNow = true) (m_chainId : M.chainId = true) (m_chainFrz : M.chainFrz = true) (m_chainTorn : M.chainTorn = true)
    (m_chainIn : M.chainIn = true) (m_fab : M.fab = true) (m_tick : M.tick = true) (m_par : M.par = true) (m_cal : M.cal =
    true) (m_res : M.res = true) (m_ctx : M.ctx = true) (m_mode : M.mode = true) (m_route : M.route = true) (m_mov : M.mov =
    true) (m_port : M.port = true) (m_pcie : M.pcie = true) (m_clk : M.clk = true) (m_keep : M.keep = true) (m_pwr : M.pwr =
    true) (m_ngx : M.ngx = true) (m_boot : M.boot = true) (m_spim : M.spim = true) (m_spis : M.spis = true) (m_test : M.test
    = true) (m_tap : M.tap = true) (m_gpio : M.gpio = true) (m_calMem : M.calMem = true) (m_tcm : M.tcm = true) (h0 : Kept M
    z₀ s) : Kept M z₀ (@State.tapLoad s ir straps capture) := by
  unfold State.tapLoad
  extract_lets x0 x1 x2 x3
  clear_value x0 x1
  have k4 : Kept M z₀ x2 := by
    dsimp -zeta only [x2]
    refine ite_kept ?_ ?_
    · exact State.scanLeave_kept m_regs m_latches m_rdata m_eng m_chainNow m_chainId m_chainFrz m_chainTorn m_chainIn m_fab
        m_tick m_par m_cal m_res m_ctx m_mode m_route m_mov m_port m_pcie m_clk m_keep m_pwr m_ngx m_boot m_spim m_spis
        m_test m_tap m_gpio m_calMem m_tcm (by assumption)
    · refine ite_kept ?_ ?_
      · exact State.holdLeave_kept m_regs m_latches m_rdata m_eng m_chainNow m_chainId m_chainFrz m_chainTorn m_chainIn m_fab
          m_tick m_par m_cal m_res m_ctx m_mode m_route m_mov m_port m_pcie m_clk m_keep m_pwr m_ngx m_boot m_spim m_spis
          m_test m_tap m_gpio m_calMem m_tcm (by assumption)
      · assumption
  clear_value x2
  have k5 : Kept M z₀ x3 := by
    dsimp -zeta only [x3]
    refine ite_kept ?_ ?_
    · exact State.holdEnter_kept m_regs m_latches m_rdata m_eng m_chainNow m_chainId m_chainFrz m_chainTorn m_chainIn m_fab
        m_tick m_par m_cal m_res m_ctx m_mode m_route m_mov m_port m_pcie m_clk m_keep m_pwr m_ngx m_boot m_spim m_spis
        m_test m_tap m_gpio m_calMem m_tcm (by assumption)
    · assumption
  clear_value x3
  exact State.modTap_kept m_tap (by assumption)

theorem execTapHighz_kept {M : Mask} {z₀ : State} {straps : BitVec 6} {s : State} (m_regs : M.regs = true) (m_latches :
    M.latches = true) (m_rdata : M.rdata = true) (m_eng : M.eng = true) (m_chainNow : M.chainNow = true) (m_chainId :
    M.chainId = true) (m_chainFrz : M.chainFrz = true) (m_chainTorn : M.chainTorn = true) (m_chainIn : M.chainIn = true)
    (m_fab : M.fab = true) (m_tick : M.tick = true) (m_par : M.par = true) (m_cal : M.cal = true) (m_res : M.res = true)
    (m_ctx : M.ctx = true) (m_mode : M.mode = true) (m_route : M.route = true) (m_mov : M.mov = true) (m_port : M.port =
    true) (m_pcie : M.pcie = true) (m_clk : M.clk = true) (m_keep : M.keep = true) (m_pwr : M.pwr = true) (m_ngx : M.ngx =
    true) (m_boot : M.boot = true) (m_spim : M.spim = true) (m_spis : M.spis = true) (m_test : M.test = true) (m_tap : M.tap
    = true) (m_gpio : M.gpio = true) (m_calMem : M.calMem = true) (m_tcm : M.tcm = true) (h1 : Kept M z₀ s) : OutOk M z₀
    (@execTapHighz straps s) := by
  unfold execTapHighz
  exact OutOk.next (State.tapLoad_kept m_regs m_latches m_rdata m_eng m_chainNow m_chainId m_chainFrz m_chainTorn m_chainIn
      m_fab m_tick m_par m_cal m_res m_ctx m_mode m_route m_mov m_port m_pcie m_clk m_keep m_pwr m_ngx m_boot m_spim m_spis
      m_test m_tap m_gpio m_calMem m_tcm (by assumption))

theorem State.dbgReg_kept {M : Mask} {z₀ : State} {s : State} {off : Nat} {wr : Bool} {v : Word} (m_regs : M.regs = true)
    (m_latches : M.latches = true) (m_fab : M.fab = true) (m_mode : M.mode = true) (m_mov : M.mov = true) (m_port : M.port =
    true) (m_keep : M.keep = true) (m_boot : M.boot = true) (m_tap : M.tap = true) (h0 : Kept M z₀ s) : Kept M z₀
    (@State.dbgReg s off wr v) := by
  unfold State.dbgReg
  split
  · exact State.modTap_kept m_tap (by assumption)
  · refine ite_kept ?_ ?_
    · refine ite_kept ?_ ?_
      · extract_lets x0
        have k1 : Kept M z₀ x0 := by
          dsimp -zeta only [x0]
          refine ite_kept ?_ ?_
          · exact State.dbgGo_kept m_regs m_boot (by assumption)
          · assumption
        clear_value x0
        refine ite_kept ?_ ?_
        · exact State.dbgClose_kept m_regs m_fab m_mode m_keep (by assumption)
        · assumption
      · exact State.secW_kept m_regs m_fab m_mode m_keep m_boot (by assumption)
    · extract_lets x2
      have k3 : Kept M z₀ x2.2 := by
        dsimp -zeta only [x2]
        exact State.regRead_kept m_regs m_latches m_mov m_port (by assumption)
      clear_value x2
      exact State.modTap_kept m_tap (by assumption)

theorem execTapBypass_kept {M : Mask} {z₀ : State} {straps : BitVec 6} {s : State} (m_regs : M.regs = true) (m_latches :
    M.latches = true) (m_rdata : M.rdata = true) (m_eng : M.eng = true) (m_chainNow : M.chainNow = true) (m_chainId :
    M.chainId = true) (m_chainFrz : M.chainFrz = true) (m_chainTorn : M.chainTorn = true) (m_chainIn : M.chainIn = true)
    (m_fab : M.fab = true) (m_tick : M.tick = true) (m_par : M.par = true) (m_cal : M.cal = true) (m_res : M.res = true)
    (m_ctx : M.ctx = true) (m_mode : M.mode = true) (m_route : M.route = true) (m_mov : M.mov = true) (m_port : M.port =
    true) (m_pcie : M.pcie = true) (m_clk : M.clk = true) (m_keep : M.keep = true) (m_pwr : M.pwr = true) (m_ngx : M.ngx =
    true) (m_boot : M.boot = true) (m_spim : M.spim = true) (m_spis : M.spis = true) (m_test : M.test = true) (m_tap : M.tap
    = true) (m_gpio : M.gpio = true) (m_calMem : M.calMem = true) (m_tcm : M.tcm = true) (h1 : Kept M z₀ s) : OutOk M z₀
    (@execTapBypass straps s) := by
  unfold execTapBypass
  exact OutOk.next (State.tapLoad_kept m_regs m_latches m_rdata m_eng m_chainNow m_chainId m_chainFrz m_chainTorn m_chainIn
      m_fab m_tick m_par m_cal m_res m_ctx m_mode m_route m_mov m_port m_pcie m_clk m_keep m_pwr m_ngx m_boot m_spim m_spis
      m_test m_tap m_gpio m_calMem m_tcm (by assumption))

theorem execTapIntScan_kept {M : Mask} {z₀ : State} {straps : BitVec 6} {s : State} (m_regs : M.regs = true) (m_latches :
    M.latches = true) (m_rdata : M.rdata = true) (m_eng : M.eng = true) (m_chainNow : M.chainNow = true) (m_chainId :
    M.chainId = true) (m_chainFrz : M.chainFrz = true) (m_chainTorn : M.chainTorn = true) (m_chainIn : M.chainIn = true)
    (m_fab : M.fab = true) (m_tick : M.tick = true) (m_par : M.par = true) (m_cal : M.cal = true) (m_res : M.res = true)
    (m_ctx : M.ctx = true) (m_mode : M.mode = true) (m_route : M.route = true) (m_mov : M.mov = true) (m_port : M.port =
    true) (m_pcie : M.pcie = true) (m_clk : M.clk = true) (m_keep : M.keep = true) (m_pwr : M.pwr = true) (m_ngx : M.ngx =
    true) (m_boot : M.boot = true) (m_spim : M.spim = true) (m_spis : M.spis = true) (m_test : M.test = true) (m_tap : M.tap
    = true) (m_gpio : M.gpio = true) (m_calMem : M.calMem = true) (m_tcm : M.tcm = true) (h1 : Kept M z₀ s) : OutOk M z₀
    (@execTapIntScan straps s) := by
  unfold execTapIntScan
  exact OutOk.next (State.tapLoad_kept m_regs m_latches m_rdata m_eng m_chainNow m_chainId m_chainFrz m_chainTorn m_chainIn
      m_fab m_tick m_par m_cal m_res m_ctx m_mode m_route m_mov m_port m_pcie m_clk m_keep m_pwr m_ngx m_boot m_spim m_spis
      m_test m_tap m_gpio m_calMem m_tcm (by assumption))

theorem State.dbgKeeper_kept {M : Mask} {z₀ : State} {s : State} {what : Nat} {off : Nat} {v : Word} (m_regs : M.regs = true)
    (m_keep : M.keep = true) (m_boot : M.boot = true) (m_tap : M.tap = true) (m_tcm : M.tcm = true) (h0 : Kept M z₀ s) : Kept
    M z₀ (@State.dbgKeeper s what off v) := by
  unfold State.dbgKeeper
  refine ite_kept ?_ ?_
  · exact State.modTap_kept m_tap (by assumption)
  · refine ite_kept ?_ ?_
    · exact State.haltKeeper_kept m_regs m_keep (by assumption)
    · refine ite_kept ?_ ?_
      · exact State.haltKeeper_kept m_regs m_keep (by assumption)
      · refine ite_kept ?_ ?_
        · extract_lets x0
          clear_value x0
          exact State.modTap_kept m_tap (by assumption)
        · exact State.tcmLoad_kept m_boot m_tcm (by assumption)

theorem execTapDbgAccess_kept {M : Mask} {z₀ : State} {what : Fin 6} {off : Fin 524288} {v : BitVec 32} {straps : BitVec 6}
    {s : State} (m_regs : M.regs = true) (m_latches : M.latches = true) (m_rdata : M.rdata = true) (m_eng : M.eng = true)
    (m_chainNow : M.chainNow = true) (m_chainId : M.chainId = true) (m_chainFrz : M.chainFrz = true) (m_chainTorn :
    M.chainTorn = true) (m_chainIn : M.chainIn = true) (m_fab : M.fab = true) (m_tick : M.tick = true) (m_par : M.par = true)
    (m_cal : M.cal = true) (m_res : M.res = true) (m_ctx : M.ctx = true) (m_mode : M.mode = true) (m_route : M.route = true)
    (m_mov : M.mov = true) (m_port : M.port = true) (m_pcie : M.pcie = true) (m_clk : M.clk = true) (m_keep : M.keep = true)
    (m_pwr : M.pwr = true) (m_ngx : M.ngx = true) (m_boot : M.boot = true) (m_spim : M.spim = true) (m_spis : M.spis = true)
    (m_test : M.test = true) (m_tap : M.tap = true) (m_gpio : M.gpio = true) (m_calMem : M.calMem = true) (m_tcm : M.tcm =
    true) (h4 : Kept M z₀ s) : OutOk M z₀ (@execTapDbgAccess what off v straps s) := by
  unfold execTapDbgAccess
  extract_lets x0
  have k1 : Kept M z₀ x0 := by
    dsimp -zeta only [x0]
    exact State.tapLoad_kept m_regs m_latches m_rdata m_eng m_chainNow m_chainId m_chainFrz m_chainTorn m_chainIn m_fab
        m_tick m_par m_cal m_res m_ctx m_mode m_route m_mov m_port m_pcie m_clk m_keep m_pwr m_ngx m_boot m_spim m_spis
        m_test m_tap m_gpio m_calMem m_tcm (by assumption)
  clear_value x0
  refine OutOk.next ?_
  refine ite_kept ?_ ?_
  · assumption
  · refine ite_kept ?_ ?_
    · exact State.dbgReg_kept m_regs m_latches m_fab m_mode m_mov m_port m_keep m_boot m_tap (by assumption)
    · exact State.dbgKeeper_kept m_regs m_keep m_boot m_tap m_tcm (by assumption)

theorem execTapTestResult_kept {M : Mask} {z₀ : State} {straps : BitVec 6} {s : State} (m_regs : M.regs = true) (m_latches :
    M.latches = true) (m_rdata : M.rdata = true) (m_eng : M.eng = true) (m_chainNow : M.chainNow = true) (m_chainId :
    M.chainId = true) (m_chainFrz : M.chainFrz = true) (m_chainTorn : M.chainTorn = true) (m_chainIn : M.chainIn = true)
    (m_fab : M.fab = true) (m_tick : M.tick = true) (m_par : M.par = true) (m_cal : M.cal = true) (m_res : M.res = true)
    (m_ctx : M.ctx = true) (m_mode : M.mode = true) (m_route : M.route = true) (m_mov : M.mov = true) (m_port : M.port =
    true) (m_pcie : M.pcie = true) (m_clk : M.clk = true) (m_keep : M.keep = true) (m_pwr : M.pwr = true) (m_ngx : M.ngx =
    true) (m_boot : M.boot = true) (m_spim : M.spim = true) (m_spis : M.spis = true) (m_test : M.test = true) (m_tap : M.tap
    = true) (m_gpio : M.gpio = true) (m_calMem : M.calMem = true) (m_tcm : M.tcm = true) (h1 : Kept M z₀ s) : OutOk M z₀
    (@execTapTestResult straps s) := by
  unfold execTapTestResult
  extract_lets x0
  have k1 : Kept M z₀ x0 := by
    dsimp -zeta only [x0]
    exact State.tapLoad_kept m_regs m_latches m_rdata m_eng m_chainNow m_chainId m_chainFrz m_chainTorn m_chainIn m_fab
        m_tick m_par m_cal m_res m_ctx m_mode m_route m_mov m_port m_pcie m_clk m_keep m_pwr m_ngx m_boot m_spim m_spis
        m_test m_tap m_gpio m_calMem m_tcm (by assumption)
  clear_value x0
  exact OutOk.next (State.modTap_kept m_tap (by assumption))

theorem execTapTestStat_kept {M : Mask} {z₀ : State} {straps : BitVec 6} {s : State} (m_regs : M.regs = true) (m_latches :
    M.latches = true) (m_rdata : M.rdata = true) (m_eng : M.eng = true) (m_chainNow : M.chainNow = true) (m_chainId :
    M.chainId = true) (m_chainFrz : M.chainFrz = true) (m_chainTorn : M.chainTorn = true) (m_chainIn : M.chainIn = true)
    (m_fab : M.fab = true) (m_tick : M.tick = true) (m_par : M.par = true) (m_cal : M.cal = true) (m_res : M.res = true)
    (m_ctx : M.ctx = true) (m_mode : M.mode = true) (m_route : M.route = true) (m_mov : M.mov = true) (m_port : M.port =
    true) (m_pcie : M.pcie = true) (m_clk : M.clk = true) (m_keep : M.keep = true) (m_pwr : M.pwr = true) (m_ngx : M.ngx =
    true) (m_boot : M.boot = true) (m_spim : M.spim = true) (m_spis : M.spis = true) (m_test : M.test = true) (m_tap : M.tap
    = true) (m_gpio : M.gpio = true) (m_calMem : M.calMem = true) (m_tcm : M.tcm = true) (h1 : Kept M z₀ s) : OutOk M z₀
    (@execTapTestStat straps s) := by
  unfold execTapTestStat
  extract_lets x0
  have k1 : Kept M z₀ x0 := by
    dsimp -zeta only [x0]
    exact State.tapLoad_kept m_regs m_latches m_rdata m_eng m_chainNow m_chainId m_chainFrz m_chainTorn m_chainIn m_fab
        m_tick m_par m_cal m_res m_ctx m_mode m_route m_mov m_port m_pcie m_clk m_keep m_pwr m_ngx m_boot m_spim m_spis
        m_test m_tap m_gpio m_calMem m_tcm (by assumption)
  clear_value x0
  exact OutOk.next (State.modTap_kept m_tap (by assumption))

theorem execTapTestStart_kept {M : Mask} {z₀ : State} {t : BitVec 8} {straps : BitVec 6} {s : State} (m_regs : M.regs = true)
    (m_latches : M.latches = true) (m_rdata : M.rdata = true) (m_eng : M.eng = true) (m_chainNow : M.chainNow = true)
    (m_chainId : M.chainId = true) (m_chainFrz : M.chainFrz = true) (m_chainTorn : M.chainTorn = true) (m_chainIn : M.chainIn
    = true) (m_fab : M.fab = true) (m_tick : M.tick = true) (m_par : M.par = true) (m_cal : M.cal = true) (m_res : M.res =
    true) (m_ctx : M.ctx = true) (m_mode : M.mode = true) (m_route : M.route = true) (m_mov : M.mov = true) (m_port : M.port
    = true) (m_pcie : M.pcie = true) (m_clk : M.clk = true) (m_keep : M.keep = true) (m_pwr : M.pwr = true) (m_ngx : M.ngx =
    true) (m_boot : M.boot = true) (m_spim : M.spim = true) (m_spis : M.spis = true) (m_test : M.test = true) (m_tap : M.tap
    = true) (m_gpio : M.gpio = true) (m_calMem : M.calMem = true) (m_tcm : M.tcm = true) (h2 : Kept M z₀ s) : OutOk M z₀
    (@execTapTestStart t straps s) := by
  unfold execTapTestStart
  extract_lets x0
  have k1 : Kept M z₀ x0 := by
    dsimp -zeta only [x0]
    exact State.tapLoad_kept m_regs m_latches m_rdata m_eng m_chainNow m_chainId m_chainFrz m_chainTorn m_chainIn m_fab
        m_tick m_par m_cal m_res m_ctx m_mode m_route m_mov m_port m_pcie m_clk m_keep m_pwr m_ngx m_boot m_spim m_spis
        m_test m_tap m_gpio m_calMem m_tcm (by assumption)
  clear_value x0
  refine OutOk.next ?_
  refine ite_kept ?_ ?_
  · assumption
  · refine ite_kept ?_ ?_
    · exact State.testStart_kept m_regs m_eng m_fab m_cal m_ctx m_mode m_port m_pcie m_keep m_ngx m_test m_calMem (by
        assumption)
    · exact State.setBit_kept m_regs (State.testStart_kept m_regs m_eng m_fab m_cal m_ctx m_mode m_port m_pcie m_keep m_ngx
        m_test m_calMem (by assumption))

theorem execTapClamp_kept {M : Mask} {z₀ : State} {straps : BitVec 6} {s : State} (m_regs : M.regs = true) (m_latches :
    M.latches = true) (m_rdata : M.rdata = true) (m_eng : M.eng = true) (m_chainNow : M.chainNow = true) (m_chainId :
    M.chainId = true) (m_chainFrz : M.chainFrz = true) (m_chainTorn : M.chainTorn = true) (m_chainIn : M.chainIn = true)
    (m_fab : M.fab = true) (m_tick : M.tick = true) (m_par : M.par = true) (m_cal : M.cal = true) (m_res : M.res = true)
    (m_ctx : M.ctx = true) (m_mode : M.mode = true) (m_route : M.route = true) (m_mov : M.mov = true) (m_port : M.port =
    true) (m_pcie : M.pcie = true) (m_clk : M.clk = true) (m_keep : M.keep = true) (m_pwr : M.pwr = true) (m_ngx : M.ngx =
    true) (m_boot : M.boot = true) (m_spim : M.spim = true) (m_spis : M.spis = true) (m_test : M.test = true) (m_tap : M.tap
    = true) (m_gpio : M.gpio = true) (m_calMem : M.calMem = true) (m_tcm : M.tcm = true) (h1 : Kept M z₀ s) : OutOk M z₀
    (@execTapClamp straps s) := by
  unfold execTapClamp
  exact OutOk.next (State.tapLoad_kept m_regs m_latches m_rdata m_eng m_chainNow m_chainId m_chainFrz m_chainTorn m_chainIn
      m_fab m_tick m_par m_cal m_res m_ctx m_mode m_route m_mov m_port m_pcie m_clk m_keep m_pwr m_ngx m_boot m_spim m_spis
      m_test m_tap m_gpio m_calMem m_tcm (by assumption))

theorem execTapIdcode_kept {M : Mask} {z₀ : State} {straps : BitVec 6} {s : State} (m_regs : M.regs = true) (m_latches :
    M.latches = true) (m_rdata : M.rdata = true) (m_eng : M.eng = true) (m_chainNow : M.chainNow = true) (m_chainId :
    M.chainId = true) (m_chainFrz : M.chainFrz = true) (m_chainTorn : M.chainTorn = true) (m_chainIn : M.chainIn = true)
    (m_fab : M.fab = true) (m_tick : M.tick = true) (m_par : M.par = true) (m_cal : M.cal = true) (m_res : M.res = true)
    (m_ctx : M.ctx = true) (m_mode : M.mode = true) (m_route : M.route = true) (m_mov : M.mov = true) (m_port : M.port =
    true) (m_pcie : M.pcie = true) (m_clk : M.clk = true) (m_keep : M.keep = true) (m_pwr : M.pwr = true) (m_ngx : M.ngx =
    true) (m_boot : M.boot = true) (m_spim : M.spim = true) (m_spis : M.spis = true) (m_test : M.test = true) (m_tap : M.tap
    = true) (m_gpio : M.gpio = true) (m_calMem : M.calMem = true) (m_tcm : M.tcm = true) (h1 : Kept M z₀ s) : OutOk M z₀
    (@execTapIdcode straps s) := by
  unfold execTapIdcode
  exact OutOk.next (State.tapLoad_kept m_regs m_latches m_rdata m_eng m_chainNow m_chainId m_chainFrz m_chainTorn m_chainIn
      m_fab m_tick m_par m_cal m_res m_ctx m_mode m_route m_mov m_port m_pcie m_clk m_keep m_pwr m_ngx m_boot m_spim m_spis
      m_test m_tap m_gpio m_calMem m_tcm (by assumption))

theorem execTapSample_kept {M : Mask} {z₀ : State} {pins : BitVec 412} {load : BitVec 412} {straps : BitVec 6} {s : State}
    (m_regs : M.regs = true) (m_latches : M.latches = true) (m_rdata : M.rdata = true) (m_eng : M.eng = true) (m_chainNow :
    M.chainNow = true) (m_chainId : M.chainId = true) (m_chainFrz : M.chainFrz = true) (m_chainTorn : M.chainTorn = true)
    (m_chainIn : M.chainIn = true) (m_fab : M.fab = true) (m_tick : M.tick = true) (m_par : M.par = true) (m_cal : M.cal =
    true) (m_res : M.res = true) (m_ctx : M.ctx = true) (m_mode : M.mode = true) (m_route : M.route = true) (m_mov : M.mov =
    true) (m_port : M.port = true) (m_pcie : M.pcie = true) (m_clk : M.clk = true) (m_keep : M.keep = true) (m_pwr : M.pwr =
    true) (m_ngx : M.ngx = true) (m_boot : M.boot = true) (m_spim : M.spim = true) (m_spis : M.spis = true) (m_test : M.test
    = true) (m_tap : M.tap = true) (m_gpio : M.gpio = true) (m_calMem : M.calMem = true) (m_tcm : M.tcm = true) (h3 : Kept M
    z₀ s) : OutOk M z₀ (@execTapSample pins load straps s) := by
  unfold execTapSample
  exact OutOk.next (State.modTap_kept m_tap (State.tapLoad_kept m_regs m_latches m_rdata m_eng m_chainNow m_chainId
      m_chainFrz m_chainTorn m_chainIn m_fab m_tick m_par m_cal m_res m_ctx m_mode m_route m_mov m_port m_pcie m_clk m_keep
      m_pwr m_ngx m_boot m_spim m_spis m_test m_tap m_gpio m_calMem m_tcm (by assumption)))

theorem execTapExtest_kept {M : Mask} {z₀ : State} {pins : BitVec 412} {load : BitVec 412} {straps : BitVec 6} {s : State}
    (m_regs : M.regs = true) (m_latches : M.latches = true) (m_rdata : M.rdata = true) (m_eng : M.eng = true) (m_chainNow :
    M.chainNow = true) (m_chainId : M.chainId = true) (m_chainFrz : M.chainFrz = true) (m_chainTorn : M.chainTorn = true)
    (m_chainIn : M.chainIn = true) (m_fab : M.fab = true) (m_tick : M.tick = true) (m_par : M.par = true) (m_cal : M.cal =
    true) (m_res : M.res = true) (m_ctx : M.ctx = true) (m_mode : M.mode = true) (m_route : M.route = true) (m_mov : M.mov =
    true) (m_port : M.port = true) (m_pcie : M.pcie = true) (m_clk : M.clk = true) (m_keep : M.keep = true) (m_pwr : M.pwr =
    true) (m_ngx : M.ngx = true) (m_boot : M.boot = true) (m_spim : M.spim = true) (m_spis : M.spis = true) (m_test : M.test
    = true) (m_tap : M.tap = true) (m_gpio : M.gpio = true) (m_calMem : M.calMem = true) (m_tcm : M.tcm = true) (h3 : Kept M
    z₀ s) : OutOk M z₀ (@execTapExtest pins load straps s) := by
  unfold execTapExtest
  exact OutOk.next (State.modTap_kept m_tap (State.tapLoad_kept m_regs m_latches m_rdata m_eng m_chainNow m_chainId
      m_chainFrz m_chainTorn m_chainIn m_fab m_tick m_par m_cal m_res m_ctx m_mode m_route m_mov m_port m_pcie m_clk m_keep
      m_pwr m_ngx m_boot m_spim m_spis m_test m_tap m_gpio m_calMem m_tcm (by assumption)))

theorem execTapReset_kept {M : Mask} {z₀ : State} {straps : BitVec 6} {s : State} (m_regs : M.regs = true) (m_latches :
    M.latches = true) (m_rdata : M.rdata = true) (m_eng : M.eng = true) (m_chainNow : M.chainNow = true) (m_chainId :
    M.chainId = true) (m_chainFrz : M.chainFrz = true) (m_chainTorn : M.chainTorn = true) (m_chainIn : M.chainIn = true)
    (m_fab : M.fab = true) (m_tick : M.tick = true) (m_par : M.par = true) (m_cal : M.cal = true) (m_res : M.res = true)
    (m_ctx : M.ctx = true) (m_mode : M.mode = true) (m_route : M.route = true) (m_mov : M.mov = true) (m_port : M.port =
    true) (m_pcie : M.pcie = true) (m_clk : M.clk = true) (m_keep : M.keep = true) (m_pwr : M.pwr = true) (m_ngx : M.ngx =
    true) (m_boot : M.boot = true) (m_spim : M.spim = true) (m_spis : M.spis = true) (m_test : M.test = true) (m_tap : M.tap
    = true) (m_gpio : M.gpio = true) (m_calMem : M.calMem = true) (m_tcm : M.tcm = true) (h1 : Kept M z₀ s) : OutOk M z₀
    (@execTapReset straps s) := by
  unfold execTapReset
  exact OutOk.next (State.tapLoad_kept m_regs m_latches m_rdata m_eng m_chainNow m_chainId m_chainFrz m_chainTorn m_chainIn
      m_fab m_tick m_par m_cal m_res m_ctx m_mode m_route m_mov m_port m_pcie m_clk m_keep m_pwr m_ngx m_boot m_spim m_spis
      m_test m_tap m_gpio m_calMem m_tcm (by assumption))

end Sys2Proof.Machine
end

