-- ==== Sys2Proof/Laws/KeptTickAudio.lean ====
section
/-! SUPPORT. What the operations and meanings of Machine/TickAudio.lean keep (Laws/Kept.lean). -/

namespace Sys2Proof.Machine

theorem State.chainFreeze_kept {M : Mask} {z₀ : State} {s : State} {prev : Nat → Option Nat} (m_chainNow : M.chainNow = true)
    (m_chainFrz : M.chainFrz = true) (m_chainTorn : M.chainTorn = true) (h0 : Kept M z₀ s) : Kept M z₀ (@State.chainFreeze s
    prev) := by
  unfold State.chainFreeze
  extract_lets x0 x1 x2 x3
  clear_value x0 x1 x2 x3
  exact Kept.lit (s := s) { chainNow := .inl m_chainNow, chainFrz := .inl m_chainFrz, chainTorn := .inl m_chainTorn } (by
      assumption)

theorem State.asrcStream_kept {M : Mask} {z₀ : State} {s : State} {n : Nat} (m_route : M.route = true) (h0 : Kept M z₀ s) :
    Kept M z₀ (@State.asrcStream s n) := by
  unfold State.asrcStream
  extract_lets x0 x1 x2
  clear_value x0 x1 x2
  refine ite_kept ?_ ?_
  · assumption
  · refine ite_kept ?_ ?_
    · exact State.setAsrc_kept m_route (by assumption)
    · split
      · exact State.setAsrc_kept m_route (by assumption)
      · exact State.setAsrc_kept m_route (by assumption)
      · assumption

theorem State.asrcTick_kept {M : Mask} {z₀ : State} {s : State} {n : Nat} (m_route : M.route = true) (h0 : Kept M z₀ s) :
    Kept M z₀ (@State.asrcTick s n) := by
  unfold State.asrcTick
  extract_lets x0 x1 x2 x3
  have k4 : Kept M z₀ x0 := by
    dsimp -zeta only [x0]
    exact State.asrcStream_kept m_route (by assumption)
  clear_value x0 x1 x2
  have k5 : Kept M z₀ x3 := by
    dsimp -zeta only [x3]
    exact State.setAsrc_kept m_route (by assumption)
  clear_value x3
  refine ite_kept ?_ ?_
  · assumption
  · exact State.setSrc_kept m_route (by assumption)

theorem State.mediaYield_kept {M : Mask} {z₀ : State} {s : State} {r : Nat} {x : Stream} (m_regs : M.regs = true) (m_fab :
    M.fab = true) (m_cal : M.cal = true) (m_ctx : M.ctx = true) (m_route : M.route = true) (m_mov : M.mov = true) (m_pcie :
    M.pcie = true) (m_ngx : M.ngx = true) (h0 : Kept M z₀ s) : Kept M z₀ (@State.mediaYield s r x) := by
  unfold State.mediaYield
  split
  · assumption
  · refine forN_kept ?_ ?_
    · assumption
    · intro v0
      intro v1
      intro v2
      extract_lets x3
      have k4 : Kept M z₀ x3 := by
        dsimp -zeta only [x3]
        exact State.streamYield_kept m_regs m_fab m_cal m_ctx m_mov m_pcie m_ngx (by assumption)
      clear_value x3
      split
      · assumption
      · refine foldl_kept ?_ ?_
        · assumption
        · intro v5
          intro v6
          intro v7
          extract_lets x8
          clear_value x8
          exact State.setAsrc_kept m_route (by assumption)

theorem State.mediaPut_kept {M : Mask} {z₀ : State} {s : State} {r : Nat} {x : Stream} (m_regs : M.regs = true) (m_fab :
    M.fab = true) (m_cal : M.cal = true) (m_ctx : M.ctx = true) (m_mov : M.mov = true) (m_pcie : M.pcie = true) (m_ngx :
    M.ngx = true) (m_calMem : M.calMem = true) (h0 : Kept M z₀ s) : Kept M z₀ (@State.mediaPut s r x) := by
  unfold State.mediaPut
  split
  · assumption
  · refine forN_kept ?_ ?_
    · assumption
    · intro v0
      intro v1
      intro v2
      exact State.streamPut_kept m_regs m_fab m_cal m_ctx m_mov m_pcie m_ngx m_calMem (by assumption)

theorem State.streamTick_kept {M : Mask} {z₀ : State} {s : State} {r : Nat} (m_regs : M.regs = true) (m_fab : M.fab = true)
    (m_cal : M.cal = true) (m_ctx : M.ctx = true) (m_route : M.route = true) (m_mov : M.mov = true) (m_pcie : M.pcie = true)
    (m_ngx : M.ngx = true) (m_calMem : M.calMem = true) (h0 : Kept M z₀ s) : Kept M z₀ (@State.streamTick s r) := by
  unfold State.streamTick
  split
  · assumption
  · extract_lets x0 x1 x2
    clear_value x0
    have k3 : Kept M z₀ x1 := by
      dsimp -zeta only [x1]
      refine ite_kept ?_ ?_
      · exact State.streamStart_kept m_regs m_fab m_ctx m_mov m_pcie m_ngx (by assumption)
      · assumption
    clear_value x1
    have k4 : Kept M z₀ x2 := by
      dsimp -zeta only [x2]
      refine ite_kept ?_ ?_
      · exact State.mediaYield_kept m_regs m_fab m_cal m_ctx m_route m_mov m_pcie m_ngx (by assumption)
      · refine ite_kept ?_ ?_
        · exact State.streamYield_kept m_regs m_fab m_cal m_ctx m_mov m_pcie m_ngx (by assumption)
        · assumption
    clear_value x2
    refine ite_kept ?_ ?_
    · refine ite_kept ?_ ?_
      · assumption
      · refine ite_kept ?_ ?_
        · exact State.mediaPut_kept m_regs m_fab m_cal m_ctx m_mov m_pcie m_ngx m_calMem (by assumption)
        · exact State.streamPut_kept m_regs m_fab m_cal m_ctx m_mov m_pcie m_ngx m_calMem (by assumption)
    · split
      · assumption
      · extract_lets x5 x6 x7
        clear_value x5
        have k8 : Kept M z₀ x6 := by
          dsimp -zeta only [x6]
          exact State.setStream_kept m_mov (by assumption)
        clear_value x6
        have k9 : Kept M z₀ x7 := by
          dsimp -zeta only [x7]
          refine ite_kept ?_ ?_
          · refine foldl_kept ?_ ?_
            · assumption
            · intro v10
              intro v11
              intro v12
              exact State.setSrc_kept m_route (by assumption)
          · assumption
        clear_value x7
        exact State.streamEnds_kept m_regs m_fab m_ctx m_mov m_pcie m_ngx (by assumption)

theorem State.asrcPush_kept {M : Mask} {z₀ : State} {s : State} {n : Nat} (m_route : M.route = true) (h0 : Kept M z₀ s) :
    Kept M z₀ (@State.asrcPush s n) := by
  unfold State.asrcPush
  extract_lets x0
  clear_value x0
  exact State.setAsrc_kept m_route (by assumption)

theorem State.bridgeTick_kept {M : Mask} {z₀ : State} {s : State} {b : Nat} (m_route : M.route = true) (h0 : Kept M z₀ s) :
    Kept M z₀ (@State.bridgeTick s b) := by
  unfold State.bridgeTick
  extract_lets x0 x1 x2 x3 x4 x5 x6 x7 x8
  clear_value x0 x1 x2 x3 x4 x5 x6 x7 x8
  refine ite_kept ?_ ?_
  · exact State.setSrc_kept m_route (by assumption)
  · refine ite_kept ?_ ?_
    · exact State.setSrc_kept m_route (State.setBridge_kept m_route (by assumption))
    · exact State.setSrc_kept m_route (State.setBridge_kept m_route (by assumption))

theorem State.sinkRelease_kept {M : Mask} {z₀ : State} {s : State} (m_route : M.route = true) (h0 : Kept M z₀ s) : Kept M z₀
    (@State.sinkRelease s) := by
  unfold State.sinkRelease
  extract_lets x0 x1 x2 x3
  clear_value x0 x1 x2 x3
  exact Kept.upRoute m_route (by assumption)

theorem State.inputPorts_kept {M : Mask} {z₀ : State} {s : State} (m_regs : M.regs = true) (m_chainIn : M.chainIn = true) (h0
    : Kept M z₀ s) : Kept M z₀ (@State.inputPorts s) := by
  unfold State.inputPorts
  extract_lets x0 x1 x2 x3
  clear_value x0 x1 x2
  have k4 : Kept M z₀ x3 := by
    dsimp -zeta only [x3]
    refine ite_kept ?_ ?_
    · exact State.setBit_kept m_regs (by assumption)
    · assumption
  clear_value x3
  exact Kept.upChainIn m_chainIn (by assumption)

theorem State.clearSrcs_kept {M : Mask} {z₀ : State} {s : State} (m_route : M.route = true) (h0 : Kept M z₀ s) : Kept M z₀
    (@State.clearSrcs s) := by
  unfold State.clearSrcs
  extract_lets x0 x1
  clear_value x0 x1
  exact Kept.upRoute m_route (by assumption)

theorem State.tickAudio_kept {M : Mask} {z₀ : State} {s : State} (m_regs : M.regs = true) (m_chainIn : M.chainIn = true)
    (m_fab : M.fab = true) (m_cal : M.cal = true) (m_ctx : M.ctx = true) (m_route : M.route = true) (m_mov : M.mov = true)
    (m_port : M.port = true) (m_pcie : M.pcie = true) (m_ngx : M.ngx = true) (m_calMem : M.calMem = true) (h0 : Kept M z₀ s)
    : Kept M z₀ (@State.tickAudio s) := by
  unfold State.tickAudio
  extract_lets x0 x1 x2 x3 x4 x5 x6 x7 x8 x9 x10
  have k11 : Kept M z₀ x0 := by
    dsimp -zeta only [x0]
    exact State.clearSrcs_kept m_route (State.inputPorts_kept m_regs m_chainIn (State.sinkRelease_kept m_route (by
        assumption)))
  clear_value x0
  have k12 : Kept M z₀ x1 := by
    dsimp -zeta only [x1]
    refine forN_kept ?_ ?_
    · refine forN_kept ?_ ?_
      · assumption
      · intro v13
        intro v14
        intro v15
        exact State.tdmFreeze_kept m_regs m_route m_port (by assumption)
    · intro v16
      intro v17
      intro v18
      exact State.micFreeze_kept m_regs m_route m_port (by assumption)
  clear_value x1
  have k19 : Kept M z₀ x2 := by
    dsimp -zeta only [x2]
    refine foldl_kept ?_ ?_
    · assumption
    · intro v20
      intro v21
      intro v22
      exact State.casTick_kept m_route m_ngx (by assumption)
  clear_value x2
  have k23 : Kept M z₀ x3 := by
    dsimp -zeta only [x3]
    refine forN_kept ?_ ?_
    · assumption
    · intro v24
      intro v25
      intro v26
      exact State.bridgeTick_kept m_route (by assumption)
  clear_value x3 x4
  have k27 : Kept M z₀ x5 := by
    dsimp -zeta only [x5]
    refine foldl_kept ?_ ?_
    · assumption
    · intro v28
      intro v29
      intro v30
      exact State.asrcPush_kept m_route (by assumption)
  clear_value x5
  have k31 : Kept M z₀ x6 := by
    dsimp -zeta only [x6]
    refine foldl_kept ?_ ?_
    · assumption
    · intro v32
      intro v33
      intro v34
      exact State.streamTick_kept m_regs m_fab m_cal m_ctx m_route m_mov m_pcie m_ngx m_calMem (by assumption)
  clear_value x6
  have k35 : Kept M z₀ x7 := by
    dsimp -zeta only [x7]
    refine foldl_kept ?_ ?_
    · assumption
    · intro v36
      intro v37
      intro v38
      exact State.asrcTick_kept m_route (by assumption)
  clear_value x7
  have k39 : Kept M z₀ x8 := by
    dsimp -zeta only [x8]
    refine forN_kept ?_ ?_
    · refine forN_kept ?_ ?_
      · assumption
      · intro v40
        intro v41
        intro v42
        exact State.tdmRelease_kept m_port (by assumption)
    · intro v43
      intro v44
      intro v45
      exact State.sptRelease_kept m_port (by assumption)
  clear_value x8
  have k46 : Kept M z₀ x9 := by
    dsimp -zeta only [x9]
    exact State.dacTick_kept m_regs m_port (State.casRelease_kept m_ngx (by assumption))
  clear_value x9 x10
  exact Kept.upRoute m_route (by assumption)

theorem State.chainRest_kept {M : Mask} {z₀ : State} {s : State} (m_chainNow : M.chainNow = true) (m_chainFrz : M.chainFrz =
    true) (m_chainTorn : M.chainTorn = true) (h0 : Kept M z₀ s) : Kept M z₀ (@State.chainRest s) := by
  unfold State.chainRest
  extract_lets x0
  clear_value x0
  exact Kept.lit (s := s) { chainNow := .inl m_chainNow, chainFrz := .inl m_chainFrz, chainTorn := .inl m_chainTorn } (by
      assumption)

theorem State.settleTorn_kept {M : Mask} {z₀ : State} {s : State} (m_chainNow : M.chainNow = true) (m_chainFrz : M.chainFrz =
    true) (h0 : Kept M z₀ s) : Kept M z₀ (@State.settleTorn s) := by
  unfold State.settleTorn
  extract_lets x0
  clear_value x0
  exact Kept.lit (s := s) { chainNow := .inl m_chainNow, chainFrz := .inl m_chainFrz } (by assumption)

end Sys2Proof.Machine
end

