-- ==== Sys2Proof/Laws/KeptTick.lean ====
section
/-! SUPPORT. What the operations and meanings of Machine/Tick.lean keep (Laws/Kept.lean). -/

namespace Sys2Proof.Machine

theorem State.domTick_kept {M : Mask} {z₀ : State} {s : State} {m : Nat} (m_regs : M.regs = true) (m_tick : M.tick = true)
    (h0 : Kept M z₀ s) : Kept M z₀ (@State.domTick s m).2 := by
  unfold State.domTick
  extract_lets x0 x1 x2 x3 x4 x5 x6 x7 x8 x9 x10 x11
  clear_value x0 x2 x3 x4
  have k12 : Kept M z₀ x6 := by
    dsimp -zeta only [x6]
    refine ite_kept ?_ ?_
    · assumption
    · exact State.setFld_kept m_regs (by assumption)
  clear_value x6
  have k13 : Kept M z₀ x7 := by
    dsimp -zeta only [x7]
    exact State.setDom_kept m_tick (by assumption)
  clear_value x7 x8
  have k14 : Kept M z₀ x9 := by
    dsimp -zeta only [x9]
    exact State.setBit_kept m_regs (State.setFld_kept m_regs (by assumption))
  clear_value x9 x10
  have k15 : Kept M z₀ x11 := by
    dsimp -zeta only [x11]
    exact State.setDom_kept m_tick (by assumption)
  clear_value x11
  split
  · assumption
  · split
    · dsimp -zeta only
      exact State.setDom_kept m_tick (by assumption)
    · split
      · assumption
      · split
        · assumption
        · dsimp -zeta only
          refine ite_kept ?_ ?_
          · exact State.setFld_kept m_regs (by assumption)
          · assumption

theorem State.tickFlags_kept {M : Mask} {z₀ : State} {s : State} (m_regs : M.regs = true) (m_tick : M.tick = true) (h0 : Kept
    M z₀ s) : Kept M z₀ (@State.tickFlags s) := by
  unfold State.tickFlags
  split
  · rename_i w0 w1 w2 w3
    have k4 : Kept M z₀ w2 := snd_of w3 (by
        refine State.domTick_kept m_regs m_tick ?_
        assumption)
    split
    · rename_i w5 w6 w7 w8
      have k9 : Kept M z₀ w7 := snd_of w8 (by
          refine State.domTick_kept m_regs m_tick ?_
          assumption)
      exact Kept.upTick m_tick (by assumption)

theorem State.tickOffer_kept {M : Mask} {z₀ : State} {s : State} (m_regs : M.regs = true) (m_eng : M.eng = true) (m_fab :
    M.fab = true) (m_cal : M.cal = true) (m_ctx : M.ctx = true) (m_pcie : M.pcie = true) (m_ngx : M.ngx = true) (h0 : Kept M
    z₀ s) : Kept M z₀ (@State.tickOffer s) := by
  unfold State.tickOffer
  extract_lets x0
  clear_value x0
  refine forN_kept ?_ ?_
  · assumption
  · intro v1
    intro v2
    intro v3
    extract_lets x4 x5
    clear_value x4
    have k6 : Kept M z₀ x5 := by
      dsimp -zeta only [x5]
      exact State.modEngine_kept m_eng (by assumption)
    clear_value x5
    refine ite_kept ?_ ?_
    · exact State.lmRestore_kept m_eng m_cal (State.modEngine_kept m_eng (by assumption))
    · refine ite_kept ?_ ?_
      · refine foldl_kept ?_ ?_
        · assumption
        · intro v7
          intro v8
          intro v9
          exact State.logEvent_kept m_regs m_fab m_ctx m_pcie m_ngx (State.bump_kept m_regs (by assumption))
      · assumption

theorem State.groupApply_kept {M : Mask} {z₀ : State} {s : State} {g : Nat} (m_regs : M.regs = true) (m_eng : M.eng = true)
    (m_par : M.par = true) (m_ctx : M.ctx = true) (m_route : M.route = true) (m_keep : M.keep = true) (m_ngx : M.ngx = true)
    (h0 : Kept M z₀ s) : Kept M z₀ (@State.groupApply s g) := by
  unfold State.groupApply
  extract_lets x0 x1
  clear_value x0 x1
  split
  · assumption
  · extract_lets x2 x3 x4 x5 x6
    clear_value x2
    have k7 : Kept M z₀ x3 := by
      dsimp -zeta only [x3]
      refine foldl_kept ?_ ?_
      · assumption
      · intro v8
        intro v9
        intro v10
        exact State.applyMember_kept m_regs m_eng m_par m_ctx m_route (by assumption)
    clear_value x3
    have k11 : Kept M z₀ x4 := by
      dsimp -zeta only [x4]
      exact State.setReg64_kept m_regs (by assumption)
    clear_value x4
    have k12 : Kept M z₀ x5 := by
      dsimp -zeta only [x5]
      refine ite_kept ?_ ?_
      · exact State.tally_kept m_keep (State.bump_kept m_regs (State.setBit_kept m_regs (by assumption)))
      · assumption
    clear_value x5
    have k13 : Kept M z₀ x6 := by
      dsimp -zeta only [x6]
      exact State.setGroupSt_kept m_regs (State.setGroup_kept m_regs m_par (by assumption))
    clear_value x6
    refine ite_kept ?_ ?_
    · exact State.cascadeDone_kept m_regs m_par m_ctx (State.setGroup_kept m_regs m_par (by assumption))
    · refine ite_kept ?_ ?_
      · exact State.commitMsg_kept m_ngx (by assumption)
      · exact State.setResult_kept m_ctx (State.grant_kept m_ctx (by assumption))

theorem State.tickCommits_kept {M : Mask} {z₀ : State} {s : State} (m_regs : M.regs = true) (m_eng : M.eng = true) (m_par :
    M.par = true) (m_ctx : M.ctx = true) (m_route : M.route = true) (m_keep : M.keep = true) (m_ngx : M.ngx = true) (h0 :
    Kept M z₀ s) : Kept M z₀ (@State.tickCommits s) := by
  unfold State.tickCommits
  extract_lets x0 x1 x2 x3 x4
  have k5 : Kept M z₀ x0 := by
    dsimp -zeta only [x0]
    exact State.freeCleared_kept m_regs m_route (by assumption)
  clear_value x0
  have k6 : Kept M z₀ x1 := by
    dsimp -zeta only [x1]
    refine foldl_kept ?_ ?_
    · assumption
    · intro v7
      intro v8
      intro v9
      exact State.groupApply_kept m_regs m_eng m_par m_ctx m_route m_keep m_ngx (by assumption)
  clear_value x1 x2 x3
  have k10 : Kept M z₀ x4 := by
    dsimp -zeta only [x4]
    exact Kept.upPar m_par (by assumption)
  clear_value x4
  refine State.tickRamps_kept m_regs m_par m_route ?_
  refine foldl_kept ?_ ?_
  · assumption
  · intro v11
    intro v12
    intro v13
    exact State.applyMember_kept m_regs m_eng m_par m_ctx m_route (by assumption)

theorem State.tickPulses_kept {M : Mask} {z₀ : State} {s : State} (m_gpio : M.gpio = true) (h0 : Kept M z₀ s) : Kept M z₀
    (@State.tickPulses s) := by
  unfold State.tickPulses
  extract_lets x0 x1
  have k2 : Kept M z₀ x0 := by
    dsimp -zeta only [x0]
    exact State.pulse_kept m_gpio (by assumption)
  clear_value x0
  have k3 : Kept M z₀ x1 := by
    dsimp -zeta only [x1]
    refine ite_kept ?_ ?_
    · exact State.pulse_kept m_gpio (by assumption)
    · assumption
  clear_value x1
  refine ite_kept ?_ ?_
  · exact State.pulse_kept m_gpio (by assumption)
  · assumption

theorem State.tickBoundary_kept {M : Mask} {z₀ : State} {before : State} {s : State} (m_regs : M.regs = true) (m_eng : M.eng
    = true) (m_chainNow : M.chainNow = true) (m_chainFrz : M.chainFrz = true) (m_chainTorn : M.chainTorn = true) (m_chainIn :
    M.chainIn = true) (m_fab : M.fab = true) (m_tick : M.tick = true) (m_par : M.par = true) (m_cal : M.cal = true) (m_ctx :
    M.ctx = true) (m_route : M.route = true) (m_mov : M.mov = true) (m_port : M.port = true) (m_pcie : M.pcie = true) (m_clk
    : M.clk = true) (m_keep : M.keep = true) (m_pwr : M.pwr = true) (m_ngx : M.ngx = true) (m_gpio : M.gpio = true) (m_calMem
    : M.calMem = true) (h0 : Kept M z₀ before) (h1 : Kept M z₀ s) : Kept M z₀ (@State.tickBoundary before s) := by
  unfold State.tickBoundary
  extract_lets x0 x1 x2 x3 x4 x5 x6 x7
  clear_value x0
  have k8 : Kept M z₀ x1 := by
    dsimp -zeta only [x1]
    exact State.tickPulses_kept m_gpio (State.tickFlags_kept m_regs m_tick (by assumption))
  clear_value x1
  have k9 : Kept M z₀ x2 := by
    dsimp -zeta only [x2]
    exact State.setReg_kept m_regs (by assumption)
  clear_value x2 x3
  have k10 : Kept M z₀ x4 := by
    dsimp -zeta only [x4]
    exact Kept.upClk m_clk (by assumption)
  clear_value x4
  have k11 : Kept M z₀ x5 := by
    dsimp -zeta only [x5]
    refine ite_kept ?_ ?_
    · exact State.ckoApply_kept m_regs m_clk (by assumption)
    · assumption
  clear_value x5
  have k12 : Kept M z₀ x6 := by
    dsimp -zeta only [x6]
    exact State.trackTrim_kept m_regs (State.trackTrim_kept m_regs (State.slew_kept m_regs (by assumption)))
  clear_value x6
  have k13 : Kept M z₀ x7 := by
    dsimp -zeta only [x7]
    exact State.tickAudio_kept m_regs m_chainIn m_fab m_cal m_ctx m_route m_mov m_port m_pcie m_ngx m_calMem
        (State.chainFreeze_kept m_chainNow m_chainFrz m_chainTorn (State.tickCommits_kept m_regs m_eng m_par m_ctx m_route
        m_keep m_ngx (by assumption)))
  clear_value x7
  exact State.stopShed_kept m_fab (State.tickOffer_kept m_regs m_eng m_fab m_cal m_ctx m_pcie m_ngx (State.shedDue_kept
      m_regs m_fab m_keep m_pwr (by assumption)))

theorem State.tickTime_kept {M : Mask} {z₀ : State} {s : State} (m_tick : M.tick = true) (h0 : Kept M z₀ s) : Kept M z₀
    (@State.tickTime s) := by
  unfold State.tickTime
  extract_lets x0 x1 x2 x3 x4 x5 x6 x7
  clear_value x0 x1 x2 x3 x4 x5 x6
  have k8 : Kept M z₀ x7 := by
    dsimp -zeta only [x7]
    exact Kept.upNow (by omega) (by assumption)
  clear_value x7
  exact State.modGen_kept m_tick (by assumption)

theorem State.k0Rejoin_kept {M : Mask} {z₀ : State} {s : State} (m_regs : M.regs = true) (m_tick : M.tick = true) (m_mode :
    M.mode = true) (m_ngx : M.ngx = true) (h0 : Kept M z₀ s) : Kept M z₀ (@State.k0Rejoin s) := by
  unfold State.k0Rejoin
  refine ite_kept ?_ ?_
  · assumption
  · refine ite_kept ?_ ?_
    · exact State.goIdle_kept m_regs m_tick m_mode (by assumption)
    · refine ite_kept ?_ ?_
      · exact State.goRun_kept m_regs m_tick m_mode m_ngx (State.modNgx_kept m_ngx (State.setFld_kept m_regs (by assumption)))
      · assumption

theorem State.k0Hold_kept {M : Mask} {z₀ : State} {s : State} (m_regs : M.regs = true) (m_clk : M.clk = true) (h0 : Kept M z₀
    s) : Kept M z₀ (@State.k0Hold s) := by
  unfold State.k0Hold
  extract_lets x0 x1 x2 x3 x4 x5
  clear_value x0 x1 x2
  have k6 : Kept M z₀ x3 := by
    dsimp -zeta only [x3]
    exact State.setReg64_kept m_regs (State.setFld_kept m_regs (by assumption))
  clear_value x3
  have k7 : Kept M z₀ x4 := by
    dsimp -zeta only [x4]
    exact State.setFld_kept m_regs (by assumption)
  clear_value x4 x5
  refine ite_kept ?_ ?_
  · assumption
  · exact Kept.upClk m_clk (by assumption)

theorem State.k0Relock_kept {M : Mask} {z₀ : State} {s : State} (m_regs : M.regs = true) (m_clk : M.clk = true) (h0 : Kept M
    z₀ s) : Kept M z₀ (@State.k0Relock s) := by
  unfold State.k0Relock
  refine forN_kept ?_ ?_
  · assumption
  · intro v0
    intro v1
    intro v2
    refine ite_kept ?_ ?_
    · extract_lets x3 x4
      have k5 : Kept M z₀ x3 := by
        dsimp -zeta only [x3]
        exact State.relock_kept m_regs m_clk (by assumption)
      clear_value x3 x4
      exact State.setPll_kept m_clk (by assumption)
    · assumption

theorem State.k0Clear_kept {M : Mask} {z₀ : State} {s : State} (m_clk : M.clk = true) (h0 : Kept M z₀ s) : Kept M z₀
    (@State.k0Clear s) := by
  unfold State.k0Clear
  extract_lets x0 x1
  have k2 : Kept M z₀ x0 := by
    dsimp -zeta only [x0]
    refine forN_kept ?_ ?_
    · assumption
    · intro v3
      intro v4
      intro v5
      exact State.setPll_kept m_clk (by assumption)
  clear_value x0 x1
  exact Kept.upClk m_clk (by assumption)

theorem State.k0Return_kept {M : Mask} {z₀ : State} {s : State} (m_regs : M.regs = true) (h0 : Kept M z₀ s) : Kept M z₀
    (@State.k0Return s) := by
  unfold State.k0Return
  refine ite_kept ?_ ?_
  · exact State.setFld_kept m_regs (by assumption)
  · assumption

theorem execK0Run_kept {M : Mask} {z₀ : State} {s : State} (m_regs : M.regs = true) (m_tick : M.tick = true) (m_mode : M.mode
    = true) (m_port : M.port = true) (m_clk : M.clk = true) (m_ngx : M.ngx = true) (h0 : Kept M z₀ s) : OutOk M z₀
    (@execK0Run s) := by
  unfold execK0Run
  refine OutOk.next ?_
  refine ite_kept ?_ ?_
  · assumption
  · extract_lets x0
    have k1 : Kept M z₀ x0 := by
      dsimp -zeta only [x0]
      exact State.k0Return_kept m_regs (State.k0Clear_kept m_clk (State.k0Relock_kept m_regs m_clk (State.k0Hold_kept m_regs
          m_clk (by assumption))))
    clear_value x0
    refine State.k0Rejoin_kept m_regs m_tick m_mode m_ngx ?_
    refine forN_kept ?_ ?_
    · assumption
    · intro v2
      intro v3
      intro v4
      exact State.tdmReset_kept m_regs m_port (by assumption)

theorem State.tickSource_kept {M : Mask} {z₀ : State} {s : State} (m_regs : M.regs = true) (m_fab : M.fab = true) (m_tick :
    M.tick = true) (m_clk : M.clk = true) (m_keep : M.keep = true) (h0 : Kept M z₀ s) : Kept M z₀ (@State.tickSource s) := by
  unfold State.tickSource
  extract_lets x0
  clear_value x0
  refine State.modeDo_kept m_regs m_fab m_keep ?_ ?_
  · assumption
  · intro v1
    intro v2
    exact State.srcChange_kept m_regs m_tick m_clk m_keep (by assumption)

theorem State.runTick_kept {M : Mask} {z₀ : State} {s : State} (m_regs : M.regs = true) (m_eng : M.eng = true) (m_chainNow :
    M.chainNow = true) (m_chainFrz : M.chainFrz = true) (m_chainTorn : M.chainTorn = true) (m_chainIn : M.chainIn = true)
    (m_fab : M.fab = true) (m_tick : M.tick = true) (m_par : M.par = true) (m_cal : M.cal = true) (m_ctx : M.ctx = true)
    (m_route : M.route = true) (m_mov : M.mov = true) (m_port : M.port = true) (m_pcie : M.pcie = true) (m_clk : M.clk =
    true) (m_keep : M.keep = true) (m_pwr : M.pwr = true) (m_ngx : M.ngx = true) (m_gpio : M.gpio = true) (m_calMem :
    M.calMem = true) (h0 : Kept M z₀ s) : Kept M z₀ (@State.runTick s) := by
  unfold State.runTick
  extract_lets x0 x1 x2 x3 x4
  have k5 : Kept M z₀ x0 := by
    dsimp -zeta only [x0]
    exact State.computeSinks_kept m_regs m_route (by assumption)
  clear_value x0
  have k6 : Kept M z₀ x1 := by
    dsimp -zeta only [x1]
    assumption
  clear_value x1
  have k7 : Kept M z₀ x2 := by
    dsimp -zeta only [x2]
    exact State.tickTime_kept m_tick (State.settleTorn_kept m_chainNow m_chainFrz (by assumption))
  clear_value x2 x3
  have k8 : Kept M z₀ x4 := by
    dsimp -zeta only [x4]
    exact Kept.upTick m_tick (by assumption)
  clear_value x4
  refine State.tickBoundary_kept m_regs m_eng m_chainNow m_chainFrz m_chainTorn m_chainIn m_fab m_tick m_par m_cal m_ctx
      m_route m_mov m_port m_pcie m_clk m_keep m_pwr m_ngx m_gpio m_calMem ?_ ?_
  · assumption
  · exact State.tickSource_kept m_regs m_fab m_tick m_clk m_keep (by assumption)

theorem State.minTick_kept {M : Mask} {z₀ : State} {s : State} (m_regs : M.regs = true) (m_chainIn : M.chainIn = true) (m_fab
    : M.fab = true) (m_tick : M.tick = true) (m_par : M.par = true) (m_cal : M.cal = true) (m_ctx : M.ctx = true) (m_route :
    M.route = true) (m_mov : M.mov = true) (m_port : M.port = true) (m_pcie : M.pcie = true) (m_ngx : M.ngx = true) (m_boot :
    M.boot = true) (m_gpio : M.gpio = true) (m_calMem : M.calMem = true) (h0 : Kept M z₀ s) : Kept M z₀ (@State.minTick s) :=
    by
  unfold State.minTick
  extract_lets x0 x1 x2 x3
  have k4 : Kept M z₀ x0 := by
    dsimp -zeta only [x0]
    exact State.tickTime_kept m_tick (State.computeSinks_kept m_regs m_route (by assumption))
  clear_value x0 x1
  have k5 : Kept M z₀ x2 := by
    dsimp -zeta only [x2]
    exact Kept.upTick m_tick (by assumption)
  clear_value x2
  have k6 : Kept M z₀ x3 := by
    dsimp -zeta only [x3]
    refine State.modBoot_kept m_boot ?_ ?_ ?_ ?_
    · assumption
    · rfl
    · rfl
    · rfl
  clear_value x3
  exact State.tickAudio_kept m_regs m_chainIn m_fab m_cal m_ctx m_route m_mov m_port m_pcie m_ngx m_calMem
      (State.tickRamps_kept m_regs m_par m_route (State.tickPulses_kept m_gpio (by assumption)))

theorem State.d0Stop_kept {M : Mask} {z₀ : State} {s : State} (m_regs : M.regs = true) (m_latches : M.latches = true) (m_eng
    : M.eng = true) (m_chainNow : M.chainNow = true) (m_chainFrz : M.chainFrz = true) (m_chainTorn : M.chainTorn = true)
    (m_fab : M.fab = true) (m_tick : M.tick = true) (m_par : M.par = true) (m_mode : M.mode = true) (m_route : M.route =
    true) (m_port : M.port = true) (m_keep : M.keep = true) (m_pwr : M.pwr = true) (h0 : Kept M z₀ s) : Kept M z₀
    (@State.d0Stop s) := by
  unfold State.d0Stop
  extract_lets x0 x1 x2 x3 x4 x5 x6
  have k7 : Kept M z₀ x0 := by
    dsimp -zeta only [x0]
    exact State.chainRest_kept m_chainNow m_chainFrz m_chainTorn (by assumption)
  clear_value x0
  have k8 : Kept M z₀ x1 := by
    dsimp -zeta only [x1]
    exact State.setBit_kept m_regs (State.setBit_kept m_regs (State.setBit_kept m_regs (by assumption)))
  clear_value x1
  have k9 : Kept M z₀ x2 := by
    dsimp -zeta only [x2]
    exact State.setBit_kept m_regs (State.setBit_kept m_regs (by assumption))
  clear_value x2
  have k10 : Kept M z₀ x3 := by
    dsimp -zeta only [x3]
    refine forN_kept ?_ ?_
    · assumption
    · intro v11
      intro v12
      intro v13
      exact State.modEngine_kept m_eng (by assumption)
  clear_value x3 x4
  have k14 : Kept M z₀ x5 := by
    dsimp -zeta only [x5]
    exact Kept.lit (s := x3) { latches := .inl m_latches, tick := .inl m_tick, route := .inl m_route } (by assumption)
  clear_value x5
  have k15 : Kept M z₀ x6 := by
    dsimp -zeta only [x6]
    exact State.dropDoubt_kept m_regs m_par (by assumption)
  clear_value x6
  refine State.modeDo_kept m_regs m_fab m_keep ?_ ?_
  · assumption
  · intro v16
    intro v17
    exact State.dacDomStop_kept m_regs m_port (State.restoreAll_kept m_regs m_fab m_pwr (Kept.upMode m_mode (by assumption)))

theorem State.domEpoch_kept {M : Mask} {z₀ : State} {s : State} {m : Nat} (m_regs : M.regs = true) (m_tick : M.tick = true)
    (h0 : Kept M z₀ s) : Kept M z₀ (@State.domEpoch s m) := by
  unfold State.domEpoch
  extract_lets x0 x1 x2
  clear_value x0 x1
  have k3 : Kept M z₀ x2 := by
    dsimp -zeta only [x2]
    exact State.setDom_kept m_tick (State.setFld_kept m_regs (State.setFld_kept m_regs (by assumption)))
  clear_value x2
  exact State.setBit_kept m_regs (by assumption)

theorem State.epoch_kept {M : Mask} {z₀ : State} {s : State} {k : Nat} (m_regs : M.regs = true) (m_eng : M.eng = true)
    (m_chainNow : M.chainNow = true) (m_chainFrz : M.chainFrz = true) (m_chainTorn : M.chainTorn = true) (m_chainIn :
    M.chainIn = true) (m_fab : M.fab = true) (m_tick : M.tick = true) (m_par : M.par = true) (m_cal : M.cal = true) (m_ctx :
    M.ctx = true) (m_mode : M.mode = true) (m_route : M.route = true) (m_mov : M.mov = true) (m_port : M.port = true) (m_pcie
    : M.pcie = true) (m_clk : M.clk = true) (m_keep : M.keep = true) (m_pwr : M.pwr = true) (m_ngx : M.ngx = true) (m_gpio :
    M.gpio = true) (m_calMem : M.calMem = true) (h0 : Kept M z₀ s) : Kept M z₀ (@State.epoch s k) := by
  unfold State.epoch
  extract_lets x0 x1 x2 x3 x4 x5 x6
  have k7 : Kept M z₀ x0 := by
    dsimp -zeta only [x0]
    exact State.setBit_kept m_regs (State.setBit_kept m_regs (by assumption))
  clear_value x0 x1 x2 x3
  have k8 : Kept M z₀ x4 := by
    dsimp -zeta only [x4]
    exact Kept.lit (s := x0) { tick := .inl m_tick, ngx := .inl m_ngx } (by assumption)
  clear_value x4
  have k9 : Kept M z₀ x5 := by
    dsimp -zeta only [x5]
    exact State.domEpoch_kept m_regs m_tick (State.domEpoch_kept m_regs m_tick (by assumption))
  clear_value x5
  have k10 : Kept M z₀ x6 := by
    dsimp -zeta only [x6]
    refine State.modeDo_kept m_regs m_fab m_keep ?_ ?_
    · assumption
    · intro v11
      intro v12
      exact State.srcChange_kept m_regs m_tick m_clk m_keep (Kept.upMode m_mode (by assumption))
  clear_value x6
  refine State.tickBoundary_kept m_regs m_eng m_chainNow m_chainFrz m_chainTorn m_chainIn m_fab m_tick m_par m_cal m_ctx
      m_route m_mov m_port m_pcie m_clk m_keep m_pwr m_ngx m_gpio m_calMem ?_ ?_
  · assumption
  · exact State.dacDomStart_kept m_port (by assumption)

theorem execD0Tick_kept {M : Mask} {z₀ : State} {s : State} (m_regs : M.regs = true) (m_latches : M.latches = true) (m_eng :
    M.eng = true) (m_chainNow : M.chainNow = true) (m_chainFrz : M.chainFrz = true) (m_chainTorn : M.chainTorn = true)
    (m_chainIn : M.chainIn = true) (m_fab : M.fab = true) (m_tick : M.tick = true) (m_par : M.par = true) (m_cal : M.cal =
    true) (m_ctx : M.ctx = true) (m_mode : M.mode = true) (m_route : M.route = true) (m_mov : M.mov = true) (m_port : M.port
    = true) (m_pcie : M.pcie = true) (m_clk : M.clk = true) (m_keep : M.keep = true) (m_pwr : M.pwr = true) (m_ngx : M.ngx =
    true) (m_boot : M.boot = true) (m_gpio : M.gpio = true) (m_calMem : M.calMem = true) (h0 : Kept M z₀ s) : OutOk M z₀
    (@execD0Tick s) := by
  unfold execD0Tick
  refine OutOk.next ?_
  refine ite_kept ?_ ?_
  · refine ite_kept ?_ ?_
    · split
      · exact State.epoch_kept m_regs m_eng m_chainNow m_chainFrz m_chainTorn m_chainIn m_fab m_tick m_par m_cal m_ctx m_mode
          m_route m_mov m_port m_pcie m_clk m_keep m_pwr m_ngx m_gpio m_calMem (by assumption)
      · assumption
    · exact State.epoch_kept m_regs m_eng m_chainNow m_chainFrz m_chainTorn m_chainIn m_fab m_tick m_par m_cal m_ctx m_mode
        m_route m_mov m_port m_pcie m_clk m_keep m_pwr m_ngx m_gpio m_calMem (by assumption)
  · refine ite_kept ?_ ?_
    · assumption
    · refine ite_kept ?_ ?_
      · exact State.d0Stop_kept m_regs m_latches m_eng m_chainNow m_chainFrz m_chainTorn m_fab m_tick m_par m_mode m_route
          m_port m_keep m_pwr (by assumption)
      · refine ite_kept ?_ ?_
        · exact State.minTick_kept m_regs m_chainIn m_fab m_tick m_par m_cal m_ctx m_route m_mov m_port m_pcie m_ngx m_boot
            m_gpio m_calMem (by assumption)
        · exact State.runTick_kept m_regs m_eng m_chainNow m_chainFrz m_chainTorn m_chainIn m_fab m_tick m_par m_cal m_ctx
            m_route m_mov m_port m_pcie m_clk m_keep m_pwr m_ngx m_gpio m_calMem (by assumption)

end Sys2Proof.Machine
end

