-- ==== Sys2Proof/Laws/KeptWindows.lean ====
section
/-! SUPPORT. What the operations and meanings of Machine/Windows.lean keep (Laws/Kept.lean). -/

namespace Sys2Proof.Machine

theorem State.windowSet_kept {M : Mask} {z₀ : State} {s : State} {c : Nat} {q : Nat} {op : Nat} {f : OpenDesc → State →
    State} (m_ctx : M.ctx = true) (h0 : Kept M z₀ s) (h4 : ∀ u0 u1, Kept M z₀ u1 → Kept M z₀ (f u0 u1)) : Kept M z₀
    (@State.windowSet s c q op f) := by
  unfold State.windowSet
  split
  · refine ite_kept ?_ ?_
    · assumption
    · refine ite_kept ?_ ?_
      · exact State.finish_kept m_ctx (by assumption)
      · extract_lets x0
        have k1 : Kept M z₀ x0 := by
          dsimp -zeta only [x0]
          refine State.grant_kept m_ctx ?_
          apply h4
          assumption
        clear_value x0
        refine ite_kept ?_ ?_
        · exact State.setResult_kept m_ctx (by assumption)
        · assumption
  · split
    · refine ite_kept ?_ ?_
      · exact State.setResult_kept m_ctx (by assumption)
      · assumption
    · assumption

theorem execWindowSetDisable_kept {M : Mask} {z₀ : State} {c : Fin 512} {q : BitVec 32} {s : State} (m_cal : M.cal = true)
    (m_ctx : M.ctx = true) (h2 : Kept M z₀ s) : OutOk M z₀ (@execWindowSetDisable c q s) := by
  unfold execWindowSetDisable
  refine OutOk.next ?_
  refine State.windowSet_kept m_ctx ?_ ?_
  · assumption
  · intro v0
    intro v1
    intro v2
    exact State.tlbDrop_kept m_cal (State.setRoot_kept m_cal (by assumption))

theorem execWindowSetRoot_kept {M : Mask} {z₀ : State} {c : Fin 512} {q : BitVec 32} {s : State} (m_cal : M.cal = true)
    (m_ctx : M.ctx = true) (h2 : Kept M z₀ s) : OutOk M z₀ (@execWindowSetRoot c q s) := by
  unfold execWindowSetRoot
  refine OutOk.next ?_
  refine State.windowSet_kept m_ctx ?_ ?_
  · assumption
  · intro v0
    intro v1
    intro v2
    exact State.tlbDrop_kept m_cal (State.setRoot_kept m_cal (by assumption))

theorem execWindowSetInvalidate_kept {M : Mask} {z₀ : State} {c : Fin 512} {q : BitVec 32} {s : State} (m_cal : M.cal = true)
    (m_ctx : M.ctx = true) (h2 : Kept M z₀ s) : OutOk M z₀ (@execWindowSetInvalidate c q s) := by
  unfold execWindowSetInvalidate
  refine OutOk.next ?_
  refine State.windowSet_kept m_ctx ?_ ?_
  · assumption
  · intro v0
    intro v1
    intro v2
    exact State.tlbDrop_kept m_cal (by assumption)

end Sys2Proof.Machine
end

