-- ==== Sys2Proof/Laws/Mode.lean ====
section
/-! SUPPORT. What an operation under `State.modeDo` leaves: the operation's own result, but for the reason of the mode and what
Keeper's page records. -/

namespace Sys2Proof.Machine

theorem State.lantern_frame (s : State) : Kept { fab := true, keep := true } s s.lantern := State.lantern_kept rfl rfl (Kept.refl s)

theorem State.modeDo_reg (s : State) (r : Nat) (f : State → State) (o : Nat) (h : o ≠ rTopModeReason) :
    (s.modeDo r f).reg o = (f s).reg o := by
  unfold State.modeDo
  extract_lets t
  split
  · rfl
  · have := (State.lantern_frame (t.setFld rTopModeReason 0 8 r)).regs rfl
    unfold State.reg at *
    rw [this]
    exact State.reg_setReg_other _ _ h

/-- The reason of a change of mode (R660). -/
theorem State.modeDo_reason (s : State) (r : Nat) (f : State → State) (h : (f s).modeCode ≠ s.modeCode) (hr : r < 256) :
    (s.modeDo r f).rfld rTopModeReason 0 8 = r := by
  unfold State.modeDo
  extract_lets t
  rw [if_neg h]
  have := (State.lantern_frame (t.setFld rTopModeReason 0 8 r)).regs rfl
  have h2 : (t.setFld rTopModeReason 0 8 r).lantern.rfld rTopModeReason 0 8 = (t.setFld rTopModeReason 0 8 r).rfld rTopModeReason 0 8 := by
    unfold State.rfld State.reg
    rw [this]
  rw [h2, State.rfld_setFld_same _ _ _ _ _ (by decide)]
  exact Nat.mod_eq_of_lt hr

/-- The parts of the state that `modeDo` adds nothing to. -/
theorem State.modeDo_parts (s : State) (r : Nat) (f : State → State) :
    Kept { regs := true, fab := true, keep := true } (f s) (s.modeDo r f) := by
  unfold State.modeDo
  extract_lets t
  split
  · exact Kept.refl _
  · exact State.lantern_kept rfl rfl (Kept.upRegs rfl (Kept.refl t))

end Sys2Proof.Machine
end

