-- ==== Sys2Proof/WellFormed.lean ====
section
/-! DEFINITION. Which commands are well formed: what the operand types leave to say. A meaning answers on every command;
these checks say which commands a sender can bring about. -/

namespace Sys2Proof

/-- No value occurs twice. -/
def noRepeat : List Nat → Bool
  | [] => true
  | x :: xs => !xs.contains x && noRepeat xs

/-- A crossing joins two different clock domains (R11, R17). -/
def wfCrossing (src dst : Nat) : Bool := src != dst

/-- The start-up reads give each fuse word once (R619). -/
def wfFuses (odd : List FuseRead) : Bool := noRepeat (odd.map fun r => r.word.val)

/-- One CAP_SAMPLE reads the eight temperature sensors (R674). -/
def wfTemps (temps : List (BitVec 16)) : Bool := temps.length == 8

/-- A logic test gives one signature per cluster (R687). -/
def wfMisrs (misrs : List (BitVec 64)) : Bool := misrs.length == 8

/-- A defect list names each row, word or tile once. -/
def wfDefects {n : Nat} (l : List (Fin n)) : Bool := noRepeat (l.map fun x => x.val)

/-- The well-formed commands. The operands of every command not named here are exact by their types. -/
def Instr.wellFormed : Instr → Bool
  | .crossingDelivery src dst => wfCrossing src.val dst.val
  | .bootRomStart _ odd => wfFuses odd
  | .capSample temps _ => wfTemps temps
  | .testProgMem rows => wfDefects rows
  | .testLocalMem bad => wfDefects bad
  | .testCaldera bad => wfDefects bad
  | .testEngineLogic misrs => wfMisrs misrs
  | .testAll rows lm cal misrs _ => wfDefects rows && wfDefects lm && wfDefects cal && wfMisrs misrs
  | _ => true

end Sys2Proof
end

