-- ==== Sys2Proof/Tests/Slice0.lean ====
section
/-! SUPPORT. Tests: ill-formed commands that the checks refuse, the worked examples of the spec, single steps with results worked
out from its rules, and, for every statement, states and operands that meet the hypotheses of its clauses. -/

open Sys2Proof Sys2Proof.Machine

namespace Sys2Proof.Tests

-- One theorem after another: their kernel evaluations side by side need more memory than the check allows.
set_option Elab.async false

/-! ### Well-formedness: each check refuses an ill-formed command -/

/-- R17: a crossing from a clock domain to itself. -/
theorem test_wf_crossing : (Instr.crossingDelivery 3 3).wellFormed = false := by decide
/-- R619: the same fuse word twice. -/
theorem test_wf_fuses : (Instr.bootRomStart 0 [⟨5, 0, 0, 0, 0⟩, ⟨5, 1, 1, 1, 1⟩]).wellFormed = false := by decide
/-- R674: seven temperatures. -/
theorem test_wf_temps : (Instr.capSample [1, 2, 3, 4, 5, 6, 7] 0).wellFormed = false := by decide
/-- A row, a word or a tile named twice. -/
theorem test_wf_rows : (Instr.testProgMem [4, 4]).wellFormed = false := by decide
theorem test_wf_words : (Instr.testLocalMem [9, 1, 9]).wellFormed = false := by decide
theorem test_wf_tiles : (Instr.testCaldera [0, 0]).wellFormed = false := by decide
/-- R687: one signature for eight clusters. -/
theorem test_wf_misrs : (Instr.testEngineLogic [1]).wellFormed = false := by decide
theorem test_wf_all : (Instr.testAll [] [] [] [] 0).wellFormed = false := by decide
theorem test_wf_good : (Instr.capSample [1, 2, 3, 4, 5, 6, 7, 8] 0).wellFormed = true := by decide

/-! ### The worked examples of the spec -/

/-- Chapter 3, after R78: 0.5 × −0.75 into a clear lane; and 2^71, which wraps and sets AOV. -/
theorem test_mac_lane : macLane 0 0 0x40000000 0xA0000000 = (0xFFD000000000000000, false) ∧
    macLane 0 (BitVec.ofNat 72 (255 * 2 ^ 63)) 0x80000000 0x80000000 = (0x800000000000000000, true) := by decide +kernel
/-- Chapter 3, after R81: moves out of a lane truncate, and saturate with SAT. -/
theorem test_move_lane : moveLane (BitVec.ofInt 72 (3 * 2 ^ 31)) 0 0 = (1, false) ∧
    moveLane (BitVec.ofInt 72 (-3 * 2 ^ 31)) 0 0 = (0xFFFFFFFE, false) ∧
    moveLane (BitVec.ofInt 72 (3 * 2 ^ 62)) 0 0 = (0x7FFFFFFF, true) ∧
    moveLane (BitVec.ofInt 72 (3 * 2 ^ 62)) (-1) 0 = (0x60000000, false) := by decide +kernel
/-- Chapter 3, after R85: the dither register, and the two draws beside one half. -/
theorem test_dither : dthStep 1 = 0x80200003 ∧ dthDraw 1 = (0xB6C3, 0xB6F6B6C3) ∧
    moveLane (BitVec.ofInt 72 (3 * 2 ^ 31)) 0 (0x8000 * 2 ^ 16) = (2, false) ∧
    moveLane (BitVec.ofInt 72 (3 * 2 ^ 31)) 0 (0x7FFF * 2 ^ 16) = (1, false) := by decide +kernel
/-- Chapter 3, after R103: a circular buffer of 48 words. -/
theorem test_circular : [0, 1, 2, 3].map (quadWord 0x102E 0x1000 0x30) = [0x102E, 0x102F, 0x1000, 0x1001] ∧
    postMod 0x102C 0x1000 0x30 4 = 0x1000 ∧ postMod 0x102E 0x1000 0x30 4 = 0x1002 := by decide +kernel
/-- Chapter 4, after R128: TAP4 with one coefficient for all lanes. -/
theorem test_bcast : macY 1 ⟨0xC0000000, 1, 2, 3⟩ 2 = 0xC0000000 ∧ macLane 2 77 0x20000000 0xC0000000 = (0xFFF000000000000000, false) := by
  decide +kernel
/-- Chapter 4, after R132: MULT. -/
theorem test_mult : qopLane 0xB 0 0x40000000 0xA0000000 = (0xD0000000, false) ∧
    qopLane 0xB 0 0x80000000 0x80000000 = (0x7FFFFFFF, true) ∧ qopLane 0xB 0 1 0xFFFFFFFF = (0xFFFFFFFF, false) := by decide +kernel
/-- Chapter 6, after R249: time code 0 at 48 kHz takes 6 ticks, and the first value of the linear ramp to 0x4000_0000. -/
theorem test_ramp : rampTicks 48000 0 = 6 ∧ rampTicks 48000 3 = 48 ∧ rampLin 0 0x40000000 6 1 = 0x0AAAAAAA ∧
    rampLin 0x40000000 0x20000000 48 1 = 0x3F555555 := by decide +kernel
/-- Chapter 7, after R282: the page of the window-table example. -/
theorem test_walk : walkOutcome 1 1 0x000000087F5A0007 0 = .inr 0x000000087F5A0007 := by decide +kernel
/-- Chapter 10, after R402: the cost of a burst of 3,072 bytes, and the increment of one share over two Gen3 lanes. -/
theorem test_costs : costBytes 3072 = 3240 ∧ 1 * 2 * laneUnits 3 / 1024 = 105025 := by decide +kernel
/-- R404: 0x3E99_999A is 0x99999A × 2^−25, so the rule's floor is 0x99999A × 2^6 (the spec's example has one less; the rule is
followed); and −0.5 + 2^−31 rounds to −0.5. -/
theorem test_f32 : (f32ToWord 0x3E99999A).1 = 0x26666680 ∧ wordToF32 0xC0000001 = 0xBF000000 := by decide +kernel
/-- FIPS 180-4: SHA-384 of "abc". -/
theorem test_sha384 : (sha384 [0x61, 0x62, 0x63]).take 8 = [0xCB, 0x00, 0x75, 0x3F, 0x45, 0xA3, 0x5E, 0x8B] := by decide +kernel

/-! ### Small states -/

/-- The reset state after firmware has reached IDLE. -/
def idle0 : State := { State.reset with mode := { started := true }, boot := { phase := 6 }, pwr := { perstHeld := false } }

/-- D0 runs at 48 kHz: a tick was sent at cycle 0. -/
def run0 : State :=
  { idle0 with mode := { started := true, baseRun := true }, now := 25600
               tick := { gen := { lastTick := 0, period := 25600, f := 6553600 }, sidx := 5 } }

/-- An instruction word: opcode and fields by their lowest bit. -/
def word (op : Nat) (fs : List (Nat × Nat)) : IWord := BitVec.ofNat 64 (fs.foldl (fun n p => n + p.1 * 2 ^ p.2) (op * 2 ^ 58))

/-- Engine 0 with its tail program at address 0, where `w` stands; the tail entry may use the first tile. -/
def tailAt (w : IWord) : State :=
  State.reset.modEngine 0 fun x => { x with phase := .tail, prog := [(0, w)], stab := [(260, 0x10000000#32)] }

/-- Engine 0 runs segment 0 with a budget of 100 cycles, at address 0, where `w` stands. -/
def segAt (w : IWord) : State :=
  State.reset.modEngine 0 fun x => { x with phase := .run 0, prog := [(0, w)], stab := [(0, 0x80000000#32), (1, 100#32), (4, 0x10000000#32)] }

/-- A descriptor of type `typ` with sequence number 9; `fs` gives its body fields by byte offset. -/
def desc (typ extra : Nat) (fs : List (Nat × Nat)) : OpenDesc :=
  { seq := 9, typ := typ, extra := extra, body := BitVec.ofNat 384 (fs.foldl (fun n p => n + p.2 * 2 ^ (8 * (p.1 - 16))) 0) }

/-- Context 5 has the one open descriptor `d`. -/
def withDesc (s : State) (d : OpenDesc) : State :=
  { s with ctx := [(5, { opens := [d], c := 16#32, nextSeq := 10#32, p := 10#32, valid := true })] }

/-- Context 5 has a window whose page 1 is cached: bus page 7, readable and writable. -/
def withPage (s : State) : State :=
  { s with cal := { s.cal with roots := [(5, some 0)], tlb := [(tlbSet 1, [⟨5, 0, true, true, false, 7⟩])] } }

/-- The link is up, and the PF and VFs 1 to 63 may issue requests. -/
def linked (s : State) : State :=
  let fns := (List.range 64).map fun f => (f, ({ bme := true, mse := true } : PcieFn))
  { s.setBit rTopPcieStat 7 true with pcie := { s.pcie with vfEn := true, numVfs := 63, fns := fns } }

/-! ### Single steps -/

/-- What holds of the state that a command answers. -/
def after (o : Host.Outcome State Fault Refusal) (p : State → Bool) : Bool :=
  match o with
  | .next t => p t
  | _ => false

theorem test_step_segEnter_saved :
    let s : State := State.reset.modEngine 0 fun x => { x with phase := .enter 3, needInit := 0, frameOf := some 1, tick := { flg := 1#5 }, stab := [(24, 0x80000005#32)] }
    after (exec (.segmentEntry 0) s) fun t => decide ((t.engine 0).elapsed = 4 ∧
    SMap.get (fun _ => {}) (t.engine 0).frames 1 = (s.engine 0).tick.frame) := by decide +kernel

theorem test_step_budget_cut :
    let s : State := State.reset.modEngine 0 fun x => { x with phase := .run 0, stab := [(1, 100#32)], elapsed := 100 }
    after (exec (.budgetCut 0) s) fun t => decide ((t.engine 0).torn = [0] ∧ t.rfld (rEngSegStat 0 0) 0 8 = 1 ∧
    (t.engine 0).phase = .idle) := by decide +kernel

theorem test_step_farTaken :
    let f : FarEntry := ⟨0, 0, 0, 0⟩
    let s : State := State.reset.modEngine 0 fun x => { x with fsq := [f, f, f], heldStore := some [f] }
    after (exec (.farStoreTaken 0) s) fun t => decide ((t.engine 0).heldStore = none ∧ (t.engine 0).fsq.length = 4) := by decide +kernel

theorem test_step_wqRetire :
    let p : Pend := ⟨true, 1, .flg 1⟩
    let q : WqEntry := ⟨0, 15, ⟨1, 2, 3, 4⟩⟩
    let s : State := State.reset.modEngine 5 fun x => { x with wq := [q, q, q], inflight := [p, { p with left := 2 }] }
    let x := s.engine 5
    after (exec (.writeQueueRetire 5) s) fun t => decide ((t.engine 5).wq = x.wq.drop 2 ∧
    (t.engine 5).inflight = (x.inflight.map fun p => { p with left := p.left - 1 }).filter (fun p => 0 < p.left) ∧
    (t.engine 5).tickCyc = x.tickCyc + 1 ∧ (t.engine 5).elapsed = x.elapsed + 1) := by decide +kernel

theorem test_step_farReturn :
    let p : FarPiece := ⟨0, [(0, 0)], []⟩
    let r : FarReturn := ⟨3, p, [(0, 77)], false, false⟩
    let l : FarLoad := { id := 3, tail := false, fr := 2, mask := 1, left := [p] }
    let s : State := State.reset.modEngine 5 fun x => { x with farRet := [r], farLoads := [l] }
    let x := s.engine 5
    after (exec (.farReturnArrival 5) s) fun t => decide ((t.engine 5).farRet = [] ∧ (t.engine 5).farLoads = [] ∧
    ((t.engine 5).bank l.tail).rfr l.fr = Quad.merge l.mask ((x.bank l.tail).rfr l.fr) (Quad.ofFn fun i => SMap.get (fun _ => 0) (r.words.foldl (fun m w => SMap.set (fun _ => 0) m w.1 w.2) l.got) i)) := by decide +kernel

theorem test_step_tickReceipt_held :
    let k : TickInfo := { six := 7, dfl := 1, tc1 := 3, tc2 := 2 }
    let s : State := State.reset.modEngine 0 fun x => { x with offered := some k, phase := .run 2, heldStore := some [] }
    let x := s.engine 0
    after (exec (.tickReceipt 0) s) fun t => decide ((t.engine 0).pendTick = some k ∧ t.rbit (rEngStopWait 0) 31 = true ∧
    (t.engine 0).heldStore = x.heldStore ∧ (t.engine 0).phase = x.phase) := by decide +kernel

theorem test_step_endTick :
    let w := word 2 []
    let s : State := (segAt w).modEngine 0 fun x => { x with stab := x.stab ++ [(256, 0x80000000#32)] }
    after (exec (.endProgram 0) s) fun t => decide ((t.engine 0).phase = if (s.engine 0).segEn true 32 then .tail else .idle) := by decide +kernel

theorem test_step_fabric_grant :
    let r : BankReq := { cls := 2, master := 40, arrival := 0, addr := 0, cycles := 2, kind := .other false }
    let s : State := { idle0 with fab := { idle0.fab with banks := [(63, { reqs := [r], decided := some (r, true), credits := 6 })] } }
    after (exec (.bankGrant 63) s) fun t => decide ((t.bank 63).decided = none ∧ (t.bank 63).busyUntil = s.now + r.cycles ∧
    (t.bank 63).reqs = (s.bank 63).reqs.erase r ∧ (t.bank 63).floor = true ∧
    (t.bank 63).credits = (s.bank 63).credits &&& ~~~(1#6 <<< r.cls) ∧ ∀ k : Fin 64, k ≠ 63 → t.bank k = s.bank k) := by decide +kernel

theorem test_step_pllEnable :
    let s : State := State.reset
    let v : BitVec 32 := 0x6001
    after (exec (.pllEnable 0 v) s) fun t => decide (t.rbit (rClkPllCtrl 0) 0 = true ∧ t.rfld (rClkPllCtrl 0) 8 8 = 0x60 ∧ t.pllSt 0 = 1) := by decide +kernel

theorem test_step_pllEnable_rej :
    let s : State := State.reset
    let v : BitVec 32 := 0x6101
    after (exec (.pllEnable 0 v) s) fun t => decide (t.rbit (rClkPllCtrl 0) 31 = true ∧ t.rbit (rClkPllCtrl 0) 0 = false ∧ t.pllSt 0 = 0) := by decide +kernel

theorem test_step_pllSlip :
    let s : State := (State.reset.setFld rClkPllsStat 0 2 2).setFld rClkPllsStat 16 8 255
    after (exec (.pllSlip 2) s) fun t => decide (t.pllSt 2 = 3 ∧ t.rbit (pllStatReg 2) 8 = true ∧ t.rfld (pllStatReg 2) 16 8 = 255) := by decide +kernel

theorem test_step_ckoPhase :
    let s : State := State.reset.setReg (rClkCkoAct 3) 2
    after (exec (.ckoPhaseAdd 3 0x800) s) fun t => decide ((t.cko 3).pend = -2047 ∧ (t.cko 3).phase = -2048) := by decide +kernel

theorem test_step_refLost :
    let s : State := (((State.reset.setBit rClkRefStat 8 true).setFld (rClkPllStat 0) 0 2 2).setFld (rClkPllStat 1) 0 2 2)
    after (exec .refclkLost s) fun t => decide (t.rbit rClkRefStat 8 = false ∧ t.rbit rClkRefStat 9 = true ∧
    t.rbit rClkHoldStat 8 = true ∧ t.pllSt 0 = 3 ∧ t.pllSt 1 = 3) := by decide +kernel

theorem test_step_frameLoss3 :
    let s0 : State := (State.reset.setBit rNgxCtrl 0 true).setFld rNgxStat 11 2 2
    let s : State := { s0 with ngx := { s0.ngx with loss := 2 } }
    after (exec .frameLoss s) fun t => decide (t.rxState = 0 ∧ t.ngx.loss = 3) := by decide +kernel

theorem test_step_frameRecv :
    let s0 : State := (State.reset.setBit rNgxCtrl 0 true).setFld rNgxStat 11 2 2
    let s : State := { s0 with ngx := { s0.ngx with good := 2, loss := 2 } }
    let ws : List Word := []
    after (exec (.frameReceive ws 6408 0) s) fun t => decide (t.rxState = 3 ∧ t.ngx.good = 3 ∧ t.ngx.loss = 0 ∧ t.ngx.frames = 1) := by decide +kernel

theorem test_step_beacon :
    let s0 : State := (idle0.setBit rNgxCtrl 0 true).setFld (rClkTickCtrl 0) 0 7 0x19
    let b : Beacon := ⟨77, 6, 1, true⟩
    let s : State := { s0 with mode := { started := true, runPend := true, baseRun := true }, ngx := { beacon := some b } }
    after (exec .beaconEvent s) fun t => decide (t.ngx.start = some 77 ∧ t.ngx.adopted = some 6 ∧ t.ngx.beacon = none ∧ t.regs = s.regs) := by decide +kernel

theorem test_step_ngxAck :
    let m : Msg := { kind := 2, dst := 0, src := 15, payload := [0x00050000] }
    let k : Msg := { kind := 3, dst := 15, payload := [], seq := some 5 }
    let l : Msg := { kind := 3, dst := 15, payload := [], seq := some 6 }
    let s : State := { State.reset with ngx := { inbox := [m], msgs := [k, l] } }
    after (exec (.ngxAck 15) s) fun t => decide (t.ngx.msgs = [l]) := by decide +kernel

theorem test_step_ngxData :
    let m : Msg := { kind := 3, dst := 0, src := 0, ctx := 511, payload := List.replicate 16 7 }
    let s0 : State := (State.reset.setBit rNgxCtrl 1 true).setFld (rCtxtStat 511) 0 3 2
    let s : State := { s0 with ngx := { inbox := [m] } }
    after (exec (.ngxData 0 0) s) fun t => decide ((t.context m.ctx).p = 1 ∧ SMap.get (fun _ => []) t.ngx.store 511 = [m.payload]) := by decide +kernel

theorem test_step_regRsp_read :
    let m : Msg := { kind := 6, dst := 0, src := 5, payload := [0, 9] }
    let s0 : State := State.reset.setBit rNgxRrCmd 31 true
    let s : State := { s0 with ngx := { inbox := [m] } }
    after (exec (.regRsp 5) s) fun t => decide (t.reg rNgxRrData = 9 ∧ t.rbit rNgxRrCmd 31 = false) := by decide +kernel

theorem test_step_hwr_join :
    let m : Msg := { kind := 0x12, dst := 0, src := 15, ctx := 511, payload := [0x1000, 0, 0x00070E04, 0x01020304] }
    let s0 : State := (linked idle0).setFld (rCtxtCtrl 511) 0 6 63
    let s : State := { s0 with ngx := { inbox := [m] } }
    let p : State := { s0 with ngx := { inbox := [] } }
    after (exec (.hwr 15) s) fun t => decide (t.fab = p.fab ∧
    SMap.get (fun _ => none) t.ngx.join 15 = some { func := 63, cls := 6, addr := 0x1000, data := [4, 3, 2, 1] }) := by decide +kernel

theorem test_step_bootData :
    let m : Msg := { kind := 0x21, dst := 0, src := 0, payload := [0, 4, 0x01020304] }
    let s0 : State := { State.reset with boot := { phase := 2, cur := 6 } }
    let s : State := { s0 with ngx := { inbox := [m] } }
    after (exec (.bootData 0) s) fun t => decide (t.boot.img = [4, 3, 2, 1]) := by decide +kernel

theorem test_step_hrdCpl :
    let m : Msg := { kind := 0x11, dst := 0, src := 0, payload := [0x0000FFFF, 4, 0x01020304] }
    let o : Outst := ⟨1024 + 65535, 63, .mover 7, 0⟩
    let s : State := { State.reset with ngx := { inbox := [m] }, pcie := { outst := [o] }, mov := { movers := [(7, some ⟨.copy 5 9 0 4, true, 0⟩)] } }
    after (exec (.hrdCpl 65535) s) fun t => decide (after (execCopyPieceCompletion 7 [4, 3, 2, 1] 0 ((s.modNgx fun x => { x with inbox := [] }).readsOver o.who)) (fun u => decide (t = u))) := by decide +kernel

theorem test_step_cascCommit :
    let d : OpenDesc := { desc tCommit (63 + 1024 + 256) [(16, 100), (24, 0x8000)] with started := true }
    let s0 : State := ((withDesc idle0 d).setBit rNgxStat 0 true).setReg (rFabCgCtrl 63) 0x80000205
    let s : State := { s0 with ngx := { sess := List.replicate 15 0 ++ [0x30001] }, par := { groups := [(63, { members := [.swap 1 true true 5 8] })] } }
    after (exec (.cascadeCommit 5 9) s) fun t => decide (t.groupSt 63 = 3 ∧ t.reg64 (rFabCgDueLo 63) = 100 ∧
    (t.group 63).arm = some { ctx := 5, seq := 9, origDue := 100, next := false, mask := 0x8000 }) := by decide +kernel

theorem test_step_decision_late :
    let a : Arm := { mask := 2, origDue := 6, armed := 2 }
    let s : State := { run0.setReg (rFabCgCtrl 63) 0x80003205 with par := { groups := [(63, { arm := some a })] } }
    after (exec (.cascadeDecision 63) s) fun t => decide (t.groupSt 63 = 4 ∧ t.par.decisions = [⟨63, true, 7, 2⟩] ∧
    (t.group 63).arm.map (·.late) = some true) := by decide +kernel

theorem test_step_decision_refused :
    let a : Arm := { mask := 2, origDue := 7, refused := true }
    let s : State := { run0.setReg (rFabCgCtrl 63) 0x80003205 with par := { groups := [(63, { arm := some a })] } }
    after (exec (.cascadeDecision 63) s) fun t => decide ((t.group 63).arm = none ∧ t.par.decisions = [⟨63, false, 7, 2⟩]) := by decide +kernel

theorem test_step_arm :
    let m : Msg := { kind := 8, dst := 0, src := 0, payload := [63, 5, 1] }
    let s0 : State := { idle0.setReg (rFabCgCtrl 63) 0x80001205 with par := { groups := [(63, { members := [.swap 1 true true 5 8] })] } }
    let s : State := { s0 with ngx := { inbox := [m] } }
    after (exec (.arm 0) s) fun t => decide (t.groupSt 63 = 5 ∧ (t.group 63).arm = some { origDue := 4294967301, follow := true } ∧
    (t.group 63).members = [.swap 1 true true 5 8] ∧ t.reg64 (rFabCgDueLo 63) = 4294967301) := by decide +kernel

theorem test_step_applied_more :
    let m : Msg := { kind := 0x0B, dst := 0, src := 15, payload := [63, 8, 0] }
    let a : Arm := { mask := 0x8002, applied := 2, origDue := 7 }
    let s0 : State := { idle0.setReg (rFabCgCtrl 63) 0x80004205 with par := { groups := [(63, { arm := some a, members := [.swap 1 true true 5 8] })] } }
    let s : State := { s0 with ngx := { inbox := [m] } }
    after (exec (.applied 15) s) fun t => decide ((t.group 63).arm = some { a with applied := 0x8002, otherIdx := true }) := by decide +kernel

theorem test_step_abortAck :
    let m : Msg := { kind := 0x0D, dst := 0, src := 15, payload := [63] }
    let s0 : State := { idle0 with par := { decisions := [⟨63, false, 7, 0x8000⟩, ⟨62, false, 7, 0x8000⟩, ⟨63, true, 7, 0x8000⟩] } }
    let s : State := { s0 with ngx := { inbox := [m] } }
    after (exec (.abortAck 15) s) fun t => decide (t.par.decisions = [⟨62, false, 7, 0x8000⟩, ⟨63, true, 7, 0x8000⟩]) := by decide +kernel

theorem test_step_keeperFault :
    let s : State := idle0
    after (exec .keeperFault s) fun t => decide (t.rlf = rlfReset ∧ t.rbit rTopRlfStat 3 = true ∧ t.mode.recovery = true ∧
    t.rfld rTopRlfCnt 0 16 = min (s.rfld rTopRlfCnt 0 16 + 1) 65535 ∧ t.keep.starts = s.now :: s.recentStarts) := by decide +kernel

theorem test_step_miss1 :
    let s : State := { idle0 with now := tMiss }
    after (exec .heartbeatMiss s) fun t => decide (t.rfld rTopRlfHb 16 2 = 1 ∧ t.rlf = s.rlf ∧ t.mode = s.mode) := by decide +kernel

theorem test_step_tmr3 :
    let s : State := idle0
    after (exec (.tmrVote 2) s) fun t => decide (t.rlf = rlfFault ∧ t.rbit rTopRlfStat 3 = true ∧ t.rfld rTopModeReason 0 8 = 0x2F ∧
    t.faultPin = true) := by decide +kernel

theorem test_step_bootRom :
    let s : State := { State.reset with boot := { phase := 1 }, pwr := { perstHeld := false } }
    after (exec (.bootRomStart 3 []) s) fun t => decide (t.boot.phase = 2 ∧ t.rfld rClkRefStat 0 2 = 3 ∧ t.rbit rClkRefStat 8 = true ∧
    t.mode.boot = 2) := by decide +kernel

theorem test_step_watchdog :
    let s : State := { State.reset with now := 1105920000, boot := { phase := 4, wd := some 0, att := 3 } }
    after (exec (.bootWatchdog 0x3F) s) fun t => decide (t.boot.phase = 1 ∧ t.boot.wd = some s.now ∧ t.boot.att = 3 ∧
    t.reg rBootStraps = 0x3F ∧ t.mode = State.reset.mode) := by decide +kernel

theorem test_step_arb :
    let s : State := { idle0 with boot := { idle0.boot with stage1Ver := 3, keeperVer := 40 } }
    after (exec .arbFuse s) fun t => decide (t.rbit rBootArb 0 = true ∧ t.boot.arb = some { at' := s.now, ok := true } ∧ t.fuse 49 = 7 ∧
    t.fuse 50 = 0xFFFFFFFF) := by decide +kernel

theorem test_step_otp :
    let s : State := idle0.setReg rBootOtpData 5
    after (exec (.otpPgm 112) s) fun t => decide (t.rbit rBootOtpPgm 31 = true ∧ t.fuse 112 = 5 ∧
    t.boot.otp = some { at' := s.now, ok := true }) := by decide +kernel

theorem test_step_fixed0 :
    let k : FixOp := { at' := 0, ok := true }
    let s : State := { idle0.setBit rSecDbgStat 0 true with now := 61440000, boot := { phase := 6, dbg := some k } }
    after (exec (.fixedTimeResult 0) s) fun t => decide (t.boot.dbg = none ∧ t.rbit rSecDbgStat 0 = false ∧
    t.rbit rSecDbgStat 2 = false ∧ t.mode.session = true) := by decide +kernel

theorem test_step_fixed4 :
    let k : FixOp := { at' := 0, ok := false, write := true, reason := 0x01 }
    let s : State := { idle0.setBit rBootMbxStat 0 true with now := 1228800000, boot := { phase := 6, mbx := some k } }
    after (exec (.fixedTimeResult 4) s) fun t => decide (t.boot.mbx = none ∧ t.rbit rBootMbxStat 0 = false ∧
    t.rbit rBootMbxStat 1 = true) := by decide +kernel

theorem test_step_flash_prog :
    let s0 : State := (((idle0.setFld rSpimCfg 16 5 26).setReg rSpimPfCmd 0x0002).setReg rSpimPfAddr 0x100FF).setReg (rSpimPfBuf 0) 0x0F
    let s : State := { s0 with boot := { phase := 6, flash := [(0x100FF, 0x3C)] } }
    after (exec (.flashProgram 0) s) fun t => decide (t.rbit rSpimPfCmd 31 = true ∧ t.rbit rSpimStat 0 = true ∧
    t.flashByte 0x100FF = 0x0C ∧ t.flashByte 0x10100 = 0xFF ∧
    (t.spim.cmd.map fun k => (k.op, k.who, k.addr, k.len, k.at')) = some (2, 3, 0x100FF, 1, 0)) := by decide +kernel

theorem test_step_flash_erase :
    let s0 : State := (((idle0.setFld rSpimCfg 16 5 26).setReg rSpimPfCmd 0x0004).setReg rSpimPfAddr 0x2ABCD)
    let s : State := { s0 with boot := { phase := 6, flash := [(0x1FFFF, 1), (0x20000, 2), (0x2FFFF, 3), (0x30000, 4)] } }
    after (exec .erase64k s) fun t => decide (t.rbit rSpimPfCmd 31 = true ∧ t.boot.flash = [(0x1FFFF, 1), (0x30000, 4)]) := by decide +kernel

theorem test_step_ready_read :
    let k : FlashCmd := { who := 3, op := 1, addr := 0x10000, len := 5 }
    let s : State := { (idle0.setReg rSpimPfCmd 0x80000401) with spim := { cmd := some k }, boot := { phase := 6, flash := [(0x10000, 1), (0x10004, 9)] } }
    after (exec (.flashReady 0) s) fun t => decide (t.rfld rSpimPfCmd 24 4 = 0 ∧ t.rbit rSpimPfCmd 31 = false ∧
    t.pfBuf 5 = s.flashRead 0x10000 5 ∧ t.pfBuf 5 = [1, 0xFF, 0xFF, 0xFF, 9]) := by decide +kernel

theorem test_step_flashTmo :
    let k : FlashCmd := { who := 3, op := 2, addr := 0x10000, len := 1, data := [0xFF], mask := [true] }
    let s : State := { (idle0.setReg rSpimPfCmd 0x80000002) with now := 6144000, spim := { cmd := some k } }
    after (exec .flashTimeout s) fun t => decide (t.rbit rSpimStat 9 = true ∧ t.rfld rSpimPfCmd 24 4 = 2 ∧ t.rbit rSpimPfCmd 31 = false ∧
    t.spim.poll = true ∧ t.spim.cmd = none ∧ t.boot = s.boot) := by decide +kernel

theorem test_step_win_write :
    let s : State := { idle0.setFld rSpimCfg 16 5 20 with spim := { combPage := 256, comb := [(3, some 0x0F)] } }
    after (exec (.windowWrite 0xFFFF 5) s) fun t => decide (t.spim.combPage = 255 ∧ t.boot = s.combFlush.boot ∧
    t.flashByte 0x10003 = 0x0F ∧ (∀ i : Fin 256, SMap.get (fun _ => none) t.spim.comb i = if i.val = 255 then some 5 else none)) := by decide +kernel

theorem test_step_win_hit :
    let s : State := { idle0.setFld rSpimCfg 16 5 20 with spim := { poll := true, cache := [(255, [(3, List.replicate 64 7)])] } }
    after (exec (.windowRead 0xFFFF) s) fun t => decide (t.spim.kData = 7 ∧ t.boot = s.boot ∧ t.regs = s.regs) := by decide +kernel

theorem test_step_comb :
    let s : State := { idle0 with now := 122880, spim := { combPage := 256, comb := [(3, some 0x0F), (255, some 0x11)] } }
    after (exec .combineFlush s) fun t => decide (t.spim.comb = [] ∧ t.boot.flash = [(0x10003, 0x0F), (0x100FF, 0x11)]) := by decide +kernel

theorem test_step_ping_range :
    let s : State := { idle0.setReg rSpisCtrl 1 with spis := { bad := true, drop := true, unread := true } }
    after (exec (.ping true 7 15 0 []) s) fun t => decide (t.spis.reply = some (7, 15 + 16 + 32 + 128, 2, 0) ∧ t.spis.unread = true ∧
    t.spis.bad = false ∧ t.spis.drop = false ∧ t.spis.busy = none ∧ t.rbit rSpisStat 1 = true) := by decide +kernel

theorem test_step_spisRd_denied :
    let s : State := (idle0.setReg rSpisCtrl 1).setReg rSpisRdEn 0xFFFFFFFF
    after (exec (.spisRegRd false 15 0x110000) s) fun t => decide (t.spis.reply = some (2, 15, 1, 0)) := by decide +kernel

theorem test_step_repeat :
    let s : State := { idle0.setReg rSpisCtrl 1 with spis := { last := some (7, 0xABCD), reply := some (1, 7, 0, 0) } }
    after (exec (.repeat true 7 0xABCD) s) fun t => decide (t.rfld rSpisCnt 8 8 = 1 ∧
    t.spis = { s.spis with reply := some (1, 71, 0, 0) }) := by decide +kernel

theorem test_step_replyRead_wait :
    let s : State := { idle0.setReg rSpisCtrl 1 with spis := { unread := true, reply := some (1, 7, 0, 5), busy := some (0x10, 3) } }
    after (exec (.replyRead false true 4) s) fun t => decide (t.spis.reply = s.spis.reply ∧ t.spis.out = [0xF0, 0x0F, 0xF0, 0x0F] ∧
    t.spis.unread = true) := by decide +kernel

theorem test_step_replyRead_long :
    let s : State := (idle0.setReg rSpisCtrl 1).setReg rSpisStat 1
    after (exec (.replyRead false true 4) s) fun t => decide (t.spis.out = [0x3C, 0xF0, 0x0F, 0xF0]) := by decide +kernel

theorem test_step_mbx_go :
    let s : State := idle0.setReg rSpisCtrl 3
    after (exec (.mbxGo false 7 0 512 3) s) fun t => decide ((t.spis.reply.map fun r => (r.1, r.2.2)) = some (0x12, 0, 0) ∧
    t.rbit rBootMbxStat 0 = true ∧ t.rbit rBootMbxStat 1 = false ∧
    (t.boot.mbx.map fun m => (m.at', m.boot, m.write, m.spis, m.len)) = some (0, true, true, true, 512)) := by decide +kernel

theorem test_step_rail1 :
    let s : State := { State.reset with now := 9, pwr := { en := 5, seq := .up 1 } }
    after (exec (.railGood 0) s) fun t => decide (t = { s with pwr := { s.pwr with en := 7, seq := .up 2, seqAt := s.now } }) := by decide +kernel

theorem test_step_seqTmo :
    let s : State := { State.reset with now := tGood, pwr := { en := 5, seq := .up 1 } }
    after (exec .sequenceTimeout s) fun t => decide (t.pwr.seq = .down 1 .retry ∧ t.pwr.en = 5 ∧ t.rfld rPwrSeq 0 8 = 1) := by decide +kernel

theorem test_step_brownOut :
    let s : State := { idle0 with boot := { phase := 6, fuses := [(112, 1)], flash := [(5, 1)] } }
    after (exec .brownOut s) fun t => decide (t.pwr.seq = .down 1 .up ∧ t.pwr.en = 5 ∧ t.pwr.next = 1 ∧ t.rbit rPwrSeq 8 = true ∧
    t.boot.fuses = s.boot.fuses ∧ t.boot.flash = s.boot.flash ∧ t.mode = State.reset.mode) := by decide +kernel

theorem test_step_dorm :
    let s : State := { idle0 with now := 9 }
    after (exec .dormGo s) fun t => decide (t.mode.dormant = true ∧ t.pwr.seq = .down 1 .dormant ∧ t.pwr.entered = s.now) := by decide +kernel

theorem test_step_wake :
    let s : State := { idle0.setReg rPwrDormCtrl 0x40 with mode := { dormant := true }, pwr := { en := 0, seq := .off } }
    after (exec (.wakeSource 5) s) fun t => decide (t.pwr.seq = .up 0 ∧ t.pwr.en = 4 ∧ t.rfld rPwrWakeSrc 0 4 = 6 ∧ t.pwr.next = 3) := by decide +kernel

theorem test_step_run :
    let s : State := { idle0 with now := 77 }
    after (exec .modeCmdRun s) fun t => decide (t.mode = { s.mode with runPend := true } ∧ t.rbit rTopModeCmd 3 = true ∧
    t.tick.gen.period = 25600 ∧ t.tick.gen.lastTick = 77) := by decide +kernel

theorem test_step_idle_cancel :
    let s : State := { idle0.setBit rTopModeCmd 3 true with mode := { started := true, runPend := true } }
    after (exec .modeCmdIdle s) fun t => decide (t.mode = { s.mode with runPend := false } ∧ t.rbit rTopModeCmd 3 = false) := by decide +kernel

theorem test_step_isl_down :
    let s : State := { idle0.setFld rPwrIslStat 22 2 1 with pwr := { op := some ⟨5, 9, 0x800, 0, false, []⟩ } }
    after (exec (.islandPowerDown 11) s) fun t => decide (t.island 11 = 2) := by decide +kernel

theorem test_step_isl_up_shed :
    let o : PowerOp := ⟨5, 9, 0x80, 0x80, false, []⟩
    let s : State := { (run0.setFld rPwrIslStat 14 2 2).setBit rPwrCapStat 8 true with pwr := { op := some o } }
    after (exec (.islandPowerUp 7) s) fun t => decide (t.island 7 = 3) := by decide +kernel

theorem test_step_cap :
    let s : State := run0.setReg rPwrCapCtrl 0x00006401
    let temps : List (BitVec 16) := [1600, 0, 0, 0, 0, 0, 0, 1]
    after (exec (.capSample temps 4095) s) fun t => decide (t.reg (rPwrTemp 0) = 1600 ∧ t.reg (rPwrTemp 7) = 1 ∧
    t.rfld rPwrPcap 16 12 = 4095 ∧ t.rbit rPwrCapStat 8 = true ∧ t.rbit rPwrCapStat 9 = false ∧ t.pwr.due = [7] ∧
    t.pwr.lastShed = some s.now) := by decide +kernel

theorem test_step_testPm :
    let s : State := { idle0 with test := { run := some 15 } }
    after (exec (.testProgMem [31]) s) fun t => decide (t.test.done = [1] ∧ t.test.rows = 1) := by decide +kernel

theorem test_step_testDone :
    let s : State := { idle0.setReg rTestStat 0xF1 with mode := { started := true, selfTest := true }, test := { run := some 15, done := [1, 2, 3, 4, 5] } }
    after (exec .testComplete s) fun t => decide (t.test.run = none ∧ t.test.record = s.test.bytes s.now ∧ t.rbit rTestStat 0 = false ∧
    t.rfld rTestStat 1 3 = s.test.result ∧ t.mode = { s.mode with selfTest := false }) := by decide +kernel

theorem test_step_tap_hold_again :
    let s : State := { idle0 with tap := { held := true, ir := 3 } }
    after (exec (.tapHighz 0) s) fun t => decide (t.tap.held = true ∧ t.tap.ir = 4 ∧ { t with tap := s.tap } = s) := by decide +kernel

theorem test_step_tap_leave_scan :
    let s : State := { idle0 with tap := { held := true, scan := true, ir := 0x18 }, boot := { phase := 6, tcm := [(5, 1)] }, cal := { bytes := [(5, 1)] } }
    after (exec (.tapSample 0 0 0x3F) s) fun t => decide (t.tap.held = false ∧ t.tap.scan = false ∧ t.boot.phase = 1 ∧
    t.boot.reason = 2 ∧ t.boot.tcm = [] ∧ t.cal.bytes = [] ∧ t.boot.fuses = s.boot.fuses ∧ t.boot.flash = s.boot.flash) := by decide +kernel

theorem test_step_resAssign :
    let s : State := (idle0.setReg rFabResCmd (BitVec.ofNat 32 (511 + 1 * 2^9 + 1 * 2^12 + 31 * 2^16 + 2^29))).setReg rFabResRange 0x00FF00FF
    let cmd := s.reg rFabResCmd
    after (exec .resAssign s) fun t => decide (t.reg rFabResCmd = putBit cmd 29 false ∧ t.resOwner 1 31 255 = some 511 ∧
    (∀ i : Fin 300, i ≠ 255 → t.resOwner 1 31 i = s.resOwner 1 31 i)) := by decide +kernel

theorem test_step_tileAssign :
    let s : State := (idle0.setReg rCaldTileCmd (BitVec.ofNat 32 (5 + 1 * 2^9 + 2^29))).setReg rCaldTileRange 0x10001000
    let cmd := s.reg rCaldTileCmd
    after (exec .tileAssign s) fun t => decide (t.reg rCaldTileCmd = putBit cmd 29 false ∧ t.tile 4096 = (1, 5) ∧
    t.tile 4095 = s.tile 4095 ∧ t.tile 4097 = s.tile 4097) := by decide +kernel

theorem test_step_commit :
    let d := desc tCommit 63 []
    let s : State := (withDesc idle0 d).setReg (rFabCgCtrl 63) 0x80000005
    after (exec (.commit 5 9) s) fun t => decide (t = s.modDesc 5 9 fun d => { d with started := true }) := by decide +kernel

theorem test_step_dmaCopy :
    let d := desc tDmaCopy 0 [(16, 4096), (24, 4096 * 4097), (32, 64), (37, 1), (38, 4)]
    let s0 : State := (withDesc idle0 d).setFld (rDmaCap 5) 16 11 1
    let s : State := { s0 with cal := { s0.cal with tiles := [(4097, (1, 5))] } }
    let k : Copy := { ctx := 5, seq := 9, src := d.num 16 8, dst := d.num 24 8, len := d.num 32 4, srcCal := d.num 36 1 == 1, dstCal := d.num 37 1 == 1, isCheck := false, check := d.num 38 1, expect := d.num 40 4, rem := crcInit (d.num 38 1), start := s.now }
    after (exec (.dmaCopy 5 9) s) fun t => decide (t.mov.copies = s.mov.copies ++ [k] ∧ t.findDesc 5 9 = some { d with started := true }) := by decide +kernel

theorem test_step_doorbell :
    let s0 : State := ((linked idle0).setReg (rCtxtCtrl 0) (BitVec.ofNat 32 (63 + 64 * 15))).setFld (rCtxtStat 0) 0 3 3
    let s : State := { s0 with pcie := { s0.pcie with vfMse := true }, ctx := [(0, { c := 5, w := 7, k := 6 })] }
    let x := s.context 0
    after (exec (.commandProducer 63 15 6) s) fun t => decide (t.context 0 = { x with p := 6 }) := by decide +kernel

theorem test_step_consumer :
    let s0 : State := ((linked idle0).setReg (rCtxtCtrl 0) (BitVec.ofNat 32 (63 + 64 * 15))).setFld (rCtxtStat 0) 0 3 1
    let s : State := { s0 with pcie := { s0.pcie with vfMse := true }, ctx := [(0, { c := 5, w := 7, k := 6 })] }
    let x := s.context 0
    after (exec (.completionConsumer 63 15 7 3) s) fun t => decide ((t.context 0).k = 7 ∧ (t.context 0).evCons = 3 ∧
    (t.context 0).w = x.w) := by decide +kernel

/-! ### Hypotheses that are met -/

/-- With no segment table, line, stream or copy, and every register of the coefficient sets and of the delay lines at its reset
value, no tile is reached. -/
theorem noTileReached (s : State) (c lo hi : Nat) (h1 : s.eng = []) (h2 : s.cal.lines = []) (h3 : s.mov.streams = [])
    (h4 : s.mov.copies = []) (h5 : ∀ o, (0x064000 ≤ o ∧ o < 0x068000) ∨ (0x080000 ≤ o ∧ o < 0x0A0000) → s.reg o = regReset o) :
    s.tilesReached c lo hi = false := by
  have a : ∀ n, n < 1024 → s.rbit (rFabCsetW0 n) 31 = false := by
    intro n h
    unfold State.rbit
    rw [h5 _ (by unfold rFabCsetW0; omega), regReset_zero (lo := 0x064000) (hi := 0x068000) (by unfold rFabCsetW0; omega)
      (by unfold rFabCsetW0; omega) (by decide +kernel)]
    rfl
  have b : ∀ e n, e < 32 → n < 64 → (s.dld e n).en = false := by
    intro e n h h'
    show bit (s.reg (rEngDldW0 e n)) 31 = false
    rw [h5 _ (by unfold rEngDldW0; omega), regReset_zero (lo := 0x080000) (hi := 0x0A0000) (by unfold rEngDldW0; omega)
      (by unfold rEngDldW0; omega) (by decide +kernel)]
    rfl
  have d : ∀ e, s.enabledEntries e = [] := by
    intro e
    unfold State.enabledEntries State.engine
    rw [h1]
    simp only [SMap.get_nil]
    decide +kernel
  unfold State.tilesReached
  rw [h2, h3, h4]
  simp only [List.any_nil, Bool.or_false, d, Bool.false_or]
  rw [Bool.or_eq_false_iff]
  constructor
  · rw [List.any_eq_false]
    intro e he
    rw [Bool.not_eq_true, List.any_eq_false]
    intro n hn
    simp [b e n (List.mem_range.mp he) (List.mem_range.mp hn)]
  · rw [List.any_eq_false]
    intro n hn
    simp [a n (List.mem_range.mp hn)]

theorem test_hyps_InvariantIsKept : State.reset.inv := by unfold State.inv; decide +kernel

/-- For the statements about every step or every command: a state and a command that answer. -/
theorem test_hyps_steps : Memory.wf State.reset = true ∧ State.reset.pending = [] ∧
    (∃ t, step { State.reset with pending := [.refclkReturn] } = .next t) ∧ (∃ t, exec .refclkReturn State.reset = .next t) :=
  ⟨by decide +kernel, rfl, ⟨_, rfl⟩, ⟨_, rfl⟩⟩

theorem test_hyps_RegisterAccess :
    (-- registerAccess_awake
      let s : State := idle0
      s.tap.held = false ∧ s.rbit rTopPcieStat 16 = false) ∧
    (-- registerAccess_awake2
      let s : State := (idle0.setReg (rClkPllStat 0) 0xFFFFFFFF).setReg rTopRlfTimeHi 7
      s.tap.held = false ∧ s.rbit rTopPcieStat 16 = false) ∧
    (-- registerAccess_dark
      let s : State := idle0.setFld rPwrIslStat 0 2 2
      s.dark 0x083FFC = some 0) ∧
    (-- registerAccess_unaligned
      let s : State := idle0
      s.dark 0x3FFFFF = none ∧ 0x3FFFFF % 4 ≠ 0) :=
  ⟨by decide +kernel, by decide +kernel, by decide +kernel, by decide +kernel⟩

theorem test_hyps_FabricGrants :
    (-- fabric_decide
      let r : BankReq := { cls := 2, master := 40, arrival := 0, addr := 0, cycles := 2, kind := .other false }
      let s : State := { idle0 with fab := { idle0.fab with banks := [(63, { reqs := [r], busyUntil := 8 })] } }
      (s.bank 63).decided = none ∧ (s.bank 63).busyUntil ≤ s.now + 8) ∧
    (-- fabric_grant
      let r : BankReq := { cls := 2, master := 40, arrival := 0, addr := 0, cycles := 2, kind := .other false }
      let s : State := { idle0 with fab := { idle0.fab with banks := [(63, { reqs := [r], decided := some (r, true), credits := 6 })] } }
      (s.bank 63).decided = some (r, true) ∧ (s.bank 63).busyUntil ≤ s.now) ∧
    (-- crossing_raw
      let s : State := { idle0 with fab := { idle0.fab with xings := [(xKey 0 25, [.raw 5, .raw 6])] } }
      s.xing (xKey 0 25) = [.raw 5, .raw 6] ∧ s.clockStopped 0 = false ∧ s.clockStopped 25 = false) ∧
    (-- crossing_far
      let r : BankReq := { cls := 0, master := 1, arrival := 0, addr := 0x4000, cycles := 2, kind := .other false }
      let s : State := { idle0 with now := 9, fab := { idle0.fab with xings := [(xKey 0 11, [.far r])] } }
      s.xing (xKey 0 11) = ([.far r] : List XWord) ∧ s.clockStopped 0 = false ∧ s.clockStopped 11 = false) ∧
    (-- crossing_stopped
      let s : State := { idle0 with fab := { idle0.fab with stopped := [25] } }
      (s.clockStopped 0 || s.clockStopped 25) = true) ∧
    (-- outboundPort
      let r : OutReq := { cls := 3, master := 96, arrival := 0, tlp := .write 0 0x1000 [1, 2] 0 }
      let s : State := ({ idle0 with pcie := { idle0.pcie with fns := [(0, { bme := true })] }, fab := { idle0.fab with outq := [r] } }).setBit rTopPcieStat 7 true
      outChoose s.fab.outRun (s.fab.outq.filter s.mayGo) = some r) :=
  ⟨by decide +kernel, by decide +kernel, by decide +kernel, by decide +kernel, by decide +kernel, by decide +kernel⟩

theorem test_hyps_Ticks :
    (-- ticks_run
      let s : State := run0
      s.mode.runPend = false ∧ s.mode.baseRun = true ∧ s.tick.idleAtEnd = false ∧ s.minPath = false) ∧
    (-- ticks_epoch
      let s : State := { idle0.setFld (rClkTickCtrl 0) 0 4 0 with now := 77, mode := { started := true, baseRun := true, runPend := true } }
      s.mode.runPend = true ∧ s.rfld (rClkTickCtrl 0) 0 4 ≠ 9) ∧
    (-- ticks_stop
      let s : State := { run0 with tick := { run0.tick with idleAtEnd := true } }
      s.mode.runPend = false ∧ s.mode.baseRun = true ∧ s.tick.idleAtEnd = true) ∧
    (-- ticks_none
      let s : State := idle0
      s.mode.runPend = false ∧ s.mode.baseRun = false) ∧
    (-- k0_lost
      let s : State := { run0 with clk := { lostNew := true } }
      s.keeperRuns = true ∧ s.mode.baseRun = true ∧ s.mode.runPend = false ∧ s.curSrc 0 ≠ 0xA ∧ s.clk.lostNew = true ∧
      s.rbit rClkHoldStat 0 = false ∧ s.ngx.rejoin = false) ∧
    (-- k0_none
      let s : State := { idle0 with keep := { halted := true } }
      s.keeperRuns = false) :=
  ⟨by decide +kernel, by decide +kernel, by decide +kernel, by decide +kernel, by decide +kernel, by decide +kernel⟩

theorem test_hyps_TickSources :
    (-- tickSources_sidx
      let s : State := run0
      s.d0Running = true ∧ s.mode.started = true ∧ s.mode.runPend = false) ∧
    (-- tickSources_ctrl0
      let s : State := idle0
      let v : BitVec 32 := 0x00000018
      s.modeCode = 5 ∧ fld v 4 3 ≠ 3 ∧ fld v 4 3 ≠ 7 ∧ s.srcOk 0 (fld v 0 4) (fld v 4 3) = true) ∧
    (-- tickSources_reject
      let s : State := run0
      let v : BitVec 32 := 0x00000020
      s.modeCode ≠ 5 ∧ fld v 4 3 ≠ s.rfld (rClkTickCtrl 0) 4 3) ∧
    (-- tickSources_ctrl2
      let s : State := idle0
      let v : BitVec 32 := 0x0000B50B
      (2 : Fin 3) ≠ 0 ∧ s.modeCode = 5 ∧ fld v 8 3 ≤ 5 ∧ fld v 12 4 < divOf (fld v 8 3) ∧ s.srcOk 2 (fld v 0 4) 0 = true) ∧
    (-- tickSources_ctrl1
      let s : State := idle0.setFld (rClkTickStat 1) 0 4 0xB
      let v : BitVec 32 := 0x8000150B
      (1 : Fin 3) ≠ 0 ∧ s.modeCode = 5 ∧ fld v 8 3 ≤ 5 ∧ fld v 12 4 < divOf (fld v 8 3) ∧ s.srcOk 1 (fld v 0 4) 0 = true ∧
      s.curSrc 1 = 0xB) ∧
    (-- tickSources_lost
      let s : State := { run0 with now := 38400 }
      s.d0Running = true ∧ s.mode.runPend = false ∧ s.rbit (rClkTickStat 0) 5 = false ∧
      3 * 1228800000 ≤ 2 * (s.now - max s.tick.gen.lastUsed s.tick.gen.applied) * s.srcHz (s.curSrc 0)) ∧
    (-- tickSources_event
      let s : State := (run0.setFld (rClkPllStat 0) 0 2 2).setFld (rClkTickStat 0) 0 4 0
      s.rfld (rClkPllStat 0) 0 2 ≠ 0 ∧ s.d0Running = true ∧ s.mode.runPend = false ∧ s.curSrc 0 = 0 ∧ s.tick.gen.firstEv = true) ∧
    (-- tickSources_event2
      let s : State := ((run0.setFld (rClkPllStat 1) 0 2 1).setFld (rClkTickStat 0) 0 4 1).setBit (rClkTickStat 0) 5 true
      s.rfld (rClkPllStat 1) 0 2 ≠ 0 ∧ s.d0Running = true ∧ s.mode.runPend = false ∧ s.curSrc 0 = 1 ∧ s.tick.gen.firstEv = true) ∧
    (-- tickSources_dm
      let s : State := { (run0.setBit (rClkTickCtrl 1) 31 true).setFld (rClkTickStat 1) 0 4 2 with tick := { run0.tick with d1 := { last := some 4 } } }
      s.domRuns 1 = true ∧ s.curSrc 1 ≠ 0xB ∧ (s.dom 1).last = some 4 ∧
      s.tick.gen.period < 2 * ((s.tick.sidx - 4) * s.tick.gen.period + (s.now - s.tick.gen.lastTick) : Nat)) ∧
    (-- tickSources_dm2
      let s : State := { (run0.setBit (rClkTickCtrl 2) 31 true).setFld (rClkTickStat 2) 0 4 3 with now := 14000, tick := { run0.tick with d2 := { last := some 5 } } }
      s.domRuns 2 = true ∧ s.curSrc 2 ≠ 0xB ∧ (s.dom 2).last = some 5 ∧ 2 * (14000 : Nat) ≤ s.domDiv 2 * s.tick.gen.period ∧
      s.tick.gen.period < 2 * 14000 ∧ s.now - s.tick.gen.lastTick = 14000) :=
  ⟨by decide +kernel, by decide +kernel, by decide +kernel, by decide +kernel, by decide +kernel, by decide +kernel, by decide +kernel, by decide +kernel, by decide +kernel, by decide +kernel⟩

theorem test_hyps_TicksAtEngines :
    (-- tickReceipt_idle
      let k : TickInfo := { six := 7, dfl := 1, tc1 := 3, tc2 := 2 }
      let s : State := State.reset.modEngine 31 fun x => { x with offered := some k, stab := [(0, 0x80000000#32)] }
      let x := s.engine 31
      x.offered = some k ∧ x.heldStore = none ∧ x.swapPb = [] ∧ x.swapSt = [] ∧ x.phase = .idle) ∧
    (-- tickReceipt_held
      let k : TickInfo := { six := 7, dfl := 1, tc1 := 3, tc2 := 2 }
      let s : State := State.reset.modEngine 0 fun x => { x with offered := some k, phase := .run 2, heldStore := some [] }
      let x := s.engine 0
      x.offered = some k ∧ x.heldStore ≠ none) ∧
    (-- tickReceipt_run
      let k : TickInfo := { six := 7, dfl := 1, tc1 := 3, tc2 := 2 }
      let s : State := State.reset.modEngine 0 fun x => { x with offered := some k, phase := .run 31, tickCyc := 900, stab := [(31*8, 0x80000000#32), (31*8+1, 1000#32)] }
      let x := s.engine 0
      x.offered = some k ∧ x.heldStore = none ∧ x.phase = .run 31 ∧ 31 < 32) ∧
    (-- dldW0
      let s : State := State.reset
      s.dark (rEngDldW0 31 63) = none) ∧
    (-- swapBits
      let s : State := State.reset
      s.dark (rEngProgCtrl 31) = none) :=
  ⟨by decide +kernel, by decide +kernel, by decide +kernel, by decide +kernel, by decide +kernel⟩

theorem test_hyps_EngineControl :
    (-- nop
      (segAt (word 0 [])).poised 0 0x00 false (word 0 []) ∧ (tailAt (word 0 [])).poised 0 0x00 true (word 0 [])) ∧
    (-- rpt
      (tailAt (word 1 [(3, 0)])).poised 0 0x01 true (word 1 [(3, 0)])) ∧
    (-- endTail
      (tailAt (word 2 [])).poised 0 0x02 true (word 2 [])) ∧
    (-- flgc
      (tailAt (word 0x34 [(31, 40)])).poised 0 0x34 true (word 0x34 [(31, 40)])) ∧
    (-- br
      (tailAt (word 0x38 [(0, 52), (16383, 0)])).poised 0 0x38 true (word 0x38 [(0, 52), (16383, 0)]) ∧
      fld (word 0x38 [(0, 52), (16383, 0)]) 52 3 = 0) ∧
    (-- br_rest
      ∀ c : Fin 6, (tailAt (word 0x38 [(c + 1, 52), (5, 0)])).poised 0 0x38 true (word 0x38 [(c + 1, 52), (5, 0)]) ∧
      fld (word 0x38 [(c + 1, 52), (5, 0)]) 52 3 = c + 1) ∧
    (-- dbnz
      (tailAt (word 0x39 [(7, 49)])).poised 0 0x39 true (word 0x39 [(7, 49)])) ∧
    (-- endTick
      let w := word 2 []
      let s : State := (segAt w).modEngine 0 fun x => { x with stab := x.stab ++ [(256, 0x80000000#32)] }
      s.poised 0 0x02 false w) :=
  ⟨by unfold State.poised; decide +kernel, by unfold State.poised; decide +kernel, by unfold State.poised; decide +kernel, by unfold State.poised; decide +kernel, by unfold State.poised; decide +kernel, by unfold State.poised; decide +kernel, by unfold State.poised; decide +kernel, by unfold State.poised; decide +kernel⟩

theorem test_hyps_EngineResultsNextCycle :
    (-- gop
      ∀ o : Fin 11, (tailAt (word 0x30 [(7, 52), (o, 42)])).poised 0 0x30 true (word 0x30 [(7, 52), (o, 42)])) ∧
    (-- ldi
      ∀ o : Fin 5, (tailAt (word 0x31 [(o, 52), (7, 49)])).poised 0 0x31 true (word 0x31 [(o, 52), (7, 49)]) ∧
      fld (word 0x31 [(o, 52), (7, 49)]) 52 3 = o) ∧
    (-- mvs
      (tailAt (word 0x32 [(7, 51)])).poised 0 0x32 true (word 0x32 [(7, 51)])) ∧
    (-- aadr
      (tailAt (word 0x33 [(7, 52)])).poised 0 0x33 true (word 0x33 [(7, 52)])) ∧
    (-- pcmp
      (tailAt (word 0x24 [(3, 53)])).poised 0 0x24 true (word 0x24 [(3, 53)])) ∧
    (-- pset
      ∀ o : Fin 7, (tailAt (word 0x25 [(o, 45)])).poised 0 0x25 true (word 0x25 [(o, 45)]) ∧ fld (word 0x25 [(o, 45)]) 45 4 = o) ∧
    (-- sel
      (tailAt (word 0x22 [(7, 52)])).poised 0 0x22 true (word 0x22 [(7, 52)])) ∧
    (-- qxf
      ∀ o : Fin 6, (tailAt (word 0x21 [(o, 42), (7, 52)])).poised 0 0x21 true (word 0x21 [(o, 42), (7, 52)]) ∧
      fld (word 0x21 [(o, 42), (7, 52)]) 42 4 = o) :=
  ⟨by unfold State.poised; decide +kernel, by unfold State.poised; decide +kernel, by unfold State.poised; decide +kernel, by unfold State.poised; decide +kernel, by unfold State.poised; decide +kernel, by unfold State.poised; decide +kernel, by unfold State.poised; decide +kernel, by unfold State.poised; decide +kernel⟩

theorem test_hyps_EngineResultsInFlight :
    (-- mac
      let w := word 0x10 [(3, 49), (7, 44), (16, 31)]
      let s : State := tailAt w
      s.poised 0 0x10 true w ∧ (s.opnd 0 true (fld w 36 13) (bit w 22)).fault = 0 ∧ (s.opnd 0 true (fld w 23 13) (bit w 21)).fault = 0) ∧
    (-- tap4
      let w := word 0x11 [(1, 48), (1, 35)]
      let s : State := tailAt w
      let b := (s.engine 0).bank true
      s.poised 0 0x11 true w ∧ (nearAddr (s.engine 0) b (fld w 45 3) (fld w 37 8) true).fault = 0 ∧
      (s.opnd 0 true (fld w 21 13) (bit w 20)).fault = 0 ∧
      (s.engine 0).lmOk (tapMove (if (b.rl 0).toNat / 4 = 0 then (b.ra 0).toNat else quadWord (b.ra 0) (b.rb 0) (b.rl 0) 0) (b.rb 0) (b.rl 0) 1 % 65536) = true) ∧
    (-- aacc
      (tailAt (word 0x1E [(3, 51)])).poised 0 0x1E true (word 0x1E [(3, 51)])) ∧
    (-- lda
      (tailAt (word 0x1C [(3, 50)])).poised 0 0x1C true (word 0x1C [(3, 50)])) ∧
    (-- araw
      (tailAt (word 0x1D [(1, 54)])).poised 0 0x1D true (word 0x1D [(1, 54)]) ∧
      (tailAt (word 0x1D [(0, 54)])).poised 0 0x1D true (word 0x1D [(0, 54)])) ∧
    (-- mova
      (tailAt (word 0x18 [(7, 52)])).poised 0 0x18 true (word 0x18 [(7, 52)])) ∧
    (-- moval
      (tailAt (word 0x19 [(7, 52)])).poised 0 0x19 true (word 0x19 [(7, 52)])) ∧
    (-- qop
      (tailAt (word 0x20 [(7, 52)])).poised 0 0x20 true (word 0x20 [(7, 52)])) ∧
    (-- chr
      let w := word 0x29 [(0, 44)]
      let s : State := segAt w
      s.poised 0 0x29 false w ∧ fld ((s.engine 0).segWord true (s.engine 0).entry 3) 16 8 ≤ fld w 44 8 ∧
      fld w 44 8 ≤ fld ((s.engine 0).segWord true (s.engine 0).entry 3) 24 8) ∧
    (-- ldq
      let w := word 0x2C [(7, 52)]
      let s : State := tailAt w
      s.poised 0 0x2C true w ∧ (s.nearOp 0 true true w).fault = 0) ∧
    (-- ldg
      let w := word 0x2D [(7, 52)]
      let s : State := tailAt w
      s.poised 0 0x2D true w ∧ (s.nearOp 0 true false w).fault = 0) :=
  ⟨by unfold State.poised; decide +kernel, by unfold State.poised; decide +kernel, by unfold State.poised; decide +kernel, by unfold State.poised; decide +kernel, by unfold State.poised; decide +kernel, by unfold State.poised; decide +kernel, by unfold State.poised; decide +kernel, by unfold State.poised; decide +kernel, by unfold State.poised; decide +kernel, by unfold State.poised; decide +kernel, by unfold State.poised; decide +kernel⟩

theorem test_hyps_EngineStores :
    (-- movst
      let w := word 0x1A []
      let s : State := tailAt w
      s.poised 0 0x1A true w ∧ (s.nearOp 0 true true w).fault = 0) ∧
    (-- stq
      let w := word 0x2E []
      let s : State := tailAt w
      s.poised 0 0x2E true w ∧ (s.nearOp 0 true true w).fault = 0) ∧
    (-- stg
      let w := word 0x2F []
      let s : State := tailAt w
      s.poised 0 0x2F true w ∧ (s.nearOp 0 true false w).fault = 0) ∧
    (-- chw
      let w := word 0x28 [(0, 44)]
      let s : State := segAt w
      s.poised 0 0x28 false w ∧ fld ((s.engine 0).segWord true (s.engine 0).entry 3) 0 8 ≤ fld w 44 8 ∧
      fld w 44 8 ≤ fld ((s.engine 0).segWord true (s.engine 0).entry 3) 8 8 ∧ fld w 44 8 ≤ 191 ∧ ((s.engine 0).bank false).guard w ≠ 0) :=
  ⟨by unfold State.poised; decide +kernel, by unfold State.poised; decide +kernel, by unfold State.poised; decide +kernel, by unfold State.poised; decide +kernel⟩

theorem test_hyps_EngineFarAccesses :
    (-- fld
      let w := word 0x3A [(3, 52)]
      let s : State := tailAt w
      s.poised 0 0x3A true w ∧ (s.farOp 0 true true false w).fault = 0) ∧
    (-- fldw
      let w := word 0x3B [(3, 52)]
      let s : State := tailAt w
      s.poised 0 0x3B true w ∧ (s.farOp 0 true false false w).fault = 0) ∧
    (-- fst
      let w := word 0x3C []
      let s : State := tailAt w
      s.poised 0 0x3C true w ∧ (s.farOp 0 true true true w).fault = 0) ∧
    (-- fstw
      let w := word 0x3D []
      let s : State := tailAt w
      s.poised 0 0x3D true w ∧ (s.farOp 0 true false true w).fault = 0) ∧
    (-- movf
      let w := word 0x1B []
      let s : State := tailAt w
      s.poised 0 0x1B true w ∧ (s.farOp 0 true true true w).fault = 0) :=
  ⟨by unfold State.poised; decide +kernel, by unfold State.poised; decide +kernel, by unfold State.poised; decide +kernel, by unfold State.poised; decide +kernel, by unfold State.poised; decide +kernel⟩

theorem test_hyps_EngineCycles :
    (-- wqRetire
      let p : Pend := ⟨true, 1, .flg 1⟩
      let q : WqEntry := ⟨0, 15, ⟨1, 2, 3, 4⟩⟩
      let s : State := State.reset.modEngine 5 fun x => { x with wq := [q, q, q], inflight := [p, { p with left := 2 }] }
      let x := s.engine 5
      x.running = none ∧ x.heldStore = none) ∧
    (-- farReturn
      let p : FarPiece := ⟨0, [(0, 0)], []⟩
      let r : FarReturn := ⟨3, p, [(0, 77)], false, false⟩
      let l : FarLoad := { id := 3, tail := false, fr := 2, mask := 1, left := [p] }
      let s : State := State.reset.modEngine 5 fun x => { x with farRet := [r], farLoads := [l] }
      let x := s.engine 5
      x.farRet = [r] ∧ x.farLoads = [l] ∧ r.load = l.id ∧ l.left = [r.piece] ∧ l.poison = false ∧ r.poison = false ∧ l.late = false ∧
      r.late = false) ∧
    (-- illegalWord
      let s : State := tailAt (word 0x3F [])
      (s.engine 0).running = some true ∧ (s.fetch 0 true).2 ≠ 0) :=
  ⟨by decide +kernel, by decide +kernel, by decide +kernel⟩

theorem test_hyps_EnginesAreSeparate :
    (-- enginesSeparate
      (1 : Nat) ≠ (0 : Fin 32).val) := by decide +kernel

theorem test_hyps_Segments :
    (-- segEnter
      let s : State := State.reset.modEngine 0 fun x => { x with phase := .enter 3, stab := [(24, 0x80000005#32), (25, 100#32), (26, 0x20#32)] }
      (s.engine 0).phase = .enter 3 ∧ (s.engine 0).inflight = [] ∧ (s.engine 0).frameOf = none) ∧
    (-- segEnter_saved
      let s : State := State.reset.modEngine 0 fun x => { x with phase := .enter 3, needInit := 0, frameOf := some 1, tick := { flg := 1#5 }, stab := [(24, 0x80000005#32)] }
      (s.engine 0).phase = .enter 3 ∧ (s.engine 0).inflight = [] ∧ (s.engine 0).frameOf = some 1) ∧
    (-- budget_not_yet
      let s : State := State.reset.modEngine 0 fun x => { x with phase := .run 31, stab := [(249, 100#32)], elapsed := 99 }
      (s.engine 0).phase = .run 31 ∧ (s.engine 0).elapsed < fld ((s.engine 0).segWord true 31 1) 0 16) ∧
    (-- budget_held
      let s : State := State.reset.modEngine 0 fun x => { x with phase := .run 31, stab := [(249, 100#32)], elapsed := 100, heldStore := some [] }
      (s.engine 0).phase = .run 31 ∧ fld ((s.engine 0).segWord true 31 1) 0 16 ≤ (s.engine 0).elapsed ∧ (s.engine 0).heldStore ≠ none) ∧
    (-- budget_cut
      let s : State := State.reset.modEngine 0 fun x => { x with phase := .run 0, stab := [(1, 100#32)], elapsed := 100 }
      (s.engine 0).phase = .run 0 ∧ fld ((s.engine 0).segWord true 0 1) 0 16 ≤ (s.engine 0).elapsed ∧ (s.engine 0).heldStore = none) ∧
    (-- farTaken_no
      let f : FarEntry := ⟨0, 0, 0, 0⟩
      let s : State := State.reset.modEngine 0 fun x => { x with fsq := [f, f, f, f], heldStore := some [f] }
      (s.engine 0).heldStore = some [f] ∧ 4 < (s.engine 0).fsq.length + 1) ∧
    (-- farTaken
      let f : FarEntry := ⟨0, 0, 0, 0⟩
      let s : State := State.reset.modEngine 0 fun x => { x with fsq := [f, f, f], heldStore := some [f] }
      (s.engine 0).heldStore = some [f] ∧ (s.engine 0).fsq.length + 1 ≤ 4 ∧ (s.engine 0).pendTick = none ∧
      (s.engine 0).cutPending = false) :=
  ⟨by decide +kernel, by decide +kernel, by decide +kernel, by decide +kernel, by decide +kernel, by decide +kernel, by decide +kernel⟩

theorem test_hyps_ProgramImages :
    (-- progLoad_bad
      let d := desc tProgLoad 0 [(24, 16384), (26, 1)]
      let s : State := withDesc idle0 d
      s.ready 5 9 tProgLoad = some d ∧ 16384 < d.num 26 2 + d.num 24 2) ∧
    (-- progLoad_busy
      let d := desc tProgLoad 31 [(24, 1), (26, 16383)]
      let s : State := withDesc idle0 d
      s.ready 5 9 tProgLoad = some d ∧ d.extra / 32 % 8 = 0 ∧ d.extra / 512 = 0 ∧ d.onlyUses [(16, 22)] = true ∧ 1 ≤ d.num 24 2 ∧
      d.num 26 2 + d.num 24 2 ≤ 16384 ∧ d.num 36 1 < 64 ∧ d.num 36 1 + d.num 37 1 ≤ 64 ∧ windowOk (d.num 16 8) 8 = true ∧
      windowOk (d.num 28 8) 0 = true ∧ s.islandGone 7 = false ∧ (d.extra / 256 % 2 == 1) = s.actBank 31) ∧
    (-- progLoad_dma
      let d := desc tProgLoad (256 + 31) [(24, 1), (26, 16383)]
      let s : State := withDesc idle0 d
      s.ready 5 9 tProgLoad = some d ∧ d.onlyUses [(16, 22)] = true ∧ (d.extra / 256 % 2 == 1) ≠ s.actBank 31 ∧ (s.engine 31).swapPb = []) ∧
    (-- progLoad_ok
      let d := desc tProgLoad (256 + 31) [(24, 1), (26, 16383), (36, 63), (37, 1)]
      let s : State := { withDesc idle0 d with res := [(resKey 2 31 63, some 5)] }
      s.ready 5 9 tProgLoad = some d ∧ d.onlyUses [(16, 22)] = true ∧ (s.engine 31).swapPb = [] ∧ s.imageOk 31 true 16383 [0] = true ∧
      s.resOwner 2 31 63 = some 5 ∧ s.dldHeld 5 31 (dldOf (dldImg 0 0) (dldImg 0 1) (dldImg 0 2)) = true) ∧
    (-- segMap_bad
      let d := desc tSegMap 0 [(28, 4)]
      let s : State := withDesc idle0 d
      s.ready 5 9 tSegMap = some d ∧ 4 ≤ d.num 28 1) ∧
    (-- segMap_ok
      let d := desc tSegMap 31 [(24, 0x80000000), (28, 1)]
      let s : State := { withDesc idle0 d with res := [(resKey 3 31 31, some 5), (resKey 3 31 32, some 5)] }
      let imgs : List (BitVec 256) := (List.range 33).map fun i => BitVec.ofNat 256 (if i = 31 then 1 else 0)
      s.ready 5 9 tSegMap = some d ∧ d.num 28 1 < 2 ∧ d.onlyUses [(16, 13), (32, 18)] = true ∧ d.num 48 2 = 0 ∧
      windowOk (d.num 16 8) 1056 = true ∧ windowOk (d.num 32 8) 64 = true ∧ windowOk (d.num 40 8) 0 = true ∧ s.islandGone 7 = false ∧
      imgs.length = 33 ∧ s.resOwner 3 31 31 = some 5 ∧ s.resOwner 3 31 32 = some 5 ∧
      entryReserved 31 (fun n => (imgs.getD 31 0).extractLsb' (32 * n) 32) = false ∧
      s.tableOk 31 (fun i n => (imgs.getD i 0).extractLsb' (32 * n) 32) (s.actBank 31) = true) ∧
    (-- progSwap_bad
      let d := desc tProgSwap 0 [(16, 1)]
      let s : State := withDesc idle0 d
      s.ready 5 9 tProgSwap = some d ∧ d.group = none ∧ d.num 20 1 = 0) ∧
    (-- progSwap_ok
      let d := desc tProgSwap 0 [(16, 0x80000000), (20, 3)]
      let s : State := withDesc idle0 d
      s.ready 5 9 tProgSwap = some d ∧ d.group = none ∧ d.onlyUses [(16, 5)] = true ∧ d.groupOk = true ∧ d.num 16 4 ≠ 0 ∧
      1 ≤ d.num 20 1 ∧ d.num 20 1 < 4) :=
  ⟨by decide +kernel, by decide +kernel, by decide +kernel, by decide +kernel, by decide +kernel, by decide +kernel, by decide +kernel, by decide +kernel⟩

theorem test_hyps_Queries :
    (-- query_bad
      let d := desc tQuery 4 [(16, 0)]
      let s : State := withDesc idle0 d
      s.ready 5 9 tQuery = some d ∧ 4 ≤ d.extra) ∧
    (-- query_fault
      let d := desc tQuery 0 [(16, 0x10000)]
      let s : State := withDesc idle0 d
      s.ready 5 9 tQuery = some d ∧ d.onlyUses [(16, 10)] = true ∧ windowOk (d.num 16 8) 256 = true ∧ d.extra = 0 ∧ d.num 24 2 = 0 ∧
      (s.translateRange 5 (d.num 16 8) 256 true 3).1 = some none) ∧
    (-- query_wait
      let d := desc tQuery 0 [(16, 0x20000)]
      let s : State := linked (withPage (withDesc idle0 d))
      s.ready 5 9 tQuery = some d ∧ d.onlyUses [(16, 10)] = true ∧ windowOk (d.num 16 8) 256 = true ∧
      (s.translateRange 5 (d.num 16 8) 256 true 3).1 = none) ∧
    (-- query_context
      let d := desc tQuery 0 [(16, 0x10000)]
      let s : State := linked (withPage (withDesc idle0 d))
      s.ready 5 9 tQuery = some d ∧ d.onlyUses [(16, 10)] = true ∧ windowOk (d.num 16 8) 256 = true ∧ d.num 24 2 = 0 ∧
      (s.translateRange 5 (d.num 16 8) 256 true 3).1 = some (some [(0x70000, 0, 256, false)])) ∧
    (-- query_groups
      let d := desc tQuery 1 [(16, 0x10000), (24, 63)]
      let s : State := (linked (withPage (withDesc idle0 d))).setReg (rFabCgCtrl 63) 0x80000005
      s.ready 5 9 tQuery = some d ∧ d.onlyUses [(16, 10)] = true ∧ windowOk (d.num 16 8) 256 = true ∧ d.num 24 2 ≤ 63 ∧
      (s.translateRange 5 (d.num 16 8) 256 true 3).1 = some (some [(0x70000, 0, 256, false)])) ∧
    (-- query_segments
      let d := desc tQuery 2 [(16, 0x10000), (24, 1023)]
      let s : State := (linked (withPage (withDesc idle0 d))).modEngine 31 fun x => { x with stab := [(31 * 8, 0x00050000#32)] }
      s.ready 5 9 tQuery = some d ∧ d.onlyUses [(16, 10)] = true ∧ d.num 24 2 ≤ 1023 ∧
      (s.translateRange 5 (d.num 16 8) 256 true 3).1 = some (some [(0x70000, 0, 256, false)])) ∧
    (-- query_lines
      let d := desc tQuery 3 [(16, 0x10000), (24, 4095)]
      let s0 : State := linked (withPage (withDesc idle0 d))
      let s : State := { s0 with cal := { s0.cal with lines := [(4095, { mapped := true, owner := 5 })] } }
      s.ready 5 9 tQuery = some d ∧ d.onlyUses [(16, 10)] = true ∧ d.num 24 2 ≤ 4095 ∧
      (s.translateRange 5 (d.num 16 8) 256 true 3).1 = some (some [(0x70000, 0, 256, false)])) :=
  ⟨by decide +kernel, by decide +kernel, by decide +kernel, by decide +kernel, by decide +kernel, by decide +kernel, by decide +kernel⟩

theorem test_hyps_Assignments :
    (-- resAssign
      let s : State := (idle0.setReg rFabResCmd (BitVec.ofNat 32 (511 + 1 * 2^9 + 1 * 2^12 + 31 * 2^16 + 2^29))).setReg rFabResRange 0x00FF00FF
      let cmd := s.reg rFabResCmd
      bit cmd 29 = true ∧ fld cmd 9 2 = 1 ∧ s.rfld rFabResRange 0 16 ≤ s.rfld rFabResRange 16 16 ∧
      s.rfld rFabResRange 16 16 < resCount (fld cmd 12 3) ∧ fld cmd 12 3 < 4 ∧ s.resOwner 1 31 255 = none) ∧
    (-- resAssign_rej
      let s : State := (idle0.setReg rFabResCmd (BitVec.ofNat 32 (511 + 1 * 2^9 + 1 * 2^12 + 31 * 2^16 + 2^29))).setReg rFabResRange 0x010000FF
      bit (s.reg rFabResCmd) 29 = true ∧ fld (s.reg rFabResCmd) 9 2 = 1 ∧
      resCount (fld (s.reg rFabResCmd) 12 3) ≤ s.rfld rFabResRange 16 16) ∧
    (-- resRelease
      let s : State := { (idle0.setReg rFabResCmd (BitVec.ofNat 32 (5 + 2 * 2^9 + 5 * 2^12 + 2^29))).setReg rFabResRange 0x03FF03FF with res := [(resKey 5 0 1023, some 5)] }
      let cmd := s.reg rFabResCmd
      bit cmd 29 = true ∧ fld cmd 9 2 = 2 ∧ s.rfld rFabResRange 0 16 = 1023 ∧ s.rfld rFabResRange 16 16 = 1023 ∧
      1023 < resCount (fld cmd 12 3) ∧ fld cmd 12 3 = 5 ∧ fld cmd 16 5 = 0 ∧ s.resOwner 5 0 1023 = some 5 ∧ s.resUsed 5 0 1023 = false) ∧
    (-- resRelease_rej
      let s : State := (idle0.setReg rFabResCmd (BitVec.ofNat 32 (5 + 2 * 2^9 + 5 * 2^12 + 2^29))).setReg rFabResRange 0x03FF03FF
      bit (s.reg rFabResCmd) 29 = true ∧ fld (s.reg rFabResCmd) 9 2 = 2 ∧ s.resOwner 5 0 1023 ≠ some 5) ∧
    (-- tileAssign
      let s : State := (idle0.setReg rCaldTileCmd (BitVec.ofNat 32 (5 + 1 * 2^9 + 2^29))).setReg rCaldTileRange 0x10001000
      let cmd := s.reg rCaldTileCmd
      bit cmd 29 = true ∧ fld cmd 9 2 = 1 ∧ s.rfld rCaldTileRange 0 14 = 4096 ∧ s.rfld rCaldTileRange 16 14 = 4096 ∧ (s.tile 4096).1 = 0) ∧
    (-- tileAssign_rej
      let s : State := (idle0.setReg rCaldTileCmd (BitVec.ofNat 32 (5 + 1 * 2^9 + 2^29))).setReg rCaldTileRange 0x0FFF1000
      bit (s.reg rCaldTileCmd) 29 = true ∧ fld (s.reg rCaldTileCmd) 9 2 = 1 ∧ s.rfld rCaldTileRange 16 14 < s.rfld rCaldTileRange 0 14) ∧
    (-- tileRelease
      let s0 : State := { idle0 with cal := { tiles := [(4096, (1, 5))] } }
      let s : State := (s0.setReg rCaldTileCmd (BitVec.ofNat 32 (5 + 2 * 2^9 + 2^29))).setReg rCaldTileRange 0x10001000
      let cmd := s.reg rCaldTileCmd
      (bit cmd 29 = true ∧ fld cmd 9 2 = 2 ∧ s.rfld rCaldTileRange 0 14 = 4096 ∧ s.rfld rCaldTileRange 16 14 = 4096 ∧
      s.tile 4096 = (1, 5)) ∧ s.tilesReached 5 4096 4096 = false) ∧
    (-- tileRelease_rej
      let s : State := (idle0.setReg rCaldTileCmd (BitVec.ofNat 32 (5 + 2 * 2^9 + 2^29))).setReg rCaldTileRange 0x10001000
      bit (s.reg rCaldTileCmd) 29 = true ∧ fld (s.reg rCaldTileCmd) 9 2 = 2 ∧ (s.tile 4096).1 ≠ 1 ∧ (s.tile 4096).1 ≠ 4) :=
  ⟨by decide +kernel, by decide +kernel, by decide +kernel, by decide +kernel, by decide +kernel, by decide +kernel, ⟨by decide +kernel, noTileReached _ _ _ _ rfl rfl rfl rfl (by
    intro o h
    rw [State.reg_setReg_other, State.reg_setReg_other] <;> first | exact rfl | (unfold rCaldTileRange; omega) | (unfold rCaldTileCmd; omega))⟩, by decide +kernel⟩

theorem test_hyps_CoefficientSets :
    (-- cset_rej
      let s : State := idle0.setBit (rFabCsetW0 1023) 31 true
      bit (0x80000000 : BitVec 32) 31 = true ∧ s.rbit (rFabCsetW0 1023) 31 = true) ∧
    (-- cset_off
      bit (0x7FFFFFFF : BitVec 32) 31 = false) ∧
    (-- cbind
      idle0.dark (rEngCbind 31 15) = none) ∧
    (-- coefWrite
      let d := desc tCoefWrite 0 [(16, 1023), (18, 4), (20, 1), (22, 1)]
      let s : State := { ((withDesc idle0 d).setReg (rFabCsetW0 1023) 0x80000000).setReg (rFabCsetW2 1023) 0x50002 with res := [(resKey 5 0 1023, some 5)] }
      s.ready 5 9 tCoefWrite = some d ∧ s.heldBack d = false ∧ s.rbit (rFabCsetW2 1023) 26 = false ∧ s.csetReach 1023 = true ∧
      d.onlyUses [(16, 16)] = true ∧ d.groupOk = true ∧ s.coefOk 5 1023 [4] = true ∧
      s.setGone (s.reg (rFabCsetW0 1023)) (s.reg (rFabCsetW1 1023)) = false ∧ d.num 20 2 + d.num 22 2 ≤ s.csetSize 1023 ∧
      d.group = none ∧ s.stageStatus 5 none (.flip 1023 5 9) = 0) ∧
    (-- coefDelta
      let d := desc tCoefDelta 0 [(16, 1023), (18, 3), (20, 4), (22, 0)]
      let s : State := { (((withDesc idle0 d).setReg (rFabCsetW0 1023) 0x80000000).setReg (rFabCsetW2 1023) 0x50002).setFld (rFabCsetW3 1023) 16 16 3 with res := [(resKey 5 0 1023, some 5)] }
      let l : List (BitVec 192) := [0x50002]
      s.ready 5 9 tCoefDelta = some d ∧ s.heldBack d = false ∧ s.rbit (rFabCsetW2 1023) 26 = false ∧ s.csetReach 1023 = true ∧
      d.onlyUses [(16, 16)] = true ∧ d.groupOk = true ∧ s.coefOk 5 1023 [3, 4] = true ∧
      s.setGone (s.reg (rFabCsetW0 1023)) (s.reg (rFabCsetW1 1023)) = false ∧ d.num 22 2 < 256 ∧ s.shadowGen 1023 = 3 ∧
      l.length = d.num 22 2 + 1 ∧ l.all (deltaOk (s.csetSize 1023)) = true ∧ d.group = none ∧ s.stageStatus 5 none (.flip 1023 5 9) = 0) ∧
    (-- shadowDone
      let d := { desc tCoefWrite 0 [(16, 1023), (18, 4), (20, 1), (22, 1)] with started := true, granted := true, slot := 2 }
      let s : State := (withDesc idle0 d).setReg (rFabCsetW0 1023) 0x80000000
      s.findDesc 5 9 = some d ∧ d.started = true ∧ d.result = none ∧ d.staged = false ∧ d.typ = tCoefWrite ∧ d.num 22 2 < d.slot ∧
      d.group = none) ∧
    (-- shadowGroup
      let d := { desc tCoefDelta (2^15 + 63) [(16, 0), (18, 3), (20, 4), (22, 1)] with started := true, granted := true, slot := 2 }
      let s : State := withDesc idle0 d
      s.findDesc 5 9 = some d ∧ d.started = true ∧ d.result = none ∧ d.staged = false ∧ d.typ = tCoefDelta ∧ d.num 22 2 < d.slot ∧
      d.group ≠ none) ∧
    (-- shadowFail
      let d := { desc tCoefDelta 0 [(16, 0), (18, 3), (20, 4), (22, 1)] with started := true, granted := true, slot := 1 }
      let s : State := withDesc idle0 d
      (2 : Fin 3) ≠ 0 ∧ s.findDesc 5 9 = some d ∧ d.started = true ∧ d.result = none ∧ d.staged = false ∧ d.slot ≠ 0) ∧
    (-- resyncStart
      let s : State := { idle0 with par := { idle0.par with resync := [(1023, { active := true })] } }
      s.freeMover = some 0 ∧ (s.resyncOf 1023).active = true ∧ (s.resyncOf 1023).wait = 0 ∧ (s.resyncOf 1023).copying = false) ∧
    (-- resyncEnd
      let s : State := { idle0.setBit (rFabCsetW2 1023) 26 true with par := { idle0.par with resync := [(1023, { active := true, copying := true })] } }
      (s.resyncOf 1023).copying = true ∧ s.csetReach 1023 = true) :=
  ⟨by decide +kernel, by decide +kernel, by decide +kernel, by decide +kernel, by decide +kernel, by decide +kernel, by decide +kernel, by decide +kernel, by decide +kernel, by decide +kernel⟩

theorem test_hyps_Commits :
    (-- commit
      let d := desc tCommit 63 []
      let s : State := (withDesc idle0 d).setReg (rFabCgCtrl 63) 0x80000005
      s.ready 5 9 tCommit = some d ∧ commitOk d = true ∧ s.ownsGroup 5 63 = true ∧ s.groupBusy 63 = false) ∧
    (-- commit_busy
      let d := desc tCommit 63 []
      let s : State := (withDesc idle0 d).setReg (rFabCgCtrl 63) 0x80002005
      s.ready 5 9 tCommit = some d ∧ commitOk d = true ∧ s.ownsGroup 5 63 = true ∧ s.groupBusy 63 = true) ∧
    (-- commit_bad
      let d := desc tCommit 63 []
      let s : State := withDesc idle0 d
      s.ready 5 9 tCommit = some d ∧ (commitOk d && s.ownsGroup 5 63) = false) ∧
    (-- commitArm
      let d := { desc tCommit (256 + 63) [(16, 50)] with started := true }
      let s1 : State := (withDesc run0 d).setReg (rFabCgCtrl 63) 0x80001005
      let s : State := { s1 with par := { s1.par with groups := [(63, { members := [.gain (.helper 1) 5 0 false 5 8] })] } }
      s.waitingCommit 5 9 0 = some d ∧ s.armBad 63 d = false) ∧
    (-- commitArm_bad
      let d := { desc tCommit 63 [] with started := true }
      let s : State := (withDesc run0 d).setReg (rFabCgCtrl 63) 0x80000005
      s.waitingCommit 5 9 0 = some d ∧ s.armBad 63 d = true) ∧
    (-- commitDiscard
      let d := { desc tCommit (512 + 63) [] with started := true }
      let s1 : State := (withDesc run0 d).setReg (rFabCgCtrl 63) 0x80001005
      let s : State := { s1 with par := { s1.par with groups := [(63, { members := [.gain (.helper 1) 5 0 false 5 8] })] } }
      s.waitingCommit 5 9 1 = some d ∧ (s.group 63).members ≠ []) ∧
    (-- commitDiscard_bad
      let d := { desc tCommit (512 + 63) [] with started := true }
      let s : State := (withDesc run0 d).setReg (rFabCgCtrl 63) 0x80001005
      s.waitingCommit 5 9 1 = some d ∧ (s.group 63).members = []) :=
  ⟨by decide +kernel, by decide +kernel, by decide +kernel, by decide +kernel, by decide +kernel, by decide +kernel, by decide +kernel⟩

theorem test_hyps_SinterAndRepair :
    (-- sinterStart
      let s : State := idle0.setBit rCaldSinterCtrl 0 true
      s.mode.selfTest = false ∧ s.rbit rCaldSinterCtrl 0 = true ∧ s.cal.sinter.active = false ∧ s.cal.sinter.started = false ∧
      s.sinterNext = some (0, false)) ∧
    (-- sinterWait
      let s0 : State := idle0.setBit rCaldSinterCtrl 0 true
      let s : State := { s0 with now := 1023, cal := { s0.cal with sinter := { started := true } } }
      s.mode.selfTest = false ∧ s.rbit rCaldSinterCtrl 0 = true ∧ s.cal.sinter.active = false ∧ s.cal.sinter.started = true ∧
      s.now < s.cal.sinter.lastStart + 1024) ∧
    (-- sinterRestore
      let s : State := { idle0 with cal := { idle0.cal with sinter := { active := true, region := 1, buf := [1, 2, 3] } } }
      s.cal.sinter.active = true) ∧
    (-- sinterRestore_no
      idle0.cal.sinter.active = false) ∧
    (-- lmSinter
      let s : State := { idle0.setBit rCaldSinterCtrl 1 true with tick := { sidx := 255 } }
      s.mode.selfTest = false ∧ s.rbit rCaldSinterCtrl 1 = true ∧ (SMap.get (fun _ => {}) s.cal.lmSinter 31).active = false ∧
      s.islandOff 7 = false ∧ (SMap.get (fun _ => {}) s.cal.lmSinter 31).lastTick + 255 ≤ s.tick.sidx) ∧
    (-- rowRepair_no
      SMap.get (fun _ => false) idle0.cal.failing 65535 = false) ∧
    (-- rowRepair
      let s0 : State := { idle0 with cal := { idle0.cal with failing := [(65535, true)] } }
      let s : State := s0.setFld (rCaldBankStat 63) 0 6 31
      SMap.get (fun _ => false) s.cal.failing 65535 = true ∧ s.rfld (rCaldBankStat 63) 0 6 < 32 ∧
      SMap.get (fun _ => 0) s.cal.spare 65535 = 0) ∧
    (-- protRelocation
      let s0 : State := { idle0 with cal := { idle0.cal with tiles := [(0, (2, 0)), (3, (3, 0))], failing := [(calBankRow 0, true)] } }
      let s : State := s0.setBit (rCaldBankStat (calBank 0)) 6 true
      (s.tile 0).1 = 2 ∧ SMap.get (fun _ => false) s.cal.failing (calBankRow (4096 * 0)) = true ∧
      s.rbit (rCaldBankStat (calBank (4096 * 0))) 6 = true ∧
      (List.range 16384).find? (fun u => (s.tile u).1 == 3 && calBank (4096 * u) != calBank (4096 * 0)) = some 3 ∧
      (List.range 8).find? (fun n => !(s.rbit (rCaldProtRemap n) 31)) = some 0) ∧
    (-- lmRepair_no
      SMap.get (fun _ => false) idle0.cal.lmFailing (1024 * 31 + 1023) = false) ∧
    (-- lmRepair
      let s0 : State := { idle0 with cal := { idle0.cal with lmFailing := [(1024 * 31 + 1023, true)] } }
      let s : State := s0.setFld (rCaldLmr 31) 0 4 7
      SMap.get (fun _ => false) s.cal.lmFailing (1024 * 31 + 1023) = true ∧ s.rfld (rCaldLmr 31) 0 4 < 8 ∧
      SMap.get (fun _ => 0) s.cal.lmSpare (1024 * 31 + 1023) = 0) :=
  ⟨by decide +kernel, by decide +kernel, by decide +kernel, by decide +kernel, by decide +kernel, by decide +kernel, by decide +kernel, by decide +kernel, by decide +kernel, by decide +kernel⟩

theorem test_hyps_MoversAndWindows :
    (-- moverTake
      let s : State := { idle0 with mov := { idle0.mov with copies := [{ ctx := 5, seq := 9, src := 0, dst := 4096, len := 64, srcCal := true, dstCal := true, isCheck := false, check := 0, expect := 0 }] } }
      s.moversHeld = false ∧ s.freeMover = some 0 ∧ s.nextWork.isSome = true) ∧
    (-- moverTake_none
      idle0.nextWork = none) ∧
    (-- moverTake_held
      let s : State := { idle0 with test := { run := some 0x1F } }
      s.moversHeld = true) ∧
    (-- bucketRefill
      let s : State := { idle0.setFld (rDmaCap 511) 16 11 2047 with now := 1228800, mov := { idle0.mov with copyTokens := [(511, 3)] } }
      SMap.wf (fun _ => copyFull) s.mov.copyTokens = true) ∧
    (-- walk_hit
      let s0 : State := (linked idle0).setFld (rCtxtCtrl 511) 0 6 63
      let s : State := { s0 with cal := { s0.cal with roots := [(511, some 0)] }, mov := { s0.mov with walks := [(511, 0xABC0010, 3)] } }
      s.walkOf 511 0xABC = some 0xABC0010 ∧ s.canIssue (s.funcOf 511) = true ∧ s.root 511 ≠ none ∧ walkOutcome 1 1 7 0 = .inr 7 ∧
      s.mov.movers = []) ∧
    (-- walk_fault
      let s0 : State := (linked idle0).setFld (rCtxtCtrl 511) 0 6 63
      let s : State := { s0 with cal := { s0.cal with roots := [(511, some 0)] }, mov := { s0.mov with walks := [(511, 0xABC0010, 3)] } }
      s.walkOf 511 0xABC = some 0xABC0010 ∧ s.canIssue (s.funcOf 511) = true ∧ s.root 511 ≠ none ∧ walkOutcome 1 1 0 0 = .inl (2, 3) ∧
      s.mov.movers = []) ∧
    (-- walk_blocked
      let s : State := { idle0 with mov := { idle0.mov with walks := [(511, 0xABC0010, 3)] } }
      s.walkOf 511 0xABC = some 0xABC0010 ∧ s.canIssue (s.funcOf 511) = false) ∧
    (-- windowRoot
      let d := desc tWindowSet 1 [(16, 32768)]
      let s : State := withPage (withDesc idle0 d)
      s.ready 5 9 tWindowSet = some d ∧ d.onlyUses [(16, 24)] = true ∧ s.moversIssued 5 = true ∧ d.extra = 1 ∧ d.num 16 8 % 32768 = 0) ∧
    (-- windowRoot_bad
      let d := desc tWindowSet 1 [(16, 32767)]
      let s : State := withPage (withDesc idle0 d)
      s.ready 5 9 tWindowSet = some d ∧ d.onlyUses [(16, 24)] = true ∧ s.moversIssued 5 = true ∧ d.extra = 1 ∧ d.num 16 8 % 32768 ≠ 0) ∧
    (-- windowDisable
      let d := desc tWindowSet 2 []
      let s : State := withPage (withDesc idle0 d)
      s.ready 5 9 tWindowSet = some d ∧ d.onlyUses [(16, 24)] = true ∧ s.moversIssued 5 = true ∧ d.extra = 2) ∧
    (-- windowInvalidate
      let d := desc tWindowSet 3 [(24, 0x1FFFF), (32, 1)]
      let s : State := withPage (withDesc idle0 d)
      s.ready 5 9 tWindowSet = some d ∧ d.onlyUses [(16, 24)] = true ∧ s.moversIssued 5 = true ∧ d.extra = 3 ∧ 1 ≤ d.num 32 8 ∧
      windowOk (d.num 24 8) (d.num 32 8) = true ∧ SMap.wf (fun _ => []) s.cal.tlb = true) ∧
    (-- windowInvalidate2
      let d := desc tWindowSet 3 [(24, 0x20000), (32, 1)]
      let s : State := withPage (withDesc idle0 d)
      s.ready 5 9 tWindowSet = some d) :=
  ⟨by decide +kernel, by decide +kernel, by decide +kernel, by decide +kernel, by decide +kernel, by decide +kernel, by decide +kernel, by decide +kernel, by decide +kernel, by decide +kernel, by decide +kernel, by decide +kernel⟩

theorem test_hyps_CopiesAndChecks :
    (-- dmaCopy_bad
      let d := desc tDmaCopy 0 [(36, 1), (37, 1)]
      let s : State := withDesc idle0 d
      s.ready 5 9 tDmaCopy = some d ∧ d.num 32 4 = 0) ∧
    (-- dmaCopy_quota
      let d := desc tDmaCopy 0 [(16, 4096), (24, 8192), (32, 64), (38, 4)]
      let s : State := (withDesc idle0 d).setFld (rDmaCap 5) 16 11 0
      let k : Copy := { ctx := 5, seq := 9, src := d.num 16 8, dst := d.num 24 8, len := d.num 32 4, srcCal := d.num 36 1 == 1, dstCal := d.num 37 1 == 1, isCheck := false, check := d.num 38 1, expect := d.num 40 4, rem := crcInit (d.num 38 1), start := s.now }
      s.ready 5 9 tDmaCopy = some d ∧ d.extra = 0 ∧ d.onlyUses [(16, 23), (40, 4)] = true ∧ 1 ≤ k.len ∧ d.num 36 1 < 2 ∧ d.num 37 1 < 2 ∧
      k.check < 5 ∧ s.sideOk 5 k.srcCal k.src k.len = true ∧ s.sideOk 5 k.dstCal k.dst k.len = true ∧ s.copyBarred 5 k = true) ∧
    (-- dmaCopy
      let d := desc tDmaCopy 0 [(16, 4096), (24, 4096 * 4097), (32, 64), (37, 1), (38, 4)]
      let s0 : State := (withDesc idle0 d).setFld (rDmaCap 5) 16 11 1
      let s : State := { s0 with cal := { s0.cal with tiles := [(4097, (1, 5))] } }
      let k : Copy := { ctx := 5, seq := 9, src := d.num 16 8, dst := d.num 24 8, len := d.num 32 4, srcCal := d.num 36 1 == 1, dstCal := d.num 37 1 == 1, isCheck := false, check := d.num 38 1, expect := d.num 40 4, rem := crcInit (d.num 38 1), start := s.now }
      s.ready 5 9 tDmaCopy = some d ∧ d.extra = 0 ∧ d.onlyUses [(16, 23), (40, 4)] = true ∧ 1 ≤ k.len ∧ d.num 36 1 < 2 ∧ d.num 37 1 < 2 ∧
      k.check < 5 ∧ s.sideOk 5 k.srcCal k.src k.len = true ∧ s.sideOk 5 k.dstCal k.dst k.len = true ∧ s.copyBarred 5 k = false) ∧
    (-- crcCheck_bad
      let d := desc tCrcCheck 0 [(28, 5), (32, 5)]
      let s : State := withDesc idle0 d
      s.ready 5 9 tCrcCheck = some d ∧ 5 ≤ d.num 32 1) ∧
    (-- crcCheck
      let d := desc tCrcCheck 0 [(16, 4096 * 4097), (24, 1), (28, 64), (32, 4), (36, 7)]
      let s0 : State := (withDesc idle0 d).setFld (rDmaCap 5) 16 11 1
      let s : State := { s0 with cal := { s0.cal with tiles := [(4097, (1, 5))] } }
      let k : Copy := { ctx := 5, seq := 9, src := d.num 16 8, dst := 0, len := d.num 28 4, srcCal := d.num 24 1 == 1, dstCal := false, isCheck := true, check := d.num 32 1, expect := d.num 36 4, rem := crcInit (d.num 32 1), start := s.now }
      s.ready 5 9 tCrcCheck = some d ∧ d.extra = 0 ∧ d.onlyUses [(16, 9), (28, 5), (36, 4)] = true ∧ 1 ≤ k.len ∧ d.num 24 1 < 2 ∧
      1 ≤ k.check ∧ k.check < 5 ∧ s.sideOk 5 k.srcCal k.src k.len = true ∧ s.copyBarred 5 k = false) ∧
    (-- pieceMid
      let d := { desc tCrcCheck 0 [] with started := true }
      let k : Copy := { ctx := 5, seq := 9, src := 0, dst := 0, len := 8, srcCal := false, dstCal := false, isCheck := true, check := 3, expect := 0, rem := 0xFFFF, pos := 2, issued := 8 }
      let j : Job := ⟨.copy 5 9 2 2, true, 0⟩
      let s0 : State := withDesc idle0 d
      let s : State := { s0 with mov := { s0.mov with copies := [k], movers := [(63, some j)] } }
      s.awaited 63 = some j ∧ s.copyOf 5 9 = some k ∧ s.findDesc 5 9 = some d ∧ d.result = none ∧ k.isCheck = true ∧ k.pos + 2 < k.len) ∧
    (-- pieceEnd
      let d := { desc tCrcCheck 0 [] with started := true }
      let k : Copy := { ctx := 5, seq := 9, src := 0, dst := 0, len := 4, srcCal := false, dstCal := false, isCheck := true, check := 3, expect := 0, rem := 0xFFFF, pos := 2, issued := 8 }
      let j : Job := ⟨.copy 5 9 2 2, true, 0⟩
      let s0 : State := withDesc idle0 d
      let s : State := { s0 with mov := { s0.mov with copies := [k], movers := [(63, some j)] } }
      s.awaited 63 = some j ∧ k.len ≤ k.pos + 2) :=
  ⟨by decide +kernel, by decide +kernel, by decide +kernel, by decide +kernel, by decide +kernel, by decide +kernel, by decide +kernel⟩

theorem test_hyps_LineLifetimes :
    (-- lineMap
      let d := desc tLineMap 4095 [(24, 64), (36, 16), (44, 64), (52, 256 * 4097), (56, 31), (57, 63), (59, 4), (60, 1), (62, 4)]
      let s0 : State := (linked (withDesc idle0 d)).setReg rTopPcieStat 0x000000C4
      let s : State := { (s0.setBit rNgxStat 0 true).setReg (rDmaCap 5) 0x00000400 with cal := { s0.cal with tiles := [(4097, (1, 5))] }, eng := [(31, { stab := [(0, 0x80050000#32), (1, BitVec.ofNat 32 (63 * 2 ^ 16 + 63 * 2 ^ 22))] })] }
      let l := lineOf s 5 9 d
      s.ready 5 9 tLineMap = some d ∧ d.extra < 2 ^ 15 ∧ s.lineOk d l = true ∧ s.lineSt 4095 = 0 ∧ s.islandGone (l.eng / 4) = false ∧
      s.quarterGone (16 * l.stageQ) = false ∧ s.proxyOn = false ∧ s.lineFits l = true) ∧
    (-- lineMap_quota
      let d := desc tLineMap 4095 [(24, 64), (36, 16), (44, 64), (52, 256 * 4097), (56, 31), (57, 63), (59, 4), (60, 1), (62, 4)]
      let s0 : State := (linked (withDesc idle0 d)).setReg rTopPcieStat 0x000000C4
      let s : State := { (s0.setBit rNgxStat 0 true).setReg (rDmaCap 5) 0x00000000 with cal := { s0.cal with tiles := [(4097, (1, 5))] }, eng := [(31, { stab := [(0, 0x80050000#32), (1, BitVec.ofNat 32 (63 * 2 ^ 16 + 63 * 2 ^ 22))] })] }
      let l := lineOf s 5 9 d
      s.ready 5 9 tLineMap = some d ∧ d.extra < 2 ^ 15 ∧ s.lineOk d l = true ∧ s.lineSt 4095 = 0 ∧ s.islandGone (l.eng / 4) = false ∧
      s.quarterGone (16 * l.stageQ) = false ∧ s.lineFits l = false) ∧
    (-- lineMap_bad
      let d := desc tLineMap 4095 [(24, 64), (36, 64)]
      let s : State := withDesc idle0 d
      let l := lineOf s 5 9 d
      s.ready 5 9 tLineMap = some d ∧ d.extra < 2 ^ 15 ∧ s.lineOk d l = false) ∧
    (-- unmap_bad
      let d := desc tLineMap (4095 + 8 * 4096) []
      let s : State := withDesc idle0 d
      s.ready 5 9 tLineMap = some d ∧ d.extra / 4096 = 8 ∧ s.lineSt 4095 ≠ 2) ∧
    (-- unmap
      let d := desc tLineMap (4095 + 8 * 4096) []
      let s0 : State := withDesc idle0 d
      let s : State := { s0.setFld (rCaldHlW0 4095) 28 3 2 with cal := { s0.cal with lines := [(4095, { mapped := true, owner := 5, eng := 31, dld := 63 })] } }
      let m := s.line 4095
      s.ready 5 9 tLineMap = some d ∧ d.extra / 4096 = 8 ∧ s.lineSt 4095 = 2 ∧ m.owner = 5 ∧ d.onlyUses [(16, 47)] = true ∧
      s.islandOff (m.eng / 4) = false) ∧
    (-- lineActivation
      let d := { desc tLineMap 4095 [] with started := true, granted := true }
      let s0 : State := withDesc run0 d
      let s : State := { s0.setFld (rCaldHlW0 4095) 28 3 1 with cal := { s0.cal with lines := [(4095, { mapped := true, owner := 5, eng := 31, dld := 63, seq := 9, act := 5, rd := some (0, 3) })] } }
      let l := s.line 4095
      s.findDesc l.owner l.seq = some d ∧ d.result = none ∧ s.lineSt 4095 = 1 ∧ l.act ≤ s.lineT l ∧ s.islandOff (l.eng / 4) = false ∧
      l.eng < 32 ∧ l.dld < 64) ∧
    (-- unmapComplete
      let d := { desc tLineMap (4095 + 8 * 4096) [] with started := true, granted := true }
      let s0 : State := withDesc run0 d
      let s : State := { s0.setFld (rCaldHlW0 4095) 28 3 3 with cal := { s0.cal with lines := [(4095, { mapped := true, owner := 5, seq := 9, drainAt := 5, wmax := some 3, wbNext := 5 })] } }
      let l := s.line 4095
      s.findDesc l.owner l.seq = some d ∧ d.result = none ∧ s.lineSt 4095 = 3 ∧ l.drainAt ≤ s.lineT l ∧ l.drainAt ≤ l.wbNext ∧
      l.chunks = []) :=
  ⟨by decide +kernel, by decide +kernel, by decide +kernel, by decide +kernel, by decide +kernel, by decide +kernel, by decide +kernel⟩

theorem test_hyps_LineChunks :
    (-- prefetch
      let s : State := { run0.setFld (rCaldHlW0 4095) 28 3 1 with cal := { run0.cal with lines := [(4095, { mapped := true, c := 4, lead := 2, act := 8, rd := some (3, 3) })] } }
      let p := s.pruneLine 4095
      let l := p.line 4095
      l.rd = some (3, 3) ∧ s.lineSt 4095 = 1 ∧ (4 : Int) % (l.c : Int) = 0 ∧ l.act ≤ l.lastRead 4 ∧ s.lineT l ≤ l.lastRead 4 ∧
      l.chunk 4 true = none ∧ l.wbDone 4 = true ∧ ((4 : Int) + 3 - l.lead ≤ s.lineT l)) ∧
    (-- prefetch_early
      let s : State := { run0.setFld (rCaldHlW0 4095) 28 3 1 with cal := { run0.cal with lines := [(4095, { mapped := true, c := 4, lead := 2, act := 8, rd := some (1, 3) })] } }
      let p := s.pruneLine 4095
      let l := p.line 4095
      l.rd = some (1, 3) ∧ s.lineSt 4095 = 1 ∧ (8 : Int) % (l.c : Int) = 0 ∧ l.act ≤ l.lastRead 8 ∧ s.lineT l ≤ l.lastRead 8 ∧
      l.chunk 8 true = none ∧ l.wbDone 8 = true ∧ s.lineT l < (8 : Int) + 1 - l.lead) ∧
    (-- writeback
      let s : State := { run0.setFld (rCaldHlW0 4095) 28 3 2 with cal := { run0.cal with lines := [(4095, { mapped := true, c := 2, wmax := some 3, wbNext := 0 })] } }
      let l := (s.pruneLine 4095).line 4095
      l.wmax = some 3 ∧ s.lineSt 4095 = 2 ∧ l.wbNext + l.c + 3 ≤ s.lineT l + 0) ∧
    (-- writeback_early
      let s : State := { run0.setFld (rCaldHlW0 4095) 28 3 2 with cal := { run0.cal with lines := [(4095, { mapped := true, c := 2, wmax := some 3, wbNext := 1 })] } }
      let l := (s.pruneLine 4095).line 4095
      l.wmax = some 3 ∧ s.lineSt 4095 = 2 ∧ s.lineT l < l.wbNext + l.c + 3) ∧
    (-- deadline
      let k : Chunk := { u0 := 4, read := true, st := .issued }
      let s : State := { run0.setFld (rCaldHlW0 4095) 28 3 2 with cal := { run0.cal with lines := [(4095, { mapped := true, c := 4, act := 5, rd := some (1, 3), chunks := [k] })] } }
      let l := s.line 4095
      l.rd = some (1, 3) ∧ s.lineSt 4095 = 2 ∧ (4 : Int) % (l.c : Int) = 0 ∧ l.act ≤ l.lastRead 4 ∧ s.lineT l ≤ l.lastRead 4 ∧
      l.chunk 4 true = some k ∧ (4 : Int) + 1 ≤ s.lineT l ∧ l.act ≤ s.lineT l ∧ k.missed = false ∧ k.st ≠ .valid) ∧
    (-- deadline_no
      let k : Chunk := { u0 := 4, read := true, st := .valid }
      let s : State := { run0.setFld (rCaldHlW0 4095) 28 3 2 with cal := { run0.cal with lines := [(4095, { mapped := true, c := 4, act := 5, rd := some (1, 3), chunks := [k] })] } }
      let l := s.line 4095
      l.rd = some (1, 3) ∧ s.lineSt 4095 = 2 ∧ l.act ≤ l.lastRead 4 ∧ s.lineT l ≤ l.lastRead 4 ∧ l.chunk 4 true = some k ∧
      (4 : Int) + 1 ≤ s.lineT l ∧ l.act ≤ s.lineT l ∧ k.st = .valid) ∧
    (-- chunkDone
      let k : Chunk := { u0 := 4, read := true, st := .issued }
      let j : Job := ⟨.chunk 4095 4 true, true, 0⟩
      let s : State := { run0.setFld (rCaldHlW0 4095) 28 3 2 with cal := { run0.cal with lines := [(4095, { mapped := true, c := 4, f := 1, sr := 8, act := 5, stageQ := 64, rd := some (1, 3), chunks := [k] })] }, mov := { run0.mov with movers := [(63, some j)] } }
      let l := s.line 4095
      s.awaited 63 = some j ∧ j.work = .chunk 4095 4 true ∧ l.chunk 4 true = some k ∧ s.lineSt 4095 = 2 ∧
      (List.replicate 16 (1 : Byte)).length = 4 * l.f * l.c ∧ s.lineT l ≤ l.lastRead 4) :=
  ⟨by decide +kernel, by decide +kernel, by decide +kernel, by decide +kernel, by decide +kernel, by decide +kernel, by decide +kernel⟩

theorem test_hyps_Streams :
    (-- streamOpen_bad
      let d := desc tStreamOpen 15 [(24, 8)]
      let s : State := withDesc idle0 d
      s.ready 5 9 tStreamOpen = some d ∧ streamFieldsOk d (streamOf 5 d) = false) ∧
    (-- streamOpen
      let d := desc tStreamOpen 15 [(24, 16), (30, 8), (31, 4), (34, 1), (38, 6), (40, 256 * 4097)]
      let s0 : State := withDesc idle0 d
      let s : State := { (s0.setReg (rDmaCap 5) 0x00000400).setBit rNgxStat 0 true with cal := { s0.cal with tiles := [(4097, (1, 5))] } }
      let x := streamOf 5 d
      s.ready 5 9 tStreamOpen = some d ∧ streamFieldsOk d x = true ∧ s.ringStream 5 x.ring = none ∧
      s.assignedRange 5 (16 * x.fq) (4 * x.words * x.fifoFrames) = true ∧ s.proxyOn = false ∧ (s.stream 0).isNone = true ∧
      s.ctxLoad 5 x.capture + x.share ≤ s.rfld (rDmaCap 5) 0 11 ∧
      s.shareSum x.capture + x.share ≤ min 1024 (s.rfld rDmaBudget (if x.capture then 16 else 0) 11)) ∧
    (-- streamOpen_quota
      let d := desc tStreamOpen 15 [(24, 16), (30, 8), (31, 4), (34, 1), (38, 6), (40, 256 * 4097)]
      let s0 : State := withDesc idle0 d
      let s : State := { (s0.setReg (rDmaCap 5) 0x00000000).setBit rNgxStat 0 true with cal := { s0.cal with tiles := [(4097, (1, 5))] } }
      let x := streamOf 5 d
      s.ready 5 9 tStreamOpen = some d ∧ streamFieldsOk d x = true ∧ s.ringStream 5 x.ring = none ∧
      s.assignedRange 5 (16 * x.fq) (4 * x.words * x.fifoFrames) = true ∧ s.proxyOn = false ∧
      s.rfld (rDmaCap 5) 0 11 < s.ctxLoad 5 x.capture + x.share) ∧
    (-- streamClose_bad
      let d := desc tStreamClose 15 []
      let s : State := withDesc idle0 d
      s.ready 5 9 tStreamClose = some d ∧ s.ringStream 5 (d.extra % 16) = none) ∧
    (-- streamClose
      let d := desc tStreamClose 15 []
      let x := { streamOf 5 (desc tStreamOpen 15 [(24, 16), (30, 8), (31, 4), (34, 1), (38, 6)]) with st := 4 }
      let s0 : State := withDesc idle0 d
      let s : State := { s0 with mov := { s0.mov with streams := [(4095, some x)] } }
      s.ready 5 9 tStreamClose = some d ∧ s.ringStream 5 (d.extra % 16) = some (4095, x) ∧ s.stream 4095 = some x ∧ d.extra / 16 = 0 ∧
      d.onlyUses [] = true ∧ x.closing = false ∧ x.capture = false ∧ x.entries = [] ∧ x.fade.st = .silent) ∧
    (-- entryComplete
      let e : StrEnt := { buf := 0, len := 8, irq := true, status := some 0 }
      let x := { streamOf 5 (desc tStreamOpen 15 [(24, 16), (30, 8), (31, 4), (34, 1), (38, 6)]) with entries := [e, e], prod := 2 }
      let s0 : State := linked idle0
      let s : State := { s0 with mov := { s0.mov with streams := [(4095, some x)] } }
      s.stream 4095 = some x ∧ x.closing = false ∧ x.entries = [e, e] ∧ e.status ≠ none) ∧
    (-- entryComplete_no
      let e : StrEnt := { buf := 0, len := 8, irq := true }
      let x := { streamOf 5 (desc tStreamOpen 15 [(24, 16), (30, 8), (31, 4), (34, 1), (38, 6)]) with entries := [e], prod := 2 }
      let s : State := { idle0 with mov := { idle0.mov with streams := [(4095, some x)] } }
      s.stream 4095 = some x ∧ x.closing = false ∧ x.entries = [e] ∧ e.status = none) ∧
    (-- burstDone
      let e : StrEnt := { buf := 0, len := 8, irq := true, issued := 2 }
      let x := { streamOf 5 (desc tStreamOpen 15 [(24, 16), (30, 1), (31, 0), (34, 1), (38, 6), (40, 256 * 4097)]) with entries := [e], prod := 2, wr := 3 }
      let j : Job := ⟨.burst 4095 0 0 2, true, 0⟩
      let s : State := { idle0 with mov := { idle0.mov with streams := [(4095, some x)], movers := [(63, some j)] } }
      s.awaited 63 = some j ∧ s.stream 4095 = some x ∧ x.entries[x.entIndex 0]? = some e ∧ e.status = none ∧
      s.burstBehind 4095 0 0 = false ∧ (List.replicate (2 * x.hostFrame) (1 : Byte)).length = 2 * x.hostFrame) :=
  ⟨by decide +kernel, by decide +kernel, by decide +kernel, by decide +kernel, by decide +kernel, by decide +kernel, by decide +kernel, by decide +kernel⟩

theorem test_hyps_Routing :
    (-- gainSet
      let d := desc tGainSet 0 [(18, 255), (24, 7), (28, 31)]
      let s : State := (withDesc idle0 d).setReg (rFabRampW0 255) 0x80000005
      d.group = none ∧ d.groupOk = true ∧ rampByteOk (d.num 28 1) = true ∧ rampByteOk (d.num 24 1) = true ∧
      s.ready 5 9 tGainSet = some d ∧ d.num 16 1 = 0 ∧ d.num 20 2 = 0 ∧ d.num 18 2 < 256 ∧ s.rbit (rFabRampW0 255) 31 = true ∧
      s.rfld (rFabRampW0 255) 0 9 = 5 ∧ d.onlyUses [(16, 1), (18, 4), (24, 5)] = true ∧
      s.heldElsewhere none (Member.objects (.gain (.helper 255) 7 15 true 5 9)) = false) ∧
    (-- gainSet_bad
      let d := desc tGainSet 0 [(18, 255), (24, 7), (28, 31)]
      let s : State := (withDesc idle0 d).setReg (rFabRampW0 255) 0x80000004
      s.ready 5 9 tGainSet = some d ∧ d.num 16 1 = 0 ∧ s.rfld (rFabRampW0 255) 0 9 ≠ 5) ∧
    (-- routeSet
      let d := desc tRouteSet 0 [(16, 0x200), (18, 0x201), (20, 7), (24, 31)]
      let s : State := ((withDesc idle0 d).setReg (rRouteBrg 0) 0x501).setReg (rRouteBrg 1) 0x500
      d.group = none ∧ d.groupOk = true ∧ rampByteOk (d.num 28 1) = true ∧ rampByteOk (d.num 24 1) = true ∧
      s.ready 5 9 tRouteSet = some d ∧ d.onlyUses [(16, 8), (24, 1)] = true ∧ s.addrDom 0x200 true ≠ none ∧
      s.addrDom 0x200 true = s.addrDom 0x201 false ∧ s.addrDom 0x200 true ≠ some 3 ∧ s.holdsAddr 5 0x200 true = true ∧
      s.holdsAddr 5 0x201 false = true ∧ s.helperLane 0x201 = false ∧ s.findXp 0x200 0x201 = none ∧ s.par.next = [] ∧
      s.heldElsewhere none (Member.objects (.routeSet 0x200 0x201 5 7 15 true true 5 9)) = false ∧ s.xpQuota 0x201 = false) ∧
    (-- routeSet_bad
      let d := desc tRouteSet 0 [(16, 0x200), (18, 0x201), (20, 7), (24, 31)]
      let s : State := withDesc idle0 d
      s.ready 5 9 tRouteSet = some d ∧ s.holdsAddr 5 0x200 true = false) ∧
    (-- routeClear
      let d := desc tRouteClear 0 [(16, 0x200), (18, 0x201), (24, 31)]
      let s0 : State := withDesc idle0 d
      let s : State := { s0 with route := { s0.route with xps := [(8191, { src := 0x200, sink := 0x201, owner := 5, st := 1 })] } }
      d.group = none ∧ d.groupOk = true ∧ rampByteOk (d.num 28 1) = true ∧ rampByteOk (d.num 24 1) = true ∧
      s.ready 5 9 tRouteClear = some d ∧ d.onlyUses [(16, 4), (24, 1)] = true ∧ s.findXp 0x200 0x201 = some 8191 ∧
      (s.xp 8191).owner = 5 ∧ s.heldElsewhere none (Member.objects (.routeClear 0x200 0x201 15 true 5 9)) = false) :=
  ⟨by decide +kernel, by decide +kernel, by decide +kernel, by decide +kernel, by decide +kernel⟩

theorem test_hyps_BridgesAndResamplers :
    (-- enginePort_done
      idle0.route.computed = true) ∧
    (-- enginePort_read
      let s : State := { idle0 with route := { idle0.route with computed := false } }
      s.route.computed = false ∧ s.eng = []) ∧
    (-- brg_write
      idle0.rbit (rRouteBrg 63) 31 = false ∧ bit (0x3FFFFFFF : BitVec 32) 30 = false ∧ bit (0x3FFFFFFF : BitVec 32) 31 = false) ∧
    (-- brg_off
      let s : State := idle0.setReg (rRouteBrg 63) 0x80000501
      let v : BitVec 32 := 0x00000501
      s.rbit (rRouteBrg 63) 31 = true ∧ bit v 30 = false ∧ v &&& 0x8001FF03 = s.reg (rRouteBrg 63) &&& 0x0001FF03) ∧
    (-- brg_rej
      let s : State := idle0.setReg (rRouteBrg 63) 0x80000501
      let v : BitVec 32 := 0x80000503
      s.rbit (rRouteBrg 63) 31 = true ∧ bit v 30 = false ∧ v &&& 0x0001FF03 ≠ s.reg (rRouteBrg 63) &&& 0x0001FF03) ∧
    (-- asrc_write
      idle0.rbit (rAsrcCfg0 255) 31 = false ∧ bit (0x7FFFFFFF : BitVec 32) 31 = false) ∧
    (-- asrc_rej
      let s : State := idle0.setReg (rAsrcCfg0 255) 0x80000000
      let v : BitVec 32 := 0x80000001
      s.rbit (rAsrcCfg0 255) 31 = true ∧ v ≠ s.reg (rAsrcCfg0 255) ∧ v ≠ putBit (s.reg (rAsrcCfg0 255)) 31 false) ∧
    (-- asrc_off
      let s : State := (idle0.setReg (rAsrcCfg0 255) 0x80000000).setFld (rAsrcStat 255) 0 2 2
      s.rbit (rAsrcCfg0 255) 31 = true) ∧
    (-- asrc_lock
      let s : State := (idle0.setReg (rAsrcCfg0 255) 0x80000000).setFld (rAsrcStat 255) 0 2 1
      s.rfld (rAsrcStat 255) 0 2 = 1) ∧
    (-- asrc_unlock
      let s : State := (idle0.setReg (rAsrcCfg0 255) 0x80000000).setFld (rAsrcStat 255) 0 2 2
      s.rfld (rAsrcStat 255) 0 2 = 2 ∧ s.rbit (rAsrcCfg0 255) 17 = false) :=
  ⟨by decide +kernel, by decide +kernel, by decide +kernel, by decide +kernel, by decide +kernel, by decide +kernel, by decide +kernel, by decide +kernel, by decide +kernel, by decide +kernel⟩

theorem test_hyps_AcceptanceAndCompletion :
    (-- nop_wait
      let s : State := withDesc idle0 { desc 0x01 0 [] with started := true }
      s.ready 5 9 0x01 = none) ∧
    (-- fence_wait
      let s : State := { idle0 with ctx := [(5, { opens := [{ desc 0x01 0 [] with seq := 8 }, desc 0x02 0 []] })] }
      s.ready 5 9 0x02 = none) ∧
    (-- nopDesc
      let d := desc 0x01 0 []
      let s : State := withDesc idle0 d
      s.ready 5 9 0x01 = some d) ∧
    (-- fence
      let d := desc 0x02 1 []
      let s : State := withDesc idle0 d
      s.ready 5 9 0x02 = some d) ∧
    (-- cancel
      let x := { desc tCommit 63 [] with seq := 8 }
      let d := desc tCancel 0 [(16, 8)]
      let s : State := { idle0 with ctx := [(5, { opens := [x, d], c := 16#32, nextSeq := 10#32 })] }
      s.ready 5 9 tCancel = some d ∧ d.extra = 0 ∧ d.onlyUses [(16, 4)] = true ∧ d.num 16 4 ≠ 9 ∧
      (s.context 5).accepted (BitVec.ofNat 32 (d.num 16 4)) = true ∧ ((9 : BitVec 32) - BitVec.ofNat 32 (d.num 16 4)).toNat < 2 ^ 31 ∧
      s.findDesc 5 (d.num 16 4) = some x ∧ neverCancelled x.typ = false ∧ x.granted = false ∧ x.result = none) ∧
    (-- cancel_late
      let x := { desc tCommit 63 [] with seq := 8, granted := true, started := true }
      let d := desc tCancel 0 [(16, 8)]
      let s : State := { idle0 with ctx := [(5, { opens := [x, d], c := 16#32, nextSeq := 10#32 })] }
      s.ready 5 9 tCancel = some d ∧ s.findDesc 5 (d.num 16 4) = some x ∧ (s.context 5).accepted (BitVec.ofNat 32 (d.num 16 4)) = true ∧
      x.granted = true) ∧
    (-- accept
      let s0 : State := (linked idle0).setFld (rCtxtStat 511) 0 3 1
      let s : State := { s0.setBit rNgxStat 0 true with pcie := { s0.pcie with outst := [⟨0, 0, .fetch 511, 0⟩] } }
      let b : BitVec 512 := 0x01
      s.proxyOn = false ∧ (s.pcie.outst.any fun o => o.who == .fetch 511) = true ∧ s.ctxState 511 = 1 ∧ s.fetchStopped = false ∧
      s.heldDesc 511 (fld b 0 8) = false) ∧
    (-- accept_held
      let s0 : State := (linked idle0).setFld (rCtxtStat 5) 0 3 1
      let s : State := { s0.setBit rNgxStat 0 true with pcie := { s0.pcie with outst := [⟨0, 0, .fetch 5, 0⟩] }, ctx := [(5, { opens := List.replicate 16 (desc 1 0 []) })] }
      let b : BitVec 512 := 0x01
      s.proxyOn = false ∧ (s.pcie.outst.any fun o => o.who == .fetch 5) = true ∧ s.ctxState 5 = 1 ∧ s.fetchStopped = false ∧
      s.heldDesc 5 (fld b 0 8) = true) ∧
    (-- accept_fail
      let s0 : State := linked idle0
      let s : State := { s0.setBit rNgxStat 0 true with pcie := { s0.pcie with outst := [⟨0, 0, .fetch 5, 0⟩] } }
      s.proxyOn = false ∧ (s.pcie.outst.any fun o => o.who == .fetch 5) = true) ∧
    (-- fetchRetry
      let s : State := { idle0 with now := 1228800, ctx := [(5, { fetchFail := some 0 })] }
      (s.context 5).fetchFail = some 0 ∧ 0 + 1228800 ≤ s.now) ∧
    (-- fetchRetry_early
      let s : State := { idle0 with now := 1228799, ctx := [(5, { fetchFail := some 0 })] }
      (s.context 5).fetchFail = some 0 ∧ s.now < 0 + 1228800) ∧
    (-- descFinish
      let d := { desc 1 0 [] with started := true, result := some 0x30 }
      let s : State := withDesc idle0 d
      s.findDesc 5 9 = some d ∧ d.result = some 0x30 ∧ d.mark = false) :=
  ⟨by decide +kernel, by decide +kernel, by decide +kernel, by decide +kernel, by decide +kernel, by decide +kernel, by decide +kernel, by decide +kernel, by decide +kernel, by decide +kernel, by decide +kernel, by decide +kernel⟩

theorem test_hyps_AcceptanceAndCompletion_2 :
    (-- completionRecord
      let d := { desc 1 0 [] with started := true, result := some 0x30, mark := true }
      let s0 : State := withDesc (linked idle0) d
      let s : State := s0.setFld (rCtxtStat 5) 0 3 1
      let x := s.context 5
      (x.opens.find? fun d => !d.record) = some d ∧ d.result = some 0x30 ∧ d.mark = true ∧ d.notBefore ≤ s.now ∧ s.ctxState 5 ≠ 0 ∧
      x.quiet = false ∧ s.canIssue (s.funcOf 5) = true) ∧
    (-- completionIrq
      let s : State := { (linked idle0).setFld (rCtxtMod 5) 0 16 10 with now := 12288, ctx := [(5, { recSince := 1, lastIrq := some 0 })] }
      let x := s.context 5
      (max 1 (s.rfld (rCtxtMod 5) 16 8) ≤ x.recSince ∨ x.irqDue = true) ∧ x.lastIrq = some 0 ∧
      0 + s.rfld (rCtxtMod 5) 0 16 * 12288 / 10 ≤ s.now) ∧
    (-- completionIrq_no
      let s : State := idle0
      (s.context 5).recSince < max 1 (s.rfld (rCtxtMod 5) 16 8) ∧ (s.context 5).irqDue = false) :=
  ⟨by decide +kernel, by decide +kernel, by decide +kernel⟩

theorem test_hyps_ContextCommands :
    (-- doorbell
      let s0 : State := ((linked idle0).setReg (rCtxtCtrl 0) (BitVec.ofNat 32 (63 + 64 * 15))).setFld (rCtxtStat 0) 0 3 3
      let s : State := { s0 with pcie := { s0.pcie with vfMse := true }, ctx := [(0, { c := 5, w := 7, k := 6 })] }
      let x := s.context 0
      (if (63 : Fin 64).val = 0 then (s.fn 0).mse else s.pcie.vfMse) = true ∧ s.doorbellCtx 63 15 = some 0 ∧ s.minPath = false ∧
      s.ctxState 0 = 3 ∧ ((6 : BitVec 32) - x.c).toNat ≤ 2 ^ s.rfld (rCtxtSize 0) 0 5) ∧
    (-- doorbell_range
      let s0 : State := ((linked idle0).setReg (rCtxtCtrl 0) (BitVec.ofNat 32 (63 + 64 * 15))).setFld (rCtxtStat 0) 0 3 3
      let s : State := { s0 with pcie := { s0.pcie with vfMse := true }, ctx := [(0, { c := 5, w := 7, k := 6 })] }
      let x := s.context 0
      s.doorbellCtx 63 15 = some 0 ∧ s.ctxState 0 = 3 ∧ 2 ^ s.rfld (rCtxtSize 0) 0 5 < ((4 : BitVec 32) - x.c).toNat) ∧
    (-- consumer
      let s0 : State := ((linked idle0).setReg (rCtxtCtrl 0) (BitVec.ofNat 32 (63 + 64 * 15))).setFld (rCtxtStat 0) 0 3 1
      let s : State := { s0 with pcie := { s0.pcie with vfMse := true }, ctx := [(0, { c := 5, w := 7, k := 6 })] }
      let x := s.context 0
      s.doorbellCtx 63 15 = some 0 ∧ s.ctxState 0 = 1 ∧ ((7 : BitVec 32) - x.k).toNat ≤ (x.w - x.k).toNat) ∧
    (-- consumer_range
      let s0 : State := ((linked idle0).setReg (rCtxtCtrl 0) (BitVec.ofNat 32 (63 + 64 * 15))).setFld (rCtxtStat 0) 0 3 1
      let s : State := { s0 with pcie := { s0.pcie with vfMse := true }, ctx := [(0, { c := 5, w := 7, k := 6 })] }
      let x := s.context 0
      (x.w - x.k).toNat < ((8 : BitVec 32) - x.k).toNat) ∧
    (-- streamRing
      let y := { streamOf 511 (desc tStreamOpen 15 [(24, 16), (30, 1), (31, 0), (34, 1), (38, 6)]) with st := 2 }
      let s0 : State := ((linked idle0).setReg (rCtxtCtrl 511) (BitVec.ofNat 32 (63 + 64 * 15))).setFld (rCtxtStat 511) 0 3 1
      let s : State := { s0 with pcie := { s0.pcie with vfMse := true }, mov := { s0.mov with streams := [(4095, some y)] } }
      s.ringStream 511 15 = some (4095, y) ∧ ((1 : BitVec 32) - y.cons).toNat ≤ y.size ∧ y.closing = false ∧
      ((1 : BitVec 32) - y.prod).toNat = 1) ∧
    (-- streamRing_range
      let y := { streamOf 511 (desc tStreamOpen 15 [(24, 16), (30, 1), (31, 0), (34, 1), (38, 6)]) with st := 2 }
      let s0 : State := ((linked idle0).setReg (rCtxtCtrl 511) (BitVec.ofNat 32 (63 + 64 * 15))).setFld (rCtxtStat 511) 0 3 1
      let s : State := { s0 with pcie := { s0.pcie with vfMse := true }, mov := { s0.mov with streams := [(4095, some y)] } }
      s.ringStream 511 15 = some (4095, y) ∧ y.size < ((17 : BitVec 32) - y.cons).toNat) :=
  ⟨by decide +kernel, by decide +kernel, by decide +kernel, by decide +kernel, by decide +kernel, by decide +kernel⟩

theorem test_hyps_ContextStates :
    (-- ctxEnable
      let s : State := idle0.setReg (rCtxtSize 511) (BitVec.ofNat 32 (4 + 256 * 5))
      (s.ctxCmdW 511 1 true).enableOk 511 = true ∧ (s.context 511).valid = false ∧ mirWord 0 0 ≠ 0x4A524C31) ∧
    (-- ctxEnable_bad
      let s : State := idle0.setReg (rCtxtSize 511) (BitVec.ofNat 32 (3 + 256 * 5))
      (s.ctxCmdW 511 1 true).enableOk 511 = false) ∧
    (-- ctxEnable_noRecord
      let s : State := idle0.setReg (rCtxtSize 511) (BitVec.ofNat 32 (4 + 256 * 5))
      (s.ctxCmdW 511 1 false).enableOk 511 = true) ∧
    (-- ctxEnable_journal
      let j : Ctx := { c := 9, nextSeq := 12, lastDone := 8, valid := true }
      let s : State := { idle0.setReg (rCtxtSize 511) (BitVec.ofNat 32 (4 + 256 * 5)) with ctx := [(511, j)] }
      (s.ctxCmdW 511 1 false).enableOk 511 = true ∧ (s.context 511) = j ∧ j.valid = true) ∧
    (-- ctxEnable_none
      let s : State := idle0.setReg (rCtxtSize 511) (BitVec.ofNat 32 (4 + 256 * 5))
      (s.ctxCmdW 511 1 false).enableOk 511 = true ∧ (s.context 511).valid = false) ∧
    (-- ctxDisable_rej
      let s : State := idle0.setFld (rCtxtStat 5) 0 3 2
      s.ctxState 5 = 2) ∧
    (-- ctxDisable
      let s : State := { idle0.setFld (rCtxtStat 5) 0 3 3 with ctx := [(5, { fetchFail := some 1 })] }
      s.ctxState 5 = 3 ∧ (s.context 5).opens = []) ∧
    (-- ctxReset_rej
      let s : State := idle0.setFld (rCtxtStat 5) 0 3 3
      s.ctxState 5 ≠ 0) ∧
    (-- ctxReset
      let s : State := { idle0 with ctx := [(5, { c := 3 })], route := { idle0.route with xps := [(3, { owner := 5, st := 1 }), (4, { owner := 6, st := 1 })] } }
      s.ctxState 5 = 0) :=
  ⟨by decide +kernel, by decide +kernel, by decide +kernel, by decide +kernel, by decide +kernel, by decide +kernel, by decide +kernel, by decide +kernel, by decide +kernel⟩

theorem test_hyps_PcieFunctions :
    (-- flr_absent
      let s : State := idle0
      s.fnEnabled 63 = false) ∧
    (-- flr_no
      let s : State := linked idle0
      (63 : Fin 64).val ≠ 0 ∧ s.fnEnabled 63 = true ∧ bit (0x7FFF : BitVec 16) 15 = false) ∧
    (-- flr
      let s0 : State := linked idle0
      let s : State := { s0 with pcie := { s0.pcie with msix := [(1024 * 63 + 63, { addr := 4 })], outst := [⟨0, 63, .fetch 5, 0⟩, ⟨1, 1, .fetch 6, 0⟩] } }
      s.fnEnabled 63 = true ∧ bit (0x8000 : BitVec 16) 15 = true) ∧
    (-- vfEnable_no
      let s : State := idle0.setBit rTopPcieStat 16 true
      s.rbit rTopPcieStat 16 = true) ∧
    (-- vfEnable
      let s : State := linked idle0
      s.rbit rTopPcieStat 16 = false ∧ s.pcie.vfEn = true ∧ bit (0 : BitVec 16) 0 = false ∧ (63 : Nat) ≤ s.pcie.numVfs) ∧
    (-- bme
      let s : State := linked idle0
      s.fnEnabled 63 = true) ∧
    (-- bme_absent
      let s : State := idle0
      s.fnEnabled 63 = false) ∧
    (-- msix_range
      msixSize 63 ≤ (64 : Fin 1024).val) ∧
    (-- msix_mask
      (63 : Fin 1024).val < msixSize 63 ∧ bit (1 : BitVec 32) 0 = true) ∧
    (-- msix_send
      let s : State := { linked idle0 with pcie := { (linked idle0).pcie with fns := [(63, { bme := true, msixEn := true })], msix := [(1024 * 63 + 63, { pend := true })] } }
      (63 : Fin 1024).val < msixSize 63 ∧ bit (0 : BitVec 32) 0 = false ∧ (s.fn 63).msixEn = true ∧ (s.fn 63).fmask = false ∧
      (s.msixEntry 63 63).pend = true) ∧
    (-- msix_send_noBme
      let s : State := { idle0 with pcie := { idle0.pcie with fns := [(63, { msixEn := true })], msix := [(1024 * 63 + 63, { pend := true })] } }
      (63 : Fin 1024).val < msixSize 63 ∧ (s.fn 63).msixEn = true ∧ (s.fn 63).fmask = false ∧ (s.msixEntry 63 63).pend = true) ∧
    (-- msix_func
      bit (0x4000 : BitVec 32) 15 = false) :=
  ⟨by decide +kernel, by decide +kernel, by decide +kernel, by decide +kernel, by decide +kernel, by decide +kernel, by decide +kernel, by decide +kernel, by decide +kernel, by decide +kernel, by decide +kernel, by decide +kernel⟩

theorem test_hyps_PcieLink :
    (-- linkUp
      let s : State := idle0
      s.dlUp = false ∧ s.pcie.trained = false) ∧
    (-- link_already
      let s : State := linked idle0
      s.dlUp = true) ∧
    (-- retrain_down
      let s : State := idle0
      s.dlUp = false) ∧
    (-- retrain
      let s : State := (linked idle0).setFld rTopPcieStat 0 3 4
      s.dlUp = true ∧ (2 : Fin 4).val + 1 < s.rfld rTopPcieStat 0 3) ∧
    (-- cto_none
      let s : State := linked idle0
      s.pcie.outst = []) ∧
    (-- cto_early
      let o : Outst := ⟨1023, 63, .fetch 511, 5⟩
      let s : State := { linked idle0 with pcie := { (linked idle0).pcie with outst := [o] } }
      s.pcie.outst = [o] ∧ s.now < o.at' + s.ctoMin) ∧
    (-- cto
      let o : Outst := ⟨1023, 63, .fetch 511, 0⟩
      let s : State := { linked idle0 with now := 46694400, pcie := { (linked idle0).pcie with outst := [o] } }
      s.pcie.outst = [o] ∧ o.at' + s.ctoMin ≤ s.now ∧ (511 : Nat) < 512 ∧ o.who = .fetch 511) ∧
    (-- l1
      let s : State := { linked idle0 with now := 1228, pcie := { (linked idle0).pcie with lnkCtl := 2 } }
      let s2 := s.setFld rTopPciePm 0 8 0
      bit s2.pcie.lnkCtl 1 = true ∧ s2.dlUp = true ∧ s2.fab.outq = [] ∧ s2.pcie.outst = [] ∧
      s2.pcie.lastBusy + max 1 (s2.rfld rTopPciePm 0 8) * 12288 / 10 ≤ s2.now) ∧
    (-- l1_no
      let s : State := { linked idle0 with now := 1227, pcie := { (linked idle0).pcie with lnkCtl := 2 } }
      let s2 := s.setFld rTopPciePm 0 8 0
      s2.now < s2.pcie.lastBusy + max 1 (s2.rfld rTopPciePm 0 8) * 12288 / 10) ∧
    (-- ltr_auto
      let s : State := idle0.setBit rTopPciePm 8 true
      s.rbit rTopPciePm 8 = true) ∧
    (-- ltr
      let s : State := (linked idle0).setBit rTopPciePm 8 false
      s.rbit rTopPciePm 8 = false) ∧
    (-- pme
      let s0 : State := { linked idle0 with pcie := { (linked idle0).pcie with fns := [(0, { d3 := true })], pmeEn := true } }
      let s : State := s0.setBit rPwrDormCtrl 2 true
      (s.fn 0).d3 = true ∧ s.pcie.pmeEn = true ∧ s.rbit rPwrDormCtrl (if (4 : Fin 5).val < 4 then 3 + (4 : Fin 5).val else 2) = true ∧
      s.pcie.pmeStat = false) :=
  ⟨by decide +kernel, by decide +kernel, by decide +kernel, by decide +kernel, by decide +kernel, by decide +kernel, by decide +kernel, by decide +kernel, by decide +kernel, by decide +kernel, by decide +kernel, by decide +kernel⟩

theorem test_hyps_PcieLink_2 :
    (-- pme_no
      let s : State := linked idle0
      (s.fn 0).d3 = false) := by decide +kernel

theorem test_hyps_TdmAndMicrophones :
    (-- tdm_off_write
      let s : State := idle0
      let v : BitVec 32 := 0xFFFFFFFE
      s.audOff = false ∧ s.dark (rPortTdmCfg0 5) = none ∧ s.tdmIsSource 5 = false ∧ s.rbit (rPortTdmCfg0 5) 0 = false ∧
      bit (v &&& 0x07FFFF7F) 0 = false) ∧
    (-- tdm_enable
      let s : State := idle0
      let v : BitVec 32 := 0x00007001
      s.audOff = false ∧ s.dark (rPortTdmCfg0 5) = none ∧ s.tdmIsSource 5 = false ∧ s.rbit (rPortTdmCfg0 5) 0 = false ∧
      bit (v &&& 0x07FFFF7F) 0 = true ∧ s.tdmValid (v &&& 0x07FFFF7F) = true) ∧
    (-- tdm_illegal
      let s : State := idle0
      let v : BitVec 32 := 0x0000000D
      s.rbit (rPortTdmCfg0 5) 0 = false ∧ bit (v &&& 0x07FFFF7F) 0 = true ∧ s.tdmValid (v &&& 0x07FFFF7F) = false) ∧
    (-- tdm_disable
      let s : State := (idle0.setReg (rPortTdmCfg0 5) 0x00007001).setFld (rPortTdmStat 5) 0 2 2
      let v : BitVec 32 := 0x00007000
      s.rbit (rPortTdmCfg0 5) 0 = true ∧ v &&& 0x07FFFF7F = putBit (s.reg (rPortTdmCfg0 5)) 0 false) ∧
    (-- tdm_change
      let s : State := (idle0.setReg (rPortTdmCfg0 5) 0x00007001).setFld (rPortTdmStat 5) 0 2 2
      let v : BitVec 32 := 0x00006000
      s.rbit (rPortTdmCfg0 5) 0 = true ∧ v &&& 0x07FFFF7F ≠ putBit (s.reg (rPortTdmCfg0 5)) 0 false) ∧
    (-- rx_first
      let s : State := (run0.setReg (rPortTdmCfg0 5) 0x00007001).setFld (rPortTdmStat 5) 0 2 1
      (5 : Fin 23).val = (5 : Fin 6) ∧ s.tdmSt 5 = 1 ∧ (s.tdm 5).run = 0) ∧
    (-- rx_second
      let s0 : State := (run0.setReg (rPortTdmCfg0 5) 0x00007001).setFld (rPortTdmStat 5) 0 2 1
      let s : State := { s0 with port := { s0.port with tdm := [(5, { run := 1 })] } }
      s.tdmSt 5 = 1 ∧ (s.tdm 5).run ≠ 0) ∧
    (-- rx_run
      let s0 : State := (run0.setReg (rPortTdmCfg0 5) 0x00007001).setFld (rPortTdmStat 5) 0 2 2
      let s : State := { s0 with port := { s0.port with tdm := [(5, { rx := [[1], [2], [3]] })] } }
      s.tdmSt 5 = 2 ∧ s.tdmDom 5 ≠ 3 ∧ (s.tdm 5).rx.length < 4) ∧
    (-- framing
      let s : State := (run0.setReg (rPortTdmCfg0 5) 0x00007001).setFld (rPortTdmStat 5) 0 2 2
      s.tdmSlave 5 = true ∧ s.tdmSt 5 ≠ 3) ∧
    (-- missingClock
      let s : State := (run0.setReg (rPortTdmCfg0 5) 0x00007001).setFld (rPortTdmStat 5) 0 2 1
      s.tdmSlave 5 = true ∧ s.tdmSt 5 ≠ 3) ∧
    (-- framing_master
      let s : State := (run0.setReg (rPortTdmCfg0 5) 0x00007003).setFld (rPortTdmStat 5) 0 2 2
      s.tdmSlave 5 = false) ∧
    (-- txFrame
      let s0 : State := ((run0.setReg (rPortTdmCfg0 5) 0x00007001).setFld (rPortTdmStat 5) 0 2 2).setReg (rPortTdmTxmask 5) 3
      let s : State := { s0 with port := { s0.port with tdm := [(5, { txSets := [(0, [5, 6]), (25600, [7, 8])] })] } }
      s.tdmSt 5 = 2 ∧ s.mode.selfTest = false ∧ s.tdmDom 5 ≠ 3 ∧ s.tdmRate (s.reg (rPortTdmCfg0 5)) = some (48000, 1) ∧
      setsReady s.now 48000 1 (s.tdm 5).txSets = ([(0, [5, 6])], [(25600, [7, 8])])) :=
  ⟨by decide +kernel, by decide +kernel, by decide +kernel, by decide +kernel, by decide +kernel, by decide +kernel, by decide +kernel, by decide +kernel, by decide +kernel, by decide +kernel, by decide +kernel, by decide +kernel⟩

theorem test_hyps_TdmAndMicrophones_2 :
    (-- mic
      let s : State := (idle0.setBit rConvPdmck 3 true).setBit rConvClk 0 false
      s.dark (rPortPdmMic 15) = none ∧ s.rbit (rPortPdmMic 15) 0 = false ∧ bit ((0xFFFFFFF9 : BitVec 32) &&& 0x0000FF1F) 0 = true ∧
      fld ((0xFFFFFFF9 : BitVec 32) &&& 0x0000FF1F) 1 2 = 0 ∧ s.pdmRatioOk 0 = true ∧ s.micClock 15 = true) ∧
    (-- mic_no
      let s : State := idle0.setBit rConvPdmck 3 false
      s.micClock 15 = false ∧ s.rbit (rPortPdmMic 15) 0 = false) ∧
    (-- settle
      let s0 : State := { idle0.setReg (rPortPdmMic 15) 0x0101 with now := 1228800 }
      let s : State := { s0 with port := { s0.port with mics := [(15, { settling := true })] } }
      s.micOn 15 = true ∧ (s.mic 15).settling = true ∧ (s.mic 15).since + s.rfld (rPortPdmMic 15) 8 8 * 1228800 ≤ s.now) ∧
    (-- settle_early
      let s0 : State := { idle0.setReg (rPortPdmMic 15) 0x0101 with now := 1228799 }
      let s : State := { s0 with port := { s0.port with mics := [(15, { settling := true })] } }
      s.micOn 15 = true ∧ (s.mic 15).settling = true ∧ s.now < (s.mic 15).since + s.rfld (rPortPdmMic 15) 8 8 * 1228800) ∧
    (-- micFrame
      let s0 : State := idle0.setReg (rPortPdmMic 15) 0x0101
      let s : State := { s0 with port := { s0.port with mics := [(15, { clocked := true, bits := [9], rx := [1, 2, 3] })] } }
      (21 : Fin 23).val = 6 + (15 : Fin 16).val ∧ s.micOn 15 = true ∧ (s.mic 15).clocked = true ∧ (s.mic 15).rx.length < 4) ∧
    (-- rawBlock
      let x := { streamOf 5 (desc tStreamOpen 0 [(24, 16), (28, 1), (31, 5), (36, 3), (38, 6)]) with st := 2 }
      let s0 : State := idle0.setFld rConvPdmck 0 4 1
      let s : State := { s0 with mov := { s0.mov with streams := [(7, some x)] } }
      s.audOff = false ∧ s.cnvOff = false ∧ s.rfld rConvPdmck 0 4 ≠ 0 ∧ s.mov.streams = [(7, some x)] ∧ x.fmt = 5 ∧ x.capture = true ∧
      x.closing = false ∧ x.st ≠ 4 ∧ x.wr - x.rd < x.fifoFrames ∧ s.fifoOn x = true) :=
  ⟨by decide +kernel, by decide +kernel, by decide +kernel, by decide +kernel, by decide +kernel, by decide +kernel⟩

theorem test_hyps_SpdifPorts :
    (-- spdif_off
      let s : State := idle0
      s.audOff = false ∧ s.rfld rPortSprStat 0 2 = 0) ∧
    (-- spdif_bad1
      let s : State := idle0.setFld rPortSprStat 0 2 1
      s.rfld rPortSprStat 0 2 = 1) ∧
    (-- spdif_good
      let s : State := { idle0.setFld rPortSprStat 0 2 1 with port := { idle0.port with spr := { rateRun := 8, good := 6 } } }
      s.rfld rPortSprStat 0 2 = 1 ∧ (8 : Fin 16).val ∈ [6, 7, 8, 0xA, 0xB, 0xC, 0xD] ∧ s.port.spr.rateRun = (8 : Fin 16) ∧
      s.port.spr.good < 7) ∧
    (-- spdif_lock
      let s : State := { idle0.setFld rPortSprStat 0 2 1 with port := { idle0.port with spr := { rateRun := 13, good := 7 } } }
      s.rfld rPortSprStat 0 2 = 1 ∧ s.port.spr.rateRun = (13 : Fin 16) ∧ 7 ≤ s.port.spr.good) ∧
    (-- spdif_unlock
      let s : State := { idle0.setFld rPortSprStat 0 2 2 with port := { idle0.port with spr := { bad := 2 } } }
      s.rfld rPortSprStat 0 2 = 2 ∧ 2 ≤ s.port.spr.bad) ∧
    (-- spdif_bad2
      let s : State := { idle0.setFld rPortSprStat 0 2 2 with port := { idle0.port with spr := { bad := 1 } } }
      s.rfld rPortSprStat 0 2 = 2 ∧ s.port.spr.bad < 2) ∧
    (-- spdif_rate
      let s : State := (idle0.setFld rPortSprStat 0 2 2).setFld rPortSprStat 4 4 8
      s.rfld rPortSprStat 0 2 = 2 ∧ s.rfld rPortSprStat 4 4 ≠ (7 : Fin 16)) ∧
    (-- spdif_data
      let s : State := (idle0.setFld rPortSprStat 0 2 2).setFld rPortSprStat 4 4 8
      s.rfld rPortSprStat 0 2 = 2 ∧ s.rfld rPortSprStat 4 4 = (8 : Fin 16) ∧ s.rbit rPortSprStat 9 = false ∧ s.rbit rPortSprCfg 2 = false) ∧
    (-- preambles
      let s : State := (idle0.setFld rPortSprStat 0 2 2).setFld rPortSprStat 4 4 8
      s.rfld rPortSprStat 0 2 = 2) ∧
    (-- preambles_no
      let s : State := idle0.setFld rPortSprStat 0 2 1
      s.rfld rPortSprStat 0 2 ≠ 2) ∧
    (-- csA0
      let s : State := { idle0 with port := { idle0.port with spr := { held := [(0, 5), (11, 6)] } } }
      s.dark (rPortSprCs 0) = none) ∧
    (-- cs5
      let s : State := idle0.setReg (rPortSptCs 1 0) 9
      s.dark (rPortSptCs 1 5) = none) :=
  ⟨by decide +kernel, by decide +kernel, by decide +kernel, by decide +kernel, by decide +kernel, by decide +kernel, by decide +kernel, by decide +kernel, by decide +kernel, by decide +kernel, by decide +kernel, by decide +kernel⟩

theorem test_hyps_SpdifPorts_2 :
    (-- txSpdif
      let s0 : State := run0.setBit (rPortSptCfg 1) 0 true
      let s : State := { s0 with port := { s0.port with spt := [(1, { pos := 191 })] } }
      (6 : Nat) ≤ (7 : Fin 8).val ∧ s.rbit (rPortSptCfg ((7 : Fin 8).val - 6)) 0 = true) := by decide +kernel

theorem test_hyps_Dacs :
    (-- dacStart
      let s : State := idle0
      s.dark (rConvDacCtrl 7) = none ∧ s.dacSt 7 = 0) ∧
    (-- dac_no
      let s : State := idle0.setFld rConvDacStat 28 4 3
      s.dacSt 7 = 3) ∧
    (-- dacStop_run
      let s : State := idle0.setFld rConvDacStat 28 4 2
      s.dacSt 7 = 2) ∧
    (-- dacStop_up
      let s : State := idle0.setFld rConvDacStat 28 4 1
      s.dacSt 7 = 1) ∧
    (-- dacStop_muted
      let s : State := run0.setFld rConvDacStat 28 4 4
      s.dacSt 7 = 4 ∧ s.grpFault 1 = false) ∧
    (-- dacFault
      let s : State := { idle0.setFld rConvDacStat 28 4 4 with port := { idle0.port with grps := [(1, { strbLost := true })] } }
      s.grpFault 1 = true) ∧
    (-- fadeEnd
      let s : State := { idle0.setFld rConvDacStat 28 4 3 with port := { idle0.port with dacs := [(7, { down := true })] } }
      s.dacSt 7 = 3 ∧ (s.dac 7).fade.st = .silent) ∧
    (-- fadeEnd_no
      let s : State := { idle0.setFld rConvDacStat 28 4 3 with now := 1228799, port := { idle0.port with dacs := [(7, { fade := { st := .full } })] } }
      s.dacSt 7 = 3 ∧ (s.dac 7).fade.st ≠ .silent ∧ s.now < (s.dac 7).since + 1228800) ∧
    (-- strbLost
      let s : State := { (run0.setFld (rConvGrp 1) 0 2 3).setFld rConvDacStat 28 4 2 with now := 51200 }
      s.cnvOff = false ∧ s.grpStrb 1 = 3 ∧ (s.grp 1).strbLost = false ∧ (s.grp 1).lastEdge + 2 * 1228800000 / s.d0Rate ≤ s.now) ∧
    (-- strbLost_early
      let s : State := { (run0.setFld (rConvGrp 1) 0 2 3).setFld rConvDacStat 28 4 2 with now := 51199 }
      s.now < (s.grp 1).lastEdge + 2 * 1228800000 / s.d0Rate) ∧
    (-- autoUnmute
      let s0 : State := ((run0.setReg (rConvGrp 1) 8).setFld rConvDacStat 28 4 4)
      let s : State := { s0 with now := 51200, port := { s0.port with grps := [(1, { clearAt := some 0 })] } }
      (s.grp 1).clearAt = some 0 ∧ s.rbit (rConvGrp 1) 3 = true ∧ s.grpFault 1 = false ∧
      0 + 2 * 1228800000 * (s.strbRate 1).2 / (s.strbRate 1).1 ≤ s.now) ∧
    (-- lds
      let s : State := run0.setReg (rConvGrp 1) 3
      s.grpStrb 1 = 3 ∧ true ≠ s.rbit (rConvGrp 1) 2) :=
  ⟨by decide +kernel, by decide +kernel, by decide +kernel, by decide +kernel, by decide +kernel, by decide +kernel, by decide +kernel, by decide +kernel, by decide +kernel, by decide +kernel, by decide +kernel, by decide +kernel⟩

theorem test_hyps_Dacs_2 :
    (-- lds_no
      let s : State := run0.setReg (rConvGrp 1) 3
      s.grpStrb 1 = 3 ∧ false = s.rbit (rConvGrp 1) 2) ∧
    (-- short
      let s : State := idle0.setFld rConvDacStat 28 4 3
      s.cnvOff = false ∧ s.dacSt 7 ≠ 0 ∧ s.dacSt 7 ≠ 5) ∧
    (-- short_off
      let s : State := idle0.setFld rConvDacStat 28 4 5
      s.dacSt 7 = 5) :=
  ⟨by decide +kernel, by decide +kernel, by decide +kernel⟩

theorem test_hyps_ClockSystem :
    (-- pllAcquire
      let s : State := State.reset.setFld rClkPllsStat 0 2 1
      s.pllSt 2 = 1) ∧
    (-- pllSlip
      let s : State := (State.reset.setFld rClkPllsStat 0 2 2).setFld rClkPllsStat 16 8 255
      s.pllSt 2 = 2) ∧
    (-- relock
      let s : State := State.reset.setFld (rClkPllStat 1) 0 2 3
      s.pllSt 1 = 3) ∧
    (-- pllEnable
      let s : State := State.reset
      let v : BitVec 32 := 0x6001
      s.rbit (rClkPllCtrl 0) 0 = false ∧ s.pllOk 0 (fld v 8 8) = true) ∧
    (-- pllEnable_rej
      let s : State := State.reset
      let v : BitVec 32 := 0x6101
      s.rbit (rClkPllCtrl 0) 0 = false ∧ s.pllOk 0 (fld v 8 8) = false) ∧
    (-- pllDisable
      let s : State := (State.reset.setReg (rClkPllCtrl 1) 1).setFld (rClkPllStat 1) 0 2 2
      s.rbit (rClkPllCtrl 1) 0 = true ∧ fld (0 : BitVec 32) 8 8 = s.rfld (rClkPllCtrl 1) 8 8 ∧ s.pllUsed 1 = false) ∧
    (-- pllDisable_used
      let s : State := ((State.reset.setReg (rClkPllCtrl 1) 1).setFld (rClkPllStat 1) 0 2 2).setFld (rClkTickStat 0) 0 4 1
      s.rbit (rClkPllCtrl 1) 0 = true ∧ fld (0 : BitVec 32) 8 8 = s.rfld (rClkPllCtrl 1) 8 8 ∧ s.pllUsed 1 = true) ∧
    (-- ferr
      let s : State := State.reset
      s.rbit rClkPllsStat 9 = false) ∧
    (-- refLost
      let s : State := (((State.reset.setBit rClkRefStat 8 true).setFld (rClkPllStat 0) 0 2 2).setFld (rClkPllStat 1) 0 2 2)
      s.rbit rClkRefStat 8 = true ∧ s.pllSt 0 = 2 ∧ s.pllSt 1 = 2) ∧
    (-- holdMeas
      let s : State := { run0 with clk := { win := 4096 } }
      4096 ≤ s.clk.win) ∧
    (-- ckoCommit
      let s : State := State.reset
      bit (1 : BitVec 32) 1 = false ∧ s.rbit rClkCkoCommit 8 = false ∧ s.ckoOk = true) ∧
    (-- ckoCommit_align
      let s : State := State.reset
      bit (3 : BitVec 32) 1 = true ∧ s.rbit rClkCkoCommit 8 = false ∧ s.ckoOk = true) :=
  ⟨by decide +kernel, by decide +kernel, by decide +kernel, by decide +kernel, by decide +kernel, by decide +kernel, by decide +kernel, by decide +kernel, by decide +kernel, by decide +kernel, by decide +kernel, by decide +kernel⟩

theorem test_hyps_ClockSystem_2 :
    (-- ckoCommit_rej
      let s : State := State.reset.setReg (rClkCkoCfg 3) 7
      (s.rbit rClkCkoCommit 8 || !s.ckoOk) = true) ∧
    (-- ckoPhase
      let s : State := State.reset.setReg (rClkCkoAct 3) 2
      2 ≤ s.rfld (rClkCkoAct 3) 0 3 ∧ s.ckoOdd 3 = false) ∧
    (-- ckoPhase_no
      let s : State := State.reset.setReg (rClkCkoAct 0) 1
      s.rfld (rClkCkoAct 0) 0 3 < 2 ∨ s.ckoOdd 0 = true) :=
  ⟨by decide +kernel, by decide +kernel, by decide +kernel⟩

theorem test_hyps_LinkFrames :
    (-- lock
      let s : State := State.reset.setBit rNgxCtrl 0 true
      s.ngxOn = true ∧ s.rxState = 0) ∧
    (-- lock_no
      let s : State := (State.reset.setBit rNgxCtrl 0 true).setFld rNgxStat 11 2 3
      s.ngxOn = true ∧ s.rxState ≠ 0 ∧ 2 ≤ s.rxState ∧ s.ngx.loss = 0) ∧
    (-- frameLoss3
      let s0 : State := (State.reset.setBit rNgxCtrl 0 true).setFld rNgxStat 11 2 2
      let s : State := { s0 with ngx := { s0.ngx with loss := 2 } }
      s.ngxOn = true ∧ 2 ≤ s.rxState ∧ s.ngx.loss = 2) ∧
    (-- frameLoss_no
      let s : State := (State.reset.setBit rNgxCtrl 0 true).setFld rNgxStat 11 2 1
      s.ngxOn = true ∧ s.rxState < 2) ∧
    (-- frameRecv
      let s0 : State := (State.reset.setBit rNgxCtrl 0 true).setFld rNgxStat 11 2 2
      let s : State := { s0 with ngx := { s0.ngx with good := 2, loss := 2 } }
      let ws : List Word := []
      s.ngxOn = true ∧ s.rxState ≠ 0 ∧ ws.getD 6208 0 = crcWords (frHeader ws)) ∧
    (-- frameRecv_bad
      let s0 : State := (State.reset.setBit rNgxCtrl 0 true).setFld rNgxStat 11 2 2
      let s : State := { s0 with ngx := { s0.ngx with good := 2, loss := 2 } }
      let ws : List Word := [1, 2, 3]
      s.ngxOn = true ∧ s.rxState ≠ 0 ∧ ws.getD 6208 0 ≠ crcWords (frHeader ws)) ∧
    (-- frameOrig
      let s : State := (run0.setBit rNgxCtrl 0 true).setBit rNgxStat 0 true
      s.ngxOn = true ∧ s.isMaster = true) ∧
    (-- frameOrig_idle
      let s : State := (run0.setBit rNgxCtrl 0 true).setBit rNgxStat 0 true
      s.ngxOn = true ∧ s.isMaster = true) ∧
    (-- beacon
      let s0 : State := (idle0.setBit rNgxCtrl 0 true).setFld (rClkTickCtrl 0) 0 7 0x19
      let b : Beacon := ⟨77, 6, 1, true⟩
      let s : State := { s0 with mode := { started := true, runPend := true, baseRun := true }, ngx := { beacon := some b } }
      s.ngxOn = true ∧ s.ngx.beacon = some b ∧ s.isMaster = false ∧ b.run = true ∧ s.mode.runPend = true ∧
      s.rfld (rClkTickCtrl 0) 0 4 = 9 ∧ b.rate = s.rfld (rClkTickCtrl 0) 4 3) ∧
    (-- beacon_rate
      let s0 : State := (idle0.setBit rNgxCtrl 0 true).setFld (rClkTickCtrl 0) 0 7 0x09
      let b : Beacon := ⟨77, 6, 1, true⟩
      let s : State := { s0 with mode := { started := true, runPend := true, baseRun := true }, ngx := { beacon := some b } }
      s.ngxOn = true ∧ s.ngx.beacon = some b ∧ s.isMaster = false ∧ b.run = true ∧ s.mode.runPend = true ∧
      s.rfld (rClkTickCtrl 0) 0 4 = 9 ∧ b.rate ≠ s.rfld (rClkTickCtrl 0) 4 3) ∧
    (-- beacon_none
      let s : State := State.reset.setBit rNgxCtrl 0 true
      s.ngxOn = true ∧ s.ngx.beacon = none) :=
  ⟨by decide +kernel, by decide +kernel, by decide +kernel, by decide +kernel, by decide +kernel, by decide +kernel, by decide +kernel, by decide +kernel, by decide +kernel, by decide +kernel, by decide +kernel⟩

theorem test_hyps_LinkMessages :
    (-- ngxVoid
      let m : Msg := { kind := 1, dst := 0, src := 15, payload := [] }
      let s : State := { State.reset with ngx := { inbox := [m] } }
      let p : State := { State.reset with ngx := { inbox := [] } }
      s.popMsg 1 15 = some (m, p)) ∧
    (-- ngxVoid_none
      let s : State := State.reset
      s.popMsg 1 15 = none) ∧
    (-- ngxAck_other
      let m : Msg := { kind := 2, dst := 0, src := 15, payload := [0x00050003] }
      let s : State := { State.reset with ngx := { inbox := [m] } }
      let p : State := { State.reset with ngx := { inbox := [] } }
      s.popMsg 2 15 = some (m, p) ∧ m.payload = [0x00050003] ∧ fld (0x00050003 : Word) 0 4 ≠ p.devNo) ∧
    (-- ngxAck
      let m : Msg := { kind := 2, dst := 0, src := 15, payload := [0x00050000] }
      let k : Msg := { kind := 3, dst := 15, payload := [], seq := some 5 }
      let l : Msg := { kind := 3, dst := 15, payload := [], seq := some 6 }
      let s : State := { State.reset with ngx := { inbox := [m], msgs := [k, l] } }
      let p : State := { State.reset with ngx := { inbox := [], msgs := [k, l] } }
      s.popMsg 2 15 = some (m, p) ∧ m.payload = [0x00050000] ∧ fld (0x00050000 : Word) 0 4 = p.devNo) ∧
    (-- ngxData_drop
      let m : Msg := { kind := 3, dst := 0, src := 15, ctx := 511, payload := [] }
      let s : State := { State.reset with ngx := { inbox := [m] } }
      let p : State := { State.reset with ngx := { inbox := [] } }
      s.popMsg 3 15 = some (m, p) ∧ (p.proxyOn = false ∨ p.ctxState m.ctx = 0)) ∧
    (-- ngxData
      let m : Msg := { kind := 3, dst := 0, src := 0, ctx := 511, payload := List.replicate 16 7 }
      let s0 : State := (State.reset.setBit rNgxCtrl 1 true).setFld (rCtxtStat 511) 0 3 2
      let s : State := { s0 with ngx := { inbox := [m] } }
      let p : State := { s0 with ngx := { inbox := [] } }
      s.popMsg 3 0 = some (m, p) ∧ p.proxyOn = true ∧ p.ctxState m.ctx ≠ 0 ∧ m.payload.length = 16) ∧
    (-- regRd
      let m : Msg := { kind := 4, dst := 0, src := 0, payload := [0x020000] }
      let s : State := { State.reset with ngx := { inbox := [m] } }
      let p : State := { State.reset with ngx := { inbox := [] } }
      s.popMsg 4 0 = some (m, p) ∧ fld (m.word 0) 0 22 = 0x020000) ∧
    (-- regWr
      let m : Msg := { kind := 5, dst := 0, src := 0, payload := [0x020000, 3] }
      let s : State := { State.reset with ngx := { inbox := [m] } }
      let p : State := { State.reset with ngx := { inbox := [] } }
      s.popMsg 5 0 = some (m, p) ∧ fld (m.word 0) 0 22 = 0x020000) ∧
    (-- regRsp_late
      let m : Msg := { kind := 6, dst := 0, src := 5, payload := [0, 9] }
      let s : State := { State.reset with ngx := { inbox := [m] } }
      let p : State := { State.reset with ngx := { inbox := [] } }
      s.popMsg 6 5 = some (m, p) ∧ p.rbit rNgxRrCmd 31 = false) ∧
    (-- regRsp_read
      let m : Msg := { kind := 6, dst := 0, src := 5, payload := [0, 9] }
      let s0 : State := State.reset.setBit rNgxRrCmd 31 true
      let s : State := { s0 with ngx := { inbox := [m] } }
      let p : State := { s0 with ngx := { inbox := [] } }
      s.popMsg 6 5 = some (m, p) ∧ p.rbit rNgxRrCmd 31 = true ∧ p.rbit rNgxRrCmd 1 = false) ∧
    (-- regRsp_write
      let m : Msg := { kind := 6, dst := 0, src := 5, payload := [0, 9] }
      let s0 : State := (State.reset.setBit rNgxRrCmd 31 true).setBit rNgxRrCmd 1 true
      let s : State := { s0 with ngx := { inbox := [m] } }
      let p : State := { s0 with ngx := { inbox := [] } }
      s.popMsg 6 5 = some (m, p) ∧ p.rbit rNgxRrCmd 31 = true ∧ p.rbit rNgxRrCmd 1 = true) ∧
    (-- rrRead
      let s0 : State := (State.reset.setBit rNgxStat 0 true).setReg rNgxRrAddr 0x0F020000
      let s : State := { s0 with ngx := { sess := List.replicate 15 0 ++ [0x30001] } }
      s.dark rNgxRrCmd = none ∧ s.isMaster = true ∧ s.rbit rNgxRrCmd 31 = false ∧ s.rfld rNgxRrAddr 24 4 = 15 ∧ s.present 15 = true) :=
  ⟨by decide +kernel, by decide +kernel, by decide +kernel, by decide +kernel, by decide +kernel, by decide +kernel, by decide +kernel, by decide +kernel, by decide +kernel, by decide +kernel, by decide +kernel, by decide +kernel⟩

theorem test_hyps_LinkMessages_2 :
    (-- rrRead_rej
      let s : State := (State.reset.setBit rNgxStat 0 true).setReg rNgxRrAddr 0x0F020000
      s.dark rNgxRrCmd = none ∧ s.isMaster = true ∧ s.rbit rNgxRrCmd 31 = false ∧ s.present (s.rfld rNgxRrAddr 24 4) = false) ∧
    (-- msgRepeat
      let k : Msg := { kind := 3, dst := 15, payload := [], seq := some 5, sentAt := 6 }
      let s : State := { State.reset with ngx := { msgs := [k], frames := 10 } }
      let old : Msg → Bool := fun m => m.dst == 15 && !m.resend && m.seq.isSome && decide (m.sentAt + 4 ≤ s.ngx.frames)
      s.ngx.msgs.find? old = some k) ∧
    (-- msgRepeat_no
      let k : Msg := { kind := 3, dst := 15, payload := [], seq := some 5, sentAt := 7 }
      let s : State := { State.reset with ngx := { msgs := [k], frames := 10 } }
      let old : Msg → Bool := fun m => m.dst == 15 && !m.resend && m.seq.isSome && decide (m.sentAt + 4 ≤ s.ngx.frames)
      s.ngx.msgs.find? old = none) ∧
    (-- cascSend_bad
      let d := desc tCascSend 15 [(18, 16), (24, 0x1000)]
      let s : State := withDesc idle0 d
      s.ready 5 9 tCascSend = some d ∧ d.extra = 15 ∧ s.present (15 % 16) = false) ∧
    (-- cascSend
      let d := desc tCascSend 15 [(16, 5), (18, 16), (24, 0x1000)]
      let s : State := { withDesc idle0 d with ngx := { sess := List.replicate 15 0 ++ [0x30001] } }
      s.ready 5 9 tCascSend = some d ∧ d.extra < 16 ∧ d.onlyUses [(16, 3), (24, 8)] = true ∧ d.extra ≠ s.devNo ∧
      s.present d.extra = true ∧ bit (s.sessionOf d.extra) 17 = true ∧ d.num 18 1 = 16 ∧ d.num 16 2 < 512 ∧
      (s.funcOf 5 = 0 ∨ d.num 16 2 = 5) ∧ windowOk (d.num 24 8) (4 * d.num 18 1) = true) :=
  ⟨by decide +kernel, by decide +kernel, by decide +kernel, by decide +kernel, by decide +kernel⟩

theorem test_hyps_HostRelay :
    (-- hrd
      let m : Msg := { kind := 0x10, dst := 0, src := 15, ctx := 511, payload := [0x1000, 0, 0x00070640] }
      let s0 : State := (linked idle0).setFld (rCtxtCtrl 511) 0 6 63
      let s : State := { s0 with ngx := { inbox := [m] } }
      let p : State := { s0 with ngx := { inbox := [] } }
      s.popMsg 0x10 15 = some (m, p) ∧ p.canIssue (p.relayFn m) = true) ∧
    (-- hrd_no
      let m : Msg := { kind := 0x10, dst := 0, src := 15, ctx := 511, payload := [0x1000, 0, 0x00070640] }
      let s : State := { State.reset with ngx := { inbox := [m] } }
      let p : State := { State.reset with ngx := { inbox := [] } }
      s.popMsg 0x10 15 = some (m, p) ∧ p.canIssue (p.relayFn m) = false) ∧
    (-- hwr
      let m : Msg := { kind := 0x12, dst := 0, src := 15, ctx := 511, payload := [0x1000, 0, 0x00070604, 0x01020304] }
      let s0 : State := (linked idle0).setFld (rCtxtCtrl 511) 0 6 63
      let s : State := { s0 with ngx := { inbox := [m] } }
      let p : State := { s0 with ngx := { inbox := [] } }
      s.popMsg 0x12 15 = some (m, p) ∧ SMap.get (fun _ => none) p.ngx.join 15 = none ∧ bit (m.word 2) 11 = false) ∧
    (-- hwr_join
      let m : Msg := { kind := 0x12, dst := 0, src := 15, ctx := 511, payload := [0x1000, 0, 0x00070E04, 0x01020304] }
      let s0 : State := (linked idle0).setFld (rCtxtCtrl 511) 0 6 63
      let s : State := { s0 with ngx := { inbox := [m] } }
      let p : State := { s0 with ngx := { inbox := [] } }
      s.popMsg 0x12 15 = some (m, p) ∧ SMap.get (fun _ => none) p.ngx.join 15 = none ∧ bit (m.word 2) 11 = true) ∧
    (-- hirq
      let m : Msg := { kind := 0x13, dst := 0, src := 15, ctx := 511, payload := [1023] }
      let s0 : State := (linked idle0).setFld (rCtxtCtrl 511) 0 6 63
      let s : State := { s0 with ngx := { inbox := [m] } }
      let p : State := { s0 with ngx := { inbox := [] } }
      s.popMsg 0x13 15 = some (m, p)) ∧
    (-- bootReq
      let m : Msg := { kind := 0x20, dst := 0, src := 15, payload := [16, 112] }
      let s0 : State := idle0.setBit rNgxCtrl 3 true
      let s : State := { s0 with ngx := { inbox := [m] } }
      let p : State := { s0 with ngx := { inbox := [] } }
      s.popMsg 0x20 15 = some (m, p) ∧ s.keeperRuns = true) ∧
    (-- bootData_none
      let m : Msg := { kind := 0x21, dst := 0, src := 0, payload := [0, 0] }
      let s0 : State := { State.reset with boot := { phase := 2, cur := 6 } }
      let s : State := { s0 with ngx := { inbox := [m] } }
      let p : State := { s0 with ngx := { inbox := [] } }
      s.popMsg 0x21 0 = some (m, p) ∧ p.boot.cur = 6 ∧ p.boot.phase = 2 ∧ fld (m.word 1) 0 7 = 0) ∧
    (-- bootData_order
      let m : Msg := { kind := 0x21, dst := 0, src := 0, payload := [4, 4, 0] }
      let s0 : State := { State.reset with boot := { phase := 2, cur := 6 } }
      let s : State := { s0 with ngx := { inbox := [m] } }
      let p : State := { s0 with ngx := { inbox := [] } }
      s.popMsg 0x21 0 = some (m, p) ∧ p.boot.cur = 6 ∧ p.boot.phase = 2 ∧ fld (m.word 1) 0 7 ≠ 0 ∧ (m.word 0).toNat ≠ p.boot.img.length) ∧
    (-- bootData
      let m : Msg := { kind := 0x21, dst := 0, src := 0, payload := [0, 4, 0x01020304] }
      let s0 : State := { State.reset with boot := { phase := 2, cur := 6 } }
      let s : State := { s0 with ngx := { inbox := [m] } }
      let p : State := { s0 with ngx := { inbox := [] } }
      s.popMsg 0x21 0 = some (m, p) ∧ p.boot.cur = 6 ∧ p.boot.phase = 2 ∧ fld (m.word 1) 0 7 ≠ 0 ∧ (m.word 0).toNat = p.boot.img.length) ∧
    (-- hrdCpl_old
      let m : Msg := { kind := 0x11, dst := 0, src := 0, payload := [0x0000FFFF, 0] }
      let s : State := { State.reset with ngx := { inbox := [m] } }
      s.ngx.inbox.find? (fun m => m.kind == 0x11 && fld (m.word 0) 0 16 == 65535) = some m ∧
      s.pcie.outst.find? (fun o => o.tag == 1024 + 65535) = none) ∧
    (-- hrdCpl_fail
      let m : Msg := { kind := 0x11, dst := 0, src := 0, payload := [0x0001FFFF, 0] }
      let o : Outst := ⟨1024 + 65535, 63, .mover 7, 0⟩
      let s : State := { State.reset with ngx := { inbox := [m] }, pcie := { outst := [o] }, mov := { movers := [(7, some ⟨.copy 5 9 0 64, true, 0⟩)] } }
      s.ngx.inbox.find? (fun m => m.kind == 0x11 && fld (m.word 0) 0 16 == 65535) = some m ∧
      s.pcie.outst.find? (fun o => o.tag == 1024 + 65535) = some o ∧ o.who = .mover 7 ∧ fld (m.word 0) 16 2 = 1) ∧
    (-- hrdCpl
      let m : Msg := { kind := 0x11, dst := 0, src := 0, payload := [0x0000FFFF, 4, 0x01020304] }
      let o : Outst := ⟨1024 + 65535, 63, .mover 7, 0⟩
      let s : State := { State.reset with ngx := { inbox := [m] }, pcie := { outst := [o] }, mov := { movers := [(7, some ⟨.copy 5 9 0 4, true, 0⟩)] } }
      s.ngx.inbox.find? (fun m => m.kind == 0x11 && fld (m.word 0) 0 16 == 65535) = some m ∧
      s.pcie.outst.find? (fun o => o.tag == 1024 + 65535) = some o ∧ o.who = .mover 7 ∧ fld (m.word 0) 16 2 = 0 ∧ s.ngx.got = [] ∧
      s.pcie.outst.filter (fun r => r.who == o.who) = [o] ∧ SMap.get (fun _ => none) s.mov.movers 7 = some ⟨.copy 5 9 0 4, true, 0⟩) :=
  ⟨by decide +kernel, by decide +kernel, by decide +kernel, by decide +kernel, by decide +kernel, by decide +kernel, by decide +kernel, by decide +kernel, by decide +kernel, by decide +kernel, by decide +kernel, by decide +kernel⟩

theorem test_hyps_HostRelay_2 :
    (-- relayTmo_early
      let o : Outst := ⟨1024 + 65535, 63, .mover 7, 0⟩
      let s : State := { State.reset with now := 61439999, pcie := { outst := [o] }, mov := { movers := [(7, some ⟨.copy 5 9 0 64, true, 0⟩)] } }
      s.pcie.outst.find? (fun o => o.tag == 1024 + 65535) = some o ∧ o.who = .mover 7 ∧ s.now < o.at' + 61440000) ∧
    (-- relayTmo
      let o : Outst := ⟨1024 + 65535, 63, .mover 7, 0⟩
      let s : State := { State.reset with now := 61440000, pcie := { outst := [o] }, mov := { movers := [(7, some ⟨.copy 5 9 0 64, true, 0⟩)] } }
      s.pcie.outst.find? (fun o => o.tag == 1024 + 65535) = some o ∧ o.who = .mover 7 ∧ o.at' + 61440000 ≤ s.now) :=
  ⟨by decide +kernel, by decide +kernel⟩

theorem test_hyps_CascadeCommits :
    (-- cascCommit_bad
      let d := { desc tCommit (63 + 1024) [] with started := true }
      let s : State := withDesc idle0 d
      s.waitingCommit 5 9 2 = some d ∧ s.isMaster = false) ∧
    (-- cascCommit
      let d : OpenDesc := { desc tCommit (63 + 1024 + 256) [(16, 100), (24, 0x8000)] with started := true }
      let s0 : State := ((withDesc idle0 d).setBit rNgxStat 0 true).setReg (rFabCgCtrl 63) 0x80000205
      let s : State := { s0 with ngx := { sess := List.replicate 15 0 ++ [0x30001] }, par := { groups := [(63, { members := [.swap 1 true true 5 8] })] } }
      s.waitingCommit 5 9 2 = some d ∧ s.isMaster = true ∧ s.rbit (rFabCgCtrl 63) 9 = true ∧ d.num 24 2 = 0x8000 ∧
      (∀ p : Fin 16, bit (0x8000 : BitVec 16) p = true → s.present p = true) ∧ s.armBad 63 d = false) ∧
    (-- cascCommit_next
      let d : OpenDesc := { desc tCommit (63 + 1024) [(16, 100), (24, 0x8000)] with started := true }
      let s0 : State := ((withDesc idle0 d).setBit rNgxStat 0 true).setReg (rFabCgCtrl 63) 0x80000205
      let s : State := { s0 with ngx := { sess := List.replicate 15 0 ++ [0x30001] }, par := { groups := [(63, { members := [.swap 1 true true 5 8] })] } }
      s.waitingCommit 5 9 2 = some d ∧ s.isMaster = true ∧ s.rbit (rFabCgCtrl 63) 9 = true ∧ d.num 24 2 = 0x8000 ∧
      (∀ p : Fin 16, bit (0x8000 : BitVec 16) p = true → s.present p = true) ∧ s.armBad 63 d = false) ∧
    (-- decision_cancel
      let a : Arm := { mask := 2, cancelled := true, origDue := 50 }
      let s : State := { run0.setReg (rFabCgCtrl 63) 0x80003205 with par := { groups := [(63, { arm := some a })] } }
      (s.group 63).arm = some a ∧ s.groupSt 63 = 3 ∧ a.cancelled = true) ∧
    (-- decision_wait
      let a : Arm := { mask := 2, origDue := 8 }
      let s : State := { run0.setReg (rFabCgCtrl 63) 0x80003205 with par := { groups := [(63, { arm := some a })] } }
      (s.group 63).arm = some a ∧ s.groupSt 63 = 3 ∧ a.cancelled = false ∧ s.run48 = true ∧ s.keeperRuns = true ∧ a.next = false ∧
      a.origDue ≥ s.frameStart + s.frameTicks + 2 * s.frameTicks) ∧
    (-- decision_refused
      let a : Arm := { mask := 2, origDue := 7, refused := true }
      let s : State := { run0.setReg (rFabCgCtrl 63) 0x80003205 with par := { groups := [(63, { arm := some a })] } }
      (s.group 63).arm = some a ∧ s.groupSt 63 = 3 ∧ a.cancelled = false ∧ s.run48 = true ∧ s.keeperRuns = true ∧ a.next = false ∧
      a.origDue < s.frameStart + s.frameTicks + 2 * s.frameTicks ∧ a.refused = true) ∧
    (-- decision_go
      let a : Arm := { mask := 2, origDue := 7, armed := 2 }
      let s : State := { run0.setReg (rFabCgCtrl 63) 0x80003205 with par := { groups := [(63, { arm := some a })] } }
      (s.group 63).arm = some a ∧ s.groupSt 63 = 3 ∧ a.cancelled = false ∧ s.run48 = true ∧ s.keeperRuns = true ∧ a.next = false ∧
      a.origDue < s.frameStart + s.frameTicks + 2 * s.frameTicks ∧ a.refused = false ∧ a.armed &&& a.mask = a.mask) ∧
    (-- decision_late
      let a : Arm := { mask := 2, origDue := 6, armed := 2 }
      let s : State := { run0.setReg (rFabCgCtrl 63) 0x80003205 with par := { groups := [(63, { arm := some a })] } }
      (s.group 63).arm = some a ∧ s.groupSt 63 = 3 ∧ a.cancelled = false ∧ s.run48 = true ∧ s.keeperRuns = true ∧ a.next = false ∧
      a.origDue < s.frameStart + 2 * s.frameTicks ∧ a.refused = false ∧ a.armed &&& a.mask = a.mask) ∧
    (-- arm_empty
      let m : Msg := { kind := 8, dst := 0, src := 0, payload := [63, 5, 0] }
      let s0 : State := idle0
      let s : State := { s0 with ngx := { inbox := [m] } }
      let p : State := { s0 with ngx := { inbox := [] } }
      s.popMsg 8 0 = some (m, p) ∧ s.keeperRuns = true ∧ (p.group m.group).members = []) ∧
    (-- arm
      let m : Msg := { kind := 8, dst := 0, src := 0, payload := [63, 5, 1] }
      let s0 : State := { idle0.setReg (rFabCgCtrl 63) 0x80001205 with par := { groups := [(63, { members := [.swap 1 true true 5 8] })] } }
      let s : State := { s0 with ngx := { inbox := [m] } }
      let p : State := { s0 with ngx := { inbox := [] } }
      s.popMsg 8 0 = some (m, p) ∧ s.keeperRuns = true ∧ p.rbit (rFabCgCtrl m.group) 31 = true ∧ p.rbit (rFabCgCtrl m.group) 9 = true ∧
      (p.group m.group).members ≠ [] ∧ (p.groupSt m.group = 1 ∨ p.groupSt m.group = 5)) ∧
    (-- armed
      let m : Msg := { kind := 9, dst := 0, src := 15, payload := [63] }
      let a : Arm := { mask := 0x8002, armed := 2 }
      let s0 : State := { idle0.setReg (rFabCgCtrl 63) 0x80003205 with par := { groups := [(63, { arm := some a })] } }
      let s : State := { s0 with ngx := { inbox := [m] } }
      let p : State := { s0 with ngx := { inbox := [] } }
      s.popMsg 9 15 = some (m, p) ∧ (p.group m.group).arm = some a ∧ p.groupSt m.group = 3) ∧
    (-- armRefused
      let m : Msg := { kind := 0x0A, dst := 0, src := 15, payload := [63] }
      let a : Arm := { mask := 0x8002, armed := 2 }
      let s0 : State := { idle0.setReg (rFabCgCtrl 63) 0x80003205 with par := { groups := [(63, { arm := some a })] } }
      let s : State := { s0 with ngx := { inbox := [m] } }
      let p : State := { s0 with ngx := { inbox := [] } }
      s.popMsg 0x0A 15 = some (m, p) ∧ (p.group m.group).arm = some a ∧ p.groupSt m.group = 3) :=
  ⟨by decide +kernel, by decide +kernel, by decide +kernel, by decide +kernel, by decide +kernel, by decide +kernel, by decide +kernel, by decide +kernel, by decide +kernel, by decide +kernel, by decide +kernel, by decide +kernel⟩

theorem test_hyps_CascadeCommits_2 :
    (-- applied_more
      let m : Msg := { kind := 0x0B, dst := 0, src := 15, payload := [63, 8, 0] }
      let a : Arm := { mask := 0x8002, applied := 2, origDue := 7 }
      let s0 : State := { idle0.setReg (rFabCgCtrl 63) 0x80004205 with par := { groups := [(63, { arm := some a, members := [.swap 1 true true 5 8] })] } }
      let s : State := { s0 with ngx := { inbox := [m] } }
      let p : State := { s0 with ngx := { inbox := [] } }
      s.popMsg 0x0B 15 = some (m, p) ∧ (p.group m.group).arm = some a ∧ p.groupSt m.group = 4 ∧ (p.group m.group).members ≠ []) ∧
    (-- applied_end
      let m : Msg := { kind := 0x0B, dst := 0, src := 15, payload := [63, 7, 0] }
      let a : Arm := { mask := 0x8002, applied := 2, origDue := 7 }
      let s0 : State := { idle0.setReg (rFabCgCtrl 63) 0x80004205 with par := { groups := [(63, { arm := some a })] } }
      let s : State := { s0 with ngx := { inbox := [m] } }
      let p : State := { s0 with ngx := { inbox := [] } }
      s.popMsg 0x0B 15 = some (m, p) ∧ (p.group m.group).arm = some a ∧ p.groupSt m.group = 4 ∧ (p.group m.group).members = [] ∧
      ((a.applied ||| 0x8000) ||| a.missing) &&& a.mask = a.mask) ∧
    (-- notArmed_more
      let m : Msg := { kind := 0x0C, dst := 0, src := 15, payload := [63, 7, 0] }
      let a : Arm := { mask := 0x8002, applied := 2, origDue := 7 }
      let s0 : State := { idle0.setReg (rFabCgCtrl 63) 0x80004205 with par := { groups := [(63, { arm := some a, members := [.swap 1 true true 5 8] })] } }
      let s : State := { s0 with ngx := { inbox := [m] } }
      let p : State := { s0 with ngx := { inbox := [] } }
      s.popMsg 0x0C 15 = some (m, p) ∧ (p.group m.group).arm = some a ∧ p.groupSt m.group = 4 ∧ (p.group m.group).members ≠ []) ∧
    (-- notArmed_end
      let m : Msg := { kind := 0x0C, dst := 0, src := 15, payload := [63, 7, 0] }
      let a : Arm := { mask := 0x8002, applied := 2, origDue := 7 }
      let s0 : State := { idle0.setReg (rFabCgCtrl 63) 0x80004205 with par := { groups := [(63, { arm := some a })] } }
      let s : State := { s0 with ngx := { inbox := [m] } }
      let p : State := { s0 with ngx := { inbox := [] } }
      s.popMsg 0x0C 15 = some (m, p) ∧ (p.group m.group).arm = some a ∧ p.groupSt m.group = 4 ∧ (p.group m.group).members = [] ∧
      (a.applied ||| (a.missing ||| 0x8000)) &&& a.mask = a.mask) ∧
    (-- abortAck
      let m : Msg := { kind := 0x0D, dst := 0, src := 15, payload := [63] }
      let s0 : State := { idle0 with par := { decisions := [⟨63, false, 7, 0x8000⟩, ⟨62, false, 7, 0x8000⟩, ⟨63, true, 7, 0x8000⟩] } }
      let s : State := { s0 with ngx := { inbox := [m] } }
      let p : State := { s0 with ngx := { inbox := [] } }
      s.popMsg 0x0D 15 = some (m, p)) :=
  ⟨by decide +kernel, by decide +kernel, by decide +kernel, by decide +kernel, by decide +kernel⟩

theorem test_hyps_LanternPage :
    (-- lantern_no
      let s : State := { idle0.setBit rTopLanternCtrl 0 true with now := 1228799 }
      s.now < s.keep.lanAt + 1228800) ∧
    (-- lantern
      let s : State := { idle0.setBit rTopLanternCtrl 0 true with now := 1228800 }
      s.keep.lanAt + 1228800 ≤ s.now ∧ s.rbit rTopLanternCtrl 0 = true ∧ s.keeperRuns = true) :=
  ⟨by decide +kernel, by decide +kernel⟩

theorem test_hyps_RecoveryTriggers :
    (-- keeperFault
      let s : State := idle0
      s.mode.started = true ∧ s.rlf ≠ rlfFault ∧ s.rlf ≠ rlfMinimal ∧ s.recentStarts.length < 2) ∧
    (-- keeperFault_third
      let s : State := { idle0 with now := 100, keep := { starts := [10, 0] } }
      s.mode.started = true ∧ s.rlf ≠ rlfFault ∧ s.rlf ≠ rlfMinimal ∧ ¬ (s.recentStarts.length < 2)) ∧
    (-- keeperFault_early
      let s : State := State.reset
      ¬ (s.mode.started = true ∧ s.rlf ≠ rlfFault ∧ s.rlf ≠ rlfMinimal)) ∧
    (-- restart
      let s : State := idle0
      s.mode.started = true ∧ s.rlf ≠ rlfFault ∧ s.rlf ≠ rlfMinimal ∧ s.recovering = false ∧ s.recentStarts.length < 2) ∧
    (-- restart_rej
      let s : State := idle0.setFld rTopRlfStat 0 3 6
      s.recovering = true ∨ s.rlf = rlfFault) ∧
    (-- heartbeat
      let s : State := { (idle0.setFld rTopRlfHb 0 16 0xFFFF).setFld rTopRlfHb 16 2 1 with keep := { waitFirst := true } }
      s.keeperRuns = true) ∧
    (-- heartbeat_no
      let s : State := { idle0 with keep := { halted := true } }
      s.keeperRuns = false) ∧
    (-- miss_early
      let s : State := { idle0 with now := tMiss - 1 }
      s.watching = true ∧ s.keep.waitFirst = false ∧ s.now < s.keep.hbAt + tMiss) ∧
    (-- miss1
      let s : State := { idle0 with now := tMiss }
      s.watching = true ∧ s.keep.waitFirst = false ∧ s.keep.hbAt + tMiss ≤ s.now ∧ s.rfld rTopRlfHb 16 2 = 0) ∧
    (-- miss2
      let s : State := { idle0.setFld rTopRlfHb 16 2 1 with now := tMiss }
      s.watching = true ∧ s.keep.waitFirst = false ∧ s.keep.hbAt + tMiss ≤ s.now ∧ s.rfld rTopRlfHb 16 2 ≠ 0 ∧ s.recentStarts.length < 2) ∧
    (-- firstHb
      let s : State := { idle0 with now := 122880000, keep := { waitFirst := true } }
      s.watching = true ∧ s.keep.waitFirst = true ∧ s.keep.released + 122880000 ≤ s.now ∧ s.recentStarts.length < 2) ∧
    (-- firstHb_early
      let s : State := { idle0 with now := 122879999, keep := { waitFirst := true } }
      s.watching = true ∧ s.keep.waitFirst = true ∧ s.now < s.keep.released + 122880000) :=
  ⟨by decide +kernel, by decide +kernel, by decide +kernel, by decide +kernel, by decide +kernel, by decide +kernel, by decide +kernel, by decide +kernel, by decide +kernel, by decide +kernel, by decide +kernel, by decide +kernel⟩

theorem test_hyps_RecoverySteps :
    (-- copyCheck
      let s : State := { idle0.setFld rTopRlfStat 0 3 2 with mode := { started := true, recovery := true } }
      s.rlf = rlfReset ∨ s.rlf = rlfLoad) ∧
    (-- copyCheck_good
      let s : State := (idle0.setFld rTopRlfStat 0 3 2).setBytes48 rSecFwDigest (sha384 (List.replicate 512 0))
      s.rlf = rlfLoad) ∧
    (-- copyCheck_no
      let s : State := idle0
      s.rlf ≠ rlfReset ∧ s.rlf ≠ rlfLoad) ∧
    (-- flashReload
      let s : State := idle0.setFld rTopRlfStat 0 3 3
      s.rlf = rlfFlash ∧ s.spim.held = none) ∧
    (-- flashReload_no
      let s : State := idle0
      s.rlf ≠ rlfFlash) ∧
    (-- rebuildEnd
      let s : State := { idle0.setFld rTopRlfStat 0 4 12 with mode := { started := true, recovery := true } }
      s.rlf = rlfRebuild) ∧
    (-- rebuildEnd_no
      let s : State := idle0
      s.rlf ≠ rlfRebuild) ∧
    (-- tmr3
      let s : State := idle0
      (2 : Nat) ≤ (2 : Fin 4).val ∧ s.rlf ≠ rlfFault) ∧
    (-- tmr_fault
      let s : State := idle0.setFld rTopRlfStat 0 3 6
      s.rlf = rlfFault) :=
  ⟨by decide +kernel, by decide +kernel, by decide +kernel, by decide +kernel, by decide +kernel, by decide +kernel, by decide +kernel, by decide +kernel, by decide +kernel⟩

theorem test_hyps_StartUp :
    (-- bootRom
      let s : State := { State.reset with boot := { phase := 1 }, pwr := { perstHeld := false } }
      s.boot.phase = 1 ∧ s.pwr.perstHeld = false ∧ s.tap.held = false) ∧
    (-- bootRom_done
      let s : State := { State.reset with boot := { phase := 1, bootDone := true }, pwr := { perstHeld := false } }
      s.boot.phase = 1 ∧ s.pwr.perstHeld = false ∧ s.tap.held = false ∧ s.boot.bootDone = true) ∧
    (-- bootRom_no
      let s : State := State.reset
      s.boot.phase ≠ 1) ∧
    (-- sourceTry_nokey
      let s : State := { State.reset with boot := { phase := 2, left := [1] }, mode := { boot := 2 } }
      s.boot.phase = 2 ∧ s.boot.cur = 0 ∧ s.mode.boot = 2 ∧ (∀ k : Fin 4, s.keyUsable k = false)) ∧
    (-- sourceTry_none
      let s : State := { State.reset with boot := { phase := 2, att := 2, vals := [(0, 1)] }, mode := { boot := 2 } }
      s.boot.phase = 2 ∧ s.boot.cur = 0 ∧ s.mode.boot = 2 ∧ s.keyUsable 0 = true ∧ s.boot.left = []) ∧
    (-- sourceTry_host
      let s : State := { State.reset with boot := { phase := 2, att := 2, vals := [(47, 1)], left := [5, 1] }, mode := { boot := 2 } }
      s.boot.phase = 2 ∧ s.boot.cur = 0 ∧ s.mode.boot = 2 ∧ s.keyUsable 3 = true ∧ s.boot.left = [5, 1]) ∧
    (-- sourceTry_casc
      let s : State := { State.reset with now := 7, boot := { phase := 2, vals := [(47, 1)], left := [6, 1] }, mode := { boot := 2 } }
      s.boot.phase = 2 ∧ s.boot.cur = 0 ∧ s.mode.boot = 2 ∧ s.keyUsable 3 = true ∧ s.boot.left = [6, 1]) ∧
    (-- sourceTry_flash
      let s : State := { State.reset with boot := { phase := 2, vals := [(47, 1)], left := [3] }, mode := { boot := 2 } }
      s.boot.phase = 2 ∧ s.boot.cur = 0 ∧ s.mode.boot = 2 ∧ s.keyUsable 3 = true ∧ s.boot.left = [3] ∧ (1 : Nat) ≤ 3) ∧
    (-- stage1
      let s : State := { State.reset with boot := { phase := 3, cur := 3 } }
      s.boot.phase = 3) ∧
    (-- stage1_no
      let s : State := State.reset
      s.boot.phase ≠ 3 ∧ s.boot.phase ≠ 4 ∧ s.boot.phase ≠ 5) ∧
    (-- keeperImg
      let s : State := { State.reset with boot := { phase := 4, cur := 6 } }
      s.boot.phase = 4 ∧ s.boot.cur < 16) ∧
    (-- initDone
      let s : State := { State.reset with boot := { phase := 5, cur := 6, att := 2, wd := some 0 } }
      s.boot.phase = 5) :=
  ⟨by decide +kernel, by decide +kernel, by decide +kernel, by decide +kernel, by decide +kernel, by decide +kernel, by decide +kernel, by decide +kernel, by decide +kernel, by decide +kernel, by decide +kernel, by decide +kernel⟩

theorem test_hyps_StartUp_2 :
    (-- watchdog
      let s : State := { State.reset with now := 1105920000, boot := { phase := 4, wd := some 0, att := 3 } }
      s.boot.wd = some 0 ∧ 0 + 1105920000 ≤ s.now) ∧
    (-- watchdog_early
      let s : State := { State.reset with now := 1105919999, boot := { phase := 4, wd := some 0, att := 3 } }
      s.boot.wd = some 0 ∧ s.now < 0 + 1105920000) ∧
    (-- awaitTmo
      let s : State := { State.reset with now := 2457600000, mode := { boot := 3 }, boot := { phase := 2, cur := 5, left := [1] } }
      s.mode.boot = 3 ∧ s.mode.started = false ∧ s.boot.left ≠ [] ∧ s.boot.awaitAt + 2457600000 ≤ s.now) ∧
    (-- awaitTmo_early
      let s : State := { State.reset with now := 2457599999, mode := { boot := 3 }, boot := { phase := 2, cur := 5, left := [1] } }
      s.mode.boot = 3 ∧ s.mode.started = false ∧ s.boot.left ≠ [] ∧ s.now < s.boot.awaitAt + 2457600000) ∧
    (-- cascTmo
      let s : State := { State.reset with now := 245760000, mode := { boot := 2 }, boot := { phase := 2, cur := 6, left := [1] } }
      s.boot.cur = 6 ∧ s.boot.phase = 2 ∧ s.rfld rNgxStat 11 2 ≠ 3 ∧ s.boot.cascAt + 245760000 ≤ s.now) ∧
    (-- cascTmo_early
      let s : State := { State.reset with now := 245759999, mode := { boot := 2 }, boot := { phase := 2, cur := 6, left := [1] } }
      s.boot.cur = 6 ∧ s.boot.phase = 2 ∧ s.rfld rNgxStat 11 2 ≠ 3 ∧ s.now < s.boot.cascAt + 245760000) :=
  ⟨by decide +kernel, by decide +kernel, by decide +kernel, by decide +kernel, by decide +kernel, by decide +kernel⟩

theorem test_hyps_TrustRequests :
    (-- upd_busy
      let s : State := idle0.setBit rBootUpd 0 true
      s.rbit rBootUpd 0 = true) ∧
    (-- upd
      let s : State := idle0
      s.rbit rBootUpd 0 = false) ∧
    (-- arb_busy
      let s : State := idle0.setBit rBootArb 0 true
      s.rbit rBootArb 0 = true) ∧
    (-- arb_mode
      let s : State := { idle0 with mode := { started := true, recovery := true } }
      s.rbit rBootArb 0 = false ∧ s.quietMode = false) ∧
    (-- arb
      let s : State := { idle0 with boot := { idle0.boot with stage1Ver := 3, keeperVer := 40 } }
      s.rbit rBootArb 0 = false ∧ s.quietMode = true ∧ s.dukOk = true) ∧
    (-- otp_busy
      let s : State := idle0.setBit rBootOtpPgm 31 true
      s.rbit rBootOtpPgm 31 = true) ∧
    (-- otp_denied
      let s : State := idle0.setReg rBootOtpData 5
      s.rbit rBootOtpPgm 31 = false ∧ (s.quietMode = false ∨ ((111 : Fin 128).val ≠ 48 ∧ (111 : Fin 128).val < 112))) ∧
    (-- otp
      let s : State := idle0.setReg rBootOtpData 5
      s.rbit rBootOtpPgm 31 = false ∧ s.quietMode = true ∧ (112 : Nat) ≤ (112 : Fin 128).val) ∧
    (-- mbx_no
      let s : State := idle0
      s.mbxWaits false = false) ∧
    (-- mbx
      let k : FixOp := { at' := 0, ok := false, write := true, waits := true, len := 4 }
      let s : State := { idle0 with boot := { idle0.boot with mbx := some k } }
      s.boot.mbx = some k ∧ k.waits = true ∧ k.boot = false ∧ k.spis = false) ∧
    (-- mbxBoot
      let k : FixOp := { at' := 0, ok := false, boot := true, waits := true, len := 4 }
      let s : State := { idle0 with boot := { idle0.boot with mbx := some k } }
      s.boot.mbx = some k ∧ k.waits = true ∧ k.boot = true ∧ s.modeCode ≠ 3) ∧
    (-- dbgGo_busy
      let s : State := idle0.setBit rSecDbgStat 0 true
      s.rbit rSecDbgStat 0 = true) :=
  ⟨by decide +kernel, by decide +kernel, by decide +kernel, by decide +kernel, by decide +kernel, by decide +kernel, by decide +kernel, by decide +kernel, by decide +kernel, by decide +kernel, by decide +kernel, by decide +kernel⟩

theorem test_hyps_TrustRequests_2 :
    (-- dbgGo
      let s : State := idle0
      s.rbit rSecDbgStat 0 = false ∧ s.boot.chalOk = false) ∧
    (-- dbgClose
      let s : State := { idle0.setBit rSecDbgStat 1 true with mode := { started := true, session := true } }
      s.mode.session = true) ∧
    (-- dbgClose_no
      let s : State := idle0
      s.mode.session = false) ∧
    (-- chalExp
      let s : State := { idle0 with now := 73728000000, boot := { phase := 6, chalOk := true } }
      s.boot.chalAt + 73728000000 ≤ s.now) ∧
    (-- chalExp_no
      let s : State := { idle0 with now := 73727999999, boot := { phase := 6, chalOk := true } }
      s.now < s.boot.chalAt + 73728000000) ∧
    (-- fixed0
      let k : FixOp := { at' := 0, ok := true }
      let s : State := { idle0.setBit rSecDbgStat 0 true with now := 61440000, boot := { phase := 6, dbg := some k } }
      s.boot.dbg = some k ∧ k.at' + 1228800 * 50 ≤ s.now) ∧
    (-- fixed1
      let k : FixOp := { at' := 0, ok := false, reason := 0x16 }
      let s : State := { idle0.setBit rBootOtpPgm 31 true with now := 61440000, boot := { phase := 6, otp := some k } }
      s.boot.otp = some k ∧ k.at' + 1228800 * 50 ≤ s.now) ∧
    (-- fixed2
      let k : FixOp := { at' := 0, ok := true }
      let s : State := { idle0.setBit rBootUpd 0 true with now := 1228800000, boot := { phase := 6, upd := some k } }
      s.boot.upd = some k ∧ k.at' + 1228800 * 1000 ≤ s.now) ∧
    (-- fixed3
      let k : FixOp := { at' := 0, ok := false, reason := 0x19 }
      let s : State := { idle0.setBit rBootArb 0 true with now := 1228800000, boot := { phase := 6, arb := some k } }
      s.boot.arb = some k ∧ k.at' + 1228800 * 1000 ≤ s.now) ∧
    (-- fixed4
      let k : FixOp := { at' := 0, ok := false, write := true, reason := 0x01 }
      let s : State := { idle0.setBit rBootMbxStat 0 true with now := 1228800000, boot := { phase := 6, mbx := some k } }
      s.boot.mbx = some k ∧ k.at' + 1228800 * 1000 ≤ s.now) ∧
    (-- fixed4_ok
      let k : FixOp := { at' := 0, ok := true, boot := true }
      let s : State := { idle0.setBit rBootMbxStat 0 true with now := 1228800000, boot := { phase := 6, mbx := some k } }
      s.boot.mbx = some k ∧ k.at' + 1228800 * 1000 ≤ s.now) ∧
    (-- fixed_early
      let k : FixOp := { at' := 0, ok := true }
      let s : State := { idle0 with now := 61439999, boot := { phase := 6, dbg := some k, otp := some k } }
      s.boot.dbg = some k ∧ s.boot.otp = some k ∧ ¬ (k.at' + 1228800 * 50 ≤ s.now)) :=
  ⟨by decide +kernel, by decide +kernel, by decide +kernel, by decide +kernel, by decide +kernel, by decide +kernel, by decide +kernel, by decide +kernel, by decide +kernel, by decide +kernel, by decide +kernel, by decide +kernel⟩

theorem test_hyps_TrustRequests_3 :
    (-- fixed_early1000
      let k : FixOp := { at' := 0, ok := true }
      let s : State := { idle0 with now := 1228799999, boot := { phase := 6, upd := some k, arb := some k, mbx := some k } }
      s.boot.upd = some k ∧ s.boot.arb = some k ∧ s.boot.mbx = some k ∧ ¬ (k.at' + 1228800 * 1000 ≤ s.now)) ∧
    (-- dmExt_soon
      let s : State := { idle0 with now := 2457, boot := { phase := 6, dmAt := some 0 } }
      s.boot.dmAt = some 0 ∧ s.now < 0 + 2458) ∧
    (-- dmExt
      let s : State := idle0
      s.boot.dmAt = none) ∧
    (-- minPath
      let s : State := { State.reset with mode := { boot := 4 } }
      s.mode.boot = 4 ∧ s.mode.started = false ∧ s.rbit rBootMinCfg 31 = false) :=
  ⟨by decide +kernel, by decide +kernel, by decide +kernel, by decide +kernel⟩

theorem test_hyps_FlashCommands :
    (-- flash_busy
      let s : State := idle0.setReg rSpimPfCmd 0x8000FF03
      s.rbit rSpimPfCmd 31 = true ∧ s.rfld rSpimPfCmd 8 8 = 255) ∧
    (-- flash_prot
      let s : State := ((idle0.setFld rSpimCfg 16 5 26).setReg rSpimPfCmd 0xFF02).setReg rSpimPfAddr 0xFFFF
      s.rbit rSpimPfCmd 31 = false ∧ s.rfld rSpimPfAddr 0 26 < 0x10000) ∧
    (-- flash_page
      let s : State := ((idle0.setFld rSpimCfg 16 5 26).setReg rSpimPfCmd 0x0102).setReg rSpimPfAddr 0x100FF
      s.rbit rSpimPfCmd 31 = false ∧ 0x10000 ≤ s.rfld rSpimPfAddr 0 26 ∧ 256 < s.rfld rSpimPfAddr 0 26 % 256 + 2) ∧
    (-- flash_range
      let s : State := ((idle0.setFld rSpimCfg 16 5 20).setReg rSpimPfCmd 0x0001).setReg rSpimPfAddr 0x100000
      s.rbit rSpimPfCmd 31 = false ∧ 2 ^ s.rfld rSpimCfg 16 5 < s.rfld rSpimPfAddr 0 26 + 1) ∧
    (-- flash_prog
      let s0 : State := (((idle0.setFld rSpimCfg 16 5 26).setReg rSpimPfCmd 0x0002).setReg rSpimPfAddr 0x100FF).setReg (rSpimPfBuf 0) 0x0F
      let s : State := { s0 with boot := { phase := 6, flash := [(0x100FF, 0x3C)] } }
      s.rbit rSpimPfCmd 31 = false ∧ 0x10000 ≤ s.rfld rSpimPfAddr 0 26 ∧ s.rfld rSpimPfAddr 0 26 % 256 + 1 ≤ 256 ∧
      s.rfld rSpimPfAddr 0 26 + 1 ≤ 2 ^ s.rfld rSpimCfg 16 5 ∧ s.spim.cmd = none ∧ s.spim.held = none ∧ s.spim.poll = false ∧
      s.spim.queue = []) ∧
    (-- flash_erase
      let s0 : State := (((idle0.setFld rSpimCfg 16 5 26).setReg rSpimPfCmd 0x0004).setReg rSpimPfAddr 0x2ABCD)
      let s : State := { s0 with boot := { phase := 6, flash := [(0x1FFFF, 1), (0x20000, 2), (0x2FFFF, 3), (0x30000, 4)] } }
      s.rbit rSpimPfCmd 31 = false ∧ s.rfld rSpimPfCmd 8 8 = (0 : Fin 256).val ∧ s.spim.cmd = none ∧ s.spim.held = none ∧
      s.spim.poll = false ∧ s.spim.queue = []) ∧
    (-- flash_queue
      let s0 : State := (((idle0.setFld rSpimCfg 16 5 26).setReg rSpimPfCmd 0x0005).setReg rSpimPfAddr 0x2ABCD)
      let s : State := { s0 with spim := { poll := true } }
      s.rbit rSpimPfCmd 31 = false ∧ s.rfld rSpimPfCmd 8 8 = 0 ∧
      (s.spim.cmd.isSome = true ∨ s.spim.held.isSome = true ∨ s.spim.poll = true)) :=
  ⟨by decide +kernel, by decide +kernel, by decide +kernel, by decide +kernel, by decide +kernel, by decide +kernel, by decide +kernel⟩

theorem test_hyps_FlashEnds :
    (-- ready_held
      let s : State := { idle0 with spim := { held := some 0 } }
      s.spim.held.isSome = true) ∧
    (-- ready_poll
      let s : State := { idle0 with spim := { poll := true, reads := [0, 64] } }
      s.spim.held = none ∧ s.spim.cmd = none) ∧
    (-- ready_bad
      let k : FlashCmd := { who := 3, op := 2, addr := 0x10000, len := 1, data := [0xFF], mask := [true] }
      let s : State := { (idle0.setReg rSpimPfCmd 0x80000002).setBit rSpimCfg 21 true with spim := { cmd := some k }, boot := { phase := 6, flash := [(0x10000, 1)] } }
      s.spim.held = none ∧ s.spim.poll = false ∧ s.spim.cmd = some k ∧ k.who = 3 ∧ s.rbit rSpimCfg 21 = true ∧ s.verifyOk k = false) ∧
    (-- ready_read
      let k : FlashCmd := { who := 3, op := 1, addr := 0x10000, len := 5 }
      let s : State := { (idle0.setReg rSpimPfCmd 0x80000401) with spim := { cmd := some k }, boot := { phase := 6, flash := [(0x10000, 1), (0x10004, 9)] } }
      s.spim.held = none ∧ s.spim.poll = false ∧ s.spim.cmd = some k ∧ k.who = 3 ∧ k.len ≤ 256 ∧ s.spim.queue = []) ∧
    (-- ready_stat
      let k : FlashCmd := { who := 3, op := 5, addr := 0x10000, len := 1 }
      let s : State := { (idle0.setReg rSpimPfCmd 0x80000005) with spim := { cmd := some k } }
      s.spim.held = none ∧ s.spim.poll = false ∧ s.spim.cmd = some k ∧ k.who = 3 ∧ k.op = 5) ∧
    (-- flashTmo_early
      let k : FlashCmd := { who := 3, op := 2, addr := 0x10000, len := 1, data := [0xFF], mask := [true] }
      let s : State := { (idle0.setReg rSpimPfCmd 0x80000002) with now := 6143999, spim := { cmd := some k } }
      s.spim.cmd = some k ∧ k.who = 3 ∧ (k.op = 1 ∨ k.op = 5 ∨ s.now < k.at' + 1228800 * max 1 (s.rfld rSpimTmo 0 8))) ∧
    (-- flashTmo
      let k : FlashCmd := { who := 3, op := 2, addr := 0x10000, len := 1, data := [0xFF], mask := [true] }
      let s : State := { (idle0.setReg rSpimPfCmd 0x80000002) with now := 6144000, spim := { cmd := some k } }
      s.spim.cmd = some k ∧ k.who = 3 ∧ 2 ≤ k.op ∧ k.op ≤ 4 ∧ k.at' + 1228800 * max 1 (s.rfld rSpimTmo 0 8) ≤ s.now) ∧
    (-- spimRel_early
      let s : State := { idle0 with now := 12287, spim := { held := some 0 } }
      s.spim.held = some 0 ∧ s.now < 0 + 12288) ∧
    (-- spimRel
      let k : FlashCmd := { who := 3, op := 1, addr := 0x10000, len := 5 }
      let s : State := { idle0 with now := 12288, spim := { held := some 0, queue := [k] } }
      s.spim.held = some 0 ∧ 0 + 12288 ≤ s.now ∧ s.spim.cmd = none ∧ s.spim.poll = false ∧ s.spim.queue ≠ []) :=
  ⟨by decide +kernel, by decide +kernel, by decide +kernel, by decide +kernel, by decide +kernel, by decide +kernel, by decide +kernel, by decide +kernel, by decide +kernel⟩

theorem test_hyps_FlashWindow :
    (-- win_range
      let s : State := idle0.setFld rSpimCfg 16 5 20
      2 ^ s.rfld rSpimCfg 16 5 ≤ (0x100000 : Fin 67108864).val) ∧
    (-- win_hit
      let s : State := { idle0.setFld rSpimCfg 16 5 20 with spim := { poll := true, cache := [(255, [(3, List.replicate 64 7)])] } }
      (0xFFFF : Fin 67108864).val < 2 ^ s.rfld rSpimCfg 16 5 ∧
      (s.combFlush.cacheSet (0xFFFF / 64 % 256)).find? (fun p => p.1 == 0xFFFF / 16384) = some (3, List.replicate 64 7)) ∧
    (-- win_miss
      let s : State := { idle0.setFld rSpimCfg 16 5 20 with boot := { phase := 6, flash := [(0xFFFF, 5)] } }
      (0xFFFF : Fin 67108864).val < 2 ^ s.rfld rSpimCfg 16 5 ∧
      (s.combFlush.cacheSet (0xFFFF / 64 % 256)).find? (fun p => p.1 == 0xFFFF / 16384) = none ∧ s.combFlush.spimFree = true) ∧
    (-- win_wait
      let s : State := { idle0.setFld rSpimCfg 16 5 20 with spim := { poll := true } }
      (0xFFFF : Fin 67108864).val < 2 ^ s.rfld rSpimCfg 16 5 ∧
      (s.combFlush.cacheSet (0xFFFF / 64 % 256)).find? (fun p => p.1 == 0xFFFF / 16384) = none ∧ s.combFlush.spimFree = false) ∧
    (-- win_write
      let s : State := { idle0.setFld rSpimCfg 16 5 20 with spim := { combPage := 256, comb := [(3, some 0x0F)] } }
      (0xFFFF : Fin 67108864).val < 2 ^ s.rfld rSpimCfg 16 5 ∧ s.spim.combPage ≠ 0xFFFF / 256) ∧
    (-- comb_early
      let s : State := { idle0 with now := 122879, spim := { combPage := 256, comb := [(3, some 0x0F)] } }
      s.now < s.spim.combAt + 122880) ∧
    (-- comb_empty
      let s : State := { idle0 with now := 122880 }
      s.spim.combAt + 122880 ≤ s.now ∧ s.spim.comb = []) ∧
    (-- comb
      let s : State := { idle0 with now := 122880, spim := { combPage := 256, comb := [(3, some 0x0F), (255, some 0x11)] } }
      s.spim.combAt + 122880 ≤ s.now ∧ s.spimFree = true ∧ s.spim.queue = [] ∧ 256 ≤ s.spim.combPage ∧
      (SMap.get (fun _ => none) s.spim.comb (3 : Fin 256).val).isSome = true) :=
  ⟨by decide +kernel, by decide +kernel, by decide +kernel, by decide +kernel, by decide +kernel, by decide +kernel, by decide +kernel, by decide +kernel⟩

theorem test_hyps_SlaveRequests :
    (-- ping_range
      let s : State := { idle0.setReg rSpisCtrl 1 with spis := { bad := true, drop := true, unread := true } }
      s.spisOn = true ∧ s.spis.busy = none ∧ s.spis.last = none ∧
      ¬ ((7 : BitVec 8) = 0 ∨ 256 < ([] : List Byte).length ∨ spisKnown (7 : BitVec 8).toNat 0 = true)) ∧
    (-- ping
      let s : State := idle0.setReg rSpisCtrl 1
      s.spisOn = true ∧ s.spis.busy = none ∧ s.spis.last = none ∧
      ¬ ((1 : BitVec 8) = 0 ∨ 256 < ([] : List Byte).length ∨ spisKnown (1 : BitVec 8).toNat 0 = true)) ∧
    (-- spisRd_denied
      let s : State := (idle0.setReg rSpisCtrl 1).setReg rSpisRdEn 0xFFFFFFFF
      s.spisOn = true ∧ s.spis.busy = none ∧ s.spis.last = none ∧ ¬ (0x110000 < 0x400000 ∧ fld (0x110000 : BitVec 32) 16 6 ≠ 0x11 ∧
      s.rbit rSpisRdEn (fld (0x110000 : BitVec 32) 16 6) = true)) ∧
    (-- spisRd
      let s : State := (idle0.setReg rSpisCtrl 1).setReg rSpisRdEn 4
      s.spisOn = true ∧ s.spis.busy = none ∧ s.spis.last = none ∧ ((0x020000 : BitVec 32).toNat < 0x400000 ∧
      fld (0x020000 : BitVec 32) 16 6 ≠ 0x11 ∧ s.rbit rSpisRdEn (fld (0x020000 : BitVec 32) 16 6) = true)) ∧
    (-- spisWr_denied
      let s : State := (idle0.setReg rSpisCtrl 1).setReg rSpisRdEn 4
      s.spisOn = true ∧ s.spis.busy = none ∧ s.spis.last = none ∧ ¬ ((0x020000 : BitVec 32).toNat < 0x400000 ∧
      fld (0x020000 : BitVec 32) 16 6 ≠ 0x11 ∧ s.rbit rSpisWrEn (fld (0x020000 : BitVec 32) 16 6) = true)) ∧
    (-- spisWr
      let s : State := (idle0.setReg rSpisCtrl 1).setReg rSpisWrEn 4
      s.spisOn = true ∧ s.spis.busy = none ∧ s.spis.last = none ∧ ((0x020000 : BitVec 32).toNat < 0x400000 ∧
      fld (0x020000 : BitVec 32) 16 6 ≠ 0x11 ∧ s.rbit rSpisWrEn (fld (0x020000 : BitVec 32) 16 6) = true)) ∧
    (-- spisTest_denied
      let s : State := (idle0.setReg rSpisCtrl 1).setReg rTestCtrl 0
      s.spisOn = true ∧ s.spis.busy = none ∧ s.spis.last = none ∧ s.rbit rTestCtrl 9 = false) ∧
    (-- spisTest
      let s : State := (idle0.setReg rSpisCtrl 1).setReg rTestCtrl 0x200
      s.spisOn = true ∧ s.spis.busy = none ∧ s.spis.last = none ∧ s.rbit rTestCtrl 9 = true) ∧
    (-- spis_off
      let s : State := idle0.setReg rSpisCtrl 0
      s.spisOn = false) ∧
    (-- spis_busy
      let s : State := { idle0.setReg rSpisCtrl 1 with spis := { busy := some (0x10, 3) } }
      s.spisOn = true ∧ s.spis.busy.isSome = true) ∧
    (-- badFrame
      let s : State := (idle0.setReg rSpisCtrl 1).setFld rSpisCnt 0 8 255
      s.spisOn = true) ∧
    (-- repeat
      let s : State := { idle0.setReg rSpisCtrl 1 with spis := { last := some (7, 0xABCD), reply := some (1, 7, 0, 0) } }
      s.spisOn = true ∧ s.spis.last = some ((7 : BitVec 4).toNat, (0xABCD : BitVec 16).toNat) ∧ s.spis.busy = none) :=
  ⟨by decide +kernel, by decide +kernel, by decide +kernel, by decide +kernel, by decide +kernel, by decide +kernel, by decide +kernel, by decide +kernel, by decide +kernel, by decide +kernel, by decide +kernel, by decide +kernel⟩

theorem test_hyps_SlaveRequests_2 :
    (-- repeat_no
      let s : State := idle0.setReg rSpisCtrl 1
      s.spisOn = true ∧ s.spis.last ≠ some ((7 : BitVec 4).toNat, (0xABCD : BitVec 16).toNat)) ∧
    (-- replyRead
      let s : State := { idle0.setReg rSpisCtrl 1 with spis := { unread := true, reply := some (1, 7, 0, 5) } }
      s.spisOn = true ∧ s.spis.reply = some (1, 7, 0, 5) ∧ s.spis.busy = none) ∧
    (-- replyRead_wait
      let s : State := { idle0.setReg rSpisCtrl 1 with spis := { unread := true, reply := some (1, 7, 0, 5), busy := some (0x10, 3) } }
      s.spisOn = true ∧ (s.spis.reply = none ∨ s.spis.busy.isSome = true)) ∧
    (-- replyRead_long
      let s : State := (idle0.setReg rSpisCtrl 1).setReg rSpisStat 1
      s.spisOn = true ∧ (s.spis.reply = none ∨ s.spis.busy.isSome = true) ∧ s.rbit rSpisStat 0 = true) :=
  ⟨by decide +kernel, by decide +kernel, by decide +kernel, by decide +kernel⟩

theorem test_hyps_SlaveMailbox :
    (-- mbx_busy
      let s : State := idle0.setReg rSpisCtrl 1
      s.mbxServed = true ∧ s.spisOn = true ∧ s.spis.busy = none ∧ s.spis.last = none ∧
      (s.rbit rBootMbxStat 0 = true ∨ s.rbit rBootUpd 0 = true ∨ s.rbit rSpisCtrl 1 = false)) ∧
    (-- mbx_open
      let s : State := idle0.setReg rSpisCtrl 3
      s.mbxServed = true ∧ s.spisOn = true ∧ s.spis.busy = none ∧ s.spis.last = none ∧
      ¬ (s.rbit rBootMbxStat 0 = true ∨ s.rbit rBootUpd 0 = true ∨ s.rbit rSpisCtrl 1 = false) ∧ s.spimFree = true ∧ s.spim.queue = []) ∧
    (-- mbx_wr
      let s : State := { idle0.setReg rSpisCtrl 3 with spim := { poll := true } }
      let data : List Byte := List.replicate 256 1
      s.mbxServed = true ∧ s.spisOn = true ∧ s.spis.busy = none ∧ s.spis.last = none ∧
      ¬ (s.rbit rBootMbxStat 0 = true ∨ s.rbit rBootUpd 0 = true ∨ s.rbit rSpisCtrl 1 = false) ∧ data ≠ [] ∧ data.length ≤ 256 ∧
      (0x1FFF00 : BitVec 32).toNat % 256 = 0 ∧ (0x1FFF00 : BitVec 32).toNat < 0x200000 ∧ s.spimFree = false) ∧
    (-- mbx_wr_range
      let s : State := idle0.setReg rSpisCtrl 3
      s.mbxServed = true ∧ s.spisOn = true ∧ s.spis.busy = none ∧ s.spis.last = none ∧
      ¬ (s.rbit rBootMbxStat 0 = true ∨ s.rbit rBootUpd 0 = true ∨ s.rbit rSpisCtrl 1 = false) ∧
      ((0x200000 : BitVec 32).toNat % 256 ≠ 0 ∨ 0x200000 ≤ (0x200000 : BitVec 32).toNat)) ∧
    (-- mbx_go
      let s : State := idle0.setReg rSpisCtrl 3
      s.mbxServed = true ∧ s.spisOn = true ∧ s.spis.busy = none ∧ s.spis.last = none ∧
      ¬ (s.rbit rBootMbxStat 0 = true ∨ s.rbit rBootUpd 0 = true ∨ s.rbit rSpisCtrl 1 = false)) ∧
    (-- mbx_off
      let s : State := State.reset.setReg rSpisCtrl 3
      s.mbxServed = false ∨ s.spisOn = false) :=
  ⟨by decide +kernel, by decide +kernel, by decide +kernel, by decide +kernel, by decide +kernel, by decide +kernel⟩

theorem test_hyps_SupplySequence :
    (-- rail0
      let s : State := { State.reset with now := 9, pwr := { en := 4, seq := .up 0 } }
      s.pwr.seq = .up 0) ∧
    (-- rail1
      let s : State := { State.reset with now := 9, pwr := { en := 5, seq := .up 1 } }
      s.pwr.seq = .up 1) ∧
    (-- rail2
      let s : State := { State.reset with now := 9, pwr := { en := 7, seq := .up 2, next := 1 } }
      s.pwr.seq = .up 2) ∧
    (-- rail_on
      let s : State := State.reset
      s.pwr.seq = .on) ∧
    (-- seqTmo
      let s : State := { State.reset with now := tGood, pwr := { en := 5, seq := .up 1 } }
      s.pwr.seq = .up 1 ∧ s.pwr.seqAt + tGood ≤ s.now) ∧
    (-- seqTmo_early
      let s : State := { State.reset with now := tGood - 1, pwr := { en := 5, seq := .up 1 } }
      s.pwr.seq = .up 1 ∧ s.now < s.pwr.seqAt + tGood) ∧
    (-- seqRetry
      let s : State := { State.reset with now := tRetry, pwr := { en := 0, seq := .retry } }
      s.pwr.seq = .retry ∧ s.pwr.seqAt + tRetry ≤ s.now) ∧
    (-- seqRetry_early
      let s : State := { State.reset with now := tRetry - 1, pwr := { en := 0, seq := .retry } }
      s.pwr.seq = .retry ∧ s.now < s.pwr.seqAt + tRetry) ∧
    (-- down1
      let s : State := { State.reset with now := tDn, pwr := { en := 5, seq := .down 1 .up } }
      s.pwr.seqAt + tDn ≤ s.now ∧ s.pwr.seq = .down 1 .up) ∧
    (-- down2_up
      let s : State := { State.reset with now := tDn, pwr := { en := 4, seq := .down 2 .up } }
      s.pwr.seqAt + tDn ≤ s.now ∧ s.pwr.seq = .down 2 .up) ∧
    (-- down2_retry
      let s : State := { State.reset with now := tDn, pwr := { en := 4, seq := .down 2 .retry } }
      s.pwr.seqAt + tDn ≤ s.now ∧ s.pwr.seq = .down 2 .retry) ∧
    (-- down2_dormant
      let s : State := { State.reset with now := tDn, mode := { dormant := true }, pwr := { en := 4, seq := .down 2 .dormant } }
      s.pwr.seqAt + tDn ≤ s.now ∧ s.pwr.seq = .down 2 .dormant ∧ s.pwr.held = none) :=
  ⟨by decide +kernel, by decide +kernel, by decide +kernel, by decide +kernel, by decide +kernel, by decide +kernel, by decide +kernel, by decide +kernel, by decide +kernel, by decide +kernel, by decide +kernel, by decide +kernel⟩

theorem test_hyps_SupplySequence_2 :
    (-- down_early
      let s : State := { State.reset with now := tDn - 1, pwr := { en := 5, seq := .down 1 .up } }
      s.now < s.pwr.seqAt + tDn) ∧
    (-- brownOut
      let s : State := { idle0 with boot := { phase := 6, fuses := [(112, 1)], flash := [(5, 1)] } }
      s.mode.dormant = false ∧ s.pwr.seq = .on) ∧
    (-- brownOut_no
      let s : State := { State.reset with pwr := { seq := .up 1 } }
      s.mode.dormant = true ∨ s.pwr.seq ≠ .on) ∧
    (-- perstA
      let s : State := { idle0.setReg rPwrDormCtrl 2 with boot := { phase := 6, fuses := [(112, 1)], flash := [(5, 1)] } }
      s.pwr.perstHeld = false ∧ s.mode.dormant = false ∧ s.pwr.seq = .on) ∧
    (-- perstA_no
      let s : State := State.reset
      s.pwr.perstHeld = true) ∧
    (-- perstR
      let s : State := State.reset
      s.pwr.perstHeld = true ∧ s.mode.dormant = false ∧ s.pwr.seq = .on ∧ s.tap.held = false) ∧
    (-- perstR_no
      let s : State := idle0
      s.pwr.perstHeld = false) :=
  ⟨by decide +kernel, by decide +kernel, by decide +kernel, by decide +kernel, by decide +kernel, by decide +kernel, by decide +kernel⟩

theorem test_hyps_DormantAndModes :
    (-- dorm_rej
      let s : State := run0
      s.modeCode ≠ 5 ∨ (s.ctx.any fun p => s.ctxState p.1 != 0) = true) ∧
    (-- dorm
      let s : State := { idle0 with now := 9 }
      s.modeCode = 5 ∧ (s.ctx.any fun p => s.ctxState p.1 != 0) = false ∧ s.reg rConvDacStat = 0) ∧
    (-- dorm_wait
      let s : State := idle0.setFld rConvDacStat 28 4 2
      s.modeCode = 5 ∧ (s.ctx.any fun p => s.ctxState p.1 != 0) = false ∧ s.reg rConvDacStat ≠ 0) ∧
    (-- wake
      let s : State := { idle0.setReg rPwrDormCtrl 0x40 with mode := { dormant := true }, pwr := { en := 0, seq := .off } }
      s.mode.dormant = true ∧ s.wakeOn (5 + 1) = true ∧ s.pwr.seq = .off) ∧
    (-- wake_perst
      let s : State := { idle0.setReg rPwrDormCtrl 2 with mode := { dormant := true }, pwr := { en := 0, seq := .off } }
      s.mode.dormant = true ∧ s.wakeOn (0 + 1) = true ∧ s.pwr.seq = .off) ∧
    (-- wake_held
      let s : State := { idle0.setReg rPwrDormCtrl 0x40 with mode := { dormant := true }, pwr := { en := 5, seq := .down 1 .dormant } }
      s.mode.dormant = true ∧ s.wakeOn (5 + 1) = true ∧ s.pwr.seq = .down 1 .dormant ∧ s.pwr.held = none) ∧
    (-- wake_no
      let s : State := { idle0.setReg rPwrDormCtrl 2 with mode := { dormant := true }, pwr := { en := 0, seq := .off } }
      (5 : Fin 6).val ≠ 0 ∧ (s.mode.dormant = false ∨ s.wakeOn (5 + 1) = false)) ∧
    (-- wakeTmr
      let s : State := { idle0.setReg rPwrDormCtrl 0x80 with now := 1105920000, mode := { dormant := true }, pwr := { en := 0, seq := .off } }
      s.pwr.entered + max 1 (s.rfld rPwrWakeTmr 0 24) * 1105920000 ≤ s.now ∧ s.mode.dormant = true ∧ s.wakeOn 7 = true ∧ s.pwr.seq = .off) ∧
    (-- wakeTmr_early
      let s : State := { idle0.setReg rPwrDormCtrl 0x80 with now := 1105919999, mode := { dormant := true }, pwr := { en := 0, seq := .off } }
      s.now < s.pwr.entered + max 1 (s.rfld rPwrWakeTmr 0 24) * 1105920000) ∧
    (-- wakeN
      let s : State := { idle0 with now := 2457600000, pwr := { wakePin := true } }
      s.pwr.wakePin = true ∧ (s.pwr.wakeAt + 2457600000 ≤ s.now ∨ (s.pwr.perstLow = true ∧ s.pwr.perstHeld = false))) ∧
    (-- wakeN_early
      let s : State := { idle0 with now := 2457599999, pwr := { wakePin := true } }
      s.pwr.wakePin = true ∧ s.now < s.pwr.wakeAt + 2457600000 ∧ s.pwr.perstLow = false) ∧
    (-- rampUp
      let s : State := run0.setFld rConvDacStat 28 4 1
      s.pwr.dormWait = false ∧ s.dacSt 7 = 1) :=
  ⟨by decide +kernel, by decide +kernel, by decide +kernel, by decide +kernel, by decide +kernel, by decide +kernel, by decide +kernel, by decide +kernel, by decide +kernel, by decide +kernel, by decide +kernel, by decide +kernel⟩

theorem test_hyps_DormantAndModes_2 :
    (-- rampUp_fault
      let s : State := { idle0.setFld rConvDacStat 28 4 1 with port := { idle0.port with grps := [(1, { strbLost := true })] } }
      s.pwr.dormWait = false ∧ s.dacSt 7 = 1 ∧ s.grpFault (7 / 4) = true) ∧
    (-- rampDown
      let s : State := idle0.setFld rConvDacStat 28 4 5
      s.pwr.dormWait = false ∧ s.dacSt 7 = 5) ∧
    (-- ramp_no
      let s : State := idle0.setFld rConvDacStat 28 4 4
      s.pwr.dormWait = false ∧ s.dacSt 7 ≠ 1 ∧ s.dacSt 7 ≠ 5) ∧
    (-- ramp_dorm
      let s : State := { idle0.setFld rConvDacStat 28 4 5 with pwr := { dormWait := true, perstHeld := false } }
      s.pwr.dormWait = true ∧ s.reg rConvDacStat = BitVec.ofNat 32 (5 * 16 ^ 7)) ∧
    (-- run
      let s : State := { idle0 with now := 77 }
      (s.mode.started && !s.mode.baseRun && !s.mode.runPend && !s.mode.recovery && !s.mode.selfTest) = true) ∧
    (-- run_rej
      let s : State := run0
      (s.mode.started && !s.mode.baseRun && !s.mode.runPend && !s.mode.recovery && !s.mode.selfTest) = false) ∧
    (-- idle_cancel
      let s : State := { idle0.setBit rTopModeCmd 3 true with mode := { started := true, runPend := true } }
      s.mode.runPend = true) ∧
    (-- idle
      let s : State := run0
      s.mode.runPend = false ∧ s.mode.started = true ∧ s.mode.baseRun = true) ∧
    (-- idle_rej
      let s : State := idle0
      s.mode.runPend = false ∧ (s.mode.started = false ∨ s.mode.baseRun = false)) :=
  ⟨by decide +kernel, by decide +kernel, by decide +kernel, by decide +kernel, by decide +kernel, by decide +kernel, by decide +kernel, by decide +kernel, by decide +kernel⟩

theorem test_hyps_IslandsAndCaps :
    (-- ps_wait
      let d := desc tPowerSet 0 [(16, 0x2000)]
      let s : State := { withDesc idle0 d with pwr := { op := some ⟨1, 2, 1, 1, false, []⟩ } }
      s.ready 5 9 tPowerSet = some d ∧ (s.pwr.op ≠ none ∨ s.keeperRuns = false)) ∧
    (-- ps_bad
      let d := desc tPowerSet 0 [(16, 0x4000)]
      let s : State := withDesc idle0 d
      s.ready 5 9 tPowerSet = some d ∧ s.pwr.op = none ∧ s.keeperRuns = true ∧ (d.extra ≠ 0 ∨ 2 ^ 14 ≤ d.num 16 4)) ∧
    (-- ps_mode
      let d := desc tPowerSet 0 [(16, 0x2000)]
      let s : State := { withDesc idle0 d with mode := { started := true, recovery := true } }
      s.ready 5 9 tPowerSet = some d ∧ s.pwr.op = none ∧ s.keeperRuns = true ∧ d.extra = 0 ∧ d.onlyUses [(16, 9)] = true ∧
      d.num 16 4 < 2 ^ 14 ∧ d.num 20 4 < 2 ^ 14 ∧ d.num 24 1 ≤ 1 ∧ s.modeCode ∉ [5, 6, 7, 8]) ∧
    (-- ps_live
      let d := desc tPowerSet 0 [(16, 0x0001)]
      let s : State := (withDesc idle0 d).modEngine 0 fun x => { x with stab := [(0, 0x80050000#32)] }
      (s.ready 5 9 tPowerSet = some d ∧ s.pwr.op = none ∧ s.keeperRuns = true ∧ d.extra = 0 ∧ d.onlyUses [(16, 9)] = true ∧
      d.num 16 4 = 1 ∧ d.num 20 4 = 0 ∧ d.num 24 1 = 0 ∧ s.modeCode ∈ [5, 6, 7, 8]) ∧ s.liveOwners 0 ≠ []) ∧
    (-- ps
      let d := desc tPowerSet 0 [(16, 0x3000), (20, 0x1000)]
      let s : State := withDesc idle0 d
      s.ready 5 9 tPowerSet = some d ∧ s.pwr.op = none ∧ s.keeperRuns = true ∧ d.extra = 0 ∧ d.onlyUses [(16, 9)] = true ∧
      d.num 16 4 = 0x3000 ∧ d.num 20 4 = 0x1000 ∧ d.num 24 1 = 0 ∧ s.modeCode ∈ [5, 6, 7, 8] ∧
      (∀ i : Fin 14, 0x3000 / 2 ^ i.val % 2 = 1 → 0x1000 / 2 ^ i.val % 2 = 0 → s.liveOwners i = [] ∧ s.holdsSource i = false)) ∧
    (-- isl_none
      let s : State := idle0
      s.pwr.op = none) ∧
    (-- isl_down
      let s : State := { idle0.setFld rPwrIslStat 22 2 1 with pwr := { op := some ⟨5, 9, 0x800, 0, false, []⟩ } }
      s.pwr.op = some ⟨5, 9, 0x800, 0, false, []⟩ ∧ s.island 11 = 1 ∧ s.mayGoOff 11 = true) ∧
    (-- isl_down_wait
      let s : State := { (idle0.setFld rPwrIslStat 26 2 1).setFld rConvDacStat 0 4 2 with pwr := { op := some ⟨5, 9, 0x2000, 0, false, []⟩ } }
      s.pwr.op = some ⟨5, 9, 0x2000, 0, false, []⟩ ∧ s.island 13 = 1 ∧ s.mayGoOff 13 = false) ∧
    (-- isl_up
      let o : PowerOp := ⟨5, 9, 0x2000, 0x2000, false, []⟩
      let s : State := { idle0.setFld rPwrIslStat 26 2 2 with pwr := { op := some o } }
      s.pwr.op = some o ∧ s.island 13 = 2 ∧ o.isl.getLsbD 13 = true ∧ o.on.getLsbD 13 = true) ∧
    (-- isl_up_shed
      let o : PowerOp := ⟨5, 9, 0x80, 0x80, false, []⟩
      let s : State := { (run0.setFld rPwrIslStat 14 2 2).setBit rPwrCapStat 8 true with pwr := { op := some o } }
      s.pwr.op = some o ∧ s.island 7 = 2 ∧ o.isl.getLsbD 7 = true ∧ o.on.getLsbD 7 = true ∧ s.capActive = true ∧ s.d0Running = true ∧
      s.mode.runPend = false) ∧
    (-- cap
      let s : State := run0.setReg rPwrCapCtrl 0x00006401
      let temps : List (BitVec 16) := [1600, 0, 0, 0, 0, 0, 0, 1]
      (∀ c ∈ s.pwr.shed, c < 8) ∧ s.d0Running = true ∧ s.mode.runPend = false ∧ maxTemp temps < 1840 ∧
      (s.rbit rPwrCapCtrl 0 && decide (((16 * s.rfld rPwrCapCtrl 8 8 : Nat) : Int) ≤ maxTemp temps)) = true ∧ s.pwr.lastShed = none ∧
      s.nextShed = some 7) :=
  ⟨by decide +kernel, by decide +kernel, by decide +kernel, ⟨by decide +kernel, List.ne_nil_of_mem (a := 5) (by
    unfold State.liveOwners State.liveCluster
    rw [if_pos (by decide), List.mem_eraseDups]
    exact List.mem_append_left _ (by decide +kernel))⟩, by decide +kernel, by decide +kernel, by decide +kernel, by decide +kernel, by decide +kernel, by decide +kernel, by decide +kernel⟩

theorem test_hyps_SelfTests :
    (-- testRun_halt
      let d := desc tTestRun 0 [(16, 1), (24, 4096)]
      let s : State := { withDesc idle0 d with keep := { halted := true } }
      s.ready 5 9 tTestRun = some d ∧ s.keeperRuns = false) ∧
    (-- testRun_bad
      let d := desc tTestRun 1 [(16, 1), (24, 4096)]
      let s : State := withDesc idle0 d
      s.ready 5 9 tTestRun = some d ∧ s.keeperRuns = true ∧ d.extra ≠ 0) ∧
    (-- testRun_cause
      let d := desc tTestRun 0 [(16, 6), (24, 4096)]
      let s : State := withDesc idle0 d
      s.ready 5 9 tTestRun = some d ∧ s.keeperRuns = true ∧ d.extra = 0 ∧ d.onlyUses [(16, 1), (24, 8)] = true ∧
      windowOk (d.num 24 8) 256 = true ∧ s.testCause (d.num 16 1) ≠ 0) ∧
    (-- testRun
      let d := desc tTestRun 0 [(16, 0x1F), (24, 4096)]
      let s : State := withDesc idle0 d
      s.ready 5 9 tTestRun = some d ∧ s.keeperRuns = true ∧ d.extra = 0 ∧ d.onlyUses [(16, 1), (24, 8)] = true ∧
      windowOk (d.num 24 8) 256 = true ∧ s.testCause (d.num 16 1) = 0) ∧
    (-- testPm
      let s : State := { idle0 with test := { run := some 15 } }
      s.testNext 1 = true ∧ s.testNext 2 = false) ∧
    (-- testPm_no
      let s : State := { idle0 with test := { run := some 2 } }
      s.testNext 1 = false ∧ s.testNext 2 = true) ∧
    (-- testCal
      let s : State := { idle0 with test := { run := some 3 } }
      s.testNext 3 = true) ∧
    (-- testEng
      let s : State := (idle0.setReg rTestSeedLo 0x5A5AC3C3).setReg rTestSeedHi 0x0F0F9669
      let u : State := { s with test := { run := some 4 } }
      u.testNext 4 = true ∧ u.seedReset = true) ∧
    (-- testFab
      let s : State := { idle0 with test := { run := some 0x15 } }
      s.testNext 5 = true) ∧
    (-- testAll
      let s : State := { idle0 with test := { run := some 15 } }
      s.test.run = some 15 ∧ 15 % 16 = 15 ∧ s.test.done = [] ∧ s.dacsClamped = true ∧ (s.mov.movers.all fun p => p.2 == none) = true) ∧
    (-- testDone
      let s : State := { idle0.setReg rTestStat 0xF1 with mode := { started := true, selfTest := true }, test := { run := some 15, done := [1, 2, 3, 4, 5] } }
      s.test.run = some 15 ∧ s.test.desc = none ∧ ((testCodes (15 % 16)).all fun k => s.test.done.contains k) = true) ∧
    (-- testDone_no
      let s : State := { idle0 with test := { run := some 15, done := [1, 2, 3, 4] } }
      s.test.run = some 15 ∧ s.test.desc = none ∧ ((testCodes (15 % 16)).all fun k => s.test.done.contains k) = false) :=
  ⟨by decide +kernel, by decide +kernel, by decide +kernel, by decide +kernel, by decide +kernel, by decide +kernel, by decide +kernel, by decide +kernel, by decide +kernel, by decide +kernel, by decide +kernel, by decide +kernel⟩

theorem test_hyps_TapInstructions :
    (-- tap
      let s : State := idle0
      s.tap.scan = false ∧ s.tap.held = false ∧ s.powered = true ∧ s.testCause (5 : BitVec 8).toNat = 0) ∧
    (-- tap_noscan
      let s : State := { idle0 with boot := { phase := 6, fuses := [(47, 1)] } }
      s.tap.scan = false ∧ s.tap.held = false ∧ s.scanOpens = false) ∧
    (-- tap_unpowered
      let s : State := { idle0 with pwr := { seq := .off } }
      s.tap.scan = false ∧ s.tap.held = false ∧ s.powered = false) ∧
    (-- tap_rej
      let s : State := idle0
      s.tap.scan = false ∧ s.tap.held = false ∧ s.powered = true ∧ s.testCause (6 : BitVec 8).toNat ≠ 0) ∧
    (-- tap_dbg_denied
      let s : State := idle0
      s.tap.scan = false ∧ s.tap.held = false ∧ s.powered = true ∧
      ((0x508 : Fin 524288).val < 0x400 ∨ 0x504 < (0x508 : Fin 524288).val) ∧ ¬ (s.mode.session = true ∧ s.rbit rSecDbgStat 5 = true)) ∧
    (-- tap_dbg_reg
      let s : State := idle0
      s.tap.scan = false ∧ s.tap.held = false ∧ s.powered = true ∧ 0x400 ≤ (0x400 : Fin 524288).val ∧ (0x400 : Fin 524288).val ≤ 0x504 ∧
      (0x400 : Fin 524288).val % 4 = 0 ∧ (regAt (0x040000 + 0x400)).isSome = true) ∧
    (-- tap_dbg_deep
      let s : State := { idle0.setBit rSecDbgStat 5 true with mode := { started := true, session := true }, boot := { phase := 6, tcm := [(0x7FFFC, 1), (0x7FFFF, 9)] } }
      s.tap.scan = false ∧ s.tap.held = false ∧ s.powered = true ∧ (s.mode.session = true ∧ s.rbit rSecDbgStat 5 = true)) ∧
    (-- tap_hold
      let s : State := idle0
      s.tap.scan = false ∧ s.tap.held = false ∧ s.powered = true) ∧
    (-- tap_hold_again
      let s : State := { idle0 with tap := { held := true, ir := 3 } }
      s.tap.scan = false ∧ (s.tap.held = true ∨ s.powered = false)) ∧
    (-- tap_scan
      let s : State := idle0
      s.tap.scan = false ∧ s.scanOpens = true) ∧
    (-- tap_leave
      let s : State := { idle0 with tap := { held := true, ir := 3 } }
      s.tap.scan = false ∧ s.tap.held = true ∧ s.powered = true) ∧
    (-- tap_leave_scan
      let s : State := { idle0 with tap := { held := true, scan := true, ir := 0x18 }, boot := { phase := 6, tcm := [(5, 1)] }, cal := { bytes := [(5, 1)] } }
      s.tap.scan = true ∧ s.powered = true) :=
  ⟨by decide +kernel, by decide +kernel, by decide +kernel, by decide +kernel, by decide +kernel, by decide +kernel, by decide +kernel, by decide +kernel, by decide +kernel, by decide +kernel, by decide +kernel, by decide +kernel⟩

end Sys2Proof.Tests
end

/-! The settlement of RegisterAccess: which register a BAR0 access reaches (R9, R22, R425), what a write and a read that reach
it do (R10, R13), and the registers that stand for the rest. -/

namespace Sys2Proof.Machine

/-! ### Which register an access reaches -/

/-- A block whose island has no bit in TOP.DARK_ACCESS is never dark (R23). -/
theorem State.dark_eq_none_of_darkBit (s : State) {off : Nat} (h : darkBit off = none) : s.dark off = none := by
  simp [State.dark, h]

/-- Outside the recovery personality and a held TAP every block responds (R425). -/
theorem State.responds_of_not_held {s : State} (hheld : s.tap.held = false) (hrec : s.rbit rTopPcieStat 16 = false) (off : Nat) :
    s.responds off = true := by
  simp [State.responds, hheld, hrec]

theorem State.regFor_of_responds {s : State} {off : Nat} (hal : off % 4 = 0) (hresp : s.responds off = true) :
    s.regFor off = regAt off := by
  simp [State.regFor, hal, hresp]

theorem State.regFor_of_unaligned (s : State) {off : Nat} (h : off % 4 ≠ 0) : s.regFor off = none := by
  simp [State.regFor, h]

/-! ### Accesses by what they reach -/

theorem State.barWrite_of_dark {s : State} {off b : Nat} (h : s.dark off = some b) (v : Word) :
    s.barWrite off v = s.setBit rTopDark b true := by
  simp [State.barWrite, State.bar, h]

theorem State.barWrite_of_no_reg {s : State} {off : Nat} (hdark : s.dark off = none) (hreg : s.regFor off = none) (v : Word) :
    s.barWrite off v = s := by
  simp [State.barWrite, State.bar, hdark, hreg]

theorem State.barWrite_of_reg {s : State} {off : Nat} {d : RegDesc} (hdark : s.dark off = none) (hreg : s.regFor off = some d)
    (v : Word) : s.barWrite off v = s.regWrite d off v := by
  simp [State.barWrite, State.bar, hdark, hreg]

theorem State.pfRead_of_dark {s : State} {off b : Nat} (h : s.dark off = some b) :
    s.pfRead off = { s.setBit rTopDark b true with rdata := 0 } := by
  simp [State.pfRead, State.barRead, h]

theorem State.pfRead_of_no_reg {s : State} {off : Nat} (hdark : s.dark off = none) (hreg : s.regFor off = none) :
    s.pfRead off = { s with rdata := 0 } := by
  simp [State.pfRead, State.barRead, hdark, hreg]

theorem State.pfRead_of_reg {s : State} {off : Nat} {d : RegDesc} (hdark : s.dark off = none) (hreg : s.regFor off = some d) :
    s.pfRead off = { (s.regRead d off).2 with rdata := (s.regRead d off).1 } := by
  simp [State.pfRead, State.barRead, hdark, hreg]

/-! ### A write by access type (R13) -/

/-- A register without W1C bits keeps its bits outside `rw` and takes the written ones inside. -/
theorem State.plainW_of_no_w1c (s : State) {d : RegDesc} (h : d.w1c = 0) (off : Nat) (v : Word) :
    s.plainW d off v = s.setReg off ((s.reg off &&& ~~~d.rw) ||| (v &&& d.rw)) := by
  simp only [State.plainW, h, BitVec.ofNat_eq_ofNat, BitVec.and_zero, BitVec.not_zero, BitVec.and_allOnes]

/-- A register without RW bits only clears the W1C bits written 1. -/
theorem State.plainW_of_no_rw (s : State) {d : RegDesc} (h : d.rw = 0) (off : Nat) (v : Word) :
    s.plainW d off v = s.w1c d off v := by
  simp only [State.plainW, State.w1c, h, BitVec.ofNat_eq_ofNat, BitVec.and_zero, BitVec.or_zero, BitVec.not_zero,
    BitVec.and_allOnes]

/-! ### A read that reaches its register (R10, R13) -/

/-- A read of the low half of a pair that is not itself latched returns the register and latches the high half. -/
theorem State.regRead_of_pairLow (s : State) {d : RegDesc} {off : Nat} (hsidx : off ≠ rClkSidxLo) (hlat : latched off = false)
    (hlow : pairLow off = true) : s.regRead d off =
      (s.regValue d off, { s with latches := SMap.set (fun _ => 0) s.latches (off + 4) (s.reg (off + 4)) }) := by
  simp [State.regRead, hsidx, hlat, hlow]

/-- A read of a register outside the pairs, GPIO and the channel status returns it and clears its RC bits. -/
theorem State.regRead_of_plain (s : State) {d : RegDesc} {off : Nat} (hsidx : off ≠ rClkSidxLo) (hlat : latched off = false)
    (hlow : pairLow off = false) (hgpio : d.base ≠ rTopGpio 0) (hcs : off ≠ rPortSprCs 0) :
    s.regRead d off = (s.regValue d off, s.readClear d off) := by
  simp [State.regRead, hsidx, hlat, hlow, hgpio, hcs]

theorem State.readClear_of_stored (s : State) {d : RegDesc} (hstr : d.base ≠ rDmaStrW 0) (hrc : d.rc ≠ 0) (off : Nat) :
    s.readClear d off = s.setReg off (s.reg off &&& ~~~d.rc) := by
  rw [State.readClear, if_neg hstr, if_neg hrc]

/-! ### The rows of the three registers that stand for the rest -/

/-- The row of CLK.HOLD_CTRL (R524): RW bits only. -/
def holdCtrlRow : RegDesc := ⟨0x020300, 1, 0, 1, 0, 0x0000FF03, 0, 0, 0, 0x00000A01⟩

/-- The row of CLK.PLLx_STAT: one W1C bit and an RC counter. -/
def pllStatRow : RegDesc := ⟨0x02010C, 2, 0x40, 1, 0, 0, 0x00000100, 0x00FF0000, 0, 0⟩

/-- The row of TOP.RLF_TIME_LO (R596): the read-only low half of a pair. -/
def rlfTimeLoRow : RegDesc := ⟨0x000418, 1, 0, 1, 0, 0, 0, 0, 0, 0⟩

theorem regAt_holdCtrl : regAt rClkHoldCtrl = some holdCtrlRow := rfl

theorem regAt_pllStat : regAt (rClkPllStat 0) = some pllStatRow := rfl

theorem regAt_rlfTimeLo : regAt rTopRlfTimeLo = some rlfTimeLoRow := rfl

/-- HOLD_CTRL is written by access type alone. -/
theorem State.regWrite_holdCtrl (s : State) (v : Word) :
    s.regWrite holdCtrlRow rClkHoldCtrl v = s.plainW holdCtrlRow rClkHoldCtrl v := by
  simp [State.regWrite, State.clkW, holdCtrlRow, rClkHoldCtrl, rClkPllCtrl, rClkPllNum, rClkPllDen, rClkCkoPhase, rClkCkoCommit,
    rClkTickCtrl, rClkSidxStartLo, rClkSidxStartHi, rClkHoldIncLo, rClkHoldIncHi]

/-- PLLA_STAT is written by access type alone. -/
theorem State.regWrite_pllStat (s : State) (v : Word) :
    s.regWrite pllStatRow (rClkPllStat 0) v = s.plainW pllStatRow (rClkPllStat 0) v := by
  simp [State.regWrite, State.clkW, pllStatRow, rClkPllStat, rClkPllCtrl, rClkPllNum, rClkPllDen, rClkCkoPhase, rClkCkoCommit,
    rClkTickCtrl, rClkSidxStartLo, rClkSidxStartHi, rClkHoldIncLo, rClkHoldIncHi]

theorem State.regValue_pllStat (s : State) : s.regValue pllStatRow (rClkPllStat 0) = s.reg (rClkPllStat 0) := rfl

theorem State.regValue_rlfTimeLo (s : State) : s.regValue rlfTimeLoRow rTopRlfTimeLo = s.reg rTopRlfTimeLo := rfl

theorem State.regRead_pllStat (s : State) : s.regRead pllStatRow (rClkPllStat 0) =
    (s.reg (rClkPllStat 0), s.setReg (rClkPllStat 0) (s.reg (rClkPllStat 0) &&& 0xFF00FFFF)) := by
  rw [State.regRead_of_plain s (by decide) (by decide) (by decide) (by decide) (by decide), State.regValue_pllStat,
    State.readClear_of_stored s (by decide) (by decide)]
  rfl

theorem State.regRead_rlfTimeLo (s : State) : s.regRead rlfTimeLoRow rTopRlfTimeLo = (s.reg rTopRlfTimeLo,
    { s with latches := SMap.set (fun _ => 0) s.latches rTopRlfTimeHi (s.reg rTopRlfTimeHi) }) := by
  rw [State.regRead_of_pairLow s (by decide) (by decide) (by decide), State.regValue_rlfTimeLo]
  rfl

/-! ### The clauses -/

section Awake
variable {s : State} (hheld : s.tap.held = false) (hrec : s.rbit rTopPcieStat 16 = false)
include hheld hrec

/-- With the device awake, an aligned access outside the dark blocks reaches the register at its offset. -/
theorem State.regFor_awake {off : Nat} (hal : off % 4 = 0) : s.regFor off = regAt off :=
  State.regFor_of_responds hal (State.responds_of_not_held hheld hrec off)

theorem State.barWrite_holdCtrl (v : Word) : s.barWrite rClkHoldCtrl v =
    s.setReg rClkHoldCtrl ((s.reg rClkHoldCtrl &&& 0xFFFF00FC) ||| (v &&& 0x0000FF03)) := by
  have hreg : s.regFor rClkHoldCtrl = some holdCtrlRow := (State.regFor_awake hheld hrec (by decide)).trans regAt_holdCtrl
  rw [State.barWrite_of_reg (s.dark_eq_none_of_darkBit (by decide)) hreg, State.regWrite_holdCtrl,
    State.plainW_of_no_w1c s (by decide)]
  rfl

theorem State.regFor_pllStat : s.regFor (rClkPllStat 0) = some pllStatRow :=
  (State.regFor_awake hheld hrec (by decide)).trans regAt_pllStat

theorem State.barWrite_pllStat (v : Word) : s.barWrite (rClkPllStat 0) v =
    s.setReg (rClkPllStat 0) (s.reg (rClkPllStat 0) &&& ~~~(v &&& 0x100)) := by
  rw [State.barWrite_of_reg (s.dark_eq_none_of_darkBit (by decide)) (State.regFor_pllStat hheld hrec), State.regWrite_pllStat,
    State.plainW_of_no_rw s (by decide)]
  rfl

theorem State.pfRead_pllStat : s.pfRead (rClkPllStat 0) =
    { s.setReg (rClkPllStat 0) (s.reg (rClkPllStat 0) &&& 0xFF00FFFF) with rdata := s.reg (rClkPllStat 0) } := by
  rw [State.pfRead_of_reg (s.dark_eq_none_of_darkBit (by decide)) (State.regFor_pllStat hheld hrec), State.regRead_pllStat]

theorem State.pfRead_rlfTimeLo : s.pfRead rTopRlfTimeLo = { s with
    latches := SMap.set (fun _ => 0) s.latches rTopRlfTimeHi (s.reg rTopRlfTimeHi)
    rdata := s.reg rTopRlfTimeLo } := by
  have hreg : s.regFor rTopRlfTimeLo = some rlfTimeLoRow := (State.regFor_awake hheld hrec (by decide)).trans regAt_rlfTimeLo
  rw [State.pfRead_of_reg (s.dark_eq_none_of_darkBit (by decide)) hreg, State.regRead_rlfTimeLo]

end Awake

/-! ### The commands as accesses -/

theorem exec_registerWrite (off : Fin 4194304) (v : BitVec 32) (s : State) :
    exec (.registerWrite off v) s = .next (s.barWrite off.val v) := rfl

theorem exec_readClear (off : Fin 4194304) (s : State) : exec (.readClear off) s = .next (s.pfRead off.val) := rfl

theorem exec_lowHalfRead (off : Fin 4194304) (s : State) : exec (.lowHalfRead off) s = .next (s.pfRead off.val) := rfl

/-- Settles O7: by what the access reaches: a register of a block that responds, a dark block, or nothing. -/
theorem registerAccess : Obligations.RegisterAccess := by
  intro s
  refine ⟨fun hheld hrec => ⟨fun v => ?_, fun v => ?_, ?_, ?_⟩, fun off b hdark => ⟨fun v => ?_, ?_⟩,
    fun off hdark hal => ⟨fun v => ?_, ?_⟩⟩
  · exact congrArg Host.Outcome.next (State.barWrite_holdCtrl hheld hrec v)
  · exact congrArg Host.Outcome.next (State.barWrite_pllStat hheld hrec v)
  · refine ⟨_, congrArg Host.Outcome.next (State.pfRead_pllStat hheld hrec), rfl, ?_, fun o ho => ?_⟩
    · exact State.reg_setReg_same ..
    · exact State.reg_setReg_other s _ ho
  · exact ⟨_, congrArg Host.Outcome.next (State.pfRead_rlfTimeLo hheld hrec), rfl, rfl, SMap.get_set_same ..⟩
  · rw [exec_registerWrite, State.barWrite_of_dark hdark]
  · rw [exec_readClear, State.pfRead_of_dark hdark]
  · rw [exec_registerWrite, State.barWrite_of_no_reg hdark (s.regFor_of_unaligned hal)]
  · rw [exec_readClear, State.pfRead_of_no_reg hdark (s.regFor_of_unaligned hal)]

end Sys2Proof.Machine

/-! The settlement of EngineControl and EngineResultsNextCycle: instructions that work on registers and on the program counter
only (R133 to R136, R147 to R158). One lemma says what such an instruction leaves when its engine is poised; the rest says, case by
case, which effect each instruction has. -/

namespace Sys2Proof.Machine

/-! ### A poised instruction that works on registers only -/

/-- The effect of an instruction that makes no memory access: the results `rs` that its next cycle can read, the FLG bits `k` that it
clears, and where control goes. -/
def regEff (frs : List Nat) (rs : List RegWrite) (k : BitVec 5) (c : Ctl) : Eff :=
  { frs := frs, wr := rs.map (1, ·), clr := k, ctl := c }

theorem regEff_bankAfter (frs : List Nat) (rs : List RegWrite) (k : BitVec 5) (c : Ctl) (tail : Bool) (b : RegBank) :
    (regEff frs rs k c).bankAfter tail b = rs.foldl RegBank.apply { b with flg := b.flg &&& ~~~k } :=
  pendDue_one tail rs _

theorem regEff_pendRest (frs : List Nat) (rs : List RegWrite) (k : BitVec 5) (c : Ctl) (tail : Bool) :
    pendRest ((regEff frs rs k c).pends tail) = [] :=
  pendRest_one tail rs

/-- A poised instruction on registers only that does not end its program: its results stand in its bank, control has gone on, the
other program's bank is as before, and nothing is in flight. -/
theorem State.poised_regEff {s : State} {e op : Nat} {tail : Bool} {w : IWord} (body : State → Bool → IWord → Eff)
    {frs : List Nat} {rs : List RegWrite} {k : BitVec 5} {c : Ctl} (h : s.poised e op tail w)
    (hb : body s tail w = regEff frs rs k c) (hc : c ≠ .stop) :
    let x := s.engine e
    let y := (s.issue e op body).engine e
    y.bank tail = (rs.foldl RegBank.apply { x.bank tail with flg := (x.bank tail).flg &&& ~~~k }).step c ∧
    y.bank (!tail) = x.bank (!tail) ∧ y.inflight = [] := by
  have hf : (body s tail w).fault = 0 := by rw [hb]; rfl
  have hp : (body s tail w).posts.length ≤ 4 := by rw [hb]; exact Nat.zero_le 4
  have hl : (body s tail w).load = none := by rw [hb]; rfl
  have hs : (body s tail w).stores = [] := by rw [hb]; rfl
  have hctl : (body s tail w).ctl = c := by rw [hb]; rfl
  have hr : pendRest ((body s tail w).pends tail) = [] := by rw [hb]; exact regEff_pendRest ..
  intro x y
  rw [← regEff_bankAfter frs rs k c tail, ← hb, ← hctl]
  by_cases hj : ∃ t, (body s tail w).ctl = .jump t
  · obtain ⟨t, ht⟩ := hj
    have hw : (body s tail w).chw = none := by rw [hb]; rfl
    rw [ht]
    exact State.poised_jump body h hf hp t hl hw hs ht hr
  · obtain ⟨h1, h2, h3, _⟩ := State.poised_plain body h hf hp hl hs (fun t ht => hj ⟨t, ht⟩) (hctl ▸ hc)
    exact ⟨h1, h2, h3.trans hr⟩

/-- A poised instruction that only says where control goes. -/
theorem State.poised_ctl {s : State} {e op : Nat} {tail : Bool} {w : IWord} (body : State → Bool → IWord → Eff) {c : Ctl}
    (h : s.poised e op tail w) (hb : body s tail w = { ctl := c }) (hc : c ≠ .stop) :
    let x := s.engine e
    let y := (s.issue e op body).engine e
    y.bank tail = (x.bank tail).step c ∧ y.bank (!tail) = x.bank (!tail) ∧ y.inflight = [] := by
  have hk := State.poised_regEff body (frs := []) (rs := []) (k := 0) h hb hc
  simp only [List.foldl_nil, RegBank.flg_keep] at hk
  exact hk

/-- A poised instruction whose one result goes to a scalar destination, under the guard (R114). -/
theorem State.poised_scalar {s : State} {e op : Nat} {tail : Bool} {w : IWord} (body : State → Bool → IWord → Eff) (m : BitVec 4)
    (r : RegWrite) (h : s.poised e op tail w) (hb : body s tail w = { wr := scalarWr 1 m r }) :
    let b := (s.engine e).bank tail
    let y := (s.issue e op body).engine e
    (y.bank tail).file = (if m.getLsbD 0 then b.apply r else b).file ∧ y.bank (!tail) = (s.engine e).bank (!tail) ∧
    y.inflight = [] := by
  intro b y
  cases hm : m.getLsbD 0 with
  | true => exact State.poised_one body r [] h (by rw [hb, scalarWr, if_pos hm])
  | false =>
    obtain ⟨h1, h2, h3⟩ := State.poised_ctl body (c := .next) h (by rw [hb, scalarWr, if_neg (Bool.eq_false_iff.mp hm)]) (by decide)
    exact ⟨(congrArg RegBank.file h1).trans (RegBank.file_step ..), h2, h3⟩

/-! ### Where the program goes on (R111, R153, R156 to R158) -/

@[simp] theorem RegBank.step_jump_pc (b : RegBank) (t : Nat) : (b.step (.jump t)).pc = t := rfl

@[simp] theorem RegBank.step_rep_pc (b : RegBank) (n : Nat) : (b.step (.rep n)).pc = b.pc + 1 := rfl

@[simp] theorem RegBank.step_rep_rpt (b : RegBank) (n : Nat) : (b.step (.rep n)).rpt = n := rfl

theorem RegBank.step_branch_pc (b : RegBank) (p : Prop) [Decidable p] (t : Nat) :
    (b.step (if p then .jump t else .next)).pc = if p then t else if b.rpt = 0 then b.pc + 1 else b.pc := by
  rw [apply_ite b.step, apply_ite RegBank.pc, RegBank.step_jump_pc, RegBank.step_next]

theorem RegBank.step_branch_not_pc (b : RegBank) (p : Prop) [Decidable p] (t : Nat) :
    (b.step (if p then .next else .jump t)).pc = if p then if b.rpt = 0 then b.pc + 1 else b.pc else t := by
  rw [apply_ite b.step, apply_ite RegBank.pc, RegBank.step_jump_pc, RegBank.step_next]

/-- END in the tail program ends it (R155). -/
theorem State.poised_endTail {s : State} {e op : Nat} {w : IWord} (body : State → Bool → IWord → Eff)
    (h : s.poised e op true w) (hb : body s true w = { ctl := .stop }) : ((s.issue e op body).engine e).phase = .idle := by
  have ⟨_, hin, _, _, hfsq⟩ := h
  obtain ⟨_, cin, _, cfsq, _⟩ := State.counted_self s e true
  obtain ⟨u, _, hu⟩ := State.commitEff_stop (s.counted e true) e (body s true w) (cin.trans hin) (by rw [hb]) (by rw [hb])
    (cfsq.trans hfsq) (by rw [hb]) (by rw [hb]) true
  rw [State.issue_poised body h (by rw [hb]) (by rw [hb]; exact Nat.zero_le 4), hu]
  rw [State.endProgram, if_pos rfl, State.tailEnd, State.engine_modEngine, if_pos rfl]

section Branch
variable {e : Nat} {s : State} {tail : Bool} {w : IWord}

/-- BR changes nothing but where control goes. -/
theorem effBr_eq_ctl : effBr e s tail w = { ctl := (effBr e s tail w).ctl } := rfl

theorem effBr_ctl_ne_stop : (effBr e s tail w).ctl ≠ .stop := by
  unfold effBr
  extract_lets
  split <;> simp

theorem effBr_always (h : fld w 52 3 = 0) : (effBr e s tail w).ctl = .jump (fld w 0 14) := by
  simp [effBr, h]

theorem effBr_gz (h : fld w 52 3 = 1) : (effBr e s tail w).ctl =
    if ((s.engine e).bank tail).rg (fld w 49 3) = 0 then .jump (fld w 0 14) else .next := by
  simp [effBr, h]

theorem effBr_gnz (h : fld w 52 3 = 2) : (effBr e s tail w).ctl =
    if ((s.engine e).bank tail).rg (fld w 49 3) = 0 then .next else .jump (fld w 0 14) := by
  simp [effBr, h]

theorem effBr_gneg (h : fld w 52 3 = 3) : (effBr e s tail w).ctl =
    if (((s.engine e).bank tail).rg (fld w 49 3)).toInt < 0 then .jump (fld w 0 14) else .next := by
  simp [effBr, h, BitVec.msb_eq_toInt]

theorem effBr_gnneg (h : fld w 52 3 = 4) : (effBr e s tail w).ctl =
    if (((s.engine e).bank tail).rg (fld w 49 3)).toInt < 0 then .next else .jump (fld w 0 14) := by
  simp only [effBr, h, BitVec.msb_eq_toInt, Bool.not_eq_true', decide_eq_false_iff_not, ite_not]

theorem effBr_fset (h : fld w 52 3 = 5) : (effBr e s tail w).ctl =
    if ((s.engine e).bank tail).flg.getLsbD (fld w 46 3) then .jump (fld w 0 14) else .next := by
  simp [effBr, h]

theorem effBr_fclr (h : fld w 52 3 = 6) : (effBr e s tail w).ctl =
    if ((s.engine e).bank tail).flg.getLsbD (fld w 46 3) then .next else .jump (fld w 0 14) := by
  simp [effBr, h, ← Bool.not_eq_true]

/-- DBNZ writes the count less one and jumps while it is not 0 (R157). -/
theorem effDbnz_eq : effDbnz e s tail w =
    let g := ((s.engine e).bank tail).rg (fld w 49 3)
    regEff [] [.g (fld w 49 3) (g - 1)] 0 (if g - 1 = 0 then .next else .jump (fld w 0 14)) := rfl

end Branch

/-- Settles O12: each instruction's effect is one on registers and control only, or END's. -/
theorem engineControl : Obligations.EngineControl := by
  intro e s tail w b after target g
  refine ⟨fun h => ?nop, fun h => ?rpt, fun h => ?endTail, fun h => ?flgc, fun h => ?br, fun h => ?dbnz⟩
  case nop =>
    obtain ⟨hk, _⟩ := State.poised_ctl (fun _ _ _ => {}) (c := .next) h rfl (by decide)
    exact ⟨_, rfl, by rw [hk, RegBank.file_step], by rw [hk, RegBank.step_next]⟩
  case rpt =>
    obtain ⟨hk, _⟩ := State.poised_ctl (fun _ _ w => { ctl := .rep (fld w 0 12) }) h rfl (by simp)
    exact ⟨_, rfl, by rw [hk, RegBank.file_step], by rw [hk, RegBank.step_rep_pc], by rw [hk, RegBank.step_rep_rpt]⟩
  case endTail => exact ⟨_, rfl, State.poised_endTail _ h rfl⟩
  case flgc =>
    obtain ⟨hk, _⟩ := State.poised_regEff (fun _ _ w => { clr := BitVec.ofNat 5 (fld w 40 5) }) (frs := []) (rs := []) h rfl
      (by decide)
    exact ⟨_, rfl, by rw [hk, RegBank.file_step]; rfl, by rw [hk, RegBank.step_next]; rfl⟩
  case br =>
    obtain ⟨hk, _⟩ := State.poised_ctl (effBr e.val) h effBr_eq_ctl effBr_ctl_ne_stop
    refine ⟨_, rfl, by rw [hk, RegBank.file_step], ?_⟩
    rw [hk]
    exact ⟨fun hc => by rw [effBr_always hc, RegBank.step_jump_pc], fun hc => by rw [effBr_gz hc, RegBank.step_branch_pc],
      fun hc => by rw [effBr_gnz hc, RegBank.step_branch_not_pc], fun hc => by rw [effBr_gneg hc, RegBank.step_branch_pc],
      fun hc => by rw [effBr_gnneg hc, RegBank.step_branch_not_pc], fun hc => by rw [effBr_fset hc, RegBank.step_branch_pc],
      fun hc => by rw [effBr_fclr hc, RegBank.step_branch_not_pc]⟩
  case dbnz =>
    obtain ⟨hk, _⟩ := State.poised_regEff (effDbnz e.val) h effDbnz_eq (by split <;> simp)
    rw [RegBank.flg_keep] at hk
    refine ⟨_, rfl, by rw [hk, RegBank.file_step]; rfl, ?_⟩
    rw [hk, RegBank.step_branch_not_pc]
    rfl

/-! ### The operations of the register instructions (R133, R134, R136, R148) -/

section Operations
variable {e : Nat} {s : State} {tail : Bool} {w : IWord}

theorem effLdi_g (h : fld w 52 3 = 0) : effLdi w = { wr := [(1, .g (fld w 49 3) (w.extractLsb' 0 32))] } := by
  simp only [effLdi, h]

theorem effLdi_a (h : fld w 52 3 = 1) : effLdi w = { wr := [(1, .a (fld w 49 3) (w.extractLsb' 0 24))] } := by
  simp only [effLdi, h, BitVec.setWidth_extractLsb'_of_le, Nat.reduceLeDiff]

theorem effLdi_m (h : fld w 52 3 = 2) : effLdi w = { wr := [(1, .m (fld w 49 3) (w.extractLsb' 0 24))] } := by
  simp only [effLdi, h, BitVec.setWidth_extractLsb'_of_le, Nat.reduceLeDiff]

theorem effLdi_l (h : fld w 52 3 = 3) : effLdi w = { wr := [(1, .l (fld w 49 3) (w.extractLsb' 0 24))] } := by
  simp only [effLdi, h, BitVec.setWidth_extractLsb'_of_le, Nat.reduceLeDiff]

theorem effLdi_b (h : fld w 52 3 = 4) : effLdi w = { wr := [(1, .b (fld w 49 3) (w.extractLsb' 0 24))] } := by
  simp only [effLdi, h, BitVec.setWidth_extractLsb'_of_le, Nat.reduceLeDiff]

/-- The effect of a PSET that writes `v`. -/
def psetEff (w : IWord) (v : BitVec 4) : Eff := { wr := [(1, .ps (fld w 53 2) v)] }

theorem effPset_pimm (h : fld w 45 4 = 0) : effPset e s tail w = psetEff w (BitVec.ofNat 4 (fld w 41 4)) := by
  simp only [effPset, psetEff, h]

theorem effPset_pand (h : fld w 45 4 = 1) : effPset e s tail w =
    psetEff w (((s.engine e).bank tail).rps (fld w 51 2) &&& ((s.engine e).bank tail).rps (fld w 49 2)) := by
  simp only [effPset, psetEff, h]

theorem effPset_por (h : fld w 45 4 = 2) : effPset e s tail w =
    psetEff w (((s.engine e).bank tail).rps (fld w 51 2) ||| ((s.engine e).bank tail).rps (fld w 49 2)) := by
  simp only [effPset, psetEff, h]

theorem effPset_pxor (h : fld w 45 4 = 3) : effPset e s tail w =
    psetEff w (((s.engine e).bank tail).rps (fld w 51 2) ^^^ ((s.engine e).bank tail).rps (fld w 49 2)) := by
  simp only [effPset, psetEff, h]

theorem effPset_pnot (h : fld w 45 4 = 4) : effPset e s tail w =
    psetEff w (~~~(((s.engine e).bank tail).rps (fld w 51 2))) := by
  simp only [effPset, psetEff, h]

theorem effPset_pdom (h : fld w 45 4 = 5) : effPset e s tail w =
    psetEff w (if (s.engine e).dfl.getLsbD (fld w 31 1) then 0xF else 0) := by
  simp only [effPset, psetEff, h]

theorem effPset_pgcmp (h : fld w 45 4 = 6) : effPset e s tail w =
    psetEff w (if cndHolds (fld w 32 3) (((s.engine e).bank tail).rg (fld w 38 3)) (((s.engine e).bank tail).rg (fld w 35 3))
      then 0xF else 0) := by
  simp only [effPset, psetEff, h]

/-- The effect of a QXF that writes `v` to lanes `m` of Qd. -/
def qxfEff (w : IWord) (frs : List Nat) (m : BitVec 4) (v : Quad Word) : Eff :=
  { frs := frs, wr := [(1, .q (fld w 52 3) m v)] }

theorem effQxf_qmov (h : fld w 42 4 = 0) : effQxf e s tail w =
    qxfEff w [] (((s.engine e).bank tail).guard w) (((s.engine e).bank tail).rq (fld w 49 3)) := by
  simp only [effQxf, qxfEff, h]

theorem effQxf_qbc (h : fld w 42 4 = 1) : effQxf e s tail w =
    qxfEff w [] (((s.engine e).bank tail).guard w) (Quad.all ((((s.engine e).bank tail).rq (fld w 49 3)).get (fld w 47 2))) := by
  simp only [effQxf, qxfEff, h]

theorem effQxf_qfr (h : fld w 42 4 = 2) : effQxf e s tail w =
    qxfEff w [fld w 47 2] (((s.engine e).bank tail).guard w) (((s.engine e).bank tail).rfr (fld w 47 2)) := by
  simp only [effQxf, qxfEff, h]

theorem effQxf_qins (h : fld w 42 4 = 3) : effQxf e s tail w =
    qxfEff w [] (((s.engine e).bank tail).guard w &&& (1#4 <<< fld w 47 2))
      (Quad.all (((s.engine e).bank tail).rg (fld w 49 3))) := by
  simp only [effQxf, qxfEff, h]

theorem effQxf_qext (h : fld w 42 4 = 4) : effQxf e s tail w =
    { wr := scalarWr 1 (((s.engine e).bank tail).guard w)
        (.g (fld w 52 3) ((((s.engine e).bank tail).rq (fld w 49 3)).get (fld w 47 2))) } := by
  simp only [effQxf, h]

theorem effQxf_qrot (h : fld w 42 4 = 5) : effQxf e s tail w =
    qxfEff w [] (((s.engine e).bank tail).guard w)
      (Quad.ofFn fun i => (((s.engine e).bank tail).rq (fld w 49 3)).get (i + fld w 47 2)) := by
  simp only [effQxf, qxfEff, h]

end Operations

/-- Settles O13: each operation's effect is one result of latency 1, and `State.poised_one` says where it stands. -/
theorem engineResultsNextCycle : Obligations.EngineResultsNextCycle := by
  intro e s tail w x b m done
  refine ⟨fun h => ⟨_, rfl, ?gop⟩, fun h => ⟨_, rfl, ?ldi⟩, fun h => ⟨_, rfl, ?mvs⟩, fun h => ⟨_, rfl, ?aadr⟩,
    fun h => ⟨_, rfl, ?pcmp⟩, fun h => ⟨_, rfl, ?pset⟩, fun h => ⟨_, rfl, ?sel⟩, fun h => ⟨_, rfl, ?qxf⟩⟩
  case gop => exact State.poised_one (effGop e.val) _ [] h rfl
  case ldi =>
    have hone := fun r => State.poised_one (fun _ _ w => effLdi w) r [] h
    exact ⟨fun hc => hone _ (effLdi_g hc), fun hc => hone _ (effLdi_a hc), fun hc => hone _ (effLdi_m hc),
      fun hc => hone _ (effLdi_l hc), fun hc => hone _ (effLdi_b hc)⟩
  case mvs =>
    have hone := State.poised_one (effMvs e.val) _ [] h rfl
    rw [apply_ite (RegBank.apply _)] at hone
    exact hone
  case aadr => exact State.poised_one (effAadr e.val) _ [] h rfl
  case pcmp => exact State.poised_one (effPcmp e.val) _ [] h rfl
  case pset =>
    have hone := fun v => State.poised_one (effPset e.val) (.ps (fld w 53 2) v) [] h
    exact ⟨fun hc => hone _ (effPset_pimm hc), fun hc => hone _ (effPset_pand hc), fun hc => hone _ (effPset_por hc),
      fun hc => hone _ (effPset_pxor hc), fun hc => hone _ (effPset_pnot hc), fun hc => hone _ (effPset_pdom hc),
      fun hc => hone _ (effPset_pgcmp hc)⟩
  case sel => exact State.poised_one (effSel e.val) _ [] h rfl
  case qxf =>
    have hone := fun m v frs => State.poised_one (effQxf e.val) (.q (fld w 52 3) m v) frs h
    refine ⟨fun hc => hone _ _ _ (effQxf_qmov hc), fun hc => hone _ _ _ (effQxf_qbc hc), fun hc => hone _ _ _ (effQxf_qfr hc),
      fun hc => hone _ _ _ (effQxf_qins hc), fun hc => ?qext, fun hc => hone _ _ _ (effQxf_qrot hc)⟩
    case qext => exact State.poised_scalar (effQxf e.val) _ _ h (effQxf_qext hc)

end Sys2Proof.Machine

/-! The settlement of RecoverySteps: Relief's steps 4 to 7 (R580 to R582), the vote (R587, R588). Of an event it needs that time
stands still and that only the error bits of its context change, of a Caldera read that time stands still. -/

namespace Sys2Proof.Machine

/-- An operation whose frame leaves the registers out changes none. -/
theorem Kept.reg {M : Mask} {z s : State} (h : Kept M z s) (m : M.regs = false) (o : Nat) : s.reg o = z.reg o := by
  rw [State.reg, h.regs m, State.reg]

/-! ### What an event leaves alone (R383 to R385) -/

@[simp] theorem State.now_ringWrite (s : State) (c a : Nat) (d : List Byte) : (s.ringWrite c a d).now = s.now := by
  unfold State.ringWrite State.proxyWrite State.relayWrite
  split
  · refine forN_keeps _ _ State.now ?_ s
    intro i t
    refine forN_keeps _ _ State.now ?_ t
    intro j u
    rfl
  · rfl

@[simp] theorem State.reg_ringWrite (s : State) (c a : Nat) (d : List Byte) (o : Nat) : (s.ringWrite c a d).reg o = s.reg o :=
  (State.ringWrite_kept (M := { fab := true, ngx := true }) rfl rfl (Kept.refl s)).reg rfl o

@[simp] theorem State.now_ctxIrq (s : State) (c v : Nat) : (s.ctxIrq c v).now = s.now := by
  unfold State.ctxIrq State.msixSend
  extract_lets
  repeat' split
  all_goals rfl

@[simp] theorem State.now_putRecord (s : State) (c q st fl : Nat) (t : BitVec 64) : (s.putRecord c q st fl t).now = s.now := by
  simp [State.putRecord]

@[simp] theorem State.now_eventNotice (s : State) (c : Nat) : (s.eventNotice c).now = s.now := by
  simp only [State.eventNotice]
  repeat' split
  all_goals simp

@[simp] theorem State.reg_eventNotice (s : State) (c o : Nat) : (s.eventNotice c).reg o = s.reg o :=
  (State.eventNotice_kept (M := { fab := true, ctx := true, pcie := true, ngx := true }) rfl rfl rfl rfl (Kept.refl s)).reg rfl o

/-- What an event comes to: it is ignored, noticed, or lost with a sticky error; what it has written before touches no register. -/
theorem State.logEvent_cases (s : State) (c k e g d : Nat) : ∃ u : State, u.now = s.now ∧ (∀ o, u.reg o = s.reg o) ∧
    (s.logEvent c k e g d = u ∨ s.logEvent c k e g d = u.setBit (rCtxtErr c) 3 true) := by
  unfold State.logEvent State.logEventAt
  extract_lets
  repeat' split
  · exact ⟨s, rfl, fun _ => rfl, .inl rfl⟩
  · exact ⟨_, by simp +zetaDelta, by simp +zetaDelta, .inl rfl⟩
  · exact ⟨_, by simp +zetaDelta, by simp +zetaDelta, .inl rfl⟩
  · exact ⟨_, by simp +zetaDelta, by simp +zetaDelta, .inr rfl⟩

@[simp] theorem State.now_logEvent (s : State) (c k e g d : Nat) : (s.logEvent c k e g d).now = s.now := by
  obtain ⟨u, hnow, -, h | h⟩ := s.logEvent_cases c k e g d <;> simp [h, hnow]

/-- An event touches no register but the error bits of its context. -/
theorem State.reg_logEvent (s : State) (c k e g d : Nat) {o : Nat} (ho : o ≠ rCtxtErr c) :
    (s.logEvent c k e g d).reg o = s.reg o := by
  obtain ⟨u, -, hreg, h | h⟩ := s.logEvent_cases c k e g d <;> simp [h, State.reg_setBit, ho, hreg]

theorem rTopRlfStat_ne_rCtxtErr (c : Nat) : rTopRlfStat ≠ rCtxtErr c := by
  unfold rTopRlfStat rCtxtErr
  omega

/-! ### A Caldera read takes no time (R256 to R260) -/

@[simp] theorem State.now_retireTile (s : State) (t : Nat) : (s.retireTile t).now = s.now := by
  simp only [State.retireTile, State.setTile]
  split <;> rfl

@[simp] theorem State.now_tileOutcome (s : State) (br : Nat) : (s.tileOutcome br).now = s.now := by
  simp only [State.tileOutcome]
  split
  · simp
  · rw [State.now_logEvent]
    rfl
  · simp
  · rfl

@[simp] theorem State.now_rowFailing (s : State) (br : Nat) : (s.rowFailing br).now = s.now := by
  simp only [State.rowFailing]
  repeat' split
  all_goals simp

@[simp] theorem State.now_eccCorrect (s : State) (w : Nat) : (s.eccCorrect w).now = s.now := by
  simp only [State.eccCorrect]
  split <;> simp

@[simp] theorem State.now_eccUncorrectable (s : State) (w m : Nat) : (s.eccUncorrectable w m).now = s.now := by
  simp [State.eccUncorrectable]

theorem State.now_eccRead (s : State) (w m : Nat) : (s.eccRead w m).2.now = s.now := by
  simp only [State.eccRead]
  repeat' split
  all_goals simp

theorem State.now_calRead (s : State) (a n m : Nat) : (s.calRead a n m).2.2.now = s.now := by
  unfold State.calRead
  extract_lets step r bad
  exact List.foldlRecOn (motive := fun acc : List Nat × State => acc.2.now = s.now) (eccWords a n) step rfl
    fun acc h w _ => (acc.2.now_eccRead w m).trans h

theorem State.mode_calRead (s : State) (a n m : Nat) : (s.calRead a n m).2.2.mode = s.mode :=
  (State.calRead_kept (M := { regs := true, fab := true, cal := true, ctx := true, pcie := true, ngx := true })
    rfl rfl rfl rfl rfl rfl (Kept.refl s)).mode rfl

/-! ### Relief's state, Keeper's release and MINIMAL (R580, R585, R593) -/

theorem State.rlf_setRlf (s : State) {v : Nat} (hv : v < 8) : (s.setRlf v).rlf = v :=
  (s.rfld_setFld_same _ _ _ _ (by decide)).trans (Nat.mod_eq_of_lt hv)

theorem State.mode_setRlf (s : State) (v : Nat) : (s.setRlf v).mode = s.mode := rfl

theorem State.reg_setRlf_other (s : State) (v : Nat) {o : Nat} (h : o ≠ rTopRlfStat) : (s.setRlf v).reg o = s.reg o :=
  State.reg_setReg_other _ _ h

/-- STATE and bit 3 (fetching stopped) of TOP.RLF_STAT where a step has set both. -/
theorem State.rlf_stopped_of_reg {s t : State} {v : Nat} {b : Bool} (hv : v < 8)
    (h : t.reg rTopRlfStat = ((s.setRlf v).setBit rTopRlfStat 3 b).reg rTopRlfStat) :
    t.rlf = v ∧ t.rbit rTopRlfStat 3 = b := by
  constructor
  · rw [State.rlf, State.rfld, h, State.reg_setBit, if_pos rfl, fld_putBit _ _ _ _ _ (.inl (by decide))]
    exact s.rlf_setRlf hv
  · rw [State.rbit, h]
    exact State.rbit_setBit_same _ _ _ _ (by decide)

theorem State.rlf_releaseKeeper (s : State) (img : List Byte) : (s.releaseKeeper img).rlf = rlfRebuild :=
  State.rlf_setRlf (s.tcmLoad 0 _) (by decide)

theorem State.mode_releaseKeeper (s : State) (img : List Byte) : (s.releaseKeeper img).mode = s.mode := rfl

theorem State.keep_releaseKeeper (s : State) (img : List Byte) :
    (s.releaseKeeper img).keep.waitFirst = true ∧ (s.releaseKeeper img).keep.released = s.now := ⟨rfl, rfl⟩

theorem State.reg_releaseKeeper (s : State) (img : List Byte) {o : Nat} (h : o ≠ rTopRlfStat) :
    (s.releaseKeeper img).reg o = s.reg o := State.reg_setRlf_other (s.tcmLoad 0 _) _ h

theorem State.mode_enterMinimal (s : State) (r : Nat) : (s.enterMinimal r).mode =
    { s.mode with started := false, boot := 4, recovery := false, selfTest := false, runPend := false } :=
  (s.modeDo_parts r _).mode rfl

/-! ### The copy and the flash (R580) -/

theorem exec_copyCheck_idle {s : State} (h1 : s.rlf ≠ rlfReset) (h2 : s.rlf ≠ rlfLoad) : exec .copyCheck s = .next s := by
  show execCopyCheck s = .next s
  rw [execCopyCheck, if_pos (by simp [h1, h2])]

theorem exec_copyCheck_reads {s : State} (h : s.rlf = rlfReset ∨ s.rlf = rlfLoad) :
    let r := s.calRead 0 s.copyLen 98
    exec .copyCheck s = .next (if r.2.1 = false ∧ sha384 r.1 = r.2.2.fwDigest then r.2.2.releaseKeeper r.1
      else r.2.2.setRlf rlfFlash) := by
  show execCopyCheck s = _
  rw [execCopyCheck, if_neg (by rcases h with h | h <;> simp [h, rlfReset, rlfLoad])]
  simp

theorem exec_flashReload_idle {s : State} (h : s.rlf ≠ rlfFlash) (readable : Bool) :
    exec (.flashReload readable) s = .next s := by
  show execFlashReload readable s = .next s
  rw [execFlashReload, if_pos (by simp [h])]

theorem exec_flashReload_reads {s : State} (h : s.rlf = rlfFlash) (hfree : s.spim.held = none) (readable : Bool) :
    let img := s.slotImage s.activeSlot keeperOff
    exec (.flashReload readable) s = .next (
      if readable = true ∧ s.imageReason true img = 0 ∧ imgMeasure img = s.fwDigest then
        ((s.calStore 0 img 98).setFld rTopModeReason 0 8 0x27).releaseKeeper img
      else (s.enterMinimal 0x28).setRlf rlfMinimal) := by
  show execFlashReload readable s = _
  rw [execFlashReload, if_neg (by simp [h, hfree])]
  simp [and_assoc]

/-! ### The end of the rebuild (R379, R581, R582) -/

/-- A POWER_SET under way begins again after the rebuild (R581). -/
def beginAgain (d : OpenDesc) : OpenDesc :=
  if d.typ = tPowerSet && !d.mark && d.result.isNone then { d with started := false, granted := false } else d

/-- Context `c` hears of the rebuild's end, and its fetching resumes (R582). -/
def State.resumeCtx (n c : Nat) (s : State) : State :=
  if s.ctxState c = 1 || s.ctxState c = 3 then (s.logEvent c 0x40 0xFF 0xFF n).fetchNext c else s

/-- Relief is back in WATCH, fetching is allowed again, and the control descriptors under way begin again. -/
def State.rebuilt (s : State) : State :=
  let s := (s.setRlf rlfWatch).setBit rTopRlfStat 3 false
  forN 512 (fun c s => s.modContext c fun x => { x with opens := x.opens.map beginAgain }) s

/-- The mode RECOVERY and its history record end. -/
def State.endRecovery (s : State) : State :=
  (s.modeDo 0x25 fun s => { s with mode := { s.mode with recovery := false } }).histEnd 1

/-- All contexts hear of the rebuild's end. -/
def State.resumeAll (n : Nat) (s : State) : State := forN 512 (State.resumeCtx n) s

theorem exec_rebuildEnd_idle {s : State} (h : s.rlf ≠ rlfRebuild) : exec .rebuildEnd s = .next s := by
  show execRebuildEnd s = .next s
  rw [execRebuildEnd, if_pos (by simp [h])]

theorem exec_rebuildEnd_rebuilt {s : State} (h : s.rlf = rlfRebuild) :
    exec .rebuildEnd s = .next (s.rebuilt.endRecovery.resumeAll (s.rebuilt.rfld rTopRlfCnt 0 16)) := by
  show execRebuildEnd s = _
  rw [execRebuildEnd, if_neg (by simp [h])]
  rfl

theorem State.rebuilt_frame (s : State) : Kept { ctx := true } ((s.setRlf rlfWatch).setBit rTopRlfStat 3 false) s.rebuilt :=
  forN_kept (Kept.refl _) fun _ _ h => State.modContext_kept rfl h

theorem State.resumeCtx_keeps (n c : Nat) (s : State) :
    (s.resumeCtx n c).reg rTopRlfStat = s.reg rTopRlfStat ∧ (s.resumeCtx n c).mode = s.mode := by
  unfold State.resumeCtx
  split
  · have hfetch : Kept { fab := true, pcie := true, ngx := true } (s.logEvent c 0x40 0xFF 0xFF n)
        ((s.logEvent c 0x40 0xFF 0xFF n).fetchNext c) := State.fetchNext_kept rfl rfl rfl (Kept.refl _)
    have hlog : Kept { regs := true, fab := true, ctx := true, pcie := true, ngx := true } s (s.logEvent c 0x40 0xFF 0xFF n) :=
      State.logEvent_kept rfl rfl rfl rfl rfl (Kept.refl s)
    exact ⟨(hfetch.reg rfl _).trans (s.reg_logEvent _ _ _ _ _ (rTopRlfStat_ne_rCtxtErr c)),
      (hfetch.mode rfl).trans (hlog.mode rfl)⟩
  · exact ⟨rfl, rfl⟩

theorem State.resumeAll_keeps (n : Nat) (s : State) :
    (s.resumeAll n).reg rTopRlfStat = s.reg rTopRlfStat ∧ (s.resumeAll n).mode = s.mode :=
  ⟨forN_keeps 512 _ (State.reg · rTopRlfStat) (fun c u => (u.resumeCtx_keeps n c).1) s,
    forN_keeps 512 _ State.mode (fun c u => (u.resumeCtx_keeps n c).2) s⟩

theorem State.endRecovery_effect (s : State) :
    s.endRecovery.reg rTopRlfStat = s.reg rTopRlfStat ∧ s.endRecovery.mode = { s.mode with recovery := false } :=
  ⟨State.modeDo_reg s 0x25 _ _ (by decide), (State.modeDo_parts s 0x25 _).mode rfl⟩

/-- What the end of the rebuild leaves in TOP.RLF_STAT and in the mode. -/
theorem exec_rebuildEnd_watch {s : State} (h : s.rlf = rlfRebuild) : ∃ t, exec .rebuildEnd s = .next t ∧
    t.reg rTopRlfStat = ((s.setRlf rlfWatch).setBit rTopRlfStat 3 false).reg rTopRlfStat ∧
    t.mode = { s.mode with recovery := false } := by
  obtain ⟨hreg, hmode⟩ := s.rebuilt.endRecovery.resumeAll_keeps (s.rebuilt.rfld rTopRlfCnt 0 16)
  obtain ⟨hreg', hmode'⟩ := s.rebuilt.endRecovery_effect
  have hrebuilt : s.rebuilt.mode = s.mode := s.rebuilt_frame.mode rfl
  exact ⟨_, exec_rebuildEnd_rebuilt h, hreg.trans (hreg'.trans (s.rebuilt_frame.reg rfl _)),
    hmode.trans (by rw [hmode', hrebuilt])⟩

/-! ### The vote (R587, R588) -/

theorem exec_tmrVote_agree (s : State) : exec (.tmrVote 0) s = .next s := rfl

theorem exec_tmrVote_one (s : State) : exec (.tmrVote 1) s = .next (s.bump rTopRlfStat 16 8) := rfl

/-- Relief in FAULT, before the mode's history and the page are written (R587, R588). -/
def State.faulted (s : State) : State :=
  (((s.setRlf rlfFault).setBit rTopRlfStat 3 true).aer 0 aerInternal).setFld rTopModeReason 0 8 0x2F

theorem exec_tmrVote_lost (s : State) {bad : Fin 4} (hb : 2 ≤ bad.val) :
    exec (.tmrVote bad) s = .next (if s.rlf = rlfFault then s else (s.faulted.histBegin 3 0x2F none).lantern) := by
  match bad, hb with
  | 2, _ => rfl
  | 3, _ => rfl

theorem State.reg_faulted (s : State) : s.faulted.reg rTopRlfStat = ((s.setRlf rlfFault).setBit rTopRlfStat 3 true).reg rTopRlfStat :=
  State.reg_setReg_other _ _ (by decide)

/-- A vote without a majority: FAULT, fetching stopped, the reason shown, FAULT_N low. -/
theorem exec_tmrVote_fault {s : State} (h : s.rlf ≠ rlfFault) {bad : Fin 4} (hb : 2 ≤ bad.val) :
    ∃ t, exec (.tmrVote bad) s = .next t ∧ t.rlf = rlfFault ∧ t.rbit rTopRlfStat 3 = true ∧
      t.rfld rTopModeReason 0 8 = 0x2F ∧ t.faultPin = true := by
  rw [exec_tmrVote_lost s hb, if_neg h]
  have hreg (o : Nat) : (s.faulted.histBegin 3 0x2F none).lantern.reg o = s.faulted.reg o := (State.lantern_frame _).reg rfl o
  obtain ⟨hrlf, hstopped⟩ := State.rlf_stopped_of_reg (by decide) ((hreg rTopRlfStat).trans s.reg_faulted)
  refine ⟨_, rfl, hrlf, hstopped, ?_, by simp [State.faultPin, hrlf]⟩
  rw [State.rfld, hreg]
  exact State.rfld_setFld_same _ _ 0 8 0x2F (by decide)

/-- Settles O48: each step in its state of Relief, each ignored outside it. -/
theorem recoverySteps : Obligations.RecoverySteps := by
  intro s
  refine ⟨fun h => ?copy, fun h1 h2 => exec_copyCheck_idle h1 h2, fun h hfree readable => ?flash,
    fun h readable => exec_flashReload_idle h readable, fun h => ?rebuild, fun h => exec_rebuildEnd_idle h,
    exec_tmrVote_agree s, exec_tmrVote_one s, fun bad hb => ⟨fun h => exec_tmrVote_fault h hb, fun h => ?again⟩⟩
  case copy =>
    refine ⟨_, exec_copyCheck_reads h, ?_⟩
    have hmode := s.mode_calRead 0 s.copyLen 98
    split
    · obtain ⟨hwait, hreleased⟩ := State.keep_releaseKeeper (s.calRead 0 s.copyLen 98).2.2 (s.calRead 0 s.copyLen 98).1
      exact ⟨(State.mode_releaseKeeper _ _).trans hmode, State.rlf_releaseKeeper _ _, hwait,
        hreleased.trans (s.now_calRead 0 s.copyLen 98)⟩
    · exact ⟨(State.mode_setRlf _ _).trans hmode, State.rlf_setRlf _ (by decide)⟩
  case flash =>
    refine ⟨_, exec_flashReload_reads h hfree readable, ?_⟩
    split
    · refine ⟨State.rlf_releaseKeeper _ _, ?_⟩
      rw [State.rfld, State.reg_releaseKeeper _ _ (by decide)]
      exact State.rfld_setFld_same _ _ 0 8 0x27 (by decide)
    · have hmode := s.mode_enterMinimal 0x28
      rw [State.mode_setRlf, hmode]
      exact ⟨State.rlf_setRlf _ (by decide), rfl, rfl⟩
  case rebuild =>
    obtain ⟨t, ht, hstat, hmode⟩ := exec_rebuildEnd_watch h
    obtain ⟨hrlf, hstopped⟩ := State.rlf_stopped_of_reg (by decide) hstat
    exact ⟨t, ht, hrlf, hstopped, hmode⟩
  case again => rw [exec_tmrVote_lost s hb, if_pos h]

end Sys2Proof.Machine

/-! The settlement of FlashWindow: Keeper's window and the combine buffer (R638 to R641). A flush is one page program of the bytes
from the first to the last gathered one; bytes that were not gathered are written 1, which changes nothing. -/

namespace Sys2Proof.Machine

/-! ### Writes to the flash (R640, R642) -/

/-- A run of writes from key `a + n` on, read at a key. -/
theorem get_foldl_set_zipIdx {d : Nat → Byte} (a j : Nat) (data : List Byte) (n : Nat) (m : SMap Byte) :
    SMap.get d ((data.zipIdx n).foldl (fun m p => SMap.set d m (a + p.2) p.1) m) j =
      if a + n ≤ j ∧ j < a + n + data.length then data.getD (j - (a + n)) 0 else SMap.get d m j := by
  induction data generalizing n m with
  | nil =>
    rw [List.zipIdx_nil, List.foldl_nil, List.length_nil, if_neg (by omega)]
  | cons b data ih =>
    rw [List.zipIdx_cons, List.foldl_cons, ih, SMap.get_set, List.length_cons]
    rcases Nat.lt_trichotomy j (a + n) with hj | rfl | hj
    · rw [if_neg (by omega), if_neg (by omega), if_neg (by omega)]
    · rw [if_neg (by omega), if_pos rfl, if_pos (by omega), Nat.sub_self]
      rfl
    · rw [if_neg (by omega : j ≠ a + n), show j - (a + n) = j - (a + (n + 1)) + 1 by omega, List.getD_cons_succ]
      exact ite_congr (propext (by omega)) (fun _ => rfl) (fun _ => rfl)

theorem State.flashByte_flashSet (s : State) (a j : Nat) (data : List Byte) :
    (s.flashSet a data).flashByte j = if a ≤ j ∧ j < a + data.length then data.getD (j - a) 0 else s.flashByte j :=
  get_foldl_set_zipIdx a j data 0 s.boot.flash

/-- A page program clears bits, above the protected block. -/
theorem State.flashByte_flashProgram (s : State) {a : Nat} (ha : 0x10000 ≤ a) (data : List Byte) (j : Nat) :
    (s.flashProgram a data).flashByte j =
      if a ≤ j ∧ j < a + data.length then data.getD (j - a) 0xFF &&& s.flashByte j else s.flashByte j := by
  rw [State.flashProgram, if_neg (by simp [Nat.not_lt.mpr ha]), State.flashByte_flashSet, List.length_map, List.length_zipIdx]
  split
  case isTrue h =>
    obtain ⟨hlo, hhi⟩ := h
    have hj : j - a < data.length := by omega
    simp [List.getD_eq_getElem?_getD, hj, Nat.add_sub_cancel' hlo]
  case isFalse => rfl

/-! ### What the controller changes (R640, R643) -/

@[simp] theorem State.now_flashSet (s : State) (a : Nat) (d : List Byte) : (s.flashSet a d).now = s.now := rfl

@[simp] theorem State.now_flashErase (s : State) (a n : Nat) : (s.flashErase a n).now = s.now := rfl

@[simp] theorem State.now_writeBcr (s : State) (slot : Nat) : (s.writeBcr slot).now = s.now := by
  simp only [State.writeBcr, State.now_flashSet, State.now_flashErase]

/-- What the flash does with a command takes no time. -/
theorem State.now_flashDo (s : State) (k : FlashCmd) : (s.flashDo k).now = s.now := by
  unfold State.flashDo State.flashProgram
  repeat' split
  all_goals simp only [State.now_writeBcr, State.now_flashSet, State.now_flashErase]

theorem State.spim_flashDo (s : State) (k : FlashCmd) : (s.flashDo k).spim = s.spim :=
  (State.flashDo_kept (M := { boot := true, flash := true }) rfl rfl (Kept.refl s)).spim rfl

/-- Issuing a command leaves time and the combine buffer alone. -/
theorem State.spimIssue_keeps (s : State) (k : FlashCmd) :
    (s.spimIssue k).now = s.now ∧ (s.spimIssue k).spim.comb = s.spim.comb := by
  unfold State.spimIssue
  extract_lets long shown done
  have hdone : done.now = s.now ∧ done.spim.comb = s.spim.comb := by
    dsimp only [done]
    split
    · rw [State.now_flashDo, State.spim_flashDo]
      exact ⟨rfl, rfl⟩
    · exact ⟨rfl, rfl⟩
  exact hdone

theorem State.spimNext_keeps (s : State) : s.spimNext.now = s.now ∧ s.spimNext.spim.comb = s.spim.comb := by
  unfold State.spimNext
  extract_lets best
  split
  · exact ⟨rfl, rfl⟩
  · cases best with
    | none => exact ⟨rfl, rfl⟩
    | some k => exact State.spimIssue_keeps _ k

theorem State.spimReq_keeps (s : State) (k : FlashCmd) : (s.spimReq k).now = s.now ∧ (s.spimReq k).spim.comb = s.spim.comb :=
  State.spimNext_keeps _

/-- A request to a free controller without a queue is issued at once. -/
theorem State.spimReq_free {s : State} (hfree : s.spimFree = true) (hqueue : s.spim.queue = []) (k : FlashCmd) :
    s.spimReq k = s.spimIssue k := by
  have hqueued : (s.modSpim fun x => { x with queue := x.queue ++ [k] }) = { s with spim := { s.spim with queue := [k] } } := by
    rw [State.modSpim, hqueue]
    rfl
  have hfree' : ({ s with spim := { s.spim with queue := [k] } } : State).spimFree = true := hfree
  have htaken : ({ s with spim := { s.spim with queue := [k].erase k } } : State) = s := by
    rw [List.erase_cons_head, ← hqueue]
  rw [State.spimReq, hqueued, State.spimNext, hfree']
  exact congrArg (State.spimIssue · k) htaken

/-- A page program issued, byte by byte. -/
theorem State.flashByte_spimIssue_program (s : State) {k : FlashCmd} (hop : k.op = pfProgram) (haddr : 0x10000 ≤ k.addr)
    (j : Nat) : (s.spimIssue k).flashByte j = if k.addr ≤ j ∧ j < k.addr + k.data.length then
      k.data.getD (j - k.addr) 0xFF &&& s.flashByte j else s.flashByte j := by
  have hdo (u : State) : u.flashDo k = u.flashProgram k.addr k.data := by rw [State.flashDo, if_pos hop]
  have hlong : (k.op != Machine.pfRead && k.op != pfStatus) = true := by rw [hop]; rfl
  unfold State.spimIssue
  extract_lets long shown done
  have hdone : done = ((shown.setBit rSpimStat 1 true).cacheDrop k.range.1 k.range.2).flashProgram k.addr k.data :=
    (if_pos hlong).trans (hdo _)
  rw [hdone]
  exact State.flashByte_flashProgram _ haddr k.data j

/-! ### The combine buffer (R638, R640) -/

/-- What stands in the combine buffer at an offset of its page. -/
def State.combByte (s : State) (i : Nat) : Option Byte := SMap.get (fun _ => none) s.spim.comb i

/-- The page program of the bytes between the first and the last gathered one. -/
def State.combProgram (s : State) (lo hi : Nat) : FlashCmd :=
  let is := (List.range (hi + 1 - lo)).map (lo + ·)
  { who := 1, op := pfProgram, addr := 256 * s.spim.combPage + lo
    data := is.map fun i => (s.combByte i).getD 0xFF, mask := is.map fun i => (s.combByte i).isSome }

/-- The offsets gathered in the combine buffer, in ascending order. -/
def State.gathered (s : State) : List Nat := (List.range 256).filter fun i => (s.combByte i).isSome

theorem State.mem_gathered (s : State) (i : Nat) : i ∈ s.gathered ↔ i < 256 ∧ s.combByte i ≠ none := by
  simp [State.gathered, Option.isSome_iff_ne_none]

theorem State.gathered_sorted (s : State) : s.gathered.Pairwise (· ≤ ·) := List.pairwise_le_range.filter _

/-- Every member of a list in ascending order lies between the first and the last. -/
theorem mem_bounds_of_sorted {a i : Nat} {l : List Nat} (hsorted : (a :: l).Pairwise (· ≤ ·)) (hi : i ∈ a :: l) :
    a ≤ i ∧ i ≤ (a :: l).getLast (List.cons_ne_nil a l) := by
  induction l generalizing a i with
  | nil =>
    rw [List.mem_singleton] at hi
    rw [List.getLast_singleton, hi]
    exact ⟨Nat.le_refl a, Nat.le_refl a⟩
  | cons b l ih =>
    obtain ⟨hfirst, htail⟩ := List.pairwise_cons.mp hsorted
    rw [List.getLast_cons (List.cons_ne_nil b l)]
    rcases List.mem_cons.mp hi with rfl | hi
    · exact ⟨Nat.le_refl i, hfirst _ (List.getLast_mem _)⟩
    · exact ⟨hfirst i hi, (ih htail hi).2⟩

theorem State.combFlush_of_nil {s : State} (h : s.gathered = []) : s.combFlush = s := by
  unfold State.combFlush
  extract_lets at' ws
  have hws : ws = [] := h
  clear_value ws
  subst hws
  rfl

theorem State.combFlush_of_cons {s : State} {lo : Nat} {ws : List Nat} (h : s.gathered = lo :: ws) :
    s.combFlush = (s.modSpim fun x => { x with comb := [] }).spimReq (s.combProgram lo ((lo :: ws).getLastD lo)) := by
  unfold State.combFlush
  extract_lets at' all
  have hall : all = lo :: ws := h
  clear_value all
  subst hall
  rfl

/-- The combine buffer holds nothing, or its bytes lie from `lo` to `hi` and are programmed as one. -/
theorem State.combFlush_cases (s : State) : ((∀ i, i < 256 → s.combByte i = none) ∧ s.combFlush = s) ∨
    ∃ lo hi, lo ≤ hi ∧ hi < 256 ∧ (∀ i, i < 256 → s.combByte i ≠ none → lo ≤ i ∧ i ≤ hi) ∧
      s.combFlush = (s.modSpim fun x => { x with comb := [] }).spimReq (s.combProgram lo hi) := by
  have hmem := s.mem_gathered
  have hsorted := s.gathered_sorted
  cases hws : s.gathered with
  | nil =>
    rw [hws] at hmem
    exact .inl ⟨fun i hi => Classical.not_not.mp fun h => List.not_mem_nil ((hmem i).mpr ⟨hi, h⟩), State.combFlush_of_nil hws⟩
  | cons lo ws =>
    rw [hws] at hmem hsorted
    have hflush := State.combFlush_of_cons hws
    rw [List.getLastD_eq_getLast?, List.getLast?_eq_some_getLast (List.cons_ne_nil lo ws), Option.getD_some] at hflush
    obtain ⟨hhi, -⟩ := (hmem _).mp (List.getLast_mem (List.cons_ne_nil lo ws))
    refine .inr ⟨lo, _, (mem_bounds_of_sorted hsorted (List.mem_cons_self ..)).2, hhi, fun i hi hne => ?_, hflush⟩
    exact mem_bounds_of_sorted hsorted ((hmem i).mpr ⟨hi, hne⟩)

theorem State.now_combFlush (s : State) : s.combFlush.now = s.now := by
  obtain ⟨-, h⟩ | ⟨lo, hi, -, -, -, h⟩ := s.combFlush_cases
  · rw [h]
  · rw [h, (State.spimReq_keeps _ _).1]
    rfl

/-- A flush of a buffer that holds something empties it. -/
theorem State.comb_combFlush {s : State} (h : ∃ i, i < 256 ∧ s.combByte i ≠ none) : s.combFlush.spim.comb = [] := by
  obtain ⟨i, hi, hne⟩ := h
  obtain ⟨hnone, -⟩ | ⟨lo, hi, -, -, -, h⟩ := s.combFlush_cases
  · exact absurd (hnone i hi) hne
  · rw [h, (State.spimReq_keeps _ _).2]
    rfl

/-- The byte gathered for a flash address. -/
def State.gatheredFor (s : State) (j : Nat) : Option Byte :=
  if j / 256 = s.spim.combPage then s.combByte (j % 256) else none

theorem State.combProgram_length (s : State) (lo hi : Nat) : (s.combProgram lo hi).data.length = hi + 1 - lo := by
  simp [State.combProgram]

/-- The program holds, at each address, the byte gathered for it or ones. -/
theorem State.combProgram_byte (s : State) {lo hi j : Nat} (hhi : hi < 256) (hlo : 256 * s.spim.combPage + lo ≤ j)
    (hj : j < 256 * s.spim.combPage + hi + 1) :
    (s.combProgram lo hi).data.getD (j - (256 * s.spim.combPage + lo)) 0xFF = (s.gatheredFor j).getD 0xFF := by
  have hk : j - (256 * s.spim.combPage + lo) < hi + 1 - lo := by omega
  have hoff : lo + (j - (256 * s.spim.combPage + lo)) = j % 256 := by omega
  rw [State.gatheredFor, if_pos (by omega)]
  simp [State.combProgram, List.getD_eq_getElem?_getD, hk, hoff]

/-- Outside the program nothing is gathered. -/
theorem State.gatheredFor_outside {s : State} {lo hi j : Nat}
    (hall : ∀ i, i < 256 → s.combByte i ≠ none → lo ≤ i ∧ i ≤ hi)
    (hj : ¬ (256 * s.spim.combPage + lo ≤ j ∧ j < 256 * s.spim.combPage + hi + 1)) : s.gatheredFor j = none := by
  unfold State.gatheredFor
  split
  case isTrue hpage =>
    refine Classical.byContradiction fun hne => ?_
    obtain ⟨hlo, hhi⟩ := hall _ (Nat.mod_lt j (by decide)) hne
    omega
  case isFalse => rfl

/-- A flush by a free controller programs exactly the gathered bytes; the bytes between them are written 1. -/
theorem State.flashByte_combFlush {s : State} (hfree : s.spimFree = true) (hqueue : s.spim.queue = [])
    (hpage : 256 ≤ s.spim.combPage) (j : Nat) : s.combFlush.flashByte j = (s.gatheredFor j).getD 0xFF &&& s.flashByte j := by
  have hones : 0xFF &&& s.flashByte j = s.flashByte j := BitVec.allOnes_and
  obtain ⟨hnone, h⟩ | ⟨lo, hi, hlohi, hhi, hall, h⟩ := s.combFlush_cases
  · have hj : s.gatheredFor j = none := by rw [State.gatheredFor, hnone _ (Nat.mod_lt j (by decide)), ite_self]
    rw [h, hj, Option.getD_none, hones]
  · have hfree' : (s.modSpim fun x => { x with comb := [] }).spimFree = true := hfree
    have haddr : (s.combProgram lo hi).addr = 256 * s.spim.combPage + lo := rfl
    have hflash : (s.modSpim fun x => { x with comb := [] }).flashByte j = s.flashByte j := rfl
    rw [h, State.spimReq_free hfree' hqueue, State.flashByte_spimIssue_program _ rfl (by omega), s.combProgram_length, haddr,
      hflash]
    split
    case isTrue hin =>
      obtain ⟨hlo, hup⟩ := hin
      rw [s.combProgram_byte hhi hlo (by omega)]
    case isFalse hout =>
      rw [State.gatheredFor_outside hall (by omega), Option.getD_none, hones]

/-! ### The window (R638 to R641) -/

/-- A hit is served from the cache; only the order of the cache changes. -/
theorem State.windowServe_hit {s : State} {a : Nat} {p : Nat × List Byte}
    (h : (s.cacheSet (a / 64 % 256)).find? (fun p => p.1 == a / 16384) = some p) :
    (s.windowServe a).spim.kData = p.2.getD (a % 64) 0 ∧ (s.windowServe a).boot = s.boot ∧
      (s.windowServe a).regs = s.regs := by
  have hserve : s.windowServe a =
      (s.setCacheSet (a / 64 % 256) (p :: (s.cacheSet (a / 64 % 256)).filter fun q => q.1 != p.1)).modSpim
        fun x => { x with kData := p.2.getD (a % 64) 0 } := by
    simp only [State.windowServe, State.cacheHit, h]
  rw [hserve]
  exact ⟨rfl, rfl, rfl⟩

section Miss
variable {s : State} {a : Nat} (h : (s.cacheSet (a / 64 % 256)).find? (fun p => p.1 == a / 16384) = none)
include h

theorem State.cacheHit_none : s.cacheHit a = none := by
  simp only [State.cacheHit, h]

/-- A miss on a free controller is read from the flash. -/
theorem State.windowServe_miss (hfree : s.spimFree = true) :
    (s.windowServe a).spim.kData = s.flashByte a ∧ (s.windowServe a).boot = s.boot := by
  have hbyte : (s.cacheFill a).1 = s.flashByte a := by
    simp [State.cacheFill, State.flashRead, Nat.mod_lt, Nat.div_add_mod']
  have hserve : s.windowServe a = (s.cacheFill a).2.modSpim fun x => { x with kData := (s.cacheFill a).1 } := by
    simp only [State.windowServe, State.cacheHit_none h, hfree, if_true]
  rw [hserve, hbyte]
  exact ⟨rfl, rfl⟩

/-- A miss on a busy controller waits. -/
theorem State.windowServe_wait (hbusy : s.spimFree = false) :
    s.windowServe a = { s with spim := { s.spim with reads := s.spim.reads ++ [a] } } := by
  simp only [State.windowServe, State.cacheHit_none h, hbusy, Bool.false_eq_true, if_false]
  rfl

end Miss

theorem exec_windowRead_range {s : State} {a : Fin 67108864} (h : s.flashSize ≤ a.val) : exec (.windowRead a) s =
    .next ((s.setBit rSpimStat 10 true).modSpim fun x => { x with kData := 0 }) :=
  congrArg Host.Outcome.next (if_pos h)

theorem exec_windowRead {s : State} {a : Fin 67108864} (h : a.val < s.flashSize) :
    exec (.windowRead a) s = .next (s.combFlush.windowServe a.val) :=
  congrArg Host.Outcome.next (if_neg (Nat.not_le.mpr h))

theorem exec_windowWrite_range {s : State} {a : Fin 67108864} (h : s.flashSize ≤ a.val) (v : BitVec 8) :
    exec (.windowWrite a v) s = .next (s.setBit rSpimStat 10 true) :=
  congrArg Host.Outcome.next (if_pos h)

/-- The state in which a write is gathered: what stands for another page is flushed. -/
def State.forPage (s : State) (page : Nat) : State := if s.spim.combPage = page then s else s.combFlush

theorem State.now_forPage (s : State) (page : Nat) : (s.forPage page).now = s.now := by
  unfold State.forPage
  split
  · rfl
  · exact s.now_combFlush

theorem exec_windowWrite {s : State} {a : Fin 67108864} (h : a.val < s.flashSize) (v : BitVec 8) :
    exec (.windowWrite a v) s = .next ((s.forPage (a.val / 256)).modSpim fun x => { x with
      combPage := a.val / 256, comb := SMap.set (fun _ => none) x.comb (a.val % 256) (some v)
      combAt := (s.forPage (a.val / 256)).now }) :=
  congrArg Host.Outcome.next (if_neg (Nat.not_le.mpr h))

theorem exec_combineFlush (s : State) :
    exec .combineFlush s = .next (if s.spim.combAt + 122880 ≤ s.now then s.combFlush else s) := rfl

/-- Settles O53: a read, a write and the flush, each by what the window and the combine buffer do. -/
theorem flashWindow : Obligations.FlashWindow := by
  intro s a v
  refine ⟨fun h => ⟨⟨_, exec_windowRead_range h, rfl, ?range, rfl⟩, exec_windowWrite_range h v⟩,
    fun h => ⟨fun p hp => ?hit, fun hmiss => ⟨fun hfree => ?miss, fun hbusy => ?wait⟩, ?write⟩, fun h => ?early,
    fun h => ?flush⟩
  case range => exact s.rbit_setBit_same _ _ _ (by decide)
  case hit => exact ⟨_, exec_windowRead h, State.windowServe_hit hp⟩
  case miss => exact ⟨_, exec_windowRead h, State.windowServe_miss hmiss hfree⟩
  case wait => rw [exec_windowRead h, State.windowServe_wait hmiss hbusy]
  case write =>
    exact ⟨_, exec_windowWrite h v, rfl, s.now_forPage _, rfl,
      SMap.get_set (s.forPage (a.val / 256)).spim.comb (a.val % 256) (some v)⟩
  case early => rw [exec_combineFlush, if_neg (Nat.not_le.mpr h)]
  case flush =>
    rw [exec_combineFlush, if_pos h]
    refine ⟨_, rfl, fun hempty => ?_, fun ⟨i, hi, hsome⟩ => ⟨?_, fun hfree hqueue hpage j => ?_⟩⟩
    · exact State.combFlush_of_nil (by simp [State.gathered, State.combByte, hempty])
    · exact State.comb_combFlush ⟨i, hi, Option.isSome_iff_ne_none.mp hsome⟩
    · rw [State.flashByte_combFlush hfree hqueue hpage j]
      show _ = match s.gatheredFor j with
        | some b => b &&& s.flashByte j
        | none => s.flashByte j
      cases s.gatheredFor j with
      | none => exact BitVec.allOnes_and
      | some b => rfl

end Sys2Proof.Machine

/-! The settlement of SlaveRequests: the requests of the SPI slave (R650, R652 to R655, R690), bad frames and repeats (R649, R654),
reply reads (R653, R656). The work of a request is known by what it leaves alone: the slave's own state, its status register, and
all that the start of a test depends on. -/

namespace Sys2Proof.Machine

/-! ### A transaction of the slave (R649, R652 to R657) -/

theorem State.spisDo_off {s : State} (hoff : s.spisOn = false) (m3 : Bool) (f : State → State) : s.spisDo m3 f = s := by
  simp [State.spisDo, hoff]

theorem State.spisDo_on {s : State} (hon : s.spisOn = true) (m3 : Bool) (f : State → State) :
    s.spisDo m3 f = f (s.setBit rSpisStat 1 m3) := by
  simp [State.spisDo, hon]

/-- What a request is known by again: its alive value and the CRC of its frame (R654). -/
def requestKey (op : Nat) (alive : BitVec 4) (addr : BitVec 32) (data : List Byte) : Nat × Nat :=
  (alive.toNat, crcOf 3 (spisFrame op alive.toNat addr.toNat data))

/-- The state in which a request is executed: its SPI mode is shown and the request is remembered. -/
def State.taking (s : State) (m3 : Bool) (key : Nat × Nat) : State :=
  { s.setBit rSpisStat 1 m3 with spis := { s.spis with last := some key } }

theorem State.reg_taking_other (s : State) (m3 : Bool) (key : Nat × Nat) {o : Nat} (ho : o ≠ rSpisStat) :
    (s.taking m3 key).reg o = s.reg o := State.reg_setReg_other s _ ho

theorem State.rbit_taking_other (s : State) (m3 : Bool) (key : Nat × Nat) {o : Nat} (ho : o ≠ rSpisStat) (b : Nat) :
    (s.taking m3 key).rbit o b = s.rbit o b := congrArg (bit · b) (s.reg_taking_other m3 key ho)

theorem State.rbit_taking_mode (s : State) (m3 : Bool) (key : Nat × Nat) : (s.taking m3 key).rbit rSpisStat 1 = m3 :=
  s.rbit_setBit_same _ _ _ (by decide)

section Request
variable {s : State} (m3 : Bool) (op : Nat) (alive : BitVec 4) (addr : BitVec 32) (data : List Byte) (f : State → State)

theorem State.spisReq_off (hoff : s.spisOn = false) : s.spisReq m3 op alive addr data f = s := State.spisDo_off hoff ..

theorem State.spisReq_busy (hon : s.spisOn = true) (hbusy : s.spis.busy.isSome = true) :
    s.spisReq m3 op alive addr data f = (s.setBit rSpisStat 1 m3).spisDrop :=
  (State.spisDo_on hon ..).trans (if_pos hbusy)

theorem State.spisReq_first (hon : s.spisOn = true) (hbusy : s.spis.busy = none) (hlast : s.spis.last = none) :
    s.spisReq m3 op alive addr data f = f (s.taking m3 (requestKey op alive addr data)) := by
  rw [State.spisReq, State.spisDo_on hon]
  simp only [State.setBit_fields, hbusy, hlast, Option.isSome_none, Bool.false_eq_true, if_false, reduceCtorEq]
  rfl

end Request

theorem State.reg_bump_other (s : State) {a o : Nat} (lo len : Nat) (ho : o ≠ a) : (s.bump a lo len).reg o = s.reg o :=
  State.reg_setReg_other s _ ho

/-- A counter field counts up to its largest value. -/
theorem State.rfld_bump_same (s : State) (a lo len : Nat) (h : lo + len ≤ 32) :
    (s.bump a lo len).rfld a lo len = min (s.rfld a lo len + 1) (2 ^ len - 1) := by
  have hmod : min (s.rfld a lo len + 1) (2 ^ len - 1) < 2 ^ len := by
    have := Nat.two_pow_pos len
    omega
  exact (s.rfld_setFld_same a lo len _ h).trans (Nat.mod_eq_of_lt hmod)

/-- A flag of SPIS.STAT is set and a counter of SPIS.CNT counts. -/
def State.spisNote (s : State) (flag lo : Nat) : State := (s.setBit rSpisStat flag true).bump rSpisCnt lo 8

theorem State.spisNote_effect (s : State) (m3 : Bool) {flag lo : Nat} (hflag : flag < 32) (hlo : lo + 8 ≤ 32) :
    let t := (s.setBit rSpisStat 1 m3).spisNote flag lo
    t.rbit rSpisStat flag = true ∧ t.rfld rSpisCnt lo 8 = min (s.rfld rSpisCnt lo 8 + 1) 255 := by
  have hcnt : ((s.setBit rSpisStat 1 m3).setBit rSpisStat flag true).reg rSpisCnt = s.reg rSpisCnt := by
    simp [State.reg_setBit, rSpisCnt, rSpisStat]
  constructor
  · rw [State.rbit, State.spisNote, State.reg_bump_other _ _ _ (by decide)]
    exact State.rbit_setBit_same _ _ _ _ hflag
  · rw [State.spisNote, State.rfld_bump_same _ _ _ _ hlo, State.rfld, hcnt]
    rfl

/-! ### The reply (R653) -/

/-- The flags that a reply carries. -/
def SpisState.flags (x : SpisState) (alive : BitVec 4) : Nat :=
  alive.toNat + (if x.bad then 16 else 0) + (if x.drop then 32 else 0) + (if x.unread then 128 else 0)

/-- State `t` holds the reply to a request that came in state `s`. -/
def State.HoldsReply (s t : State) (m3 : Bool) (alive : BitVec 4) (op result data : Nat) : Prop :=
  t.spis.reply = some (op, s.spis.flags alive, result, data) ∧ t.spis.unread = true ∧ t.spis.bad = false ∧
    t.spis.drop = false ∧ t.spis.busy = none ∧ t.rbit rSpisStat 1 = m3

theorem State.reg_spisAnswer_other (s : State) (op alive result data : Nat) {o : Nat} (ho : o ≠ rSpisCnt) :
    (s.spisAnswer op alive result data).reg o = s.reg o := by
  unfold State.spisAnswer
  extract_lets x flags t
  have ht : t.reg o = s.reg o := by
    dsimp only [t]
    split
    · exact State.reg_setReg_other _ _ ho
    · rfl
  exact ht

/-- The reply is that of `s` after any work that leaves the slave's own state alone. -/
theorem State.holdsReply_spisAnswer {s v : State} {m3 : Bool} {key : Nat × Nat} (hspis : v.spis = (s.taking m3 key).spis)
    (hmode : v.rbit rSpisStat 1 = m3) (alive : BitVec 4) (op result data : Nat) :
    s.HoldsReply (v.spisAnswer op alive.toNat result data) m3 alive op result data := by
  refine ⟨?_, rfl, rfl, rfl, rfl, ?_⟩
  · simp [State.spisAnswer, hspis, State.taking, SpisState.flags, Nat.mod_eq_of_lt alive.isLt]
  · rw [State.rbit, State.reg_spisAnswer_other v _ _ _ _ (by decide)]
    exact hmode

/-! ### What the work of a request leaves alone -/

theorem foldl_keeps {α β σ : Type} (l : List β) (f : σ → β → σ) (g : σ → α) (h : ∀ s b, g (f s b) = g s) (s : σ) :
    g (l.foldl f s) = g s :=
  List.foldlRecOn (motive := fun t => g t = g s) l f rfl fun t ht b _ => (h t b).trans ht

theorem rSpisStat_ne_rCtxtErr (c : Nat) : rSpisStat ≠ rCtxtErr c := by
  unfold rSpisStat rCtxtErr
  omega

theorem State.reg_dacStop (s : State) (d : Nat) {o : Nat} (ho : o ≠ rConvDacStat) : (s.dacStop d).reg o = s.reg o := by
  unfold State.dacStop State.dacFade State.dacRest State.setDacSt
  repeat' split
  all_goals simp [State.reg_setFld, ho]

theorem State.reg_dacStopAll (s : State) {o : Nat} (ho : o ≠ rConvDacStat) : s.dacStopAll.reg o = s.reg o := by
  refine forN_keeps 8 _ (State.reg · o) (fun d t => ?_) s
  dsimp only
  split
  · rfl
  · exact t.reg_dacStop d ho

theorem State.reg_lmRestore (s : State) (e o : Nat) : (s.lmRestore e).reg o = s.reg o :=
  (State.lmRestore_kept (M := { eng := true, cal := true }) rfl rfl (Kept.refl s)).reg rfl o

theorem State.reg_busAccess (s : State) (cls m a : Nat) (write wide : Bool) (o : Nat) :
    (s.busAccess cls m a write wide).reg o = s.reg o :=
  (State.busAccess_kept (M := { fab := true }) rfl (Kept.refl s)).reg rfl o

theorem State.reg_sinterRestore (s : State) {o : Nat} (hecc : o ≠ rCaldEccStat) (hstat : o ≠ rCaldSinterStat) :
    s.sinterRestore.reg o = s.reg o := by
  unfold State.sinterRestore
  generalize List.range 256 = cells
  extract_lets k c soft written marked
  have hmarked : marked.reg o = s.reg o := by
    dsimp only [marked]
    split
    · exact State.reg_setReg_other written _ hecc
    · rfl
  split
  · rfl
  · rw [State.reg_setBit, if_neg hstat, State.reg_busAccess, hmarked]

/-- A test begins without touching the slave's status register. -/
theorem State.reg_testBegin (s : State) (path t : Nat) (desc : Option (Nat × Nat)) :
    (s.testBegin path t desc).reg rSpisStat = s.reg rSpisStat := by
  unfold State.testBegin
  extract_lets shown mode run hit told
  have hshown : shown.reg rSpisStat = s.reg rSpisStat := by
    simp [shown, State.reg_setFld, State.reg_setBit, rSpisStat, rTestStat]
  have hrun : run.reg rSpisStat = s.reg rSpisStat := (shown.modeDo_reg 0x30 _ _ (by decide)).trans hshown
  have htold : told.reg rSpisStat = run.reg rSpisStat :=
    foldl_keeps hit _ (State.reg · rSpisStat) (fun u i => foldl_keeps (u.liveCluster i) _ (State.reg · rSpisStat)
      (fun v c => v.reg_logEvent c 0x22 0xFF 0xFF (2 ^ i) (rSpisStat_ne_rCtxtErr c)) u) run
  calc (forN 32 (fun e u => u.lmRestore e) told.dacStopAll.sinterRestore).reg rSpisStat
      = told.dacStopAll.sinterRestore.reg rSpisStat :=
        forN_keeps 32 _ (State.reg · rSpisStat) (fun e u => u.reg_lmRestore e rSpisStat) _
    _ = told.dacStopAll.reg rSpisStat := State.reg_sinterRestore _ (by decide) (by decide)
    _ = told.reg rSpisStat := told.reg_dacStopAll (by decide)
    _ = s.reg rSpisStat := htold.trans hrun

theorem State.reg_testStart (s : State) (path t : Nat) (desc : Option (Nat × Nat)) :
    (s.testStart path t desc).reg rSpisStat = s.reg rSpisStat := by
  unfold State.testStart
  split
  · exact s.reg_testBegin path t desc
  · exact State.reg_setReg_other s _ (by decide)

theorem State.spis_testStart (s : State) (path t : Nat) (desc : Option (Nat × Nat)) :
    (s.testStart path t desc).spis = s.spis :=
  (State.testStart_kept (M := {
      regs := true, eng := true, fab := true, cal := true, ctx := true, mode := true, port := true, pcie := true,
      keep := true, ngx := true, test := true, calMem := true })
    rfl rfl rfl rfl rfl rfl rfl rfl rfl rfl rfl rfl (Kept.refl s)).spis rfl

theorem State.spis_barRead (s : State) (off : Nat) : (s.barRead off).2.spis = s.spis :=
  (State.barRead_kept (M := { regs := true, latches := true, mov := true, port := true }) rfl rfl rfl rfl (Kept.refl s)).spis rfl

theorem State.reg_readClear_other (s : State) (d : RegDesc) {o off : Nat} (ho : o ≠ off) :
    (s.readClear d off).reg o = s.reg o := by
  unfold State.readClear State.strClear
  extract_lets
  repeat' split
  all_goals simp [State.reg_setReg, ho]

theorem State.reg_gpioIn (s : State) (n o : Nat) : (s.gpioIn n).2.reg o = s.reg o :=
  (State.gpioIn_kept (M := {}) (Kept.refl s)).reg rfl o

theorem State.reg_regRead_other (s : State) (d : RegDesc) {o off : Nat} (ho : o ≠ off) :
    (s.regRead d off).2.reg o = s.reg o := by
  unfold State.regRead
  extract_lets read
  split
  · rfl
  split
  · rfl
  split
  · rfl
  split
  · exact s.reg_gpioIn _ o
  · have hread : read.reg o = s.reg o := by
      dsimp only [read]
      split <;> rfl
    exact (read.reg_readClear_other d ho).trans hread

/-- A BAR0 read changes no other register, but the flag of a dark block. -/
theorem State.reg_barRead_other (s : State) {o off : Nat} (ho : o ≠ off) (hdark : o ≠ rTopDark) :
    (s.barRead off).2.reg o = s.reg o := by
  unfold State.barRead
  repeat' split
  · exact State.reg_setReg_other s _ hdark
  · rfl
  · exact s.reg_regRead_other _ ho

/-! ### Whether a test may start, after a request is taken (R674, R683) -/

section Taking
variable (s : State) (m3 : Bool) (key : Nat × Nat)

theorem State.island_taking (i : Nat) : (s.taking m3 key).island i = s.island i :=
  congrArg (fld · (2 * i) 2) (s.reg_taking_other m3 key (by decide))

theorem State.testClusters_taking : (s.taking m3 key).testClusters = s.testClusters := by
  simp [State.testClusters, State.island_taking]

theorem rFabCset_ne_rSpisStat {n : Nat} (hn : n < 1024) :
    rFabCsetW0 n ≠ rSpisStat ∧ rFabCsetW1 n ≠ rSpisStat ∧ rFabCsetW2 n ≠ rSpisStat := by
  unfold rFabCsetW0 rFabCsetW1 rFabCsetW2 rSpisStat
  omega

theorem rEngDld_ne_rSpisStat {k : Nat} (hk : k < 2048) : rEngDldW0 (k / 64) (k % 64) ≠ rSpisStat ∧
    rEngDldW1 (k / 64) (k % 64) ≠ rSpisStat ∧ rEngDldW2 (k / 64) (k % 64) ≠ rSpisStat := by
  unfold rEngDldW0 rEngDldW1 rEngDldW2 rSpisStat
  omega

theorem filterMap_congr_mem {α β : Type} {f g : α → Option β} {l : List α} (h : ∀ x, x ∈ l → f x = g x) :
    l.filterMap f = l.filterMap g := by
  induction l with
  | nil => rfl
  | cons a l ih =>
    rw [List.filterMap_cons, List.filterMap_cons, h a (List.mem_cons_self ..), ih fun x hx => h x (List.mem_cons_of_mem a hx)]

theorem flatMap_congr_mem {α β : Type} {f g : α → List β} {l : List α} (h : ∀ x, x ∈ l → f x = g x) :
    l.flatMap f = l.flatMap g := by
  rw [List.flatMap_def, List.flatMap_def, List.map_congr_left h]

theorem append_congr {α : Type} {a a' b b' : List α} (ha : a = a') (hb : b = b') : a ++ b = a' ++ b' := by rw [ha, hb]

theorem State.liveCluster_taking (c : Nat) : (s.taking m3 key).liveCluster c = s.liveCluster c := by
  unfold State.liveCluster
  refine congrArg List.eraseDups (append_congr rfl ?sets)
  refine filterMap_congr_mem fun n hn => ?_
  obtain ⟨h0, -, h2⟩ := rFabCset_ne_rSpisStat (List.mem_range.mp hn)
  simp only [State.csetOwner, State.rfld, s.reg_taking_other m3 key h0, s.reg_taking_other m3 key h2]

theorem State.liveTiles_taking : (s.taking m3 key).liveTiles = s.liveTiles := by
  refine append_congr (append_congr (append_congr rfl (flatMap_congr_mem fun n hn => ?sets))
    (filterMap_congr_mem fun k hk => ?dlds)) rfl
  case sets =>
    obtain ⟨h0, h1, h2⟩ := rFabCset_ne_rSpisStat (List.mem_range.mp hn)
    simp only [State.csetOwner, State.csetSize, State.pageBase, State.rfld, State.rbit, s.reg_taking_other m3 key h0,
      s.reg_taking_other m3 key h1, s.reg_taking_other m3 key h2]
  case dlds =>
    obtain ⟨h0, h1, h2⟩ := rEngDld_ne_rSpisStat (List.mem_range.mp hk)
    simp only [State.dld, s.reg_taking_other m3 key h0, s.reg_taking_other m3 key h1, s.reg_taking_other m3 key h2]
    rfl

/-- Taking a request changes nothing that a test's start depends on. -/
theorem State.testCause_taking (t : Nat) : (s.taking m3 key).testCause t = s.testCause t := by
  have hlive (code : Nat) : (s.taking m3 key).testLive code = s.testLive code := by
    simp only [State.testLive, State.testClusters_taking, State.liveCluster_taking, State.liveTiles_taking]
    rfl
  simp only [State.testCause, hlive, State.rbit_taking_other _ _ _ (show rTestStat ≠ rSpisStat by decide)]
  rfl

end Taking

theorem State.testCause_le (s : State) (t : Nat) : s.testCause t ≤ 4 := by
  unfold State.testCause
  repeat' split
  all_goals decide

/-! ### The requests as commands (R650, R652, R690) -/

/-- The opcodes and lengths that have a row of their own (R650). -/
def hasOwnRow (op : BitVec 8) (data : List Byte) : Prop :=
  op = 0 ∨ 256 < data.length ∨ spisKnown op.toNat data.length = true

section Commands
variable (s : State) (m3 : Bool) (alive : BitVec 4) (addr v : BitVec 32) (op b : BitVec 8) (data : List Byte)

theorem exec_ping_of_no_row (h : ¬ hasOwnRow op data) : exec (.ping m3 op alive addr data) s =
    .next (s.spisReq m3 op.toNat alive addr data fun u =>
      u.spisAnswer op.toNat alive.toNat (if op = 1 ∧ data = [] then 0 else 2) 0) := by
  simp only [hasOwnRow, not_or] at h
  obtain ⟨hzero, hlen, hknown⟩ := h
  have hop : op.toNat ≠ 0 := fun h0 => hzero (BitVec.eq_of_toNat_eq h0)
  have hone : op.toNat = 1 ↔ op = 1 := ⟨fun h1 => BitVec.eq_of_toNat_eq h1, fun h1 => by rw [h1]; rfl⟩
  show execPing m3 op alive addr data s = _
  rw [execPing]
  simp [hop, hlen, hknown, hone]

theorem exec_spisRegRd : exec (.spisRegRd m3 alive addr) s = .next (s.spisReq m3 2 alive addr [] fun u =>
    if u.spisMay rSpisRdEn addr then (u.barRead addr.toNat).2.spisAnswer 2 alive.toNat 0 (u.barRead addr.toNat).1.toNat
    else u.spisAnswer 2 alive.toNat 1 0) := rfl

theorem exec_spisRegWr : exec (.spisRegWr m3 alive addr v) s =
    .next (s.spisReq m3 3 alive addr (beBytes 4 v.toNat) fun u =>
      if u.spisMay rSpisWrEn addr then (u.barWrite addr.toNat v).spisAnswer 3 alive.toNat 0 0
      else u.spisAnswer 3 alive.toNat 1 0) := rfl

theorem exec_spisTestRun : exec (.spisTestRun m3 alive addr b) s = .next (s.spisTest m3 alive addr [b, 0, 0, 0] fun u =>
    (u.testStart 1 b.toNat none).spisAnswer 0x20 alive.toNat ([0, 3, 3, 1, 2].getD (u.testCause b.toNat) 1) 0) := rfl

theorem exec_spisTestStat : exec (.spisTestStat m3 alive addr) s = .next (s.spisTest m3 alive addr [] fun u =>
    u.spisAnswer 0x20 alive.toNat 0 (u.reg rTestStat).toNat) := rfl

theorem exec_spisResultRead : exec (.spisResultRead m3 alive addr b) s = .next (s.spisTest m3 alive addr [b] fun u =>
    if 25 < addr.toNat then u.spisAnswer 0x20 alive.toNat 2 0
    else u.spisAnswer 0x20 alive.toNat 0 (ofLeBytes ((u.test.record.drop (4 * addr.toNat)).take 4))) := rfl

end Commands

/-! ### A request executed (R652 to R655, R690) -/

/-- Command `c` leaves state `s` holding a reply. -/
def State.Replies (s : State) (c : Instr) (m3 : Bool) (alive : BitVec 4) (op result data : Nat) : Prop :=
  ∃ t, exec c s = .next t ∧ s.HoldsReply t m3 alive op result data

/-- A register access to BAR0 that an enable bit allows and that is not to the slave's own block (R652). -/
def State.mayAccess (s : State) (en : Nat) (addr : BitVec 32) : Prop :=
  addr.toNat < 0x400000 ∧ fld addr 16 6 ≠ 0x11 ∧ s.rbit en (fld addr 16 6) = true

theorem State.spisMay_taking (s : State) (m3 : Bool) (key : Nat × Nat) {en : Nat} (hen : en ≠ rSpisStat) (addr : BitVec 32) :
    (s.taking m3 key).spisMay en addr = true ↔ s.mayAccess en addr := by
  simp [State.spisMay, State.mayAccess, s.rbit_taking_other m3 key hen, and_assoc]

/-- An allowed access does not reach the slave's status register. -/
theorem State.mayAccess.ne_rSpisStat {s : State} {en : Nat} {addr : BitVec 32} (h : s.mayAccess en addr) :
    rSpisStat ≠ addr.toNat := by
  obtain ⟨-, hblock, -⟩ := h
  intro haddr
  exact hblock (by simp [fld, ← haddr, rSpisStat])

section Executed
variable {s : State} {m3 : Bool} {alive : BitVec 4} {addr v : BitVec 32} {op b : BitVec 8} {data : List Byte}
  (hon : s.spisOn = true) (hbusy : s.spis.busy = none) (hlast : s.spis.last = none)
include hon hbusy hlast

/-- A request whose work leaves the slave's own state alone is answered from the state in which it came. -/
theorem State.replies_of_work {c : Instr} {code result d : Nat} {f : State → State} (w : State)
    (hexec : exec c s = .next (s.spisReq m3 code alive addr data f))
    (hwork : f (s.taking m3 (requestKey code alive addr data)) = w.spisAnswer code alive.toNat result d)
    (hspis : w.spis = (s.taking m3 (requestKey code alive addr data)).spis)
    (hmode : w.reg rSpisStat = (s.taking m3 (requestKey code alive addr data)).reg rSpisStat) :
    s.Replies c m3 alive code result d := by
  refine ⟨_, hexec, ?_⟩
  rw [State.spisReq_first m3 code alive addr data f hon hbusy hlast, hwork]
  exact State.holdsReply_spisAnswer hspis ((congrArg (bit · 1) hmode).trans (s.rbit_taking_mode m3 _)) alive code result d

theorem State.replies_of_answer {c : Instr} {code result d : Nat} {f : State → State}
    (hexec : exec c s = .next (s.spisReq m3 code alive addr data f))
    (hwork : f (s.taking m3 (requestKey code alive addr data)) =
      (s.taking m3 (requestKey code alive addr data)).spisAnswer code alive.toNat result d) :
    s.Replies c m3 alive code result d :=
  State.replies_of_work hon hbusy hlast _ hexec hwork rfl rfl

theorem replies_spisRegRd_denied (h : ¬ s.mayAccess rSpisRdEn addr) : s.Replies (.spisRegRd m3 alive addr) m3 alive 2 1 0 :=
  State.replies_of_answer hon hbusy hlast (exec_spisRegRd ..)
    (if_neg (mt (State.spisMay_taking _ _ _ (by decide) _).mp h))

theorem replies_spisRegRd (h : s.mayAccess rSpisRdEn addr) : s.Replies (.spisRegRd m3 alive addr) m3 alive 2 0
    ((s.taking m3 (requestKey 2 alive addr [])).barRead addr.toNat).1.toNat :=
  State.replies_of_work hon hbusy hlast _ (exec_spisRegRd ..)
    (if_pos ((State.spisMay_taking _ _ _ (by decide) _).mpr h)) (State.spis_barRead _ _)
    (State.reg_barRead_other _ h.ne_rSpisStat (by decide))

theorem replies_spisRegWr_denied (h : ¬ s.mayAccess rSpisWrEn addr) : s.Replies (.spisRegWr m3 alive addr v) m3 alive 3 1 0 :=
  State.replies_of_answer hon hbusy hlast (exec_spisRegWr ..)
    (if_neg (mt (State.spisMay_taking _ _ _ (by decide) _).mp h))

theorem exec_spisRegWr_allowed (h : s.mayAccess rSpisWrEn addr) : exec (.spisRegWr m3 alive addr v) s =
    .next (((s.taking m3 (requestKey 3 alive addr (beBytes 4 v.toNat))).barWrite addr.toNat v).spisAnswer 3 alive.toNat 0 0) := by
  rw [exec_spisRegWr, State.spisReq_first _ _ _ _ _ _ hon hbusy hlast,
    if_pos ((State.spisMay_taking _ _ _ (by decide) _).mpr h)]

/-- A TEST_RUN opcode is denied while TEST.CTRL.SPIS_EN is 0. -/
theorem replies_spisTest_denied (h : s.rbit rTestCtrl 9 = false) {c : Instr} {f : State → State}
    (hexec : exec c s = .next (s.spisTest m3 alive addr data f)) : s.Replies c m3 alive 0x20 1 0 :=
  State.replies_of_answer hon hbusy hlast hexec
    (if_neg (by rw [State.rbit_taking_other _ _ _ (by decide), h]; decide))

theorem replies_spisTest_work (h : s.rbit rTestCtrl 9 = true) {c : Instr} {result d : Nat} {f : State → State} (w : State)
    (hexec : exec c s = .next (s.spisTest m3 alive addr data f))
    (hwork : f (s.taking m3 (requestKey 0x20 alive addr data)) = w.spisAnswer 0x20 alive.toNat result d)
    (hspis : w.spis = (s.taking m3 (requestKey 0x20 alive addr data)).spis)
    (hmode : w.reg rSpisStat = (s.taking m3 (requestKey 0x20 alive addr data)).reg rSpisStat) :
    s.Replies c m3 alive 0x20 result d :=
  State.replies_of_work hon hbusy hlast w hexec
    ((if_pos ((State.rbit_taking_other _ _ _ (by decide) _).trans h)).trans hwork) hspis hmode

theorem replies_spisTestRun (h : s.rbit rTestCtrl 9 = true) : s.Replies (.spisTestRun m3 alive addr b) m3 alive 0x20
    (match s.testCause b.toNat with | 0 => 0 | 1 => 3 | 2 => 3 | 3 => 1 | _ => 2) 0 := by
  have hresult : [0, 3, 3, 1, 2].getD (s.testCause b.toNat) 1 =
      match s.testCause b.toNat with | 0 => 0 | 1 => 3 | 2 => 3 | 3 => 1 | _ => 2 := by
    generalize hk : s.testCause b.toNat = k
    have hle : k ≤ 4 := hk ▸ s.testCause_le b.toNat
    match k, hle with
    | 0, _ | 1, _ | 2, _ | 3, _ | 4, _ => rfl
  rw [← hresult, ← s.testCause_taking m3 (requestKey 0x20 alive addr [b, 0, 0, 0])]
  exact replies_spisTest_work hon hbusy hlast h _ (exec_spisTestRun ..) rfl (State.spis_testStart ..) (State.reg_testStart ..)

theorem replies_spisTestStat (h : s.rbit rTestCtrl 9 = true) :
    s.Replies (.spisTestStat m3 alive addr) m3 alive 0x20 0 (s.reg rTestStat).toNat := by
  rw [← s.reg_taking_other m3 (requestKey 0x20 alive addr []) (show rTestStat ≠ rSpisStat by decide)]
  exact replies_spisTest_work hon hbusy hlast h _ (exec_spisTestStat ..) rfl rfl rfl

theorem replies_spisResultRead (h : s.rbit rTestCtrl 9 = true) : s.Replies (.spisResultRead m3 alive addr b) m3 alive 0x20
    (if addr.toNat ≤ 25 then 0 else 2)
    (if addr.toNat ≤ 25 then ofLeBytes ((s.test.record.drop (4 * addr.toNat)).take 4) else 0) := by
  refine replies_spisTest_work hon hbusy hlast h _ (exec_spisResultRead ..) ?_ rfl rfl
  by_cases hword : addr.toNat ≤ 25
  · rw [if_neg (by omega), if_pos hword, if_pos hword]
    rfl
  · rw [if_pos (by omega), if_neg hword, if_neg hword]

end Executed

/-! ### A request discarded (R655), a bad frame (R649), a repeat (R654) -/

theorem State.spisDrop_eq (s : State) : s.spisDrop = (s.spisNote 9 16).modSpis fun x => { x with drop := true } := rfl

/-- A command that is a request of the slave: it does nothing while the slave takes no part, and is discarded while an earlier
request executes. -/
theorem exec_request_idle_or_drop {s : State} {c : Instr} {m3 : Bool} {op : Nat} {alive : BitVec 4} {addr : BitVec 32}
    {data : List Byte} {f : State → State} (hexec : exec c s = .next (s.spisReq m3 op alive addr data f)) :
    (s.spisOn = false → exec c s = .next s) ∧
    (s.spisOn = true → s.spis.busy.isSome = true → ∃ t, exec c s = .next t ∧ t.spis = { s.spis with drop := true } ∧
      t.rbit rSpisStat 9 = true ∧ t.rfld rSpisCnt 16 8 = min (s.rfld rSpisCnt 16 8 + 1) 255) := by
  rw [hexec]
  refine ⟨fun hoff => congrArg _ (State.spisReq_off m3 op alive addr data f hoff), fun hon hbusy => ⟨_, rfl, ?_⟩⟩
  rw [State.spisReq_busy m3 op alive addr data f hon hbusy, State.spisDrop_eq]
  exact ⟨rfl, s.spisNote_effect m3 (by decide) (by decide)⟩

theorem exec_badFrame (m3 : Bool) (s : State) : exec (.badFrame m3) s = .next (s.spisDo m3 fun u =>
    (u.spisNote 8 0).modSpis fun x => { x with bad := true }) := rfl

theorem exec_badFrame_noted {s : State} (hon : s.spisOn = true) (m3 : Bool) :
    ∃ t, exec (.badFrame m3) s = .next t ∧ t.spis = { s.spis with bad := true } ∧ t.rbit rSpisStat 8 = true ∧
      t.rfld rSpisCnt 0 8 = min (s.rfld rSpisCnt 0 8 + 1) 255 := by
  rw [exec_badFrame, State.spisDo_on hon]
  exact ⟨_, rfl, rfl, s.spisNote_effect m3 (by decide) (by decide)⟩

theorem exec_repeat (m3 : Bool) (alive : BitVec 4) (crc : BitVec 16) (s : State) : exec (.repeat m3 alive crc) s =
    .next (s.spisDo m3 fun u => if u.spis.last ≠ some (alive.toNat, crc.toNat) then u
      else if u.spis.busy.isSome then u.spisDrop else u.spisRepeat) := rfl

theorem exec_repeat_other {s : State} (hon : s.spisOn = true) {alive : BitVec 4} {crc : BitVec 16}
    (h : s.spis.last ≠ some (alive.toNat, crc.toNat)) (m3 : Bool) :
    exec (.repeat m3 alive crc) s = .next (s.setBit rSpisStat 1 m3) := by
  have hspis : (s.setBit rSpisStat 1 m3).spis = s.spis := rfl
  rw [exec_repeat, State.spisDo_on hon, hspis, if_pos h]

/-- A repeat is answered with the held reply, its repeat flag set. -/
theorem exec_repeat_same {s : State} (hon : s.spisOn = true) {alive : BitVec 4} {crc : BitVec 16}
    (h : s.spis.last = some (alive.toNat, crc.toNat)) (hbusy : s.spis.busy = none) (m3 : Bool) :
    ∃ t, exec (.repeat m3 alive crc) s = .next t ∧ t.rfld rSpisCnt 8 8 = min (s.rfld rSpisCnt 8 8 + 1) 255 ∧
      t.spis = { s.spis with reply := s.spis.reply.map fun r => (r.1, r.2.1 ||| 64, r.2.2) } := by
  have hspis : (s.setBit rSpisStat 1 m3).spis = s.spis := rfl
  have hcnt : (s.setBit rSpisStat 1 m3).rfld rSpisCnt 8 8 = s.rfld rSpisCnt 8 8 :=
    congrArg (fld · 8 8) (State.reg_setReg_other s _ (by decide))
  rw [exec_repeat, State.spisDo_on hon, hspis, if_neg (fun hne => hne h), if_neg (by simp [hbusy])]
  refine ⟨_, rfl, ?_, rfl⟩
  show ((s.setBit rSpisStat 1 m3).bump rSpisCnt 8 8).rfld rSpisCnt 8 8 = _
  exact (State.rfld_bump_same _ _ _ _ (by decide)).trans (congrArg (fun n => min (n + 1) 255) hcnt)

/-! ### Reply reads (R653, R656) -/

/-- The first `n` bytes of a transaction that sends `b` and then ones. -/
theorem getElem?_take_padded {b : List Byte} {x : Byte} {n i : Nat} (hi : i < n) :
    ((b ++ List.replicate (n - b.length) x).take n)[i]? = some (b.getD i x) := by
  rw [List.getElem?_take_of_lt hi]
  rw [List.getD_eq_getElem?_getD]
  by_cases hb : i < b.length
  · rw [List.getElem?_append_left hb, List.getElem?_eq_getElem hb, Option.getD_some]
  · rw [List.getElem?_append_right (by omega), List.getElem?_replicate, if_pos (by omega), List.getElem?_eq_none (by omega),
      Option.getD_none]

theorem getElem?_foghorn {n i : Nat} (hi : i < n) : (foghorn n)[i]? = some (if i % 2 = 0 then 0xF0 else 0x0F) := by
  simp [foghorn, hi]

/-- A transaction without a reply sends the foghorn pattern, after the status byte in the long format. -/
theorem spisSend_wait {reply : Option (Nat × Nat × Nat × Nat)} {ready busy : Bool}
    (h : reply = none ∨ busy = true ∨ ready = false) (fmt : Bool) (n : Nat) : spisSend fmt reply ready busy n =
      if fmt then (((if reply.isNone && !busy then 0x3C else 0xA5) :: foghorn (n - 1)).take n, false) else (foghorn n, false) := by
  cases reply with
  | none => rfl
  | some r =>
    have hwait : (ready && !busy) = false := by
      rcases h with h | h | h
      · cases h
      · simp [h]
      · simp [h]
    simp only [spisSend, hwait]

theorem getElem?_long_foghorn {status : Byte} {n i : Nat} (hi : i < n) : ((status :: foghorn (n - 1)).take n)[i]? =
    some (if i = 0 then status else if i % 2 = 1 then 0xF0 else 0x0F) := by
  rw [List.getElem?_take_of_lt hi]
  cases i with
  | zero => rfl
  | succ j =>
    rw [List.getElem?_cons_succ, getElem?_foghorn (by omega)]
    simp [show (j + 1) % 2 = 1 ↔ j % 2 = 0 by omega]

/-- What a reply read leaves: the bytes sent, and whether the reply is still unread. -/
def State.sent (s : State) (m3 : Bool) (r : List Byte × Bool) : State :=
  { s.setBit rSpisStat 1 m3 with spis := { s.spis with out := r.1, unread := s.spis.unread && !r.2 } }

theorem exec_replyRead_off {s : State} (hoff : s.spisOn = false) (m3 ready : Bool) (n : Nat) :
    exec (.replyRead m3 ready n) s = .next { s with spis := { s.spis with out := [] } } := by
  show execReplyRead m3 ready n s = _
  rw [execReplyRead, hoff]
  rfl

section ReplyRead
variable {s : State} (hon : s.spisOn = true) (m3 : Bool) {ready : Bool} (n : Nat)
include hon

theorem exec_replyRead : exec (.replyRead m3 ready n) s =
    .next (s.sent m3 (spisSend (s.rbit rSpisStat 0) s.spis.reply ready s.spis.busy.isSome n)) := by
  have hfmt : (s.setBit rSpisStat 1 m3).rbit rSpisStat 0 = s.rbit rSpisStat 0 := by
    simp [State.rbit, State.reg_setBit]
  rw [← hfmt]
  show execReplyRead m3 ready n s = _
  rw [execReplyRead, if_neg (by simp [hon]), State.spisDo_on hon]
  rfl

/-- A reply in time is sent byte by byte, ones after it; it stays unread until all of it is sent. -/
theorem exec_replyRead_reply {r : Nat × Nat × Nat × Nat} (hreply : s.spis.reply = some r) (hbusy : s.spis.busy = none)
    (hready : ready = true) :
    let whole := (if s.rbit rSpisStat 0 then [0x5A] else []) ++ spisReply r
    ∃ t, exec (.replyRead m3 ready n) s = .next t ∧ t.spis.reply = s.spis.reply ∧ t.spis.out.length = n ∧
      t.spis.unread = (s.spis.unread && decide (n < whole.length)) ∧
      ∀ i, i < n → t.spis.out[i]? = some (whole.getD i 0xFF) := by
  intro whole
  have hsend : spisSend (s.rbit rSpisStat 0) s.spis.reply ready s.spis.busy.isSome n =
      ((whole ++ List.replicate (n - whole.length) 0xFF).take n, decide (whole.length ≤ n)) := by
    rw [hreply, hbusy, hready]
    rfl
  refine ⟨_, exec_replyRead hon m3 n, rfl, ?_, ?_, fun i hi => ?_⟩
  all_goals rw [hsend]
  · show List.length (List.take n _) = n
    simp only [List.length_take, List.length_append, List.length_replicate]
    omega
  · simp [State.sent, ← decide_not]
  · exact getElem?_take_padded hi

theorem exec_replyRead_wait (h : s.spis.reply = none ∨ s.spis.busy.isSome = true ∨ ready = false) :
    let status : Byte := if s.spis.reply = none ∧ s.spis.busy = none then 0x3C else 0xA5
    ∃ t, exec (.replyRead m3 ready n) s = .next t ∧ t.spis.reply = s.spis.reply ∧ t.spis.unread = s.spis.unread ∧
      ∀ i, i < n → t.spis.out[i]? = some (if s.rbit rSpisStat 0 then
        (if i = 0 then status else if i % 2 = 1 then 0xF0 else 0x0F) else if i % 2 = 0 then 0xF0 else 0x0F) := by
  intro status
  have hstatus : (if s.spis.reply.isNone && !s.spis.busy.isSome then 0x3C else 0xA5) = status := by
    simp [status]
  have hsend := hstatus ▸ spisSend_wait h (s.rbit rSpisStat 0) n
  refine ⟨_, exec_replyRead hon m3 n, rfl, ?_, fun i hi => ?_⟩
  all_goals rw [hsend]
  all_goals split
  · exact Bool.and_true _
  · exact Bool.and_true _
  · exact getElem?_long_foghorn hi
  · exact getElem?_foghorn hi

end ReplyRead

/-- Settles O54: the requests by what their work leaves alone, the other transactions one by one. -/
theorem slaveRequests : Obligations.SlaveRequests := by
  refine ⟨fun s m3 alive addr v op b data => ?requests, fun s m3 ready alive crc n => ?others⟩
  case requests =>
    intro flags replied taken may c0 c1 c2 c3 c4 c5 known
    refine ⟨fun hon hbusy hlast => ⟨fun hop => ?_, fun h => ?_, fun h => ?_, fun h => ?_, fun h => ?_, fun h c hc => ?_,
      fun h => ⟨?_, ?_, ?_⟩⟩, fun c hc => ?_⟩
    · exact State.replies_of_answer hon hbusy hlast (exec_ping_of_no_row s m3 alive addr op data hop) rfl
    · exact replies_spisRegRd_denied hon hbusy hlast h
    · exact ⟨_, ⟨_, rfl⟩, replies_spisRegRd hon hbusy hlast h⟩
    · exact replies_spisRegWr_denied hon hbusy hlast h
    · exact ⟨_, ⟨_, rfl⟩, exec_spisRegWr_allowed hon hbusy hlast h⟩
    · obtain rfl | rfl | rfl := hc
      · exact replies_spisTest_denied hon hbusy hlast h (exec_spisTestRun ..)
      · exact replies_spisTest_denied hon hbusy hlast h (exec_spisTestStat ..)
      · exact replies_spisTest_denied hon hbusy hlast h (exec_spisResultRead ..)
    · exact replies_spisTestRun hon hbusy hlast h
    · exact replies_spisTestStat hon hbusy hlast h
    · exact replies_spisResultRead hon hbusy hlast h
    · obtain ⟨rfl, hop⟩ | rfl | rfl | rfl | rfl | rfl := hc
      · exact exec_request_idle_or_drop (exec_ping_of_no_row s m3 alive addr op data hop)
      · exact exec_request_idle_or_drop (exec_spisRegRd ..)
      · exact exec_request_idle_or_drop (exec_spisRegWr ..)
      · exact exec_request_idle_or_drop (exec_spisTestRun ..)
      · exact exec_request_idle_or_drop (exec_spisTestStat ..)
      · exact exec_request_idle_or_drop (exec_spisResultRead ..)
  case others =>
    refine ⟨fun hoff => ⟨?_, ?_, ?_⟩, fun hon => ⟨?_, ?_, ?_, ?_, ?_⟩⟩
    · rw [exec_badFrame, State.spisDo_off hoff]
    · rw [exec_repeat, State.spisDo_off hoff]
    · exact ⟨_, exec_replyRead_off hoff m3 ready n, rfl, rfl⟩
    · exact exec_badFrame_noted hon m3
    · exact fun h hbusy => exec_repeat_same hon h hbusy m3
    · exact fun h => exec_repeat_other hon h m3
    · exact fun r hreply hbusy hready => exec_replyRead_reply hon m3 n hreply hbusy hready
    · exact exec_replyRead_wait hon m3 n

end Sys2Proof.Machine

/-! The settlement of EveryCommandAnswers, CommandsKeepTheRest, FusesAreNeverCleared and InvariantIsKept. Two facts about `exec`
carry all four: it answers a next state for every command, and what lies outside a command's footprint it keeps
(`Kept`, Laws/Kept.lean). -/

namespace Sys2Proof.Machine

/-! ### Every command answers -/

/-- The outcome is a next state. -/
def Answers (o : Host.Outcome State Fault Refusal) : Prop := ∃ t, o = .next t

theorem Answers.next (s : State) : Answers (.next s) := ⟨s, rfl⟩

theorem Answers.ite {p : Prop} [Decidable p] {a b : Host.Outcome State Fault Refusal} (ha : Answers a) (hb : Answers b) :
    Answers (if p then a else b) := by
  split
  · exact ha
  · exact hb

theorem State.onMsg_answers (s : State) (kind src : Nat) (f : Msg → State → State) : Answers (s.onMsg kind src f) := by
  unfold State.onMsg
  split <;> exact Answers.next _

theorem execCrossingDelivery_answers (src dst : Fin 26) (s : State) : Answers (execCrossingDelivery src dst s) := by
  unfold execCrossingDelivery
  repeat' (first | with_reducible exact .next _ | with_reducible refine .ite ?_ ?_ | split | extract_lets)

theorem execGrantDecision_answers (b : Fin 64) (s : State) : Answers (execGrantDecision b s) := by
  unfold execGrantDecision
  repeat' (first | with_reducible exact .next _ | with_reducible refine .ite ?_ ?_)

theorem execBankGrant_answers (b : Fin 64) (s : State) : Answers (execBankGrant b s) := by
  unfold execBankGrant
  repeat' (first | with_reducible exact .next _ | with_reducible refine .ite ?_ ?_ | split | extract_lets)

theorem execOutboundPortGrant_answers (s : State) : Answers (execOutboundPortGrant s) := by
  unfold execOutboundPortGrant
  repeat' (first | with_reducible exact .next _ | with_reducible refine .ite ?_ ?_ | split)

theorem execTickReceipt_answers (e : Fin 32) (s : State) : Answers (execTickReceipt e s) := by
  unfold execTickReceipt
  repeat' (first | with_reducible exact .next _ | with_reducible refine .ite ?_ ?_ | split)

theorem execSourceEvent_answers (src : Fin 12) (refs : BitVec 32) (s : State) : Answers (execSourceEvent src refs s) := by
  unfold execSourceEvent
  repeat' (first | with_reducible exact .next _ | with_reducible refine .ite ?_ ?_ | split)

theorem execSrcLost_answers (s : State) : Answers (execSrcLost s) := by
  unfold execSrcLost
  repeat' (first | with_reducible exact .next _ | with_reducible refine .ite ?_ ?_)

theorem execDmSourceEvent_answers (m : Fin 2) (s : State) : Answers (execDmSourceEvent m s) := by
  unfold execDmSourceEvent
  repeat' (first | with_reducible exact .next _ | with_reducible refine .ite ?_ ?_ | split)

theorem execFarReturnArrival_answers (e : Fin 32) (s : State) : Answers (execFarReturnArrival e s) := by
  unfold execFarReturnArrival
  repeat' (first | with_reducible exact .next _ | with_reducible refine .ite ?_ ?_ | split)

theorem execFarStoreTaken_answers (e : Fin 32) (s : State) : Answers (execFarStoreTaken e s) := by
  unfold execFarStoreTaken
  repeat' (first | with_reducible exact .next _ | with_reducible refine .ite ?_ ?_ | split | extract_lets)

theorem execIllegalWord_answers (e : Fin 32) (s : State) : Answers (execIllegalWord e s) := by
  unfold execIllegalWord
  repeat' (first | with_reducible exact .next _ | with_reducible refine .ite ?_ ?_ | split)

theorem execSegmentEntry_answers (e : Fin 32) (s : State) : Answers (execSegmentEntry e s) := by
  unfold execSegmentEntry
  repeat' (first | with_reducible exact .next _ | with_reducible refine .ite ?_ ?_ | split)

theorem execBudgetCut_answers (e : Fin 32) (s : State) : Answers (execBudgetCut e s) := by
  unfold execBudgetCut
  repeat' (first | with_reducible exact .next _ | with_reducible refine .ite ?_ ?_ | split | extract_lets)

theorem execCoefWrite_answers (c : Fin 512) (q : BitVec 32) (data : List (BitVec 128)) (s : State)
    : Answers (execCoefWrite c q data s) := by
  unfold execCoefWrite
  repeat' (first | with_reducible exact .next _ | with_reducible refine .ite ?_ ?_ | split)

theorem execCoefDelta_answers (c : Fin 512) (q : BitVec 32) (list : List (BitVec 192)) (s : State)
    : Answers (execCoefDelta c q list s) := by
  unfold execCoefDelta
  repeat' (first | with_reducible exact .next _ | with_reducible refine .ite ?_ ?_ | split)

theorem execShadowWriteComplete_answers (c : Fin 512) (q : BitVec 32) (fail : Fin 3) (s : State)
    : Answers (execShadowWriteComplete c q fail s) := by
  unfold execShadowWriteComplete
  repeat' (first | with_reducible exact .next _ | with_reducible refine .ite ?_ ?_ | split)

theorem execResyncStart_answers (n : Fin 1024) (s : State) : Answers (execResyncStart n s) := by
  unfold execResyncStart
  repeat' (first | with_reducible exact .next _ | with_reducible refine .ite ?_ ?_ | split)

theorem execCommit_answers (c : Fin 512) (q : BitVec 32) (s : State) : Answers (execCommit c q s) := by
  unfold execCommit
  repeat' (first | with_reducible exact .next _ | with_reducible refine .ite ?_ ?_ | split)

theorem execCommitArm_answers (c : Fin 512) (q : BitVec 32) (s : State) : Answers (execCommitArm c q s) := by
  unfold execCommitArm
  repeat' (first | with_reducible exact .next _ | with_reducible refine .ite ?_ ?_ | split)

theorem execCommitDiscard_answers (c : Fin 512) (q : BitVec 32) (s : State) : Answers (execCommitDiscard c q s) := by
  unfold execCommitDiscard
  repeat' (first | with_reducible exact .next _ | with_reducible refine .ite ?_ ?_ | split)

theorem execCascadeCommit_answers (c : Fin 512) (q : BitVec 32) (s : State) : Answers (execCascadeCommit c q s) := by
  unfold execCascadeCommit
  repeat' (first | with_reducible exact .next _ | with_reducible refine .ite ?_ ?_ | split)

theorem execCascadeDecision_answers (g : Fin 64) (s : State) : Answers (execCascadeDecision g s) := by
  unfold execCascadeDecision
  repeat' (first | with_reducible exact .next _ | with_reducible refine .ite ?_ ?_ | split | extract_lets)

theorem execGainSet_answers (c : Fin 512) (q : BitVec 32) (s : State) : Answers (execGainSet c q s) := by
  unfold execGainSet
  repeat' (first | with_reducible exact .next _ | with_reducible refine .ite ?_ ?_ | split)

theorem execCancel_answers (c : Fin 512) (q : BitVec 32) (s : State) : Answers (execCancel c q s) := by
  unfold execCancel
  repeat' (first | with_reducible exact .next _ | with_reducible refine .ite ?_ ?_ | split)

theorem execTranslationWalk_answers (c : Fin 512) (page : BitVec 36) (e1 e2 e3 : BitVec 64) (err : Fin 4) (s : State)
    : Answers (execTranslationWalk c page e1 e2 e3 err s) := by
  unfold execTranslationWalk
  repeat' (first | with_reducible exact .next _ | with_reducible refine .ite ?_ ?_ | split)

theorem execPrefetchChunkIssue_answers (n : Fin 4096) (u0 : Int) (s : State) : Answers (execPrefetchChunkIssue n u0 s) := by
  unfold execPrefetchChunkIssue
  repeat' (first | with_reducible exact .next _ | with_reducible refine .ite ?_ ?_ | split | extract_lets)

theorem execWritebackChunkIssue_answers (n : Fin 4096) (s : State) : Answers (execWritebackChunkIssue n s) := by
  unfold execWritebackChunkIssue
  repeat' (first | with_reducible exact .next _ | with_reducible refine .ite ?_ ?_ | split | extract_lets)

theorem execChunkCompletion_answers (m : Fin 64) (data : List (BitVec 8)) (fail : Fin 3) (s : State)
    : Answers (execChunkCompletion m data fail s) := by
  unfold execChunkCompletion
  repeat' (first | with_reducible exact .next _ | with_reducible refine .ite ?_ ?_ | split)

theorem execChunkDeadline_answers (n : Fin 4096) (u0 : Int) (read : Bool) (s : State)
    : Answers (execChunkDeadline n u0 read s) := by
  unfold execChunkDeadline
  repeat' (first | with_reducible exact .next _ | with_reducible refine .ite ?_ ?_ | split)

theorem execLineMap_answers (c : Fin 512) (q : BitVec 32) (s : State) : Answers (execLineMap c q s) := by
  unfold execLineMap
  repeat' (first | with_reducible exact .next _ | with_reducible refine .ite ?_ ?_ | split)

theorem execLineActivation_answers (n : Fin 4096) (s : State) : Answers (execLineActivation n s) := by
  unfold execLineActivation
  repeat' (first | with_reducible exact .next _ | with_reducible refine .ite ?_ ?_)

theorem execUnmap_answers (c : Fin 512) (q : BitVec 32) (s : State) : Answers (execUnmap c q s) := by
  unfold execUnmap
  repeat' (first | with_reducible exact .next _ | with_reducible refine .ite ?_ ?_ | split)

theorem execUnmapComplete_answers (n : Fin 4096) (s : State) : Answers (execUnmapComplete n s) := by
  unfold execUnmapComplete
  repeat' (first | with_reducible exact .next _ | with_reducible refine .ite ?_ ?_)

theorem execSinterRegionStart_answers (bad : BitVec 32) (s : State) : Answers (execSinterRegionStart bad s) := by
  unfold execSinterRegionStart
  repeat' (first | with_reducible exact .next _ | with_reducible refine .ite ?_ ?_ | split)

theorem execLmSinterRegionStart_answers (e : Fin 32) (bad : BitVec 64) (s : State)
    : Answers (execLmSinterRegionStart e bad s) := by
  unfold execLmSinterRegionStart
  repeat' (first | with_reducible exact .next _ | with_reducible refine .ite ?_ ?_)

theorem execProtectedTileRelocation_answers (t : Fin 16384) (s : State) : Answers (execProtectedTileRelocation t s) := by
  unfold execProtectedTileRelocation
  extract_lets t b row fails target slot
  clear_value target slot
  split
  · exact .ite (.next _) (.next _)
  · exact .next _

theorem execRouteSet_answers (c : Fin 512) (q : BitVec 32) (s : State) : Answers (execRouteSet c q s) := by
  unfold execRouteSet
  repeat' (first | with_reducible exact .next _ | with_reducible refine .ite ?_ ?_ | split)

theorem execRouteClear_answers (c : Fin 512) (q : BitVec 32) (s : State) : Answers (execRouteClear c q s) := by
  unfold execRouteClear
  repeat' (first | with_reducible exact .next _ | with_reducible refine .ite ?_ ?_ | split)

theorem execCtxEnable_answers (c : Fin 512) (fresh : Bool) (a b : BitVec 1024) (host : BitVec 160)
    (tags : List (BitVec 64)) (ok : Bool) (s : State) : Answers (execCtxEnable c fresh a b host tags ok s) := by
  unfold execCtxEnable
  repeat' (first | with_reducible exact .next _ | with_reducible refine .ite ?_ ?_ | split)

theorem execCtxReset_answers (c : Fin 512) (s : State) : Answers (execCtxReset c s) := by
  unfold execCtxReset
  repeat' (first | with_reducible exact .next _ | with_reducible refine .ite ?_ ?_)

theorem execDescriptorAccept_answers (c : Fin 512) (d : Option (BitVec 512)) (s : State)
    : Answers (execDescriptorAccept c d s) := by
  unfold execDescriptorAccept
  repeat' (first | with_reducible exact .next _ | with_reducible refine .ite ?_ ?_ | split)

theorem execFetchRetry_answers (c : Fin 512) (s : State) : Answers (execFetchRetry c s) := by
  unfold execFetchRetry
  repeat' (first | with_reducible exact .next _ | with_reducible refine .ite ?_ ?_ | split | extract_lets)

theorem execDescriptorFinish_answers (c : Fin 512) (q : BitVec 32) (s : State) : Answers (execDescriptorFinish c q s) := by
  unfold execDescriptorFinish
  repeat' (first | with_reducible exact .next _ | with_reducible refine .ite ?_ ?_ | split | extract_lets)

theorem execCompletionRecord_answers (c : Fin 512) (s : State) : Answers (execCompletionRecord c s) := by
  unfold execCompletionRecord
  repeat' (first | with_reducible exact .next _ | with_reducible refine .ite ?_ ?_ | split | extract_lets)

theorem execCompletionInterrupt_answers (c : Fin 512) (s : State) : Answers (execCompletionInterrupt c s) := by
  unfold execCompletionInterrupt
  repeat' (first | with_reducible exact .next _ | with_reducible refine .ite ?_ ?_)

theorem execNopDesc_answers (c : Fin 512) (q : BitVec 32) (s : State) : Answers (execNopDesc c q s) := by
  unfold execNopDesc
  repeat' (first | with_reducible exact .next _ | with_reducible refine .ite ?_ ?_ | split)

theorem execFence_answers (c : Fin 512) (q : BitVec 32) (s : State) : Answers (execFence c q s) := by
  unfold execFence
  repeat' (first | with_reducible exact .next _ | with_reducible refine .ite ?_ ?_ | split)

theorem execProgLoad_answers (c : Fin 512) (q : BitVec 32) (image : List (BitVec 64)) (dlds : List (BitVec 128))
    (fail : Fin 3) (s : State) : Answers (execProgLoad c q image dlds fail s) := by
  unfold execProgLoad
  repeat' (first | with_reducible exact .next _ | with_reducible refine .ite ?_ ?_ | split)

theorem execSegMap_answers (c : Fin 512) (q : BitVec 32) (images : List (BitVec 256)) (binds : List (BitVec 32))
    (sets : List (BitVec 128)) (fail : Fin 3) (s : State) : Answers (execSegMap c q images binds sets fail s) := by
  unfold execSegMap
  repeat' (first | with_reducible exact .next _ | with_reducible refine .ite ?_ ?_ | split)

theorem execProgSwap_answers (c : Fin 512) (q : BitVec 32) (s : State) : Answers (execProgSwap c q s) := by
  unfold execProgSwap
  repeat' (first | with_reducible exact .next _ | with_reducible refine .ite ?_ ?_ | split)

theorem execStreamOpen_answers (c : Fin 512) (q : BitVec 32) (s : State) : Answers (execStreamOpen c q s) := by
  unfold execStreamOpen
  repeat' (first | with_reducible exact .next _ | with_reducible refine .ite ?_ ?_ | split)

theorem execStreamClose_answers (c : Fin 512) (q : BitVec 32) (s : State) : Answers (execStreamClose c q s) := by
  unfold execStreamClose
  repeat' (first | with_reducible exact .next _ | with_reducible refine .ite ?_ ?_ | split)

theorem execDmaCopy_answers (c : Fin 512) (q : BitVec 32) (s : State) : Answers (execDmaCopy c q s) := by
  unfold execDmaCopy
  repeat' (first | with_reducible exact .next _ | with_reducible refine .ite ?_ ?_ | split)

theorem execCrcCheck_answers (c : Fin 512) (q : BitVec 32) (s : State) : Answers (execCrcCheck c q s) := by
  unfold execCrcCheck
  repeat' (first | with_reducible exact .next _ | with_reducible refine .ite ?_ ?_ | split)

theorem execPowerSet_answers (c : Fin 512) (q : BitVec 32) (s : State) : Answers (execPowerSet c q s) := by
  unfold execPowerSet
  repeat' (first | with_reducible exact .next _ | with_reducible refine .ite ?_ ?_ | split)

theorem execTestRun_answers (c : Fin 512) (q : BitVec 32) (s : State) : Answers (execTestRun c q s) := by
  unfold execTestRun
  repeat' (first | with_reducible exact .next _ | with_reducible refine .ite ?_ ?_ | split)

theorem execCascSend_answers (c : Fin 512) (q : BitVec 32) (payload : List (BitVec 32)) (fail : Fin 3) (s : State)
    : Answers (execCascSend c q payload fail s) := by
  unfold execCascSend
  repeat' (first | with_reducible exact .next _ | with_reducible refine .ite ?_ ?_ | split)

theorem execMoverTake_answers (s : State) : Answers (execMoverTake s) := by
  unfold execMoverTake
  repeat' (first | with_reducible exact .next _ | with_reducible refine .ite ?_ ?_ | split)

theorem execStreamEntryComplete_answers (r : Fin 4096) (s : State) : Answers (execStreamEntryComplete r s) := by
  unfold execStreamEntryComplete
  repeat' (first | with_reducible exact .next _ | with_reducible refine .ite ?_ ?_ | split)

theorem execBurstCompletion_answers (m : Fin 64) (data : List (BitVec 8)) (fail : Fin 3) (s : State)
    : Answers (execBurstCompletion m data fail s) := by
  unfold execBurstCompletion
  repeat' (first | with_reducible exact .next _ | with_reducible refine .ite ?_ ?_ | split)

theorem execFlr_answers (f : Fin 64) (dc dc2 lc : BitVec 16) (s : State) : Answers (execFlr f dc dc2 lc s) := by
  unfold execFlr
  repeat' (first | with_reducible exact .next _ | with_reducible refine .ite ?_ ?_)

theorem execVfEnableClear_answers (ctl : BitVec 16) (num : BitVec 16) (s : State) : Answers (execVfEnableClear ctl num s) := by
  unfold execVfEnableClear
  repeat' (first | with_reducible exact .next _ | with_reducible refine .ite ?_ ?_)

theorem execLinkRetrain_answers (speed : Fin 4) (width : Fin 3) (s : State) : Answers (execLinkRetrain speed width s) := by
  unfold execLinkRetrain
  repeat' (first | with_reducible exact .next _ | with_reducible refine .ite ?_ ?_)

theorem execCompletionTimeout_answers (f : Fin 64) (tag : Fin 1024) (s : State) : Answers (execCompletionTimeout f tag s) := by
  unfold execCompletionTimeout
  repeat' (first | with_reducible exact .next _ | with_reducible refine .ite ?_ ?_ | split)

theorem execMsixUnmask_answers (f : Fin 64) (n : Option (Fin 1024)) (addr : BitVec 64) (data ctl : BitVec 32) (s : State)
    : Answers (execMsixUnmask f n addr data ctl s) := by
  unfold execMsixUnmask
  repeat' (first | with_reducible exact .next _ | with_reducible refine .ite ?_ ?_ | split)

theorem execL1Entry_answers (sub : Fin 3) (s : State) : Answers (execL1Entry sub s) := by
  unfold execL1Entry
  repeat' (first | with_reducible exact .next _ | with_reducible refine .ite ?_ ?_)

theorem execPme_answers (src : Fin 5) (s : State) : Answers (execPme src s) := by
  unfold execPme
  repeat' (first | with_reducible exact .next _ | with_reducible refine .ite ?_ ?_)

theorem execSpdifFrame_answers (ok : Bool) (rate : Fin 16) (a b : BitVec 24) (va vb ca cb ea eb z : Bool) (s : State)
    : Answers (execSpdifFrame ok rate a b va vb ca cb ea eb z s) := by
  unfold execSpdifFrame
  repeat' (first | with_reducible exact .next _ | with_reducible refine .ite ?_ ?_)

theorem execCs5Write_answers (t : Fin 2) (v : BitVec 32) (s : State) : Answers (execCs5Write t v s) := by
  unfold execCs5Write
  repeat' with_reducible exact .next _

theorem execAutoUnmute_answers (g : Fin 2) (s : State) : Answers (execAutoUnmute g s) := by
  unfold execAutoUnmute
  repeat' (first | with_reducible exact .next _ | with_reducible refine .ite ?_ ?_ | split | extract_lets)

theorem execLdsStrobe_answers (g : Fin 2) (rising : Bool) (s : State) : Answers (execLdsStrobe g rising s) := by
  unfold execLdsStrobe
  repeat' (first | with_reducible exact .next _ | with_reducible refine .ite ?_ ?_)

theorem execFrameOriginate_answers (idle : Fin 17) (s : State) : Answers (execFrameOriginate idle s) := by
  unfold execFrameOriginate
  repeat' (first | with_reducible exact .next _ | with_reducible refine .ite ?_ ?_)

theorem execFrameReceive_answers (ws : List (BitVec 32)) (gap : Nat) (lag : BitVec 16) (s : State)
    : Answers (execFrameReceive ws gap lag s) := by
  unfold execFrameReceive
  repeat' (first | with_reducible exact .next _ | with_reducible refine .ite ?_ ?_)

theorem execBeaconEvent_answers (s : State) : Answers (execBeaconEvent s) := by
  unfold execBeaconEvent
  repeat' (first | with_reducible exact .next _ | with_reducible refine .ite ?_ ?_ | split)

theorem execNgxVoid_answers (src : Fin 16) (s : State) : Answers (execNgxVoid src s) := by
  exact State.onMsg_answers ..

theorem execNgxAck_answers (src : Fin 16) (s : State) : Answers (execNgxAck src s) := by
  exact State.onMsg_answers ..

theorem execNgxData_answers (src : Fin 16) (evCons : BitVec 32) (s : State) : Answers (execNgxData src evCons s) := by
  exact State.onMsg_answers ..

theorem execRegRd_answers (src : Fin 16) (s : State) : Answers (execRegRd src s) := by
  exact State.onMsg_answers ..

theorem execRegWr_answers (src : Fin 16) (s : State) : Answers (execRegWr src s) := by
  exact State.onMsg_answers ..

theorem execRegRsp_answers (src : Fin 16) (s : State) : Answers (execRegRsp src s) := by
  exact State.onMsg_answers ..

theorem execArm_answers (src : Fin 16) (s : State) : Answers (execArm src s) := by
  unfold execArm
  split
  · exact Answers.next _
  · exact State.onMsg_answers ..

theorem execArmed_answers (src : Fin 16) (s : State) : Answers (execArmed src s) := by
  exact State.onMsg_answers ..

theorem execNgxRefused_answers (src : Fin 16) (s : State) : Answers (execNgxRefused src s) := by
  exact State.onMsg_answers ..

theorem execApplied_answers (src : Fin 16) (s : State) : Answers (execApplied src s) := by
  exact State.onMsg_answers ..

theorem execNotArmed_answers (src : Fin 16) (s : State) : Answers (execNotArmed src s) := by
  exact State.onMsg_answers ..

theorem execAbortAck_answers (src : Fin 16) (s : State) : Answers (execAbortAck src s) := by
  exact State.onMsg_answers ..

theorem execHrd_answers (src : Fin 16) (cpl : Option (Fin 65536)) (data : List (BitVec 8)) (fail : Fin 3) (s : State)
    : Answers (execHrd src cpl data fail s) := by
  unfold execHrd
  split
  · exact State.onMsg_answers ..
  · extract_lets
    repeat' split
    all_goals exact Answers.next _

theorem execHwr_answers (src : Fin 16) (s : State) : Answers (execHwr src s) := by
  exact State.onMsg_answers ..

theorem execHirq_answers (src : Fin 16) (s : State) : Answers (execHirq src s) := by
  exact State.onMsg_answers ..

theorem execBootReq_answers (src : Fin 16) (s : State) : Answers (execBootReq src s) := by
  unfold execBootReq
  split
  · exact Answers.next _
  · exact State.onMsg_answers ..

theorem execBootData_answers (src : Fin 16) (s : State) : Answers (execBootData src s) := by
  exact State.onMsg_answers ..

theorem execMessageRepeat_answers (p : Fin 16) (s : State) : Answers (execMessageRepeat p s) := by
  unfold execMessageRepeat
  repeat' (first | with_reducible exact .next _ | with_reducible refine .ite ?_ ?_ | split | extract_lets)

theorem execRelayReadTimeout_answers (tag : Fin 65536) (s : State) : Answers (execRelayReadTimeout tag s) := by
  unfold execRelayReadTimeout
  repeat' (first | with_reducible exact .next _ | with_reducible refine .ite ?_ ?_ | split)

theorem execFixedTimeResult_answers (op : Fin 5) (s : State) : Answers (execFixedTimeResult op s) := by
  unfold execFixedTimeResult
  repeat' (first | with_reducible exact .next _ | with_reducible refine .ite ?_ ?_ | split | extract_lets)

theorem execSpisTestRun_answers (m3 : Bool) (alive : BitVec 4) (addr : BitVec 32) (t : BitVec 8) (s : State)
    : Answers (execSpisTestRun m3 alive addr t s) := by
  unfold execSpisTestRun
  repeat' with_reducible exact .next _

theorem execCapSample_answers (temps : List (BitVec 16)) (est : Fin 4096) (s : State)
    : Answers (execCapSample temps est s) := by
  unfold execCapSample
  repeat' (first | with_reducible exact .next _ | with_reducible refine .ite ?_ ?_ | split)

theorem execTapTestStart_answers (t : BitVec 8) (straps : BitVec 6) (s : State) : Answers (execTapTestStart t straps s) := by
  unfold execTapTestStart
  repeat' with_reducible exact .next _

theorem execLinkUp_answers (speed : Fin 4) (width : Fin 3) (rev : Bool) (pol : BitVec 4) (s : State)
    : Answers (execLinkUp speed width rev pol s) := by
  unfold execLinkUp
  repeat' (first | with_reducible exact .next _ | with_reducible refine .ite ?_ ?_)

theorem execBusMasterEnable_answers (f : Fin 64) (v : BitVec 16) (s : State) : Answers (execBusMasterEnable f v s) := by
  unfold execBusMasterEnable
  repeat' (first | with_reducible exact .next _ | with_reducible refine .ite ?_ ?_)

theorem execCopyPieceCompletion_answers (m : Fin 64) (data : List (BitVec 8)) (fail : Fin 3) (s : State)
    : Answers (execCopyPieceCompletion m data fail s) := by
  unfold execCopyPieceCompletion
  repeat' (first | with_reducible exact .next _ | with_reducible refine .ite ?_ ?_ | split | extract_lets)

theorem execHrdCpl_answers (tag : Fin 65536) (s : State) : Answers (execHrdCpl tag s) := by
  unfold execHrdCpl
  repeat' (first | with_reducible exact .next _ | with_reducible refine .ite ?_ ?_ | with_reducible exact execChunkCompletion_answers .. |
    with_reducible exact execBurstCompletion_answers .. | with_reducible exact execCopyPieceCompletion_answers .. | split | extract_lets)


/-! ### What a command keeps -/

/-- The mask of a list of parts. -/
def Mask.of (ps : List Part) : Mask where
  regs := decide (.regs ∈ ps)
  latches := decide (.latches ∈ ps)
  rdata := decide (.rdata ∈ ps)
  eng := decide (.eng ∈ ps)
  chainNow := decide (.chainNow ∈ ps)
  chainId := decide (.chainId ∈ ps)
  chainFrz := decide (.chainFrz ∈ ps)
  chainTorn := decide (.chainTorn ∈ ps)
  chainIn := decide (.chainIn ∈ ps)
  fab := decide (.fab ∈ ps)
  tick := decide (.tick ∈ ps)
  par := decide (.par ∈ ps)
  cal := decide (.cal ∈ ps)
  res := decide (.res ∈ ps)
  ctx := decide (.ctx ∈ ps)
  mode := decide (.mode ∈ ps)
  route := decide (.route ∈ ps)
  mov := decide (.mov ∈ ps)
  port := decide (.port ∈ ps)
  pcie := decide (.pcie ∈ ps)
  clk := decide (.clk ∈ ps)
  keep := decide (.keep ∈ ps)
  pwr := decide (.pwr ∈ ps)
  ngx := decide (.ngx ∈ ps)
  boot := decide (.boot ∈ ps)
  spim := decide (.spim ∈ ps)
  spis := decide (.spis ∈ ps)
  test := decide (.test ∈ ps)
  tap := decide (.tap ∈ ps)
  gpio := decide (.gpio ∈ ps)
  calMem := decide (.calMem ∈ ps)
  flash := decide (.flash ∈ ps)
  tcm := decide (.tcm ∈ ps)
  fuse := decide (.fuse ∈ ps)

/-- The outcome is a next state, and all that lies outside the mask is kept on the way to it. -/
inductive Ran (M : Mask) (z : State) : Host.Outcome State Fault Refusal → Prop
  | next {t : State} (h : Kept M z t) : Ran M z (.next t)

theorem Ran.of {M : Mask} {z : State} {o : Host.Outcome State Fault Refusal} (ha : Answers o) (hk : OutOk M z o) : Ran M z o := by
  obtain ⟨t, rfl⟩ := ha
  exact .next hk

/-- PROTECTED_TILE_RELOCATION searches a list of all tiles, which must not be evaluated here. -/
theorem execProtectedTileRelocation_ran {M : Mask} {t : Fin 16384} {s : State} (m_regs : M.regs = true) (m_fab : M.fab = true)
    (m_cal : M.cal = true) (m_ctx : M.ctx = true) (m_pcie : M.pcie = true) (m_keep : M.keep = true) (m_ngx : M.ngx = true)
    (m_calMem : M.calMem = true) (h : Kept M s s) : Ran M s (execProtectedTileRelocation t s) := by
  with_reducible
    exact .of (execProtectedTileRelocation_answers t s)
      (execProtectedTileRelocation_kept m_regs m_fab m_cal m_ctx m_pcie m_keep m_ngx m_calMem h)

/-- Every command answers a next state and keeps what lies outside its footprint. -/
theorem exec_ran (c : Instr) (s : State) : Ran (Mask.of (footprint c)) s (exec c s) := by
  have h : Kept (Mask.of (footprint c)) s s := Kept.refl s
  cases c with
  | registerWrite =>
    exact .of (.next _)
      (execRegisterWrite_kept rfl rfl rfl rfl rfl rfl rfl rfl rfl rfl rfl rfl rfl rfl rfl rfl rfl rfl rfl rfl rfl rfl rfl rfl
        rfl rfl rfl rfl rfl rfl rfl rfl rfl rfl h)
  | readClear => exact .of (.next _) (execReadClear_kept rfl rfl rfl rfl rfl h)
  | lowHalfRead => exact .of (.next _) (execLowHalfRead_kept rfl rfl rfl rfl rfl h)
  | crossingDelivery => exact .of (execCrossingDelivery_answers ..) (execCrossingDelivery_kept rfl rfl h)
  | floorCredit => exact .of (.next _) (execFloorCredit_kept rfl h)
  | grantDecision => exact .of (execGrantDecision_answers ..) (execGrantDecision_kept rfl h)
  | bankGrant => exact .of (execBankGrant_answers ..) (execBankGrant_kept rfl rfl rfl rfl rfl rfl rfl rfl rfl h)
  | outboundPortGrant => exact .of (execOutboundPortGrant_answers ..) (execOutboundPortGrant_kept rfl rfl rfl h)
  | d0Tick =>
    exact .of (.next _)
      (execD0Tick_kept rfl rfl rfl rfl rfl rfl rfl rfl rfl rfl rfl rfl rfl rfl rfl rfl rfl rfl rfl rfl rfl rfl rfl rfl h)
  | tickReceipt => exact .of (execTickReceipt_answers ..) (execTickReceipt_kept rfl rfl rfl rfl rfl rfl rfl rfl rfl rfl h)
  | sourceEvent => exact .of (execSourceEvent_answers ..) (execSourceEvent_kept rfl rfl rfl h)
  | srcLost => exact .of (execSrcLost_answers ..) (execSrcLost_kept rfl rfl rfl h)
  | dmSourceEvent => exact .of (execDmSourceEvent_answers ..) (execDmSourceEvent_kept rfl rfl h)
  | tickCtrlWrite => exact .of (.next _) (execTickCtrlWrite_kept rfl h)
  | sidxLoRead => exact .of (.next _) (execSidxLoRead_kept rfl rfl h)
  | nop => exact .of (.next _) (execNop_kept rfl rfl rfl rfl rfl rfl rfl rfl rfl rfl rfl h)
  | rpt => exact .of (.next _) (execRpt_kept rfl rfl rfl rfl rfl rfl rfl rfl rfl rfl rfl h)
  | endProgram => exact .of (.next _) (execEndProgram_kept rfl rfl rfl rfl rfl rfl rfl rfl rfl rfl rfl h)
  | mac => exact .of (.next _) (execMac_kept rfl rfl rfl rfl rfl rfl rfl rfl rfl rfl rfl h)
  | tap4 => exact .of (.next _) (execTap4_kept rfl rfl rfl rfl rfl rfl rfl rfl rfl rfl rfl h)
  | mova => exact .of (.next _) (execMova_kept rfl rfl rfl rfl rfl rfl rfl rfl rfl rfl rfl h)
  | moval => exact .of (.next _) (execMoval_kept rfl rfl rfl rfl rfl rfl rfl rfl rfl rfl rfl h)
  | movst => exact .of (.next _) (execMovst_kept rfl rfl rfl rfl rfl rfl rfl rfl rfl rfl rfl h)
  | movf => exact .of (.next _) (execMovf_kept rfl rfl rfl rfl rfl rfl rfl rfl rfl rfl rfl h)
  | lda => exact .of (.next _) (execLda_kept rfl rfl rfl rfl rfl rfl rfl rfl rfl rfl rfl h)
  | araw => exact .of (.next _) (execAraw_kept rfl rfl rfl rfl rfl rfl rfl rfl rfl rfl rfl h)
  | aacc => exact .of (.next _) (execAacc_kept rfl rfl rfl rfl rfl rfl rfl rfl rfl rfl rfl h)
  | qop => exact .of (.next _) (execQop_kept rfl rfl rfl rfl rfl rfl rfl rfl rfl rfl rfl h)
  | qxf => exact .of (.next _) (execQxf_kept rfl rfl rfl rfl rfl rfl rfl rfl rfl rfl rfl h)
  | sel => exact .of (.next _) (execSel_kept rfl rfl rfl rfl rfl rfl rfl rfl rfl rfl rfl h)
  | pcmp => exact .of (.next _) (execPcmp_kept rfl rfl rfl rfl rfl rfl rfl rfl rfl rfl rfl h)
  | pset => exact .of (.next _) (execPset_kept rfl rfl rfl rfl rfl rfl rfl rfl rfl rfl rfl h)
  | chw => exact .of (.next _) (execChw_kept rfl rfl rfl rfl rfl rfl rfl rfl rfl rfl rfl h)
  | chr => exact .of (.next _) (execChr_kept rfl rfl rfl rfl rfl rfl rfl rfl rfl rfl rfl h)
  | ldq => exact .of (.next _) (execLdq_kept rfl rfl rfl rfl rfl rfl rfl rfl rfl rfl rfl h)
  | ldg => exact .of (.next _) (execLdg_kept rfl rfl rfl rfl rfl rfl rfl rfl rfl rfl rfl h)
  | stq => exact .of (.next _) (execStq_kept rfl rfl rfl rfl rfl rfl rfl rfl rfl rfl rfl h)
  | stg => exact .of (.next _) (execStg_kept rfl rfl rfl rfl rfl rfl rfl rfl rfl rfl rfl h)
  | gop => exact .of (.next _) (execGop_kept rfl rfl rfl rfl rfl rfl rfl rfl rfl rfl rfl h)
  | ldi => exact .of (.next _) (execLdi_kept rfl rfl rfl rfl rfl rfl rfl rfl rfl rfl rfl h)
  | mvs => exact .of (.next _) (execMvs_kept rfl rfl rfl rfl rfl rfl rfl rfl rfl rfl rfl h)
  | aadr => exact .of (.next _) (execAadr_kept rfl rfl rfl rfl rfl rfl rfl rfl rfl rfl rfl h)
  | flgc => exact .of (.next _) (execFlgc_kept rfl rfl rfl rfl rfl rfl rfl rfl rfl rfl rfl h)
  | br => exact .of (.next _) (execBr_kept rfl rfl rfl rfl rfl rfl rfl rfl rfl rfl rfl h)
  | dbnz => exact .of (.next _) (execDbnz_kept rfl rfl rfl rfl rfl rfl rfl rfl rfl rfl rfl h)
  | fld => exact .of (.next _) (execFld_kept rfl rfl rfl rfl rfl rfl rfl rfl rfl rfl rfl h)
  | fldw => exact .of (.next _) (execFldw_kept rfl rfl rfl rfl rfl rfl rfl rfl rfl rfl rfl h)
  | fst => exact .of (.next _) (execFst_kept rfl rfl rfl rfl rfl rfl rfl rfl rfl rfl rfl h)
  | fstw => exact .of (.next _) (execFstw_kept rfl rfl rfl rfl rfl rfl rfl rfl rfl rfl rfl h)
  | writeQueueRetire => exact .of (.next _) (execWriteQueueRetire_kept rfl rfl rfl h)
  | farReturnArrival => exact .of (execFarReturnArrival_answers ..) (execFarReturnArrival_kept rfl rfl h)
  | farStoreTaken => exact .of (execFarStoreTaken_answers ..) (execFarStoreTaken_kept rfl rfl rfl rfl rfl rfl rfl rfl rfl rfl h)
  | illegalWord => exact .of (execIllegalWord_answers ..) (execIllegalWord_kept rfl rfl rfl rfl rfl rfl rfl rfl h)
  | segmentEntry => exact .of (execSegmentEntry_answers ..) (execSegmentEntry_kept rfl rfl rfl h)
  | budgetCut => exact .of (execBudgetCut_answers ..) (execBudgetCut_kept rfl rfl rfl rfl rfl rfl rfl rfl h)
  | enginePortRead => exact .of (.next _) (execEnginePortRead_kept rfl rfl rfl h)
  | dldW0Write => exact .of (.next _) (execDldW0Write_kept rfl rfl h)
  | swapPbank => exact .of (.next _) (execSwapPbank_kept rfl rfl h)
  | swapStab => exact .of (.next _) (execSwapStab_kept rfl rfl h)
  | clusterReset => exact .of (.next _) (execClusterReset_kept rfl rfl rfl rfl rfl rfl rfl h)
  | resAssign => exact .of (.next _) (execResAssign_kept rfl rfl h)
  | resRelease => exact .of (.next _) (execResRelease_kept rfl rfl h)
  | csetW0Write => exact .of (.next _) (execCsetW0Write_kept rfl h)
  | cbindWrite => exact .of (.next _) (execCbindWrite_kept rfl h)
  | coefWrite => exact .of (execCoefWrite_answers ..) (execCoefWrite_kept rfl rfl rfl rfl rfl rfl rfl rfl rfl h)
  | coefDelta => exact .of (execCoefDelta_answers ..) (execCoefDelta_kept rfl rfl rfl rfl rfl rfl rfl rfl rfl h)
  | shadowWriteComplete => exact .of (execShadowWriteComplete_answers ..) (execShadowWriteComplete_kept rfl rfl rfl h)
  | resyncStart => exact .of (execResyncStart_answers ..) (execResyncStart_kept rfl rfl h)
  | resyncComplete => exact .of (.next _) (execResyncComplete_kept rfl rfl rfl rfl rfl rfl rfl rfl rfl rfl h)
  | commit => exact .of (execCommit_answers ..) (execCommit_kept rfl h)
  | commitArm => exact .of (execCommitArm_answers ..) (execCommitArm_kept rfl rfl rfl h)
  | commitDiscard => exact .of (execCommitDiscard_answers ..) (execCommitDiscard_kept rfl rfl rfl rfl rfl h)
  | cascadeCommit => exact .of (execCascadeCommit_answers ..) (execCascadeCommit_kept rfl rfl rfl rfl h)
  | cascadeDecision => exact .of (execCascadeDecision_answers ..) (execCascadeDecision_kept rfl rfl rfl h)
  | gainSet => exact .of (execGainSet_answers ..) (execGainSet_kept rfl rfl rfl h)
  | cancel => exact .of (execCancel_answers ..) (execCancel_kept rfl rfl rfl rfl rfl rfl h)
  | tileAssign => exact .of (.next _) (execTileAssign_kept rfl rfl h)
  | tileRelease => exact .of (.next _) (execTileRelease_kept rfl rfl h)
  | translationWalk =>
    exact .of (execTranslationWalk_answers ..) (execTranslationWalk_kept rfl rfl rfl rfl rfl rfl rfl rfl rfl h)
  | windowSetRoot => exact .of (.next _) (execWindowSetRoot_kept rfl rfl h)
  | windowSetDisable => exact .of (.next _) (execWindowSetDisable_kept rfl rfl h)
  | windowSetInvalidate => exact .of (.next _) (execWindowSetInvalidate_kept rfl rfl h)
  | prefetchChunkIssue => exact .of (execPrefetchChunkIssue_answers ..) (execPrefetchChunkIssue_kept rfl rfl h)
  | writebackChunkIssue => exact .of (execWritebackChunkIssue_answers ..) (execWritebackChunkIssue_kept rfl rfl h)
  | chunkCompletion =>
    exact .of (execChunkCompletion_answers ..) (execChunkCompletion_kept rfl rfl rfl rfl rfl rfl rfl rfl rfl h)
  | chunkDeadline => exact .of (execChunkDeadline_answers ..) (execChunkDeadline_kept rfl rfl rfl rfl rfl rfl rfl rfl h)
  | lineMap => exact .of (execLineMap_answers ..) (execLineMap_kept rfl rfl rfl h)
  | lineActivation => exact .of (execLineActivation_answers ..) (execLineActivation_kept rfl rfl rfl rfl h)
  | unmap => exact .of (execUnmap_answers ..) (execUnmap_kept rfl rfl rfl rfl h)
  | unmapComplete => exact .of (execUnmapComplete_answers ..) (execUnmapComplete_kept rfl rfl rfl rfl rfl rfl h)
  | sinterRegionStart => exact .of (execSinterRegionStart_answers ..) (execSinterRegionStart_kept rfl rfl rfl rfl rfl rfl h)
  | sinterRestore => exact .of (.next _) (execSinterRestore_kept rfl rfl rfl rfl h)
  | lmSinterRegionStart => exact .of (execLmSinterRegionStart_answers ..) (execLmSinterRegionStart_kept rfl rfl h)
  | rowRepair => exact .of (.next _) (execRowRepair_kept rfl rfl rfl rfl rfl rfl h)
  | protectedTileRelocation t =>
    show Ran _ _ (execProtectedTileRelocation t s)
    exact execProtectedTileRelocation_ran rfl rfl rfl rfl rfl rfl rfl rfl h
  | lmRegionRepair => exact .of (.next _) (execLmRegionRepair_kept rfl rfl rfl rfl rfl rfl rfl h)
  | routeSet => exact .of (execRouteSet_answers ..) (execRouteSet_kept rfl rfl rfl rfl h)
  | routeClear => exact .of (execRouteClear_answers ..) (execRouteClear_kept rfl rfl rfl h)
  | brgWrite => exact .of (.next _) (execBrgWrite_kept rfl rfl h)
  | asrcCfg0Write => exact .of (.next _) (execAsrcCfg0Write_kept rfl rfl h)
  | asrcLock => exact .of (.next _) (execAsrcLock_kept rfl rfl h)
  | asrcUnlock => exact .of (.next _) (execAsrcUnlock_kept rfl rfl h)
  | ctxEnable => exact .of (execCtxEnable_answers ..) (execCtxEnable_kept rfl rfl rfl rfl h)
  | ctxDisable => exact .of (.next _) (execCtxDisable_kept rfl rfl rfl rfl rfl rfl rfl rfl h)
  | ctxReset => exact .of (execCtxReset_answers ..) (execCtxReset_kept rfl rfl rfl rfl rfl rfl rfl rfl rfl rfl h)
  | commandProducer => exact .of (.next _) (execCommandProducer_kept rfl rfl rfl rfl rfl h)
  | completionConsumer => exact .of (.next _) (execCompletionConsumer_kept rfl rfl rfl rfl rfl h)
  | streamRingProducer => exact .of (.next _) (execStreamRingProducer_kept rfl rfl rfl h)
  | descriptorAccept => exact .of (execDescriptorAccept_answers ..) (execDescriptorAccept_kept rfl rfl rfl rfl rfl rfl h)
  | fetchRetry => exact .of (execFetchRetry_answers ..) (execFetchRetry_kept rfl rfl rfl rfl h)
  | descriptorFinish => exact .of (execDescriptorFinish_answers ..) (execDescriptorFinish_kept rfl rfl rfl rfl rfl h)
  | completionRecord => exact .of (execCompletionRecord_answers ..) (execCompletionRecord_kept rfl rfl rfl rfl rfl h)
  | completionInterrupt => exact .of (execCompletionInterrupt_answers ..) (execCompletionInterrupt_kept rfl rfl rfl rfl h)
  | nopDesc => exact .of (execNopDesc_answers ..) (execNopDesc_kept rfl h)
  | fence => exact .of (execFence_answers ..) (execFence_kept rfl h)
  | progLoad => exact .of (execProgLoad_answers ..) (execProgLoad_kept rfl rfl rfl rfl h)
  | segMap => exact .of (execSegMap_answers ..) (execSegMap_kept rfl rfl rfl h)
  | progSwap => exact .of (execProgSwap_answers ..) (execProgSwap_kept rfl rfl rfl rfl h)
  | streamOpen => exact .of (execStreamOpen_answers ..) (execStreamOpen_kept rfl rfl rfl rfl rfl rfl h)
  | streamClose => exact .of (execStreamClose_answers ..) (execStreamClose_kept rfl rfl rfl rfl rfl rfl h)
  | dmaCopy => exact .of (execDmaCopy_answers ..) (execDmaCopy_kept rfl rfl h)
  | crcCheck => exact .of (execCrcCheck_answers ..) (execCrcCheck_kept rfl rfl h)
  | queryContext => exact .of (.next _) (execQueryContext_kept rfl rfl rfl rfl rfl rfl h)
  | queryGroups => exact .of (.next _) (execQueryGroups_kept rfl rfl rfl rfl rfl rfl h)
  | querySegments => exact .of (.next _) (execQuerySegments_kept rfl rfl rfl rfl rfl rfl h)
  | queryLines => exact .of (.next _) (execQueryLines_kept rfl rfl rfl rfl rfl rfl h)
  | powerSet => exact .of (execPowerSet_answers ..) (execPowerSet_kept rfl rfl rfl rfl rfl rfl rfl rfl rfl h)
  | testRun => exact .of (execTestRun_answers ..) (execTestRun_kept rfl rfl rfl rfl rfl rfl rfl rfl rfl rfl rfl rfl h)
  | cascSend => exact .of (execCascSend_answers ..) (execCascSend_kept rfl rfl h)
  | lanternWrite => exact .of (.next _) (execLanternWrite_kept rfl rfl h)
  | moverTake => exact .of (execMoverTake_answers ..) (execMoverTake_kept rfl rfl rfl rfl rfl rfl rfl rfl rfl h)
  | bucketRefill => exact .of (.next _) (execBucketRefill_kept rfl h)
  | streamEntryComplete =>
    exact .of (execStreamEntryComplete_answers ..) (execStreamEntryComplete_kept rfl rfl rfl rfl rfl rfl h)
  | burstCompletion => exact .of (execBurstCompletion_answers ..) (execBurstCompletion_kept rfl rfl rfl rfl rfl rfl rfl rfl h)
  | dmaReset => exact .of (.next _) (execDmaReset_kept rfl rfl rfl rfl rfl rfl h)
  | flr => exact .of (execFlr_answers ..) (execFlr_kept rfl rfl rfl rfl rfl rfl rfl rfl rfl rfl h)
  | pfFlr => exact .of (.next _) (execPfFlr_kept rfl rfl rfl rfl rfl rfl rfl rfl rfl rfl h)
  | vfEnableClear => exact .of (execVfEnableClear_answers ..) (execVfEnableClear_kept rfl rfl rfl rfl rfl rfl rfl rfl rfl rfl h)
  | hotReset => exact .of (.next _) (execHotReset_kept rfl rfl rfl rfl rfl rfl rfl rfl rfl rfl h)
  | dlDown => exact .of (.next _) (execDlDown_kept rfl rfl rfl rfl rfl rfl rfl rfl rfl rfl h)
  | linkRetrain => exact .of (execLinkRetrain_answers ..) (execLinkRetrain_kept rfl h)
  | perstNRelease =>
    exact .of (.next _)
      (execPerstNRelease_kept rfl rfl rfl rfl rfl rfl rfl rfl rfl rfl rfl rfl rfl rfl rfl rfl rfl rfl rfl rfl rfl rfl rfl rfl
        rfl rfl rfl rfl rfl rfl rfl rfl h)
  | perstNAssert =>
    exact .of (.next _)
      (execPerstNAssert_kept rfl rfl rfl rfl rfl rfl rfl rfl rfl rfl rfl rfl rfl rfl rfl rfl rfl rfl rfl rfl rfl rfl rfl rfl
        rfl rfl rfl rfl rfl rfl rfl rfl h)
  | completionTimeout =>
    exact .of (execCompletionTimeout_answers ..) (execCompletionTimeout_kept rfl rfl rfl rfl rfl rfl rfl rfl h)
  | lateCompletion => exact .of (.next _) (execLateCompletion_kept rfl h)
  | msixUnmask => exact .of (execMsixUnmask_answers ..) (execMsixUnmask_kept rfl rfl h)
  | l1Entry => exact .of (execL1Entry_answers ..) (execL1Entry_kept rfl h)
  | pcieLtrWrite => exact .of (.next _) (execPcieLtrWrite_kept rfl rfl h)
  | pme => exact .of (execPme_answers ..) (execPme_kept rfl rfl h)
  | rxFrameComplete => exact .of (.next _) (execRxFrameComplete_kept rfl rfl rfl rfl rfl rfl rfl rfl rfl rfl h)
  | txFrameStart => exact .of (.next _) (execTxFrameStart_kept rfl rfl h)
  | framingError => exact .of (.next _) (execFramingError_kept rfl rfl h)
  | missingBitClock => exact .of (.next _) (execMissingBitClock_kept rfl rfl h)
  | tdmCfg0Write => exact .of (.next _) (execTdmCfg0Write_kept rfl rfl h)
  | pdmMicWrite => exact .of (.next _) (execPdmMicWrite_kept rfl rfl h)
  | settleEnd => exact .of (.next _) (execSettleEnd_kept rfl h)
  | spdifFrame => exact .of (execSpdifFrame_answers ..) (execSpdifFrame_kept rfl rfl rfl h)
  | csA0Read => exact .of (.next _) (execCsA0Read_kept rfl rfl rfl h)
  | cs5Write => exact .of (execCs5Write_answers ..) (execCs5Write_kept rfl rfl h)
  | dacStart => exact .of (.next _) (execDacStart_kept rfl rfl h)
  | dacStop => exact .of (.next _) (execDacStop_kept rfl rfl h)
  | dacMute => exact .of (.next _) (execDacMute_kept rfl rfl h)
  | dacUnmute => exact .of (.next _) (execDacUnmute_kept rfl rfl h)
  | rampEnd =>
    exact .of (.next _)
      (execRampEnd_kept rfl rfl rfl rfl rfl rfl rfl rfl rfl rfl rfl rfl rfl rfl rfl rfl rfl rfl rfl rfl rfl rfl rfl rfl rfl rfl
        rfl rfl rfl rfl rfl rfl h)
  | fadeEnd => exact .of (.next _) (execFadeEnd_kept rfl rfl h)
  | strbLost => exact .of (.next _) (execStrbLost_kept rfl rfl h)
  | autoUnmute => exact .of (execAutoUnmute_answers ..) (execAutoUnmute_kept rfl rfl h)
  | dacShort => exact .of (.next _) (execDacShort_kept rfl rfl h)
  | ldsStrobe => exact .of (execLdsStrobe_answers ..) (execLdsStrobe_kept rfl rfl h)
  | refclkLost => exact .of (.next _) (execRefclkLost_kept rfl rfl h)
  | pllEnable => exact .of (.next _) (execPllEnable_kept rfl rfl h)
  | pllDisable => exact .of (.next _) (execPllDisable_kept rfl rfl h)
  | relock => exact .of (.next _) (execRelock_kept rfl rfl h)
  | acquireEnd => exact .of (.next _) (execAcquireEnd_kept rfl rfl h)
  | pllSlip => exact .of (.next _) (execPllSlip_kept rfl rfl rfl rfl h)
  | ferrMeasure => exact .of (.next _) (execFerrMeasure_kept rfl h)
  | ckoCommit => exact .of (.next _) (execCkoCommit_kept rfl rfl h)
  | ckoPhaseAdd => exact .of (.next _) (execCkoPhaseAdd_kept rfl h)
  | holdMeasWindow => exact .of (.next _) (execHoldMeasWindow_kept rfl rfl h)
  | k0Run => exact .of (.next _) (execK0Run_kept rfl rfl rfl rfl rfl rfl h)
  | frameOriginate => exact .of (execFrameOriginate_answers ..) (execFrameOriginate_kept rfl rfl rfl rfl h)
  | frameReceive => exact .of (execFrameReceive_answers ..) (execFrameReceive_kept rfl rfl rfl rfl rfl rfl rfl h)
  | frameLoss => exact .of (.next _) (execFrameLoss_kept rfl rfl rfl h)
  | beaconEvent => exact .of (execBeaconEvent_answers ..) (execBeaconEvent_kept rfl rfl rfl rfl rfl h)
  | ngxVoid => exact .of (execNgxVoid_answers ..) (execNgxVoid_kept rfl h)
  | ngxAck => exact .of (execNgxAck_answers ..) (execNgxAck_kept rfl h)
  | ngxData => exact .of (execNgxData_answers ..) (execNgxData_kept rfl rfl rfl rfl rfl h)
  | regRd => exact .of (execRegRd_answers ..) (execRegRd_kept rfl rfl rfl rfl rfl h)
  | regWr =>
    exact .of (execRegWr_answers ..)
      (execRegWr_kept rfl rfl rfl rfl rfl rfl rfl rfl rfl rfl rfl rfl rfl rfl rfl rfl rfl rfl rfl rfl rfl rfl rfl rfl rfl rfl
        rfl rfl rfl rfl rfl rfl rfl rfl h)
  | regRsp => exact .of (execRegRsp_answers ..) (execRegRsp_kept rfl rfl h)
  | arm => exact .of (execArm_answers ..) (execArm_kept rfl rfl rfl h)
  | armed => exact .of (execArmed_answers ..) (execArmed_kept rfl rfl rfl h)
  | ngxRefused => exact .of (execNgxRefused_answers ..) (execNgxRefused_kept rfl rfl rfl h)
  | applied => exact .of (execApplied_answers ..) (execApplied_kept rfl rfl rfl rfl h)
  | notArmed => exact .of (execNotArmed_answers ..) (execNotArmed_kept rfl rfl rfl rfl h)
  | abortAck => exact .of (execAbortAck_answers ..) (execAbortAck_kept rfl rfl h)
  | hrd => exact .of (execHrd_answers ..) (execHrd_kept rfl rfl rfl h)
  | hrdCpl => exact .of (execHrdCpl_answers ..) (execHrdCpl_kept rfl rfl rfl rfl rfl rfl rfl rfl rfl h)
  | hwr => exact .of (execHwr_answers ..) (execHwr_kept rfl rfl h)
  | hirq => exact .of (execHirq_answers ..) (execHirq_kept rfl rfl rfl h)
  | bootReq => exact .of (execBootReq_answers ..) (execBootReq_kept rfl h)
  | bootData => exact .of (execBootData_answers ..) (execBootData_kept rfl rfl rfl h)
  | messageRepeat => exact .of (execMessageRepeat_answers ..) (execMessageRepeat_kept rfl h)
  | rrRead => exact .of (.next _) (execRrRead_kept rfl rfl h)
  | rrWrite => exact .of (.next _) (execRrWrite_kept rfl rfl h)
  | relayReadTimeout =>
    exact .of (execRelayReadTimeout_answers ..) (execRelayReadTimeout_kept rfl rfl rfl rfl rfl rfl rfl rfl h)
  | heartbeat => exact .of (.next _) (execHeartbeat_kept rfl rfl h)
  | heartbeatMiss => exact .of (.next _) (execHeartbeatMiss_kept rfl rfl rfl rfl rfl rfl rfl rfl rfl rfl rfl rfl rfl rfl h)
  | keeperFault => exact .of (.next _) (execKeeperFault_kept rfl rfl rfl rfl rfl rfl rfl rfl rfl rfl rfl rfl rfl rfl h)
  | tcmUe => exact .of (.next _) (execTcmUe_kept rfl rfl rfl rfl rfl rfl rfl rfl rfl rfl rfl rfl rfl rfl h)
  | keeperPoison => exact .of (.next _) (execKeeperPoison_kept rfl rfl rfl rfl rfl rfl rfl rfl rfl rfl rfl rfl rfl rfl h)
  | restart => exact .of (.next _) (execRestart_kept rfl rfl rfl rfl rfl rfl rfl rfl rfl rfl rfl rfl rfl rfl h)
  | firstHeartbeatTimeout =>
    exact .of (.next _) (execFirstHeartbeatTimeout_kept rfl rfl rfl rfl rfl rfl rfl rfl rfl rfl rfl rfl rfl rfl h)
  | copyCheck => exact .of (.next _) (execCopyCheck_kept rfl rfl rfl rfl rfl rfl rfl rfl rfl h)
  | flashReload => exact .of (.next _) (execFlashReload_kept rfl rfl rfl rfl rfl rfl rfl rfl rfl rfl rfl rfl h)
  | rebuildEnd => exact .of (.next _) (execRebuildEnd_kept rfl rfl rfl rfl rfl rfl rfl h)
  | tmrVote => exact .of (.next _) (execTmrVote_kept rfl rfl rfl rfl h)
  | bootRomStart => exact .of (.next _) (execBootRomStart_kept rfl rfl rfl rfl rfl rfl rfl h)
  | bootSourceTry => exact .of (.next _) (execBootSourceTry_kept rfl rfl rfl rfl rfl rfl rfl h)
  | stage1Start => exact .of (.next _) (execStage1Start_kept rfl rfl rfl h)
  | keeperImageStart => exact .of (.next _) (execKeeperImageStart_kept rfl rfl rfl rfl rfl rfl rfl rfl rfl h)
  | keeperInitDone => exact .of (.next _) (execKeeperInitDone_kept rfl rfl rfl rfl rfl rfl rfl h)
  | bootWatchdog =>
    exact .of (.next _)
      (execBootWatchdog_kept rfl rfl rfl rfl rfl rfl rfl rfl rfl rfl rfl rfl rfl rfl rfl rfl rfl rfl rfl rfl rfl rfl rfl rfl
        rfl rfl rfl rfl rfl rfl rfl rfl h)
  | awaitImageTimeout => exact .of (.next _) (execAwaitImageTimeout_kept rfl rfl rfl rfl rfl h)
  | cascadeUpTimeout => exact .of (.next _) (execCascadeUpTimeout_kept rfl rfl h)
  | dmExtend => exact .of (.next _) (execDmExtend_kept rfl rfl h)
  | upd => exact .of (.next _) (execUpd_kept rfl rfl rfl h)
  | arbRecord => exact .of (.next _) (execArbRecord_kept rfl rfl rfl rfl h)
  | arbFuse => exact .of (.next _) (execArbFuse_kept rfl rfl rfl rfl h)
  | mbxBoot => exact .of (.next _) (execMbxBoot_kept rfl h)
  | mbxWrite => exact .of (.next _) (execMbxWrite_kept rfl h)
  | failClr => exact .of (.next _) (execFailClr_kept rfl h)
  | otpPgm => exact .of (.next _) (execOtpPgm_kept rfl rfl rfl h)
  | newChal => exact .of (.next _) (execNewChal_kept rfl rfl h)
  | dbgGo => exact .of (.next _) (execDbgGo_kept rfl rfl h)
  | dbgClose => exact .of (.next _) (execDbgClose_kept rfl rfl rfl rfl h)
  | challengeExpiry => exact .of (.next _) (execChallengeExpiry_kept rfl h)
  | fixedTimeResult => exact .of (execFixedTimeResult_answers ..) (execFixedTimeResult_kept rfl rfl rfl rfl rfl rfl rfl h)
  | minPathEnable => exact .of (.next _) (execMinPathEnable_kept rfl rfl rfl rfl rfl rfl rfl rfl h)
  | flashRead => exact .of (.next _) (execFlashRead_kept rfl rfl rfl rfl h)
  | flashProgram => exact .of (.next _) (execFlashProgram_kept rfl rfl rfl rfl h)
  | erase4k => exact .of (.next _) (execErase4k_kept rfl rfl rfl rfl h)
  | erase64k => exact .of (.next _) (execErase64k_kept rfl rfl rfl rfl h)
  | flashStatus => exact .of (.next _) (execFlashStatus_kept rfl rfl rfl rfl h)
  | flashReady => exact .of (.next _) (execFlashReady_kept rfl rfl rfl rfl rfl h)
  | flashTimeout => exact .of (.next _) (execFlashTimeout_kept rfl rfl rfl rfl h)
  | combineFlush => exact .of (.next _) (execCombineFlush_kept rfl rfl rfl rfl h)
  | windowRead => exact .of (.next _) (execWindowRead_kept rfl rfl rfl rfl h)
  | windowWrite => exact .of (.next _) (execWindowWrite_kept rfl rfl rfl rfl h)
  | spimRelease => exact .of (.next _) (execSpimRelease_kept rfl rfl rfl rfl h)
  | badFrame => exact .of (.next _) (execBadFrame_kept rfl rfl h)
  | ping => exact .of (.next _) (execPing_kept rfl rfl h)
  | spisRegRd => exact .of (.next _) (execSpisRegRd_kept rfl rfl rfl rfl rfl h)
  | spisRegWr =>
    exact .of (.next _)
      (execSpisRegWr_kept rfl rfl rfl rfl rfl rfl rfl rfl rfl rfl rfl rfl rfl rfl rfl rfl rfl rfl rfl rfl rfl rfl rfl rfl rfl
        rfl rfl rfl rfl rfl rfl rfl rfl rfl h)
  | mbxOpen => exact .of (.next _) (execMbxOpen_kept rfl rfl rfl rfl rfl h)
  | mbxWr => exact .of (.next _) (execMbxWr_kept rfl rfl rfl rfl rfl h)
  | mbxGo => exact .of (.next _) (execMbxGo_kept rfl rfl rfl h)
  | mbxStat => exact .of (.next _) (execMbxStat_kept rfl rfl h)
  | spisTestRun =>
    exact .of (execSpisTestRun_answers ..) (execSpisTestRun_kept rfl rfl rfl rfl rfl rfl rfl rfl rfl rfl rfl rfl rfl h)
  | spisTestStat => exact .of (.next _) (execSpisTestStat_kept rfl rfl h)
  | spisResultRead => exact .of (.next _) (execSpisResultRead_kept rfl rfl h)
  | replyRead => exact .of (.next _) (execReplyRead_kept rfl rfl h)
  | modeCmdRun => exact .of (.next _) (execModeCmdRun_kept rfl rfl rfl rfl h)
  | modeCmdIdle => exact .of (.next _) (execModeCmdIdle_kept rfl rfl rfl rfl h)
  | railGood =>
    exact .of (.next _)
      (execRailGood_kept rfl rfl rfl rfl rfl rfl rfl rfl rfl rfl rfl rfl rfl rfl rfl rfl rfl rfl rfl rfl rfl rfl rfl rfl rfl
        rfl rfl rfl rfl rfl rfl rfl h)
  | sequenceTimeout => exact .of (.next _) (execSequenceTimeout_kept rfl rfl h)
  | sequenceRetry => exact .of (.next _) (execSequenceRetry_kept rfl h)
  | downStep => exact .of (.next _) (execDownStep_kept rfl rfl rfl h)
  | brownOut =>
    exact .of (.next _)
      (execBrownOut_kept rfl rfl rfl rfl rfl rfl rfl rfl rfl rfl rfl rfl rfl rfl rfl rfl rfl rfl rfl rfl rfl rfl rfl rfl rfl
        rfl rfl rfl rfl rfl rfl rfl h)
  | vddAonApplied =>
    exact .of (.next _)
      (execVddAonApplied_kept rfl rfl rfl rfl rfl rfl rfl rfl rfl rfl rfl rfl rfl rfl rfl rfl rfl rfl rfl rfl rfl rfl rfl rfl
        rfl rfl rfl rfl rfl rfl rfl rfl h)
  | dormGo =>
    exact .of (.next _)
      (execDormGo_kept rfl rfl rfl rfl rfl rfl rfl rfl rfl rfl rfl rfl rfl rfl rfl rfl rfl rfl rfl rfl rfl rfl rfl rfl rfl rfl
        rfl rfl rfl rfl rfl rfl h)
  | wakeSource => exact .of (.next _) (execWakeSource_kept rfl rfl rfl h)
  | wakeTimer => exact .of (.next _) (execWakeTimer_kept rfl rfl rfl h)
  | wakeNRelease => exact .of (.next _) (execWakeNRelease_kept rfl h)
  | islandPowerDown => exact .of (.next _) (execIslandPowerDown_kept rfl rfl rfl rfl rfl rfl rfl rfl rfl rfl rfl rfl rfl rfl h)
  | islandPowerUp => exact .of (.next _) (execIslandPowerUp_kept rfl rfl rfl rfl rfl rfl rfl rfl h)
  | capSample => exact .of (execCapSample_answers ..) (execCapSample_kept rfl rfl rfl rfl h)
  | testProgMem => exact .of (.next _) (execTestProgMem_kept rfl rfl rfl h)
  | testLocalMem => exact .of (.next _) (execTestLocalMem_kept rfl rfl rfl rfl rfl rfl rfl rfl h)
  | testCaldera => exact .of (.next _) (execTestCaldera_kept rfl rfl rfl rfl rfl rfl rfl rfl h)
  | testEngineLogic => exact .of (.next _) (execTestEngineLogic_kept rfl h)
  | testFabricLogic => exact .of (.next _) (execTestFabricLogic_kept rfl rfl rfl h)
  | testAll => exact .of (.next _) (execTestAll_kept rfl rfl rfl rfl rfl rfl rfl rfl rfl rfl h)
  | testComplete => exact .of (.next _) (execTestComplete_kept rfl rfl rfl rfl rfl rfl rfl rfl rfl rfl rfl rfl h)
  | tapReset =>
    exact .of (.next _)
      (execTapReset_kept rfl rfl rfl rfl rfl rfl rfl rfl rfl rfl rfl rfl rfl rfl rfl rfl rfl rfl rfl rfl rfl rfl rfl rfl rfl
        rfl rfl rfl rfl rfl rfl rfl h)
  | tapExtest =>
    exact .of (.next _)
      (execTapExtest_kept rfl rfl rfl rfl rfl rfl rfl rfl rfl rfl rfl rfl rfl rfl rfl rfl rfl rfl rfl rfl rfl rfl rfl rfl rfl
        rfl rfl rfl rfl rfl rfl rfl h)
  | tapSample =>
    exact .of (.next _)
      (execTapSample_kept rfl rfl rfl rfl rfl rfl rfl rfl rfl rfl rfl rfl rfl rfl rfl rfl rfl rfl rfl rfl rfl rfl rfl rfl rfl
        rfl rfl rfl rfl rfl rfl rfl h)
  | tapIdcode =>
    exact .of (.next _)
      (execTapIdcode_kept rfl rfl rfl rfl rfl rfl rfl rfl rfl rfl rfl rfl rfl rfl rfl rfl rfl rfl rfl rfl rfl rfl rfl rfl rfl
        rfl rfl rfl rfl rfl rfl rfl h)
  | tapClamp =>
    exact .of (.next _)
      (execTapClamp_kept rfl rfl rfl rfl rfl rfl rfl rfl rfl rfl rfl rfl rfl rfl rfl rfl rfl rfl rfl rfl rfl rfl rfl rfl rfl
        rfl rfl rfl rfl rfl rfl rfl h)
  | tapHighz =>
    exact .of (.next _)
      (execTapHighz_kept rfl rfl rfl rfl rfl rfl rfl rfl rfl rfl rfl rfl rfl rfl rfl rfl rfl rfl rfl rfl rfl rfl rfl rfl rfl
        rfl rfl rfl rfl rfl rfl rfl h)
  | tapTestStart =>
    exact .of (execTapTestStart_answers ..)
      (execTapTestStart_kept rfl rfl rfl rfl rfl rfl rfl rfl rfl rfl rfl rfl rfl rfl rfl rfl rfl rfl rfl rfl rfl rfl rfl rfl
        rfl rfl rfl rfl rfl rfl rfl rfl h)
  | tapTestStat =>
    exact .of (.next _)
      (execTapTestStat_kept rfl rfl rfl rfl rfl rfl rfl rfl rfl rfl rfl rfl rfl rfl rfl rfl rfl rfl rfl rfl rfl rfl rfl rfl rfl
        rfl rfl rfl rfl rfl rfl rfl h)
  | tapTestResult =>
    exact .of (.next _)
      (execTapTestResult_kept rfl rfl rfl rfl rfl rfl rfl rfl rfl rfl rfl rfl rfl rfl rfl rfl rfl rfl rfl rfl rfl rfl rfl rfl
        rfl rfl rfl rfl rfl rfl rfl rfl h)
  | tapDbgAccess =>
    exact .of (.next _)
      (execTapDbgAccess_kept rfl rfl rfl rfl rfl rfl rfl rfl rfl rfl rfl rfl rfl rfl rfl rfl rfl rfl rfl rfl rfl rfl rfl rfl
        rfl rfl rfl rfl rfl rfl rfl rfl h)
  | tapIntScan =>
    exact .of (.next _)
      (execTapIntScan_kept rfl rfl rfl rfl rfl rfl rfl rfl rfl rfl rfl rfl rfl rfl rfl rfl rfl rfl rfl rfl rfl rfl rfl rfl rfl
        rfl rfl rfl rfl rfl rfl rfl h)
  | tapBypass =>
    exact .of (.next _)
      (execTapBypass_kept rfl rfl rfl rfl rfl rfl rfl rfl rfl rfl rfl rfl rfl rfl rfl rfl rfl rfl rfl rfl rfl rfl rfl rfl rfl
        rfl rfl rfl rfl rfl rfl rfl h)
  | refclkReturn => exact .of (.next _) (execRefclkReturn_kept rfl h)
  | symbolLock => exact .of (.next _) (execSymbolLock_kept rfl rfl h)
  | missingPreambles => exact .of (.next _) (execMissingPreambles_kept rfl rfl rfl h)
  | linkUp => exact .of (execLinkUp_answers ..) (execLinkUp_kept rfl rfl h)
  | powerStateChange => exact .of (.next _) (execPowerStateChange_kept rfl h)
  | busMasterEnable => exact .of (execBusMasterEnable_answers ..) (execBusMasterEnable_kept rfl h)
  | copyPieceCompletion =>
    exact .of (execCopyPieceCompletion_answers ..) (execCopyPieceCompletion_kept rfl rfl rfl rfl rfl rfl rfl rfl h)
  | tagReuse => exact .of (.next _) (execTagReuse_kept rfl h)
  -- The command left is REPEAT (R654): its constructor's name is a keyword and cannot head a case.
  | _ => exact .of (.next _) (execRepeat_kept rfl rfl h)

theorem exec_keeps {c : Instr} {s t : State} (h : exec c s = .next t) : Kept (Mask.of (footprint c)) s t := by
  have hr := exec_ran c s
  rw [h] at hr
  obtain ⟨hk⟩ := hr
  exact hk

/-- Settles O3: `exec_ran` gives the next state, and what it keeps includes the queue and the direction of time. -/
theorem everyCommandAnswers : Obligations.EveryCommandAnswers := by
  intro c s
  generalize ho : exec c s = o
  have hr := ho ▸ exec_ran c s
  cases hr with
  | next h => exact ⟨_, rfl, h.pending, h.now, h.freeCtr⟩

/-- The same bytes read the same. -/
theorem SameBytes.cell {c d : CalderaState} (h : SameBytes c d) (a : Nat) : c.cell a = d.cell a := by
  obtain ⟨hb, he, hte, hc⟩ := h
  have hd : calDefault c = calDefault d := by
    funext a
    simp only [calDefault, he, hte, hc]
  simp only [CalderaState.cell, hb, hd]

/-- What stays outside the mask of a list of parts stays outside the list. -/
theorem Kept.sameOutside {ps : List Part} {s t : State} (h : Kept (Mask.of ps) s t) : sameOutside ps s t :=
  ⟨fun hp => h.regs (decide_eq_false hp), fun hp => h.latches (decide_eq_false hp), fun hp => h.rdata (decide_eq_false hp),
   fun hp => h.eng (decide_eq_false hp), fun hp => h.chainNow (decide_eq_false hp), fun hp => h.chainId (decide_eq_false hp),
   fun hp => h.chainFrz (decide_eq_false hp), fun hp => h.chainTorn (decide_eq_false hp),
     fun hp => h.chainIn (decide_eq_false hp),
   fun hp => h.fab (decide_eq_false hp), fun hp => h.tick (decide_eq_false hp), fun hp => h.par (decide_eq_false hp),
   fun hp => h.cal (decide_eq_false hp), fun hp => h.res (decide_eq_false hp), fun hp => h.ctx (decide_eq_false hp),
   fun hp => h.mode (decide_eq_false hp), fun hp => h.route (decide_eq_false hp), fun hp => h.mov (decide_eq_false hp),
   fun hp => h.port (decide_eq_false hp), fun hp => h.pcie (decide_eq_false hp), fun hp => h.clk (decide_eq_false hp),
   fun hp => h.keep (decide_eq_false hp), fun hp => h.pwr (decide_eq_false hp), fun hp => h.ngx (decide_eq_false hp),
   fun hp => h.boot (decide_eq_false hp), fun hp => h.spim (decide_eq_false hp), fun hp => h.spis (decide_eq_false hp),
   fun hp => h.test (decide_eq_false hp), fun hp => h.tap (decide_eq_false hp), fun hp => h.gpio (decide_eq_false hp),
   fun hp => (h.calMem (decide_eq_false hp)).cell, fun hp => h.flash (decide_eq_false hp), fun hp => h.tcm (decide_eq_false hp),
   fun hp => h.fuse (decide_eq_false hp)⟩

/-- Settles O4: each command's mask is its footprint. -/
theorem commandsKeepTheRest : Obligations.CommandsKeepTheRest := fun _ _ _ h => (exec_keeps h).sameOutside

/-- What a step keeps of the memories: their canonical form, and every programmed fuse bit. -/
theorem step_canon {s t : State} (hs : Memory.wf s = true) (h : step s = .next t) :
    Canon t.cal t.boot ∧ FuseLe s.boot.fuses t.boot.fuses := by
  have hc := (wf_canon s).mp hs
  unfold step at h
  split at h
  · cases h
    exact ⟨hc, FuseLe.refl _⟩
  · exact (exec_keeps h).canon hc

/-- Settles O6: programming a fuse word only adds bits (`FuseLe`). -/
theorem fusesAreNeverCleared : Obligations.FusesAreNeverCleared := fun _ _ hs h => (step_canon hs h).2

end Sys2Proof.Machine

/-! The settlement of InvariantIsKept: beside the canonical memories (`step_canon`), only the clusters 0 to 7 are shed or due to be
shed (R675, R677). Few operations touch the power state; each has its lemma here, and all others keep it (`Kept`). -/

namespace Sys2Proof.Machine

/-! ### Only clusters are shed or due to be shed -/

/-- Only the clusters 0 to 7 are shed or due to be shed. -/
def ShedOk (s : State) : Prop := ∀ c ∈ s.pwr.shed ++ s.pwr.due, c < 8

theorem shedOk_iff (s : State) : ShedOk s ↔ (∀ c ∈ s.pwr.shed, c < 8) ∧ ∀ c ∈ s.pwr.due, c < 8 := by
  simp only [ShedOk, List.mem_append, or_imp, forall_and]

/-- Every part of the state but the power state. -/
def Mask.notPwr : Mask where
  regs := true
  latches := true
  rdata := true
  eng := true
  chainNow := true
  chainId := true
  chainFrz := true
  chainTorn := true
  chainIn := true
  fab := true
  tick := true
  par := true
  cal := true
  res := true
  ctx := true
  mode := true
  route := true
  mov := true
  port := true
  pcie := true
  clk := true
  keep := true
  ngx := true
  boot := true
  spim := true
  spis := true
  test := true
  tap := true
  gpio := true
  calMem := true
  flash := true
  tcm := true
  fuse := true

/-- An operation that keeps the power state. -/
theorem ShedOk.kept {s t : State} (h : ShedOk s) (k : Kept .notPwr s t) : ShedOk t := by
  unfold ShedOk
  rw [k.pwr rfl]
  exact h

/-- A change of the power state that adds no cluster to the two lists. -/
theorem ShedOk.modPwr {s : State} (h : ShedOk s) (f : PowerState → PowerState) (hs : (f s.pwr).shed = s.pwr.shed)
    (hd : (f s.pwr).due = s.pwr.due) : ShedOk (s.modPwr f) := by
  intro c hc
  refine h c ?_
  rwa [← hs, ← hd]

theorem ShedOk.modeDo {s : State} {r : Nat} {f : State → State} (h : ShedOk (f s)) : ShedOk (s.modeDo r f) := by
  unfold ShedOk
  rw [(State.modeDo_parts s r f).pwr rfl]
  exact h

theorem ShedOk.foldl {α : Type} {f : State → α → State} (hf : ∀ s a, ShedOk s → ShedOk (f s a)) (l : List α) {s : State}
    (h : ShedOk s) : ShedOk (l.foldl f s) := by
  induction l generalizing s with
  | nil => exact h
  | cons a l ih => exact ih (hf s a h)

theorem ShedOk.ite {p : Prop} [Decidable p] {s t : State} (hs : ShedOk s) (ht : ShedOk t) : ShedOk (if p then s else t) := by
  split
  · exact hs
  · exact ht

/-! ### Resets: nothing is shed -/

theorem State.devReset_shed (s : State) (full : Bool) : (s.devReset full).pwr.shed = [] ∧ (s.devReset full).pwr.due = [] := by
  unfold State.devReset
  cases full <;> exact ⟨rfl, rfl⟩

theorem State.devReset_shedOk (s : State) (full : Bool) : ShedOk (s.devReset full) := by
  obtain ⟨hs, hd⟩ := s.devReset_shed full
  intro c hc
  rw [hs, hd] at hc
  cases hc

theorem State.bootReset_shedOk (s : State) (straps : BitVec 6) (reason : Nat) : ShedOk (s.bootReset straps reason) :=
  (s.devReset_shedOk false).kept (State.startUp_kept rfl rfl (Kept.refl _))

theorem State.fullStart_shedOk (s : State) (straps : BitVec 6) (reason : Nat) (pme : Bool) :
    ShedOk (s.fullStart straps reason pme) := by
  unfold State.fullStart
  have hn := (s.devReset_shedOk true).kept (State.newSession_kept rfl rfl (old := s.rfld rNgxSession 0 16) (Kept.refl _))
  refine ShedOk.kept (ShedOk.ite (hn.kept ?_) hn) (State.startUp_kept rfl rfl (Kept.refl _))
  exact Kept.upPcie rfl (Kept.refl _)

/-! ### Recoveries (R577, R579) -/

theorem ShedOk.recoverySteps {s : State} (h : ShedOk s) (reason : Nat) : ShedOk (s.recoverySteps reason) := by
  unfold State.recoverySteps
  extract_lets prev first s1 s2 s3 s4 s5 s6 s7 s8 outq s9 s10 s11
  have k3 : Kept .notPwr s s3 := State.testAbort_kept rfl rfl rfl rfl rfl rfl rfl rfl (State.setRlf_kept rfl
      (State.setFld_kept rfl (State.setBit_kept rfl (Kept.refl s))))
  have k4 : Kept .notPwr s s4 := ite_kept (State.modeDo_kept rfl rfl rfl k3 fun _ k => Kept.upMode rfl k) (State.setFld_kept
      rfl k3)
  have k5 : Kept .notPwr s s5 := State.lanternHead_kept rfl rfl k4
  have k8 : Kept .notPwr s s8 := State.xEmpty_kept rfl (State.spimReset_kept rfl rfl rfl (ite_kept (State.histBegin_kept rfl
      k5) k5))
  exact ShedOk.modPwr (h.kept (State.setFld_kept rfl (State.setReg64_kept rfl (Kept.upFab rfl k8)))) (fun x => { x with op :=
      none }) rfl rfl

theorem ShedOk.startRecovery {s : State} (h : ShedOk s) (reason : Nat) : ShedOk (s.startRecovery reason) := by
  unfold State.startRecovery
  refine .ite h ?_
  extract_lets recent s1 s2 s3
  have h3 : ShedOk s3 := h.kept (State.setFld_kept rfl (State.bump_kept rfl (State.modKeep_kept rfl (Kept.refl s))))
  exact .ite (h3.recoverySteps reason) ((h3.recoverySteps 0x26).kept (State.setRlf_kept rfl (State.enterMinimal_kept rfl rfl
      rfl rfl rfl rfl (Kept.refl _))))

theorem ShedOk.rlfCtrlW {s : State} (h : ShedOk s) (v : Word) : ShedOk (s.rlfCtrlW v) := by
  unfold State.rlfCtrlW
  extract_lets s1
  have h1 : ShedOk s1 := .ite (h.kept (State.setBit_kept rfl (Kept.refl s))) h
  exact .ite h1 (.ite (h1.kept (State.setBit_kept rfl (Kept.refl _))) (h1.startRecovery 0x24))

theorem execHeartbeatMiss_shedOk {s t : State} (h : ShedOk s) (ht : execHeartbeatMiss s = .next t) : ShedOk t := by
  cases ht
  refine .ite h ?_
  extract_lets s1 n s2
  have h2 : ShedOk s2 := h.kept (State.setFld_kept rfl (State.modKeep_kept rfl (Kept.refl s)))
  exact .ite (h2.startRecovery 0x20) h2

/-! ### Supply rails, DORMANT and wake sources (R666 to R672) -/

theorem ShedOk.powerUp {s : State} (h : ShedOk s) : ShedOk s.powerUp := h.modPwr _ rfl rfl

theorem ShedOk.powerDown {s : State} (h : ShedOk s) (next : SeqNext) : ShedOk (s.powerDown next) := h.modPwr _ rfl rfl

theorem ShedOk.wake {s : State} (h : ShedOk s) (src : Nat) : ShedOk (s.wake src) := by
  unfold State.wake
  extract_lets s1 drive s2 pcie s3
  have h1 : ShedOk s1 := (h.kept (State.setFld_kept rfl (Kept.refl s))).modPwr _ rfl rfl
  have h2 : ShedOk s2 := .ite (h1.modPwr _ rfl rfl) h1
  have h3 : ShedOk s3 := .ite (h2.kept (Kept.upPcie rfl (Kept.refl _))) h2
  exact h3.powerUp

theorem ShedOk.wakeBy {s : State} (h : ShedOk s) (src : Nat) : ShedOk (s.wakeBy src) := by
  unfold State.wakeBy
  refine .ite h ?_
  split
  · exact h.wake src
  · exact .ite h (h.modPwr _ rfl rfl)
  · exact h

theorem State.goDormant_shedOk (s : State) : ShedOk s.goDormant := by
  unfold State.goDormant
  extract_lets s1 s2 page fab s4 t1 t2 t3 t4
  have h1 : ShedOk t1 := (s4.devReset_shedOk true).kept (State.setFld_kept rfl (Kept.refl _))
  clear_value t1
  have h4 : ShedOk t4 := h1.kept (Kept.lit { mode := .inl rfl, pcie := .inl rfl } (Kept.refl _))
  exact (h4.modPwr _ rfl rfl).powerDown _

theorem ShedOk.afterClamp {s : State} (h : ShedOk s) : ShedOk s.afterClamp := .ite s.goDormant_shedOk h

theorem ShedOk.dormCtrlW {s : State} (h : ShedOk s) (v : Word) : ShedOk (s.dormCtrlW v) := by
  unfold State.dormCtrlW
  extract_lets s1 s2
  have h1 : ShedOk s1 := .ite (h.kept (State.setBit_kept rfl (Kept.refl s))) h
  have h2 : ShedOk s2 := h1.kept (State.setFld_kept rfl (Kept.refl _))
  refine .ite h2 (.ite (h2.kept (State.setBit_kept rfl (Kept.refl _))) (ShedOk.afterClamp ?_))
  exact (h2.kept (State.dacStopAll_kept rfl rfl (Kept.refl _))).modPwr _ rfl rfl

theorem execRailGood_shedOk {straps : BitVec 6} {s t : State} (h : ShedOk s) (ht : execRailGood straps s = .next t) :
    ShedOk t := by
  cases ht
  split
  · exact h.modPwr _ rfl rfl
  · exact h.modPwr _ rfl rfl
  · exact (State.fullStart_shedOk _ straps _ _).kept (State.keepSeq_kept rfl (Kept.refl _))
  · exact h

theorem execSequenceTimeout_shedOk {s t : State} (h : ShedOk s) (ht : execSequenceTimeout s = .next t) : ShedOk t := by
  cases ht
  split
  · exact .ite ((h.kept (State.bump_kept rfl (Kept.refl s))).powerDown _) h
  · exact h

theorem execBootWatchdog_shedOk {straps : BitVec 6} {s t : State} (h : ShedOk s) (ht : execBootWatchdog straps s = .next t) :
    ShedOk t := by
  cases ht
  split
  · exact .ite (s.bootReset_shedOk straps _) h
  · exact h

theorem execDownStep_shedOk {s t : State} (h : ShedOk s) (ht : execDownStep s = .next t) : ShedOk t := by
  cases ht
  refine .ite h ?_
  split
  · exact h.modPwr _ rfl rfl
  · rename_i n _ _
    extract_lets s1
    have h1 : ShedOk s1 := h.modPwr _ rfl rfl
    cases n with
    | up => exact h1.powerUp
    | retry => exact h1.modPwr _ rfl rfl
    | dormant =>
      have h2 : ShedOk (s1.modPwr fun x => { x with seq := .off }) := h1.modPwr _ rfl rfl
      dsimp only
      split
      · exact h2.wake _
      · exact h2
  · exact h

theorem execBrownOut_shedOk {s t : State} (h : ShedOk s) (ht : execBrownOut s = .next t) : ShedOk t := by
  cases ht
  refine .ite h ?_
  have hr : ShedOk (((s.devReset true).keepSeq (s.reg rPwrSeq)).setBit rPwrSeq 8 true) :=
    (s.devReset_shedOk true).kept (State.setBit_kept rfl (State.keepSeq_kept rfl (Kept.refl _)))
  exact (hr.modPwr _ rfl rfl).powerDown _

theorem execVddAonApplied_shedOk {s t : State} (ht : execVddAonApplied s = .next t) : ShedOk t := by
  cases ht
  refine ShedOk.powerUp fun c hc => ?_
  cases hc

theorem execPerstNAssert_shedOk {s t : State} (h : ShedOk s) (ht : execPerstNAssert s = .next t) : ShedOk t := by
  cases ht
  refine .ite h (.ite (h.modPwr _ rfl rfl) ?_)
  exact (State.devReset_shedOk _ true).kept (Kept.upPcie rfl (Kept.refl _))

theorem execPerstNRelease_shedOk {straps : BitVec 6} {s t : State} (h : ShedOk s) (ht : execPerstNRelease straps s = .next t) :
    ShedOk t := by
  cases ht
  refine .ite h ?_
  have h1 : ShedOk (s.modPwr fun x => { x with perstHeld := false }) := h.modPwr _ rfl rfl
  exact .ite (h1.wakeBy 1) (.ite h1 (State.fullStart_shedOk _ straps 2 _))

theorem execWakeSource_shedOk {src : Fin 6} {s t : State} (h : ShedOk s) (ht : execWakeSource src s = .next t) : ShedOk t := by
  cases ht
  exact (ShedOk.ite (h.modPwr _ rfl rfl) h).wakeBy _

/-! ### Caps and islands (R673 to R680) -/

theorem ShedOk.shedCluster {s : State} (h : ShedOk s) {c : Nat} (hc : c < 8) : ShedOk (s.shedCluster c) := by
  obtain ⟨hs, hd⟩ := (shedOk_iff s).mp h
  refine (shedOk_iff _).mpr ⟨fun k hk => ?_, hd⟩
  rcases List.mem_cons.mp hk with rfl | hk
  · exact hc
  · exact hs k (List.mem_filter.mp hk).1

theorem ShedOk.unshed {s : State} (h : ShedOk s) (c v : Nat) : ShedOk (s.unshed c v) := by
  unfold State.unshed
  extract_lets s1
  have h1 : ShedOk (s1.startClock (3 + c)) :=
    h.kept (State.startClock_kept rfl (State.setBit_kept rfl (State.setIsland_kept rfl (Kept.refl s))))
  obtain ⟨hs, hd⟩ := (shedOk_iff _).mp h1
  exact (shedOk_iff _).mpr ⟨fun k hk => hs k (List.mem_filter.mp hk).1, hd⟩

/-- Nothing is due any more. -/
theorem ShedOk.noneDue {s : State} (h : ShedOk s) : ShedOk (s.modPwr fun x => { x with due := [] }) := by
  obtain ⟨hs, _⟩ := (shedOk_iff s).mp h
  exact (shedOk_iff _).mpr ⟨hs, fun k hk => by cases hk⟩

theorem ShedOk.shedDue {s : State} (h : ShedOk s) : ShedOk s.shedDue := by
  unfold State.shedDue
  extract_lets l s1
  have h1 : ShedOk s1 := h.noneDue
  refine .ite h1 (.modeDo ?_)
  have hl : ∀ c ∈ l, c < 8 := fun c hc => ((shedOk_iff s).mp h).2 c (List.mem_filter.mp hc).1
  clear_value l s1
  induction l generalizing s1 with
  | nil => exact h1
  | cons c l ih =>
    exact ih _ (h1.shedCluster (hl c List.mem_cons_self)) fun k hk => hl k (List.mem_cons_of_mem c hk)

theorem ShedOk.restoreAll {s : State} (h : ShedOk s) : ShedOk s.restoreAll :=
  ShedOk.foldl (fun _ c hs => hs.unshed c 0) _ h.noneDue

theorem ShedOk.decideShed {s : State} (h : ShedOk s) {c : Nat} (hc : c < 8) : ShedOk (s.decideShed c) := by
  obtain ⟨hs, hd⟩ := (shedOk_iff s).mp h
  refine (shedOk_iff _).mpr ⟨hs, fun k hk => ?_⟩
  rcases List.mem_append.mp hk with hk | hk
  · exact hd k hk
  · exact List.mem_singleton.mp hk ▸ hc

/-- The cluster to shed next is one of the eight: the search keeps one of the list. -/
theorem State.nextShed_lt {s : State} {c : Nat} (h : s.nextShed = some c) : c < 8 := by
  unfold State.nextShed at h
  extract_lets prio at h
  have key : ∀ (l : List Nat) (best : Option Nat), (∀ k ∈ l, k < 8) → (∀ k, best = some k → k < 8) →
      l.foldl (fun best c => match best with
        | none => some c
        | some b => if prio c ≤ prio b then some c else some b) best = some c → c < 8 := by
    intro l
    induction l with
    | nil => exact fun best _ hb hf => hb c hf
    | cons k l ih =>
      intro best hl hb hf
      refine ih _ (fun j hj => hl j (List.mem_cons_of_mem k hj)) ?_ hf
      intro j hj
      have hk := hl k List.mem_cons_self
      cases best with
      | none =>
        cases hj
        exact hk
      | some b =>
        dsimp only at hj
        split at hj <;> cases hj
        · exact hk
        · exact hb _ rfl
  exact key _ none (fun k hk => List.mem_range.mp (List.mem_filter.mp hk).1) (fun _ hk => by cases hk) h

theorem execCapSample_shedOk {temps : List (BitVec 16)} {est : Fin 4096} {s t : State} (h : ShedOk s)
    (ht : execCapSample temps est s = .next t) : ShedOk t := by
  unfold execCapSample at ht
  extract_lets s1 s2 hot hi lo cap s3 s4 below s5 s6 s7 mayShed mayBack at ht
  have h4 : ShedOk s4 := h.kept (State.setBit_kept rfl (State.setBit_kept rfl (State.setFld_kept rfl
    (forN_kept (Kept.refl s) fun _ _ k => State.setReg_kept rfl k))))
  have h5 : ShedOk s5 := h4.modPwr _ rfl rfl
  have h6 : ShedOk s6 := (h5.kept (State.setBit_kept rfl (Kept.refl _))).modPwr _ rfl rfl
  have h7 : ShedOk s7 := by
    refine .ite ?_ h5
    have hl : ∀ c ∈ (List.range 8).filter fun c => s6.island c == 0 && !(s6.pwr.due.contains c), c < 8 :=
      fun c hc => List.mem_range.mp (List.mem_filter.mp hc).1
    revert hl h6
    generalize List.filter _ _ = l
    generalize s6 = s6
    intro h6 hl
    induction l generalizing s6 with
    | nil => exact h6
    | cons c l ih =>
      exact ih _ (h6.decideShed (hl c List.mem_cons_self)) fun k hk => hl k (List.mem_cons_of_mem c hk)
  clear_value s5 s7
  split at ht
  · cases ht
    exact h5
  split at ht
  · cases ht
    split
    · next hc => exact h7.decideShed (State.nextShed_lt hc)
    · exact h7
  split at ht
  · split at ht
    · cases ht
      exact h7
    · cases ht
      exact ShedOk.modPwr (.modeDo (h7.unshed _ 0)) _ rfl rfl
  · cases ht
    exact h7

theorem ShedOk.powerDone {s : State} (h : ShedOk s) : ShedOk s.powerDone := by
  unfold State.powerDone
  split
  · exact h
  · refine .ite ?_ h
    exact (h.kept (State.setResult_kept rfl (State.psResult_kept rfl (Kept.refl s)))).modPwr _ rfl rfl

theorem ShedOk.islandGoing {s : State} (h : ShedOk s) (i : Nat) (force : Bool) : ShedOk (s.islandGoing i force) := by
  unfold State.islandGoing
  refine .ite h ?_
  extract_lets s1 s2
  have h1 : ShedOk s1 := .ite (.modeDo (h.unshed i 1)) (h.kept (State.setIsland_kept rfl (Kept.refl s)))
  have h2 : ShedOk s2 := .ite (h1.kept (State.parkQuarter_kept rfl rfl rfl rfl rfl rfl (Kept.refl _))) h1
  exact .ite (h2.kept (State.dacStopAll_kept rfl rfl (Kept.refl _))) h2

theorem execPowerSet_shedOk {c : Fin 512} {q : BitVec 32} {s t : State} (h : ShedOk s) (ht : execPowerSet c q s = .next t) :
    ShedOk t := by
  have hfin : ∀ (u : State) code, ShedOk u → ShedOk (u.finish c.val q.toNat code) :=
    fun u _ hu => hu.kept (State.finish_kept rfl (Kept.refl u))
  have hps : ∀ cause isl, ShedOk (s.psResult cause isl) := fun _ _ => h.kept (State.psResult_kept rfl (Kept.refl s))
  unfold execPowerSet at ht
  dsimp only at ht
  split at ht
  · cases ht
    exact h
  split at ht
  · cases ht
    exact h
  split at ht
  · cases ht
    exact hfin _ _ h
  split at ht
  · cases ht
    exact hfin _ _ (hps _ _)
  split at ht
  · cases ht
    exact hfin _ _ (hps _ _)
  · cases ht
    refine ShedOk.powerDone (ShedOk.foldl (fun _ i hs => hs.islandGoing i _) _ ?_)
    exact (h.kept (State.grant_kept rfl (Kept.refl s))).modPwr _ rfl rfl

theorem execIslandPowerDown_shedOk {i : Fin 14} {s t : State} (h : ShedOk s) (ht : execIslandPowerDown i s = .next t) :
    ShedOk t := by
  cases ht
  extract_lets k
  split
  · exact h
  refine .ite h ?_
  extract_lets s1 s2 s3 ngx fmt s4 port s5 port' s6 s7 s8
  have k1 : Kept .notPwr s s1 := ite_kept (Kept.refl s) (foldl_kept (Kept.refl s) fun _ _ k => State.unmapLine_kept rfl rfl
      rfl rfl rfl rfl k)
  have k2 : Kept .notPwr s s2 := ite_kept (State.sinterRestore_kept rfl rfl rfl rfl k1) k1
  have k4 : Kept .notPwr s s4 := State.setBit_kept rfl (State.resetBlock_kept rfl (State.resetBlock_kept rfl k1))
  have k5 : Kept .notPwr s s5 := State.resetBlock_kept rfl (State.dacClamp_kept rfl rfl k1)
  have k6 : Kept .notPwr s s6 := by
    refine ite_kept (State.clusterOff_kept rfl rfl rfl rfl rfl rfl k1) (ite_kept (State.quarterLost_kept rfl rfl ?_)
        (ite_kept ?_ (ite_kept ?_ ?_)))
    · exact ite_kept (State.loseQuarter_kept rfl rfl rfl rfl rfl rfl k2) k2
    · exact Kept.upNgx rfl (State.setFld_kept rfl k1)
    · clear_value s4
      exact Kept.lit { port := .inl rfl, spis := .inl rfl } k4
    · exact Kept.upPort rfl k5
  exact (h.kept (foldl_kept (State.setIsland_kept rfl k6) fun _ _ k => State.logEvent_kept rfl rfl rfl rfl rfl k)).powerDone

theorem execIslandPowerUp_shedOk {i : Fin 14} {s t : State} (h : ShedOk s) (ht : execIslandPowerUp i s = .next t) : ShedOk t := by
  unfold execIslandPowerUp at ht
  cases ht
  dsimp only
  split
  · exact h
  refine .ite h (ShedOk.powerDone ?_)
  have h1 : ShedOk (s.setIsland i.val 0) := h.kept (State.setIsland_kept rfl (Kept.refl s))
  by_cases hi : i.val < 8
  · rw [if_pos hi]
    have h2 := h1.kept (State.startClock_kept rfl (d := 3 + i.val) (Kept.refl _))
    exact .ite (.modeDo (ShedOk.shedCluster (h2.modPwr _ rfl rfl) hi)) h2
  · rw [if_neg hi]
    exact .ite (h1.kept (State.unparkQuarter_kept rfl rfl rfl rfl rfl rfl (Kept.refl _))) h1

/-! ### BAR0 writes -/

theorem ShedOk.topW {s : State} (h : ShedOk s) (d : RegDesc) (off : Nat) (v : Word) : ShedOk (s.topW d off v) :=
  .ite (h.kept (State.modeCmdW_kept rfl rfl rfl rfl (Kept.refl s))) <| .ite (h.rlfCtrlW v) <| .ite (h.kept
      (State.pcieLtrW_kept rfl rfl (Kept.refl s))) <|
  .ite (h.kept (State.capCtrlW_kept rfl (Kept.refl s))) <| .ite (h.dormCtrlW v) (h.kept (State.plainW_kept rfl (Kept.refl s)))

theorem ShedOk.regWrite {s : State} (h : ShedOk s) (d : RegDesc) (off : Nat) (v : Word) : ShedOk (s.regWrite d off v) := by
  have k := Kept.refl (M := .notPwr) s
  refine .ite (h.topW d off v) (h.kept ?_)
  exact ite_kept (State.clkW_kept rfl rfl k) <| ite_kept (State.bootW_kept rfl rfl rfl rfl rfl rfl rfl rfl rfl rfl k) <|
      ite_kept (State.secW_kept rfl rfl rfl rfl rfl k) <|
    ite_kept (State.ctxtW_kept rfl rfl rfl rfl rfl rfl rfl rfl rfl rfl k) <| ite_kept (State.fabW_kept rfl rfl k) <|
    ite_kept (ite_kept (State.goBusyW_kept rfl k) (State.plainW_kept rfl k)) <| ite_kept (State.engW_kept rfl rfl k) <|
    ite_kept (State.routeW_kept rfl rfl rfl rfl rfl rfl rfl k) <| ite_kept (State.portW_kept rfl rfl rfl k) <| ite_kept
        (State.ngxW_kept rfl rfl k) (State.spiW_kept rfl rfl rfl rfl rfl rfl rfl rfl rfl rfl rfl rfl rfl rfl rfl k)

theorem ShedOk.barWrite {s : State} (h : ShedOk s) (off : Nat) (v : Word) : ShedOk (s.barWrite off v) := by
  unfold State.barWrite State.bar
  split
  · exact h.kept (State.setBit_kept rfl (Kept.refl s))
  · dsimp only
    split
    · exact h
    · exact h.regWrite _ off v

theorem execRegWr_shedOk {src : Fin 16} {s t : State} (h : ShedOk s) (ht : execRegWr src s = .next t) : ShedOk t := by
  unfold execRegWr State.onMsg at ht
  split at ht
  · next m u hm =>
    cases ht
    have hu : ShedOk u := h.kept (State.popMsg_kept rfl (Kept.refl s) _ hm)
    exact (hu.barWrite _ _).kept (State.ngxSend_kept rfl (Kept.refl _))
  · cases ht
    exact h

theorem execSpisRegWr_shedOk {m3 : Bool} {alive : BitVec 4} {addr v : BitVec 32} {s t : State} (h : ShedOk s)
    (ht : execSpisRegWr m3 alive addr v s = .next t) : ShedOk t := by
  unfold execSpisRegWr State.spisReq State.spisDo at ht
  cases ht
  have h1 : ShedOk (s.setBit rSpisStat 1 m3) := h.kept (State.setBit_kept rfl (Kept.refl s))
  refine .ite (.ite (h1.kept (State.spisDrop_kept rfl rfl (Kept.refl _))) (.ite (h1.kept (State.spisRepeat_kept rfl rfl
      (Kept.refl _))) ?_)) h
  have h2 : ∀ f, ShedOk ((s.setBit rSpisStat 1 m3).modSpis f) := fun _ => h1.kept (State.modSpis_kept rfl (Kept.refl _))
  exact .ite (((h2 _).barWrite _ _).kept (State.spisAnswer_kept rfl rfl (Kept.refl _))) ((h2 _).kept (State.spisAnswer_kept
      rfl rfl (Kept.refl _)))

/-! ### The TAP -/

theorem ShedOk.holdEnter {s : State} (h : ShedOk s) : ShedOk s.holdEnter :=
  .ite (State.devReset_shedOk _ false) (h.kept (State.modTap_kept rfl (Kept.refl s)))

theorem ShedOk.holdLeave {s : State} (h : ShedOk s) (straps : BitVec 6) : ShedOk (s.holdLeave straps) :=
  .ite (State.bootReset_shedOk _ straps 2) (h.kept (State.modTap_kept rfl (Kept.refl s)))

theorem ShedOk.scanLeave {s : State} (h : ShedOk s) (straps : BitVec 6) : ShedOk (s.scanLeave straps) := by
  unfold State.scanLeave
  extract_lets s1 s2
  exact .ite (h.kept (State.modTap_kept rfl (Kept.refl s))) (s1.fullStart_shedOk straps 2 false)

theorem ShedOk.tapLoad {s : State} (h : ShedOk s) (ir : Nat) (straps : BitVec 6) (dr : BitVec 832) :
    ShedOk (s.tapLoad ir straps dr) := by
  unfold State.tapLoad
  extract_lets opens hold s1 s2
  have h1 : ShedOk s1 := .ite (h.scanLeave straps) (.ite (h.holdLeave straps) h)
  have h2 : ShedOk s2 := .ite h1.holdEnter h1
  exact h2.kept (State.modTap_kept rfl (Kept.refl _))

theorem execTapDbgAccess_shedOk {what : Fin 6} {off : Fin 524288} {v : BitVec 32} {straps : BitVec 6} {s t : State} (h : ShedOk s)
    (ht : execTapDbgAccess what off v straps s = .next t) : ShedOk t := by
  cases ht
  have h1 := h.tapLoad 0x14 straps 0
  exact .ite h1 (.ite (h1.kept (State.dbgReg_kept rfl rfl rfl rfl rfl rfl rfl rfl rfl (Kept.refl _))) (h1.kept
      (State.dbgKeeper_kept rfl rfl rfl rfl rfl (Kept.refl _))))

theorem execTapTestStart_shedOk {b : BitVec 8} {straps : BitVec 6} {s t : State} (h : ShedOk s)
    (ht : execTapTestStart b straps s = .next t) : ShedOk t := by
  cases ht
  have h1 := h.tapLoad 0x10 straps 0
  refine .ite h1 (.ite (h1.kept ?_) (h1.kept (State.setBit_kept rfl ?_)))
  all_goals exact State.testStart_kept rfl rfl rfl rfl rfl rfl rfl rfl rfl rfl rfl rfl (Kept.refl _)

/-! ### The D0 tick (R53, R665) -/

theorem ShedOk.tickBoundary {before s : State} (h : ShedOk s) : ShedOk (before.tickBoundary s) := by
  unfold State.tickBoundary
  extract_lets prev s1 s2 clk s3 s4 s5 s6
  have k3 : Kept .notPwr s s3 := Kept.upClk rfl (State.setReg_kept rfl (State.tickPulses_kept rfl (State.tickFlags_kept rfl
      rfl (Kept.refl s))))
  have k4 : Kept .notPwr s s4 := ite_kept (State.ckoApply_kept rfl rfl k3) k3
  have k5 : Kept .notPwr s s5 := State.trackTrim_kept rfl (State.trackTrim_kept rfl (State.slew_kept rfl k4))
  have k6 : Kept .notPwr s s6 := State.tickAudio_kept rfl rfl rfl rfl rfl rfl rfl rfl rfl rfl rfl (State.chainFreeze_kept rfl
      rfl rfl (State.tickCommits_kept rfl rfl rfl rfl rfl rfl rfl k5))
  exact (h.kept k6).shedDue.kept (State.stopShed_kept rfl (State.tickOffer_kept rfl rfl rfl rfl rfl rfl rfl (Kept.refl _)))

theorem ShedOk.epoch {s : State} (h : ShedOk s) (k : Nat) : ShedOk (s.epoch k) := by
  unfold State.epoch
  extract_lets s1 g tick ngx s2 s3 s4
  have k1 : Kept .notPwr s s1 := State.setBit_kept rfl (State.setBit_kept rfl (Kept.refl s))
  clear_value s1
  have k2 : Kept .notPwr s s2 := Kept.lit { tick := .inl rfl, ngx := .inl rfl } k1
  have k3 : Kept .notPwr s s3 := State.domEpoch_kept rfl rfl (State.domEpoch_kept rfl rfl k2)
  have k4 : Kept .notPwr s s4 := State.modeDo_kept rfl rfl rfl k3 fun _ k => State.srcChange_kept rfl rfl rfl rfl
      (Kept.upMode rfl k)
  exact ShedOk.tickBoundary (h.kept (State.dacDomStart_kept rfl k4))

theorem ShedOk.d0Stop {s : State} (h : ShedOk s) : ShedOk s.d0Stop := by
  unfold State.d0Stop
  extract_lets s1 s2 s3 s4 latches s5 s6
  have k3 : Kept .notPwr s s3 :=
    State.setBit_kept rfl (State.setBit_kept rfl (State.setBit_kept rfl (State.setBit_kept rfl (State.setBit_kept rfl
        (State.chainRest_kept rfl rfl rfl (Kept.refl s))))))
  have k4 : Kept .notPwr s s4 := forN_kept k3 fun _ _ k => State.modEngine_kept rfl k
  clear_value s4
  have k6 : Kept .notPwr s s6 :=
    State.dropDoubt_kept rfl rfl (Kept.lit { tick := .inl rfl, latches := .inl rfl, route := .inl rfl } k4)
  refine .modeDo (ShedOk.kept (ShedOk.restoreAll ?_) (State.dacDomStop_kept rfl rfl (Kept.refl _)))
  exact h.kept (Kept.upMode rfl k6)

theorem ShedOk.runTick {s : State} (h : ShedOk s) : ShedOk s.runTick := by
  unfold State.runTick
  extract_lets s1 s2 tick s3
  refine ShedOk.tickBoundary (h.kept (State.tickSource_kept rfl rfl rfl rfl rfl (Kept.upTick rfl ?_)))
  exact State.tickTime_kept rfl (State.settleTorn_kept rfl rfl (State.computeSinks_kept rfl rfl (Kept.refl s)))

theorem execD0Tick_shedOk {s t : State} (h : ShedOk s) (ht : execD0Tick s = .next t) : ShedOk t := by
  cases ht
  refine .ite (.ite ?_ (h.epoch _)) (.ite h (.ite h.d0Stop (.ite (h.kept (State.minTick_kept rfl rfl rfl rfl rfl rfl rfl rfl
      rfl rfl rfl rfl rfl rfl rfl (Kept.refl s))) h.runTick)))
  split
  · exact h.epoch _
  · exact h

/-! ### Every step -/

/-- Every command keeps the clusters shed or due to be shed among the eight; the commands that are not named have no power state in
their footprint. -/
theorem exec_shedOk {c : Instr} {s t : State} (h : ShedOk s) (ht : exec c s = .next t) : ShedOk t := by
  by_cases hp : Part.pwr ∈ footprint c
  · cases c with
    | registerWrite off v => cases ht; exact h.barWrite off.val v
    | regWr src => exact execRegWr_shedOk h ht
    | spisRegWr m3 alive addr v => exact execSpisRegWr_shedOk h ht
    | d0Tick => exact execD0Tick_shedOk h ht
    | heartbeatMiss => exact execHeartbeatMiss_shedOk h ht
    | keeperFault => cases ht; exact h.startRecovery 0x21
    | tcmUe => cases ht; exact h.startRecovery 0x22
    | keeperPoison => cases ht; exact h.startRecovery 0x23
    | restart => cases ht; exact h.rlfCtrlW 1
    | firstHeartbeatTimeout => cases ht; exact .ite (h.startRecovery 0x20) h
    | powerSet c q => exact execPowerSet_shedOk h ht
    | islandPowerDown i => exact execIslandPowerDown_shedOk h ht
    | islandPowerUp i => exact execIslandPowerUp_shedOk h ht
    | capSample temps est => exact execCapSample_shedOk h ht
    | railGood straps => exact execRailGood_shedOk h ht
    | downStep => exact execDownStep_shedOk h ht
    | brownOut => exact execBrownOut_shedOk h ht
    | vddAonApplied => exact execVddAonApplied_shedOk ht
    | perstNAssert => exact execPerstNAssert_shedOk h ht
    | perstNRelease straps => exact execPerstNRelease_shedOk h ht
    | wakeSource src => exact execWakeSource_shedOk h ht
    | wakeTimer => cases ht; exact .ite (h.wakeBy 7) h
    | wakeNRelease => cases ht; exact .ite (h.modPwr _ rfl rfl) h
    | dormGo => cases ht; exact h.dormCtrlW _
    | rampEnd d => cases ht; exact ShedOk.afterClamp (h.kept (State.rampEnd_kept rfl rfl (Kept.refl s)))
    | sequenceTimeout => exact execSequenceTimeout_shedOk h ht
    | sequenceRetry => cases ht; exact .ite h.powerUp h
    | bootWatchdog straps => exact execBootWatchdog_shedOk h ht
    | tapTestStart b straps => exact execTapTestStart_shedOk h ht
    | tapDbgAccess what off v straps => exact execTapDbgAccess_shedOk h ht
    | tapReset straps => cases ht; exact h.tapLoad 2 straps 0
    | tapExtest pins load straps => cases ht; exact (h.tapLoad 0 straps _).kept (State.modTap_kept rfl (Kept.refl _))
    | tapSample pins load straps => cases ht; exact (h.tapLoad 1 straps _).kept (State.modTap_kept rfl (Kept.refl _))
    | tapIdcode straps => cases ht; exact h.tapLoad 2 straps _
    | tapClamp straps => cases ht; exact h.tapLoad 3 straps 0
    | tapHighz straps => cases ht; exact h.tapLoad 4 straps 0
    | tapTestStat straps => cases ht; exact (h.tapLoad 0x11 straps 0).kept (State.modTap_kept rfl (Kept.refl _))
    | tapTestResult straps => cases ht; exact (h.tapLoad 0x12 straps 0).kept (State.modTap_kept rfl (Kept.refl _))
    | tapIntScan straps => cases ht; exact h.tapLoad 0x18 straps 0
    | tapBypass straps => cases ht; exact h.tapLoad 0x1F straps 0
    | _ => exact absurd hp (of_decide_eq_false rfl)
  · unfold ShedOk
    rw [(exec_keeps ht).pwr (decide_eq_false hp)]
    exact h

/-- Settles O5: `step_canon` keeps the memories canonical, `exec_shedOk` the clusters among the eight. -/
theorem invariantIsKept : Obligations.InvariantIsKept := by
  rintro s t ⟨hwf, hshed⟩ h
  refine ⟨(wf_canon t).mpr (step_canon hwf h).1, ?_⟩
  unfold step at h
  split at h
  · cases h
    exact hshed
  · next rest _ => exact exec_shedOk (s := { s with pending := rest }) hshed h

end Sys2Proof.Machine

/-! The settlement of ResetState and StepRunsFront. -/

namespace Sys2Proof.Machine

theorem State.reset_inv : State.reset.inv := ⟨rfl, fun c hc => by cases hc⟩

theorem State.reg_reset (off : Nat) : State.reset.reg off = regReset off := rfl

/-- Settles O1: the state's own fields by definition, the registers by the register table. -/
theorem resetState : Obligations.ResetState := by
  refine ⟨State.reset_inv, rfl, rfl, rfl, rfl, fun _ => rfl, fun _ => rfl, ?_, ?_, ?_, ?_, ?_, ?_, ?_⟩
  case refine_4 => exact (congrArg (fld · 0 10) (State.reg_reset rSpimCfg)).trans (by decide)
  all_goals exact (State.reg_reset _).trans (by decide)

/-- Settles O2: `step` looks at the front of the queue only. -/
theorem stepRunsFront : Obligations.StepRunsFront := by
  refine ⟨fun c rest s => rfl, fun s hs => ?_⟩
  simp only [step, hs, State.fabCycle]

end Sys2Proof.Machine

/-! Fields and bits of the registers after a write, and a loop over the parts of a state. -/

namespace Sys2Proof.Machine

theorem State.rbit_setBit (s : State) (a k : Nat) (v : Bool) (b j : Nat) (hk : k < 32) :
    (s.setBit a k v).rbit b j = if b = a ∧ j = k then v else s.rbit b j := by
  unfold State.rbit
  rw [State.reg_setBit]
  by_cases hb : b = a
  · simp [hb, hk]
  · simp [hb]

/-- A write of a bit leaves every other register and every field beside it alone. -/
theorem State.rfld_setBit_other (s : State) {a k b lo len : Nat} (v : Bool) (h : b ≠ a ∨ lo + len ≤ k ∨ k < lo) :
    (s.setBit a k v).rfld b lo len = s.rfld b lo len := by
  unfold State.rfld
  rw [State.reg_setBit]
  split
  next hb =>
    subst hb
    exact fld_putBit _ _ _ _ _ (h.resolve_left (· rfl))
  next => rfl

/-- A write of a field leaves every other register and every field beside it alone. -/
theorem State.rfld_setFld_other (s : State) {a lo len b lo' len' : Nat} (v : Nat) (h : b ≠ a ∨ lo' + len' ≤ lo ∨ lo + len ≤ lo') :
    (s.setFld a lo len v).rfld b lo' len' = s.rfld b lo' len' := by
  unfold State.rfld
  rw [State.reg_setFld]
  split
  next hb =>
    subst hb
    exact fld_putFld_other _ _ _ _ _ _ (h.resolve_left (· rfl))
  next => rfl

theorem State.rbit_setFld_other (s : State) {a lo len b j : Nat} (v : Nat) (h : b ≠ a ∨ j < lo ∨ lo + len ≤ j) :
    (s.setFld a lo len v).rbit b j = s.rbit b j := by
  unfold State.rbit
  rw [State.reg_setFld]
  split
  next hb =>
    subst hb
    exact bit_putFld_other _ _ _ _ _ (h.resolve_left (· rfl))
  next => rfl

theorem State.reg_setBit_other (s : State) {a b : Nat} (k : Nat) (v : Bool) (h : b ≠ a) : (s.setBit a k v).reg b = s.reg b := by
  rw [State.reg_setBit, if_neg h]

theorem State.reg_setFld_other (s : State) {a b : Nat} (lo len v : Nat) (h : b ≠ a) : (s.setFld a lo len v).reg b = s.reg b := by
  rw [State.reg_setFld, if_neg h]

theorem State.rbit_setReg_other (s : State) {a b : Nat} (v : Word) (j : Nat) (h : b ≠ a) :
    (s.setReg a v).rbit b j = s.rbit b j := by
  rw [State.rbit, State.reg_setReg_other _ _ h, State.rbit]

theorem State.rfld_setReg_other (s : State) {a b : Nat} (v : Word) (lo len : Nat) (h : b ≠ a) :
    (s.setReg a v).rfld b lo len = s.rfld b lo len := by
  rw [State.rfld, State.reg_setReg_other _ _ h, State.rfld]

theorem State.bar_of_lit {s : State} {off : Nat} (h : s.dark off = none) (f : State → State) : s.bar off f = f s := by
  unfold State.bar
  rw [h]

/-- A loop in which step `i` changes part `i` by `next` and leaves the other parts alone changes every part by `next`. -/
theorem forN_pointwise {σ α : Type} {n : Nat} {f : Nat → σ → σ} {get : Nat → σ → α} {next : α → α} (P : σ → Prop)
    (inv : ∀ i < n, ∀ s, P s → P (f i s)) (own : ∀ i < n, ∀ s, P s → get i (f i s) = next (get i s))
    (other : ∀ i < n, ∀ j < n, j ≠ i → ∀ s, P s → get j (f i s) = get j s) {s : σ} (hs : P s) :
    ∀ k < n, get k (forN n f s) = next (get k s) := by
  have upto : ∀ m ≤ n, P ((List.range m).foldl (fun t i => f i t) s) ∧ ∀ k < n,
      get k ((List.range m).foldl (fun t i => f i t) s) = if k < m then next (get k s) else get k s := by
    intro m
    induction m with
    | zero => exact fun _ => ⟨hs, fun k _ => rfl⟩
    | succ m ih =>
      intro hm
      obtain ⟨hP, hget⟩ := ih (by omega)
      rw [List.range_succ, List.foldl_append, List.foldl_cons, List.foldl_nil]
      refine ⟨inv m (by omega) _ hP, fun k hk => ?_⟩
      by_cases hkm : k = m
      · subst hkm
        rw [own k hk _ hP, hget k hk, if_neg (by omega), if_pos (by omega)]
      · rw [other m (by omega) k hk hkm _ hP, hget k hk]
        simp [show k < m + 1 ↔ k < m by omega]
  intro k hk
  rw [forN, (upto n (Nat.le_refl n)).2 k hk, if_pos hk]

end Sys2Proof.Machine

/-! The output DACs: what the operations on a channel and on a group make of the channels' states. -/

namespace Sys2Proof.Machine

theorem State.dacSt_setDacSt (s : State) {d : Nat} (hd : d < 8) (v e : Nat) :
    (s.setDacSt d v).dacSt e = if e = d then v % 16 else s.dacSt e := by
  unfold State.dacSt State.setDacSt
  split
  next he => exact he ▸ State.rfld_setFld_same _ _ _ _ _ (by omega)
  next he => exact State.rfld_setFld_other _ _ (.inr (by omega))

theorem State.dacSt_dacFade (s : State) {d : Nat} (hd : d < 8) (down : Bool) (e : Nat) :
    (s.dacFade d down).dacSt e = if e = d then 3 else s.dacSt e := State.dacSt_setDacSt s hd 3 e

theorem State.dac_dacFade (s : State) (d : Nat) (down : Bool) : ((s.dacFade d down).dac d).down = down := by
  simp [State.dacFade]

theorem State.dacSt_dacRest (s : State) {d v : Nat} (hd : d < 8) (hv : v < 16) (e : Nat) :
    (s.dacRest d v).dacSt e = if e = d then v else s.dacSt e :=
  (State.dacSt_setDacSt s hd v e).trans (by rw [Nat.mod_eq_of_lt hv])

/-- The faults of a group depend on the state of no channel. -/
theorem State.grpFault_of_regs {s t : State} {g : Nat} (hg : g < 2) (hreg : ∀ o, o ≠ rConvDacStat → t.reg o = s.reg o)
    (hgrps : t.port.grps = s.port.grps) (hmode : t.mode = s.mode) : t.grpFault g = s.grpFault g := by
  have hgrp : t.grp g = s.grp g := by simp [State.grp, hgrps]
  have hstrb : t.grpStrb g = s.grpStrb g := by
    simp [State.grpStrb, State.rfld, hreg (rConvGrp g) (by simp only [rConvGrp, rConvDacStat]; omega)]
  have hruns : ∀ dom < 4, t.domRuns dom = s.domRuns dom := fun dom hdom => by
    simp [State.domRuns, State.rbit, hreg (rClkTickCtrl dom) (by simp only [rClkTickCtrl, rConvDacStat]; omega),
      State.d0Running, hmode]
  have hdom : (if s.grpStrb g = 3 then 0 else s.grpStrb g) < 4 := by
    have : s.grpStrb g < 4 := Nat.mod_lt _ (by decide)
    split <;> omega
  simp only [State.grpFault, State.domStop, hgrp, hstrb, hruns _ hdom]

theorem State.grpFault_setDac (s : State) (d : Nat) (x : Dac) (v : Nat) {g : Nat} (hg : g < 2) :
    ((s.setDacSt d v).setDac d x).grpFault g = s.grpFault g :=
  State.grpFault_of_regs hg (fun _ ho => State.reg_setFld_other _ _ _ _ ho) rfl rfl

/-- A channel that is to run fades at once while its group has a fault. -/
theorem State.dacSt_dacRun (s : State) {d : Nat} (hd : d < 8) (e : Nat) :
    (s.dacRun d).dacSt e = if e = d then (if s.grpFault (d / 4) then 3 else 2) else s.dacSt e := by
  unfold State.dacRun
  extract_lets x t
  have ht : ∀ e, t.dacSt e = if e = d then 2 else s.dacSt e := fun e => State.dacSt_setDacSt s hd 2 e
  have hf : t.grpFault (d / 4) = s.grpFault (d / 4) := State.grpFault_setDac s d _ 2 (by omega)
  rw [hf]
  split
  next => rw [State.dacSt_dacFade _ hd, ht]; split <;> rfl
  next => rw [ht]

theorem State.grpFault_dacRun (s : State) (d : Nat) {g : Nat} (hg : g < 2) : (s.dacRun d).grpFault g = s.grpFault g := by
  unfold State.dacRun
  extract_lets x t
  have hf : t.grpFault g = s.grpFault g := State.grpFault_setDac s d _ 2 hg
  split
  next => exact (State.grpFault_setDac t d _ 3 hg).trans hf
  next => exact hf

theorem State.grp_dacRun (s : State) (d i : Nat) : (s.dacRun d).grp i = s.grp i := by
  unfold State.dacRun
  extract_lets x t
  split <;> rfl

/-- The channels of a group that run fade when the group gets a fault. -/
theorem State.dacSt_grpFades (s : State) {g : Nat} (hg : g < 2) {k : Nat} (hk : k < 4) :
    (s.grpFades g).dacSt (4 * g + k) = if s.dacSt (4 * g + k) = 2 then 3 else s.dacSt (4 * g + k) := by
  refine forN_pointwise (get := fun k (t : State) => t.dacSt (4 * g + k)) (next := fun v => if v = 2 then 3 else v)
    (fun _ => True)
    (fun _ _ _ _ => trivial) (fun i hi t _ => ?_) (fun i hi j hj hij t _ => ?_) trivial k hk
  · split
    next => rw [State.dacSt_dacFade _ (by omega), if_pos rfl]
    next => rfl
  · split
    next => rw [State.dacSt_dacFade _ (by omega), if_neg (by omega)]
    next => rfl

theorem State.reg_dacFade (s : State) (d : Nat) (down : Bool) {o : Nat} (ho : o ≠ rConvDacStat) :
    (s.dacFade d down).reg o = s.reg o := State.reg_setFld_other s (4 * d) 4 3 ho

theorem State.reg_dacRest (s : State) (d v : Nat) {o : Nat} (ho : o ≠ rConvDacStat) : (s.dacRest d v).reg o = s.reg o :=
  State.reg_setFld_other s (4 * d) 4 v ho

theorem State.reg_grpFades (s : State) (g : Nat) {o : Nat} (ho : o ≠ rConvDacStat) : (s.grpFades g).reg o = s.reg o := by
  refine forN_keeps 4 _ (State.reg · o) (fun k t => ?_) s
  split
  · exact t.reg_dacFade _ _ ho
  · rfl

theorem State.grp_grpFades (s : State) (g i : Nat) : (s.grpFades g).grp i = s.grp i := by
  refine forN_keeps 4 _ (State.grp · i) (fun k t => ?_) s
  split <;> rfl

/-- The commands of a channel, from each of its states. -/
theorem execDac_commands (s : State) (d : Fin 8) (hlit : s.dark (rConvDacCtrl d) = none) :
    (s.dacSt d = 0 → ∃ t, exec (.dacStart d) s = .next t ∧ t.dacSt d = 1) ∧
    (s.dacSt d ≠ 0 → exec (.dacStart d) s = .next s) ∧
    (s.dacSt d = 2 → ∃ t, exec (.dacStop d) s = .next t ∧ t.dacSt d = 3 ∧ (t.dac d).down = true) ∧
    (s.dacSt d = 1 ∨ s.dacSt d = 4 → ∃ t, exec (.dacStop d) s = .next t ∧ t.dacSt d = 5) ∧
    (s.dacSt d = 0 ∨ s.dacSt d = 3 ∨ s.dacSt d = 5 → exec (.dacStop d) s = .next s) ∧
    (s.dacSt d = 2 → ∃ t, exec (.dacMute d) s = .next t ∧ t.dacSt d = 3 ∧ (t.dac d).down = false) ∧
    (s.dacSt d ≠ 2 → exec (.dacMute d) s = .next s) ∧
    (s.dacSt d = 4 → s.grpFault (d / 4) = false → ∃ t, exec (.dacUnmute d) s = .next t ∧ t.dacSt d = 2) ∧
    (s.dacSt d ≠ 4 ∨ s.grpFault (d / 4) = true → exec (.dacUnmute d) s = .next s) := by
  have start : exec (.dacStart d) s = .next (s.dacStart d) := congrArg Host.Outcome.next (State.bar_of_lit hlit _)
  have stop : exec (.dacStop d) s = .next (s.dacStop d) := congrArg Host.Outcome.next (State.bar_of_lit hlit _)
  have mute : exec (.dacMute d) s = .next (s.dacMute d) := congrArg Host.Outcome.next (State.bar_of_lit hlit _)
  have unmute : exec (.dacUnmute d) s = .next (s.dacUnmute d) := congrArg Host.Outcome.next (State.bar_of_lit hlit _)
  rw [start, stop, mute, unmute]
  unfold State.dacStart State.dacStop State.dacMute State.dacUnmute
  refine ⟨fun h => ⟨_, rfl, ?_⟩, fun h => ?_, fun h => ⟨_, rfl, ?_, ?_⟩, fun h => ⟨_, rfl, ?_⟩, fun h => ?_,
    fun h => ⟨_, rfl, ?_, ?_⟩, fun h => ?_, fun h hf => ⟨_, rfl, ?_⟩, fun h => ?_⟩
  · rw [if_pos h, State.dacSt_dacRest _ d.isLt (by omega), if_pos rfl]
  · rw [if_neg h]
  · rw [if_pos h, State.dacSt_dacFade _ d.isLt, if_pos rfl]
  · rw [if_pos h, State.dac_dacFade]
  · rw [if_neg (by omega), if_pos (by simpa using h), State.dacSt_dacRest _ d.isLt (by omega), if_pos rfl]
  · rw [if_neg (by omega), if_neg (by simp; omega)]
  · rw [if_pos h, State.dacSt_dacFade _ d.isLt, if_pos rfl]
  · rw [if_pos h, State.dac_dacFade]
  · rw [if_neg h]
  · rw [if_pos (by simp [h, hf]), State.dacSt_dacRun _ d.isLt, if_pos rfl, hf]
    rfl
  · rw [if_neg (by simpa [Classical.or_iff_not_imp_left] using h)]

theorem execFadeEnd_of_fading (s : State) (d : Fin 8) (hst : s.dacSt d = 3) :
    ((s.dac d).fade.st = .silent → ∃ t, exec (.fadeEnd d) s = .next t ∧ t.dacSt d = if (s.dac d).down then 5 else 4) ∧
    ((s.dac d).fade.st ≠ .silent → s.now < (s.dac d).since + 1228800 → exec (.fadeEnd d) s = .next s) := by
  refine ⟨fun h => ⟨_, rfl, ?_⟩, fun h hnow => congrArg Host.Outcome.next (if_neg ?_)⟩
  · rw [if_pos (by simp [hst, h]), State.dacSt_dacRest _ d.isLt (by split <;> omega), if_pos rfl]
  · simp only [hst, Bool.and_eq_true, Bool.or_eq_true, beq_iff_eq, decide_eq_true_eq]
    rintro ⟨-, hs | ⟨-, hle⟩⟩
    · exact h hs
    · omega

theorem execStrbLost_of_due (s : State) (g : Fin 2) (hoff : s.cnvOff = false) (hstrb : s.grpStrb g = 3)
    (hlost : (s.grp g).strbLost = false) :
    ((s.grp g).lastEdge + 2 * 1228800000 / s.d0Rate ≤ s.now → ∃ t, exec (.strbLost g) s = .next t ∧ (t.grp g).strbLost = true ∧
      t.rbit rConvFault (8 + g) = true ∧ ∀ k, k < 4 → s.dacSt (4 * g + k) = 2 → t.dacSt (4 * g + k) = 3) ∧
    (s.now < (s.grp g).lastEdge + 2 * 1228800000 / s.d0Rate → exec (.strbLost g) s = .next s) := by
  refine ⟨fun h => ⟨_, congrArg Host.Outcome.next (if_pos (by simp [hstrb, hlost, hoff, h])), ?_, ?_, fun k hk hrun => ?_⟩,
    fun h => congrArg Host.Outcome.next (if_neg (by simp [h]))⟩
  · rw [State.grp_grpFades]
    exact congrArg DacGrp.strbLost ((State.grp_setGrp s g _ g).trans (if_pos rfl))
  · rw [State.rbit, State.reg_grpFades _ _ (by decide)]
    exact State.rbit_setBit_same _ _ _ _ (by omega)
  · have same : ∀ x : DacGrp, ((s.setGrp g x).setBit rConvFault (8 + g) true).dacSt (4 * g + k) = s.dacSt (4 * g + k) :=
      fun x => State.rfld_setBit_other _ _ (.inl (by decide))
    rw [State.dacSt_grpFades _ g.isLt hk, same, if_pos hrun]

theorem execAutoUnmute_of_due (s : State) (g : Fin 2) (hoff : s.cnvOff = false) (at' : Nat)
    (hclear : (s.grp g).clearAt = some at') (hauto : s.rbit (rConvGrp g) 3 = true) (hfault : s.grpFault g = false)
    (hdue : at' + 2 * 1228800000 * (s.strbRate g).2 / (s.strbRate g).1 ≤ s.now) :
    ∃ t, exec (.autoUnmute g) s = .next t ∧ (t.grp g).clearAt = none ∧
      ∀ k, k < 4 → s.dacSt (4 * g + k) = 4 → t.dacSt (4 * g + k) = 2 := by
  have hex : exec (.autoUnmute g) s = .next (forN 4 (fun k s => if s.dacSt (4 * g + k) = 4 then s.dacRun (4 * g + k) else s)
      (s.setGrp g { s.grp g with clearAt := none })) := by
    change execAutoUnmute g s = _
    unfold execAutoUnmute
    simp only [hclear, hauto, hfault, hoff]
    exact if_pos (by simp [hdue])
  refine ⟨_, hex, ?_, fun k hk hmuted => ?_⟩
  · rw [forN_keeps 4 _ (State.grp · g)]
    · simp
    · intro k t
      split
      next => exact State.grp_dacRun ..
      next => rfl
  · have hnext := forN_pointwise (n := 4) (f := fun k s => if s.dacSt (4 * g + k) = 4 then s.dacRun (4 * g + k) else s)
      (get := fun k (t : State) => t.dacSt (4 * g + k)) (next := fun v => if v = 4 then 2 else v) (fun t => t.grpFault g = false)
      (fun i hi t ht => ?_) (fun i hi t ht => ?_) (fun i hi j hj hij t ht => ?_)
      (s := s.setGrp g { s.grp g with clearAt := none }) ?_ k hk
    · rw [hnext]
      exact if_pos hmuted
    · split
      next => rw [State.grpFault_dacRun _ _ g.isLt, ht]
      next => exact ht
    · split
      next =>
        rw [State.dacSt_dacRun _ (by omega), if_pos rfl, show (4 * g.val + i) / 4 = g by omega, ht]
        rfl
      next => rfl
    · split
      next => rw [State.dacSt_dacRun _ (by omega), if_neg (by omega)]
      next => rfl
    · have hlost : (s.grp g).strbLost = false ∧ s.domStop g = false := by simpa [State.grpFault] using hfault
      rw [State.grpFault, State.grp_setGrp, if_pos rfl]
      exact Bool.or_eq_false_iff.mpr hlost

theorem State.grp_dacAdvance (s : State) (d : Nat) (load : Bool) (i : Nat) : (s.dacAdvance d load).grp i = s.grp i := by
  unfold State.dacAdvance
  split <;> rfl

theorem execLdsStrobe_of_lds (s : State) (g : Fin 2) (hoff : s.cnvOff = false) (rising : Bool) (hstrb : s.grpStrb g = 3) :
    (rising ≠ s.rbit (rConvGrp g) 2 → ∃ t, exec (.ldsStrobe g rising) s = .next t ∧ (t.grp g).loads = (s.grp g).loads + 1 ∧
      (t.grp g).lastEdge = s.now ∧ (t.grp g).strbLost = false) ∧
    (rising = s.rbit (rConvGrp g) 2 → exec (.ldsStrobe g rising) s = .next s) := by
  refine ⟨fun h => ?_, fun h => if_pos (by simp [h])⟩
  refine ⟨_, if_neg (by simp [hstrb, hoff, h]), ?_⟩
  rw [forN_keeps 4 _ (State.grp · g) (fun k t => t.grp_dacAdvance _ _ _), State.grp_setGrp, if_pos rfl]
  refine ⟨rfl, ?_, rfl⟩
  dsimp only
  split <;> rfl

theorem execDacShort_of_lit (s : State) (d : Fin 8) (hoff : s.cnvOff = false) :
    (s.dacSt d ≠ 0 → s.dacSt d ≠ 5 → ∃ t, exec (.dacShort d) s = .next t ∧ t.dacSt d = 4 ∧ t.rbit rConvFault d = true) ∧
    (s.dacSt d = 0 ∨ s.dacSt d = 5 → exec (.dacShort d) s = .next (s.setBit rConvFault d true)) := by
  have same : (s.setBit rConvFault d true).dacSt d = s.dacSt d := State.rfld_setBit_other _ _ (.inl (by decide))
  have hex : exec (.dacShort d) s = .next (if (s.setBit rConvFault d true).dacSt d = 0 || (s.setBit rConvFault d true).dacSt d = 5
      then s.setBit rConvFault d true else (s.setBit rConvFault d true).dacRest d 4) :=
    by
      change execDacShort d s = _
      unfold execDacShort
      rw [hoff]
      rfl
  rw [hex, same]
  refine ⟨fun h0 h5 => ⟨_, rfl, ?_⟩, fun h => congrArg Host.Outcome.next (if_pos (by simpa using h))⟩
  rw [if_neg (by simp [h0, h5])]
  refine ⟨(State.dacSt_dacRest _ d.isLt (by omega) d).trans (if_pos rfl), ?_⟩
  rw [State.rbit, State.reg_dacRest _ _ _ (by decide)]
  exact State.rbit_setBit_same _ _ _ _ (by omega)

/-- Settles O40. -/
theorem dacs : Obligations.Dacs := by
  intro s
  refine ⟨execDac_commands s, execFadeEnd_of_fading s, fun g hoff => ⟨execStrbLost_of_due s g hoff,
    execAutoUnmute_of_due s g hoff, execLdsStrobe_of_lds s g hoff⟩, execDacShort_of_lit s⟩

end Sys2Proof.Machine

/-! The clock system: the states of the PLL loops, what PLL_CTRL takes, and the settings of the clock outputs. -/

namespace Sys2Proof.Machine

/-! ### The loops -/

theorem pllStatReg_eq (x : Nat) : pllStatReg x = 0x02010C + 0x40 * x := by
  unfold pllStatReg rClkPllsStat rClkPllStat
  split <;> omega

theorem State.reg_setPllSt (s : State) (x v : Nat) {o : Nat} (ho : o ≠ pllStatReg x) : (s.setPllSt x v).reg o = s.reg o :=
  State.reg_setFld_other s 0 2 v ho

theorem State.pllSt_setPllSt (s : State) (x : Nat) {v : Nat} (hv : v < 4) : (s.setPllSt x v).pllSt x = v :=
  (State.rfld_setFld_same s (pllStatReg x) 0 2 v (by omega)).trans (Nat.mod_eq_of_lt hv)

/-- A closed loop that slips is held, marked LOST and counted. -/
theorem State.pllSlip_of_closed (s : State) {x : Nat} (hst : s.pllSt x = 2) :
    (s.pllSlip x).pllSt x = 3 ∧ (s.pllSlip x).rbit (pllStatReg x) 8 = true ∧
      (s.pllSlip x).rfld (pllStatReg x) 16 8 = min (s.rfld (pllStatReg x) 16 8 + 1) 255 := by
  unfold State.pllSlip
  rw [if_pos hst]
  extract_lets p t
  have ht : t.pllSt x = 3 := s.pllSt_setPllSt x (by omega)
  have hcount : t.rfld (pllStatReg x) 16 8 = s.rfld (pllStatReg x) 16 8 := State.rfld_setFld_other s 3 (.inr (.inr (by omega)))
  refine ⟨?_, ?_, ?_⟩
  · rw [State.pllSt, State.bump, State.rfld_setFld_other _ _ (.inr (.inl (by omega))),
      State.rfld_setBit_other _ _ (.inr (.inl (by omega)))]
    exact ht
  · rw [State.bump, State.rbit_setFld_other _ _ (.inr (.inl (by omega))), State.rbit_setBit_same _ _ _ _ (by omega)]
  · rewrite [State.rfld_bump_same _ _ _ _ (by omega), State.rfld_setBit_other _ _ (.inr (.inr (by omega))), hcount]
    rfl

theorem State.reg_pllSlip (s : State) (x : Nat) {o : Nat} (ho : o ≠ pllStatReg x) : (s.pllSlip x).reg o = s.reg o := by
  unfold State.pllSlip
  split
  · extract_lets t
    rw [State.bump, State.reg_setFld_other _ _ _ _ ho, State.reg_setBit_other _ _ _ ho]
    exact s.reg_setPllSt x 3 ho
  · rfl

theorem State.pllSt_of_reg {s t : State} {x : Nat} (h : t.reg (pllStatReg x) = s.reg (pllStatReg x)) : t.pllSt x = s.pllSt x :=
  congrArg (fld · 0 2) h

theorem State.pllSt_acquire (s : State) (x : Nat) : (s.acquire x).pllSt x = 1 := State.pllSt_setPllSt _ x (by omega)

/-- A loop that starts to acquire changes its status and, in PLL_CTRL, its band. -/
theorem State.acquire_ctrl (s : State) (x : Nat) :
    (s.acquire x).rbit (rClkPllCtrl x) 0 = s.rbit (rClkPllCtrl x) 0 ∧
      (s.acquire x).rfld (rClkPllCtrl x) 8 8 = s.rfld (rClkPllCtrl x) 8 8 := by
  have hne : rClkPllCtrl x ≠ pllStatReg x := by rw [pllStatReg_eq x, rClkPllCtrl]; omega
  unfold State.acquire
  extract_lets t
  have ht : t.rbit (rClkPllCtrl x) 0 = s.rbit (rClkPllCtrl x) 0 ∧ t.rfld (rClkPllCtrl x) 8 8 = s.rfld (rClkPllCtrl x) 8 8 := by
    dsimp only [t]
    split
    · exact ⟨State.rbit_setFld_other _ _ (.inr (.inl (by omega))), State.rfld_setFld_other _ _ (.inr (.inl (by omega)))⟩
    · exact ⟨rfl, rfl⟩
  rwa [State.rbit, State.rfld, State.reg_setPllSt _ _ _ hne]

/-! ### PLL_CTRL -/

/-- The settings that decide over EN lie outside PLL_CTRL. -/
theorem State.pllOk_of_reg {s t : State} {x : Nat} (hx : x < 2) (h : ∀ o, o ≠ rClkPllCtrl x → t.reg o = s.reg o) (int : Nat) :
    t.pllOk x int = s.pllOk x int := by
  have ref : t.reg rClkRefStat = s.reg rClkRefStat := h _ (by simp only [rClkRefStat, rClkPllCtrl]; omega)
  have num : t.reg (rClkPllNum x) = s.reg (rClkPllNum x) := h _ (by simp only [rClkPllNum, rClkPllCtrl]; omega)
  have den : t.reg (rClkPllDen x) = s.reg (rClkPllDen x) := h _ (by simp only [rClkPllDen, rClkPllCtrl]; omega)
  have band : ∀ i, t.reg (rClkBand i) = s.reg (rClkBand i) := fun i => h _ (by simp only [rClkBand, rClkPllCtrl]; omega)
  simp only [State.pllOk, State.vcoTarget, State.pllBand, State.bandFor, State.refHz, State.rfld, ref, num, den, band]
  rfl

/-- What uses a PLL is written outside PLL_CTRL. -/
theorem State.pllUsed_of_reg {s t : State} {x : Nat} (hx : x < 2) (h : ∀ o, o ≠ rClkPllCtrl x → t.reg o = s.reg o) :
    t.pllUsed x = s.pllUsed x := by
  have src : t.reg (rClkTickStat 0) = s.reg (rClkTickStat 0) := h _ (by simp only [rClkTickStat, rClkPllCtrl]; omega)
  have tdm : ∀ n, t.reg (rPortTdmCfg0 n) = s.reg (rPortTdmCfg0 n) :=
    fun n => h _ (by simp only [rPortTdmCfg0, rClkPllCtrl]; omega)
  have spt : ∀ n, t.reg (rPortSptCfg n) = s.reg (rPortSptCfg n) := fun n => h _ (by simp only [rPortSptCfg, rClkPllCtrl]; omega)
  have cko : ∀ n, t.reg (rClkCkoAct n) = s.reg (rClkCkoAct n) := fun n => h _ (by simp only [rClkCkoAct, rClkPllCtrl]; omega)
  have conv : t.reg rConvClk = s.reg rConvClk := h _ (by simp only [rConvClk, rClkPllCtrl]; omega)
  have pdm : t.reg rConvPdmck = s.reg rConvPdmck := h _ (by simp only [rConvPdmck, rClkPllCtrl]; omega)
  have dac : t.reg rConvDacStat = s.reg rConvDacStat := h _ (by simp only [rConvDacStat, rClkPllCtrl]; omega)
  simp only [State.pllUsed, State.curSrc, State.dacsClamped, State.rfld, State.rbit, src, tdm, spt, cko, conv, pdm, dac]

/-- PLL_CTRL of `x` before the write is taken: a one in REJ clears it. -/
def State.pllAck (s : State) (x : Nat) (v : Word) : State := if bit v 31 then s.setBit (rClkPllCtrl x) 31 false else s

/-- PLL_CTRL of `x` with the written fields. -/
def State.pllPut (s : State) (x : Nat) (v : Word) : State :=
  ((s.setBit (rClkPllCtrl x) 0 (bit v 0)).setBit (rClkPllCtrl x) 2 (bit v 2)).setFld (rClkPllCtrl x) 8 8 (fld v 8 8)

theorem State.reg_pllAck (s : State) (x : Nat) (v : Word) {o : Nat} (ho : o ≠ rClkPllCtrl x) :
    (s.pllAck x v).reg o = s.reg o := by
  unfold State.pllAck
  split
  · exact State.reg_setBit_other _ _ _ ho
  · rfl

theorem State.pllAck_ctrl (s : State) (x : Nat) (v : Word) :
    (s.pllAck x v).rbit (rClkPllCtrl x) 0 = s.rbit (rClkPllCtrl x) 0 ∧
      (s.pllAck x v).rfld (rClkPllCtrl x) 8 8 = s.rfld (rClkPllCtrl x) 8 8 := by
  unfold State.pllAck
  split
  · rw [State.rbit_setBit _ _ _ _ _ _ (by omega), if_neg (by omega)]
    exact ⟨rfl, State.rfld_setBit_other _ _ (.inr (.inl (by omega)))⟩
  · exact ⟨rfl, rfl⟩

theorem State.pllPut_ctrl (s : State) (x : Nat) (v : Word) :
    (s.pllPut x v).rbit (rClkPllCtrl x) 0 = bit v 0 ∧ (s.pllPut x v).rfld (rClkPllCtrl x) 8 8 = fld v 8 8 := by
  unfold State.pllPut
  refine ⟨?_, ?_⟩
  · rw [State.rbit_setFld_other _ _ (.inr (.inl (by omega))), State.rbit_setBit _ _ _ _ _ _ (by omega), if_neg (by omega),
      State.rbit_setBit_same _ _ _ _ (by omega)]
  · rw [State.rfld_setFld_same _ _ _ _ _ (by omega)]
    exact Nat.mod_eq_of_lt (Nat.mod_lt _ (by decide))

/-- A write to PLL_CTRL, by EN and by what the settings and the users of the loop allow. -/
theorem State.pllCtrlW_eq (s : State) {x : Nat} (hx : x < 2) (v : Word) : s.pllCtrlW x v =
    if s.rbit (rClkPllCtrl x) 0 then
      if fld v 8 8 ≠ s.rfld (rClkPllCtrl x) 8 8 then (s.pllAck x v).setBit (rClkPllCtrl x) 31 true
      else if !(bit v 0) then
        if s.pllUsed x then (s.pllAck x v).setBit (rClkPllCtrl x) 31 true else ((s.pllAck x v).pllPut x v).setPllSt x 0
      else if bit v 1 then ((s.pllAck x v).pllPut x v).relock x else (s.pllAck x v).pllPut x v
    else if !(bit v 0) then (s.pllAck x v).pllPut x v
    else if s.pllOk x (fld v 8 8) then ((s.pllAck x v).pllPut x v).acquire x
    else (s.pllAck x v).setBit (rClkPllCtrl x) 31 true := by
  rw [← (s.pllAck_ctrl x v).1, ← (s.pllAck_ctrl x v).2, ← State.pllUsed_of_reg hx (fun o ho => s.reg_pllAck x v ho),
    ← State.pllOk_of_reg hx (fun o ho => s.reg_pllAck x v ho)]
  rfl

theorem fld_or_one (v : BitVec 32) : fld (v ||| 1) 8 8 = fld v 8 8 := by
  apply Nat.eq_of_testBit_eq
  intro i
  rw [testBit_fld, testBit_fld, BitVec.getLsbD_or]
  simp

theorem fld_and_evens (v : BitVec 32) : fld (v &&& 0xFFFFFFFE) 8 8 = fld v 8 8 := by
  apply Nat.eq_of_testBit_eq
  intro i
  rw [testBit_fld, testBit_fld, BitVec.getLsbD_and]
  by_cases hi : i < 8
  · have hones : ∀ j < 8, (0xFFFFFFFE : BitVec 32).getLsbD (8 + j) = true := by decide
    rw [hones i hi, Bool.and_true]
  · simp [hi]

/-- A rejected write sets REJ and nothing else but what it clears. -/
theorem State.pllAck_reject (s : State) (x : Nat) (v : Word) :
    ((s.pllAck x v).setBit (rClkPllCtrl x) 31 true).rbit (rClkPllCtrl x) 31 = true ∧
    ((s.pllAck x v).setBit (rClkPllCtrl x) 31 true).rbit (rClkPllCtrl x) 0 = s.rbit (rClkPllCtrl x) 0 ∧
    ((s.pllAck x v).setBit (rClkPllCtrl x) 31 true).pllSt x = s.pllSt x := by
  have hne : pllStatReg x ≠ rClkPllCtrl x := by rw [pllStatReg_eq x, rClkPllCtrl]; omega
  refine ⟨State.rbit_setBit_same _ _ _ _ (by omega), ?_, ?_⟩
  · rw [State.rbit_setBit _ _ _ _ _ _ (by omega), if_neg (by omega), (s.pllAck_ctrl x v).1]
  · exact State.pllSt_of_reg ((State.reg_setBit_other _ _ _ hne).trans (s.reg_pllAck x v hne))

theorem execPllEnable_of_stopped (s : State) (x : Fin 2) (v : BitVec 32) (hen : s.rbit (rClkPllCtrl x) 0 = false) :
    (s.pllOk x (fld v 8 8) = true → ∃ t, exec (.pllEnable x v) s = .next t ∧ t.rbit (rClkPllCtrl x) 0 = true ∧
      t.rfld (rClkPllCtrl x) 8 8 = fld v 8 8 ∧ t.pllSt x = 1) ∧
    (s.pllOk x (fld v 8 8) = false → ∃ t, exec (.pllEnable x v) s = .next t ∧ t.rbit (rClkPllCtrl x) 31 = true ∧
      t.rbit (rClkPllCtrl x) 0 = false ∧ t.pllSt x = s.pllSt x) := by
  have hone : bit (v ||| 1) 0 = true := by simp [bit]
  have hw : s.pllCtrlW x (v ||| 1) = if s.pllOk x (fld v 8 8)
      then ((s.pllAck x (v ||| 1)).pllPut x (v ||| 1)).acquire x
      else (s.pllAck x (v ||| 1)).setBit (rClkPllCtrl x) 31 true := by
    rw [State.pllCtrlW_eq s x.isLt, hen, hone, fld_or_one]
    rfl
  refine ⟨fun h => ⟨_, rfl, ?_⟩, fun h => ⟨_, rfl, ?_⟩⟩
  · rw [hw, if_pos h, (State.acquire_ctrl _ x).1, (State.acquire_ctrl _ x).2, (State.pllPut_ctrl _ x _).1,
      (State.pllPut_ctrl _ x _).2, fld_or_one]
    exact ⟨hone, rfl, State.pllSt_acquire _ x⟩
  · obtain ⟨hrej, hkeep, hst⟩ := s.pllAck_reject x (v ||| 1)
    rw [hw, if_neg (by simp [h])]
    exact ⟨hrej, hkeep.trans hen, hst⟩

theorem execPllDisable_of_running (s : State) (x : Fin 2) (v : BitVec 32) (hen : s.rbit (rClkPllCtrl x) 0 = true)
    (hint : fld v 8 8 = s.rfld (rClkPllCtrl x) 8 8) :
    (s.pllUsed x = false → ∃ t, exec (.pllDisable x v) s = .next t ∧ t.rbit (rClkPllCtrl x) 0 = false ∧ t.pllSt x = 0) ∧
    (s.pllUsed x = true → ∃ t, exec (.pllDisable x v) s = .next t ∧ t.rbit (rClkPllCtrl x) 31 = true ∧
      t.rbit (rClkPllCtrl x) 0 = true ∧ t.pllSt x = s.pllSt x) := by
  have hzero : bit (v &&& 0xFFFFFFFE) 0 = false := by simp [bit]
  have hw : s.pllCtrlW x (v &&& 0xFFFFFFFE) = if s.pllUsed x then (s.pllAck x (v &&& 0xFFFFFFFE)).setBit (rClkPllCtrl x) 31 true
      else ((s.pllAck x (v &&& 0xFFFFFFFE)).pllPut x (v &&& 0xFFFFFFFE)).setPllSt x 0 := by
    rw [State.pllCtrlW_eq s x.isLt, hen, hzero, fld_and_evens, hint, if_pos rfl, if_neg (by simp)]
    rfl
  refine ⟨fun h => ⟨_, rfl, ?_⟩, fun h => ⟨_, rfl, ?_⟩⟩
  · have hne : rClkPllCtrl x ≠ pllStatReg x := by rw [pllStatReg_eq x, rClkPllCtrl]; omega
    rw [hw, if_neg (by simp [h]), State.rbit, State.reg_setPllSt _ _ _ hne]
    exact ⟨(State.pllPut_ctrl _ x _).1.trans hzero, State.pllSt_setPllSt _ x (by omega)⟩
  · obtain ⟨hrej, hkeep, hst⟩ := s.pllAck_reject x (v &&& 0xFFFFFFFE)
    rw [hw, if_pos h]
    exact ⟨hrej, hkeep.trans hen, hst⟩

/-! ### REFCLK and the measurements -/

theorem execPllSlip_of_closed (s : State) (x : Fin 3) (hst : s.pllSt x = 2) :
    ∃ t, exec (.pllSlip x) s = .next t ∧ t.pllSt x = 3 ∧ t.rbit (pllStatReg x) 8 = true ∧
      t.rfld (pllStatReg x) 16 8 = min (s.rfld (pllStatReg x) 16 8 + 1) 255 := by
  have hreg : (s.modeDo 0x13 fun s => s.pllSlip x.val).reg (pllStatReg x) = (s.pllSlip x).reg (pllStatReg x) :=
    State.modeDo_reg s _ _ _ (by rw [pllStatReg_eq x]; simp only [rTopModeReason]; omega)
  refine ⟨_, rfl, ?_⟩
  rw [State.pllSt_of_reg hreg, State.rbit, State.rfld, hreg]
  exact s.pllSlip_of_closed hst

theorem execFerrMeasure_eq (s : State) (f : BitVec 8) : ∃ t, exec (.ferrMeasure f) s = .next t ∧
    t.rfld rClkPllsStat 24 8 = f.toNat ∧
    t.rbit rClkPllsStat 9 = (s.rbit rClkPllsStat 9 || decide (30 < f.toInt.natAbs)) := by
  have hf : (s.setFld rClkPllsStat 24 8 f.toNat).rfld rClkPllsStat 24 8 = f.toNat :=
    (State.rfld_setFld_same _ _ _ _ _ (by omega)).trans (Nat.mod_eq_of_lt f.isLt)
  have hb : (s.setFld rClkPllsStat 24 8 f.toNat).rbit rClkPllsStat 9 = s.rbit rClkPllsStat 9 :=
    State.rbit_setFld_other _ _ (.inr (.inl (by omega)))
  refine ⟨_, rfl, ?_⟩
  by_cases h : 30 < f.toInt.natAbs
  · rw [if_pos h, State.rfld_setBit_other _ _ (.inr (.inr (by omega))), State.rbit_setBit_same _ _ _ _ (by omega)]
    exact ⟨hf, by simp [h]⟩
  · rw [if_neg h]
    exact ⟨hf, by simp [h, hb]⟩

theorem execRefclkLost_of_present (s : State) (href : s.rbit rClkRefStat 8 = true) (ha : s.pllSt 0 = 2) (hb : s.pllSt 1 = 2) :
    ∃ t, exec .refclkLost s = .next t ∧ t.rbit rClkRefStat 8 = false ∧ t.rbit rClkRefStat 9 = true ∧
      t.rbit rClkHoldStat 8 = true ∧ t.pllSt 0 = 3 ∧ t.pllSt 1 = 3 := by
  refine ⟨_, congrArg Host.Outcome.next (if_pos href), ?_⟩
  generalize hu : ((s.setBit rClkRefStat 8 false).setBit rClkRefStat 9 true).setBit rClkHoldStat 8 true = u
  have hbit : ∀ o b, u.rbit o b = if o = rClkHoldStat ∧ b = 8 then true else if o = rClkRefStat ∧ b = 9 then true else
      if o = rClkRefStat ∧ b = 8 then false else s.rbit o b := by
    intro o b
    rw [← hu, State.rbit_setBit _ _ _ _ _ _ (by omega), State.rbit_setBit _ _ _ _ _ _ (by omega),
      State.rbit_setBit _ _ _ _ _ _ (by omega)]
  have hst : ∀ x < 2, u.pllSt x = s.pllSt x := by
    intro x hx
    have := pllStatReg_eq x
    refine State.pllSt_of_reg ?_
    rw [← hu, State.reg_setBit_other, State.reg_setBit_other, State.reg_setBit_other] <;>
      simp only [rClkHoldStat, rClkRefStat] <;> omega
  have hreg : ∀ o, o ≠ pllStatReg 0 → o ≠ pllStatReg 1 → ((u.pllSlip 0).pllSlip 1).reg o = u.reg o := fun o h0 h1 =>
    ((u.pllSlip 0).reg_pllSlip 1 h1).trans (u.reg_pllSlip 0 h0)
  rw [State.rbit, State.rbit, State.rbit, hreg _ (by decide) (by decide), hreg _ (by decide) (by decide)]
  rw [← State.rbit, ← State.rbit, ← State.rbit, hbit, hbit, hbit]
  refine ⟨by simp [rClkRefStat, rClkHoldStat], by simp [rClkRefStat, rClkHoldStat], by simp, ?_, ?_⟩
  · rw [State.pllSt_of_reg ((u.pllSlip 0).reg_pllSlip 1 (by decide))]
    exact (u.pllSlip_of_closed ((hst 0 (by omega)).trans ha)).1
  · refine ((u.pllSlip 0).pllSlip_of_closed ?_).1
    rw [State.pllSt_of_reg (u.reg_pllSlip 0 (by decide)), hst 1 (by omega), hb]

theorem execHoldMeasWindow_of_full (s : State) (n : BitVec 24) (hwin : 4096 ≤ s.clk.win) :
    ∃ t, exec (.holdMeasWindow n) s = .next t ∧ t.clk.win = s.clk.win - 4096 ∧
      (t.reg rClkHoldMeas).toNat = n.toNat ∧ ∀ o, o ≠ rClkHoldMeas → t.reg o = s.reg o := by
  refine ⟨_, congrArg Host.Outcome.next (if_pos hwin), rfl, ?_, fun o ho => ?_⟩
  · rw [State.reg_setReg_same, BitVec.toNat_setWidth]
    have := n.isLt
    omega
  · rw [State.reg_setReg_other _ _ ho, State.reg, State.reg]

/-! ### The clock outputs -/

theorem State.reg_ckoApply_act (s : State) {n : Nat} (hn : n < 4) : s.ckoApply.reg (rClkCkoAct n) = s.reg (rClkCkoCfg n) := by
  unfold State.ckoApply
  extract_lets t
  have hact : (t.reg (rClkCkoAct n), t.reg (rClkCkoCfg n)) = (s.reg (rClkCkoCfg n), s.reg (rClkCkoCfg n)) := by
    refine forN_pointwise (n := 4) (get := fun k (t : State) => (t.reg (rClkCkoAct k), t.reg (rClkCkoCfg k)))
      (next := fun p => (p.2, p.2)) (fun _ => True) (fun _ _ _ _ => trivial) (fun i hi u _ => ?_) (fun i hi j hj hij u _ => ?_)
      trivial n hn
    · split
      next h => rw [h]
      next =>
        refine Prod.ext (State.reg_setReg_same _ _ _) (State.reg_setReg_other _ _ ?_)
        simp only [rClkCkoAct, rClkCkoCfg]
        omega
    · split
      next => rfl
      next =>
        refine Prod.ext (State.reg_setReg_other _ _ ?_) (State.reg_setReg_other _ _ ?_) <;>
          (simp only [rClkCkoAct, rClkCkoCfg]; omega)
  rw [State.reg_setBit_other _ _ _ (by simp only [rClkCkoAct, rClkCkoCommit]; omega)]
  clear_value t
  exact (Prod.ext_iff.mp hact).1

/-- CKO_COMMIT before the commit is decided: a one in bit 9 clears it, and bit 1 is taken. -/
def State.ckoAck (s : State) (v : Word) : State :=
  (if bit v 9 then s.setBit rClkCkoCommit 9 false else s).setBit rClkCkoCommit 1 (bit v 1)

theorem State.reg_ckoAck (s : State) (v : Word) {o : Nat} (ho : o ≠ rClkCkoCommit) : (s.ckoAck v).reg o = s.reg o := by
  unfold State.ckoAck
  rw [State.reg_setBit_other _ _ _ ho]
  split
  · exact State.reg_setBit_other _ _ _ ho
  · rfl

theorem State.rbit_ckoAck_pending (s : State) (v : Word) : (s.ckoAck v).rbit rClkCkoCommit 8 = s.rbit rClkCkoCommit 8 := by
  unfold State.ckoAck
  rw [State.rbit_setBit _ _ _ _ _ _ (by omega), if_neg (by omega)]
  split
  · rw [State.rbit_setBit _ _ _ _ _ _ (by omega), if_neg (by omega)]
  · rfl

/-- Whether the staged settings may be applied is written outside CKO_COMMIT. -/
theorem State.ckoOk_of_reg {s t : State} (h : ∀ o, o ≠ rClkCkoCommit → t.reg o = s.reg o) : t.ckoOk = s.ckoOk := by
  have cfg : ∀ n < 4, t.reg (rClkCkoCfg n) = s.reg (rClkCkoCfg n) :=
    fun n hn => h _ (by simp only [rClkCkoCfg, rClkCkoCommit]; omega)
  have pair : t.reg rClkCkoPair = s.reg rClkCkoPair := h _ (by decide)
  have stat : t.reg (pllStatReg 2) = s.reg (pllStatReg 2) := h _ (by decide)
  have ctrl : ∀ n < 16, t.reg (rClkPllCtrl (n - 2)) = s.reg (rClkPllCtrl (n - 2)) :=
    fun n hn => h _ (by simp only [rClkPllCtrl, rClkCkoCommit]; omega)
  unfold State.ckoOk
  rw [Bool.eq_iff_iff, List.all_eq_true, List.all_eq_true]
  refine forall₂_congr fun n hn => ?_
  have hsrc : fld (s.reg (rClkCkoCfg n)) 0 3 < 16 := Nat.lt_of_lt_of_le (Nat.mod_lt _ (by decide)) (by decide)
  simp only [cfg n (List.mem_range.mp hn), State.rbit, State.pllSt, State.rfld, pair, stat, ctrl _ hsrc]
  rfl

theorem execCkoCommit_eq (s : State) (v : BitVec 32) : exec (.ckoCommit v) s = .next (
    if s.rbit rClkCkoCommit 8 || !s.ckoOk then (s.ckoAck (v ||| 1)).setBit rClkCkoCommit 9 true
    else if bit v 1 then (s.ckoAck (v ||| 1)).setBit rClkCkoCommit 8 true else (s.ckoAck (v ||| 1)).ckoApply) := by
  have hzero : bit (v ||| 1) 0 = true := by simp [bit]
  have hone : bit (v ||| 1) 1 = bit v 1 := by simp [bit]
  have hw : s.ckoCommitW (v ||| 1) = if !(bit (v ||| 1) 0) then s.ckoAck (v ||| 1)
      else if (s.ckoAck (v ||| 1)).rbit rClkCkoCommit 8 || !(s.ckoAck (v ||| 1)).ckoOk
        then (s.ckoAck (v ||| 1)).setBit rClkCkoCommit 9 true
      else if bit (v ||| 1) 1 then (s.ckoAck (v ||| 1)).setBit rClkCkoCommit 8 true else (s.ckoAck (v ||| 1)).ckoApply := rfl
  rw [s.rbit_ckoAck_pending, State.ckoOk_of_reg fun o ho => s.reg_ckoAck _ ho, hzero, hone] at hw
  exact congrArg Host.Outcome.next hw

theorem execCkoCommit_outcomes (s : State) :
    (∀ v : BitVec 32, bit v 1 = false → s.rbit rClkCkoCommit 8 = false → s.ckoOk = true → ∃ t, exec (.ckoCommit v) s = .next t ∧
      t.rbit rClkCkoCommit 8 = false ∧ ∀ n < 4, t.reg (rClkCkoAct n) = s.reg (rClkCkoCfg n)) ∧
    (∀ v : BitVec 32, bit v 1 = true → s.rbit rClkCkoCommit 8 = false → s.ckoOk = true → ∃ t, exec (.ckoCommit v) s = .next t ∧
      t.rbit rClkCkoCommit 8 = true ∧ ∀ o, o ≠ rClkCkoCommit → t.reg o = s.reg o) ∧
    (∀ v : BitVec 32, (s.rbit rClkCkoCommit 8 || !s.ckoOk) = true → ∃ t, exec (.ckoCommit v) s = .next t ∧
      t.rbit rClkCkoCommit 9 = true ∧ ∀ o, o ≠ rClkCkoCommit → t.reg o = s.reg o) := by
  refine ⟨fun v hv hp hok => ⟨_, execCkoCommit_eq s v, ?_⟩, fun v hv hp hok => ⟨_, execCkoCommit_eq s v, ?_⟩,
    fun v hrej => ⟨_, execCkoCommit_eq s v, ?_⟩⟩
  · rw [if_neg (by simp [hp, hok]), if_neg (by simp [hv])]
    refine ⟨State.rbit_setBit_same _ _ _ _ (by omega), fun n hn => ?_⟩
    rw [State.reg_ckoApply_act _ hn, State.reg_ckoAck _ _ (by simp only [rClkCkoCfg, rClkCkoCommit]; omega)]
  · rw [if_neg (by simp [hp, hok]), if_pos hv]
    exact ⟨State.rbit_setBit_same _ _ _ _ (by omega), fun o ho => (State.reg_setBit_other _ _ _ ho).trans (s.reg_ckoAck _ ho)⟩
  · rw [if_pos hrej]
    exact ⟨State.rbit_setBit_same _ _ _ _ (by omega), fun o ho => (State.reg_setBit_other _ _ _ ho).trans (s.reg_ckoAck _ ho)⟩

theorem execCkoPhaseAdd_outcomes (s : State) (n : Fin 4) (a : BitVec 12) :
    (2 ≤ s.rfld (rClkCkoAct n) 0 3 → s.ckoOdd n = false → ∃ t, exec (.ckoPhaseAdd n a) s = .next t ∧
      (t.cko n).pend = clampI (-2047) 2047 (s.ckoPend n + a.toInt) ∧ (t.cko n).phase = (s.cko n).phase + a.toInt ∧
      ∀ k, k ≠ n.val → t.cko k = s.cko k) ∧
    (s.rfld (rClkCkoAct n) 0 3 < 2 ∨ s.ckoOdd n = true → exec (.ckoPhaseAdd n a) s = .next s) := by
  refine ⟨fun hsrc hodd => ⟨_, congrArg Host.Outcome.next (if_neg (by simp [hodd]; omega)), ?_, ?_, fun k hk => ?_⟩,
    fun h => congrArg Host.Outcome.next (if_pos (by simpa using h))⟩
  · simp [State.cko]
  · simp [State.cko]
  · exact SMap.get_set_other _ hk

/-- Settles O41. -/
theorem clockSystem : Obligations.ClockSystem := by
  refine ⟨fun s => ⟨fun x hx => ⟨_, rfl, ?_⟩, execPllSlip_of_closed s, fun x hx => ⟨_, rfl, ?_⟩,
    fun x v hen => (execPllEnable_of_stopped s x v hen).1, fun x v hen => (execPllEnable_of_stopped s x v hen).2,
    fun x v hen hint => (execPllDisable_of_running s x v hen hint).1,
      fun x v hen hint => (execPllDisable_of_running s x v hen hint).2,
    execFerrMeasure_eq s, execRefclkLost_of_present s, rfl, execHoldMeasWindow_of_full s⟩, fun s => ?_⟩
  · rw [if_pos hx, State.pllSt_setPllSt _ _ (by omega)]
  · rw [State.relock, if_pos hx, State.pllSt_acquire]
  · obtain ⟨now, later, rejected⟩ := execCkoCommit_outcomes s
    exact ⟨now, later, rejected, fun n a => (execCkoPhaseAdd_outcomes s n a).1, fun n a => (execCkoPhaseAdd_outcomes s n a).2⟩

end Sys2Proof.Machine

/-! The S/PDIF receiver and transmitters. -/

namespace Sys2Proof.Machine

/-! ### The receiver -/

theorem State.reg_asrcLose (s : State) (n : Nat) {o : Nat} (ho : o ≠ rAsrcStat n) : (s.asrcLose n).reg o = s.reg o := by
  unfold State.asrcLose
  split
  · extract_lets t x
    have ht : t.reg o = s.reg o := by
      dsimp only [t]
      rw [State.reg_bump_other _ _ _ ho, State.reg_setBit_other _ _ _ ho, State.reg_setFld_other _ _ _ _ ho]
    exact ht
  · rfl

/-- Lock that is lost is recorded, and the rate is unknown. -/
theorem State.sprLose_of_locked (s : State) (hst : s.rfld rPortSprStat 0 2 = 2) :
    s.sprLose.rfld rPortSprStat 0 2 = 1 ∧ s.sprLose.rbit rPortSprStat 8 = true ∧ s.sprLose.rfld rPortSprStat 4 4 = 0xF := by
  unfold State.sprLose
  extract_lets x t u
  have hu : u.rfld rPortSprStat 0 2 = 1 ∧ u.rbit rPortSprStat 8 = true ∧ u.rfld rPortSprStat 4 4 = 0xF := by
    dsimp only [u]
    rw [State.rfld_setBit_other _ _ (.inr (.inl (by omega))), State.rfld_setBit_other _ _ (.inr (.inl (by omega))),
      State.rfld_setFld_other _ _ (.inr (.inl (by omega))), State.rfld_setFld_same _ _ _ _ _ (by omega),
      State.rfld_setFld_same _ _ _ _ _ (by omega), State.rbit_setBit_same _ _ _ _ (by omega)]
    exact ⟨rfl, rfl, rfl⟩
  rw [if_pos (show t.rfld rPortSprStat 0 2 = 2 from hst)]
  generalize [0x0C20, 0x0C21] = eps
  have hreg := foldl_keeps eps (fun s ep => (s.asrcAt ep false).foldl State.asrcLose s) (State.reg · rPortSprStat)
    (fun v ep => foldl_keeps _ State.asrcLose (State.reg · rPortSprStat)
      (fun w n => w.reg_asrcLose n (by simp only [rPortSprStat, rAsrcStat]; omega)) v) u
  clear_value u
  rwa [State.rfld, State.rbit, State.rfld, hreg]

theorem State.port_csBlock (s : State) (la lb : List Bool) : (s.csBlock la lb).port.spr.prevA = s.port.spr.prevA ∧
    (s.csBlock la lb).port.spr.prevB = s.port.spr.prevB ∧ (s.csBlock la lb).port.spr.bad = s.port.spr.bad := by
  unfold State.csBlock
  extract_lets w t
  split
  · exact ⟨rfl, rfl, rfl⟩
  · exact ⟨rfl, rfl, rfl⟩

/-- A frame that ends a block of channel status changes no sample. -/
theorem State.port_csBlock_if (u : State) (full : Bool) (la lb : List Bool) {wa wb : Word}
    (h : u.port.spr.prevA = wa ∧ u.port.spr.prevB = wb ∧ u.port.spr.bad = 0) :
    (if full then u.csBlock la lb else u).port.spr.prevA = wa ∧ (if full then u.csBlock la lb else u).port.spr.prevB = wb ∧
      (if full then u.csBlock la lb else u).port.spr.bad = 0 := by
  obtain ⟨ha, hb, hbad⟩ := u.port_csBlock la lb
  split
  · rwa [ha, hb, hbad]
  · exact h

/-- Neither muted nor in error, a sample is what the frame brings. -/
theorem State.sprSample_of_good (s : State) (a : BitVec 24) (h9 : s.rbit rPortSprStat 9 = false)
    (h2 : s.rbit rPortSprCfg 2 = false) (prev : Word) (v : Bool) :
    s.sprSample prev a v false = (a.zeroExtend 32) <<< 8 := by
  simp [State.sprSample, h9, h2]

section
variable (s : State) (hlit : s.audOff = false) (rate : Fin 16) (a b : BitVec 24) (va vb ca cb ea eb z : Bool)

theorem exec_spdifFrame_off (hst : s.rfld rPortSprStat 0 2 = 0) (ok : Bool) :
    exec (.spdifFrame ok rate a b va vb ca cb ea eb z) s = .next s := if_pos (by simp [hst])

include hlit

theorem exec_spdifFrame_bad (hst : s.rfld rPortSprStat 0 2 ≠ 0) : exec (.spdifFrame false rate a b va vb ca cb ea eb z) s =
    .next (if s.rfld rPortSprStat 0 2 = 2 ∧ 2 ≤ s.port.spr.bad then s.sprLose
      else s.setSpr { s.port.spr with bad := s.port.spr.bad + 1, good := 0, gathering := false }) := by
  change execSpdifFrame false rate a b va vb ca cb ea eb z s = _
  unfold execSpdifFrame
  simp only [hst, hlit, decide_false, Bool.or_false, Bool.false_eq_true, if_false, Bool.not_false, if_true, Bool.and_eq_true,
    beq_iff_eq, decide_eq_true_eq]
  split <;> rfl

theorem exec_spdifFrame_rate (hst : s.rfld rPortSprStat 0 2 = 2) (hrate : s.rfld rPortSprStat 4 4 ≠ rate) :
    exec (.spdifFrame true rate a b va vb ca cb ea eb z) s = .next s.sprLose := by
  change execSpdifFrame true rate a b va vb ca cb ea eb z s = _
  unfold execSpdifFrame
  simp [hst, hlit, hrate.symm]

theorem exec_spdifFrame_searching (hst : s.rfld rPortSprStat 0 2 = 1) (hrate : rate.val ∈ [6, 7, 8, 0xA, 0xB, 0xC, 0xD])
    (hrun : s.port.spr.rateRun = rate) : exec (.spdifFrame true rate a b va vb ca cb ea eb z) s =
    .next (if 8 ≤ s.port.spr.good + 1
      then ((s.setSpr { s.port.spr with bad := 0, good := s.port.spr.good + 1, rateRun := rate }).setFld rPortSprStat 0 2 2).setFld
        rPortSprStat 4 4 rate
      else s.setSpr { s.port.spr with bad := 0, good := s.port.spr.good + 1, rateRun := rate }) := by
  change execSpdifFrame true rate a b va vb ca cb ea eb z s = _
  unfold execSpdifFrame
  have hcode := List.contains_iff_mem.mpr hrate
  simp only [hst, hlit, hrun, hcode, Bool.not_true, Bool.false_eq_true, if_false, if_true, Bool.or_false]
  rfl

theorem exec_spdifFrame_locked (hst : s.rfld rPortSprStat 0 2 = 2) (hrate : s.rfld rPortSprStat 4 4 = rate)
    (h9 : s.rbit rPortSprStat 9 = false) (h2 : s.rbit rPortSprCfg 2 = false) :
    ∃ t, exec (.spdifFrame true rate a b va vb ca cb false false z) s = .next t ∧
      t.port.spr.prevA = (a.zeroExtend 32) <<< 8 ∧ t.port.spr.prevB = (b.zeroExtend 32) <<< 8 ∧ t.port.spr.bad = 0 := by
  have hsample : ∀ (x : BitVec 24) prev v, s.sprSample prev x v false = (x.zeroExtend 32) <<< 8 := fun x prev v =>
    s.sprSample_of_good x h9 h2 prev v
  change ∃ t, execSpdifFrame true rate a b va vb ca cb false false z s = .next t ∧ _
  unfold execSpdifFrame
  simp only [hst, hlit, hrate, hsample, beq_self_eq_true, bne_self_eq_false, Bool.not_true, Bool.false_eq_true, if_false,
    Bool.or_false, Bool.and_false, show ¬ ((2 : Nat) = 0) by omega, decide_false]
  refine ⟨_, rfl, ?_⟩
  have hport : ∀ (u : State) ep w ep' w', ((u.asrcIn ep w).asrcIn ep' w').port = u.port := fun u ep w ep' w' =>
    (State.asrcIn_kept (M := { route := true }) rfl (State.asrcIn_kept rfl (Kept.refl u))).port rfl
  rw [hport]
  exact State.port_csBlock_if _ _ _ _ ⟨rfl, rfl, rfl⟩

end

/-! ### The transmitters -/

@[simp] theorem State.spt_setSpt (s : State) (t : Nat) (x : SpdifTx) (i : Nat) :
    (s.setSpt t x).spt i = if i = t then x else s.spt i := SMap.get_set ..

@[simp] theorem State.spt_setBit (s : State) (o k : Nat) (v : Bool) (i : Nat) : (s.setBit o k v).spt i = s.spt i := rfl

/-- The words of a table that is filled from the keys 0 to n-1. -/
theorem get_foldl_set_range {d : Nat → Word} (g : Nat → Word) (n k : Nat) (hk : k < n) :
    SMap.get d ((List.range n).foldl (fun m k => SMap.set d m k (g k)) []) k = g k := by
  induction n with
  | zero => omega
  | succ n ih =>
    rw [List.range_succ, List.foldl_append, List.foldl_cons, List.foldl_nil, SMap.get_set]
    split
    next h => rw [h]
    next h => exact ih (by omega)

theorem exec_cs5Write (s : State) (k : Fin 2) (v : BitVec 32) (hlit : s.dark (rPortSptCs k 5) = none) :
    ∃ t, exec (.cs5Write k v) s = .next t ∧ t.reg (rPortSptCs k 5) = v ∧ t.rbit (rPortSptStat k) 0 = true ∧
      (∀ i, i < 6 → SMap.get (fun _ => 0) (t.spt k).waiting i = t.reg (rPortSptCs k i)) := by
  have hex : exec (.cs5Write k v) s = .next (s.sptCsW k 5 v) := congrArg Host.Outcome.next (State.bar_of_lit hlit _)
  have hne : ∀ i, i < 6 → rPortSptCs k i ≠ rPortSptStat k := fun i hi => by simp only [rPortSptCs, rPortSptStat]; omega
  refine ⟨_, hex, ?_⟩
  unfold State.sptCsW
  extract_lets t w
  rw [if_pos rfl]
  refine ⟨?_, State.rbit_setBit_same _ _ _ _ (by omega), fun i hi => ?_⟩
  · rw [State.reg_setBit_other _ _ _ (hne 5 (by omega))]
    exact State.reg_setReg_same ..
  · rw [State.reg_setBit_other _ _ _ (hne i hi), State.spt_setBit, State.spt_setSpt, if_pos rfl]
    exact get_foldl_set_range (fun i => t.reg (rPortSptCs k i)) 6 i hi

/-- A frame that starts takes the next place in the block of 192. -/
theorem State.spt_sptTx (s : State) (t : Nat) (hen : s.rbit (rPortSptCfg t) 0 = true) (hlit : s.audOff = false) :
    ((s.sptTx t).spt t).pos = ((s.spt t).pos + 1) % 192 ∧ (((s.sptTx t).spt t).sentZ = true ↔ (s.spt t).pos = 0) := by
  unfold State.sptTx
  extract_lets x z pend u act x'
  have hx : x'.pos = ((s.spt t).pos + 1) % 192 ∧ (x'.sentZ = true ↔ (s.spt t).pos = 0) := ⟨rfl, by simp [x', z, x]⟩
  clear_value x'
  rw [if_neg (by simp [hen, hlit])]
  split
  · rw [State.spt_setSpt, if_pos rfl]
    exact hx
  · dsimp only
    rw [State.spt_setSpt, if_pos rfl]
    exact hx

/-- Settles O39. -/
theorem spdifPorts : Obligations.SpdifPorts := by
  intro s hlit x st
  have hlose : st = 2 → _ := s.sprLose_of_locked
  refine ⟨?frame, ?_, ?_, ?_, ?_, ?_⟩
  case frame =>
    intro rate a b va vb ca cb ea eb z run
    refine ⟨?_, ?_, ?_, ?_, ?_, ?_, ?_⟩
    · exact fun hst => exec_spdifFrame_off s rate a b va vb ca cb ea eb z hst
    · intro hst
      refine ⟨_, exec_spdifFrame_bad s hlit rate a b va vb ca cb ea eb z (by omega), ?_⟩
      rw [if_neg (by omega)]
      exact ⟨rfl, rfl, rfl⟩
    · intro hst hrate hrun
      have hex := exec_spdifFrame_searching s hlit rate a b va vb ca cb ea eb z hst hrate hrun
      refine ⟨fun hgood => ⟨_, hex, ?_⟩, fun hgood => ⟨_, hex, ?_⟩⟩
      · rw [if_neg (Nat.not_le_of_lt (Nat.succ_lt_succ hgood))]
        exact ⟨rfl, hst⟩
      · rw [if_pos (Nat.succ_le_succ hgood), State.rfld_setFld_other _ _ (.inr (.inl (by omega))),
          State.rfld_setFld_same _ _ _ _ _ (by omega),
          State.rfld_setFld_same _ _ _ _ _ (by omega)]
        exact ⟨rfl, Nat.mod_eq_of_lt rate.isLt⟩
    · intro hst hbad
      refine ⟨_, exec_spdifFrame_bad s hlit rate a b va vb ca cb ea eb z (by omega), ?_⟩
      rw [if_pos ⟨hst, hbad⟩]
      exact ⟨(hlose hst).1, (hlose hst).2.1⟩
    · intro hst hbad
      refine ⟨_, exec_spdifFrame_bad s hlit rate a b va vb ca cb ea eb z (by omega), ?_⟩
      rw [if_neg fun h => Nat.not_le_of_lt hbad h.2]
      exact ⟨hst, rfl⟩
    · intro hst hrate
      exact ⟨_, exec_spdifFrame_rate s hlit rate a b va vb ca cb ea eb z hst hrate, (hlose hst).1⟩
    · intro hst hrate h9 h2 hea heb
      subst hea heb
      exact exec_spdifFrame_locked s hlit rate a b va vb ca cb z hst hrate h9 h2
  · intro hst
    refine ⟨_, congrArg Host.Outcome.next (if_pos (by simp [hlit]; exact hst)), (hlose hst).1, (hlose hst).2.2⟩
  · exact fun hst => congrArg Host.Outcome.next (if_neg fun h => hst (by simpa [hlit] using h))
  · intro hdark
    refine ⟨{ s.csRead with rdata := SMap.get (fun _ => 0) s.port.spr.held 0 }, congrArg Host.Outcome.next ?_, rfl, rfl, rfl⟩
    rw [hdark]
  · exact exec_cs5Write s
  · intro p hp hen
    refine ⟨_, congrArg Host.Outcome.next (if_neg (by omega)), s.spt_sptTx _ hen hlit⟩

end Sys2Proof.Machine

/-! The TDM ports and the PDM microphones. -/

namespace Sys2Proof.Machine

/-! ### Records of a port -/

@[simp] theorem State.tdm_setTdm (s : State) (n : Nat) (x : Tdm) (i : Nat) :
    (s.setTdm n x).tdm i = if i = n then x else s.tdm i := SMap.get_set ..

@[simp] theorem State.mic_setMic (s : State) (m : Nat) (x : Mic) (i : Nat) :
    (s.setMic m x).mic i = if i = m then x else s.mic i := SMap.get_set ..

@[simp] theorem State.reg_setTdm (s : State) (n : Nat) (x : Tdm) (o : Nat) : (s.setTdm n x).reg o = s.reg o := rfl

@[simp] theorem State.rbit_setTdm (s : State) (n : Nat) (x : Tdm) (o b : Nat) : (s.setTdm n x).rbit o b = s.rbit o b := rfl

@[simp] theorem State.tdmSt_setTdm (s : State) (n : Nat) (x : Tdm) (i : Nat) : (s.setTdm n x).tdmSt i = s.tdmSt i := rfl

@[simp] theorem State.reg_setMic (s : State) (m : Nat) (x : Mic) (o : Nat) : (s.setMic m x).reg o = s.reg o := rfl

theorem State.tdmSt_setTdmSt (s : State) (n : Nat) {v : Nat} (hv : v < 4) : (s.setTdmSt n v).tdmSt n = v :=
  (State.rfld_setFld_same s (rPortTdmStat n) 0 2 v (by omega)).trans (Nat.mod_eq_of_lt hv)

/-! ### Configuration of a TDM port -/

section
variable (s : State) (n : Fin 6) (v : BitVec 32) (hlit : s.dark (rPortTdmCfg0 n) = none) (hsrc : s.tdmIsSource n = false)
include hlit hsrc

/-- A write to CFG0 of a port that no domain runs from. -/
theorem exec_tdmCfg0Write : exec (.tdmCfg0Write n v) s = .next (
    if s.rbit (rPortTdmCfg0 n) 0 then
      if v &&& 0x07FFFF7F = putBit (s.reg (rPortTdmCfg0 n)) 0 false then
        ((s.setReg (rPortTdmCfg0 n) (v &&& 0x07FFFF7F)).setTdmSt n 0).setTdm n {}
      else s.tdmRej n
    else if !(bit (v &&& 0x07FFFF7F) 0) then s.setReg (rPortTdmCfg0 n) (v &&& 0x07FFFF7F)
    else if s.tdmValid (v &&& 0x07FFFF7F) then ((s.setReg (rPortTdmCfg0 n) (v &&& 0x07FFFF7F)).setTdmSt n 1).setTdm n {}
    else s.tdmRej n) := by
  refine congrArg Host.Outcome.next ((State.bar_of_lit hlit _).trans ?_)
  unfold State.tdmCfgW
  simp only [hsrc, Bool.false_and, Bool.false_eq_true, if_false]
  rfl

theorem exec_tdmCfg0Write_outcomes :
    (s.rbit (rPortTdmCfg0 n) 0 = false →
      (bit (v &&& 0x07FFFF7F) 0 = false → exec (.tdmCfg0Write n v) s = .next (s.setReg (rPortTdmCfg0 n) (v &&& 0x07FFFF7F))) ∧
      (bit (v &&& 0x07FFFF7F) 0 = true → s.tdmValid (v &&& 0x07FFFF7F) = true → ∃ t, exec (.tdmCfg0Write n v) s = .next t ∧
        t.reg (rPortTdmCfg0 n) = v &&& 0x07FFFF7F ∧ t.tdmSt n = 1) ∧
      (bit (v &&& 0x07FFFF7F) 0 = true → s.tdmValid (v &&& 0x07FFFF7F) = false →
        exec (.tdmCfg0Write n v) s = .next (s.setBit (rPortTdmStat n) 10 true))) ∧
    (s.rbit (rPortTdmCfg0 n) 0 = true →
      (v &&& 0x07FFFF7F = putBit (s.reg (rPortTdmCfg0 n)) 0 false → ∃ t, exec (.tdmCfg0Write n v) s = .next t ∧
        t.reg (rPortTdmCfg0 n) = v &&& 0x07FFFF7F ∧ t.tdmSt n = 0) ∧
      (v &&& 0x07FFFF7F ≠ putBit (s.reg (rPortTdmCfg0 n)) 0 false →
        exec (.tdmCfg0Write n v) s = .next (s.setBit (rPortTdmStat n) 10 true))) := by
  have hex := exec_tdmCfg0Write s n v hlit hsrc
  generalize v &&& 0x07FFFF7F = w at hex ⊢
  have hset : ∀ st, st < 4 → (((s.setReg (rPortTdmCfg0 n) w).setTdmSt n st).setTdm n {}).reg (rPortTdmCfg0 n) = w ∧
      (((s.setReg (rPortTdmCfg0 n) w).setTdmSt n st).setTdm n {}).tdmSt n = st := by
    intro st hst
    rw [State.tdmSt_setTdm, State.reg_setTdm, State.tdmSt_setTdmSt _ _ hst, State.setTdmSt,
      State.reg_setFld_other _ _ _ _ (by simp only [rPortTdmCfg0, rPortTdmStat]; omega), State.reg_setReg_same]
    exact ⟨rfl, rfl⟩
  refine ⟨fun hen => ?_, fun hen => ?_⟩
  · rw [if_neg (by simp [hen])] at hex
    refine ⟨fun h0 => ?_, fun h1 hok => ⟨_, hex, ?_⟩, fun h1 hok => ?_⟩
    · rw [hex, if_pos (by simp [h0])]
    · rw [if_neg (by simp [h1]), if_pos hok]
      exact hset 1 (by omega)
    · rw [hex, if_neg (by simp [h1]), if_neg (by simp [hok])]
      rfl
  · rw [if_pos hen] at hex
    refine ⟨fun hw => ⟨_, hex, ?_⟩, fun hw => ?_⟩
    · rw [if_pos hw]
      exact hset 0 (by omega)
    · rw [hex, if_neg hw]
      rfl

end

/-! ### Frames and errors of a TDM port -/

theorem State.tdmRx_outcomes (s : State) (n : Nat) (ws : List Word) (haud : s.audOff = false) :
    (s.tdmSt n = 1 → (s.tdm n).run = 0 → ((s.tdmRx n ws).tdm n).run = 1 ∧ (s.tdmRx n ws).tdmSt n = 1) ∧
    (s.tdmSt n = 1 → (s.tdm n).run ≠ 0 → (s.tdmRx n ws).tdmSt n = 2 ∧ ((s.tdmRx n ws).tdm n).rx = [s.tdmWords n ws]) ∧
    (s.tdmSt n = 2 → s.tdmDom n ≠ 3 → (s.tdm n).rx.length < 4 →
      ((s.tdmRx n ws).tdm n).rx = (s.tdm n).rx ++ [s.tdmWords n ws]) := by
  unfold State.tdmRx
  refine ⟨fun hst hrun => ?_, fun hst hrun => ?_, fun hst hdom hlen => ?_⟩
  · simp only [hst, haud, hrun, Bool.or_false, if_true]
    exact ⟨by simp, hst⟩
  · simp only [hst, haud, hrun, Bool.or_false, if_true, if_false]
    exact ⟨State.tdmSt_setTdmSt s n (by omega), by simp⟩
  · simp [hst, haud, hdom, hlen]

theorem State.rbit_tdmStarve (s : State) (n : Nat) {b : Nat} (hb : 2 ≤ b) :
    (s.tdmStarve n).rbit (rPortTdmStat n) b = s.rbit (rPortTdmStat n) b := by
  unfold State.tdmStarve
  extract_lets x f
  split
  · rfl
  · have hcnt : rPortTdmStat n ≠ rPortTdmCnt n := by simp only [rPortTdmStat, rPortTdmCnt]; omega
    rw [State.rbit_setTdm, State.bump, State.rbit_setFld_other _ _ (.inl hcnt), State.setTdmSt,
      State.rbit_setFld_other _ _ (.inr (.inr (by omega)))]

theorem State.tdmSt_tdmStarve (s : State) (n : Nat) : (s.tdmStarve n).tdmSt n = 3 := by
  unfold State.tdmStarve
  extract_lets x f
  split
  next h => exact h
  next =>
    have hcnt : rPortTdmStat n ≠ rPortTdmCnt n := by simp only [rPortTdmStat, rPortTdmCnt]; omega
    rw [State.tdmSt_setTdm, State.tdmSt, State.bump, State.rfld_setFld_other _ _ (.inl hcnt)]
    exact State.tdmSt_setTdmSt s n (by omega)

theorem execTdm_errors (s : State) (n : Fin 6) :
    (s.tdmSlave n = true → s.tdmSt n ≠ 3 →
      (∃ t, exec (.framingError n) s = .next t ∧ t.tdmSt n = 3 ∧ t.rbit (rPortTdmStat n) 9 = true) ∧
      (∃ t, exec (.missingBitClock n) s = .next t ∧ t.tdmSt n = 3 ∧ t.rbit (rPortTdmStat n) 8 = true)) ∧
    (s.tdmSlave n = false → exec (.framingError n) s = .next s ∧ exec (.missingBitClock n) s = .next s) := by
  refine ⟨fun h _ => ⟨⟨_, congrArg Host.Outcome.next (if_pos h), State.tdmSt_tdmStarve _ _, ?_⟩,
    ⟨_, congrArg Host.Outcome.next (if_pos h), State.tdmSt_tdmStarve _ _, ?_⟩⟩,
    fun h => ⟨congrArg Host.Outcome.next (if_neg (by simp [h])), congrArg Host.Outcome.next (if_neg (by simp [h]))⟩⟩
  · rw [State.rbit_tdmStarve _ _ (by omega), State.bump,
      State.rbit_setFld_other _ _ (.inl (by simp only [rPortTdmStat, rPortTdmCnt]; omega)),
        State.rbit_setBit_same _ _ _ _ (by omega)]
  · rw [State.rbit_tdmStarve _ _ (by omega), State.rbit_setBit_same _ _ _ _ (by omega)]

/-- The one set that is ready is what a frame carries. -/
theorem State.tdmTx_of_ready (s : State) (n : Nat) (haud : s.audOff = false) (hst : s.tdmSt n = 2)
    (htest : s.mode.selfTest = false)
    (hdom : s.tdmDom n ≠ 3) {ab : Nat × Nat} (hrate : s.tdmRate (s.reg (rPortTdmCfg0 n)) = some ab) {at' : Nat} {ws : List Word}
    {later : List (Nat × List Word)} (hready : setsReady s.now ab.1 ab.2 (s.tdm n).txSets = ([(at', ws)], later)) :
    s.tdmTx n = s.setTdm n { s.tdm n with
      txSets := later, txPrev := ws, sent := (List.range (s.tdmSlots n)).map fun k => s.tdmSlot n k (some (ws.getD k 0)) } := by
  unfold State.tdmTx
  simp [haud, hst, htest, hdom, hrate, hready]

/-! ### Microphones -/

section
variable (s : State) (m : Fin 16)

theorem exec_pdmMicWrite_enable (v : BitVec 32) (hlit : s.dark (rPortPdmMic m) = none) (hen : s.rbit (rPortPdmMic m) 0 = false)
    (h0 : bit (v &&& 0x0000FF1F) 0 = true) (hdom : fld (v &&& 0x0000FF1F) 1 2 = 0) : exec (.pdmMicWrite m v) s = .next (
      if s.pdmRatioOk 0 && s.micClock m then
        (s.setReg (rPortPdmMic m) (v &&& 0x0000FF1F)).setMic m { settling := true, since := s.now, clocked := true }
      else s.setBit rPortPdmStat 16 true) := by
  refine congrArg Host.Outcome.next ((State.bar_of_lit hlit _).trans ?_)
  have hold : bit (s.reg (rPortPdmMic m)) 0 = false := hen
  unfold State.micW
  generalize v &&& 0x0000FF1F = w at h0 hdom ⊢
  simp [hold, h0, hdom]

theorem exec_settleEnd_of_settling (hon : s.micOn m = true) (hset : (s.mic m).settling = true) :
    ((s.mic m).since + s.rfld (rPortPdmMic m) 8 8 * 1228800 ≤ s.now → ∃ t, exec (.settleEnd m) s = .next t ∧
      (t.mic m).settling = false) ∧
    (s.now < (s.mic m).since + s.rfld (rPortPdmMic m) 8 8 * 1228800 → exec (.settleEnd m) s = .next s) :=
  ⟨fun h => ⟨_, congrArg Host.Outcome.next (if_pos (by simp [hon, hset, h])), by simp⟩,
    fun h => congrArg Host.Outcome.next (if_neg (by simp [h]))⟩

/-- A sample joins the queue of a microphone that has room. -/
theorem State.micRx_of_room (m : Nat) (ws : List Word) (haud : s.audOff = false) (hon : s.micOn m = true)
    (hclk : (s.mic m).clocked = true) (hroom : (s.mic m).rx.length < 4) :
    ∃ y, ((s.micRx m ws).mic m).bits = ws.reverse ++ (s.mic m).bits ∧ ((s.micRx m ws).mic m).rx = (s.mic m).rx ++ [y] := by
  unfold State.micRx
  have hfull : ¬ 4 ≤ (s.mic m).rx.length := by omega
  simp only [haud, hon, hclk, hfull, decide_false, Bool.not_true, Bool.or_false, Bool.false_eq_true, if_false,
    State.mic_setMic, if_true]
  exact ⟨_, trivial, rfl⟩

end

/-! ### Raw blocks -/

/-- A frame joins the FIFO of a capture stream that has room and power. -/
theorem State.streamPutAt_of_room {s : State} {r : Nat} {x : Stream} (hx : s.stream r = some x) (hcap : x.capture = true)
    (hclo : x.closing = false) (hst : x.st ≠ 4) (hroom : x.wr - x.rd < x.fifoFrames) (hon : s.fifoOn x = true) (ws : List Word)
    (k : Nat) : (s.streamPutAt r ws k).stream r = some { x with wr := x.wr + 1, stamps := x.stamps ++ [k] } := by
  unfold State.streamPutAt
  simp only [hx, hcap, hclo, hst, hon, Nat.not_le_of_lt hroom, decide_false, Bool.not_true, Bool.or_false, Bool.false_eq_true,
    if_false, State.stream_setStream, if_true]

/-- Settles O38. -/
theorem tdmAndMicrophones : Obligations.TdmAndMicrophones := by
  intro s haud
  refine ⟨fun n v hlit hsrc => exec_tdmCfg0Write_outcomes s n v hlit hsrc, ?_, execTdm_errors s, ?_, ?_, ?_, ?_, ?_⟩
  · intro n src ws hsrc
    have hex : exec (.rxFrameComplete src ws) s = .next (s.tdmRx n ws) :=
      congrArg Host.Outcome.next ((if_pos (by omega)).trans (by rw [hsrc]))
    obtain ⟨first, second, later⟩ := s.tdmRx_outcomes n ws haud
    exact ⟨fun hst hrun => ⟨_, hex, first hst hrun⟩, fun hst hrun => ⟨_, hex, second hst hrun⟩,
      fun hst hdom hlen => ⟨_, hex, later hst hdom hlen⟩⟩
  · intro n p ab at' ws later hp hst htest hdom hrate hready
    have hex : exec (.txFrameStart p) s = .next (s.tdmTx n) := congrArg Host.Outcome.next ((if_pos (by omega)).trans (by rw [hp]))
    refine ⟨_, hex, ?_⟩
    rw [s.tdmTx_of_ready n haud hst htest hdom hrate hready, State.tdm_setTdm, if_pos rfl]
    exact ⟨rfl, rfl, rfl⟩
  · intro m v hlit hen w h0 hdom
    have hex := exec_pdmMicWrite_enable s m v hlit hen h0 hdom
    refine ⟨fun hratio hclk => ⟨_, hex, ?_⟩, fun hbad => ?_⟩
    · rw [if_pos (by simp [hratio, hclk])]
      exact ⟨State.reg_setReg_same .., by simp, by simp⟩
    · rw [hex, if_neg (by rcases hbad with h | h <;> simp [h])]
  · exact fun m hon hset => exec_settleEnd_of_settling s m hon hset
  · intro m src ws hsrc hon hclk hroom
    have hex : exec (.rxFrameComplete src ws) s = .next (s.micRx m ws) :=
      congrArg Host.Outcome.next (((if_neg (by omega)).trans (if_pos (by omega))).trans
        (by rw [show src.val - 6 = m.val by omega]))
    obtain ⟨y, hbits, hrx⟩ := s.micRx_of_room m ws haud hon hclk hroom
    exact ⟨_, y, hex, hbits, hrx⟩
  · intro r x ws hcnv hck hstreams hfmt hcap hclo hst hroom hon
    have hx : s.stream r = some x := by simp [State.stream, hstreams, SMap.get]
    have hblock : ∃ k, s.pdmBlock ws = s.streamPutAt r (x.micList.map fun m => ws.getD m 0) k := by
      unfold State.pdmBlock
      simp only [hcnv, haud, hck, decide_false, Bool.or_false, Bool.false_eq_true, if_false, hstreams, List.foldl_cons,
        List.foldl_nil,
        hfmt, if_true]
      exact ⟨_, rfl⟩
    obtain ⟨k, hk⟩ := hblock
    have hex : exec (.rxFrameComplete 22 ws) s = .next (s.pdmBlock ws) := rfl
    rw [hk] at hex
    exact ⟨_, _, hex, State.streamPutAt_of_room hx hcap hclo hst hroom hon _ k, rfl, List.length_append⟩

end Sys2Proof.Machine

/-! Bytes of a number, the device resets, and the instructions of the TAP. -/

namespace Sys2Proof

/-! ### Little-endian bytes -/

theorem testBit_ofLeBytes (l : List Byte) (i : Nat) {j : Nat} (hj : j < 8) :
    (ofLeBytes l).testBit (8 * i + j) = (l.getD i 0).getLsbD j := by
  induction l generalizing i with
  | nil => simp [ofLeBytes]
  | cons b l ih =>
    have hb : b.toNat < 2 ^ 8 := b.isLt
    rw [ofLeBytes, Nat.add_comm, show 256 = 2 ^ 8 from rfl, Nat.testBit_two_pow_mul_add _ hb]
    cases i with
    | zero => simp [hj, BitVec.getLsbD]
    | succ i => rw [if_neg (by omega), show 8 * (i + 1) + j - 8 = 8 * i + j by omega, ih, List.getD_cons_succ]

/-- A byte of a number that bytes spell. -/
theorem extract_ofNat_ofLeBytes {n : Nat} (l : List Byte) {i : Nat} (hi : 8 * i + 8 ≤ n) :
    (BitVec.ofNat n (ofLeBytes l)).extractLsb' (8 * i) 8 = l.getD i 0 := by
  apply BitVec.eq_of_getLsbD_eq
  intro j hj
  rw [BitVec.getLsbD_extractLsb', BitVec.getLsbD_ofNat, testBit_ofLeBytes l i hj]
  simp [hj, show 8 * i + j < n by omega]

theorem leBytes_length (n v : Nat) : (leBytes n v).length = n := by
  induction n generalizing v with
  | zero => rfl
  | succ n ih => rw [leBytes, List.length_cons, ih]

/-- A byte of the bytes of a word. -/
theorem getD_leBytes (v : Word) {i : Nat} (hi : i < 4) : (leBytes 4 v.toNat).getD i 0 = v.extractLsb' (8 * i) 8 := by
  have hbyte : ∀ n x k, k < n → (leBytes n x).getD k 0 = BitVec.ofNat 8 (x / 256 ^ k) := by
    intro n
    induction n with
    | zero => intro x k hk; omega
    | succ n ih =>
      intro x k hk
      cases k with
      | zero => simp [leBytes]
      | succ k => rw [leBytes, List.getD_cons_succ, ih _ _ (by omega), Nat.div_div_eq_div_mul, Nat.pow_succ, Nat.mul_comm]
  rw [hbyte 4 _ _ hi]
  apply BitVec.eq_of_toNat_eq
  rw [BitVec.toNat_ofNat, BitVec.extractLsb'_toNat, Nat.shiftRight_eq_div_pow, Nat.pow_mul]

namespace Machine

theorem State.tcm_tcmLoad (s : State) (o j : Nat) (d : List Byte) : SMap.get (fun _ => 0) (s.tcmLoad o d).boot.tcm j =
    if o ≤ j ∧ j < o + d.length then d.getD (j - o) 0 else SMap.get (fun _ => 0) s.boot.tcm j :=
  get_foldl_set_zipIdx o j d 0 s.boot.tcm

/-! ### Resets of the device -/

@[simp] theorem State.saveRepairs_fields (s : State) : s.saveRepairs.boot = s.boot ∧ s.saveRepairs.pwr = s.pwr ∧
    s.saveRepairs.tap = s.tap ∧ s.saveRepairs.eng = s.eng ∧ s.saveRepairs.regs = s.regs ∧ s.saveRepairs.now = s.now :=
  ⟨rfl, rfl, rfl, rfl, rfl, rfl⟩

/-- Registers that are copied one after the other change the registers only. -/
theorem State.foldl_setReg (l : List Nat) (g : Nat → Word) (t : State) :
    ∃ m, l.foldl (fun u r => u.setReg r (g r)) t = { t with regs := m } := by
  induction l generalizing t with
  | nil => exact ⟨t.regs, rfl⟩
  | cons r l ih =>
    obtain ⟨m, hm⟩ := ih (t.setReg r (g r))
    exact ⟨m, hm⟩

/-- What a reset of every island but AON leaves, and what it makes of boot and engines. -/
theorem State.devReset_fields (s : State) (full : Bool) :
    (s.devReset full).boot.phase = 0 ∧ (s.devReset full).boot.tcm = [] ∧ (s.devReset full).boot.fuses = s.boot.fuses ∧
    (s.devReset full).boot.flash = s.boot.flash ∧ (s.devReset full).boot.att = s.boot.att ∧ (s.devReset full).tap = s.tap ∧
    (s.devReset full).pwr.seq = s.pwr.seq ∧ (s.devReset full).now = s.now ∧ (s.devReset full).cal.bytes = [] ∧
    (s.devReset full).mode = State.reset.mode ∧ (s.devReset full).pwr.en = s.pwr.en ∧
    (s.devReset full).pwr.perstHeld = s.pwr.perstHeld ∧ (s.devReset full).eng = (List.range 32).map (fun e =>
      (e, { lmEpoch := (s.engine e).lmEpoch + 1, progEpoch := (s.engine e).progEpoch + 1 })) := by
  unfold State.devReset
  extract_lets u z fab cal pwr boot t keep t'
  have hu : u.boot = s.boot ∧ u.pwr = s.pwr ∧ u.tap = s.tap ∧ u.eng = s.eng ∧ u.now = s.now := by
    dsimp only [u]
    split
    · exact ⟨rfl, rfl, rfl, rfl, rfl⟩
    · exact ⟨rfl, rfl, rfl, rfl, rfl⟩
  have hregs : ∃ m, (if full then t' else
      [rTopRlfCnt, rTopRlfTimeLo, rTopRlfTimeHi, rSecAuditCnt, rNgxSession].foldl keep t') = { t with regs := m } := by
    obtain ⟨m, hm⟩ := State.foldl_setReg [rPwrDormCtrl, rPwrWakeTmr, rPwrWakeSrc] u.reg t
    have ht' : t' = { t with regs := m } := hm
    rw [ht']
    split
    · exact ⟨m, rfl⟩
    · exact State.foldl_setReg _ u.reg _
  obtain ⟨m, hm⟩ := hregs
  obtain ⟨hboot, hpwr, htap, heng, hnow⟩ := hu
  have hengine : ∀ e, u.engine e = s.engine e := fun e => by rw [State.engine, heng, State.engine]
  rw [hm]
  simp only [t, hboot, hpwr, htap, hnow, hengine]
  exact ⟨rfl, rfl, trivial, trivial, trivial, trivial, trivial, trivial, rfl, rfl, trivial, trivial, trivial⟩

/-- A register after others are copied one after the other. -/
theorem State.reg_foldl_setReg (l : List Nat) (g : Nat → Word) (t : State) (o : Nat) :
    (l.foldl (fun u r => u.setReg r (g r)) t).reg o = if o ∈ l then g o else t.reg o := by
  induction l generalizing t with
  | nil => rfl
  | cons r l ih =>
    rw [List.foldl_cons, ih, State.reg_setReg]
    by_cases hl : o ∈ l
    · simp [hl]
    · by_cases hr : o = r
      · subst hr
        simp
      · simp [hl, hr]

/-- A full reset keeps three registers of the AON island, and every other one takes its reset value. -/
theorem State.reg_devReset_full (s : State) (o : Nat) :
    (s.devReset true).reg o = if o ∈ [rPwrDormCtrl, rPwrWakeTmr, rPwrWakeSrc] then s.reg o else regReset o := by
  unfold State.devReset
  extract_lets u z fab cal pwr boot t keep t'
  have hu : u.reg o = s.reg o := by
    dsimp only [u]
    split <;> rfl
  rw [if_pos rfl, ← hu]
  exact State.reg_foldl_setReg _ u.reg t o

/-- Start-up begins: it changes registers and the boot state only, and of that neither flash, fuses nor TCM. -/
theorem State.startUp_fields (s : State) (straps : BitVec 6) (reason : Nat) :
    (s.startUp straps reason).boot = { s.boot with
      att := min 3 (s.boot.att + 1), phase := 1, reason := reason, wd := some s.now, bootDone := s.boot.att == 3 } ∧
    (s.startUp straps reason).tap = s.tap ∧ (s.startUp straps reason).pwr = s.pwr ∧ (s.startUp straps reason).cal = s.cal ∧
    (s.startUp straps reason).eng = s.eng ∧ (s.startUp straps reason).mode = s.mode := by
  unfold State.startUp
  extract_lets att held b u v w
  split
  · simp [w, v, u, att, held]
  · simp [w, v, u, att, held]

theorem State.bootReset_fields (s : State) (straps : BitVec 6) (reason : Nat) :
    (s.bootReset straps reason).boot.phase = 1 ∧ (s.bootReset straps reason).boot.reason = reason ∧
    (s.bootReset straps reason).boot.fuses = s.boot.fuses ∧ (s.bootReset straps reason).boot.flash = s.boot.flash ∧
    (s.bootReset straps reason).tap = s.tap := by
  obtain ⟨hboot, htap, -⟩ := (s.devReset false).startUp_fields straps reason
  obtain ⟨-, -, hfuses, hflash, -, htap', -⟩ := s.devReset_fields false
  unfold State.bootReset
  rw [hboot, htap, htap']
  exact ⟨rfl, rfl, hfuses, hflash, rfl⟩

theorem State.reg_startUp (s : State) (straps : BitVec 6) (reason : Nat) :
    (s.startUp straps reason).reg rBootStraps = BitVec.ofNat 32 straps.toNat ∧
    (s.startUp straps reason).reg rTopModeReason = BitVec.ofNat 32 reason := by
  unfold State.startUp
  extract_lets att held b u v w
  have hw : w.reg rBootStraps = BitVec.ofNat 32 straps.toNat ∧ w.reg rTopModeReason = BitVec.ofNat 32 reason := by
    simp [w, v, State.reg_setBit, State.reg_setReg, rBootStraps, rBootStat, rTopModeReason, rSpisStat]
  clear_value w
  split
  · simpa [State.reg_setBit, rBootStraps, rTopModeReason, rNgxStat] using hw
  · simpa [State.reg_setBit, State.reg_setFld, rBootStraps, rTopModeReason, rNgxStat, rNgxCtrl] using hw

/-- A new session number changes the counter of starts, beside registers and the free counter. -/
theorem State.newSession_fields (s : State) (old : Nat) :
    (s.newSession old).boot = { s.boot with starts := s.boot.starts + 1 } ∧ (s.newSession old).tap = s.tap ∧
    (s.newSession old).cal = s.cal ∧ (s.newSession old).pwr = s.pwr ∧ (s.newSession old).now = s.now ∧
    (s.newSession old).mode = s.mode := ⟨rfl, rfl, rfl, rfl, rfl, rfl⟩

theorem State.fullStart_fields (s : State) (straps : BitVec 6) (reason : Nat) (pme : Bool) :
    (s.fullStart straps reason pme).boot.phase = 1 ∧ (s.fullStart straps reason pme).boot.reason = reason ∧
    (s.fullStart straps reason pme).boot.fuses = s.boot.fuses ∧ (s.fullStart straps reason pme).boot.flash = s.boot.flash ∧
    (s.fullStart straps reason pme).tap = s.tap ∧ (s.fullStart straps reason pme).pwr.seq = s.pwr.seq ∧
    (s.fullStart straps reason pme).pwr.perstHeld = s.pwr.perstHeld ∧
    (s.fullStart straps reason pme).mode = State.reset.mode := by
  unfold State.fullStart
  extract_lets old t p u
  obtain ⟨-, -, hfuses, hflash, -, htap, hseq, -, -, hmode, -, hperst, -⟩ := s.devReset_fields true
  have hu : u.boot = t.boot ∧ u.tap = t.tap ∧ u.pwr = t.pwr ∧ u.mode = t.mode := by
    dsimp only [u]
    split
    · exact ⟨rfl, rfl, rfl, rfl⟩
    · exact ⟨rfl, rfl, rfl, rfl⟩
  obtain ⟨hub, hut, hup, hum⟩ := hu
  obtain ⟨hboot, htap', hpwr', -, -, hmode'⟩ := u.startUp_fields straps reason
  obtain ⟨htb, htt, -, htp, -, htm⟩ := (s.devReset true).newSession_fields old
  rw [hboot, htap', hpwr', hmode', hub, hut, hup, hum]
  dsimp only [t]
  rw [htb, htt, htp, htm]
  exact ⟨rfl, rfl, hfuses, hflash, htap, hseq, hperst, hmode⟩

end Machine
end Sys2Proof

/-! The TAP's instructions: what loading one makes of the TAP and of the device. -/

namespace Sys2Proof.Machine

/-- The TAP with an instruction and its captured register. -/
def State.loaded (s : State) (ir : Nat) (dr : BitVec 832) : State := { s with tap := { s.tap with ir := ir, dr := dr } }

/-! ### From a TAP that holds nothing -/

section
variable {s : State} (hscan : s.tap.scan = false) (hheld : s.tap.held = false) (st : BitVec 6)
include hscan

/-- With the chains closed an instruction that does not hold the islands is loaded, and nothing else happens. -/
theorem State.tapLoad_closed {ir : Nat} (hopen : (ir == 0x18 && s.scanOpens) = false) (h0 : ir ≠ 0) (h3 : ir ≠ 3) (h4 : ir ≠ 4)
    (dr : BitVec 832) : s.tapLoad ir st dr = (if s.tap.held then s.holdLeave st else s).modTap fun x =>
      { x with ir := ir, scan := false, dr := dr } := by
  unfold State.tapLoad
  simp only [hopen, hscan, beq_eq_false_iff_ne.mpr h0, beq_eq_false_iff_ne.mpr h3, beq_eq_false_iff_ne.mpr h4,
    Bool.or_false, Bool.not_false, Bool.and_true, Bool.false_and, Bool.false_eq_true, if_false]

include hheld

theorem State.tapLoad_free {ir : Nat} (hopen : (ir == 0x18 && s.scanOpens) = false) (h0 : ir ≠ 0) (h3 : ir ≠ 3) (h4 : ir ≠ 4)
    (dr : BitVec 832) : s.tapLoad ir st dr = s.loaded ir dr := by
  rw [State.tapLoad_closed hscan st hopen h0 h3 h4, if_neg (by simp [hheld]), State.modTap, State.loaded, ← hscan]

theorem State.tapLoad_closed_code {ir : Nat} (hir : ir ∈ [1, 2, 0x1F, 0x11, 0x12, 0x10, 0x14]) (dr : BitVec 832) :
    s.tapLoad ir st dr = s.loaded ir dr := by
  refine State.tapLoad_free hscan hheld st ?_ ?_ ?_ ?_ dr <;> simp only [List.mem_cons, List.not_mem_nil, or_false] at hir <;>
    rcases hir with rfl | rfl | rfl | rfl | rfl | rfl | rfl <;> simp

theorem execTap_plain (pins load : BitVec 412) : exec (.tapReset st) s = .next (s.loaded 2 0) ∧
    exec (.tapSample pins load st) s = .next { s with tap := { ir := 1, bsr := load, dr := pins.setWidth 832 } } ∧
    exec (.tapIdcode st) s = .next (s.loaded 2 0xB512058B) ∧ exec (.tapBypass st) s = .next (s.loaded 0x1F 0) ∧
    (s.scanOpens = false → exec (.tapIntScan st) s = .next (s.loaded 0x18 0)) ∧
    exec (.tapTestStat st) s = .next (s.loaded 0x11 ((s.reg rTestStat).setWidth 832)) ∧
    exec (.tapTestResult st) s = .next (s.loaded 0x12 (BitVec.ofNat 832 (ofLeBytes (s.test.record.take 104)))) := by
  have code : ∀ ir dr, ir ∈ [1, 2, 0x1F, 0x11, 0x12, 0x10, 0x14] → s.tapLoad ir st dr = s.loaded ir dr :=
    fun ir dr hir => State.tapLoad_closed_code hscan hheld st hir dr
  refine ⟨congrArg Host.Outcome.next (code 2 0 (by simp)), ?_, congrArg Host.Outcome.next (code 2 _ (by simp)),
    congrArg Host.Outcome.next (code 0x1F 0 (by simp)), fun hopen => congrArg Host.Outcome.next ?_, ?_, ?_⟩
  · have h := code 1 (pins.setWidth 832) (by simp)
    refine congrArg Host.Outcome.next ((congrArg (State.modTap · fun x => { x with bsr := load }) h).trans ?_)
    rw [State.modTap, State.loaded]
    simp [hscan, hheld]
  · exact State.tapLoad_free hscan hheld st (by simp [hopen]) (by decide) (by decide) (by decide) 0
  · change execTapTestStat st s = _
    unfold execTapTestStat
    rw [code 0x11 0 (by simp)]
    rfl
  · change execTapTestResult st s = _
    unfold execTapTestResult
    rw [code 0x12 0 (by simp)]
    rfl

theorem exec_tapTestStart (b : BitVec 8) : exec (.tapTestStart b st) s = .next (
    if !s.powered then s.loaded 0x10 0
    else if s.testCause b.toNat = 0 then (s.loaded 0x10 0).testStart 2 b.toNat none
    else ((s.loaded 0x10 0).testStart 2 b.toNat none).setBit rTestCtrl 31 true) := by
  change execTapTestStart b st s = _
  unfold execTapTestStart
  rw [State.tapLoad_closed_code hscan hheld st (by simp)]
  rfl

theorem exec_tapDbgAccess (what : Fin 6) (off : Fin 524288) (v : BitVec 32) : exec (.tapDbgAccess what off v st) s = .next (
    if !s.powered then s.loaded 0x14 0
    else if what.val ≤ 1 then (s.loaded 0x14 0).dbgReg off (what.val == 1) v
    else (s.loaded 0x14 0).dbgKeeper what off v) := by
  change execTapDbgAccess what off v st s = _
  unfold execTapDbgAccess
  rw [State.tapLoad_closed_code hscan hheld st (by simp)]
  rfl

theorem execTapTestStart_powered (b : BitVec 8) (hpow : s.powered = true) :
    (s.testCause b.toNat = 0 → exec (.tapTestStart b st) s = .next ((s.loaded 0x10 0).testBegin 2 b.toNat none)) ∧
    (s.testCause b.toNat ≠ 0 → ∃ t, exec (.tapTestStart b st) s = .next t ∧ t.rbit rTestCtrl 31 = true ∧
      t.rfld rTestStat 12 3 = s.testCause b.toNat ∧ t.test = s.test ∧ t.mode = s.mode) := by
  have hex := exec_tapTestStart hscan hheld st b
  rw [if_neg (by simp [hpow])] at hex
  have hcause : (s.loaded 0x10 0).testCause b.toNat = s.testCause b.toNat := rfl
  refine ⟨fun h => ?_, fun h => ⟨_, hex, ?_⟩⟩
  · rw [hex, if_pos h, State.testStart, if_pos (hcause.trans h)]
  · have := s.testCause_le b.toNat
    rw [if_neg h, State.testStart, if_neg (hcause ▸ h), hcause, State.rbit_setBit_same _ _ _ _ (by omega),
      State.rfld_setBit_other _ _ (.inl (by decide)), State.rfld_setFld_same _ _ _ _ _ (by omega)]
    exact ⟨rfl, Nat.mod_eq_of_lt (by omega), rfl, rfl⟩

end

/-! ### Debug accesses -/

section
variable {s : State}

theorem State.dbgReg_unreached {off : Nat} (h : s.dbgReach off = false) (wr : Bool) (v : Word) :
    s.dbgReg off wr v = s.modTap fun x => { x with dr := 0 } := by
  unfold State.dbgReg
  rw [if_neg (by simp [h])]

theorem State.dbgKeeper_closed (h : (s.mode.session && s.rbit rSecDbgStat 5) = false) (what off : Nat) (v : Word) :
    s.dbgKeeper what off v = s.modTap fun x => { x with dr := 0 } := by
  unfold State.dbgKeeper
  rw [if_pos (by simp only [h, Bool.not_false])]

theorem State.dbgKeeper_open (h : (s.mode.session && s.rbit rSecDbgStat 5) = true) (what off : Nat) (v : Word) :
    s.dbgKeeper what off v = if what = 2 then s.haltKeeper true else if what = 3 then s.haltKeeper false
      else if what = 4 then s.modTap fun x => { x with
        dr := BitVec.ofNat 832 (ofLeBytes ((List.range 4).map fun i => SMap.get (fun _ => 0) s.boot.tcm (off / 4 * 4 + i))) }
      else s.tcmLoad (off / 4 * 4) (leBytes 4 v.toNat) := by
  unfold State.dbgKeeper
  rw [if_neg (by simp only [h, Bool.not_true, Bool.false_eq_true, not_false_eq_true])]

theorem State.halted_haltKeeper (on : Bool) : (s.haltKeeper on).keep.halted = on := by
  unfold State.haltKeeper
  cases on with
  | true => rfl
  | false =>
    rw [if_neg (by decide)]
    split
    next => rfl
    next h => simpa using h

theorem execTapDbgAccess_powered (hscan : s.tap.scan = false) (hheld : s.tap.held = false) (st : BitVec 6)
    (hpow : s.powered = true)
    (what : Fin 6) (off : Fin 524288) (v : BitVec 32) :
    let deep := s.mode.session = true ∧ s.rbit rSecDbgStat 5 = true
    (what.val ≤ 1 → (off.val < 0x400 ∨ 0x504 < off.val) → ¬ deep → exec (.tapDbgAccess what off v st) s = .next
    (s.loaded 0x14 0)) ∧
    (2 ≤ what.val → ¬ deep → exec (.tapDbgAccess what off v st) s = .next (s.loaded 0x14 0)) ∧
    (what.val = 0 → 0x400 ≤ off.val → off.val ≤ 0x504 → off.val % 4 = 0 → ∀ d, regAt (0x040000 + off.val) = some d →
      ∃ t, exec (.tapDbgAccess what off v st) s = .next t ∧
        t.tap.dr = ((s.loaded 0x14 0).regRead d (0x040000 + off.val)).1.setWidth 832) ∧
    (deep → what.val = 4 → ∃ t, exec (.tapDbgAccess what off v st) s = .next t ∧ t.boot = s.boot ∧ ∀ i : Fin 4,
      t.tap.dr.extractLsb' (8 * i.val) 8 = SMap.get (fun _ => 0) s.boot.tcm (off.val / 4 * 4 + i.val)) ∧
    (deep → what.val = 5 → ∃ t, exec (.tapDbgAccess what off v st) s = .next t ∧ ∀ j, SMap.get (fun _ => 0) t.boot.tcm j =
      if j / 4 = off.val / 4 then v.extractLsb' (8 * (j % 4)) 8 else SMap.get (fun _ => 0) s.boot.tcm j) ∧
    (deep → what.val = 2 → ∃ t, exec (.tapDbgAccess what off v st) s = .next t ∧ t.keep.halted = true) ∧
    (deep → what.val = 3 → ∃ t, exec (.tapDbgAccess what off v st) s = .next t ∧ t.keep.halted = false) := by
  intro deep
  have hex := exec_tapDbgAccess hscan hheld st what off v
  rw [if_neg (by simp [hpow])] at hex
  have hclosed : ¬ deep → ((s.loaded 0x14 0).mode.session && (s.loaded 0x14 0).rbit rSecDbgStat 5) = false := fun h => by
    rw [Bool.and_eq_false_iff]
    by_cases h1 : s.mode.session = true
    · exact .inr (Bool.eq_false_iff.mpr fun h2 => h ⟨h1, h2⟩)
    · exact .inl (Bool.eq_false_iff.mpr h1)
  have hopen : deep → ((s.loaded 0x14 0).mode.session && (s.loaded 0x14 0).rbit rSecDbgStat 5) = true :=
    fun h => Bool.and_eq_true_iff.mpr h
  refine ⟨fun hw hoff hd => ?_, fun hw hd => ?_, fun hw hlo hhi hal d hd => ⟨_, hex, ?_⟩, fun hd hw => ⟨_, hex, ?_⟩,
    fun hd hw => ⟨_, hex, fun j => ?_⟩, fun hd hw => ⟨_, hex, ?_⟩, fun hd hw => ⟨_, hex, ?_⟩⟩
  · have hreach : (s.loaded 0x14 0).dbgReach off = false := by
      rw [State.dbgReach, hclosed hd, Bool.or_false, Bool.and_eq_false_iff, decide_eq_false_iff_not, decide_eq_false_iff_not]
      omega
    rw [hex, if_pos hw, State.dbgReg_unreached hreach]
    rfl
  · rw [hex, if_neg (by omega), State.dbgKeeper_closed (hclosed hd)]
    rfl
  · have hreach : (s.loaded 0x14 0).dbgReach off = true := by simp [State.dbgReach, hlo, hhi]
    have hreg : (if off.val % 4 = 0 && (s.loaded 0x14 0).dbgReach off then regAt (0x040000 + off.val) else none) = some d := by
      rw [if_pos (by rw [hal, hreach]; rfl), hd]
    rw [if_pos (by omega), State.dbgReg, hreg, hw]
    rfl
  · rw [if_neg (by omega), State.dbgKeeper_open (hopen hd), hw, if_neg (by decide), if_neg (by decide), if_pos rfl]
    refine ⟨rfl, fun i => ?_⟩
    refine (extract_ofNat_ofLeBytes _ (by omega)).trans ?_
    rw [← List.getElem_eq_getD (h := by simp), List.getElem_map, List.getElem_range]
    rfl
  · rw [if_neg (by omega), State.dbgKeeper_open (hopen hd), hw, if_neg (by decide), if_neg (by decide), if_neg (by decide),
      State.tcm_tcmLoad, leBytes_length]
    by_cases hj : j / 4 = off.val / 4
    · rw [if_pos (by omega), if_pos hj, getD_leBytes _ (by omega), show j - off.val / 4 * 4 = j % 4 by omega]
    · rw [if_neg (by omega), if_neg hj]
      rfl
  · rw [if_neg (by omega), State.dbgKeeper_open (hopen hd), hw, if_pos rfl, State.halted_haltKeeper]
  · rw [if_neg (by omega), State.dbgKeeper_open (hopen hd), hw, if_neg (by decide), if_pos rfl, State.halted_haltKeeper]

end

/-! ### The hold and its end -/

/-- From a hold, or without power, the hold begins with no effect beside the TAP; else the islands are reset. -/
theorem State.holdEnter_fields (s : State) : s.holdEnter.tap = { s.tap with held := true } ∧
    (s.powered = false → s.holdEnter = { s with tap := { s.tap with held := true } }) ∧
    (s.powered = true → s.holdEnter.boot.phase = 0 ∧
      s.holdEnter.eng.all (fun p => p.2.progEpoch == (s.engine p.1).progEpoch + 1) = true ∧
      s.holdEnter.boot.flash = s.boot.flash ∧ s.holdEnter.boot.fuses = s.boot.fuses ∧ s.holdEnter.pwr.seq = s.pwr.seq) := by
  unfold State.holdEnter
  extract_lets u
  have hpow : u.powered = s.powered := rfl
  obtain ⟨hphase, -, hfuses, hflash, -, htap, hseq, -, -, -, -, -, heng⟩ := u.devReset_fields false
  rw [hpow]
  refine ⟨?_, fun h => by rw [if_neg (by simp [h])]; rfl, fun h => ?_⟩
  · split
    · exact htap
    · rfl
  · rw [if_pos h, heng]
    refine ⟨hphase, ?_, hflash, hfuses, hseq⟩
    rw [List.all_map, List.all_eq_true]
    exact fun e _ => beq_self_eq_true _

/-- An instruction that holds the islands. -/
theorem State.tapLoad_hold {s : State} (hscan : s.tap.scan = false) (st : BitVec 6) {ir : Nat} (dr : BitVec 832)
    (hir : ir = 0 ∨ ir = 3 ∨ ir = 4 ∨ ir = 0x18 ∧ s.scanOpens = true) : s.tapLoad ir st dr =
      (if s.tap.held then s else s.holdEnter).modTap fun x => { x with ir := ir, scan := decide (ir = 0x18), dr := dr } := by
  have hhold : ((ir == 0x18 && s.scanOpens) || ir == 0 || ir == 3 || ir == 4) = true := by
    rcases hir with rfl | rfl | rfl | ⟨rfl, h⟩
    · rfl
    · rfl
    · rfl
    · simp [h]
  have hopen : (ir == 0x18 && s.scanOpens) = decide (ir = 0x18) := by
    rcases hir with rfl | rfl | rfl | ⟨rfl, h⟩
    · rfl
    · rfl
    · rfl
    · simp [h]
  rw [hopen] at hhold
  unfold State.tapLoad
  simp only [hhold, hopen, hscan, Bool.false_and, Bool.not_true, Bool.and_false, Bool.true_and, Bool.false_eq_true, if_false]
  cases s.tap.held <;> rfl

/-- What an instruction that holds the islands leaves, by what held before. -/
theorem State.tapLoad_hold_fields {s : State} (hscan : s.tap.scan = false) (st : BitVec 6) {ir : Nat} (dr : BitVec 832)
    (hir : ir = 0 ∨ ir = 3 ∨ ir = 4 ∨ ir = 0x18 ∧ s.scanOpens = true) :
    (s.tapLoad ir st dr).tap = { s.tap with ir := ir, held := true, scan := decide (ir = 0x18), dr := dr } ∧
    (s.tap.held = true ∨ s.powered = false → { s.tapLoad ir st dr with tap := s.tap } = s) ∧
    (s.tap.held = false → s.powered = true → (s.tapLoad ir st dr).boot.phase = 0 ∧
      (s.tapLoad ir st dr).eng.all (fun p => p.2.progEpoch == (s.engine p.1).progEpoch + 1) = true ∧
      (s.tapLoad ir st dr).boot.flash = s.boot.flash ∧ (s.tapLoad ir st dr).boot.fuses = s.boot.fuses ∧
      (s.tapLoad ir st dr).pwr.seq = s.pwr.seq) := by
  obtain ⟨htap, hoff, hon⟩ := s.holdEnter_fields
  rw [State.tapLoad_hold hscan st dr hir]
  refine ⟨?_, fun h => ?_, fun hheld hpow => ?_⟩
  · split
    next hheld => simp [State.modTap, hheld]
    next => simp [State.modTap, htap]
  · split
    next => rfl
    next hheld =>
      rw [hoff (h.resolve_left hheld)]
      rfl
  · rw [if_neg (by simp [hheld])]
    exact hon hpow

theorem State.scanLeave_fields (s : State) (st : BitVec 6) (hpow : s.powered = true) :
    (s.scanLeave st).boot.phase = 1 ∧ (s.scanLeave st).boot.reason = 2 ∧ (s.scanLeave st).boot.tcm = [] ∧
    (s.scanLeave st).cal.bytes = [] ∧ (s.scanLeave st).boot.fuses = s.boot.fuses ∧ (s.scanLeave st).boot.flash = s.boot.flash ∧
    (s.scanLeave st).tap = { s.tap with held := false, scan := false } := by
  unfold State.scanLeave
  extract_lets u v
  have hu : u.powered = true := hpow
  obtain ⟨hphase, hreason, hfuses, hflash, htap, -⟩ := u.fullStart_fields st 2 false
  rw [hu]
  exact ⟨hphase, hreason, rfl, rfl, hfuses, hflash, htap⟩

theorem State.holdLeave_fields (s : State) (st : BitVec 6) (hpow : s.powered = true) :
    (s.holdLeave st).boot.phase = 1 ∧ (s.holdLeave st).boot.reason = 2 ∧ (s.holdLeave st).boot.fuses = s.boot.fuses ∧
    (s.holdLeave st).boot.flash = s.boot.flash ∧ (s.holdLeave st).tap = { s.tap with held := false } := by
  unfold State.holdLeave
  extract_lets u
  have hu : u.powered = true := hpow
  obtain ⟨hphase, hreason, hfuses, hflash, htap⟩ := u.bootReset_fields st 2
  rw [if_pos hu]
  exact ⟨hphase, hreason, hfuses, hflash, htap⟩

/-- An instruction that does not hold the islands ends a hold, and leaves INT_SCAN. -/
theorem State.tapLoad_release {s : State} (st : BitVec 6) {ir : Nat} (dr : BitVec 832) (hir : ir ∈ [1, 2, 0x1F, 0x11]) :
    (s.tap.scan = false → s.tap.held = true → s.tapLoad ir st dr = (s.holdLeave st).modTap fun x =>
      { x with ir := ir, scan := false, dr := dr }) ∧
    (s.tap.scan = true → s.tapLoad ir st dr = (s.scanLeave st).modTap fun x => { x with ir := ir, scan := false, dr := dr }) := by
  have hne : ir ≠ 0 ∧ ir ≠ 3 ∧ ir ≠ 4 ∧ ir ≠ 0x18 := by
    simp only [List.mem_cons, List.not_mem_nil, or_false] at hir
    omega
  obtain ⟨h0, h3, h4, h18⟩ := hne
  refine ⟨fun hscan hheld => ?_, fun hscan => ?_⟩
  · rw [State.tapLoad_closed hscan st (by simp [h18]) h0 h3 h4, if_pos hheld]
  · unfold State.tapLoad
    simp only [hscan, beq_eq_false_iff_ne.mpr h0, beq_eq_false_iff_ne.mpr h3, beq_eq_false_iff_ne.mpr h4,
      beq_eq_false_iff_ne.mpr h18, Bool.false_and, Bool.or_false, Bool.not_false, Bool.and_true, if_true,
        Bool.false_eq_true, if_false]

/-- The states in which a hold, or INT_SCAN, has ended, under an instruction that may still load a boundary register. -/
theorem exec_tap_release {s : State} (st : BitVec 6) (pins load : BitVec 412) (c : Instr)
    (hc : c = .tapReset st ∨ c = .tapBypass st ∨ c = .tapIdcode st ∨ c = .tapSample pins load st ∨ c = .tapTestStat st) :
    ∃ ir ∈ [1, 2, 0x1F, 0x11], ∃ (dr : BitVec 832) (f : TapState → TapState), (∀ x, (f x).held = x.held ∧ (f x).scan = x.scan) ∧
      exec c s = .next ((s.tapLoad ir st dr).modTap f) := by
  rcases hc with rfl | rfl | rfl | rfl | rfl
  · exact ⟨2, by simp, 0, id, fun _ => ⟨rfl, rfl⟩, rfl⟩
  · exact ⟨0x1F, by simp, 0, id, fun _ => ⟨rfl, rfl⟩, rfl⟩
  · exact ⟨2, by simp, 0xB512058B, id, fun _ => ⟨rfl, rfl⟩, rfl⟩
  · exact ⟨1, by simp, pins.setWidth 832, fun x => { x with bsr := load }, fun _ => ⟨rfl, rfl⟩, rfl⟩
  · exact ⟨0x11, by simp, 0, fun x => { x with dr := ((s.tapLoad 0x11 st 0).reg rTestStat).setWidth 832 }, fun _ => ⟨rfl, rfl⟩, rfl⟩

/-- Settles O60. -/
theorem tapInstructions : Obligations.TapInstructions := by
  refine ⟨fun s st pins load b what off v hscan hheld => ?_, fun s st pins load => ⟨fun hscan c ir hc => ?_, fun c hc => ?_⟩⟩
  · intro loaded
    obtain ⟨hreset, hsample, hid, hbypass, hint, hstat, hresult⟩ := execTap_plain hscan hheld st pins load
    refine ⟨hreset, hsample, hid, hbypass, hint, hstat, hresult, fun hoff => ⟨?_, ?_⟩,
      execTapTestStart_powered hscan hheld st b, fun hpow => execTapDbgAccess_powered hscan hheld st hpow what off v⟩
    · rw [exec_tapTestStart hscan hheld st b, if_pos (by simp [hoff])]
      rfl
    · rw [exec_tapDbgAccess hscan hheld st what off v, if_pos (by simp [hoff])]
      rfl
  · rcases hc with ⟨rfl, rfl⟩ | ⟨rfl, rfl⟩ | ⟨rfl, rfl⟩ | ⟨rfl, rfl, hopen⟩
    · obtain ⟨htap, hsame, hreset⟩ := State.tapLoad_hold_fields hscan st (pins.setWidth 832) (.inl rfl)
      refine ⟨(s.tapLoad 0 st (pins.setWidth 832)).modTap fun x => { x with bsr := load }, rfl, ?_, ?_, ?_, ?_, hsame, hreset⟩
      all_goals simp [State.modTap, htap]
    · obtain ⟨htap, hsame, hreset⟩ := State.tapLoad_hold_fields hscan st 0 (.inr (.inl rfl))
      refine ⟨_, rfl, ?_, ?_, ?_, nofun, hsame, hreset⟩
      all_goals rw [htap]
    · obtain ⟨htap, hsame, hreset⟩ := State.tapLoad_hold_fields hscan st 0 (.inr (.inr (.inl rfl)))
      refine ⟨_, rfl, ?_, ?_, ?_, nofun, hsame, hreset⟩
      all_goals rw [htap]
    · obtain ⟨htap, hsame, hreset⟩ := State.tapLoad_hold_fields hscan st 0 (.inr (.inr (.inr ⟨rfl, hopen⟩)))
      refine ⟨_, rfl, ?_, ?_, ?_, nofun, hsame, hreset⟩
      all_goals rw [htap]
  · obtain ⟨ir, hir, dr, f, hf, hex⟩ := exec_tap_release (s := s) st pins load c hc
    refine ⟨fun hscan hheld hpow => ⟨_, hex, ?_⟩, fun hscan hpow => ⟨_, hex, ?_⟩⟩
    · obtain ⟨hphase, hreason, hfuses, hflash, htap⟩ := s.holdLeave_fields st hpow
      rw [(State.tapLoad_release st dr hir).1 hscan hheld]
      refine ⟨(hf _).1.trans ?_, hphase, hreason, hfuses, hflash⟩
      simp [State.modTap, htap]
    · obtain ⟨hphase, hreason, htcm, hbytes, hfuses, hflash, htap⟩ := s.scanLeave_fields st hpow
      rw [(State.tapLoad_release st dr hir).2 hscan]
      refine ⟨(hf _).1.trans ?_, (hf _).2, hphase, hreason, htcm, hbytes, hfuses, hflash⟩
      simp [State.modTap, htap]

end Sys2Proof.Machine

/-! Supply sequencing and power loss. -/

namespace Sys2Proof.Machine

theorem State.reg_fullStart (s : State) (straps : BitVec 6) (reason : Nat) (pme : Bool) :
    (s.fullStart straps reason pme).reg rBootStraps = BitVec.ofNat 32 straps.toNat ∧
    (s.fullStart straps reason pme).reg rTopModeReason = BitVec.ofNat 32 reason := State.reg_startUp ..

/-- After the last rail start-up begins, and the count of failed steps stays. -/
theorem exec_railGood_last {s : State} (straps : BitVec 6) (h : s.pwr.seq = .up 2) :
    ∃ t, exec (.railGood straps) s = .next t ∧ t.pwr.seq = .on ∧ t.reg rPwrSeq = s.reg rPwrSeq ∧
      t.boot.phase = 1 ∧ t.reg rBootStraps = BitVec.ofNat 32 straps.toNat ∧ t.reg rTopModeReason = BitVec.ofNat 32 s.pwr.next ∧
      t.mode = State.reset.mode ∧ t.boot.fuses = s.boot.fuses ∧ t.boot.flash = s.boot.flash := by
  have hex : exec (.railGood straps) s = .next (((s.modPwr fun x => { x with seq := .on, seqAt := s.now }).fullStart straps
      s.pwr.next s.pcie.pmeStat).keepSeq (s.reg rPwrSeq)) := by
    change execRailGood straps s = _
    simp only [execRailGood, h]
  refine ⟨_, hex, ?_⟩
  generalize hu : (s.modPwr fun x => { x with seq := .on, seqAt := s.now }) = u
  obtain ⟨hphase, -, hfuses, hflash, -, hseq, -, hmode⟩ := u.fullStart_fields straps s.pwr.next s.pcie.pmeStat
  obtain ⟨hstraps, hreason⟩ := u.reg_fullStart straps s.pwr.next s.pcie.pmeStat
  have hpwr : u.pwr.seq = .on := by rw [← hu]; rfl
  have hboot : u.boot = s.boot := by rw [← hu]; rfl
  rw [hboot] at hfuses hflash
  unfold State.keepSeq
  rw [State.reg_setReg_same, State.reg_setReg_other _ _ (by decide), State.reg_setReg_other _ _ (by decide)]
  exact ⟨hseq.trans hpwr, rfl, hphase, hstraps, hreason, hmode, hfuses, hflash⟩

theorem execSequenceTimeout_of_up {s : State} {k : Nat} (h : s.pwr.seq = .up k) :
    (s.pwr.seqAt + tGood ≤ s.now → ∃ t, exec .sequenceTimeout s = .next t ∧ t.pwr.seq = .down 1 .retry ∧
      t.pwr.en = s.pwr.en &&& 5 ∧ t.rfld rPwrSeq 0 8 = min (s.rfld rPwrSeq 0 8 + 1) 255) ∧
    (s.now < s.pwr.seqAt + tGood → exec .sequenceTimeout s = .next s) := by
  have hex : exec .sequenceTimeout s = .next
    (if s.pwr.seqAt + tGood ≤ s.now then (s.bump rPwrSeq 0 8).powerDown .retry else s) := by
    change execSequenceTimeout s = _
    simp only [execSequenceTimeout, h]
  rw [hex]
  refine ⟨fun hdue => ⟨_, rfl, ?_⟩, fun hdue => by rw [if_neg (by omega)]⟩
  rw [if_pos hdue]
  exact ⟨rfl, rfl, State.rfld_bump_same _ _ _ _ (by omega)⟩

/-- The steps down, by the step that is due and by where the sequence goes on. -/
theorem execDownStep_due {s : State} (n : SeqNext) (hdue : s.pwr.seqAt + tDn ≤ s.now) :
    (s.pwr.seq = .down 1 n → exec .downStep s =
      .next { s with pwr := { s.pwr with en := s.pwr.en &&& 4, seq := .down 2 n, seqAt := s.now } }) ∧
    (s.pwr.seq = .down 2 .up → exec .downStep s = .next { s with pwr := { s.pwr with en := 4, seq := .up 0, seqAt := s.now } }) ∧
    (s.pwr.seq = .down 2 .retry → exec .downStep s =
    .next { s with pwr := { s.pwr with en := 0, seq := .retry, seqAt := s.now } }) ∧
    (s.pwr.seq = .down 2 .dormant → s.pwr.held = none →
      exec .downStep s = .next { s with pwr := { s.pwr with en := 0, seq := .off, seqAt := s.now } }) := by
  have hnow : ¬ s.now < s.pwr.seqAt + tDn := by omega
  change (_ → execDownStep s = _) ∧ (_ → execDownStep s = _) ∧ (_ → execDownStep s = _) ∧ (_ → _ → execDownStep s = _)
  unfold execDownStep
  rw [if_neg hnow]
  refine ⟨fun h => ?_, fun h => ?_, fun h => ?_, fun h hheld => ?_⟩
  · rw [h]
    rfl
  · rw [h]
    rfl
  · rw [h]
    rfl
  · rw [h]
    simp only [State.modPwr, hheld]

theorem execBrownOut_powered {s : State} (hdorm : s.mode.dormant = false) (hseq : s.pwr.seq = .on) :
    ∃ t, exec .brownOut s = .next t ∧ t.pwr.seq = .down 1 .up ∧ t.pwr.en = s.pwr.en &&& 5 ∧ t.pwr.next = 1 ∧
      t.rbit rPwrSeq 8 = true ∧ t.boot.fuses = s.boot.fuses ∧ t.boot.flash = s.boot.flash ∧ t.mode = State.reset.mode := by
  obtain ⟨-, -, hfuses, hflash, -, -, -, -, -, hmode, hen, -⟩ := s.devReset_fields true
  have hex : exec .brownOut s = .next (((((s.devReset true).keepSeq (s.reg rPwrSeq)).setBit rPwrSeq 8 true).modPwr fun x =>
      { x with next := 1 }).powerDown .up) := by
    change execBrownOut s = _
    unfold execBrownOut
    rw [if_neg (by simp [hdorm, hseq])]
  generalize s.devReset true = r at hex hfuses hflash hmode hen
  refine ⟨_, hex, rfl, ?_, rfl, State.rbit_setBit_same (r.keepSeq _) _ _ _ (by omega), hfuses, hflash, hmode⟩
  exact congrArg (· &&& 5) hen

theorem execPerstNAssert_powered {s : State} (hheld : s.pwr.perstHeld = false) (hdorm : s.mode.dormant = false)
    (hseq : s.pwr.seq = .on) : ∃ t, exec .perstNAssert s = .next t ∧ t.pwr.perstHeld = true ∧ t.mode = State.reset.mode ∧
      t.boot.fuses = s.boot.fuses ∧ t.boot.flash = s.boot.flash ∧
      ∀ o, o ∉ [rPwrDormCtrl, rPwrWakeTmr, rPwrWakeSrc] → t.reg o = regReset o := by
  generalize hu : (s.modPwr fun x => { x with perstHeld := true, perstLow := x.wakePin || x.perstLow }) = u
  have hfields : u.boot = s.boot ∧ u.pwr.perstHeld = true ∧ u.mode = s.mode ∧ u.pwr.seq = s.pwr.seq ∧ u.pcie = s.pcie := by
    rw [← hu]
    exact ⟨rfl, rfl, rfl, rfl, rfl⟩
  obtain ⟨hboot, hperst, humode, huseq, hupcie⟩ := hfields
  obtain ⟨-, -, hfuses, hflash, -, -, -, -, -, hmode, -, hkeep, -⟩ := u.devReset_fields true
  have hex : exec .perstNAssert s = .next { u.devReset true with
      pcie := { (u.devReset true).pcie with pmeEn := s.pcie.pmeEn && s.pcie.pmeStat, pmeStat := s.pcie.pmeStat } } := by
    change execPerstNAssert s = _
    unfold execPerstNAssert
    simp only [hheld, hu, humode, huseq, hupcie, hdorm, hseq, Bool.false_eq_true, if_false, Bool.false_or, bne_self_eq_false]
  refine ⟨_, hex, hkeep.trans hperst, hmode, hfuses.trans (by rw [hboot]), hflash.trans (by rw [hboot]), fun o ho => ?_⟩
  exact (u.reg_devReset_full o).trans (if_neg ho)

theorem execPerstNRelease_powered {s : State} (straps : BitVec 6) (hheld : s.pwr.perstHeld = true)
    (hdorm : s.mode.dormant = false)
    (hseq : s.pwr.seq = .on) (htap : s.tap.held = false) : ∃ t, exec (.perstNRelease straps) s = .next t ∧
    t.pwr.perstHeld = false ∧
      t.boot.phase = 1 ∧ t.reg rBootStraps = BitVec.ofNat 32 straps.toNat ∧ t.reg rTopModeReason = BitVec.ofNat 32 2 ∧
      t.mode = State.reset.mode ∧ t.boot.fuses = s.boot.fuses ∧ t.boot.flash = s.boot.flash := by
  generalize hu : (s.modPwr fun x => { x with perstHeld := false }) = u
  have hfields : u.boot = s.boot ∧ u.pwr.perstHeld = false ∧ u.mode = s.mode ∧ u.pwr.seq = s.pwr.seq ∧ u.tap = s.tap := by
    rw [← hu]
    exact ⟨rfl, rfl, rfl, rfl, rfl⟩
  obtain ⟨hboot, hperst, humode, huseq, hutap⟩ := hfields
  have hex : exec (.perstNRelease straps) s = .next (u.fullStart straps 2 u.pcie.pmeStat) := by
    change execPerstNRelease straps s = _
    unfold execPerstNRelease
    simp only [hheld, hu, humode, huseq, hutap, hdorm, hseq, htap, Bool.not_true, Bool.false_eq_true, if_false, Bool.or_false,
      bne_self_eq_false]
  obtain ⟨hphase, -, hfuses, hflash, -, -, hkeep, hmode⟩ := u.fullStart_fields straps 2 u.pcie.pmeStat
  obtain ⟨hstraps, hreason⟩ := u.reg_fullStart straps 2 u.pcie.pmeStat
  rw [hboot] at hfuses hflash
  exact ⟨_, hex, hkeep.trans hperst, hphase, hstraps, hreason, hmode, hfuses, hflash⟩

theorem exec_vddAonApplied (s : State) : ∃ t, exec .vddAonApplied s = .next t ∧ t.regs = [] ∧ t.pwr.seq = .up 0 ∧ t.pwr.en = 4 ∧
    t.pwr.next = 1 ∧ t.now = s.now + 1228800 ∧ t.boot.fuses = s.boot.fuses ∧ t.boot.flash = s.boot.flash :=
  ⟨_, rfl, rfl, rfl, rfl, rfl, rfl, rfl, rfl⟩

/-- Settles O56. -/
theorem supplySequence : Obligations.SupplySequence := by
  intro s starts
  refine ⟨fun straps => ⟨fun h => ?_, fun h => ?_, exec_railGood_last straps, fun h => ?_⟩,
    fun k h => execSequenceTimeout_of_up h, fun h => ⟨fun hdue => ?_, fun hdue => ?_⟩, fun n hdue => execDownStep_due n hdue,
    fun hdue => congrArg Host.Outcome.next (if_pos hdue), execBrownOut_powered, fun h => ?_, exec_vddAonApplied s,
    execPerstNAssert_powered, fun h => congrArg Host.Outcome.next (if_pos h),
    fun straps => ⟨execPerstNRelease_powered straps, fun h => congrArg Host.Outcome.next (if_pos (by simp [h]))⟩⟩
  · change execRailGood straps s = _
    simp only [execRailGood, h, State.modPwr]
  · change execRailGood straps s = _
    simp only [execRailGood, h, State.modPwr]
  · change execRailGood straps s = _
    simp only [execRailGood, h]
  · exact congrArg Host.Outcome.next (if_pos (by simp [h, hdue]))
  · exact congrArg Host.Outcome.next (if_neg (by simp [h]; omega))
  · exact congrArg Host.Outcome.next (if_pos (by simpa using h))

end Sys2Proof.Machine

/-! DORMANT and its wake sources: the refutation of DormantAndModes, at the last of the six wake sources. -/

namespace Sys2Proof.Machine

/-- An enabled wake source that arrives while the supplies go down for DORMANT is held. -/
theorem State.wakeBy_down {s : State} {src k : Nat} (hdorm : s.mode.dormant = true) (hon : s.wakeOn src = true)
    (hseq : s.pwr.seq = .down k .dormant) (hheld : s.pwr.held = none) :
    s.wakeBy src = s.modPwr fun x => { x with held := some src } := by
  unfold State.wakeBy
  rw [if_neg (by simp [hdorm, hon]), hseq]
  exact if_neg (by simp [hheld])

/-- The supplies go down for DORMANT, and wake source 6 (GPIO) is enabled. -/
def goingDormant : State :=
  { regs := [(rPwrDormCtrl, 0x40)], mode := { dormant := true }, pwr := { seq := .down 1 .dormant } }

theorem goingDormant_wakeOn : goingDormant.wakeOn 6 = true := by decide

/-- The model holds source 6, as R670 and R672 have it. -/
theorem exec_wakeSource_goingDormant : exec (.wakeSource 5) goingDormant =
    .next (goingDormant.modPwr fun x => { x with held := some 6 }) := by
  exact congrArg Host.Outcome.next (State.wakeBy_down (src := 6) (k := 1) rfl goingDormant_wakeOn rfl rfl)

/-- Refutes O57: the statement adds 1 to the number of a wake source among the six numbers 0 to 5, where 5 + 1 is 0. For the
last source it asks that 0 is held, and the model holds 6. -/
theorem not_dormantAndModes : ¬ Obligations.DormantAndModes := by
  intro h
  obtain ⟨-, -, wake, -⟩ := h goingDormant
  obtain ⟨t, ht, hheld, -⟩ := (wake 5 rfl goingDormant_wakeOn).2 1 rfl rfl
  rw [exec_wakeSource_goingDormant] at ht
  cases ht
  cases hheld

end Sys2Proof.Machine

/-! Power islands and caps. -/

namespace Sys2Proof.Machine

/-! ### What a change of mode leaves alone -/

@[simp] theorem State.now_hostWrite (s : State) (cls master f a : Nat) (d : List Byte) (attr : BitVec 3) :
    (s.hostWrite cls master f a d attr).now = s.now := by
  unfold State.hostWrite
  refine foldl_keeps _ _ State.now (fun t p => ?_) s
  rfl

@[simp] theorem State.now_lanPut (s : State) (off : Nat) (d : List Byte) : (s.lanPut off d).now = s.now := by
  unfold State.lanPut
  extract_lets a
  refine foldl_keeps _ _ State.now (fun t p => ?_) s
  exact t.now_hostWrite ..

@[simp] theorem State.now_lantern (s : State) : s.lantern.now = s.now := by
  unfold State.lantern
  split
  · rfl
  · extract_lets n c body t u
    have hu : u.now = t.now := t.now_lanPut _ _
    clear_value u
    exact hu

theorem State.now_modeDo (s : State) (r : Nat) (f : State → State) : (s.modeDo r f).now = (f s).now := by
  unfold State.modeDo
  extract_lets t
  split
  · rfl
  · exact State.now_lantern _

/-! ### The islands' states -/

theorem State.island_of_reg {s t : State} (h : t.reg rPwrIslStat = s.reg rPwrIslStat) (i : Nat) : t.island i = s.island i :=
  congrArg (fld · (2 * i) 2) h

theorem State.island_setIsland (s : State) {i v : Nat} (hi : i < 16) (hv : v < 4) (j : Nat) :
    (s.setIsland i v).island j = if j = i then v else s.island j := by
  unfold State.island State.setIsland
  split
  next h => exact h ▸ (State.rfld_setFld_same _ _ _ _ _ (by omega)).trans (Nat.mod_eq_of_lt hv)
  next h => exact State.rfld_setFld_other _ _ (.inr (by omega))

/-- No register below the blocks of the islands' units is touched by what becomes of a stream. -/
theorem State.reg_streamEvent (s : State) (x : Stream) (cause : Nat) {o : Nat} (ho : o < 0x20000) :
    (s.streamEvent x cause).reg o = s.reg o := by
  unfold State.streamEvent
  split
  · split
    · exact State.reg_bump_other _ _ _ (by simp only [rBootMinStat]; omega)
    · rfl
  · exact State.reg_logEvent _ _ _ _ _ _ (by simp only [rCtxtErr]; omega)

theorem State.reg_streamState (s : State) (r : Nat) (x : Stream) (st : Nat) {o : Nat} (ho : o < 0x20000) :
    (s.streamState r x st).reg o = s.reg o := by
  unfold State.streamState State.streamTable
  split
  · rfl
  · split
    · rw [State.reg_setFld_other _ _ _ _ (by simp only [rBootMinStat]; omega),
        State.reg_setReg_other _ _ (by simp only [rBootMinCons]; omega)]
      rfl
    · exact State.reg_ringWrite ..

theorem State.reg_dropBursts (s : State) (r o : Nat) : (s.dropBursts r).reg o = s.reg o :=
  (State.dropBursts_kept (M := { fab := true, mov := true, pcie := true }) rfl rfl rfl (Kept.refl s)).reg rfl o

theorem State.reg_parkStream (s : State) (r : Nat) {o : Nat} (ho : o < 0x20000) : (s.parkStream r).reg o = s.reg o := by
  unfold State.parkStream
  split
  · rfl
  · split
    · rfl
    · extract_lets t x
      exact (State.reg_streamEvent _ _ _ ho).trans ((State.reg_streamState _ _ _ _ ho).trans (s.reg_dropBursts r o))

theorem State.reg_unparkStream (s : State) (r : Nat) {o : Nat} (ho : o < 0x20000) : (s.unparkStream r).reg o = s.reg o := by
  unfold State.unparkStream
  split
  · rfl
  · split
    · exact (State.reg_streamEvent _ _ _ ho).trans (State.reg_streamState _ _ _ _ ho)
    · rfl

theorem State.reg_parkQuarter (s : State) (q : Nat) {o : Nat} (ho : o < 0x20000) : (s.parkQuarter q).reg o = s.reg o := by
  unfold State.parkQuarter
  extract_lets t
  have ht : t.reg o = s.reg o := by
    refine foldl_keeps _ _ (State.reg · o) (fun u p => ?_) s
    split
    · split
      · exact u.reg_parkStream _ ho
      · rfl
    · rfl
  clear_value t
  refine (foldl_keeps _ _ (State.reg · o) (fun u k => ?_) t).trans ht
  extract_lets mine v
  have hv : v.reg o = u.reg o := by
    refine foldl_keeps _ _ (State.reg · o) (fun w p => ?_) u
    rfl
  exact hv

theorem State.reg_unparkQuarter (s : State) (q : Nat) {o : Nat} (ho : o < 0x20000) : (s.unparkQuarter q).reg o = s.reg o := by
  unfold State.unparkQuarter
  extract_lets t
  have ht : t.reg o = s.reg o := by
    refine foldl_keeps _ _ (State.reg · o) (fun u p => ?_) s
    split
    · split
      · exact u.reg_unparkStream _ ho
      · rfl
    · rfl
  clear_value t
  exact ht

theorem State.reg_unshed (s : State) (c v : Nat) {o : Nat} (h1 : o ≠ rPwrCapStat) :
    (s.unshed c v).reg o = (s.setIsland c v).reg o := State.reg_setBit_other _ _ _ h1

theorem State.reg_powerDone (s : State) {o : Nat} (ho : o ≠ rPwrPsResult) : s.powerDone.reg o = s.reg o := by
  unfold State.powerDone
  split
  · rfl
  · split
    · exact State.reg_setReg_other _ _ ho
    · rfl

theorem State.island_modeDo (s : State) (r : Nat) (f : State → State) (i : Nat) : (s.modeDo r f).island i = (f s).island i :=
  State.island_of_reg (State.modeDo_reg s r f _ (by decide)) i

/-- The state of an island that is named for a power-down. -/
def goingSt (v : Nat) : Nat := if v = 2 then 2 else 1

theorem State.island_islandGoing (s : State) {i : Nat} (hi : i < 14) (j : Nat) :
    (s.islandGoing i false).island j = if j = i then goingSt (s.island i) else s.island j := by
  unfold State.islandGoing
  split
  next h =>
    have h : s.island i = 2 ∨ s.island i = 1 := by simpa using h
    split
    next hj =>
      rw [hj, goingSt]
      split <;> omega
    next => rfl
  next h =>
    extract_lets t u
    have hne : ¬ (s.island i = 2 ∨ s.island i = 1) := by simpa using h
    have ht : t.island j = if j = i then 1 else s.island j := by
      dsimp only [t]
      split
      · rw [State.island_modeDo, State.island_of_reg (s.reg_unshed i 1 (by decide)),
          State.island_setIsland _ (by omega) (by omega)]
      · exact State.island_setIsland _ (by omega) (by omega) j
    have hu : u.island j = t.island j := by
      dsimp only [u]
      split
      · exact State.island_of_reg (t.reg_parkQuarter _ (by decide)) j
      · rfl
    have hlast : (if i = 13 then u.dacStopAll else u).island j = u.island j := by
      split
      · exact State.island_of_reg (u.reg_dacStopAll (by decide)) j
      · rfl
    rw [hlast, hu, ht, goingSt, if_neg (by omega : ¬ s.island i = 2)]

theorem State.island_foldl_islandGoing (l : List Nat) (hl : ∀ i ∈ l, i < 14) (s : State) (j : Nat) :
    (l.foldl (fun s i => s.islandGoing i false) s).island j = if j ∈ l then goingSt (s.island j) else s.island j := by
  induction l generalizing s with
  | nil => rfl
  | cons i l ih =>
    rw [List.foldl_cons, ih (fun k hk => hl k (List.mem_cons_of_mem _ hk)), State.island_islandGoing s (hl i List.mem_cons_self)]
    have hidem : goingSt (goingSt (s.island i)) = goingSt (s.island i) := by unfold goingSt; split <;> rfl
    by_cases hj : j = i
    · subst hj
      simp [hidem]
    · simp [hj]

/-! ### POWER_SET -/

theorem State.ready_of_ctx {s t : State} (h : t.ctx = s.ctx) (c q k : Nat) : t.ready c q k = s.ready c q k := by
  simp only [State.ready, State.context, h]
  rfl

@[simp] theorem State.reg_finish (s : State) (c q code o : Nat) : (s.finish c q code).reg o = s.reg o :=
  (s.finish_frame c q code).reg rfl o

theorem State.ctx_psResult (s : State) (cause isl : Nat) : (s.psResult cause isl).ctx = s.ctx := by simp [State.psResult]

/-- The islands that a POWER_SET powers down. -/
def downList (sel on : Nat) : List Nat := (List.range 14).filter fun i => sel / 2 ^ i % 2 == 1 && on / 2 ^ i % 2 == 0

theorem mem_downList {sel on i : Nat} : i ∈ downList sel on ↔ i < 14 ∧ sel / 2 ^ i % 2 = 1 ∧ on / 2 ^ i % 2 = 0 := by
  simp [downList]

section
variable {c : Fin 512} {q : BitVec 32} {s : State} {d : OpenDesc} (hready : s.ready c q.toNat tPowerSet = some d)
include hready

theorem exec_powerSet_waits (h : s.pwr.op ≠ none ∨ s.keeperRuns = false) : exec (.powerSet c q) s = .next s := by
  change execPowerSet c q s = _
  unfold execPowerSet
  simp only [hready]
  exact if_pos (by simpa [Option.isSome_iff_ne_none] using h)

variable (hop : s.pwr.op = none) (hkeep : s.keeperRuns = true)
include hop hkeep

theorem exec_powerSet_bad (h : d.extra ≠ 0 ∨ 2 ^ 14 ≤ d.num 16 4) :
    exec (.powerSet c q) s = .next (s.finish c q.toNat 0x10) := by
  change execPowerSet c q s = _
  unfold execPowerSet
  simp only [hready, hop, hkeep]
  refine (if_neg (by simp)).trans (if_pos ?_)
  rcases h with h | h
  · simp [h]
  · simp only [h, decide_true, Bool.or_true, Bool.true_or]

variable (hextra : d.extra = 0) (huses : d.onlyUses [(16, 9)] = true) (hsel : d.num 16 4 < 2 ^ 14) (hon : d.num 20 4 < 2 ^ 14)
include hextra huses hsel hon

/-- A legal POWER_SET without FORCE, by the mode and by what is live in the islands it powers down. -/
theorem exec_powerSet_legal (hforce : d.num 24 1 ≤ 1) :
    (s.modeCode ∉ [5, 6, 7, 8] → exec (.powerSet c q) s = .next ((s.psResult 4 (d.num 16 4)).finish c q.toNat 0x10)) ∧
    (s.modeCode ∈ [5, 6, 7, 8] → d.num 24 1 = 0 →
      ((∃ i ∈ downList (d.num 16 4) (d.num 20 4), s.liveOwners i ≠ []) →
        ∃ l, exec (.powerSet c q) s = .next ((s.psResult 2 (islMask l)).finish c q.toNat 0x10)) ∧
      ((∀ i ∈ downList (d.num 16 4) (d.num 20 4), s.liveOwners i = [] ∧ s.holdsSource i = false) →
        ∃ o, exec (.powerSet c q) s = .next ((downList (d.num 16 4) (d.num 20 4)).foldl (fun s i => s.islandGoing i false)
          ((s.grant c q.toNat).modPwr fun x => { x with op := some o })).powerDone)) := by
  have hlegal : (d.extra != 0 || !(d.onlyUses [(16, 9)]) || decide (2 ^ 14 ≤ d.num 16 4) || decide (2 ^ 14 ≤ d.num 20 4) ||
      decide (1 < d.num 24 1)) = false := by
    simp [hextra, huses]
    omega
  have hexec : execPowerSet c q s = exec (.powerSet c q) s := rfl
  rw [← hexec]
  unfold execPowerSet
  simp only [hready, hop, hkeep, hlegal, Option.isSome_none, Bool.not_true, Bool.or_false, Bool.false_eq_true, if_false]
  refine ⟨fun hmode => if_pos (by simpa using hmode), fun hmode hf => ?_⟩
  have hlisted : ¬ ((!([5, 6, 7, 8].contains s.modeCode)) = true) := by rw [List.contains_iff_mem.mpr hmode]; decide
  rw [if_neg hlisted, hf, ← downList]
  refine ⟨fun ⟨i, hi, hlive⟩ => ?_, fun hnone => ?_⟩
  · have hne : ((downList (d.num 16 4) (d.num 20 4)).filter fun i => !(s.liveOwners i).isEmpty).isEmpty = false := by
      rw [List.isEmpty_eq_false_iff_exists_mem]
      exact ⟨i, List.mem_filter.mpr ⟨hi, by simpa using hlive⟩⟩
    rw [hne]
    exact ⟨_, rfl⟩
  · have hlive : ((downList (d.num 16 4) (d.num 20 4)).filter fun i => !(s.liveOwners i).isEmpty) = [] :=
      List.filter_eq_nil_iff.mpr fun i hi => by simp [(hnone i hi).1]
    have hsrc : (downList (d.num 16 4) (d.num 20 4)).filter s.holdsSource = [] :=
      List.filter_eq_nil_iff.mpr fun i hi => by simp [(hnone i hi).2]
    rw [hlive, hsrc]
    exact ⟨_, rfl⟩

end

theorem execPowerSet_outcomes (c : Fin 512) (q : BitVec 32) (s : State) (d : OpenDesc)
    (hready : s.ready c q.toNat tPowerSet = some d) (hop : s.pwr.op = none) (hkeep : s.keeperRuns = true) (hextra : d.extra = 0)
    (huses : d.onlyUses [(16, 9)] = true) (hsel : d.num 16 4 < 2 ^ 14) (hon : d.num 20 4 < 2 ^ 14) (hforce : d.num 24 1 ≤ 1) :
    (s.modeCode ∉ [5, 6, 7, 8] → ∃ t, exec (.powerSet c q) s = .next t ∧ t.ended c q.toNat 0x10 ∧
      t.reg rPwrPsResult = BitVec.ofNat 32 (d.num 16 4 + 65536 * 4)) ∧
    (s.modeCode ∈ [5, 6, 7, 8] → d.num 24 1 = 0 →
      (∀ i, i < 14 → d.num 16 4 / 2 ^ i % 2 = 1 → d.num 20 4 / 2 ^ i % 2 = 0 → s.liveOwners i ≠ [] →
        ∃ t, exec (.powerSet c q) s = .next t ∧ t.ended c q.toNat 0x10 ∧ t.rfld rPwrPsResult 16 4 = 2 ∧ t.pwr = s.pwr) ∧
      ((∀ i, i < 14 → d.num 16 4 / 2 ^ i % 2 = 1 → d.num 20 4 / 2 ^ i % 2 = 0 → s.liveOwners i = [] ∧ s.holdsSource i = false) →
        ∃ t, exec (.powerSet c q) s = .next t ∧
          (∀ i, i < 14 → d.num 16 4 / 2 ^ i % 2 = 1 → d.num 20 4 / 2 ^ i % 2 = 0 → s.island i ≠ 2 → t.island i = 1) ∧
          (∀ i, i < 14 → d.num 16 4 / 2 ^ i % 2 = 0 ∨ d.num 20 4 / 2 ^ i % 2 = 1 → t.island i = s.island i))) := by
  obtain ⟨hmode, hplain⟩ := exec_powerSet_legal hready hop hkeep hextra huses hsel hon hforce
  have hready' : ∀ cause isl, (s.psResult cause isl).ready c q.toNat tPowerSet = some d := fun _ _ =>
    (State.ready_of_ctx (State.ctx_psResult ..) _ _ _).trans hready
  refine ⟨fun h => ⟨_, hmode h, State.ended_finish (hready' _ _) _, ?_⟩,
    fun h hf => ⟨fun i hi hs ho hlive => ?_, fun hnone => ?_⟩⟩
  · rw [State.reg_finish, State.psResult, State.reg_setReg_same, show d.num 16 4 % 16384 = d.num 16 4 from Nat.mod_eq_of_lt hsel]
  · obtain ⟨l, hex⟩ := (hplain h hf).1 ⟨i, mem_downList.mpr ⟨hi, hs, ho⟩, hlive⟩
    refine ⟨_, hex, State.ended_finish (hready' _ _) _, ?_, ?_⟩
    · rw [State.rfld, State.reg_finish, State.psResult, State.reg_setReg_same, fld, BitVec.toNat_ofNat]
      have := Nat.mod_lt (islMask l) (show 16384 > 0 by decide)
      omega
    · rw [(State.finish_frame _ _ _ _).pwr rfl]
      simp [State.psResult]
  · obtain ⟨o, hex⟩ := (hplain h hf).2 fun i hi => by
      obtain ⟨h14, hs, ho⟩ := mem_downList.mp hi
      exact hnone i h14 hs ho
    have hisland : ∀ j, (((downList (d.num 16 4) (d.num 20 4)).foldl (fun s i => s.islandGoing i false)
        ((s.grant c q.toNat).modPwr fun x => { x with op := some o })).powerDone).island j =
        if j ∈ downList (d.num 16 4) (d.num 20 4) then goingSt (s.island j) else s.island j := fun j =>
      (State.island_of_reg (State.reg_powerDone _ (by decide)) j).trans
        (State.island_foldl_islandGoing _ (fun i hi => (mem_downList.mp hi).1) _ j)
    refine ⟨_, hex, fun i hi hs ho h2 => ?_, fun i hi hkeep' => ?_⟩
    · rw [hisland, if_pos (mem_downList.mpr ⟨hi, hs, ho⟩), goingSt, if_neg h2]
    · rw [hisland, if_neg]
      rw [mem_downList]
      omega

/-! ### Islands go down and come up -/

theorem State.capActive_of_reg {s t : State} (h : t.reg rPwrCapStat = s.reg rPwrCapStat) : t.capActive = s.capActive := by
  simp only [State.capActive, State.rbit, h]

theorem State.reg_modPwr (s : State) (f : PowerState → PowerState) (o : Nat) : (s.modPwr f).reg o = s.reg o := rfl

theorem State.reg_shedCluster (s : State) (c : Nat) {o : Nat} (ho : o ≠ rPwrCapStat) :
    (s.shedCluster c).reg o = (s.setIsland c 3).reg o := by
  rw [State.shedCluster, State.reg_modPwr, State.reg_bump_other _ _ _ ho, State.reg_setBit_other _ _ _ ho]

theorem State.island_shedCluster (s : State) {c : Nat} (hc : c < 8) : (s.shedCluster c).island c = 3 := by
  rw [State.island_of_reg (s.reg_shedCluster c (by decide)), State.island_setIsland _ (by omega) (by omega), if_pos rfl]

section
variable (i : Fin 14) (s : State)

theorem execIsland_no_op (h : s.pwr.op = none) :
    exec (.islandPowerDown i) s = .next s ∧ exec (.islandPowerUp i) s = .next s := by
  change execIslandPowerDown i s = _ ∧ execIslandPowerUp i s = _
  unfold execIslandPowerDown execIslandPowerUp
  simp only [h, and_self]

variable (o : PowerOp) (hop : s.pwr.op = some o)
include hop

theorem execIslandPowerDown_going (h1 : s.island i = 1) :
    (s.mayGoOff i = true → ∃ t, exec (.islandPowerDown i) s = .next t ∧ t.island i = 2) ∧
    (s.mayGoOff i = false → exec (.islandPowerDown i) s = .next s) := by
  have hshape : s.mayGoOff i = true → ∃ (u : State) (l : List (Nat × Nat)), exec (.islandPowerDown i) s =
      .next (l.foldl (fun t p => t.logEvent p.2 0x22 0xFF 0xFF (2 ^ i.val)) (u.setIsland i 2)).powerDone := by
    intro hmay
    change ∃ u l, execIslandPowerDown i s = _
    unfold execIslandPowerDown
    simp only [hop, h1, hmay, bne_self_eq_false, Bool.not_true, Bool.or_false, Bool.false_eq_true, if_false]
    exact ⟨_, _, rfl⟩
  refine ⟨fun hmay => ?_, fun hmay => ?_⟩
  · obtain ⟨u, l, hex⟩ := hshape hmay
    refine ⟨_, hex, (State.island_of_reg (State.reg_powerDone _ (by decide)) i).trans ?_⟩
    have hlog : (l.foldl (fun t p => t.logEvent p.2 0x22 0xFF 0xFF (2 ^ i.val)) (u.setIsland i 2)).reg rPwrIslStat =
        (u.setIsland i 2).reg rPwrIslStat := by
      refine foldl_keeps l _ (State.reg · rPwrIslStat) (fun t p => ?_) _
      exact t.reg_logEvent _ _ _ _ _ (by simp only [rPwrIslStat, rCtxtErr]; omega)
    rw [State.island_of_reg hlog, State.island_setIsland _ (by omega) (by omega), if_pos rfl]
  · change execIslandPowerDown i s = _
    unfold execIslandPowerDown
    simp only [hop, hmay, Bool.not_false, Bool.or_true, if_true]

/-- An island that is named and OFF comes up; a cluster is shed at once while a cap is active. -/
theorem execIslandPowerUp_off (h2 : s.island i = 2) (hisl : o.isl.getLsbD i = true) (hon : o.on.getLsbD i = true) :
    ∃ t, exec (.islandPowerUp i) s = .next t ∧
      t.island i = if i.val < 8 ∧ s.capActive = true ∧ s.d0Running = true ∧ s.mode.runPend = false then 3 else 0 := by
  generalize hu : s.setIsland i 0 = u
  have hu0 : u.island i = 0 := by rw [← hu, State.island_setIsland _ (by omega) (by omega), if_pos rfl]
  have hcap : u.capActive = s.capActive := by
    rw [← hu]
    exact State.capActive_of_reg (State.reg_setFld_other _ _ _ _ (by decide))
  have hmode : u.mode = s.mode := by
    rw [← hu]
    rfl
  have hex : exec (.islandPowerUp i) s = .next (State.powerDone (
      if i.val < 8 then
        if u.capActive && u.d0Running && !u.mode.runPend then
          ((u.startClock (3 + i)).modPwr fun x => { x with
            capWhy := if x.shed.isEmpty then (if u.rbit rPwrCapStat 8 then 0x18 else 0x19) else x.capWhy }).modeDo
              (if u.pwr.shed.isEmpty then (if u.rbit rPwrCapStat 8 then 0x18 else 0x19) else u.pwr.capWhy) fun s =>
                s.shedCluster i
        else u.startClock (3 + i)
      else if i.val < 11 then u.unparkQuarter (i - 7)
      else u)) := by
    change execIslandPowerUp i s = _
    unfold execIslandPowerUp
    simp only [hop, h2, hisl, hon, hu, bne_self_eq_false, Bool.not_true, Bool.or_false, Bool.false_eq_true, if_false]
    rfl
  refine ⟨_, hex, (State.island_of_reg (State.reg_powerDone _ (by decide)) i).trans ?_⟩
  rw [hcap, State.d0Running, hmode, State.d0Running]
  by_cases h8 : i.val < 8
  · rw [if_pos h8]
    by_cases hshed : (s.capActive && s.mode.baseRun && !s.mode.runPend) = true
    · have hcond : i.val < 8 ∧ s.capActive = true ∧ s.mode.baseRun = true ∧ s.mode.runPend = false := by
        simp only [Bool.and_eq_true, Bool.not_eq_true'] at hshed
        exact ⟨h8, hshed.1.1, hshed.1.2, hshed.2⟩
      rw [if_pos hshed, if_pos hcond, State.island_modeDo, State.island_shedCluster _ h8]
    · have hcond : ¬ (i.val < 8 ∧ s.capActive = true ∧ s.mode.baseRun = true ∧ s.mode.runPend = false) := fun h => hshed (by
        simp only [h.2.1, h.2.2.1, h.2.2.2, Bool.and_true, Bool.not_false])
      rw [if_neg hshed, if_neg hcond]
      exact hu0
  · rw [if_neg h8, if_neg (show ¬ (i.val < 8 ∧ s.capActive = true ∧ s.mode.baseRun = true ∧ s.mode.runPend = false) from
      fun h => h8 h.1)]
    by_cases h11 : i.val < 11
    · rw [if_pos h11, State.island_of_reg (u.reg_unparkQuarter _ (by decide)), hu0]
    · rw [if_neg h11, hu0]

end

/-! ### CAP_SAMPLE -/

/-- The readings of a sample: the eight sensors and the power estimate. -/
def State.capRead (temps : List (BitVec 16)) (est : Nat) (s : State) : State :=
  (forN 8 (fun i s => s.setReg (rPwrTemp i) ((temps.getD i 0).setWidth 32)) s).setFld rPwrPcap 16 12 est

/-- The two flags of the caps. -/
def State.capFlags (hot hard : Bool) (s : State) : State := (s.setBit rPwrCapStat 8 hot).setBit rPwrCapStat 9 hard

theorem State.reg_temps (temps : List (BitVec 16)) (s : State) {o : Nat} (ho : o < 0x010020) :
    (forN 8 (fun i s => s.setReg (rPwrTemp i) ((temps.getD i 0).setWidth 32)) s).reg o = s.reg o :=
  forN_keeps 8 _ (State.reg · o) (fun i t => State.reg_setReg_other t _ (by simp only [rPwrTemp]; omega)) s

theorem State.capRead_mode (temps : List (BitVec 16)) (est : Nat) (s : State) : (s.capRead temps est).mode = s.mode :=
  forN_keeps 8 (fun i (t : State) => t.setReg (rPwrTemp i) ((temps.getD i 0).setWidth 32)) State.mode (fun _ _ => rfl) s

theorem State.capRead_pwr (temps : List (BitVec 16)) (est : Nat) (s : State) : (s.capRead temps est).pwr = s.pwr :=
  forN_keeps 8 (fun i (t : State) => t.setReg (rPwrTemp i) ((temps.getD i 0).setWidth 32)) State.pwr (fun _ _ => rfl) s

theorem State.capRead_now (temps : List (BitVec 16)) (est : Nat) (s : State) : (s.capRead temps est).now = s.now :=
  forN_keeps 8 (fun i (t : State) => t.setReg (rPwrTemp i) ((temps.getD i 0).setWidth 32)) State.now (fun _ _ => rfl) s

theorem State.capFlags_mode (hot hard : Bool) (s : State) : (s.capFlags hot hard).mode = s.mode := rfl

theorem State.capFlags_pwr (hot hard : Bool) (s : State) : (s.capFlags hot hard).pwr = s.pwr := rfl

theorem State.capFlags_now (hot hard : Bool) (s : State) : (s.capFlags hot hard).now = s.now := rfl

theorem State.reg_capRead_temp (temps : List (BitVec 16)) (est : Nat) (s : State) {i : Nat} (hi : i < 8) :
    (s.capRead temps est).reg (rPwrTemp i) = (temps.getD i 0).setWidth 32 := by
  rw [State.capRead, State.reg_setFld_other _ _ _ _ (by simp only [rPwrTemp, rPwrPcap]; omega)]
  refine of_eq_true (forN_pointwise (get := fun i (t : State) => t.reg (rPwrTemp i) = (temps.getD i 0).setWidth 32)
    (next := fun _ => True) (fun _ => True) (fun _ _ _ _ => trivial) (fun i _ t _ => ?_) (fun i _ j _ hij t _ => ?_)
    (s := s) trivial i hi)
  · exact eq_true (State.reg_setReg_same _ _ _)
  · exact congrArg (· = _) (State.reg_setReg_other t _ (by simp only [rPwrTemp]; omega))

theorem State.rfld_capRead_est (temps : List (BitVec 16)) (est : Fin 4096) (s : State) :
    (s.capRead temps est).rfld rPwrPcap 16 12 = est :=
  (State.rfld_setFld_same _ _ _ _ _ (by omega)).trans (Nat.mod_eq_of_lt est.isLt)

theorem State.reg_capRead (temps : List (BitVec 16)) (est : Nat) (s : State) {o : Nat} (ho : o < 0x010020)
    (hp : o ≠ rPwrPcap) : (s.capRead temps est).reg o = s.reg o :=
  (State.reg_setFld_other _ _ _ _ hp).trans (s.reg_temps temps ho)

/-- `t` keeps the readings of `s` and its two flags of the caps: what a shed or a restore leaves alone. -/
def State.KeepsCaps (s t : State) : Prop :=
  (∀ o, o ≠ rPwrCapStat → o ≠ rPwrIslStat → o ≠ rTopModeReason → t.reg o = s.reg o) ∧
  ∀ k, k = 8 ∨ k = 9 → t.rbit rPwrCapStat k = s.rbit rPwrCapStat k

theorem State.KeepsCaps.of_regs {s t : State} (h : ∀ o, t.reg o = s.reg o) : s.KeepsCaps t :=
  ⟨fun o _ _ _ => h o, fun k _ => congrArg (·.getLsbD k) (h _)⟩

theorem State.KeepsCaps.trans {s t u : State} (h : s.KeepsCaps t) (h' : t.KeepsCaps u) : s.KeepsCaps u :=
  ⟨fun o h1 h2 h3 => (h'.1 o h1 h2 h3).trans (h.1 o h1 h2 h3), fun k hk => (h'.2 k hk).trans (h.2 k hk)⟩

theorem State.keepsCaps_setBit (s : State) {k : Nat} (v : Bool) (hk : k ≠ 8 ∧ k ≠ 9 ∧ k < 32) :
    s.KeepsCaps (s.setBit rPwrCapStat k v) :=
  ⟨fun o h _ _ => State.reg_setBit_other _ _ _ h, fun j hj => by
    rw [State.rbit_setBit _ _ _ _ _ _ hk.2.2, if_neg (by omega)]⟩

theorem State.keepsCaps_modPwr (s : State) (f : PowerState → PowerState) : s.KeepsCaps (s.modPwr f) := .of_regs fun _ => rfl

theorem State.keepsCaps_unshed (s : State) {c : Nat} (v : Nat) (hc : c < 8) : s.KeepsCaps (s.unshed c v) := by
  have hisl : s.KeepsCaps (s.setIsland c v) :=
    ⟨fun o _ h _ => State.reg_setFld_other _ _ _ _ h, fun k _ => State.rbit_setFld_other _ _ (.inl (by decide))⟩
  exact hisl.trans (State.keepsCaps_setBit _ false (by omega))

theorem State.keepsCaps_modeDo (s : State) (r : Nat) (f : State → State) (h : s.KeepsCaps (f s)) : s.KeepsCaps (s.modeDo r f) :=
  h.trans ⟨fun o _ _ ho => State.modeDo_reg s r f o ho, fun k _ => congrArg (·.getLsbD k)
    (State.modeDo_reg s r f rPwrCapStat (by decide))⟩

theorem State.keepsCaps_decideSheds (l : List Nat) (s : State) : s.KeepsCaps (l.foldl State.decideShed s) :=
  .of_regs fun o => foldl_keeps l State.decideShed (State.reg · o) (fun _ _ => rfl) s

theorem State.nextShed_of_reg {s t : State} (hi : t.reg rPwrIslStat = s.reg rPwrIslStat)
    (hp : t.reg rPwrShedPrio = s.reg rPwrShedPrio) (hdue : t.pwr.due = s.pwr.due) : t.nextShed = s.nextShed := by
  simp only [State.nextShed, State.island_of_reg hi, State.rfld, hp, hdue]
  rfl

section
variable (temps : List (BitVec 16)) (est : Fin 4096) (s : State)

/-- A cap that holds too high a temperature, by the registers of the sample. -/
def State.capHot : Bool := s.rbit rPwrCapCtrl 0 && decide (((16 * s.rfld rPwrCapCtrl 8 8 : Nat) : Int) ≤ maxTemp temps)

/-- A cap that holds too high a power. -/
def State.capHard : Bool := s.rbit rPwrCapCtrl 1 && decide (s.rfld rPwrPcap 0 12 ≤ est.val)

/-- A sample writes its readings and the flags; what it then decides keeps them. -/
theorem exec_capSample (hshed : ∀ c ∈ s.pwr.shed, c < 8) :
    ∃ u t, exec (.capSample temps est) s = .next t ∧ u = ((s.capRead temps est).capFlags (s.capHot temps) (s.capHard est)) ∧
      u.KeepsCaps t ∧ (s.d0Running = false → t.pwr.due = s.pwr.due) ∧
      (∀ c, s.d0Running = true → s.mode.runPend = false → maxTemp temps < 1840 → u.capActive = true → s.pwr.lastShed = none →
        u.nextShed = some c → t.pwr.due = s.pwr.due ++ [c] ∧ t.pwr.lastShed = some s.now) := by
  change ∃ u t, execCapSample temps est s = _ ∧ _
  unfold execCapSample
  extract_lets u1 u2 m hi lo cap u3 u4 below u5 u6 u7 mayShed mayBack
  have hu2 : u2 = s.capRead temps est := rfl
  have hu4 : u4 = (s.capRead temps est).capFlags (s.capHot temps) (s.capHard est) := by
    have hctrl : ∀ t : State, t.reg rPwrCapCtrl = s.reg rPwrCapCtrl → ∀ k, t.rbit rPwrCapCtrl k = s.rbit rPwrCapCtrl k :=
      fun t h k => congrArg (bit · k) h
    have h2 : u2.reg rPwrCapCtrl = s.reg rPwrCapCtrl := s.reg_capRead temps est (by decide) (by decide)
    have hcap : u2.rfld rPwrPcap 0 12 = s.rfld rPwrPcap 0 12 := 
      (State.rfld_setFld_other _ _ (.inr (by omega))).trans (congrArg (fld · 0 12) (s.reg_temps temps (by decide)))
    have h3 : u3.reg rPwrCapCtrl = s.reg rPwrCapCtrl := (State.reg_setBit_other _ _ _ (by decide)).trans h2
    dsimp only [u4]
    rw [State.capFlags, State.capHard, hctrl u3 h3]
    dsimp only [u3, cap, hi]
    have hthr : u2.rfld rPwrCapCtrl 8 8 = s.rfld rPwrCapCtrl 8 8 := congrArg (fld · 8 8) h2
    simp only [State.capHot, hctrl u2 h2, hcap, hthr]
    rfl
  have hmode4 : u4.mode = s.mode := hu4 ▸ (State.capFlags_mode _ _ _).trans (s.capRead_mode temps est)
  have hpwr4 : u4.pwr = s.pwr := hu4 ▸ (State.capFlags_pwr _ _ _).trans (s.capRead_pwr temps est)
  have hnow4 : u4.now = s.now := hu4 ▸ (State.capFlags_now _ _ _).trans (s.capRead_now temps est)
  have hmode : u5.mode = s.mode := hmode4
  have hnow : u5.now = s.now := hnow4
  have h45 : u4.KeepsCaps u5 := State.keepsCaps_modPwr _ _
  have hnext5 : u5.nextShed = u4.nextShed := rfl
  have hdue : u5.pwr.due = s.pwr.due :=
    (show u5.pwr.due = u4.pwr.due from rfl).trans (congrArg PowerState.due hpwr4)
  have hlast : u5.pwr.lastShed = s.pwr.lastShed :=
    (show u5.pwr.lastShed = u4.pwr.lastShed from rfl).trans (congrArg PowerState.lastShed hpwr4)
  have hshed5 : u5.pwr.shed = s.pwr.shed :=
    (show u5.pwr.shed = u4.pwr.shed from rfl).trans (congrArg PowerState.shed hpwr4)
  have h57 : u5.KeepsCaps u7 := by
    dsimp only [u7, u6]
    split
    · exact ((u5.keepsCaps_setBit true (by decide)).trans (State.keepsCaps_modPwr _ _)).trans (State.keepsCaps_decideSheds _ _)
    · exact .of_regs fun _ => rfl
  have hshed7 : u7.pwr.shed = s.pwr.shed := by
    dsimp only [u7, u6]
    split
    · exact (foldl_keeps _ State.decideShed (fun t => t.pwr.shed) (fun _ _ => rfl) _).trans hshed5
    · exact hshed5
  have hcold : maxTemp temps < 1840 → u7 = u5 := fun h => if_neg (by omega)
  clear_value u7
  rw [State.d0Running, hmode]
  by_cases hrun : (!s.mode.baseRun || s.mode.runPend) = true
  · rw [if_pos hrun]
    refine ⟨u4, u5, rfl, hu4, h45, fun _ => hdue, fun c h1 h2 => ?_⟩
    simp [State.d0Running] at h1
    simp [h1, h2] at hrun
  rw [if_neg hrun]
  have hd0 : s.d0Running = false → False := by
    intro h
    simp [State.d0Running] at h
    simp [h] at hrun
  have hdecide : u7.KeepsCaps (match u7.nextShed with | some c => u7.decideShed c | none => u7) := by
    split
    · exact .of_regs fun _ => rfl
    · exact .of_regs fun _ => rfl
  by_cases hcap : (u7.capActive && mayShed) = true
  · rw [if_pos hcap]
    refine ⟨u4, _, rfl, hu4, (h45.trans h57).trans hdecide, fun h => (hd0 h).elim, fun c _ _ ht _ _ hnext => ?_⟩
    rw [hcold ht, hnext5, hnext]
    exact ⟨congrArg (· ++ [c]) hdue, congrArg some hnow⟩
  · rw [if_neg hcap]
    have hnever : maxTemp temps < 1840 → u4.capActive = true → s.pwr.lastShed = none → False := fun ht hact hl => by
      have h5 : u5.capActive = true := hact
      simp [h5, mayShed, hcold ht, hlast, hl] at hcap
    by_cases hback : mayBack = true
    · rw [if_pos hback]
      split
      · exact ⟨u4, _, rfl, hu4, h45.trans h57, fun h => (hd0 h).elim, fun c _ _ ht ha hl _ => (hnever ht ha hl).elim⟩
      next c l hc =>
        have h8 : c < 8 := hshed c (hshed7 ▸ hc ▸ List.mem_cons_self)
        exact ⟨u4, _, rfl, hu4, (h45.trans h57).trans ((State.keepsCaps_modeDo _ _ _ (State.keepsCaps_unshed _ _ h8)).trans
          (State.keepsCaps_modPwr _ _)), fun h => (hd0 h).elim, fun c _ _ ht ha hl _ => (hnever ht ha hl).elim⟩
    · rw [if_neg hback]
      exact ⟨u4, _, rfl, hu4, h45.trans h57, fun h => (hd0 h).elim, fun c _ _ ht ha hl _ => (hnever ht ha hl).elim⟩

end

/-- Settles O58: the outcomes of POWER_SET, then the islands that go down and come up, then the sample of the caps. -/
theorem islandsAndCaps : Obligations.IslandsAndCaps := by
  unfold Obligations.IslandsAndCaps
  refine ⟨fun c q s d hready => ⟨exec_powerSet_waits hready, fun hop hkeep => ⟨fun h => ?_, ?_⟩⟩,
    fun i s => ⟨execIsland_no_op i s, ?_⟩,
    fun temps est s => ?_⟩
  · exact ⟨_, exec_powerSet_bad hready hop hkeep h, State.ended_finish hready _, (s.finish_frame c _ _).regs rfl⟩
  · exact execPowerSet_outcomes c q s d hready hop hkeep
  · exact fun o hop => ⟨fun h => (execIslandPowerDown_going i s o hop h).1, fun h => (execIslandPowerDown_going i s o hop h).2,
      execIslandPowerUp_off i s o hop⟩
  · intro hot hard hshed
    obtain ⟨u, t, hex, hu, ⟨hreg, hbit⟩, hdue, hshedNext⟩ := exec_capSample temps est s hshed
    have hu8 : u.rbit rPwrCapStat 8 = hot := by
      rw [hu, State.capFlags, State.rbit_setBit _ _ _ _ _ _ (by decide), if_neg (by decide),
        State.rbit_setBit_same _ _ _ _ (by decide)]
      rfl
    have hu9 : u.rbit rPwrCapStat 9 = hard := by
      rw [hu, State.capFlags, State.rbit_setBit_same _ _ _ _ (by decide)]
      rfl
    have hur : ∀ o, o ≠ rPwrCapStat → u.reg o = (s.capRead temps est).reg o := fun o ho => by
      rw [hu, State.capFlags, State.reg_setBit_other _ _ _ ho, State.reg_setBit_other _ _ _ ho]
    have hact : u.capActive = (hot || hard) := by rw [State.capActive, hu8, hu9]
    have hnext : u.nextShed = s.nextShed := by
      refine State.nextShed_of_reg ?_ ?_ ?_
      · exact (hur _ (by decide)).trans (s.reg_capRead temps est (by decide) (by decide))
      · exact (hur _ (by decide)).trans (s.reg_capRead temps est (by decide) (by decide))
      · rw [hu]
        rw [State.capFlags_pwr, State.capRead_pwr]
    refine ⟨t, hex, fun i hi => ?_, ?_, (hbit 8 (.inl rfl)).trans hu8, (hbit 9 (.inr rfl)).trans hu9, hdue,
      fun c h1 h2 h3 h4 h5 h6 => hshedNext c h1 h2 h3 (hact.trans h4) h5 (hnext.trans h6)⟩
    · rw [hreg _ (by simp only [rPwrTemp, rPwrCapStat]; omega) (by simp only [rPwrTemp, rPwrIslStat]; omega)
        (by simp only [rPwrTemp, rTopModeReason]; omega), hur _ (by simp only [rPwrTemp, rPwrCapStat]; omega),
        State.reg_capRead_temp _ _ _ hi]
    · rw [State.rfld, hreg _ (by decide) (by decide) (by decide), hur _ (by decide)]
      exact State.rfld_capRead_est temps est s

end Sys2Proof.Machine

/-! Self-test. -/

namespace Sys2Proof.Machine

/-! ### TEST_RUN -/

/-- TEST.STAT while a test of path `path` runs. -/
def State.testShown (s : State) (path t : Nat) : State :=
  (((s.setBit rTestStat 0 true).setFld rTestStat 1 3 0).setFld rTestStat 4 6 t).setFld rTestStat 10 2 path

theorem rTestStat_ne_rCtxtErr (c : Nat) : rTestStat ≠ rCtxtErr c := by
  unfold rTestStat rCtxtErr
  omega

theorem State.testBegin_fields (s : State) (path t : Nat) (desc : Option (Nat × Nat)) :
    (s.testBegin path t desc).test = { run := some t, started := s.now, desc := desc, record := s.test.record } ∧
    (s.testBegin path t desc).mode = { s.mode with selfTest := true } ∧
    (s.testBegin path t desc).reg rTestStat = (s.testShown path t).reg rTestStat := by
  unfold State.testBegin
  extract_lets shown mode run hit told
  have hkept : Kept {
      regs := true, eng := true, fab := true, cal := true, ctx := true, port := true, pcie := true, ngx := true, calMem := true
      } run (forN 32 (fun e u => u.lmRestore e) told.dacStopAll.sinterRestore) := by
    refine forN_kept ?_ fun _ _ h => State.lmRestore_kept rfl rfl h
    refine State.sinterRestore_kept rfl rfl rfl rfl (State.dacStopAll_kept rfl rfl ?_)
    exact foldl_kept (Kept.refl _) fun _ _ h => foldl_kept h fun _ _ h => State.logEvent_kept rfl rfl rfl rfl rfl h
  have hmode := shown.modeDo_parts 0x30 fun s => { s with mode := { s.mode with selfTest := true } }
  have htest : mode.test = s.test := hmode.test rfl
  have hnow : mode.now = s.now := State.now_modeDo ..
  refine ⟨(hkept.test rfl).trans ?_, (hkept.mode rfl).trans (hmode.mode rfl), ?_⟩
  · dsimp only [run]
    rw [htest, hnow]
  · have hrun : run.reg rTestStat = shown.reg rTestStat := shown.modeDo_reg 0x30 _ _ (by decide)
    have htold : told.reg rTestStat = run.reg rTestStat :=
      foldl_keeps hit _ (State.reg · rTestStat) (fun u i => foldl_keeps (u.liveCluster i) _ (State.reg · rTestStat)
        (fun v c => v.reg_logEvent c 0x22 0xFF 0xFF (2 ^ i) (rTestStat_ne_rCtxtErr c)) u) run
    calc (forN 32 (fun e u => u.lmRestore e) told.dacStopAll.sinterRestore).reg rTestStat
        = told.dacStopAll.sinterRestore.reg rTestStat :=
          forN_keeps 32 _ (State.reg · rTestStat) (fun e u => u.reg_lmRestore e rTestStat) _
      _ = told.dacStopAll.reg rTestStat := State.reg_sinterRestore _ (by decide) (by decide)
      _ = told.reg rTestStat := told.reg_dacStopAll (by decide)
      _ = shown.reg rTestStat := htold.trans hrun

section
variable (s : State) (path t : Nat)

theorem State.rbit_testShown : (s.testShown path t).rbit rTestStat 0 = true := by
  unfold State.testShown
  rw [State.rbit_setFld_other _ _ (by omega), State.rbit_setFld_other _ _ (by omega), State.rbit_setFld_other _ _ (by omega),
    State.rbit_setBit_same _ _ _ _ (by omega)]

theorem State.rfld_testShown (ht : t < 64) : (s.testShown path t).rfld rTestStat 4 6 = t := by
  unfold State.testShown
  rw [State.rfld_setFld_other _ _ (by omega), State.rfld_setFld_same _ _ _ _ _ (by omega)]
  exact Nat.mod_eq_of_lt ht

end

theorem State.testCode_lt {s : State} {t : Nat} (h : s.testCause t = 0) : t < 32 := by
  refine Nat.lt_of_not_le fun hge => ?_
  unfold State.testCause at h
  rw [if_pos (by simp; omega)] at h
  cases h

section
variable {c : Fin 512} {q : BitVec 32} {s : State} {d : OpenDesc} (hready : s.ready c q.toNat tTestRun = some d)
include hready

theorem exec_testRun : exec (.testRun c q) s =
    if !s.keeperRuns then .next s
    else if d.extra != 0 || !(d.onlyUses [(16, 1), (24, 8)]) || !(windowOk (d.num 24 8) 256) then .next (s.finish c q.toNat 0x10)
    else if s.testCause (d.num 16 1) ≠ 0 then .next ((s.testStart 0 (d.num 16 1) none).finish c q.toNat 0x10)
    else .next ((s.grant c q.toNat).testStart 0 (d.num 16 1) (some (c.val, q.toNat))) := by
  change execTestRun c q s = _
  unfold execTestRun
  simp only [hready]

variable (hkeep : s.keeperRuns = true)
include hkeep

theorem exec_testRun_extra (hextra : d.extra ≠ 0) : exec (.testRun c q) s = .next (s.finish c q.toNat 0x10) := by
  rw [exec_testRun hready, if_neg (by simp [hkeep]), if_pos (by simp [hextra])]

variable (hextra : d.extra = 0) (huses : d.onlyUses [(16, 1), (24, 8)] = true) (hwin : windowOk (d.num 24 8) 256 = true)
include hextra huses hwin

theorem execTestRun_refused (h : s.testCause (d.num 16 1) ≠ 0) : ∃ t, exec (.testRun c q) s = .next t ∧
    t.ended c q.toNat 0x10 ∧ t.rfld rTestStat 12 3 = s.testCause (d.num 16 1) ∧ t.test = s.test := by
  have hle := s.testCause_le (d.num 16 1)
  have hstart : s.testStart 0 (d.num 16 1) none = s.setFld rTestStat 12 3 (s.testCause (d.num 16 1)) := if_neg h
  refine ⟨_, ?_, State.ended_finish (s := s.setFld rTestStat 12 3 (s.testCause (d.num 16 1))) (t := tTestRun) (d :=
    d) ?_ _, ?_, ?_⟩
  · rw [exec_testRun hready, if_neg (by simp [hkeep]), if_neg (by simp [hextra, huses, hwin]), if_pos h, hstart]
  · exact hready
  · rw [State.rfld, State.reg_finish, ← State.rfld, State.rfld_setFld_same _ _ _ _ _ (by omega), Nat.mod_eq_of_lt (by omega)]
  · exact (State.finish_frame _ _ _ _).test rfl

theorem execTestRun_started (h : s.testCause (d.num 16 1) = 0) : ∃ t, exec (.testRun c q) s = .next t ∧
    t.rbit rTestStat 0 = true ∧ t.rfld rTestStat 4 6 = d.num 16 1 ∧ t.test.run = some (d.num 16 1) ∧ t.test.done = [] ∧
    t.mode = { s.mode with selfTest := true } := by
  have hcause : (s.grant c q.toNat).testCause (d.num 16 1) = 0 := h
  have hlt := State.testCode_lt h
  obtain ⟨htest, hmode, hreg⟩ := (s.grant c q.toNat).testBegin_fields 0 (d.num 16 1) (some (c.val, q.toNat))
  refine ⟨(s.grant c q.toNat).testBegin 0 (d.num 16 1) (some (c.val, q.toNat)), ?_, ?_, ?_, ?_, ?_, hmode⟩
  · rw [exec_testRun hready, if_neg (by simp [hkeep]), if_neg (by simp [hextra, huses, hwin]), if_neg (by simp [h]),
      State.testStart, if_pos hcause]
  · rw [State.rbit, hreg]
    exact State.rbit_testShown ..
  · rw [State.rfld, hreg]
    exact State.rfld_testShown _ _ _ (by omega)
  · rw [htest]
  · rw [htest]

end

/-! ### What a test leaves alone -/

theorem State.reg_withCal (s : State) (c : CalderaState) (o : Nat) : State.reg { s with cal := c } o = s.reg o := rfl

theorem State.reg_retireTile (s : State) (t : Nat) {o : Nat} (hcap : o ≠ rCaldCap) (hbank : ∀ b < 64, o ≠ rCaldBankStat b) :
    (s.retireTile t).reg o = s.reg o := by
  unfold State.retireTile
  extract_lets st u v b
  have hb : b < 64 := by
    dsimp only [b, calBank, calQuarter]
    omega
  have hu : u.reg o = s.reg o := by
    dsimp only [u]
    split
    · exact State.reg_setFld_other _ _ _ _ hcap
    · rfl
  have hv : v.reg o = u.reg o := State.reg_setFld_other _ _ _ _ hcap
  exact (State.reg_setFld_other v _ _ _ (hbank b hb)).trans (hv.trans hu)

theorem State.reg_tileOutcome (s : State) (br : Nat) {o : Nat} (hcap : o ≠ rCaldCap) (hbank : ∀ b < 64, o ≠ rCaldBankStat b)
    (hctx : ∀ c, o ≠ rCtxtErr c) : (s.tileOutcome br).reg o = s.reg o := by
  unfold State.tileOutcome
  extract_lets t
  split
  · exact s.reg_retireTile _ hcap hbank
  · exact State.reg_logEvent _ _ _ _ _ _ (hctx _)
  · exact s.reg_retireTile _ hcap hbank
  · rfl

theorem State.reg_rowFailing (s : State) (br : Nat) {o : Nat} (hcap : o ≠ rCaldCap) (hbank : ∀ b < 64, o ≠ rCaldBankStat b)
    (hctx : ∀ c, o ≠ rCtxtErr c) : (s.rowFailing br).reg o = s.reg o := by
  unfold State.rowFailing
  split
  · rfl
  · extract_lets cal t
    split
    · exact t.reg_tileOutcome _ hcap hbank hctx
    · rfl

/-- State `t` keeps of `s` what decides which test runs next. -/
structure State.SameTest (s t : State) : Prop where
  run : t.test.run = s.test.run
  done : t.test.done = s.test.done
  dacs : t.reg rConvDacStat = s.reg rConvDacStat
  mov : t.mov = s.mov

theorem State.SameTest.refl (s : State) : s.SameTest s := ⟨rfl, rfl, rfl, rfl⟩

theorem State.SameTest.trans {s t u : State} (h : s.SameTest t) (h' : t.SameTest u) : s.SameTest u :=
  ⟨h'.run.trans h.run, h'.done.trans h.done, h'.dacs.trans h.dacs, h'.mov.trans h.mov⟩

theorem State.sameTest_modTest (s : State) (f : TestState → TestState) (hrun : (f s.test).run = s.test.run)
    (hdone : (f s.test).done = s.test.done) : s.SameTest (s.modTest f) := ⟨hrun, hdone, rfl, rfl⟩

theorem State.sameTest_foldl {α : Type} (l : List α) (f : State → α → State) (h : ∀ (s : State) (a), a ∈ l → s.SameTest (f s a))
    (s : State) :
    s.SameTest (l.foldl f s) :=
  List.foldlRecOn (motive := s.SameTest) l f (.refl s) fun t ht a ha => ht.trans (h t a ha)

theorem State.sameTest_testTouch (s : State) : s.SameTest s.testTouch := ⟨rfl, rfl, rfl, rfl⟩

theorem State.sameTest_testEngines (s : State) (f : Engine → Engine) : s.SameTest (s.testEngines f) := by
  have hkept : Kept { eng := true } s (s.testEngines f) := State.testEngines_kept rfl (Kept.refl s)
  exact ⟨congrArg TestState.run (hkept.test rfl), congrArg TestState.done (hkept.test rfl), hkept.reg rfl _, hkept.mov rfl⟩

theorem State.sameTest_testProgMem (s : State) (rows : List (Fin 32)) : s.SameTest (s.testProgMem rows) := by
  unfold State.testProgMem
  extract_lets t
  have ht : s.SameTest t := s.sameTest_testTouch.trans (State.sameTest_testEngines _ _)
  refine ht.trans (State.sameTest_foldl rows _ (fun u e _ => ?_) t)
  extract_lets n v
  split
  · exact ⟨rfl, rfl, rfl, rfl⟩
  · exact ⟨rfl, rfl, rfl, rfl⟩

theorem rCaldLmr_ne {e : Nat} (he : e < 32) : rConvDacStat ≠ rCaldLmr e := by
  unfold rConvDacStat rCaldLmr
  omega

theorem rConvDacStat_ne_rCtxtErr (c : Nat) : rConvDacStat ≠ rCtxtErr c := by
  unfold rConvDacStat rCtxtErr
  omega

theorem State.dacs_lmRegionFails (s : State) {e : Nat} (r : Nat) (he : e < 32) :
    (s.lmRegionFails e r).reg rConvDacStat = s.reg rConvDacStat := by
  unfold State.lmRegionFails
  split
  · rfl
  · rw [State.reg_setFld_other _ _ _ _ (rCaldLmr_ne he), State.reg_bump_other _ _ _ (rCaldLmr_ne he)]
    rfl

theorem State.dacs_lmRegionRepair (s : State) {e : Nat} (r : Nat) (he : e < 32) :
    (s.lmRegionRepair e r).reg rConvDacStat = s.reg rConvDacStat := by
  unfold State.lmRegionRepair
  extract_lets k used x x' u v c owners c' w
  split
  · rfl
  split
  · have hu : u.reg rConvDacStat = s.reg rConvDacStat := State.reg_setFld_other _ _ _ _ (rCaldLmr_ne he)
    exact (State.reg_setBit_other u _ _ (rCaldLmr_ne he)).trans hu
  split
  · rfl
  · exact foldl_keeps _ _ (State.reg · rConvDacStat) (fun t c => t.reg_logEvent _ _ _ _ _ (rConvDacStat_ne_rCtxtErr c)) w

theorem State.sameTest_testLocalMem (s : State) (bad : List (Fin 32768)) : s.SameTest (s.testLocalMem bad) := by
  unfold State.testLocalMem
  extract_lets t
  have ht : s.SameTest t := s.sameTest_testTouch.trans (State.sameTest_testEngines _ _)
  refine ht.trans (State.sameTest_foldl bad _ (fun u k _ => ?_) t)
  extract_lets e r fresh v
  have hkept : Kept { regs := true, eng := true, fab := true, cal := true, ctx := true, pcie := true, ngx := true } u
      ((u.lmRegionFails e r).lmRegionRepair e r) :=
    State.lmRegionRepair_kept rfl rfl rfl rfl rfl rfl rfl (State.lmRegionFails_kept rfl rfl (Kept.refl u))
  have he : e < 32 := by
    dsimp only [e]
    omega
  have hw : u.SameTest ((u.lmRegionFails e r).lmRegionRepair e r) :=
    ⟨congrArg TestState.run (hkept.test rfl), congrArg TestState.done (hkept.test rfl),
      (State.dacs_lmRegionRepair _ r he).trans (State.dacs_lmRegionFails _ r he), hkept.mov rfl⟩
  have hv : u.SameTest v := hw.trans (State.sameTest_modTest _ _ rfl rfl)
  split
  · exact hv.trans (State.sameTest_modTest _ _ rfl rfl)
  · exact hv

theorem calBank_lt (a : Nat) : calBank a < 64 := by
  unfold calBank calQuarter
  omega

theorem rCaldBankStat_ne {b : Nat} (hb : b < 64) : rConvDacStat ≠ rCaldBankStat b := by
  unfold rConvDacStat rCaldBankStat
  omega

theorem State.dacs_rowFailing (s : State) (br : Nat) : (s.rowFailing br).reg rConvDacStat = s.reg rConvDacStat :=
  s.reg_rowFailing br (by decide) (fun _ => rCaldBankStat_ne) rConvDacStat_ne_rCtxtErr

theorem State.dacs_eccCorrect (s : State) (w : Nat) : (s.eccCorrect w).reg rConvDacStat = s.reg rConvDacStat := by
  have hcount : ((s.bump rCaldEccStat 0 16).bump (rCaldBankStat (calBank (8 * w))) 24 8).reg rConvDacStat =
      s.reg rConvDacStat := by
    rw [State.reg_bump_other _ _ _ (rCaldBankStat_ne (calBank_lt _)), State.reg_bump_other _ _ _ (by decide)]
  unfold State.eccCorrect
  generalize (s.bump rCaldEccStat 0 16).bump (rCaldBankStat (calBank (8 * w))) 24 8 = t at hcount
  extract_lets br u' c u n
  clear_value c
  have hu : u.reg rConvDacStat = t.reg rConvDacStat := State.reg_withCal ..
  split
  · exact (u.dacs_rowFailing _).trans (hu.trans hcount)
  · exact hu.trans hcount

theorem State.dacs_eccRead (s : State) (w m : Nat) : (s.eccRead w m).2.reg rConvDacStat = s.reg rConvDacStat := by
  unfold State.eccRead
  split
  · rfl
  extract_lets w
  split
  · rfl
  · dsimp only
    split
    · rfl
    · exact s.dacs_eccCorrect _
  · dsimp only
    rw [State.eccUncorrectable, State.dacs_rowFailing, State.reg_setReg_other _ _ (by decide),
      State.reg_setBit_other _ _ _ (by decide)]

theorem State.dacs_setEcc (s : State) (w : Nat) (poison : Bool) : (s.setEcc w poison).reg rConvDacStat = s.reg rConvDacStat := by
  have key : ∀ t : State, t.regs = s.regs →
      (if poison then t.setBit rCaldEccStat 17 true else t).reg rConvDacStat = s.reg rConvDacStat := by
    intro t ht
    split
    · rw [State.reg_setBit_other _ _ _ (by decide), State.reg, ht, State.reg]
    · rw [State.reg, ht, State.reg]
  unfold State.setEcc
  refine key _ ?_
  split
  · rfl
  · rfl

theorem State.dacs_rowRepair (s : State) {br : Nat} (hbr : br < 65536) :
    (s.rowRepair br).reg rConvDacStat = s.reg rConvDacStat := by
  have hb : rConvDacStat ≠ rCaldBankStat (br / 1024) := rCaldBankStat_ne (by omega)
  unfold State.rowRepair
  extract_lets b used w0 t c u
  split
  · rfl
  split
  · exact s.reg_tileOutcome br (by decide) (fun _ => rCaldBankStat_ne) rConvDacStat_ne_rCtxtErr
  · have ht : t.reg rConvDacStat = s.reg rConvDacStat :=
      foldl_keeps _ _ (State.reg · rConvDacStat) (fun v i => (State.dacs_setEcc _ _ _).trans (v.dacs_eccRead _ _)) s
    exact (State.reg_setBit_other _ _ _ hb).trans ((State.reg_setFld_other u _ _ _ hb).trans ht)

theorem State.sameTest_testCaldera (s : State) (bad : List (Fin 65536)) : s.SameTest (s.testCaldera bad) := by
  unfold State.testCaldera
  extract_lets free c t
  have ht : s.SameTest t := ⟨rfl, rfl, rfl, rfl⟩
  refine ht.trans (State.sameTest_foldl _ _ (fun u k _ => ?_) t)
  extract_lets fresh v
  have hkept : Kept { regs := true, fab := true, cal := true, ctx := true, pcie := true, ngx := true } u
      ((u.rowFailing k.val).rowRepair k.val) :=
    State.rowRepair_kept rfl rfl rfl rfl rfl rfl (State.rowFailing_kept rfl rfl rfl rfl rfl rfl (Kept.refl u))
  have hw : u.SameTest ((u.rowFailing k.val).rowRepair k.val) :=
    ⟨congrArg TestState.run (hkept.test rfl), congrArg TestState.done (hkept.test rfl),
      (State.dacs_rowRepair _ k.isLt).trans (State.dacs_rowFailing _ _), hkept.mov rfl⟩
  have hv : u.SameTest v := hw.trans (State.sameTest_modTest _ _ rfl rfl)
  split
  · exact hv.trans (State.sameTest_modTest _ _ rfl rfl)
  · exact hv

theorem State.sameTest_misrCheck (s : State) (ok : Bool) : s.SameTest (s.misrCheck ok) := by
  unfold State.misrCheck
  split
  · exact ⟨rfl, rfl, rfl, rfl⟩
  · exact ⟨rfl, rfl, rfl, rfl⟩

theorem State.sameTest_testEngineLogic (s : State) (misrs : List (BitVec 64)) : s.SameTest (s.testEngineLogic misrs) := by
  unfold State.testEngineLogic
  extract_lets cs t
  have ht : s.SameTest t := ⟨rfl, rfl, rfl, rfl⟩
  exact ht.trans (t.sameTest_misrCheck _)

/-! ### The tests in their order -/

theorem State.testDo_next {s : State} {k : Nat} (h : s.testNext k = true) (f : State → State) :
    s.testDo k f = (f s).modTest fun x => { x with done := x.done ++ [k] } := if_pos h

theorem State.done_testDo {s : State} {k : Nat} (h : s.testNext k = true) {f : State → State} (hf : s.SameTest (f s)) :
    (s.testDo k f).test.done = s.test.done ++ [k] := by
  rw [State.testDo_next h]
  exact congrArg (· ++ [k]) hf.done

theorem State.rows_testProgMem (s : State) (rows : List (Fin 32)) :
    (s.testProgMem rows).test.rows = s.test.rows + rows.length := by
  unfold State.testProgMem
  extract_lets t
  have hkept : Kept { eng := true } s.testTouch t := State.testEngines_kept rfl (Kept.refl _)
  have ht : t.test.rows = s.test.rows := (congrArg TestState.rows (hkept.test rfl)).trans rfl
  clear_value t
  rw [← ht]
  clear hkept ht
  induction rows generalizing t with
  | nil => rfl
  | cons e rows ih =>
    rw [List.foldl_cons, ih, List.length_cons]
    have hone : ∀ u : State, u.test.rows = t.test.rows + 1 → u.test.rows + rows.length = t.test.rows + (rows.length + 1) := by
      omega
    refine hone _ ?_
    extract_lets n u c
    have hu : u.test.rows = t.test.rows + 1 := rfl
    split
    · exact hu
    · exact hu

theorem State.seedReset_of_reg {s t : State} (hlo : t.reg rTestSeedLo = s.reg rTestSeedLo)
    (hhi : t.reg rTestSeedHi = s.reg rTestSeedHi) :
    t.seedReset = s.seedReset := by rw [State.seedReset, State.seedReset, hlo, hhi]

theorem State.bad_misrCheck (s : State) (ok : Bool) : (s.misrCheck ok).test.bad = (s.test.bad || s.seedReset && !ok) := by
  unfold State.misrCheck
  split
  next h => 
    rw [h, Bool.true_and]
    rfl
  next h => 
    rw [Bool.eq_false_iff.mpr h, Bool.false_and, Bool.or_false]
    rfl

theorem State.bad_testEngineLogic (s : State) (misrs : List (BitVec 64)) : (s.testEngineLogic misrs).test.bad =
    (s.test.bad || s.seedReset && s.testClusters.any fun c => misrs.getD c 0 != 0x6E1D47A09C35B28F) := by
  unfold State.testEngineLogic
  extract_lets cs t
  have hbad : t.test.bad = s.test.bad := rfl
  have hseed : t.seedReset = s.seedReset := rfl
  rw [State.bad_misrCheck, hbad, hseed, List.not_all_eq_any_not]
  rfl

theorem rAsrcStat_ne {n : Nat} (hn : n < 256) : rTestSeedLo ≠ rAsrcStat n ∧ rTestSeedHi ≠ rAsrcStat n := by
  unfold rTestSeedLo rTestSeedHi rAsrcStat
  omega

/-- A loop keeps what each of its steps keeps. -/
theorem forN_keeps_lt {σ α : Type} (n : Nat) (f : Nat → σ → σ) (g : σ → α) (h : ∀ i < n, ∀ s, g (f i s) = g s) (s : σ) :
    g (forN n f s) = g s := by
  unfold forN
  exact List.foldlRecOn (motive := fun t => g t = g s) (List.range n) _ rfl fun t ht i hi =>
    (h i (List.mem_range.mp hi) t).trans ht

theorem State.testFabricLogic_fields (s : State) (misr : BitVec 64) : (s.testFabricLogic misr).test.done = s.test.done ∧
    (s.testFabricLogic misr).test.misrFab = misr ∧
    (s.testFabricLogic misr).test.bad = (s.test.bad || s.seedReset && misr != 0x1B94D0E753A62C81) := by
  unfold State.testFabricLogic
  extract_lets br ch r t u
  have hstep : ∀ o, (∀ n < 256, o ≠ rAsrcStat n) → u.reg o = t.reg o := fun o ho =>
    forN_keeps_lt 256 _ (State.reg · o) (fun n hn v => by
      split
      · exact State.reg_setFld_other _ _ _ _ (ho n hn)
      · rfl) t
  have htest : u.test = t.test := forN_keeps_lt 256 _ State.test (fun n _ v => by
    split
    · rfl
    · rfl) t
  have hseed : u.seedReset = s.seedReset :=
    State.seedReset_of_reg (hstep _ fun n hn => (rAsrcStat_ne hn).1) (hstep _ fun n hn => (rAsrcStat_ne hn).2)
  clear_value u
  have hsame := (u.modTest fun x => { x with misrFab := misr }).sameTest_misrCheck (misr == 0x1B94D0E753A62C81)
  refine ⟨?_, ?_, ?_⟩
  · rw [hsame.done]
    exact (show _ = u.test.done from rfl).trans (congrArg TestState.done htest)
  · unfold State.misrCheck
    split
    · rfl
    · rfl
  · rw [State.bad_misrCheck]
    have hbad : u.test.bad = s.test.bad := congrArg TestState.bad htest
    change (u.test.bad || u.seedReset && _) = _
    rw [hbad, hseed]
    rfl

/-- ALL runs the five tests one after the other. -/
theorem execTestAll_done (s : State) (rows : List (Fin 32)) (lm : List (Fin 32768)) (cal : List (Fin 65536))
    (misrs : List (BitVec 64)) (misr : BitVec 64) (code : Nat) (hrun : s.test.run = some code) (hcode : code % 16 = 15)
    (hdone : s.test.done = []) (hdacs : s.dacsClamped = true) (hmov : ∀ p ∈ s.mov.movers, p.2 = none) :
    ∃ t, exec (.testAll rows lm cal misrs misr) s = .next t ∧ t.test.done = [1, 2, 3, 4, 5] := by
  have hnext : ∀ (t : State) (k : Nat), t.test.run = s.test.run → t.reg rConvDacStat = s.reg rConvDacStat → t.mov = s.mov →
      [1, 2, 3, 4, 5].find? (fun j => !(t.test.done.contains j)) = some k → t.testNext k = true := by
    intro t k hr hd hm hk
    have hidle : (t.mov.movers.all fun p => p.2.isNone) = true :=
      List.all_eq_true.mpr fun p hp => by rw [hmov p (hm ▸ hp)]; rfl
    have hcl : t.dacsClamped = true := by rw [State.dacsClamped, hd]; exact hdacs
    rw [State.testNext, hr, hrun]
    simp only [hcode, testCodes, if_true, hk, hcl, hidle, beq_self_eq_true, Bool.or_true, Bool.and_true]
  have hdo : ∀ (t : State) (k : Nat) (f : State → State), t.testNext k = true → t.SameTest (f t) →
      (t.testDo k f).test.done = t.test.done ++ [k] ∧ (t.testDo k f).test.run = t.test.run ∧
        (t.testDo k f).reg rConvDacStat = t.reg rConvDacStat ∧ (t.testDo k f).mov = t.mov := by
    intro t k f hk hf
    refine ⟨State.done_testDo hk hf, ?_⟩
    rw [State.testDo_next hk]
    exact ⟨hf.run, hf.dacs, hf.mov⟩
  have hex : exec (.testAll rows lm cal misrs misr) s = .next
      (((((s.testDo 1 fun s => s.testProgMem rows).testDo 2 fun s => s.testLocalMem lm).testDo 3 fun s =>
        s.testCaldera cal).testDo 4
        fun s => s.testEngineLogic misrs).testDo 5 fun s => s.testFabricLogic misr) :=
    congrArg Host.Outcome.next (if_pos (by rw [hrun]; simp [hcode]))
  refine ⟨_, hex, ?_⟩
  obtain ⟨d1, r1, c1, m1⟩ := hdo s 1 (fun s => s.testProgMem rows) (hnext s 1 rfl rfl rfl (by rw [hdone]; rfl))
    (s.sameTest_testProgMem rows)
  rw [hdone] at d1
  generalize s.testDo 1 (fun s => s.testProgMem rows) = s1 at d1 r1 c1 m1 ⊢
  obtain ⟨d2, r2, c2, m2⟩ := hdo s1 2 (fun s => s.testLocalMem lm) (hnext s1 2 r1 c1 m1 (by rw [d1]; rfl))
    (s1.sameTest_testLocalMem lm)
  rw [d1] at d2
  generalize s1.testDo 2 (fun s => s.testLocalMem lm) = s2 at d2 r2 c2 m2 ⊢
  obtain ⟨d3, r3, c3, m3⟩ := hdo s2 3 (fun s => s.testCaldera cal)
    (hnext s2 3 (r2.trans r1) (c2.trans c1) (m2.trans m1) (by rw [d2]; rfl))
    (s2.sameTest_testCaldera cal)
  rw [d2] at d3
  generalize s2.testDo 3 (fun s => s.testCaldera cal) = s3 at d3 r3 c3 m3 ⊢
  obtain ⟨d4, r4, c4, m4⟩ := hdo s3 4 (fun s => s.testEngineLogic misrs)
    (hnext s3 4 (r3.trans (r2.trans r1)) (c3.trans (c2.trans c1)) (m3.trans (m2.trans m1))
    (by rw [d3]; rfl)) (s3.sameTest_testEngineLogic misrs)
  rw [d3] at d4
  generalize s3.testDo 4 (fun s => s.testEngineLogic misrs) = s4 at d4 r4 c4 m4 ⊢
  have h5 : s4.testNext 5 = true := hnext s4 5 (r4.trans (r3.trans (r2.trans r1))) (c4.trans (c3.trans (c2.trans c1)))
    (m4.trans (m3.trans (m2.trans m1))) (by rw [d4]; rfl)
  rw [State.testDo_next h5]
  exact (congrArg (· ++ [5]) ((s4.testFabricLogic_fields misr).1.trans d4))

/-! ### The end of a test -/

theorem State.now_withdrawSwap (s : State) (c q : Nat) : (s.withdrawSwap c q).now = s.now := by
  unfold State.withdrawSwap
  refine forN_keeps 32 _ State.now (fun e t => ?_) s
  rfl

theorem State.now_clusterReset (s : State) (c : Nat) : (s.clusterReset c).now = s.now := by
  have hcancel : ∀ (t : State) (e : Nat), (t.cancelSwaps e).now = t.now := by
    intro t e
    unfold State.cancelSwaps
    refine foldl_keeps _ _ State.now (fun u r => ?_) t
    split
    · rfl
    · split
      · rfl
      · exact State.now_withdrawSwap _ _ _
  have hclear : ∀ t : State, (t.clusterClear c).now = t.now := by
    intro t
    unfold State.clusterClear
    extract_lets u
    have hu : u.now = t.now := by
      refine forN_keeps 4 _ State.now (fun i v => ?_) t
      rfl
    exact hu
  exact (hclear _).trans (forN_keeps 4 _ State.now (fun i t => hcancel t (4 * c + i)) s)

theorem TestState.result_lt (x : TestState) : x.result < 8 := by
  unfold TestState.result
  split
  · decide
  · split <;> decide

theorem State.testEnds_fields (s : State) : s.testEnds.test = { record := s.test.bytes s.now } ∧
    s.testEnds.rbit rTestStat 0 = false ∧ s.testEnds.rfld rTestStat 1 3 = s.test.result ∧
    s.testEnds.mode = { s.mode with selfTest := false } := by
  unfold State.testEnds
  extract_lets x u rec' v w z
  have hu : Kept { regs := true, eng := true, chainNow := true, fab := true, par := true, ctx := true } s u :=
    foldl_kept (Kept.refl s) fun _ _ h => State.clusterReset_kept rfl rfl rfl rfl rfl rfl h
  have hnow : u.now = s.now := foldl_keeps _ State.clusterReset State.now (fun t c => t.now_clusterReset c) s
  have hrec : rec' = s.test.bytes s.now := congrArg s.test.bytes hnow
  have hv : Kept { regs := true } u v := by
    refine forN_kept (Kept.refl u) fun _ _ h => ?_
    exact State.setReg_kept rfl h
  clear_value v u
  have hw0 : w.rbit rTestStat 0 = false := State.rbit_setBit_same _ _ _ _ (by decide)
  have hw1 : w.rfld rTestStat 1 3 = s.test.result := by
    dsimp only [w]
    rw [State.rfld_setBit_other _ _ (.inr (by decide)), State.rfld_setFld_same _ _ _ _ _ (by decide)]
    exact Nat.mod_eq_of_lt x.result_lt
  have hwv : w.mode = v.mode := rfl
  have hwm : w.mode = s.mode := hwv.trans ((hv.mode rfl).trans (hu.mode rfl))
  clear_value w rec'
  have hend := z.modeDo_parts 0x30 fun s => { s with mode := { s.mode with selfTest := false } }
  have hreg : ∀ o, o ≠ rTopModeReason →
      (z.modeDo 0x30 fun s => { s with mode := { s.mode with selfTest := false } }).reg o = w.reg o :=
    fun o ho => State.modeDo_reg _ _ _ _ ho
  refine ⟨(hend.test rfl).trans ?_, (congrArg (bit · 0) (hreg rTestStat (by decide))).trans hw0,
    (congrArg (fld · 1 3) (hreg rTestStat (by decide))).trans hw1, (hend.mode rfl).trans ?_⟩
  · rw [← hrec]
  · exact congrArg (fun m : ModeState => { m with selfTest := false }) hwm

/-- Settles O59: TEST_RUN by its outcomes, each test by what it keeps, and the end of a test. -/
theorem selfTests : Obligations.SelfTests := by
  unfold Obligations.SelfTests
  refine ⟨fun c q s d hready => ⟨fun hkeep => ?_, fun hkeep hextra => ?_, fun hkeep hextra huses hwin => ⟨?_, ?_⟩⟩,
    fun s rows lm cal misrs misr => ⟨fun h => ?_, fun h => ?_, fun h => ?_, fun h => ?_, fun h => ?_, fun h => ?_, ?_⟩,
    fun s code hrun hdesc => ⟨fun h => ?_, fun h => ?_⟩⟩
  · rw [exec_testRun hready, if_pos (by simp [hkeep])]
  · exact ⟨_, exec_testRun_extra hready hkeep hextra, State.ended_finish hready _, (s.finish_frame c _ _).test rfl⟩
  · exact execTestRun_refused hready hkeep hextra huses hwin
  · exact execTestRun_started hready hkeep hextra huses hwin
  · refine ⟨_, rfl, State.done_testDo h (s.sameTest_testProgMem rows), ?_⟩
    rw [State.testDo_next h]
    exact s.rows_testProgMem rows
  · exact congrArg Host.Outcome.next (if_neg (by rw [h]; decide))
  · exact ⟨_, rfl, State.done_testDo h (s.sameTest_testLocalMem lm)⟩
  · exact ⟨_, rfl, State.done_testDo h (s.sameTest_testCaldera cal)⟩
  · refine ⟨_, rfl, State.done_testDo h (s.sameTest_testEngineLogic misrs), ?_⟩
    rw [State.testDo_next h]
    exact s.bad_testEngineLogic misrs
  · obtain ⟨hdone, hfab, hbad⟩ := s.testFabricLogic_fields misr
    refine ⟨_, rfl, ?_⟩
    rw [State.testDo_next h]
    exact ⟨congrArg (· ++ [5]) hdone, hfab, hbad⟩
  · exact fun code => execTestAll_done s rows lm cal misrs misr code
  · obtain ⟨htest, hbit, hres, hmode⟩ := s.testEnds_fields
    refine ⟨s.testEnds, ?_, ?_, ?_, hbit, hres, hmode⟩
    · change execTestComplete s = _
      unfold execTestComplete
      simp only [hrun, hdesc, h, Bool.not_true, Bool.false_eq_true, if_false]
    · rw [htest]
    · rw [htest]
  · change execTestComplete s = _
    unfold execTestComplete
    simp only [hrun, h, Bool.not_false, if_true]

end Sys2Proof.Machine

/-! Commits. -/

namespace Sys2Proof.Machine

/-- The COMMIT of `selfSwap`: it discards group 0. -/
def selfCommit : OpenDesc := { seq := 0, typ := tCommit, started := true, extra := 512 }

/-- A COMMIT of context 0 waits, and its group holds a program swap that names the COMMIT's own sequence number. -/
def selfSwap : State :=
  { ctx := [(0, { opens := [selfCommit] })], par := { groups := [(0, { members := [.swap 0 true false 0 0] })] } }

theorem selfSwap_waits : selfSwap.waitingCommit (0 : Fin 512) (0 : BitVec 32).toNat 1 = some selfCommit := by decide

/-- Discarding the group ends its program swaps CANCELLED, and this one is the COMMIT, whose first result stands. -/
theorem exec_commitDiscard_selfSwap : ∃ t, exec (.commitDiscard 0 0) selfSwap = .next t ∧
    t.findDesc 0 0 = some { selfCommit with granted := true, result := some 2 } := ⟨_, rfl, by rfl⟩

/-- Refutes O24: the statement lets a group's members be any, so one may be a program swap under the COMMIT's own number. The
discard ends it CANCELLED (code 2), where the statement asks for OK. -/
theorem not_commits : ¬ Obligations.Commits := by
  intro h
  obtain ⟨-, -, discard⟩ := h selfSwap 0 0 selfCommit
  obtain ⟨t, ht, hended, -⟩ := (discard selfSwap_waits).1 (by decide)
  obtain ⟨u, hu, hdesc⟩ := exec_commitDiscard_selfSwap
  cases hu.symm.trans ht
  have hresult : t.findDesc (0 : Fin 512).val (0 : BitVec 32).toNat =
    some { selfCommit with granted := true, result := some 2 } :=
    hdesc
  rw [State.ended, hresult] at hended
  cases hended

end Sys2Proof.Machine

/-! Contexts: their doorbells and the commands that change their state. -/

namespace Sys2Proof.Machine

/-! ### Doorbells -/

theorem State.context_of_ctx {s t : State} (h : t.ctx = s.ctx) (k : Nat) : t.context k = s.context k :=
  congrArg (fun m => SMap.get (fun _ => ({} : Ctx)) m k) h

@[simp] theorem State.ctx_showCtx (s : State) (c : Nat) : (s.showCtx c).ctx = s.ctx :=
  (State.showCtx_kept (M := { regs := true }) rfl (Kept.refl s)).ctx rfl

@[simp] theorem State.ctx_fetchNext (s : State) (c : Nat) : (s.fetchNext c).ctx = s.ctx :=
  (State.fetchNext_kept (M := { fab := true, pcie := true, ngx := true }) rfl rfl rfl (Kept.refl s)).ctx rfl

section
variable {s : State} {f : Fin 64} {page : Fin 512} {k : Nat}
  (hmse : (if f.val = 0 then (s.fn 0).mse else s.pcie.vfMse) = true) (hpage : s.doorbellCtx f page = some k)
  (hst : s.ctxState k = 1 ∨ s.ctxState k = 3)
include hmse hpage hst

/-- A doorbell to a running context. -/
theorem State.doorbell_running (g : Nat → State) : s.doorbell f page g = g k := by
  unfold State.doorbell
  rw [hmse, hpage]
  refine (if_neg (by decide)).trans (if_pos ?_)
  rcases hst with h | h
  · simp [h]
  · simp [h]

theorem exec_streamRingProducer {n : Fin 16} {r : Nat} {y : Stream} (hring : s.ringStream k n = some (r, y)) (v : BitVec 32)
    (es : List (BitVec 128)) : exec (.streamRingProducer f page n v es) s = .next (
      if y.size < (v - y.cons).toNat then s.setBit (rCtxtErr k) 0 true
      else if y.closing || es.length ≠ (v - y.prod).toNat then s
      else s.setStream r (some { y with prod := v, entries := y.entries ++ es.map y.entryOf })) := by
  refine congrArg Host.Outcome.next ((State.doorbell_running hmse hpage hst _).trans ?_)
  rw [hring]

variable (hmin : s.minPath = false)
include hmin

theorem exec_commandProducer (v : BitVec 32) : exec (.commandProducer f page v) s = .next (
    if 2 ^ s.rfld (rCtxtSize k) 0 5 < (v - (s.context k).c).toNat then s.setBit (rCtxtErr k) 0 true
    else (s.setContext k { s.context k with p := v }).fetchNext k) :=
  congrArg Host.Outcome.next ((State.doorbell_running hmse hpage hst _).trans (if_neg (by simp [hmin])))

theorem exec_completionConsumer (v ev : BitVec 32) : exec (.completionConsumer f page v ev) s = .next (s.consumer k v ev) :=
  congrArg Host.Outcome.next ((State.doorbell_running hmse hpage hst _).trans (if_neg (by simp [hmin])))

end

theorem State.consumer_fits {s : State} {k : Nat} {v : BitVec 32} (ev : BitVec 32)
    (h : (v - (s.context k).k).toNat ≤ ((s.context k).w - (s.context k).k).toNat) :
    ((s.consumer k v ev).context k).k = v ∧ ((s.consumer k v ev).context k).evCons = ev ∧
      ((s.consumer k v ev).context k).w = (s.context k).w := by
  unfold State.consumer
  extract_lets x used opens notice
  rw [if_neg (Nat.not_lt.mpr h)]
  generalize hu : s.setContext k { x with k := v, opens := opens, notice := notice, evCons := ev } = u
  have hctx : ((u.showCtx k).fetchNext k).context k = u.context k :=
    State.context_of_ctx ((State.ctx_fetchNext _ _).trans (u.ctx_showCtx k)) k
  rw [hctx, ← hu, State.context_setContext_same]
  exact ⟨rfl, rfl, rfl⟩

/-- Settles O34: a doorbell of a running context, in range and out of range. -/
theorem contextCommands : Obligations.ContextCommands := by
  unfold Obligations.ContextCommands
  intro s f page k hmse hpage hmin hst x
  refine ⟨fun v h => ⟨_, exec_commandProducer hmse hpage hst hmin v, ?_⟩, fun v h => ?_, fun v ev h => ⟨_,
    exec_completionConsumer hmse hpage hst hmin v ev, State.consumer_fits ev h⟩, fun v ev h => ?_,
    fun n v es r y hring hv hclose hes => ⟨_, exec_streamRingProducer hmse hpage hst hring v es, ?_⟩,
      fun n v es r y hring hv => ?_⟩
  · rw [if_neg (Nat.not_lt.mpr h), State.context_of_ctx (State.ctx_fetchNext _ _), State.context_setContext_same]
  · rw [exec_commandProducer hmse hpage hst hmin, if_pos h]
  · rw [exec_completionConsumer hmse hpage hst hmin]
    exact congrArg Host.Outcome.next (if_pos h)
  · rw [if_neg (Nat.not_lt.mpr hv), if_neg (by simp [hclose, hes]), State.stream_setStream, if_pos rfl]
  · rw [exec_streamRingProducer hmse hpage hst hring, if_pos hv]

/-! ### What a command of a context leaves alone -/

theorem rCtxtStat_ne_rCtxtCmd (c : Nat) : rCtxtStat c ≠ rCtxtCmd c := by
  unfold rCtxtStat rCtxtCmd
  omega

theorem rCtxtErr_ne_rCtxtCmd (c : Nat) : rCtxtErr c ≠ rCtxtCmd c := by
  unfold rCtxtErr rCtxtCmd
  omega

theorem State.ctxState_of_reg {s t : State} {c : Nat} (h : t.reg (rCtxtStat c) = s.reg (rCtxtStat c)) :
    t.ctxState c = s.ctxState c :=
  congrArg (fld · 0 3) h

theorem State.ctxState_setCtxState (s : State) (c : Nat) {v : Nat} (hv : v < 8) : (s.setCtxState c v).ctxState c = v :=
  (State.rfld_setFld_same _ _ _ _ _ (by omega)).trans (Nat.mod_eq_of_lt hv)

theorem State.ctxState_ctxCmdW (s : State) (c op : Nat) (fresh : Bool) : (s.ctxCmdW c op fresh).ctxState c = s.ctxState c :=
  State.ctxState_of_reg ((State.reg_setBit_other _ _ _ (rCtxtStat_ne_rCtxtCmd c)).trans
    (State.reg_setFld_other _ _ _ _ (rCtxtStat_ne_rCtxtCmd c)))

theorem State.ctxState_showCtx (s : State) (c : Nat) : (s.showCtx c).ctxState c = s.ctxState c :=
  (State.rfld_setFld_other _ _ (.inr (.inl (by omega)))).trans (State.rfld_setFld_other _ _ (.inr (.inl (by omega))))

/-- A command that is turned away sets its bit, and changes neither the contexts nor their states. -/
theorem State.ctxRej_fields (s : State) (c : Nat) : (s.ctxRej c).rbit (rCtxtCmd c) 30 = true ∧ (s.ctxRej c).ctx = s.ctx ∧
    (s.ctxRej c).ctxState c = s.ctxState c ∧ ∀ k, (s.ctxRej c).rbit (rCtxtErr c) k = s.rbit (rCtxtErr c) k :=
  ⟨State.rbit_setBit_same _ _ _ _ (by decide), rfl,
    State.ctxState_of_reg (State.reg_setBit_other _ _ _ (rCtxtStat_ne_rCtxtCmd c)),
    fun k => congrArg (bit · k) (State.reg_setBit_other _ _ _ (rCtxtErr_ne_rCtxtCmd c))⟩

/-! ### ENABLE -/

/-- A command turned away with bit `k` of CTXn_ERR set. -/
theorem State.ctxRej_err (s : State) (c : Nat) {k : Nat} (hk : k < 32) :
    ((s.setBit (rCtxtErr c) k true).ctxRej c).rbit (rCtxtErr c) k = true ∧
    ((s.setBit (rCtxtErr c) k true).ctxRej c).rbit (rCtxtCmd c) 30 = true ∧
    ((s.setBit (rCtxtErr c) k true).ctxRej c).ctx = s.ctx := by
  obtain ⟨hrej, hctx, -, herr⟩ := (s.setBit (rCtxtErr c) k true).ctxRej_fields c
  exact ⟨(herr k).trans (State.rbit_setBit_same _ _ _ _ hk), hrej, hctx⟩

section
variable {s : State} {c : Fin 512} (fresh : Bool) (a b : BitVec 1024) (host : BitVec 160) (tags : List (BitVec 64))

theorem exec_ctxEnable_not_ok (ok : Bool) (h : (s.ctxCmdW c 1 fresh).enableOk c = false) :
    exec (.ctxEnable c fresh a b host tags ok) s = .next ((s.ctxCmdW c 1 fresh).ctxRej c) := by
  change execCtxEnable c fresh a b host tags ok s = _
  unfold execCtxEnable
  simp only [h, Bool.not_false, if_true]

variable (h : (s.ctxCmdW c 1 fresh).enableOk c = true)
include h

theorem exec_ctxEnable_unreadable : exec (.ctxEnable c fresh a b host tags false) s =
    .next (((s.ctxCmdW c 1 fresh).setBit (rCtxtErr c) 2 true).ctxRej c) := by
  change execCtxEnable c fresh a b host tags false s = _
  unfold execCtxEnable
  simp only [h, Bool.not_false, Bool.not_true, Bool.false_eq_true, if_false, if_true]

end

/-- The record of a context after ENABLE: the journal goes to Caldera, and the state becomes ACTIVE. -/
def State.enabled (s : State) (c : Nat) : State := ((s.writeJournal c).setCtxState c 1).showCtx c

theorem State.ctx_busRange (s : State) (cls m a n : Nat) (write : Bool) : (s.busRange cls m a n write).ctx = s.ctx :=
  (State.busRange_kept (M := { fab := true }) rfl (Kept.refl s)).ctx rfl

theorem State.ctx_ringWrite (s : State) (c a : Nat) (d : List Byte) : (s.ringWrite c a d).ctx = s.ctx :=
  (State.ringWrite_kept (M := { fab := true, ngx := true }) rfl rfl (Kept.refl s)).ctx rfl

theorem State.context_writeJournal (s : State) (c : Nat) : (s.writeJournal c).context c =
    { s.context c with update := (s.context c).update + 1, valid := true } := by
  unfold State.writeJournal
  extract_lets u x y
  have hu : u.context c = s.context c := State.context_of_ctx (s.ctx_busRange ..) c
  have hset : ((u.setContext c y).context c) = { s.context c with update := (s.context c).update + 1, valid := true } := by
    rw [State.context_setContext_same, ← hu]
  split
  · exact hset
  · exact (State.context_of_ctx (State.ctx_ringWrite ..) c).trans hset

theorem State.enabled_fields (s : State) (c : Nat) : (s.enabled c).ctxState c = 1 ∧
    (s.enabled c).context c = { s.context c with update := (s.context c).update + 1, valid := true } := by
  refine ⟨(State.ctxState_showCtx _ c).trans (State.ctxState_setCtxState _ c (by decide)), ?_⟩
  rw [← s.context_writeJournal c]
  exact State.context_of_ctx (State.ctx_showCtx _ c) c

theorem State.context_putRecord (s : State) (c q st fl : Nat) (t : BitVec 64) :
    (s.putRecord c q st fl t).context c = { s.context c with w := (s.context c).w + 1 } := by
  unfold State.putRecord
  extract_lets x n phase u
  have hu : u.context c = s.context c := State.context_of_ctx (s.ctx_ringWrite ..) c
  rw [State.context_modContext, if_pos rfl, hu]

theorem State.replayOne_context (s : State) (c : Nat) (seq : BitVec 32) (tag : BitVec 64) :
    ((s.replayOne c seq tag).context c).c = (s.context c).c ∧ ((s.replayOne c seq tag).context c).nextSeq =
    (s.context c).nextSeq ∧
    ((s.replayOne c seq tag).context c).opens.length = (s.context c).opens.length + 1 := by
  unfold State.replayOne
  extract_lets x m st i u
  have hu : u.context c = { s.context c with w := (s.context c).w + 1 } := s.context_putRecord ..
  rw [State.context_modContext, if_pos rfl, hu]
  exact ⟨rfl, rfl, by simp⟩

theorem State.replay_context (s : State) (c n : Nat) (seq : Nat → BitVec 32) (tag : Nat → BitVec 64) :
    ((forN n (fun i s => s.replayOne c (seq i) (tag i)) s).context c).c = (s.context c).c ∧
    ((forN n (fun i s => s.replayOne c (seq i) (tag i)) s).context c).nextSeq = (s.context c).nextSeq ∧
    ((forN n (fun i s => s.replayOne c (seq i) (tag i)) s).context c).opens.length = (s.context c).opens.length + n := by
  induction n with
  | zero => exact ⟨rfl, rfl, rfl⟩
  | succ n ih =>
    obtain ⟨hc, hnext, hlen⟩ := ih
    have hsucc : forN (n + 1) (fun i s => s.replayOne c (seq i) (tag i)) s =
        (forN n (fun i s => s.replayOne c (seq i) (tag i)) s).replayOne c (seq n) (tag n) := by
      rw [forN, List.range_succ, List.foldl_append]
      rfl
    rw [hsucc]
    obtain ⟨hc', hnext', hlen'⟩ := (forN n (fun i s => s.replayOne c (seq i) (tag i)) s).replayOne_context c (seq n) (tag n)
    exact ⟨hc'.trans hc, hnext'.trans hnext, by rw [hlen', hlen, Nat.add_assoc]⟩

section
variable (s : State) (c : Fin 512) (a b : BitVec 1024) (host : BitVec 160) (tags : List (BitVec 64))

theorem exec_ctxEnable_new (h : (s.ctxCmdW c 1 true).enableOk c = true)
    (hpick : pickJournal (s.context c) (newestMirror c a b) = none) :
    exec (.ctxEnable c true a b host tags true) s = .next (((s.ctxCmdW c 1 true).setContext c {
      nextSeq := host.extractLsb' 96 32, w := host.extractLsb' 32 32, k := host.extractLsb' 32 32,
      evCons := host.extractLsb' 128 32, valid := true }).enabled c) := by
  have hpick' : pickJournal ((s.ctxCmdW c 1 true).context c) (newestMirror c a b) = none := hpick
  change execCtxEnable c true a b host tags true s = _
  unfold execCtxEnable
  simp only [h, hpick', Bool.not_true, Bool.false_eq_true, if_false]
  rfl

theorem exec_ctxEnable_no_journal (h : (s.ctxCmdW c 1 false).enableOk c = true)
    (hpick : pickJournal (s.context c) (newestMirror c a b) = none) : exec (.ctxEnable c false a b host tags true) s =
      .next (((s.ctxCmdW c 1 false).setBit (rCtxtErr c) 5 true).ctxRej c) := by
  have hpick' : pickJournal ((s.ctxCmdW c 1 false).context c) (newestMirror c a b) = none := hpick
  change execCtxEnable c false a b host tags true s = _
  unfold execCtxEnable
  simp only [h, hpick', Bool.not_true, Bool.false_eq_true, if_false]

/-- An ENABLE that goes on from a journal. -/
theorem execCtxEnable_journal (h : (s.ctxCmdW c 1 false).enableOk c = true) {j : Ctx}
    (hpick : pickJournal (s.context c) (newestMirror c a b) = some j) :
    ∃ t, exec (.ctxEnable c false a b host tags true) s = .next t ∧ t.ctxState c = 1 ∧ (t.context c).c = j.c ∧
      (t.context c).nextSeq = j.nextSeq ∧ (t.context c).opens.length =
        min 16 (j.nextSeq - 1 - (if bit host 64 then host.extractLsb' 0 32 else j.lastDone)).toNat := by
  have hpick' : pickJournal ((s.ctxCmdW c 1 false).context c) (newestMirror c a b) = some j := hpick
  have hlast : bit (host.extractLsb' 64 32) 0 = bit host 64 := by simp [bit]
  generalize hfrom : (if bit host 64 then host.extractLsb' 0 32 else j.lastDone) = last
  have hex : ∃ w, exec (.ctxEnable c false a b host tags true) s = .next ((forN (min 16 (j.nextSeq - 1 - last).toNat)
      (fun i s => s.replayOne c (last + 1 + BitVec.ofNat 32 i) (tags.getD i 0))
      ((s.ctxCmdW c 1 false).setContext c { j with
        w := w, k := w, p := j.c, evCons := host.extractLsb' 128 32, opens := [], notice := none, fetchFail := none })).enabled
          c) := by
    refine ⟨if bit host 64 then host.extractLsb' 32 32 else j.w, ?_⟩
    change execCtxEnable c false a b host tags true s = _
    unfold execCtxEnable
    simp only [h, hpick', Bool.not_true, Bool.false_eq_true, if_false, hlast, ← hfrom]
    rfl
  obtain ⟨w, hex⟩ := hex
  generalize hu : (s.ctxCmdW c 1 false).setContext c { j with
    w := w, k := w, p := j.c, evCons := host.extractLsb' 128 32, opens := [], notice := none, fetchFail := none } = u at hex
  obtain ⟨hc, hnext, hlen⟩ := u.replay_context c (min 16 (j.nextSeq - 1 - last).toNat) (fun i => last + 1 + BitVec.ofNat 32 i)
    (fun i => tags.getD i 0)
  rw [← hu, State.context_setContext_same, hu] at hc hnext hlen
  obtain ⟨hst, hctx⟩ := State.enabled_fields (forN (min 16 (j.nextSeq - 1 - last).toNat)
    (fun i s => s.replayOne c (last + 1 + BitVec.ofNat 32 i) (tags.getD i 0)) u) c
  refine ⟨_, hex, hst, ?_⟩
  rw [hctx]
  exact ⟨hc, hnext, hlen.trans (Nat.zero_add _)⟩

end

/-! ### DISABLE and RESET -/

theorem State.maybeDisabled_done (s : State) (c : Nat) (hst : s.ctxState c = 2) (ho : (s.context c).opens = []) :
    (s.maybeDisabled c).ctxState c = 0 ∧ (s.maybeDisabled c).ctx = s.ctx := by
  unfold State.maybeDisabled
  extract_lets x u f
  rw [if_pos (by simp [hst, x, ho])]
  have hu : u.ctxState c = 0 :=
    (State.rfld_setBit_other _ _ (.inr (.inl (by decide)))).trans (State.ctxState_setCtxState _ c (by decide))
  have hctx : u.ctx = s.ctx := rfl
  clear_value u
  exact ⟨hu, hctx⟩

theorem State.stopCtx_idle (s : State) (c : Nat) (hst : s.ctxState c = 1 ∨ s.ctxState c = 3) (ho : (s.context c).opens = []) :
    (s.stopCtx c).ctxState c = 0 ∧ (s.stopCtx c).context c = { s.context c with fetchFail := none } := by
  unfold State.stopCtx
  rw [if_neg (by rcases hst with h | h <;> simp [h])]
  extract_lets u v w
  have hu : u.ctxState c = 2 := State.ctxState_setCtxState s c (by decide)
  have hv : v.context c = { s.context c with fetchFail := none } := (State.context_modContext _ _ _ _).trans (if_pos rfl)
  have hvo : (v.context c).opens = [] := by rw [hv, ho]
  have hw : w = v := by
    dsimp only [w]
    rw [hvo]
    rfl
  have hv2 : v.ctxState c = 2 := hu
  clear_value v
  rw [hw]
  obtain ⟨hst', hctx⟩ := v.maybeDisabled_done c hv2 hvo
  exact ⟨hst', (State.context_of_ctx hctx c).trans hv⟩

/-- Every crosspoint of `t` is one of `s`. -/
def State.XpsWithin (s t : State) : Prop := ∀ p ∈ t.route.xps, p ∈ s.route.xps

theorem State.XpsWithin.trans {s t u : State} (h : s.XpsWithin t) (h' : t.XpsWithin u) : s.XpsWithin u :=
    fun p hp => h p (h' p hp)

theorem State.XpsWithin.of_route {s t : State} (h : t.route = s.route) : s.XpsWithin t := fun _ hp => h ▸ hp

theorem State.xpsWithin_foldl {α : Type} (l : List α) (f : State → α → State) (h : ∀ (s : State) (a : α), s.XpsWithin (f s a))
    (s : State) : s.XpsWithin (l.foldl f s) :=
  List.foldlRecOn (motive := s.XpsWithin) l f (fun _ hp => hp) fun t ht a _ => ht.trans (h t a)

theorem State.xpsWithin_freeStaged (s : State) (a b : Nat) : s.XpsWithin (s.freeStaged a b) :=
    fun _ hp => (List.mem_filter.mp hp).1

theorem State.xpsWithin_discardGroup (s : State) (g code : Nat) : s.XpsWithin (s.discardGroup g code) := by
  unfold State.discardGroup
  extract_lets ms u v
  have hu : s.XpsWithin u := .of_route
    ((State.setGroup_kept (M := { regs := true, par := true }) rfl rfl (Kept.refl s)).route rfl)
  have hv : u.XpsWithin v := by
    refine State.xpsWithin_foldl ms _ (fun w m => ?_) u
    split
    · split
      · exact .of_route rfl
      · exact .of_route rfl
    · exact .of_route ((State.withdrawSwap_kept (M := { regs := true, eng := true, ctx := true }) rfl rfl
        (State.setResult_kept rfl (Kept.refl w))).route rfl)
    · exact w.xpsWithin_freeStaged _ _
    · exact w.xpsWithin_freeStaged _ _
    · exact .of_route rfl
  exact hu.trans (hv.trans (.of_route rfl))

theorem exec_ctxReset_running (s : State) (c : Fin 512) (h : s.ctxState c ≠ 0) :
    exec (.ctxReset c) s = .next ((s.ctxCmdW c 3 false).ctxRej c) := by
  change execCtxReset c s = _
  unfold execCtxReset
  exact if_pos (by rwa [State.ctxState_ctxCmdW])

/-- A RESET of a DISABLED context empties it; none of its crosspoints stays. -/
theorem execCtxReset_disabled (s : State) (c : Fin 512) (h : s.ctxState c = 0) :
    ∃ t, exec (.ctxReset c) s = .next t ∧ t.context c = {} ∧ ∀ p ∈ t.route.xps, p.2.owner ≠ c.val := by
  have hexec : execCtxReset c s = exec (.ctxReset c) s := rfl
  rw [← hexec]
  unfold execCtxReset
  extract_lets k u v w x y
  rw [if_neg (not_not_intro ((State.ctxState_ctxCmdW ..).trans h))]
  refine ⟨_, rfl, ?_, ?_⟩
  · exact (State.context_of_ctx (State.ctx_showCtx _ _) _).trans (State.context_setContext_same ..)
  · have hvw : v.XpsWithin w := State.xpsWithin_foldl _ _ (fun t p => by
      split
      · split
        · exact .of_route ((State.streamClose_kept (M := {
            regs := true, fab := true, ctx := true, mov := true, pcie := true, ngx := true }) rfl rfl rfl rfl rfl rfl
            (Kept.refl t)).route rfl)
        · exact .of_route rfl
      · exact .of_route rfl) v
    have hwx : w.XpsWithin x := State.xpsWithin_foldl _ _ (fun t p => by
      split
      · exact .of_route ((State.unmapLine_kept (M := {
          regs := true, eng := true, fab := true, cal := true, mov := true, pcie := true }) rfl rfl rfl rfl rfl rfl
          (Kept.refl t)).route rfl)
      · exact .of_route rfl) w
    have hxy : x.XpsWithin y := State.xpsWithin_foldl _ _ (fun t g => by
      dsimp only
      split
      · exact t.xpsWithin_discardGroup _ _
      · exact .of_route rfl) x
    intro p hp
    have hpv : p ∈ v.route.xps := hvw p (hwx p (hxy p hp))
    simpa [k] using (List.mem_filter.mp hpv).2

/-- Settles O35: ENABLE by its journal, DISABLE of an idle context, RESET of a DISABLED one, and what is turned away. -/
theorem contextStates : Obligations.ContextStates := by
  unfold Obligations.ContextStates
  intro s c
  refine ⟨fun a b host tags h hpick => ⟨_, exec_ctxEnable_new s c a b host tags h hpick, ?_⟩, fun fresh ok a b host tags h => ?_,
    fun fresh a b host tags h => ⟨_, exec_ctxEnable_unreadable fresh a b host tags h, State.ctxRej_err _ _ (by decide)⟩,
    fun a b host tags j h hpick => execCtxEnable_journal s c a b host tags h hpick,
    fun a b host tags h hpick => ⟨_, exec_ctxEnable_no_journal s c a b host tags h hpick, State.ctxRej_err _ _ (by decide)⟩,
    fun h => ?_, fun h ho => ?_, fun h => ?_, execCtxReset_disabled s c⟩
  · obtain ⟨hst, hctx⟩ := State.enabled_fields ((s.ctxCmdW c 1 true).setContext c {
      nextSeq := host.extractLsb' 96 32, w := host.extractLsb' 32 32, k := host.extractLsb' 32 32,
      evCons := host.extractLsb' 128 32, valid := true }) c
    rw [hctx, State.context_setContext_same]
    exact ⟨hst, rfl, rfl, rfl⟩
  · obtain ⟨hrej, hctx, hst, -⟩ := (s.ctxCmdW c 1 fresh).ctxRej_fields c
    exact ⟨_, exec_ctxEnable_not_ok fresh a b host tags ok h, hrej, hctx, hst.trans (State.ctxState_ctxCmdW ..)⟩
  · obtain ⟨hrej, hctx, -⟩ := (s.ctxCmdW c 2 false).ctxRej_fields c
    refine ⟨_, congrArg Host.Outcome.next (if_pos ?_), hrej, hctx⟩
    rw [State.ctxState_ctxCmdW]
    simpa using h
  · have hst : (s.ctxCmdW c 2 false).ctxState c = 1 ∨ (s.ctxCmdW c 2 false).ctxState c = 3 := by rwa [State.ctxState_ctxCmdW]
    obtain ⟨hdis, hctx⟩ := (s.ctxCmdW c 2 false).stopCtx_idle c hst ho
    refine ⟨_, congrArg Host.Outcome.next (if_neg ?_), hdis, by rw [hctx]⟩
    rcases hst with h | h
    · simp [h]
    · simp [h]
  · obtain ⟨hrej, hctx, -⟩ := (s.ctxCmdW c 3 false).ctxRej_fields c
    exact ⟨_, exec_ctxReset_running s c h, hrej, hctx⟩

end Sys2Proof.Machine

/-! Engine instructions whose results are in flight, near stores and chain writes. -/

namespace Sys2Proof.Machine

/-! ### A poised instruction with results in flight -/

/-- An effect that neither faults, jumps, loads nor stores afar, and clears no flag. -/
def Eff.Plain (f : Eff) : Prop :=
  f.fault = 0 ∧ f.posts.length ≤ 4 ∧ f.load = none ∧ f.stores = [] ∧ f.ctl = .next ∧ f.clr = 0

theorem Eff.Plain.slots {f : Eff} (h : f.Plain) (ws : List Nat) (q : Bool) : (f.slots ws q).Plain := by
  obtain ⟨h1, -, h3, h4, h5, h6, h7⟩ := f.slots_frame ws q
  unfold Eff.Plain
  rw [h1, h3, h4, h5, h6, h7]
  exact h

section
variable (f : Eff) (ws : List Nat) (q : Bool)

theorem Eff.fault_slots : (f.slots ws q).fault = f.fault := (f.slots_frame ws q).1

theorem Eff.wr_slots : (f.slots ws q).wr = f.wr := (f.slots_frame ws q).2.1

theorem Eff.posts_slots : (f.slots ws q).posts = f.posts := (f.slots_frame ws q).2.2.1

/-- The slots of a read leave what the instruction does afar and where control goes. -/
theorem Eff.rest_slots : (f.slots ws q).load = f.load ∧ (f.slots ws q).stores = f.stores ∧ (f.slots ws q).ctl = f.ctl ∧
    (f.slots ws q).clr = f.clr := (f.slots_frame ws q).2.2.2

end

/-- A dithered move writes DTH at once. -/
theorem dthWr_eq (dm : Nat) (v : Word) : dthWr dm v = (if dm = 0 then [] else [RegWrite.dth v]).map (1, ·) := by
  unfold dthWr
  split
  · rfl
  · rfl

section
variable {s : State} {e op : Nat} {tail : Bool} {w : IWord} (body : State → Bool → IWord → Eff)

/-- Address updates `u` are written; the results `late`, none of which is due after one cycle, are in flight. -/
theorem State.poised_late (u : List RegWrite) (late : List (Nat × RegWrite)) (h : s.poised e op tail w)
    (hplain : (body s tail w).Plain) (hwr : (body s tail w).wr = u.map (1, ·) ++ late) (hdue : pendDue (pendOf tail late) = []) :
    (((s.issue e op body).engine e).bank tail).file = (u.foldl RegBank.apply ((s.engine e).bank tail)).file ∧
    ((s.issue e op body).engine e).bank (!tail) = (s.engine e).bank (!tail) ∧
    ((s.issue e op body).engine e).inflight = pendRest (pendOf tail late) ∧
    ((s.issue e op body).engine e).wq = (s.engine e).wq.drop (body s tail w).freeLast ++ (body s tail w).posts := by
  obtain ⟨h0, h1, h2, h3, h4, h5⟩ := hplain
  refine State.poised_flying body _ _ _ h rfl h0 h1 h2 h3 h4 h5 ?_ ?_
  · rw [hwr, pendOf_append, pendDue_append, hdue, List.append_nil]
    exact pendDue_one tail u _
  · rw [hwr, pendOf_append, pendRest_append, pendRest_one, List.nil_append]

/-- The results of a move: DTH is written, the others are in flight. -/
theorem State.poised_dth (dm : Nat) (v : Word) (late : List (Nat × RegWrite)) (h : s.poised e op tail w)
    (hplain : (body s tail w).Plain) (hwr : (body s tail w).wr = dthWr dm v ++ late) (hdue : pendDue (pendOf tail late) = []) :
    (((s.issue e op body).engine e).bank tail).file =
      (if dm = 0 then (s.engine e).bank tail else ((s.engine e).bank tail).apply (.dth v)).file ∧
    ((s.issue e op body).engine e).bank (!tail) = (s.engine e).bank (!tail) ∧
    ((s.issue e op body).engine e).inflight = pendRest (pendOf tail late) := by
  obtain ⟨hfile, hother, hin, -⟩ := State.poised_late body _ late h hplain (hwr.trans (by rw [dthWr_eq])) hdue
  refine ⟨hfile.trans ?_, hother, hin⟩
  split
  · rfl
  · rfl

end

section
variable (tail : Bool) (r : RegWrite) (c c' : Bool) (k k' : BitVec 5)

theorem pend_flag2 : pendDue (pendOf tail ((2, r) :: raise 2 c k)) = [] ∧
    pendRest (pendOf tail ((2, r) :: raise 2 c k)) = ⟨tail, 1, r⟩ :: if c then [(⟨tail, 1, .flg k⟩ : Pend)] else [] :=
  ⟨pendDue_raise tail 0 c k, congrArg (_ :: ·) (pendRest_raise tail 0 c k)⟩

theorem pend_flags3 : pendDue (pendOf tail ((3, r) :: (raise 3 c k ++ raise 3 c' k'))) = [] ∧
    pendRest (pendOf tail ((3, r) :: (raise 3 c k ++ raise 3 c' k'))) = ⟨tail, 2, r⟩ ::
      ((if c then [(⟨tail, 2, .flg k⟩ : Pend)] else []) ++ if c' then [(⟨tail, 2, .flg k'⟩ : Pend)] else []) := by
  cases c <;> cases c' <;> exact ⟨rfl, rfl⟩

end

theorem firstFault_zero {a b : Nat} (ha : a = 0) (hb : b = 0) :
    firstFault a b = 0 := by rw [firstFault, if_neg (by simp [ha]), hb]

section
variable {e : Fin 32} {s : State} {tail : Bool} {w : IWord}

/-- The multiply-accumulate at latency 3, with its accumulator read plain: nothing is forwarded while nothing is in flight. -/
theorem effMac_wr (h : s.poised e 0x10 tail w) : (effMac e s tail w).wr =
    ((s.opnd e tail (fld w 36 13) (bit w 22)).upd ++ (s.opnd e tail (fld w 23 13) (bit w 21)).upd).map (1, ·) ++
    ((3, .aq (fld w 49 2) (((s.engine e).bank tail).guard w)
        (macQuad (fld w 53 2) (fld w 51 2) (((s.engine e).bank tail).guard w) (((s.engine e).bank tail).raq (fld w 49 2))
          (s.opnd e tail (fld w 36 13) (bit w 22)).val (s.opnd e tail (fld w 23 13) (bit w 21)).val).1 true) ::
      (raise 3 (macQuad (fld w 53 2) (fld w 51 2) (((s.engine e).bank tail).guard w) (((s.engine e).bank tail).raq (fld w 49 2))
          (s.opnd e tail (fld w 36 13) (bit w 22)).val (s.opnd e tail (fld w 23 13) (bit w 21)).val).2 flgAov ++
        raise 3 (!((s.opnd e tail (fld w 36 13) (bit w 22)).ue ++ (s.opnd e tail (fld w 23 13) (bit w 21)).ue).isEmpty)
          flgPoison)) := by
  obtain ⟨-, hin, -⟩ := h
  unfold effMac
  extract_lets x m d xo yo r f
  rw [Eff.wr_slots, Eff.wr_slots]
  simp only [f, r, x, Engine.forwarded_none _ _ _ hin, List.append_assoc, List.cons_append, List.nil_append]
  rfl

/-- TAP4 multiplies as MAC does, and moves a sample. -/
theorem effTap4_parts (h : s.poised e 0x11 tail w) :
    let x := s.engine e
    let b := x.bank tail
    let m := b.guard w
    let n := fld w 45 3
    let k := fld w 39 3
    let xm := if bit w 48 then nearAddr x b n (fld w 37 8) true
      else s.nearDld e (fld w 42 6) (b.rg k).toNat (fld w 34 3) true
        (if fld w 37 2 = 0 then [] else [.g k (b.rg k + tincOf (fld w 37 2))])
    let dist := if bit w 48 then [0, 1, 4, 0].getD (fld w 35 2) 0 else 0
    let w0 := if (b.rl n).toNat / 4 = 0 then (b.ra n).toNat else quadWord (b.ra n) (b.rb n) (b.rl n) 0
    let v := tapMove w0 (b.rb n) (b.rl n) dist % 65536
    let xr := s.nearRead e xm.words
    let yo := s.opnd e tail (fld w 21 13) (bit w 20)
    let r := macQuad (fld w 53 2) (fld w 51 2) m (b.raq (fld w 49 2)) (quadOf xr.1) yo.val
    let posts := if dist = 0 then [] else quadPosts [v] m (quadOf xr.1)
    (effTap4 e s tail w).posts = posts ∧
    (effTap4 e s tail w).wr = (xm.upd ++ yo.upd).map (1, ·) ++ ((3, .aq (fld w 49 2) m r.1 true) ::
      (raise 3 r.2 flgAov ++ raise 3 (!(xr.2.2 ++ yo.ue).isEmpty) flgPoison)) ∧
    (xm.fault = 0 → yo.fault = 0 → (dist ≠ 0 → x.lmOk v = true) → (effTap4 e s tail w).Plain) := by
  obtain ⟨-, hin, -⟩ := h
  intro x b m n k xm dist w0 v xr yo r posts
  have hwr : (effTap4 e s tail w).wr = (xm.upd ++ yo.upd).map (1, ·) ++ ((3, .aq (fld w 49 2) m r.1 true) ::
      (raise 3 r.2 flgAov ++ raise 3 (!(xr.2.2 ++ yo.ue).isEmpty) flgPoison)) := by
    simp only [effTap4, Eff.wr_slots, zf, beq_iff_eq, Engine.forwarded_none _ _ _ hin, List.append_assoc, List.cons_append,
      List.nil_append]
    rfl
  have hposts : (effTap4 e s tail w).posts = posts := by
    simp only [effTap4, Eff.posts_slots, zf, beq_iff_eq]
    rfl
  refine ⟨hposts, hwr, fun hx hy hv => ?_⟩
  have hfault : (effTap4 e s tail w).fault = firstFault xm.fault
    (firstFault yo.fault (if dist != 0 && !(x.lmOk v) then 1 else 0)) := by
    simp only [effTap4, Eff.fault_slots, zf, beq_iff_eq]
    rfl
  have hlast : (if dist != 0 && !(x.lmOk v) then 1 else 0) = 0 := by
    refine if_neg ?_
    by_cases hd : dist = 0
    · simp [hd]
    · simp [hv hd]
  have hrest : (effTap4 e s tail w).load = none ∧ (effTap4 e s tail w).stores = [] ∧ (effTap4 e s tail w).ctl = .next ∧
      (effTap4 e s tail w).clr = 0 := by
    simp only [effTap4, Eff.rest_slots, and_self]
  have hlen : posts.length ≤ 4 := by
    dsimp only [posts]
    split
    · exact Nat.zero_le _
    · exact Nat.le_trans (quadPosts_length _ _ _) (by simp)
  exact ⟨hfault.trans (firstFault_zero hx (firstFault_zero hy hlast)), hposts ▸ hlen, hrest⟩

end

/-- Settles O14: each effect writes its updates at once and raises its results later. -/
theorem engineResultsInFlight : Obligations.EngineResultsInFlight := by
  unfold Obligations.EngineResultsInFlight
  intro e s tail w x b m fl out upd
  refine ⟨fun h => ?mac, fun h => ?tap4, fun h => ?aacc, fun h => ?lda, fun h => ?araw, fun h => ?mova, fun h => ?moval,
    fun h => ?qop, fun h => ?chr, fun h => ?ldq, fun h => ?ldg⟩
  case mac =>
    intro xo yo r hx hy
    obtain ⟨hdue, hrest⟩ := pend_flags3 tail (.aq (fld w 49 2) m r.1 true) r.2 (!(xo.ue ++ yo.ue).isEmpty) flgAov flgPoison
    obtain ⟨h1, h2, h3, -⟩ := State.poised_late (effMac e) (xo.upd ++ yo.upd) _ h
      (Eff.Plain.slots (Eff.Plain.slots ⟨firstFault_zero hx hy, Nat.zero_le _, rfl, rfl, rfl, rfl⟩ _ _) _ _) (effMac_wr h) hdue
    exact ⟨_, rfl, h1, h2, h3.trans hrest⟩
  case tap4 =>
    intro n k xm dist w0 v xr yo r hx hy hv
    obtain ⟨hposts, hwr, hplain⟩ := effTap4_parts h
    obtain ⟨hdue, hrest⟩ := pend_flags3 tail (.aq (fld w 49 2) m r.1 true) r.2 (!(xr.2.2 ++ yo.ue).isEmpty) flgAov flgPoison
    obtain ⟨h1, h2, h3, h4⟩ := State.poised_late (effTap4 e) (xm.upd ++ yo.upd) _ h (hplain hx hy hv) hwr hdue
    exact ⟨_, rfl, ⟨h1, h2, h3.trans hrest⟩, _, Eff.freeLast_le _, h4.trans (by rw [hposts])⟩
  case aacc =>
    intro r
    obtain ⟨hdue, hrest⟩ := pend_flag2 tail (.aq (fld w 51 2) m r.1 false) r.2 flgAov
    obtain ⟨h1, h2, h3, -⟩ := State.poised_late (effAacc e) [] _ h ⟨rfl, Nat.zero_le _, rfl, rfl, rfl, rfl⟩ rfl hdue
    exact ⟨_, rfl, h1, h2, h3.trans hrest⟩
  case lda =>
    intro v
    obtain ⟨h1, h2, h3, -⟩ := State.poised_late (effLda e) [] _ h ⟨rfl, Nat.zero_le _, rfl, rfl, rfl, rfl⟩ rfl rfl
    exact ⟨_, rfl, h1, h2, h3⟩
  case araw =>
    obtain ⟨h1, h2, h3, -⟩ := State.poised_late (effAraw e) [] (effAraw e s tail w).wr h
      ⟨rfl, Nat.zero_le _, rfl, rfl, rfl, rfl⟩ rfl (by
        simp only [effAraw, scalarWr]
        repeat' split
        all_goals rfl)
    refine ⟨_, rfl, h1, h2, h3.trans ?_⟩
    simp only [effAraw, scalarWr]
    repeat' split
    all_goals rfl
  case mova =>
    intro dm r
    obtain ⟨hdue, hrest⟩ := pend_flag2 tail (.q (fld w 52 3) m r.1) r.2.1 flgSat
    obtain ⟨h1, h2, h3⟩ := State.poised_dth (effMova e) dm r.2.2 _ h ⟨rfl, Nat.zero_le _, rfl, rfl, rfl, rfl⟩
      (List.append_assoc ..) hdue
    exact ⟨_, rfl, h1, h2, h3.trans hrest⟩
  case moval =>
    intro dm sh d r
    obtain ⟨h1, h2, h3⟩ := State.poised_dth (effMoval e) dm d.2
      (scalarWr 2 m (.g (fld w 52 3) r.1) ++ raise 2 (r.2 && m.getLsbD 0) flgSat) h ⟨rfl, Nat.zero_le _, rfl, rfl, rfl, rfl⟩
      (List.append_assoc ..) (by
        unfold scalarWr raise
        repeat' split
        all_goals rfl)
    refine ⟨_, rfl, h1, h2, h3.trans ?_⟩
    unfold scalarWr raise
    cases m.getLsbD 0
    · rw [Bool.and_false]
      rfl
    · rw [Bool.and_true]
      dsimp only [fl]
      cases r.2
      · rfl
      · rfl
  case qop =>
    intro r
    obtain ⟨hdue, hrest⟩ := pend_flag2 tail (.q (fld w 52 3) m (r.map Prod.fst))
      ((List.range 4).any fun i => m.getLsbD i && (r.get i).2) flgSat
    obtain ⟨h1, h2, h3, -⟩ := State.poised_late (effQop e) [] _ h ⟨rfl, Nat.zero_le _, rfl, rfl, rfl, rfl⟩ rfl hdue
    exact ⟨_, rfl, h1, h2, h3.trans hrest⟩
  case chr =>
    intro p w3 r hlo hhi
    obtain ⟨hdue, hrest⟩ := pend_flag2 tail (.q (fld w 52 3) m r.1) r.2 flgEarly
    obtain ⟨h1, h2, h3, -⟩ := State.poised_late (effChr e) [] _ h
      ⟨if_pos (by simp only [Bool.and_eq_true, decide_eq_true_eq]; exact ⟨hlo, hhi⟩), Nat.zero_le _, rfl, rfl, rfl, rfl⟩ rfl hdue
    exact ⟨_, rfl, h1, h2, h3.trans hrest⟩
  case ldq =>
    intro o r ho
    obtain ⟨hdue, hrest⟩ := pend_flag2 tail (.q (fld w 52 3) m (quadOf r.1)) (!r.2.2.isEmpty) flgPoison
    obtain ⟨h1, h2, h3, -⟩ := State.poised_late (effLdq e) o.upd _ h
      (Eff.Plain.slots ⟨ho, Nat.zero_le _, rfl, rfl, rfl, rfl⟩ _ _) ((Eff.wr_slots ..).trans (List.append_assoc ..)) hdue
    exact ⟨_, rfl, h1, h2, h3.trans hrest⟩
  case ldg =>
    intro o r ho
    obtain ⟨h1, h2, h3, -⟩ := State.poised_late (effLdg e) o.upd
      (scalarWr 2 m (.g (fld w 52 3) (quadOf r.1).l0) ++ raise 2 (!r.2.2.isEmpty) flgPoison) h
      (Eff.Plain.slots ⟨ho, Nat.zero_le _, rfl, rfl, rfl, rfl⟩ _ _) ((Eff.wr_slots ..).trans (List.append_assoc ..)) (by
        unfold scalarWr raise
        repeat' split
        all_goals rfl)
    refine ⟨_, rfl, h1, h2, h3.trans ?_⟩
    dsimp only [fl]
    unfold scalarWr raise
    cases m.getLsbD 0 <;> cases r.2.2.isEmpty <;> rfl

/-! ### Near stores and chain writes -/

/-- A poised CHW issues its chain write. -/
theorem issue_chainWrite_poised {e : Nat} {s : State} {tail : Bool} {w : IWord} {op : Nat}
    (body : State → Bool → IWord → Eff) {p : Nat}
    {m : BitVec 4} {v : Quad Word} (h : s.poised e op tail w) (hb : body s tail w = { chw := some (p, m, v) }) :
    ∃ seg stamp, s.issue e op body =
      (((s.counted e tail).issued e tail (body s tail w)).chainWrite e seg stamp p m v).advance e tail .next := by
  obtain ⟨-, hin, -, -, hq⟩ := id h
  obtain ⟨-, cin, -, cq, -⟩ := State.counted_self s e tail
  obtain ⟨seg, stamp, hcommit⟩ := State.commitEff_eq (s.counted e tail) e tail (body s tail w)
  obtain ⟨-, -, -, -, hfsq, -⟩ := State.issued_engine (s.counted e tail) e tail (body s tail w) (cin.trans hin)
  refine ⟨seg, stamp, ?_⟩
  rw [State.issue_poised body h (by rw [hb]) (by rw [hb]; exact Nat.zero_le _), hcommit]
  generalize (s.counted e tail).issued e tail (body s tail w) = u at hfsq
  have hlen : (((u.chainWrite e seg stamp p m v)).engine e).fsq.length = 0 := by
    rw [State.chainWrite_engine, hfsq, cq, hq]
    rfl
  simp only [hb, List.length_nil, Nat.add_zero, State.takeStores_nil]
  rw [if_pos (by omega)]

theorem State.chainNow_chainWrite (s : State) (e seg stamp p : Nat) (m : BitVec 4) (v : Quad Word) :
    (s.chainWrite e seg stamp p m v).chainNow =
      if m = 0 then s.chainNow else s.chainNow ++ [⟨s.chainId, p, (s.engine e).six.toNat, stamp, e, seg, m, v, false⟩] := by
  unfold State.chainWrite
  split
  · rfl
  · rfl

/-- Settles O15: each store posts what its operand and its guard name; CHW adds its write of this tick. -/
theorem engineStores : Obligations.EngineStores := by
  unfold Obligations.EngineStores
  intro e s tail w x b m upd
  have hpost : ∀ (quad : Bool) (v : Quad Word), (quadPosts (s.nearOp e tail quad w).words m v).length ≤ 4 := fun quad v =>
    Nat.le_trans (quadPosts_length _ _ _) (State.nearOp_length ..)
  refine ⟨fun h => ?movst, fun h => ?stq, fun h => ?stg, fun h => ?chw⟩
  case movst =>
    intro dm o r ho
    obtain ⟨h1, -, h3, h4⟩ := State.poised_late (effMovst e) (o.upd ++ if dm = 0 then [] else [.dth r.2.2])
      (raise 2 r.2.1 flgSat) h
      ⟨ho, hpost _ _, rfl, rfl, rfl, rfl⟩ (by
        rw [List.map_append, ← dthWr_eq]
        rfl) (pendDue_raise tail 0 _ _)
    refine ⟨_, rfl, h4, h1.trans ?_, h3.trans (pendRest_raise tail 0 _ _)⟩
    rw [List.foldl_append]
    split
    · rfl
    · rfl
  case stq =>
    intro o ho
    obtain ⟨h1, -, h3, h4⟩ := State.poised_late (effStq e) o.upd [] h ⟨ho, hpost _ _, rfl, rfl, rfl, rfl⟩
      (List.append_nil _).symm rfl
    exact ⟨_, rfl, h4, h1, h3⟩
  case stg =>
    intro o ho
    obtain ⟨h1, -, h3, h4⟩ := State.poised_late (effStg e) o.upd [] h ⟨ho, hpost _ _, rfl, rfl, rfl, rfl⟩
      (List.append_nil _).symm rfl
    exact ⟨_, rfl, h4, h1, h3⟩
  case chw =>
    intro p w3 hlo hhi hp
    have hb : effChw e s tail w = { chw := some (p, m, b.rq (fld w 52 3)) } := by
      have hports : (fld w3 0 8 ≤ p && p ≤ fld w3 8 8 && p ≤ 191) = true := by simp [hlo, hhi, hp]
      change ({ fault := if (fld w3 0 8 ≤ p && p ≤ fld w3 8 8 && p ≤ 191) = true then 0 else 5,
                chw := some (p, m, b.rq (fld w 52 3)) } : Eff) = _
      rw [if_pos hports]
    obtain ⟨h1, -⟩ := State.poised_late (effChw e) [] [] h (by rw [hb]; exact ⟨rfl, Nat.zero_le _, rfl, rfl, rfl, rfl⟩)
      (by rw [hb]; rfl) rfl
    obtain ⟨seg, stamp, hex⟩ := issue_chainWrite_poised (effChw e) h hb
    have hsix : (((s.counted e tail).issued e tail (effChw e s tail w)).engine e).six = x.six := by
      rw [State.issued_six, State.counted_engine, if_pos rfl]
    have hchain : ∃ id, (s.issue e 0x28 (effChw e)).chainNow = if m = 0 then s.chainNow
        else s.chainNow ++ [⟨id, p, x.six.toNat, stamp, e, seg, m, b.rq (fld w 52 3), false⟩] := by
      rw [hex, State.advance_chainNow, State.chainNow_chainWrite, State.issued_chainNow, State.counted_chainNow, hsix]
      exact ⟨_, rfl⟩
    obtain ⟨id, hchain⟩ := hchain
    exact ⟨_, rfl, h1, fun hm => hchain.trans (if_pos hm), fun hm => ⟨id, stamp, seg, hchain.trans (if_neg hm)⟩⟩

end Sys2Proof.Machine

/-! An engine's instruction leaves the other engines alone. -/

namespace Sys2Proof.Machine

section Other
variable {e k : Nat} (hk : k ≠ e) (s : State)
include hk

theorem State.engine_setEngine_other (x : Engine) : (s.setEngine e x).engine k = s.engine k :=
  (s.engine_setEngine e x k).trans (if_neg hk)

theorem State.engine_modEngine_other (f : Engine → Engine) : (s.modEngine e f).engine k = s.engine k :=
  (s.engine_modEngine e f k).trans (if_neg hk)

theorem State.engine_lmPut_other (a : Nat) (v : Word) : (s.lmPut e a v).engine k = s.engine k := by
  unfold State.lmPut
  split
  · exact SMap.get_set_other _ hk
  · exact State.engine_modEngine_other hk s _

theorem State.engine_retire_other (n : Nat) : (s.retire e n).engine k = s.engine k := by
  unfold State.retire
  extract_lets old t
  refine (foldl_keeps old _ (State.engine · k) (fun u q => ?_) t).trans (State.engine_modEngine_other hk s _)
  refine forN_keeps 4 _ (State.engine · k) (fun i v => ?_) u
  split
  · exact State.engine_lmPut_other hk v _ _
  · rfl

theorem State.engine_land_other (tail : Bool) (w : RegWrite) : (s.land e tail w).engine k = s.engine k := by
  unfold State.land
  extract_lets x y t
  have ht : t.engine k = s.engine k := State.engine_setEngine_other hk s _
  split
  · exact (State.engine_setReg _ _ _ _).trans ht
  · exact ht

theorem State.engine_pipeStep_other : (s.pipeStep e).engine k = s.engine k := by
  unfold State.pipeStep
  extract_lets l t
  exact (foldl_keeps _ _ (State.engine · k) (fun u p => State.engine_land_other hk u _ _) t).trans
    (State.engine_modEngine_other hk s _)

theorem State.engine_emptyCycle_other (pipe : Bool) : (s.emptyCycle e pipe).engine k = s.engine k := by
  unfold State.emptyCycle
  extract_lets t u
  have hu : u.engine k = s.engine k := (State.engine_modEngine_other hk t _).trans (State.engine_retire_other hk s _)
  split
  · exact (State.engine_pipeStep_other hk u).trans hu
  · exact hu

theorem State.engine_segExit_other (i : Nat) : (s.segExit e i).engine k = s.engine k := by
  unfold State.segExit
  extract_lets x new a b
  refine (State.engine_modEngine_other hk b _).trans ?_
  dsimp only [b]
  split
  · rfl
  · rw [State.engine_segReport]
    rfl

theorem State.engine_frameInit_other (i : Nat) : (s.frameInit e i).2.engine k = s.engine k := by
  unfold State.frameInit
  extract_lets x w2 lo fits r frame a b c
  have ha : a.engine k = s.engine k := by
    dsimp only [a]
    split
    · exact State.engine_lmEccNote ..
    · rfl
  clear_value a
  have hb : b.engine k = a.engine k := by
    refine forN_keeps 6 _ (State.engine · k) (fun i u => ?_) a
    exact State.engine_pipeStep_other hk u
  clear_value b
  exact (State.engine_modEngine_other hk c _).trans ((State.engine_retire_other hk b _).trans (hb.trans ha))

theorem State.engine_tailStart_other : (s.tailStart e).engine k = s.engine k := by
  unfold State.tailStart
  extract_lets x t r
  have ht : t.engine k = s.engine k := State.engine_emptyCycle_other hk s _
  clear_value t
  have hr : r.2.engine k = t.engine k := by
    dsimp only [r]
    split
    · exact State.engine_frameInit_other hk t _
    · rfl
  clear_value r
  split
  · exact State.engine_modEngine_other hk s _
  · split
    · exact (State.engine_modEngine_other hk t _).trans ht
    · exact (State.engine_modEngine_other hk r.2 _).trans (hr.trans ht)

theorem State.engine_tailEnd_other : (s.tailEnd e).engine k = s.engine k := State.engine_modEngine_other hk s _

theorem State.engine_passEntry_other (tail : Bool) : (s.passEntry e tail).engine k = s.engine k := by
  unfold State.passEntry
  extract_lets b
  repeat' split
  · exact (State.engine_modEngine_other hk _ _).trans (State.engine_segExit_other hk s _)
  all_goals rfl

theorem State.engine_endProgram_other (tail : Bool) : (s.endProgram e tail).engine k = s.engine k := by
  unfold State.endProgram
  split
  · exact State.engine_tailEnd_other hk s
  · split
    · exact (State.engine_tailStart_other hk _).trans (State.engine_segExit_other hk s _)
    · rfl

theorem State.engine_advance_other (tail : Bool) (c : Ctl) : (s.advance e tail c).engine k = s.engine k := by
  unfold State.advance
  split
  · exact State.engine_endProgram_other hk s _
  · exact (State.engine_passEntry_other hk _ _).trans (State.engine_modEngine_other hk s _)

theorem State.engine_tear_other (i : Nat) : (s.tear e i).engine k = s.engine k := by
  unfold State.tear
  extract_lets x t
  have ht : t.engine k = s.engine k := (State.engine_setEngine_other hk _ _).trans (State.engine_bump ..)
  split
  · exact ht
  · exact ht

theorem State.engine_afterSeg_other (i : Nat) : (s.afterSeg e i).engine k = s.engine k := by
  unfold State.afterSeg
  split
  · exact State.engine_modEngine_other hk s _
  · exact State.engine_tailStart_other hk s

theorem State.engine_faultAt_other (cause : Nat) : (s.faultAt e cause).engine k = s.engine k := by
  unfold State.faultAt
  extract_lets x t
  have ht : t.engine k = s.engine k := State.engine_emptyCycle_other hk s _
  split
  · rw [State.engine_afterSeg_other hk, State.engine_segReport, State.engine_segExit_other hk, State.engine_tear_other hk,
      State.engine_bump, State.engine_setReg, ht]
  · rw [State.engine_tailEnd_other hk, State.engine_segReport, State.engine_setReg, ht]
  · exact ht

theorem State.engine_takeStores_other (l : List FarEntry) : (s.takeStores e l).engine k = s.engine k := by
  unfold State.takeStores
  refine foldl_keeps l _ (State.engine · k) (fun u x => ?_) s
  exact State.engine_setEngine_other hk u _

theorem State.engine_issueLoad_other (tail : Bool) (fr : Nat) (m : BitVec 4) (ps : List FarPiece) :
    (s.issueLoad e tail fr m ps).engine k = s.engine k := by
  unfold State.issueLoad
  extract_lets id t
  refine (foldl_keeps ps _ (State.engine · k) (fun u p => ?_) t).trans (State.engine_modEngine_other hk s _)
  split
  · exact State.engine_modEngine_other hk u _
  · rfl

theorem State.engine_issued_other (tail : Bool) (f : Eff) : (s.issued e tail f).engine k = s.engine k := by
  unfold State.issued
  extract_lets a b occ c d x y
  have hb : b.engine k = s.engine k :=
    (forN_keeps _ _ (State.engine · k)
    (fun i u => (State.engine_pipeStep_other hk _).trans (State.engine_modEngine_other hk u _)) a).trans
      (State.engine_lmEccNote ..)
  rw [State.engine_pipeStep_other hk, State.engine_modEngine_other hk x, State.engine_modEngine_other hk d, State.engine_hwm,
    State.engine_retire_other hk b, hb]

theorem State.engine_commitEff_other (tail : Bool) (f : Eff) : (s.commitEff e tail f).engine k = s.engine k := by
  obtain ⟨seg, stamp, h⟩ := State.commitEff_eq s e tail f
  rw [h]
  extract_lets a b c d
  have hb : b.engine k = a.engine k := by
    dsimp only [b]
    split
    · exact State.chainWrite_engine ..
    · rfl
  have hc : c.engine k = b.engine k := by
    dsimp only [c]
    split
    · exact State.engine_issueLoad_other hk b _ _ _ _
    · rfl
  have hd : d.engine k = c.engine k := by
    dsimp only [d]
    split
    · rw [State.engine_emptyCycle_other hk, State.engine_emptyCycle_other hk]
    · rfl
  have hs : d.engine k = s.engine k := hd.trans (hc.trans (hb.trans (State.engine_issued_other hk s _ _)))
  split
  · rw [State.engine_advance_other hk, State.engine_takeStores_other hk, hs]
  · rw [State.engine_modEngine_other hk, State.engine_setBit, hs]

/-- An issue of engine `e` leaves every other engine as it is. -/
theorem State.engine_issue_other (op : Nat) (body : State → Bool → IWord → Eff) : (s.issue e op body).engine k = s.engine k := by
  unfold State.issue
  split
  · rfl
  next tail w _ =>
    extract_lets t f
    have ht : t.engine k = s.engine k := by
      refine forN_keeps 8 _ (State.engine · k) (fun i u => ?_) s
      dsimp only
      split
      · exact State.engine_emptyCycle_other hk u _
      · rfl
    split
    · exact (State.engine_faultAt_other hk t _).trans ht
    · split
      · exact ((State.engine_modEngine_other hk _ _).trans (State.engine_emptyCycle_other hk t _)).trans ht
      · rw [State.engine_commitEff_other hk]
        exact (State.counted_engine t e tail k).trans ((if_neg hk).trans ht)

end Other

/-- Settles O18: every instruction is an issue of its engine. -/
theorem enginesAreSeparate : Obligations.EnginesAreSeparate := by
  unfold Obligations.EnginesAreSeparate
  intro e c s t k hk hc ht
  have key : ∀ op body, exec c s = .next (s.issue e op body) → t.engine k = s.engine k := fun op body h => by
    cases h.symm.trans ht
    exact State.engine_issue_other hk s op body
  simp only [List.mem_cons, List.not_mem_nil, or_false] at hc
  rcases hc with rfl | rfl | rfl | rfl | rfl | rfl | rfl | rfl | rfl | rfl | rfl | rfl | rfl | rfl | rfl | rfl | rfl | rfl | rfl | rfl |
    rfl | rfl | rfl | rfl | rfl | rfl | rfl | rfl | rfl | rfl | rfl | rfl | rfl | rfl
  all_goals exact key _ _ rfl

end Sys2Proof.Machine

/-! Segment entry, budget cuts and held far stores. -/

namespace Sys2Proof.Machine

/-! ### What cycles of the pipeline leave of an engine -/

/-- The parts of an engine that say which segments it runs and what it holds back. -/
def Engine.plan (x : Engine) :=
  (x.phase, x.frameOf, x.frames, x.needInit, x.stab, x.actTab, x.torn, x.heldStore)

theorem Engine.segWord_of_plan {x y : Engine} (h : y.plan = x.plan) (i w : Nat) : y.segWord true i w = x.segWord true i w := by
  simp only [Engine.plan, Prod.mk.injEq] at h
  obtain ⟨-, -, -, -, hstab, hact, -, -⟩ := h
  unfold Engine.segWord
  rw [hstab, hact]

theorem Engine.segEn_of_plan {x y : Engine} (h : y.plan = x.plan) (i : Nat) : y.segEn true i = x.segEn true i :=
  congrArg (bit · 31) (Engine.segWord_of_plan h i 0)

theorem Engine.plan_modBank (x : Engine) (tail : Bool) (f : RegBank → RegBank) :
    (x.modBank tail f).plan = x.plan ∧ (x.modBank tail f).elapsed = x.elapsed := by
  cases tail
  · exact ⟨rfl, rfl⟩
  · exact ⟨rfl, rfl⟩

section
variable (s : State) (e : Nat)

theorem State.plan_land (tail : Bool) (w : RegWrite) : ((s.land e tail w).engine e).plan = (s.engine e).plan ∧
    ((s.land e tail w).engine e).elapsed = (s.engine e).elapsed := by
  obtain ⟨r, h⟩ := s.land_engine e tail w
  rw [h]
  exact Engine.plan_modBank _ _ _

theorem State.plan_pipeStep : ((s.pipeStep e).engine e).plan = (s.engine e).plan ∧
    ((s.pipeStep e).engine e).elapsed = (s.engine e).elapsed := by
  unfold State.pipeStep
  extract_lets l t
  have ht : (t.engine e).plan = (s.engine e).plan ∧ (t.engine e).elapsed = (s.engine e).elapsed := by
    dsimp only [t]
    rw [State.engine_modEngine, if_pos rfl]
    exact ⟨rfl, rfl⟩
  refine List.foldlRecOn (motive := fun (u : State) => (u.engine e).plan = (s.engine e).plan ∧
    (u.engine e).elapsed = (s.engine e).elapsed)
    _ _ ht fun u hu p _ => ?_
  obtain ⟨h1, h2⟩ := u.plan_land e p.tail p.wr
  exact ⟨h1.trans hu.1, h2.trans hu.2⟩

theorem State.plan_retire (n : Nat) : ((s.retire e n).engine e).plan = (s.engine e).plan ∧
    ((s.retire e n).engine e).elapsed = (s.engine e).elapsed := by
  obtain ⟨lm, err, h⟩ := s.retire_engine e n
  rw [h]
  exact ⟨rfl, rfl⟩

theorem State.plan_emptyCycle : ((s.emptyCycle e true).engine e).plan = (s.engine e).plan ∧
    ((s.emptyCycle e true).engine e).elapsed = (s.engine e).elapsed + 1 := by
  unfold State.emptyCycle
  extract_lets t u
  obtain ⟨h1, h2⟩ := s.plan_retire e 2
  have hu : (u.engine e).plan = (s.engine e).plan ∧ (u.engine e).elapsed = (s.engine e).elapsed + 1 := by
    dsimp only [u]
    rw [State.engine_modEngine, if_pos rfl]
    exact ⟨h1, congrArg (· + 1) h2⟩
  obtain ⟨h3, h4⟩ := u.plan_pipeStep e
  rw [if_pos rfl]
  exact ⟨h3.trans hu.1, h4.trans hu.2⟩

theorem State.plan_emptyCycles (n : Nat) : ((forN n (fun _ s => s.emptyCycle e true) s).engine e).plan = (s.engine e).plan ∧
    ((forN n (fun _ s => s.emptyCycle e true) s).engine e).elapsed = (s.engine e).elapsed + n := by
  induction n with
  | zero => exact ⟨rfl, rfl⟩
  | succ n ih =>
    have hsucc : forN (n + 1) (fun _ s => s.emptyCycle e true) s =
      (forN n (fun _ s => s.emptyCycle e true) s).emptyCycle e true := by
      rw [forN, List.range_succ, List.foldl_append]
      rfl
    obtain ⟨h1, h2⟩ := State.plan_emptyCycle (forN n (fun _ s => s.emptyCycle e true) s) e
    rw [hsucc]
    exact ⟨h1.trans ih.1, h2.trans (by rw [ih.2, Nat.add_assoc])⟩

/-- With nothing in flight, cycles without issue leave the banks. -/
theorem State.core_emptyCycles (n : Nat) (h : (s.engine e).inflight = []) :
    ((forN n (fun _ s => s.emptyCycle e true) s).engine e).core = (s.engine e).core := by
  refine forN_inv n _ (fun t => (t.engine e).core = (s.engine e).core) (fun i t ht => ?_) s rfl
  have hin : (t.engine e).inflight = [] := by
    simp only [Engine.core, Prod.mk.injEq] at ht
    obtain ⟨-, -, -, hfl, -⟩ := ht
    exact hfl.trans h
  exact (t.emptyCycle_engine e hin).trans ht

theorem State.plan_frameInit (i : Nat) : (((s.frameInit e i).2).engine e).plan = (s.engine e).plan ∧
    (((s.frameInit e i).2).engine e).elapsed = (s.engine e).elapsed + 6 := by
  unfold State.frameInit
  extract_lets x w2 lo fits r frame a b c
  have ha : a.engine e = s.engine e := by
    dsimp only [a]
    split
    · exact State.engine_lmEccNote ..
    · rfl
  clear_value a
  have hb : (b.engine e).plan = (s.engine e).plan ∧ (b.engine e).elapsed = (s.engine e).elapsed := by
    refine forN_inv 6 _ (fun t => (t.engine e).plan = (s.engine e).plan ∧ (t.engine e).elapsed = (s.engine e).elapsed)
      (fun i t ht => ?_) a (by rw [ha]; exact ⟨rfl, rfl⟩)
    obtain ⟨h1, h2⟩ := t.plan_pipeStep e
    exact ⟨h1.trans ht.1, h2.trans ht.2⟩
  clear_value b
  obtain ⟨h1, h2⟩ := b.plan_retire e 1
  dsimp only
  rw [State.engine_modEngine, if_pos rfl]
  exact ⟨h1.trans hb.1, congrArg (· + 6) (h2.trans hb.2)⟩

/-! ### SEGMENT_ENTRY -/

theorem State.engine_bindReset (i k : Nat) : (s.bindReset e i).engine k = s.engine k := by
  unfold State.bindReset
  refine forN_keeps 16 _ (State.engine · k) (fun n t => ?_) s
  split
  · exact State.engine_setBit ..
  · rfl

/-- Two engines that agree but for the A and B registers of the tick bank. -/
def Engine.SameButBase (x y : Engine) : Prop := y.plan = x.plan ∧ y.elapsed = x.elapsed ∧ y.tick.pc = x.tick.pc

theorem State.bindApply_base (i n : Nat) : (s.engine e).SameButBase ((s.bindApply e i n).engine e) := by
  unfold State.bindApply
  extract_lets r set a shadowed act app p o t
  have ht : (s.engine e).SameButBase (t.engine e) := by
    dsimp only [t]
    rw [State.engine_modEngine, if_pos rfl]
    exact ⟨rfl, rfl, rfl⟩
  split
  · exact ⟨rfl, rfl, rfl⟩
  · split
    · exact ⟨rfl, rfl, rfl⟩
    · rw [State.engine_setBit]
      exact ht

theorem State.bindApplies_base (i m : Nat) : (s.engine e).SameButBase ((forN m (fun n s => s.bindApply e i n) s).engine e) := by
  refine forN_inv m _ (fun t => (s.engine e).SameButBase (t.engine e)) (fun n t ht => ?_) s ⟨rfl, rfl, rfl⟩
  obtain ⟨h1, h2, h3⟩ := ht
  obtain ⟨k1, k2, k3⟩ := t.bindApply_base e i n
  exact ⟨k1.trans h1, k2.trans h2, k3.trans h3⟩

end

theorem State.segmentEntry_fields (s : State) (e i : Nat) :
    let x := s.engine e
    let y := (s.segmentEntry e i).engine e
    y.phase = .run i ∧ y.frameOf = some i ∧ y.needInit.getLsbD i = false ∧ y.tick.pc = fld (x.segWord true i 0) 0 14 ∧
    y.elapsed = (if x.needInit.getLsbD i then 10 else 4) ∧
    (x.inflight = [] → ∀ o, x.frameOf = some o → SMap.get (fun _ => {}) y.frames o = x.tick.frame) := by
  intro x y
  have hy : y = (s.segmentEntry e i).engine e := rfl
  clear_value y
  unfold State.segmentEntry at hy
  extract_lets a b c z init r d fr g at hy
  have ha : a.engine e = { x with elapsed := 0 } := (s.engine_modEngine e _ e).trans (if_pos rfl)
  have hax : (a.engine e).plan = x.plan ∧ (a.engine e).elapsed = 0 := by rw [ha]; exact ⟨rfl, rfl⟩
  have hb : (b.engine e).plan = x.plan ∧ (b.engine e).elapsed = 4 := by
    obtain ⟨h1, h2⟩ := a.plan_emptyCycles e 4
    exact ⟨h1.trans hax.1, h2.trans (by rw [hax.2])⟩
  have htick : x.inflight = [] → (b.engine e).tick = x.tick := by
    intro hin
    have hcore := a.core_emptyCycles e 4 (by rw [ha]; exact hin)
    simp only [Engine.core, Prod.mk.injEq] at hcore
    obtain ⟨-, htick, -⟩ := hcore
    exact htick.trans (by rw [ha])
  clear_value b
  have hz : z = { b.engine e with frames := match (b.engine e).frameOf with
      | some o => SMap.set (fun _ => {}) (b.engine e).frames o (b.engine e).tick.frame
      | none => (b.engine e).frames } := (b.engine_modEngine e _ e).trans (if_pos rfl)
  obtain ⟨hplan, helapsed⟩ := hb
  have hinit : init = x.needInit.getLsbD i := by
    simp only [Engine.plan, Prod.mk.injEq] at hplan
    obtain ⟨-, -, -, hneed, -⟩ := hplan
    dsimp only [init]
    rw [hz]
    exact congrArg (·.getLsbD i) hneed
  have hd : (d.engine e).plan = z.plan ∧ (d.engine e).elapsed = if x.needInit.getLsbD i then 10 else 4 := by
    have hze : z.elapsed = 4 := by rw [hz]; exact helapsed
    dsimp only [d, r]
    rw [← hinit]
    split
    · rw [State.engine_bindReset]
      obtain ⟨h1, h2⟩ := c.plan_frameInit e i
      exact ⟨h1, h2.trans (by rw [show (c.engine e).elapsed = 4 from hze])⟩
    · exact ⟨rfl, hze⟩
  have hseg : z.segWord true i 0 = x.segWord true i 0 := by
    have : z.segWord true i 0 = (b.engine e).segWord true i 0 := by rw [hz]; rfl
    rw [this, Engine.segWord_of_plan hplan]
  clear_value d
  have hg : g.engine e = { d.engine e with
      tick := { r.1.frame with pc := fld ((d.engine e).segWord true i 0) 0 14 }
      frameOf := some i
      needInit := (d.engine e).needInit &&& ~~~(1#32 <<< i)
      flgRun := 0
      phase := .run i } := (d.engine_modEngine e _ e).trans (if_pos rfl)
  clear_value g
  obtain ⟨hyplan, hyel, hypc⟩ := g.bindApplies_base e i 16
  rw [← hy] at hyplan hyel hypc
  rw [hg] at hyplan hyel hypc
  simp only [Engine.plan, Prod.mk.injEq] at hyplan
  obtain ⟨hphase, hframeOf, hframes, hneed, -⟩ := hyplan
  refine ⟨hphase, hframeOf, ?_, ?_, hyel.trans hd.2, fun hin o ho => ?_⟩
  · rw [hneed]
    by_cases hi : i < 32
    · simp [hi]
    · exact BitVec.getLsbD_of_ge _ _ (Nat.le_of_not_lt hi)
  · rw [hypc, Engine.segWord_of_plan hd.1, hseg]
  · simp only [Engine.plan, Prod.mk.injEq] at hd hplan
    obtain ⟨⟨-, -, hdframes, -⟩, -⟩ := hd
    obtain ⟨-, hfo, -⟩ := hplan
    rw [hframes]
    rw [hdframes, hz]
    simp only [hfo, ho]
    rw [SMap.get_set_same, htick hin]

/-! ### BUDGET_CUT -/

/-- Where an engine goes after segment `i`. -/
def Engine.afterSegPhase (x : Engine) (i : Nat) : Phase :=
  match x.nextEnabled (i + 1) with
  | some j => .enter j
  | none => if x.segEn true 32 then .tail else .idle

theorem State.tailStart_torn (s : State) (e : Nat) : ((s.tailStart e).engine e).torn = (s.engine e).torn ∧
    ((s.tailStart e).engine e).phase = if (s.engine e).segEn true 32 then .tail else .idle := by
  unfold State.tailStart
  extract_lets x t r
  have htorn : (t.engine e).torn = x.torn := by
    have hplan := (s.plan_emptyCycle e).1
    simp only [Engine.plan, Prod.mk.injEq] at hplan
    obtain ⟨-, -, -, -, -, -, htorn, -⟩ := hplan
    exact htorn
  clear_value t
  have hr : (r.2.engine e).torn = x.torn := by
    dsimp only [r]
    split
    · have hplan := (t.plan_frameInit e 32).1
      simp only [Engine.plan, Prod.mk.injEq] at hplan
      obtain ⟨-, -, -, -, -, -, hfr, -⟩ := hplan
      exact hfr.trans htorn
    · exact htorn
  clear_value r
  by_cases hen : x.segEn true 32 = true
  · rw [if_neg (by simp [hen]), if_pos hen]
    split
    · rw [State.engine_modEngine, if_pos rfl]
      exact ⟨htorn, rfl⟩
    · rw [State.engine_modEngine, if_pos rfl]
      exact ⟨hr, rfl⟩
  · rw [if_pos (by simp [hen]), if_neg hen, State.engine_modEngine, if_pos rfl]
    exact ⟨rfl, rfl⟩

theorem State.afterSeg_torn (s : State) (e i : Nat) : ((s.afterSeg e i).engine e).torn = (s.engine e).torn ∧
    ((s.afterSeg e i).engine e).phase = (s.engine e).afterSegPhase i := by
  unfold State.afterSeg Engine.afterSegPhase
  cases (s.engine e).nextEnabled (i + 1) with
  | some j =>
    dsimp only
    rw [State.engine_modEngine, if_pos rfl]
    exact ⟨rfl, rfl⟩
  | none => exact s.tailStart_torn e

theorem State.tear_engine (s : State) (e i : Nat) :
    (s.tear e i).engine e = { s.engine e with torn := i :: (s.engine e).torn } := by
  have hset : ∀ u : State, (u.setEngine e { s.engine e with torn := i :: (s.engine e).torn }).engine e =
      { s.engine e with torn := i :: (s.engine e).torn } := fun u => (u.engine_setEngine ..).trans (if_pos rfl)
  unfold State.tear
  extract_lets x t
  split
  · exact hset _
  · exact hset _

theorem State.cutSeg_engine (s : State) (e i : Nat) : ((s.cutSeg e i).engine e).torn = i :: (s.engine e).torn ∧
    ((s.cutSeg e i).engine e).phase = (s.engine e).afterSegPhase i := by
  unfold State.cutSeg
  extract_lets t
  have ht : t.engine e = { s.engine e with
      torn := i :: (s.engine e).torn, flgRun := 0, stall := 0, farLoads := (s.engine e).farLoads.filter (·.tail) } := by
    dsimp only [t]
    rw [State.segExit_engine, State.tear_engine, State.engine_bump]
  obtain ⟨htorn, hphase⟩ := (t.segReport e i 0x03 0).afterSeg_torn e i
  rw [State.engine_segReport, ht] at htorn hphase
  exact ⟨htorn, hphase⟩

theorem exec_budgetCut (e : Fin 32) (s : State) (i : Nat) (hphase : (s.engine e).phase = .run i) : exec (.budgetCut e) s =
    if (s.engine e).elapsed < fld ((s.engine e).segWord true i 1) 0 16 then .next s
    else if (s.engine e).heldStore.isSome then .next (s.setEngine e { s.engine e with cutPending := true })
    else .next (s.cutSeg e i) := by
  change execBudgetCut e s = _
  unfold execBudgetCut
  extract_lets x
  split
  next j hj =>
    cases hphase.symm.trans hj
    rfl
  next h => exact absurd hphase (h i)

/-! ### The count of a cut stays -/

theorem fld_lt {n : Nat} (w : BitVec n) (lo len : Nat) : fld w lo len < 2 ^ len := Nat.mod_lt _ (Nat.two_pow_pos len)

/-- A register that the end of a segment of engine `e` leaves alone. -/
def apartFromEngine (e o : Nat) : Prop :=
  (∀ c < 512, o ≠ rCtxtErr c) ∧ o ≠ rEngDpFlags e ∧ o ≠ rEngLmEcc e ∧ ∀ i, o ≠ rEngSegHwm e i

theorem State.reg_logEventAt (s : State) (six c kind g seg d : Nat) {o : Nat} (ho : o ≠ rCtxtErr c) :
    (s.logEventAt six c kind g seg d).reg o = s.reg o := by
  unfold State.logEventAt
  extract_lets
  repeat' split
  · rfl
  · simp +zetaDelta
  · simp +zetaDelta
  · simp +zetaDelta [State.reg_setBit, ho]

theorem State.reg_retire (s : State) (e n o : Nat) : (s.retire e n).reg o = s.reg o :=
  (State.retire_kept (M := { eng := true, cal := true }) rfl rfl (Kept.refl s)).reg rfl o

section
variable {e o : Nat} (ho : apartFromEngine e o) (s : State)
include ho

theorem State.reg_segReport_apart (i k d : Nat) : (s.segReport e i k d).reg o = s.reg o :=
  State.reg_logEventAt _ _ _ _ _ _ _ (ho.1 _ (fld_lt _ _ _))

theorem State.reg_segExit_apart (i : Nat) : (s.segExit e i).reg o = s.reg o := by
  obtain ⟨-, -, -, hhwm⟩ := id ho
  unfold State.segExit
  extract_lets x new a b
  have ha : a.reg o = s.reg o := State.reg_setFld_other _ _ _ _ (hhwm i)
  have hb : b.reg o = a.reg o := by
    dsimp only [b]
    split
    · rfl
    · exact (State.reg_segReport_apart ho _ _ _ _).trans (State.reg_setReg_other _ _ (hhwm i))
  exact hb.trans ha

theorem State.reg_pipeStep_apart : (s.pipeStep e).reg o = s.reg o := by
  obtain ⟨-, hdp, -, -⟩ := id ho
  unfold State.pipeStep
  extract_lets l t
  refine foldl_keeps _ _ (State.reg · o) (fun u p => ?_) t
  unfold State.land
  extract_lets x y v
  split
  · exact State.reg_setReg_other v _ hdp
  · rfl

theorem State.reg_emptyCycle_apart : (s.emptyCycle e true).reg o = s.reg o := by
  unfold State.emptyCycle
  extract_lets t u
  exact (State.reg_pipeStep_apart ho u).trans (State.reg_retire s e 2 o)

theorem State.reg_frameInit_apart (i : Nat) : (s.frameInit e i).2.reg o = s.reg o := by
  obtain ⟨-, -, hecc, -⟩ := id ho
  unfold State.frameInit
  extract_lets x w2 lo fits r frame a b c
  have ha : a.reg o = s.reg o := by
    dsimp only [a]
    split
    · unfold State.lmEccNote
      extract_lets u
      have hu : u.reg o = s.reg o := by
        dsimp only [u]
        split
        · rfl
        · exact State.reg_setFld_other _ _ _ _ hecc
      split
      · rw [State.reg_setBit_other _ _ _ hecc, State.reg_setFld_other _ _ _ _ hecc, hu]
      · exact hu
    · rfl
  clear_value a
  have hb : b.reg o = a.reg o := by
    refine forN_keeps 6 _ (State.reg · o) (fun i u => ?_) a
    exact State.reg_pipeStep_apart ho u
  clear_value b
  exact (State.reg_retire b e 1 o).trans (hb.trans ha)

theorem State.reg_afterSeg_apart (i : Nat) : (s.afterSeg e i).reg o = s.reg o := by
  unfold State.afterSeg
  split
  · rfl
  · unfold State.tailStart
    extract_lets x t r
    have ht : t.reg o = s.reg o := State.reg_emptyCycle_apart ho s
    clear_value t
    have hr : r.2.reg o = t.reg o := by
      dsimp only [r]
      split
      · exact State.reg_frameInit_apart ho t 32
      · rfl
    clear_value r
    split
    · rfl
    · split
      · exact ht
      · exact hr.trans ht

end

theorem State.cutSeg_count (s : State) {e i : Nat} (he : e < 32) (hi : i < 32) :
    (s.cutSeg e i).rfld (rEngSegStat e i) 0 8 = min (s.rfld (rEngSegStat e i) 0 8 + 1) 255 := by
  have ho : apartFromEngine e (rEngSegStat e i) := by
    refine ⟨fun c hc => ?_, ?_, ?_, fun j => ?_⟩
    all_goals simp only [rEngSegStat, rCtxtErr, rEngDpFlags, rEngLmEcc, rEngSegHwm]; omega
  unfold State.cutSeg
  extract_lets t
  have ht : t.reg (rEngSegStat e i) = ((s.bump (rEngSegStat e i) 0 8).tear e i).reg (rEngSegStat e i) :=
    State.reg_segExit_apart ho _ i
  have htear : ∀ u : State, (u.tear e i).rfld (rEngSegStat e i) 0 8 = u.rfld (rEngSegStat e i) 0 8 := by
    intro u
    unfold State.tear
    extract_lets x v
    have hv : v.rfld (rEngSegStat e i) 0 8 = u.rfld (rEngSegStat e i) 0 8 := by
      dsimp only [v]
      rw [State.rfld, State.reg_setEngine, ← State.rfld, State.bump]
      exact State.rfld_setFld_other _ _ (.inr (.inl (by omega)))
    clear_value v
    split
    · exact hv
    · exact hv
  rewrite [State.rfld, State.reg_afterSeg_apart ho, State.reg_segReport_apart ho, ht, ← State.rfld, htear,
    State.rfld_bump_same _ _ _ _ (by omega)]
  rfl

/-! ### FAR_STORE_TAKEN -/

theorem State.takeStores_held (s : State) (e : Nat) (l : List FarEntry) :
    ((s.takeStores e l).engine e).heldStore = (s.engine e).heldStore := by
  unfold State.takeStores
  refine foldl_keeps l _ (fun t => (t.engine e).heldStore) (fun u x => ?_) s
  extract_lets en y v
  have hv : v.engine e = { en with fsq := en.fsq ++ [y], nextFar := en.nextFar + 1 } := (u.engine_setEngine ..).trans (if_pos rfl)
  rw [State.offerFar_engine, hv]

theorem State.passEntry_held (s : State) (e : Nat) (tail : Bool) :
    ((s.passEntry e tail).engine e).heldStore = (s.engine e).heldStore := by
  unfold State.passEntry
  extract_lets b
  repeat' split
  · rw [State.engine_modEngine, if_pos rfl, State.segExit_engine]
  all_goals rfl

/-- The instruction after a held store completes: its entries stay in the queue. -/
theorem State.advance_held (s : State) (e : Nat) (tail : Bool) (hheld : (s.engine e).heldStore = none) :
    ((s.advance e tail .next).engine e).heldStore = none ∧ ((s.advance e tail .next).engine e).fsq = (s.engine e).fsq := by
  obtain ⟨-, -, -, -, hfsq, -⟩ := s.advance_engine e tail .next (by decide)
  refine ⟨?_, hfsq⟩
  rw [State.advance, if_neg (by decide), State.passEntry_held, State.engine_modEngine, if_pos rfl]
  cases tail
  · exact hheld
  · exact hheld

theorem exec_farStoreTaken_full (e : Fin 32) (s : State) (l : List FarEntry) (hheld : (s.engine e).heldStore = some l)
    (hfull : 4 < (s.engine e).fsq.length + l.length) : exec (.farStoreTaken e) s = .next s := by
  change execFarStoreTaken e s = _
  unfold execFarStoreTaken
  simp only [hheld, hfull, if_true]

/-- Held entries that fit join the queue. -/
theorem execFarStoreTaken_fits (e : Fin 32) (s : State) (l : List FarEntry) (hheld : (s.engine e).heldStore = some l)
    (hroom : (s.engine e).fsq.length + l.length ≤ 4) (hpend : (s.engine e).pendTick = none)
    (hcut : (s.engine e).cutPending = false) : ∃ t, exec (.farStoreTaken e) s = .next t ∧ (t.engine e).heldStore = none ∧
      (t.engine e).fsq.map FarEntry.what = ((s.engine e).fsq ++ l).map FarEntry.what := by
  have hex : ∃ tail, exec (.farStoreTaken e) s = .next (((s.modEngine e fun x => { x with
      heldStore := none, cutPending := false, pendTick := none, stopWait := 0 }).takeStores e l).advance e tail .next) := by
    change ∃ tail, execFarStoreTaken e s = _
    unfold execFarStoreTaken
    have hroom' : ¬ 4 < (s.engine e).fsq.length + l.length := Nat.not_lt.mpr hroom
    simp only [hheld, hroom', if_false, hpend, hcut, Option.isSome_none, Bool.or_false, Bool.false_eq_true]
    split
    next hpending _ => cases hpending
    next hpending _ => cases hpending
    next => exact ⟨_, rfl⟩
    next => exact ⟨_, rfl⟩
  obtain ⟨tail, hex⟩ := hex
  generalize hu : s.modEngine e (fun x =>
    { x with heldStore := none, cutPending := false, pendTick := none, stopWait := 0 }) = u at hex
  have hue : (u.engine e).heldStore = none ∧ (u.engine e).fsq = (s.engine e).fsq := by
    rw [← hu, State.engine_modEngine, if_pos rfl]
    exact ⟨rfl, rfl⟩
  obtain ⟨hnone, hfsq⟩ := (u.takeStores e l).advance_held e tail ((u.takeStores_held e l).trans hue.1)
  obtain ⟨-, -, -, -, -, hwhat⟩ := u.takeStores_engine e l
  exact ⟨_, hex, hnone, by rw [hfsq, hwhat, hue.2, List.map_append]⟩

/-- Settles O19: the entry by its steps, the cut by the engine after it, the held stores by the queue's room. -/
theorem segments : Obligations.Segments := by
  unfold Obligations.Segments
  intro e s i x
  refine ⟨fun hphase => ?entry, fun hphase hi => ⟨fun hlt => ?_, fun hge hheld => ?_, fun hge hheld => ?cut⟩, fun l hheld =>
    ⟨exec_farStoreTaken_full e s l hheld, fun hroom hpend hcut => execFarStoreTaken_fits e s l hheld hroom hpend hcut⟩⟩
  case entry =>
    refine ⟨s.segmentEntry e i, ?_, s.segmentEntry_fields e i⟩
    change execSegmentEntry e s = _
    unfold execSegmentEntry
    rw [hphase]
  all_goals have hex := exec_budgetCut e s i hphase
  case cut =>
    obtain ⟨htorn, hafter⟩ := s.cutSeg_engine e i
    refine ⟨_, hex.trans ((if_neg (Nat.not_lt.mpr hge)).trans (if_neg (Option.not_isSome_iff_eq_none.mpr hheld))), htorn,
      s.cutSeg_count e.isLt hi, ?_⟩
    exact hafter
  · exact hex.trans (if_pos hlt)
  · exact hex.trans ((if_neg (Nat.not_lt.mpr hge)).trans (if_pos (Option.isSome_iff_ne_none.mpr hheld)))

end Sys2Proof.Machine

/-! Receipt of a tick, cluster reset, delay-line writes and swap bits. -/

namespace Sys2Proof.Machine

/-! ### What cycles of the pipeline leave of a tick -/

/-- What an engine took with its tick, and the tick that is offered to it. -/
def Engine.tickVals (x : Engine) := (x.six, x.dfl, x.tc1, x.tc2, x.received, x.offered)

/-- `y` is `x` but for the register banks, what is in flight to them, and the local memory with its write queue. -/
def Engine.SamePipe (x y : Engine) : Prop := ∃ fl tk tl fr lm er wq,
  y = { x with inflight := fl, tick := tk, tail := tl, flgRun := fr, lm := lm, lmErr := er, wq := wq }

theorem Engine.SamePipe.refl (x : Engine) : x.SamePipe x := ⟨_, _, _, _, _, _, _, rfl⟩

theorem Engine.SamePipe.trans {x y z : Engine} (h : x.SamePipe y) (k : y.SamePipe z) : x.SamePipe z := by
  obtain ⟨_, _, _, _, _, _, _, rfl⟩ := h
  obtain ⟨_, _, _, _, _, _, _, rfl⟩ := k
  exact ⟨_, _, _, _, _, _, _, rfl⟩

theorem Engine.SamePipe.vals {x y : Engine} (h : x.SamePipe y) : y.tickVals = x.tickVals ∧ y.tickCyc = x.tickCyc := by
  obtain ⟨_, _, _, _, _, _, _, rfl⟩ := h
  exact ⟨rfl, rfl⟩

section
variable (s : State) (e : Nat)

theorem State.land_samePipe (tail : Bool) (w : RegWrite) : (s.engine e).SamePipe ((s.land e tail w).engine e) := by
  obtain ⟨r, h⟩ := s.land_engine e tail w
  rw [h]
  cases tail
  · exact ⟨_, _, _, _, _, _, _, rfl⟩
  · exact ⟨_, _, _, _, _, _, _, rfl⟩

theorem State.pipeStep_samePipe : (s.engine e).SamePipe ((s.pipeStep e).engine e) := by
  unfold State.pipeStep
  extract_lets l t
  have ht : (s.engine e).SamePipe (t.engine e) := by
    dsimp only [t]
    rw [State.engine_modEngine, if_pos rfl]
    exact ⟨_, _, _, _, _, _, _, rfl⟩
  exact List.foldlRecOn (motive := fun (u : State) => (s.engine e).SamePipe (u.engine e)) _ _ ht fun u hu p _ =>
    hu.trans (u.land_samePipe e p.tail p.wr)

theorem State.retire_samePipe (n : Nat) : (s.engine e).SamePipe ((s.retire e n).engine e) := by
  obtain ⟨lm, err, h⟩ := s.retire_engine e n
  rw [h]
  exact ⟨_, _, _, _, _, _, _, rfl⟩

theorem State.tickVals_emptyCycle : ((s.emptyCycle e true).engine e).tickVals = (s.engine e).tickVals ∧
    ((s.emptyCycle e true).engine e).tickCyc = (s.engine e).tickCyc + 1 := by
  unfold State.emptyCycle
  extract_lets t u
  obtain ⟨h1, h2⟩ := (s.retire_samePipe e 2).vals
  have hu : (u.engine e).tickVals = (s.engine e).tickVals ∧ (u.engine e).tickCyc = (s.engine e).tickCyc + 1 := by
    dsimp only [u]
    rw [State.engine_modEngine, if_pos rfl]
    exact ⟨h1, congrArg (· + 1) h2⟩
  obtain ⟨h3, h4⟩ := (u.pipeStep_samePipe e).vals
  rw [if_pos rfl]
  exact ⟨h3.trans hu.1, h4.trans hu.2⟩

theorem State.tickVals_frameInit (i : Nat) : (((s.frameInit e i).2).engine e).tickVals = (s.engine e).tickVals ∧
    (((s.frameInit e i).2).engine e).tickCyc = (s.engine e).tickCyc + 6 := by
  unfold State.frameInit
  extract_lets x w2 lo fits r frame a b c
  have ha : a.engine e = s.engine e := by
    dsimp only [a]
    split
    · exact State.engine_lmEccNote ..
    · rfl
  clear_value a
  have hb : (a.engine e).SamePipe (b.engine e) :=
    forN_inv 6 _ (fun t => (a.engine e).SamePipe (t.engine e)) (fun _ t ht => ht.trans (t.pipeStep_samePipe e)) a (.refl _)
  clear_value b
  obtain ⟨h1, h2⟩ := (hb.trans (b.retire_samePipe e 1)).vals
  rw [ha] at h1 h2
  dsimp only
  rw [State.engine_modEngine, if_pos rfl]
  exact ⟨h1, congrArg (· + 6) h2⟩

/-- The start of the tail program takes one cycle, and six more where its frame is loaded. -/
theorem State.tickVals_tailStart : ((s.tailStart e).engine e).tickVals = (s.engine e).tickVals ∧
    ((s.tailStart e).engine e).tickCyc ≤ (s.engine e).tickCyc + 7 := by
  unfold State.tailStart
  extract_lets x t r
  obtain ⟨htv, htc⟩ : (t.engine e).tickVals = x.tickVals ∧ (t.engine e).tickCyc = x.tickCyc + 1 := s.tickVals_emptyCycle e
  clear_value t
  have hr : (r.2.engine e).tickVals = x.tickVals ∧ (r.2.engine e).tickCyc ≤ x.tickCyc + 7 := by
    dsimp only [r]
    split
    · obtain ⟨h1, h2⟩ := t.tickVals_frameInit e 32
      exact ⟨h1.trans htv, (by omega)⟩
    · exact ⟨htv, by rw [htc]; omega⟩
  clear_value r
  split
  · rw [State.engine_modEngine, if_pos rfl]
    exact ⟨rfl, Nat.le_add_right _ 7⟩
  · split
    · rw [State.engine_modEngine, if_pos rfl]
      exact ⟨htv, Nat.le_trans (Nat.le_of_eq htc) (Nat.add_le_add_left (by decide) _)⟩
    · rw [State.engine_modEngine, if_pos rfl]
      exact hr

/-- No entry lies beyond the last, so what follows it is the tail program. -/
theorem State.tailStart_eq_afterSeg : s.tailStart e = s.afterSeg e 32 := by
  have hnone : (s.engine e).nextEnabled 33 = none := by
    rw [Engine.nextEnabled, List.find?_eq_none]
    intro j hj
    have hlt := List.mem_range.mp hj
    simp [show ¬ 33 ≤ j by omega]
  unfold State.afterSeg
  rw [hnone]

/-! ### The beginning of a tick -/

theorem State.engine_activateDlds : (s.activateDlds e).engine e = { s.engine e with dldWait := [] } := by
  unfold State.activateDlds
  extract_lets ws t
  have ht : t.engine e = { s.engine e with dldWait := [] } := (s.engine_modEngine e _ e).trans (if_pos rfl)
  refine Eq.trans (foldl_keeps ws _ (State.engine · e) (fun u p => ?_) t) ht
  extract_lets n d ok a b
  split
  · rfl
  · exact State.engine_setBit ..

/-- The delay-line registers stand above the engine's counters. -/
theorem State.reg_activateDlds {o : Nat} (ho : o < rEngDldErr e 0) : (s.activateDlds e).reg o = s.reg o := by
  unfold State.activateDlds
  extract_lets ws t
  refine Eq.trans (foldl_keeps ws _ (State.reg · o) (fun u p => ?_) t) rfl
  extract_lets n d ok a b
  have hb : b.reg o = u.reg o := by
    dsimp only [b, a]
    simp only [rEngDldErr] at ho
    rw [State.reg_setReg_other, State.reg_setReg_other, State.reg_setReg_other]
    all_goals simp only [rEngDldW0, rEngDldW1, rEngDldW2]; omega
  clear_value b
  split
  · exact hb
  · rw [State.reg_setBit_other _ _ _ (by simp only [rEngDldErr] at ho ⊢; omega), hb]

/-- An engine at the beginning of a tick. -/
def Engine.tookTick (y : Engine) (k : TickInfo) (offered : Option TickInfo) : Prop :=
  y.tickVals = (BitVec.ofNat 64 k.six, k.dfl, BitVec.ofNat 64 k.tc1, BitVec.ofNat 64 k.tc2, true, offered) ∧ y.tickCyc ≤ 7

theorem State.beginTick_engine (k : TickInfo) :
    ((s.beginTick e k).engine e).tookTick k (s.engine e).offered ∧
    ((s.beginTick e k).engine e).phase = match (s.engine e).nextEnabled 0 with
      | some i => .enter i
      | none => if (s.engine e).segEn true 32 then .tail else .idle := by
  unfold State.beginTick
  extract_lets t pr u v
  have ht : u.engine e = { s.engine e with dldWait := [] } := s.engine_activateDlds e
  clear_value u
  have hv : (v.engine e).tickVals =
      (BitVec.ofNat 64 k.six, k.dfl, BitVec.ofNat 64 k.tc1, BitVec.ofNat 64 k.tc2, true, (s.engine e).offered) ∧
      (v.engine e).tickCyc = 0 ∧ (v.engine e).stab = (s.engine e).stab ∧ (v.engine e).actTab = (s.engine e).actTab := by
    dsimp only [v]
    rw [State.engine_modEngine, if_pos rfl, ht]
    exact ⟨rfl, rfl, rfl, rfl⟩
  obtain ⟨hvals, hcyc, hstab, hact⟩ := hv
  clear_value v
  have hword : ∀ j w, (v.engine e).segWord true j w = (s.engine e).segWord true j w := fun j w => by
    rw [Engine.segWord, Engine.segWord, hstab, hact]
  have hnext : (v.engine e).nextEnabled 0 = (s.engine e).nextEnabled 0 := by simp only [Engine.nextEnabled, Engine.segEn, hword]
  have htail : (v.engine e).segEn true 32 = (s.engine e).segEn true 32 := by simp only [Engine.segEn, hword]
  rw [← hnext]
  cases (v.engine e).nextEnabled 0 with
  | some i =>
    dsimp only
    rw [State.engine_modEngine, if_pos rfl]
    exact ⟨⟨hvals, Nat.le_trans (Nat.le_of_eq hcyc) (by omega)⟩, rfl⟩
  | none =>
    dsimp only
    obtain ⟨h1, h2⟩ := v.tickVals_tailStart e
    refine ⟨⟨h1.trans hvals, Nat.le_trans h2 (by omega)⟩, ?_⟩
    rw [(v.tailStart_torn e).2, htail]

theorem State.reg_beginTick (k : TickInfo) {o : Nat} (ho : o < rEngDldErr e 0) (hapart : apartFromEngine e o) :
    (s.beginTick e k).reg o = s.reg o := by
  unfold State.beginTick
  extract_lets t pr u v
  have ht : t.reg o = s.reg o := s.reg_activateDlds e ho
  have hv : v.reg o = s.reg o := ht
  clear_value v
  split
  · exact hv
  · rw [State.tailStart_eq_afterSeg, State.reg_afterSeg_apart hapart, hv]

/-! ### A tick program that still runs -/

theorem State.engine_deferSwap (k : Nat) : (s.deferSwap e).engine k = s.engine k := by
  unfold State.deferSwap
  extract_lets x
  split
  · rfl
  · exact State.engine_bump ..

theorem State.engine_overrun (k : Nat) : (s.overrun e).engine k = s.engine k := by
  unfold State.overrun
  extract_lets r t
  split
  · rfl
  · rfl

theorem State.engine_skipFrom (i k : Nat) : (s.skipFrom e i).engine k = s.engine k := by
  unfold State.skipFrom
  refine foldl_keeps _ (fun (t : State) (j : Nat) => t.skipSeg e j) (State.engine · k) (fun t j => ?_) s
  exact State.engine_segReport ..

theorem State.reg_skipFrom (i : Nat) {o : Nat} (ho : apartFromEngine e o) (hstat : o < rEngSegStat e 0) :
    (s.skipFrom e i).reg o = s.reg o := by
  unfold State.skipFrom
  refine foldl_keeps _ (fun (t : State) (j : Nat) => t.skipSeg e j) (State.reg · o) (fun t j => ?_) s
  exact (State.reg_segReport_apart ho _ _ _ _).trans
    (State.reg_setFld_other _ _ _ _ (by simp only [rEngSegStat] at hstat ⊢; omega))

theorem State.reg_tear (i : Nat) {o : Nat} (hstat : o < rEngSegStat e 0) : (s.tear e i).reg o = s.reg o := by
  have ht : ((s.bump (rEngSegStat e i) 24 8).setEngine e { s.engine e with torn := i :: (s.engine e).torn }).reg o = s.reg o :=
    (State.reg_setEngine ..).trans (State.reg_setFld_other _ _ _ _ (by simp only [rEngSegStat] at hstat ⊢; omega))
  unfold State.tear
  extract_lets x t
  split
  · exact ht
  · exact ht

theorem State.rbit_overrun : (s.overrun e).rbit (rEngTickOvr e) 31 = true := by
  unfold State.overrun
  extract_lets r t
  have ht : t.rbit r 31 = true := State.rbit_setBit_same s r 31 true (by decide)
  clear_value t
  split
  · rw [State.rbit_setBit (hk := by decide)]
    simpa using ht
  · rw [State.count, State.rbit_setFld_other _ _ (.inr (.inr (by omega)))]
    exact ht

theorem State.reg_overrun {o : Nat} (ho : o ≠ rEngTickOvr e) : (s.overrun e).reg o = s.reg o := by
  unfold State.overrun
  extract_lets r t
  have ht : t.reg o = s.reg o := State.reg_setBit_other s _ _ ho
  clear_value t
  split
  · exact (State.reg_setBit_other _ _ _ ho).trans ht
  · exact (State.reg_setFld_other _ _ _ _ ho).trans ht

end

/-! ### The receipt of a tick -/

theorem apart_tickOvr (e : Nat) (_ : e < 32) : apartFromEngine e (rEngTickOvr e) := by
  refine ⟨fun c hc => ?_, ?_, ?_, fun j => ?_⟩
  all_goals simp only [rEngTickOvr, rCtxtErr, rEngDpFlags, rEngLmEcc, rEngSegHwm]; omega

theorem apart_stopWait (e : Nat) (_ : e < 32) : apartFromEngine e (rEngStopWait e) := by
  refine ⟨fun c hc => ?_, ?_, ?_, fun j => ?_⟩
  all_goals simp only [rEngStopWait, rCtxtErr, rEngDpFlags, rEngLmEcc, rEngSegHwm]; omega

/-- The state in which the engine has taken the offer. -/
def State.offerTaken (s : State) (e : Nat) : State :=
  let t := s.modEngine e fun x => { x with offered := none }
  if (t.engine e).fsq.isEmpty then t else t.bump (rEngFarStat e) 16 8

theorem State.offerTaken_engine (s : State) (e : Nat) : (s.offerTaken e).engine e = { s.engine e with offered := none } := by
  unfold State.offerTaken
  extract_lets t
  have ht : t.engine e = { s.engine e with offered := none } := (s.engine_modEngine e _ e).trans (if_pos rfl)
  split
  · exact ht
  · exact ht

theorem exec_tickReceipt (e : Fin 32) (s : State) (k : TickInfo) (h : (s.engine e).offered = some k) :
    exec (.tickReceipt e) s = .next (s.receive e k) := by
  change execTickReceipt e s = _
  unfold execTickReceipt
  rw [h]

theorem State.receive_idle (s : State) (e : Nat) (k : TickInfo) (hheld : (s.engine e).heldStore = none)
    (hpb : (s.engine e).swapPb = []) (hst : (s.engine e).swapSt = []) (hphase : (s.engine e).phase = .idle) :
    s.receive e k = (s.offerTaken e).beginTick e k := by
  have hx := s.offerTaken_engine e
  have happ : (s.offerTaken e).applySwaps e k.six = s.offerTaken e := by
    have hnone : (((s.offerTaken e).engine e).swapPb.isEmpty && ((s.offerTaken e).engine e).swapSt.isEmpty) = true := by
      rw [hx]
      simp [hpb, hst]
    unfold State.applySwaps
    exact if_pos hnone
  unfold State.receive
  change (if ((s.offerTaken e).engine e).heldStore.isSome then _ else match ((s.offerTaken e).engine e).phase with
    | .run _ => _ | .enter _ => _ | _ => ((s.offerTaken e).applySwaps e k.six).beginTick e k) = _
  rw [happ, hx, hheld, hphase]
  rfl

theorem State.receive_run (s : State) (e i : Nat) (k : TickInfo) (hheld : (s.engine e).heldStore = none)
    (hphase : (s.engine e).phase = .run i) :
    s.receive e k = (((s.offerTaken e).deferSwap e).stopTick e).beginTick e k := by
  have hx := s.offerTaken_engine e
  unfold State.receive
  change (if ((s.offerTaken e).engine e).heldStore.isSome then _ else match ((s.offerTaken e).engine e).phase with
    | .run _ => (((s.offerTaken e).deferSwap e).stopTick e).beginTick e k
    | .enter _ => (((s.offerTaken e).deferSwap e).stopTick e).beginTick e k
    | _ => ((s.offerTaken e).applySwaps e k.six).beginTick e k) = _
  rw [hx, hheld, hphase]
  rfl

/-- A stopped tick program is an overrun. -/
theorem State.stopTick_overrun (s : State) {e : Nat} (he : e < 32) (i : Nat) (hphase : (s.engine e).phase = .run i) :
    (s.stopTick e).rbit (rEngTickOvr e) 31 = true := by
  have ho := apart_tickOvr e he
  have hstat : rEngTickOvr e < rEngSegStat e 0 := by simp only [rEngTickOvr, rEngSegStat]; omega
  unfold State.stopTick
  rw [hphase]
  dsimp only
  rw [State.rbit, State.reg_skipFrom _ _ _ ho hstat, State.reg_segReport_apart ho, State.reg_segExit_apart ho,
    State.reg_tear _ _ _ hstat]
  exact s.rbit_overrun e

theorem State.receive_run_fields (s : State) (e i : Nat) (he : e < 32) (k : TickInfo) (hheld : (s.engine e).heldStore = none)
    (hphase : (s.engine e).phase = .run i) : (s.receive e k).rbit (rEngTickOvr e) 31 = true ∧
      ((s.receive e k).engine e).six = BitVec.ofNat 64 k.six ∧ ((s.receive e k).engine e).tickCyc ≤ 7 := by
  rw [s.receive_run e i k hheld hphase]
  generalize hu : (s.offerTaken e).deferSwap e = u
  have hrun : (u.engine e).phase = .run i := by rw [← hu, State.engine_deferSwap, State.offerTaken_engine]; exact hphase
  obtain ⟨⟨hvals, hcyc⟩, -⟩ := (u.stopTick e).beginTick_engine e k
  simp only [Engine.tickVals, Prod.mk.injEq] at hvals
  obtain ⟨hsix, -⟩ := hvals
  refine ⟨?_, hsix, hcyc⟩
  rw [State.rbit, State.reg_beginTick _ _ _ (by simp only [rEngTickOvr, rEngDldErr]; omega) (apart_tickOvr e he)]
  exact u.stopTick_overrun he i hrun

/-- An engine that holds far stores keeps the tick; a tick that waits already is an overrun. -/
theorem State.receive_of_held (s : State) (e : Nat) (k : TickInfo) (hheld : (s.engine e).heldStore ≠ none) :
    let u := ((s.offerTaken e).deferSwap e).setBit (rEngStopWait e) 31 true
    s.receive e k = State.modEngine (match (s.engine e).pendTick with
      | some k' => ((u.modEngine e fun x => { x with six := BitVec.ofNat 64 k'.six }).skipFrom e 0).overrun e
      | none => u.modEngine e fun x => { x with stopWait := 0 }) e fun x => { x with pendTick := some k } := by
  intro u
  have hx := s.offerTaken_engine e
  have hsome : ((s.offerTaken e).engine e).heldStore.isSome = true := by
    rw [hx]
    exact Option.isSome_iff_ne_none.mpr hheld
  have hpend : ((s.offerTaken e).engine e).pendTick = (s.engine e).pendTick := by rw [hx]
  rw [← hpend]
  exact if_pos hsome

/-- An instruction held for its far stores finishes first: the tick waits. -/
theorem State.receive_held (s : State) (e : Nat) (he : e < 32) (k : TickInfo) (hheld : (s.engine e).heldStore ≠ none) :
    ((s.receive e k).engine e).pendTick = some k ∧ (s.receive e k).rbit (rEngStopWait e) 31 = true ∧
    ((s.receive e k).engine e).heldStore = (s.engine e).heldStore ∧ ((s.receive e k).engine e).phase = (s.engine e).phase := by
  have hrec := s.receive_of_held e k hheld
  extract_lets u at hrec
  have hue : (u.engine e).heldStore = (s.engine e).heldStore ∧ (u.engine e).phase = (s.engine e).phase := by
    dsimp only [u]
    rw [State.engine_setBit, State.engine_deferSwap, s.offerTaken_engine e]
    exact ⟨rfl, rfl⟩
  have hub : u.rbit (rEngStopWait e) 31 = true := State.rbit_setBit_same _ _ _ _ (by decide)
  clear_value u
  rw [hrec, State.engine_modEngine, if_pos rfl]
  cases (s.engine e).pendTick with
  | none =>
    dsimp only
    rw [State.engine_modEngine, if_pos rfl]
    exact ⟨rfl, hub, hue⟩
  | some k' =>
    dsimp only
    rw [State.engine_overrun, State.engine_skipFrom, State.engine_modEngine, if_pos rfl]
    refine ⟨rfl, ?_, hue⟩
    rw [State.rbit, State.reg_modEngine, State.reg_overrun _ _ (by simp only [rEngStopWait, rEngTickOvr]; omega),
      State.reg_skipFrom _ _ _ (apart_stopWait e he) (by simp only [rEngStopWait, rEngSegStat]; omega)]
    exact hub

/-! ### CLUSTER_RESET -/

theorem State.afterReset_cancelSwaps (s : State) (e k : Nat) :
    ((s.cancelSwaps e).engine k).afterReset = (s.engine k).afterReset := by
  unfold State.cancelSwaps
  refine foldl_keeps _ _ (fun t : State => (t.engine k).afterReset) (fun t r => ?_) s
  split
  · rfl
  · split
    · rfl
    · unfold State.withdrawSwap
      refine Eq.trans (forN_keeps 32 _ (fun t : State => (t.engine k).afterReset) (fun i u => ?_) _) rfl
      unfold State.showSwaps
      extract_lets x
      rw [State.engine_setBit, State.engine_setBit, State.engine_modEngine]
      split
      next h => rw [h]; rfl
      next => rfl

theorem State.clusterReset_engine (s : State) (c i : Nat) (hi : i < 4) :
    ((s.clusterReset c).engine (4 * c + i)) = (s.engine (4 * c + i)).afterReset := by
  have hcancel : ((forN 4 (fun i s => s.cancelSwaps (4 * c + i)) s).engine (4 * c + i)).afterReset =
      (s.engine (4 * c + i)).afterReset :=
    forN_keeps 4 (fun i s => s.cancelSwaps (4 * c + i)) (fun t : State => (t.engine (4 * c + i)).afterReset)
      (fun j t => t.afterReset_cancelSwaps _ _) s
  rw [State.clusterReset, ← hcancel]
  generalize forN 4 (fun i s => s.cancelSwaps (4 * c + i)) s = t
  have hclear : (t.clusterClear c).engine (4 * c + i) =
      (forN 4 (fun i s => s.modEngine (4 * c + i) Engine.afterReset) t).engine (4 * c + i) := rfl
  rw [hclear]
  refine forN_pointwise (get := fun i (t : State) => t.engine (4 * c + i)) (next := Engine.afterReset) (fun _ => True)
    (fun _ _ _ _ => trivial) (fun j _ u _ => ?_) (fun j _ l _ hne u _ => ?_) trivial i hi
  · exact (State.engine_modEngine ..).trans (if_pos rfl)
  · exact (State.engine_modEngine ..).trans (if_neg (by omega))

theorem State.clusterReset_reg (s : State) (c o : Nat) (hlo : 0x080000 + 0x4000 * c ≤ o) (hhi : o < 0x084000 + 0x4000 * c) :
    (s.clusterReset c).reg o = regReset o := by
  unfold State.clusterReset State.clusterClear
  extract_lets t lo u bit4
  clear_value t
  have hu : u.reg o = regReset o := by
    dsimp only [State.reg, u]
    rw [SMap.get_keep, if_neg (by simp [lo]; omega)]
  clear_value u
  exact hu

/-! ### The statement -/

/-- SWAP_PBANK and SWAP_STAB show what waits. -/
theorem State.showSwaps_shows (s : State) (e : Nat) : (s.showSwaps e).engine e = s.engine e ∧
    (s.showSwaps e).rbit (rEngProgCtrl e) 4 = !(s.engine e).swapPb.isEmpty ∧
    (s.showSwaps e).rbit (rEngProgCtrl e) 5 = !(s.engine e).swapSt.isEmpty := by
  unfold State.showSwaps
  extract_lets x
  refine ⟨by rw [State.engine_setBit, State.engine_setBit], ?_, ?_⟩
  · rw [State.rbit_setBit _ _ _ _ _ _ (by decide), State.rbit_setBit _ _ _ _ _ _ (by decide)]
    simp [x]
  · rw [State.rbit_setBit _ _ _ _ _ _ (by decide)]
    simp [x]

theorem State.requestSwap_shows (s : State) (e : Nat) (pb st : Bool) (r : SwapReq) :
    let t := s.requestSwap e pb st r
    (t.engine e).swapPb = (if pb then (s.engine e).swapPb ++ [r] else (s.engine e).swapPb) ∧
    (t.engine e).swapSt = (if st then (s.engine e).swapSt ++ [r] else (s.engine e).swapSt) ∧
    t.rbit (rEngProgCtrl e) 4 = !(t.engine e).swapPb.isEmpty ∧ t.rbit (rEngProgCtrl e) 5 = !(t.engine e).swapSt.isEmpty := by
  intro t
  obtain ⟨heng, h4, h5⟩ := (s.modEngine e fun x => { x with
    swapPb := if pb then x.swapPb ++ [r] else x.swapPb
    swapSt := if st then x.swapSt ++ [r] else x.swapSt }).showSwaps_shows e
  have ht : t.engine e = _ := heng
  rw [State.engine_modEngine, if_pos rfl] at ht h4 h5
  rw [ht]
  exact ⟨rfl, rfl, h4, h5⟩

/-- Settles O11: the receipt by the engine's phase, the others by the engine and the registers they touch. -/
theorem ticksAtEngines : Obligations.TicksAtEngines := by
  unfold Obligations.TicksAtEngines
  refine ⟨?receipt, fun c s => ?reset, fun e n v s hlit => ?dld, fun e s hlit => ⟨?pb, ?st⟩⟩
  case receipt =>
    intro e s k x hoff
    have hex := exec_tickReceipt e s k hoff
    refine ⟨fun hheld hpb hst hphase => ?idle, fun hheld => ⟨_, hex, s.receive_held e e.isLt k hheld⟩, fun i hheld hphase hi =>
      ⟨_, hex, s.receive_run_fields e i e.isLt k hheld hphase⟩⟩
    case idle =>
      rw [s.receive_idle e k hheld hpb hst hphase] at hex
      refine ⟨_, hex, ?_⟩
      obtain ⟨⟨hvals, -⟩, hnext⟩ := (s.offerTaken e).beginTick_engine e k
      rw [s.offerTaken_engine] at hvals hnext
      simp only [Engine.tickVals, Prod.mk.injEq] at hvals
      obtain ⟨hsix, hdfl, htc1, htc2, hrec, hoffered⟩ := hvals
      exact ⟨hoffered, hrec, hsix, hdfl, htc1, htc2, hnext⟩
  case reset =>
    exact ⟨_, rfl, fun i hi => (State.engine_histBegin ..).trans (s.clusterReset_engine c i hi),
      fun o hlo hhi => (State.reg_histBegin ..).trans (s.clusterReset_reg c o hlo hhi)⟩
  case dld =>
    refine ⟨_, congrArg Host.Outcome.next (State.bar_of_lit hlit _), rfl, ?_⟩
    rw [State.dldW0, State.engine_modEngine, if_pos rfl]
    exact SMap.get_set_same ..
  case pb =>
    obtain ⟨hpb, hst, h4, -⟩ := s.requestSwap_shows e true false .bar
    refine ⟨_, congrArg Host.Outcome.next (State.bar_of_lit hlit _), hpb, hst, ?_⟩
    rw [h4, hpb]
    simp
  case st =>
    obtain ⟨hpb, hst, -, h5⟩ := s.requestSwap_shows e false true .bar
    refine ⟨_, congrArg Host.Outcome.next (State.bar_of_lit hlit _), hst, hpb, ?_⟩
    rw [h5, hst]
    simp

end Sys2Proof.Machine

/-! Mapping, activation and unmapping of host lines. -/

namespace Sys2Proof.Machine

/-! ### Descriptors that end -/

theorem State.findDesc_of_ctx {s t : State} (h : t.ctx = s.ctx) (c q : Nat) : t.findDesc c q = s.findDesc c q := by
  simp only [State.findDesc, State.context, h]

theorem State.ended_of_ctx {s t : State} (h : t.ctx = s.ctx) {c q code : Nat} (he : s.ended c q code) : t.ended c q code := by
  rw [State.ended, State.findDesc_of_ctx h]
  exact he

theorem State.findDesc_grant {s : State} {c q : Nat} {d : OpenDesc} (h : s.findDesc c q = some d) :
    (s.grant c q).findDesc c q = some { d with started := true, granted := true } := by
  rw [State.grant, State.findDesc_modDesc _ _ _ _ (by intro d; rfl), h]
  rfl

/-- The first result of an open descriptor stands. -/
theorem State.ended_setResult {s : State} {c q : Nat} {d : OpenDesc} (h : s.findDesc c q = some d) (hr : d.result = none)
    (code : Nat) : (s.setResult c q code).ended c q code := by
  rw [State.ended, State.setResult, State.findDesc_modDesc _ _ _ _ (by intro d; split <;> rfl), h]
  simp [hr]

/-- A descriptor that may start ends at once, and only its context changes. -/
theorem State.finish_ends {s : State} {c q k : Nat} {d : OpenDesc} (h : s.ready c q k = some d) (code : Nat) :
    (s.finish c q code).ended c q code ∧ (s.finish c q code).cal = s.cal :=
  ⟨State.ended_finish h code, (s.finish_frame c q code).cal rfl⟩

/-! ### What the loads and the tolerance leave -/

/-- A register of the line file or of an engine: no load and no tolerance is shown there. -/
def apartFromLoads (o : Nat) : Prop := o ≠ rCaldHlLoad ∧ (∀ c, o ≠ rDmaUse c) ∧ o ≠ rTopPcieLtr

theorem apart_lineWord (n : Nat) (hn : n < 4096) : apartFromLoads (rCaldHlW0 n) := by
  refine ⟨?_, fun c => ?_, ?_⟩
  all_goals simp only [rCaldHlW0, rCaldHlLoad, rDmaUse, rTopPcieLtr]; omega

section
variable {o : Nat} (ho : apartFromLoads o) (s : State)
include ho

theorem State.reg_showLoads : s.showLoads.reg o = s.reg o := State.reg_setReg_other _ _ ho.1

theorem State.reg_showUse (c : Nat) : (s.showUse c).reg o = s.reg o := by
  obtain ⟨-, huse, -⟩ := ho
  exact State.reg_setReg_other _ _ (huse c)

theorem State.reg_ltrUpdate : s.ltrUpdate.reg o = s.reg o := by
  obtain ⟨-, -, hltr⟩ := ho
  unfold State.ltrUpdate
  extract_lets t pc u
  split
  · rfl
  · split
    · exact State.reg_setReg_other _ _ hltr
    · rfl

end

theorem State.ctx_showLine (s : State) (c : Nat) : ((s.showLoads).showUse c).ctx = s.ctx := rfl

theorem State.ctx_ltrUpdate (s : State) : s.ltrUpdate.ctx = s.ctx :=
  (State.ltrUpdate_kept (M := { regs := true, fab := true, pcie := true }) rfl rfl rfl (Kept.refl s)).ctx rfl

theorem State.cal_ltrUpdate (s : State) : s.ltrUpdate.cal = s.cal :=
  (State.ltrUpdate_kept (M := { regs := true, fab := true, pcie := true }) rfl rfl rfl (Kept.refl s)).cal rfl

theorem State.islandOff_of_reg {s t : State} (h : t.reg rPwrIslStat = s.reg rPwrIslStat) (i : Nat) :
    t.islandOff i = s.islandOff i := by
  simp only [State.islandOff, State.island_of_reg h]

theorem isl_ne_lineWord (n : Nat) : rPwrIslStat ≠ rCaldHlW0 n := by
  simp only [rPwrIslStat, rCaldHlW0]
  omega

theorem State.lineSt_of_reg {s t : State} {n : Nat} (h : t.reg (rCaldHlW0 n) = s.reg (rCaldHlW0 n)) :
    t.lineSt n = s.lineSt n := by
  rw [State.lineSt, State.rfld, h]
  rfl

theorem State.lineSt_setLineSt (s : State) (n v : Nat) (hv : v < 8) : (s.setLineSt n v).lineSt n = v :=
  (State.rfld_setFld_same _ _ _ _ _ (by decide)).trans (Nat.mod_eq_of_lt hv)

/-! ### LINE_MAP -/

/-- The line file once a line is admitted: it fills for its owner. -/
def State.lineAdmit (s : State) (c q n : Nat) (l : Line) : State :=
  (((((s.grant c q).setLine n l).setLineSt n 1).setReg (rCaldHlW1 n) (BitVec.ofNat 32 (c * 2 ^ 16))).showLoads).showUse c

theorem State.lineAdmit_fields (s : State) {c q n : Nat} (l : Line) (hn : n < 4096) {d : OpenDesc}
    (hd : s.findDesc c q = some d) : (s.lineAdmit c q n l).lineSt n = 1 ∧ (s.lineAdmit c q n l).line n = l ∧
      (s.lineAdmit c q n l).findDesc c q = some { d with started := true, granted := true } := by
  have hw1 : rCaldHlW0 n ≠ rCaldHlW1 n := by simp only [rCaldHlW0, rCaldHlW1]; omega
  have hcal : ∀ u : State, ∀ v, ((((u.setLineSt n 1).setReg (rCaldHlW1 n) v).showLoads).showUse c).cal = u.cal := fun _ _ => rfl
  have hctx : ∀ u : State, ∀ v, ((((u.setLineSt n 1).setReg (rCaldHlW1 n) v).showLoads).showUse c).ctx = u.ctx := fun _ _ => rfl
  refine ⟨?_, ?_, ?_⟩
  · have ho := apart_lineWord n hn
    refine (State.lineSt_of_reg ?_).trans (((s.grant c q).setLine n l).lineSt_setLineSt n 1 (by decide))
    rw [State.lineAdmit, State.reg_showUse ho, State.reg_showLoads ho, State.reg_setReg_other _ _ hw1]
  · rw [State.line, State.lineAdmit, hcal]
    exact SMap.get_set_same ..
  · rw [State.lineAdmit, State.findDesc_of_ctx (hctx _ _), State.findDesc, State.context_setLine]
    exact State.findDesc_grant hd

theorem exec_lineMap (c : Fin 512) (q : BitVec 32) (s : State) (d : OpenDesc) (h : s.ready c q.toNat tLineMap = some d)
    (hx : d.extra < 2 ^ 15) : ∃ u, exec (.lineMap c q) s =
      (let l := lineOf s c q.toNat d
      let n := d.extra % 4096
      if !(s.lineOk d l) || s.lineSt n != 0 || s.islandGone (l.eng / 4) || s.quarterGone (16 * l.stageQ)
        then .next (s.finish c q.toNat 0x10)
      else if s.proxyOn || !(s.lineFits l) then .next (s.finish c q.toNat 0x12)
      else .next (s.lineAdmit c q.toNat n
        { l with costDn := if l.rd.isSome then u else 0, costUp := if l.wmax.isSome then u else 0 })) := by
  refine ⟨s.linkUnits (s.lineCost (lineOf s c q.toNat d)), ?_⟩
  change execLineMap c q s = _
  unfold execLineMap
  dsimp only
  rw [h]
  exact if_neg (Nat.not_le.mpr hx)

/-! ### UNMAP -/

/-- The line drains. -/
def State.lineDrain (s : State) (c q n : Nat) : State :=
  let l := s.line n
  let t := ((s.grant c q).setLineSt n 3).setLine n { l with drainAt := (s.lineT l + 1).toNat, seq := q }
  if t.islandOff (l.eng / 4) then t else t.modEngine l.eng fun x => { x with
    dldWait := SMap.set (fun _ => ((0 : Word), (0 : Word), (0 : Word))) x.dldWait l.dld (l.dldWords n false) }

theorem exec_unmap (c : Fin 512) (q : BitVec 32) (s : State) (d : OpenDesc) (h : s.ready c q.toNat tLineMap = some d)
    (hx : d.extra / 4096 = 8) : exec (.unmap c q) s =
      if !(d.onlyUses [(16, 47)]) || s.lineSt (d.extra % 4096) != 2 || (s.line (d.extra % 4096)).owner != c
        then .next (s.finish c q.toNat 0x10)
      else .next (s.lineDrain c q.toNat (d.extra % 4096)) := by
  have hlt : ¬ d.extra < 2 ^ 15 := by omega
  change execUnmap c q s = _
  unfold execUnmap
  dsimp only
  rw [h]
  dsimp only
  rw [if_neg hlt, hx]
  rfl

theorem State.lineDrain_fields (s : State) (c q n : Nat) : (s.lineDrain c q n).lineSt n = 3 ∧
    (s.lineDrain c q n).line n = { s.line n with drainAt := (s.lineT (s.line n) + 1).toNat, seq := q } ∧
    (s.islandOff ((s.line n).eng / 4) = false →
      SMap.get (fun _ => (0, 0, 0)) ((s.lineDrain c q n).engine (s.line n).eng).dldWait (s.line n).dld =
        (s.line n).dldWords n false) := by
  unfold State.lineDrain
  extract_lets l t
  have hst : t.lineSt n = 3 := (s.grant c q).lineSt_setLineSt n 3 (by decide)
  have hl : t.line n = { l with drainAt := (s.lineT l + 1).toNat, seq := q } := SMap.get_set_same ..
  have hisl : t.islandOff (l.eng / 4) = s.islandOff (l.eng / 4) :=
    State.islandOff_of_reg (State.reg_setFld_other (s.grant c q) _ _ _ (isl_ne_lineWord n)) _
  clear_value t
  split
  next hoff => exact ⟨hst, hl, fun hon => absurd (hisl.symm.trans hoff) (by simp [l, hon])⟩
  next =>
    refine ⟨hst, hl, fun _ => ?_⟩
    rw [State.engine_modEngine, if_pos rfl]
    exact SMap.get_set_same ..

/-! ### LINE_ACTIVATION and UNMAP_COMPLETE -/

/-- The line becomes active, and Keeper writes descriptor `k` of engine `e`. -/
def State.lineOn (s : State) (n e k : Nat) (v0 v1 v2 : Word) : State :=
  (((s.setLineSt n 2).setReg (rEngDldW0 e k) v0).setReg (rEngDldW1 e k) v1).setReg (rEngDldW2 e k) v2

theorem exec_lineActivation (n : Fin 4096) (s : State) (hst : s.lineSt n = 1) (hact : (s.line n).act ≤ s.lineT (s.line n))
    (hon : s.islandOff ((s.line n).eng / 4) = false) : ∃ v w, exec (.lineActivation n) s = .next
      (((s.lineOn n (s.line n).eng (s.line n).dld ((s.line n).dldWords n true).1 v w).setResult
        (s.line n).owner (s.line n).seq (if (s.line n).readyAt then 0 else 0x23)).ltrUpdate) := by
  refine ⟨((s.line n).dldWords n true).2.1, ((s.line n).dldWords n true).2.2, ?_⟩
  change execLineActivation n s = _
  unfold execLineActivation
  extract_lets n' l w t u
  have hoff : t.islandOff (l.eng / 4) = false :=
    (State.islandOff_of_reg (State.reg_setFld_other s _ _ _ (isl_ne_lineWord n)) _).trans hon
  dsimp only [u]
  rw [if_neg (by simp [n', l, hst, hact]), hoff]
  rfl

theorem State.lineOn_fields (s : State) {n e k : Nat} (hn : n < 4096) (he : e < 32) (hk : k < 64) (v0 v1 v2 : Word) :
    (∀ c q code, ((s.lineOn n e k v0 v1 v2).setResult c q code).ltrUpdate.lineSt n = 2) ∧
    (∀ c q code, ((s.lineOn n e k v0 v1 v2).setResult c q code).ltrUpdate.reg (rEngDldW0 e k) = v0) ∧
    (s.lineOn n e k v0 v1 v2).ctx = s.ctx := by
  have hdld : apartFromLoads (rEngDldW0 e k) := by
    refine ⟨?_, fun c => ?_, ?_⟩
    all_goals simp only [rEngDldW0, rCaldHlLoad, rDmaUse, rTopPcieLtr]; omega
  have hne : rCaldHlW0 n ≠ rEngDldW0 e k ∧ rCaldHlW0 n ≠ rEngDldW1 e k ∧ rCaldHlW0 n ≠ rEngDldW2 e k := by
    simp only [rCaldHlW0, rEngDldW0, rEngDldW1, rEngDldW2]
    omega
  obtain ⟨hne0, hne1, hne2⟩ := hne
  refine ⟨fun c q code => ?_, fun c q code => ?_, rfl⟩
  · refine (State.lineSt_of_reg ?_).trans (s.lineSt_setLineSt n 2 (by decide))
    rw [State.reg_ltrUpdate (apart_lineWord n hn), State.reg_setResult, State.lineOn, State.reg_setReg_other _ _ hne2,
      State.reg_setReg_other _ _ hne1, State.reg_setReg_other _ _ hne0]
  · rw [State.reg_ltrUpdate hdld, State.reg_setResult, State.lineOn,
      State.reg_setReg_other _ _ (by simp only [rEngDldW0, rEngDldW2]; omega),
      State.reg_setReg_other _ _ (by simp only [rEngDldW0, rEngDldW1]; omega), State.reg_setReg_same]

theorem exec_unmapComplete (n : Fin 4096) (s : State) (hst : s.lineSt n = 3) (hdrain : (s.line n).drainAt ≤ s.lineT (s.line n))
    (hwb : (s.line n).wmax = none ∨ (s.line n).drainAt ≤ (s.line n).wbNext) (hch : (s.line n).chunks = []) :
    exec (.unmapComplete n) s = .next ((s.lineGone n).setResult (s.line n).owner (s.line n).seq 0) := by
  change execUnmapComplete n s = _
  unfold execUnmapComplete
  refine if_neg ?_
  obtain hnone | hle := hwb
  · simp [hst, hdrain, hnone, hch]
  · simp [hst, hdrain, hle, hch]

theorem State.lineGone_fields (s : State) {n : Nat} (hn : n < 4096) :
    (s.lineGone n).line n = {} ∧ (s.lineGone n).lineSt n = 0 ∧ (s.lineGone n).ctx = s.ctx := by
  have ho := apart_lineWord n hn
  have hw1 : rCaldHlW0 n ≠ rCaldHlW1 n := by simp only [rCaldHlW0, rCaldHlW1]; omega
  unfold State.lineGone
  extract_lets l t ch u
  have ht : t.lineSt n = 0 := State.lineSt_setLineSt _ n 0 (by decide)
  have hl : t.line n = {} := (s.line_setLine n {} n).trans (if_pos rfl)
  have hc : t.ctx = s.ctx := rfl
  clear_value t
  refine ⟨?_, ?_, ?_⟩
  · rw [State.line, State.cal_ltrUpdate]
    exact hl
  · refine (State.lineSt_of_reg ?_).trans ht
    rw [State.reg_ltrUpdate ho, State.reg_showUse ho, State.reg_showLoads ho, State.reg_setFld_other _ _ _ _ hw1]
    rfl
  · rw [State.ctx_ltrUpdate, State.ctx_showLine]
    exact hc

/-- Settles O28: each command by the line's state. -/
theorem lineLifetimes : Obligations.LineLifetimes := by
  unfold Obligations.LineLifetimes
  refine ⟨?commands, ?later⟩
  case commands =>
    intro c q s d hready n l m
    obtain ⟨hd, -⟩ := State.ready_spec hready
    have hn : n < 4096 := Nat.mod_lt _ (by decide)
    refine ⟨fun hx => ?map, fun hx => ?unmap⟩
    case map =>
      obtain ⟨units, hex⟩ := exec_lineMap c q s d hready hx
      refine ⟨fun hbad => ?_, fun hok hst hisl hq => ⟨fun hquota => ?_, fun hproxy hfits => ?_⟩⟩
      · exact ⟨_, hex.trans (if_pos (by obtain h | h := hbad <;> simp [l, n, h])), State.finish_ends hready 0x10⟩
      · refine ⟨_, hex.trans ((if_neg (by simp [l, n, hok, hst, hisl, hq])).trans (if_pos ?_)), State.finish_ends hready 0x12⟩
        obtain h | h := hquota <;> simp [l, h]
      · obtain ⟨hst', hline, hdesc⟩ := s.lineAdmit_fields (c := c) (q := q.toNat) { l with
          costDn := if l.rd.isSome then units else 0, costUp := if l.wmax.isSome then units else 0 } hn hd
        refine ⟨_, hex.trans ((if_neg (by simp [l, n, hok, hst, hisl, hq])).trans (if_neg (by simp [l, hproxy, hfits]))),
          hst', ?_⟩
        rw [hline]
        exact ⟨rfl, rfl, rfl, rfl, hdesc⟩
    case unmap =>
      have hex := exec_unmap c q s d hready hx
      refine ⟨fun hbad => ?_, fun hst howner huses => ?_⟩
      · exact ⟨_, hex.trans (if_pos (by obtain h | h := hbad <;> simp [m, n, h])), State.finish_ends hready 0x10⟩
      · exact ⟨_, hex.trans (if_neg (by simp [m, n, hst, howner, huses])), s.lineDrain_fields c q.toNat n⟩
  case later =>
    intro n s d l hd hres
    refine ⟨fun hst hact hon heng hdld => ?_, fun hst hdrain hwb hch => ?_⟩
    · obtain ⟨v, w, hex⟩ := exec_lineActivation n s hst hact hon
      obtain ⟨hlst, hreg, hctx⟩ := s.lineOn_fields n.isLt heng hdld ((s.line n).dldWords n true).1 v w
      exact ⟨_, hex, hlst _ _ _, State.ended_of_ctx (State.ctx_ltrUpdate _)
        (State.ended_setResult ((State.findDesc_of_ctx hctx _ _).trans hd) hres _), hreg _ _ _⟩
    · obtain ⟨hl, hst', hctx⟩ := s.lineGone_fields n.isLt
      exact ⟨_, exec_unmapComplete n s hst hdrain hwb hch, hl, hst',
        State.ended_setResult ((State.findDesc_of_ctx hctx _ _).trans hd) hres 0⟩

end Sys2Proof.Machine

/-! Movers, walks of the window tables, buckets and the reset of the movers. -/

namespace Sys2Proof.Machine

/-! ### A function on every entry of a map -/

theorem SMap.get_cons {α : Type} (d : Nat → α) (j : Nat) (v : α) (m : SMap α) (k : Nat) :
    SMap.get d ((j, v) :: m) k = if k = j then v else SMap.get d m k := rfl

/-- Writing every entry of a canonical list over a map. -/
theorem SMap.get_foldl_set {α : Type} [DecidableEq α] {d : Nat → α} {f : Nat → α → α} (hf : ∀ k, f k (d k) = d k) {l : SMap α}
    (hl : SMap.wf d l = true) (k : Nat) : ∀ acc : SMap α, (SMap.get d l k = d k → SMap.get d acc k = d k) →
      SMap.get d (l.foldl (fun acc kv => SMap.set d acc kv.1 (f kv.1 kv.2)) acc) k = f k (SMap.get d l k) := by
  induction l with
  | nil => exact fun acc h => (h rfl).trans (hf k).symm
  | cons p l ih =>
    obtain ⟨j, v⟩ := p
    obtain ⟨hwf, habove, hv⟩ := SMap.wf_cons.mp hl
    intro acc h
    rw [List.foldl_cons, SMap.get_cons]
    by_cases hk : k = j
    · subst hk
      have hrest : ∀ (l : SMap α) (acc : SMap α), SMap.above k l →
          SMap.get d (l.foldl (fun acc kv => SMap.set d acc kv.1 (f kv.1 kv.2)) acc) k = SMap.get d acc k := by
        intro l
        induction l with
        | nil => exact fun _ _ => rfl
        | cons q l ih =>
          intro acc hab
          rw [List.foldl_cons, ih _ fun r hr => hab r (List.mem_cons_of_mem _ hr)]
          exact SMap.get_set_other _ (Nat.ne_of_lt (hab q (List.mem_cons_self ..)))
      rw [hrest l _ habove, SMap.get_set_same, if_pos rfl]
    · rw [if_neg hk]
      refine ih hwf _ fun hget => ?_
      rw [SMap.get_set_other _ hk]
      exact h (by rw [SMap.get_cons, if_neg hk, hget])

theorem SMap.get_mapAll {α : Type} [DecidableEq α] {d : Nat → α} {f : Nat → α → α} (hf : ∀ k, f k (d k) = d k) {m : SMap α}
    (hm : SMap.wf d m = true) (k : Nat) : SMap.get d (SMap.mapAll d f m) k = f k (SMap.get d m k) :=
  SMap.get_foldl_set hf hm k m id

/-- An entry of the mapped map is unlisted or a value of the function, in any form of the map. -/
theorem SMap.get_mapAll_cases {α : Type} [DecidableEq α] (d : Nat → α) (f : Nat → α → α) (m : SMap α) (k : Nat) :
    SMap.get d (SMap.mapAll d f m) k = d k ∨ ∃ v, SMap.get d (SMap.mapAll d f m) k = f k v := by
  have h : ∀ (l : SMap α) (acc : SMap α),
      (∃ v, SMap.get d (l.foldl (fun acc kv => SMap.set d acc kv.1 (f kv.1 kv.2)) acc) k = f k v) ∨
      (SMap.get d l k = d k ∧ SMap.get d (l.foldl (fun acc kv => SMap.set d acc kv.1 (f kv.1 kv.2)) acc) k =
        SMap.get d acc k) := by
    intro l
    induction l with
    | nil => exact fun acc => .inr ⟨rfl, rfl⟩
    | cons p l ih =>
      intro acc
      obtain ⟨j, v⟩ := p
      rw [List.foldl_cons, SMap.get_cons]
      obtain hv | ⟨hl, hacc⟩ := ih (SMap.set d acc j (f j v))
      · exact .inl hv
      · by_cases hk : k = j
        · exact .inl ⟨v, by rw [hacc, hk, SMap.get_set_same]⟩
        · exact .inr ⟨by rw [if_neg hk, hl], by rw [hacc, SMap.get_set_other _ hk]⟩
  obtain hv | ⟨hl, hget⟩ := h m m
  · exact .inr hv
  · exact .inl (hget.trans hl)

theorem SMap.get_map_snd {α : Type} (g : Option α → Option α) (hg : g none = none) (m : SMap (Option α)) (k : Nat) :
    SMap.get (fun _ => none) (m.map fun p => (p.1, g p.2)) k = g (SMap.get (fun _ => none) m k) := by
  induction m with
  | nil => exact hg.symm
  | cons p m ih =>
    obtain ⟨j, v⟩ := p
    rw [List.map_cons, SMap.get_cons, SMap.get_cons, ih]
    split
    · rfl
    · rfl

/-! ### MOVER_TAKE, BUCKET_REFILL and DMA_RESET -/

theorem exec_moverTake (s : State) :
    (∀ m w, s.moversHeld = false → s.freeMover = some m → s.nextWork = some w → exec .moverTake s = .next (s.takeWork m w)) ∧
    (s.moversHeld = true ∨ s.freeMover = none ∨ s.nextWork = none → exec .moverTake s = .next s) := by
  have hex : exec .moverTake s = execMoverTake s := rfl
  rw [hex]
  unfold execMoverTake
  refine ⟨fun m w hheld hm hw => ?_, fun h => ?_⟩
  · rw [hheld, hm, hw]
    rfl
  · obtain h | h | h := h
    · exact if_pos h
    · rw [h]
      split
      · rfl
      · rfl
    · rw [h]
      split
      · rfl
      · cases s.freeMover with
        | none => rfl
        | some m => rfl

theorem exec_bucketRefill (s : State) (hwf : SMap.wf (fun _ => copyFull) s.mov.copyTokens = true) :
    ∃ t, exec .bucketRefill s = .next t ∧ t.mov.lastRefill = s.now ∧
    (∀ r, t.stream r = (s.stream r).map fun x => { x with tokens := min (x.tokens + s.refillInc x.share) x.fullBucket }) ∧
    (∀ c, t.copyTok c = min (s.copyTok c + s.refillInc (s.rfld (rDmaCap c) 16 11)) copyFull) := by
  refine ⟨_, rfl, rfl, fun r => ?_, fun c => ?_⟩
  · exact SMap.get_map_snd (Option.map fun x : Stream =>
      { x with tokens := min (x.tokens + s.refillInc x.share) x.fullBucket }) rfl _ r
  · exact SMap.get_mapAll (f := fun c t => min (t + s.refillInc (s.rfld (rDmaCap c) 16 11)) copyFull)
      (fun k => Nat.min_eq_right (Nat.le_add_right ..)) hwf c

theorem State.dmaReset_fields (s : State) : s.dmaReset.mov.movers = [] ∧ s.dmaReset.mov.walks = [] ∧ s.dmaReset.cal.tlb = [] ∧
    s.dmaReset.mov.resets = s.mov.resets + 1 ∧ s.dmaReset.mov.copies = s.mov.copies.map fun k => { k with issued := k.pos } := by
  unfold State.dmaReset
  extract_lets works a mv cl b
  have ha : a.mov = s.mov := forN_keeps 64 (fun m (s : State) => s.readsOver (.mover m)) State.mov (fun _ _ => rfl) s
  clear_value a
  have hfields : ∀ u : State, u.mov = b.mov → u.cal = b.cal → u.mov.movers = [] ∧ u.mov.walks = [] ∧ u.cal.tlb = [] ∧
      u.mov.resets = s.mov.resets + 1 ∧ u.mov.copies = s.mov.copies.map fun k => { k with issued := k.pos } := by
    intro u hmov hcal
    rw [hmov, hcal]
    dsimp only [b, mv]
    rw [ha]
    exact ⟨rfl, rfl, rfl, rfl, rfl⟩
  refine hfields _ (foldl_keeps works _ State.mov (fun t w => ?_) b) (foldl_keeps works _ State.cal (fun t w => ?_) b)
  · split
    · rfl
    · rfl
  · split
    · rfl
    · rfl

/-! ### TRANSLATION_WALK -/

/-- The walk is over. -/
def State.walkDone (s : State) (c page : Nat) : State :=
  { s with mov := { s.mov with walks := s.mov.walks.filter fun w => !(w.1 == c && w.2.1 / 65536 == page) } }

theorem State.walkOf_walkDone (s : State) (c page : Nat) : (s.walkDone c page).walkOf c page = none := by
  have hnone : (s.walkDone c page).mov.walks.find? (fun w => w.1 == c && w.2.1 / 65536 == page) = none := by
    rw [List.find?_eq_none]
    intro w hw
    have hkept := (List.mem_filter.mp hw).2
    simpa only [Bool.not_eq_true', Bool.not_eq_true] using hkept
  rw [State.walkOf, hnone]
  rfl

theorem State.walkOf_page {s : State} {c page v : Nat} (h : s.walkOf c page = some v) : v / 65536 = page := by
  obtain ⟨w, hw, rfl⟩ := Option.map_eq_some_iff.mp h
  have hp := List.find?_some hw
  simp only [Bool.and_eq_true, beq_iff_eq] at hp
  exact hp.2

theorem State.tlbAt_setTlb (s : State) (i : Nat) (l : List Tlb) : (s.setTlb i l).tlbAt i = l := by
  unfold State.tlbAt State.setTlb
  exact SMap.get_set_same ..

/-- An entry just used is found. -/
theorem State.tlbFind_tlbUse (s : State) (c page : Nat) (e : BitVec 64) :
    (s.tlbUse page (tlbOf c page e)).tlbFind c page = some (tlbOf c page e) := by
  unfold State.tlbUse
  extract_lets l
  have hat : (s.setTlb (tlbSet page) ((tlbOf c page e :: l).take 4)).tlbAt (tlbSet page) = (tlbOf c page e :: l).take 4 :=
    s.tlbAt_setTlb _ _
  rw [State.tlbFind, hat, List.take_succ_cons, List.find?_cons_of_pos]
  simp [tlbOf]

theorem exec_translationWalk (c : Fin 512) (page : BitVec 36) (e1 e2 e3 : BitVec 64) (err : Fin 4) (s : State) (v : Nat)
    (hw : s.walkOf c page.toNat = some v) (hissue : s.canIssue (s.funcOf c) = true) (hroot : s.root c ≠ none)
    (hmov : s.mov.movers = []) : exec (.translationWalk c page e1 e2 e3 err) s = .next
      (match walkOutcome e1 e2 e3 err with
        | .inl f => (s.walkDone c page.toNat).xltFault c v f.1 f.2
        | .inr e => (s.walkDone c page.toNat).tlbUse page.toNat (tlbOf c page.toNat e)) := by
  have hpage := State.walkOf_page hw
  have hends : s.walkEnds c v e1 e2 e3 err.val = match walkOutcome e1 e2 e3 err with
      | .inl f => (true, (s.walkDone c page.toNat).xltFault c v f.1 f.2)
      | .inr e => (false, (s.walkDone c page.toNat).tlbUse page.toNat (tlbOf c page.toNat e)) := by
    unfold State.walkEnds
    rw [hpage]
    exact if_neg hroot
  have hidle : ∀ (g : Nat → Job → State → State) (t : State), t.mov.movers = [] →
      forN 64 (fun m s => match SMap.get (fun _ => none) s.mov.movers m with
        | some j => g m j s
        | none => s) t = t := by
    intro g t ht
    refine forN_inv 64 _ (fun u => u = t) (fun m u hu => ?_) t rfl
    rw [hu, ht]
    rfl
  have hdone : (s.walkDone c page.toNat).mov.movers = [] := hmov
  generalize s.walkDone c page.toNat = t at hdone hends ⊢
  have hfault : ∀ f : Nat × Nat, (t.xltFault c v f.1 f.2).mov.movers = [] := fun f => by
    rw [(State.xltFault_kept (M := { regs := true }) rfl (Kept.refl t)).mov rfl, hdone]
  have huse : ∀ e, (t.tlbUse page.toNat (tlbOf c page.toNat e)).mov.movers = [] := fun e => hdone
  change execTranslationWalk c page e1 e2 e3 err s = _
  unfold execTranslationWalk
  dsimp only
  rw [hw]
  dsimp only
  rw [hissue, hends]
  cases walkOutcome e1 e2 e3 err with
  | inl f =>
    exact congrArg Host.Outcome.next
      (hidle (fun m j s => if !j.issued && s.jobNeeds j.work c page.toNat then s.faultJob m j else s) _ (hfault f))
  | inr e => exact congrArg Host.Outcome.next (hidle (fun m j s => if j.issued then s else s.issueJob m j) _ (huse e))

theorem State.xltFault_frame (s : State) (c v cause level : Nat) :
    (s.xltFault c v cause level).mov = s.mov ∧ (s.xltFault c v cause level).cal = s.cal :=
  have hkept := State.xltFault_kept (M := { regs := true }) (c := c) (v := v) (cause := cause) (level := level) rfl (Kept.refl s)
  ⟨hkept.mov rfl, hkept.cal rfl⟩

theorem State.reg_xltFault (s : State) (c v cause level : Nat) : (s.xltFault c v cause level).reg rCaldXltFault =
    BitVec.ofNat 32 (c + 2 ^ 9 * cause + 2 ^ 12 * level + 2 ^ 31) := by
  rw [State.xltFault, State.bump, State.reg_setFld_other _ _ _ _ (by decide)]
  unfold State.setReg64
  rw [State.reg_setReg_other _ _ (by decide), State.reg_setReg_other _ _ (by decide), State.reg_setReg_same]

/-! ### WINDOW_SET -/

theorem State.root_setRoot (s : State) (c : Nat) (r : Option Nat) : (s.setRoot c r).root c = r := by
  unfold State.root State.setRoot
  exact SMap.get_set_same ..

theorem State.root_tlbDrop (s : State) (c k : Nat) (p : Nat → Bool) : (s.tlbDrop c p).root k = s.root k := rfl

theorem State.windowSet_refused {s : State} {c q op : Nat} {d : OpenDesc} (h : s.ready c q tWindowSet = some d)
    (hop : d.extra % 4 = op) (hok : windowSetOk d op = false) (f : OpenDesc → State → State) :
    s.windowSet c q op f = s.finish c q 0x10 := by
  unfold State.windowSet
  rw [h]
  simp [hop, hok]

theorem State.windowSet_taken {s : State} {c q op : Nat} {d : OpenDesc} (h : s.ready c q tWindowSet = some d)
    (hop : d.extra % 4 = op) (hok : windowSetOk d op = true) {f : OpenDesc → State → State}
    (hm : (f d s).moversIssued c = true) : s.windowSet c q op f = (f d s).finish c q 0 := by
  unfold State.windowSet
  rw [h]
  dsimp only
  rw [if_neg (by simp [hop]), if_neg (by simp [hok])]
  exact if_pos (show ((f d s).grant c q).moversIssued c = true from hm)

/-- What a WINDOW_SET leaves once it has taken effect. -/
theorem State.finish_window {s u : State} {c q t : Nat} {d : OpenDesc} (h : s.ready c q t = some d) (hctx : u.ctx = s.ctx) :
    (u.finish c q 0).ended c q 0 ∧ (u.finish c q 0).cal = u.cal := by
  rw [← State.ready_of_ctx hctx] at h
  exact State.finish_ends h 0

/-- Every cached entry of the context is dropped. -/
theorem State.tlbFind_dropAll (s : State) (c p : Nat) : (s.tlbDrop c fun _ => true).tlbFind c p = none := by
  have hat : ∀ x ∈ (s.tlbDrop c fun _ => true).tlbAt (tlbSet p), x.ctx ≠ c := by
    intro x hx
    have hcase := SMap.get_mapAll_cases (fun _ => ([] : List Tlb))
      (fun i l => l.filter fun t => !(t.ctx == c && (fun _ => true) (1024 * t.tag + i))) s.cal.tlb (tlbSet p)
    rw [State.tlbAt, State.tlbDrop] at hx
    obtain h | ⟨v, h⟩ := hcase
    · rw [h] at hx
      exact absurd hx List.not_mem_nil
    · rw [h] at hx
      have hkept := (List.mem_filter.mp hx).2
      simpa using hkept
  rw [State.tlbFind, List.find?_eq_none]
  intro x hx
  simp [hat x hx]

theorem State.tlbFind_tlbDrop (s : State) (hwf : SMap.wf (fun _ => []) s.cal.tlb = true) (c p : Nat) (r : Nat → Bool) :
    (s.tlbDrop c r).tlbFind c p = if r p then none else s.tlbFind c p := by
  have hat : (s.tlbDrop c r).tlbAt (tlbSet p) =
    (s.tlbAt (tlbSet p)).filter fun t => !(t.ctx == c && r (1024 * t.tag + tlbSet p)) :=
    SMap.get_mapAll (d := fun _ => ([] : List Tlb)) (f := fun i l => l.filter fun t => !(t.ctx == c && r (1024 * t.tag + i)))
      (fun _ => rfl) hwf (tlbSet p)
  have hpage : 1024 * (p / 1024) + tlbSet p = p := Nat.div_add_mod p 1024
  rw [State.tlbFind, hat, State.tlbFind]
  induction s.tlbAt (tlbSet p) with
  | nil => simp
  | cons x l ih =>
    by_cases hx : (x.ctx == c && x.tag == p / 1024) = true
    · have hx' := hx
      simp only [Bool.and_eq_true, beq_iff_eq] at hx'
      obtain ⟨hc, ht⟩ := hx'
      cases hr : r p with
      | true =>
        rw [List.filter_cons_of_neg (by simp [hc, ht, hpage, hr]), ih, hr]
        rfl
      | false =>
        rw [List.filter_cons_of_pos (by simp [hc, ht, hpage, hr]), List.find?_cons_of_pos (by exact hx),
          List.find?_cons_of_pos (by exact hx)]
        rfl
    · rw [List.find?_cons_of_neg (by exact hx), ← ih, List.filter_cons]
      split
      · rw [List.find?_cons_of_neg (by exact hx)]
      · rfl

/-- Settles O26: the movers and buckets by their maps, a walk by its outcome, WINDOW_SET by its operation. -/
theorem moversAndWindows : Obligations.MoversAndWindows := by
  unfold Obligations.MoversAndWindows
  refine ⟨exec_moverTake, exec_bucketRefill, fun s => ⟨_, rfl, s.dmaReset_fields⟩, ?walk, ?window⟩
  case walk =>
    intro c page e1 e2 e3 err s v run hw
    refine ⟨fun hno => ?_, fun hissue hroot => ⟨fun e he hmov => ?_, fun cause level he hmov => ?_⟩⟩
    · change execTranslationWalk c page e1 e2 e3 err s = _
      unfold execTranslationWalk
      dsimp only
      rw [hw]
      dsimp only
      rw [hno]
      rfl
    · have hex := exec_translationWalk c page e1 e2 e3 err s v hw hissue hroot hmov
      rw [he] at hex
      exact ⟨_, hex, s.walkOf_walkDone c page.toNat, State.tlbFind_tlbUse _ _ _ _⟩
    · have hex := exec_translationWalk c page e1 e2 e3 err s v hw hissue hroot hmov
      rw [he] at hex
      obtain ⟨hm, hc⟩ := (s.walkDone c page.toNat).xltFault_frame c v cause level
      refine ⟨_, hex, ?_, State.reg_xltFault _ _ _ _ _, congrArg CalderaState.tlb hc⟩
      rw [State.walkOf, hm]
      exact s.walkOf_walkDone c page.toNat
  case window =>
    intro c q s d hready huses hissued
    refine ⟨fun hop hal => ?root, fun hop hbad => ?refused, fun hop => ?disable, ?invalidate⟩
    case root =>
      refine ⟨_, congrArg Host.Outcome.next
        (State.windowSet_taken hready (by rw [hop]) (by simp [windowSetOk, hop, huses, hal]) hissued), ?_⟩
      obtain ⟨hend, hcal⟩ := State.finish_window (u := (s.setRoot c (some (d.num 16 8))).tlbDrop c fun _ => true) hready rfl
      refine ⟨?_, fun p => ?_, hend⟩
      · rw [State.root, hcal]
        exact (State.root_tlbDrop ..).trans (s.root_setRoot c _)
      · rw [State.tlbFind, State.tlbAt, hcal]
        exact State.tlbFind_dropAll _ _ _
    case refused =>
      obtain ⟨hend, hcal⟩ := State.finish_ends hready 0x10
      exact ⟨_, congrArg Host.Outcome.next (State.windowSet_refused hready (by rw [hop]) (by simp [windowSetOk, hop, hbad]) _),
        hcal, hend⟩
    case disable =>
      refine ⟨_, congrArg Host.Outcome.next
        (State.windowSet_taken hready (by rw [hop]) (by simp [windowSetOk, hop, huses]) hissued), ?_⟩
      obtain ⟨hend, hcal⟩ := State.finish_window (u := (s.setRoot c none).tlbDrop c fun _ => true) hready rfl
      refine ⟨?_, fun p => ?_, hend⟩
      · rw [State.root, hcal]
        exact (State.root_tlbDrop ..).trans (s.root_setRoot c _)
      · rw [State.tlbFind, State.tlbAt, hcal]
        exact State.tlbFind_dropAll _ _ _
    case invalidate =>
      intro a n hop hn hwin hwf
      refine ⟨_, congrArg Host.Outcome.next (State.windowSet_taken hready (by rw [hop])
        (by simp only [windowSetOk, hop, huses]; simp [hn, hwin, a, n]) hissued), ?_⟩
      obtain ⟨hend, hcal⟩ := State.finish_window (u := s.tlbDrop c fun p =>
        decide (a / 65536 ≤ p) && decide (p ≤ (a + n - 1) / 65536)) hready rfl
      have hfind := fun p => State.tlbFind_tlbDrop s hwf c p fun p => decide (a / 65536 ≤ p) && decide (p ≤ (a + n - 1) / 65536)
      refine ⟨?_, hend, fun p hlo hhi => ?_, fun p hout => ?_⟩
      · rw [State.root, hcal]
        rfl
      · rw [State.tlbFind, State.tlbAt, hcal]
        exact (hfind p).trans (if_pos (by simp [hlo, hhi]))
      · rw [State.tlbFind, State.tlbAt, hcal]
        refine (hfind p).trans (if_neg ?_)
        simp only [Bool.and_eq_true, decide_eq_true_eq, not_and, Nat.not_le]
        omega

end Sys2Proof.Machine

/-! Copies and checks of the movers. -/

namespace Sys2Proof.Machine

/-! ### The start of a transfer -/

theorem State.copyStart_refused {s : State} {c q t : Nat} {d : OpenDesc} (h : s.ready c q t = some d) (k : Copy) :
    (s.copyStart c q k false).ended c q 0x10 ∧ (s.copyStart c q k false).mov = s.mov := by
  have hex : s.copyStart c q k false = s.finish c q 0x10 := rfl
  rw [hex]
  exact ⟨State.ended_finish h 0x10, (s.finish_frame c q 0x10).mov rfl⟩

theorem State.copyStart_barred {s : State} {c q t : Nat} {d : OpenDesc} (h : s.ready c q t = some d) (k : Copy)
    (hbar : s.copyBarred c k = true) : (s.copyStart c q k true).ended c q 0x12 ∧ (s.copyStart c q k true).mov = s.mov := by
  have hex : s.copyStart c q k true = s.finish c q 0x12 := if_pos hbar
  rw [hex]
  exact ⟨State.ended_finish h 0x12, (s.finish_frame c q 0x12).mov rfl⟩

theorem State.copyStart_joins {s : State} {c q t : Nat} {d : OpenDesc} (h : s.ready c q t = some d) (k : Copy)
    (hbar : s.copyBarred c k = false) : (s.copyStart c q k true).mov.copies = s.mov.copies ++ [{ k with start := s.now }] ∧
      (s.copyStart c q k true).findDesc c q = some { d with started := true } := by
  obtain ⟨hd, -⟩ := State.ready_spec h
  unfold State.copyStart
  rw [if_neg (by decide), if_neg (by simp [hbar])]
  refine ⟨rfl, ?_⟩
  rw [State.begin, State.findDesc_modDesc _ _ _ _ (by intro d; rfl)]
  exact congrArg (Option.map _) hd

/-! ### Pieces -/

section
variable (s : State) (c q : Nat)

/-- The mover's job is over. -/
def State.jobOver (s : State) (m : Nat) : State := (s.setMover m none).readsOver (.mover m)

theorem State.jobOver_mover (m : Nat) : SMap.get (fun _ => none) (s.jobOver m).mov.movers m = none :=
  SMap.get_set_same (d := fun _ => none) s.mov.movers m none

theorem State.copyOf_spec {k : Copy} (h : s.copyOf c q = some k) : k.ctx = c ∧ k.seq = q := by
  have hk := List.find?_some h
  simpa using hk

/-- A new value of a transfer under way. -/
theorem State.copyOf_modCopy {k k' : Copy} (h : s.copyOf c q = some k) (hc : k'.ctx = c) (hq : k'.seq = q) :
    (s.modCopy c q fun _ => k').copyOf c q = some k' := by
  unfold State.copyOf at h
  unfold State.copyOf State.modCopy
  dsimp only
  revert h
  induction s.mov.copies with
  | nil => exact fun h => nomatch h
  | cons x l ih =>
    intro h
    rw [List.map_cons]
    by_cases hx : x.ctx = c ∧ x.seq = q
    · rw [if_pos (by simp [hx]), List.find?_cons_of_pos (by simp [hc, hq])]
    · rw [if_neg (by simpa using hx), List.find?_cons_of_neg (by simpa using hx)]
      exact ih (by rwa [List.find?_cons_of_neg (by simpa using hx)] at h)

theorem State.copyEnds_copyOf (code : Nat) : (s.copyEnds c q code).copyOf c q = none := by
  unfold State.copyEnds
  extract_lets mine t
  rw [State.copyOf, List.find?_eq_none]
  intro k hk
  have hkept := (List.mem_filter.mp hk).2
  simpa only [Bool.not_eq_true', Bool.not_eq_true] using hkept

theorem State.copyEnds_ended {d : OpenDesc} (h : s.findDesc c q = some d) (hr : d.result = none) (code : Nat) :
    (s.copyEnds c q code).ended c q code := by
  unfold State.copyEnds
  extract_lets mine t cs
  have ht : t.ctx = s.ctx := foldl_keeps _
    (fun (s : State) (p : Nat × Option Job) => (s.setMover p.1 none).readsOver (.mover p.1))
    State.ctx (fun _ _ => rfl) s
  clear_value t
  exact State.ended_setResult ((State.findDesc_of_ctx ht c q).trans h) hr code

/-- A check's piece moves the checkpoint and the remainder; the last one compares. -/
theorem State.copyAdvance_more {k : Copy} (h : s.copyOf c q = some k) (data : List Byte) (hmore : k.pos + data.length < k.len) :
    (s.copyAdvance c q data).copyOf c q =
      some { k with pos := k.pos + data.length, rem := if k.check = 0 then 0 else crcStep k.check k.rem data } ∧
    (s.copyAdvance c q data).mov.movers = s.mov.movers := by
  obtain ⟨hc, hq⟩ := s.copyOf_spec c q h
  unfold State.copyAdvance
  rw [h]
  dsimp only
  rw [if_pos hmore]
  exact ⟨s.copyOf_modCopy c q h hc hq, rfl⟩

theorem State.copyAdvance_last {k : Copy} (h : s.copyOf c q = some k) (data : List Byte) (hlast : k.len ≤ k.pos + data.length)
    {d : OpenDesc} (hd : s.findDesc c q = some d) (hr : d.result = none) : (s.copyAdvance c q data).copyOf c q = none ∧
      (s.copyAdvance c q data).ended c q (if k.check ≠ 0 ∧
        crcEnd k.check (if k.check = 0 then 0 else crcStep k.check k.rem data) ≠ k.expect then 0x21 else 0) := by
  unfold State.copyAdvance
  rw [h]
  dsimp only
  rw [if_neg (Nat.not_lt.mpr hlast)]
  refine ⟨State.copyEnds_copyOf _ c q _, ?_⟩
  simp only [ne_eq, Bool.and_eq_true, decide_eq_true_eq]
  exact State.copyEnds_ended (s.modCopy c q _) c q hd hr _

end

theorem exec_copyPieceCompletion (m : Fin 64) (data : List Byte) (fail : Fin 3) (s : State) (j : Job) (c q : Nat) (k : Copy)
    (hj : s.awaited m = some j) (hwork : j.work = .copy c q k.pos data.length) (hk : s.copyOf c q = some k) :
    (fail.val ≠ 0 → exec (.copyPieceCompletion m data fail) s =
      .next ((s.jobOver m).copyEnds c q (if fail.val = 1 then 0x20 else 0x22))) ∧
    (fail.val = 0 → k.isCheck = true → exec (.copyPieceCompletion m data fail) s = .next
    ((s.jobOver m).copyAdvance c q data)) := by
  obtain ⟨work, at', issued⟩ := j
  cases hwork
  have hex : exec (.copyPieceCompletion m data fail) s = execCopyPieceCompletion m data fail s := rfl
  rw [hex]
  unfold execCopyPieceCompletion
  rw [hj]
  dsimp only
  rw [hk]
  dsimp only
  rw [if_neg (by simp)]
  refine ⟨fun hfail => if_pos hfail, fun hok hcheck => ?_⟩
  rw [if_neg (by simp [hok]), if_pos hcheck]
  rfl

/-- Settles O27: the descriptors by their checks, a piece by the checkpoint it reaches. -/
theorem copiesAndChecks : Obligations.CopiesAndChecks := by
  unfold Obligations.CopiesAndChecks
  refine ⟨?copy, ?check, ?piece⟩
  case copy =>
    intro c q s d hready k
    have hex : ∃ k' : Copy, { k' with start := s.now } = k ∧ s.copyBarred c k' = s.copyBarred c k ∧
        exec (.dmaCopy c q) s = .next (s.copyStart c q.toNat k' (d.extra == 0 && d.onlyUses [(16, 23), (40, 4)] &&
          decide (1 ≤ k.len) && decide (d.num 36 1 < 2) && decide (d.num 37 1 < 2) && decide (k.check < 5) &&
          s.sideOk c k.srcCal k.src k.len && s.sideOk c k.dstCal k.dst k.len)) := by
      refine ⟨{ k with start := 0 }, rfl, rfl, ?_⟩
      change execDmaCopy c q s = _
      unfold execDmaCopy
      dsimp only
      rw [hready]
    obtain ⟨k', hk', hbar', hex⟩ := hex
    refine ⟨fun hbad => ?_, fun hx huses hlen h36 h37 hcheck hsrc hdst => ?_⟩
    · refine ⟨_, hex, ?_⟩
      rw [show (d.extra == 0 && d.onlyUses [(16, 23), (40, 4)] && decide (1 ≤ k.len) && decide (d.num 36 1 < 2) &&
        decide (d.num 37 1 < 2) && decide (k.check < 5) && s.sideOk c k.srcCal k.src k.len && s.sideOk c k.dstCal k.dst k.len) =
        false by obtain h | h := hbad <;> simp [h]]
      exact State.copyStart_refused hready k'
    · rw [hx, huses, decide_eq_true hlen, decide_eq_true h36, decide_eq_true h37, decide_eq_true hcheck, hsrc, hdst] at hex
      refine ⟨fun hbar => ⟨_, hex, State.copyStart_barred hready k' (hbar'.trans hbar)⟩, fun hbar => ⟨_, hex, ?_⟩⟩
      obtain ⟨hcopies, hdesc⟩ := State.copyStart_joins hready k' (hbar'.trans hbar)
      rw [hk'] at hcopies
      exact ⟨hcopies, hdesc⟩
  case check =>
    intro c q s d hready k
    have hex : ∃ k' : Copy, { k' with start := s.now } = k ∧ s.copyBarred c k' = s.copyBarred c k ∧
        exec (.crcCheck c q) s = .next (s.copyStart c q.toNat k' (d.extra == 0 && d.onlyUses [(16, 9), (28, 5), (36, 4)] &&
          decide (1 ≤ k.len) && decide (d.num 24 1 < 2) && decide (1 ≤ k.check) && decide (k.check < 5) &&
          s.sideOk c k.srcCal k.src k.len)) := by
      refine ⟨{ k with start := 0 }, rfl, rfl, ?_⟩
      change execCrcCheck c q s = _
      unfold execCrcCheck
      dsimp only
      rw [hready]
    obtain ⟨k', hk', hbar', hex⟩ := hex
    refine ⟨fun hbad => ?_, fun hx huses hlen h24 hlo hhi hsrc hbar => ?_⟩
    · refine ⟨_, hex, ?_⟩
      rw [show (d.extra == 0 && d.onlyUses [(16, 9), (28, 5), (36, 4)] && decide (1 ≤ k.len) && decide (d.num 24 1 < 2) &&
        decide (1 ≤ k.check) && decide (k.check < 5) && s.sideOk c k.srcCal k.src k.len) = false by
        obtain h | h | h | h := hbad
        · simp [h]
        · simp [h]
        · simp [h]
        · simp [Nat.not_lt.mpr h]]
      exact State.copyStart_refused hready k'
    · rw [hx, huses, decide_eq_true hlen, decide_eq_true h24, decide_eq_true hlo, decide_eq_true hhi, hsrc] at hex
      obtain ⟨hcopies, hdesc⟩ := State.copyStart_joins hready k' (hbar'.trans hbar)
      rw [hk'] at hcopies
      exact ⟨_, hex, hcopies, hdesc⟩
  case piece =>
    intro m data s j c q k d hj hwork hk hd hr
    have hex := fun fail => exec_copyPieceCompletion m data fail s j c q k hj hwork hk
    refine ⟨fun hcheck => ?_, ⟨_, (hex 1).1 (by decide), ?_⟩, ⟨_, (hex 2).1 (by decide), ?_⟩⟩
    · intro rem
      have hok := (hex 0).2 rfl hcheck
      refine ⟨fun hmore => ⟨_, hok, ?_⟩, fun hlast => ⟨_, hok, (s.jobOver m).copyAdvance_last c q hk data hlast hd hr⟩⟩
      obtain ⟨hcopy, hmov⟩ := (s.jobOver m).copyAdvance_more c q hk data hmore
      rw [hmov]
      exact ⟨hcopy, s.jobOver_mover m⟩
    · exact ⟨State.copyEnds_copyOf _ c q _, (s.jobOver m).copyEnds_ended c q hd hr 0x20⟩
    · exact ⟨State.copyEnds_copyOf _ c q _, (s.jobOver m).copyEnds_ended c q hd hr 0x22⟩

end Sys2Proof.Machine

/-! The PCIe link: training, time-outs of reads, power states and LTR. -/

namespace Sys2Proof.Machine

/-! ### The link trains -/

/-- The fields of TOP.PCIE_STAT once the link trains. -/
theorem linkWord_fields {a w p : Nat} (ha : a ≤ 4) (hw : w ≤ 4) (hp : p < 16) (r c : Bool) :
    let v : Word := BitVec.ofNat 32 (a + 16 * w + 2 ^ 7 + (if r then 2 ^ 8 else 0) + 2 ^ 9 * p + (if c then 2 ^ 16 else 0))
    fld v 0 3 = a ∧ fld v 4 3 = w ∧ bit v 7 = true ∧ bit v 16 = c := by
  intro v
  obtain ⟨r', hr, hr'⟩ : ∃ r', (if r then 2 ^ 8 else 0) = 256 * r' ∧ r' ≤ 1 := by
    cases r
    · exact ⟨0, rfl, by decide⟩
    · exact ⟨1, rfl, by decide⟩
  obtain ⟨c', hc, hc', hcc⟩ : ∃ c', (if c then 2 ^ 16 else 0) = 65536 * c' ∧ c' ≤ 1 ∧ c = decide (c' = 1) := by
    cases c
    · exact ⟨0, rfl, by decide, rfl⟩
    · exact ⟨1, rfl, by decide, rfl⟩
  have hv : v.toNat = a + 16 * w + 128 + 256 * r' + 512 * p + 65536 * c' := by
    simp only [v, hr, hc, BitVec.toNat_ofNat]
    omega
  have hbit : ∀ k, bit v k = decide (v.toNat / 2 ^ k % 2 = 1) := fun k => by
    rw [bit, BitVec.getLsbD, Nat.testBit_eq_decide_div_mod_eq]
  simp only [hbit, fld, hv, hcc, decide_eq_true_eq]
  refine ⟨by omega, by omega, by omega, ?_⟩
  congr 1
  exact propext ⟨fun h => by omega, fun h => by omega⟩

theorem widthCode_le (w : Fin 3) : widthCode w.val ≤ 4 := by
  revert w
  decide

theorem State.showLoads_field (s : State) {o : Nat} (ho : o ≠ rCaldHlLoad) (lo len : Nat) :
    s.showLoads.rfld o lo len = s.rfld o lo len := State.rfld_setReg_other _ _ _ _ ho

theorem State.showLoads_bit (s : State) {o : Nat} (ho : o ≠ rCaldHlLoad) (b : Nat) : s.showLoads.rbit o b = s.rbit o b :=
  State.rbit_setReg_other _ _ _ ho

section
variable (speed : Fin 4) (width : Fin 3) (rev : Bool) (pol : BitVec 4) (s : State)

theorem exec_linkUp_down (hdl : s.dlUp = false) (htr : s.pcie.trained = false) :
    ∃ t, exec (.linkUp speed width rev pol) s = .next t ∧
    t.dlUp = true ∧ t.rfld rTopPcieStat 0 3 = speed + 1 ∧ t.rfld rTopPcieStat 4 3 = widthCode width ∧
    t.rbit rTopPcieStat 16 = (s.modeCode == 3 || s.modeCode == 4) ∧ t.pcie.trained = true := by
  have hex : exec (.linkUp speed width rev pol) s = execLinkUp speed width rev pol s := rfl
  rw [hex]
  unfold execLinkUp
  rw [hdl, htr]
  refine ⟨_, rfl, ?_⟩
  obtain ⟨h1, h2, h3, h4⟩ := linkWord_fields (a := speed.val + 1) (by omega) (widthCode_le width) pol.isLt rev
    (s.modeCode == 3 || s.modeCode == 4)
  refine ⟨?_, ?_, ?_, ?_, rfl⟩
  · rw [State.dlUp, State.showLoads_bit _ (by decide)]
    exact (congrArg (bit · 7) (State.reg_setReg_same ..)).trans h3
  · rw [State.showLoads_field _ (by decide)]
    exact (congrArg (fld · 0 3) (State.reg_setReg_same ..)).trans h1
  · rw [State.showLoads_field _ (by decide)]
    exact (congrArg (fld · 4 3) (State.reg_setReg_same ..)).trans h2
  · rw [State.showLoads_bit _ (by decide)]
    exact (congrArg (bit · 16) (State.reg_setReg_same ..)).trans h4

theorem exec_linkUp_up (hdl : s.dlUp = true) : exec (.linkUp speed width rev pol) s = .next s := by
  change execLinkUp speed width rev pol s = _
  unfold execLinkUp
  rw [hdl]
  rfl

theorem exec_linkRetrain_down (hdl : s.dlUp = false) : exec (.linkRetrain speed width) s = .next s := by
  change execLinkRetrain speed width s = _
  unfold execLinkRetrain
  rw [hdl]
  rfl

/-- The new speed and width are shown, the retrain counted. -/
def State.retrain (s : State) (speed width : Nat) : State :=
  ((s.setFld rTopPcieStat 0 3 speed).setFld rTopPcieStat 4 3 width).bump rTopPcieEvt 16 8

theorem State.retrain_fields {a w : Nat} (ha : a ≤ 4) (hw : w ≤ 4) : (s.retrain a w).rfld rTopPcieStat 0 3 = a ∧
    (s.retrain a w).rfld rTopPcieStat 4 3 = w ∧
    (s.retrain a w).rfld rTopPcieEvt 16 8 = min (s.rfld rTopPcieEvt 16 8 + 1) 255 := by
  unfold State.retrain
  refine ⟨?_, ?_, ?_⟩
  · rw [State.bump, State.rfld_setFld_other _ _ (.inl (by decide)), State.rfld_setFld_other _ _ (.inr (.inl (by decide))),
      State.rfld_setFld_same _ _ _ _ _ (by decide), Nat.mod_eq_of_lt (by omega)]
  · rw [State.bump, State.rfld_setFld_other _ _ (.inl (by decide)), State.rfld_setFld_same _ _ _ _ _ (by decide),
      Nat.mod_eq_of_lt (by omega)]
  · rewrite [State.rfld_bump_same _ _ _ _ (by decide), State.rfld_setFld_other _ _ (.inl (by decide)),
      State.rfld_setFld_other _ _ (.inl (by decide))]
    rfl

theorem exec_linkRetrain_up (hdl : s.dlUp = true) : ∃ t, exec (.linkRetrain speed width) s = .next t ∧
    t.rfld rTopPcieStat 0 3 = speed + 1 ∧ t.rfld rTopPcieStat 4 3 = widthCode width ∧
    t.rfld rTopPcieEvt 16 8 = min (s.rfld rTopPcieEvt 16 8 + 1) 255 ∧
    (speed + 1 < s.rfld rTopPcieStat 0 3 ∨ widthCode width < s.rfld rTopPcieStat 4 3 → t.rbit rTopPcieEvt 2 = true) := by
  have hex : exec (.linkRetrain speed width) s = .next ((if decide (speed.val + 1 < s.rfld rTopPcieStat 0 3) ||
      decide (widthCode width.val < s.rfld rTopPcieStat 4 3) then
        (s.retrain (speed + 1) (widthCode width)).setBit rTopPcieEvt 2 true
      else s.retrain (speed + 1) (widthCode width)).showLoads) := by
    change execLinkRetrain speed width s = _
    unfold execLinkRetrain
    rw [hdl]
    rfl
  obtain ⟨h1, h2, h3⟩ := s.retrain_fields (a := speed.val + 1) (by omega) (widthCode_le width)
  rw [hex]
  refine ⟨_, rfl, ?_⟩
  simp only [State.showLoads_field _ (show rTopPcieStat ≠ rCaldHlLoad by decide),
    State.showLoads_field _ (show rTopPcieEvt ≠ rCaldHlLoad by decide),
    State.showLoads_bit _ (show rTopPcieEvt ≠ rCaldHlLoad by decide)]
  generalize s.retrain (speed + 1) (widthCode width) = t at h1 h2 h3
  split
  next =>
    refine ⟨?_, ?_, ?_, fun _ => State.rbit_setBit_same _ _ _ _ (by decide)⟩
    · rw [State.rfld, State.reg_setBit_other _ _ _ (by decide)]
      exact h1
    · rw [State.rfld, State.reg_setBit_other _ _ _ (by decide)]
      exact h2
    · rw [State.rfld_setBit_other _ _ (.inr (.inr (by decide)))]
      exact h3
  next hno =>
    exact ⟨h1, h2, h3, fun hlower => absurd hlower (by simpa using hno)⟩

end

/-! ### Time-outs -/

section
variable (f : Fin 64) (tag : Fin 1024) (s : State)

theorem exec_timeout_none (h : s.pcie.outst.find? (fun o => o.func == f.val && o.tag == tag.val) = none) :
    exec (.completionTimeout f tag) s = .next s ∧ exec (.lateCompletion f tag) s = .next (s.aer f aerUnexpected) := by
  have hany : (s.pcie.outst.any fun o => o.func == f.val && o.tag == tag.val) = false := by
    rw [List.any_eq_false]
    exact List.find?_eq_none.mp h
  refine ⟨?_, congrArg Host.Outcome.next (if_neg (by rw [hany]; decide))⟩
  change execCompletionTimeout f tag s = _
  unfold execCompletionTimeout
  rw [h]

theorem exec_timeout_some {o : Outst} (h : s.pcie.outst.find? (fun o => o.func == f.val && o.tag == tag.val) = some o) :
    exec (.lateCompletion f tag) s = .next s ∧
    (s.now < o.at' + s.ctoMin → exec (.completionTimeout f tag) s = .next s) := by
  have hany : (s.pcie.outst.any fun o => o.func == f.val && o.tag == tag.val) = true :=
    List.any_eq_true.mpr ⟨o, List.mem_of_find?_eq_some h,
      List.find?_some (p := fun o : Outst => o.func == f.val && o.tag == tag.val) h⟩
  refine ⟨congrArg Host.Outcome.next (if_pos hany), fun hearly => ?_⟩
  change execCompletionTimeout f tag s = _
  unfold execCompletionTimeout
  rw [h]
  exact if_pos hearly

/-- The read is removed, its tag withheld. -/
def State.timedOut (s : State) (f tag : Nat) : State :=
  let t := (s.setBit rTopPcieEvt 3 true).aer f aerTimeout
  { t with pcie := { t.pcie with
    outst := t.pcie.outst.filter fun x => !(x.func == f && x.tag == tag)
    dead := t.pcie.dead ++ [(tag, f, t.now + 2 * t.ctoMin)] } }

theorem exec_timeout_fetch {o : Outst} (h : s.pcie.outst.find? (fun o => o.func == f.val && o.tag == tag.val) = some o)
    (hdue : o.at' + s.ctoMin ≤ s.now) {c : Nat} (hwho : o.who = .fetch c) :
    exec (.completionTimeout f tag) s = .next ((s.timedOut f tag).fetchFails c) := by
  change execCompletionTimeout f tag s = _
  unfold execCompletionTimeout
  rw [h]
  dsimp only
  rw [if_neg (Nat.not_lt.mpr hdue), hwho]
  rfl

theorem State.timedOut_fetchFails (s : State) (f tag c : Nat) : let t := (s.timedOut f tag).fetchFails c
    t.rbit rTopPcieEvt 3 = true ∧ t.rbit (rCtxtErr c) 1 = true ∧ (t.context c).fetchFail = some s.now ∧
    (∀ x ∈ t.pcie.outst, (x.func == f && x.tag == tag) = false) ∧ (tag, f, s.now + 2 * s.ctoMin) ∈ t.pcie.dead := by
  intro t
  have hne : rTopPcieEvt ≠ rCtxtErr c := by simp only [rTopPcieEvt, rCtxtErr]; omega
  refine ⟨?_, ?_, ?_, fun x hx => ?_, ?_⟩
  · change ((s.timedOut f tag).setBit (rCtxtErr c) 1 true).rbit rTopPcieEvt 3 = true
    rw [State.rbit, State.reg_setBit_other _ _ _ hne]
    exact State.rbit_setBit_same s rTopPcieEvt 3 true (by decide)
  · exact State.rbit_setBit_same ((s.timedOut f tag).readsOver (.fetch c)) (rCtxtErr c) 1 true (by decide)
  · dsimp only [t]
    rw [State.fetchFails, State.context_modContext, if_pos rfl]
    rfl
  · have hmem := (List.mem_filter.mp (List.mem_filter.mp hx).1).2
    simpa only [Bool.not_eq_true'] using hmem
  · exact List.mem_append_right _ (List.mem_singleton.mpr rfl)

theorem exec_tagReuse : ∃ t, exec (.tagReuse f tag) s = .next t ∧
    (∀ d ∈ t.pcie.dead, d.1 = tag.val → d.2.1 = f.val → s.now < d.2.2) ∧ t.regs = s.regs := by
  refine ⟨_, rfl, fun d hd htag hf => ?_, rfl⟩
  have hkept := (List.mem_filter.mp hd).2
  simpa [htag, hf] using hkept

end

/-! ### Power states and LTR -/

theorem exec_l1Entry (sub : Fin 3) (s : State) :
    let idle := max 1 (s.rfld rTopPciePm 0 8) * 12288 / 10
    (bit s.pcie.lnkCtl 1 = true → s.dlUp = true → s.fab.outq = [] → s.pcie.outst = [] → s.pcie.lastBusy + idle ≤ s.now →
      ∃ t, exec (.l1Entry sub) s = .next t ∧ t.rbit rTopPcieStat 13 = true ∧ t.rfld rTopPcieStat 14 2 = sub) ∧
    (bit s.pcie.lnkCtl 1 = false ∨ s.dlUp = false ∨ s.now < s.pcie.lastBusy + idle → exec (.l1Entry sub) s = .next s) := by
  intro idle
  refine ⟨fun hctl hdl hq hout hidle => ⟨_, if_pos ?_, ?_, ?_⟩, fun h => if_neg ?_⟩
  · simp only [hctl, hdl, hq, hout]
    exact decide_eq_true hidle
  · rw [State.rbit_setFld_other _ _ (.inr (.inl (by decide)))]
    exact State.rbit_setBit_same _ _ _ _ (by decide)
  · rw [State.rfld_setFld_same _ _ _ _ _ (by decide)]
    exact Nat.mod_eq_of_lt (by omega)
  · obtain h | h | h := h
    · simp [h]
    · simp [h]
    · simp [idle] at h
      simp [h]

theorem exec_pcieLtrWrite (v : BitVec 32) (s : State) :
    (s.rbit rTopPciePm 8 = true → exec (.pcieLtrWrite v) s = .next s) ∧
    (s.rbit rTopPciePm 8 = false → ∃ t, exec (.pcieLtrWrite v) s = .next t ∧ t.reg rTopPcieLtr = v &&& 0x9FFF) := by
  refine ⟨fun h => congrArg Host.Outcome.next (if_pos h), fun h => ⟨_, congrArg Host.Outcome.next (if_neg (by simp [h])), ?_⟩⟩
  dsimp only
  split
  · exact (State.reg_setReg_same ..).trans (by simp)
  · exact State.reg_setReg_same ..

theorem exec_pme (src : Fin 5) (s : State) :
    let on := s.rbit rPwrDormCtrl (if src.val < 4 then 3 + src.val else 2)
    ((s.fn 0).d3 = true → s.pcie.pmeEn = true → on = true → s.pcie.pmeStat = false → ∃ t, exec (.pme src) s = .next t ∧
      t.pcie.pmeStat = true ∧ ∃ r ∈ t.fab.outq, r.tlp = .message 0 0x18 0) ∧
    ((s.fn 0).d3 = false ∨ s.pcie.pmeEn = false ∨ on = false ∨ s.pcie.pmeStat = true → exec (.pme src) s = .next s) := by
  intro on
  have hex : exec (.pme src) s = if (s.fn 0).d3 && s.pcie.pmeEn && on && !s.pcie.pmeStat then
      .next (({ s with pcie := { s.pcie with pmeStat := true } } : State).offer 3 96 (.message 0 0x18 0)) else .next s := rfl
  rw [hex]
  refine ⟨fun hd3 hen hon hstat => ⟨_, if_pos (by simp [hd3, hen, hon, hstat]), rfl, ?_⟩, fun h => if_neg ?_⟩
  · exact ⟨_, List.mem_append_right _ (List.mem_singleton.mpr rfl), rfl⟩
  · obtain h | h | h | h := h <;> simp [h]

/-- Settles O37: each command by its condition. -/
theorem pcieLink : Obligations.PcieLink := by
  unfold Obligations.PcieLink
  refine fun s => ⟨fun speed width rev pol => ⟨exec_linkUp_down speed width rev pol s, exec_linkUp_up speed width rev pol s,
    exec_linkRetrain_down speed width s, exec_linkRetrain_up speed width s⟩, fun f tag => ?timeout,
    fun sub => exec_l1Entry sub s, fun v => exec_pcieLtrWrite v s, fun src => exec_pme src s⟩
  case timeout =>
    intro mine
    refine ⟨exec_timeout_none f tag s, fun o ho => ?_, exec_tagReuse f tag s⟩
    obtain ⟨hlate, hearly⟩ := exec_timeout_some f tag s ho
    exact ⟨hlate, hearly, fun c _ hdue hwho => ⟨_, exec_timeout_fetch f tag s ho hdue hwho, s.timedOut_fetchFails f tag c⟩⟩

end Sys2Proof.Machine

/-! Heartbeat and the triggers of a recovery. -/

namespace Sys2Proof.Machine

/-! ### Registers below the engines' that a cluster reset leaves -/

theorem State.reg_withdrawSwap_below (s : State) (c q : Nat) {o : Nat} (ho : o < 0x080000) :
    (s.withdrawSwap c q).reg o = s.reg o := by
  unfold State.withdrawSwap
  refine forN_keeps 32 _ (State.reg · o) (fun e t => ?_) s
  have hne : o ≠ rEngProgCtrl e := by simp only [rEngProgCtrl]; omega
  unfold State.showSwaps
  extract_lets x
  rw [State.reg_setBit_other _ _ _ hne, State.reg_setBit_other _ _ _ hne]
  rfl

theorem State.reg_clusterReset_below (s : State) (c : Nat) {o : Nat} (ho : o < 0x080000) :
    (s.clusterReset c).reg o = s.reg o := by
  have hcancel : ∀ (t : State) (e : Nat), (t.cancelSwaps e).reg o = t.reg o := by
    intro t e
    unfold State.cancelSwaps
    refine foldl_keeps _ _ (State.reg · o) (fun u r => ?_) t
    split
    · rfl
    · split
      · rfl
      · exact (State.reg_withdrawSwap_below _ _ _ ho).trans (State.reg_setResult ..)
  have hclear : ∀ t : State, (t.clusterClear c).reg o = t.reg o := by
    intro t
    unfold State.clusterClear
    extract_lets u lo v bit4
    have hu : u.reg o = t.reg o := by
      refine forN_keeps 4 _ (State.reg · o) (fun i w => ?_) t
      rfl
    have hv : v.reg o = u.reg o := by
      dsimp only [v, State.reg]
      rw [SMap.get_keep, if_pos (by simp [lo]; omega)]
    clear_value v
    exact hv.trans hu
  exact (hclear _).trans (forN_keeps 4 _ (State.reg · o) (fun i t => hcancel t (4 * c + i)) s)

theorem State.reg_testAbort_below (s : State) {o : Nat} (ho : o < 0x080000) (hne : o ≠ rTestStat) :
    s.testAbort.reg o = s.reg o := by
  unfold State.testAbort
  split
  · rfl
  · extract_lets a b c md
    have ha : a.reg o = s.reg o :=
      foldl_keeps _ State.clusterReset (State.reg · o) (fun t c => t.reg_clusterReset_below c ho) s
    clear_value a
    have hb : b.reg o = a.reg o := by
      dsimp only [b]
      split
      · rfl
      · rfl
    clear_value b
    have hc : c.reg o = b.reg o := by
      dsimp only [c]
      rw [State.reg_setFld_other _ _ _ _ hne, State.reg_setBit_other _ _ _ hne]
    clear_value c
    exact hc.trans (hb.trans ha)

/-- A stopped self-test leaves the counters of the recoveries, and the mode RECOVERY. -/
theorem State.testAbort_fields (s : State) : s.testAbort.keep = s.keep ∧ s.testAbort.mode.recovery = s.mode.recovery := by
  refine ⟨(State.testAbort_kept (M := {
    regs := true, eng := true, chainNow := true, fab := true, par := true, ctx := true, mode := true, test := true })
    rfl rfl rfl rfl rfl rfl rfl rfl (Kept.refl s)).keep rfl, ?_⟩
  unfold State.testAbort
  split
  · rfl
  · extract_lets a b c md
    have ha : Kept { regs := true, eng := true, chainNow := true, fab := true, par := true, ctx := true } s a :=
      foldl_kept (Kept.refl s) fun _ _ h => State.clusterReset_kept rfl rfl rfl rfl rfl rfl h
    have hb : b.mode = a.mode := by
      dsimp only [b]
      split
      · rfl
      · rfl
    have hrec : b.mode.recovery = s.mode.recovery := congrArg ModeState.recovery (hb.trans (ha.mode rfl))
    exact hrec

/-! ### The page and the flash controller -/

/-- What Keeper and Relief hold apart from the page: the starts of recoveries and the release of Keeper. -/
def KeepState.watch (k : KeepState) := (k.starts, k.waitFirst, k.released, k.hbAt)

theorem State.watch_lantern (s : State) : s.lantern.keep.watch = s.keep.watch := by
  unfold State.lantern
  split
  · rfl
  · extract_lets n c body t u
    have hu : u.keep = t.keep := (State.lanPut_kept (M := { fab := true }) rfl (Kept.refl t)).keep rfl
    clear_value u
    have hw : u.keep.watch = s.keep.watch := congrArg KeepState.watch hu
    exact hw

theorem State.starts_lanternHead (s : State) : s.lanternHead.keep.starts = s.keep.starts := by
  unfold State.lanternHead
  split
  · rfl
  · extract_lets n t
    have ht : t.keep = s.keep :=
      (State.lanPut_kept (M := { fab := true }) rfl (State.lanPut_kept rfl (Kept.refl s))).keep rfl
    clear_value t
    have hst : t.keep.starts = s.keep.starts := congrArg KeepState.starts ht
    exact hst

theorem State.watch_modeDo (s : State) (r : Nat) (f : State → State) : (s.modeDo r f).keep.watch = (f s).keep.watch := by
  unfold State.modeDo
  extract_lets t
  split
  · rfl
  · exact State.watch_lantern _

theorem State.starts_modeDo (s : State) (r : Nat) (f : State → State) : (s.modeDo r f).keep.starts = (f s).keep.starts :=
  congrArg Prod.fst (s.watch_modeDo r f)

theorem State.reg_pfEnd (s : State) (st : Nat) {o : Nat} (hcmd : o ≠ rSpimPfCmd) (hstat : o ≠ rSpimStat) :
    (s.pfEnd st).reg o = s.reg o := by
  unfold State.pfEnd
  extract_lets t
  have ht : t.reg o = s.reg o := (State.reg_setBit_other _ _ _ hcmd).trans (State.reg_setFld_other _ _ _ _ hcmd)
  split
  · exact (State.reg_setBit_other _ _ _ hstat).trans ht
  · exact ht

theorem State.reg_spimReset (s : State) {o : Nat} (hcmd : o ≠ rSpimPfCmd) (hstat : o ≠ rSpimStat) :
    s.spimReset.reg o = s.reg o := by
  unfold State.spimReset
  extract_lets long pf a b sp c
  have hb : b.reg o = s.reg o := (State.reg_setBit_other _ _ _ hstat).trans (State.reg_setBit_other _ _ _ hstat)
  split
  · exact (State.reg_pfEnd _ _ hcmd hstat).trans hb
  · exact hb

/-! ### The recovery -/

/-- Relief in RESET and fetching stopped; the starts and their count stand. -/
def State.Stops (s t : State) : Prop := t.rlf = rlfReset ∧ t.rbit rTopRlfStat 3 = true ∧
  t.reg rTopRlfCnt = s.reg rTopRlfCnt ∧ t.keep.starts = s.keep.starts

theorem State.Stops.of_keeps {s t u : State} (h : s.Stops t) (hstat : u.reg rTopRlfStat = t.reg rTopRlfStat)
    (hcnt : u.reg rTopRlfCnt = t.reg rTopRlfCnt) (hstarts : u.keep.starts = t.keep.starts) : s.Stops u := by
  obtain ⟨h1, h2, h3, h4⟩ := h
  refine ⟨?_, ?_, hcnt.trans h3, hstarts.trans h4⟩
  · rw [← h1, State.rlf, State.rfld, hstat]
    rfl
  · rw [← h2, State.rbit, hstat]
    rfl

theorem State.stops_first (s : State) (prev : Nat) :
    s.Stops (((s.setBit rTopRlfStat 3 true).setFld rTopRlfStat 8 4 prev).setRlf rlfReset) := by
  refine ⟨State.rlf_setRlf _ (by decide), ?_, ?_, rfl⟩
  · rw [State.setRlf, State.rbit_setFld_other _ _ (.inr (.inr (by decide))),
      State.rbit_setFld_other _ _ (.inr (.inl (by decide)))]
    exact State.rbit_setBit_same _ _ _ _ (by decide)
  · rw [State.reg_setRlf_other _ _ (by decide), State.reg_setFld_other _ _ _ _ (by decide),
      State.reg_setBit_other _ _ _ (by decide)]

theorem State.recoverySteps_stops (s : State) (reason : Nat) :
    s.Stops (s.recoverySteps reason) ∧ (s.recoverySteps reason).mode.recovery = true := by
  unfold State.recoverySteps
  extract_lets prev first a b c d e f g h fb i j k
  have hb : s.Stops b ∧ b.mode = s.mode := ⟨s.stops_first prev, rfl⟩
  clear_value a b
  have hc : s.Stops c ∧ c.mode.recovery = s.mode.recovery := by
    obtain ⟨hkeep, hrec⟩ := b.testAbort_fields
    exact ⟨hb.1.of_keeps (b.reg_testAbort_below (by decide) (by decide)) (b.reg_testAbort_below (by decide) (by decide))
      (congrArg KeepState.starts hkeep), hrec.trans (congrArg ModeState.recovery hb.2)⟩
  clear_value c
  have hd : s.Stops d ∧ d.mode.recovery = true := by
    dsimp only [d]
    split
    · refine ⟨hc.1.of_keeps (State.modeDo_reg _ _ _ _ (by decide)) (State.modeDo_reg _ _ _ _ (by decide))
        (State.starts_modeDo ..), ?_⟩
      rw [(State.modeDo_parts c reason _).mode rfl]
    next hno =>
      refine ⟨hc.1.of_keeps (State.reg_setFld_other _ _ _ _ (by decide)) (State.reg_setFld_other _ _ _ _ (by decide)) rfl, ?_⟩
      have hrec : s.mode.recovery = true := by simpa [first] using hno
      exact hc.2.trans hrec
  clear_value d
  have he : s.Stops e ∧ e.mode = d.mode := by
    have hkept : Kept { fab := true, keep := true } d e := State.lanternHead_kept rfl rfl (Kept.refl d)
    exact ⟨hd.1.of_keeps (hkept.reg rfl _) (hkept.reg rfl _) d.starts_lanternHead, hkept.mode rfl⟩
  clear_value e
  have hf : s.Stops f ∧ f.mode = d.mode := by
    dsimp only [f]
    split
    · exact ⟨he.1.of_keeps (State.reg_histBegin ..) (State.reg_histBegin ..) rfl, he.2⟩
    · exact he
  clear_value f
  have hg : s.Stops g ∧ g.mode = d.mode := by
    have hkept : Kept { regs := true, spim := true, spis := true } f g := State.spimReset_kept rfl rfl rfl (Kept.refl f)
    exact ⟨hf.1.of_keeps (f.reg_spimReset (by decide) (by decide)) (f.reg_spimReset (by decide) (by decide))
      (congrArg KeepState.starts (hkept.keep rfl)), (hkept.mode rfl).trans hf.2⟩
  clear_value g
  have hi : s.Stops i ∧ i.mode = d.mode := ⟨hg.1.of_keeps rfl rfl rfl, hg.2⟩
  clear_value i
  have hj : s.Stops j ∧ j.mode = d.mode := by
    dsimp only [j]
    unfold State.setReg64
    exact ⟨hi.1.of_keeps ((State.reg_setReg_other _ _ (by decide)).trans (State.reg_setReg_other _ _ (by decide)))
      ((State.reg_setReg_other _ _ (by decide)).trans (State.reg_setReg_other _ _ (by decide))) rfl, hi.2⟩
  clear_value j
  have hk : s.Stops k ∧ k.mode = d.mode := by
    obtain ⟨⟨h1, h2, h3, h4⟩, hmode⟩ := hj
    refine ⟨⟨?_, ?_, (State.reg_setFld_other _ _ _ _ (by decide)).trans h3, h4⟩, hmode⟩
    · exact (State.rfld_setFld_other _ _ (.inr (.inl (by decide)))).trans h1
    · exact (State.rbit_setFld_other _ _ (.inr (.inl (by decide)))).trans h2
  clear_value k
  exact ⟨hk.1.of_keeps rfl rfl rfl, (congrArg ModeState.recovery hk.2).trans hd.2⟩

/-! ### The triggers -/

/-- A start is recorded and counted. -/
def State.startCounted (s : State) : State :=
  ((s.modKeep fun x => { x with starts := s.now :: s.recentStarts }).bump rTopRlfCnt 0 16).setFld rTopRlfCnt 16 2
    (min 2 (s.recentStarts.length + 1))

theorem State.startCounted_fields (s : State) : s.startCounted.keep.starts = s.now :: s.recentStarts ∧
    s.startCounted.rfld rTopRlfCnt 0 16 = min (s.rfld rTopRlfCnt 0 16 + 1) 65535 := by
  refine ⟨rfl, ?_⟩
  rw [State.startCounted, State.rfld_setFld_other _ _ (.inr (.inl (by decide))), State.rfld_bump_same _ _ _ _ (by decide)]
  rfl

/-- The state of Relief in which a trigger is acted on. -/
def State.triggers (s : State) : Prop := s.mode.started = true ∧ s.rlf ≠ rlfFault ∧ s.rlf ≠ rlfMinimal

theorem State.startRecovery_ignored {s : State} (h : ¬ s.triggers) (reason : Nat) : s.startRecovery reason = s := by
  unfold State.startRecovery
  refine if_pos ?_
  by_cases hstarted : s.mode.started = true
  · have hcause : s.rlf = rlfFault ∨ s.rlf = rlfMinimal := by
      refine Decidable.of_not_not fun hno => ?_
      obtain ⟨hf, hm⟩ := not_or.mp hno
      exact h ⟨hstarted, hf, hm⟩
    obtain hc | hc := hcause <;> simp [hc]
  · simp [hstarted]

theorem State.startRecovery_few {s : State} (h : s.triggers) (hfew : s.recentStarts.length < 2) (reason : Nat) :
    let t := s.startRecovery reason
    t.rlf = rlfReset ∧ t.rbit rTopRlfStat 3 = true ∧ t.mode.recovery = true ∧
      t.rfld rTopRlfCnt 0 16 = min (s.rfld rTopRlfCnt 0 16 + 1) 65535 ∧ t.keep.starts = s.now :: s.recentStarts := by
  obtain ⟨hstarted, hfault, hmin⟩ := h
  have hex : s.startRecovery reason = s.startCounted.recoverySteps reason :=
    (if_neg (by simp [hstarted, hfault, hmin])).trans (if_pos hfew)
  obtain ⟨⟨h1, h2, h3, h4⟩, hrec⟩ := s.startCounted.recoverySteps_stops reason
  obtain ⟨hstarts, hcnt⟩ := s.startCounted_fields
  intro t
  have ht : t = s.startCounted.recoverySteps reason := hex
  clear_value t
  subst ht
  exact ⟨h1, h2, hrec, by rw [State.rfld, h3]; exact hcnt, h4.trans hstarts⟩

theorem State.startRecovery_third {s : State} (h : s.triggers) (hmany : ¬ s.recentStarts.length < 2) (reason : Nat) :
    let t := s.startRecovery reason
    t.rlf = rlfMinimal ∧ t.mode.started = false ∧ t.mode.boot = 4 ∧ t.keep.starts = s.now :: s.recentStarts := by
  obtain ⟨hstarted, hfault, hmin⟩ := h
  have hex : s.startRecovery reason = ((s.startCounted.recoverySteps 0x26).enterMinimal 0x26).setRlf rlfMinimal :=
    (if_neg (by simp [hstarted, hfault, hmin])).trans (if_neg hmany)
  obtain ⟨⟨-, -, -, h4⟩, -⟩ := s.startCounted.recoverySteps_stops 0x26
  obtain ⟨hstarts, -⟩ := s.startCounted_fields
  generalize s.startCounted.recoverySteps 0x26 = u at hex h4
  have hmode := u.mode_enterMinimal 0x26
  have hkeep : (u.enterMinimal 0x26).keep.starts = u.keep.starts := by
    unfold State.enterMinimal
    extract_lets t
    have ht : t.keep.starts = u.keep.starts := State.starts_modeDo ..
    clear_value t
    exact ht
  intro t
  have ht : t = (u.enterMinimal 0x26).setRlf rlfMinimal := hex
  clear_value t
  subst ht
  refine ⟨State.rlf_setRlf _ (by decide), ?_, ?_, ?_⟩
  · rw [State.mode_setRlf, hmode]
  · rw [State.mode_setRlf, hmode]
  · exact hkeep.trans (h4.trans hstarts)

theorem State.rlfCtrlW_restart (s : State) : s.rlfCtrlW 1 =
    if s.recovering || s.rlf == rlfFault then s.setBit rTopRlfCtrl 31 true else s.startRecovery 0x24 := rfl

/-! ### The heartbeat -/

theorem State.watching_triggers {s : State} (h : s.watching = true) : s.triggers := by
  simp only [State.watching, Bool.and_eq_true, Bool.or_eq_true, beq_iff_eq] at h
  obtain ⟨⟨hstarted, hrlf⟩, -⟩ := h
  refine ⟨hstarted, ?_, ?_⟩
  all_goals obtain h | h := hrlf <;> rw [h] <;> decide

theorem exec_heartbeat (s : State) (hk : s.keeperRuns = true) : ∃ t, exec .heartbeat s = .next t ∧
    t.rfld rTopRlfHb 0 16 = (s.rfld rTopRlfHb 0 16 + 1) % 65536 ∧ t.rfld rTopRlfHb 16 2 = 0 ∧ t.keep.hbAt = s.now ∧
    t.keep.waitFirst = false := by
  have hcount : ((s.count rTopRlfHb 0 16).setFld rTopRlfHb 16 2 0).rfld rTopRlfHb 0 16 = (s.rfld rTopRlfHb 0 16 + 1) % 65536 := by
    rewrite [State.rfld_setFld_other _ _ (.inr (.inl (by decide))), State.count, State.rfld_setFld_same _ _ _ _ _ (by decide)]
    rfl
  have hclear : ((s.count rTopRlfHb 0 16).setFld rTopRlfHb 16 2 0).rfld rTopRlfHb 16 2 = 0 := by
    rewrite [State.rfld_setFld_same _ _ _ _ _ (by decide)]
    rfl
  have hex : exec .heartbeat s = .next (((s.count rTopRlfHb 0 16).setFld rTopRlfHb 16 2 0).modKeep fun x =>
      { x with hbAt := s.now, waitFirst := false }) := congrArg Host.Outcome.next (if_neg (by simp [hk]))
  generalize (s.count rTopRlfHb 0 16).setFld rTopRlfHb 16 2 0 = u at hcount hclear hex
  exact ⟨_, hex, hcount, hclear, rfl, rfl⟩

/-- A miss is counted. -/
def State.missed (s : State) : State :=
  (s.modKeep fun x => { x with hbAt := x.hbAt + tMiss }).setFld rTopRlfHb 16 2 (min 2 (s.rfld rTopRlfHb 16 2 + 1))

theorem exec_heartbeatMiss (s : State) (hw : s.watching = true) (hf : s.keep.waitFirst = false)
    (hdue : s.keep.hbAt + tMiss ≤ s.now) : exec .heartbeatMiss s =
      .next (if 2 ≤ s.rfld rTopRlfHb 16 2 + 1 then s.missed.startRecovery 0x20 else s.missed) :=
  congrArg Host.Outcome.next (if_neg (by simp [hw, hf, Nat.not_lt.mpr hdue]))

theorem State.missed_fields (s : State) : s.missed.rlf = s.rlf ∧ s.missed.mode = s.mode ∧
    s.missed.recentStarts = s.recentStarts ∧ s.missed.rfld rTopRlfCnt 0 16 = s.rfld rTopRlfCnt 0 16 := by
  refine ⟨?_, rfl, rfl, ?_⟩
  · exact congrArg (fld · 0 3) (State.reg_setFld_other _ _ _ _ (by decide))
  · exact congrArg (fld · 0 16) (State.reg_setFld_other _ _ _ _ (by decide))

/-- Settles O47: every trigger through the start of a recovery, by what Relief's state allows. -/
theorem recoveryTriggers : Obligations.RecoveryTriggers := by
  unfold Obligations.RecoveryTriggers
  intro s live few rec' min'
  refine ⟨fun c hc => ?trigger, fun hlive hrec hfew => ?restart, fun hno => ?refused, exec_heartbeat s,
    fun hk => congrArg Host.Outcome.next (if_pos (by simp [hk])),
      fun hw hf => ⟨fun hearly => ?early, fun hdue h0 => ?miss, fun hdue h0 hfew => ?second⟩,
    fun hw hf => ⟨fun hdue hfew => ?first, fun hearly => ?wait⟩⟩
  case trigger =>
    obtain ⟨reason, hex⟩ : ∃ reason, exec c s = .next (s.startRecovery reason) := by
      obtain rfl | rfl | rfl := hc
      · exact ⟨_, rfl⟩
      · exact ⟨_, rfl⟩
      · exact ⟨_, rfl⟩
    exact ⟨fun hlive hfew => ⟨_, hex, State.startRecovery_few hlive hfew reason⟩,
      fun hlive hmany => ⟨_, hex, State.startRecovery_third hlive hmany reason⟩,
      fun hdead => hex.trans (congrArg Host.Outcome.next (State.startRecovery_ignored hdead reason))⟩
  case restart =>
    have hctrl : s.rlfCtrlW 1 = s.startRecovery 0x24 := by
      obtain ⟨-, hfault, -⟩ := hlive
      exact s.rlfCtrlW_restart.trans (if_neg (by simp [hrec, hfault]))
    exact ⟨_, congrArg Host.Outcome.next hctrl, State.startRecovery_few hlive hfew 0x24⟩
  case refused =>
    have hctrl : s.rlfCtrlW 1 = s.setBit rTopRlfCtrl 31 true :=
      s.rlfCtrlW_restart.trans (if_pos (by obtain h | h := hno <;> simp [h]))
    exact congrArg Host.Outcome.next hctrl
  case early => exact congrArg Host.Outcome.next (if_pos (by simp [hearly]))
  case miss =>
    obtain ⟨hrlf, hmode, -⟩ := s.missed_fields
    refine ⟨_, (exec_heartbeatMiss s hw hf hdue).trans (congrArg Host.Outcome.next (if_neg (by omega))), ?_, hrlf, hmode⟩
    rw [State.missed, State.rfld_setFld_same _ _ _ _ _ (by decide), h0]
    rfl
  case second =>
    obtain ⟨hrlf, hmode, hrecent, hcnt⟩ := s.missed_fields
    have hlive : s.missed.triggers := by
      rw [State.triggers, hrlf, hmode]
      exact State.watching_triggers hw
    have hstart := State.startRecovery_few hlive (by rw [hrecent]; exact hfew) 0x20
    rw [hrecent, hcnt] at hstart
    exact ⟨_, (exec_heartbeatMiss s hw hf hdue).trans (congrArg Host.Outcome.next (if_pos (by omega))), hstart⟩
  case first =>
    exact ⟨_, congrArg Host.Outcome.next (if_pos (by simp [hw, hf, hdue])),
      State.startRecovery_few (State.watching_triggers hw) hfew 0x20⟩
  case wait => exact congrArg Host.Outcome.next (if_neg (by simp [Nat.not_le.mpr hearly]))

end Sys2Proof.Machine

/-! Start-up: its sources, its images and its times. -/

namespace Sys2Proof.Machine

/-! ### Modes of start-up -/

theorem State.boot_modeDo (s : State) (r : Nat) (f : State → State) : (s.modeDo r f).boot = (f s).boot :=
  (State.modeDo_parts s r f).boot rfl

theorem State.mode_modeDo (s : State) (r : Nat) (f : State → State) : (s.modeDo r f).mode = (f s).mode :=
  (State.modeDo_parts s r f).mode rfl

theorem State.boot_enterMinimal (s : State) (r : Nat) : (s.enterMinimal r).boot =
    { s.boot with wd := none, cur := 0, left := [], phase := 2 } := s.boot_modeDo r _

theorem State.enterAwait_fields (s : State) : s.enterAwait.mode.boot = 3 ∧ s.enterAwait.boot.att = 0 ∧
    s.enterAwait.boot.left = s.boot.left := by
  unfold State.enterAwait
  rw [State.mode_modeDo, State.boot_modeDo]
  exact ⟨rfl, rfl, rfl⟩

/-! ### BOOT_ROM_START -/

theorem State.reg_acquire (s : State) (x : Nat) {o : Nat} (hctrl : o ≠ rClkPllCtrl x) (hstat : o ≠ pllStatReg x) :
    (s.acquire x).reg o = s.reg o := by
  unfold State.acquire
  extract_lets t
  have ht : t.reg o = s.reg o := by
    dsimp only [t]
    split
    · exact State.reg_setFld_other _ _ _ _ hctrl
    · rfl
  exact (t.reg_setPllSt x 1 hstat).trans ht

/-- The fuses read again give words and their margins; of the registers they change BOOT.FUSE_STAT only. -/
theorem State.readFuses_fields (s : State) (odd : List FuseRead) : (s.readFuses odd).boot.bootDone = s.boot.bootDone ∧
    (∀ o, o ≠ rBootFuseStat → (s.readFuses odd).reg o = s.reg o) := by
  unfold State.readFuses
  extract_lets bt t u ms has
  have hu : u.boot.bootDone = s.boot.bootDone ∧ u.regs = s.regs := by
    refine List.foldlRecOn (motive := fun v : State => v.boot.bootDone = s.boot.bootDone ∧ v.regs = s.regs) odd _ ⟨rfl, rfl⟩
      fun v hv r _ => ?_
    split
    · exact hv
    · have hkept : Kept {} v (v.marginalWord r).2 := State.marginalWord_kept (Kept.refl v)
      exact ⟨(congrArg BootState.bootDone (hkept.boot rfl)).trans hv.1, (hkept.regs rfl).trans hv.2⟩
  clear_value u
  refine ⟨hu.1, fun o ho => ?_⟩
  rw [State.reg_setReg_other _ _ ho]
  exact congrArg (SMap.get regReset · o) hu.2

theorem State.reg_setBytes48 (s : State) (r : Nat → Nat) (b : List Byte) {o : Nat} (ho : ∀ j, o ≠ r j) :
    (s.setBytes48 r b).reg o = s.reg o := by
  unfold State.setBytes48
  refine forN_keeps 12 _ (State.reg · o) (fun j t => ?_) s
  exact State.reg_setReg_other _ _ (ho j)

theorem State.reg_extendDay (s : State) (i : Nat) (m : List Byte) {o : Nat} (ho : o < rSecDaymark 0 0) :
    (s.extendDay i m).reg o = s.reg o :=
  s.reg_setBytes48 _ _ fun j => by simp only [rSecDaymark] at ho ⊢; omega

theorem State.boot_extendDay (s : State) (i : Nat) (m : List Byte) : (s.extendDay i m).boot = s.boot :=
  (State.extendDay_kept (M := { regs := true }) rfl (Kept.refl s)).boot rfl

/-- REFCLK is found, and PLL-S acquires. -/
def State.romClock (s : State) (freq : Nat) : State := ((s.setFld rClkRefStat 0 2 freq).setBit rClkRefStat 8 true).acquire 2

/-- The boot order: the fuses', if they lock it, or the straps'. -/
def State.romOrder (s : State) : Nat := if bit (s.fuseVal 48) 9 then fld (s.fuseVal 48) 10 3 else s.rfld rBootStraps 0 3

/-- The boot order is shown and measured. -/
def State.romMeasure (s : State) : State :=
  let t := (s.setFld rBootStat 4 3 s.romOrder).setBit rBootStat 9 (bit (s.fuseVal 48) 9)
  t.extendDay 3 (sha384 (leBytes 4 (t.reg rBootStraps).toNat ++ leBytes 1 s.romOrder ++ leBytes 4 (s.fuseVal 48).toNat ++
    leBytes 4 (t.reg rBootFuseStat).toNat))

/-- VERIFY with the sources of the order, or MINIMAL after the third failed attempt. -/
def State.romNext (s : State) (o : Nat) : State :=
  if s.boot.bootDone then s.enterMinimal 0x07
  else
    let s := { s with mode := { s.mode with boot := 2 } }
    s.modBoot fun x => { x with phase := 2, left := s.orderSources o }

theorem State.romClock_fields (s : State) {freq : Nat} (hf : freq < 4) : (s.romClock freq).boot = s.boot ∧
    (s.romClock freq).rfld rClkRefStat 0 2 = freq ∧ (s.romClock freq).rbit rClkRefStat 8 = true := by
  unfold State.romClock
  refine ⟨(State.acquire_kept (M := { regs := true, clk := true }) rfl rfl (Kept.refl _)).boot rfl, ?_, ?_⟩
  · rw [State.rfld, State.reg_acquire _ _ (by decide) (by decide), ← State.rfld,
      State.rfld_setBit_other _ _ (.inr (.inl (by decide))),
      State.rfld_setFld_same _ _ _ _ _ (by decide)]
    exact Nat.mod_eq_of_lt hf
  · rw [State.rbit, State.reg_acquire _ _ (by decide) (by decide)]
    exact State.rbit_setBit_same _ _ _ _ (by decide)

theorem State.romMeasure_fields (s : State) : s.romMeasure.boot = s.boot ∧ s.romMeasure.reg rClkRefStat = s.reg rClkRefStat := by
  unfold State.romMeasure
  extract_lets t
  have ht : t.boot = s.boot ∧ t.reg rClkRefStat = s.reg rClkRefStat := by
    refine ⟨rfl, ?_⟩
    dsimp only [t]
    rw [State.reg_setBit_other _ _ _ (by decide), State.reg_setFld_other _ _ _ _ (by decide)]
  clear_value t
  exact ⟨(t.boot_extendDay 3 _).trans ht.1, (State.reg_extendDay _ _ _ (by decide)).trans ht.2⟩

theorem State.romNext_fields (s : State) (o : Nat) : (s.romNext o).boot.phase = 2 ∧
    (s.romNext o).reg rClkRefStat = s.reg rClkRefStat ∧ (s.romNext o).mode.boot = if s.boot.bootDone then 4 else 2 := by
  unfold State.romNext
  split
  next =>
    have hreg : (s.enterMinimal 0x07).reg rClkRefStat = s.reg rClkRefStat := by
      unfold State.enterMinimal
      exact (State.reg_histBegin ..).trans (State.modeDo_reg _ _ _ _ (by decide))
    rw [State.boot_enterMinimal, State.mode_enterMinimal]
    exact ⟨rfl, hreg, rfl⟩
  next => exact ⟨rfl, rfl, rfl⟩

theorem exec_bootRomStart (freq : Fin 4) (odd : List FuseRead) (s : State) (hphase : s.boot.phase = 1)
    (hperst : s.pwr.perstHeld = false) (htap : s.tap.held = false) : ∃ t, exec (.bootRomStart freq odd) s = .next t ∧
      t.boot.phase = 2 ∧ t.rfld rClkRefStat 0 2 = freq ∧ t.rbit rClkRefStat 8 = true ∧
      t.mode.boot = if s.boot.bootDone then 4 else 2 := by
  have hex : exec (.bootRomStart freq odd) s = .next (((s.romClock freq).readFuses odd).romMeasure.romNext
      ((s.romClock freq).readFuses odd).romOrder) := congrArg Host.Outcome.next (if_neg (by simp [hphase, hperst, htap]))
  obtain ⟨hboot, hfreq, hpresent⟩ := s.romClock_fields freq.isLt
  obtain ⟨hdone, hreg⟩ := (s.romClock freq).readFuses_fields odd
  obtain ⟨hboot', hreg'⟩ := ((s.romClock freq).readFuses odd).romMeasure_fields
  obtain ⟨hphase', hreg'', hmode⟩ := ((s.romClock freq).readFuses odd).romMeasure.romNext_fields
    ((s.romClock freq).readFuses odd).romOrder
  have hstat := hreg''.trans (hreg'.trans (hreg rClkRefStat (by decide)))
  refine ⟨_, hex, hphase', ?_, ?_, ?_⟩
  · rw [State.rfld, hstat]
    exact hfreq
  · rw [State.rbit, hstat]
    exact hpresent
  · rw [hmode, hboot', hdone, hboot]

/-! ### BOOT_SOURCE_TRY -/

/-- A source is given up: the audit log says so. -/
theorem State.sourceFails_fields (s : State) (keeper : Bool) (r : Nat) : (s.sourceFails keeper r).boot.left = s.boot.left ∧
    (s.sourceFails keeper r).boot.cur = 0 ∧ (s.sourceFails keeper r).boot.phase = 2 ∧ (s.sourceFails keeper r).boot.audit ≠ [] ∧
    (s.sourceFails keeper r).reg rSecAuditCnt = s.reg rSecAuditCnt + 1 := by
  unfold State.sourceFails
  extract_lets d t
  have ht : t.boot.left = s.boot.left ∧ t.boot.audit ≠ [] ∧ t.reg rSecAuditCnt = s.reg rSecAuditCnt + 1 :=
    ⟨rfl, List.cons_ne_nil _ _, State.reg_setReg_same ..⟩
  clear_value t
  obtain ⟨h1, h2, h3⟩ := ht
  exact ⟨h1, rfl, rfl, h2, h3⟩

/-- What a source in hand leads to: its image runs, or it is given up. -/
theorem State.tryStage1_outcome (s : State) : s.tryStage1.boot.left = s.boot.left ∧
    ((s.tryStage1.boot.phase = 3 ∧ s.tryStage1.boot.cur = s.boot.cur) ∨
     (s.tryStage1.boot.phase = 2 ∧ s.tryStage1.boot.cur = 0 ∧ s.tryStage1.boot.audit ≠ [])) := by
  unfold State.tryStage1
  split
  · exact ⟨rfl, .inl ⟨rfl, rfl⟩⟩
  · obtain ⟨hleft, hcur, hphase, haudit, -⟩ := s.sourceFails_fields false _
    exact ⟨hleft, .inr ⟨hphase, hcur, haudit⟩⟩

theorem State.bootAsk_fields (s : State) : s.bootAsk.boot.cur = s.boot.cur ∧ s.bootAsk.boot.left = s.boot.left ∧
    s.bootAsk.boot.cascAt = s.boot.cascAt := by
  unfold State.bootAsk
  split
  · exact ⟨rfl, rfl, rfl⟩
  · refine forN_inv 16 _ (fun t => t.boot.cur = s.boot.cur ∧ t.boot.left = s.boot.left ∧ t.boot.cascAt = s.boot.cascAt)
      (fun i t ht => ?_) s ⟨rfl, rfl, rfl⟩
    extract_lets got total o n
    split
    · exact ht
    · exact ht

section
variable (s : State) (quad : Bool) (hphase : s.boot.phase = 2) (hcur : s.boot.cur = 0) (hboot : s.mode.boot = 2)
include hphase hcur hboot

theorem exec_bootSourceTry_noKey (hkey : ∀ k, k < 4 → s.keyUsable k = false) :
    exec (.bootSourceTry quad) s = .next (s.enterMinimal 0x09) := by
  have hnone : (List.range 4).any s.keyUsable = false := by
    rw [List.any_eq_false]
    intro k hk
    simp [hkey k (List.mem_range.mp hk)]
  change execBootSourceTry quad s = _
  unfold execBootSourceTry
  rw [if_neg (by simp [hphase, hcur, hboot]), if_pos (by simp [hnone])]

/-- The source `c` is taken. -/
def State.takeSource (s : State) (c : Nat) (rest : List Nat) : State :=
  (s.modBoot fun x => { x with left := rest }).modBoot fun x => { x with cur := c, cascAt := s.now, img := [], bootNext := 0 }

omit hphase hcur hboot in
theorem State.takeSource_fields (c : Nat) (rest : List Nat) : (s.takeSource c rest).boot.cur = c ∧
    (s.takeSource c rest).boot.left = rest ∧ (s.takeSource c rest).boot.cascAt = s.now := ⟨rfl, rfl, rfl⟩

theorem exec_bootSourceTry_key {k : Nat} (hk : k < 4) (hkey : s.keyUsable k = true) :
    (s.boot.left = [] → exec (.bootSourceTry quad) s = .next s.enterAwait) ∧
    (∀ c rest, s.boot.left = c :: rest →
      (c = 4 ∨ c = 5 → exec (.bootSourceTry quad) s = .next (s.modBoot fun x => { x with left := rest }).enterAwait) ∧
      (c = 6 → exec (.bootSourceTry quad) s = .next (((s.takeSource c rest).setReg rNgxBootStat 0).bootAsk)) ∧
      (1 ≤ c → c ≤ 3 → ∃ u : State, u.boot = (s.takeSource c rest).boot ∧ exec (.bootSourceTry quad) s = .next u.tryStage1)) := by
  have hsome : (List.range 4).any s.keyUsable = true := List.any_eq_true.mpr ⟨k, List.mem_range.mpr hk, hkey⟩
  have hex : exec (.bootSourceTry quad) s = .next (match s.boot.left with
      | [] => s.enterAwait
      | c :: rest =>
        if c = 4 || c = 5 then (s.modBoot fun x => { x with left := rest }).enterAwait
        else if c = 6 then (((s.takeSource c rest).setReg rNgxBootStat 0).bootAsk)
        else (((((s.takeSource c rest).setFld rSpimCfg 0 10 (if quad then 37 else 196)).setBit rSpimCfg 10 quad).setFld
          rSpimCfg 11 4 6).tryStage1)) :=
    congrArg Host.Outcome.next ((if_neg (by simp [hphase, hcur, hboot])).trans (if_neg (by simp [hsome])))
  refine ⟨fun hleft => by rw [hex, hleft], fun c rest hleft => ?_⟩
  rw [hleft] at hex
  refine ⟨fun hc => hex.trans (congrArg Host.Outcome.next (if_pos (by simpa using hc))), fun hc => ?_, fun hlo hhi => ?_⟩
  · exact hex.trans (congrArg Host.Outcome.next ((if_neg (by simp [hc])).trans (if_pos hc)))
  · refine ⟨_, ?_, hex.trans (congrArg Host.Outcome.next ((if_neg (by simp; omega)).trans (if_neg (by omega))))⟩
    rfl

end

/-! ### Images -/

theorem State.boot_tcmLoad (s : State) (o : Nat) (d : List Byte) : (s.tcmLoad o d).boot.cur = s.boot.cur ∧
    ∀ r, (s.tcmLoad o d).reg r = s.reg r := ⟨rfl, fun _ => rfl⟩

theorem exec_stage1Start (s : State) (hphase : s.boot.phase = 3) : ∃ t, exec .stage1Start s = .next t ∧ t.boot.phase = 4 ∧
    t.boot.lastSlot = if 1 ≤ s.boot.cur ∧ s.boot.cur ≤ 3 then some (s.boot.cur - 1) else none := by
  obtain ⟨u, hu, hex⟩ : ∃ u : State, u.boot.cur = s.boot.cur ∧ exec .stage1Start s = .next (u.modBoot fun x => { x with
      phase := 4, stage1Ver := byteNum (s.sourceImage stage1Off) 20 2
      lastSlot := if 1 ≤ x.cur && x.cur ≤ 3 then some (x.cur - 1) else none }) := by
    refine ⟨_, ?_, congrArg Host.Outcome.next (if_neg (by simp [hphase]))⟩
    rw [(State.boot_tcmLoad _ _ _).1, State.boot_extendDay]
  refine ⟨_, hex, rfl, ?_⟩
  dsimp only [State.modBoot]
  rw [hu]
  simp only [Bool.and_eq_true, decide_eq_true_eq]

theorem State.boot_loadCopy (s : State) (d m : List Byte) : ((s.calStore 0 d 99).setBytes48 rSecFwDigest m).boot = s.boot :=
  (State.setBytes48_kept rfl (State.calStore_kept (M := {
    regs := true, fab := true, cal := true, ctx := true, pcie := true, ngx := true, calMem := true })
    rfl rfl rfl rfl rfl rfl rfl (Kept.refl s))).boot rfl

/-- The Keeper image of the source in hand is measured, loaded and kept. -/
def State.loadKeeper (s : State) : State :=
  let img := s.sourceImage keeperOff
  let s := if s.boot.cur = 6 then s.extendDay 0 (List.replicate 48 0) else s
  let s := ((s.calStore 0 (img.take 512 ++ imgPayload img) 99).setBytes48 rSecFwDigest (imgMeasure img)).extendDay 1
    (imgMeasure img)
  (s.setFld rBootStat 0 4 s.boot.cur).tcmLoad 0 ((imgPayload img).take (byteNum img 12 4))

theorem State.loadKeeper_source (s : State) (hcur : s.boot.cur < 16) : s.loadKeeper.rfld rBootStat 0 4 = s.boot.cur := by
  unfold State.loadKeeper
  extract_lets img a b
  have ha : a.boot = s.boot := by
    dsimp only [a]
    split
    · exact State.boot_extendDay ..
    · rfl
  clear_value a
  have hb : b.boot.cur = s.boot.cur := by
    rw [← ha]
    dsimp only [b]
    rw [State.boot_extendDay]
    exact congrArg BootState.cur (a.boot_loadCopy _ _)
  clear_value b
  rw [State.rfld, (State.boot_tcmLoad _ _ _).2, ← State.rfld, hb, State.rfld_setFld_same _ _ _ _ _ (by decide)]
  exact Nat.mod_eq_of_lt hcur

theorem exec_keeperImageStart (s : State) (hphase : s.boot.phase = 4) : exec .keeperImageStart s =
    .next (if s.imageReason true (s.sourceImage keeperOff) = 0 then s.loadKeeper.modBoot fun x => { x with
        phase := 5, keeperVer := byteNum (s.sourceImage keeperOff) 20 2, keyIdx := byteNum (s.sourceImage keeperOff) 7 1
        lastSlot := if x.cur = 6 then none else x.lastSlot }
      else s.sourceFails true (s.imageReason true (s.sourceImage keeperOff))) := by
  refine congrArg Host.Outcome.next ((if_neg (by simp [hphase])).trans ?_)
  dsimp only
  generalize s.imageReason true (s.sourceImage keeperOff) = r
  cases r with
  | zero => rfl
  | succ r => rfl

/-! ### The end of Keeper's initialisation -/

theorem State.now_applyRepairs (s : State) : s.applyRepairs.now = s.now := by
  unfold State.applyRepairs
  extract_lets cl a b c
  have hb : b.now = s.now := by
    refine (forN_keeps 64 _ State.now (fun i t => ?_) a).trans rfl
    rfl
  clear_value b
  have hc : c.now = b.now := by
    refine forN_keeps 8 _ State.now (fun i t => ?_) b
    rfl
  clear_value c
  refine (foldl_keeps _ _ State.now (fun t p => ?_) c).trans (hc.trans hb)
  split
  · exact State.now_retireTile ..
  · rfl

theorem State.now_writeBands (s : State) : s.writeBands.now = s.now := by
  unfold State.writeBands
  split
  · rfl
  · refine forN_keeps 16 _ State.now (fun i t => ?_) s
    rfl

theorem exec_keeperInitDone (s : State) (hphase : s.boot.phase = 5) : ∃ t, exec .keeperInitDone s = .next t ∧ t.boot.phase = 6 ∧
    t.mode.started = true ∧ t.boot.att = 0 ∧ t.boot.wd = none ∧ t.keep.waitFirst = true ∧ t.keep.released = s.now := by
  have hex : exec .keeperInitDone s = execKeeperInitDone s := rfl
  rw [hex]
  unfold execKeeperInitDone
  refine ⟨_, congrArg Host.Outcome.next (if_neg (by simp [hphase])), ?_⟩
  extract_lets c a b d e
  have ha : a.now = s.now := (State.now_applyRepairs _).trans s.now_writeBands
  clear_value a
  have hb : b.now = s.now := by
    dsimp only [b]
    split
    · exact (State.now_writeBcr ..).trans ha
    · exact ha
  clear_value b
  have hd : d.now = s.now := hb
  have he : e.boot.phase = 6 ∧ e.boot.att = 0 ∧ e.boot.wd = none ∧ e.keep.waitFirst = true ∧ e.keep.released = s.now :=
    ⟨rfl, rfl, rfl, rfl, hd⟩
  clear_value e
  obtain ⟨hphase', hatt, hwd, hwait, hrel⟩ := he
  have hwatch := e.watch_modeDo (if e.rfld rBootFuseStat 0 8 = 0 then 0x05 else 0x08)
    fun s => { s with mode := { s.mode with started := true, boot := 2 } }
  simp only [KeepState.watch, Prod.mk.injEq] at hwatch
  obtain ⟨-, hwait', hrel', -⟩ := hwatch
  rw [State.boot_modeDo, State.mode_modeDo]
  exact ⟨hphase', rfl, hatt, hwd, hwait'.trans hwait, hrel'.trans hrel⟩

/-! ### Times -/

theorem exec_bootWatchdog (straps : BitVec 6) (s : State) (at' : Nat) (hwd : s.boot.wd = some at') :
    (at' + 1105920000 ≤ s.now → ∃ t, exec (.bootWatchdog straps) s = .next t ∧ t.boot.phase = 1 ∧ t.boot.wd = some s.now ∧
      t.boot.att = min 3 (s.boot.att + 1) ∧ t.reg rBootStraps = BitVec.ofNat 32 straps.toNat ∧ t.mode = State.reset.mode) ∧
    (s.now < at' + 1105920000 → exec (.bootWatchdog straps) s = .next s) := by
  have hex : exec (.bootWatchdog straps) s = .next
    (if at' + 1105920000 ≤ s.now then s.bootReset straps s.boot.reason else s) := by
    change execBootWatchdog straps s = _
    unfold execBootWatchdog
    rw [hwd]
  refine ⟨fun hdue => ⟨_, hex.trans (congrArg Host.Outcome.next (if_pos hdue)), ?_⟩,
    fun hearly => hex.trans (congrArg Host.Outcome.next (if_neg (by omega)))⟩
  obtain ⟨-, -, -, -, hatt, -, -, hnow, -, hmode, -⟩ := s.devReset_fields false
  obtain ⟨hboot, -, -, -, -, hmode'⟩ := (s.devReset false).startUp_fields straps s.boot.reason
  obtain ⟨hstraps, -⟩ := (s.devReset false).reg_startUp straps s.boot.reason
  rw [State.bootReset, hboot, hmode', hatt, hnow]
  exact ⟨rfl, rfl, rfl, hstraps, hmode⟩

theorem exec_awaitImageTimeout (s : State) (hboot : s.mode.boot = 3) (hstarted : s.mode.started = false)
    (hleft : s.boot.left ≠ []) :
    (s.boot.awaitAt + 2457600000 ≤ s.now → ∃ t, exec .awaitImageTimeout s = .next t ∧ t.mode.boot = 2 ∧ t.boot.wd = some s.now ∧
      t.boot.cur = 0 ∧ t.boot.phase = 2 ∧ t.boot.left = s.boot.left) ∧
    (s.now < s.boot.awaitAt + 2457600000 → exec .awaitImageTimeout s = .next s) := by
  refine ⟨fun hdue => ⟨_, congrArg Host.Outcome.next (if_pos (by simp [hboot, hstarted, hleft, hdue])), ?_⟩,
    fun hearly => congrArg Host.Outcome.next (if_neg (by simp [Nat.not_le.mpr hearly]))⟩
  unfold State.verifyAgain
  rw [State.mode_modeDo, State.boot_modeDo]
  exact ⟨rfl, rfl, rfl, rfl, rfl⟩

theorem exec_cascadeUpTimeout (s : State) (hcur : s.boot.cur = 6) (hphase : s.boot.phase = 2) (hdown : s.rfld rNgxStat 11 2 ≠ 3) :
    (s.boot.cascAt + 245760000 ≤ s.now → ∃ t, exec .cascadeUpTimeout s = .next t ∧ t.boot.cur = 0 ∧ t.boot.phase = 2 ∧
      t.reg rSecAuditCnt = s.reg rSecAuditCnt + 1) ∧
    (s.now < s.boot.cascAt + 245760000 → exec .cascadeUpTimeout s = .next s) := by
  obtain ⟨-, h1, h2, -, h3⟩ := s.sourceFails_fields true 0x07
  exact ⟨fun hdue => ⟨_, congrArg Host.Outcome.next (if_pos (by simp [hcur, hphase, hdown, hdue])), h1, h2, h3⟩,
    fun hearly => congrArg Host.Outcome.next (if_neg (by simp [Nat.not_le.mpr hearly]))⟩

/-- Settles O49: each step by its phase. -/
theorem startUp : Obligations.StartUp := by
  unfold Obligations.StartUp
  refine fun s => ⟨fun freq odd => ⟨exec_bootRomStart freq odd s, fun h => congrArg Host.Outcome.next (if_pos (by simp [h]))⟩,
    fun hphase hcur hboot quad => ⟨fun hkey => ?noKey, fun k hk hkey => ?key⟩,
    exec_stage1Start s, fun h => congrArg Host.Outcome.next (if_pos (by simp [h])), fun hphase hcur => ?keeper,
    fun h => congrArg Host.Outcome.next (if_pos (by simp [h])), exec_keeperInitDone s,
    fun h => congrArg Host.Outcome.next (if_pos (by simp [h])), fun straps at' hwd => exec_bootWatchdog straps s at' hwd,
    exec_awaitImageTimeout s, exec_cascadeUpTimeout s, rfl⟩
  case noKey =>
    refine ⟨_, exec_bootSourceTry_noKey s quad hphase hcur hboot hkey, ?_⟩
    rw [State.mode_enterMinimal]
    exact ⟨rfl, rfl⟩
  case key =>
    obtain ⟨hnil, hcons⟩ := exec_bootSourceTry_key s quad hphase hcur hboot hk hkey
    refine ⟨fun hleft => ?_, fun c rest hleft => ⟨fun hc => ?_, fun hc => ?_, fun hlo hhi => ?_⟩⟩
    · obtain ⟨hb, ha, -⟩ := s.enterAwait_fields
      exact ⟨_, hnil hleft, hb, ha⟩
    · obtain ⟨hawait, -⟩ := hcons c rest hleft
      obtain ⟨hb, ha, hl⟩ := (s.modBoot fun x => { x with left := rest }).enterAwait_fields
      exact ⟨_, hawait hc, hb, hl, ha⟩
    · obtain ⟨-, hcasc, -⟩ := hcons c rest hleft
      obtain ⟨h1, h2, h3⟩ := ((s.takeSource c rest).setReg rNgxBootStat 0).bootAsk_fields
      obtain ⟨k1, k2, k3⟩ := s.takeSource_fields c rest
      exact ⟨_, hcasc hc, h1.trans (k1.trans hc), h2.trans k2, h3.trans k3⟩
    · obtain ⟨-, -, hflash⟩ := hcons c rest hleft
      obtain ⟨u, hu, hex⟩ := hflash hlo hhi
      obtain ⟨hl, hout⟩ := u.tryStage1_outcome
      obtain ⟨k1, k2, -⟩ := s.takeSource_fields c rest
      rw [hu, k2] at hl
      rw [hu, k1] at hout
      exact ⟨_, hex, hl, hout⟩
  case keeper =>
    have hex := exec_keeperImageStart s hphase
    have hsrc := s.loadKeeper_source hcur
    by_cases hok : s.imageReason true (s.sourceImage keeperOff) = 0
    · rw [if_pos hok] at hex
      generalize s.loadKeeper = u at hsrc hex
      refine ⟨_, hex, ?_⟩
      rw [if_pos hok]
      refine ⟨rfl, ?_⟩
      rw [State.rfld, State.reg_modBoot]
      exact hsrc
    · rw [if_neg hok] at hex
      obtain ⟨-, h1, h2, -⟩ := s.sourceFails_fields true (s.imageReason true (s.sourceImage keeperOff))
      refine ⟨_, hex, ?_⟩
      rw [if_neg hok]
      exact ⟨h2, h1⟩

end Sys2Proof.Machine

/-! O51, O52: flash commands of the PF and their ends (R637 to R647). What the controller changes is said once, for a command
issued, for the next request and for a read of the window; the commands and their ends are assembled from it. -/

namespace Sys2Proof.Machine

/-! ### What the controller leaves unchanged -/

theorem State.reg_flashDo (s : State) (k : FlashCmd) (o : Nat) : (s.flashDo k).reg o = s.reg o :=
  (State.flashDo_kept (M := { boot := true, flash := true }) rfl rfl (Kept.refl s)).reg rfl o

theorem State.reg_cacheDrop (s : State) (a n : Nat) {o : Nat} (ho : o ≠ rSpimCache) : (s.cacheDrop a n).reg o = s.reg o :=
  State.reg_setFld_other _ _ _ _ ho

/-- Two states whose registers agree except the status bits 0 and 1 of the flash controller and its cache counters. -/
def sameButFlash (s t : State) : Prop :=
  (∀ o, o ≠ rSpimStat → o ≠ rSpimCache → t.reg o = s.reg o) ∧ ∀ b, b ≠ 0 → b ≠ 1 → t.rbit rSpimStat b = s.rbit rSpimStat b

theorem sameButFlash.trans {s t u : State} (h : sameButFlash s t) (h' : sameButFlash t u) : sameButFlash s u :=
  ⟨fun o hs hc => (h'.1 o hs hc).trans (h.1 o hs hc), fun b h0 h1 => (h'.2 b h0 h1).trans (h.2 b h0 h1)⟩

theorem sameButFlash_of_regs {s t : State} (h : t.regs = s.regs) : sameButFlash s t :=
  ⟨fun _ _ _ => congrArg (SMap.get regReset · _) h, fun _ _ _ => congrArg (fun m => bit (SMap.get regReset m _) _) h⟩

theorem sameButFlash_setBit (s : State) {b : Nat} (hb : b = 0 ∨ b = 1) (v : Bool) : sameButFlash s (s.setBit rSpimStat b v) :=
  ⟨fun _ ho _ => State.reg_setBit_other _ _ _ ho, fun j h0 h1 => by
    rw [State.rbit_setBit _ _ _ _ _ _ (by omega), if_neg (by omega)]⟩

theorem sameButFlash_of_reg {s t : State} (h : ∀ o, o ≠ rSpimCache → t.reg o = s.reg o) : sameButFlash s t :=
  ⟨fun o _ ho => h o ho, fun b _ _ => congrArg (bit · b) (h rSpimStat (by decide))⟩

/-- A command issued: the registers of the controller show it, and it is under way. -/
theorem State.spimIssue_frame (s : State) (k : FlashCmd) :
    sameButFlash s (s.spimIssue k) ∧ (s.spimIssue k).rbit rSpimStat 0 = true ∧
      ∃ cache, (s.spimIssue k).spim = { s.spim with cache := cache, cmd := some { k with at' := s.now } } := by
  unfold State.spimIssue
  extract_lets long shown done
  have hshown : sameButFlash s shown := sameButFlash_setBit s (.inl rfl) true
  have h0 : shown.rbit rSpimStat 0 = true := State.rbit_setBit_same _ _ _ _ (by decide)
  have hnow : shown.now = s.now := rfl
  have hspim : shown.spim = s.spim := rfl
  have hdone : sameButFlash s done ∧ done.rbit rSpimStat 0 = true ∧ done.now = s.now ∧
      ∃ cache, done.spim = { s.spim with cache := cache } := by
    clear_value shown
    dsimp only [done]
    split
    · have hreg (o : Nat) (ho : o ≠ rSpimCache) :
          (((shown.setBit rSpimStat 1 true).cacheDrop k.range.1 k.range.2).flashDo k).reg o =
            (shown.setBit rSpimStat 1 true).reg o :=
        (State.reg_flashDo _ _ _).trans (State.reg_cacheDrop _ _ _ ho)
      refine ⟨(hshown.trans (sameButFlash_setBit _ (.inr rfl) _)).trans (sameButFlash_of_reg hreg), ?_, ?_, ?_⟩
      · refine (congrArg (bit · 0) (hreg rSpimStat (by decide))).trans ?_
        exact (State.rbit_setBit _ _ _ _ _ _ (by decide)).trans ((if_neg (by decide)).trans h0)
      · exact (State.now_flashDo _ _).trans hnow
      · rw [State.spim_flashDo, ← hspim]
        exact ⟨_, rfl⟩
    · exact ⟨hshown, h0, hnow, s.spim.cache, hspim⟩
  clear_value done shown
  obtain ⟨hsame, hbit, hnow', cache, hspim'⟩ := hdone
  refine ⟨hsame, hbit, cache, ?_⟩
  unfold State.modSpim
  rw [hspim', hnow']

theorem State.spimNext_busy {s : State} (h : s.spimFree = false) : s.spimNext = s := by
  rw [State.spimNext, h]
  rfl

theorem State.spimNext_empty {s : State} (hfree : s.spimFree = true) (hq : s.spim.queue = []) :
    s.spimNext = s.setBit rSpimStat 0 false := by
  rw [State.spimNext, hfree, hq]
  rfl

/-- The request that the controller takes first. -/
def betterCmd (b : Option FlashCmd) (k : FlashCmd) : Option FlashCmd :=
  match b with
  | none => some k
  | some c => if k.who < c.who then some k else some c

theorem isSome_betterCmd (b : Option FlashCmd) (k : FlashCmd) : (betterCmd b k).isSome = true := by
  cases b with
  | none => rfl
  | some c =>
    unfold betterCmd
    dsimp only
    split <;> rfl

theorem isSome_foldl_betterCmd {l : List FlashCmd} (hl : l ≠ []) (b : Option FlashCmd) : (l.foldl betterCmd b).isSome = true := by
  induction l generalizing b with
  | nil => exact absurd rfl hl
  | cons k l ih =>
    rw [List.foldl_cons]
    cases l with
    | nil => exact isSome_betterCmd b k
    | cons k' l => exact ih (by simp) _

/-- The next request of a free controller is issued. -/
theorem State.spimNext_issue {s : State} (hfree : s.spimFree = true) (hq : s.spim.queue ≠ []) :
    ∃ k, s.spimNext = (s.modSpim fun x => { x with queue := x.queue.erase k }).spimIssue k := by
  obtain ⟨k, hk⟩ := Option.isSome_iff_exists.mp (isSome_foldl_betterCmd hq none)
  refine ⟨k, ?_⟩
  unfold State.spimNext
  extract_lets best
  have hbest : best = some k := hk
  rw [hfree, hbest]
  rfl

/-- What the next request leaves: the registers but the controller's own, the waiting reads and the state of the controller. -/
theorem State.spimNext_frame (s : State) : sameButFlash s s.spimNext ∧ s.spimNext.spim.reads = s.spim.reads ∧
    s.spimNext.spim.poll = s.spim.poll ∧ s.spimNext.spim.held = s.spim.held := by
  by_cases hfree : s.spimFree = true
  case neg =>
    rw [State.spimNext_busy (by simpa using hfree)]
    exact ⟨sameButFlash_of_regs rfl, rfl, rfl, rfl⟩
  by_cases hq : s.spim.queue = []
  case pos =>
    rw [State.spimNext_empty hfree hq]
    exact ⟨sameButFlash_setBit _ (.inl rfl) _, rfl, rfl, rfl⟩
  obtain ⟨k, hk⟩ := State.spimNext_issue hfree hq
  obtain ⟨hsame, -, cache, hspim⟩ := State.spimIssue_frame (s.modSpim fun x => { x with queue := x.queue.erase k }) k
  rw [hk, hspim]
  exact ⟨(sameButFlash_of_regs rfl).trans hsame, rfl, rfl, rfl⟩

/-- A request to a busy controller waits. -/
theorem State.spimReq_busy {s : State} (h : s.spimFree = false) (k : FlashCmd) :
    s.spimReq k = s.modSpim fun x => { x with queue := x.queue ++ [k] } :=
  State.spimNext_busy h

theorem State.spimReq_frame (s : State) (k : FlashCmd) : sameButFlash s (s.spimReq k) :=
  (sameButFlash_of_regs (t := s.modSpim fun x => { x with queue := x.queue ++ [k] }) rfl).trans (State.spimNext_frame _).1

/-! ### What a command does to the flash (R640, R642) -/

theorem State.spimIssue_boot (s : State) {k : FlashCmd} (hop : k.op = Machine.pfRead ∨ k.op = pfStatus) :
    (s.spimIssue k).boot = s.boot := by
  have hlong : (k.op != Machine.pfRead && k.op != pfStatus) = false := by rcases hop with h | h <;> rw [h] <;> rfl
  unfold State.spimIssue
  extract_lets long shown done
  have hdone : done = shown := if_neg (by rw [show long = false from hlong]; decide)
  rw [hdone]
  rfl

theorem State.flashByte_flashErase (s : State) (a n j : Nat) :
    (s.flashErase a n).flashByte j = if a ≤ j ∧ j < a + n then 0xFF else s.flashByte j := by
  refine (SMap.get_keep _ _ _).trans ?_
  by_cases hj : a ≤ j ∧ j < a + n
  · rw [if_pos hj, if_neg (by simp [hj])]
    rfl
  · rw [if_neg hj, if_pos (by simp; omega)]
    rfl

/-- An erase issued, byte by byte. -/
theorem State.flashByte_spimIssue_erase (s : State) {k : FlashCmd} (hop : k.op = pfErase4 ∨ k.op = pfErase64)
    (hlo : 0x10000 ≤ k.range.1) (j : Nat) : (s.spimIssue k).flashByte j =
      if k.range.1 ≤ j ∧ j < k.range.1 + k.range.2 then 0xFF else s.flashByte j := by
  have hdo (u : State) : u.flashDo k = u.flashErase k.range.1 k.range.2 := by
    have hprog : k.op ≠ pfProgram := by rcases hop with h | h <;> rw [h] <;> decide
    have herase : (k.op = pfErase4 || k.op = pfErase64 || k.op = slotErase) = true := by rcases hop with h | h <;> rw [h] <;> rfl
    rw [State.flashDo, if_neg hprog, if_pos herase, if_neg (by simp [Nat.not_lt.mpr hlo])]
  have hlong : (k.op != Machine.pfRead && k.op != pfStatus) = true := by rcases hop with h | h <;> rw [h] <;> rfl
  unfold State.spimIssue
  extract_lets long shown done
  have hdone : done = ((shown.setBit rSpimStat 1 true).cacheDrop k.range.1 k.range.2).flashErase k.range.1 k.range.2 :=
    (if_pos hlong).trans (hdo _)
  rw [hdone]
  exact State.flashByte_flashErase _ _ _ j

/-! ### GO (R644) -/

theorem State.pfGo_busy {s : State} (h : s.rbit rSpimPfCmd 31 = true) (op len : Nat) :
    s.pfGo op len = s.setBit rSpimStat 11 true :=
  if_pos h

/-- A command of the PF taken: its fields stand in PF_CMD with BUSY. -/
def State.pfTaken (s : State) (op len : Nat) : State :=
  (((s.setFld rSpimPfCmd 0 3 op).setFld rSpimPfCmd 8 8 len).setFld rSpimPfCmd 24 4 0).setBit rSpimPfCmd 31 true

theorem State.pfTaken_cmd (s : State) (op len : Nat) :
    (s.pfTaken op len).rbit rSpimPfCmd 31 = true ∧ (s.pfTaken op len).rfld rSpimPfCmd 24 4 = 0 :=
  ⟨State.rbit_setBit_same _ _ _ _ (by decide),
    (State.rfld_setBit_other _ _ (.inr (.inl (by decide)))).trans (State.rfld_setFld_same _ _ _ _ _ (by decide))⟩

theorem State.reg_pfTaken (s : State) (op len : Nat) {o : Nat} (ho : o ≠ rSpimPfCmd) : (s.pfTaken op len).reg o = s.reg o := by
  unfold State.pfTaken
  rw [State.reg_setBit_other _ _ _ ho, State.reg_setFld_other _ _ _ _ ho, State.reg_setFld_other _ _ _ _ ho,
    State.reg_setFld_other _ _ _ _ ho]

/-- The command that GO puts to the controller. -/
def State.pfCommand (s : State) (op len : Nat) : FlashCmd :=
  { who := 3, op := op, addr := s.rfld rSpimPfAddr 0 26, len := len + 1
    data := if op = pfProgram then s.pfBuf (len + 1) else [], mask := List.replicate (len + 1) true }

theorem State.pfBuf_of_reg {s t : State} (h : ∀ j, t.reg (rSpimPfBuf j) = s.reg (rSpimPfBuf j)) (n : Nat) :
    t.pfBuf n = s.pfBuf n := by
  unfold State.pfBuf
  simp only [h]

theorem State.pfEnd_fields (s : State) {st : Nat} (hst : st < 16) : (s.pfEnd st).rfld rSpimPfCmd 24 4 = st ∧
    (s.pfEnd st).rbit rSpimPfCmd 31 = false ∧ (s.pfEnd st).boot = s.boot ∧ (s.pfEnd st).spim = s.spim := by
  unfold State.pfEnd
  extract_lets t
  have hcode : t.rfld rSpimPfCmd 24 4 = st :=
    (State.rfld_setBit_other _ _ (.inr (.inl (by decide)))).trans
      ((State.rfld_setFld_same _ _ _ _ _ (by decide)).trans (Nat.mod_eq_of_lt hst))
  have hbusy : t.rbit rSpimPfCmd 31 = false := State.rbit_setBit_same _ _ _ _ (by decide)
  split
  · exact ⟨(congrArg (fld · 24 4) (State.reg_setBit_other _ _ _ (by decide))).trans hcode,
      (congrArg (bit · 31) (State.reg_setBit_other _ _ _ (by decide))).trans hbusy, rfl, rfl⟩
  · exact ⟨hcode, hbusy, rfl, rfl⟩

/-- The bytes that a PF command touches: its start and its length. -/
def pfSpan (op a n : Nat) : Nat × Nat :=
  if op = 3 then (a / 4096 * 4096, 4096) else if op = 4 then (a / 65536 * 65536, 65536) else (a, n)

theorem pfBuf_length (s : State) (n : Nat) : (s.pfBuf n).length = n := by
  rw [State.pfBuf, List.length_map, List.length_range]

theorem State.range_pfCommand (s : State) {op : Nat} (len : Nat) (hop : 2 ≤ op ∧ op ≤ 4) :
    (s.pfCommand op len).range = pfSpan op (s.rfld rSpimPfAddr 0 26) (len + 1) := by
  obtain rfl | rfl | rfl : op = 2 ∨ op = 3 ∨ op = 4 := by omega
  · exact Prod.ext rfl (pfBuf_length _ _)
  · rfl
  · rfl

/-- GO of an idle PF interface: refused as protected or as out of range, or put to the controller. -/
theorem State.pfGo_idle {s : State} (h : s.rbit rSpimPfCmd 31 = false) {op : Nat} (hop : 1 ≤ op ∧ op ≤ 5) (len : Nat) :
    let a := s.rfld rSpimPfAddr 0 26
    let r := pfSpan op a (len + 1)
    s.pfGo op len = if 2 ≤ op ∧ op ≤ 4 ∧ r.1 < 0x10000 then (s.pfTaken op len).pfEnd 1
      else if (op = 2 ∧ 256 < a % 256 + (len + 1)) ∨ (op ≠ 5 ∧ 2 ^ s.rfld rSpimCfg 16 5 < r.1 + r.2) then
        (s.pfTaken op len).pfEnd 4
      else (s.pfTaken op len).spimReq (s.pfCommand op len) := by
  intro a r
  unfold State.pfGo
  rw [h, if_neg (by decide)]
  extract_lets u b k q v
  have hreg (o : Nat) (ho : o ≠ rSpimPfCmd) : u.reg o = s.reg o := by
    rw [State.reg_setFld_other _ _ _ _ ho, State.reg_setFld_other _ _ _ _ ho, State.reg_setFld_other _ _ _ _ ho]
  have hv : v = s.pfTaken op len := rfl
  have hb : b = a := congrArg (fld · 0 26) (hreg _ (by decide))
  have hk : k = s.pfCommand op len := by
    have hbuf : u.pfBuf (len + 1) = s.pfBuf (len + 1) :=
      State.pfBuf_of_reg (fun j => hreg _ (by unfold rSpimPfBuf rSpimPfCmd; omega)) _
    dsimp only [k]
    rw [hbuf, hb]
    rfl
  have hsize : v.flashSize = 2 ^ s.rfld rSpimCfg 16 5 := by
    rw [hv, State.flashSize, State.rfld, State.reg_pfTaken _ _ _ (by decide)]
    rfl
  have hq : op ≠ 5 → q = r := by
    intro h5
    dsimp only [q, r]
    rw [hb, hk]
    by_cases h1 : op = 1
    · rw [h1]
      rfl
    · exact (if_neg h1).trans (s.range_pfCommand len (by omega))
  clear_value u v b k q
  subst hv hb hk
  rw [if_neg (by simp; omega)]
  by_cases h5 : op = 5
  · subst h5
    rw [if_neg (by simp [pfStatus]), if_neg (by simp [pfStatus, pfProgram]), if_neg (by omega), if_neg (by omega)]
  · rw [hq h5, hsize]
    have hlong : (op != Machine.pfRead && op != pfStatus && decide (r.1 < 65536)) = true ↔ 2 ≤ op ∧ op ≤ 4 ∧ r.1 < 0x10000 := by
      simp [Machine.pfRead, pfStatus]
      omega
    have hfar : (op = pfProgram && decide (256 < a % 256 + len + 1) || op != pfStatus && decide
      (2 ^ s.rfld rSpimCfg 16 5 < r.1 + r.2)) = true ↔
        (op = 2 ∧ 256 < a % 256 + (len + 1)) ∨ (op ≠ 5 ∧ 2 ^ s.rfld rSpimCfg 16 5 < r.1 + r.2) := by
      rw [Bool.or_eq_true, Bool.and_eq_true, Bool.and_eq_true, decide_eq_true_iff, decide_eq_true_iff, decide_eq_true_iff,
        bne_iff_ne, Nat.add_assoc]
      exact Iff.rfl
    exact ite_congr (propext hlong) (fun _ => rfl) fun _ => ite_congr (propext hfar) (fun _ => rfl) fun _ => rfl

/-- The bytes of the flash once an erase or a program of the PF has been issued. -/
theorem State.flashByte_pfCommand (s t : State) {op : Nat} (len : Nat) (hop : 2 ≤ op ∧ op ≤ 4)
    (hlo : ¬(pfSpan op (s.rfld rSpimPfAddr 0 26) (len + 1)).1 < 0x10000) (i : Nat) :
    let a := s.rfld rSpimPfAddr 0 26
    let r := pfSpan op a (len + 1)
    (t.spimIssue (s.pfCommand op len)).flashByte i = if r.1 ≤ i ∧ i < r.1 + r.2 then
      (if op = 2 then t.flashByte i &&& (s.reg (rSpimPfBuf ((i - a) / 4))).extractLsb' (8 * ((i - a) % 4)) 8 else 0xFF)
      else t.flashByte i := by
  intro a r
  by_cases h2 : op = 2
  · subst h2
    refine (State.flashByte_spimIssue_program t rfl (Nat.not_lt.mp hlo) i).trans ?_
    have hlen : (s.pfCommand 2 len).data.length = len + 1 := pfBuf_length s (len + 1)
    rw [hlen]
    refine ite_congr rfl (fun h => ?_) fun _ => rfl
    have hdata : (s.pfCommand 2 len).data.getD (i - a) 0xFF =
        (s.reg (rSpimPfBuf ((i - a) / 4))).extractLsb' (8 * ((i - a) % 4)) 8 := by
      have hi : i - a < len + 1 := by
        obtain ⟨hle, hlt⟩ : a ≤ i ∧ i < a + (len + 1) := h
        omega
      change (s.pfBuf (len + 1)).getD (i - a) 0xFF = _
      simp [State.pfBuf, List.getD_eq_getElem?_getD, hi]
    rw [if_pos rfl, BitVec.and_comm]
    exact congrArg (t.flashByte i &&& ·) hdata
  · have hr : (s.pfCommand op len).range = r := s.range_pfCommand len hop
    refine (State.flashByte_spimIssue_erase t (by unfold pfErase4 pfErase64; change op = 3 ∨ op = 4; omega)
      (by rw [hr]; exact Nat.not_lt.mp hlo) i).trans ?_
    rw [hr, if_neg h2]

/-- The commands of the PF interface and their operation codes. -/
theorem exec_flashCommand {s : State} {len : Fin 256} {c : Instr} {op : Nat}
    (h : (c = .flashRead len ∧ op = 1) ∨ (c = .flashProgram len ∧ op = 2) ∨
    (c = .erase4k ∧ op = 3 ∧ s.rfld rSpimPfCmd 8 8 = len.val) ∨
      (c = .erase64k ∧ op = 4 ∧ s.rfld rSpimPfCmd 8 8 = len.val) ∨
        (c = .flashStatus ∧ op = 5 ∧ s.rfld rSpimPfCmd 8 8 = len.val)) :
    exec c s = .next (s.pfGo op len.val) ∧ 1 ≤ op ∧ op ≤ 5 := by
  obtain ⟨rfl, rfl⟩ | ⟨rfl, rfl⟩ | ⟨rfl, rfl, hlen⟩ | ⟨rfl, rfl, hlen⟩ | ⟨rfl, rfl, hlen⟩ := h
  · exact ⟨rfl, by decide, by decide⟩
  · exact ⟨rfl, by decide, by decide⟩
  · exact ⟨by rw [← hlen]; rfl, by decide, by decide⟩
  · exact ⟨by rw [← hlen]; rfl, by decide, by decide⟩
  · exact ⟨by rw [← hlen]; rfl, by decide, by decide⟩

/-- A command of the PF put to the controller: BUSY stays, and the command is issued or queued. -/
theorem State.spimReq_pfCommand (s : State) (op len : Nat) :
    let t := (s.pfTaken op len).spimReq (s.pfCommand op len)
    (t.rbit rSpimPfCmd 31 = true ∧ t.rfld rSpimPfCmd 24 4 = 0) ∧
    (s.spim.cmd = none → s.spim.held = none → s.spim.poll = false → s.spim.queue = [] →
      t = (s.pfTaken op len).spimIssue (s.pfCommand op len)) ∧
    (s.spim.cmd.isSome = true ∨ s.spim.held.isSome = true ∨ s.spim.poll = true → t.boot = s.boot ∧
      t.spim = { s.spim with queue := s.spim.queue ++ [s.pfCommand op len] }) := by
  intro t
  have hspim : (s.pfTaken op len).spim = s.spim := rfl
  have hboot : (s.pfTaken op len).boot = s.boot := rfl
  obtain ⟨hbusy, hcode⟩ := s.pfTaken_cmd op len
  have hreg : t.reg rSpimPfCmd = (s.pfTaken op len).reg rSpimPfCmd :=
    (State.spimReq_frame _ _).1 _ (by decide) (by decide)
  refine ⟨⟨(congrArg (bit · 31) hreg).trans hbusy, (congrArg (fld · 24 4) hreg).trans hcode⟩, ?_, ?_⟩
  · intro hcmd hheld hpoll hq
    refine State.spimReq_free (s := s.pfTaken op len) ?_ (by rw [hspim, hq]) _
    rw [State.spimFree, hspim, hcmd, hheld, hpoll]
    rfl
  · intro h
    have hfree : (s.pfTaken op len).spimFree = false := by
      rw [State.spimFree, hspim]
      obtain h | h | h := h
      · rw [← Option.not_isSome, h]; rfl
      · rw [← Option.not_isSome s.spim.held, h, Bool.not_true, Bool.and_false, Bool.false_and]
      · rw [h, Bool.not_true, Bool.and_false]
    have ht : t = (s.pfTaken op len).modSpim fun x => { x with queue := x.queue ++ [s.pfCommand op len] } :=
      State.spimReq_busy hfree _
    rw [ht, State.modSpim, hspim]
    exact ⟨hboot, rfl⟩

/-- Settles O51. -/
theorem flashCommands : Obligations.FlashCommands := by
  intro s len c op hc a n lo size byte ends
  obtain ⟨hexec, hop⟩ := exec_flashCommand hc
  have hspan : pfSpan op a n = (lo, size) := by
    dsimp only [lo, size, pfSpan]
    split
    · rfl
    · split <;> rfl
  have hgo := fun h => State.pfGo_idle (s := s) h hop len.val
  refine ⟨fun h => hexec.trans (congrArg _ (State.pfGo_busy h _ _)), fun h => ?_⟩
  replace hgo := hgo h
  dsimp only at hgo
  rw [show pfSpan op (s.rfld rSpimPfAddr 0 26) (len.val + 1) = (lo, size) from hspan] at hgo
  have hend {code : Nat} (hcode : code < 16) (ht : s.pfGo op len.val = (s.pfTaken op len.val).pfEnd code) : ends code := by
    obtain ⟨h1, h2, h3, h4⟩ := (s.pfTaken op len.val).pfEnd_fields hcode
    exact ⟨_, hexec.trans (congrArg _ ht), h1, h2, h3, h4⟩
  split
  case isTrue hprot => exact hend (by decide) (hgo.trans (if_pos hprot))
  rename_i hprot
  rw [if_neg hprot] at hgo
  split
  case isTrue hfar => exact hend (by decide) (hgo.trans (if_pos hfar))
  rename_i hfar
  rw [if_neg hfar] at hgo
  obtain ⟨⟨hbusy, hcode⟩, hissue, hqueue⟩ := s.spimReq_pfCommand op len.val
  rw [← hgo] at hbusy hcode hissue hqueue
  refine ⟨_, hexec, hbusy, hcode, fun hcmd hheld hpoll hq => ?_, fun hwait => ?_⟩
  · have ht := hissue hcmd hheld hpoll hq
    obtain ⟨-, hstat, cache, hspim⟩ := State.spimIssue_frame (s.pfTaken op len.val) (s.pfCommand op len.val)
    rw [ht]
    refine ⟨{ s.pfCommand op len.val with at' := s.now }, by rw [hspim]; rfl, rfl, rfl, rfl, rfl, rfl, hstat, ?_, ?_⟩
    · intro hread
      exact State.spimIssue_boot _ hread
    · intro h2 h4 i
      have hbytes := s.flashByte_pfCommand (s.pfTaken op len.val) len.val ⟨h2, h4⟩
        (by rw [show pfSpan op (s.rfld rSpimPfAddr 0 26) (len.val + 1) = (lo, size) from hspan]; exact fun hlo => hprot ⟨h2, h4, hlo⟩) i
      dsimp only at hbytes
      rw [show pfSpan op (s.rfld rSpimPfAddr 0 26) (len.val + 1) = (lo, size) from hspan] at hbytes
      exact hbytes
  · obtain ⟨hboot, hspim⟩ := hqueue hwait
    refine ⟨hboot, by rw [hspim], s.pfCommand op len.val, by rw [hspim], rfl, rfl, rfl, rfl⟩

/-! ### Waiting reads (R641) -/

/-- A window read of a free controller is served: it changes the cache and its counters, and waits for nothing. -/
theorem State.windowServe_frame {s : State} (hfree : s.spimFree = true) (a : Nat) :
    sameButFlash s (s.windowServe a) ∧ (s.windowServe a).boot = s.boot ∧
      ∃ cache b, (s.windowServe a).spim = { s.spim with cache := cache, kData := b } := by
  cases hp : (s.cacheSet (a / 64 % 256)).find? fun p => p.1 == a / 16384 with
  | some p =>
    have hserve : s.windowServe a =
        (s.setCacheSet (a / 64 % 256) (p :: (s.cacheSet (a / 64 % 256)).filter fun q => q.1 != p.1)).modSpim
          fun x => { x with kData := p.2.getD (a % 64) 0 } := by
      simp only [State.windowServe, State.cacheHit, hp]
    rw [hserve]
    exact ⟨sameButFlash_of_regs rfl, rfl, _, _, rfl⟩
  | none =>
    have hserve : s.windowServe a = (s.cacheFill a).2.modSpim fun x => { x with kData := (s.cacheFill a).1 } := by
      simp only [State.windowServe, State.cacheHit_none hp, hfree, if_true]
    rw [hserve]
    exact ⟨sameButFlash_of_reg fun _ ho => State.reg_setFld_other _ _ _ _ ho, rfl, _, _, rfl⟩

theorem State.spimFree_of {s t : State} {cache : SMap (List (Nat × List Byte))} {b : Byte}
    (h : t.spim = { s.spim with cache := cache, kData := b }) : t.spimFree = s.spimFree := by
  rw [State.spimFree, h]
  rfl

/-- The same of a list of reads. -/
theorem State.windowServe_all (l : List Nat) {s : State} (hfree : s.spimFree = true) :
    sameButFlash s (l.foldl State.windowServe s) ∧ (l.foldl State.windowServe s).boot = s.boot ∧
      ∃ cache b, (l.foldl State.windowServe s).spim = { s.spim with cache := cache, kData := b } := by
  induction l generalizing s with
  | nil => exact ⟨sameButFlash_of_regs rfl, rfl, s.spim.cache, s.spim.kData, rfl⟩
  | cons a l ih =>
    obtain ⟨hsame, hboot, cache, b, hspim⟩ := State.windowServe_frame hfree a
    obtain ⟨hsame', hboot', cache', b', hspim'⟩ := ih ((State.spimFree_of hspim).trans hfree)
    exact ⟨hsame.trans hsame', hboot'.trans hboot, cache', b', by rw [List.foldl_cons, hspim', hspim]⟩

/-- The flash is ready again: the waiting reads are served, and an empty queue leaves the controller idle. -/
theorem State.spimAfter_frame {s : State} (hfree : s.spimFree = true) :
    sameButFlash s s.spimAfter ∧ s.spimAfter.spim.reads = [] ∧ s.spimAfter.spim.poll = s.spim.poll ∧
      (s.spim.queue = [] → s.spimAfter.spim.cmd = none ∧ s.spimAfter.rbit rSpimStat 0 = false ∧ s.spimAfter.boot = s.boot) := by
  unfold State.spimAfter
  extract_lets rs u
  have hfreeU : u.spimFree = true := hfree
  have hsameU : sameButFlash s u := sameButFlash_of_regs rfl
  have hspimU : u.spim = { s.spim with reads := [] } := rfl
  have hbootU : u.boot = s.boot := rfl
  clear_value u
  obtain ⟨hsame, hboot, cache, b, hspim⟩ := State.windowServe_all rs hfreeU
  have hfreeV := (State.spimFree_of hspim).trans hfreeU
  generalize rs.foldl State.windowServe u = v at *
  obtain ⟨hnext, hreads, hpoll, -⟩ := v.spimNext_frame
  refine ⟨(hsameU.trans hsame).trans hnext, by rw [hreads, hspim, hspimU], by rw [hpoll, hspim, hspimU], fun hq => ?_⟩
  have hqV : v.spim.queue = [] := by rw [hspim, hspimU]; exact hq
  have hcmd : v.spim.cmd = none := by
    have := hfreeV
    simp only [State.spimFree, Bool.and_eq_true, Option.isNone_iff_eq_none] at this
    exact this.1.1
  rw [State.spimNext_empty hfreeV hqV]
  exact ⟨hcmd, State.rbit_setBit_same _ _ _ _ (by decide), hboot.trans hbootU⟩

/-! ### The end of a command (R645) -/

/-- Bytes that an unaligned field write leaves in another byte of the buffer. -/
theorem State.rfld_pfBuf_setFld (s : State) (i j v : Nat) :
    (s.setFld (rSpimPfBuf (i / 4)) (8 * (i % 4)) 8 v).rfld (rSpimPfBuf (j / 4)) (8 * (j % 4)) 8 =
      if j = i then v % 256 else s.rfld (rSpimPfBuf (j / 4)) (8 * (j % 4)) 8 := by
  by_cases h : j = i
  · subst h
    rw [if_pos rfl]
    exact State.rfld_setFld_same _ _ _ _ _ (by omega)
  · rw [if_neg h]
    refine State.rfld_setFld_other _ _ ?_
    by_cases hw : j / 4 = i / 4
    · right
      omega
    · left
      unfold rSpimPfBuf
      omega

theorem State.rfld_pfBuf_foldl (d : List Byte) (n j : Nat) (s : State) :
    ((d.zipIdx n).foldl (fun s p => s.setFld (rSpimPfBuf (p.2 / 4)) (8 * (p.2 % 4)) 8 p.1.toNat) s).rfld
        (rSpimPfBuf (j / 4)) (8 * (j % 4)) 8 =
      if n ≤ j ∧ j < n + d.length then (d.getD (j - n) 0).toNat else s.rfld (rSpimPfBuf (j / 4)) (8 * (j % 4)) 8 := by
  induction d generalizing n s with
  | nil =>
    rw [List.zipIdx_nil, List.foldl_nil, List.length_nil, if_neg (by omega)]
  | cons b d ih =>
    rw [List.zipIdx_cons, List.foldl_cons, ih, State.rfld_pfBuf_setFld, List.length_cons]
    rcases Nat.lt_trichotomy j n with hj | rfl | hj
    · rw [if_neg (by omega), if_neg (by omega), if_neg (by omega)]
    · rw [if_neg (by omega), if_pos rfl, if_pos (by omega), Nat.sub_self]
      exact Nat.mod_eq_of_lt b.isLt
    · rw [if_neg (by omega : j ≠ n), show j - n = j - (n + 1) + 1 by omega, List.getD_cons_succ]
      exact ite_congr (propext (by omega)) (fun _ => rfl) fun _ => rfl

/-- The buffer shows the bytes last put there. -/
theorem State.pfBuf_setPfBuf (s : State) (d : List Byte) : (s.setPfBuf d).pfBuf d.length = d := by
  refine List.ext_getElem (pfBuf_length _ _) fun j hj hd => ?_
  have hbyte : ((s.setPfBuf d).reg (rSpimPfBuf (j / 4))).extractLsb' (8 * (j % 4)) 8 = d[j] := by
    apply BitVec.eq_of_toNat_eq
    have h := State.rfld_pfBuf_foldl d 0 j s
    rw [if_pos ⟨Nat.zero_le _, by omega⟩, Nat.sub_zero, ← List.getElem_eq_getD (h := hd)] at h
    rw [BitVec.extractLsb'_toNat, Nat.shiftRight_eq_div_pow]
    exact h
  simpa [State.pfBuf] using hbyte

theorem State.reg_setPfBuf (s : State) (d : List Byte) {o : Nat} (ho : o < 0x100100) : (s.setPfBuf d).reg o = s.reg o :=
  foldl_keeps _ _ (fun u => u.reg o) (fun p u => State.reg_setFld_other _ _ _ _ (by unfold rSpimPfBuf; omega)) s

theorem State.setPfBuf_fields (s : State) (d : List Byte) : (s.setPfBuf d).boot = s.boot ∧ (s.setPfBuf d).spim = s.spim :=
  have hkept : Kept { regs := true } s (s.setPfBuf d) := State.setPfBuf_kept rfl (Kept.refl s)
  ⟨hkept.boot rfl, hkept.spim rfl⟩

/-- What the PF finds in its buffer at the end of a command. -/
def State.pfResult (s : State) (k : FlashCmd) (st : Byte) : State :=
  if k.op = Machine.pfRead then s.setPfBuf (s.flashRead k.addr k.len) else if k.op = pfStatus then s.setPfBuf [st] else s

theorem State.pfResult_fields (s : State) (k : FlashCmd) (st : Byte) : (s.pfResult k st).boot = s.boot ∧
    (s.pfResult k st).spim = s.spim ∧ (∀ o, o < 0x100100 → (s.pfResult k st).reg o = s.reg o) ∧
    (k.op = 1 → (s.pfResult k st).pfBuf k.len = s.flashRead k.addr k.len) ∧ (k.op = 5 → (s.pfResult k st).pfBuf 1 = [st]) := by
  unfold State.pfResult
  split
  next h =>
    obtain ⟨hboot, hspim⟩ := s.setPfBuf_fields (s.flashRead k.addr k.len)
    have hlen : (s.flashRead k.addr k.len).length = k.len := by rw [State.flashRead, List.length_map, List.length_range]
    have hbuf := s.pfBuf_setPfBuf (s.flashRead k.addr k.len)
    rw [hlen] at hbuf
    exact ⟨hboot, hspim, fun _ ho => State.reg_setPfBuf _ _ ho, fun _ => hbuf, fun h5 => absurd (h5.symm.trans h) (by decide)⟩
  next h1 =>
    split
    next h =>
      obtain ⟨hboot, hspim⟩ := s.setPfBuf_fields [st]
      exact ⟨hboot, hspim, fun _ ho => State.reg_setPfBuf _ _ ho, fun h' => absurd h' h1, fun _ => s.pfBuf_setPfBuf [st]⟩
    next h5 => exact ⟨rfl, rfl, fun _ _ => rfl, fun h' => absurd h' h1, fun h' => absurd h' h5⟩

/-- A command of the PF ends: its status, and what it read, stand in the registers. -/
theorem State.cmdEnds_pf {s : State} {k : FlashCmd} (hwho : k.who = 3) (hop : 1 ≤ k.op ∧ k.op ≤ 5) {status : Nat}
    (hst : status < 4)
    (st : Byte) : let t := s.cmdEnds k status st
    t.rfld rSpimPfCmd 24 4 = status ∧ t.rbit rSpimPfCmd 31 = false ∧ t.boot = s.boot ∧ t.spim = { s.spim with cmd := none } ∧
      (∀ b, b ≠ 1 → t.rbit rSpimStat b = s.rbit rSpimStat b) ∧
      (k.op = 1 → t.pfBuf k.len = s.flashRead k.addr k.len) ∧ (k.op = 5 → t.pfBuf 1 = [st]) := by
  intro t
  obtain ⟨v, ht⟩ : ∃ v, t = (((s.modSpim fun x => { x with cmd := none }).setBit rSpimStat 1 v).pfResult k st).pfEnd status := by
    have hslot : k.op ≠ slotWrite := by unfold slotWrite; omega
    refine ⟨if k.op = pfStatus then bit st 0 else status == 2, ?_⟩
    dsimp only [t]
    unfold State.cmdEnds
    extract_lets u w z
    rw [if_neg hslot, if_pos hwho]
    have hw : w = u.setBit rSpimStat 1 (if k.op = pfStatus then bit st 0 else status == 2) := by
      dsimp only [w]
      split <;> rfl
    rw [← hw]
    rfl
  clear_value t
  subst ht
  generalize hu : (s.modSpim fun x => { x with cmd := none }).setBit rSpimStat 1 v = u
  have hbits (b : Nat) (hb : b ≠ 1) : u.rbit rSpimStat b = s.rbit rSpimStat b := by
    rw [← hu, State.rbit_setBit _ _ _ _ _ _ (by decide), if_neg (by omega)]
    rfl
  have hboot : u.boot = s.boot := by rw [← hu]; rfl
  have hspim : u.spim = { s.spim with cmd := none } := by rw [← hu]; rfl
  have hread : u.flashRead k.addr k.len = s.flashRead k.addr k.len := by
    unfold State.flashRead State.flashByte
    rw [hboot]
  clear hu
  obtain ⟨hboot', hspim', hreg', hbuf1, hbuf5⟩ := u.pfResult_fields k st
  generalize u.pfResult k st = w at *
  obtain ⟨hcode, hbusy, hboot'', hspim''⟩ := w.pfEnd_fields (st := status) (by omega)
  have hbuf (n : Nat) : (w.pfEnd status).pfBuf n = w.pfBuf n :=
    State.pfBuf_of_reg (fun j => State.reg_pfEnd _ _ (by unfold rSpimPfBuf rSpimPfCmd; omega)
      (by unfold rSpimPfBuf rSpimStat; omega)) n
  have hstat : (w.pfEnd status).reg rSpimStat = w.reg rSpimStat := by
    rw [State.pfEnd, if_neg (by omega), State.reg_setBit_other _ _ _ (by decide), State.reg_setFld_other _ _ _ _ (by decide)]
  refine ⟨hcode, hbusy, hboot''.trans (hboot'.trans hboot), hspim''.trans (hspim'.trans hspim), fun b hb => ?_,
    fun h => (hbuf _).trans ((hbuf1 h).trans hread), fun h => (hbuf _).trans (hbuf5 h)⟩
  exact (congrArg (bit · b) (hstat.trans (hreg' _ (by decide)))).trans (hbits b hb)

/-- A failed verification is remembered. -/
def State.verifyShown (s : State) (bad : Bool) : State := if bad then s.setBit rSpimStat 8 true else s

theorem exec_flashReady_cmd {s : State} {k : FlashCmd} (hheld : s.spim.held = none) (hcmd : s.spim.cmd = some k) (st : Byte) :
    let bad := k.op == pfProgram && s.rbit rSpimCfg 21 && !(s.verifyOk k)
    exec (.flashReady st) s = .next ((s.verifyShown bad).cmdEnds k (if bad then 3 else 0) st).spimAfter := by
  change execFlashReady st s = _
  unfold execFlashReady
  rw [hheld, hcmd]
  rfl

theorem flashReady_of_pf {s : State} {k : FlashCmd} (hheld : s.spim.held = none) (hpoll : s.spim.poll = false)
    (hcmd : s.spim.cmd = some k) (hwho : k.who = 3) (hop : 1 ≤ k.op ∧ k.op ≤ 5) (st : Byte) :
    let bad := k.op = 2 ∧ s.rbit rSpimCfg 21 = true ∧ s.verifyOk k = false
    ∃ t, exec (.flashReady st) s = .next t ∧ t.rfld rSpimPfCmd 24 4 = (if bad then 3 else 0) ∧ t.rbit rSpimPfCmd 31 = false ∧
      (bad → t.rbit rSpimStat 8 = true) ∧ t.spim.reads = [] ∧
      (s.spim.queue = [] → t.spim.cmd = none ∧ t.rbit rSpimStat 0 = false ∧ t.boot = s.boot) ∧
      (k.op = 1 → k.len ≤ 256 → t.pfBuf k.len = s.flashRead k.addr k.len) ∧ (k.op = 5 → t.pfBuf 1 = [st]) := by
  intro bad
  have hexec := exec_flashReady_cmd hheld hcmd st
  dsimp only at hexec
  have hbad : (k.op == pfProgram && s.rbit rSpimCfg 21 && !(s.verifyOk k)) = decide bad := by
    rw [Bool.eq_iff_iff]
    simp [bad, pfProgram, and_assoc]
  rw [hbad] at hexec
  have hstat : (if decide bad = true then 3 else 0 : Nat) = if bad then 3 else 0 := by simp only [decide_eq_true_eq]
  rw [hstat] at hexec
  generalize hw : s.verifyShown (decide bad) = w at hexec
  have hwspim : w.spim = s.spim := by rw [← hw, State.verifyShown]; split <;> rfl
  have hwboot : w.boot = s.boot := by rw [← hw, State.verifyShown]; split <;> rfl
  have hw8 : bad → w.rbit rSpimStat 8 = true := by
    intro h
    rw [← hw, State.verifyShown, if_pos (decide_eq_true h)]
    exact State.rbit_setBit_same _ _ _ _ (by decide)
  have hwread : w.flashRead k.addr k.len = s.flashRead k.addr k.len := by
    unfold State.flashRead State.flashByte
    rw [hwboot]
  clear hw
  obtain ⟨hcode, hbusy, hboot, hspim, hbits, hbuf1, hbuf5⟩ := State.cmdEnds_pf (s := w) hwho hop
    (status := if bad then 3 else 0) (by split <;> decide) st
  generalize w.cmdEnds k (if bad then 3 else 0) st = u at *
  rw [hwspim] at hspim
  have hfree : u.spimFree = true := by rw [State.spimFree, hspim, hheld, hpoll]; rfl
  obtain ⟨⟨hregs, hbits'⟩, hreads, -, hempty⟩ := State.spimAfter_frame hfree
  have hpf := hregs rSpimPfCmd (by decide) (by decide)
  have hbuf (n : Nat) : u.spimAfter.pfBuf n = u.pfBuf n := State.pfBuf_of_reg
    (fun j => hregs _ (by unfold rSpimPfBuf rSpimStat; omega) (by unfold rSpimPfBuf rSpimCache; omega)) n
  refine ⟨_, hexec, (congrArg (fld · 24 4) hpf).trans hcode, (congrArg (bit · 31) hpf).trans hbusy, fun h => ?_, hreads,
    fun hq => ?_,
    fun h _ => (hbuf _).trans ((hbuf1 h).trans hwread), fun h => (hbuf _).trans (hbuf5 h)⟩
  · exact (hbits' 8 (by decide) (by decide)).trans ((hbits 8 (by decide)).trans (hw8 h))
  · obtain ⟨h1, h2, h3⟩ := hempty (by rw [hspim]; exact hq)
    exact ⟨h1, h2, h3.trans (hboot.trans hwboot)⟩

/-- The status of a flash that has been polled shows that it is ready. -/
theorem flashReady_of_polled {s : State} (hheld : s.spim.held = none) (hcmd : s.spim.cmd = none) (st : Byte) :
    ∃ t, exec (.flashReady st) s = .next t ∧ t.spim.poll = false ∧ t.spim.reads = [] := by
  have hexec : exec (.flashReady st) s =
      .next ((s.modSpim fun x => { x with poll := false }).setBit rSpimStat 1 false).spimAfter := by
    change execFlashReady st s = _
    unfold execFlashReady
    rw [hheld, hcmd]
    rfl
  generalize hu : (s.modSpim fun x => { x with poll := false }).setBit rSpimStat 1 false = u at hexec
  have hspim : u.spim = { s.spim with poll := false } := by rw [← hu]; rfl
  have hfree : u.spimFree = true := by rw [State.spimFree, hspim, hheld, hcmd]; rfl
  obtain ⟨-, hreads, hpoll, -⟩ := State.spimAfter_frame hfree
  exact ⟨_, hexec, hpoll.trans (by rw [hspim]), hreads⟩

/-- The limit of a program or an erase, in milliseconds. -/
def State.flashLimit (s : State) (k : FlashCmd) : Nat :=
  max 1 (if k.op = 2 then s.rfld rSpimTmo 0 8 else s.rfld rSpimTmo 8 12)

theorem exec_flashTimeout_cmd {s : State} {k : FlashCmd} (hcmd : s.spim.cmd = some k) : exec .flashTimeout s = .next
    (if k.op = 1 ∨ k.op = 5 ∨ s.now < k.at' + 1228800 * s.flashLimit k then s
    else ((s.setBit rSpimStat 9 true).cmdEnds k 2 0).modSpim fun x => { x with poll := true }) := by
  change execFlashTimeout s = _
  unfold execFlashTimeout
  rw [hcmd]
  refine congrArg Host.Outcome.next (ite_congr (propext ?_) (fun _ => rfl) fun _ => rfl)
  rw [Bool.or_eq_true, Bool.or_eq_true, decide_eq_true_iff, decide_eq_true_iff, decide_eq_true_iff, or_assoc]
  exact Iff.rfl

theorem flashTimeout_of_late {s : State} {k : FlashCmd} (hcmd : s.spim.cmd = some k) (hwho : k.who = 3)
    (hop : 2 ≤ k.op ∧ k.op ≤ 4)
    (hlate : k.at' + 1228800 * s.flashLimit k ≤ s.now) : ∃ t, exec .flashTimeout s = .next t ∧ t.rbit rSpimStat 9 = true ∧
      t.rfld rSpimPfCmd 24 4 = 2 ∧ t.rbit rSpimPfCmd 31 = false ∧ t.spim.poll = true ∧ t.spim.cmd = none ∧ t.boot = s.boot := by
  have hexec := exec_flashTimeout_cmd hcmd
  rw [if_neg (by omega)] at hexec
  obtain ⟨hcode, hbusy, hboot, hspim, hbits, -, -⟩ := State.cmdEnds_pf (s := s.setBit rSpimStat 9 true) hwho
    (by omega) (status := 2) (by decide) 0
  have h9 := (hbits 9 (by decide)).trans (State.rbit_setBit_same s _ _ _ (by decide))
  replace hboot : _ = s.boot := hboot
  generalize (s.setBit rSpimStat 9 true).cmdEnds k 2 0 = u at *
  exact ⟨_, hexec, h9, hcode, hbusy, rfl, congrArg SpimState.cmd hspim, hboot⟩

/-- The controller takes requests again. -/
theorem spimRelease_of_due {s : State} {r : Nat} (hheld : s.spim.held = some r) (hdue : r + 12288 ≤ s.now) :
    ∃ t, exec .spimRelease s = .next t ∧ t.spim.held = none ∧ t.spim.poll = s.spim.poll ∧
      (s.spim.cmd = none → s.spim.poll = false → s.spim.queue ≠ [] → t.spim.cmd.isSome = true) := by
  have hexec : exec .spimRelease s = .next (s.modSpim fun x => { x with held := none }).spimNext := by
    change execSpimRelease s = _
    unfold execSpimRelease
    rw [hheld]
    exact congrArg Host.Outcome.next (if_pos hdue)
  generalize hu : (s.modSpim fun x => { x with held := none }) = u at hexec
  have hspim : u.spim = { s.spim with held := none } := by rw [← hu]; rfl
  obtain ⟨-, -, hpoll, hheld'⟩ := u.spimNext_frame
  refine ⟨_, hexec, hheld'.trans (by rw [hspim]), hpoll.trans (by rw [hspim]), fun hcmd hp hq => ?_⟩
  obtain ⟨k, hk⟩ := State.spimNext_issue (s := u) (by rw [State.spimFree, hspim, hcmd, hp]; rfl) (by rw [hspim]; exact hq)
  obtain ⟨-, -, cache, hissue⟩ := State.spimIssue_frame (u.modSpim fun x => { x with queue := x.queue.erase k }) k
  rw [hk, hissue]
  rfl

/-- Settles O52. -/
theorem flashEnds : Obligations.FlashEnds := by
  intro s st
  refine ⟨fun h => ?_, fun hheld hcmd => flashReady_of_polled hheld hcmd st, fun k hheld hpoll hcmd hwho h1 h5 =>
    flashReady_of_pf hheld hpoll hcmd hwho ⟨h1, h5⟩ st, fun h => ?_, fun k hcmd hwho => ⟨fun h => ?_, fun h2 h4 hlate =>
    flashTimeout_of_late hcmd hwho ⟨h2, h4⟩ hlate⟩, fun h => ?_, fun r hheld => ⟨fun h => ?_, spimRelease_of_due hheld⟩⟩
  · exact congrArg Host.Outcome.next (if_pos h)
  · change execFlashTimeout s = _
    unfold execFlashTimeout
    rw [h]
  · exact (exec_flashTimeout_cmd hcmd).trans (congrArg _ (if_pos h))
  · change execSpimRelease s = _
    unfold execSpimRelease
    rw [h]
  · change execSpimRelease s = _
    unfold execSpimRelease
    rw [hheld]
    exact congrArg Host.Outcome.next (if_neg (by omega))

end Sys2Proof.Machine

/-! O55: the mailbox of the SPI slave (R650, R651, R655). A mailbox opcode is a request of the slave that Keeper or the ROM
serves; while the mailbox is busy it is answered BUSY, else its own work replies or leaves the reply to the flash. -/

namespace Sys2Proof.Machine

/-! ### A mailbox request -/

theorem State.mbxReq_served {s : State} (h : s.mbxServed = true) (m3 : Bool) (op : Nat) (alive : BitVec 4) (addr : BitVec 32)
    (data : List Byte) (f : State → State) : s.mbxReq m3 op alive addr data f = s.spisReq m3 op alive addr data fun s =>
      if s.mbxBusy then s.spisAnswer op alive.toNat 3 (if op = 0x13 then (s.reg rBootMbxStat).toNat else 0) else f s :=
  if_pos h

/-- A mailbox request that nothing serves, or that a slave without power or enable receives, does nothing. -/
theorem State.mbxReq_none {s : State} (h : s.mbxServed = false ∨ s.spisOn = false) (m3 : Bool) (op : Nat) (alive : BitVec 4)
    (addr : BitVec 32) (data : List Byte) (f : State → State) : s.mbxReq m3 op alive addr data f = s := by
  by_cases hs : s.mbxServed = true
  · rw [State.mbxReq_served hs]
    exact State.spisReq_off _ _ _ _ _ _ (h.resolve_left (by simp [hs]))
  · exact if_neg hs

theorem State.mbxBusy_taking (s : State) (m3 : Bool) (key : Nat × Nat) : (s.taking m3 key).mbxBusy = s.mbxBusy := by
  simp only [State.mbxBusy, s.rbit_taking_other m3 key (show rBootMbxStat ≠ rSpisStat by decide),
    s.rbit_taking_other m3 key (show rBootUpd ≠ rSpisStat by decide),
      s.rbit_taking_other m3 key (show rSpisCtrl ≠ rSpisStat by decide)]

theorem State.mbxBusy_iff (s : State) :
    s.mbxBusy = true ↔ s.rbit rBootMbxStat 0 = true ∨ s.rbit rBootUpd 0 = true ∨ s.rbit rSpisCtrl 1 = false := by
  simp [State.mbxBusy, or_assoc]

/-- A request that a served slave, with no earlier request, receives. -/
def State.mbxReady (s : State) : Prop := s.mbxServed = true ∧ s.spisOn = true ∧ s.spis.busy = none ∧ s.spis.last = none

/-- What the statement says of a reply. -/
theorem State.Replies.held {s : State} {c : Instr} {m3 : Bool} {alive : BitVec 4} {op result data : Nat}
    (h : s.Replies c m3 alive op result data) : ∃ t, exec c s = .next t ∧
      (∃ flags, t.spis.reply = some (op, flags, result, data) ∧ flags % 16 = alive.toNat) ∧ t.spis.unread = true ∧
      t.spis.busy = none := by
  obtain ⟨t, hexec, hreply, hunread, -, -, hbusy, -⟩ := h
  refine ⟨t, hexec, ⟨_, hreply, ?_⟩, hunread, hbusy⟩
  have := alive.isLt
  unfold SpisState.flags
  repeat' split
  all_goals omega

section Ready
variable {s : State} {m3 : Bool} {op : Nat} {alive : BitVec 4} {addr : BitVec 32} {data : List Byte} {f : State → State} {c : Instr}
  (hready : s.mbxReady) (hexec : exec c s = .next (s.mbxReq m3 op alive addr data f))
include hready hexec

theorem replies_mbx_busy (hbusy : s.mbxBusy = true) :
    s.Replies c m3 alive op 3 (if op = 0x13 then (s.reg rBootMbxStat).toNat else 0) := by
  obtain ⟨hserved, hon, hfree, hlast⟩ := hready
  rw [State.mbxReq_served hserved] at hexec
  refine State.replies_of_answer hon hfree hlast hexec ?_
  rw [if_pos ((s.mbxBusy_taking _ _).trans hbusy), s.reg_taking_other _ _ (show rBootMbxStat ≠ rSpisStat by decide)]

/-- A request that is not answered BUSY does its work on the state in which it was taken. -/
theorem exec_mbx_idle (hidle : s.mbxBusy = false) : exec c s = .next (f (s.taking m3 (requestKey op alive addr data))) := by
  obtain ⟨hserved, hon, hfree, hlast⟩ := hready
  rw [hexec, State.mbxReq_served hserved, State.spisReq_first _ _ _ _ _ _ hon hfree hlast, State.mbxBusy_taking, hidle]
  rfl

theorem replies_mbx_idle (hidle : s.mbxBusy = false) {result d : Nat}
    (hwork : f (s.taking m3 (requestKey op alive addr data)) =
      (s.taking m3 (requestKey op alive addr data)).spisAnswer op alive.toNat result d) : s.Replies c m3 alive op result d := by
  obtain ⟨hserved, hon, hfree, hlast⟩ := hready
  rw [State.mbxReq_served hserved] at hexec
  refine State.replies_of_answer hon hfree hlast hexec ?_
  rw [s.mbxBusy_taking, hidle]
  exact hwork

/-- A request whose reply the flash will give: the command is issued to a free controller and waits for a busy one. -/
theorem starts_mbx_idle (hidle : s.mbxBusy = false) {k : FlashCmd}
    (hwork : f (s.taking m3 (requestKey op alive addr data)) =
      (s.taking m3 (requestKey op alive addr data)).mbxFlash op alive k) :
    ∃ t, exec c s = .next t ∧ t.spis.busy = some (op, alive.toNat) ∧ t.spis.reply = s.spis.reply ∧
      (s.spimFree = true → s.spim.queue = [] → t.spim.cmd = some { k with at' := s.now }) ∧
      (s.spimFree = false → t.spim.queue = s.spim.queue ++ [k] ∧ t.boot = s.boot) := by
  have ht := exec_mbx_idle hready hexec hidle
  rw [hwork] at ht
  unfold State.mbxFlash at ht
  generalize hu : (s.taking m3 (requestKey op alive addr data)).modSpis
    (fun x => { x with busy := some (op, alive.toNat) }) = u at ht
  have hspim : u.spim = s.spim := by rw [← hu]; rfl
  have hboot : u.boot = s.boot := by rw [← hu]; rfl
  have hnow : u.now = s.now := by rw [← hu]; rfl
  have hspis : (u.spimReq k).spis = u.spis :=
    (State.spimReq_kept (M := { regs := true, boot := true, spim := true, flash := true }) rfl rfl rfl rfl (Kept.refl u)).spis rfl
  refine ⟨_, ht, ?_, ?_, fun hfree hq => ?_, fun hwait => ?_⟩
  · rw [hspis, ← hu]
    rfl
  · rw [hspis, ← hu]
    rfl
  · obtain ⟨-, -, cache, hissue⟩ := u.spimIssue_frame k
    rw [State.spimReq_free (by rw [State.spimFree, hspim]; exact hfree) (by rw [hspim]; exact hq), hissue, hnow]
  · rw [State.spimReq_busy (by rw [State.spimFree, hspim]; exact hwait), State.modSpim, hspim]
    exact ⟨rfl, hboot⟩

end Ready

/-! ### The opcodes -/

section Opcodes
variable {s : State} {m3 : Bool} {alive : BitVec 4} {addr : BitVec 32}

theorem exec_mbxWr {data : List (BitVec 8)} (hok : data ≠ [] ∧ data.length ≤ 256) : exec (.mbxWr m3 alive addr data) s =
    .next (s.mbxReq m3 0x11 alive addr data fun s =>
      if addr.toNat % 256 ≠ 0 || 0x200000 ≤ addr.toNat then s.spisAnswer 0x11 alive.toNat 2 0
      else s.mbxFlash 0x11 alive
        { who := 4, op := pfProgram, addr := s.mbxSlot + addr.toNat, len := data.length, data := data
          mask := List.replicate data.length true }) :=
  congrArg Host.Outcome.next (if_neg (by simp [hok]))

/-- MBX_GO of an idle mailbox: the check of the bundle begins, and the reply is given at once. -/
theorem mbxGo_of_idle {len : BitVec 32} {fl : BitVec 8} (hready : s.mbxReady) (hidle : s.mbxBusy = false) :
    ∃ t, exec (.mbxGo m3 alive addr len fl) s = .next t ∧ (∃ flags, t.spis.reply = some (0x12, flags, 0, 0)) ∧
      t.rbit rBootMbxStat 0 = true ∧ t.rbit rBootMbxStat 1 = false ∧
      (t.boot.mbx.map fun m => (m.at', m.boot, m.write, m.spis, m.len)) = some (s.now, bit fl 0, bit fl 1, true, len.toNat) := by
  have hstat : s.rbit rBootMbxStat 0 = false := by
    exact Bool.eq_false_iff.mpr fun h => absurd (s.mbxBusy_iff.mpr (.inl h)) (by simp [hidle])
  refine ⟨_, exec_mbx_idle hready rfl hidle, ⟨_, rfl⟩, ?_⟩
  generalize hu : s.taking m3 (requestKey 0x12 alive addr (beBytes 4 len.toNat ++ [fl, 0, 0, 0])) = u
  have hnow : u.now = s.now := by rw [← hu]; rfl
  have hmbx : u.rbit rBootMbxStat 0 = false := by rw [← hu, State.rbit_taking_other _ _ _ (by decide), hstat]
  have hgo : u.mbxGo (bit fl 0) (bit fl 1) true len.toNat = ((u.setBit rBootMbxStat 0 true).setBit rBootMbxStat 1 false).modBoot
      fun x => { x with mbx := some { at' := u.now, ok := false, boot := bit fl 0, write := bit fl 1, spis := true, waits := true
                                      len := len.toNat, reason := 0x07, detail := 3 } } :=
    if_neg (by rw [hmbx]; decide)
  generalize hw : u.mbxGo (bit fl 0) (bit fl 1) true len.toNat = w at *
  have hreg : (w.spisAnswer 0x12 alive.toNat 0 0).reg rBootMbxStat = w.reg rBootMbxStat :=
    State.reg_spisAnswer_other _ _ _ _ _ (by decide)
  have hboot : (w.spisAnswer 0x12 alive.toNat 0 0).boot = w.boot :=
    (State.spisAnswer_kept (M := { regs := true, spis := true }) rfl rfl (Kept.refl w)).boot rfl
  have hbit (b : Nat) : w.rbit rBootMbxStat b =
    ((u.setBit rBootMbxStat 0 true).setBit rBootMbxStat 1 false).rbit rBootMbxStat b := by
    rw [hgo]
    rfl
  refine ⟨(congrArg (bit · 0) hreg).trans ((hbit 0).trans ?_), (congrArg (bit · 1) hreg).trans ((hbit 1).trans ?_), ?_⟩
  · rw [State.rbit_setBit _ _ _ _ _ _ (by decide), if_neg (by decide), State.rbit_setBit_same _ _ _ _ (by decide)]
  · exact State.rbit_setBit_same _ _ _ _ (by decide)
  · rw [hboot, hgo, ← hnow]
    rfl

end Opcodes

/-- Settles O55. -/
theorem slaveMailbox : Obligations.SlaveMailbox := by
  intro s m3 alive addr len fl data replied starts ok busy ready c0 c1 c2 c3
  have hexec0 : exec c0 s = .next (s.mbxReq m3 0x10 alive addr [] _) := rfl
  have hexec2 : exec c2 s = .next (s.mbxReq m3 0x12 alive addr (beBytes 4 len.toNat ++ [fl, 0, 0, 0]) _) := rfl
  have hexec3 : exec c3 s = .next (s.mbxReq m3 0x13 alive addr [] _) := rfl
  refine ⟨fun hready hb => ?_, fun hready hb => ?_, fun hoff c hc => ?_⟩
  · have hbusy := s.mbxBusy_iff.mpr hb
    exact ⟨(replies_mbx_busy hready hexec0 hbusy).held, fun hok => (replies_mbx_busy hready (exec_mbxWr hok) hbusy).held,
      (replies_mbx_busy hready hexec2 hbusy).held, (replies_mbx_busy hready hexec3 hbusy).held⟩
  · have hidle : s.mbxBusy = false := by simpa using mt s.mbxBusy_iff.mp hb
    refine ⟨starts_mbx_idle hready hexec0 hidle rfl, fun hok hal hin => ?_, fun hok hbad => ?_, mbxGo_of_idle hready hidle, ?_⟩
    · exact starts_mbx_idle hready (exec_mbxWr hok) hidle (if_neg (by simp; omega))
    · exact (replies_mbx_idle hready (exec_mbxWr hok) hidle (if_pos (by simpa using hbad))).held
    · refine (replies_mbx_idle hready hexec3 hidle ?_).held
      rw [s.reg_taking_other _ _ (show rBootMbxStat ≠ rSpisStat by decide)]
  · have hnone (op : Nat) (d : List Byte) (f : State → State) := State.mbxReq_none hoff m3 op alive addr d f
    obtain rfl | ⟨rfl, hok⟩ | rfl | rfl := hc
    · exact congrArg _ (hnone ..)
    · exact (exec_mbxWr hok).trans (congrArg _ (hnone ..))
    · exact congrArg _ (hnone ..)
    · exact congrArg _ (hnone ..)

end Sys2Proof.Machine

/-! O50: updates, fuses, the mailbox and debug requests (R602, R607, R612 to R629), and MINIMAL's path (R618). -/

namespace Sys2Proof.Machine

/-! ### What the requests look at -/

/-- The mode's code is read from the mode and three status registers (R661). -/
theorem State.modeCode_of {s t : State} (hmode : t.mode = s.mode) (htick : t.reg (rClkTickStat 0) = s.reg (rClkTickStat 0))
    (hplls : t.reg rClkPllsStat = s.reg rClkPllsStat) (hcap : t.reg rPwrCapStat = s.reg rPwrCapStat) :
    t.modeCode = s.modeCode := by
  have hhold : t.holdCond = s.holdCond := by simp only [State.holdCond, State.rfld, htick, hplls]
  have hcapped : t.capped = s.capped := by simp only [State.capped, State.rfld, hcap]
  unfold State.modeCode State.modeUnder
  rw [hmode, hhold, hcapped]

theorem State.quietMode_setFld (s : State) {a : Nat} (lo len v : Nat) (ha : a = rBootArb ∨ a = rBootOtpPgm) :
    (s.setFld a lo len v).quietMode = s.quietMode := by
  have hne (o : Nat) (ho : o < 0x030000 ∨ 0x040000 ≤ o) : (s.setFld a lo len v).reg o = s.reg o :=
    State.reg_setFld_other _ _ _ _ (by unfold rBootArb rBootOtpPgm at ha; omega)
  exact congrArg ([5, 6, 7].contains ·) (State.modeCode_of rfl (hne _ (by decide)) (hne _ (by decide)) (hne _ (by decide)))

theorem State.quietMode_setBit (s : State) {a : Nat} (k : Nat) (v : Bool) (ha : a = rBootArb ∨ a = rBootOtpPgm) :
    (s.setBit a k v).quietMode = s.quietMode := by
  have hne (o : Nat) (ho : o < 0x030000 ∨ 0x040000 ≤ o) : (s.setBit a k v).reg o = s.reg o :=
    State.reg_setBit_other _ _ _ (by unfold rBootArb rBootOtpPgm at ha; omega)
  exact congrArg ([5, 6, 7].contains ·) (State.modeCode_of rfl (hne _ (by decide)) (hne _ (by decide)) (hne _ (by decide)))

/-- Images are checked against the flash and the fuses only. -/
theorem State.bundleReason_of {s t : State} (h : t.boot = s.boot) (b : List Byte) : t.bundleReason b = s.bundleReason b := by
  have hval (u v : State) : u.bundleReason b = ({ v with boot := u.boot } : State).bundleReason b := rfl
  rw [hval t s, h]

theorem State.slotBundle_of {s t : State} (h : t.boot = s.boot) (k : Nat) : t.slotBundle k = s.slotBundle k := by
  have hval (u v : State) : u.slotBundle k = ({ v with boot := u.boot } : State).slotBundle k := rfl
  rw [hval t s, h]

theorem State.activeSlot_of {s t : State} (h : t.boot = s.boot) : t.activeSlot = s.activeSlot := by
  have hval (u v : State) : u.activeSlot = ({ v with boot := u.boot } : State).activeSlot := rfl
  rw [hval t s, h]

/-! ### Requests (R612, R615, R616, R624) -/

theorem exec_upd_busy {s : State} (h : s.rbit rBootUpd 0 = true) (slot : Fin 2) : exec (.upd slot) s = .next s :=
  congrArg Host.Outcome.next (if_pos h)

/-- An update passes if Keeper runs, the slot is the inactive one and its bundle verifies. -/
theorem exec_upd_idle {s : State} (h : s.rbit rBootUpd 0 = false) (slot : Fin 2) :
    ∃ t k, exec (.upd slot) s = .next t ∧ t.rbit rBootUpd 0 = true ∧ t.boot.upd = some k ∧ k.at' = s.now ∧
      k.ok = (s.keeperRuns && slot.val != s.activeSlot && (s.bundleReason (s.slotBundle slot)).isNone) := by
  have hexec : exec (.upd slot) s = .next (s.updGo slot.val) := rfl
  rw [hexec]
  unfold State.updGo
  rw [h, if_neg (by decide)]
  extract_lets u
  have hboot : u.boot = s.boot := rfl
  have hnow : u.now = s.now := rfl
  have hbit : u.rbit rBootUpd 0 = true := by
    unfold State.rbit
    rw [State.reg_setFld, if_pos rfl, bit_putFld_same _ _ _ _ _ (by decide) (by decide) (by decide)]
    rw [Nat.sub_self, Nat.testBit_zero]
    exact decide_eq_true (by omega)
  have hkeep : u.keeperRuns = s.keeperRuns := by
    have hrlf : u.rlf = s.rlf := congrArg (fld · 0 3) (State.reg_setFld_other _ _ _ _ (by decide))
    have hmode : u.mode = s.mode := rfl
    have hhalt : u.keep = s.keep := rfl
    simp only [State.keeperRuns, hrlf, hmode, hhalt]
  clear_value u
  rw [hkeep, State.activeSlot_of hboot, State.bundleReason_of hboot, State.slotBundle_of hboot]
  by_cases hno : (!s.keeperRuns || decide (slot.val = s.activeSlot)) = true
  · rw [if_pos hno]
    refine ⟨_, _, rfl, hbit, rfl, hnow, ?_⟩
    cases hk : s.keeperRuns with
    | false => rfl
    | true =>
      have hs : slot.val = s.activeSlot := by simpa [hk] using hno
      simp [hs]
  · have hgo : s.keeperRuns = true ∧ slot.val ≠ s.activeSlot := by simpa using hno
    rw [if_neg hno]
    cases hr : s.bundleReason (s.slotBundle slot) with
    | none => exact ⟨_, _, rfl, hbit, rfl, hnow, by simp [hgo]⟩
    | some r => exact ⟨_, _, rfl, hbit, rfl, hnow, by simp⟩

/-- The GO bit of BOOT.ARB and whether fuses are to be programmed. -/
def State.arbTaken (s : State) (fuse : Bool) : State := s.setFld rBootArb 0 3 (1 + if fuse then 2 else 0)

theorem State.arbTaken_bit (s : State) (fuse : Bool) : (s.arbTaken fuse).rbit rBootArb 0 = true := by
  unfold State.rbit State.arbTaken
  rw [State.reg_setFld, if_pos rfl, bit_putFld_same _ _ _ _ _ (by decide) (by decide) (by decide)]
  cases fuse with
  | false => rfl
  | true => rfl

theorem State.arbGo_refused {s : State} (h : s.rbit rBootArb 0 = false) (hmode : s.quietMode = false) (fuse : Bool) :
    s.arbGo fuse = (s.arbTaken fuse).modBoot fun x => { x with arb := some { at' := s.now, ok := false, reason := 0x19 } } := by
  unfold State.arbGo
  rw [h, if_neg (by decide)]
  extract_lets u no b up v
  have hq : u.quietMode = false := (State.quietMode_setFld _ _ _ _ (.inl rfl)).trans hmode
  rw [hq]
  rfl

theorem State.arbGo_fuse {s : State} (h : s.rbit rBootArb 0 = false) (hmode : s.quietMode = true) :
    (s.arbGo true).boot.arb = some { at' := s.now, ok := true } ∧
      (s.arbGo true).fuse 49 = s.fuse 49 ||| BitVec.ofNat 32 (2 ^ min s.boot.stage1Ver 32 - 1) ∧
      (s.arbGo true).fuse 50 = s.fuse 50 ||| BitVec.ofNat 32 (2 ^ min s.boot.keeperVer 32 - 1) := by
  unfold State.arbGo
  rw [h, if_neg (by decide)]
  extract_lets u no b up v
  have hq : u.quietMode = true := (State.quietMode_setFld _ _ _ _ (.inl rfl)).trans hmode
  have hboot : u.boot = s.boot := rfl
  have hnow : v.now = s.now := rfl
  have hv : v = u.modBoot fun x => { x with
      fuses := SMap.set (fun _ => 0) (SMap.set (fun _ => 0) x.fuses 49 (up (u.fuse 49) b.stage1Ver)) 50
        (up (u.fuse 50) b.keeperVer) } := rfl
  have hfuse (n : Nat) : u.fuse n = s.fuse n := rfl
  have hb : b = s.boot := rfl
  rw [hq, if_neg (by decide), if_neg (by simp)]
  clear_value v u b
  subst hv hb
  refine ⟨by rw [State.modBoot, hnow], ?_, ?_⟩
  · refine (SMap.get_set _ _ _ _).trans ((if_neg (by decide)).trans ((SMap.get_set_same _ _ _).trans ?_))
    rw [hfuse]
  · refine (SMap.get_set_same _ _ _).trans ?_
    rw [hfuse]

theorem State.now_rewritten (s : State) (a b n : Nat) (l : List Byte) : ((s.flashErase a n).flashSet b l).now = s.now := rfl

theorem State.writeArb_fields (s : State) (m1 mk : Nat) : (s.writeArb m1 mk).now = s.now ∧
    (s.writeArb m1 mk).boot.fuses = s.boot.fuses := by
  refine ⟨?_, (State.writeArb_kept (M := { boot := true, flash := true }) rfl rfl (Kept.refl s)).fuse rfl⟩
  unfold State.writeArb
  extract_lets seq other d
  exact State.now_rewritten ..

theorem State.modArb_fields (s : State) (k : Option FixOp) : (s.modBoot fun x => { x with arb := k }).boot.arb = k ∧
    (s.modBoot fun x => { x with arb := k }).boot.fuses = s.boot.fuses := ⟨rfl, rfl⟩

theorem State.arbGo_record {s : State} (h : s.rbit rBootArb 0 = false) (hmode : s.quietMode = true) (hduk : s.dukOk = true) :
    (s.arbGo false).boot.arb = some { at' := s.now, ok := true } ∧ (s.arbGo false).boot.fuses = s.boot.fuses := by
  unfold State.arbGo
  rw [h, if_neg (by decide)]
  extract_lets u no b up v
  have hq : u.quietMode = true := (State.quietMode_setFld _ _ _ _ (.inl rfl)).trans hmode
  have hdukU : u.dukOk = true := hduk
  have hv : v = u.writeArb b.stage1Ver b.keeperVer := if_neg Bool.false_ne_true
  have hu : u.now = s.now ∧ u.boot.fuses = s.boot.fuses := ⟨rfl, rfl⟩
  obtain ⟨hnow, hfuses⟩ := u.writeArb_fields b.stage1Ver b.keeperVer
  rw [hq, if_neg (by decide), hdukU, if_neg (by decide), ← hu.1, ← hu.2]
  rw [← hv] at hnow hfuses
  rw [← hnow]
  obtain ⟨harb, hkept⟩ := v.modArb_fields (some { at' := v.now, ok := true })
  exact ⟨harb, hkept.trans hfuses⟩

/-- A word to be programmed: its number stands in OTP_PGM with BUSY. -/
def State.otpTaken (s : State) (w : Nat) : State :=
  ((s.setFld rBootOtpPgm 0 7 w).setBit rBootOtpPgm 30 false).setBit rBootOtpPgm 31 true

theorem State.otpTaken_fields (s : State) (w : Nat) : (s.otpTaken w).rbit rBootOtpPgm 31 = true ∧ (s.otpTaken w).boot = s.boot ∧
    (s.otpTaken w).now = s.now ∧ (s.otpTaken w).quietMode = s.quietMode ∧
    (s.otpTaken w).reg rBootOtpData = s.reg rBootOtpData := by
  refine ⟨State.rbit_setBit_same _ _ _ _ (by decide), rfl, rfl, ?_, ?_⟩
  · unfold State.otpTaken
    rw [State.quietMode_setBit _ _ _ (.inr rfl), State.quietMode_setBit _ _ _ (.inr rfl),
      State.quietMode_setFld _ _ _ _ (.inr rfl)]
  · unfold State.otpTaken
    rw [State.reg_setBit_other _ _ _ (by decide), State.reg_setBit_other _ _ _ (by decide),
      State.reg_setFld_other _ _ _ _ (by decide)]

/-- A word that may not be programmed. -/
def State.otpRefused (s : State) (w r : Nat) : State :=
  s.modBoot fun x => { x with otp := some { at' := s.now, ok := false, reason := r, detail := w } }

/-- A word programmed: its bits are added to the fuse's. -/
def State.otpProgrammed (s : State) (w : Nat) : State := s.modBoot fun x => { x with
  fuses := SMap.set (fun _ => 0) x.fuses w (s.fuse w ||| s.reg rBootOtpData), otp := some { at' := s.now, ok := true } }

theorem State.otpRefused_fields (s : State) (w r : Nat) : ∃ k, (s.otpRefused w r).boot.otp = some k ∧ k.ok = false ∧
    (s.otpRefused w r).boot.fuses = s.boot.fuses ∧ (s.otpRefused w r).rbit rBootOtpPgm 31 = s.rbit rBootOtpPgm 31 :=
  ⟨_, rfl, rfl, rfl, rfl⟩

theorem State.otpProgrammed_fields (s : State) (w : Nat) : (s.otpProgrammed w).fuse w = s.fuse w ||| s.reg rBootOtpData ∧
    (s.otpProgrammed w).boot.otp = some { at' := s.now, ok := true } ∧
    (s.otpProgrammed w).rbit rBootOtpPgm 31 = s.rbit rBootOtpPgm 31 :=
  ⟨SMap.get_set_same _ _ _, rfl, rfl⟩

theorem State.otpGo_idle {s : State} (h : s.rbit rBootOtpPgm 31 = false) (w : Nat) : s.otpGo w =
    if !(s.otpTaken w).quietMode then (s.otpTaken w).otpRefused w 0x19
    else if !(w == 48 || decide (112 ≤ w)) || (w = 48 && bit ((s.otpTaken w).reg rBootOtpData) (s.otpTaken w).boot.keyIdx) then
      (s.otpTaken w).otpRefused w 0x1A
    else (s.otpTaken w).otpProgrammed w :=
  if_neg (by rw [h]; decide)

theorem exec_otpPgm_idle {s : State} (h : s.rbit rBootOtpPgm 31 = false) (w : Fin 128) :
    (s.quietMode = false ∨ (w.val ≠ 48 ∧ w.val < 112) → ∃ t k, exec (.otpPgm w) s = .next t ∧ t.rbit rBootOtpPgm 31 = true ∧
      t.boot.otp = some k ∧ k.ok = false ∧ t.boot.fuses = s.boot.fuses) ∧
    (s.quietMode = true → 112 ≤ w.val → ∃ t, exec (.otpPgm w) s = .next t ∧ t.rbit rBootOtpPgm 31 = true ∧
      t.fuse w = s.fuse w ||| s.reg rBootOtpData ∧ t.boot.otp = some { at' := s.now, ok := true }) := by
  have hexec : exec (.otpPgm w) s = .next (s.otpGo w.val) := rfl
  rw [hexec, State.otpGo_idle h]
  obtain ⟨hbit, hboot, hnow, hq, hdata⟩ := s.otpTaken_fields w.val
  rw [hq]
  have hno (r : Nat) : ∃ t k, Host.Outcome.next (φ := Fault) (ρ := Refusal) ((s.otpTaken w.val).otpRefused w.val r) = .next t ∧
      t.rbit rBootOtpPgm 31 = true ∧ t.boot.otp = some k ∧ k.ok = false ∧ t.boot.fuses = s.boot.fuses := by
    obtain ⟨k, hotp, hok, hfuses, hbit'⟩ := (s.otpTaken w.val).otpRefused_fields w.val r
    exact ⟨_, k, rfl, hbit'.trans hbit, hotp, hok, hfuses.trans (congrArg BootState.fuses hboot)⟩
  refine ⟨fun hbad => ?_, fun hmode hw => ?_⟩
  · by_cases hmode : s.quietMode = true
    · have hw := hbad.resolve_left (by simp [hmode])
      rw [hmode, if_neg (by decide), if_pos (by simp; omega)]
      exact hno 0x1A
    · rw [if_pos (by simpa using hmode)]
      exact hno 0x19
  · rw [hmode, if_neg (by decide), if_neg (by simp; omega)]
    obtain ⟨hfuse, hotp, hbit'⟩ := (s.otpTaken w.val).otpProgrammed_fields w.val
    refine ⟨_, rfl, hbit'.trans hbit, hfuse.trans ?_, hotp.trans (by rw [hnow])⟩
    rw [hdata, State.fuse, hboot, State.fuse]

/-! ### The mailbox (R616) -/

/-- The bundle of the mailbox has been read. -/
theorem exec_mbx_waiting {s : State} (data : List Byte) (ok boot : Bool) {k : FixOp} (hmbx : s.boot.mbx = some k)
    (hwaits : k.waits = true) (hboot : k.boot = boot) :
    exec (if boot then .mbxBoot data ok else .mbxWrite data ok) s = .next (s.mbxRead (s.mbxBundle data ok)) := by
  have hw : s.mbxWaits boot = true := by simp [State.mbxWaits, hmbx, hwaits, hboot]
  cases boot with
  | true => exact congrArg Host.Outcome.next (if_pos hw)
  | false => exact congrArg Host.Outcome.next (if_pos hw)

theorem State.mbxRead_some {s : State} {k : FixOp} (hmbx : s.boot.mbx = some k) (b : Option (List Byte)) :
    ∃ k', (s.mbxRead b).boot.mbx = some k' ∧ k'.waits = false ∧
      (k.boot = true → s.modeCode ≠ 3 → k'.ok = k.ok ∧ k'.reason = 0x19) ∧ (k.boot = false → b = none → k'.ok = k.ok) := by
  unfold State.mbxRead
  rw [hmbx]
  dsimp only
  by_cases hmode : (k.boot && s.modeCode != 3) = true
  · rw [if_pos hmode]
    exact ⟨_, rfl, rfl, fun _ _ => ⟨rfl, rfl⟩, fun _ _ => rfl⟩
  · rw [if_neg hmode]
    have hnot : k.boot = true → ¬ s.modeCode ≠ 3 := fun hb hm => hmode (by simp [hb, hm])
    cases b with
    | none => exact ⟨_, rfl, rfl, fun hb hm => absurd hm (hnot hb), fun _ _ => rfl⟩
    | some b =>
      dsimp only
      cases hr : s.bundleReason b with
      | none => exact ⟨_, rfl, rfl, fun hb hm => absurd hm (hnot hb), fun _ hb => by cases hb⟩
      | some r => exact ⟨_, rfl, rfl, fun hb hm => absurd hm (hnot hb), fun _ hb => by cases hb⟩

theorem exec_mbx_unasked {s : State} (data : List Byte) (ok boot : Bool) (h : s.mbxWaits boot = false) :
    exec (if boot then .mbxBoot data ok else .mbxWrite data ok) s = .next s := by
  cases boot with
  | true => exact congrArg Host.Outcome.next (if_neg (by simp [h]))
  | false => exact congrArg Host.Outcome.next (if_neg (by simp [h]))

/-! ### Debug unlock (R625 to R628) -/

theorem forN_counts {σ : Type} (n : Nat) (f : Nat → σ → σ) (g : σ → Nat) (h : ∀ i < n, ∀ s, g (f i s) = g s + 1) (s : σ) :
    g (forN n f s) = g s + n := by
  unfold forN
  suffices hl : ∀ (l : List Nat), (∀ i ∈ l, i < n) → ∀ s : σ, g (l.foldl (fun s i => f i s) s) = g s + l.length by
    rw [hl _ (fun i hi => List.mem_range.mp hi), List.length_range]
  intro l
  induction l with
  | nil => intro _ s; rfl
  | cons i l ih =>
    intro hl s
    rw [List.foldl_cons, ih (fun k hk => hl k (List.mem_cons_of_mem i hk)), h i (hl i (List.mem_cons_self ..)), List.length_cons]
    omega

/-- One word of a challenge: a free value. -/
def State.chalWord (j : Nat) (s : State) : State := s.draw.2.setReg (rSecDbgChal j) (s.draw.1.setWidth 32)

theorem State.chalWord_fields {j : Nat} (hj : j < 12) (s : State) : (s.chalWord j).reg rSecDbgReq = s.reg rSecDbgReq ∧
    (s.chalWord j).now = s.now ∧ (s.chalWord j).freeCtr = s.freeCtr + 1 :=
  ⟨(State.reg_setReg_other s.draw.2 _ (by unfold rSecDbgReq rSecDbgChal; omega)).trans rfl, rfl, rfl⟩

theorem exec_newChal (level key : Fin 4) (s : State) : ∃ t, exec (.newChal level key) s = .next t ∧
    t.rfld rSecDbgReq 0 2 = level ∧ t.rfld rSecDbgReq 4 2 = key ∧ t.boot.chalOk = true ∧ t.boot.chalAt = s.now ∧
    t.freeCtr = s.freeCtr + 12 := by
  have hexec : exec (.newChal level key) s = .next (s.newChal level.val key.val) := rfl
  rw [hexec]
  unfold State.newChal
  extract_lets u v
  have hlevel : u.rfld rSecDbgReq 0 2 = level.val :=
    (State.rfld_setFld_other _ _ (.inr (.inl (by decide)))).trans
      ((State.rfld_setFld_same _ _ _ _ _ (by decide)).trans (Nat.mod_eq_of_lt level.isLt))
  have hkey : u.rfld rSecDbgReq 4 2 = key.val :=
    (State.rfld_setFld_same _ _ _ _ _ (by decide)).trans (Nat.mod_eq_of_lt key.isLt)
  have hu : u.now = s.now ∧ u.freeCtr = s.freeCtr := ⟨rfl, rfl⟩
  have hv : v = forN 12 State.chalWord u := rfl
  have hreg : v.reg rSecDbgReq = u.reg rSecDbgReq :=
    hv ▸ forN_keeps_lt 12 State.chalWord (State.reg · rSecDbgReq) (fun j hj t => (t.chalWord_fields hj).1) u
  have hnow : v.now = u.now := hv ▸ forN_keeps_lt 12 State.chalWord State.now (fun j hj t => (t.chalWord_fields hj).2.1) u
  have hfree : v.freeCtr = u.freeCtr + 12 :=
    hv ▸ forN_counts 12 State.chalWord State.freeCtr (fun j hj t => (t.chalWord_fields hj).2.2) u
  clear_value u v
  exact ⟨_, rfl, (congrArg (fld · 0 2) hreg).trans hlevel, (congrArg (fld · 4 2) hreg).trans hkey, rfl, hnow.trans hu.1,
    hfree.trans (congrArg (· + 12) hu.2)⟩

/-- A response to a challenge that was not issued is refused. -/
theorem State.dbgReason_noChallenge {s : State} (h : s.boot.chalOk = false) : s.dbgReason ≠ 0 := by
  unfold State.dbgReason
  extract_lets level k lock resp key die msg
  by_cases h1 : bit lock 8 = true
  · rw [if_pos h1]
    decide
  by_cases h2 : s.now < s.boot.backUntil
  · rw [if_neg h1, if_pos h2]
    decide
  · rw [if_neg h1, if_neg h2, if_pos (by simp [h])]
    decide

theorem exec_dbgGo_idle {s : State} (h : s.rbit rSecDbgStat 0 = false) (jtag : Bool) :
    ∃ t k, exec (.dbgGo jtag) s = .next t ∧ t.rbit rSecDbgStat 0 = true ∧ t.boot.chalOk = false ∧
      t.boot.dbg = some k ∧ k.ok = decide (s.dbgReason = 0) ∧ (s.boot.chalOk = false → k.ok = false) ∧ k.at' = s.now := by
  have hexec : exec (.dbgGo jtag) s = .next (s.dbgGo jtag) := rfl
  rw [hexec]
  unfold State.dbgGo
  rw [h, if_neg (by decide)]
  extract_lets r chal u
  have hbit : u.rbit rSecDbgStat 0 = true := State.rbit_setBit_same _ _ _ _ (by decide)
  have hnow : u.now = s.now := rfl
  clear_value u chal
  exact ⟨_, _, rfl, hbit, rfl, rfl, rfl, fun hc => decide_eq_false (State.dbgReason_noChallenge hc), hnow⟩

theorem exec_dbgClose_open {s : State} (h : s.mode.session = true) : ∃ t, exec .dbgClose s = .next t ∧
    t.mode = { s.mode with session := false } ∧ t.rbit rSecDbgStat 1 = false := by
  have hexec : exec .dbgClose s = .next s.dbgClose := rfl
  rw [hexec]
  unfold State.dbgClose
  rw [h, if_neg (by decide)]
  extract_lets u
  have hu : u.mode = s.mode ∧ u.rbit rSecDbgStat 1 = false := by
    have h1 : ((s.setBit rSecDbgStat 1 false).setFld rSecDbgStat 4 2 0).rbit rSecDbgStat 1 = false :=
      (State.rbit_setFld_other _ _ (.inr (.inl (by decide)))).trans (State.rbit_setBit_same _ _ _ _ (by decide))
    dsimp only [u]
    unfold State.haltKeeper
    rw [if_neg (by decide)]
    split
    · exact ⟨rfl, (congrArg (bit · 1) (State.reg_setBit_other _ _ _ (by decide))).trans h1⟩
    · exact ⟨rfl, h1⟩
  clear_value u
  obtain ⟨hmode, hbit⟩ := hu
  refine ⟨_, rfl, ?_, (congrArg (bit · 1) (State.modeDo_reg _ _ _ _ (by decide))).trans hbit⟩
  rw [State.mode_modeDo, hmode]

/-! ### Results at their fixed time (R629) -/

/-- The time of a request's result, `ms` milliseconds after it, has come. -/
def State.resultDue (s : State) (k : FixOp) (ms : Nat) : Prop := k.at' + 1228800 * ms ≤ s.now

/-- The result of an open request, once it is due. -/
def State.atResult (s : State) (o : Option FixOp) (ms : Nat) (f : FixOp → State) : State :=
  match o.filter fun k => decide (k.at' + 1228800 * ms ≤ s.now) with
  | some k => f k
  | none => s

theorem State.atResult_due {s : State} {k : FixOp} {ms : Nat} (h : s.resultDue k ms) (f : FixOp → State) :
    s.atResult (some k) ms f = f k := by
  unfold State.resultDue at h
  simp [State.atResult, Option.filter, h]

theorem State.atResult_early {s : State} {k : FixOp} {ms : Nat} (h : ¬ s.resultDue k ms) (f : FixOp → State) :
    s.atResult (some k) ms f = s := by
  unfold State.resultDue at h
  simp [State.atResult, Option.filter, h]

theorem State.fixAudit_fields (s : State) (k : FixOp) (source : Nat) : (s.fixAudit k source).mode = s.mode ∧
    (∃ l, (s.fixAudit k source).boot = { s.boot with audit := l }) ∧
    ∀ o, o ≠ rSecAuditCnt → (s.fixAudit k source).reg o = s.reg o := by
  unfold State.fixAudit
  split
  · exact ⟨rfl, ⟨_, rfl⟩, fun _ _ => rfl⟩
  · exact ⟨rfl, ⟨_, rfl⟩, fun _ ho => State.reg_setReg_other _ _ ho⟩

/-- A result shown: BUSY clears, a failure is marked and recorded. -/
def State.fixShown (s : State) (a busy fail : Nat) (k : FixOp) (source : Nat) : State :=
  ((s.setBit a busy false).setBit a fail (!k.ok)).fixAudit k source

theorem State.fixShown_fields (s : State) (k : FixOp) {a busy fail : Nat} (source : Nat) (ha : a ≠ rSecAuditCnt) (hb : busy < 32)
    (hf : fail < 32) (hne : fail ≠ busy) : (s.fixShown a busy fail k source).rbit a busy = false ∧
      (s.fixShown a busy fail k source).rbit a fail = !k.ok ∧ ∃ l, (s.fixShown a busy fail k source).boot =
        { s.boot with audit := l } := by
  obtain ⟨-, hboot, hregs⟩ := ((s.setBit a busy false).setBit a fail (!k.ok)).fixAudit_fields k source
  refine ⟨(congrArg (bit · busy) (hregs a ha)).trans ?_,
    (congrArg (bit · fail) (hregs a ha)).trans (State.rbit_setBit_same _ _ _ _ hf), hboot⟩
  exact (State.rbit_setBit _ _ _ _ _ _ hf).trans ((if_neg (fun h => hne h.2.symm)).trans (State.rbit_setBit_same _ _ _ _ hb))

theorem exec_result_otp {s : State} {k : FixOp} (hk : s.boot.otp = some k) :
    (s.resultDue k 50 → ∃ t, exec (.fixedTimeResult 1) s = .next t ∧ t.boot.otp = none ∧
      t.rbit rBootOtpPgm 31 = false ∧ t.rbit rBootOtpPgm 30 = !k.ok) ∧
    (¬ s.resultDue k 50 → exec (.fixedTimeResult 1) s = .next s) := by
  have hexec : exec (.fixedTimeResult 1) s = .next (s.atResult s.boot.otp 50 fun k =>
      (s.modBoot fun x => { x with otp := none }).fixShown rBootOtpPgm 31 30 k 6) := by
    change execFixedTimeResult 1 s = _
    unfold execFixedTimeResult State.atResult
    dsimp only
    cases s.boot.otp.filter fun k => decide (k.at' + 1228800 * 50 ≤ s.now) with
    | none => rfl
    | some k => rfl
  rw [hexec, hk]
  refine ⟨fun h => ?_, fun h => congrArg _ (State.atResult_early h _)⟩
  obtain ⟨h1, h2, l, hboot⟩ := (s.modBoot fun x => { x with otp := none }).fixShown_fields k (a := rBootOtpPgm) (busy := 31)
    (fail := 30) 6 (by decide) (by decide) (by decide) (by decide)
  exact ⟨_, congrArg _ (State.atResult_due h _), congrArg BootState.otp hboot, h1, h2⟩

theorem exec_result_upd {s : State} {k : FixOp} (hk : s.boot.upd = some k) :
    (s.resultDue k 1000 → ∃ t, exec (.fixedTimeResult 2) s = .next t ∧ t.boot.upd = none ∧
      t.rbit rBootUpd 0 = false ∧ t.rbit rBootUpd 2 = !k.ok) ∧
    (¬ s.resultDue k 1000 → exec (.fixedTimeResult 2) s = .next s) := by
  have hexec : exec (.fixedTimeResult 2) s = .next (s.atResult s.boot.upd 1000 fun k =>
      (s.modBoot fun x => { x with upd := none }).fixShown rBootUpd 0 2 k 4) := by
    change execFixedTimeResult 2 s = _
    unfold execFixedTimeResult State.atResult
    dsimp only
    cases s.boot.upd.filter fun k => decide (k.at' + 1228800 * 1000 ≤ s.now) with
    | none => rfl
    | some k => rfl
  rw [hexec, hk]
  refine ⟨fun h => ?_, fun h => congrArg _ (State.atResult_early h _)⟩
  obtain ⟨h1, h2, l, hboot⟩ := (s.modBoot fun x => { x with upd := none }).fixShown_fields k (a := rBootUpd) (busy := 0)
    (fail := 2) 4 (by decide) (by decide) (by decide) (by decide)
  exact ⟨_, congrArg _ (State.atResult_due h _), congrArg BootState.upd hboot, h1, h2⟩

theorem exec_result_arb {s : State} {k : FixOp} (hk : s.boot.arb = some k) :
    (s.resultDue k 1000 → ∃ t, exec (.fixedTimeResult 3) s = .next t ∧ t.boot.arb = none ∧
      t.rbit rBootArb 0 = false ∧ t.rbit rBootArb 2 = !k.ok) ∧
    (¬ s.resultDue k 1000 → exec (.fixedTimeResult 3) s = .next s) := by
  have hexec : exec (.fixedTimeResult 3) s = .next (s.atResult s.boot.arb 1000 fun k =>
      (s.modBoot fun x => { x with arb := none }).fixShown rBootArb 0 2 k 5) := by
    change execFixedTimeResult 3 s = _
    unfold execFixedTimeResult State.atResult
    dsimp only
    cases s.boot.arb.filter fun k => decide (k.at' + 1228800 * 1000 ≤ s.now) with
    | none => rfl
    | some k => rfl
  rw [hexec, hk]
  refine ⟨fun h => ?_, fun h => congrArg _ (State.atResult_early h _)⟩
  obtain ⟨h1, h2, l, hboot⟩ := (s.modBoot fun x => { x with arb := none }).fixShown_fields k (a := rBootArb) (busy := 0)
    (fail := 2) 5 (by decide) (by decide) (by decide) (by decide)
  exact ⟨_, congrArg _ (State.atResult_due h _), congrArg BootState.arb hboot, h1, h2⟩

/-! ### The mailbox's result -/

/-- What the end of a mailbox request keeps: no request is open, and the status bits 0 and 1. -/
def State.mbxShown (s : State) : Option FixOp × Bool × Bool := (s.boot.mbx, s.rbit rBootMbxStat 0, s.rbit rBootMbxStat 1)

theorem State.mbxShown_of {s t : State} (hboot : t.boot.mbx = s.boot.mbx) (hreg : t.reg rBootMbxStat = s.reg rBootMbxStat) :
    t.mbxShown = s.mbxShown := by
  simp only [State.mbxShown, State.rbit, hboot, hreg]

theorem State.mbx_rewritten (s : State) (a b n : Nat) (l : List Byte) :
    ((s.flashErase a n).flashSet b l).boot.mbx = s.boot.mbx := rfl

theorem State.mbx_writeBcr (s : State) (slot : Nat) : (s.writeBcr slot).boot.mbx = s.boot.mbx := by
  unfold State.writeBcr
  extract_lets seq other d
  exact State.mbx_rewritten ..

theorem State.mbx_flashDo (s : State) (k : FlashCmd) : (s.flashDo k).boot.mbx = s.boot.mbx := by
  unfold State.flashDo State.flashProgram
  split
  · split
    · rfl
    · rfl
  · split
    · split
      · rfl
      · rfl
    · split
      · exact (State.mbx_writeBcr _ _).trans (State.mbx_rewritten ..)
      · rfl

theorem State.mbx_spimIssue (s : State) (k : FlashCmd) : (s.spimIssue k).boot.mbx = s.boot.mbx := by
  unfold State.spimIssue
  extract_lets long shown done
  have hshown : shown.boot = s.boot := rfl
  have hdone : done.boot.mbx = s.boot.mbx := by
    clear_value shown
    dsimp only [done]
    split
    · exact (State.mbx_flashDo _ _).trans (congrArg BootState.mbx hshown)
    · exact congrArg BootState.mbx hshown
  exact hdone

theorem State.mbx_spimReq (s : State) (k : FlashCmd) : (s.spimReq k).boot.mbx = s.boot.mbx := by
  unfold State.spimReq
  generalize hu : (s.modSpim fun x => { x with queue := x.queue ++ [k] }) = u
  have hboot : u.boot = s.boot := by rw [← hu]; rfl
  rw [← hboot]
  by_cases hfree : u.spimFree = true
  · by_cases hq : u.spim.queue = []
    · rw [State.spimNext_empty hfree hq]
      rfl
    · obtain ⟨k', hk⟩ := State.spimNext_issue hfree hq
      rw [hk]
      exact State.mbx_spimIssue _ _
  · rw [State.spimNext_busy (by simpa using hfree)]

theorem State.mbxShown_tryStage1 (s : State) : s.tryStage1.mbxShown = s.mbxShown := by
  unfold State.tryStage1
  split
  · rfl
  · unfold State.sourceFails
    extract_lets d t
    have ht : t.mbxShown = s.mbxShown := State.mbxShown_of rfl (State.reg_setReg_other _ _ (by decide))
    exact ht

theorem State.mbxShown_pass (s : State) (k : FixOp) : (s.mbxPass k).mbxShown = s.mbxShown := by
  unfold State.mbxPass
  extract_lets slot u v
  have hu : u.mbxShown = s.mbxShown := by
    dsimp only [u]
    split
    · rfl
    split
    · refine State.mbxShown_of (State.mbx_writeBcr s (1 - s.activeSlot)) ?_
      exact (State.writeBcr_kept (slot := 1 - s.activeSlot) (M := { boot := true, flash := true }) rfl rfl (Kept.refl s)).reg rfl
        rBootMbxStat
    · have hreg := (State.spimReq_frame (s.setBit rBootMbxStat 2 true)
        { who := 2, op := slotWrite, addr := slotBase slot, data := k.bundle }).1 rBootMbxStat (by decide) (by decide)
      have h2 : (s.setBit rBootMbxStat 2 true).mbxShown = s.mbxShown := by
        simp only [State.mbxShown, State.rbit_setBit _ _ _ _ _ _ (show 2 < 32 by decide)]
        rfl
      exact (State.mbxShown_of (State.mbx_spimReq _ _) hreg).trans h2
  split
  · have hv : v.mbxShown = u.mbxShown := by
      refine State.mbxShown_of ?_ (State.modeDo_reg _ _ _ _ (by decide))
      exact (congrArg BootState.mbx (State.boot_modeDo u 4 _)).trans rfl
    refine (State.mbxShown_tryStage1 _).trans (Eq.trans ?_ (hv.trans hu))
    rfl
  · exact hu

/-- The mailbox's result shown, and its image taken where it passed. -/
def State.mbxEnds (s : State) (k : FixOp) : State :=
  let t := (s.modBoot fun x => { x with mbx := none }).fixShown rBootMbxStat 0 1 k (if k.spis then 3 else 2)
  if k.ok then t.mbxPass k else t

theorem State.mbxEnds_shown (s : State) (k : FixOp) : (s.mbxEnds k).mbxShown = (none, false, !k.ok) := by
  unfold State.mbxEnds
  extract_lets t
  obtain ⟨h1, h2, l, hboot⟩ := (s.modBoot fun x => { x with mbx := none }).fixShown_fields k (a := rBootMbxStat) (busy := 0)
    (fail := 1) (if k.spis then 3 else 2) (by decide) (by decide) (by decide) (by decide)
  have ht : t.mbxShown = (none, false, !k.ok) := Prod.ext (congrArg BootState.mbx hboot) (Prod.ext h1 h2)
  split
  · exact (State.mbxShown_pass _ _).trans ht
  · exact ht

theorem exec_result_mbx {s : State} {k : FixOp} (hk : s.boot.mbx = some k) :
    (s.resultDue k 1000 → ∃ t, exec (.fixedTimeResult 4) s = .next t ∧ t.boot.mbx = none ∧
      t.rbit rBootMbxStat 0 = false ∧ t.rbit rBootMbxStat 1 = !k.ok) ∧
    (¬ s.resultDue k 1000 → exec (.fixedTimeResult 4) s = .next s) := by
  have hexec : exec (.fixedTimeResult 4) s = .next (s.atResult s.boot.mbx 1000 s.mbxEnds) := by
    change execFixedTimeResult 4 s = _
    unfold execFixedTimeResult State.atResult
    dsimp only
    cases s.boot.mbx.filter fun k => decide (k.at' + 1228800 * 1000 ≤ s.now) with
    | none => rfl
    | some k => rfl
  rw [hexec, hk]
  refine ⟨fun h => ?_, fun h => congrArg _ (State.atResult_early h _)⟩
  have hshown := s.mbxEnds_shown k
  exact ⟨_, congrArg _ (State.atResult_due h _), congrArg Prod.fst hshown, congrArg (fun p => p.2.1) hshown,
    congrArg (fun p => p.2.2) hshown⟩

/-! ### The result of a debug unlock (R626, R627) -/

theorem State.reg_extendDay_above (s : State) {i : Nat} (hi : i < 8) (m : List Byte) {o : Nat} (ho : rSecDaymark 8 0 ≤ o) :
    (s.extendDay i m).reg o = s.reg o := by
  unfold State.extendDay State.setBytes48
  refine forN_keeps_lt 12 _ (State.reg · o) (fun j hj t => ?_) s
  exact State.reg_setReg_other _ _ (by unfold rSecDaymark at ho ⊢; omega)

/-- What the end of a debug unlock shows. -/
def State.dbgShown (s : State) : Option FixOp × Bool × Bool := (s.boot.dbg, s.rbit rSecDbgStat 0, s.rbit rSecDbgStat 2)

theorem State.dbgShown_of {s t : State} (hboot : t.boot.dbg = s.boot.dbg)
    (hreg : ∀ b, b = 0 ∨ b = 2 → t.rbit rSecDbgStat b = s.rbit rSecDbgStat b) : t.dbgShown = s.dbgShown := by
  simp only [State.dbgShown, hboot, hreg 0 (.inl rfl), hreg 2 (.inr rfl)]

theorem State.dbgShown_regs {s t : State} (hboot : t.boot.dbg = s.boot.dbg) (hreg : t.reg rSecDbgStat = s.reg rSecDbgStat) :
    t.dbgShown = s.dbgShown := State.dbgShown_of hboot fun b _ => congrArg (bit · b) hreg

/-- The registers and the counts that a session opens with. -/
def State.dbgCounted (s : State) (level : Nat) : State :=
  (((s.modBoot fun x => { x with fails := 0, backUntil := 0 }).setBit rSecDbgStat 1 true).setFld rSecDbgStat 4 2 level).setFld
    rSecDbgStat 16 5 0

/-- A session opens: it is measured, and the mode shows it. -/
def State.dbgOpened (s : State) (level : Nat) (m : List Byte) : State :=
  ((s.dbgCounted level).extendDay 4 m).modeDo 0x31 fun s => { s with mode := { s.mode with session := true } }

theorem State.dbgOpened_fields (s : State) (level : Nat) (m : List Byte) : (s.dbgOpened level m).dbgShown = s.dbgShown ∧
    (s.dbgOpened level m).mode.session = true := by
  have hc : (s.dbgCounted level).dbgShown = s.dbgShown := by
    refine State.dbgShown_of rfl fun b hb => ?_
    refine (State.rbit_setFld_other _ _ (.inr (.inl (by omega)))).trans
      ((State.rbit_setFld_other _ _ (.inr (.inl (by omega)))).trans ?_)
    exact (State.rbit_setBit _ _ _ _ _ _ (by decide)).trans (if_neg (by omega))
  have hx : ((s.dbgCounted level).extendDay 4 m).dbgShown = (s.dbgCounted level).dbgShown :=
    State.dbgShown_regs (congrArg BootState.dbg (State.boot_extendDay _ _ _))
      (State.reg_extendDay_above _ (by decide) _ (by decide))
  unfold State.dbgOpened
  generalize (s.dbgCounted level).extendDay 4 m = x at *
  refine ⟨Eq.trans (State.dbgShown_regs ?_ (State.modeDo_reg _ _ _ _ (by decide))) (hx.trans hc), by rw [State.mode_modeDo]⟩
  rw [State.boot_modeDo]

/-- A refused response is recorded, and counted unless it came in the back-off. -/
def State.dbgRefused (s : State) (k : FixOp) : State :=
  let s := s.audit k.reason s.boot.dbgFrom 0 0 k.detail
  if k.reason = 0x11 then s
  else
    let n := min 31 (s.boot.fails + 1)
    let s := s.setFld rSecDbgStat 16 5 n
    s.modBoot fun x => { x with fails := n, backUntil := s.now + min (2 ^ (n - 1)) 3600 * 1228800000 }

theorem State.dbgRefused_fields (s : State) (k : FixOp) : (s.dbgRefused k).dbgShown = s.dbgShown ∧
    (s.dbgRefused k).mode = s.mode := by
  unfold State.dbgRefused
  extract_lets y n z
  have hy : y.dbgShown = s.dbgShown ∧ y.mode = s.mode :=
    ⟨State.dbgShown_regs rfl (State.reg_setReg_other _ _ (by decide)), rfl⟩
  have hz : z.dbgShown = y.dbgShown ∧ z.mode = y.mode :=
    ⟨State.dbgShown_of rfl fun b hb => State.rbit_setFld_other _ _ (.inr (.inl (by omega))), rfl⟩
  clear_value z y
  split
  · exact hy
  · exact ⟨hz.1.trans hy.1, hz.2.trans hy.2⟩

theorem State.dbgResult_eq (s : State) (k : FixOp) : s.dbgResult k =
    if k.ok then ((s.setBit rSecDbgStat 0 false).setBit rSecDbgStat 2 (!k.ok)).dbgOpened (k.detail / 16)
      (sha384 (k.bundle ++ leBytes 1 (k.detail / 16) ++ leBytes 1 (k.detail % 16)))
    else ((s.setBit rSecDbgStat 0 false).setBit rSecDbgStat 2 (!k.ok)).dbgRefused k := rfl

theorem State.dbgResult_fields (s : State) (k : FixOp) : (s.dbgResult k).dbgShown = (s.boot.dbg, false, !k.ok) ∧
    (s.dbgResult k).mode.session = (s.mode.session || k.ok) := by
  have hu : ((s.setBit rSecDbgStat 0 false).setBit rSecDbgStat 2 (!k.ok)).dbgShown = (s.boot.dbg, false, !k.ok) := by
    refine Prod.ext rfl (Prod.ext ?_ (State.rbit_setBit_same _ _ _ _ (by decide)))
    exact (State.rbit_setBit _ _ _ _ _ _ (by decide)).trans
      ((if_neg (by decide)).trans (State.rbit_setBit_same _ _ _ _ (by decide)))
  have hmode : ((s.setBit rSecDbgStat 0 false).setBit rSecDbgStat 2 (!k.ok)).mode = s.mode := rfl
  rw [State.dbgResult_eq]
  generalize (s.setBit rSecDbgStat 0 false).setBit rSecDbgStat 2 (!k.ok) = u at *
  split
  next hok =>
    obtain ⟨h1, h2⟩ := u.dbgOpened_fields (k.detail / 16)
      (sha384 (k.bundle ++ leBytes 1 (k.detail / 16) ++ leBytes 1 (k.detail % 16)))
    exact ⟨h1.trans hu, by rw [h2, hok, Bool.or_true]⟩
  next hok =>
    obtain ⟨h1, h2⟩ := u.dbgRefused_fields k
    exact ⟨h1.trans hu, by rw [h2, hmode, Bool.eq_false_iff.mpr hok, Bool.or_false]⟩

theorem exec_result_dbg {s : State} {k : FixOp} (hk : s.boot.dbg = some k) :
    (s.resultDue k 50 → ∃ t, exec (.fixedTimeResult 0) s = .next t ∧ t.boot.dbg = none ∧ t.rbit rSecDbgStat 0 = false ∧
      t.rbit rSecDbgStat 2 = !k.ok ∧ t.mode.session = (s.mode.session || k.ok)) ∧
    (¬ s.resultDue k 50 → exec (.fixedTimeResult 0) s = .next s) := by
  have hexec : exec (.fixedTimeResult 0) s = .next (s.atResult s.boot.dbg 50
      (s.modBoot fun x => { x with dbg := none }).dbgResult) := by
    change execFixedTimeResult 0 s = _
    unfold execFixedTimeResult State.atResult
    dsimp only
    cases s.boot.dbg.filter fun k => decide (k.at' + 1228800 * 50 ≤ s.now) with
    | none => rfl
    | some k => rfl
  rw [hexec, hk]
  refine ⟨fun h => ?_, fun h => congrArg _ (State.atResult_early h _)⟩
  obtain ⟨hshown, hmode⟩ := (s.modBoot fun x => { x with dbg := none }).dbgResult_fields k
  exact ⟨_, congrArg _ (State.atResult_due h _), congrArg Prod.fst hshown, congrArg (fun p => p.2.1) hshown,
    congrArg (fun p => p.2.2) hshown, hmode⟩

/-! ### DM_EXTEND (R607) and MINIMAL's path (R618) -/

theorem State.now_setBytes48 (s : State) (r : Nat → Nat) (b : List Byte) : (s.setBytes48 r b).now = s.now := by
  unfold State.setBytes48
  refine forN_keeps 12 _ State.now (fun j t => ?_) s
  rfl

theorem State.now_extendDay (s : State) (i : Nat) (m : List Byte) : (s.extendDay i m).now = s.now := State.now_setBytes48 ..

/-- The time of an extension is remembered. -/
def State.dmStamp (s : State) (at' : Nat) : State := { s with boot := { s.boot with dmAt := some at' } }

/-- Two microseconds have passed since the extension before. -/
def State.dmMay (s : State) : Bool :=
  match s.boot.dmAt with
  | some t => decide (t + 2458 ≤ s.now)
  | none => true

theorem State.dmCmdW_eq (s : State) (v : Word) : s.dmCmdW v = if bit v 0 && s.dmMay then
    (((s.setBit rSecDmCmd 1 (bit v 1)).extendDay (if bit v 1 then 7 else 6)
    ((s.setBit rSecDmCmd 1 (bit v 1)).bytes48 rSecDmExt)).dmStamp
      ((s.setBit rSecDmCmd 1 (bit v 1)).extendDay (if bit v 1 then 7 else 6)
        ((s.setBit rSecDmCmd 1 (bit v 1)).bytes48 rSecDmExt)).now)
    else s.setBit rSecDmCmd 1 (bit v 1) := rfl

theorem State.bytes48_dmCmd (s : State) (v : Bool) : (s.setBit rSecDmCmd 1 v).bytes48 rSecDmExt = s.bytes48 rSecDmExt := by
  refine flatMap_congr_mem fun j hj => ?_
  have hj' := List.mem_range.mp hj
  rw [State.reg_setBit_other _ _ _ (by unfold rSecDmExt rSecDmCmd; omega)]

theorem exec_dmExtend (s : State) (sel : Bool) :
    (∀ at', s.boot.dmAt = some at' → s.now < at' + 2458 → exec (.dmExtend sel) s = .next (s.setBit rSecDmCmd 1 sel)) ∧
    (s.boot.dmAt = none → exec (.dmExtend sel) s = .next
      (((s.setBit rSecDmCmd 1 sel).extendDay (if sel then 7 else 6) (s.bytes48 rSecDmExt)).dmStamp s.now)) := by
  have hexec : exec (.dmExtend sel) s = .next (s.dmCmdW (if sel then 3 else 1)) := rfl
  have hbits : bit (if sel then 3 else 1 : Word) 1 = sel ∧ bit (if sel then 3 else 1 : Word) 0 = true := by
    cases sel with
    | false => decide
    | true => decide
  rw [hexec, State.dmCmdW_eq, hbits.1, hbits.2, State.bytes48_dmCmd, State.now_extendDay, Bool.true_and]
  refine ⟨fun at' hat hnow => ?_, fun hat => ?_⟩
  · have hmay : s.dmMay = false := by
      rw [State.dmMay, hat]
      exact decide_eq_false (by omega)
    rw [hmay, if_neg (by decide)]
  · have hmay : s.dmMay = true := by rw [State.dmMay, hat]
    rw [hmay, if_pos rfl]
    rfl

theorem State.reg_resetBlock (s : State) {lo hi o : Nat} (h : o < lo ∨ hi ≤ o) : (s.resetBlock lo hi).reg o = s.reg o :=
  (SMap.get_keep _ _ _).trans (if_pos (by simp; omega))

theorem State.reg_pllCtrlW (s : State) (x : Nat) (v : Word) {o : Nat} (hctrl : o ≠ rClkPllCtrl x) (hstat : o ≠ pllStatReg x) :
    (s.pllCtrlW x v).reg o = s.reg o := by
  unfold State.pllCtrlW
  extract_lets r u rej int put
  have hu : u.reg o = s.reg o := by
    dsimp only [u]
    split
    · exact State.reg_setBit_other _ _ _ hctrl
    · rfl
  have hput (t : State) : (put t).reg o = t.reg o := by
    dsimp only [put]
    rw [State.reg_setFld_other _ _ _ _ hctrl, State.reg_setBit_other _ _ _ hctrl, State.reg_setBit_other _ _ _ hctrl]
  have hrej : rej.reg o = u.reg o := State.reg_setBit_other _ _ _ hctrl
  have hacq : ((put u).acquire x).reg o = (put u).reg o := State.reg_acquire _ _ hctrl hstat
  have hrelock : ((put u).relock x).reg o = (put u).reg o := by
    unfold State.relock
    split
    · exact hacq
    · rfl
  rw [← hu]
  split
  · split
    · exact hrej
    split
    · split
      · exact hrej
      · exact (State.reg_setPllSt _ _ _ hstat).trans (hput u)
    · split
      · exact hrelock.trans (hput u)
      · exact hput u
  · split
    · exact hput u
    split
    · exact hacq.trans (hput u)
    · exact hrej

theorem State.reg_tdmCfgW (s : State) (n : Nat) (v : Word) {o : Nat} (hcfg : o ≠ rPortTdmCfg0 n) (hstat : o ≠ rPortTdmStat n) :
    (s.tdmCfgW n v).reg o = s.reg o := by
  have hrej : (s.tdmRej n).reg o = s.reg o := State.reg_setBit_other _ _ _ hstat
  have hset (w : Word) : (s.setReg (rPortTdmCfg0 n) w).reg o = s.reg o := State.reg_setReg_other _ _ hcfg
  have hnew (w : Word) (st : Nat) : (((s.setReg (rPortTdmCfg0 n) w).setTdmSt n st).setTdm n {}).reg o = s.reg o :=
    (State.reg_setFld_other _ _ _ _ hstat).trans (hset w)
  unfold State.tdmCfgW
  extract_lets r old w
  split
  · exact hrej
  split
  · split
    · exact hnew w 0
    · exact hrej
  split
  · exact hset w
  split
  · exact hnew w 1
  · exact hrej

theorem State.reg_convGrpW (s : State) (g : Nat) (v : Word) {o : Nat} (ho : o ≠ rConvGrp g) :
    (s.convGrpW g v).reg o = s.reg o := by
  unfold State.convGrpW
  extract_lets r u clamped w
  have hu : u.reg o = s.reg o := by
    dsimp only [u]
    split
    · exact State.reg_setBit_other _ _ _ ho
    · rfl
  have hw : w.reg o = u.reg o := by
    dsimp only [w]
    split
    · rfl
    · rfl
  split
  · exact (State.reg_setBit_other _ _ _ ho).trans hu
  · exact (State.reg_setFld_other _ _ _ _ ho).trans (hw.trans hu)

theorem State.reg_dacStart (s : State) (d : Nat) {o : Nat} (ho : o ≠ rConvDacStat) : (s.dacStart d).reg o = s.reg o := by
  unfold State.dacStart
  split
  · exact State.reg_dacRest _ _ _ ho
  · rfl

theorem State.reg_setXp (s : State) (n : Nat) (x : Xpoint) {o : Nat} (ho : o ≠ rRouteXpUsed) : (s.setXp n x).reg o = s.reg o := by
  unfold State.setXp State.setXps
  exact State.reg_setReg_other _ _ ho

/-- MINIMAL's path leaves its own control register alone. -/
theorem State.reg_minStart (s : State) : s.minStart.reg rBootMinCfg = s.reg rBootMinCfg := by
  unfold State.minStart
  extract_lets cons a b c stream d e f cross g h
  have ha : a.reg rBootMinCfg = s.reg rBootMinCfg := by
    rw [State.reg_resetBlock _ (by decide), State.reg_resetBlock _ (by decide), State.reg_resetBlock _ (by decide)]
  have hb : b.reg rBootMinCfg = a.reg rBootMinCfg := rfl
  have hc : c.reg rBootMinCfg = b.reg rBootMinCfg :=
    (State.reg_pllCtrlW _ _ _ (by decide) (by decide)).trans (State.reg_setReg_other _ _ (by decide))
  have hd : d.reg rBootMinCfg = c.reg rBootMinCfg := rfl
  have he : e.reg rBootMinCfg = d.reg rBootMinCfg :=
    (State.reg_tdmCfgW _ _ _ (by decide) (by decide)).trans (State.reg_setReg_other _ _ (by decide))
  have hf : f.reg rBootMinCfg = e.reg rBootMinCfg :=
    (State.reg_setFld_other _ _ _ _ (by decide)).trans (State.reg_convGrpW _ _ _ (by decide))
  have hcross (n a b : Nat) (u : State) : (cross n a b u).reg rBootMinCfg = u.reg rBootMinCfg := by
    exact State.reg_setXp u n _ (by decide)
  have hg : g.reg rBootMinCfg = f.reg rBootMinCfg := by
    dsimp only [g]
    rw [hcross, hcross, hcross, hcross]
  have hh : h.reg rBootMinCfg = g.reg rBootMinCfg :=
    (State.reg_dacStart _ _ (by decide)).trans (State.reg_dacStart _ _ (by decide))
  exact hh.trans (hg.trans (hf.trans (he.trans (hd.trans (hc.trans (hb.trans ha))))))

theorem State.minStart_fields (s : State) : s.minStart.mode.baseRun = true ∧ s.minStart.tick.gen.period = 25600 := by
  unfold State.minStart
  extract_lets cons a b c stream d e f cross g h
  clear_value h
  exact ⟨rfl, rfl⟩

theorem exec_minPathEnable {s : State} (hboot : s.mode.boot = 4) (hstarted : s.mode.started = false)
    (hen : s.rbit rBootMinCfg 31 = false) : ∃ t, exec .minPathEnable s = .next t ∧ t.rbit rBootMinCfg 31 = true ∧
      t.mode.baseRun = true ∧ t.tick.gen.period = 25600 := by
  have hset : bit (putBit (s.reg rBootMinCfg) 31 true) 31 = true := (bit_putBit _ _ _ _ (by decide)).trans (if_pos rfl)
  have hexec : exec .minPathEnable s =
      .next (s.setReg rBootMinCfg (putBit (s.reg rBootMinCfg) 31 true &&& 0x8000001F)).minStart := by
    change Host.Outcome.next (s.minCfgW (putBit (s.reg rBootMinCfg) 31 true)) = _
    unfold State.minCfgW
    rw [hen, hset]
    extract_lets was u
    have hmode : u.mode = s.mode := rfl
    rw [hmode, hboot, hstarted]
    rfl
  refine ⟨_, hexec, ?_, State.minStart_fields _⟩
  have hreg : (s.setReg rBootMinCfg (putBit (s.reg rBootMinCfg) 31 true &&& 0x8000001F)).reg rBootMinCfg = _ :=
    State.reg_setReg_same _ _ _
  rw [State.rbit, State.reg_minStart, hreg, bit, BitVec.getLsbD_and]
  exact (congrArg (· && _) hset).trans rfl

/-- Settles O50. -/
theorem trustRequests : Obligations.TrustRequests := by
  intro s late
  refine ⟨fun slot => ⟨fun h => exec_upd_busy h slot, fun h => exec_upd_idle h slot⟩, fun fuse => ?_, fun harb hmode =>
    ⟨⟨_, rfl, State.arbGo_fuse harb hmode⟩, fun hduk => ⟨_, rfl, State.arbGo_record harb hmode hduk⟩⟩,
    fun w => ⟨fun h => congrArg Host.Outcome.next (if_pos h), fun h => exec_otpPgm_idle h w⟩, fun data ok boot => ?_,
    fun level key => exec_newChal level key s, fun jtag => ⟨fun h => congrArg Host.Outcome.next (if_pos h), fun h =>
    exec_dbgGo_idle h jtag⟩, exec_dbgClose_open, fun h => ?_, fun h => congrArg Host.Outcome.next (if_pos h), fun h => ?_,
    fun k hk => exec_result_dbg hk, fun k hk => exec_result_otp hk, fun k hk => exec_result_upd hk,
      fun k hk => exec_result_arb hk,
    fun k hk => exec_result_mbx hk, fun sel => exec_dmExtend s sel, exec_minPathEnable⟩
  · intro c
    have hexec : exec c s = .next (s.arbGo fuse) := by
      cases fuse with
      | true => rfl
      | false => rfl
    rw [hexec]
    refine ⟨fun h => congrArg Host.Outcome.next (if_pos h), fun h hmode => ⟨_, rfl, ?_⟩⟩
    rw [State.arbGo_refused h hmode]
    exact ⟨s.arbTaken_bit fuse, rfl, rfl⟩
  · refine ⟨exec_mbx_unasked data ok boot, fun k hk hwaits hboot => ?_⟩
    obtain ⟨k', hk', hdone, hlate, hnone⟩ := State.mbxRead_some hk (s.mbxBundle data ok)
    refine ⟨_, k', exec_mbx_waiting data ok boot hk hwaits hboot, hk', hdone, fun hb => hlate (hboot.trans hb),
      fun hspis hok hb =>
      hnone (hboot.trans hb) ?_⟩
    simp [State.mbxBundle, hk, hspis, hok]
  · exact congrArg Host.Outcome.next (if_pos (by simp [h]))
  · exact congrArg Host.Outcome.next (if_neg (by omega))

end Sys2Proof.Machine

/-! O8: bank arbitration, crossings and the outbound port (R17 to R34, R265). A request served at a bank may count, correct and
report errors on its way: of the fabric, that changes only what waits at the outbound port. -/

namespace Sys2Proof.Machine

/-! ### What a report leaves of the fabric -/

/-- The fabric without the requests that wait at the outbound port: banks, crossings, what has been taken and sent. -/
def State.inner (s : State) : FabricState := { s.fab with outq := [] }

theorem State.inner_of_fab {s t : State} (h : t.fab = s.fab) : t.inner = s.inner := by rw [State.inner, h, State.inner]

theorem State.inner_ringWrite (s : State) (c a : Nat) (d : List Byte) : (s.ringWrite c a d).inner = s.inner := by
  unfold State.ringWrite
  split
  · exact State.inner_of_fab ((State.proxyWrite_kept (M := { ngx := true }) rfl (Kept.refl s)).fab rfl)
  · rfl

theorem State.inner_msixSend (s : State) (f n : Nat) : (s.msixSend f n).inner = s.inner := by
  unfold State.msixSend
  extract_lets fn e
  split
  · rfl
  split
  · rfl
  · rfl

theorem State.inner_ctxIrq (s : State) (c vec : Nat) : (s.ctxIrq c vec).inner = s.inner := by
  unfold State.ctxIrq
  split
  · rfl
  · exact s.inner_msixSend _ _

theorem State.inner_putRecord (s : State) (c seq status flags : Nat) (tag : BitVec 64) :
    (s.putRecord c seq status flags tag).inner = s.inner := s.inner_ringWrite _ _ _

theorem State.inner_eventNotice (s : State) (c : Nat) : (s.eventNotice c).inner = s.inner := by
  unfold State.eventNotice
  extract_lets x u v
  split
  · rfl
  split
  · exact (v.inner_ctxIrq _ _).trans (u.inner_putRecord _ _ _ _ _)
  · rfl

theorem State.inner_logEventAt (s : State) (sidx c kind eng seg detail : Nat) :
    (s.logEventAt sidx c kind eng seg detail).inner = s.inner := by
  unfold State.logEventAt
  split
  · rfl
  extract_lets x cls n t sr u fresh same e e' v w y z
  have hu : u.inner = s.inner := t.inner_ringWrite _ _ _
  have hw : w.inner = u.inner := v.inner_ringWrite _ _ _
  have hy : y.inner = u.inner := u.inner_ringWrite _ _ _
  split
  · exact (w.inner_eventNotice c).trans (hw.trans hu)
  split
  · exact (z.inner_eventNotice c).trans (hy.trans hu)
  · exact hu

theorem State.inner_tileOutcome (s : State) (br : Nat) : (s.tileOutcome br).inner = s.inner := by
  have hretire (t : Nat) : (s.retireTile t).inner = s.inner :=
    State.inner_of_fab ((State.retireTile_kept (M := { regs := true, cal := true }) rfl rfl (Kept.refl s)).fab rfl)
  have hlog (t o : Nat) : ((s.setTile t (4, o)).logEvent o 0x20 0xFF 0xFF t).inner = s.inner :=
    State.inner_logEventAt _ _ _ _ _ _ _
  unfold State.tileOutcome
  extract_lets t
  split
  · exact hretire t
  · exact hlog t _
  · exact hretire t
  · rfl

theorem State.inner_rowFailing (s : State) (br : Nat) : (s.rowFailing br).inner = s.inner := by
  unfold State.rowFailing
  split
  · rfl
  extract_lets c u
  have hu : u.inner = s.inner := rfl
  clear_value u
  split
  · exact (u.inner_tileOutcome br).trans hu
  · exact hu

theorem State.inner_setReg (s : State) (a : Nat) (v : Word) : (s.setReg a v).inner = s.inner := rfl

theorem State.inner_setBit (s : State) (a k : Nat) (v : Bool) : (s.setBit a k v).inner = s.inner := rfl

theorem State.inner_bump (s : State) (a lo len : Nat) : (s.bump a lo len).inner = s.inner := rfl

/-- The rows that ECC watches. -/
def State.withWatch (s : State) (l : List Watch) : State := { s with cal := { s.cal with watch := l } }

theorem State.inner_withWatch (s : State) (l : List Watch) : (s.withWatch l).inner = s.inner := rfl

theorem State.eccCorrect_eq (s : State) (w : Nat) : s.eccCorrect w =
    let t := (s.bump rCaldEccStat 0 16).bump (rCaldBankStat (calBank (8 * w))) 24 8
    let u := t.withWatch (watchTake t.cal.watch (calBankRow (8 * w)))
    if max 1 (u.rfld rCaldEccCtrl 0 8) ≤ ((u.cal.watch.find? fun x => x.row == calBankRow (8 * w)).map Watch.count).getD 0 then
      u.rowFailing (calBankRow (8 * w)) else u := rfl

theorem State.inner_eccCorrect (s : State) (w : Nat) : (s.eccCorrect w).inner = s.inner := by
  rw [State.eccCorrect_eq]
  extract_lets t u
  have hu : u.inner = s.inner := ((t.inner_withWatch _).trans (State.inner_bump ..)).trans (State.inner_bump ..)
  clear_value u
  split
  · exact (u.inner_rowFailing _).trans hu
  · exact hu

theorem State.inner_eccUncorrectable (s : State) (w m : Nat) : (s.eccUncorrectable w m).inner = s.inner :=
  ((State.inner_rowFailing _ _).trans (State.inner_setReg ..)).trans (State.inner_setBit ..)

theorem State.inner_eccRead (s : State) (w m : Nat) : (s.eccRead w m).2.inner = s.inner := by
  unfold State.eccRead
  split
  · rfl
  extract_lets v
  split
  · rfl
  · dsimp only
    split
    · rfl
    · exact s.inner_eccCorrect v
  · exact s.inner_eccUncorrectable v m

theorem State.inner_readUnitWords (s : State) (unit m : Nat) (ws : List Nat) : (s.readUnitWords unit m ws).2.inner = s.inner := by
  unfold State.readUnitWords
  extract_lets ecc r
  exact List.foldlRecOn (motive := fun a : List Nat × State => a.2.inner = s.inner) ecc _ rfl fun a ha w _ =>
    (State.inner_eccRead _ _ _).trans ha

theorem State.inner_calWrite (s : State) (a : Nat) (d : List Byte) (mask : Nat → Bool) (poison : Bool) (m : Nat) :
    (s.calWrite a d mask poison m).inner = s.inner := by
  have hecc (u : State) (w : Nat) (p : Bool) : (u.setEcc w p).inner = u.inner :=
    State.inner_of_fab ((State.setEcc_kept (M := { regs := true, cal := true }) rfl rfl (Kept.refl u)).fab rfl)
  have hput (u : State) (b : Nat) (v : Byte) : (u.calPut b v).inner = u.inner :=
    State.inner_of_fab ((State.calPut_kept (M := { cal := true, calMem := true }) rfl rfl (Kept.refl u)).fab rfl)
  unfold State.calWrite
  split
  · rfl
  extract_lets n touched whole u
  have hu : u.inner = s.inner := by
    refine foldl_keeps touched _ State.inner (fun t w => ?_) s
    dsimp only
    split
    · exact hecc _ _ _
    · exact (hecc _ _ _).trans (State.inner_eccRead _ _ _)
  refine (foldl_keeps (List.range n) _ State.inner (fun t j => ?_) u).trans hu
  split
  · exact hput _ _ _
  · rfl

theorem State.banks_of_inner {s t : State} (h : t.inner = s.inner) : t.fab.banks = s.fab.banks :=
  (congrArg FabricState.banks h : t.inner.banks = s.inner.banks)

theorem State.bank_of_banks {s t : State} (h : t.fab.banks = s.fab.banks) (b : Nat) : t.bank b = s.bank b := by
  rw [State.bank, h, State.bank]

/-! ### BANK_GRANT (R30, R34) -/

/-- A granted access serves its request and decides nothing at any bank. -/
theorem State.banks_serveGrant (s : State) (r : BankReq) : (s.serveGrant r).fab.banks = s.fab.banks := by
  have hleaves (u : State) (e : Nat) (x : FarEntry) : (u.farStoreLeaves e x).fab.banks = u.fab.banks := rfl
  have hstore (e : Nat) (x : FarEntry) : (s.storeEntry e x).fab.banks = s.fab.banks :=
    State.banks_of_inner (s.inner_calWrite _ _ _ _ _)
  unfold State.serveGrant
  cases r.kind with
  | farLoad e l p => exact State.banks_of_inner (s.inner_readUnitWords _ _ _)
  | farStore e x => exact (hleaves _ e x).trans (hstore e x)
  | other w => rfl

/-- The bank that a grant leaves: the request is gone, the access occupies it, and a floor grant has spent its credit. -/
def Bank.granted (x : Bank) (now : Nat) (r : BankReq) (floor : Bool) : Bank :=
  { x with
    reqs := x.reqs.erase r
    decided := none
    busyUntil := now + r.cycles
    credits := if floor then x.credits &&& ~~~(1#6 <<< r.cls) else x.credits
    floor := floor
    prevP0 := r.cls == 0
    grants := (x.grants.filter fun g => (x.reqs.erase r).any fun q => decide (q.arrival < g.1)) ++ [(now, r.master)] }

/-- The counters of a grant: the wait of its class, and a conflict with another master. -/
def State.grantCounted (s : State) (b : Nat) (grants : List (Nat × Nat)) (r : BankReq) : State :=
  let s := (s.hwm (rFabWaitHwm r.cls) 0 16 (s.now - r.arrival)).tallyMax (24 + r.cls) (s.now - r.arrival)
  match confMaster r.master with
  | some m => if conflicted grants r then (s.bump (rCaldConf b m) 0 16).tally (8 + b / 16) else s
  | none => s

theorem State.fab_grantCounted (s : State) (b : Nat) (grants : List (Nat × Nat)) (r : BankReq) :
    (s.grantCounted b grants r).fab = s.fab := by
  unfold State.grantCounted
  extract_lets t
  cases confMaster r.master with
  | none => rfl
  | some m =>
    dsimp only
    split
    · rfl
    · rfl

theorem exec_bankGrant_decided {s : State} {b : Fin 64} {r : BankReq} {floor : Bool} (hdec : (s.bank b).decided = some (r, floor))
    (hbusy : (s.bank b).busyUntil ≤ s.now) : exec (.bankGrant b) s =
      .next (((s.setBank b ((s.bank b).granted s.now r floor)).grantCounted b (s.bank b).grants r).serveGrant r) := by
  change execBankGrant b s = _
  unfold execBankGrant
  dsimp only
  rw [hdec]
  exact if_neg (by omega)

/-! ### Crossings and the outbound port (R17, R19, R33) -/

/-- What a word does that a crossing delivers. -/
def State.deliver (s : State) (k : Nat) (w : XWord) : State :=
  match w with
  | .far r => s.bankArrive r
  | .chain id => s.chainArrive id
  | .raw v => { s with fab := { s.fab with taken := (k, v) :: s.fab.taken } }

theorem exec_crossingDelivery_offered {s : State} {src dst : Fin 26} {w : XWord} {rest : List XWord}
    (hx : s.xing (xKey src dst) = w :: rest) (hsrc : s.clockStopped src = false) (hdst : s.clockStopped dst = false) :
    exec (.crossingDelivery src dst) s = .next ((s.setXing (xKey src dst) rest).deliver (xKey src dst) w) := by
  have hrun : ¬ (s.clockStopped src || s.clockStopped dst) = true := by
    rw [hsrc, hdst]
    decide
  change execCrossingDelivery src dst s = _
  unfold execCrossingDelivery
  dsimp only
  simp only [hx, if_neg hrun]
  cases w with
  | far r => rfl
  | chain id => rfl
  | raw v => rfl

theorem exec_crossingDelivery_stopped {s : State} {src dst : Fin 26} (h : (s.clockStopped src || s.clockStopped dst) = true) :
    exec (.crossingDelivery src dst) s = .next s := by
  change execCrossingDelivery src dst s = _
  unfold execCrossingDelivery
  extract_lets k
  cases s.xing k with
  | nil => rfl
  | cons w rest => exact if_pos h

/-- A request sent: it has left the queue of the outbound port. -/
def State.outSent (s : State) (r : OutReq) : State :=
  { s with
    fab := { s.fab with
      outq := s.fab.outq.erase r
      outRun := if r.cls ≤ 2 then s.fab.outRun + 1 else 0
      sent := s.fab.sent ++ [r] }
    pcie := { s.pcie with lastBusy := s.now } }

theorem exec_outboundPortGrant_chosen {s : State} {r : OutReq} (h : outChoose s.fab.outRun (s.fab.outq.filter s.mayGo) = some r) :
    ∃ t, exec .outboundPortGrant s = .next t ∧ t.fab = (s.outSent r).fab ∧ t.pcie.lastBusy = s.now := by
  change ∃ t, execOutboundPortGrant s = .next t ∧ _
  unfold execOutboundPortGrant
  rw [h]
  dsimp only
  cases r.tlp with
  | read f _ _ _ who => exact ⟨_, rfl, rfl, rfl⟩
  | write f _ _ _ => exact ⟨_, rfl, rfl, rfl⟩
  | msix f _ _ => exact ⟨_, rfl, rfl, rfl⟩
  | message f _ _ => exact ⟨_, rfl, rfl, rfl⟩

/-- Settles O8. -/
theorem fabricGrants : Obligations.FabricGrants := by
  intro s
  refine ⟨⟨_, rfl, fun b hb => ?_⟩, fun b hdec hbusy => ?_, fun b r floor hdec hbusy => ?_, fun src dst v rest hx hsrc hdst => ?_,
    fun src dst r rest hx hsrc hdst => ?_, fun src dst h => exec_crossingDelivery_stopped h, fun r h => ?_⟩
  · have hcredit := forN_pointwise (f := fun b s => s.setBank b (s.bank b).credit) (get := fun k (u : State) => u.bank k)
      (next := Bank.credit) (fun _ => True) (fun _ _ _ _ => trivial) (fun i _ u _ => (u.bank_setBank _ _ _).trans (if_pos rfl))
      (fun i _ j _ hj u _ => (u.bank_setBank _ _ _).trans (if_neg hj)) (s := s) trivial b hb
    exact hcredit
  · have hexec : exec (.grantDecision b) s = .next (s.setBank b { s.bank b with decided := (s.bank b).choose s.now }) :=
      if_neg (by simp [hdec]; omega)
    refine ⟨_, hexec, by rw [State.bank_setBank, if_pos rfl], fun k hk => by rw [State.bank_setBank, if_neg hk], rfl⟩
  · have hbank (k : Nat) : (((s.setBank b ((s.bank b).granted s.now r floor)).grantCounted b
      (s.bank b).grants r).serveGrant r).bank k =
        if k = b then (s.bank b).granted s.now r floor else s.bank k := by
      rw [State.bank_of_banks ((State.banks_serveGrant _ r).trans (congrArg FabricState.banks (State.fab_grantCounted _ _ _ _))),
        State.bank_setBank]
    refine ⟨_, exec_bankGrant_decided hdec hbusy, ?_⟩
    rw [hbank, if_pos rfl]
    exact ⟨rfl, rfl, rfl, rfl, rfl, fun k hk => (hbank k).trans (if_neg hk)⟩
  · refine ⟨_, exec_crossingDelivery_offered hx hsrc hdst, ?_, rfl⟩
    exact SMap.get_set_same ..
  · refine ⟨_, exec_crossingDelivery_offered hx hsrc hdst, ?_, ?_⟩
    · exact SMap.get_set_same ..
    · exact congrArg Bank.reqs ((State.bank_setBank _ _ _ _).trans (if_pos rfl))
  · obtain ⟨t, hexec, hfab, hbusy⟩ := exec_outboundPortGrant_chosen h
    exact ⟨t, hexec, by rw [hfab]; rfl, by rw [hfab]; rfl, by rw [hfab]; rfl, hbusy⟩

end Sys2Proof.Machine

/-! O9: D0's ticks (R43 to R53, R664, R665) and Keeper's supervision of D0's source (R519). The index and the generator are
moved by a few steps of the boundary; all that a tick sets going besides leaves them alone. -/

namespace Sys2Proof.Machine

/-! ### The steps of a tick that leave the tick's own state alone -/

def allButTick : Mask :=
  { regs := true, latches := true, rdata := true, eng := true, chainNow := true, chainId := true, chainFrz := true
    chainTorn := true, chainIn := true, fab := true, par := true, cal := true, res := true, ctx := true, mode := true
    route := true, mov := true, port := true, pcie := true, clk := true, keep := true, pwr := true, ngx := true
    boot := true, spim := true, spis := true, test := true, tap := true, gpio := true, calMem := true, flash := true
    tcm := true, fuse := true }

/-- The sample index and the generator. -/
def State.beat (s : State) : Nat × TickGen := (s.tick.sidx, s.tick.gen)

theorem State.beat_of_tick {s t : State} (h : t.tick = s.tick) : t.beat = s.beat := by rw [State.beat, h, State.beat]

theorem State.beat_setDom (s : State) (m : Nat) (x : DomGen) : (s.setDom m x).beat = s.beat := by
  unfold State.setDom
  split
  · rfl
  · rfl

theorem State.beat_domTick (s : State) (m : Nat) : (s.domTick m).2.beat = s.beat := by
  unfold State.domTick
  extract_lets k x n r ph x' a b src c dm d
  have ha : a.beat = s.beat := by
    dsimp only [a]
    split
    · rfl
    · rfl
  have hb : b.beat = s.beat := (a.beat_setDom m _).trans ha
  have hc : c.beat = b.beat := rfl
  have hd : d.beat = b.beat := (c.beat_setDom m _).trans hc
  clear_value d c b a
  split
  · rfl
  split
  · exact s.beat_setDom m _
  split
  · rfl
  split
  · exact hb
  · dsimp only
    split
    · exact hd.trans hb
    · exact hd.trans hb

theorem State.beat_tickFlags (s : State) : s.tickFlags.beat = s.beat := by
  have hflags : s.tickFlags.beat = ((s.domTick 1).2.domTick 2).2.beat := rfl
  exact hflags.trans ((State.beat_domTick _ 2).trans (s.beat_domTick 1))

theorem State.beat_domEpoch (s : State) (m : Nat) : (s.domEpoch m).beat = s.beat := by
  unfold State.domEpoch
  extract_lets r src t
  have ht : t.beat = s.beat := State.beat_setDom _ m {}
  exact ht

theorem State.beat_tickBoundary (before s : State) : (before.tickBoundary s).beat = s.beat := by
  unfold State.tickBoundary
  extract_lets prev a b k c d e f
  have ha : a.beat = s.beat :=
    (State.beat_of_tick ((State.tickPulses_kept (M := allButTick) rfl (Kept.refl s.tickFlags)).tick rfl)).trans s.beat_tickFlags
  have hc : c.beat = a.beat := rfl
  clear_value c a
  have hd : d.beat = c.beat := by
    dsimp only [d]
    split
    · exact State.beat_of_tick ((State.ckoApply_kept (M := allButTick) rfl rfl (Kept.refl c)).tick rfl)
    · rfl
  have he : e.beat = d.beat := State.beat_of_tick <|
    ((State.trackTrim_kept (M := allButTick) rfl (Kept.refl (d.slew.trackTrim 0))).tick rfl).trans <|
      ((State.trackTrim_kept (M := allButTick) rfl (Kept.refl d.slew)).tick rfl).trans
        ((State.slew_kept (M := allButTick) rfl (Kept.refl d)).tick rfl)
  have hf : f.beat = e.beat := State.beat_of_tick <|
    ((State.tickAudio_kept (M := allButTick) rfl rfl rfl rfl rfl rfl rfl rfl rfl rfl rfl
    (Kept.refl (e.tickCommits.chainFreeze prev))).tick rfl).trans <|
      ((State.chainFreeze_kept (M := allButTick) rfl rfl rfl (Kept.refl e.tickCommits)).tick rfl).trans
        ((State.tickCommits_kept (M := allButTick) rfl rfl rfl rfl rfl rfl rfl (Kept.refl e)).tick rfl)
  clear_value f e d
  refine Eq.trans (State.beat_of_tick ?_) (hf.trans (he.trans (hd.trans (hc.trans ha))))
  exact ((State.stopShed_kept (M := allButTick) rfl (Kept.refl f.shedDue.tickOffer)).tick rfl).trans <|
    ((State.tickOffer_kept (M := allButTick) rfl rfl rfl rfl rfl rfl rfl (Kept.refl f.shedDue)).tick rfl).trans
    ((State.shedDue_kept (M := allButTick) rfl rfl rfl rfl (Kept.refl f)).tick rfl)

/-! ### The tick (R43, R53) -/

theorem State.srcChange_beat (s : State) : s.srcChange.tick.sidx = s.tick.sidx ∧
    s.srcChange.tick.gen.lastTick = s.tick.gen.lastTick ∧ s.srcChange.tick.gen.period = s.tick.gen.period := by
  unfold State.srcChange
  extract_lets new old a b k c d e
  have ha : a.tick.sidx = s.tick.sidx ∧ a.tick.gen.lastTick = s.tick.gen.lastTick ∧ a.tick.gen.period = s.tick.gen.period :=
    ⟨rfl, rfl, rfl⟩
  have hc : c.tick = a.tick := rfl
  have he : d.tick = a.tick := rfl
  clear_value d c a
  split
  · exact ⟨rfl, rfl, rfl⟩
  split
  · rw [← hc] at ha
    exact ha
  split
  · rw [← he] at ha
    exact ha
  · exact ha

theorem State.tickSource_beat (s : State) : s.tickSource.tick.sidx = s.tick.sidx ∧
    s.tickSource.tick.gen.lastTick = s.tick.gen.lastTick ∧ s.tickSource.tick.gen.period = s.tick.gen.period := by
  unfold State.tickSource
  extract_lets new
  rw [(State.modeDo_parts s _ State.srcChange).tick rfl]
  exact s.srcChange_beat

theorem State.tickTime_beat (s : State) : s.tickTime.tick.sidx = s.tick.sidx ∧
    s.tickTime.tick.gen.lastTick = s.tick.gen.lastTick + s.tickTime.tick.gen.period := ⟨rfl, rfl⟩

theorem exec_d0Tick_run {s : State} (hpend : s.mode.runPend = false) (hrun : s.mode.baseRun = true)
    (hidle : s.tick.idleAtEnd = false) (hmin : s.minPath = false) : ∃ t, exec .d0Tick s = .next t ∧
      t.tick.sidx = s.tick.sidx + 1 ∧ t.tick.gen.lastTick = s.tick.gen.lastTick + t.tick.gen.period := by
  have hexec : exec .d0Tick s = .next s.runTick := by
    change execD0Tick s = _
    unfold execD0Tick
    rw [hpend, hrun, hidle, hmin]
    rfl
  refine ⟨_, hexec, ?_⟩
  unfold State.runTick
  extract_lets u before v tk w
  have hu : u.tick = s.tick := (State.computeSinks_kept (M := allButTick) rfl rfl (Kept.refl s)).tick rfl
  have hv : v.tick.sidx = u.tick.sidx ∧ v.tick.gen.lastTick = u.tick.gen.lastTick + v.tick.gen.period := by
    obtain ⟨h1, h2⟩ := u.settleTorn.tickTime_beat
    have hs : u.settleTorn.tick = u.tick := rfl
    rw [hs] at h1 h2
    exact ⟨h1, h2⟩
  have hw : w.tick.sidx = v.tick.sidx + 1 ∧ w.tick.gen = v.tick.gen := ⟨rfl, rfl⟩
  have hbefore : before = u := rfl
  rw [hbefore]
  clear_value w v u
  obtain ⟨h1, h2, h3⟩ := w.tickSource_beat
  have hb := u.beat_tickBoundary w.tickSource
  obtain ⟨hsidx, hgen⟩ := Prod.mk.inj hb
  rw [hsidx, hgen, h1, h2, h3, hw.1, hw.2, hv.1, hv.2, hu]
  exact ⟨rfl, rfl⟩

/-! ### The epoch tick and the end of a run (R50, R51, R664) -/

/-- The tick state with which the first tick after an accepted RUN begins. -/
def State.epochTick (s : State) (k : Nat) : TickState :=
  { gen := { s.tick.gen with lastTick := s.now, applied := s.now, firstEv := true, lastUsed := s.now, lastRecv := s.now }, sidx := k }

theorem State.epoch_beat (s : State) (k : Nat) : (s.epoch k).tick.sidx = k ∧ (s.epoch k).tick.gen.lastTick = s.now := by
  unfold State.epoch
  extract_lets a g0 g n0 b c d
  have hb : b.tick.sidx = k ∧ b.tick.gen.lastTick = s.now := ⟨rfl, rfl⟩
  have hc : c.beat = b.beat := (State.beat_domEpoch _ 2).trans (b.beat_domEpoch 1)
  obtain ⟨hsidx, hgen⟩ := Prod.mk.inj hc
  have hd : d.tick.sidx = c.tick.sidx ∧ d.tick.gen.lastTick = c.tick.gen.lastTick := by
    have hparts := (State.modeDo_parts c 0x04 fun s =>
      ({ s with mode := { s.mode with runPend := false, baseRun := true } } : State).srcChange).tick rfl
    obtain ⟨h1, h2, -⟩ := State.srcChange_beat { c with mode := { c.mode with runPend := false, baseRun := true } }
    dsimp only [d]
    rw [hparts]
    exact ⟨h1, h2⟩
  clear_value d c b
  have hdac : d.dacDomStart.tick = d.tick := (State.dacDomStart_kept (M := allButTick) rfl (Kept.refl d)).tick rfl
  obtain ⟨h1, h2⟩ := Prod.mk.inj (c.beat_tickBoundary d.dacDomStart)
  rw [h1, h2, hdac, hd.1, hd.2, hsidx, hgen]
  exact hb

theorem State.d0Stop_fields (s : State) : s.d0Stop.tick.sidx = 0 ∧ s.d0Stop.mode.baseRun = false := by
  unfold State.d0Stop
  extract_lets a b c d r e f
  have he : e.tick.sidx = 0 := rfl
  have hf : f.tick = e.tick := (State.dropDoubt_kept (M := allButTick) rfl rfl (Kept.refl e)).tick rfl
  clear_value f e
  have hstop (u : State) : u.restoreAll.dacDomStop.tick = u.tick ∧ u.restoreAll.dacDomStop.mode = u.mode := by
    have h1 : Kept { regs := true, fab := true, pwr := true } u u.restoreAll := State.restoreAll_kept rfl rfl rfl (Kept.refl u)
    have h2 : Kept { regs := true, port := true } u.restoreAll u.restoreAll.dacDomStop :=
      State.dacDomStop_kept rfl rfl (Kept.refl _)
    exact ⟨(h2.tick rfl).trans (h1.tick rfl), (h2.mode rfl).trans (h1.mode rfl)⟩
  have hparts := State.modeDo_parts f 0x04 fun s =>
    ({ s with mode := { s.mode with baseRun := false } } : State).restoreAll.dacDomStop
  rw [hparts.tick rfl, hparts.mode rfl, (hstop _).1, (hstop _).2]
  exact ⟨(congrArg TickState.sidx hf).trans he, rfl⟩

/-! ### Keeper's supervision of the source (R519, R521) -/

/-- The source lost: recorded as the previous one, and the holdover synthesiser chosen. -/
theorem State.k0Hold_lost {s : State} (hrun : s.mode.baseRun = true) (hpend : s.mode.runPend = false) (hsrc : s.curSrc 0 ≠ 0xA)
    (hlost : s.clk.lostNew = true) : s.k0Hold.rfld (rClkTickCtrl 0) 0 4 = 0xA ∧ s.k0Hold.rfld rClkHoldStat 4 4 = s.curSrc 0 ∧
      s.k0Hold.rbit rClkHoldStat 0 = s.rbit rClkHoldStat 0 := by
  unfold State.k0Hold
  extract_lets c pll why u
  have hhold (o : Nat) (ho : o = rClkHoldStat) : u.reg o = (s.setFld rClkHoldStat 4 4 c).reg o := by
    subst ho
    exact (State.reg_setReg_other _ _ (by decide)).trans (State.reg_setReg_other _ _ (by decide))
  rw [if_neg (by simp [State.d0Running, hrun, hpend, hlost, c, hsrc])]
  have hc : c < 16 := Nat.mod_lt _ (by decide)
  clear_value u
  have hreg : (u.setFld (rClkTickCtrl 0) 0 4 0xA).reg rClkHoldStat = (s.setFld rClkHoldStat 4 4 c).reg rClkHoldStat :=
    (State.reg_setFld_other _ _ _ _ (by decide)).trans (hhold _ rfl)
  refine ⟨State.rfld_setFld_same _ _ _ _ _ (by decide), ?_, ?_⟩
  · exact (congrArg (fld · 4 4) hreg).trans ((State.rfld_setFld_same _ _ _ _ _ (by decide)).trans (Nat.mod_eq_of_lt hc))
  · exact (congrArg (bit · 0) hreg).trans (State.rbit_setFld_other _ _ (.inr (.inl (by decide))))

theorem State.reg_k0Relock (s : State) {o : Nat} (ho : o < 0x020100 ∨ 0x020200 ≤ o) : s.k0Relock.reg o = s.reg o := by
  refine forN_keeps_lt 2 _ (State.reg · o) (fun x hx t => ?_) s
  have hctrl : o ≠ rClkPllCtrl x := by unfold rClkPllCtrl; omega
  have hstat : o ≠ pllStatReg x := by
    rw [pllStatReg_eq]
    omega
  dsimp only
  split
  · have hlock : (t.relock x).reg o = t.reg o := by
      unfold State.relock
      split
      · exact State.reg_acquire _ _ hctrl hstat
      · rfl
    exact hlock
  · rfl

theorem State.k0Clear_fields (s : State) : s.k0Clear.clk.lostNew = false ∧ s.k0Clear.regs = s.regs ∧ s.k0Clear.ngx = s.ngx := by
  have hkept : Kept { clk := true } s s.k0Clear := State.k0Clear_kept rfl (Kept.refl s)
  refine ⟨?_, hkept.regs rfl, hkept.ngx rfl⟩
  unfold State.k0Clear
  generalize forN 3 _ s = u
  rfl

theorem State.tdmReset_fields (s : State) (n : Nat) : (s.tdmReset n).clk = s.clk ∧ (s.tdmReset n).ngx = s.ngx ∧
    ∀ o, o ≠ rPortTdmStat n → (s.tdmReset n).reg o = s.reg o := by
  unfold State.tdmReset
  extract_lets x
  split
  · exact ⟨rfl, rfl, fun _ ho => State.reg_setFld_other _ _ _ _ ho⟩
  · exact ⟨rfl, rfl, fun _ _ => rfl⟩

theorem exec_k0Run_lost {s : State} (hkeep : s.keeperRuns = true) (hrun : s.mode.baseRun = true) (hpend : s.mode.runPend = false)
    (hsrc : s.curSrc 0 ≠ 0xA) (hlost : s.clk.lostNew = true) (hhold : s.rbit rClkHoldStat 0 = false)
    (hrejoin : s.ngx.rejoin = false) : ∃ t, exec .k0Run s = .next t ∧ t.rfld (rClkTickCtrl 0) 0 4 = 0xA ∧
      t.rfld rClkHoldStat 4 4 = s.curSrc 0 ∧ t.clk.lostNew = false := by
  have hexec : exec .k0Run s = .next (forN 6 (fun n s => s.tdmReset n) s.k0Hold.k0Relock.k0Clear.k0Return).k0Rejoin := by
    change execK0Run s = _
    exact congrArg Host.Outcome.next (if_neg (by rw [hkeep]; decide))
  obtain ⟨hctrl, hprev, hbit⟩ := State.k0Hold_lost hrun hpend hsrc hlost
  have hngx : s.k0Hold.k0Relock.ngx = s.ngx := by
    have h1 : Kept { regs := true, clk := true } s s.k0Hold.k0Relock :=
      State.k0Relock_kept rfl rfl (State.k0Hold_kept rfl rfl (Kept.refl s))
    exact h1.ngx rfl
  have hregs (o : Nat) (ho : o < 0x020100 ∨ 0x020200 ≤ o) : s.k0Hold.k0Relock.reg o = s.k0Hold.reg o := State.reg_k0Relock _ ho
  have hctrl' := (congrArg (fld · 0 4) (hregs (rClkTickCtrl 0) (by decide))).trans hctrl
  have hprev' := (congrArg (fld · 4 4) (hregs rClkHoldStat (by decide))).trans hprev
  have hbit' := (congrArg (bit · 0) (hregs rClkHoldStat (by decide))).trans (hbit.trans hhold)
  generalize s.k0Hold.k0Relock = u at *
  obtain ⟨hnew, hregs', hngx'⟩ := u.k0Clear_fields
  have hreturn : u.k0Clear.k0Return = u.k0Clear := by
    have hoff : u.k0Clear.rbit rClkHoldStat 0 = false := (congrArg (fun m => bit (SMap.get regReset m _) 0) hregs').trans hbit'
    unfold State.k0Return State.prevOk
    rw [if_neg (by simp [hoff])]
  rw [hreturn] at hexec
  have hv : (forN 6 (fun n s => s.tdmReset n) u.k0Clear).clk = u.k0Clear.clk :=
    forN_keeps 6 _ State.clk (fun n t => (t.tdmReset_fields n).1) _
  have hvn : (forN 6 (fun n s => s.tdmReset n) u.k0Clear).ngx = u.k0Clear.ngx :=
    forN_keeps 6 _ State.ngx (fun n t => (t.tdmReset_fields n).2.1) _
  have hvr (o : Nat) (ho : o < 0x0D0000) : (forN 6 (fun n s => s.tdmReset n) u.k0Clear).reg o = u.reg o :=
    (forN_keeps 6 _ (State.reg · o) (fun n t => (t.tdmReset_fields n).2.2 o (by unfold rPortTdmStat; omega)) _).trans
      (congrArg (SMap.get regReset · o) hregs')
  generalize forN 6 (fun n s => s.tdmReset n) u.k0Clear = v at *
  have hrej : v.k0Rejoin = v := by
    unfold State.k0Rejoin
    rw [hvn, hngx', hngx, hrejoin]
    rfl
  rw [hrej] at hexec
  exact ⟨v, hexec, (congrArg (fld · 0 4) (hvr _ (by decide))).trans hctrl',
    (congrArg (fld · 4 4) (hvr _ (by decide))).trans hprev',
    (congrArg ClkState.lostNew hv).trans hnew⟩

/-- Settles O9. -/
theorem ticks : Obligations.Ticks := by
  intro s
  refine ⟨exec_d0Tick_run, fun hpend hsrc => ?_, fun hpend hrun hidle => ?_, fun hpend hrun => ?_, exec_k0Run_lost, fun h => ?_⟩
  · have hexec : exec .d0Tick s = .next (s.epoch (s.reg64 rClkSidxStartLo)) := by
      change execD0Tick s = _
      unfold execD0Tick
      rw [hpend, if_pos rfl, if_neg hsrc]
    obtain ⟨h1, h2⟩ := s.epoch_beat (s.reg64 rClkSidxStartLo)
    exact ⟨_, hexec, h1, h2⟩
  · have hexec : exec .d0Tick s = .next s.d0Stop := by
      change execD0Tick s = _
      unfold execD0Tick
      rw [hpend, hrun, hidle]
      rfl
    obtain ⟨h1, h2⟩ := s.d0Stop_fields
    exact ⟨_, hexec, h1, h2⟩
  · change execD0Tick s = _
    unfold execD0Tick
    rw [hpend, hrun]
    rfl
  · change execK0Run s = _
    unfold execK0Run
    rw [h]
    rfl

end Sys2Proof.Machine

/-! O10: sources of ticks, their loss and the tick registers (R44 to R48, R62 to R68). -/

namespace Sys2Proof.Machine

/-! ### The registers (R62 to R68) -/

theorem exec_sidxLoRead_running {s : State} (hrun : s.d0Running = true) (hstarted : s.mode.started = true)
    (hpend : s.mode.runPend = false) : ∃ t, exec .sidxLoRead s = .next t ∧ t.rdata = BitVec.ofNat 32 s.tick.sidx ∧
      SMap.get (fun _ => 0) t.latches rClkSidxHi = BitVec.ofNat 32 (s.tick.sidx / 2 ^ 32) ∧ t.regs = s.regs := by
  have hruns : (s.d0Running && s.mode.started && !s.mode.runPend) = true := by
    rw [hrun, hstarted, hpend]
    rfl
  refine ⟨_, rfl, ?_, ?_, rfl⟩
  · unfold State.sidxRead
    rw [hruns]
    rfl
  · unfold State.sidxRead
    rw [hruns]
    exact (SMap.get_set _ _ _ _).trans ((if_neg (by decide)).trans (SMap.get_set_same _ _ _))

theorem State.tickCtrlW_taken {s : State} {v : Word} (hmode : s.modeCode = 5) (h3 : fld v 4 3 ≠ 3) (h7 : fld v 4 3 ≠ 7)
    (hsrc : s.srcOk 0 (fld v 0 4) (fld v 4 3) = true) :
    s.tickCtrlW 0 v = s.setReg (rClkTickCtrl 0) ((s.reg (rClkTickCtrl 0) &&& 0x80000000) ||| (v &&& 0x7F)) := by
  unfold State.tickCtrlW
  rw [if_pos rfl]
  exact if_neg (by simp [hmode, h3, h7, hsrc])

theorem State.tickCtrlW_rejected {s : State} {v : Word} (hmode : s.modeCode ≠ 5)
    (hrate : fld v 4 3 ≠ s.rfld (rClkTickCtrl 0) 4 3) :
    s.tickCtrlW 0 v = s.setBit (rClkTickStat 0) 10 true := by
  have hrate' : fld v 4 3 ≠ fld (s.reg (rClkTickCtrl 0)) 4 3 := hrate
  unfold State.tickCtrlW
  rw [if_pos rfl]
  exact if_pos (by simp [hmode, hrate'])

theorem rClkTickStat_ne_ctrl (m : Nat) : rClkTickStat m ≠ rClkTickCtrl m := by
  unfold rClkTickStat rClkTickCtrl
  omega

theorem State.tickCtrlW_domain {s : State} {m : Nat} (hm : m ≠ 0) {v : Word} (hmode : s.modeCode = 5) (hdiv : fld v 8 3 ≤ 5)
    (hphase : fld v 12 4 < divOf (fld v 8 3)) (hsrc : s.srcOk m (fld v 0 4) 0 = true) :
    (s.tickCtrlW m v).reg (rClkTickCtrl m) = v &&& 0x8000F70F ∧
      (s.curSrc m = 0xB → (s.tickCtrlW m v).rfld (rClkTickStat m) 16 4 = fld v 12 4) := by
  have hne := rClkTickStat_ne_ctrl m
  have hw : s.tickCtrlW m v =
      if (s.setReg (rClkTickCtrl m) (v &&& 0x8000F70F)).curSrc m = 0xB then
        (s.setReg (rClkTickCtrl m) (v &&& 0x8000F70F)).setFld (rClkTickStat m) 16 4 (fld v 12 4)
      else s.setReg (rClkTickCtrl m) (v &&& 0x8000F70F) := by
    unfold State.tickCtrlW
    rw [if_neg hm]
    exact if_neg (by simp [hmode, hsrc, Nat.not_lt.mpr hdiv, Nat.not_le.mpr hphase])
  have hcur : (s.setReg (rClkTickCtrl m) (v &&& 0x8000F70F)).curSrc m = s.curSrc m :=
    congrArg (fld · 0 4) (State.reg_setReg_other _ _ hne)
  rw [hw, hcur]
  refine ⟨?_, fun hb => ?_⟩
  · split
    · rw [State.reg_setFld_other _ _ _ _ hne.symm, State.reg_setReg_same]
    · rw [State.reg_setReg_same]
  · rw [if_pos hb]
    exact (State.rfld_setFld_same _ _ _ _ _ (by decide)).trans (Nat.mod_eq_of_lt (Nat.mod_lt _ (by decide)))

/-! ### Source events of D0 (R44 to R46) -/

/-- Leaving LOCKED: the count of events in range starts again, and the bit is clear. -/
theorem State.unlock_fields (s : State) : s.unlock.rbit (rClkTickStat 0) 4 = false ∧
    s.unlock.tick = { s.tick with gen := { s.tick.gen with run16 := 0 } } ∧
    ∀ b, b ≠ 4 → b ≠ 9 → s.unlock.rbit (rClkTickStat 0) b = s.rbit (rClkTickStat 0) b := by
  unfold State.unlock
  extract_lets t
  have ht : t.tick = { s.tick with gen := { s.tick.gen with run16 := 0 } } := rfl
  have hbit (b : Nat) : t.rbit (rClkTickStat 0) b = s.rbit (rClkTickStat 0) b := rfl
  clear_value t
  split
  · refine ⟨?_, ht, fun b h4 h9 => ?_⟩
    · exact (State.rbit_setBit _ _ _ _ _ _ (by decide)).trans
        ((if_neg (by decide)).trans (State.rbit_setBit_same _ _ _ _ (by decide)))
    · rw [State.rbit_setBit _ _ _ _ _ _ (by decide), if_neg (by omega), State.rbit_setBit _ _ _ _ _ _ (by decide),
        if_neg (by omega), hbit]
  next h => exact ⟨by simpa using h, ht, fun b _ _ => hbit b⟩

theorem exec_srcLost_due {s : State} (hrun : s.d0Running = true) (hpend : s.mode.runPend = false)
    (hfly : s.rbit (rClkTickStat 0) 5 = false)
    (hlate : 3 * 1228800000 ≤ 2 * (s.now - max s.tick.gen.lastUsed s.tick.gen.applied) * s.srcHz (s.curSrc 0)) :
    ∃ t, exec .srcLost s = .next t ∧ t.rbit (rClkTickStat 0) 5 = true ∧ t.rbit (rClkTickStat 0) 8 = true ∧
      t.rbit (rClkTickStat 0) 4 = false ∧ t.tick.gen.run16 = 0 := by
  have hdue : (s.d0Running && !s.mode.runPend && !(s.rbit (rClkTickStat 0) 5) && decide (3 * 1228800000 ≤
      2 * (s.now - max s.tick.gen.lastUsed s.tick.gen.applied) * s.srcHz (s.curSrc 0))) = true := by
    rw [hrun, hpend, hfly, decide_eq_true hlate]
    rfl
  refine ⟨_, if_pos hdue, ?_⟩
  have h5 : ((s.setBit (rClkTickStat 0) 5 true).setBit (rClkTickStat 0) 8 true).rbit (rClkTickStat 0) 5 = true := by
    rw [State.rbit_setBit _ _ _ _ _ _ (by decide), if_neg (by decide), State.rbit_setBit_same _ _ _ _ (by decide)]
  have h8 : ((s.setBit (rClkTickStat 0) 5 true).setBit (rClkTickStat 0) 8 true).rbit (rClkTickStat 0) 8 = true :=
    State.rbit_setBit_same _ _ _ _ (by decide)
  generalize (s.setBit (rClkTickStat 0) 5 true).setBit (rClkTickStat 0) 8 true = u at *
  obtain ⟨h4, htick, hbits⟩ := u.unlock_fields
  exact ⟨(hbits 5 (by decide) (by decide)).trans h5, (hbits 8 (by decide) (by decide)).trans h8, h4,
    congrArg (fun k => k.gen.run16) htick⟩

theorem clampN_bounds {lo hi : Nat} (h : lo ≤ hi) (v : Nat) : lo ≤ clampN lo hi v ∧ clampN lo hi v ≤ hi := by
  unfold clampN
  split
  · omega
  · split
    · omega
    · omega

/-- The generator after a used event, before LOCKED is looked at. -/
def TickGen.used (g : TickGen) (now : Nat) (est : Nat) (e : Int) : TickGen :=
  { g with f := est, err := e, firstEv := false, lastUsed := now, lastRecv := now
           run16 := if e.natAbs ≤ 8 then min 16 (g.run16 + 1) else 0 }

/-- The new estimate of F: a free value within ±5 % of nominal. -/
def State.newEstimate (s : State) : Nat :=
  clampN (1228800000 * 256 / s.d0Rate * 19 / 20) (1228800000 * 256 / s.d0Rate * 21 / 20) (s.draw.1.toNat % 2 ^ 24)

/-- An event taken into the generator. -/
def State.eventUsed (s : State) (e : Int) : State :=
  (s.draw.2.setBit (rClkTickStat 0) 5 false).modGen fun g => g.used s.now s.newEstimate e

theorem State.eventUsed_fields (s : State) (e : Int) : (s.eventUsed e).tick.gen = s.tick.gen.used s.now s.newEstimate e ∧
    (s.eventUsed e).rbit (rClkTickStat 0) 5 = false :=
  ⟨rfl, State.rbit_setBit_same _ _ _ _ (by decide)⟩

theorem State.useEvent_eq (s : State) (src : Nat) : s.useEvent src =
    if 16 ≤ (s.eventUsed (s.phaseErr src)).tick.gen.run16 then (s.eventUsed (s.phaseErr src)).setBit (rClkTickStat 0) 4 true
    else if 32 < (s.phaseErr src).natAbs then (s.eventUsed (s.phaseErr src)).unlock else s.eventUsed (s.phaseErr src) := rfl

/-- A used event ends flywheel operation and moves the estimate within its bounds. -/
theorem State.useEvent_fields (s : State) (src : Nat) : let t := s.useEvent src
    t.rbit (rClkTickStat 0) 5 = false ∧ t.tick.gen.firstEv = false ∧ t.tick.gen.lastUsed = s.now ∧
    t.tick.gen.err = s.phaseErr src ∧ 1228800000 * 256 / s.d0Rate * 19 / 20 ≤ t.tick.gen.f ∧
    t.tick.gen.f ≤ 1228800000 * 256 / s.d0Rate * 21 / 20 := by
  intro t
  dsimp only [t]
  rw [State.useEvent_eq]
  obtain ⟨hgen, h5⟩ := s.eventUsed_fields (s.phaseErr src)
  generalize s.eventUsed (s.phaseErr src) = v at *
  have hbounds := clampN_bounds (lo := 1228800000 * 256 / s.d0Rate * 19 / 20) (hi := 1228800000 * 256 / s.d0Rate * 21 / 20)
    (by omega) (s.draw.1.toNat % 2 ^ 24)
  have hused (g : TickGen) (h : g = { s.tick.gen.used s.now s.newEstimate (s.phaseErr src) with run16 := g.run16 }) :
      g.firstEv = false ∧ g.lastUsed = s.now ∧ g.err = s.phaseErr src ∧ 1228800000 * 256 / s.d0Rate * 19 / 20 ≤ g.f ∧
        g.f ≤ 1228800000 * 256 / s.d0Rate * 21 / 20 := by
    rw [h]
    exact ⟨rfl, rfl, rfl, hbounds⟩
  split
  · refine ⟨?_, hused _ ?_⟩
    · exact (State.rbit_setBit _ _ _ _ _ _ (by decide)).trans ((if_neg (by decide)).trans h5)
    · change v.tick.gen = { s.tick.gen.used s.now s.newEstimate (s.phaseErr src) with run16 := v.tick.gen.run16 }
      rw [hgen]
  split
  · obtain ⟨-, htick, hbits⟩ := v.unlock_fields
    refine ⟨(hbits 5 (by decide) (by decide)).trans h5, hused _ ?_⟩
    rw [htick, hgen]
  · exact ⟨h5, hused _ (by rw [hgen])⟩

theorem exec_sourceEvent_first {s : State} (x : Fin 2) (r : BitVec 32) (hpll : s.rfld (rClkPllStat x) 0 2 ≠ 0)
    (hrun : s.d0Running = true) (hpend : s.mode.runPend = false) (hsrc : s.curSrc 0 = x.val)
    (hfirst : s.tick.gen.firstEv = true) :
    exec (.sourceEvent (x.castLE (by decide)) r) s = .next (s.useEvent x) := by
  have hevent : s.sourceEvent x.val = s.useEvent x.val := by
    unfold State.sourceEvent
    rw [hrun, hpend, hsrc, if_pos (by simp)]
    exact if_pos (by simp [hfirst])
  rw [← hevent]
  obtain ⟨i, hi⟩ := x
  obtain rfl | rfl : i = 0 ∨ i = 1 := by omega
  · have hexec : exec (.sourceEvent 0 r) s = .next (if s.rfld (rClkPllStat 0) 0 2 = 0 then s else s.sourceEvent 0) := rfl
    rw [if_neg hpll] at hexec
    exact hexec
  · have hexec : exec (.sourceEvent 1 r) s = .next (if s.rfld (rClkPllStat 1) 0 2 = 0 then s else s.sourceEvent 1) := rfl
    rw [if_neg hpll] at hexec
    exact hexec

/-! ### Source events of D1 and D2 (R48) -/

theorem State.dom_setDom (s : State) {m : Nat} (hm : m = 1 ∨ m = 2) (x : DomGen) : (s.setDom m x).dom m = x := by
  obtain rfl | rfl := hm
  · rfl
  · rfl

theorem State.rbit_setDom (s : State) (m : Nat) (x : DomGen) (o b : Nat) : (s.setDom m x).rbit o b = s.rbit o b := by
  unfold State.setDom
  split
  · rfl
  · rfl

/-- The distance of an event from the tick of domain `m` that it should meet, that tick's index being `k`. -/
def State.domOff (s : State) (m k : Nat) : Int :=
  let since := (s.tick.sidx - k) * s.tick.gen.period + (s.now - s.tick.gen.lastTick)
  let full := s.domDiv m * s.tick.gen.period
  if 2 * since ≤ full then since else (since : Int) - full

theorem exec_dmSourceEvent_off {s : State} (m : Fin 2) {k : Nat} (hruns : s.domRuns (m + 1) = true)
    (hsrc : s.curSrc (m + 1) ≠ 0xB)
    (hlast : (s.dom (m + 1)).last = some k) (hoff : s.tick.gen.period < 2 * (s.domOff (m + 1) k).natAbs) :
    exec (.dmSourceEvent m) s = .next
      (((s.setBit (rClkTickStat (m + 1)) 9 true).setBit (rClkTickStat (m + 1)) 4 false).setDom (m + 1)
        { s.dom (m + 1) with run16 := 0, move := if 0 < s.domOff (m + 1) k then 1 else -1 }) := by
  change execDmSourceEvent m s = _
  unfold execDmSourceEvent
  dsimp only
  rw [if_neg (by simp [hruns, hsrc]), hlast]
  exact if_pos hoff

/-- Settles O10. -/
theorem tickSources : Obligations.TickSources := by
  intro s
  refine ⟨exec_sidxLoRead_running, fun v hmode h3 h7 hsrc => congrArg Host.Outcome.next (State.tickCtrlW_taken hmode h3 h7 hsrc),
    fun v hmode hrate => congrArg Host.Outcome.next (State.tickCtrlW_rejected hmode hrate), fun m v hm hmode hdiv hphase hsrc =>
    ⟨_, rfl, State.tickCtrlW_domain (fun h => hm (Fin.ext h)) hmode hdiv hphase hsrc⟩, exec_srcLost_due,
    fun x r hpll hrun hpend hsrc hfirst => ⟨_, exec_sourceEvent_first x r hpll hrun hpend hsrc hfirst, s.useEvent_fields x⟩,
    fun m k hruns hsrc hlast => ?_⟩
  intro P since full off hoff
  refine ⟨_, exec_dmSourceEvent_off m hruns hsrc hlast hoff, ?_, ?_, ?_⟩
  · rw [State.rbit_setDom]
    exact (State.rbit_setBit _ _ _ _ _ _ (by decide)).trans
      ((if_neg (by omega)).trans (State.rbit_setBit_same _ _ _ _ (by decide)))
  · rw [State.rbit_setDom]
    exact State.rbit_setBit_same _ _ _ _ (by decide)
  · rw [State.dom_setDom _ (by omega)]
    exact ⟨rfl, rfl⟩

end Sys2Proof.Machine

/-! O20: PROG_LOAD, SEG_MAP and PROG_SWAP (R160, R205 to R209, R381). What an image leaves in a program bank and what entries
leave in a table is said once for the loops that write them. -/

namespace Sys2Proof.Machine

theorem forN_succ {σ : Type} (n : Nat) (f : Nat → σ → σ) (s : σ) : forN (n + 1) f s = f n (forN n f s) := by
  unfold forN
  rw [List.range_succ, List.foldl_append]
  rfl

/-! ### Program banks -/

/-- The word at an address of an engine's program memory. -/
def Engine.progAt (x : Engine) (e a : Nat) : IWord := SMap.get (progDefault e x) x.prog a

/-- One word put into the program memory. -/
def Engine.putProg (x : Engine) (e a : Nat) (w : IWord) : Engine :=
  { x with prog := SMap.set (progDefault e x) x.prog a w, progErr := SMap.set (fun _ => 0) x.progErr a 0 }

theorem Engine.progAt_putProg (x : Engine) (e a b : Nat) (w : IWord) :
    (x.putProg e a w).progAt e b = if b = a then w else x.progAt e b :=
  SMap.get_set _ _ _ _

/-- A run of words put there from an address on. -/
theorem Engine.progAt_image (x : Engine) (e base : Nat) (image : List IWord) (n a : Nat) :
    ((List.range n).foldl (fun (x : Engine) k => x.putProg e (base + k) (image.getD k 0)) x).progAt e a =
      if base ≤ a ∧ a < base + n then image.getD (a - base) 0 else x.progAt e a := by
  induction n with
  | zero => rw [List.range_zero, List.foldl_nil, if_neg (by omega)]
  | succ n ih =>
    rw [List.range_succ, List.foldl_append, List.foldl_cons, List.foldl_nil, Engine.progAt_putProg, ih]
    by_cases ha : a = base + n
    · rw [if_pos ha, if_pos (by omega), ha, Nat.add_sub_cancel_left]
    · rw [if_neg ha]
      exact ite_congr (propext (by omega)) (fun _ => rfl) fun _ => rfl

/-- A load of an image into a bank. -/
theorem Engine.progAt_load (x : Engine) (e : Nat) (bk : Bool) (pc : Nat) (image : List IWord) (n0 : Nat)
    (dlds : List (BitVec 128))
    (a : Nat) : (x.load e bk pc image n0 dlds).progAt e a =
      if (if bk then 16384 else 0) + pc ≤ a ∧ a < (if bk then 16384 else 0) + pc + image.length then
        image.getD (a - ((if bk then 16384 else 0) + pc)) 0 else x.progAt e a :=
  x.progAt_image e ((if bk then 16384 else 0) + pc) image image.length a

theorem State.progWord_eq (s : State) (e : Nat) (bk : Bool) (a : Nat) :
    s.progWord e bk a = (s.engine e).progAt e ((if bk then 16384 else 0) + a) := rfl

/-- What a load leaves in the bank that it names and in the other. -/
theorem State.progWord_loaded {s t : State} {e : Nat} {bk : Bool} {pc : Nat} {image : List IWord} {n0 : Nat} {dlds : List (BitVec 128)}
    (ht : t.engine e = (s.engine e).load e bk pc image n0 dlds) (hpc : pc + image.length ≤ 16384) :
    (∀ k, k < image.length → t.progWord e bk (pc + k) = image.getD k 0) ∧
    (∀ a, a < 16384 → t.progWord e (!bk) a = s.progWord e (!bk) a) := by
  refine ⟨fun k hk => ?_, fun a ha => ?_⟩
  · rw [State.progWord_eq, ht, Engine.progAt_load, if_pos (by omega)]
    congr 1
    omega
  · rw [State.progWord_eq, ht, Engine.progAt_load, if_neg, State.progWord_eq]
    cases bk with
    | true => simp; omega
    | false => simp; omega

/-! ### Segment tables -/

theorem Engine.segWord_setSegWord (x : Engine) {i j w n : Nat} (hi : i < 33) (hj : j < 33) (hw : w < 8) (hn : n < 8) (v : Word) :
    (x.setSegWord false i w v).segWord false j n = (if j = i ∧ n = w then v else x.segWord false j n) ∧
    (x.setSegWord false i w v).segWord true j n = x.segWord true j n := by
  have hset (k : Nat) : SMap.get (fun _ => 0) (x.setSegWord false i w v).stab k =
      if k = (if false == x.actTab then 0x200 else 0) + 8 * i + w then v else SMap.get (fun _ => 0) x.stab k :=
        SMap.get_set _ _ _ _
  have hact : (x.setSegWord false i w v).actTab = x.actTab := rfl
  unfold Engine.segWord
  rw [hact, hset, hset]
  refine ⟨ite_congr (propext (by omega)) (fun _ => rfl) fun _ => rfl, if_neg ?_⟩
  cases x.actTab with
  | true => simp; omega
  | false => simp; omega

/-- The eight words of an entry written into the standby table. -/
def Engine.setEntry (x : Engine) (i : Nat) (v : Nat → Word) : Engine := forN 8 (fun n x => x.setSegWord false i n (v n)) x

theorem Engine.segWord_setEntry (x : Engine) {i j n : Nat} (hi : i < 33) (hj : j < 33) (hn : n < 8) (v : Nat → Word) :
    (x.setEntry i v).segWord false j n = (if j = i then v n else x.segWord false j n) ∧
    (x.setEntry i v).segWord true j n = x.segWord true j n := by
  have upto : ∀ m ≤ 8, (forN m (fun n x => x.setSegWord false i n (v n)) x).segWord false j n =
      (if j = i ∧ n < m then v n else x.segWord false j n) ∧
      (forN m (fun n x => x.setSegWord false i n (v n)) x).segWord true j n = x.segWord true j n := by
    intro m
    induction m with
    | zero => exact fun _ => ⟨(if_neg (by omega)).symm, rfl⟩
    | succ m ih =>
      intro hm
      obtain ⟨h1, h2⟩ := ih (by omega)
      obtain ⟨h3, h4⟩ := (forN m (fun n x => x.setSegWord false i n (v n)) x).segWord_setSegWord hi hj
        (show m < 8 by omega) hn (v m)
      rw [forN_succ, h3, h4, h1, h2]
      refine ⟨?_, rfl⟩
      by_cases hnm : j = i ∧ n = m
      · obtain ⟨hji, rfl⟩ := hnm
        rw [if_pos ⟨hji, rfl⟩, if_pos (by omega)]
      · rw [if_neg hnm]
        exact ite_congr (propext (by omega)) (fun _ => rfl) fun _ => rfl
  obtain ⟨h1, h2⟩ := upto 8 (Nat.le_refl 8)
  exact ⟨h1.trans (ite_congr (propext (by omega)) (fun _ => rfl) fun _ => rfl), h2⟩

/-- The entries of a SEG_MAP written into the standby table. -/
theorem Engine.segWord_entries (es : List Nat) (hes : ∀ i ∈ es, i < 33) (img : Nat → Nat → Word) {j n : Nat} (hj : j < 33)
    (hn : n < 8)
    (x : Engine) : (es.foldl (fun x i => x.setEntry i (img i)) x).segWord false j n =
      (if es.contains j then img j n else x.segWord false j n) ∧
    (es.foldl (fun x i => x.setEntry i (img i)) x).segWord true j n = x.segWord true j n := by
  induction es generalizing x with
  | nil => exact ⟨(if_neg (by simp)).symm, rfl⟩
  | cons i es ih =>
    obtain ⟨h1, h2⟩ := ih (fun k hk => hes k (List.mem_cons_of_mem i hk)) (x.setEntry i (img i))
    obtain ⟨h3, h4⟩ := x.segWord_setEntry (hes i (List.mem_cons_self ..)) hj hn (img i)
    rw [List.foldl_cons, h1, h2, h3, h4]
    refine ⟨?_, rfl⟩
    by_cases hji : j = i
    · subst hji
      rw [if_pos rfl, ite_self, if_pos (by simp)]
    · rw [if_neg hji]
      exact ite_congr (propext (by simp [hji])) (fun _ => rfl) fun _ => rfl

/-! ### Requests for a swap -/

/-- An engine with a request for a swap added. -/
def Engine.asked (x : Engine) (pb st : Bool) (r : SwapReq) : Engine :=
  { x with swapPb := if pb then x.swapPb ++ [r] else x.swapPb, swapSt := if st then x.swapSt ++ [r] else x.swapSt }

theorem State.engine_requestSwap (s : State) (e : Nat) (pb st : Bool) (r : SwapReq) (k : Nat) :
    (s.requestSwap e pb st r).engine k = if k = e then (s.engine e).asked pb st r else s.engine k := by
  unfold State.requestSwap State.showSwaps
  extract_lets x
  rw [State.engine_setBit, State.engine_setBit, State.engine_modEngine]
  rfl

theorem State.engine_requestSwaps (pb st : Bool) (r : SwapReq) (l : List Nat) (hl : l.Nodup) (s : State) (k : Nat) :
    (l.foldl (fun s e => s.requestSwap e pb st r) s).engine k = if k ∈ l then (s.engine k).asked pb st r else s.engine k := by
  induction l generalizing s with
  | nil => exact (if_neg List.not_mem_nil).symm
  | cons e l ih =>
    obtain ⟨hel, hl'⟩ := List.nodup_cons.mp hl
    rw [List.foldl_cons, ih hl', State.engine_requestSwap]
    by_cases hk : k = e
    · subst hk
      rw [if_neg hel, if_pos rfl, if_pos (List.mem_cons_self ..)]
    · rw [if_neg hk]
      exact ite_congr (propext (by simp [hk])) (fun _ => rfl) fun _ => rfl

theorem State.ctx_requestSwaps (pb st : Bool) (r : SwapReq) (l : List Nat) (s : State) :
    (l.foldl (fun s e => s.requestSwap e pb st r) s).ctx = s.ctx :=
  foldl_keeps l (fun s e => s.requestSwap e pb st r) State.ctx (fun _ _ => rfl) s

/-! ### PROG_LOAD -/

theorem State.finish_keeps {s : State} {c q k : Nat} {d : OpenDesc} (h : s.ready c q k = some d) (code : Nat) :
    (s.finish c q code).ended c q code ∧ (s.finish c q code).eng = s.eng :=
  ⟨State.ended_finish h code, (s.finish_frame c q code).eng rfl⟩

/-- The fields of a PROG_LOAD are out of range. -/
def State.progLoadBad (s : State) (d : OpenDesc) : Bool :=
  d.extra / 32 % 8 != 0 || d.extra / 512 != 0 || !(d.onlyUses [(16, 22)]) ||
    !(decide (1 ≤ d.num 24 2) && decide (d.num 26 2 + d.num 24 2 ≤ 16384)) ||
    !(decide (d.num 36 1 < 64) && decide (d.num 36 1 + d.num 37 1 ≤ 64)) || !(windowOk (d.num 16 8) (8 * d.num 24 2)) ||
    !(windowOk (d.num 28 8) (16 * d.num 37 1)) || s.islandGone (d.extra % 32 / 4)

section ProgLoad
variable {c : Fin 512} {q : BitVec 32} {s : State} {d : OpenDesc} (h : s.ready c q.toNat tProgLoad = some d)
  (image : List (BitVec 64)) (dlds : List (BitVec 128)) (fail : Fin 3)
include h

theorem exec_progLoad_bad (hbad : s.progLoadBad d = true) :
    exec (.progLoad c q image dlds fail) s = .next (s.finish c q.toNat 0x10) := by
  change execProgLoad c q image dlds fail s = _
  unfold execProgLoad
  dsimp only
  rw [h]
  exact if_pos hbad

theorem exec_progLoad_busy (hgood : s.progLoadBad d = false) (hbusy : (d.extra / 256 % 2 == 1) = s.actBank (d.extra % 32)) :
    exec (.progLoad c q image dlds fail) s = .next (s.finish c q.toNat 0x14) := by
  change execProgLoad c q image dlds fail s = _
  unfold execProgLoad
  dsimp only
  rw [h]
  exact (if_neg (by rw [State.progLoadBad] at hgood; rw [hgood]; decide)).trans (if_pos (by rw [hbusy]; simp))

variable (hgood : s.progLoadBad d = false) (hfree : (d.extra / 256 % 2 == 1) ≠ s.actBank (d.extra % 32))
  (hswap : (s.engine (d.extra % 32)).swapPb = [])
include hgood hfree hswap

theorem exec_progLoad_failed (hfail : fail.val ≠ 0) :
    exec (.progLoad c q image dlds fail) s = .next (s.finish c q.toNat (if fail.val = 1 then 0x20 else 0x22)) := by
  change execProgLoad c q image dlds fail s = _
  unfold execProgLoad
  dsimp only
  rw [h]
  exact (if_neg (by rw [State.progLoadBad] at hgood; rw [hgood]; decide)).trans
    ((if_neg (by rw [hswap]; simpa using hfree)).trans (if_pos hfail))

theorem exec_progLoad_good (hfail : fail = 0) (hlen : image.length = d.num 24 2) (hdlds : dlds.length = d.num 37 1)
    (hok : s.imageOk (d.extra % 32) (d.extra / 256 % 2 == 1) (d.num 26 2) image = true)
    (hown : ∀ k, k < d.num 37 1 → s.resOwner 2 (d.extra % 32) (d.num 36 1 + k) = some c.val ∧
      s.dldHeld c (d.extra % 32) (dldOf (dldImg (dlds.getD k 0) 0) (dldImg (dlds.getD k 0) 1)
        (dldImg (dlds.getD k 0) 2)) = true) :
    ∃ body, exec (.progLoad c q image dlds fail) s = .next (((s.modEngine (d.extra % 32) fun x =>
      x.load (d.extra % 32) (d.extra / 256 % 2 == 1) (d.num 26 2) image
        (d.num 36 1) dlds).measureLoad c body).finish c q.toNat 0) := by
  have howned : (List.range (d.num 37 1)).all (fun k => s.resOwner 2 (d.extra % 32) (d.num 36 1 + k) == some c.val &&
      s.dldHeld c (d.extra % 32) (dldOf (dldImg (dlds.getD k 0) 0) (dldImg (dlds.getD k 0) 1)
        (dldImg (dlds.getD k 0) 2))) = true := by
    refine List.all_eq_true.mpr fun k hk => ?_
    obtain ⟨h1, h2⟩ := hown k (List.mem_range.mp hk)
    rw [h1, h2, Bool.and_true]
    exact beq_self_eq_true _
  subst hfail
  refine ⟨leBytes 1 (d.extra % 32) ++ leBytes 1 (if d.extra / 256 % 2 == 1 then 1 else 0) ++ leBytes 2 (d.num 26 2) ++
    leBytes 2 (d.num 24 2) ++ image.flatMap (fun w => leBytes 8 w.toNat) ++ dlds.flatMap fun b => leBytes 16 b.toNat, ?_⟩
  change execProgLoad c q image dlds 0 s = _
  unfold execProgLoad
  dsimp only
  rw [h]
  exact (if_neg (by rw [State.progLoadBad] at hgood; rw [hgood]; decide)).trans
    ((if_neg (by rw [hswap]; simpa using hfree)).trans ((if_neg (by decide)).trans
    ((if_neg (by simp [hlen, hdlds])).trans (if_neg (by rw [hok, howned]; decide)))))

end ProgLoad

theorem State.progLoadBad_range {s : State} {d : OpenDesc}
    (hx : d.extra / 32 % 8 ≠ 0 ∨ d.num 24 2 = 0 ∨ 16384 < d.num 26 2 + d.num 24 2) :
    s.progLoadBad d = true := by
  unfold State.progLoadBad
  rcases hx with hx | hx | hx <;> simp [hx]

theorem State.progLoadBad_legal {s : State} {d : OpenDesc} (h1 : d.extra / 32 % 8 = 0) (h2 : d.extra / 512 = 0)
    (h3 : d.onlyUses [(16, 22)] = true) (h4 : 1 ≤ d.num 24 2) (h5 : d.num 26 2 + d.num 24 2 ≤ 16384) (h6 : d.num 36 1 < 64)
    (h7 : d.num 36 1 + d.num 37 1 ≤ 64) (h8 : windowOk (d.num 16 8) (8 * d.num 24 2) = true)
    (h9 : windowOk (d.num 28 8) (16 * d.num 37 1) = true) (h10 : s.islandGone (d.extra % 32 / 4) = false) :
    s.progLoadBad d = false := by
  unfold State.progLoadBad
  simp [h1, h2, h3, h4, h5, h6, h7, h8, h9, h10]

theorem State.engine_of_eng {s t : State} (h : t.eng = s.eng) (e : Nat) : t.engine e = s.engine e := by
  unfold State.engine
  rw [h]

theorem State.measureLoad_engine (s : State) (c : Nat) (body : List Byte) (e : Nat) :
    (s.measureLoad c body).engine e = s.engine e :=
  State.engine_of_eng ((State.measureLoad_kept (M := { regs := true, boot := true }) rfl rfl (Kept.refl s)).eng rfl) e

theorem State.ready_measured {c q k : Nat} {s : State} {d : OpenDesc} (h : s.ready c q k = some d) (e : Nat) (f : Engine → Engine)
    (body : List Byte) : ((s.modEngine e f).measureLoad c body).ready c q k = some d := by
  refine (State.ready_of_ctx ?_ c q k).trans h
  exact (State.measureLoad_kept (M := { regs := true, boot := true }) rfl rfl (Kept.refl (s.modEngine e f))).ctx rfl

/-! ### SEG_MAP -/

section SegMap
variable {c : Fin 512} {q : BitVec 32} {s : State} {d : OpenDesc} (h : s.ready c q.toNat tSegMap = some d)
    (images : List (BitVec 256))
include h

/-- A SEG_MAP of a reserved kind. -/
theorem exec_segMap_kind (hwhat : 4 ≤ d.num 28 1) : exec (.segMap c q images [] [] 0) s = .next (s.finish c q.toNat 0x10) := by
  change execSegMap c q images [] [] 0 s = _
  unfold execSegMap
  dsimp only
  rw [h]
  exact if_pos (by simp [hwhat])

/-- A legal SEG_MAP without bindings and set records. -/
theorem exec_segMap_good (es : List Nat) (img : Tab)
    (hes : es = (List.range 32).filter (fun i => d.num 24 4 / 2 ^ i % 2 == 1) ++ (if d.num 28 1 % 2 = 1 then [32] else []))
    (himg : img = fun i n => (images.getD i 0).extractLsb' (32 * n) 32)
    (he : d.extra < 32) (hwhat : d.num 28 1 < 2) (huse : d.onlyUses [(16, 13), (32, 18)] = true)
    (hns : d.num 48 2 = 0) (hw1 : windowOk (d.num 16 8) 1056 = true) (hw2 : windowOk (d.num 32 8) 64 = true)
    (hw3 : windowOk (d.num 40 8) 0 = true) (hisl : s.islandGone (d.extra / 4) = false) (hlen : images.length = 33)
    (hent : ∀ i ∈ es, entryReserved i (img i) = false ∧ s.resOwner 3 d.extra i = some c.val ∧
    (Tab.en img i = true → Tab.ctx img i = c ∧
      ∀ n, 4 ≤ n → n < 8 → ∀ k, fld (img i n) 0 14 / 4096 ≤ k → k ≤ fld (img i n) 14 14 / 4096 →
        s.quarterGone (2 ^ 24 * k) = false))
    (htab : s.tableOk d.extra (fun i n => if es.contains i then img i n else (s.engine d.extra).segWord false i n)
      (s.actBank d.extra) = true) :
    exec (.segMap c q images [] [] 0) s =
      .next ((s.modEngine d.extra fun x => es.foldl (fun x i => x.setEntry i (img i)) x).finish c q.toNat 0) := by
  have hmod : d.extra % 32 = d.extra := Nat.mod_eq_of_lt he
  have hentOk : (es.all fun i => !(entryReserved i (img i)) && s.resOwner 3 d.extra i == some c.val &&
      (!(Tab.en img i) || Tab.ctx img i == c.val)) = true := by
    refine List.all_eq_true.mpr fun i hi => ?_
    obtain ⟨h1, h2, h3⟩ := hent i hi
    rw [h1, h2]
    cases hen : Tab.en img i with
    | false => simp
    | true => simp [(h3 hen).1]
  have hwinOk : (es.all fun i => !(Tab.en img i) || [4, 5, 6, 7].all fun n =>
      decide (fld (img i n) 14 14 < fld (img i n) 0 14) ||
        !((upTo (fld (img i n) 0 14 / 4096) (fld (img i n) 14 14 / 4096)).any fun q => s.quarterGone (2 ^ 24 * q))) = true := by
    refine List.all_eq_true.mpr fun i hi => ?_
    obtain ⟨-, -, h3⟩ := hent i hi
    cases hen : Tab.en img i with
    | false => rfl
    | true =>
      refine List.all_eq_true.mpr fun n hn => ?_
      have hn48 : 4 ≤ n ∧ n < 8 := by simp at hn; omega
      have hnone : ((upTo (fld (img i n) 0 14 / 4096) (fld (img i n) 14 14 / 4096)).any fun q => s.quarterGone
        (2 ^ 24 * q)) = false := by
        refine List.any_eq_false.mpr fun k hk => ?_
        unfold upTo at hk
        obtain ⟨j, hj, rfl⟩ := List.mem_map.mp hk
        rw [List.mem_range] at hj
        rw [(h3 hen).2 n hn48.1 hn48.2 _ (by omega) (by omega)]
        exact Bool.false_ne_true
      rw [hnone, Bool.not_false, Bool.or_true]
  subst himg
  change execSegMap c q images [] [] 0 s = _
  unfold execSegMap
  dsimp only
  rw [h]
  dsimp only
  rw [hmod, hns, ← hes]
  refine (if_neg ?_).trans ((if_neg (by decide)).trans ((if_neg ?_).trans ((if_neg ?_).trans ?_)))
  · simp [huse, hw1, hw2, hw3, hisl, he]
    omega
  · simp [hlen, hwhat]
  · rw [hentOk, hwinOk, htab]
    simp [hwhat, distinct]
  · rw [if_pos hwhat]
    rfl

end SegMap

/-! ### PROG_SWAP -/

theorem State.heldBack_none (s : State) {d : OpenDesc} (h : d.group = none) : s.heldBack d = false := by
  unfold State.heldBack
  rw [h]

/-- What a PROG_SWAP notes in its descriptor. -/
def OpenDesc.naming (d : OpenDesc) (es : Nat) : OpenDesc := { d with wait := BitVec.ofNat 32 es, named := BitVec.ofNat 32 es }

section ProgSwap
variable {c : Fin 512} {q : BitVec 32} {s : State} {d : OpenDesc} (h : s.ready c q.toNat tProgSwap = some d)
    (hgrp : d.group = none)

/-- The engines that a mask names. -/
def enginesOf (es : Nat) : List Nat := (List.range 32).filter fun e => es / 2 ^ e % 2 == 1

/-- The fields of a PROG_SWAP are out of range, or an engine that it names fails its check. -/
def State.progSwapBad (s : State) (d : OpenDesc) : Bool :=
  !(d.onlyUses [(16, 5)]) || !d.groupOk || d.num 16 4 == 0 || !(d.num 20 1 == 1 || d.num 20 1 == 2 || d.num 20 1 == 3) ||
    !((enginesOf (d.num 16 4)).all fun e => s.swapOk e (d.num 20 1 % 2 == 1) (d.num 20 1 / 2 % 2 == 1))

include h hgrp

theorem exec_progSwap_bad (hbad : s.progSwapBad d = true) : exec (.progSwap c q) s = .next (s.finish c q.toNat 0x10) := by
  change execProgSwap c q s = _
  unfold execProgSwap
  dsimp only
  rw [h]
  dsimp only
  rw [if_neg (by rw [State.heldBack_none s hgrp]; decide)]
  exact if_pos hbad

theorem exec_progSwap_good (hgood : s.progSwapBad d = false) :
    exec (.progSwap c q) s = .next ((enginesOf (d.num 16 4)).foldl
      (fun s e => s.requestSwap e (d.num 20 1 % 2 == 1) (d.num 20 1 / 2 % 2 == 1) (.desc c q.toNat))
      ((s.begin c q.toNat).modDesc c q.toNat fun d' => d'.naming (d.num 16 4))) := by
  change execProgSwap c q s = _
  unfold execProgSwap
  dsimp only
  rw [h]
  dsimp only
  rw [if_neg (by rw [State.heldBack_none s hgrp]; decide), hgrp]
  exact if_neg (by rw [← Bool.not_eq_true] at hgood; exact hgood)

end ProgSwap

theorem mem_enginesOf (es e : Nat) : e ∈ enginesOf es ↔ e < 32 ∧ es / 2 ^ e % 2 = 1 := by
  unfold enginesOf
  rw [List.mem_filter, List.mem_range, beq_iff_eq]

theorem nodup_enginesOf (es : Nat) : (enginesOf es).Nodup := List.nodup_range.filter _

theorem all_enginesOf (es : Nat) (p : Nat → Bool) :
    (enginesOf es).all p = (List.range 32).all fun e => es / 2 ^ e % 2 == 0 || p e := by
  unfold enginesOf
  rw [List.all_filter]
  refine congrArg (List.all _) (funext fun e => ?_)
  rcases Nat.mod_two_eq_zero_or_one (es / 2 ^ e) with he | he <;> simp [he]

theorem State.progSwapBad_range {s : State} {d : OpenDesc} (hx : d.num 16 4 = 0 ∨ d.num 20 1 = 0 ∨ 4 ≤ d.num 20 1) :
    s.progSwapBad d = true := by
  unfold State.progSwapBad
  rcases hx with hx | hx | hx
  · simp [hx]
  · simp [hx]
  · have h1 : d.num 20 1 ≠ 1 := by omega
    have h2 : d.num 20 1 ≠ 2 := by omega
    have h3 : d.num 20 1 ≠ 3 := by omega
    simp [h1, h2, h3]

theorem State.progSwapBad_legal {s : State} {d : OpenDesc} (h1 : d.onlyUses [(16, 5)] = true) (h2 : d.groupOk = true)
    (h3 : d.num 16 4 ≠ 0) (h4 : 1 ≤ d.num 20 1) (h5 : d.num 20 1 < 4) :
    s.progSwapBad d = !((List.range 32).all fun e =>
      d.num 16 4 / 2 ^ e % 2 == 0 || s.swapOk e (d.num 20 1 % 2 == 1) (d.num 20 1 / 2 % 2 == 1)) := by
  have hk : d.num 20 1 = 1 ∨ d.num 20 1 = 2 ∨ d.num 20 1 = 3 := by omega
  unfold State.progSwapBad
  rw [all_enginesOf, h1, h2, beq_false_of_ne h3]
  rcases hk with hk | hk | hk <;> simp [hk]

/-- What the requests of a PROG_SWAP leave in its descriptor and at the engines. -/
theorem State.progSwap_leaves {c q : Nat} {s : State} {d : OpenDesc} (h : s.ready c q tProgSwap = some d) (es : Nat)
    (pb st : Bool) :
    let t := (enginesOf es).foldl (fun s e => s.requestSwap e pb st (.desc c q))
      ((s.begin c q).modDesc c q fun d' => d'.naming es)
    (∀ e, e < 32 → (t.engine e).swapPb = (s.engine e).swapPb ++ if pb ∧ es / 2 ^ e % 2 = 1 then [.desc c q] else []) ∧
    (∀ e, e < 32 → (t.engine e).swapSt = (s.engine e).swapSt ++ if st ∧ es / 2 ^ e % 2 = 1 then [.desc c q] else []) ∧
    t.findDesc c q = some { d with started := true, wait := BitVec.ofNat 32 es, named := BitVec.ofNat 32 es } := by
  intro t
  have heng (e : Nat) (he : e < 32) :
    t.engine e = if es / 2 ^ e % 2 = 1 then (s.engine e).asked pb st (.desc c q) else s.engine e := by
    refine (State.engine_requestSwaps pb st (.desc c q) _ (nodup_enginesOf es) _ e).trans ?_
    exact ite_congr (propext ((mem_enginesOf es e).trans (and_iff_right he))) (fun _ => rfl) fun _ => rfl
  refine ⟨fun e he => ?_, fun e he => ?_, ?_⟩
  · rw [heng e he]
    by_cases hb : es / 2 ^ e % 2 = 1
    · cases pb <;> simp [hb, Engine.asked]
    · simp [hb]
  · rw [heng e he]
    by_cases hb : es / 2 ^ e % 2 = 1
    · cases st <;> simp [hb, Engine.asked]
    · simp [hb]
  · obtain ⟨hfind, -, -⟩ := State.ready_spec h
    have hctx : t.ctx = ((s.begin c q).modDesc c q fun d' => d'.naming es).ctx := State.ctx_requestSwaps _ _ _ _ _
    rw [State.findDesc_of_ctx hctx, State.findDesc_modDesc _ _ _ _ (by intro d; rfl), State.begin,
      State.findDesc_modDesc _ _ _ _ (by intro d; rfl), hfind]
    rfl

/-! ### The obligation -/

/-- Settles O20: the outcomes of a PROG_LOAD, a SEG_MAP and a PROG_SWAP, from what their loops write. -/
theorem programImages : Obligations.ProgramImages := by
  unfold Obligations.ProgramImages
  refine ⟨?_, ?_, ?_⟩
  · intro c q image dlds s d h e bk count pc n0 nd run
    have ends (code : Nat) := State.finish_keeps h code
    refine ⟨fun hx => ⟨_, exec_progLoad_bad h image dlds 0 (State.progLoadBad_range hx), ends 0x10⟩,
      fun h1 h2 h3 h4 h5 h6 h7 h8 h9 h10 => ?_⟩
    have hgood := State.progLoadBad_legal (s := s) h1 h2 h3 h4 h5 h6 h7 h8 h9 h10
    refine ⟨fun hb => ⟨_, exec_progLoad_busy h image dlds 0 hgood hb, ends 0x14⟩, fun hb hs => ?_⟩
    refine ⟨⟨_, exec_progLoad_failed h image dlds 1 hgood hb hs (by decide), ends 0x20⟩,
      ⟨_, exec_progLoad_failed h image dlds 2 hgood hb hs (by decide), ends 0x22⟩, fun hlen hdlds hok hown => ?_⟩
    obtain ⟨body, hrun⟩ := exec_progLoad_good h image dlds 0 hgood hb hs rfl hlen hdlds hok hown
    obtain ⟨hended, hkeep⟩ := State.finish_keeps (State.ready_measured h e (fun x => x.load e bk pc image n0 dlds) body) 0
    refine ⟨_, hrun, hended, ?_⟩
    have hloaded : (((s.modEngine e fun x => x.load e bk pc image n0 dlds).measureLoad c body).finish c q.toNat 0).engine e =
        (s.engine e).load e bk pc image n0 dlds := by
      rw [show (((s.modEngine e fun x => x.load e bk pc image n0 dlds).measureLoad c body).finish c q.toNat 0).engine e =
          ((s.modEngine e fun x => x.load e bk pc image n0 dlds).measureLoad c body).engine e from
          State.engine_of_eng hkeep e, State.measureLoad_engine, State.engine_modEngine, if_pos rfl]
    have hboth := State.progWord_loaded hloaded (hlen.symm ▸ h5)
    exact ⟨fun k hk => hboth.1 k (hlen.symm ▸ hk), hboth.2⟩
  · intro c q images s d h e mask what es img new
    refine ⟨fun hw => ⟨_, exec_segMap_kind h images hw, State.finish_keeps h _⟩,
      fun he hw huse hns hw1 hw2 hw3 hisl hlen hent htab => ?_⟩
    have hrun := exec_segMap_good h images es img rfl rfl he hw huse hns hw1 hw2 hw3 hisl hlen hent htab
    have hready : (s.modEngine e fun x => es.foldl (fun x i => x.setEntry i (img i)) x).ready c q.toNat tSegMap = some d :=
      (State.ready_of_ctx rfl _ _ _).trans h
    obtain ⟨hended, hkeep⟩ := State.finish_keeps hready 0
    have heng : ((s.modEngine e fun x => es.foldl (fun x i => x.setEntry i (img i)) x).finish c q.toNat 0).engine e =
        es.foldl (fun x i => x.setEntry i (img i)) (s.engine e) := by
      refine (State.engine_of_eng hkeep e).trans ((State.engine_modEngine ..).trans (if_pos rfl))
    have hes : ∀ i ∈ es, i < 33 := by
      intro i hi
      rcases List.mem_append.mp hi with hi | hi
      · have := List.mem_range.mp (List.mem_filter.mp hi).1
        omega
      · split at hi
        · rw [List.mem_singleton] at hi; omega
        · exact absurd hi List.not_mem_nil
    refine ⟨_, hrun, hended, fun i n hi hn => ?_, fun i n hi hn => ?_⟩
    · rw [heng, (Engine.segWord_entries es hes img hi hn _).1]
    · rw [heng, (Engine.segWord_entries es hes img hi hn _).2]
  · intro c q s d h es what pb st hgrp
    refine ⟨fun hx => ⟨_, exec_progSwap_bad h hgrp (State.progSwapBad_range hx), State.finish_keeps h _⟩,
      fun huse hgok hes hw1 hw4 => ?_⟩
    have hbad := State.progSwapBad_legal (s := s) huse hgok hes hw1 hw4
    split
    next hall =>
      have hall' : ((List.range 32).all fun e => d.num 16 4 / 2 ^ e % 2 == 0 || s.swapOk e (d.num 20 1 % 2 == 1)
        (d.num 20 1 / 2 % 2 == 1)) = true := hall
      rw [hall'] at hbad
      exact ⟨_, exec_progSwap_good h hgrp hbad, State.progSwap_leaves h es pb st⟩
    next hall =>
      have hall' : ((List.range 32).all fun e => d.num 16 4 / 2 ^ e % 2 == 0 || s.swapOk e (d.num 20 1 % 2 == 1)
        (d.num 20 1 / 2 % 2 == 1)) = false := Bool.eq_false_iff.mpr hall
      rw [hall'] at hbad
      exact ⟨_, exec_progSwap_bad h hgrp hbad, State.finish_keeps h _⟩

end Sys2Proof.Machine

/-! O32: rate bridges, ASRC channels and the read of the engine ports (R204, R336 to R347). -/

namespace Sys2Proof.Machine

/-! ### Engine ports -/

theorem State.chainTorn_computeSinks (s : State) : s.computeSinks.chainTorn = s.chainTorn :=
  (State.computeSinks_kept (M := { regs := true, route := true }) rfl rfl (Kept.refl s)).chainTorn rfl

/-- With no engine state nothing is torn, and only the sinks are computed. -/
theorem State.portRead_noEngines {s : State} (late : BitVec 32) (h : s.route.computed = false) (he : s.eng = []) :
    s.portRead late = s.computeSinks := by
  unfold State.portRead
  rw [if_neg (by rw [h]; decide)]
  extract_lets waits old torn t
  have hwaits : waits = [] := by rw [show waits = List.filter _ s.eng from rfl, he]; rfl
  have htorn : torn = [] := by rw [show torn = List.filterMap _ waits from rfl, hwaits]; rfl
  have ht : t = s.computeSinks := by
    rw [show t = ({ s with chainTorn := s.chainTorn ++ torn } : State).computeSinks from rfl, htorn, List.append_nil]
  rw [if_neg (by rw [hwaits]; exact Bool.false_ne_true), ht,
    show old = s.computeSinks.chainTorn from s.chainTorn_computeSinks.symm]

/-! ### Bridges -/

theorem State.brgW_disabled {s : State} {b : Nat} {v : Word} (hen : s.rbit (rRouteBrg b) 31 = false) (h30 : bit v 30 = false)
    (h31 : bit v 31 = false) :
    s.brgW b v = s.setReg (rRouteBrg b) ((v &&& 0x8001FF03) ||| (s.reg (rRouteBrg b) &&& 0x40000000)) := by
  have hmask : bit (v &&& 0x8001FF03) 31 = false := by
    unfold bit at *
    rw [BitVec.getLsbD_and, h31, Bool.false_and]
  unfold State.brgW
  rw [State.rbit] at hen
  simp only [h30, hen, hmask, Bool.false_eq_true, if_false]

theorem State.brgW_enabled {s : State} {b : Nat} {v : Word} (hen : s.rbit (rRouteBrg b) 31 = true) (h30 : bit v 30 = false) :
    s.brgW b v = (if v &&& 0x8001FF03 = s.reg (rRouteBrg b) &&& 0x8001FF03 then s
      else if v &&& 0x8001FF03 = s.reg (rRouteBrg b) &&& 0x0001FF03 then s.setBit (rRouteBrg b) 31 false
      else s.setBit (rRouteBrg b) 30 true) := by
  unfold State.brgW
  rw [State.rbit] at hen
  simp only [h30, hen, Bool.false_eq_true, if_false, if_true]

theorem enabledMask_ne {w : Word} (h : bit w 31 = true) : w &&& 0x0001FF03 ≠ w &&& 0x8001FF03 := by
  intro he
  have hbit := congrArg (bit · 31) he
  unfold bit at h hbit
  rw [BitVec.getLsbD_and, BitVec.getLsbD_and, h] at hbit
  exact absurd hbit (by decide)

theorem enabledMask_fields {v w : Word} (h : v &&& 0x8001FF03 = w &&& 0x8001FF03 ∨ v &&& 0x8001FF03 = w &&& 0x0001FF03) :
    v &&& 0x0001FF03 = w &&& 0x0001FF03 := by
  rcases h with h | h
  · simpa [BitVec.and_assoc] using congrArg (fun x : Word => x &&& 0x0001FF03) h
  · simpa [BitVec.and_assoc] using congrArg (fun x : Word => x &&& 0x0001FF03) h

/-! ### Resamplers -/

theorem State.asrc_setAsrc (s : State) (n : Nat) (x : AsrcCh) : (s.setAsrc n x).asrc n = x :=
  SMap.get_set_same (d := fun _ => ({} : AsrcCh)) _ _ _

theorem State.reg_setAsrc (s : State) (n : Nat) (x : AsrcCh) (o : Nat) : (s.setAsrc n x).reg o = s.reg o := rfl

theorem putBit_off_ne {w : Word} {b : Nat} (hb : b < 32) (h : bit w b = true) : putBit w b false ≠ w := by
  intro he
  rw [← he, bit_putBit w b false b hb, if_pos rfl] at h
  exact Bool.false_ne_true h

theorem rAsrcStat_ne_cfg0 (n : Nat) : rAsrcStat n ≠ rAsrcCfg0 n := by
  unfold rAsrcStat rAsrcCfg0
  omega

theorem rAsrcStat_ne_ratio (n : Nat) : rAsrcStat n ≠ rAsrcRatio n := by
  unfold rAsrcStat rAsrcRatio
  omega

/-- Settles O32: each write and each event of a bridge or a resampler, by whether it is enabled. -/
theorem bridgesAndResamplers : Obligations.BridgesAndResamplers := by
  unfold Obligations.BridgesAndResamplers
  intro s
  refine ⟨fun late h => ?_, fun late h he => ?_, fun b v hen h30 h31 => ?_, fun b v hen h30 hv => ?_, fun b v hen h30 hv => ?_,
    fun n v hen h31 => ?_, fun n v hen h1 h2 => ?_, fun n hen => ?_, fun n r hst => ?_, fun n hst hfix => ?_⟩
  · exact congrArg Host.Outcome.next (if_pos h)
  · exact congrArg Host.Outcome.next (State.portRead_noEngines late h he)
  · exact congrArg Host.Outcome.next (State.brgW_disabled hen h30 h31)
  · refine congrArg Host.Outcome.next ((State.brgW_enabled hen h30).trans ((if_neg ?_).trans (if_pos hv)))
    rw [hv]
    exact enabledMask_ne hen
  · refine congrArg Host.Outcome.next ((State.brgW_enabled hen h30).trans ((if_neg fun h => ?_).trans (if_neg fun h => ?_)))
    · exact hv (enabledMask_fields (.inl h))
    · exact hv (enabledMask_fields (.inr h))
  · refine congrArg Host.Outcome.next ((if_neg ?_).trans (if_pos (by rw [h31]; rfl)))
    exact Bool.eq_false_iff.mp hen
  · exact congrArg Host.Outcome.next ((if_pos hen).trans ((if_neg h1).trans (if_neg h2)))
  · refine ⟨_, congrArg Host.Outcome.next
      ((if_pos hen).trans ((if_neg (putBit_off_ne (by decide) hen)).trans (if_pos rfl))), ?_, ?_,
      State.asrc_setAsrc _ _ _⟩
    · rewrite [State.rfld, State.reg_setAsrc, ← State.rfld, State.rfld_setFld_same _ _ _ _ _ (by decide)]
      rfl
    · rw [State.rbit, State.reg_setAsrc, State.reg_setFld_other _ _ _ _ (rAsrcStat_ne_cfg0 n).symm, State.reg_setReg_same,
        bit_putBit _ _ _ _ (by decide), if_pos rfl]
  · refine ⟨_, congrArg Host.Outcome.next (if_pos hst), ?_, ?_⟩
    · rewrite [State.rfld, State.reg_setAsrc, State.reg_setReg_other _ _ (rAsrcStat_ne_ratio n), ← State.rfld,
        State.rfld_setFld_same _ _ _ _ _ (by decide)]
      rfl
    · rw [State.reg_setAsrc, State.reg_setReg_same]
  · refine ⟨_, congrArg Host.Outcome.next (if_pos (by rw [hst, hfix]; decide)), ?_, ?_, ?_⟩
    · rewrite [State.rfld, State.reg_setAsrc, ← State.rfld, State.bump, State.rfld_setFld_other _ _ (by omega),
        State.rfld_setBit_other _ _ (by omega), State.rfld_setFld_same _ _ _ _ _ (by decide)]
      rfl
    · rw [State.rbit, State.reg_setAsrc, ← State.rbit, State.bump, State.rbit_setFld_other _ _ (by omega),
        State.rbit_setBit_same _ _ _ _ (by decide)]
    · rewrite [State.rfld, State.reg_setAsrc, ← State.rfld, State.rfld_bump_same _ _ _ _ (by decide),
        State.rfld_setBit_other _ _ (by omega), State.rfld_setFld_other _ _ (by omega)]
      rfl

end Sys2Proof.Machine

/-! O29: the chunks of host lines. The owner of a line is any number in the statement. -/

namespace Sys2Proof.Machine

/-- The chunk of `strayLine`, which is queued and not missed. -/
def strayChunk : Chunk := { u0 := 0, read := true, st := .queued }

/-- Line 6 fills for an owner 2,560, far beyond the contexts: that owner's error word is the line's own register, and its event
log is full. -/
def strayLine : State :=
  { regs := [(rCaldHlW0 6, 0x10000000), (rCtxtStat 2560, 1)], ctx := [(2560, { evprod := 64 })],
    cal := { lines := [(6, { owner := 2560, c := 1, rd := some (0, 0), chunks := [strayChunk] })] } }

/-- The missed chunk's event overflows the log, and the overflow's bit 3 falls into the line's counter. -/
theorem exec_chunkDeadline_strayLine :
    ∃ t, exec (.chunkDeadline 6 0 true) strayLine = .next t ∧ t.rfld (rCaldHlW0 6) 0 16 = 9 := ⟨_, rfl, by decide⟩

/-- Refutes O29: the statement lets a line's owner be any number, so the LINE_LATE event of a missed chunk may overflow into the
line's own register. The counter then reads 9 where the statement asks for 1. -/
theorem not_lineChunks : ¬ Obligations.LineChunks := by
  intro h
  obtain ⟨-, -, deadline, -⟩ := h
  obtain ⟨t, ht, -, -, hcount⟩ :=
    (deadline 6 0 strayLine strayChunk 0 0 rfl (.inl (by decide)) (by decide) (by decide) (by decide) rfl
    (by decide) (by decide)).1 rfl (by decide)
  obtain ⟨u, hu, hnine⟩ := exec_chunkDeadline_strayLine
  cases hu.symm.trans ht
  have hone : t.rfld (rCaldHlW0 6) 0 16 = min (strayLine.rfld (rCaldHlW0 6) 0 16 + 1) 65535 := hcount
  rw [hnine] at hone
  exact absurd hone (by decide)

end Sys2Proof.Machine

/-! O30: streams (R392 to R411). -/

namespace Sys2Proof.Machine

/-! ### What the shared operations leave of the streams and the descriptors -/

theorem State.stream_of_mov {s t : State} (h : t.mov = s.mov) (r : Nat) : t.stream r = s.stream r := by
  rw [State.stream, h, State.stream]

theorem State.stream_setStream_same (s : State) (r : Nat) (x : Option Stream) : (s.setStream r x).stream r = x :=
  (s.stream_setStream r x r).trans (if_pos rfl)

/-- What a record of the stream table and the loads leave alone. -/
abbrev tableMask : Mask := { regs := true, fab := true, ngx := true, pcie := true }

theorem State.streamTable_frame (s : State) (r : Nat) (x : Stream) (st : Nat) : Kept tableMask s (s.streamTable r x st) :=
  State.streamTable_kept rfl rfl rfl (Kept.refl s)

theorem State.streamShown_frame (s : State) (r : Nat) (x : Stream) (st c : Nat) :
    Kept tableMask s (((s.streamTable r x st).showDma).showUse c) :=
  State.showUse_kept rfl (State.showDma_kept rfl (s.streamTable_frame r x st))

/-! ### STREAM_OPEN -/

section Open
variable {c : Fin 512} {q : BitVec 32} {s : State} {d : OpenDesc} (h : s.ready c q.toNat tStreamOpen = some d)
include h

theorem exec_streamOpen_bad (hbad : streamFieldsOk d (streamOf c d) = false ∨ s.ringStream c (streamOf c d).ring ≠ none ∨
    s.assignedRange c (16 * (streamOf c d).fq) (4 * (streamOf c d).words * (streamOf c d).fifoFrames) = false) :
    exec (.streamOpen c q) s = .next (s.finish c q.toNat 0x10) := by
  change execStreamOpen c q s = _
  unfold execStreamOpen
  dsimp only
  rw [h]
  refine if_pos ?_
  rcases hbad with hb | hb | hb
  · simp [hb]
  · simp [Option.isSome_iff_ne_none.mpr hb]
  · simp [hb]

variable (hok : streamFieldsOk d (streamOf c d) = true) (hring : s.ringStream c (streamOf c d).ring = none)
  (harea : s.assignedRange c (16 * (streamOf c d).fq) (4 * (streamOf c d).words * (streamOf c d).fifoFrames) = true)
  (hproxy : s.proxyOn = false) {r : Nat} (hfree : s.freeStream = some r)
include hok hring harea hproxy hfree

/-- A legal STREAM_OPEN, by whether its share fits the context's and the device's budgets. -/
theorem exec_streamOpen_legal : exec (.streamOpen c q) s = .next
    (if s.rfld (rDmaCap c) 0 11 < s.ctxLoad c (streamOf c d).capture + (streamOf c d).share ∨
        min 1024 (s.rfld rDmaBudget (if (streamOf c d).capture then 16 else 0) 11) <
          s.shareSum (streamOf c d).capture + (streamOf c d).share then s.finish c q.toNat 0x12
      else ((((((s.grant c q.toNat).setStream r (some (streamOf c d))).streamTable r (streamOf c d)
        (streamOf c d).st).showDma).showUse
        c).setResult c q.toNat 0).ltrUpdate) := by
  change execStreamOpen c q s = _
  unfold execStreamOpen
  dsimp only
  rw [h]
  dsimp only
  rw [if_neg (by simp [hok, hring, harea]), if_neg (by simp [hproxy]), hfree]
  dsimp only
  simp only [Bool.or_eq_true, decide_eq_true_eq]
  exact (apply_ite Host.Outcome.next _ _ _).symm

end Open

/-- The result of a descriptor that has won its grant stands through what only shows it. -/
theorem State.ended_shown {s t : State} {c q k : Nat} {d : OpenDesc} (h : s.ready c q k = some d) (ht : t.ctx = (s.grant c q).ctx)
    (code : Nat) : (t.setResult c q code).ended c q code := by
  obtain ⟨hfind, -, -, -, hres, -⟩ := State.ready_spec h
  exact State.ended_setResult ((State.findDesc_of_ctx ht c q).trans (State.findDesc_grant hfind)) hres code

theorem State.mov_ltrUpdate (s : State) : s.ltrUpdate.mov = s.mov :=
  (State.ltrUpdate_kept (M := { regs := true, fab := true, pcie := true }) rfl rfl rfl (Kept.refl s)).mov rfl

/-! ### STREAM_CLOSE -/

theorem State.dropBursts_keeps (s : State) (r : Nat) :
    (s.dropBursts r).mov.streams = s.mov.streams ∧ (s.dropBursts r).ctx = s.ctx :=
  ⟨foldl_keeps _ (fun (s : State) (p : Nat × Option Job) => (s.setMover p.1 none).readsOver (.mover p.1))
      (fun s => s.mov.streams) (fun _ _ => rfl) s,
    (State.dropBursts_kept (M := { fab := true, mov := true, pcie := true }) rfl rfl rfl (Kept.refl s)).ctx rfl⟩

/-- A silent playback stream without entries, closing for a descriptor. -/
def Stream.closingFor (x : Stream) (c q : Nat) : Stream :=
  { x with closing := true, closeBy := some (c, q), wasParked := x.st == 4, rd := x.wr }

theorem Fade.stop_silent {f : Fade} (h : f.st = .silent) (rate : Nat) : f.stop rate = f := by
  unfold Fade.stop
  rw [h]

theorem State.streamClose_silent {s : State} {r : Nat} {x : Stream} (hx : s.stream r = some x) (hcap : x.capture = false)
    (hent : x.entries = []) (hfade : x.fade.st = .silent) (c q : Nat) :
    s.streamClose r (some (c, q)) false = ((s.dropBursts r).setStream r (some (x.closingFor c q))).streamEnds r := by
  unfold State.streamClose
  rw [hx]
  obtain ⟨⟩ := x
  subst hcap hent
  simp [Stream.cancelAll, Stream.closingFor, Fade.stop_silent hfade]

/-- A stream that closes and has nothing left is freed, and its descriptor ends. -/
theorem State.streamEnds_freed {s : State} {r : Nat} {x : Stream} {c q : Nat} (hx : s.stream r = some x) (hc : x.closing = true)
    (hent : x.entries = []) (hfade : x.fade.st = .silent) (hby : x.closeBy = some (c, q)) :
    s.streamEnds r = ((((((s.setStream r none).streamTable r x 0).showDma).showUse x.ctx).ltrUpdate).setResult c q
      (if x.wasParked then 0x24 else 0)) := by
  unfold State.streamEnds
  rw [hx]
  dsimp only
  rw [if_neg (by simp [hc, hent, hfade]), hby]

section Close
variable {c : Fin 512} {q : BitVec 32} {s : State} {d : OpenDesc} (h : s.ready c q.toNat tStreamClose = some d)
include h

theorem exec_streamClose_none (hring : s.ringStream c (d.extra % 16) = none) :
    exec (.streamClose c q) s = .next (s.finish c q.toNat 0x10) := by
  change execStreamClose c q s = _
  unfold execStreamClose
  dsimp only
  rw [h]
  dsimp only
  rw [hring]

theorem exec_streamClose_legal {r : Nat} {x : Stream} (hring : s.ringStream c (d.extra % 16) = some (r, x))
    (hex : d.extra / 16 = 0)
    (huse : d.onlyUses [] = true) (hc : x.closing = false) :
    exec (.streamClose c q) s = .next ((s.grant c q.toNat).streamClose r (some (c.val, q.toNat)) false) := by
  change execStreamClose c q s = _
  unfold execStreamClose
  dsimp only
  rw [h]
  dsimp only
  rw [hring]
  exact if_neg (by simp [hex, huse, hc])

end Close

/-! ### STREAM_ENTRY_COMPLETE -/

/-- A stream that does not close stays open. -/
theorem State.streamEnds_open {s : State} {r : Nat} {x : Stream} (hx : s.stream r = some x) (hc : x.closing = false) :
    s.streamEnds r = s := by
  unfold State.streamEnds
  rw [hx]
  exact if_pos (by simp [hc])

/-- The record and the interrupt of an entry that ended, of a stream that has moved past it. -/
def State.entryShown (s : State) (r : Nat) (y : Stream) (e : StrEnt) (i : BitVec 32) (st : Nat) : State :=
  let t := (s.ringWrite y.ctx (y.base + 32 * (i.toNat % y.size) + 16) (y.tailBytes e i st)).streamTable r y y.st
  if e.irq && !t.minPath then t.ctxIrq y.ctx (t.rfld (rCtxtIrq y.ctx) 0 10) else t

/-- A stream moved past its first entry. -/
def Stream.past (x : Stream) (rest : List StrEnt) : Stream := { x with cons := x.cons + 1, entries := rest }

theorem State.mov_entryShown (s : State) (r : Nat) (y : Stream) (e : StrEnt) (i : BitVec 32) (st : Nat) :
    (s.entryShown r y e i st).mov = s.mov := by
  have hshown (a : Nat) (b : List Byte) : Kept tableMask s ((s.ringWrite y.ctx a b).streamTable r y y.st) :=
    State.streamTable_kept rfl rfl rfl (State.ringWrite_kept rfl rfl (Kept.refl s))
  have hkept : Kept tableMask s (s.entryShown r y e i st) :=
    ite_kept (State.ctxIrq_kept rfl rfl rfl (hshown _ _)) (hshown _ _)
  exact hkept.mov rfl

section Entry
variable {r : Fin 4096} {s : State} {x : Stream} {e : StrEnt} {rest : List StrEnt} (hx : s.stream r = some x)
    (hent : x.entries = e :: rest)
include hx hent

theorem exec_streamEntryComplete_open (hst : e.status = none) : exec (.streamEntryComplete r) s = .next s := by
  change execStreamEntryComplete r s = _
  unfold execStreamEntryComplete
  rw [hx]
  dsimp only
  rw [hent]
  dsimp only
  rw [hst]

/-- An entry with its status leaves the ring, and its record is written. -/
theorem exec_streamEntryComplete_ended {st : Nat} (hst : e.status = some st) : exec (.streamEntryComplete r) s =
    .next (((s.setStream r (some (x.past rest))).entryShown r (x.past rest) e x.cons st).streamEnds r) := by
  change execStreamEntryComplete r s = _
  unfold execStreamEntryComplete
  rw [hx]
  dsimp only
  rw [hent]
  dsimp only
  rw [hst]
  rfl

end Entry

/-! ### BURST_COMPLETION -/

theorem exec_burstCompletion (m : Fin 64) (data : List Byte) (fail : Fin 3) {s : State} {j : Job} {r ent off n : Nat} {x : Stream}
    (haw : s.awaited m = some j) (hj : j.work = .burst r ent off n) (hx : s.stream r = some x)
    (hbehind : s.burstBehind r ent off = false)
    (hlen : fail.val = 0 → data.length = n * x.hostFrame) :
    ∃ since, exec (.burstCompletion m data fail) s = .next (if fail.val ≠ 0 then
        (s.jobOver m).entryFails r (x.entIndex ent) (if fail.val = 1 then 0x20 else 0x22)
      else ((s.jobOver m).busFrames m x x.wr n true).playArrives r (x.entIndex ent) n data since) := by
  obtain ⟨w, i, since⟩ := j
  subst hj
  refine ⟨since, ?_⟩
  change execBurstCompletion m data fail s = _
  unfold execBurstCompletion
  rw [haw]
  dsimp only
  rw [hx]
  refine if_neg fun h => ?_
  rw [hbehind, Bool.false_or, Bool.and_eq_true, decide_eq_true_eq, decide_eq_true_eq] at h
  exact h.2 (hlen h.1)

theorem State.entryFails_stream {s : State} {r i : Nat} {x : Stream} {e : StrEnt} (hx : s.stream r = some x)
    (he : x.entries[i]? = some e)
    (hst : e.status = none) (status : Nat) : ∃ y, (s.entryFails r i status).stream r = some y ∧
      y.entries = setAt x.entries i { e with status := some status } ∧ y.fail = min 65535 (x.fail + 1) := by
  refine ⟨{ x.endEntry i status with fail := min 65535 (x.fail + 1) }, ?_, ?_, rfl⟩
  · unfold State.entryFails
    rw [hx]
    refine (State.stream_of_mov ?_ r).trans (s.stream_setStream_same r _)
    exact (State.streamEvent_kept (M := { regs := true, fab := true, ctx := true, pcie := true, ngx := true })
      rfl rfl rfl rfl rfl (Kept.refl _)).mov rfl
  · unfold Stream.endEntry
    rw [he]
    dsimp only
    rw [if_neg (by simp [hst])]

theorem State.playArrives_stream {s : State} {r i : Nat} {x : Stream} {e : StrEnt} (hx : s.stream r = some x)
    (he : x.entries[i]? = some e)
    (hst : e.status = none) (n : Nat) (d : List Byte) (since : Nat) : ∃ y, (s.playArrives r i n d since).stream r = some y ∧
      y.wr = x.wr + n ∧ y.entries = setAt x.entries i { e with moved := e.moved + n, start := if e.moved = 0 then x.wr else e.start } := by
  unfold State.playArrives
  rw [hx]
  dsimp only
  rw [he]
  dsimp only
  rw [if_neg (by simp [hst])]
  exact ⟨_, State.stream_setStream_same _ r _, rfl, rfl⟩

/-- Settles O30: the opening, the silent close, the entries and the bursts of streams. -/
theorem streams : Obligations.Streams := by
  unfold Obligations.Streams
  refine ⟨?_, ?_, ?_, ?_⟩
  · intro c q s d h x budget area
    have ends (code : Nat) : (s.finish c q.toNat code).ended c q.toNat code ∧ (s.finish c q.toNat code).mov = s.mov :=
      ⟨State.ended_finish h code, (s.finish_frame c q.toNat code).mov rfl⟩
    refine ⟨fun hbad => ⟨_, exec_streamOpen_bad h hbad, ends 0x10⟩, fun hok hring harea hproxy r hfree => ?_⟩
    have hrun := exec_streamOpen_legal h hok hring harea hproxy hfree
    refine ⟨fun hctx hdev => ?_, fun hover => ?_⟩
    · rw [if_neg (not_or.mpr ⟨Nat.not_lt.mpr hctx, Nat.not_lt.mpr hdev⟩)] at hrun
      refine ⟨_, hrun, ?_, ?_⟩
      · refine (State.stream_of_mov ((State.mov_ltrUpdate _).trans ?_) r).trans
          ((s.grant c q.toNat).stream_setStream_same r (some x))
        exact (State.setResult_kept (M := { regs := true, fab := true, ngx := true, pcie := true, ctx := true }) rfl
          (State.showUse_kept rfl (State.showDma_kept rfl (State.streamTable_kept rfl rfl rfl (Kept.refl _))))).mov rfl
      · refine State.ended_of_ctx (State.ctx_ltrUpdate _) (State.ended_shown h ?_ 0)
        exact (State.streamShown_frame _ r x x.st c).ctx rfl
    · rw [if_pos hover] at hrun
      exact ⟨_, hrun, ends 0x12⟩
  · intro c q s d h
    refine ⟨fun hring => ⟨_, exec_streamClose_none h hring, State.ended_finish h _, (s.finish_frame c q.toNat _).mov rfl⟩,
      fun r x hring hx hex huse hc hcap hent hfade => ?_⟩
    have hrun := exec_streamClose_legal h hring hex huse hc
    have hx' : (s.grant c q.toNat).stream r = some x := hx
    rw [State.streamClose_silent hx' hcap hent hfade, State.streamEnds_freed (x := x.closingFor c q.toNat)
      (State.stream_setStream_same _ r _) rfl hent hfade rfl] at hrun
    refine ⟨_, hrun, ?_, ?_⟩
    · refine (State.stream_of_mov ?_ r).trans (State.stream_setStream_same
        (((s.grant c q.toNat).dropBursts r).setStream r (some (x.closingFor c q.toNat))) r none)
      refine (State.setResult_kept (M := { regs := true, fab := true, ngx := true, pcie := true, ctx := true }) rfl
        (State.ltrUpdate_kept rfl rfl rfl (State.showUse_kept rfl (State.showDma_kept rfl (State.streamTable_kept rfl rfl rfl
          (Kept.refl _)))))).mov rfl
    · have hcode : (if x.st = 4 then 0x24 else 0) = if (x.closingFor c q.toNat).wasParked then 0x24 else 0 := by
        unfold Stream.closingFor
        simp
      rw [hcode]
      refine State.ended_shown h ?_ _
      refine ((State.ctx_ltrUpdate _).trans ((State.streamShown_frame _ r _ 0 _).ctx rfl)).trans ?_
      exact ((s.grant c q.toNat).dropBursts_keeps r).2
  · intro r s x e rest hx hc hent
    refine ⟨exec_streamEntryComplete_open hx hent, fun hst => ?_⟩
    obtain ⟨st, hst⟩ := Option.ne_none_iff_exists'.mp hst
    have hrun := exec_streamEntryComplete_ended hx hent hst
    have hmov := (State.stream_of_mov (State.mov_entryShown _ r (x.past rest) e x.cons st) r).trans
      (s.stream_setStream_same r (some (x.past rest)))
    rw [State.streamEnds_open hmov hc] at hrun
    exact ⟨_, hrun, hmov⟩
  · intro m data s j r ent off n x e i haw hj hx he hst hbehind
    have hx' : (s.jobOver m).stream r = some x := hx
    have fails (fail : Fin 3) (hf : fail.val ≠ 0) : ∃ t y, exec (.burstCompletion m data fail) s = .next t ∧ t.stream r = some y ∧
        y.entries = setAt x.entries i { e with status := some (if fail.val = 1 then 0x20 else 0x22) } ∧
          y.fail = min 65535 (x.fail + 1) := by
      obtain ⟨since, hrun⟩ := exec_burstCompletion m data fail haw hj hx hbehind fun h => absurd h hf
      rw [if_pos hf] at hrun
      obtain ⟨y, hy⟩ := State.entryFails_stream hx' he hst (if fail.val = 1 then 0x20 else 0x22)
      exact ⟨_, y, hrun, hy⟩
    refine ⟨fun hlen => ?_, fails 1 (by decide), fails 2 (by decide)⟩
    obtain ⟨since, hrun⟩ := exec_burstCompletion m data 0 haw hj hx hbehind fun _ => hlen
    rw [if_neg (by decide)] at hrun
    have hbus : ((s.jobOver m).busFrames m x x.wr n true).stream r = some x :=
      (State.stream_of_mov ((State.busFrames_kept (M := { fab := true }) rfl (Kept.refl _)).mov rfl) r).trans hx'
    obtain ⟨y, hy⟩ := State.playArrives_stream hbus he hst n data since
    exact ⟨_, y, hrun, hy⟩

end Sys2Proof.Machine

/-! O33: acceptance, cancelling and completion of descriptors (R363 to R372, R380). -/

namespace Sys2Proof.Machine

/-! ### NOP, FENCE and CANCEL -/

theorem finish_plain (d : OpenDesc) : (if d.extra == 0 && d.onlyUses [] then 0 else 0x10) =
    if d.extra = 0 ∧ d.onlyUses [] = true then 0 else 0x10 := by
  simp only [Bool.and_eq_true, beq_iff_eq]

/-- A fence may start only behind descriptors that have their records. -/
theorem fence_behind {ps : List OpenDesc} {d : OpenDesc} (h : mayStart ps d = true) (hd : d.typ = 0x02) :
    ∀ p ∈ ps, p.record = true := by
  unfold mayStart at h
  rw [hd, Bool.and_eq_true] at h
  exact List.all_eq_true.mp (by simpa using h.1)

section Cancel
variable {c : Fin 512} {q : BitVec 32} {s : State} {d x : OpenDesc} (h : s.ready c q.toNat tCancel = some d) (hex : d.extra = 0)
  (huse : d.onlyUses [(16, 4)] = true) (hne : d.num 16 4 ≠ q.toNat)
  (hacc : (s.context c).accepted (BitVec.ofNat 32 (d.num 16 4)) = true)
    (hearly : (q - BitVec.ofNat 32 (d.num 16 4)).toNat < 2 ^ 31)
  (hx : s.findDesc c (d.num 16 4) = some x) (hnever : neverCancelled x.typ = false)
include h hex huse hne hacc hearly hx hnever

/-- A legal CANCEL of an earlier descriptor that is open. -/
theorem exec_cancel_legal : exec (.cancel c q) s = .next (if x.granted = true ∨ x.result ≠ none then s.finish c q.toNat 0x03
    else (s.cancelDesc c x).finish c q.toNat 0) := by
  have htyp : x.typ ≠ tCancel := by
    intro ht
    rw [ht] at hnever
    exact absurd hnever (by decide)
  change execCancel c q s = _
  unfold execCancel
  dsimp only
  rw [h]
  dsimp only
  rw [BitVec.ofNat_toNat, BitVec.setWidth_eq, if_neg (by simp [hex, huse, hne, hacc]; simpa using hearly), hx]
  dsimp only
  rw [if_neg htyp, hnever]
  by_cases hlate : x.granted = true ∨ x.result ≠ none
  · rw [if_pos hlate]
    exact if_pos (by simpa [Option.isSome_iff_ne_none] using hlate)
  · rw [if_neg hlate]
    exact if_neg (by simpa [Option.isSome_iff_ne_none] using hlate)

end Cancel

/-- Another descriptor of the context stays as it is. -/
theorem State.findDesc_modDesc_other (s : State) (c : Nat) {q p : Nat} (h : p ≠ q) (f : OpenDesc → OpenDesc)
    (hf : ∀ d, (f d).seq = d.seq) :
    (s.modDesc c q f).findDesc c p = s.findDesc c p := by
  unfold State.findDesc State.modDesc State.modContext
  rw [State.context_setContext_same]
  dsimp only
  rw [List.find?_map]
  have hpred : ((fun d : OpenDesc => d.seq == p) ∘ fun d => if d.seq = q then f d else d) = fun d => d.seq == p := by
    funext d
    dsimp only [Function.comp]
    split <;> simp [hf]
  rw [hpred]
  cases hfind : (s.context c).opens.find? fun d => d.seq == p with
  | none => rfl
  | some d =>
    have hd : d.seq = p := by simpa using List.find?_some hfind
    rw [Option.map_some, if_neg (by rw [hd]; exact h)]

theorem State.findDesc_finish_other (s : State) (c : Nat) {q p : Nat} (h : p ≠ q) (code : Nat) :
    (s.finish c q code).findDesc c p = s.findDesc c p := by
  unfold State.finish State.setResult
  rw [State.findDesc_modDesc_other _ c h _ (by intro d; split <;> rfl), State.grant,
    State.findDesc_modDesc_other _ c h _ (by intro d; rfl)]

/-! ### Acceptance -/

theorem State.openOf_of {s t : State} {c : Nat} (hctx : t.context c = s.context c) (hfunc : t.funcOf c = s.funcOf c)
    (hnow : t.now = s.now)
    (b : BitVec 512) : t.openOf c b = s.openOf c b := by
  unfold State.openOf
  rw [hctx, hfunc, hnow]

theorem State.ctx_auditDesc (s : State) (c q r : Nat) : (s.auditDesc c q r).ctx = s.ctx :=
  (State.auditDesc_kept (M := { regs := true, boot := true }) rfl rfl (Kept.refl s)).ctx rfl

/-- A context with a descriptor taken from its ring. -/
def Ctx.taking (x : Ctx) (o : OpenDesc) : Ctx := { x with c := x.c + 1, nextSeq := x.nextSeq + 1, opens := x.opens ++ [o] }

theorem State.accept_eq (s : State) (c : Nat) (b : BitVec 512) : s.accept c b =
    let t := s.setBit (rCtxtStat c) 11 false
    let o := t.openOf c b
    let u := if o.notBefore = 0 then t else t.auditDesc c o.seq 0x18
    let v := if BitVec.ofNat 32 (fld b 32 32) ≠ (u.context c).nextSeq then u.setBit (rCtxtErr c) 4 true else u
    (((v.modContext c fun x => x.taking o).writeJournal c).showCtx c).fetchNext c := rfl

theorem State.context_accept (s : State) (c : Nat) (b : BitVec 512) :
    (s.accept c b).context c = { (s.context c).taking (s.openOf c b) with update := (s.context c).update + 1, valid := true } := by
  rw [State.accept_eq]
  extract_lets t o u v
  have hctrl : rCtxtCtrl c ≠ rCtxtStat c := by
    unfold rCtxtCtrl rCtxtStat
    omega
  have hfunc : t.funcOf c = s.funcOf c := s.rfld_setBit_other false (.inl hctrl)
  have ho : o = s.openOf c b := State.openOf_of (s := s) (t := t) rfl hfunc rfl b
  have hu : u.context c = s.context c := by
    unfold u
    split
    · rfl
    · exact State.context_of_ctx (t.ctx_auditDesc ..) c
  have hv : v.context c = s.context c := by
    unfold v
    split
    · exact hu
    · exact hu
  clear_value o u v
  rw [State.context_of_ctx ((State.ctx_fetchNext _ _).trans (State.ctx_showCtx _ c)), State.context_writeJournal,
    State.modContext,
    State.context_setContext_same, hv, ho]
  rfl

section Accept
variable {c : Fin 512} {s : State} (hproxy : s.proxyOn = false) (hfetch : (s.pcie.outst.any fun o => o.who == .fetch c) = true)
include hproxy hfetch

theorem exec_descriptorAccept_some (hst : s.ctxState c = 1) (hstop : s.fetchStopped = false) (b : BitVec 512) :
    exec (.descriptorAccept c (some b)) s = .next (if s.heldDesc c (fld b 0 8) then s.setBit (rCtxtStat c) 11 true
      else (s.readsOver (.fetch c)).accept c b) := by
  change execDescriptorAccept c (some b) s = _
  unfold execDescriptorAccept
  dsimp only
  rw [if_neg (by simp [hproxy]), if_neg (by simp [hfetch]), if_neg (by simp [hst, hstop])]
  exact (apply_ite Host.Outcome.next _ _ _).symm

theorem exec_descriptorAccept_none : exec (.descriptorAccept c none) s = .next
    (((s.readsOver (.fetch c)).setBit (rCtxtErr c) 1 true).modContext c
    fun x => { x with fetchFail := some s.now }) := by
  change execDescriptorAccept c none s = _
  unfold execDescriptorAccept
  dsimp only
  rw [if_neg (by simp [hproxy]), if_neg (by simp [hfetch])]
  rfl

end Accept

/-! ### The mark, the record and the interrupt of a descriptor -/

theorem State.ctx_maybeDisabled (s : State) (c : Nat) : (s.maybeDisabled c).ctx = s.ctx :=
  (State.maybeDisabled_kept (M := { regs := true, pcie := true }) rfl rfl (Kept.refl s)).ctx rfl

theorem State.findDesc_of_context {s t : State} {c : Nat} (h : (t.context c).opens = (s.context c).opens) (q : Nat) :
    t.findDesc c q = s.findDesc c q := by
  rw [State.findDesc, h, State.findDesc]

/-- The mark of a descriptor, its sequence and status (R369). -/
def State.marked (s : State) (c q st : Nat) : State :=
  (s.modDesc c q fun d => { d with mark := true }).modContext c fun x =>
    { x with marks := SMap.set (fun _ => 0) x.marks (q % 16) (BitVec.ofNat 32 (q % 2 ^ 24 + 2 ^ 24 * st)) }

theorem State.marked_fields (s : State) {c q : Nat} {d : OpenDesc} (h : s.findDesc c q = some d) (st : Nat) :
    SMap.get (fun _ => 0) ((s.marked c q st).context c).marks (q % 16) = BitVec.ofNat 32 (q % 2 ^ 24 + 2 ^ 24 * st) ∧
    ((s.marked c q st).context c).update = (s.context c).update ∧ ((s.marked c q st).findDesc c q).map (·.mark) = some true := by
  unfold State.marked
  rw [State.modContext, State.context_setContext_same]
  refine ⟨SMap.get_set_same .., ?_, ?_⟩
  · rw [State.modDesc, State.modContext, State.context_setContext_same]
  · rw [State.findDesc_of_context (s := s.modDesc c q fun d => { d with mark := true }) (by rw [State.context_setContext_same]),
      State.findDesc_modDesc _ _ _ _ (by intro d; rfl), h]
    rfl

theorem exec_descriptorFinish {c : Fin 512} {q : BitVec 32} {s : State} {d : OpenDesc} {st : Nat}
    (h : s.findDesc c q.toNat = some d)
    (hst : d.result = some st) (hmark : d.mark = false) :
    exec (.descriptorFinish c q) s = .next (((s.marked c q.toNat st).writeJournal c).maybeDisabled c) := by
  change execDescriptorFinish c q s = _
  unfold execDescriptorFinish
  dsimp only
  rw [h]
  dsimp only
  rw [hst]
  exact if_neg (by rw [hmark]; exact Bool.false_ne_true)

/-- The record of a descriptor is written at W, and the interrupt that it calls for noted. -/
def State.recorded (s : State) (c : Nat) (d : OpenDesc) (st : Nat) : State :=
  ((s.putRecord c d.seq st 0 d.tag).modDesc c d.seq fun p =>
    { p with record := true, slot := (s.context c).w.toNat }).modContext c fun x =>
    { x with lastDone := BitVec.ofNat 32 d.seq, recSince := x.recSince + 1,
             irqDue := x.irqDue || d.irq || !(st == 0 || st == 1) }

theorem State.recorded_fields (s : State) (c : Nat) (d : OpenDesc) (st : Nat) :
    ((s.recorded c d st).context c).w = (s.context c).w + 1 ∧ ((s.recorded c d st).context c).lastDone = BitVec.ofNat 32 d.seq ∧
    ((s.recorded c d st).context c).recSince = (s.context c).recSince + 1 ∧
    ((s.recorded c d st).context c).irqDue = ((s.context c).irqDue || d.irq || decide (2 ≤ st)) := by
  have hirq : (!(st == 0 || st == 1)) = decide (2 ≤ st) := by
    rcases st with _ | _ | n <;> simp
  unfold State.recorded
  rw [State.modContext, State.context_setContext_same, hirq]
  unfold State.modDesc
  rw [State.modContext, State.context_setContext_same, State.context_putRecord]
  exact ⟨rfl, rfl, rfl, rfl⟩

theorem exec_completionRecord {c : Fin 512} {s : State} {d : OpenDesc} {st : Nat}
    (h : ((s.context c).opens.find? fun d => !d.record) = some d) (hst : d.result = some st) (hmark : d.mark = true)
    (hnb : d.notBefore ≤ s.now) (hctx : s.ctxState c ≠ 0) (hq : (s.context c).quiet = false)
    (hcan : s.canIssue (s.funcOf c) = true) :
    exec (.completionRecord c) s = .next ((((s.recorded c d st).showCtx c).fetchNext c).maybeDisabled c) := by
  change execCompletionRecord c s = _
  unfold execCompletionRecord
  dsimp only
  rw [h]
  dsimp only
  rw [hst]
  exact if_neg (by simp [hmark, hnb, hctx, hq, hcan])

/-- The completion interrupt of a context is due (R372). -/
def State.irqNow (s : State) (c : Nat) : Prop :=
    (max 1 (s.rfld (rCtxtMod c) 16 8) ≤ (s.context c).recSince ∨ (s.context c).irqDue = true) ∧
  ∀ k, (s.context c).lastIrq = some k → k + s.rfld (rCtxtMod c) 0 16 * 12288 / 10 ≤ s.now

theorem exec_completionInterrupt_due {c : Fin 512} {s : State} (h : s.irqNow c) : exec (.completionInterrupt c) s =
    .next ((s.ctxIrq c (s.rfld (rCtxtIrq c) 0 10)).modContext c fun x =>
      { x with recSince := 0, irqDue := false, lastIrq := some (s.ctxIrq c (s.rfld (rCtxtIrq c) 0 10)).now }) := by
  obtain ⟨hdue, htime⟩ := h
  have hdue' : (decide (max 1 (s.rfld (rCtxtMod c) 16 8) ≤ (s.context c).recSince) || (s.context c).irqDue) = true := by
    rw [Bool.or_eq_true, decide_eq_true_eq]
    exact hdue
  change execCompletionInterrupt c s = _
  unfold execCompletionInterrupt
  dsimp only
  rw [hdue', Bool.true_and]
  cases hlast : (s.context c).lastIrq with
  | none => rfl
  | some k => exact if_neg (by simp [htime k hlast])

theorem exec_completionInterrupt_idle {c : Fin 512} {s : State} (h1 : (s.context c).recSince < max 1 (s.rfld (rCtxtMod c) 16 8))
    (h2 : (s.context c).irqDue = false) : exec (.completionInterrupt c) s = .next s := by
  change execCompletionInterrupt c s = _
  unfold execCompletionInterrupt
  dsimp only
  rw [decide_eq_false (Nat.not_le.mpr h1), h2]
  rfl

/-- Settles O33: from what a CANCEL, an acceptance, a mark, a record and an interrupt leave in their context. -/
theorem acceptanceAndCompletion : Obligations.AcceptanceAndCompletion := by
  unfold Obligations.AcceptanceAndCompletion
  refine ⟨?_, ?_⟩
  · intro s c q
    refine ⟨fun h => ?_, fun h => ?_, fun d h => ?_, fun d h => ?_, fun d x h hex huse hne hacc hearly hx hnever => ?_⟩
    · change execNopDesc c q s = _
      unfold execNopDesc
      rw [h]
    · change execFence c q s = _
      unfold execFence
      rw [h]
    · refine ⟨s.finish c q.toNat (if d.extra == 0 && d.onlyUses [] then 0 else 0x10), ?_, ?_, (s.finish_frame ..).regs rfl⟩
      · change execNopDesc c q s = _
        unfold execNopDesc
        rw [h]
      · rw [finish_plain]
        exact State.ended_finish h _
    · refine ⟨s.finish c q.toNat (if d.extra == 0 && d.onlyUses [] then 0 else 0x10), ?_, ?_, ?_⟩
      · change execFence c q s = _
        unfold execFence
        rw [h]
      · rw [finish_plain]
        exact State.ended_finish h _
      · obtain ⟨-, -, htyp, -, -, hmay⟩ := State.ready_spec h
        exact fence_behind hmay htyp
    · have hrun := exec_cancel_legal h hex huse hne hacc hearly hx hnever
      refine ⟨fun hg hr => ?_, fun hg => ?_⟩
      · rwa [if_neg (by simp [hg, hr])] at hrun
      · rw [if_pos (.inl hg)] at hrun
        exact ⟨_, hrun, State.ended_finish h 3, (s.findDesc_finish_other c hne 3).trans hx⟩
  · intro s c x
    refine ⟨fun b hproxy hfetch hst hstop hheld => ?_, fun b hproxy hfetch hst hstop hheld => ?_, fun hproxy hfetch => ?_,
      fun k hk hdue => ?_, fun k hk hearly => ?_, fun q d st hd hst hmark => ?_,
      fun d st hd hst hmark hnb hctx hq hcan => ?_, fun hdue htime => ?_, fun h1 h2 => exec_completionInterrupt_idle h1 h2⟩
    · have hrun := exec_descriptorAccept_some hproxy hfetch hst hstop b
      rw [if_neg (by simp [hheld])] at hrun
      have hc := (s.readsOver (.fetch c)).context_accept c b
      have hopen : (s.readsOver (.fetch c)).openOf c b = s.openOf c b := State.openOf_of rfl rfl rfl b
      refine ⟨_, hrun, ?_, ?_, ?_⟩
      · rw [hc, hopen]
        rfl
      · rw [hc]
        rfl
      · rw [hc]
        rfl
    · have hrun := exec_descriptorAccept_some hproxy hfetch hst hstop b
      rwa [if_pos hheld] at hrun
    · refine ⟨_, exec_descriptorAccept_none hproxy hfetch, ?_, ?_, ?_⟩
      · exact State.rbit_setBit_same (s.readsOver (.fetch c)) _ _ _ (by decide)
      · rw [State.modContext, State.context_setContext_same]
      · rw [State.modContext, State.context_setContext_same]
        rfl
    · refine ⟨((s.modContext c fun x => { x with fetchFail := none }).fetchNext c), ?_, ?_⟩
      · change execFetchRetry c s = _
        unfold execFetchRetry
        dsimp only
        rw [show (s.context c).fetchFail = some k from hk]
        exact if_neg (Nat.not_lt.mpr hdue)
      · rw [State.context_of_ctx (State.ctx_fetchNext _ _), State.modContext, State.context_setContext_same]
    · change execFetchRetry c s = _
      unfold execFetchRetry
      dsimp only
      rw [show (s.context c).fetchFail = some k from hk]
      exact if_pos hearly
    · obtain ⟨hm, hu, hd'⟩ := s.marked_fields hd st
      have hc : (((s.marked c q.toNat st).writeJournal c).maybeDisabled c).context c =
          { (s.marked c q.toNat st).context c with update := ((s.marked c q.toNat st).context c).update + 1, valid := true } :=
        (State.context_of_ctx (State.ctx_maybeDisabled _ _) c).trans (State.context_writeJournal _ c)
      refine ⟨_, exec_descriptorFinish hd hst hmark, ?_, ?_, ?_⟩
      · rw [hc]
        exact hm
      · rw [hc]
        exact congrArg (· + 1) hu
      · rw [State.findDesc_of_context (s := s.marked c q.toNat st) (by rw [hc])]
        exact hd'
    · have hc : ((((s.recorded c d st).showCtx c).fetchNext c).maybeDisabled c).context c = (s.recorded c d st).context c :=
        State.context_of_ctx ((State.ctx_maybeDisabled _ _).trans ((State.ctx_fetchNext _ _).trans (State.ctx_showCtx _ _))) c
      refine ⟨_, exec_completionRecord hd hst hmark hnb hctx hq hcan, ?_⟩
      rw [hc]
      exact s.recorded_fields c d st
    · refine ⟨_, exec_completionInterrupt_due ⟨hdue, htime⟩, ?_⟩
      rw [State.modContext, State.context_setContext_same, State.now_ctxIrq]
      exact ⟨rfl, rfl, rfl⟩

end Sys2Proof.Machine

/-! O44: the host relay and the boot of a follower (R561, R562). -/

namespace Sys2Proof.Machine

/-- What a message does whose like is the next of the inbox. -/
theorem State.onMsg_of {s p : State} {kind src : Nat} {m : Msg} (h : s.popMsg kind src = some (m, p)) (f : Msg → State → State) :
    s.onMsg kind src f = .next (f m p) := by
  unfold State.onMsg
  rw [h]

/-! ### The master -/

/-- The writes of a byte range go to the port alike in states with one port, one time and one PCIe configuration. -/
theorem State.fab_hostWrite {s t : State} (hfab : t.fab = s.fab) (hnow : t.now = s.now) (hpcie : t.pcie = s.pcie)
    (cls master f a : Nat) (d : List Byte) (attr : BitVec 3) :
    (t.hostWrite cls master f a d attr).fab = (s.hostWrite cls master f a d attr).fab := by
  have hmps : t.mps = s.mps := by rw [State.mps, hpcie, State.mps]
  have hall : ∀ (l : List (Nat × Nat)) (s t : State), t.fab = s.fab → t.now = s.now →
      (l.foldl (fun s p => s.offer cls master (.write f p.1 ((d.drop (p.1 - a)).take p.2) attr)) t).fab =
        (l.foldl (fun s p => s.offer cls master (.write f p.1 ((d.drop (p.1 - a)).take p.2) attr)) s).fab := by
    intro l
    induction l with
    | nil => exact fun s t h _ => h
    | cons p l ih =>
      intro s t hf hn
      refine ih _ _ ?_ hn
      simp only [State.offer, hf, hn]
  unfold State.hostWrite
  rw [hmps]
  exact hall _ s t hfab hnow

/-- A host read that waits in the inbox for its answer. -/
def State.holdRead (p : State) (m : Msg) : State := p.modNgx fun x => { x with inbox := x.inbox ++ [{ m with resend := true }] }

/-- What the master holds of a device's writes. -/
def State.joining (p : State) (src : Nat) (j : Option Join) : State :=
  p.modNgx fun x => { x with join := SMap.set (fun _ => none) x.join src j }

theorem State.join_joining (p : State) (src : Nat) (j : Option Join) :
    SMap.get (fun _ => none) (p.joining src j).ngx.join src = j :=
  SMap.get_set_same ..

section Master
variable {src : Fin 16} {s p : State} {m : Msg}

theorem exec_hrd_issue (h : s.popMsg 0x10 src = some (m, p)) :
    exec (.hrd src none [] 0) s = .next (if p.canIssue (p.relayFn m) then
        (p.holdRead m).hostRead m.cls 97 (p.relayFn m) m.addr (fld (m.word 2) 0 7) false (.relay src (fld (m.word 2) 16 16))
      else (p.holdRead m).hrdReply src (fld (m.word 2) 16 16) 1 []) :=
  State.onMsg_of h _

/-- A relayed write with nothing held of its device goes to the host, or is held itself where more of it follows. -/
theorem exec_hwr_first (h : s.popMsg 0x12 src = some (m, p)) (hjoin : SMap.get (fun _ => none) p.ngx.join src.val = none) :
    exec (.hwr src) s = .next (if bit (m.word 2) 11 then
        p.joining src (some { func := p.relayFn m, cls := m.cls, addr := m.addr, data := m.bytes 3 (fld (m.word 2) 0 7) })
      else (p.joining src none).hostWrite m.cls 97 (p.relayFn m) m.addr (m.bytes 3 (fld (m.word 2) 0 7)) 0) := by
  refine (State.onMsg_of h _).trans ?_
  dsimp only
  rw [hjoin]
  cases bit (m.word 2) 11 <;> rfl

theorem exec_bootReq_answered (h : s.popMsg 0x20 src = some (m, p)) (hk : s.keeperRuns = true) :
    let o := (m.word 0).toNat
    let n := if p.rbit rNgxCtrl 3 then min (min 112 (fld (m.word 1) 0 7)) (p.copyLen - o) else 0
    exec (.bootReq src) s =
      .next (p.ngxSend { kind := 0x21, dst := src, payload := [m.word 0, BitVec.ofNat 32 n] ++ packWords 28 (p.copyBytes o n) }) :=
  (if_neg (by rw [hk]; decide)).trans (State.onMsg_of h _)

end Master

/-! ### The follower's boot -/

theorem State.img_bootAsk (s : State) : s.bootAsk.boot.img = s.boot.img := by
  unfold State.bootAsk
  split
  · rfl
  · refine forN_keeps 16 _ (fun s : State => s.boot.img) (fun _ t => ?_) s
    dsimp only
    generalize (if t.boot.img.length < 512 then 512 else 512 + min (byteNum t.boot.img 8 4) 1048064) = total
    split
    · rfl
    · rfl

section BootData
variable {src : Fin 16} {s p : State} {m : Msg} (h : s.popMsg 0x21 src = some (m, p)) (hcur : p.boot.cur = 6)
    (hphase : p.boot.phase = 2)
include h hcur hphase

theorem exec_bootData_end (hn : fld (m.word 1) 0 7 = 0) : exec (.bootData src) s = .next (p.sourceFails true 0x07) := by
  refine (State.onMsg_of h _).trans (congrArg Host.Outcome.next ?_)
  exact (if_neg (by simp [hcur, hphase])).trans (if_pos hn)

theorem exec_bootData_stray (hn : fld (m.word 1) 0 7 ≠ 0) (ho : (m.word 0).toNat ≠ p.boot.img.length) :
    exec (.bootData src) s = .next p := by
  refine (State.onMsg_of h _).trans (congrArg Host.Outcome.next ?_)
  exact (if_neg (by simp [hcur, hphase])).trans ((if_neg hn).trans (if_pos ho))

theorem exec_bootData_next (hn : fld (m.word 1) 0 7 ≠ 0) (ho : (m.word 0).toNat = p.boot.img.length) : ∃ t,
    exec (.bootData src) s = .next t ∧ t.boot.img = p.boot.img ++ m.bytes 2 (fld (m.word 1) 0 7) := by
  refine ⟨_, (State.onMsg_of h _).trans (congrArg Host.Outcome.next
    ((if_neg (by simp [hcur, hphase])).trans ((if_neg hn).trans (if_neg (not_not_intro ho))))), ?_⟩
  dsimp only
  split
  · rfl
  · exact State.img_bootAsk _

end BootData

/-! ### The answers to a follower's reads -/

/-- A message is taken out of the inbox. -/
def State.taken (s : State) (m : Msg) : State := s.modNgx fun x => { x with inbox := x.inbox.erase m }

section Answer
variable {tag : Fin 65536} {s : State} {m : Msg}
  (h : s.ngx.inbox.find? (fun m => m.kind == 0x11 && fld (m.word 0) 0 16 == tag.val) = some m)
include h

theorem exec_hrdCpl_late (hnone : s.pcie.outst.find? (fun o => o.tag == 1024 + tag.val) = none) :
    exec (.hrdCpl tag) s = .next (s.taken m) := by
  have hout : (s.taken m).pcie = s.pcie := rfl
  change execHrdCpl tag s = _
  unfold execHrdCpl
  rw [h]
  dsimp only
  rw [← State.taken, hout]
  rw [hnone]

variable {o : Outst} {k : Nat} (ho : s.pcie.outst.find? (fun o => o.tag == 1024 + tag.val) = some o) (hwho : o.who = .mover k)
include ho hwho

theorem exec_hrdCpl_failed (hst : fld (m.word 0) 16 2 = 1) :
    exec (.hrdCpl tag) s = .next ((s.taken m).failJob k) := by
  have hout : (s.taken m).pcie = s.pcie := rfl
  change execHrdCpl tag s = _
  unfold execHrdCpl
  rw [h]
  dsimp only
  rw [← State.taken, hout]
  rw [ho]
  dsimp only
  rw [hwho]
  exact if_pos hst

/-- The only answer that a copy's piece waits for goes to it. -/
theorem exec_hrdCpl_copy {c q off n : Nat} {i : Bool} {a : Nat} (hst : fld (m.word 0) 16 2 = 0) (hgot : s.ngx.got = [])
    (hmine : s.pcie.outst.filter (fun r => r.who == o.who) = [o])
    (hjob : SMap.get (fun _ => none) s.mov.movers k = some ⟨.copy c q off n, i, a⟩) : exec (.hrdCpl tag) s =
      exec (.copyPieceCompletion (Fin.ofNat 64 k) (m.bytes 2 (fld (m.word 1) 0 7)) 0)
        ((s.taken m).readsOver o.who) := by
  have hout : (s.taken m).pcie = s.pcie := rfl
  have hgot' : (s.taken m).ngx.got = [] := hgot
  have hjob' : SMap.get (fun _ => none) (s.taken m).mov.movers k = some ⟨.copy c q off n, i, a⟩ := hjob
  have hclear : ∀ u : State, u.ngx.got = [] → (u.modNgx fun x => { x with got := [] }) = u := by
    intro u hu
    unfold State.modNgx
    rw [← hu]
  change execHrdCpl tag s = execCopyPieceCompletion _ _ _ _
  unfold execHrdCpl
  rw [h]
  dsimp only
  rw [← State.taken]
  generalize s.taken m = p at *
  rw [hout, ho]
  dsimp only
  rw [hwho] at hmine ⊢
  dsimp only
  rw [if_neg (by rw [hst]; decide), hst, hmine, hgot']
  generalize m.bytes 2 (fld (m.word 1) 0 7) = data
  have hhere : ([o].filterMap fun r => ([] ++ [(o.tag, data, 0)]).find? fun g => g.1 == r.tag) = [(o.tag, data, 0)] := by simp
  have hrest : ([] ++ [(o.tag, data, 0)]).filter (fun g : Nat × List Byte × Nat => !([o].any fun r => r.tag == g.1)) =
    [] := by simp
  have hmov : (p.readsOver (.mover k)).mov = p.mov := rfl
  rw [hhere, hrest, hclear p hgot', hmov, hjob', if_neg (by simp)]
  simp

end Answer

theorem exec_relayReadTimeout_mover {tag : Fin 65536} {s : State} {o : Outst} {k : Nat}
    (ho : s.pcie.outst.find? (fun o => o.tag == 1024 + tag.val) = some o) (hwho : o.who = .mover k) :
    exec (.relayReadTimeout tag) s = .next (if s.now < o.at' + 61440000 then s else s.failJob k) := by
  change execRelayReadTimeout tag s = _
  unfold execRelayReadTimeout
  rw [ho]
  dsimp only
  rw [hwho]
  exact (apply_ite Host.Outcome.next _ _ _).symm

/-- Settles O44: each message of the relay, and the time-out of a relayed read. -/
theorem hostRelay : Obligations.HostRelay := by
  unfold Obligations.HostRelay
  refine ⟨?_, ?_, ?_⟩
  · intro src s m p tag held
    refine ⟨fun h => ?_, fun h hjoin => ?_, fun h => State.onMsg_of h _, fun h hk => exec_bootReq_answered h hk,
      fun h hcur hphase => ⟨exec_bootData_end h hcur hphase, exec_bootData_stray h hcur hphase, exec_bootData_next h hcur hphase⟩⟩
    · have hrun := exec_hrd_issue h
      refine ⟨fun hcan => ?_, fun hcan => ?_⟩
      · rwa [if_pos hcan] at hrun
      · rwa [if_neg (by simp [hcan])] at hrun
    · have hrun := exec_hwr_first h hjoin
      intro d
      refine ⟨fun hmore => ?_, fun hmore => ?_⟩
      · rw [if_neg (by simp [hmore])] at hrun
        exact ⟨_, hrun, State.fab_hostWrite (s := p) (t := p.joining src none) rfl rfl rfl ..⟩
      · rw [if_pos hmore] at hrun
        exact ⟨_, hrun, rfl, p.join_joining src _⟩
  · intro tag s m o k p h
    exact ⟨exec_hrdCpl_late h, fun ho hwho => ⟨exec_hrdCpl_failed h ho hwho,
      fun c q off n i a hst hgot hmine hjob => exec_hrdCpl_copy h ho hwho hst hgot hmine hjob⟩⟩
  · intro tag s o k ho hwho
    have hrun := exec_relayReadTimeout_mover ho hwho
    refine ⟨fun hearly => ?_, fun hdue => ?_⟩
    · rwa [if_pos hearly] at hrun
    · rwa [if_neg (Nat.not_lt.mpr hdue)] at hrun

end Sys2Proof.Machine

/-! O43: messages of the cascade link (R549 to R560). -/

namespace Sys2Proof.Machine

/-! ### Received messages -/

section Received
variable {src : Fin 16} {s p : State} {m : Msg}

/-- What an ACK of one word removes. -/
def State.acked (p : State) (src : Nat) (last : Nat) : State :=
  p.modNgx fun x => { x with msgs := x.msgs.filter fun k =>
    !(k.dst == src && match k.seq with
      | some q => decide ((last + 65536 - q) % 65536 < 32768)
      | none => false) }

theorem exec_ngxAck_one (h : s.popMsg 2 src = some (m, p)) {w : Word} (hw : m.payload = [w]) :
    exec (.ngxAck src) s = .next (if fld w 0 4 ≠ p.devNo then p else p.acked src (fld w 16 16)) := by
  refine (State.onMsg_of h _).trans ?_
  rw [hw]
  rfl

theorem exec_ngxData_dropped (h : s.popMsg 3 src = some (m, p)) (ev : BitVec 32)
    (hno : p.proxyOn = false ∨ p.ctxState m.ctx = 0) :
    exec (.ngxData src ev) s = .next (p.msgDrop src 1) := by
  refine (State.onMsg_of h _).trans (congrArg Host.Outcome.next (if_pos ?_))
  rcases hno with hno | hno <;> simp [hno]

/-- A descriptor put into the store of a proxy context. -/
def State.stored (p : State) (c : Nat) (ws : List Word) : State :=
  ((p.modNgx fun x => { x with store := SMap.modify (fun _ => []) x.store c (· ++ [ws]) }).modContext c fun x =>
    { x with p := x.p + 1 }).showCtx c

theorem exec_ngxData_stored (h : s.popMsg 3 src = some (m, p)) (ev : BitVec 32) (hon : p.proxyOn = true)
    (hst : p.ctxState m.ctx ≠ 0)
    (hlen : m.payload.length = 16) : exec (.ngxData src ev) s = .next (p.stored m.ctx m.payload) := by
  refine (State.onMsg_of h _).trans (congrArg Host.Outcome.next ?_)
  exact (if_neg (by simp [hon, hst])).trans (if_pos hlen)

theorem State.stored_fields (p : State) (c : Nat) (ws : List Word) :
    ((p.stored c ws).context c).p = (p.context c).p + 1 ∧
    SMap.get (fun _ => []) (p.stored c ws).ngx.store c = SMap.get (fun _ => []) p.ngx.store c ++ [ws] := by
  unfold State.stored
  refine ⟨?_, SMap.get_set_same (d := fun _ => ([] : List (List Word))) ..⟩
  rw [State.context_of_ctx (State.ctx_showCtx _ c), State.modContext, State.context_setContext_same]
  rfl

/-- What the answer to a relayed access does while one is under way. -/
theorem exec_regRsp_due (h : s.popMsg 6 src = some (m, p)) :
    exec (.regRsp src) s = .next (if p.rbit rNgxRrCmd 31 = false then p else
    (if p.rbit rNgxRrCmd 1 then p else p.setReg rNgxRrData (m.word 1)).setBit rNgxRrCmd 31 false) := by
  refine (State.onMsg_of h _).trans (congrArg Host.Outcome.next ?_)
  dsimp only
  cases p.rbit rNgxRrCmd 31 <;> rfl

end Received

/-! ### Register relay -/

section Relay
variable {s : State} (hm : s.isMaster = true) (hidle : s.rbit rNgxRrCmd 31 = false)
include hm hidle

/-- GO while no access is under way sends the request to a device that is there. -/
theorem State.rrCmdW_sends {v : Word} (h30 : bit v 30 = false) (h0 : bit v 0 = true)
    (hd : s.present (s.rfld rNgxRrAddr 24 4) = true)
    (hd0 : s.rfld rNgxRrAddr 24 4 ≠ 0) :
    s.rrCmdW v = ((s.setBit rNgxRrCmd 1 (bit v 1)).setBit rNgxRrCmd 31 true).ngxSend
      (if bit v 1 then { kind := 5, dst := s.rfld rNgxRrAddr 24 4,
                         payload := [BitVec.ofNat 32 (s.rfld rNgxRrAddr 0 22), s.reg rNgxRrData] }
       else { kind := 4, dst := s.rfld rNgxRrAddr 24 4, payload := [BitVec.ofNat 32 (s.rfld rNgxRrAddr 0 22)] }) := by
  have haddr (lo len : Nat) : (s.setBit rNgxRrCmd 1 (bit v 1)).rfld rNgxRrAddr lo len = s.rfld rNgxRrAddr lo len :=
    State.rfld_setBit_other _ _ (.inl (by decide))
  have hdata : (s.setBit rNgxRrCmd 1 (bit v 1)).reg rNgxRrData = s.reg rNgxRrData := State.reg_setBit_other _ _ _ (by decide)
  have hbusy : (s.setBit rNgxRrCmd 1 (bit v 1)).rbit rNgxRrCmd 31 = false :=
    (State.rbit_setBit _ _ _ _ _ _ (by decide)).trans ((if_neg (by decide)).trans hidle)
  have hpres (d : Nat) : (s.setBit rNgxRrCmd 1 (bit v 1)).present d = s.present d := rfl
  have hif : (if bit v 30 then s.setBit rNgxRrCmd 30 false else s) = s := if_neg (by simp [h30])
  unfold State.rrCmdW
  dsimp only
  rw [if_neg (by simp [hm]), hif, if_neg (by simp [h0]), hbusy, if_neg (by decide), haddr, haddr, hpres, hd, hdata]
  exact if_neg (by simp [hd0])

/-- GO for a device that is not there, or for the master itself, is refused. -/
theorem State.rrCmdW_refused {v : Word} (h30 : bit v 30 = false) (h0 : bit v 0 = true)
    (hd : s.present (s.rfld rNgxRrAddr 24 4) = false ∨ s.rfld rNgxRrAddr 24 4 = 0) :
    s.rrCmdW v = (s.setBit rNgxRrCmd 1 (bit v 1)).setBit rNgxRrCmd 30 true := by
  have haddr (lo len : Nat) : (s.setBit rNgxRrCmd 1 (bit v 1)).rfld rNgxRrAddr lo len = s.rfld rNgxRrAddr lo len :=
    State.rfld_setBit_other _ _ (.inl (by decide))
  have hbusy : (s.setBit rNgxRrCmd 1 (bit v 1)).rbit rNgxRrCmd 31 = false :=
    (State.rbit_setBit _ _ _ _ _ _ (by decide)).trans ((if_neg (by decide)).trans hidle)
  have hpres (d : Nat) : (s.setBit rNgxRrCmd 1 (bit v 1)).present d = s.present d := rfl
  have hif : (if bit v 30 then s.setBit rNgxRrCmd 30 false else s) = s := if_neg (by simp [h30])
  unfold State.rrCmdW
  dsimp only
  rw [if_neg (by simp [hm]), hif, if_neg (by simp [h0]), hbusy, if_neg (by decide), haddr, hpres]
  exact if_pos (by simpa using hd)

end Relay

/-! ### Repeated messages (R552) -/

/-- A message that is due again, with those behind it, is marked to be sent again. -/
theorem exec_messageRepeat_due (p : Fin 16) {s : State} {k : Msg}
    (h : s.ngx.msgs.find? (fun m => m.dst == p.val && !m.resend && m.seq.isSome && decide (m.sentAt + 4 ≤ s.ngx.frames)) =
    some k) :
    ∃ later : Msg → Bool, later k = true ∧ exec (.messageRepeat p) s =
      .next (s.modNgx fun x => { x with msgs := x.msgs.map fun m => if later m then { m with resend := true } else m }) := by
  have hold := List.find?_some h
  simp only [Bool.and_eq_true] at hold
  obtain ⟨⟨⟨hdst, -⟩, hseq⟩, -⟩ := hold
  obtain ⟨a, ha⟩ := Option.isSome_iff_exists.mp hseq
  refine ⟨fun m => m.dst == p.val && match k.seq, m.seq with
      | some a, some b => decide ((b + 65536 - a) % 65536 < 32768)
      | _, _ => false, ?_, ?_⟩
  · simp [hdst, ha]
  · change execMessageRepeat p s = _
    unfold execMessageRepeat
    dsimp only
    generalize List.find? _ s.ngx.msgs = r at h ⊢
    subst h
    rfl

/-! ### CASC_SEND -/

section CascSend
variable {c : Fin 512} {q : BitVec 32} {s : State} {d : OpenDesc} (h : s.ready c q.toNat tCascSend = some d) (ws : List Word)
include h

theorem exec_cascSend_absent (hno : s.present (d.extra % 16) = false ∨ d.extra % 16 = s.devNo) :
    exec (.cascSend c q ws 0) s = .next (s.finish c q.toNat 0x10) := by
  change execCascSend c q ws 0 s = _
  unfold execCascSend
  dsimp only
  rw [h]
  refine if_pos ?_
  rcases hno with hno | hno <;> simp [hno]

variable (hdst : d.extra < 16) (huse : d.onlyUses [(16, 3), (24, 8)] = true) (hself : d.extra ≠ s.devNo)
  (hpres : s.present d.extra = true) (hsess : bit (s.sessionOf d.extra) 17 = true) (hn : d.num 18 1 = 1 ∨ d.num 18 1 = 16)
  (hproxy : d.num 16 2 < 512) (hown : s.funcOf c = 0 ∨ d.num 16 2 = c) (hwin : windowOk (d.num 24 8) (4 * d.num 18 1) = true)
include hdst huse hself hpres hsess hn hproxy hown hwin

theorem exec_cascSend_legal (fail : Fin 3) : exec (.cascSend c q ws fail) s =
    (if fail.val ≠ 0 then .next (s.finish c q.toNat (if fail.val = 1 then 0x20 else 0x22))
    else if ws.length ≠ d.num 18 1 then .next s
    else .next ((s.begin c q.toNat).ngxSend
      { kind := 3, dst := d.extra, ctx := d.num 16 2, payload := ws, desc := some (c.val, q.toNat) })) := by
  have hmod : d.extra % 16 = d.extra := Nat.mod_eq_of_lt hdst
  have hn' : (d.num 18 1 == 1 || d.num 18 1 == 16) = true := by
    rcases hn with hn | hn <;> simp [hn]
  have hown' : (s.funcOf c != 0 && d.num 16 2 != c.val) = false := by
    rcases hown with hown | hown <;> simp [hown]
  change execCascSend c q ws fail s = _
  unfold execCascSend
  dsimp only
  rw [h]
  dsimp only
  rw [hmod, hn', hown', huse, hpres, hsess, hwin]
  exact if_neg (by simp [hself, hproxy, hdst])

end CascSend

/-- Settles O43: each message of the link by its kind, the register relay, the repeats and CASC_SEND. -/
theorem linkMessages : Obligations.LinkMessages := by
  unfold Obligations.LinkMessages
  refine ⟨?_, ?_, ?_, ?_⟩
  · intro src s m p
    refine ⟨fun h => State.onMsg_of h _, fun h => ?_, fun h w hw => ?_,
      fun h ev => ⟨exec_ngxData_dropped h ev, fun hon hst hlen => ?_⟩, ?_⟩
    · change s.onMsg 1 src.val _ = _
      unfold State.onMsg
      rw [h]
    · have hrun := exec_ngxAck_one h hw
      refine ⟨fun hdev => ?_, fun hdev => ?_⟩
      · rwa [if_pos hdev] at hrun
      · rw [if_neg (not_not_intro hdev)] at hrun
        exact ⟨_, hrun, rfl⟩
    · exact ⟨_, exec_ngxData_stored h ev hon hst hlen, p.stored_fields m.ctx m.payload⟩
    · refine ⟨⟨fun h => State.onMsg_of h _, fun h => State.onMsg_of h _⟩, fun h => ?_⟩
      have hrun := exec_regRsp_due h
      refine ⟨fun hgo => ?_, fun hgo hwr => ?_, fun hgo hwr => ?_⟩
      · rwa [if_pos hgo] at hrun
      · rw [if_neg (by simp [hgo]), if_neg (by simp [hwr])] at hrun
        refine ⟨_, hrun, ?_, State.rbit_setBit_same _ _ _ _ (by decide)⟩
        rw [State.reg_setBit_other _ _ _ (by decide), State.reg_setReg_same]
      · rwa [if_neg (by simp [hgo]), if_pos hwr] at hrun
  · intro s hlit hm hidle d o
    have sends (v : Word) (hp : s.present d = true) (hd : d ≠ 0) (h30 : bit v 30 = false) (h0 : bit v 0 = true) :=
      (State.bar_of_lit hlit fun s => s.rrCmdW v).trans (State.rrCmdW_sends hm hidle h30 h0 hp hd)
    have hgo (b : Bool) (k : Msg) : (((s.setBit rNgxRrCmd 1 b).setBit rNgxRrCmd 31 true).ngxSend k).rbit rNgxRrCmd 31 = true :=
      State.rbit_setBit_same (s.setBit rNgxRrCmd 1 b) _ _ _ (by decide)
    refine ⟨fun hp hd => ⟨?_, ?_⟩, fun hno => ?_⟩
    · exact ⟨_, congrArg Host.Outcome.next (sends 1 hp hd (by decide) (by decide)), hgo _ _, rfl⟩
    · exact ⟨_, congrArg Host.Outcome.next (sends 3 hp hd (by decide) (by decide)), hgo _ _, rfl⟩
    · refine ⟨_, congrArg Host.Outcome.next ((State.bar_of_lit hlit fun s => s.rrCmdW 1).trans
        (State.rrCmdW_refused hm hidle (by decide) (by decide) hno)), State.rbit_setBit_same _ _ _ _ (by decide), rfl⟩
  · intro p s k old
    refine ⟨fun h => ?_, fun h => ?_⟩
    · obtain ⟨later, hlater, hrun⟩ := exec_messageRepeat_due p h
      refine ⟨_, hrun, ?_, ?_⟩
      · exact List.mem_map.mpr ⟨k, List.mem_of_find?_eq_some h, if_pos hlater⟩
      · refine (List.map_map ..).trans (List.map_congr_left fun m _ => ?_)
        dsimp only [Function.comp]
        split <;> rfl
    · change execMessageRepeat p s = _
      unfold execMessageRepeat
      dsimp only
      rw [h]
  · intro c q ws s d h dst proxy n
    refine ⟨fun hno => ⟨_, exec_cascSend_absent h ws hno, State.ended_finish h _⟩,
      fun hdst huse hself hpres hsess hn hproxy hown hwin => ?_⟩
    have hrun := exec_cascSend_legal h ws hdst huse hself hpres hsess hn hproxy hown hwin
    refine ⟨⟨_, (hrun 1).trans (if_pos (by decide)), State.ended_finish h _⟩, fun hlen => ?_⟩
    exact ⟨_, (hrun 0).trans ((if_neg (by decide)).trans (if_neg (not_not_intro hlen))), rfl⟩

end Sys2Proof.Machine

/-! O42: frames of the cascade link (R526 to R541). -/

namespace Sys2Proof.Machine

/-! ### What a frame's parts leave of the receive side

A frame is taken in parts: its sessions, its decisions, its slots. None of them moves the receive side or its counts. -/

/-- The receive side of the link: its state, its counts, and the time. -/
structure Link where
  rx : Nat
  good : Nat
  loss : Nat
  frames : Nat
  count : Word
  now : Nat

def State.link (s : State) : Link :=
  { rx := s.rxState, good := s.ngx.good, loss := s.ngx.loss, frames := s.ngx.frames, count := s.ngx.frameCnt, now := s.now }

theorem State.link_setReg (s : State) {o : Nat} (v : Word) (ho : rNgxStat ≠ o) : (s.setReg o v).link = s.link := by
  unfold State.link State.rxState
  rw [State.rfld_setReg_other _ _ _ _ ho]
  rfl

theorem State.link_setBit (s : State) {o k : Nat} (v : Bool) (ho : rNgxStat ≠ o ∨ 11 + 2 ≤ k ∨ k < 11) :
    (s.setBit o k v).link = s.link := by
  unfold State.link State.rxState
  rw [State.rfld_setBit_other _ _ ho]
  rfl

theorem State.link_setFld (s : State) {o lo len : Nat} (v : Nat) (ho : rNgxStat ≠ o ∨ 11 + 2 ≤ lo ∨ lo + len ≤ 11) :
    (s.setFld o lo len v).link = s.link := by
  unfold State.link State.rxState
  rw [State.rfld_setFld_other _ _ ho]
  rfl

theorem State.link_setPeer (s : State) (p : Nat) (x : Peer) : (s.setPeer p x).link = s.link := rfl

theorem State.link_withSent (s : State) (fr : Option (List Word)) : (s.modNgx fun x => { x with sent := fr }).link = s.link := rfl

theorem State.link_msgDrop (s : State) (p n : Nat) : (s.msgDrop p n).link = s.link := by
  unfold State.msgDrop State.bumpBy
  split
  · rfl
  · rw [State.link_setBit _ _ (.inl (by decide)), State.link_setFld _ _ (.inl (by decide)),
      State.link_setFld _ _ (.inl (by decide))]

theorem State.link_takeMsg (s : State) (m : Msg) : (s.takeMsg m).link = s.link := by
  unfold State.takeMsg
  extract_lets me
  split
  · exact s.link_msgDrop _ _
  · cases m.seq with
    | none => rfl
    | some q =>
      dsimp only
      split
      · split <;> rfl
      · split
        · exact State.link_setFld _ _ (.inl (by decide))
        · rfl

theorem State.link_fillSlot (s : State) (res : Nat) : (s.fillSlot res).2.link = s.link := by
  unfold State.fillSlot
  cases s.ackMsg with
  | some m =>
    dsimp only
    refine forN_keeps 16 _ State.link (fun p t => ?_) s
    split
    · exact t.link_setPeer p _
    · rfl
  | none =>
    cases s.nextMsg with
    | none => rfl
    | some i =>
      dsimp -zeta only
      extract_lets m0 m x t sent v ngx
      have ht : t.link = s.link := by
        unfold t
        split
        · exact s.link_setFld _ (.inl (by decide))
        · rfl
      have hdone (u : State) (hu : u.link = s.link) (d : Option (Nat × Nat)) (b : Nat → Nat → Bool) : (match d with
          | some (c, k) => if b c k then u.finish c k 0 else u
          | none => u).link = s.link := by
        rcases d with _ | ⟨c, k⟩
        · exact hu
        · dsimp only
          split
          · exact hu
          · exact hu
      change v.link = s.link
      unfold v
      clear_value sent t
      cases m.seq with
      | some q => exact hdone t ht sent.desc _
      | none => exact hdone (t.setPeer m.dst _) ht sent.desc _

theorem State.link_passSlot (s : State) (ws : List Word) (ok : Bool) : (s.passSlot ws ok).2.link = s.link := by
  unfold State.passSlot
  extract_lets me m res mine t freed mayFill
  have ht : t.link = s.link := by
    unfold t
    split
    · exact s.link_takeMsg m
    · rfl
  clear_value t
  split
  · exact ht
  split
  · exact (t.link_fillSlot res).trans ht
  · exact ht

theorem State.link_sessionChange (s : State) (p : Nat) : (s.sessionChange p).link = s.link := by
  unfold State.sessionChange
  extract_lets lost t ngx u peer v
  have hv : v.link = s.link := s.link_msgDrop p lost.length
  clear_value v
  split
  · rw [State.link_setBit _ _ (.inl (by decide)), State.link_setBit _ _ (.inl (by decide)), hv]
  · exact hv

theorem State.link_seeSessions (s : State) (h : List Word) : (s.seeSessions h).link = s.link := by
  unfold State.seeSessions
  extract_lets ngx t
  refine (forN_keeps 16 _ State.link (fun d u => ?_) t).trans rfl
  dsimp only
  split
  · rfl
  split
  · exact u.link_sessionChange d
  · rfl

theorem State.link_setGroup (s : State) (g : Nat) (x : Group) : (s.setGroup g x).link = s.link := by
  have hset (n : Nat) : rNgxStat ≠ rFabCsetW2 n := by
    unfold rNgxStat rFabCsetW2
    omega
  have hctrl : rNgxStat ≠ rFabCgCtrl g := by
    unfold rNgxStat rFabCgCtrl
    omega
  have hbits (b : Bool) (l : List Nat) (u : State) : (l.foldl (fun s n => s.setBit (rFabCsetW2 n) 27 b) u).link = u.link :=
    foldl_keeps l _ State.link (fun t n => t.link_setBit b (.inl (hset n))) u
  unfold State.setGroup
  extract_lets old par t u v
  rw [State.link_setFld _ _ (.inl (by decide)), State.link_setFld _ _ (.inl hctrl)]
  exact (hbits true _ u).trans (hbits false _ t)

theorem State.link_setGroupSt (s : State) (g v : Nat) : (s.setGroupSt g v).link = s.link := by
  refine s.link_setFld v (.inl ?_)
  unfold rNgxStat rFabCgCtrl
  omega

theorem State.link_restageGroup (s : State) (g : Nat) : (s.restageGroup g).link = s.link :=
  (State.link_setGroupSt _ _ _).trans (s.link_setGroup _ _)

theorem State.link_setDue (s : State) (g d : Nat) : (s.setReg64 (rFabCgDueLo g) d).link = s.link := by
  unfold State.setReg64
  rw [State.link_setReg _ _ (by unfold rNgxStat rFabCgDueLo; omega),
    State.link_setReg _ _ (by unfold rNgxStat rFabCgDueLo; omega)]

theorem State.link_commitMsg (s : State) (kind dst g : Nat) (idx : Option Nat) : (s.commitMsg kind dst g idx).link = s.link := rfl

theorem State.link_takeDecision (s : State) (g : Nat) (go : Bool) (due : Nat) : (s.takeDecision g go due).link = s.link := by
  unfold State.takeDecision
  split
  · rfl
  extract_lets ngx t doubt d x u
  split
  · split
    · exact (State.link_setGroupSt _ _ _).trans ((State.link_setDue _ _ _).trans (State.link_setGroup _ _ _))
    · rfl
  · refine (State.link_commitMsg _ _ _ _ _).trans ?_
    split
    · exact t.link_restageGroup g
    · rfl

theorem State.link_takeDecisions (s : State) (h : List Word) : (s.takeDecisions h).link = s.link := by
  unfold State.takeDecisions
  extract_lets ds ngx t
  exact (foldl_keeps ds _ State.link (fun u d => u.link_takeDecision ..) t).trans rfl

theorem State.link_followHeader (s : State) (h : List Word) : (s.followHeader h).link = s.link := by
  unfold State.followHeader
  extract_lets hops nm1 cable talign delta t u v w
  have ht : t.link = s.link := by
    unfold t
    rw [State.link_setFld _ _ (by omega), State.link_setBit _ _ (by omega), State.link_setFld _ _ (by omega)]
  have hu : u.link = s.link := by
    unfold u
    split
    · exact (t.link_setBit _ (by omega)).trans ht
    · exact ht
  have hv : v.link = s.link := by
    unfold v
    rw [State.link_setFld _ _ (.inl (by decide)), State.link_setReg _ _ (by decide), hu]
  exact (State.link_takeDecisions _ _).trans ((State.link_seeSessions _ _).trans hv)

theorem State.link_keepAudio (s : State) (h audio : List Word) (ok : Bool) : (s.keepAudio h audio ok).link = s.link := by
  unfold State.keepAudio
  split <;> rfl

theorem State.link_measureLoop (s : State) (h : List Word) (L : Nat) : (s.measureLoop h L).link = s.link := by
  unfold State.measureLoop
  extract_lets hops t u v
  have ht : t.link = s.link := by
    unfold t
    rw [State.link_setFld _ _ (.inl (by decide)), State.link_setFld _ _ (by omega)]
  have hu : u.link = s.link := by
    unfold u
    rw [State.link_setFld _ _ (.inl (by decide)), ht]
  split
  · rw [State.link_setFld _ _ (by omega), State.link_setBit _ _ (by omega)]
  split
  · exact (t.link_setBit _ (by omega)).trans ht
  split
  · exact ht
  · change v.link = s.link
    unfold v
    split
    · exact (u.link_setFld _ (.inl (by decide))).trans hu
    · exact hu

theorem State.link_returnSlot (s : State) (ws : List Word) (ok : Bool) : (s.returnSlot ws ok).2.link = s.link := by
  unfold State.returnSlot
  split
  · rfl
  · dsimp only
    split
    · exact s.link_takeMsg _
    · rfl

theorem State.link_masterTakes (s : State) (ws : List Word) (L : Nat) (okH okA : Bool) (okS : List Bool) :
    (s.masterTakes ws L okH okA okS).link = s.link := by
  unfold State.masterTakes
  extract_lets h t
  have ht : t.link = s.link := by
    unfold t
    split
    · rw [State.link_keepAudio, State.link_measureLoop, State.link_seeSessions]
    · rfl
  have hslots := forN_keeps 64 (fun i (acc : List (List Word) × State) =>
    (acc.1 ++ [(acc.2.returnSlot (frSlot ws i) (okS.getD i false)).1], (acc.2.returnSlot (frSlot ws i) (okS.getD i false)).2))
    (fun acc => acc.2.link) (fun i acc => acc.2.link_returnSlot ..) ([], t)
  exact hslots.trans ht

theorem State.link_followerTakes (s : State) (ws : List Word) (lag was : Nat) (okH okA : Bool) (okS : List Bool) :
    (s.followerTakes ws lag was okH okA okS).link = s.link := by
  unfold State.followerTakes
  extract_lets h slots on fr t run hdr audio valid
  clear_value fr hdr audio
  split
  · exact (State.link_withSent _ _).trans ((State.link_setBit _ _ (by omega)).trans (s.link_setBit _ (by omega)))
  · have ht : t.link = s.link := by
      unfold t
      split
      · rw [State.link_keepAudio, State.link_followHeader]
      · rfl
    generalize hr : slots.zipIdx.foldl _ ([], t) = r
    refine (State.link_withSent r.2 _).trans (Eq.trans ?_ ht)
    rw [← hr]
    refine foldl_keeps slots.zipIdx _ (fun acc : List (List Word) × State => acc.2.link) (fun acc p => ?_) ([], t)
    dsimp only
    split
    · rfl
    split
    · exact acc.2.link_passSlot ..
    · dsimp only
      split
      · exact acc.2.link_takeMsg _
      · rfl

theorem State.link_masterSlots (s : State) : s.masterSlots.2.link = s.link := by
  unfold State.masterSlots
  extract_lets n back
  refine forN_keeps 64 _ (fun acc : List (List Word) × State => acc.2.link) (fun i acc => ?_) ([], s)
  dsimp only
  split
  · rfl
  split
  · exact acc.2.link_fillSlot _
  · rfl

theorem State.link_bootAsk (s : State) : s.bootAsk.link = s.link := by
  unfold State.bootAsk
  split
  · rfl
  · refine forN_keeps 16 _ State.link (fun _ t => ?_) s
    dsimp only
    generalize (if t.boot.img.length < 512 then 512 else 512 + min (byteNum t.boot.img 8 4) 1048064) = total
    split
    · rfl
    · rfl

/-! ### Good and lost frames -/

/-- The receive side after a lost frame: the third loss in a row takes it down. -/
def Link.lost (l : Link) : Link :=
  { l with loss := l.loss + 1, good := 0, frames := l.frames + 1, rx := if 2 ≤ l.loss then 0 else l.rx }

theorem State.link_setRx (s : State) {v : Nat} (hv : v < 4) : (s.setFld rNgxStat 11 2 v).link = { s.link with rx := v } := by
  have hrx : (s.setFld rNgxStat 11 2 v).rxState = v :=
    (State.rfld_setFld_same _ _ _ _ _ (by decide)).trans (Nat.mod_eq_of_lt hv)
  have hrest : (s.setFld rNgxStat 11 2 v).link = { s.link with rx := (s.setFld rNgxStat 11 2 v).rxState } := rfl
  rw [hrest, hrx]

theorem State.link_histBegin (s : State) (k r : Nat) (d : Option Nat) : (s.histBegin k r d).link = s.link := rfl

theorem State.link_linkLost (s : State) : s.linkLost.link = { s.link with rx := 0, good := 0 } := by
  unfold State.linkLost
  extract_lets t ngx
  have ht : t.link = { s.link with rx := 0 } := by
    unfold t
    rw [State.link_histBegin, State.link_setBit _ _ (by omega), State.link_setRx _ (by omega)]
  clear_value t
  have hgood : ({ t with ngx := { t.ngx with good := 0, sent := if t.isMaster then t.ngx.sent else none } } : State).link =
      { t.link with good := 0 } := rfl
  rw [ht] at hgood
  exact hgood

theorem State.link_frameLost (s : State) (h : s.rxState ≠ 0) : s.frameLost.link = s.link.lost := by
  unfold State.frameLost
  extract_lets t n ngx u
  have hu : u.link = { s.link with loss := s.link.loss + 1, good := 0, frames := s.link.frames + 1 } := by
    have ht : t.link = s.link := s.link_setFld _ (.inl (by decide))
    rw [← ht]
    rfl
  have hn : n = s.link.loss + 1 := rfl
  have hrx : u.rxState = s.rxState := congrArg Link.rx hu
  clear_value u n
  have hdown : u.linkLost.link = { u.link with rx := 0, good := 0 } := u.link_linkLost
  by_cases hfew : 2 ≤ s.link.loss
  · rw [if_neg (by simp [hn, hrx, h]; omega)]
    have hlast : (if u.isMaster then u.linkLost.setBit rNgxStat 17 true else u.linkLost).link = u.linkLost.link := by
      split
      · exact State.link_setBit _ _ (by omega)
      · rfl
    rw [hlast, hdown, hu, Link.lost, if_pos hfew]
  · rw [if_pos (by simp [hn]; omega), hu, Link.lost, if_neg hfew]

/-- The count of good frames in a row after one that comes `gap` words after the last. -/
def Link.goodNext (l : Link) (gap : Nat) : Nat := if l.good = 0 ∨ (6392 ≤ gap ∧ gap ≤ 6408) then l.good + 1 else 1

/-- The receive side after a frame with a good header. -/
def Link.taken (l : Link) (gap : Nat) : Link :=
  { l with good := l.goodNext gap, loss := 0, frames := l.frames + 1, rx := if 3 ≤ l.goodNext gap ∨ l.rx = 3 then 3 else 2 }

theorem State.link_frameGood (s : State) (gap : Nat) : (s.frameGood gap).link = s.link.taken gap := by
  unfold State.frameGood
  extract_lets pace n ngx t u
  have hn : n = s.link.goodNext gap := by
    unfold n pace Link.goodNext
    exact ite_congr (by simp [State.link]) (fun _ => rfl) fun _ => rfl
  have hu : u.link = t.link := t.link_setBit _ (by omega)
  have hrx : u.rxState = s.rxState := congrArg Link.rx hu
  have ht : t.link = { s.link with good := n, loss := 0, frames := s.link.frames + 1 } := rfl
  have hnew : (if 3 ≤ n || u.rxState = 3 then 3 else 2) = if 3 ≤ n ∨ s.rxState = 3 then 3 else 2 := by
    rw [hrx]
    simp only [Bool.or_eq_true, decide_eq_true_eq]
  rw [State.link_setRx u (by split <;> decide), hnew, hu, ht, hn]
  rfl

/-! ### The commands -/

theorem exec_frameReceive_link {s : State} (hon : s.ngxOn = true) (hrx : s.rxState ≠ 0) (ws : List Word) (gap : Nat)
    (lag : BitVec 16) :
    ∃ t, exec (.frameReceive ws gap lag) s = .next t ∧
      t.link = if ws.getD 6208 0 = crcWords (frHeader ws) then s.link.taken gap else s.link.lost := by
  change ∃ t, execFrameReceive ws gap lag s = _ ∧ _
  unfold execFrameReceive
  rw [if_neg (by simp [hon, hrx])]
  extract_lets h okH okA okS was t u v w
  refine ⟨_, rfl, ?_⟩
  have ht : t.link = if ws.getD 6208 0 = crcWords (frHeader ws) then s.link.taken gap else s.link.lost := by
    unfold t
    by_cases hcrc : ws.getD 6208 0 = crcWords (frHeader ws)
    · rw [if_pos (beq_iff_eq.mpr hcrc), if_pos hcrc]
      exact s.link_frameGood gap
    · rw [if_neg (fun hb => hcrc (beq_iff_eq.mp hb)), if_neg hcrc]
      have hbump : (s.bump rNgxErr 8 8).link = s.link := s.link_setFld _ (.inl (by decide))
      rw [State.link_frameLost _ (fun h0 => hrx ((congrArg Link.rx hbump).symm.trans h0)), hbump]
  rw [← ht]
  have hu : u.link = t.link := by
    unfold u
    split
    · rfl
    · exact t.link_setFld _ (.inl (by decide))
  have hv : v.link = t.link := (u.link_setFld _ (.inl (by decide))).trans hu
  have hw : w.link = t.link := by
    unfold w
    split
    · exact (v.link_masterTakes ..).trans hv
    · exact (v.link_followerTakes ..).trans hv
  split
  · exact (w.link_bootAsk).trans hw
  · exact hw

theorem exec_frameOriginate_sent {s : State} (hon : s.ngxOn = true) (hm : s.isMaster = true) (idle : Fin 17) :
    ∃ (u : State) (tail : List Word), exec (.frameOriginate idle) s =
      .next ((u.modNgx fun x => { x with sent := some (sofWord :: tail), ret := none, retSlots := [] }).pulse 5) ∧
      u.link = { s.link with count := s.link.count + 1 } := by
  change ∃ u tail, execFrameOriginate idle s = _ ∧ _
  unfold execFrameOriginate
  rw [if_neg (by simp [hm, hon])]
  extract_lets run t u v back zero hdr audio
  have ht : t.link = s.link := by
    unfold t
    split
    · exact s.link_setBit _ (by omega)
    · rfl
  have hu : u.link = s.link := by
    unfold u
    split
    · exact (t.link_setBit _ (by omega)).trans ht
    · exact ht
  have hv : v.link = { u.link with count := u.link.count + 1 } := rfl
  exact ⟨v.masterSlots.2, _, rfl, (v.link_masterSlots).trans (hv.trans (by rw [hu]))⟩

/-- Settles O42: from what each part of a frame leaves of the receive side, and the branches of BEACON_EVENT. -/
theorem linkFrames : Obligations.LinkFrames := by
  unfold Obligations.LinkFrames
  intro s hon lost
  have hlost : ∀ t : State, t.link = s.link.lost → lost t := fun t ht =>
    ⟨congrArg Link.loss ht, congrArg Link.good ht, congrArg Link.frames ht, congrArg Link.rx ht⟩
  refine ⟨fun h0 => ⟨?_, fun ws gap lag => if_pos (by simp [h0])⟩, fun h0 => ?_, fun h2 => ?_, fun h2 => ?_,
    fun ws gap lag h0 => ?_,
    fun hm idle => ?_, fun hb => ?_, fun b hb hm hrun hpend hsrc => ?_⟩
  · refine ⟨_, congrArg Host.Outcome.next (if_pos (by simp [hon, h0])), ?_⟩
    exact State.rfld_setFld_same _ _ _ _ _ (by decide)
  · exact congrArg Host.Outcome.next (if_neg (by simp [h0]))
  · exact ⟨_, congrArg Host.Outcome.next (if_pos (by simp [hon, h2])), hlost _ (s.link_frameLost (by omega))⟩
  · exact congrArg Host.Outcome.next (if_neg (by simp; omega))
  · obtain ⟨t, hrun, hlink⟩ := exec_frameReceive_link hon h0 ws gap lag
    refine ⟨t, hrun, ?_⟩
    split at hlink
    next hcrc =>
      rw [if_pos hcrc]
      exact ⟨congrArg Link.rx hlink, congrArg Link.good hlink, congrArg Link.loss hlink, congrArg Link.frames hlink⟩
    next hcrc =>
      rw [if_neg hcrc]
      exact hlost t hlink
  · obtain ⟨u, tail, hrun, hlink⟩ := exec_frameOriginate_sent hon hm idle
    refine ⟨_, _, hrun, rfl, rfl, congrArg Link.count hlink, rfl, ?_⟩
    exact (SMap.get_set_same ..).trans (congrArg (fun l : Link => some l.now) hlink)
  · change execBeaconEvent s = _
    unfold execBeaconEvent
    rw [hb]
  · have hstart : exec .beaconEvent s = (if b.rate ≠ s.rfld (rClkTickCtrl 0) 4 3 then
        .next ((s.modNgx fun x => { x with beacon := none }).setBit rNgxStat 21 true)
      else .next ((s.modNgx fun x => { x with beacon := none }).modNgx fun x =>
        { x with start := some b.sidx, adopted := some b.epoch })) := by
      change execBeaconEvent s = _
      unfold execBeaconEvent
      rw [hb]
      exact (if_neg (by simp [hon, hm, hrun])).trans ((if_pos hpend).trans (if_neg (not_not_intro hsrc)))
    refine ⟨fun hrate => ?_, fun hrate => ?_⟩
    · rw [if_neg (not_not_intro hrate)] at hstart
      exact ⟨_, hstart, rfl, rfl, rfl, rfl⟩
    · rw [if_pos hrate] at hstart
      exact ⟨_, hstart, State.rbit_setBit_same _ _ _ _ (by decide), rfl⟩

end Sys2Proof.Machine

/-! O45: commits over the cascade (R239 to R245). -/

namespace Sys2Proof.Machine

/-! ### A group and its registers -/

theorem State.par_setGroup (s : State) (g : Nat) (x : Group) :
    (s.setGroup g x).par = { s.par with groups := SMap.set (fun _ => {}) s.par.groups g x } := by
  have hbits (b : Bool) (l : List Nat) (u : State) : (l.foldl (fun s n => s.setBit (rFabCsetW2 n) 27 b) u).par = u.par :=
    foldl_keeps l (fun s n => s.setBit (rFabCsetW2 n) 27 b) State.par (fun _ _ => rfl) u
  unfold State.setGroup
  extract_lets old par t u v
  change v.par = _
  exact (hbits true _ u).trans (hbits false _ t)

theorem State.group_setGroup (s : State) (g : Nat) (x : Group) : (s.setGroup g x).group g = x := by
  rw [State.group, State.par_setGroup]
  exact SMap.get_set_same ..

theorem State.decisions_setGroup (s : State) (g : Nat) (x : Group) : (s.setGroup g x).par.decisions = s.par.decisions := by
  rw [State.par_setGroup]

/-- A register of a group, other than its control word. -/
theorem State.reg_setGroup (s : State) (g : Nat) (x : Group) {o : Nat} (hlo : rFabCommitStat < o) (hhi : o < rFabCsetW2 0)
    (ho : o ≠ rFabCgCtrl g) : (s.setGroup g x).reg o = s.reg o := by
  have hset (n : Nat) : o ≠ rFabCsetW2 n := by
    unfold rFabCsetW2 at *
    omega
  have hbits (b : Bool) (l : List Nat) (u : State) : (l.foldl (fun s n => s.setBit (rFabCsetW2 n) 27 b) u).reg o = u.reg o :=
    foldl_keeps l _ (fun s : State => s.reg o) (fun t n => t.reg_setBit_other _ _ (hset n)) u
  unfold State.setGroup
  extract_lets old par t u v
  rw [State.reg_setFld_other _ _ _ _ (by omega), State.reg_setFld_other _ _ _ _ ho]
  exact (hbits true _ u).trans (hbits false _ t)

/-- A group's registers stand between COMMIT_STAT and the coefficient sets. -/
theorem groupReg_span {g : Nat} (hg : g < 64) {k : Nat} (hk : k < 0x20) :
    rFabCommitStat < rFabCgCtrl g + k ∧ rFabCgCtrl g + k < rFabCsetW2 0 := by
  unfold rFabCommitStat rFabCgCtrl rFabCsetW2
  omega

theorem State.groupSt_setGroup (s : State) {g : Nat} (hg : g < 64) (x : Group) : (s.setGroup g x).groupSt g = s.groupSt g := by
  have hset (n : Nat) : rFabCgCtrl g ≠ rFabCsetW2 n := by
    unfold rFabCgCtrl rFabCsetW2
    omega
  have hctrl : rFabCgCtrl g ≠ rFabCommitStat := by
    unfold rFabCgCtrl rFabCommitStat
    omega
  have hbits (b : Bool) (l : List Nat) (u : State) :
    (l.foldl (fun s n => s.setBit (rFabCsetW2 n) 27 b) u).groupSt g = u.groupSt g :=
    foldl_keeps l _ (State.groupSt · g) (fun t n => t.rfld_setBit_other _ (.inl (hset n))) u
  unfold State.setGroup
  extract_lets old par t u v
  refine (State.rfld_setFld_other _ _ (.inl hctrl)).trans ((State.rfld_setFld_other _ _ (by omega)).trans ?_)
  exact (hbits true _ u).trans (hbits false _ t)

theorem State.groupSt_setGroupSt (s : State) (g : Nat) {v : Nat} (hv : v < 8) : (s.setGroupSt g v).groupSt g = v :=
  (State.rfld_setFld_same _ _ _ _ _ (by decide)).trans (Nat.mod_eq_of_lt hv)

theorem State.reg64_setReg64 (s : State) (o : Nat) {v : Nat} (hv : v < 2 ^ 64) : (s.setReg64 o v).reg64 o = v := by
  unfold State.reg64 State.setReg64
  rw [State.reg_setReg_same, State.reg_setReg_other _ _ (by omega), State.reg_setReg_same, BitVec.toNat_ofNat, BitVec.toNat_ofNat]
  omega

theorem State.reg64_setGroupSt (s : State) (g v : Nat) : (s.setGroupSt g v).reg64 (rFabCgDueLo g) = s.reg64 (rFabCgDueLo g) := by
  unfold State.reg64 State.setGroupSt
  rw [State.reg_setFld_other _ _ _ _ (by unfold rFabCgDueLo rFabCgCtrl; omega),
    State.reg_setFld_other _ _ _ _ (by unfold rFabCgDueLo rFabCgCtrl; omega)]

/-- A group armed for an index, in a state of its own. -/
def State.armGroup (s : State) (g : Nat) (x : Group) (due st : Nat) : State :=
  ((s.setGroup g x).setReg64 (rFabCgDueLo g) due).setGroupSt g st

theorem State.armGroup_fields (s : State) (g : Nat) (x : Group) {due st : Nat} (hdue : due < 2 ^ 64) (hst : st < 8) :
    (s.armGroup g x due st).groupSt g = st ∧ (s.armGroup g x due st).group g = x ∧
    (s.armGroup g x due st).reg64 (rFabCgDueLo g) = due := by
  refine ⟨State.groupSt_setGroupSt _ g hst, s.group_setGroup g x, ?_⟩
  rw [State.armGroup, State.reg64_setGroupSt, State.reg64_setReg64 _ _ hdue]

theorem num64_lt (d : OpenDesc) (off : Nat) : d.num off 8 < 2 ^ 64 := fld_lt ..

theorem Msg.index_lt (m : Msg) : m.index < 2 ^ 64 := by
  have h1 := (m.word 1).isLt
  have h2 := (m.word 2).isLt
  unfold Msg.index
  omega

theorem Msg.group_lt (m : Msg) : m.group < 64 := fld_lt ..

theorem State.group_modArm (s : State) {g : Nat} {a : Arm} (h : (s.group g).arm = some a) (f : Arm → Arm) :
    ((s.modArm g f).group g).arm = some (f a) ∧ ((s.modArm g f).group g).members = (s.group g).members := by
  unfold State.modArm
  rw [State.group_setGroup, h]
  exact ⟨rfl, rfl⟩

theorem State.groupSt_modArm (s : State) {g : Nat} (hg : g < 64) (f : Arm → Arm) : (s.modArm g f).groupSt g = s.groupSt g :=
  s.groupSt_setGroup hg _

theorem State.decisions_modArm (s : State) (g : Nat) (f : Arm → Arm) : (s.modArm g f).par.decisions = s.par.decisions :=
  s.decisions_setGroup g _

/-! ### The COMMIT on the master -/

/-- The arm of a cascade COMMIT for an index. -/
def OpenDesc.cascArm (d : OpenDesc) (c q due : Nat) : Arm :=
  { ctx := c, seq := q, origDue := due, next := !(d.extra / 256 % 2 == 1), mask := BitVec.ofNat 16 (d.num 24 2) }

section Commit
variable {c : Fin 512} {q : BitVec 32} {s : State} {d : OpenDesc} (h : s.waitingCommit c q.toNat 2 = some d)
include h

theorem exec_cascadeCommit_bad (hbad : s.isMaster = false ∨ BitVec.ofNat 16 (d.num 24 2) = 0 ∨
    bit (BitVec.ofNat 16 (d.num 24 2)) 0 = true) :
    exec (.cascadeCommit c q) s = .next (s.finish c q.toNat 0x10) := by
  change execCascadeCommit c q s = _
  unfold execCascadeCommit
  dsimp only
  rw [h]
  refine if_pos ?_
  rcases hbad with hb | hb | hb <;> simp [hb]

/-- A legal cascade COMMIT arms its group and asks the devices of its mask. -/
theorem exec_cascadeCommit_legal {due : Nat} (hdue : due = if d.extra / 256 % 2 == 1 then d.num 16 8 else 0)
    (hm : s.isMaster = true)
    (hcasc : s.rbit (rFabCgCtrl (d.extra % 64)) 9 = true) (hmask : BitVec.ofNat 16 (d.num 24 2) ≠ 0)
    (hself : bit (BitVec.ofNat 16 (d.num 24 2)) 0 = false)
    (hpres : ∀ p, p < 16 → bit (BitVec.ofNat 16 (d.num 24 2)) p = true → s.present p = true)
    (harm : s.armBad (d.extra % 64) d = false) :
    ∃ u : State, exec (.cascadeCommit c q) s = .next ((devsOf (BitVec.ofNat 16 (d.num 24 2))).foldl
      (fun s p => s.commitMsg 8 p (d.extra % 64) (some due))
        (u.armGroup (d.extra % 64) { u.group (d.extra % 64) with arm := some (d.cascArm c q.toNat due) } due 3)) := by
  have hall : (devsOf (BitVec.ofNat 16 (d.num 24 2))).all s.present = true := by
    refine List.all_eq_true.mpr fun p hp => ?_
    obtain ⟨h1, h2⟩ := List.mem_filter.mp hp
    exact hpres p (List.mem_range.mp h1) h2
  subst hdue
  refine ⟨s.modDesc c q.toNat fun d => { d with staged := true }, ?_⟩
  change execCascadeCommit c q s = _
  unfold execCascadeCommit
  dsimp only
  rw [h]
  exact if_neg (by simp [hm, hcasc, hself, hall, harm]; exact hmask)

end Commit

theorem State.commitMsgs_frame (kind g : Nat) (idx : Option Nat) (l : List Nat) (s : State) :
    (l.foldl (fun s p => s.commitMsg kind p g idx) s).regs = s.regs ∧
    (l.foldl (fun s p => s.commitMsg kind p g idx) s).par = s.par :=
  ⟨foldl_keeps l (fun s p => s.commitMsg kind p g idx) State.regs (fun _ _ => rfl) s,
    foldl_keeps l (fun s p => s.commitMsg kind p g idx) State.par (fun _ _ => rfl) s⟩

/-- What a group shows depends on the registers and the parameter state only. -/
theorem State.group_of_parts {s t : State} (hregs : t.regs = s.regs) (hpar : t.par = s.par) (g : Nat) :
    t.groupSt g = s.groupSt g ∧ t.group g = s.group g ∧ t.reg64 (rFabCgDueLo g) = s.reg64 (rFabCgDueLo g) := by
  simp only [State.groupSt, State.rfld, State.reg64, State.reg, State.group, hregs, hpar, and_self]

/-! ### The decision -/

theorem State.decideAbort_fields (s : State) (g : Nat) (a : Arm) (st : Nat) : ((s.decideAbort g a st).group g).arm = none ∧
    (s.decideAbort g a st).par.decisions = s.par.decisions ++ [⟨g, false, a.origDue, a.mask⟩] := by
  have hpar : ((s.restageGroup g).setResult a.ctx a.seq st).par = (s.restageGroup g).par := rfl
  have hdec : (s.restageGroup g).par.decisions = s.par.decisions := s.decisions_setGroup g _
  refine ⟨?_, ?_⟩
  · have hgrp : (s.decideAbort g a st).group g = (s.restageGroup g).group g := rfl
    have hnew : (s.restageGroup g).group g = { s.group g with arm := none } := s.group_setGroup g _
    rw [hgrp, hnew]
  · have h : (s.decideAbort g a st).par.decisions = (s.restageGroup g).par.decisions ++ [⟨g, false, a.origDue, a.mask⟩] := rfl
    rw [h, hdec]

theorem State.decideGo_fields (s : State) {g : Nat} {a b : Arm} (h : (s.group g).arm = some a) (d : Nat) (late : Bool) :
    (s.decideGo g b d late).groupSt g = 4 ∧ (s.decideGo g b d late).par.decisions = s.par.decisions ++ [⟨g, true, d, b.mask⟩] ∧
    ((s.decideGo g b d late).group g).arm.map (·.late) = some late := by
  let t := (s.grant b.ctx b.seq).modArm g fun a => { a with late := late, next := false }
  have hst : ((t.setReg64 (rFabCgDueLo g) d).setGroupSt g 4).groupSt g = 4 := State.groupSt_setGroupSt _ g (by decide)
  have hdec : t.par.decisions = s.par.decisions := State.decisions_modArm _ g _
  have harm : (t.group g).arm = some { a with late := late, next := false } :=
    (State.group_modArm (s.grant b.ctx b.seq) (a := a) h _).1
  refine ⟨hst, ?_, ?_⟩
  · have hd : (s.decideGo g b d late).par.decisions = t.par.decisions ++ [⟨g, true, d, b.mask⟩] := rfl
    rw [hd, hdec]
  · have hg : (s.decideGo g b d late).group g = t.group g := rfl
    rw [hg, harm]
    rfl

section Decide
variable {g : Fin 64} {s : State} {a : Arm} (harm : (s.group g).arm = some a) (hst : s.groupSt g = 3)
include harm hst

theorem exec_cascadeDecision_cancelled (hc : a.cancelled = true) :
    exec (.cascadeDecision g) s = .next (s.decideAbort g a 0x02) := by
  change execCascadeDecision g s = _
  unfold execCascadeDecision
  dsimp only
  rw [harm]
  exact (if_neg (not_not_intro hst)).trans (if_pos hc)

/-- The decision of a commit for a fixed index. -/
theorem exec_cascadeDecision_due (hc : a.cancelled = false) (hrun : s.run48 = true) (hk : s.keeperRuns = true)
    (hn : a.next = false) :
    exec (.cascadeDecision g) s = .next (if s.frameStart + s.frameTicks + 2 * s.frameTicks ≤ a.origDue then s
      else if a.refused then ((s.modArm g fun _ => a).setBit (rFabCgStat g) 18 true).decideAbort g a 0x10
      else if a.armed &&& a.mask != a.mask then s.modArm g fun _ => a
      else if s.frameStart + 2 * s.frameTicks ≤ a.origDue then (s.modArm g fun _ => a).decideGo g a a.origDue false
      else (s.modArm g fun _ => a).decideGo g a (s.frameStart + 2 * s.frameTicks) true) := by
  change execCascadeDecision g s = _
  unfold execCascadeDecision
  dsimp only
  rw [harm]
  dsimp only
  rw [if_neg (not_not_intro hst), if_neg (by simp [hc]), hrun, hk, hn]
  simp only [Bool.not_true, Bool.false_or, Bool.not_false, Bool.true_and, decide_eq_true_eq, Bool.false_eq_true, if_false]
  split
  · rfl
  split
  · rfl
  split
  · rfl
  split <;> rfl

end Decide

/-! ### The followers' answers -/

section Answers
variable {src : Fin 16} {s p : State} {m : Msg}

theorem exec_arm_refused (h : s.popMsg 8 src = some (m, p)) (hk : s.keeperRuns = true) (hmem : (p.group m.group).members = []) :
    exec (.arm src) s = .next (p.commitMsg 0x0A 0 m.group none) := by
  refine (if_neg (by simp [hk])).trans ((State.onMsg_of h _).trans (congrArg Host.Outcome.next (if_pos ?_)))
  simp [hmem]

theorem exec_arm_taken (h : s.popMsg 8 src = some (m, p)) (hk : s.keeperRuns = true) (hen : p.rbit (rFabCgCtrl m.group) 31 = true)
    (hcasc : p.rbit (rFabCgCtrl m.group) 9 = true) (hmem : (p.group m.group).members ≠ [])
    (hst : p.groupSt m.group = 1 ∨ p.groupSt m.group = 5) : exec (.arm src) s =
      .next ((p.armGroup m.group { p.group m.group with arm := some { origDue := m.index, follow := true } } m.index 5).commitMsg 9 0
        m.group none) := by
  refine (if_neg (by simp [hk])).trans ((State.onMsg_of h _).trans (congrArg Host.Outcome.next (if_neg ?_)))
  rcases hst with hst | hst <;> simp [hen, hcasc, hmem, hst]

theorem exec_applied_at (h : s.popMsg 0x0B src = some (m, p)) (hst : p.groupSt m.group = 4) :
    exec (.applied src) s = .next (((if p.reg64 (rFabCgDueLo m.group) < m.index then p.setBit
      (rFabCgStat m.group) src true else p).modArm
      m.group fun a => { a with applied := a.applied ||| (1#16 <<< src.val), otherIdx := a.otherIdx || m.index != a.origDue }).cascadeDone
        m.group) :=
  (State.onMsg_of h _).trans (congrArg Host.Outcome.next (if_neg (not_not_intro hst)))

theorem exec_notArmed_at (h : s.popMsg 0x0C src = some (m, p)) (hst : p.groupSt m.group = 4) :
    exec (.notArmed src) s = .next (((p.setBit (rFabCgMiss m.group) src true).modArm m.group fun a =>
      { a with missing := a.missing ||| (1#16 <<< src.val) }).cascadeDone m.group) :=
  (State.onMsg_of h _).trans (congrArg Host.Outcome.next (if_neg (not_not_intro hst)))

end Answers

/-- A commit whose own group is not applied yet does not end. -/
theorem State.cascadeDone_open {s : State} {g : Nat} (hmem : (s.group g).members ≠ []) : s.cascadeDone g = s := by
  unfold State.cascadeDone
  split
  · rfl
  · exact if_pos (by simp [hmem])

/-- A commit that all have applied or miss ends, and its group is empty. -/
theorem State.cascadeDone_ended {s : State} {g : Nat} {a : Arm} (harm : (s.group g).arm = some a)
    (hmem : (s.group g).members = [])
    (hst : s.groupSt g = 4) (hall : (a.applied ||| a.missing) &&& a.mask = a.mask) :
    (s.cascadeDone g).group g = {} ∧ (s.cascadeDone g).groupSt g = 0 := by
  have hempty (c q code : Nat) : (((s.setGroup g {}).setGroupSt g 0).setResult c q code).group g = {} := s.group_setGroup g {}
  have hidle (c q code : Nat) : (((s.setGroup g {}).setGroupSt g 0).setResult c q code).groupSt g = 0 :=
    State.groupSt_setGroupSt _ g (by decide)
  unfold State.cascadeDone
  rw [harm]
  dsimp only
  rw [if_neg (by simp [hst, hmem, hall])]
  generalize (if a.missing != 0 then 0x30 else if a.late || a.otherIdx then 1 else 0) = code
  exact ⟨hempty a.ctx a.seq code, hidle a.ctx a.seq code⟩

/-- Settles O45: the COMMIT on the master, its decision, and each answer of the followers. -/
theorem cascadeCommits : Obligations.CascadeCommits := by
  unfold Obligations.CascadeCommits
  refine ⟨?_, ?_, ?_⟩
  · intro c q s d h g mask now'
    refine ⟨exec_cascadeCommit_bad h, fun hm hcasc hmask hself hpres harm => ?_⟩
    have hnow : (!(d.extra / 256 % 2 == 1)) = now' := by
      unfold now'
      rcases Nat.mod_two_eq_zero_or_one (d.extra / 256) with hx | hx <;> simp [hx]
    have hdue : (if now' then 0 else d.num 16 8) = if d.extra / 256 % 2 == 1 then d.num 16 8 else 0 := by
      rw [← hnow]
      cases d.extra / 256 % 2 == 1 <;> rfl
    have hlt : (if now' then 0 else d.num 16 8) < 2 ^ 64 := by
      have := num64_lt d 16
      split <;> omega
    obtain ⟨u, hrun⟩ := exec_cascadeCommit_legal h hdue hm hcasc hmask hself hpres harm
    generalize hdue' : (if now' then 0 else d.num 16 8) = due at *
    obtain ⟨hst, hgrp, hreg⟩ := u.armGroup_fields g { u.group g with arm := some (d.cascArm c q.toNat due) } hlt
      (show 3 < 8 by decide)
    obtain ⟨hregs, hpar⟩ := State.commitMsgs_frame 8 g (some due) (devsOf mask)
      (u.armGroup g { u.group g with arm := some (d.cascArm c q.toNat due) } due 3)
    obtain ⟨h1, h2, h3⟩ := State.group_of_parts hregs hpar g
    refine ⟨_, hrun, h1.trans hst, h3.trans hreg, ?_⟩
    rw [← hnow]
    exact congrArg Group.arm (h2.trans hgrp)
  · intro g s a T fs harm hst
    refine ⟨fun hc => ⟨_, exec_cascadeDecision_cancelled harm hst hc, s.decideAbort_fields g a 2⟩, fun hc hrun hk hn => ?_⟩
    have hdec := exec_cascadeDecision_due harm hst hc hrun hk hn
    refine ⟨fun hfar => ?_, fun hnear => ⟨fun hr => ?_, fun hr hall => ?_⟩⟩
    · rwa [if_pos hfar] at hdec
    · rw [if_neg (Nat.not_le.mpr hnear), if_pos hr] at hdec
      obtain ⟨h1, h2⟩ := ((s.modArm g fun _ => a).setBit (rFabCgStat g) 18 true).decideAbort_fields g a 0x10
      exact ⟨_, hdec, h1, h2.trans (congrArg (· ++ _) (s.decisions_modArm g _))⟩
    · rw [if_neg (Nat.not_le.mpr hnear), if_neg (by simp [hr]), if_neg (by simp [hall])] at hdec
      have hgo := (s.modArm g fun _ => a).decideGo_fields (b := a) (s.group_modArm harm fun _ => a).1
      rw [State.decisions_modArm] at hgo
      by_cases hlate : fs + T ≤ a.origDue
      · rw [if_pos hlate] at hdec
        rw [Nat.max_eq_left hlate, decide_eq_false (Nat.not_lt.mpr hlate)]
        exact ⟨_, hdec, hgo a.origDue false⟩
      · rw [if_neg hlate] at hdec
        rw [Nat.max_eq_right (Nat.le_of_not_le hlate), decide_eq_true (Nat.lt_of_not_le hlate)]
        exact ⟨_, hdec, hgo (fs + T) true⟩
  · intro src s m p g x b
    have hg : g < 64 := m.group_lt
    refine ⟨fun h hk => ⟨exec_arm_refused h hk, fun hen hcasc hmem hst => ?_⟩, fun a harm => ⟨fun h hst => ?_, fun h hst => ?_,
      fun h hst => ?_, fun h hst => ?_⟩, fun h => ?_⟩
    · obtain ⟨h1, h2, h3⟩ := p.armGroup_fields g { x with arm := some { origDue := m.index, follow := true } } m.index_lt
        (show 5 < 8 by decide)
      exact ⟨_, exec_arm_taken h hk hen hcasc hmem hst, h1, congrArg Group.arm h2, (congrArg Group.members h2 :), h3⟩
    · exact ⟨_, (State.onMsg_of h _).trans (congrArg Host.Outcome.next (if_pos hst)), (p.group_modArm harm _).1⟩
    · exact ⟨_, (State.onMsg_of h _).trans (congrArg Host.Outcome.next (if_pos hst)), (p.group_modArm harm _).1⟩
    · have hrun := exec_applied_at h hst
      generalize hu : (if p.reg64 (rFabCgDueLo g) < m.index then p.setBit (rFabCgStat g) src true else p) = u at hrun
      have hux : u.group g = x := by
        rw [← hu]
        split <;> rfl
      have hust : u.groupSt g = 4 := by
        rw [← hu]
        split
        · exact (State.rfld_setBit_other _ _ (.inl (by unfold rFabCgCtrl rFabCgStat; omega))).trans hst
        · exact hst
      clear hu
      obtain ⟨ha, hm⟩ := u.group_modArm (a := a) (by rw [hux]; exact harm)
        fun a => { a with applied := a.applied ||| b, otherIdx := a.otherIdx || m.index != a.origDue }
      rw [hux] at hm
      refine ⟨fun hmem => ?_, fun hmem hall => ?_⟩
      · rw [State.cascadeDone_open (by rw [hm]; exact hmem)] at hrun
        exact ⟨_, hrun, ha⟩
      · exact ⟨_, hrun, State.cascadeDone_ended ha (hm.trans hmem) ((u.groupSt_modArm hg _).trans hust) hall⟩
    · have hrun := exec_notArmed_at h hst
      have hust : (p.setBit (rFabCgMiss g) src true).groupSt g = 4 :=
        (State.rfld_setBit_other _ _ (.inl (by unfold rFabCgCtrl rFabCgMiss; omega))).trans hst
      obtain ⟨ha, hm⟩ := (p.setBit (rFabCgMiss g) src true).group_modArm (a :=
        a) harm fun a => { a with missing := a.missing ||| b }
      refine ⟨fun hmem => ?_, fun hmem hall => ?_⟩
      · rw [State.cascadeDone_open (by rw [hm]; exact hmem)] at hrun
        refine ⟨_, hrun, ?_, ha⟩
        obtain ⟨hlo, hhi⟩ := groupReg_span hg (show 0x1C < 0x20 by decide)
        have hmiss : rFabCgMiss g = rFabCgCtrl g + 0x1C := by unfold rFabCgMiss rFabCgCtrl; omega
        have hne : rFabCgMiss g ≠ rFabCgCtrl g := by rw [hmiss]; exact Nat.ne_of_gt (Nat.lt_add_of_pos_right (by decide))
        rw [State.rbit, State.modArm, State.reg_setGroup _ _ _ (by rw [hmiss]; exact hlo) (by rw [hmiss]; exact hhi) hne,
          ← State.rbit, State.rbit_setBit_same _ _ _ _ (by omega)]
      · exact ⟨_, hrun, State.cascadeDone_ended ha (hm.trans hmem) ((State.groupSt_modArm _ hg _).trans hust) hall⟩
    · exact ⟨_, State.onMsg_of h _, rfl⟩

end Sys2Proof.Machine

/-! O36: PCIe functions and their resets (R426 to R449). A reset of one function works through the contexts, lines, streams and
movers of that function; the proof says what none of this work touches: every other function's configuration, SR-IOV, and which
context belongs to which function. -/

namespace Sys2Proof.Machine

/-! ### What the work of a function's reset leaves alone -/

/-- What a reset of function `f` leaves alone: SR-IOV, the function of each context, the other functions. -/
structure Outside where
  vfEn : Bool
  numVfs : Nat
  func : Fin 512 → Nat
  fn : Nat → PcieFn

def State.outside (f : Nat) (s : State) : Outside :=
  { vfEn := s.pcie.vfEn, numVfs := s.pcie.numVfs, func := fun c => s.funcOf c.val, fn := fun g => if g = f then {} else s.fn g }

section
variable (f : Nat)

theorem State.outside_of_parts {s t : State} (hpcie : t.pcie = s.pcie) (hregs : t.regs = s.regs) : t.outside f = s.outside f := by
  simp only [State.outside, State.funcOf, State.rfld, State.reg, State.fn, hpcie, hregs]

/-- No register outside the CTRL words of the contexts says which function a context belongs to. -/
theorem State.outside_setReg (s : State) {o : Nat} (v : Word) (ho : o < 0x50000 ∨ 0x58000 ≤ o ∨ o % 0x40 ≠ 0) :
    (s.setReg o v).outside f = s.outside f := by
  have hfunc (c : Fin 512) : (s.setReg o v).funcOf c.val = s.funcOf c.val := by
    have hne : rCtxtCtrl c.val ≠ o := by
      unfold rCtxtCtrl
      omega
    simp only [State.funcOf, State.rfld, State.reg_setReg_other s v hne]
  simp only [State.outside, hfunc]
  rfl

theorem State.outside_setFld (s : State) {o : Nat} (lo len v : Nat) (ho : o < 0x50000 ∨ 0x58000 ≤ o ∨ o % 0x40 ≠ 0) :
    (s.setFld o lo len v).outside f = s.outside f := s.outside_setReg f _ ho

theorem State.outside_setBit (s : State) {o : Nat} (k : Nat) (v : Bool) (ho : o < 0x50000 ∨ 0x58000 ≤ o ∨ o % 0x40 ≠ 0) :
    (s.setBit o k v).outside f = s.outside f := s.outside_setReg f _ ho

theorem State.outside_bump (s : State) {o : Nat} (lo len : Nat) (ho : o < 0x50000 ∨ 0x58000 ≤ o ∨ o % 0x40 ≠ 0) :
    (s.bump o lo len).outside f = s.outside f := s.outside_setReg f _ ho

theorem State.outside_ringWrite (s : State) (c a : Nat) (d : List Byte) : (s.ringWrite c a d).outside f = s.outside f := by
  have h := State.ringWrite_kept (M := { fab := true, ngx := true }) (c := c) (addr := a) (d := d) rfl rfl (Kept.refl s)
  exact State.outside_of_parts f (h.pcie rfl) (h.regs rfl)

theorem State.outside_setLine (s : State) (n : Nat) (l : Line) : (s.setLine n l).outside f = s.outside f := rfl

theorem State.outside_setResult (s : State) (c q code : Nat) : (s.setResult c q code).outside f = s.outside f := rfl

/-! #### Events and messages -/

theorem State.outside_msixSend (s : State) (g n : Nat) : (s.msixSend g n).outside f = s.outside f := by
  unfold State.msixSend
  extract_lets fn e
  split
  · rfl
  split
  · rfl
  · rfl

theorem State.outside_ctxIrq (s : State) (c vec : Nat) : (s.ctxIrq c vec).outside f = s.outside f := by
  unfold State.ctxIrq
  split
  · rfl
  · exact s.outside_msixSend f _ _

theorem State.outside_eventNotice (s : State) (c : Nat) : (s.eventNotice c).outside f = s.outside f := by
  unfold State.eventNotice
  extract_lets x u v
  split
  · rfl
  split
  · exact (v.outside_ctxIrq f _ _).trans (u.outside_ringWrite f _ _ _)
  · rfl

theorem State.outside_logEvent (s : State) (c kind eng seg detail : Nat) :
    (s.logEvent c kind eng seg detail).outside f = s.outside f := by
  unfold State.logEvent State.logEventAt
  split
  · rfl
  extract_lets x cls n t sr u fresh same e e' v w y z
  have hu : u.outside f = s.outside f := t.outside_ringWrite f _ _ _
  have hw : w.outside f = u.outside f := v.outside_ringWrite f _ _ _
  have hy : y.outside f = u.outside f := u.outside_ringWrite f _ _ _
  split
  · exact (w.outside_eventNotice f c).trans (hw.trans hu)
  split
  · exact (z.outside_eventNotice f c).trans (hy.trans hu)
  · refine (u.outside_setBit f _ _ (.inr (.inr ?_))).trans hu
    unfold rCtxtErr
    omega

theorem State.outside_ltrUpdate (s : State) : s.ltrUpdate.outside f = s.outside f := by
  unfold State.ltrUpdate
  extract_lets t pcie u
  split
  · rfl
  split
  · exact (u.outside_setReg f _ (.inl (by decide))).trans rfl
  · rfl

/-! #### Lines -/

theorem State.outside_setLineSt (s : State) (n v : Nat) : (s.setLineSt n v).outside f = s.outside f := by
  refine s.outside_setFld f _ _ _ (.inr (.inl ?_))
  unfold rCaldHlW0
  omega

theorem State.outside_showUse (s : State) (c : Nat) : (s.showUse c).outside f = s.outside f := by
  refine s.outside_setReg f _ (.inr (.inl ?_))
  unfold rDmaUse
  omega

theorem State.outside_lineGone (s : State) (n : Nat) : (s.lineGone n).outside f = s.outside f := by
  have hw1 (t : State) : (t.setFld (rCaldHlW1 n) 16 9 0).outside f = t.outside f := by
    refine t.outside_setFld f _ _ _ (.inr (.inl ?_))
    unfold rCaldHlW1
    omega
  unfold State.lineGone
  extract_lets l t mov u
  rw [State.outside_ltrUpdate, State.outside_showUse]
  refine (State.outside_setReg f _ _ (.inr (.inl (by decide)))).trans ((hw1 u).trans ?_)
  change t.outside f = s.outside f
  exact (State.outside_setLineSt f _ n 0).trans (s.outside_setLine f n _)

theorem State.outside_unmapLine (s : State) (n : Nat) (drain : Bool) : (s.unmapLine n drain).outside f = s.outside f := by
  have hoff (t u : State) (ht : t.outside f = s.outside f) (hu : u.outside f = s.outside f) (b : Bool) :
      (if b then t else u).outside f = s.outside f := by
    cases b
    · exact hu
    · exact ht
  unfold State.unmapLine
  extract_lets l off
  have hstep (t : State) : (off t).outside f = t.outside f := by
    unfold off
    split
    · rfl
    · rfl
  clear_value off
  split
  · exact (hstep _).trans (s.outside_setLineSt f n 3)
  split
  · rfl
  refine (State.outside_lineGone f _ n).trans ?_
  split
  · exact hstep s
  · rfl

theorem State.outside_failChunk (s : State) (n : Nat) (u0 : Int) : (s.failChunk n u0).outside f = s.outside f := by
  unfold State.failChunk
  extract_lets l k
  unfold State.lineEvent
  extract_lets t
  refine (State.outside_logEvent f _ _ _ _ _ _).trans ((State.outside_bump f _ _ _ (.inr (.inl ?_))).trans rfl)
  unfold rCaldHlW0
  omega

/-! #### Streams, copies, movers -/

theorem State.outside_entryFails (s : State) (r i status : Nat) : (s.entryFails r i status).outside f = s.outside f := by
  unfold State.entryFails
  cases s.stream r with
  | none => rfl
  | some x =>
    dsimp only
    unfold State.streamEvent
    split
    · split
      · exact (State.outside_bump f _ _ _ (.inl (by decide))).trans rfl
      · rfl
    · exact (State.outside_logEvent f _ _ _ _ _ _).trans rfl

theorem State.outside_streamTable (s : State) (r : Nat) (x : Stream) (st : Nat) :
    (s.streamTable r x st).outside f = s.outside f := by
  unfold State.streamTable
  split
  · rfl
  split
  · exact (State.outside_setFld f _ _ _ _ (.inl (by decide))).trans (s.outside_setReg f _ (.inl (by decide)))
  · exact s.outside_ringWrite f _ _ _

theorem State.outside_streamEnds (s : State) (r : Nat) : (s.streamEnds r).outside f = s.outside f := by
  unfold State.streamEnds
  cases s.stream r with
  | none => rfl
  | some x =>
    dsimp -zeta only
    split
    · rfl
    extract_lets t u
    have hu : u.outside f = s.outside f := by
      unfold u
      rw [State.outside_ltrUpdate, State.outside_showUse]
      exact (State.outside_setReg f _ _ (.inr (.inl (by decide)))).trans (t.outside_streamTable f _ _ _)
    clear_value u
    cases x.closeBy with
    | none => exact hu
    | some p => exact hu

theorem State.outside_moversDropped (s : State) (l : SMap (Option Job)) :
    (l.foldl (fun t p => (t.setMover p.1 none).readsOver (.mover p.1)) s).outside f = s.outside f :=
  foldl_keeps l (fun t p => (t.setMover p.1 none).readsOver (.mover p.1)) (State.outside f) (fun _ _ => rfl) s

theorem State.outside_streamClose (s : State) (r : Nat) (by' : Option (Nat × Nat)) (quiet : Bool) :
    (s.streamClose r by' quiet).outside f = s.outside f := by
  unfold State.streamClose
  cases s.stream r with
  | none => rfl
  | some x =>
    dsimp -zeta only
    extract_lets parked x1 src x2 x3 t
    refine (State.outside_streamEnds f _ r).trans ?_
    change t.outside f = s.outside f
    unfold t
    split
    · rfl
    · exact s.outside_moversDropped f _

theorem State.outside_copyEnds (s : State) (c q code : Nat) : (s.copyEnds c q code).outside f = s.outside f := by
  unfold State.copyEnds
  extract_lets mine t
  exact s.outside_moversDropped f _

theorem State.outside_failJob (s : State) (m : Nat) : (s.failJob m).outside f = s.outside f := by
  unfold State.failJob
  cases SMap.get (fun _ => none) s.mov.movers m with
  | none => rfl
  | some j =>
    dsimp -zeta only
    extract_lets t
    have ht : t.outside f = s.outside f := rfl
    clear_value t
    split
    · split
      · exact ht
      · exact (t.outside_failChunk f _ _).trans ht
    · exact ht
    · split
      · exact (t.outside_entryFails f _ _ _).trans ht
      · exact ht
    · exact (t.outside_copyEnds f _ _ _).trans ht
    · exact ht

/-! #### Descriptors -/

theorem State.outside_setGroup (s : State) (g : Nat) (x : Group) : (s.setGroup g x).outside f = s.outside f := by
  have hbits (b : Bool) (l : List Nat) (t : State) :
      (l.foldl (fun t n => t.setBit (rFabCsetW2 n) 27 b) t).outside f = t.outside f := by
    refine foldl_keeps l (fun t n => t.setBit (rFabCsetW2 n) 27 b) (State.outside f)
      (fun u n => u.outside_setBit f _ _ (.inr (.inl ?_))) t
    unfold rFabCsetW2
    omega
  unfold State.setGroup
  extract_lets old par t u v
  refine (State.outside_setFld f _ _ _ _ (.inr (.inl (by decide)))).trans ?_
  refine (State.outside_setFld f _ _ _ _ (.inr (.inl ?_))).trans ((hbits true _ u).trans (hbits false _ t))
  unfold rFabCgCtrl
  omega

theorem State.outside_setGroupSt (s : State) (g v : Nat) : (s.setGroupSt g v).outside f = s.outside f := by
  refine s.outside_setFld f _ _ _ (.inr (.inl ?_))
  unfold rFabCgCtrl
  omega

theorem State.outside_unstage (s : State) (c q : Nat) : (s.unstage c q).outside f = s.outside f := by
  unfold State.unstage
  extract_lets par t
  refine (foldl_keeps _ _ (State.outside f) (fun u p => ?_) t).trans rfl
  split
  · extract_lets ms src v
    have hv : v.outside f = u.outside f := u.outside_setGroup f _ _
    clear_value v
    split
    · exact (v.outside_setGroupSt f _ _).trans hv
    · exact hv
  · rfl

theorem State.outside_withdrawSwap (s : State) (c q : Nat) : (s.withdrawSwap c q).outside f = s.outside f := by
  have hshow (t : State) (e k : Nat) (v : Bool) : (t.setBit (rEngProgCtrl e) k v).outside f = t.outside f := by
    refine t.outside_setBit f _ _ (.inr (.inl ?_))
    unfold rEngProgCtrl
    omega
  unfold State.withdrawSwap
  refine forN_keeps 32 _ (State.outside f) (fun e t => ?_) s
  unfold State.showSwaps
  extract_lets x
  rw [hshow, hshow]
  rfl

theorem State.outside_cancelCommit (s : State) (c q g : Nat) : (s.cancelCommit c q g).outside f = s.outside f := by
  unfold State.cancelCommit
  extract_lets t x
  have ht : t.outside f = s.outside f := by
    refine s.outside_setBit f _ _ (.inr (.inl ?_))
    unfold rFabCgStat
    omega
  clear_value t
  split
  · exact (t.outside_setGroup f _ _).trans ht
  · refine (State.outside_setResult f _ c q 0x02).trans ((State.outside_setGroupSt f _ _ _).trans ?_)
    exact (t.outside_setGroup f _ _).trans ht

theorem State.outside_cancelDesc (s : State) (c : Nat) (d : OpenDesc) : (s.cancelDesc c d).outside f = s.outside f := by
  unfold State.cancelDesc
  extract_lets q t mov u ngx v
  cases s.armedBy c q with
  | some g => exact s.outside_cancelCommit f c q g
  | none =>
    refine (State.outside_setResult f _ c q 0x02).trans ((v.outside_unstage f c q).trans ?_)
    change t.outside f = s.outside f
    unfold t
    split
    · exact s.outside_withdrawSwap f c q
    · rfl

theorem State.outside_failCoef (s : State) (c : Nat) (d : OpenDesc) : (s.failCoef c d).outside f = s.outside f := by
  unfold State.failCoef
  extract_lets n t
  change t.outside f = s.outside f
  unfold t
  split
  · rfl
  · refine (State.outside_setBit f _ _ _ (.inr (.inl ?_))).trans (s.outside_setFld f _ _ _ (.inr (.inl ?_)))
    · unfold rFabCsetW2
      omega
    · unfold rFabCsetW3
      omega

theorem State.outside_writeJournal (s : State) (c : Nat) : (s.writeJournal c).outside f = s.outside f := by
  have h := State.writeJournal_kept (M := { fab := true, ctx := true, ngx := true }) (c := c) rfl rfl rfl (Kept.refl s)
  exact State.outside_of_parts f (h.pcie rfl) (h.regs rfl)

theorem State.outside_flrDescs (s : State) (c : Nat) : (s.flrDescs c).outside f = s.outside f := by
  unfold State.flrDescs
  extract_lets t
  have ht : t.outside f = s.outside f := by
    refine foldl_keeps _ _ (State.outside f) (fun u d => ?_) s
    split
    · rfl
    split
    · exact u.outside_copyEnds f c _ _
    split
    · exact u.outside_failCoef f c d
    split
    · rfl
    split
    · rfl
    · rfl
  clear_value t
  refine (foldl_keeps _ _ (State.outside f) (fun u d => ?_) t).trans ht
  split
  · split
    · rfl
    · exact State.outside_writeJournal f _ c
  · rfl

end

/-! ### The reset of one function (R439, R440) -/

section
variable {f : Nat}

theorem State.funcOf_of_outside {s t : State} (h : t.outside f = s.outside f) {c : Nat} (hc : c < 512) :
    t.funcOf c = s.funcOf c :=
  congrFun (congrArg Outside.func h) ⟨c, hc⟩

theorem State.sriov_of_outside {s t : State} (h : t.outside f = s.outside f) :
    t.pcie.vfEn = s.pcie.vfEn ∧ t.pcie.numVfs = s.pcie.numVfs :=
  ⟨congrArg Outside.vfEn h, congrArg Outside.numVfs h⟩

theorem State.fn_of_outside {s t : State} (h : t.outside f = s.outside f) {g : Nat} (hg : g ≠ f) : t.fn g = s.fn g := by
  have hfn := congrFun (congrArg Outside.fn h) g
  simp only [State.outside, if_neg hg] at hfn
  exact hfn

@[simp] theorem State.fn_modFn_same (s : State) (g : Nat) (k : PcieFn → PcieFn) : (s.modFn g k).fn g = k (s.fn g) :=
  SMap.get_set_same ..

theorem State.fn_modFn_other (s : State) {g i : Nat} (hi : i ≠ g) (k : PcieFn → PcieFn) : (s.modFn g k).fn i = s.fn i :=
  SMap.get_set_other _ hi

theorem State.outside_modFn (s : State) (k : PcieFn → PcieFn) : (s.modFn f k).outside f = s.outside f := by
  have hfn : (fun g => if g = f then {} else (s.modFn f k).fn g) = fun g => if g = f then {} else s.fn g := by
    funext g
    by_cases hg : g = f
    · rw [if_pos hg, if_pos hg]
    · rw [if_neg hg, if_neg hg, s.fn_modFn_other hg]
  simp only [State.outside, hfn]
  rfl

theorem State.outside_setCtxState (s : State) (c v : Nat) : (s.setCtxState c v).outside f = s.outside f := by
  refine s.outside_setFld f _ _ _ (.inr (.inr ?_))
  unfold rCtxtStat
  omega

variable {c : Nat} (hc : c < 512)
include hc

theorem State.outside_maybeDisabled {s : State} (hfc : s.funcOf c = f) : (s.maybeDisabled c).outside f = s.outside f := by
  unfold State.maybeDisabled
  extract_lets x t g
  split
  · have ht : t.outside f = s.outside f := by
      refine (State.outside_setBit f _ _ _ (.inr (.inr ?_))).trans (s.outside_setCtxState c 0)
      unfold rCtxtStat
      omega
    have hg : g = f := (State.funcOf_of_outside ht hc).trans hfc
    clear_value g
    subst hg
    exact (t.outside_modFn _).trans ht
  · rfl

theorem State.outside_stopCtx {s : State} (hfc : s.funcOf c = f) : (s.stopCtx c).outside f = s.outside f := by
  unfold State.stopCtx
  extract_lets t u v
  split
  · rfl
  have hv : v.outside f = s.outside f := by
    have ht : t.outside f = s.outside f := s.outside_setCtxState c 2
    refine (foldl_keeps _ _ (State.outside f) (fun w d => ?_) u).trans ht
    split
    · rfl
    · exact w.outside_cancelDesc f c d
  exact (State.outside_maybeDisabled hc ((State.funcOf_of_outside hv hc).trans hfc)).trans hv

theorem State.outside_flrCtx {s : State} (hfc : s.funcOf c = f) : (s.flrCtx c).outside f = s.outside f := by
  unfold State.flrCtx
  extract_lets t u v w y z mov a
  have ht : t.outside f = s.outside f := State.outside_stopCtx (s := s.modContext c _) hc hfc
  have hu : u.outside f = s.outside f := by
    refine (forN_keeps 64 _ (State.outside f) (fun m b => ?_) t).trans ht
    cases SMap.get (fun _ => none) b.mov.movers m with
    | none => rfl
    | some j =>
      dsimp -zeta only
      extract_lets mine
      split
      · exact b.outside_failJob f m
      · rfl
  have hv : v.outside f = s.outside f := (u.outside_flrDescs f c).trans hu
  have hw : w.outside f = s.outside f := by
    refine (foldl_keeps _ _ (State.outside f) (fun b p => ?_) v).trans hv
    cases p.2 with
    | none => rfl
    | some x =>
      dsimp only
      split
      · exact b.outside_streamClose f _ _ _
      · rfl
  have hy : y.outside f = s.outside f := by
    refine (foldl_keeps _ _ (State.outside f) (fun b p => ?_) w).trans hw
    split
    · exact b.outside_unmapLine f _ _
    · rfl
  have ha : a.outside f = s.outside f := by
    clear_value y
    exact (State.outside_of_parts f rfl rfl).trans hy
  exact (State.outside_maybeDisabled hc ((State.funcOf_of_outside ha hc).trans hfc)).trans ha

end

/-- A reset up to its last context: the requests are withdrawn, the contexts stopped. -/
def State.flrWork (s : State) (f : Nat) : State :=
  let s := if f < 32 then s.setBit rTopPcieFlrLo f true else s.setBit rTopPcieFlrHi (f - 32) true
  let s := { s with fab := { s.fab with outq := s.fab.outq.filter fun r => r.tlp.func != f } }
  (s.ctxsOf f).foldl State.flrCtx s

/-- The function's requests, reads and table entries are gone. -/
def State.fnCleared (s : State) (f : Nat) : State :=
  { s with
    fab := { s.fab with outq := s.fab.outq.filter fun r => r.tlp.func != f }
    pcie := { s.pcie with
      msix := SMap.keep (fun k => k / 1024 != f) s.pcie.msix
      outst := s.pcie.outst.filter fun o => o.func != f } }

theorem State.outside_fnCleared (s : State) (f : Nat) : (s.fnCleared f).outside f = s.outside f := rfl

/-- What an FLR leaves of a function's configuration: the error records, and whether a transaction is pending. -/
def PcieFn.afterReset (x : PcieFn) (busy : Bool) : PcieFn := { cor := x.cor, uncor := x.uncor, pendTx := busy }

theorem State.flr_eq (s : State) (f : Nat) : ∃ busy, s.flr f = ((s.flrWork f).modFn f fun _ =>
    ((s.flrWork f).fn f).afterReset busy).fnCleared f := by
  unfold State.flr
  extract_lets t fab u v old busy w
  have hwork : s.flrWork f = v := rfl
  refine ⟨busy, ?_⟩
  rw [hwork]
  clear_value v busy
  rfl

theorem State.outside_flrWork (s : State) (f : Nat) : (s.flrWork f).outside f = s.outside f := by
  unfold State.flrWork
  extract_lets t fab u
  have hu : u.outside f = s.outside f := by
    change t.outside f = s.outside f
    unfold t
    split
    · exact s.outside_setBit f _ _ (.inl (by decide))
    · exact s.outside_setBit f _ _ (.inl (by decide))
  clear_value u
  refine List.foldlRecOn (motive := fun b : State => b.outside f = s.outside f) (u.ctxsOf f) State.flrCtx hu fun b hb c hmem => ?_
  obtain ⟨hc, hfc⟩ := List.mem_filter.mp hmem
  have hc : c < 512 := List.mem_range.mp hc
  have hfc : s.funcOf c = f := (State.funcOf_of_outside hu hc).symm.trans (by simpa using hfc)
  exact (State.outside_flrCtx hc ((State.funcOf_of_outside hb hc).trans hfc)).trans hb

/-- A reset leaves everything outside its function alone. -/
theorem State.outside_flr (s : State) (f : Nat) : (s.flr f).outside f = s.outside f := by
  obtain ⟨busy, h⟩ := s.flr_eq f
  rw [h, State.outside_fnCleared, State.outside_modFn, State.outside_flrWork]

theorem State.fn_flr_other (s : State) {f g : Nat} (hg : g ≠ f) : (s.flr f).fn g = s.fn g :=
  State.fn_of_outside (s.outside_flr f) hg

/-- A reset function may neither send nor be written, its table is empty, and it waits for no read. -/
theorem State.flr_fields (s : State) (f : Nat) : ((s.flr f).fn f).bme = false ∧ ((s.flr f).fn f).msixEn = false ∧
    ((s.flr f).fn f).mse = false ∧ (∀ n < 1024, (s.flr f).msixEntry f n = {}) ∧ ∀ o ∈ (s.flr f).pcie.outst, o.func ≠ f := by
  obtain ⟨busy, h⟩ := s.flr_eq f
  rw [h]
  generalize s.flrWork f = t
  have hfn (k : PcieFn → PcieFn) : ((t.modFn f k).fnCleared f).fn f = k (t.fn f) := t.fn_modFn_same f k
  rw [hfn]
  refine ⟨rfl, rfl, rfl, fun n hn => ?_, fun o ho => by simpa using (List.mem_filter.mp ho).2⟩
  have hkey : (1024 * f + n) / 1024 = f := by omega
  exact (SMap.get_keep _ _ _).trans (if_neg (by simp [hkey]))

theorem State.sriov_flr (s : State) (f : Nat) : (s.flr f).pcie.vfEn = s.pcie.vfEn ∧ (s.flr f).pcie.numVfs = s.pcie.numVfs :=
  State.sriov_of_outside (s.outside_flr f)

/-- Once reset, a function's bus mastering stays off while others are reset. -/
theorem State.bme_flr {s : State} {g : Nat} (h : (s.fn g).bme = false) (f : Nat) : ((s.flr f).fn g).bme = false := by
  by_cases hg : g = f
  · subst hg
    exact (s.flr_fields g).1
  · rw [s.fn_flr_other hg, h]

theorem State.bme_flrs {l : List Nat} {g : Nat} (hg : g ∈ l) (s : State) : ((l.foldl State.flr s).fn g).bme = false := by
  induction l generalizing s with
  | nil => cases hg
  | cons f l ih =>
    rw [List.foldl_cons]
    rcases List.mem_cons.mp hg with rfl | hmem
    · exact List.foldlRecOn (motive := fun t : State => (t.fn g).bme = false) l State.flr (s.flr_fields g).1
        fun _ ht f _ => State.bme_flr ht f
    · exact ih hmem _

/-! ### Resets of the whole endpoint (R432, R441) -/

/-- What the writes of a reset of the PF leave: SR-IOV off, the link to be trained again. -/
theorem State.pfFlr_fields (s : State) : s.pfFlr.pcie.vfEn = false ∧ s.pfFlr.pcie.numVfs = 0 ∧ (s.pfFlr.fn 0).bme = false ∧
    s.pfFlr.pcie.trained = false := by
  unfold State.pfFlr
  extract_lets vfs t u
  have hbme : (u.fn 0).bme = false := (t.flr_fields 0).1
  clear_value u
  exact ⟨rfl, rfl, hbme, rfl⟩

theorem State.linkDown_fields (s : State) : s.linkDown.reg rTopPcieStat = 0 ∧ s.linkDown.pcie.outst = [] ∧
    s.linkDown.fab.outq = [] ∧ s.linkDown.pcie.vfEn = false := by
  have hfns (g : Nat → PcieFn → PcieFn) (t : State) : (forN 64 (fun f t => t.modFn f (g f)) t).regs = t.regs ∧
      (forN 64 (fun f t => t.modFn f (g f)) t).pcie.vfEn = t.pcie.vfEn :=
    ⟨forN_keeps 64 (fun f t => State.modFn t f (g f)) State.regs (fun _ _ => rfl) t,
      forN_keeps 64 (fun f t => State.modFn t f (g f)) (fun u => u.pcie.vfEn) (fun _ _ => rfl) t⟩
  unfold State.linkDown
  extract_lets t u v
  have ht : t.pcie.vfEn = false := s.pfFlr_fields.1
  clear_value t
  obtain ⟨hregs, hvf⟩ : v.regs = u.regs ∧ v.pcie.vfEn = u.pcie.vfEn := hfns _ u
  clear_value v
  refine ⟨?_, rfl, rfl, hvf.trans ht⟩
  change SMap.get regReset v.regs rTopPcieStat = 0
  rw [hregs]
  exact t.reg_setReg_same _ _

/-- The link has gone down, and an event says so. -/
theorem State.linkDown_reported (s : State) {k : Nat} (hk : k < 32) : let t := s.linkDown.setBit rTopPcieEvt k true
    t.reg rTopPcieStat = 0 ∧ t.rbit rTopPcieEvt k = true ∧ t.pcie.outst = [] ∧ t.fab.outq = [] ∧ t.pcie.vfEn = false := by
  obtain ⟨hstat, hreads, hout, hvf⟩ := s.linkDown_fields
  generalize s.linkDown = t at hstat hreads hout hvf ⊢
  exact ⟨(t.reg_setReg_other _ (by decide)).trans hstat, t.rbit_setBit_same _ _ _ hk, hreads, hout, hvf⟩

/-! ### SR-IOV (R429) -/

theorem exec_vfEnableClear {s : State} (h : s.rbit rTopPcieStat 16 = false) (ctl num : BitVec 16) :
    ∃ t, exec (.vfEnableClear ctl num) s = .next t ∧ t.pcie.vfEn = bit ctl 0 ∧ t.pcie.vfMse = bit ctl 3 ∧
      (t.pcie.numVfs = if s.pcie.vfEn = true then s.pcie.numVfs else min 63 num.toNat) ∧
      (s.pcie.vfEn = true → bit ctl 0 = false → ∀ f, 1 ≤ f → f ≤ s.pcie.numVfs → (t.fn f).bme = false) := by
  change ∃ t, execVfEnableClear ctl num s = .next t ∧ _
  unfold execVfEnableClear
  extract_lets vfs t n
  obtain ⟨hen, hnum⟩ : t.pcie.vfEn = s.pcie.vfEn ∧ t.pcie.numVfs = s.pcie.numVfs :=
    List.foldlRecOn (motive := fun u : State => u.pcie.vfEn = s.pcie.vfEn ∧ u.pcie.numVfs = s.pcie.numVfs) vfs State.flr
      ⟨rfl, rfl⟩ fun u hu f _ => ⟨(u.sriov_flr f).1.trans hu.1, (u.sriov_flr f).2.trans hu.2⟩
  have hbme (f : Nat) (hf : f ∈ vfs) : (t.fn f).bme = false := State.bme_flrs hf s
  rw [if_neg (by simp [h])]
  clear_value t
  refine ⟨_, rfl, rfl, rfl, ?_, fun hvf hoff f h1 hle => hbme f ?_⟩
  · change n = _
    unfold n
    rw [hen, hnum]
  · unfold vfs
    rw [if_pos (by simp [hvf, hoff])]
    exact List.mem_map.mpr ⟨f - 1, List.mem_range.mpr (by omega), by omega⟩

/-! ### MSI-X (R435) -/

theorem State.msixEntry_setMsix_same (s : State) (f n : Nat) (e : Msix) : (s.setMsix f n e).msixEntry f n = e :=
  SMap.get_set_same ..

theorem State.msixEntry_setMsix_other (s : State) (f : Nat) {n k : Nat} (h : k ≠ n) (e : Msix) :
    (s.setMsix f n e).msixEntry f k = s.msixEntry f k :=
  SMap.get_set_other _ (by omega)

/-- One entry in its turn: a pending entry that no mask holds back sends its message. -/
def State.msixTurn (f n : Nat) (s : State) : State :=
  let e := s.msixEntry f n
  if e.pend && !e.mask then (s.setMsix f n { e with pend := false }).offer 3 96 (.msix f e.addr e.data) else s

theorem State.msixFlush_eq (s : State) (f : Nat) : s.msixFlush f =
    if !(s.fn f).msixEn || (s.fn f).fmask then s else forN (msixSize f) (State.msixTurn f) s := rfl

theorem State.msixEntry_msixTurn_other (s : State) (f : Nat) {n k : Nat} (h : k ≠ n) :
    (s.msixTurn f n).msixEntry f k = s.msixEntry f k := by
  unfold State.msixTurn
  extract_lets e
  split
  · exact s.msixEntry_setMsix_other f h _
  · rfl

/-- A turn never takes a request back. -/
theorem State.outq_msixTurn (s : State) (f n : Nat) {r : OutReq} (h : r ∈ s.fab.outq) : r ∈ (s.msixTurn f n).fab.outq := by
  unfold State.msixTurn
  extract_lets e
  split
  · exact List.mem_append_left _ h
  · exact h

/-- The entry's own turn: its message is sent, once. -/
theorem State.msixTurn_own {s : State} {f n : Nat} (hpend : (s.msixEntry f n).pend = true)
    (hmask : (s.msixEntry f n).mask = false) : ((s.msixTurn f n).msixEntry f n).pend = false ∧
      ∃ r ∈ (s.msixTurn f n).fab.outq, r.tlp = .msix f (s.msixEntry f n).addr (s.msixEntry f n).data := by
  unfold State.msixTurn
  rw [if_pos (by simp [hpend, hmask])]
  refine ⟨?_, _, List.mem_append_right _ (List.mem_singleton.mpr rfl), rfl⟩
  exact congrArg Msix.pend (s.msixEntry_setMsix_same f n _)

theorem State.msixTurns_masked {s : State} {f n : Nat} (hmask : (s.msixEntry f n).mask = true) (m : Nat) :
    (forN m (State.msixTurn f) s).msixEntry f n = s.msixEntry f n := by
  refine forN_inv m _ (fun t : State => t.msixEntry f n = s.msixEntry f n) (fun i t ht => ?_) s rfl
  by_cases hi : i = n
  · subst hi
    unfold State.msixTurn
    rw [if_neg (by simp [ht, hmask])]
    exact ht
  · exact (t.msixEntry_msixTurn_other f (Ne.symm hi)).trans ht

theorem State.msixTurns_before (s : State) {f n m : Nat} (h : m ≤ n) :
    (forN m (State.msixTurn f) s).msixEntry f n = s.msixEntry f n := by
  induction m with
  | zero => rfl
  | succ m ih => rw [forN_succ, State.msixEntry_msixTurn_other _ f (by omega), ih (by omega)]

theorem State.msixTurns_after {s : State} {f n m : Nat} (hpend : (s.msixEntry f n).pend = true)
    (hmask : (s.msixEntry f n).mask = false) (h : n < m) :
    ((forN m (State.msixTurn f) s).msixEntry f n).pend = false ∧
      ∃ r ∈ (forN m (State.msixTurn f) s).fab.outq, r.tlp = .msix f (s.msixEntry f n).addr (s.msixEntry f n).data := by
  induction m with
  | zero => omega
  | succ m ih =>
    rw [forN_succ]
    rcases Nat.lt_succ_iff_lt_or_eq.mp h with hlt | rfl
    · obtain ⟨hoff, r, hr, htlp⟩ := ih hlt
      rw [State.msixEntry_msixTurn_other _ f (by omega)]
      exact ⟨hoff, r, State.outq_msixTurn _ f m hr, htlp⟩
    · have hown := s.msixTurns_before (f := f) (Nat.le_refl n)
      rw [← hown] at hpend hmask ⊢
      exact State.msixTurn_own hpend hmask

/-- What a write to entry `n` puts into it. -/
def Msix.written (e : Msix) (addr : BitVec 64) (data ctl : BitVec 32) : Msix :=
  { e with addr := addr.toNat / 4 * 4, data := data, mask := bit ctl 0 }

theorem exec_msixUnmask_entry {s : State} {f : Fin 64} {n : Fin 1024} (h : n.val < msixSize f.val) (addr : BitVec 64)
    (data ctl : BitVec 32) : exec (.msixUnmask f (some n) addr data ctl) s =
      .next ((s.setMsix f.val n.val ((s.msixEntry f.val n.val).written addr data ctl)).msixFlush f.val) :=
  if_neg (by omega)

theorem State.msixFlush_masked {s : State} {f n : Nat} (hmask : (s.msixEntry f n).mask = true) :
    (s.msixFlush f).msixEntry f n = s.msixEntry f n := by
  rw [State.msixFlush_eq]
  split
  · rfl
  · exact State.msixTurns_masked hmask _

theorem State.msixFlush_sent {s : State} {f n : Nat} (hen : (s.fn f).msixEn = true) (hfm : (s.fn f).fmask = false)
    (hn : n < msixSize f) (hpend : (s.msixEntry f n).pend = true) (hmask : (s.msixEntry f n).mask = false) :
    ((s.msixFlush f).msixEntry f n).pend = false ∧
      ∃ r ∈ (s.msixFlush f).fab.outq, r.tlp = .msix f (s.msixEntry f n).addr (s.msixEntry f n).data := by
  rw [State.msixFlush_eq, if_neg (by simp [hen, hfm])]
  exact State.msixTurns_after hpend hmask hn

theorem State.msixFlush_disabled {s : State} {f : Nat} (h : (s.fn f).msixEn = false) : s.msixFlush f = s := by
  rw [State.msixFlush_eq, if_pos (by simp [h])]

/-! ### The settlement -/

theorem State.uncor_aer (s : State) (f : Nat) {b : Nat} (hb : b < 32) : ((s.aer f b).fn f).uncor.getLsbD b = true := by
  rw [State.aer, State.fn_modFn_same]
  simp [hb]

theorem exec_flr_absent {f : Fin 64} {s : State} (h : s.fnEnabled f.val = false) (dc dc2 lc : BitVec 16) :
    exec (.flr f dc dc2 lc) s = .next (s.aer 0 aerUnsupported) := if_pos (by simp [h])

theorem exec_flr_vf {f : Fin 64} {s : State} (h0 : f.val ≠ 0) (h : s.fnEnabled f.val = true) (dc dc2 lc : BitVec 16) :
    exec (.flr f dc dc2 lc) s = .next (if bit dc 15 then s.flr f.val else s) := by
  refine (if_neg (by simp [h])).trans ?_
  dsimp only
  rw [if_neg h0, if_neg h0]
  cases bit dc 15
  · rfl
  · rfl

/-- Settles O36, by what the work of a function's reset leaves alone. -/
theorem pcieFunctions : Obligations.PcieFunctions := by
  intro s
  refine ⟨fun f dc dc2 lc => ⟨fun h => ?absent, fun h0 h => ⟨fun hb => ?noFlr, fun hb => ?flr⟩⟩, ?pfFlr,
    fun ctl num => ⟨fun h => if_pos h, fun h => exec_vfEnableClear h ctl num⟩, ?hot, ?down, fun v => ?power,
    fun f v => ⟨fun h => ?command, fun h => if_pos (by simp [h])⟩,
    fun f n addr data ctl => ⟨fun h => if_pos h, fun hn hb => ?masked, fun hn hb hen hfm hpend => ?sent⟩,
    fun f addr data ctl hb => ?control⟩
  case absent => exact ⟨_, exec_flr_absent h dc dc2 lc, s.uncor_aer 0 (by decide), rfl⟩
  case noFlr => rw [exec_flr_vf h0 h, if_neg (by simp [hb])]
  case flr =>
    obtain ⟨hbme, hen, hmse, htable, hreads⟩ := s.flr_fields f.val
    refine ⟨s.flr f.val, ?_, hbme, hen, hmse, htable, hreads, fun g hg => s.fn_flr_other hg⟩
    rw [exec_flr_vf h0 h, if_pos hb]
  case pfFlr => exact ⟨_, rfl, s.pfFlr_fields⟩
  case hot => exact ⟨_, rfl, s.linkDown_reported (by decide)⟩
  case down => exact ⟨_, rfl, s.linkDown_reported (by decide)⟩
  case power =>
    have hfn := s.fn_modFn_same 0 fun x => { x with d3 := if fld v 0 2 = 3 then true else if fld v 0 2 = 0 then false else x.d3 }
    exact ⟨_, rfl, rfl, rfl, congrArg PcieFn.d3 hfn, rfl⟩
  case command => exact ⟨_, if_neg (by simp [h]), s.fn_modFn_same _ _, fun g hg => s.fn_modFn_other hg _⟩
  case masked =>
    refine ⟨_, exec_msixUnmask_entry hn addr data ctl, ?_⟩
    have hset := s.msixEntry_setMsix_same f.val n.val ((s.msixEntry f.val n.val).written addr data ctl)
    rw [State.msixFlush_masked (by rw [hset]; exact hb), hset, Msix.written, hb]
  case sent =>
    have hset := s.msixEntry_setMsix_same f.val n.val ((s.msixEntry f.val n.val).written addr data ctl)
    have h := State.msixFlush_sent (s := s.setMsix f.val n.val ((s.msixEntry f.val n.val).written addr data ctl)) hen hfm hn
      (by rw [hset]; exact hpend) (by rw [hset]; exact hb)
    rw [hset] at h
    exact ⟨_, exec_msixUnmask_entry hn addr data ctl, h⟩
  case control =>
    have hfn := s.fn_modFn_same f.val fun x => { x with msixEn := bit ctl 15, fmask := bit ctl 14 }
    refine ⟨_, congrArg Host.Outcome.next (State.msixFlush_disabled (by rw [hfn]; exact hb)), ?_⟩
    rw [hfn, hb]

end Sys2Proof.Machine
